-- ==== Sys2Proof/Word.lean ====
section
/-! DEFINITION. The word types of the KL6420 and their plainest arithmetic (00_scope.md R8, R9, R11). -/

namespace Sys2Proof

/-- A byte of memory or of a message. -/
abbrev Byte := BitVec 8

/-- A 32-bit register, memory word, angle word or general register. -/
abbrev Word := BitVec 32

/-- An instant of the engine time counter ETC, in ticks of 125 ps (R9). It is 64 bits wide and does
not wrap within the service life, so the model counts it as a natural number (DESIGN CHOICE, log 1). -/
abbrev Tick := Nat

/-- Ticks in a nanosecond. -/
def ticksPerNs : Nat := 8

/-- Ticks in a microsecond (00_scope.md, Time). -/
def ticksPerUs : Nat := 8000

/-- Ticks in a millisecond. -/
def ticksPerMs : Nat := 8000000

/-- Ticks in a second. -/
def ticksPerS : Nat := 8000000000

end Sys2Proof
end

