-- ==== Sys2Proof/Machine/Bits.lean ====
section
/-! DEFINITION. Bit fields, byte orders, saturating counts, two's complement and the two cyclic redundancy
checks: the helpers every block uses. -/

namespace Sys2Proof.Machine

/-- The `n` bits of `w` from bit `lo`. -/
def bits (w lo n : Nat) : Nat := w / 2 ^ lo % 2 ^ n

/-- Bit `i` of `w`. -/
def bitAt (w i : Nat) : Bool := w / 2 ^ i % 2 == 1

/-- A flag at bit `i`. -/
def flagAt (b : Bool) (i : Nat) : Nat := if b then 2 ^ i else 0

/-- A saturating increment: the count stops at `m` (R450). -/
def satInc (m n : Nat) : Nat := if n < m then n + 1 else n

/-- A saturating value. -/
def sat (m n : Nat) : Nat := if n < m then n else m

/-- An increment wrapping modulo 2^w (R450). -/
def wrapInc (w n : Nat) : Nat := (n + 1) % 2 ^ w

/-- The two's complement code of `i` in `w` bits. -/
def twos (w : Nat) (i : Int) : Nat := (i % (2 ^ w : Nat)).toNat

/-- The value of a two's complement code of `w` bits. -/
def signed (w n : Nat) : Int := if n < 2 ^ (w - 1) then (n : Int) else (n : Int) - (2 ^ w : Nat)

/-- A value held within limits. -/
def clampInt (lo hi i : Int) : Int := if i < lo then lo else if hi < i then hi else i

/-- A value held within limits. -/
def clampNat (lo hi n : Nat) : Nat := if n < lo then lo else if hi < n then hi else n

/-- The `n` little-endian bytes of `v` (R8). -/
def leBytes : Nat → Nat → List Byte
  | 0, _ => []
  | n + 1, v => BitVec.ofNat 8 v :: leBytes n (v / 256)

/-- The number little-endian bytes spell (R8). -/
def leNat : List Byte → Nat
  | [] => 0
  | b :: r => b.toNat + 256 * leNat r

/-- The `n` big-endian bytes of `v`: the order of the named standards (R8). -/
def beBytes (n v : Nat) : List Byte := (leBytes n v).reverse

/-- The number big-endian bytes spell. -/
def beNat (b : List Byte) : Nat := leNat b.reverse

/-- `n` bytes from offset `a` of a byte string. -/
def slice (b : List Byte) (a n : Nat) : List Byte := (b.drop a).take n

/-- The little-endian field of `n` bytes at offset `a`. -/
def leAt (b : List Byte) (a n : Nat) : Nat := leNat (slice b a n)

/-- `n` zero bytes. -/
def zeros (n : Nat) : List Byte := List.replicate n 0

/-- A byte string brought to exactly `n` bytes with zero bytes. -/
def padTo (n : Nat) (b : List Byte) : List Byte := (b ++ zeros n).take n

/-- Every byte is zero. -/
def allZero (b : List Byte) : Bool := b.all (fun x => x == 0)

/-- One byte into CRC-16 with polynomial 0x1021, no reflection (R446). -/
def crc16Step : Nat → Nat → Nat
  | 0, c => c
  | n + 1, c => crc16Step n (if bitAt c 15 then ((c * 2) % 65536) ^^^ 0x1021 else (c * 2) % 65536)

/-- CRC-16 of R446: initial value 0xFFFF, no final XOR. -/
def crc16 (b : List Byte) : Nat := b.foldl (fun c x => crc16Step 8 (c ^^^ (x.toNat * 256))) 0xFFFF

/-- One byte into the reflected CRC-32 with polynomial 0xEDB88320. -/
def crc32Step : Nat → Nat → Nat
  | 0, c => c
  | n + 1, c => crc32Step n (if bitAt c 0 then (c / 2) ^^^ 0xEDB88320 else c / 2)

/-- CRC-32 of R112: initial value and final XOR 0xFFFFFFFF. -/
def crc32 (b : List Byte) : Nat :=
  (b.foldl (fun c x => crc32Step 8 (c ^^^ x.toNat)) 0xFFFFFFFF) ^^^ 0xFFFFFFFF

end Sys2Proof.Machine
end

