-- ==== Sys2Proof/Syntax.lean ====
section
/-! DEFINITION. The commands of the block: one constructor for each row of spec/opcode_table.json,
with its operands. Every command begins with `t`, the ETC instant at which it happens (DESIGN CHOICE, log 1). -/

namespace Sys2Proof

/-- A host link, with the link IDs of R87: SPI 0, CAN0 1, CAN1 2. -/
inductive Link where
  | spi | can0 | can1
  deriving DecidableEq, Repr

/-- The requesters of R9: each has snapshot registers of its own. -/
inductive Requester where
  | host
  | ctx (q : Fin 16) (p : Fin 8)
  | dma (c : Fin 16)
  | core
  deriving DecidableEq, Repr

/-- The two supply inputs (R42). -/
inductive SupplyInput where
  | vmain | vbak
  deriving DecidableEq, Repr

/-- The four thresholds of R43 an input can cross, in either direction. -/
inductive Threshold where
  | uvFalling | uvRising | ovRising | ovFalling
  deriving DecidableEq, Repr

/-- A sensor supply (R57, R63). -/
inductive SensorRail where
  | vsw (n : Fin 8) | va5
  deriving DecidableEq, Repr

/-- A measured temperature domain (R73). -/
inductive ThermalDomain where
  | bank (b : Fin 8) | charger (k : Fin 4)
  deriving DecidableEq, Repr

/-- What a read of an ECC-protected word finds. -/
inductive Ecc where
  | clean | corrected | uncorrectable
  deriving DecidableEq, Repr

/-- Where an uncorrectable error of the event table lies (R247). -/
inductive EccPart where
  | word (w : Fin 4) | nearStore | edgeUnit
  deriving DecidableEq, Repr

/-- The regions a scrubber reads (R429). -/
inductive ScrubRegion where
  | program | data | capture | eventTable | dropRing | nearStore | envelope | config | collector
  deriving DecidableEq, Repr

/-- The sense-chain items of R433. -/
inductive SenseItem where
  | inputStage | current (k : Fin 64) | digitiser (b : Fin 8) | kettle (k : Fin 4)
  deriving DecidableEq, Repr

/-- What a retention refresh read of one Caddy block finds (R438, R439): the highest count of corrected
bits in any 64-byte ECC unit, or an uncorrectable block. -/
inductive BlockRead where
  | bits (n : Nat) | uncorrectable
  deriving DecidableEq, Repr

/-- The value an immediate EB write names (R378). -/
inductive EbValue where
  | per | cmp
  deriving DecidableEq, Repr

/-- An interrupt target (R401). -/
inductive IrqTarget where
  | host | mgmt
  deriving DecidableEq, Repr

/-- Where an Ohmac frame comes from: the frame held from the SPI transmit buffer, or a CAN frame with
its format, identifier and data field (R128, R129). -/
inductive FrameSource where
  | mailbox
  | can (second : Bool) (fd : Bool) (extended : Bool) (ident : Nat) (data : List Byte)
  deriving DecidableEq, Repr

/-- A trip input seen at its active level, and for how many ns without interruption (R381). -/
structure TripLevel where
  j : Fin 4
  held : Nat
  deriving DecidableEq, Repr

/-- The measurements behind an on-state check (R363): channel current in 10 mA, its rise within the last
500 ns and the feed mismatch in 10 mA, the pin voltages in 10 mV, and how long in ns without interruption the mismatch
has held, V_H has been on its side of 6.0 V and V_L on its side of 1.5 V. -/
structure OnStateMeas where
  current : Nat
  rise500 : Nat
  mismatch : Nat
  heldNs : Nat
  vh : Nat
  vl : Nat
  vhNs : Nat
  vlNs : Nat
  deriving DecidableEq, Repr

/-- What the surroundings measured for one telemetry batch (R441): supplies and hold-up store in 10 mV,
temperatures in degrees C (8 banks, 4 chargers, core), RMS currents of the 64 channels in 10 mA, mean
closing delays of the 64 channels in 100 ns, the analogue inputs and VA5 in millivolts. Missing list entries read
zero. -/
structure TelemetryMeas where
  vmain : Nat
  vbak : Nat
  store : Nat
  temps : List Int
  rms : List Nat
  ain : List Nat
  va5 : Nat
  deriving DecidableEq, Repr

/-- What the surroundings decide about one step of the reset sequence (R458, R459): the failed self-test
bits, whether the key store authenticates (R78) and whether the retained wear store passes its check
(R437). -/
structure StepResult where
  failed : Byte
  keyStoreOk : Bool
  wearStoreOk : Bool
  deriving DecidableEq, Repr

/-- One issue of a sequencer: which sequencer issues, and what the ECC of its fetch and of its data
access finds (R263, R302). -/
structure Issue where
  sq : Fin 16
  fetch : Ecc
  data : Ecc
  deriving DecidableEq, Repr

/-- The commands. Angle-code rows carry the issue; message rows carry the link whose request in
processing reaches its action instant (R123). -/
inductive Instr where
  -- Wheel inputs, synchronisation and Lens (05, 06)
  | wheelCrossing (t : Tick) (n : Fin 8) (rising : Bool) (peakMv : Nat)
  | strainerAccept (t : Tick) (n : Fin 8)
  | pulseLongTimeout (t : Tick) (n : Fin 8)
  | secondaryPromotion (t : Tick)
  | virtualBoundary (t : Tick)
  | countHold (t : Tick)
  | toothOverdue (t : Tick)
  | speedRecompute (t : Tick)
  | stall (t : Tick)
  | anglePassed (t : Tick) (angle : Word)
  -- Event scheduler (07)
  | eventInsertion (t : Tick) (q : Fin 16) (p : Fin 8)
  | eventAimRequest (t : Tick) (q : Fin 16) (p : Fin 8)
  | eventCancelRequest (t : Tick) (q : Fin 16) (p : Fin 8)
  | commit (t : Tick) (slot : Fin 8192) (armAt : Tick)
  | eventTableEccError (t : Tick) (slot : Fin 8192) (part : EccPart)
  -- Actuator drive (10)
  | profileStart (t : Tick) (k : Fin 64)
  | regulatorSwitch (t : Tick) (k : Fin 64) (current : Nat)
  | peakEnd (t : Tick) (k : Fin 64) (current energyUj : Nat)
  | peakTimeout (t : Tick) (k : Fin 64) (current energyUj : Nat)
  | transitionEnd (t : Tick) (k : Fin 64) (current : Nat)
  | ditherStep (t : Tick) (k : Fin 64)
  | turnOffInstant (t : Tick) (k : Fin 64) (current energyUj : Nat)
  | turnOffComplete (t : Tick) (k : Fin 64) (current : Nat)
  | channelOvercurrent (t : Tick) (k : Fin 64) (current : Nat)
  | bankOvercurrent (t : Tick) (b : Fin 8) (sum : Nat)
  | onMaxStop (t : Tick) (k : Fin 64)
  | onStateFault (t : Tick) (k : Fin 64) (m : OnStateMeas)
  | extensionWrite (t : Tick) (q : Fin 16) (k : Fin 64) (ext : Nat)
  | setpointWrite (t : Tick) (k : Fin 64) (value : Word)
  | kettleLevelChange (t : Tick) (k : Fin 4) (volt : Nat)
  | kettleChargeDeadline (t : Tick) (k : Fin 4)
  | kettleOvervoltage (t : Tick) (k : Fin 4) (volt : Nat)
  | kettleCapacitanceMeasure (t : Tick) (k : Fin 4) (microfarad : Nat)
  -- Closing detection and load diagnostics (11)
  | closingRecordWritten (t : Tick) (b : Fin 8)
  | captureEnd (t : Tick) (b : Fin 8)
  | offTestStart (t : Tick)
  | offTestComplete (t : Tick) (k : Fin 64) (samples : List (Nat × Nat))
  -- PWM units (12)
  | kcPeriodBoundary (t : Tick) (k : Fin 4) (per cmp : Nat)
  | kcTrigger (t : Tick) (k : Fin 4) (j : Fin 4) (code : BitVec 12)
  | ebPeriodBoundary (t : Tick) (n : Fin 8) (bootLow : Bool)
  | ebPerEvent (t : Tick) (n : Fin 8)
  | ebPhaseEdge (t : Tick) (n : Fin 8) (bootLow : Bool)
  | ebDeadTimeEnd (t : Tick) (n : Fin 8) (swung : Bool)
  | tripAccept (t : Tick) (n : Fin 8) (j : TripLevel)
  | blankingEnd (t : Tick) (n : Fin 8)
  | ebEnable (t : Tick) (n : Fin 8)
  | ebDisable (t : Tick) (n : Fin 8)
  | ebLoadArm (t : Tick) (n : Fin 8)
  | ebImmediateWrite (t : Tick) (n : Fin 8) (which : EbValue) (value : Word)
  | ebTripClear (t : Tick) (n : Fin 8)
  | pwmGlbLoad (t : Tick) (mask : Byte)
  | pwmGlbStart (t : Tick) (mask : Byte)
  -- Timers (12)
  | timerStart (t : Tick) (n : Fin 24)
  | timerStop (t : Tick) (n : Fin 24)
  | timerTargetWrite (t : Tick) (n : Fin 24) (target : Word)
  | timGlbStart (t : Tick) (mask : BitVec 24)
  | timerExpiry (t : Tick) (n : Fin 24)
  | captureEdge (t : Tick) (n : Fin 24) (stamp : Tick) (rising : Bool)
  -- Supplies, discretes, temperature (02)
  | supplyThresholdCrossing (t : Tick) (j : SupplyInput) (th : Threshold) (up : Bool) (millivolt : Nat)
  | supplyJudgement (t : Tick) (j : SupplyInput)
  | supplyDebounceExpiry (t : Tick)
  | holdupRecoveryExpiry (t : Tick)
  | holdupStoreExhausted (t : Tick)
  | enableChange (t : Tick) (on : Bool)
  | thermalThreshold (t : Tick) (d : ThermalDomain) (celsius : Int)
  | sensorSupplyFault (t : Tick) (r : SensorRail)
  -- Reference and reset (01, 15)
  | referenceLoss (t : Tick)
  | holdoverExpiry (t : Tick)
  | referenceReturn (t : Tick)
  | relockComplete (t : Tick)
  | referenceStarted (t : Tick)
  | resetNPulse (t : Tick) (lowNs : Nat)
  -- Trust (03)
  | claimNChange (t : Tick) (strapped : Bool)
  | challengeExpiry (t : Tick)
  | releaseReminder (t : Tick)
  | releaseCountdownExpiry (t : Tick)
  | entropyHealthFailure (t : Tick)
  | lockoutExpiry (t : Tick) (l : Link)
  | envelopeCopyError (t : Tick)
  | envelopeReloadComplete (t : Tick)
  | envelopeWriteComplete (t : Tick) (readBackOk : Bool)
  | configStoreComplete (t : Tick) (readBackOk : Bool)
  | caddyWriteComplete (t : Tick) (readBackOk : Bool)
  -- Links and sessions (04)
  | ohmacFrame (t : Tick) (src : FrameSource)
  | frameGapTimeout (t : Tick) (l : Link)
  | mbxSend (t : Tick) (len : Nat)
  | mbxRxDone (t : Tick)
  | mbxAbort (t : Tick)
  | canBusOff (t : Tick) (second : Bool)
  | sessionOpenTimeout (t : Tick) (l : Link)
  | sessionIdleTimeout (t : Tick) (l : Link)
  -- The command set (04): the request in processing on the link reaches its action instant
  | identity (t : Tick) (l : Link)
  | attest (t : Tick) (l : Link)
  | claim (t : Tick) (l : Link) (stored : Bool)
  | enrol (t : Tick) (l : Link) (stored : Bool)
  | revoke (t : Tick) (l : Link) (stored : Bool)
  | transfer (t : Tick) (l : Link) (stored : Bool)
  | decommission (t : Tick) (l : Link) (stored : Bool)
  | retire (t : Tick) (l : Link) (stored : Bool)
  | forceRelease (t : Tick) (l : Link)
  | envInstall (t : Tick) (l : Link)
  | open1 (t : Tick) (l : Link)
  | open3 (t : Tick) (l : Link)
  | close (t : Tick) (l : Link)
  | ping (t : Tick) (l : Link)
  | readRegs (t : Tick) (l : Link)
  | cycleRecord (t : Tick) (l : Link)
  | telemetry (t : Tick) (l : Link)
  | logRead (t : Tick) (l : Link)
  | targets (t : Tick) (l : Link)
  | cfgStage (t : Tick) (l : Link)
  | cfgCommit (t : Tick) (l : Link)
  | cfgDiscard (t : Tick) (l : Link)
  | cfgRead (t : Tick) (l : Link)
  | cfgStatus (t : Tick) (l : Link)
  | imgBegin (t : Tick) (l : Link)
  | imgData (t : Tick) (l : Link)
  | imgEnd (t : Tick) (l : Link)
  | imgSelect (t : Tick) (l : Link) (stored : Bool)
  | imgConfirm (t : Tick) (l : Link) (stored : Bool)
  | reset (t : Tick) (l : Link)
  | resetCommandDelayExpiry (t : Tick)
  | testShot (t : Tick) (l : Link)
  | diagRunOffTest (t : Tick) (l : Link)
  | diagRunClear (t : Tick) (l : Link)
  -- Angle code (08)
  | add (t : Tick) (j : Issue)
  | sub (t : Tick) (j : Issue)
  | addc (t : Tick) (j : Issue)
  | subc (t : Tick) (j : Issue)
  | and (t : Tick) (j : Issue)
  | or (t : Tick) (j : Issue)
  | xor (t : Tick) (j : Issue)
  | shl (t : Tick) (j : Issue)
  | shr (t : Tick) (j : Issue)
  | sar (t : Tick) (j : Issue)
  | mul (t : Tick) (j : Issue)
  | mulhu (t : Tick) (j : Issue)
  | mulhs (t : Tick) (j : Issue)
  | divu (t : Tick) (j : Issue)
  | remu (t : Tick) (j : Issue)
  | slt (t : Tick) (j : Issue)
  | sltu (t : Tick) (j : Issue)
  | adda (t : Tick) (j : Issue)
  | dista (t : Tick) (j : Issue)
  | addi (t : Tick) (j : Issue)
  | andi (t : Tick) (j : Issue)
  | ori (t : Tick) (j : Issue)
  | xori (t : Tick) (j : Issue)
  | shli (t : Tick) (j : Issue)
  | shri (t : Tick) (j : Issue)
  | sari (t : Tick) (j : Issue)
  | lui (t : Tick) (j : Issue)
  | ld (t : Tick) (j : Issue)
  | ldh (t : Tick) (j : Issue)
  | ldb (t : Tick) (j : Issue)
  | st (t : Tick) (j : Issue)
  | sth (t : Tick) (j : Issue)
  | stb (t : Tick) (j : Issue)
  | beq (t : Tick) (j : Issue)
  | bne (t : Tick) (j : Issue)
  | blt (t : Tick) (j : Issue)
  | bge (t : Tick) (j : Issue)
  | bltu (t : Tick) (j : Issue)
  | bgeu (t : Tick) (j : Issue)
  | bf (t : Tick) (j : Issue)
  | jmp (t : Tick) (j : Issue)
  | jal (t : Tick) (j : Issue)
  | jr (t : Tick) (j : Issue)
  | snap (t : Tick) (j : Issue)
  | rds (t : Tick) (j : Issue)
  | waita (t : Tick) (j : Issue)
  | waitt (t : Tick) (j : Issue)
  | waite (t : Tick) (j : Issue)
  | waittReached (t : Tick) (q : Fin 16) (p : Fin 8)
  | waitTimeout (t : Tick) (q : Fin 16) (p : Fin 8)
  | sched (t : Tick) (j : Issue)
  | aim (t : Tick) (j : Issue)
  | cancel (t : Tick) (j : Issue)
  | schedulerResult (t : Tick) (q : Fin 16) (p : Fin 8)
  | note (t : Tick) (j : Issue)
  | caprd (t : Tick) (j : Issue)
  | mbxrd (t : Tick) (j : Issue)
  | mbxcp (t : Tick) (j : Issue)
  | dmago (t : Tick) (j : Issue)
  | signal (t : Tick) (j : Issue)
  | yield (t : Tick) (j : Issue)
  | endTask (t : Tick) (j : Issue)
  | timeTrigger (t : Tick) (q : Fin 16) (p : Fin 8)
  | budgetExhausted (t : Tick) (q : Fin 16) (p : Fin 8)
  | dmaBurst (t : Tick) (c : Fin 16) (word : Fin 24) (ecc : Ecc)
  | dmaTransferComplete (t : Tick) (c : Fin 16)
  -- Interrupts and faults (13)
  | irqClaim (t : Tick) (g : IrqTarget) (src : Byte)
  | irqComplete (t : Tick) (g : IrqTarget) (src : Byte)
  | moderationHoldEnd (t : Tick)
  | graceDeadline (t : Tick)
  | faultAcknowledge (t : Tick) (w : Fin 3) (mask : Word)
  | watchdogService (t : Tick) (value : BitVec 16)
  | watchdogTimeout (t : Tick)
  | watchdogWarning (t : Tick)
  | handshakeStall (t : Tick)
  | mgmtCoreStall (t : Tick)
  -- Background services and the Mirror port (14)
  | scrubAccess (t : Tick) (g : ScrubRegion) (ecc : Ecc) (caddyOk : Bool)
  | rulerCalibration (t : Tick) (taps : BitVec 10) (halfPpm : Int)
  | senseCalibration (t : Tick) (item : SenseItem)
  | senseStale (t : Tick) (item : SenseItem)
  | retentionRefreshStep (t : Tick) (r : BlockRead)
  | telemetryBatch (t : Tick) (m : TelemetryMeas)
  | logbookFlush (t : Tick)
  | counterFrame (t : Tick)
  | mirrorFrameSent (t : Tick) (lane : Fin 2)
  -- Registers (00, 16)
  | snapshotRead (t : Tick) (r : Requester) (addr : BitVec 24)
  | lnsAngleRead (t : Tick) (r : Requester)
  | registerWrite (t : Tick) (r : Requester) (addr : BitVec 24) (value : Word)
  -- Power (15)
  | standbyRequest (t : Tick)
  | sleepRequest (t : Tick)
  | autoStandby (t : Tick)
  | autoSleep (t : Tick)
  | standbyWake (t : Tick)
  | sleepWake (t : Tick) (cause : Option (Fin 4))
  | lossReported (t : Tick)
  | holdupStoreCharged (t : Tick)
  | canBusOffRecovery (t : Tick) (second : Bool)
  | entropyHealthRecovery (t : Tick)
  | sensorSupplyRecovery (t : Tick) (r : SensorRail)
  | tripInputRelease (t : Tick) (j : Fin 4)
  | thermalDeratingChange (t : Tick) (k : Fin 4) (coldPlateTenths : Int)
  | digitiserSample (t : Tick) (b : Fin 8) (code : BitVec 12)
  | offTestNotRun (t : Tick) (k : Fin 64)
  | illegalInstruction (t : Tick) (j : Issue)
  | sleepEntryComplete (t : Tick)
  | resetStepComplete (t : Tick) (r : StepResult)
  | canFrameTransmitted (t : Tick) (second : Bool)
  deriving DecidableEq, Repr

end Sys2Proof
end

