-- ==== Sys2Proof/Decode.lean ====
section
/-! DEFINITION. Decoding. The rows of spec/opcode_table.json give no bits, so no word of the table spells a
command; the angle code's instruction words (08_angle_code_isa.md R261, R262, R264 to R284) are decoded and
encoded here. -/

namespace Sys2Proof

/-- The instructions of the angle code, by mnemonic. -/
inductive AOp where
  | add | sub | addc | subc | and | or | xor | shl | shr | sar | mul | mulhu | mulhs | divu | remu | slt | sltu
  | adda | dista | addi | andi | ori | xori | shli | shri | sari | lui | ld | ldh | ldb | st | sth | stb
  | beq | bne | blt | bge | bltu | bgeu | bf | jmp | jal | jr | snap | rds | waita | waitt | waite
  | sched | aim | cancel | note | caprd | mbxrd | mbxcp | dmago | signal | yield | endTask
  deriving DecidableEq, Repr

/-- The formats of R261. -/
inductive AFormat where
  | r | i | j | w
  deriving DecidableEq, Repr

/-- A decoded instruction: `d`, `a`, `b` are the register fields of its format (for J, `a` is A or COND), `imm`
is IMM18, OFF18 or IMM22. -/
structure AInstr where
  op : AOp
  d : Nat := 0
  a : Nat := 0
  b : Nat := 0
  imm : Nat := 0
  deriving DecidableEq, Repr

/-- The opcode of each instruction (R264 to R284). -/
def AOp.code : AOp → Nat
  | .add => 0x01 | .sub => 0x02 | .addc => 0x03 | .subc => 0x04 | .and => 0x05 | .or => 0x06 | .xor => 0x07
  | .shl => 0x08 | .shr => 0x09 | .sar => 0x0A | .mul => 0x0B | .mulhu => 0x0C | .mulhs => 0x0D
  | .divu => 0x0E | .remu => 0x0F | .slt => 0x10 | .sltu => 0x11 | .adda => 0x12 | .dista => 0x13
  | .addi => 0x14 | .andi => 0x15 | .ori => 0x16 | .xori => 0x17 | .shli => 0x18 | .shri => 0x19 | .sari => 0x1A
  | .lui => 0x1B | .ld => 0x1C | .ldh => 0x1D | .ldb => 0x1E | .st => 0x1F | .sth => 0x20 | .stb => 0x21
  | .beq => 0x24 | .bne => 0x25 | .blt => 0x26 | .bge => 0x27 | .bltu => 0x28 | .bgeu => 0x29 | .bf => 0x2A
  | .jmp => 0x2B | .jal => 0x2C | .jr => 0x2D | .snap => 0x30 | .rds => 0x31 | .waita => 0x32 | .waitt => 0x33
  | .waite => 0x34 | .sched => 0x35 | .aim => 0x36 | .cancel => 0x37 | .note => 0x38 | .caprd => 0x39
  | .mbxrd => 0x3A | .mbxcp => 0x3B | .dmago => 0x3C | .signal => 0x3D | .yield => 0x3E | .endTask => 0x3F

/-- The instruction of an opcode; 0x00, 0x22, 0x23, 0x2E and 0x2F are illegal (R262). -/
def opOfCode : Nat → Option AOp
  | 0x01 => some .add | 0x02 => some .sub | 0x03 => some .addc | 0x04 => some .subc | 0x05 => some .and
  | 0x06 => some .or | 0x07 => some .xor | 0x08 => some .shl | 0x09 => some .shr | 0x0A => some .sar
  | 0x0B => some .mul | 0x0C => some .mulhu | 0x0D => some .mulhs | 0x0E => some .divu | 0x0F => some .remu
  | 0x10 => some .slt | 0x11 => some .sltu | 0x12 => some .adda | 0x13 => some .dista | 0x14 => some .addi
  | 0x15 => some .andi | 0x16 => some .ori | 0x17 => some .xori | 0x18 => some .shli | 0x19 => some .shri
  | 0x1A => some .sari | 0x1B => some .lui | 0x1C => some .ld | 0x1D => some .ldh | 0x1E => some .ldb
  | 0x1F => some .st | 0x20 => some .sth | 0x21 => some .stb | 0x24 => some .beq | 0x25 => some .bne
  | 0x26 => some .blt | 0x27 => some .bge | 0x28 => some .bltu | 0x29 => some .bgeu | 0x2A => some .bf
  | 0x2B => some .jmp | 0x2C => some .jal | 0x2D => some .jr | 0x30 => some .snap | 0x31 => some .rds
  | 0x32 => some .waita | 0x33 => some .waitt | 0x34 => some .waite | 0x35 => some .sched | 0x36 => some .aim
  | 0x37 => some .cancel | 0x38 => some .note | 0x39 => some .caprd | 0x3A => some .mbxrd | 0x3B => some .mbxcp
  | 0x3C => some .dmago | 0x3D => some .signal | 0x3E => some .yield | 0x3F => some .endTask
  | _ => none

/-- The format of each instruction (R264 to R284). -/
def AOp.format : AOp → AFormat
  | .addi | .andi | .ori | .xori | .shli | .shri | .sari | .ld | .ldh | .ldb | .st | .sth | .stb
  | .rds | .caprd | .mbxrd | .dmago | .signal => .i
  | .beq | .bne | .blt | .bge | .bltu | .bgeu | .bf => .j
  | .lui | .jmp | .jal => .w
  | _ => .r

/-- What a row states of its register and immediate fields (R262, R264 to R284): bits it marks as zero and the
ranges it gives. -/
def AInstr.rowOk (x : AInstr) : Bool :=
  match x.op with
  | .shli | .shri | .sari => decide (x.imm < 32)
  | .bf => decide (x.a ≤ 5) && x.b == 0
  | .jmp | .jal => decide (x.imm < 65536)
  | .jr => x.d == 0 && x.b == 0
  | .snap | .yield | .endTask => x.d == 0 && x.a == 0 && x.b == 0
  | .rds => x.a == 0 && decide (x.imm ≤ 10)
  | .sched => decide (1 ≤ x.a ∧ x.a ≤ 13) && (x.d != x.b || x.d == 0 || x.b == 0)
  | .aim => decide (1 ≤ x.a ∧ x.a ≤ 13) && x.b == 0
  | .cancel => decide (1 ≤ x.a) && x.b == 0
  | .note => x.a == 0 && x.d != x.b
  | .caprd | .dmago => decide (x.imm ≤ 15)
  | .mbxrd => x.a == 0 && decide (x.imm ≤ 63)
  | .signal => x.d == 0 && decide (x.imm ≤ 1)
  | _ => true

/-- The fields of a word under a format; `none` where a bit the format marks as zero is set (R261, R262). -/
def fieldsOf (op : AOp) (w : Nat) : Option AInstr :=
  match op.format with
  | .r =>
    if Machine.bits w 0 14 = 0 then
      some { op := op, d := Machine.bits w 22 4, a := Machine.bits w 18 4, b := Machine.bits w 14 4 }
    else none
  | .i => some { op := op, d := Machine.bits w 22 4, a := Machine.bits w 18 4, imm := Machine.bits w 0 18 }
  | .j => some { op := op, a := Machine.bits w 22 4, b := Machine.bits w 18 4, imm := Machine.bits w 0 18 }
  | .w => some { op := op, d := Machine.bits w 22 4, imm := Machine.bits w 0 22 }

/-- Decode an instruction word; `none` for an illegal word (R262). -/
def decodeAngle (w : Word) : Option AInstr :=
  match opOfCode (Machine.bits w.toNat 26 6) with
  | none => none
  | some op =>
    match fieldsOf op w.toNat with
    | none => none
    | some x => if x.rowOk then some x else none

/-- A decoded instruction's fields lie within their widths and the ones its format lacks are zero. -/
def AInstr.wf (x : AInstr) : Bool :=
  x.rowOk && match x.op.format with
    | .r => decide (x.d < 16) && decide (x.a < 16) && decide (x.b < 16) && x.imm == 0
    | .i => decide (x.d < 16) && decide (x.a < 16) && x.b == 0 && decide (x.imm < 262144)
    | .j => x.d == 0 && decide (x.a < 16) && decide (x.b < 16) && decide (x.imm < 262144)
    | .w => decide (x.d < 16) && x.a == 0 && x.b == 0 && decide (x.imm < 4194304)

/-- The word of an instruction (R261). -/
def encodeAngle (x : AInstr) : Word :=
  let op := x.op.code * 2 ^ 26
  BitVec.ofNat 32 (match x.op.format with
    | .r => op + x.d * 2 ^ 22 + x.a * 2 ^ 18 + x.b * 2 ^ 14
    | .i => op + x.d * 2 ^ 22 + x.a * 2 ^ 18 + x.imm
    | .j => op + x.a * 2 ^ 22 + x.b * 2 ^ 18 + x.imm
    | .w => op + x.d * 2 ^ 22 + x.imm)

/-- The command a word spells by the table's bits: no row of the table gives bits, so none. -/
def decodeTableWord (_nbits _w : Nat) : Option Instr := none

end Sys2Proof
end

