-- ==== Sys2Proof/Machine/Flags.lean ====
section
/-! DEFINITION. The flags of the angle code's additive instructions (08_angle_code_isa.md R257, R264): C is the
carry out of the unsigned sum, 1 for a subtraction when no borrow occurs; V is set when the signed result does
not fit in 32 bits. -/

namespace Sys2Proof.Machine

/-- A 32-bit sum with its carry and overflow. -/
structure SumFlags where
  value : Word
  c : Bool
  v : Bool
  deriving DecidableEq, Repr

/-- A signed value fits in 32 bits. -/
def fits32 (i : Int) : Bool := decide (-(2147483648 : Int) ≤ i) && decide (i < 2147483648)

/-- gA + gB + carry-in, with C and V (R264: ADD, ADDC, ADDI). -/
def addFlags (a b : Word) (cin : Bool) : SumFlags :=
  let u := a.toNat + b.toNat + cin.toNat
  { value := BitVec.ofNat 32 u
    c := decide (4294967296 ≤ u)
    v := !fits32 (a.toInt + b.toInt + (cin.toNat : Int)) }

/-- gA - gB - borrow-in, with C and V (R264: SUB, SUBC); the borrow-in of SUBC is 1 - C. -/
def subFlags (a b : Word) (bin : Bool) : SumFlags :=
  { value := a - b - BitVec.ofNat 32 bin.toNat
    c := decide (b.toNat + bin.toNat ≤ a.toNat)
    v := !fits32 (a.toInt - b.toInt - (bin.toNat : Int)) }

end Sys2Proof.Machine
end

