-- ==== Sys2Proof/Config.lean ====
section
/-! DEFINITION. What the model leaves free or a named standard defines: uninterpreted constants, so that no
proof can see a value of them, and the fixed figures of the part. -/

namespace Sys2Proof.Config

/-- SHA-256 (FIPS 180-4, 00_scope.md Standards): uninterpreted (DESIGN CHOICE, log 3). -/
opaque sha256 : List Byte → BitVec 256

/-- HMAC-SHA-256 of a message under a key: uninterpreted (DESIGN CHOICE, log 3). -/
opaque hmacSha256 : List Byte → List Byte → BitVec 256

/-- Byte `i` of HKDF-SHA-256 with salt, input key material and info (RFC 5869): uninterpreted (DESIGN CHOICE, log 3). -/
opaque hkdfByte : List Byte → List Byte → List Byte → Nat → Byte

/-- ECDSA P-256 verification of a signature over SHA-256 of a message (R91): uninterpreted (DESIGN CHOICE, log 3). -/
opaque ecdsaVerify : BitVec 512 → List Byte → BitVec 512 → Bool

/-- The signature DIK makes over a message; the counter stands for the signature's nonce (R77, DESIGN CHOICE, log 3). -/
opaque dikSign : Nat → List Byte → BitVec 512

/-- The public half of ephemeral key number `n` (R87, DESIGN CHOICE, log 3). -/
opaque ephemeralPub : Nat → BitVec 512

/-- The ECDH secret of ephemeral key number `n` and a peer's public key (R87, DESIGN CHOICE, log 3). -/
opaque ecdhSecret : Nat → BitVec 512 → List Byte

/-- Byte `i` of the AES-256-GCM key stream of a key and a nonce (R88, DESIGN CHOICE, log 3). -/
opaque gcmStream : List Byte → List Byte → Nat → Byte

/-- The AES-256-GCM tag of key, nonce, additional data and ciphertext (R88, DESIGN CHOICE, log 3). -/
opaque gcmTag : List Byte → List Byte → List Byte → List Byte → BitVec 128

/-- Byte `n` of the entropy source's stream (R79): free (DESIGN CHOICE, log 3). -/
opaque entropyByte : Nat → Byte

/-- The public part of DIK (03, Keys): of this module, free (DESIGN CHOICE, log 3). -/
opaque dikPub : BitVec 512

/-- Serial number of this module (R93): free (DESIGN CHOICE, log 3). -/
opaque serial : Word

/-- Stontanan's signature over the device certificate (R93): free (DESIGN CHOICE, log 3). -/
opaque deviceSignature : BitVec 512

/-- The device sealing secret DSS (03, Keys): free, never readable (DESIGN CHOICE, log 3). -/
opaque dss : List Byte

/-- The nonce of the `n`-th sealed record of the key store (R78 does not state it): free (DESIGN CHOICE, log 92). -/
opaque sealNonce : Nat → List Byte

/-- The value TOKEN takes after an accepted watchdog service (R420 does not state it): free (DESIGN CHOICE, log 15). -/
opaque nextToken : Nat → BitVec 16

/-- The ticks from a commit inside a re-aim pass to the arming of its edge unit (R26 gives the bound, 1.5 microseconds,
alone): free (DESIGN CHOICE, log 94). -/
opaque armLatency : Nat → Nat

/-- The energy in microjoules a PEAK drew from its Kettle where the step that ends it carries no measurement
(R345): free (DESIGN CHOICE, log 4). -/
opaque peakEnergy : Nat → Nat

/-- What a drop record shows of a descriptor word lost to an uncorrectable error (R247 states it for CH
alone): free (DESIGN CHOICE, log 16). -/
opaque lostWord : Nat → Word

/-- A value the spec computes into a field too narrow for it, or does not state: free (DESIGN CHOICE, log 17). -/
opaque unstated : Nat → Word

/-- The power in mW a Kettle's bleed draws above 42 V, taken within 5 W ± 20 % (R488): the value is open
(DESIGN CHOICE, log 104). -/
opaque bleedMw : Nat → Nat

/-- The resistance in ohms of a Kettle's path below 42 V, taken within 10 kΩ ± 10 % (R488): the value is open
(DESIGN CHOICE, log 104). -/
opaque bleedOhm : Nat → Nat

/-- The bootstrap comparator of an EB unit at a phase that begins at an enable or an immediate write, where no row
reports it (R376): free (DESIGN CHOICE, log 48). -/
opaque bootstrapLow : Nat → Bool

/-- Rharno ROM version 3.2 (R472 `SYS_ID.ROM`, R102 MIN_ROM). -/
def romVersion : Nat := 0x0302

/-- Die revision (R472 `SYS_ID.DIE`). -/
def dieRevision : Nat := 1

end Sys2Proof.Config
end

