-- ==== Sys2Proof/Machine/Table.lean ====
section
/-! DEFINITION. Canonical finite maps: a list of (index, value) pairs with strictly rising indices and no
entry equal to the value an unlisted index holds, so that equal contents are equal data. -/

namespace Sys2Proof.Machine

/-- A canonical finite map. -/
abbrev Table (α : Type) := List (Nat × α)

/-- The value at index `i`; an unlisted index holds `d`. -/
def Table.get {α : Type} (d : α) : Table α → Nat → α
  | [], _ => d
  | (k, v) :: r, i => if k = i then v else Table.get d r i

/-- The entries of every index but `i`. -/
def Table.erase {α : Type} (i : Nat) : Table α → Table α
  | [] => []
  | (k, v) :: r => if k = i then Table.erase i r else (k, v) :: Table.erase i r

/-- The entry (i, v) put before the first greater index. -/
def Table.insert {α : Type} (i : Nat) (v : α) : Table α → Table α
  | [] => [(i, v)]
  | (k, w) :: r => if i < k then (i, v) :: (k, w) :: r else (k, w) :: Table.insert i v r

/-- Write `v` at index `i`; writing the unlisted value removes the entry. -/
def Table.set {α : Type} [DecidableEq α] (d : α) (m : Table α) (i : Nat) (v : α) : Table α :=
  if v = d then Table.erase i m else Table.insert i v (Table.erase i m)

/-- Change the value at index `i` by `f`. -/
def Table.modify {α : Type} [DecidableEq α] (d : α) (m : Table α) (i : Nat) (f : α → α) : Table α :=
  Table.set d m i (f (Table.get d m i))

/-- Change every listed value by `f`, which keeps the unlisted value. -/
def Table.mapAll {α : Type} [DecidableEq α] (d : α) (f : α → α) (m : Table α) : Table α :=
  (m.map (fun e => (e.1, f e.2))).filter (fun e => decide (e.2 ≠ d))

/-- Write consecutive values from index `a`. -/
def Table.setList {α : Type} [DecidableEq α] (d : α) (m : Table α) (a : Nat) : List α → Table α
  | [] => m
  | v :: r => Table.setList d (Table.set d m a v) (a + 1) r

/-- `n` consecutive values from index `a`. -/
def Table.getList {α : Type} (d : α) (m : Table α) (a : Nat) : Nat → List α
  | 0 => []
  | n + 1 => Table.get d m a :: Table.getList d m (a + 1) n

/-- Every index of the map lies above `k`. -/
def Table.above {α : Type} (k : Nat) (m : Table α) : Bool := m.all (fun e => k < e.1)

/-- The canonical form: strictly rising indices, no entry equal to the unlisted value. -/
def Table.wf {α : Type} [DecidableEq α] (d : α) : Table α → Bool
  | [] => true
  | (k, v) :: r => decide (v ≠ d) && Table.above k r && Table.wf d r

end Sys2Proof.Machine
end

