-- ==== Sys2Proof/Machine/State.lean ====
section
/-! DEFINITION. The state of the KL6420 as plain data: every register, queue, buffer, counter and mode the
spec gives it (INVENTORY.md, State), the queue of waiting commands, and the state after reset. Field
defaults are the reset values. Indexed pieces are canonical tables (Table): an unlisted index holds the
reset value of its type. -/

namespace Sys2Proof.Machine

/-! ## Ruler, supply and system -/

/-- The time ruler's condition (R33, R458 steps 2 to 4). -/
inductive RulerPhase where
  | off | locking | locked | holdover | relocking
  deriving DecidableEq, Repr

/-- The time ruler (R31 to R33, R432, R455 `BGS_CAL`). -/
structure Ruler where
  phase : RulerPhase := .off
  lossAt : Tick := 0
  tooLong : Bool := false
  refPresent : Bool := false
  lastHoldoverUs : Nat := 0
  taps : BitVec 10 := 0
  corr : Int := 0
  relocks : Nat := 0
  deriving DecidableEq, Repr

/-- The supply states of R42. -/
inductive SupplyState where
  | main | backup | holdup | down
  deriving DecidableEq, Repr

/-- One supply input (R43, R44): its judgement, the crossing whose 0.2 microsecond hold is running, and the
instant from which it has been good. -/
structure SupplyIn where
  good : Bool := false
  overvolt : Bool := false
  crossing : Option (Tick × Threshold) := none
  goodSince : Tick := 0
  millivolt : Nat := 0
  deriving DecidableEq, Repr

/-- Supplies, discretes, temperatures and analogue inputs (02). `storeFrom` is the instant the first supply became good
and `storeFull` the instant the linear charge of R54 reaches 40 V, once 36 V have been seen. -/
structure Supply where
  state : SupplyState := .main
  vmain : SupplyIn := { good := true }
  vbak : SupplyIn := {}
  storeCharged : Bool := false
  storeMv : Nat := 0
  storeFrom : Tick := 0
  storeFull : Option Tick := none
  holdupAt : Tick := 0
  holdupSteps : Nat := 0
  before : SupplyState := .main
  enable : Bool := false
  claimStrap : Bool := false
  claimSince : Tick := 0
  derateW : Table Nat := []
  heat : Table Nat := []
  ain : Table Nat := []
  ainOver : BitVec 8 := 0
  va5Mv : Nat := 0
  va5Fault : Bool := false
  sensorsOff : Bool := false
  deriving DecidableEq, Repr

/-- The power modes of R457; `entering` and `waking` are the passages R472 shows. -/
inductive PowerMode where
  | reset | run | standby | entering | sleep | waking
  deriving DecidableEq, Repr

/-- An image slot, R460. -/
inductive Slot where
  | a | b
  deriving DecidableEq, Repr

/-- The reset sequence and the power modes (15). `step` is the number of steps of R458 completed; a
sequence that ended or stopped has `seqDone` set (DESIGN CHOICE, log 5). -/
structure Sys where
  order64 : Bool := true
  mode : PowerMode := .reset
  before : PowerMode := .run
  step : Nat := 0
  seqDone : Bool := false
  phase : Nat := 0
  linksUp : Bool := false
  refuse : Nat := 0
  sleeps : Nat := 0
  autoStby : Nat := 0
  autoSlp : Nat := 0
  wakeEn : BitVec 7 := 0x3F
  wakeLvl : Nat := 15
  wakeSrc : BitVec 13 := 0
  wakePending : BitVec 13 := 0
  rstCause : Nat := 1
  prevSafe : Nat := 0
  prevValid : Bool := false
  refA : Nat := 0
  refB : Nat := 0
  running : Option Slot := none
  selftest : Byte := 0
  resetDue : Option Tick := none
  imageStart : Tick := 0
  stallAt : Option Tick := none
  standbyAt : Option Tick := none
  sleptAt : Tick := 0
  deriving DecidableEq, Repr

/-! ## Interrupt controller and fault collector -/

/-- The state of one interrupt target (R402). -/
structure IrcTarget where
  en : BitVec 256 := 0
  pend : BitVec 256 := 0
  act : BitVec 256 := 0
  recLevel : Table Nat := []
  thr : Nat := 0
  claimed : Nat := 0
  ccRef : Bool := false
  coalesced : Nat := 0
  refused : Nat := 0
  deriving DecidableEq, Repr

/-- A moderation hold of HOST_INT_N (R410): its release instant and the raises of enabled sources since. -/
structure Hold where
  release : Tick
  raises : Nat := 0
  deriving DecidableEq, Repr

/-- The interrupt controller (R401 to R411, R423, R424). `levels` holds the `IRC_LEVEL` words. -/
structure Irc where
  levels : Table Word := []
  host : IrcTarget := {}
  mgmt : IrcTarget := {}
  modUs : Nat := 0
  modCnt : Nat := 1
  bypass : Nat := 0
  idle : Nat := 0
  line : Bool := false
  hold : Option Hold := none
  quiet : Option Tick := some 0
  deriving DecidableEq, Repr

/-- One occurrence as `FLT_FIRST` and `FLT_LAST` show it (R412). -/
structure FaultRec where
  src : Nat := 0
  valid : Bool := false
  cls : Nat := 0
  etc : Tick := 0
  deriving DecidableEq, Repr

/-- The watchdog (R420). -/
structure Watchdog where
  timeout : Nat := 0
  window : Nat := 0
  lock : Bool := false
  token : BitVec 16 := 1
  since : Tick := 0
  service : Option Tick := none
  warned : Bool := false
  bad : Bool := false
  deriving DecidableEq, Repr

/-- The fault collector (R412 to R426). `cond` holds the conditions now present, since a source is raised
at the onset of its condition. -/
structure Flt where
  sticky : BitVec 96 := 0
  pend : BitVec 96 := 0
  cond : BitVec 96 := 0
  first : FaultRec := {}
  last : FaultRec := {}
  total : Nat := 0
  grace : Option Tick := none
  safe : Bool := false
  safeGrace : Bool := false
  safeSrc : Nat := 0
  safeEtc : Tick := 0
  wdt : Watchdog := {}
  deriving DecidableEq, Repr

/-! ## Timers and PWM units -/

/-- The settings of a timer that act from its next start (R390). -/
structure TimerCfg where
  tb : Nat := 0
  capture : Bool := false
  restart : Bool := false
  link : Nat := 0
  master : Nat := 0
  cap : Nat := 0
  filt : Nat := 0
  ps : Nat := 1
  deriving DecidableEq, Repr

/-- `TIM_STAT.STATE` (R400). -/
inductive TimerState where
  | stopped | running | expired | armed
  deriving DecidableEq, Repr

/-- One timer (R389 to R394, R400): written settings and those in force since the last start. -/
structure Timer where
  ctl : TimerCfg := {}
  run : TimerCfg := {}
  target : Word := 0xFFFFFFFF
  state : TimerState := .stopped
  start : Tick := 0
  expAt : Tick := 0
  count : Nat := 0
  edges : Nat := 0
  capt : Word := 0
  captEtc : Tick := 0
  exp : Bool := false
  new : Bool := false
  ovr : Bool := false
  madeUp : Bool := false
  unseen : Bool := false
  linkErr : Bool := false
  lastEdge : Option Tick := none
  ieExp : Bool := false
  ieCap : Bool := false
  deriving DecidableEq, Repr

/-- The timer block. -/
structure Tim where
  tm : Table Timer := []
  makeupUs : Nat := 0
  deriving DecidableEq, Repr

/-- The values of an EB unit that load from shadows (R377, R396, R397). -/
structure EbVals where
  per : Nat := 100
  cmp : Nat := 0
  dtMin : Nat := 50
  dtMax : Nat := 250
  adapt : Bool := false
  minPulse : Nat := 100
  blank : Nat := 0
  tripFilt : Nat := 10
  deriving DecidableEq, Repr

/-- One EB unit (R371 to R384, R396, R397). The count at an instant is the count at `anchor` plus the
nanoseconds since, in the direction `down` shows. `pendOn` is the gate turn-on waiting for its dead time:
the gate (true for high) and the instant of the phase edge; `phDrop` marks a dropped phase in progress. `late` is
the shadow as writes at or after a boundary not yet taken leave it (R377). -/
structure Eb where
  en : Bool := false
  updnCtl : Bool := false
  updn : Bool := false
  imm : Bool := false
  armAt : Option Tick := none
  tlatch : Bool := true
  tripMask : BitVec 4 := 0
  act : EbVals := {}
  shadow : EbVals := {}
  late : Option EbVals := none
  ie : BitVec 5 := 0
  ips : Nat := 0
  preZero : Nat := 0
  prePer : Nat := 0
  preCmp : Nat := 0
  hiz : Bool := true
  anchor : Tick := 0
  anchorCount : Nat := 0
  down : Bool := false
  high : Bool := false
  hg : Bool := false
  lg : Bool := false
  pendOn : Option (Bool × Tick) := none
  phDrop : Bool := false
  blankEnd : Option Tick := none
  heldTrip : Bool := false
  flags : BitVec 5 := 0
  tripped : Bool := false
  clearOk : Bool := false
  filtered : BitVec 4 := 0
  bstLow : Bool := false
  dtRise : Nat := 0
  tmoR : Bool := false
  dtFall : Nat := 0
  tmoF : Bool := false
  dropH : Nat := 0
  dropL : Nat := 0
  trips : Nat := 0
  clrRef : Nat := 0
  bstUv : Nat := 0
  boundary : Tick := 0
  deriving DecidableEq, Repr

/-- One trigger of a KC unit with its sample (R386, R398). -/
structure KcTrig where
  frac : Nat := 0
  bsel : Bool := false
  ch : Nat := 0
  en : Bool := false
  fired : Bool := false
  code : BitVec 12 := 0
  settling : Bool := false
  sat : Bool := false
  missed : Bool := false
  tseq : Nat := 0
  misses : Nat := 0
  deriving DecidableEq, Repr

/-- One KC unit (R385, R386, R396, R398). -/
structure Kc where
  running : Bool := false
  per : Nat := 0
  cmp : Nat := 0
  boundary : Tick := 0
  cmpDone : Bool := false
  ie : BitVec 7 := 0
  ips : Nat := 0
  preZero : Nat := 0
  prePer : Nat := 0
  preCmp : Nat := 0
  flags : BitVec 7 := 0
  trig : Table KcTrig := []
  deriving DecidableEq, Repr

/-- The PWM block with the trip inputs' levels after the input stage: bit i on where TRIPi is on (R61, R381). -/
structure Pwm where
  eb : Table Eb := []
  kc : Table Kc := []
  tripOn : BitVec 4 := 0
  deriving DecidableEq, Repr

/-! ## Wheel decoder -/

/-- The synchronisation states of R154. -/
inductive Sync where
  | nosync | tooth | crank | full | quick | lost
  deriving DecidableEq, Repr

/-- The direction as `WHL_SYNC.DIR` shows it (R189). -/
inductive Dir where
  | forward | reverse | unknown | assumed
  deriving DecidableEq, Repr

/-- The class of a direction pulse (R165, R192 PULSE). -/
inductive Pulse where
  | short | long | ambiguous | none
  deriving DecidableEq, Repr

/-- `WHL_INn_STAT.LAST_CLASS` (R192). -/
inductive EdgeClass where
  | none | tooth | gap | camRegular | camPhase | error | auxiliary
  deriving DecidableEq, Repr

/-- A crossing held by a Strainer: its stamp, direction and the opposite-polarity peak before it (mV). -/
structure Crossing where
  stamp : Tick
  rising : Bool
  peakMv : Nat
  deriving DecidableEq, Repr

/-- One wheel input (R156 to R158, R165, R188, R192). -/
structure WheelIn where
  level : Bool := false
  held : List Crossing := []
  peak : Nat := 0
  stamp : Tick := 0
  width : Nat := 0
  edges : Nat := 0
  rej : Nat := 0
  lastClass : EdgeClass := .none
  pulse : Pulse := .none
  adaptPeak : Nat := 0
  vswFault : Bool := false
  lead : Option Tick := none
  lostEdge : Bool := false
  deriving DecidableEq, Repr

/-- A gap candidate awaiting its confirmation (R161): its period, whether the numbering expected a gap there,
the linear number and the stamp of its reference tooth, and the primary's position then (R183). -/
structure GapCand where
  period : Nat
  expected : Bool
  ref : Nat
  stamp : Tick
  primary : Nat
  deriving DecidableEq, Repr

/-- The classification, numbering and direction state of one crank sensor (R160, R161, R165 to R167, R180).
`last` is the stamp the next period is measured from; `prevT` over `prevN` intervals is the previous period
(`prevN` 0: not measured); `f` is the linear position (revolution x N + position) of F, the next tooth forward
rotation will pass; `stepBack` is the way the pulse not yet classified was stepped and `before` F before it. -/
structure CrankDec where
  last : Option Tick := none
  prevT : Nat := 0
  prevN : Nat := 0
  cand : Option GapCand := none
  hasPos : Bool := false
  f : Nat := 0
  stepBack : Option Bool := none
  before : Nat := 0
  back : Bool := false
  dir : Dir := .unknown
  runClass : Pulse := .none
  run : Nat := 0
  lead : Tick := 0
  prevLead : Option Tick := none
  agree : Bool := true
  quickRun : Nat := 0
  deriving DecidableEq, Repr

/-- One cam input's marks (R162 to R164, R184): the last mark's stamp and linear angle, the preceding
distance in ticks and in angle, marks collected in the learning cycle (linear angle, phase mark), the learned
marks, those met in the current cycle, and whether its phase mark contradicted the other cam in it. -/
structure Cam where
  last : Option (Tick × Option Nat) := none
  prevDist : Option (Nat × Option Nat) := none
  collect : List (Nat × Bool) := []
  learned : List (Nat × Bool) := []
  met : List Nat := []
  contra : Bool := false
  deriving DecidableEq, Repr

/-- The quick-start record's fields (R176). -/
structure QsRecord where
  usable : Bool := false
  revSeen : Bool := false
  seq : Nat := 0
  nTeeth : Nat := 0
  gapMissing : Nat := 0
  gapCount : Nat := 0
  gapPos : Nat := 0
  camMarks : Nat := 0
  zeroOfs : Nat := 0
  nextPos : Nat := 0
  nextRev : Nat := 0
  lastDir : Nat := 0
  stopEtc : Tick := 0
  cycle : Nat := 0
  revTeeth : Nat := 0
  phaseAng : Word := 0xFFFFFFFF
  deriving DecidableEq, Repr

/-- The wheel decoder and the synchronisation state machine (05). `crank` is the decoder of the crank source,
`second` that of the crank secondary before a promotion; `shift` is the number of positions by which the
source's own numbering stands behind the module's after a promotion (R183). -/
structure Whl where
  inp : Table WheelIn := []
  sync : Sync := .nosync
  provisional : Bool := false
  promoted : Bool := false
  promoFirst : Bool := false
  crank : CrankDec := {}
  second : CrankDec := {}
  shift : Nat := 0
  lastFrom : Sync := .nosync
  lastTo : Sync := .nosync
  lastCause : Nat := 0
  changes : Nat := 0
  lastEtc : Tick := 0
  toothErr : Nat := 0
  camErr : Nat := 0
  camAng : Word := 0xFFFFFFFF
  secState : Nat := 0
  secAgree : Bool := false
  secBad : Bool := false
  secOfs : Option Nat := none
  secEdges : Nat := 0
  sinceErr : Option Nat := none
  phase : Option (Tick × Bool) := none
  refStamp : Option Tick := none
  quickCount : Nat := 0
  quickGap : Bool := false
  cams : Table Cam := []
  learnCycle : Nat := 0
  contraNow : Bool := false
  contraPrev : Bool := false
  phaseNow : Bool := false
  missRun : Nat := 0
  camLost : Bool := false
  cycleRev : Bool := false
  revTeeth : Nat := 0
  revSeen : Bool := false
  lastEdge : Tick := 0
  qs : QsRecord := {}
  qsCopy : Bool := false
  qsInval : Nat := 0
  qsUnwatched : Bool := false
  qsMoved : Bool := false
  qsTrack : Bool := false
  deriving DecidableEq, Repr

/-! ## Lens -/

/-- `LNS_STAT.MODE` (R217). -/
inductive LensMode where
  | none | period | run | hold | overdue | reverse
  deriving DecidableEq, Repr

/-- What an update changed of the prediction and the map, as it was before: an ambiguous pulse makes the update one with
err set, which changes neither (R204). -/
structure LensKept where
  pn : Nat
  acc : Int
  accClamp : Bool
  map : Table Int
  learnedSet : Table Bool
  unsaved : Bool
  deriving DecidableEq, Repr

/-- The Lens (06). `started` is set once a boundary has been used, `havePn` once pn is measured; `seen` is
the linear angle up to which passing has been acted on (R214). -/
structure Lns where
  tLast : Tick := 0
  tOpen : Tick := 0
  cur : Nat := 0
  k : Nat := 0
  pn : Nat := 0
  acc : Int := 0
  started : Bool := false
  havePn : Bool := false
  accClamp : Bool := false
  map : Table Int := []
  learnedSet : Table Bool := []
  stamps : Table (Tick × Tick) := []
  mode : LensMode := .none
  learn : Bool := false
  pause : Nat := 0
  speed : Nat := 0
  sixteenths : Nat := 0
  spdLo : Nat := 0
  spdHi : Nat := 0xFFFF
  sweepLast : Nat := 0
  sweeps : Nat := 0
  overdues : Nat := 0
  stalls : Nat := 0
  restored : Bool := false
  restoreFail : Bool := false
  unsaved : Bool := false
  clamps : Nat := 0
  fullCross : Nat := 0
  cleanErr : Nat := 0
  cleanRev : Nat := 0
  pauseCross : Nat := 0
  seen : Nat := 0
  rev : Bool := false
  mapMode : Nat := 0
  kept : Option LensKept := none
  deriving DecidableEq, Repr

/-! ## Event scheduler -/

/-- The slot states of R219. -/
inductive EvState where
  | free | waiting | near | committing | armed | running | quarantined
  deriving DecidableEq, Repr

/-- The fields of a profile entry (R320), as an event copies them at commit (R324). -/
structure Profile where
  kind : Nat := 0
  steepFeed : Bool := false
  trDecay : Nat := 0
  dithSq : Bool := false
  banks : Nat := 0
  boost : Nat := 0
  boostMin : Nat := 0
  iPeak : Nat := 0
  tPeakMax : Nat := 0
  iHold : Nat := 0
  tTrMax : Nat := 0
  tOn : Nat := 0
  hyst : Nat := 0
  dithAmp : Nat := 0
  dithPer : Nat := 0
  eBoost : Nat := 0
  extMax : Nat := 0
  deriving DecidableEq, Repr

/-- One slot of the event table (R222) with what the scheduler keeps beside it: the projection of a NEAR
event, the frozen time, horizon and copies of a committed one (R234, R324), the bank mode it committed
under (R153) and the energy it reserved (R338). -/
structure Event where
  state : EvState := .free
  target : Word := 0
  ch : Nat := 0
  prof : Nat := 0
  ctag : Nat := 0
  next : Bool := false
  sigStart : Bool := false
  ont : Int := 0
  user : Nat := 0
  seq : Nat := 0
  owner : Nat := 0
  proj : Tick := 0
  frozen : Tick := 0
  armAt : Tick := 0
  copy : Profile := {}
  peakMax : Nat := 0
  onMax : Nat := 0
  banked : Bool := true
  reserve : Nat := 0
  bad : Bool := false
  deriving DecidableEq, Repr

/-- The counts of one engine cycle (R106, R256). -/
structure CycleCounts where
  fired : Nat := 0
  late : Nat := 0
  gate : Nat := 0
  energy : Nat := 0
  other : Nat := 0
  deriving DecidableEq, Repr

/-- The record of a completed engine cycle (R106), less its nonce. -/
structure CycleRec where
  cycle : Nat := 0
  etcStart : Tick := 0
  etcEnd : Tick := 0
  envSeq : Nat := 0
  counts : CycleCounts := {}
  chain : BitVec 256 := 0
  deriving DecidableEq, Repr

/-- The event scheduler (07) (DESIGN CHOICE, log 14). -/
structure Evs where
  slots : Table Event := []
  lastSlot : Nat := 8191
  seq : Nat := 0
  cycle : Nat := 0
  boundaryEtc : Tick := 0
  ins : Nat := 0
  dropWr : Nat := 0
  drops : Nat := 0
  refuse : Nat := 0
  cancels : Nat := 0
  tblFull : Nat := 0
  nearFull : Nat := 0
  passes : Nat := 0
  restarts : Nat := 0
  corr : Nat := 0
  uncorr : Nat := 0
  hold : Bool := false
  cur : CycleCounts := {}
  next : CycleCounts := {}
  early : CycleCounts := {}
  pass : List Nat := []
  passAt : Tick := 0
  passRank : Nat := 0
  heldOver : List Nat := []
  steps : Option Tick := none
  turn : Nat := 16
  started : Table Nat := []
  records : List CycleRec := []
  deriving DecidableEq, Repr

/-! ## Actuator drive -/

/-- The phases of `ACT_CH_STAT.PHASE` (R349); the diagnostic test is shown from the diagnostics' state. -/
inductive Phase where
  | idle | peak | transition | steep | turnOff
  deriving DecidableEq, Repr

/-- One channel (R319 to R333, R343, R345, R349). `ev` is the drive's own copy of the running event and
`evSlot` its slot. -/
structure Chan where
  phase : Phase := .idle
  lastEnd : Nat := 0
  peakOk : Bool := false
  slipped : Bool := false
  extRefused : Bool := false
  extWhy : Nat := 0
  seq : Nat := 0
  prof : Nat := 0
  peakSel : Nat := 0
  steepFeed : Bool := false
  prop : Bool := false
  ext : Nat := 0
  current : Nat := 0
  lastPeak : Nat := 0
  setpt : Nat := 0
  peakTmo : Nat := 0
  extRef : Nat := 0
  terms : Nat := 0
  start : Tick := 0
  shots : Nat := 0
  eboost : Nat := 0
  feedOn : Bool := false
  withheld : Bool := false
  dither : Int := 0
  phaseAt : Tick := 0
  switchAt : Tick := 0
  offAt : Tick := 0
  lastOff : Option Tick := none
  idleAt : Tick := 0
  evSlot : Nat := 0
  ev : Event := {}
  deriving DecidableEq, Repr

/-- One bank (R331, R339, R350). -/
structure BankSt where
  banked : Bool := true
  draining : Bool := false
  arbDrops : Nat := 0
  slips : Nat := 0
  iSum : Nat := 0
  lastSwitch : Option Tick := none
  deriving DecidableEq, Repr

/-- The Kettle states of R334. -/
inductive KtState where
  | off | charging | ready | lowering | fault | bleed
  deriving DecidableEq, Repr

/-- One Kettle (R334 to R338, R350): target and a target waiting under R337 (in 0.5 V)
with the slots it waits for, measured voltage
(0.25 V), capacitance, reserved energy in 0.1 mJ, the charging deadline and the charger limit in W. `chgOn` is the
charger as R334 has it, `faulted` the FAULT that stays until reset (R336), `fall` the instant and the voltage from
which the bleed alone moves the Kettle (R488). -/
structure Kettle where
  state : KtState := .off
  target : Nat := 0
  waiting : Option Nat := none
  waitFor : List Nat := []
  volt : Nat := 0
  capUf : Nat := 0
  res : Nat := 0
  deadline : Option Tick := none
  chgW : Nat := 0
  bleedOn : Bool := false
  chgOn : Bool := false
  faulted : Bool := false
  fall : Option (Tick × Nat) := none
  dump : Bool := false
  measuredAt : Tick := 0
  deriving DecidableEq, Repr

/-- The actuator drive (10). -/
structure Act where
  ch : Table Chan := []
  bank : Table BankSt := []
  kt : Table Kettle := []
  deriving DecidableEq, Repr

/-! ## Closing detection and load diagnostics -/

/-- `DIA_CH_KCFG` and `DIA_CH_WIN` (R368). -/
structure KinkCfg where
  en : Bool := false
  pol : Bool := false
  range : Bool := false
  f : Nat := 3
  d : Nat := 16
  kth : Nat := 16
  winStart : Nat := 50
  winLen : Nat := 500
  dec : Nat := 3
  deriving DecidableEq, Repr

/-- One channel's detection and diagnostics (R361 to R369). `test` is the start of the off-state test in
progress, `single` the deadline of a DIAG_RUN test not yet run, `confirmed` the off-state fault code that was
confirmed and lasts (R412). -/
structure DiaCh where
  cfg : KinkCfg := {}
  offEn : Bool := false
  openEn : Bool := true
  tOpen : Nat := 50
  last : Nat := 0
  disturbed : Bool := false
  kinks : Nat := 0
  misses : Nat := 0
  busy : Nat := 0
  off : Nat := 0
  offFlt : Bool := false
  onFlt : Bool := false
  onCode : Nat := 0
  offTests : Nat := 0
  offFaults : Nat := 0
  onFaults : Nat := 0
  vh : Nat := 0
  vl : Nat := 0
  test : Option Tick := none
  testSingle : Bool := false
  single : Option Tick := none
  prevOff : Nat := 0
  confirmed : Nat := 0
  lastCapture : Tick := 0
  deriving DecidableEq, Repr

/-- A detection (R351, R352): sample number and instant, k and the previous k, y, and the disturbance. -/
structure Detection where
  n : Nat
  etc : Tick
  k : Int
  kPrev : Int
  y : Int
  disturbed : Bool
  deriving DecidableEq, Repr

/-- A capture in progress (R355 to R357). `hist` holds the codes newest first. -/
structure Capture where
  ch : Nat
  off : Tick
  cfg : KinkCfg
  seq : Nat
  hist : List Int := []
  count : Nat := 0
  kLast : Option Int := none
  lastOk : Bool := false
  lastIn : Bool := false
  recovEnd : Option Tick := none
  det : Option Detection := none
  written : Bool := false
  ev : Event := {}
  cycle : Nat := 0
  deriving DecidableEq, Repr

/-- One bank digitiser (R354 to R357, R370, R386). -/
structure Digitiser where
  capture : Option Capture := none
  ch : Nat := 0
  trseq : Nat := 0
  count : Nat := 0
  dec : Nat := 0
  detIdx : Nat := 0x7FF
  captures : Nat := 0
  busyMiss : Nat := 0
  trEtc : Tick := 0
  mux : Nat := 0
  muxAt : Option Tick := none
  deriving DecidableEq, Repr

/-- Closing detection and load diagnostics (11). -/
structure Dia where
  ch : Table DiaCh := []
  dg : Table Digitiser := []
  recWr : Nat := 0
  corr : Nat := 0
  uncorr : Nat := 0
  lastRound : Option Tick := none
  deriving DecidableEq, Repr

/-! ## Sequencers, tasks and DMA -/

/-- A segment descriptor (R292). -/
structure Seg where
  base : Nat := 0
  limit : Nat := 0
  r : Bool := false
  w : Bool := false
  x : Bool := false
  share : Bool := false
  deriving DecidableEq, Repr

/-- A declared task (R290). -/
structure Task where
  prio : Nat := 0
  fprio : Nat := 0
  entry : BitVec 16 := 0
  faultPc : BitVec 16 := 0xFFFF
  trig : Nat := 0
  start : Bool := false
  haltCancel : Bool := false
  dmaGrant : BitVec 16 := 0
  tp0 : Word := 0
  tp1 : Word := 0
  budget : Nat := 0
  segs : List Seg := []
  deriving DecidableEq, Repr

/-- The context states of R295. -/
inductive CtxState where
  | empty | idle | ready | issuing | parked | halted
  deriving DecidableEq, Repr

/-- What a parked context waits for (R259, R271 to R277). A request holds its operands; an answered
request holds the result, the handle and a notice to post after the result is written (R279). -/
inductive Wait where
  | none
  | angle (d : Nat) (target : Word) (t0 : Tick) (timeout : Nat)
  | instant (d : Nat) (target : Nat)
  | latch (d : Nat) (mask : BitVec 6) (t0 : Tick) (timeout : Nat)
  | insertion (d b : Nat) (w0 w1 w2 : Word)
  | aim (d : Nat) (handle target w2 : Word)
  | cancel (d : Nat) (handle : Word)
  | snap
  | answered (d b : Nat) (isInsertion : Bool) (res handle : Word) (notice : Option (Word × Word))
  deriving DecidableEq, Repr

/-- The snapshot of R268. -/
structure Snapshot where
  ang : Word := 0
  etcLo : Word := 0
  etcHi : Word := 0
  stat : Word := 0
  cycle : Word := 0
  deriving DecidableEq, Repr

/-- A hardware context (R257, R295 to R305, R316). `used` is the issue time of the activation in ticks (R301),
`readyAt` the instant it last became ready, `order` its place among ready contexts (R299), `nextTime` the k of its
next TIME trigger instant (R297). -/
structure Ctx where
  g : Table Word := []
  pc : BitVec 16 := 0
  c : Bool := false
  v : Bool := false
  q : Bool := false
  snap : Snapshot := {}
  latches : BitVec 6 := 0
  sigIn : BitVec 16 := 0
  state : CtxState := .empty
  fh : Bool := false
  prioNow : Nat := 0
  order : Nat := 0
  wait : Wait := .none
  acts : Nat := 0
  overruns : Nat := 0
  pending : Bool := false
  pendTrig : Nat := 0
  lastTrig : Nat := 0
  cause : Nat := 0
  haltBy : Nat := 0
  faults : Nat := 0
  fpc : BitVec 16 := 0
  faddr : Word := 0
  saveG13 : Word := 0
  saveG14 : Word := 0
  saveG15 : Word := 0
  saveC : Bool := false
  saveV : Bool := false
  saveQ : Bool := false
  used : Nat := 0
  readyAt : Tick := 0
  secondBudget : Bool := false
  nextTime : Nat := 0
  deriving DecidableEq, Repr

/-- A sequencer's shared state (R258, R279, R283) and its last instruction boundary. `latches` and `sigIn` are those of
its EMPTY contexts: a happening sets them in every context of the sequencer (R273, R283), and no EMPTY context ever takes
one. -/
structure SeqSt where
  mailbox : Table Word := []
  mbxSeq : Word := 0
  notices : List (Word × Word) := []
  nloss : Nat := 0
  lossRun : Nat := 0
  sigVal : Word := 0
  boundary : Tick := 0
  latches : BitVec 6 := 0
  sigIn : BitVec 16 := 0
  deriving DecidableEq, Repr

/-- The sequencers: shared states by sequencer; contexts and tasks by 8 x sequencer + slot; the last return to
RUN, since when sequencers issue; the latches that a happening for every context has set in the EMPTY ones (R273). -/
structure Seq where
  sq : Table SeqSt := []
  ctx : Table Ctx := []
  task : Table (Option Task) := []
  orderNext : Nat := 1
  runSince : Tick := 0
  latches : BitVec 6 := 0
  deriving DecidableEq, Repr

/-- What a DMA channel is doing (R309 to R312). -/
inductive DmaPhase where
  | idle | load | move | done | faulted
  deriving DecidableEq, Repr

/-- One DMA channel (R309 to R318). -/
structure DmaCh where
  phase : DmaPhase := .idle
  stat : Nat := 0
  cause : Nat := 0
  chain : Nat := 0
  runs : Nat := 0
  desc : Nat := 0
  bytes : Nat := 0
  faddr : Nat := 0
  ownQ : Nat := 0
  ownS : Nat := 0
  segs : List Seg := []
  src : Nat := 0
  dst : Nat := 0
  len : Nat := 0
  ctl : Nat := 0
  link : Word := 0
  deriving DecidableEq, Repr

/-- DMA and the memory protection unit's counts (R317, R318). -/
structure Dma where
  ch : Table DmaCh := []
  corr : Nat := 0
  uncorr : Nat := 0
  eccAddr : Nat := 0
  segflt : Nat := 0
  turn : Nat := 15
  deriving DecidableEq, Repr

/-- The addressable memories (R473): the cells that do not hold the byte an unlisted address reads as (0,
DESIGN CHOICE, log 6), the words now uncorrectable, and those already reported (R306). -/
structure Mem where
  cells : List Host.Cell := []
  bad : Table Bool := []
  reported : Table Bool := []
  deriving DecidableEq, Repr

/-! ## Background services and the Mirror port -/

/-- A logbook entry (R442). -/
structure LogEntry where
  index : Nat
  kind : Nat
  etc : Tick
  prev : BitVec 256
  body : List Byte
  deriving DecidableEq, Repr

/-- A Caddy write in progress or waiting (R435 to R439). `refresh` rewrites a block that reads weak or old,
`restore` one rewritten from its intact copy. -/
inductive CaddyJob where
  | quickStart (r : QsRecord)
  | lensMap
  | logFlush (upTo : Nat)
  | wearSave
  | refresh (block : Nat)
  | restore (block : Nat)
  deriving DecidableEq, Repr

/-- The background services (14). `jobDone` counts the blocks of the first job already written, `closes` holds
the closing records of the last second (instant, channel, CLOSE - OFF in 100 ns). -/
structure Bgs where
  scrubPos : Table Nat := []
  scrubDone : Table Bool := []
  scrubAt : Table Tick := []
  scrubs : Nat := 0
  scrubCorr : Nat := 0
  scrubUncorr : Nat := 0
  restored : Nat := 0
  scrubAddr : Nat := 0
  calAt : Table Tick := []
  staleCh : BitVec 64 := 0
  staleDg : BitVec 8 := 0
  staleOther : Table Bool := []
  capOor : BitVec 4 := 0
  spare : Nat := 591
  refreshPos : Nat := 0
  refreshBegan : Tick := 0
  passBegan : Tick := 0
  refreshAt : Tick := 0
  refreshNow : Bool := false
  caddyAt : Tick := 0
  wroteAt : Table Tick := []
  wearMax : Nat := 0
  rewrites : Nat := 0
  lost : Nat := 0
  spareWarned : Bool := false
  logNext : Nat := 0
  logLost : Nat := 0
  lostRun : Nat := 0
  tail : List LogEntry := []
  lastHash : BitVec 256 := 0
  headAt : Nat := 0
  flushes : Nat := 0
  flushSlot : Nat := 0
  bseq : Nat := 0
  telemSec : Nat := 0
  batch : List Byte := []
  closes : List (Tick × Nat × Nat) := []
  guardScrub : Nat := 0
  guardCaddy : Nat := 0
  guardLog : Nat := 0
  guardNow : BitVec 4 := 0
  jobs : List CaddyJob := []
  jobDone : Nat := 0
  retried : Bool := false
  deriving DecidableEq, Repr

/-- A Mirror frame: its type and data bytes (R446, R447). -/
structure Frame where
  type : Nat
  data : List Byte
  deriving DecidableEq, Repr

/-- One Mirror lane (R448, R449). -/
structure Lane where
  queue : List Frame := []
  sending : Option Frame := none
  sent : Nat := 0
  lost : Nat := 0
  lossRun : Nat := 0
  deriving DecidableEq, Repr

/-- The Mirror port (R446 to R449, R456). -/
structure Obs where
  lane0 : Lane := {}
  lane1 : Lane := {}
  counterMs : Nat := 0
  deriving DecidableEq, Repr

/-! ## Trust, links, sessions and configuration -/

/-- The lifecycle states (03, Ownership lifecycle). -/
inductive Life where
  | unclaimed | owned | retired
  deriving DecidableEq, Repr

/-- The sealed key store (R78, R460). -/
structure KeyStore where
  life : Life := .unclaimed
  owk : BitVec 512 := 0
  oseq : Nat := 0
  ogen : Nat := 0
  slots : Table (Option (List Byte)) := []
  floor : Nat := 0
  forced : Nat := 0
  sel : Slot := .a
  trial : Bool := false
  trials : Nat := 0
  destroyed : Bool := false
  deriving DecidableEq, Repr

/-- A sealed record of the key store (R78): the nonce, the ciphertext and the tag of AES-256-GCM. -/
structure Seal where
  nonce : List Byte
  text : List Byte
  tag : BitVec 128
  deriving DecidableEq, Repr

/-- A release countdown (R85, R86): its start, its next reminder and its next hourly entry. -/
structure Release where
  since : Tick
  nextRemind : Tick
  nextLog : Tick
  deriving DecidableEq, Repr

/-- The saved Lens map (R207) with its geometry fields and its HMAC. -/
structure SavedMap where
  map : Table Int
  nTeeth : Nat
  gapMissing : Nat
  gapCount : Nat
  gapPos : Nat
  camMarks : Nat
  zeroOfs : Nat
  mac : BitVec 256
  deriving DecidableEq, Repr

/-- An image slot on the Caddy (R102, R139): `some bytes` unless marked empty. -/
structure Image where
  bytes : List Byte := []
  full : Bool := false
  verified : Bool := false
  deriving DecidableEq, Repr

/-- An image transfer in progress (R139). -/
structure Transfer where
  slot : Slot
  total : Nat
  next : Nat
  link : Link
  deriving DecidableEq, Repr

/-- A configuration block (R142): its 9,216 bytes; an unlisted offset holds 0. -/
abbrev Block := Table Byte

/-- The configuration memories (R142 to R149): the active block, the committed block (pending groups
included), the groups pending, the staging copy with its holder, and a Caddy write in progress; `was` is the block that
was active when the last reset came, from which step 5 tells the groups that take effect (R150). -/
structure Cfg where
  active : Block
  committed : Block
  was : Option Block := none
  pending : BitVec 16 := 0
  staging : Option (Link × Block) := none
  storing : Option Block := none
  deriving DecidableEq, Repr

/-- What the Caddy keeps of its retention refresh (R438): where the pass stands, when the last complete pass and the
present one began, and when each physical block was last written. -/
structure Retention where
  pos : Nat := 0
  began : Tick := 0
  passBegan : Tick := 0
  wroteAt : Table Tick := []
  deriving DecidableEq, Repr

/-- What is kept without power: the Caddy's content by region (R435), the block map and write counts
(R436), and the counts kept since manufacture (DESIGN CHOICE, log 13). `keySeal` is the sealed form of `keys` (R78),
`none` for the record as delivered. -/
structure Nv where
  keys : KeyStore := {}
  keySeal : Option Seal := none
  seals : Nat := 0
  ksFail : Bool := false
  secFail : Nat := 0
  starts : Nat := 0
  env0 : List Byte := []
  env1 : List Byte := []
  cfg : Option Block := none
  qs0 : List Byte := []
  qs1 : List Byte := []
  map : Option SavedMap := none
  imgA : Image := {}
  imgB : Image := {}
  wearSeq : Nat := 0
  wear : List (List Byte) := []
  kept : Retention := {}
  ring : List (Nat × LogEntry) := []
  ringPos : Nat := 0
  turn : Table Bool := []
  blockOf : Table Nat := []
  writes : Table Nat := []
  retired : Table Bool := []
  badBlocks : Table Bool := []
  deriving DecidableEq, Repr

/-- The trust state outside the key store (03). -/
structure Sec where
  regsUp : Bool := false
  challenge : BitVec 256 := 0
  challengeAt : Tick := 0
  release : Option Release := none
  entropyFail : Bool := false
  entropyNext : Nat := 0
  signNext : Nat := 0
  ephNext : Nat := 0
  envelope : Option (List Byte) := none
  waitingEnv : Option (List Byte) := none
  envWrite : Option (Link × List Byte) := none
  envBad : Bool := false
  transfer : Option Transfer := none
  deriving DecidableEq, Repr

/-- A message being assembled (R113, R114). -/
structure Assembly where
  mtag : Byte
  next : Nat
  bytes : List Byte
  last : Tick
  deriving DecidableEq, Repr

/-- A request in processing (R121). -/
structure Request where
  code : Nat
  rtag : BitVec 16
  body : List Byte
  sealed : Bool
  mtag : Byte
  deriving DecidableEq, Repr

/-- An open session (R87, R88, R122, R131). -/
structure Session where
  slot : Nat
  sid : Word
  serial : Word
  roles : BitVec 16
  keyHM : List Byte
  keyMH : List Byte
  lastHost : Nat := 0
  lastModule : Nat := 0
  lastAt : Tick
  failures : Nat := 0
  lastReq : Option (Nat × BitVec 16) := none
  stored : Option (List Byte) := none
  deriving DecidableEq, Repr

/-- A session being opened (R87, R131). -/
structure Opening where
  slot : Nat
  sid : Word
  transcript : List Byte
  keyHM : List Byte
  keyMH : List Byte
  since : Tick
  deriving DecidableEq, Repr

/-- The session state of a link (R131). -/
inductive SessionSt where
  | none
  | opening (o : Opening)
  | opened (s : Session)
  deriving DecidableEq, Repr

/-- A CAN FD data frame of the module (R128, R129): format, identifier, bit rate switching, data field. -/
structure CanFrame where
  extended : Bool
  ident : Nat
  brs : Bool
  data : List Byte
  deriving DecidableEq, Repr

/-- One host link (04). `out` holds the response frames not yet taken, in order; `sent` is the frame a CAN port
transmitted last. -/
structure LinkSt where
  asm : Option Assembly := none
  req : Option Request := none
  out : List (List Byte) := []
  sent : Option CanFrame := none
  session : SessionSt := .none
  lastSid : Word := 0
  frameErr : Nat := 0
  busOff : Bool := false
  busOffs : Nat := 0
  fails : Nat := 0
  pauseS : Nat := 0
  lockUntil : Option Tick := none
  deriving DecidableEq, Repr

/-- The three links and the command mailbox (R125, R126). -/
structure Links where
  spi : LinkSt := {}
  can0 : LinkSt := {}
  can1 : LinkSt := {}
  txBuf : Table Byte := []
  txFrame : Option (List Byte) := none
  rxBuf : List Byte := []
  rxReady : Bool := false
  hostRej : Nat := 0
  deriving DecidableEq, Repr

/-- The counters read by snapshot (R9): each names one register pair. -/
abbrev CounterId := Nat

/-- The snapshot words of every requester, by requester number and counter (R9, R10), and each
requester's `LNS_ANGLE` latch (R216). -/
structure Snaps where
  high : Table Word := []
  angLo : Table Word := []
  angHi : Table Word := []
  deriving DecidableEq, Repr

/-! ## The whole module -/

/-- The state of the module. `now` is the instant of the latest command: it leads ETC in SLEEP, where ETC advances once
per slow-crystal period and the supply monitors go on (R457). -/
structure State where
  pending : List Instr := []
  now : Tick := 0
  etc : Tick := 0
  sleepBase : Tick := 0
  fresh : Nat := 0
  ruler : Ruler := {}
  supply : Supply := {}
  sys : Sys := {}
  irc : Irc := {}
  flt : Flt := {}
  tim : Tim := {}
  pwm : Pwm := {}
  whl : Whl := {}
  lns : Lns := {}
  evs : Evs := {}
  act : Act := {}
  dia : Dia := {}
  seq : Seq := {}
  dma : Dma := {}
  mem : Mem := {}
  bgs : Bgs := {}
  obs : Obs := {}
  sec : Sec := {}
  links : Links := {}
  cfg : Cfg
  snaps : Snaps := {}
  nv : Nv := {}
  deriving DecidableEq, Repr

/-- Where the model stops. -/
inductive Fault where
  /-- Raised by RESET_N_PULSE for a low level of 2 microseconds or more and less than 10: "Between these
  the outcome is not defined" (R68). Safe: nothing is claimed of what follows. -/
  | undefinedResetPulse
  deriving DecidableEq, Repr

/-- Where the model has no meaning. -/
inductive Refusal where
  /-- Raised by Dispatch.lean alone, for a row of the table without a meaning. Safe: nothing is claimed. -/
  | notModelled (mnemonic : String)
  deriving DecidableEq, Repr

/-- Consecutive little-endian bytes of `v`, `n` of them, at offset `a`, non-zero ones only. -/
def blockBytes (a : Nat) : Nat → Nat → List (Nat × Byte)
  | 0, _ => []
  | n + 1, v =>
    (if BitVec.ofNat 8 v = 0 then [] else [(a, BitVec.ofNat 8 v)]) ++ blockBytes (a + 1) n (v / 256)

/-- The defaults of one wheel input's section (R143). -/
def wheelInputDefaults (n : Nat) : List (Nat × Byte) :=
  blockBytes (0x80 + 34 + 16 * n) 2 200 ++ blockBytes (0x80 + 36 + 16 * n) 2 1000
    ++ blockBytes (0x80 + 38 + 16 * n) 2 60 ++ blockBytes (0x80 + 40 + 16 * n) 2 90

/-- The default classes of the fault sources as the six words of CLASS (R143, R417), 2 bits a source: SAFE for
0, 20, 22, 23 and 77; GRACE for 1, 2, 5, 16 and 64 to 76; LOG for all others. -/
def defaultClassWords : List Nat :=
  [0x00000416, 0x0000A201, 0x00000000, 0x00000000, 0x09555555, 0x00000000]

/-- The sections HOST, SUPPLY and FAULT of the defaults (R143). -/
def defaultHead : Block :=
  blockBytes 0 4 0x46434C4B ++ blockBytes 4 4 1
    ++ blockBytes 0x20 8 0x000006A000020102 ++ blockBytes 0x28 8 0x000006B000020102
    ++ blockBytes 0x30 2 60 ++ blockBytes 0x40 2 0x0105
    ++ blockBytes 0x50 4 0x00000416 ++ blockBytes 0x54 4 0x0000A201
    ++ blockBytes 0x60 4 0x09555555 ++ blockBytes 0x68 4 1000

/-- The section WHEEL of the defaults (R143). -/
def defaultWheel : Block :=
  blockBytes 0x80 8 0x0001003A0102003C ++ blockBytes 0x8C 4 500000
    ++ wheelInputDefaults 0 ++ wheelInputDefaults 1 ++ wheelInputDefaults 2 ++ wheelInputDefaults 3
    ++ wheelInputDefaults 4 ++ wheelInputDefaults 5 ++ wheelInputDefaults 6 ++ wheelInputDefaults 7

/-- The sections LENS, SCHED, DRIVE, IO and BG of the defaults (R143). -/
def defaultTail : Block :=
  blockBytes 0x120 3 0x060103 ++ blockBytes 0x140 4 5000 ++ blockBytes 0x144 2 0x0308
    ++ blockBytes 0x160 8 0x0101010101010101
    ++ blockBytes 0x168 8 0x01F401F401F401F4 ++ blockBytes 0x170 8 0x01F401F401F401F4
    ++ blockBytes 0x180 4 0x0F0F0F0F
    ++ blockBytes 0x1A0 8 0x0202020202020202 ++ blockBytes 0x1A8 8 0x0202020202020202
    ++ blockBytes 0x1B0 4 0x01010101 ++ blockBytes 0x1B4 1 0xFF
    ++ blockBytes 0x200 4 0xFFFFFFFF ++ blockBytes 0x204 2 0x0203

/-- The configuration block of a module without a stored block (R143). -/
def defaultBlock : Block := defaultHead ++ defaultWheel ++ defaultTail

/-- The machine right after reset: a module delivered new at the end of its reset cause, before step 1 of the
reset sequence (R458), with every register at its reset value (R15, INVENTORY.md) (DESIGN CHOICE, log 2) (DESIGN
CHOICE, log 11) (DESIGN CHOICE, log 12). -/
def State.reset : State :=
  { cfg := { active := defaultBlock, committed := defaultBlock } }

end Sys2Proof.Machine
end

