-- ==== Sys2Proof/Machine/Ops.lean ====
section
/-! DEFINITION. The named operations every block uses: time, indexed pieces, the configuration block's fields,
memory, interrupt raises and HOST_INT_N, wake causes, the logbook, Mirror frames, wake latches, activations
and notices. -/

namespace Sys2Proof.Machine

/-! ## Time -/

/-- ETC `n` slow-crystal periods after `base`: 8 x 10^9 / 32,768 ticks a period, in steps of 244,140 or
244,141 ticks (R32, R457). -/
def sleepEtc (base n : Nat) : Tick := base + n * ticksPerS / 32768

/-- ETC at an instant `t` (R9, R32): it never steps back; in SLEEP, and until the
wake is complete, it advances once per slow-crystal period. -/
def State.advance (t : Tick) (s : State) : State :=
  { s with
    now := if s.now < t then t else s.now
    etc :=
      match s.sys.mode with
      | .sleep | .waking =>
        let e := sleepEtc s.sleepBase ((t - s.sleepBase) * 32768 / ticksPerS)
        if s.etc < e then e else s.etc
      | _ => if s.etc < t then t else s.etc }

/-! ## Indexed pieces -/

/-- Channel `k`. -/
def State.chan (s : State) (k : Nat) : Chan := s.act.ch.get {} k
/-- Write channel `k`. -/
def State.setChan (s : State) (k : Nat) (c : Chan) : State := { s with act.ch := s.act.ch.set {} k c }
/-- Bank `b`. -/
def State.bank (s : State) (b : Nat) : BankSt := s.act.bank.get {} b
/-- Write bank `b`. -/
def State.setBank (s : State) (b : Nat) (c : BankSt) : State := { s with act.bank := s.act.bank.set {} b c }
/-- Kettle `k`. -/
def State.kettle (s : State) (k : Nat) : Kettle := s.act.kt.get {} k
/-- Write Kettle `k`. -/
def State.setKettle (s : State) (k : Nat) (c : Kettle) : State := { s with act.kt := s.act.kt.set {} k c }
/-- The diagnostics of channel `k`. -/
def State.dch (s : State) (k : Nat) : DiaCh := s.dia.ch.get {} k
/-- Write the diagnostics of channel `k`. -/
def State.setDch (s : State) (k : Nat) (c : DiaCh) : State := { s with dia.ch := s.dia.ch.set {} k c }
/-- Digitiser `b`. -/
def State.dgt (s : State) (b : Nat) : Digitiser := s.dia.dg.get {} b
/-- Write digitiser `b`. -/
def State.setDgt (s : State) (b : Nat) (c : Digitiser) : State := { s with dia.dg := s.dia.dg.set {} b c }
/-- Slot `i` of the event table. -/
def State.slot (s : State) (i : Nat) : Event := s.evs.slots.get {} i
/-- Write slot `i` of the event table. -/
def State.setSlot (s : State) (i : Nat) (e : Event) : State := { s with evs.slots := s.evs.slots.set {} i e }
/-- Sequencer `q`. -/
def State.sq (s : State) (q : Nat) : SeqSt := s.seq.sq.get {} q
/-- Write sequencer `q`. -/
def State.setSq (s : State) (q : Nat) (c : SeqSt) : State := { s with seq.sq := s.seq.sq.set {} q c }
/-- Context `i` = 8 x sequencer + slot. -/
def State.ctx (s : State) (i : Nat) : Ctx := s.seq.ctx.get {} i
/-- Write context `i`. -/
def State.setCtx (s : State) (i : Nat) (c : Ctx) : State := { s with seq.ctx := s.seq.ctx.set {} i c }
/-- The task declared for context `i`. -/
def State.task (s : State) (i : Nat) : Option Task := s.seq.task.get none i
/-- DMA channel `c`. -/
def State.dmaCh (s : State) (c : Nat) : DmaCh := s.dma.ch.get {} c
/-- Write DMA channel `c`. -/
def State.setDma (s : State) (c : Nat) (d : DmaCh) : State := { s with dma.ch := s.dma.ch.set {} c d }
/-- Timer `n`. -/
def State.timer (s : State) (n : Nat) : Timer := s.tim.tm.get {} n
/-- Write timer `n`. -/
def State.setTimer (s : State) (n : Nat) (c : Timer) : State := { s with tim.tm := s.tim.tm.set {} n c }
/-- EB unit `n`. -/
def State.ebU (s : State) (n : Nat) : Eb := s.pwm.eb.get {} n
/-- Write EB unit `n`. -/
def State.setEb (s : State) (n : Nat) (c : Eb) : State := { s with pwm.eb := s.pwm.eb.set {} n c }
/-- KC unit `k`. -/
def State.kcU (s : State) (k : Nat) : Kc := s.pwm.kc.get {} k
/-- Write KC unit `k`. -/
def State.setKc (s : State) (k : Nat) (c : Kc) : State := { s with pwm.kc := s.pwm.kc.set {} k c }
/-- Wheel input `n`. -/
def State.wheel (s : State) (n : Nat) : WheelIn := s.whl.inp.get {} n
/-- Write wheel input `n`. -/
def State.setWheel (s : State) (n : Nat) (c : WheelIn) : State := { s with whl.inp := s.whl.inp.set {} n c }
/-- The state of a host link. -/
def State.link (s : State) : Link → LinkSt
  | .spi => s.links.spi
  | .can0 => s.links.can0
  | .can1 => s.links.can1
/-- Write the state of a host link. -/
def State.setLink (s : State) (l : Link) (x : LinkSt) : State :=
  match l with
  | .spi => { s with links.spi := x }
  | .can0 => { s with links.can0 := x }
  | .can1 => { s with links.can1 := x }

/-- The link ID of R87. -/
def linkId : Link → Nat
  | .spi => 0
  | .can0 => 1
  | .can1 => 2

/-- The channels of the order code (R4). -/
def State.channels (s : State) : Nat := if s.sys.order64 then 64 else 32
/-- The banks of the order code. -/
def State.banks (s : State) : Nat := if s.sys.order64 then 8 else 4
/-- The Kettles of the order code. -/
def State.kettles (s : State) : Nat := if s.sys.order64 then 4 else 2

/-- The key store as the module can read it: from step 5 of the reset sequence (R458, R480); one that failed its
authentication at this start reads as empty (R78, R109). -/
def State.keys (s : State) : KeyStore := if s.nv.ksFail || !s.sec.regsUp then {} else s.nv.keys

/-! ## The configuration block's fields (R143) -/

/-- One byte of a block. -/
def blkU8 (b : Block) (a : Nat) : Nat := (b.get 0 a).toNat
/-- Two little-endian bytes of a block. -/
def blkU16 (b : Block) (a : Nat) : Nat := blkU8 b a + 256 * blkU8 b (a + 1)
/-- Four little-endian bytes of a block. -/
def blkU32 (b : Block) (a : Nat) : Nat := blkU16 b a + 65536 * blkU16 b (a + 2)

/-- N_TEETH in force. -/
def State.nTeeth (s : State) : Nat := blkU16 s.cfg.active 0x80
/-- GAP_MISSING in force. -/
def State.gapMissing (s : State) : Nat := blkU8 s.cfg.active 0x82
/-- GAP_COUNT in force. -/
def State.gapCount (s : State) : Nat := blkU8 s.cfg.active 0x83
/-- GAP_POS in force. -/
def State.gapPos (s : State) : Nat := blkU16 s.cfg.active 0x84
/-- CAM_MARKS in force. -/
def State.camMarks (s : State) : Nat := blkU8 s.cfg.active 0x86
/-- ZERO_OFS in force. -/
def State.zeroOfs (s : State) : Nat := blkU32 s.cfg.active 0x88
/-- STALL_US in force. -/
def State.stallUs (s : State) : Nat := blkU32 s.cfg.active 0x8C
/-- WHn ROLE in force. -/
def State.role (s : State) (n : Nat) : Nat := blkU8 s.cfg.active (0xA0 + 16 * n)
/-- WHn MODE in force. -/
def State.whMode (s : State) (n : Nat) : Nat := blkU8 s.cfg.active (0xA1 + 16 * n)
/-- WHn ARM_MV in force. -/
def State.armMv (s : State) (n : Nat) : Nat := blkU16 s.cfg.active (0xA2 + 16 * n)
/-- WHn FILT_NS in force. -/
def State.filtNs (s : State) (n : Nat) : Nat := blkU16 s.cfg.active (0xA4 + 16 * n)
/-- WHn DIR_LIM0 in force. -/
def State.dirLim0 (s : State) (n : Nat) : Nat := blkU16 s.cfg.active (0xA6 + 16 * n)
/-- WHn DIR_LIM1 in force. -/
def State.dirLim1 (s : State) (n : Nat) : Nat := blkU16 s.cfg.active (0xA8 + 16 * n)
/-- ACC_SHIFT in force. -/
def State.accShift (s : State) : Nat := blkU8 s.cfg.active 0x120
/-- MAP_MODE in force. -/
def State.mapModeCfg (s : State) : Nat := blkU8 s.cfg.active 0x121
/-- MAP_GAIN in force. -/
def State.mapGain (s : State) : Nat := blkU8 s.cfg.active 0x122
/-- The commit horizon H in force, in ns (R24). -/
def State.horizonNs (s : State) : Nat := blkU32 s.cfg.active 0x140
/-- AIM_WINDOW in force. -/
def State.aimWindow (s : State) : Nat := blkU8 s.cfg.active 0x144
/-- DROP_REC in force. -/
def State.dropRec (s : State) : Nat := blkU8 s.cfg.active 0x145
/-- SLIP_NS of a bank in force. -/
def State.slipNs (s : State) (b : Nat) : Nat := blkU16 s.cfg.active (0x168 + 2 * b)
/-- KT_BOOST of a Kettle in force. -/
def State.ktBoost (s : State) (k : Nat) : Nat := blkU16 s.cfg.active (0x178 + 2 * k)
/-- KT_CHG_MAX of a Kettle in force. -/
def State.ktChgMax (s : State) (k : Nat) : Nat := blkU8 s.cfg.active (0x180 + k)
/-- GRACE_US in force. -/
def State.graceUs (s : State) : Nat := blkU32 s.cfg.active 0x68
/-- The class in force of a fault source: 0 LOG, 1 GRACE, 2 SAFE (R417). -/
def State.faultClass (s : State) (n : Nat) : Nat :=
  bits (blkU32 s.cfg.active (0x50 + 4 * (n / 16))) (2 * (n % 16)) 2
/-- MIRROR_EN in force. -/
def State.mirrorEn (s : State) : Nat := blkU8 s.cfg.active 0x204
/-- LOG_LEVEL in force. -/
def State.logLevel (s : State) : Nat := blkU8 s.cfg.active 0x205
/-- The mode of bank `b` of a block: BANKED (R339). -/
def blkBanked (b : Block) (k : Nat) : Bool := blkU8 b (0x160 + k) == 1

/-! ## Memory (R473) -/

/-- The byte at an address of the addressable memories; a byte nothing has written reads 0 (DESIGN CHOICE, log 6). -/
def State.memByte (s : State) (a : Nat) : Byte := Table.get 0 s.mem.cells a
/-- The little-endian word at an address. -/
def State.memWord (s : State) (a : Nat) : Word := BitVec.ofNat 32 (leNat (Table.getList 0 s.mem.cells a 4))
/-- Write bytes at an address, store only: a part of a word keeps the word's error. -/
def State.memPatch (s : State) (a : Nat) (b : List Byte) : State :=
  { s with mem.cells := Table.setList 0 s.mem.cells a b }
/-- Entries of a table outside `n` indices from `a`. -/
def Table.outside {α : Type} (a n : Nat) (m : Table α) : Table α :=
  m.filter (fun e => decide (e.1 < a) || decide (a + n ≤ e.1))
/-- Write whole words at an address: an error of a replaced word is gone (R306). -/
def State.memWrite (s : State) (a : Nat) (b : List Byte) : State :=
  { s with
    mem.cells := Table.setList 0 s.mem.cells a b
    mem.bad := Table.outside a b.length s.mem.bad
    mem.reported := Table.outside a b.length s.mem.reported }
/-- Replace one whole word. -/
def State.memSetWord (s : State) (a : Nat) (w : Word) : State := s.memWrite a (leBytes 4 w.toNat)

/-! ## Interrupt controller (R401 to R411) -/

/-- The reset value of `IRC_LEVELw` (R423). -/
def levelReset (w : Nat) : Word := if w = 0 then 0x11111110 else 0x11111111
/-- `IRC_LEVELw`. -/
def State.levelWord (s : State) (w : Nat) : Word := s.irc.levels.get (levelReset w) w
/-- The level of an interrupt source (R402). -/
def State.level (s : State) (n : Nat) : Nat := bits (s.levelWord (n / 8)).toNat (4 * (n % 8)) 4

/-- The effective threshold: the larger of THR and the highest level recorded for an active source (R403). -/
def effThr (g : IrcTarget) : Nat := g.recLevel.foldl (fun m e => max m e.2) g.thr

/-- A source is deliverable to a target (R403): not while it stays active (R408). -/
def deliverable (s : State) (g : IrcTarget) (n : Nat) : Bool :=
  g.pend.getLsbD n && g.en.getLsbD n && !g.act.getLsbD n && decide (1 ≤ s.level n) && decide (effThr g < s.level n)

/-- The best deliverable source of a target, 0 if none: highest level, then lowest number (R403, R406). -/
def best (s : State) (g : IrcTarget) : Nat :=
  if g.pend &&& g.en = 0#256 then 0
  else (List.range 256).foldl
    (fun a n => if deliverable s g n && (a == 0 || decide (s.level a < s.level n)) then n else a) 0

/-- A raise at one target: the pending bit is set, or the raise is counted as coalesced (R402). -/
def IrcTarget.raise (n : Nat) (g : IrcTarget) : IrcTarget :=
  if g.pend.getLsbD n then { g with coalesced := wrapInc 16 g.coalesced }
  else { g with pend := g.pend ||| BitVec.twoPow 256 n }

/-- Interrupt sources of resources absent on the KL6420-32 (R5). -/
def absentSource (n : Nat) : Bool :=
  decide (80 ≤ n ∧ n ≤ 111) || decide (116 ≤ n ∧ n ≤ 119) || n == 122 || n == 123

/-- The module is in SLEEP or on its way back to RUN (R457, R469). -/
def asleep (s : State) : Bool := s.sys.mode == .sleep || s.sys.mode == .waking

/-- Wake cause `b` (bit order of `SYS_WAKE_SRC`) may act in the present mode: in STANDBY the causes of R467,
in SLEEP and on the way in and out those of R469, the maskable ones where enabled (DEDUCED, log 40). -/
def wakeAllowed (s : State) (b : Nat) : Bool :=
  match s.sys.mode with
  | .standby => ((b == 4 || b == 5 || b == 6) && s.sys.wakeEn.getLsbD b) || b == 7
      || b == 9 || b == 10 || b == 11 || b == 12
  | .entering | .sleep | .waking => (decide (b ≤ 6) && s.sys.wakeEn.getLsbD b) || b == 7 || b == 8
  | _ => false

/-- A wake cause arises (R467, R469): it waits for the return to RUN (DEDUCED, log 41). -/
def wake (b : Nat) (s : State) : State :=
  if wakeAllowed s b then { s with sys.wakePending := s.sys.wakePending ||| BitVec.twoPow 13 b } else s

/-- The interrupt controller's part of a raise: both targets, whatever the enables hold (R402), and the count
of raises that ends a moderation hold (R410). -/
def ircRaise (n : Nat) (c : Irc) : Irc :=
  { c with
    host := c.host.raise n
    mgmt := c.mgmt.raise n
    hold := c.hold.map (fun h => if c.host.en.getLsbD n then { h with raises := h.raises + 1 } else h) }

/-- A raise wakes the module where its level and an enable allow it (R469 bit 6). -/
def raiseWakes (s : State) (n : Nat) : Bool :=
  decide (s.sys.wakeLvl ≤ s.level n) && (s.irc.host.en.getLsbD n || s.irc.mgmt.en.getLsbD n)

/-- Interrupt source `n` is raised (R401, R402); sources of absent resources never become pending (R5). -/
def raise (n : Nat) (s : State) : State :=
  if !s.sys.order64 && absentSource n then s
  else
    let s' := { s with irc := ircRaise n s.irc }
    if raiseWakes s n then wake 6 s' else s'

/-- Raise when a condition holds. -/
def raiseIf (c : Bool) (n : Nat) (s : State) : State := if c then raise n s else s

/-- A moderation hold continues (R410 cases 2 to 4). -/
def holdStays (s : State) (b : Nat) (h : Hold) : Bool :=
  !(decide (s.irc.modCnt ≤ h.raises)
    || (b != 0 && s.irc.bypass != 0 && decide (s.irc.bypass ≤ s.level b))
    || (b != 0 && s.irc.idle != 0 && match s.irc.quiet with
        | some q => decide (q + s.irc.idle * 16 * ticksPerUs ≤ s.etc)
        | none => false))

/-- HOST_INT_N follows the sources deliverable to HOST and the moderation hold (R405, R410). -/
def settle (s : State) : State :=
  let b := best s s.irc.host
  let h := s.irc.hold.filter (holdStays s b)
  let line := b != 0 && h.isNone
  { s with irc := { s.irc with
      line := line
      hold := if s.irc.line && !line && s.irc.modUs != 0 then some { release := s.etc } else h
      quiet := if b != 0 then none else match s.irc.quiet with
        | some q => some q
        | none => some s.etc } }

/-! ## The logbook (R442 to R444) -/

/-- The bytes of a logbook entry (R442). -/
def LogEntry.bytes (e : LogEntry) : List Byte :=
  leBytes 4 e.index ++ leBytes 2 e.kind ++ leBytes 2 (48 + e.body.length) ++ leBytes 8 e.etc
    ++ beBytes 32 e.prev.toNat ++ e.body

/-- The bytes the tail buffer holds. -/
def tailFill (t : List LogEntry) : Nat := t.foldl (fun n e => n + 48 + e.body.length) 0

/-- Append an entry to the tail whatever it holds: HEAD and LOSS entries of a flush, and entries that fit. -/
def logPut (kind : Nat) (body : List Byte) (s : State) : State :=
  let e : LogEntry := { index := s.bgs.logNext, kind := kind, etc := s.etc, prev := s.bgs.lastHash, body := body }
  { s with
    bgs.tail := s.bgs.tail ++ [e]
    bgs.logNext := wrapInc 32 s.bgs.logNext
    bgs.lastHash := Config.sha256 e.bytes }

/-- Append an entry to the tail; one that would overfill 64 KiB is discarded and counted (R444). -/
def logAppend (kind : Nat) (body : List Byte) (s : State) : State :=
  if 65536 < tailFill s.bgs.tail + 48 + body.length then
    { s with bgs.logLost := satInc 0xFFFFFFFF s.bgs.logLost, bgs.lostRun := s.bgs.lostRun + 1 }
  else logPut kind body s

/-- Write an entry of a KIND whose level is at most LOG_LEVEL, with a body of 16 bytes (R443). -/
def log (kind level : Nat) (body : List Byte) (s : State) : State :=
  if level ≤ s.logLevel then logAppend kind (padTo 16 body) s else s

/-! ## The Mirror port (R446 to R449) -/

/-- The lane that carries a frame type under MIRROR_EN (R448). -/
def frameLane (en ty : Nat) : Option Nat :=
  match en % 4 with
  | 0 => none
  | 1 => some 0
  | 2 => some 1
  | _ => some (if ty = 1 ∨ ty = 8 then 1 else 0)

/-- The frame of a lane sent next: LOSS, FAULT and STATE frames ahead of the rest, each in order (R448). -/
def nextFrame (q : List Frame) : Option Frame :=
  match q.find? (fun f => f.type == 7 || f.type == 6 || f.type == 5) with
  | some f => some f
  | none => q.head?

/-- A lane that is idle begins its next frame, unless the lanes are stopped (R457). -/
def laneStart (stopped : Bool) (l : Lane) : Lane :=
  match l.sending, nextFrame l.queue with
  | none, some f => if stopped then l else { l with sending := some f, queue := l.queue.erase f }
  | _, _ => l

/-- The lanes are stopped: STANDBY, SLEEP and the passages to and from it (R457). -/
def lanesStopped (s : State) : Bool :=
  match s.sys.mode with
  | .run | .reset => false
  | _ => true

/-- Queue a frame on a lane: the LOSS frame of earlier losses goes first (R447, R448). -/
def laneQueue (n : Nat) (etc : Tick) (f : Frame) (l : Lane) : Lane × Bool :=
  if 256 ≤ l.queue.length then
    ({ l with lost := satInc 65535 l.lost, lossRun := l.lossRun + 1 }, true)
  else if l.lossRun = 0 then ({ l with queue := l.queue ++ [f] }, false)
  else
    let lf : Frame := { type := 7, data := [7, BitVec.ofNat 8 n, 0, 0] ++ leBytes 4 l.lossRun ++ leBytes 8 etc }
    if 255 ≤ l.queue.length then
      ({ l with queue := l.queue ++ [lf], lossRun := 1, lost := satInc 65535 l.lost }, true)
    else ({ l with queue := l.queue ++ [lf, f], lossRun := 0 }, false)

/-- Queue a Mirror frame of a type with its bytes after TYPE; ETC is always the last 8 bytes (R447). -/
def mirrorAt (ty : Nat) (body : List Byte) (etc : Tick) (s : State) : State :=
  let f : Frame := { type := ty, data := BitVec.ofNat 8 ty :: body ++ leBytes 8 etc }
  match frameLane s.mirrorEn ty with
  | none => s
  | some 0 =>
    let r := laneQueue 0 s.etc f s.obs.lane0
    raiseIf r.2 228 { s with obs.lane0 := laneStart (lanesStopped s) r.1 }
  | some _ =>
    let r := laneQueue 1 s.etc f s.obs.lane1
    raiseIf r.2 228 { s with obs.lane1 := laneStart (lanesStopped s) r.1 }

/-- Queue a Mirror frame with the present ETC. -/
def mirror (ty : Nat) (body : List Byte) (s : State) : State := mirrorAt ty body s.etc s

/-- A STATE frame: KIND, VALUE and the engine-cycle counter (R447, R485). -/
def mirrorState (kind value : Nat) (s : State) : State :=
  mirror 5 (BitVec.ofNat 8 kind :: leBytes 2 value ++ leBytes 4 s.evs.cycle) s

/-! ## Keys derived from DSS (R78, R87, R177) -/

/-- `n` bytes of HKDF output from position `a` (R78, R87). -/
def hkdf (salt ikm info : List Byte) (a n : Nat) : List Byte :=
  (List.range n).map (fun i => Config.hkdfByte salt ikm info (a + i))

/-- "KL6420 quickstart" (R177). -/
def quickstartInfo : List Byte :=
  [0x4B, 0x4C, 0x36, 0x34, 0x32, 0x30, 0x20, 0x71, 0x75, 0x69, 0x63, 0x6B, 0x73, 0x74, 0x61, 0x72, 0x74]

/-- K_QS (R177). -/
def quickstartKey : List Byte := hkdf (zeros 32) Config.dss quickstartInfo 0 32

/-- HMAC-SHA-256 under K_QS (R176, R207). -/
def quickstartMac (m : List Byte) : BitVec 256 := Config.hmacSha256 quickstartKey m

/-! ## Activations, wake latches and notices (R273, R278, R279, R297, R298) -/

/-- A context becomes ready, behind those ready before it (R299). -/
def makeReady (i : Nat) (s : State) : State :=
  let s := s.setCtx i { s.ctx i with state := .ready, order := s.seq.orderNext, readyAt := s.etc, wait := .none }
  { s with seq.orderNext := s.seq.orderNext + 1 }

/-- Start an activation of context `i` at ENTRY (R298). `trig`: 1 START, 2 ANGLE, 3 TIME, 4 LATCH (R316). -/
def startActivation (trig i : Nat) (t : Task) (s : State) : State :=
  makeReady i (s.setCtx i { s.ctx i with
    pc := t.entry, acts := wrapInc 16 (s.ctx i).acts, lastTrig := trig, prioNow := t.prio,
    used := 0, secondBudget := false, pending := false })

/-- A trigger of context `i` arrives (R298). -/
def activate (trig i : Nat) (s : State) : State :=
  match s.task i with
  | none => s
  | some t =>
    let c := s.ctx i
    match c.state with
    | .empty => s
    | .idle => startActivation trig i t s
    | .halted => s.setCtx i { c with overruns := satInc 255 c.overruns }
    | _ =>
      if c.pending then s.setCtx i { c with overruns := satInc 255 c.overruns }
      else s.setCtx i { c with pending := true, pendTrig := trig }

/-- Write a general register of a context; g0 discards writes (R257). -/
def Ctx.setReg (c : Ctx) (d : Nat) (v : Word) : Ctx := if d = 0 then c else { c with g := c.g.set 0 d v }

/-- A general register of a context; g0 reads as zero (R257). -/
def Ctx.reg (c : Ctx) (d : Nat) : Word := if d = 0 then 0 else c.g.get 0 d

/-- The wake latches of a context: those of an EMPTY one are the happenings for every context and every context of its
sequencer (R257, R273). -/
def State.latchesOf (s : State) (i : Nat) : BitVec 6 :=
  if (s.ctx i).state = .empty then s.seq.latches ||| (s.sq (i / 8)).latches else (s.ctx i).latches

/-- The wake latches as WAITE reads them: NOTE reads 1 while the notice queue is not empty (R273). -/
def State.latchBits (s : State) (i : Nat) : BitVec 6 :=
  (s.latchesOf i &&& 0x3D#6) ||| (if (s.sq (i / 8)).notices.isEmpty then 0#6 else 2#6)

/-- A WAITE of context `i` that finds a masked latch set: it returns the bits and clears them, except NOTE,
and the context becomes ready (R273). -/
def wakeLatch (i : Nat) (s : State) : State :=
  match (s.ctx i).wait with
  | .latch d mask _ _ =>
    let v := s.latchBits i &&& mask
    if v = 0#6 then s
    else makeReady i (s.setCtx i { (s.ctx i).setReg d (v.setWidth 32) with
      latches := (s.ctx i).latches &&& ~~~v })
  | _ => s

/-- Happening `b` of R273 sets a latch of context `i`: LATCH triggers naming it fire, and a WAITE wakes. -/
def setLatch (b i : Nat) (s : State) : State :=
  match (s.ctx i).state with
  | .empty => s
  | _ =>
    let s := if b = 1 then s else s.setCtx i { s.ctx i with latches := (s.ctx i).latches ||| BitVec.twoPow 6 b }
    let s := match s.task i with
      | some t => if t.trig = 3 ∧ t.tp0.getLsbD b then activate 4 i s else s
      | none => s
    wakeLatch i s

/-- Apply an operation to each of a list of indices, in order. -/
def forEach (l : List Nat) (f : Nat → State → State) (s : State) : State := l.foldl (fun a i => f i a) s

/-- The eight contexts of a sequencer. -/
def ctxsOf (q : Nat) : List Nat := (List.range 8).map (fun i => 8 * q + i)

/-- A happening for every context of a sequencer: the latch is set in its EMPTY contexts too; NOTE is none (R273). -/
def latchSq (b q : Nat) (s : State) : State :=
  let s := if b = 1 then s else s.setSq q { s.sq q with latches := (s.sq q).latches ||| BitVec.twoPow 6 b }
  forEach (ctxsOf q) (setLatch b) s

/-- A happening for every context. -/
def latchAll (b : Nat) (s : State) : State :=
  let s := { s with seq.latches := s.seq.latches ||| BitVec.twoPow 6 b }
  forEach (s.seq.ctx.map (·.1)) (setLatch b) s

/-- Repeat an operation. -/
def repeatN (f : State → State) : Nat → State → State
  | 0, s => s
  | n + 1, s => repeatN f n (f s)

/-- The queue part of posting a notice (R279): answers the sequencer and whether the notice was posted. -/
def noticePost (w0 w1 : Word) (c : SeqSt) : SeqSt × Bool :=
  if c.lossRun = 0 then
    if c.notices.length < 256 then ({ c with notices := c.notices ++ [(w0, w1)] }, true)
    else ({ c with nloss := satInc 65535 c.nloss, lossRun := 1 }, false)
  else if c.notices.length ≤ 254 then
    ({ c with notices := c.notices ++ [(4, BitVec.ofNat 32 c.lossRun), (w0, w1)], lossRun := 0 }, true)
  else ({ c with nloss := satInc 65535 c.nloss, lossRun := c.lossRun + 1 }, false)

/-- Post a notice to an owner's queue; OWNER 16 gets none (R278). -/
def notice (owner : Nat) (w0 w1 : Word) (s : State) : State :=
  if 16 ≤ owner then s
  else
    let r := noticePost w0 w1 (s.sq owner)
    let s := s.setSq owner r.1
    if r.2 then latchSq 1 owner s else s

/-- Word 0 of a notice (R278). -/
def noticeWord (kind detail ch user reason : Nat) : Word :=
  BitVec.ofNat 32 (kind + detail * 2 ^ 4 + ch * 2 ^ 8 + user * 2 ^ 16 + reason * 2 ^ 24)

/-- The handle of an event (R224). -/
def handleOf (slot seq : Nat) : Word := BitVec.ofNat 32 (seq + slot * 65536)

end Sys2Proof.Machine
end

