-- ==== Sys2Proof/Machine/Operands.lean ====
section
/-! DEFINITION. Operand forms: angle words and their arithmetic (00_scope.md R11, R12, 06 R214), and the
immediate forms of the angle code (08 R261). -/

namespace Sys2Proof.Machine

/-- The cycle length L = 2N x 4,096 mt (R12). -/
def State.cycleLen (s : State) : Nat := 2 * s.nTeeth * 4096

/-- The INTERVAL of an angle word (R11). -/
def angInterval (w : Word) : Nat := w.toNat / 4096

/-- The MT of an angle word (R11). -/
def angMt (w : Word) : Nat := w.toNat % 4096

/-- An angle word is valid when its INTERVAL is below 2N (R12). -/
def angValid (s : State) (w : Word) : Bool := decide (angInterval w < 2 * s.nTeeth)

/-- The forward distance between two linear angles modulo L (R214). -/
def fwdDist (len a b : Nat) : Nat := if a ≤ b then b - a else b + len - a

/-- The angle word a linear angle spells (R11, R214). -/
def angWord (lin : Nat) : Word := BitVec.ofNat 32 lin

/-- A sign-extended IMM18 (R261). -/
def sext18 (n : Nat) : Word := (BitVec.ofNat 18 n).signExtend 32

/-- A zero-extended IMM18 (R261). -/
def zext18 (n : Nat) : Word := BitVec.ofNat 32 (n % 262144)

/-- The branch target PC + 1 + OFF18 modulo 65,536 (R261, R267). -/
def branchPc (pc : BitVec 16) (off : Nat) : BitVec 16 :=
  pc + 1 + ((BitVec.ofNat 18 off).signExtend 32).setWidth 16

end Sys2Proof.Machine
end

