-- ==== Sys2Proof/Machine/Pwm.lean ====
section
/-! DEFINITION. The PWM units (12_pwm_timers.md R371 to R388, R396 to R398): counters, phases, dead time,
dropped phases, loading, enabling, trips, high impedance and the charger units with their triggers. -/

namespace Sys2Proof.Machine

/-- A cause of high impedance lasts (R384). -/
def hizCause (s : State) : Bool :=
  s.flt.safe || !s.supply.enable || s.supply.state == .holdup || s.supply.state == .down
    || asleep s

/-- `PWM_EB_STAT.STATE` (R384, R397): a unit not enabled since reset stays in high impedance (DEDUCED, log 47). -/
def ebState (s : State) (u : Eb) : Nat :=
  if hizCause s || u.hiz then 3
  else if !u.en then 0
  else if u.tripped || u.clearOk then 2
  else 1

/-- The count of a unit at an instant (R371): 1 a nanosecond from its anchor. -/
def ebCount (u : Eb) (x : Tick) : Nat :=
  if !u.en then 0
  else
    let n := (x - u.anchor) / ticksPerNs
    if u.down then u.anchorCount - n else u.anchorCount + n

/-- A prescaled event (R387): the occurrence count and whether this occurrence raises the source (DEDUCED, log 51). -/
def prescale (ips n : Nat) : Nat × Bool := if ips ≤ n then (0, true) else (n + 1, false)

/-- The ZERO event of EBn (R371, R387). -/
def ebZero (n : Nat) (s : State) : State :=
  let u := s.ebU n
  let r := prescale u.ips u.preZero
  raiseIf (r.2 && u.ie.getLsbD 0) (128 + n) (s.setEb n { u with flags := u.flags ||| 1#5, preZero := r.1 })

/-- The PER event of EBn (R371, R387). -/
def ebPer (n : Nat) (s : State) : State :=
  let u := s.ebU n
  let r := prescale u.ips u.prePer
  raiseIf (r.2 && u.ie.getLsbD 1) (128 + n) (s.setEb n { u with flags := u.flags ||| 2#5, prePer := r.1 })

/-- The CMP event of EBn (R372, R387). -/
def ebCmp (n : Nat) (s : State) : State :=
  let u := s.ebU n
  let r := prescale u.ips u.preCmp
  raiseIf (r.2 && u.ie.getLsbD 2) (128 + n) (s.setEb n { u with flags := u.flags ||| 4#5, preCmp := r.1 })

/-- The outputs of a unit are off under a trip or wait for the boundary that resumes them (R381, R383). -/
def ebHeld (u : Eb) : Bool := u.tripped || u.clearOk

/-- A trip takes effect (R381). -/
def ebTrip (n : Nat) (s : State) : State :=
  let u := s.ebU n
  raiseIf (u.ie.getLsbD 3) (128 + n) (s.setEb n { u with
    hg := false, lg := false, pendOn := none, tripped := true, clearOk := false, heldTrip := false
    flags := u.flags ||| 8#5, trips := satInc 65535 u.trips })

/-- A dead time is never blanked (R382): the blanking of an earlier turn-on ends as it begins, and a trip held until
then takes effect if its input is still active (DEDUCED, log 105). -/
def ebUnblank (n : Nat) (s : State) : State :=
  let u := s.ebU n
  if u.pendOn.isNone then s
  else
    let s := s.setEb n { u with blankEnd := none, heldTrip := false }
    if u.heldTrip && (u.filtered &&& u.tripMask) != 0#4 then ebTrip n s else s

/-- A phase begins at `x` with a length of `len` ns (R372, R374 to R376). A dropped phase changes no gate; a
phase after a dropped one turns its gate on only where it is off. The outgoing gate is off from the phase edge of a
kept phase on, also where the phases before it were dropped (R372). -/
def ebPhase (toHigh : Bool) (x : Tick) (len : Nat) (n : Nat) (s : State) : State :=
  let u := s.ebU n
  let afterDrop := u.phDrop
  if ebHeld u then s.setEb n { u with high := toHigh, phDrop := false, hg := false, lg := false, pendOn := none }
  else if toHigh && u.bstLow then
    raiseIf (u.ie.getLsbD 4) (128 + n) (s.setEb n { u with
      high := toHigh, phDrop := true, bstUv := satInc 255 u.bstUv, flags := u.flags ||| 16#5 })
  else if len != 0 && decide (len < u.act.dtMax + u.act.minPulse) then
    raiseIf (u.ie.getLsbD 4) (128 + n) (s.setEb n { u with
      high := toHigh, phDrop := true, flags := u.flags ||| 16#5
      dropH := if toHigh then satInc 65535 u.dropH else u.dropH
      dropL := if toHigh then u.dropL else satInc 65535 u.dropL })
  else
    let isOn := afterDrop && (if toHigh then u.hg else u.lg)
    ebUnblank n (s.setEb n { u with
      high := toHigh, phDrop := false, pendOn := if isOn then none else some (toHigh, x)
      hg := if toHigh then u.hg else false, lg := if toHigh then false else u.lg })

/-- The length in ns of a phase that begins at a CMP crossing (R372, R375). -/
def ebPhaseLen (u : Eb) (toHigh : Bool) : Nat :=
  match toHigh, u.updn with
  | true, false => u.act.cmp
  | true, true => 2 * u.act.cmp
  | false, false => u.act.per - u.act.cmp
  | false, true => 2 * (u.act.per - u.act.cmp)

/-- The length in ns of a phase that begins at count 0: the part before CMP is crossed, or a whole period of
one phase (R372, R375). -/
def ebZeroLen (u : Eb) : Nat :=
  if u.act.cmp = 0 then (if u.updn then 2 * u.act.per else u.act.per)
  else if u.act.per ≤ u.act.cmp then (if u.updn then 2 * u.act.per else u.act.per)
  else u.act.cmp

/-- The shadows load where DT_MIN above DT_MAX is taken as equal to it (R374, R377). -/
def ebLoad (u : Eb) : Eb :=
  { u with act := { u.shadow with dtMin := min u.shadow.dtMin u.shadow.dtMax }, armAt := none }

/-- The shadow writes that came at or after the boundary just taken count for the next (R377). -/
def ebLate (u : Eb) : Eb := { u with shadow := u.late.getD u.shadow, late := none }

/-- The unit is armed for a boundary at `x`: the arm arrived before it (R377). -/
def ebArmedFor (u : Eb) (x : Tick) : Bool :=
  match u.armAt with
  | some a => decide (a < x)
  | none => false

/-- The phase beginning at count 0 at `x`: a resumption after a trip starts it with both gates off, otherwise
a phase edge happens only where the phase changes (R372, R383). -/
def ebZeroPhase (x : Tick) (n : Nat) (s : State) : State :=
  let u := s.ebU n
  let toHigh := u.act.cmp != 0
  let resume := u.clearOk || (!u.tlatch && u.tripped && (u.filtered &&& u.tripMask) == 0#4)
  if ebHeld u && resume then
    ebPhase toHigh x (ebZeroLen u) n (s.setEb n { u with
      tripped := false
      clearOk := false, hg := false, lg := false, pendOn := none, phDrop := false })
  else if toHigh == u.high then s
  else ebPhase toHigh x (ebZeroLen u) n s

/-- A period boundary of a running unit at `x` (R371, R377, R383). -/
def ebBoundary (x : Tick) (n : Nat) (s : State) : State :=
  let u := s.ebU n
  let u := ebLate (if ebArmedFor u x then ebLoad u else u)
  let s := s.setEb n { u with anchor := x, anchorCount := 0, down := false, boundary := x }
  let s := ebZero n s
  let s := if u.updn then s else ebPer n s
  ebZeroPhase x n s

/-- The instant of a unit's next period boundary, counted from its anchor (R371). -/
def ebBoundaryDue (u : Eb) : Tick :=
  if u.updn then
    if u.down then u.anchor + u.anchorCount * ticksPerNs
    else u.anchor + (u.act.per - u.anchorCount + u.act.per) * ticksPerNs
  else u.anchor + (u.act.per - u.anchorCount) * ticksPerNs

/-- A shadow write (R377): one that arrives at or after a boundary instant counts for the boundary after it. -/
def ebShadow (f : EbVals → EbVals) (n : Nat) (s : State) : State :=
  let u := s.ebU n
  if u.en && decide (ebBoundaryDue u ≤ s.etc) then s.setEb n { u with late := some (f (u.late.getD u.shadow)) }
  else s.setEb n { u with shadow := f u.shadow }

/-- EB_PERIOD_BOUNDARY: the counter of a running unit reaches its period boundary (R371). In up-down mode the
boundary follows the PER event. `bootLow` is the bootstrap comparator at the boundary (R60, R376). -/
def doEbPeriodBoundary (n : Nat) (bootLow : Bool) (s : State) : State :=
  let u := s.ebU n
  if u.en && (!u.updn || u.down) && decide (ebBoundaryDue u ≤ s.etc) then
    ebBoundary (ebBoundaryDue u) n (s.setEb n { u with bstLow := bootLow })
  else s

/-- EB_PER_EVENT: in up-down mode the count reaches PER and turns to count down (R371). -/
def doEbPerEvent (n : Nat) (s : State) : State :=
  let u := s.ebU n
  let x := u.anchor + (u.act.per - u.anchorCount) * ticksPerNs
  if u.en && u.updn && !u.down && decide (x ≤ s.etc) then
    ebPer n (s.setEb n { u with anchor := x, anchorCount := u.act.per, down := true })
  else s

/-- The instant at which the count crosses CMP in the present run of the counter, if it does (R372). -/
def ebCrossing (u : Eb) : Option Tick :=
  if u.act.cmp = 0 ∨ u.act.per ≤ u.act.cmp then none
  else if u.down then
    if u.high ∨ u.anchorCount < u.act.cmp then none
    else some (u.anchor + (u.anchorCount - u.act.cmp) * ticksPerNs)
  else
    if !u.high ∨ u.act.cmp < u.anchorCount then none
    else some (u.anchor + (u.act.cmp - u.anchorCount) * ticksPerNs)

/-- EB_PHASE_EDGE: the count crosses CMP (R372); `bootLow` is the bootstrap comparator at the edge (R60, R376). -/
def doEbPhaseEdge (n : Nat) (bootLow : Bool) (s : State) : State :=
  let u := s.ebU n
  match u.en, ebCrossing u with
  | true, some x =>
    if x ≤ s.etc then
      ebCmp n (ebPhase (!u.high) x (ebPhaseLen u (!u.high)) n (s.setEb n { u with bstLow := bootLow }))
    else s
  | _, _ => s

/-- EB_DEAD_TIME_END: the dead time ends, by switch-node detection under ADAPT or at DT_MAX, and the incoming
gate turns on (R374); the turn-on starts blanking (R382). -/
def doEbDeadTimeEnd (n : Nat) (swung : Bool) (s : State) : State :=
  let u := s.ebU n
  match u.pendOn with
  | none => s
  | some (g, e) =>
    let byNode := u.act.adapt && swung && decide (e + u.act.dtMin * ticksPerNs ≤ s.etc)
      && decide (s.etc < e + u.act.dtMax * ticksPerNs)
    let byMax := decide (e + u.act.dtMax * ticksPerNs ≤ s.etc)
    if !byNode && !byMax then s
    else
      let on := if byNode then s.etc else e + u.act.dtMax * ticksPerNs
      let dt := if byNode then (s.etc - e) / ticksPerNs else u.act.dtMax
      let tmo := u.act.adapt && !byNode
      s.setEb n { u with
        pendOn := none
        hg := if g then true else u.hg
        lg := if g then u.lg else true
        dtRise := if g then dt else u.dtRise
        tmoR := if g then tmo else u.tmoR
        dtFall := if g then u.dtFall else dt
        tmoF := if g then u.tmoF else tmo
        blankEnd := if u.act.blank = 0 then u.blankEnd else some (on + u.act.blank * ticksPerNs) }

/-- TRIPi is enabled in the IO group (R143, R381). -/
def tripEnabled (s : State) (i : Nat) : Bool := blkU8 s.cfg.active (0x1B0 + i) % 2 == 1

/-- TRIPi is active when it is off (R143, R381). -/
def tripInverted (s : State) (i : Nat) : Bool := bitAt (blkU8 s.cfg.active (0x1B0 + i)) 1

/-- TRIPi is active after the input stage (R381, R396). -/
def tripActive (s : State) (i : Nat) : Bool := s.pwm.tripOn.getLsbD i != tripInverted s i

/-- The level of TRIPi after the input stage as it is active, or not (R61, R381). -/
def setTrip (i : Nat) (active : Bool) (s : State) : State :=
  let on := active != tripInverted s i
  { s with pwm.tripOn := if on then s.pwm.tripOn ||| BitVec.twoPow 4 i else s.pwm.tripOn &&& ~~~(BitVec.twoPow 4 i) }

/-- A unit's trip decision is blanked (R382): in a blanking interval, and not in a dead time. -/
def ebBlanked (u : Eb) (x : Tick) : Bool :=
  match u.blankEnd with
  | some b => decide (x < b) && u.pendOn.isNone
  | none => false

/-- The trip decision of a running unit for which a selected input is filtered active: taken at once, or held
during blanking (R381, R382). -/
def ebTripDecide (n : Nat) (s : State) : State :=
  let u := s.ebU n
  if !u.en then s else if ebBlanked u s.etc then s.setEb n { u with heldTrip := true } else ebTrip n s

/-- TRIP_ACCEPT: TRIPi has been active without interruption for `held` ns; once that is the unit's TRIP_FILT it is
filtered active (R381), and it trips the unit where it is selected (DEDUCED, log 49). -/
def doTripAccept (n i held : Nat) (s : State) : State :=
  let s := setTrip i true s
  let u := s.ebU n
  if !tripEnabled s i || decide (held < u.act.tripFilt * 10) then s
  else
    let s := s.setEb n { u with filtered := u.filtered ||| BitVec.twoPow 4 i }
    if u.tripMask.getLsbD i then ebTripDecide n s else s

/-- A new TRIP_MASK: an input it newly selects that is already filtered active trips the unit (R381) (DEDUCED, log
45). -/
def ebSetMask (mask : BitVec 4) (n : Nat) (s : State) : State :=
  let u := s.ebU n
  let s := s.setEb n { u with tripMask := mask }
  if (u.filtered &&& mask &&& ~~~u.tripMask) != 0#4 then ebTripDecide n s else s

/-- BLANKING_END: the blanking interval ends; a held trip takes effect if the input is still active (R382). -/
def doBlankingEnd (n : Nat) (s : State) : State :=
  let u := s.ebU n
  match u.blankEnd with
  | none => s
  | some b =>
    if s.etc < b then s
    else
      let s := s.setEb n { u with blankEnd := none, heldTrip := false }
      if u.heldTrip && u.en && (u.filtered &&& u.tripMask) != 0#4 then ebTrip n s else s

/-- A TRIPi input goes inactive for one unit (R383). -/
def ebRelease (i n : Nat) (s : State) : State :=
  s.setEb n { s.ebU n with filtered := (s.ebU n).filtered &&& ~~~(BitVec.twoPow 4 i) }

/-- TRIP_INPUT_RELEASE: a TRIPi input goes inactive; no unit's filtered trip of it stays active (R383). -/
def doTripInputRelease (i : Nat) (s : State) : State :=
  forEach (List.range 8) (ebRelease i) (setTrip i false s)

/-- The IO group takes effect: an input that is not enabled, or not active under its new MODE, is filtered active for
no unit (R143, R381). -/
def tripsApplied (s : State) : State :=
  forEach ((List.range 4).filter (fun i => !(tripEnabled s i && tripActive s i)))
    (fun i => forEach (List.range 8) (ebRelease i)) s

/-- EB_ENABLE: a write of EN = 1 starts the counter at 0 and loads the shadows (R377, R379); it has no effect
while a cause of high impedance lasts (R384). A selected trip already active is accepted (R381), and a TRIPPED
still set keeps the outputs off (R383) (DEDUCED, log 47). No row reports the bootstrap here, so that its comparator
is free (R376) (DESIGN CHOICE, log 48). -/
def doEbEnable (n : Nat) (s : State) : State :=
  let u := s.ebU n
  if u.en || hizCause s then s
  else
    let u := ebLoad { u with
      en := true, hiz := false, updn := u.updnCtl, anchor := s.etc, anchorCount := 0, down := false
      hg := false, lg := false, pendOn := none, phDrop := false, blankEnd := none, heldTrip := false
      clearOk := false, late := none, bstLow := Config.bootstrapLow s.fresh, boundary := s.etc }
    let s := { s with fresh := s.fresh + 1 }
    let s := ebPhase (u.act.cmp != 0) s.etc (ebZeroLen u) n (s.setEb n u)
    if (u.filtered &&& u.tripMask) != 0#4 then ebTrip n s else s

/-- Both gates off and the counter stopped: no further events follow (R379). TRIPPED clears only under R383,
and an arm only at a load (R377). -/
def ebStop (u : Eb) : Eb :=
  { u with
    en := false, hg := false, lg := false, pendOn := none, phDrop := false, blankEnd := none, heldTrip := false
    clearOk := false, high := false, down := false, shadow := u.late.getD u.shadow, late := none }

/-- EB_DISABLE: a write of EN = 0 switches both gates off and stops the counter (R379). -/
def doEbDisable (n : Nat) (s : State) : State := s.setEb n (ebStop (s.ebU n))

/-- Every EB unit is disabled: an entry to high impedance (R384). -/
def ebAllOff (s : State) : State := forEach (List.range 8) doEbDisable s

/-- EB_LOAD_ARM: the unit is armed to load its shadows at its next boundary (R377). An arm already waiting
keeps its instant. -/
def doEbLoadArm (n : Nat) (s : State) : State :=
  let u := s.ebU n
  s.setEb n { u with armAt := match u.armAt with
    | some a => some a
    | none => some s.etc }

/-- PWM_GLB_LOAD arms every named unit at one instant (R377). -/
def doPwmGlbLoad (mask : Nat) (s : State) : State :=
  forEach ((List.range 8).filter (fun n => bitAt mask n)) doEbLoadArm s

/-- PWM_GLB_START enables every named unit at one instant (R379). -/
def doPwmGlbStart (mask : Nat) (s : State) : State :=
  forEach ((List.range 8).filter (fun n => bitAt mask n)) doEbEnable s

/-- A PER value within its range (R371, R396). -/
def clampPer (v : Nat) : Nat := clampNat 100 16777215 v

/-- The rest in ns of the phase a unit is in after an immediate CMP write at count `c` (R375, R378). -/
def ebRest (u : Eb) (toHigh : Bool) (c : Nat) : Nat :=
  match toHigh, u.updn, u.down with
  | true, false, _ => u.act.cmp - c
  | true, true, false => u.act.cmp - c
  | true, true, true => c + u.act.cmp
  | false, false, _ => u.act.per - c
  | false, true, false => (u.act.per - c) + (u.act.per - u.act.cmp)
  | false, true, true => c - u.act.cmp

/-- The bootstrap comparator of a unit at an instant no row reports it (R376): free (DESIGN CHOICE, log 48). -/
def bootstrapFree (n : Nat) (s : State) : State :=
  { s.setEb n { s.ebU n with bstLow := Config.bootstrapLow s.fresh } with fresh := s.fresh + 1 }

/-- A phase edge at once where the count lies on the other side of CMP than the phase (R372, R378), the bootstrap then
free (R376) (DESIGN CHOICE, log 48). -/
def ebRecross (n : Nat) (s : State) : State :=
  let u := s.ebU n
  let c := ebCount u s.etc
  let toHigh := decide (c < u.act.cmp) || decide (u.act.per ≤ u.act.cmp)
  if u.en && toHigh != u.high then
    ebPhase toHigh s.etc (ebRest u toHigh c) n (bootstrapFree n s)
  else s

/-- An immediate PER write on a running unit; the shadow is bypassed (R378) (DEDUCED, log 46). In up-down mode a count
set to a new PER may lie on the other side of CMP: the phase follows the count (R372). -/
def ebImmPer (v n : Nat) (s : State) : State :=
  let u := s.ebU n
  let c := ebCount u s.etc
  let set := s.setEb n { u with act.per := v }
  if !u.en then set
  else if !u.updn then (if v ≤ c then ebBoundary s.etc n (bootstrapFree n set) else set)
  else if u.down then
    (if v < c then ebRecross n (set.setEb n { set.ebU n with anchor := s.etc, anchorCount := v }) else set)
  else if v ≤ c then
    ebRecross n (ebPer n (set.setEb n { set.ebU n with anchor := s.etc, anchorCount := v, down := true }))
  else set

/-- An immediate CMP write; the shadow is bypassed (R378) (DEDUCED, log 46): a phase edge at once where the count lies
on the other side than before. -/
def ebImmCmp (v n : Nat) (s : State) : State := ebRecross n (s.setEb n { s.ebU n with act.cmp := v })

/-- EB_IMMEDIATE_WRITE: with IMM set a PER or CMP write takes effect on arrival; with IMM clear it goes to the
shadow (R377, R378). -/
def doEbWrite (n : Nat) (which : EbValue) (value : Word) (s : State) : State :=
  let u := s.ebU n
  let v := value.toNat % 16777216
  match which with
  | .per => if u.imm then ebImmPer (clampPer v) n s else ebShadow (fun x => { x with per := clampPer v }) n s
  | .cmp => if u.imm then ebImmCmp v n s else ebShadow (fun x => { x with cmp := v }) n s

/-- EB_TRIP_CLEAR: a W1C to TRIPPED is accepted, or refused and counted while a selected trip is filtered
active (R383). -/
def doEbTripClear (n : Nat) (s : State) : State :=
  let u := s.ebU n
  if !u.tripped then s
  else if (u.filtered &&& u.tripMask) != 0#4 then s.setEb n { u with clrRef := satInc 255 u.clrRef }
  else s.setEb n { u with tripped := false, clearOk := u.en }

/-! ## KC units -/

/-- KCk may run: its Kettle is CHARGING, READY or LOWERING and its charger has a limit
(R335, R457) and its capacitance has been measured (R434). -/
def kcMayRun (s : State) (k : Nat) : Bool :=
  s.sys.mode == .run && (s.kettle k).chgW != 0 && (s.kettle k).capUf != 0 && match (s.kettle k).state with
    | .charging | .ready | .lowering => true
    | _ => false

/-- KCk stops (R385); the triggers go on in what periods it has (R418) (DEDUCED, log 102). -/
def kcStop (k : Nat) (s : State) : State :=
  s.setKc k { s.kcU k with running := false, per := 0, cmp := 0, cmpDone := true }

/-- One KC event with its prescaler (R387). -/
def kcZero (k : Nat) (s : State) : State :=
  let u := s.kcU k
  let r := prescale u.ips u.preZero
  raiseIf (r.2 && u.ie.getLsbD 0) (136 + k) (s.setKc k { u with flags := u.flags ||| 1#7, preZero := r.1 })

/-- The PER event of KCk. -/
def kcPer (k : Nat) (s : State) : State :=
  let u := s.kcU k
  let r := prescale u.ips u.prePer
  raiseIf (r.2 && u.ie.getLsbD 1) (136 + k) (s.setKc k { u with flags := u.flags ||| 2#7, prePer := r.1 })

/-- The CMP event of KCk. -/
def kcCmp (k : Nat) (s : State) : State :=
  let u := s.kcU k
  let r := prescale u.ips u.preCmp
  raiseIf (r.2 && u.ie.getLsbD 2) (136 + k) (s.setKc k { u with flags := u.flags ||| 4#7, preCmp := r.1, cmpDone := true })

/-- The count of KCk has reached CMP in the period that runs: its CMP event, once a period (R387). -/
def kcReached (k : Nat) (s : State) : State :=
  let u := s.kcU k
  if u.running && !u.cmpDone && u.cmp != 0 && decide (u.cmp < u.per) && decide (u.boundary + u.cmp * ticksPerNs ≤ s.etc)
  then kcCmp k s else s

/-- The CMP events of the KC units that time has brought. -/
def kcNow (s : State) : State := forEach (List.range 4) kcReached s

/-- KC_PERIOD_BOUNDARY: a charger period ends and Kettle control loads the new period and on-time (R385); a
stopped unit that may run starts, one that may not stops. The on-time is 0 while the charger is off (R334). -/
def doKcPeriodBoundary (k per cmp : Nat) (s : State) : State :=
  let u := s.kcU k
  if !kcMayRun s k then kcStop k s
  else
    let x := if u.running then u.boundary + u.per * ticksPerNs else s.etc
    if s.etc < x then s
    else
      let s := if u.running then kcPer k (kcZero k s) else s
      let on := if (s.kettle k).chgOn then cmp % 16777216 else 0
      s.setKc k { s.kcU k with
        running := true, per := per % 16777216, cmp := on, boundary := x, cmpDone := false
        trig := Table.mapAll {} (fun g => { g with fired := false }) (s.kcU k).trig }

/-- A KC trigger's instant in the period in force (R386). -/
def kcTrigAt (u : Kc) (g : KcTrig) : Tick := u.boundary + u.per * g.frac / 65536 * ticksPerNs

/-- KC_TRIGGER: a trigger compare fires once a period and takes a digitiser sample, or is missed while the
digitiser captures (R386). -/
def doKcTrigger (k j : Nat) (code : BitVec 12) (s : State) : State :=
  let u := s.kcU k
  let g := u.trig.get {} j
  let x := kcTrigAt u g
  if !(u.running && g.en && !g.fired && decide (x ≤ s.etc) && decide (x < u.boundary + u.per * ticksPerNs)) then s
  else
    let b := 2 * k + g.bsel.toNat
    let d := s.dgt b
    match d.capture with
    | some _ =>
      s.setKc k { u with trig := u.trig.set {} j { g with
        fired := true, missed := true, misses := satInc 255 g.misses } }
    | none =>
      let settling := d.mux != g.ch || match d.muxAt with
        | some m => decide (x < m + 500 * ticksPerNs)
        | none => false
      let s := s.setDgt b { d with mux := g.ch, muxAt := if d.mux != g.ch then some x else d.muxAt }
      raiseIf (u.ie.getLsbD (3 + j)) (136 + k) (s.setKc k { u with
        flags := u.flags ||| BitVec.twoPow 7 (3 + j)
        trig := u.trig.set {} j { g with
          fired := true, code := code, settling := settling, missed := false
          sat := code == 0x800#12 || code == 0x7FF#12, tseq := wrapInc 16 g.tseq } })

end Sys2Proof.Machine
end

