-- ==== Sys2Proof/Machine/Timers.lean ====
section
/-! DEFINITION. The timers (12_pwm_timers.md R389 to R395, R399, R400). A chain of masters and slaves acts in
one step; `fuel` bounds its length by the 24 timers. -/

namespace Sys2Proof.Machine

/-- The nanoseconds of a time timebase (R389); 0 for the timebases that count edges or expiries. -/
def tbNs : Nat → Nat
  | 0 => 1
  | 1 => 10
  | 2 => 100
  | 3 => 1000
  | 4 => 1000000
  | _ => 0

/-- The count of a timer at an instant (R389). -/
def timCount (m : Timer) (x : Tick) : Nat :=
  match m.state with
  | .running => if tbNs m.run.tb = 0 then m.count else (x - m.start) / (tbNs m.run.tb * ticksPerNs)
  | _ => m.count

/-- What happens to a timer of a chain: it starts, or its master or count makes it expire. -/
inductive TimOp where
  | start
  | expire
  deriving DecidableEq, Repr

/-- The slaves a start or an expiry of timer `n` reaches, in ascending order: LINK 2 timers at a start (R392);
armed LINK 1 timers start and, outside SLEEP (R394), TB 6 timers count at an expiry (R389, R392). -/
def timFollow (rec : TimOp → Nat → Tick → State → State) (op : TimOp) (n : Nat) (x : Tick) (m : Nat) (s : State) :
    State :=
  let c := s.timer m
  match op with
  | .start =>
    if c.ctl.link = 2 ∧ c.ctl.master = n then
      if n < m then rec .start m x s else if m = n then s else s.setTimer m { c with linkErr := true }
    else s
  | .expire =>
    if c.state = .armed ∧ c.run.link = 1 ∧ c.run.master = n then
      rec .start m x s
    else if c.state = .running ∧ c.run.tb = 6 ∧ c.run.master = n ∧ asleep s = false then
      let s := s.setTimer m { c with count := c.count + 1 }
      if c.target.toNat ≤ c.count + 1 then rec .expire m x s else s
    else s

/-- Start or expire timer `n` at `x` with everything that follows in the same instant (R389 to R392, R395). -/
def timAct : Nat → TimOp → Nat → Tick → State → State
  | 0, _, _, _, s => s
  | f + 1, .start, n, x, s =>
    let c := s.timer n
    let s := s.setTimer n { c with
      run := c.ctl, state := .running, start := x, count := 0, edges := 0, madeUp := false, unseen := false
      linkErr := false, lastEdge := none }
    let s := if c.target = 0 then timAct f .expire n x s else s
    (List.range 24).foldl (fun a m => timFollow (timAct f) .start n x m a) s
  | f + 1, .expire, n, x, s =>
    let c := s.timer n
    let s := raiseIf c.ieExp (144 + n) (s.setTimer n { c with
      state := .expired, exp := true, count := c.target.toNat, expAt := x })
    let s := if n = 22 then wake 4 s else if n = 23 then wake 5 s else s
    (List.range 24).foldl (fun a m => timFollow (timAct f) .expire n x m a) s

/-- The depth of the longest chain of timers. -/
def timFuel : Nat := 50

/-- The expiry instant of a running timer with a time timebase (R389). -/
def timDue (c : Timer) : Tick := c.start + c.target.toNat * tbNs c.run.tb * ticksPerNs

/-- The timer's clock runs in the present power mode: in SLEEP only TM22 and TM23 (R393, R394, R457). -/
def timRuns (s : State) (n : Nat) : Bool := !asleep s || n == 22 || n == 23

/-- A running timer with a time timebase has expired before an instant (R389). -/
def timOverdue (s : State) (n : Nat) (x : Tick) : Bool :=
  let c := s.timer n
  c.state == .running && tbNs c.run.tb != 0 && decide (timDue c < x) && timRuns s n

/-- An expiry earlier than an instant comes before what happens at it. -/
def timBefore (n : Nat) (x : Tick) (s : State) : State :=
  if timOverdue s n x then timAct timFuel .expire n (timDue (s.timer n)) s else s

/-- TIMER_START: a write of START (R390); a LINK with a MASTER not below the timer is refused, a LINK 1 timer is
armed for its master (R392) (DEDUCED, log 50). At the expiry instant itself there is no expiry (R395). -/
def doTimerStart (n : Nat) (s : State) : State :=
  let s := timBefore n s.etc s
  let c := s.timer n
  if c.ctl.link ≠ 0 ∧ n ≤ c.ctl.master then s.setTimer n { c with linkErr := true, state := .stopped }
  else if c.ctl.link = 1 then
    s.setTimer n { c with
      run := c.ctl, state := .armed, count := 0, edges := 0, madeUp := false, unseen := false, linkErr := false
      lastEdge := none }
  else timAct timFuel .start n s.etc s

/-- TIMER_STOP: the count holds and the timer does not expire (R390); at the expiry instant it expires (R395). -/
def doTimerStop (n : Nat) (s : State) : State :=
  let s := timBefore n (s.etc + 1) s
  let c := s.timer n
  match c.state with
  | .running => s.setTimer n { c with count := timCount c s.etc, state := .stopped }
  | .armed => s.setTimer n { c with state := .stopped }
  | _ => s

/-- TIMER_TARGET_WRITE: a TARGET write acts on arrival; one at or below the count expires the timer (R390). -/
def doTimerTargetWrite (n : Nat) (target : Word) (s : State) : State :=
  let s := timBefore n s.etc s
  let c := s.timer n
  let s := s.setTimer n { c with target := target }
  if c.state = .running ∧ target.toNat ≤ timCount c s.etc then timAct timFuel .expire n s.etc s else s

/-- TIM_GLB_START: every timer named starts at one instant (R390). -/
def doTimGlbStart (mask : Nat) (s : State) : State :=
  forEach ((List.range 24).filter (fun n => bitAt mask n)) doTimerStart s

/-- TIMER_EXPIRY: the count of a running timer with a time timebase reaches TARGET, at exactly start + TARGET x u
(R389); the other timebases expire at the edge or the master expiry that reaches it. -/
def doTimerExpiry (n : Nat) (s : State) : State :=
  let c := s.timer n
  if c.state = .running ∧ tbNs c.run.tb ≠ 0 ∧ timDue c ≤ s.etc ∧ timRuns s n = true then
    timAct timFuel .expire n (timDue c) s
  else s

/-- The edges CAPm accepts (R143): rising with MODE bit 1, falling with bit 2. -/
def capSelected (s : State) (m : Nat) (rising : Bool) : Bool :=
  bitAt (blkU8 s.cfg.active (0x1A0 + m)) (if rising then 1 else 2)

/-- The count of a timer at a stamp (R391): an edge accepted after the expiry keeps the count of its stamp. -/
def timCountAt (c : Timer) (x : Tick) : Nat :=
  if tbNs c.run.tb = 0 then c.count else (x - c.start) / (tbNs c.run.tb * ticksPerNs)

/-- An accepted edge of a timer in capture mode: every PS-th one is captured with its stamp, and with RESTART the count
of a timer that runs begins again there (R391). -/
def captureAt (alive : Bool) (n : Nat) (stamp : Tick) (s : State) : State :=
  let c := s.timer n
  let e := c.edges + 1
  if !c.run.capture then s
  else if e % c.run.ps ≠ 0 then s.setTimer n { c with edges := e }
  else raiseIf c.ieCap (144 + n) (s.setTimer n { c with
    edges := e, capt := BitVec.ofNat 32 (timCountAt c stamp), captEtc := stamp, new := true
    ovr := c.ovr || c.new
    start := if c.run.restart && alive then stamp else c.start
    count := if c.run.restart && alive then 0 else c.count })

/-- CAPTURE_EDGE: an accepted edge of the CAP input counts (TB 5) and, in capture mode, every PS-th one is
captured with its stamp (R391); an edge stamped up to the expiry instant is captured, and the expiry follows it
(R395) (DEDUCED, log 53). An edge within FILT of the one before it, of either direction, is not accepted (R395). -/
def doCaptureEdge (n : Nat) (stamp : Tick) (rising : Bool) (s : State) : State :=
  let c := s.timer n
  let timed := tbNs c.run.tb ≠ 0
  let alive := c.state = .running ∧ asleep s = false ∧ (timed → stamp ≤ timDue c)
  let late := c.state = .expired ∧ stamp ≤ c.expAt ∧ c.start ≤ stamp
  let near := match c.lastEdge with
    | some e => decide (stamp < e + c.run.filt * ticksPerNs)
    | none => false
  if s.etc < stamp + c.run.filt * ticksPerNs ∨ near = true ∨ ¬(alive ∨ late) then s
  else if !(capSelected s c.run.cap rising) then s.setTimer n { c with lastEdge := some stamp }
  else
    let c := { c with lastEdge := some stamp }
    let c := if alive ∧ c.run.tb = 5 then { c with count := c.count + 1 } else c
    let s := captureAt (decide alive) n stamp (s.setTimer n c)
    if alive ∧ (c.run.tb = 5 ∧ c.target.toNat ≤ c.count ∨ timed ∧ stamp = timDue c) then
      timAct timFuel .expire n stamp s
    else s

end Sys2Proof.Machine
end

