-- ==== Sys2Proof/Machine/Parts.lean ====
section
/-! DEFINITION. Operations several families share: Kettle levels and the charger limit (R334 to R337), boost
reservations (R338), the end of a profile (R329, R333), the start of a capture (R355), and the drop of an event
with its record, counts and notices (R244, R245, R278). -/

namespace Sys2Proof.Machine

/-! ## Kettles (R334 to R337) -/

/-- The bank of a channel. -/
def bankOf (k : Nat) : Nat := k / 8
/-- The Kettle of a bank. -/
def ktOf (b : Nat) : Nat := b / 2

/-- The thermal derating of a charger in W (R72): 150 until a measurement says otherwise. -/
def derate (s : State) (k : Nat) : Nat := s.supply.derateW.get 150 k

/-- A domain's junction temperature has reached 150 degrees C, so its charger's input is halved (R73): the
charger's own domain or a bank it feeds. -/
def halved (s : State) (k : Nat) : Bool :=
  decide (2 ≤ s.supply.heat.get 0 (8 + k)) || decide (2 ≤ s.supply.heat.get 0 (2 * k))
    || decide (2 ≤ s.supply.heat.get 0 (2 * k + 1))

/-- The charger input power limit in W (R335); 0 in HOLDUP, with ENABLE off, before step 9 of the reset sequence
and where the chargers are stopped (R457, R458). -/
def chgLimit (s : State) (k : Nat) : Nat :=
  if s.supply.state = .holdup ∨ s.supply.state = .down ∨ s.supply.enable = false ∨ s.sys.mode ≠ .run then 0
  else
    let t := if halved s k then derate s k / 2 else derate s k
    let m := min (s.ktChgMax k * 10) t
    if s.supply.state = .backup then min m (blkU8 s.cfg.active 0x40 * 15) else m

/-- The charging deadline from now (R336): twice the time the limit needs, at 90 % efficiency, to charge the
measured capacitance from 0 V to the target; none while the limit is 0 or the capacitance is not measured. -/
def chgDeadline (s : State) (k : Nat) : Option Tick :=
  let q := s.kettle k
  if q.chgW = 0 ∨ q.capUf = 0 then none
  else some (s.etc + q.capUf * q.target * q.target * 80000 / (36 * q.chgW))

/-- The state the level gives a Kettle (R334): V in 0.25 V against the target in 0.5 V, with the tolerance
d = 1 % of U + 0.5 V. -/
def ktLevel (target volt : Nat) : KtState :=
  if target = 0 then .off
  else if volt * 100 + 2 * target + 200 < 200 * target then .charging
  else if volt ≤ 2 * target + 8 then .ready
  else .lowering

/-- The state a Kettle takes now (R334): BLEED in SAFE and DOWN, FAULT until reset, else by its level (DEDUCED, log
103). -/
def ktNext (s : State) (k : Nat) : KtState :=
  if s.flt.safe || s.supply.state == .down then .bleed
  else if (s.kettle k).faulted then .fault
  else ktLevel (s.kettle k).target (s.kettle k).volt

/-- A Kettle's bleed (R334, R336, R488). -/
def ktBleed (st : KtState) (target volt : Nat) (on : Bool) : Bool :=
  match st with
  | .off => decide (168 < volt)
  | .lowering => true
  | .fault => decide ((if target = 0 then 168 else 2 * target) < volt)
  | .bleed => decide (240 ≤ volt)
  | .charging | .ready =>
    if decide (min (2 * target + 16) 608 < volt) then true else on && decide (2 * target + 8 < volt)

/-- A Kettle's charger (R334): on in CHARGING; in READY on below U - 0.5 V, off at U and as it was between them; off
in the other states. -/
def ktCharges (st : KtState) (target volt : Nat) (on : Bool) : Bool :=
  match st with
  | .charging => true
  | .ready => decide (volt + 2 < 2 * target) || (on && decide (volt < 2 * target))
  | _ => false

/-- Bring a Kettle to a state: a change raises its source, sets or ends the charging deadline, and stops KCk
where R385 says so. -/
def ktEnter (k : Nat) (st : KtState) (s : State) : State :=
  let q := s.kettle k
  let q := { q with chgOn := ktCharges st q.target q.volt q.chgOn }
  let bleed := ktBleed st q.target q.volt q.bleedOn || (s.sys.mode == .entering && decide (168 < q.volt))
  let q := { q with bleedOn := bleed, fall := if bleed then q.fall else none }
  if q.state = st then s.setKettle k q
  else
    let s := s.setKettle k { q with
      state := st
      deadline := if st = .charging then chgDeadline s k else none }
    let s := match st with
      | .off | .fault | .bleed => kcStop k s
      | _ => s
    raise (120 + k) s

/-- Bring a Kettle to the state its level, SAFE and its faults give it (R334). -/
def ktUpdate (k : Nat) (s : State) : State := ktEnter k (ktNext s k) s

/-- The charger input limit follows its causes; a change while CHARGING sets the deadline afresh (R335, R336). -/
def ktLimit (k : Nat) (s : State) : State :=
  let q := s.kettle k
  let w := chgLimit s k
  if w = q.chgW then s
  else
    let s := s.setKettle k { q with chgW := w }
    let s := if w = 0 then kcStop k s else s
    if q.state = .charging then s.setKettle k { s.kettle k with deadline := chgDeadline s k } else s

/-! ### The bleed (R488) -/

/-- The largest number up to `n` whose square is at most `x`. -/
def sqrtUpTo : Nat → Nat → Nat
  | 0, _ => 0
  | n + 1, x => if (n + 1) * (n + 1) ≤ x then n + 1 else sqrtUpTo n x

/-- The decay from `v` through `ohm` in `x` ticks, as 64 equal steps of the resistive path (R488). -/
def passiveFall (ohm cap v x : Nat) : Nat :=
  let n := 64 * 8000 * ohm * cap
  v * n ^ 64 / (n + x) ^ 64

/-- The voltage in 0.25 V to which a bleed of `mw` above 42 V and of `ohm` below it alone takes a Kettle of `cap` µF
from `v0` in `dt` ticks (R488): V² falls by 2 P t / C. -/
def bleedFall (mw ohm cap v0 dt : Nat) : Nat :=
  let t42 := if v0 ≤ 168 then 0 else (v0 * v0 - 168 * 168) * 250000 * cap / mw
  if dt ≤ t42 then sqrtUpTo v0 (v0 * v0 - mw * dt / (250000 * cap)) else passiveFall ohm cap (min v0 168) (dt - t42)

/-- No channel of a Kettle's banks runs or recovers: nothing but its charger and its bleed moves it. -/
def ktQuiet (s : State) (k : Nat) : Bool := (List.range 16).all (fun i => (s.chan (16 * k + i)).phase == .idle)

/-- From this measurement on the bleed alone moves the Kettle, where it is on and its banks are at rest (R488). -/
def markFall (k : Nat) (s : State) : State :=
  let q := s.kettle k
  s.setKettle k { q with
    fall := if q.bleedOn && !q.chgOn && ktQuiet s k && q.capUf != 0 then some (s.etc, q.volt) else none }

/-- A profile of its banks moves a Kettle too. -/
def fallEnds (k : Nat) (s : State) : State := s.setKettle k { s.kettle k with fall := none }

/-- `ACT_KT_VOLT.VOLT` (R350): the measured voltage, which follows the fall of R488 at the bleed's own power. -/
def ktShown (s : State) (k : Nat) : Nat :=
  let q := s.kettle k
  match q.fall with
  | some (t0, v0) => bleedFall (4000 + Config.bleedMw k % 2001) (9000 + Config.bleedOhm k % 2001) q.capUf v0 (s.etc - t0)
  | none => q.volt

/-- The limits of all chargers. -/
def ktLimits (s : State) : State := forEach (List.range s.kettles) ktLimit s

/-- A new target waiting under R337 applies once no event committed before its boundary still awaits the end of
its PEAK (DEDUCED, log 36). -/
def ktTargetNow (k : Nat) (s : State) : State :=
  let q := s.kettle k
  match q.waiting, q.waitFor with
  | some u, [] => ktUpdate k (s.setKettle k { q with target := u, waiting := none })
  | _, _ => s

/-- The event of slot `i` has ended PEAK or is gone: a target need not wait for it (R337). -/
def ktPassed (k i : Nat) (s : State) : State :=
  let q := s.kettle k
  if q.waiting.isNone then s
  else ktTargetNow k (s.setKettle k { q with waitFor := q.waitFor.filter (fun j => j != i) })

/-- Release a reservation of boost energy (R338). -/
def ktRelease (k amount : Nat) (s : State) : State :=
  let q := s.kettle k
  s.setKettle k { q with res := q.res - amount }

/-! ## Captures (R355) -/

/-- A channel's turn-off finds the digitiser busy (R355). -/
def digitiserBusy (k : Nat) (s : State) : State :=
  let h := s.dch k
  let d := s.dgt (bankOf k)
  (s.setDch k { h with last := 3, busy := satInc 255 h.busy }).setDgt (bankOf k)
    { d with busyMiss := satInc 65535 d.busyMiss }

/-- The capture of a channel in the place of one begun at the same instant: its sequence number stands. -/
def takeCapture (k : Nat) (off : Tick) (c : Capture) (s : State) : State :=
  let h := s.dch k
  let d := s.dgt (bankOf k)
  s.setDgt (bankOf k) { d with
    capture := some { ch := k, off := off, cfg := h.cfg, seq := c.seq, ev := (s.chan k).ev, cycle := s.evs.cycle }
    ch := k % 8, dec := h.cfg.dec }

/-- A channel reaches its turn-off instant: its capture starts, or is lost to a busy digitiser (R355, R357). Of two
channels that turn off at one instant the lower takes the digitiser (R365). -/
def beginCapture (k : Nat) (off : Tick) (s : State) : State :=
  let h := s.dch k
  if !h.cfg.en then s
  else
    let b := bankOf k
    let d := s.dgt b
    match d.capture with
    | some c =>
      if c.off = off ∧ k < c.ch ∧ c.count = 0 then digitiserBusy c.ch (takeCapture k off c s) else digitiserBusy k s
    | none =>
      let q := wrapInc 16 d.trseq
      s.setDgt b { d with
        capture := some { ch := k, off := off, cfg := h.cfg, seq := q, ev := (s.chan k).ev, cycle := s.evs.cycle }
        ch := k % 8, trseq := q, count := 0, dec := h.cfg.dec, detIdx := 0x7FF
        captures := wrapInc 16 d.captures }

/-! ## The end of a profile -/

/-- PEAK of a running profile ends (R326, R337, R338, R345): the energy drawn is counted, the reservation
released. -/
def peakOver (k energyUj : Nat) (s : State) : State :=
  let c := s.chan k
  let s := ktRelease (ktOf (bankOf k)) c.ev.reserve s
  let s := s.setChan k { c with
    ev := { c.ev with reserve := 0 }
    eboost := if c.peakSel = 1 then (c.eboost + energyUj) % 2 ^ 64 else c.eboost }
  ktPassed (ktOf (bankOf k)) c.evSlot s

/-- The energy a PEAK drew where no command measures it: free (DESIGN CHOICE, log 4). -/
def freePeakEnergy (s : State) : Nat := Config.peakEnergy s.fresh

/-- A phase change, switch or chopping edge in a bank (R357). -/
def bankEdge (b : Nat) (x : Tick) (s : State) : State := s.setBank b { s.bank b with lastSwitch := some x }

/-- A running profile goes to TURN-OFF at `off` (R319, R329): feed and low side open, recovery begins and the
capture starts. -/
def turnOff (k : Nat) (off : Tick) (lastEnd energyUj : Nat) (s : State) : State :=
  let s := if (s.chan k).phase = .peak then
      let s := peakOver k energyUj s
      s.setChan k { s.chan k with peakOk := false }
    else s
  let c := s.chan k
  let s := s.setChan k { c with
    phase := .turnOff, lastEnd := lastEnd, feedOn := false, withheld := false, offAt := off, phaseAt := off
    lastOff := some off, dither := 0 }
  beginCapture k off (bankEdge (bankOf k) off s)

/-- A profile is running on channel `k`: started and not yet turned off. -/
def running (s : State) (k : Nat) : Bool :=
  match (s.chan k).phase with
  | .peak | .transition | .steep => true
  | _ => false

/-- A running profile ends early at an instant for a cause of R333: the cause, the count and the channel
source. -/
def endAt (cause : Nat) (off : Tick) (k : Nat) (s : State) : State :=
  if !running s k then s
  else
    let e := freePeakEnergy s
    let s := turnOff k off cause e { s with fresh := s.fresh + 1 }
    raise (48 + k) (s.setChan k { s.chan k with terms := satInc 255 (s.chan k).terms })

/-- A running profile ends early now. -/
def endEarly (cause k : Nat) (s : State) : State := endAt cause s.etc k s

/-- Every running profile ends early (R333). -/
def endAll (cause : Nat) (s : State) : State := forEach (List.range 64) (endEarly cause) s

/-- Every running profile of a bank ends early. -/
def endBank (cause b : Nat) (s : State) : State :=
  forEach ((List.range 8).map (fun i => 8 * b + i)) (endEarly cause) s

/-- Off-state tests stop and their bias is removed; an aborted test yields no result (R362, R418). -/
def stopTests (p : Nat → Bool) (s : State) : State :=
  forEach ((s.dia.ch.map (·.1)).filter p)
    (fun k s => s.setDch k { s.dch k with test := none, testSingle := false }) s

/-! ## Drops (R244, R245, R278) -/

/-- The cycle-record counter a reason is counted in (R244): 1 LATE, 2 GATE, 3 ENERGY, 4 OTHER. -/
def dropCounter (reason : Nat) : Nat :=
  if reason ≤ 6 then 1 else if reason = 7 then 2 else if reason ≤ 10 then 3 else 4

/-- Count a drop in a cycle's record; each counter saturates at 65,535. -/
def countDrop (reason : Nat) (c : CycleCounts) : CycleCounts :=
  match dropCounter reason with
  | 1 => { c with late := satInc 65535 c.late }
  | 2 => { c with gate := satInc 65535 c.gate }
  | 3 => { c with energy := satInc 65535 c.energy }
  | _ => { c with other := satInc 65535 c.other }

/-- The drop record of R245. -/
def dropBytes (s : State) (i : Nat) (e : Event) (ch reason detail : Nat) : List Byte :=
  leBytes 8 s.etc ++ leBytes 4 e.target.toNat ++ leBytes 2 e.seq ++ leBytes 2 i
    ++ [BitVec.ofNat 8 ch, BitVec.ofNat 8 e.prof, BitVec.ofNat 8 e.ctag, BitVec.ofNat 8 e.user,
        BitVec.ofNat 8 reason, BitVec.ofNat 8 detail, BitVec.ofNat 8 e.owner, 0]
    ++ leBytes 4 s.evs.cycle ++ zeros 4

/-- The counts, record, source and Mirror frame of a drop (R244, R245, R447): all but the slot and the
notice. -/
def recordDrop (i : Nat) (e : Event) (ch reason detail : Nat) (s : State) : State :=
  let bytes := dropBytes s i e ch reason detail
  let s := if e.ctag = s.evs.cycle % 256 then { s with evs.cur := countDrop reason s.evs.cur }
    else { s with evs.next := countDrop reason s.evs.next }
  let s := { s with evs.drops := wrapInc 32 s.evs.drops }
  let s := if bitAt s.dropRec 0 then
      let s := s.memWrite (0x120000 + 32 * (s.evs.dropWr % 1024)) bytes
      { s with evs.dropWr := wrapInc 32 s.evs.dropWr }
    else s
  let s := raiseIf (bitAt s.dropRec 1) 200 s
  let s := if reason = 12 then
      let b := bankOf e.ch
      raise (112 + b) (s.setBank b { s.bank b with arbDrops := satInc 65535 (s.bank b).arbDrops })
    else s
  mirror 3 ([BitVec.ofNat 8 ch] ++ leBytes 2 e.seq
    ++ [BitVec.ofNat 8 reason, BitVec.ofNat 8 detail, BitVec.ofNat 8 e.ctag, BitVec.ofNat 8 e.owner]) s

/-- The words of a DROP notice (R278). -/
def dropNotice (i : Nat) (e : Event) (reason detail : Nat) : Word × Word :=
  (noticeWord 2 detail e.ch e.user reason, handleOf i e.seq)

/-- An event leaves its slot: the slot becomes FREE, or stays QUARANTINED where a word of it is lost (R247), and a
committed event gives its reservation back (R338). -/
def freeSlot (i : Nat) (s : State) : State :=
  let e := s.slot i
  let k := ktOf (bankOf e.ch)
  let s := s.setSlot i (if e.bad then { state := .quarantined } else {})
  match e.state with
  | .committing | .armed => ktPassed k i (ktRelease k e.reserve s)
  | _ => s

/-- Drop or withdraw the event of slot `i` with a reason and a DETAIL (R244, R245, R278). -/
def dropEvent (reason detail i : Nat) (s : State) : State :=
  let e := s.slot i
  let n := dropNotice i e reason detail
  notice e.owner n.1 n.2 (freeSlot i (recordDrop i e e.ch reason detail s))

/-- A withdrawal stops an event only where it reaches the edge unit at least 100 ns before the frozen time
(R236, R241). -/
def inTime (s : State) (e : Event) : Bool := decide (s.etc + 100 * ticksPerNs ≤ e.frozen)

/-- The DETAIL a withdrawal's drop carries with its reason (R244). -/
def withdrawDetail (reason : Nat) : Nat :=
  match reason with
  | 4 => 1
  | 9 | 10 => 3
  | _ => 0

/-- Withdraw the event of slot `i` after its commit; one reached too late starts (R241). -/
def withdraw (reason i : Nat) (s : State) : State :=
  match (s.slot i).state with
  | .committing | .armed => if inTime s (s.slot i) then dropEvent reason (withdrawDetail reason) i s else s
  | _ => s

/-- The slots holding an event that satisfies a condition, in slot order. -/
def slotsWhere (s : State) (p : Event → Bool) : List Nat :=
  (s.evs.slots.filter (fun e => p e.2)).map (·.1)

/-- The event is live and has not started: WAITING, NEAR, COMMITTING or ARMED. -/
def unstarted (e : Event) : Bool :=
  match e.state with
  | .waiting | .near | .committing | .armed => true
  | _ => false

/-- The event is committed and has not started. -/
def committed (e : Event) : Bool :=
  match e.state with
  | .committing | .armed => true
  | _ => false

/-- The event is WAITING or NEAR. -/
def pendingEv (e : Event) : Bool :=
  match e.state with
  | .waiting | .near => true
  | _ => false

/-- Withdraw every committed event not yet started in hardware, however near its start: the drive itself holds
the switches off (R241, R69, R46, R36). -/
def withdrawAll (reason : Nat) (s : State) : State :=
  forEach (slotsWhere s committed) (dropEvent reason (withdrawDetail reason)) s

/-- Drop every pending event and withdraw every committed one that a withdrawal still reaches (R170, R241). -/
def dropPending (reason : Nat) (s : State) : State :=
  forEach (slotsWhere s committed) (withdraw reason) (forEach (slotsWhere s pendingEv) (dropEvent reason 0) s)

end Sys2Proof.Machine
end

