-- ==== Sys2Proof/Machine/Collector.lean ====
section
/-! DEFINITION. The fault collector (13_interrupts_fault_collection.md R412 to R419): an occurrence with its
record, raises and reaction, the grace timer, and the entry to SAFE. -/

namespace Sys2Proof.Machine

/-- Fault sources never raised on the KL6420-32 (R417). -/
def absentFault (n : Nat) : Bool := decide (68 ≤ n ∧ n ≤ 71) || n == 74 || n == 75 || decide (84 ≤ n ∧ n ≤ 87)

/-- `FLT_SAFE` as a word (R426). -/
def fltSafeWord (s : State) : Nat :=
  flagAt s.flt.safe 0 + flagAt s.flt.safeGrace 1 + s.flt.safeSrc * 256

/-- The entry to SAFE (R418): commits and insertions refused from here on, events not started dropped with
reason 21, profiles ended with LAST_END 6, Kettles in BLEED, EB units disabled, off-state tests stopped, source
251 raised, the cause recorded. -/
def safeEntry (src : Nat) (byGrace : Bool) (s : State) : State :=
  if s.flt.safe then s
  else
    let s := { s with flt := { s.flt with
      safe := true, safeGrace := byGrace, safeSrc := src, safeEtc := s.etc, grace := none } }
    let s := forEach (slotsWhere s unstarted) (dropEvent 21 0) s
    let s := endAll 6 s
    let s := forEach (List.range s.kettles) ktUpdate s
    let s := ebAllOff s
    let s := stopTests (fun _ => true) s
    let s := raise 251 s
    let s := mirrorState 3 (src + flagAt byGrace 7) s
    log 3 0 (leBytes 4 (fltSafeWord s)) s

/-- The class applied to an occurrence: the class in force, LOG in SAFE (R412, R418). -/
def classApplied (s : State) (n : Nat) : Nat := if s.flt.safe then 0 else s.faultClass n

/-- Steps 1 to 3 of R412: the sticky bit, `FLT_LAST` and `FLT_FIRST`, `FLT_TOTAL`. -/
def faultRecord (n c : Nat) (s : State) : State :=
  let r : FaultRec := { src := n, valid := true, cls := c, etc := s.etc }
  { s with flt := { s.flt with
    sticky := s.flt.sticky ||| BitVec.twoPow 96 n
    last := r
    first := if s.flt.first.valid then s.flt.first else r
    total := wrapInc 32 s.flt.total } }

/-- The reaction of a GRACE occurrence (R413, R414): marked in `FLT_PEND`; the timer starts if stopped. -/
def graceReaction (n : Nat) (s : State) : State :=
  let s := { s with flt.pend := s.flt.pend ||| BitVec.twoPow 96 n }
  match s.flt.grace with
  | some _ => s
  | none => raise 249 { s with flt.grace := some (s.etc + s.graceUs * ticksPerUs) }

/-- Step 5 of R412: the reaction of the class applied (R413). -/
def reaction (n c : Nat) (s : State) : State :=
  match c with
  | 0 => s
  | 1 => graceReaction n s
  | _ => safeEntry n false s

/-- A fault occurrence (R412): the steps in order. -/
def fault (n : Nat) (s : State) : State :=
  if !s.sys.order64 && absentFault n then s
  else
    let c := classApplied s n
    let s := raise 248 (faultRecord n c s)
    let s := mirror 6 ([BitVec.ofNat 8 n, BitVec.ofNat 8 c, 0] ++ leBytes 4 s.flt.total) s
    let s := reaction n c s
    wake 11 (log 2 0 [BitVec.ofNat 8 n, BitVec.ofNat 8 c, BitVec.ofNat 8 c] s)

/-- The onset of a lasting condition raises its source once (R412). -/
def faultOnset (n : Nat) (s : State) : State :=
  if s.flt.cond.getLsbD n then s
  else fault n { s with flt.cond := s.flt.cond ||| BitVec.twoPow 96 n }

/-- A lasting condition ends: its next onset raises the source again (R412). -/
def faultEnd (n : Nat) (s : State) : State :=
  { s with flt.cond := s.flt.cond &&& ~~~(BitVec.twoPow 96 n) }

/-- What a calibration reports (R432 to R434): its interrupt source, and the CAL entry of the logbook with the item, 77
being the ruler, and the event 1 a ruler correction, 2 an item stale, 3 a capacitance out of range (R443) (DESIGN
CHOICE, log 76). -/
def calReport (c : Bool) (item source : Nat) (s : State) : State :=
  if c then raise source (log 14 2 [BitVec.ofNat 8 item, BitVec.ofNat 8 (source - 217)] s) else s

/-- A Kettle enters FAULT, which stays until reset: the Kettle fault is raised once (R336, R412). In SAFE and in DOWN
it stays in BLEED (DEDUCED, log 103). -/
def ktFault (k : Nat) (s : State) : State :=
  if (s.kettle k).faulted then s
  else fault (72 + k) (ktUpdate k (s.setKettle k { s.kettle k with faulted := true }))

/-- Acknowledge the fault sources of a word by writing 1 to their sticky bits (R415, R416): sticky and pending
bits clear; when the last pending bit clears, the timer stops and source 250 is raised. -/
def acknowledge (w : Nat) (mask : Word) (s : State) : State :=
  let m : BitVec 96 := (mask.setWidth 96) <<< (32 * w)
  let pend := s.flt.pend &&& ~~~m
  let s' := { s with flt := { s.flt with sticky := s.flt.sticky &&& ~~~m, pend := pend } }
  if s.flt.grace.isSome && pend == 0#96 then raise 250 { s' with flt.grace := none } else s'

/-- The lowest pending GRACE source (R415). -/
def lowestPend (p : BitVec 96) : Nat := ((List.range 96).find? (fun n => p.getLsbD n)).getD 0

/-- The grace deadline is reached with a pending fault: the module enters SAFE (R415). -/
def graceDue (s : State) : State :=
  match s.flt.grace with
  | some d =>
    if d ≤ s.etc then
      if s.flt.pend = 0#96 then { s with flt.grace := none } else safeEntry (lowestPend s.flt.pend) true s
    else s
  | none => s

end Sys2Proof.Machine
end

