-- ==== Sys2Proof/Machine/Lens.lean ====
section
/-! DEFINITION. The wheel's positions (05_wheel_inputs_synchronisation.md R159) and the arithmetic of the Lens
(06_lens_interpolation.md R193 to R197, R200, R201, R208, R211): predictions, projections, the micro-tick
count, the angle and the speed. -/

namespace Sys2Proof.Machine

/-! ## Wheel positions (R159) -/

/-- A state with a position: CRANK, FULL and QUICK (R211). -/
def positioned : Sync → Bool
  | .crank | .full | .quick => true
  | _ => false

/-- The code of a synchronisation state (R154). -/
def syncCode : Sync → Nat
  | .nosync => 0
  | .tooth => 1
  | .crank => 2
  | .full => 3
  | .quick => 4
  | .lost => 5

/-- Z of R159. -/
def zShift (s : State) : Nat := s.zeroOfs / 4096 % (2 * s.nTeeth)

/-- The interval opened by the linear position `f` = revolution x N + position (R159). -/
def intervalOf (s : State) (f : Nat) : Nat := (f + 2 * s.nTeeth - zShift s) % (2 * s.nTeeth)

/-- The linear position that opens an interval. -/
def posOf (s : State) (i : Nat) : Nat := (i + zShift s) % (2 * s.nTeeth)

/-- Position `p` lies in the gap whose first missing position is `start`. -/
def inGap (s : State) (start p : Nat) : Bool := decide ((p + s.nTeeth - start) % s.nTeeth < s.gapMissing)

/-- The first missing position of the second gap (R159). -/
def gapPos2 (s : State) : Nat := (s.gapPos + s.nTeeth / 2) % s.nTeeth

/-- Wheel position `p` carries no tooth (R159). -/
def missingPos (s : State) (p : Nat) : Bool :=
  (decide (1 ≤ s.gapCount) && inGap s (s.gapPos % s.nTeeth) p) || (decide (2 ≤ s.gapCount) && inGap s (gapPos2 s) p)

/-- The wheel position of a linear number in the numbering the crank source's own wheel has (R183). -/
def ownPos (s : State) (shift f : Nat) : Nat := (f + s.nTeeth - shift % s.nTeeth) % s.nTeeth

/-- The linear number carries no tooth for a sensor whose numbering is shifted. -/
def noTooth (s : State) (shift f : Nat) : Bool := missingPos s (ownPos s shift f)

/-- The linear number names a reference tooth: the first present after a gap (R159). -/
def isRef (s : State) (shift f : Nat) : Bool :=
  !noTooth s shift f && noTooth s shift (f + 2 * s.nTeeth - 1)

/-- The reference tooth after the gap at GAP_POS, as a position (R163). -/
def refPos (s : State) : Nat := (s.gapPos + s.gapMissing) % s.nTeeth

/-- The next tooth present forward of `f` (R166). -/
def nextTooth (s : State) (shift f : Nat) : Nat :=
  let n := 2 * s.nTeeth
  match (List.range 8).find? (fun d => !noTooth s shift (f + 1 + d)) with
  | some d => (f + 1 + d) % n
  | none => (f + 1) % n

/-- The previous tooth present (R166). -/
def prevTooth (s : State) (shift f : Nat) : Nat :=
  let n := 2 * s.nTeeth
  match (List.range 8).find? (fun d => !noTooth s shift (f + 2 * n - 1 - d)) with
  | some d => (f + 2 * n - 1 - d) % n
  | none => (f + 2 * n - 1) % n

/-- The input that has a role (R155). -/
def inputOf (s : State) (role : Nat) : Option Nat := (List.range 8).find? (fun n => s.role n == role)

/-- The input of the crank source: the primary, or the secondary once it has replaced it (R183). -/
def crankInput (s : State) : Option Nat := inputOf s (if s.whl.promoted then 2 else 1)

/-- An input has direction decoding (R165). -/
def decodes (s : State) (n : Nat) : Bool := bitAt (s.whMode n) 4

/-- The direction as `WHL_SYNC.DIR` shows it (R165, R167, R189). -/
def dirOf (s : State) : Dir :=
  match crankInput s with
  | none => .unknown
  | some n => if decodes s n then s.whl.crank.dir else .assumed

/-- The code of a direction (R189). -/
def dirCode : Dir → Nat
  | .forward => 0
  | .reverse => 1
  | .unknown => 2
  | .assumed => 3

/-- The crank source has direction decoding. -/
def sourceDecodes (s : State) : Bool :=
  match crankInput s with
  | some n => decodes s n
  | none => false

/-! ## Predictions (R195, R196) -/

/-- A map entry as applied: 0 without a position and under MAP_MODE 0 (R194, R206, R211). -/
def mapEntry (s : State) (i : Nat) : Int :=
  if positioned s.whl.sync && s.lns.mapMode != 0 then s.lns.map.get 0 (i % (2 * s.nTeeth)) else 0

/-- q of R195: the period of the interval n ahead before the map, at most halved or doubled. -/
def predQ (s : State) (n : Nat) : Int :=
  clampInt (s.lns.pn / 2 : Nat) (2 * s.lns.pn : Nat) (s.lns.pn + (s.lns.k + n + 1 : Nat) * s.lns.acc)

/-- p of R195 before its last clamp. -/
def predP (s : State) (n : Nat) : Nat := (predQ s n * (32768 + mapEntry s (s.lns.cur + n))).toNat / 32768

/-- pred(n) of R195, in 1/256 of a tick. -/
def pred (s : State) (n : Nat) : Nat := clampNat (8000 * 256) (32000000000 * 256) (predP s n)

/-- pred(0) is at a clamp of R195 (R217 PRED_CLAMP). -/
def predClamped (s : State) : Bool :=
  predQ s 0 != (s.lns.pn : Int) + (s.lns.k + 1 : Nat) * s.lns.acc || pred s 0 != predP s 0

/-- The sum of the first `n` predictions. -/
def predSum (s : State) : Nat → Nat
  | 0 => 0
  | n + 1 => predSum s n + pred s n

/-- project(j, m) of R196. -/
def project (s : State) (j m : Nat) : Tick :=
  let n := (j + 2 * s.nTeeth - s.lns.cur) % (2 * s.nTeeth)
  s.lns.tOpen + (predSum s n + m * pred s n / 4096 + 128) / 256

/-- The projected time of an angle word. -/
def projectWord (s : State) (w : Word) : Tick := project s (angInterval w) (angMt w)

/-- offset(m) of R196 within the current interval. -/
def lensOffset (s : State) (m : Nat) : Nat := (m * pred s 0 / 4096 + 128) / 256

/-- The micro-tick count at an instant: the largest m in 0 to 4095 with offset(m) at most the time since the
interval opened (R196). -/
def lensCount (s : State) (x : Tick) : Nat := min 4095 (((256 * (x - s.lns.tOpen) + 128) * 4096 - 1) / pred s 0)

/-- The Lens angle at an instant as a linear angle: valid in CRANK, QUICK and FULL; in reverse the last tooth
passed, with MT 0 (R196, R210, R211). -/
def lensLinAt (s : State) (x : Tick) : Option Nat :=
  if positioned s.whl.sync then
    some (s.lns.cur * 4096 + (if s.lns.rev then 0 else lensCount s x))
  else none

/-- The Lens angle now. -/
def lensLin (s : State) : Option Nat := lensLinAt s s.etc

/-- `LNS_ANGLE` now: 0xFFFF_FFFF whenever the angle is not valid (R216, R268). -/
def lensWord (s : State) : Word :=
  match lensLin s with
  | some a => angWord a
  | none => 0xFFFFFFFF

/-- The Lens counts micro-ticks: it has a position and the rotation is not reverse (R210). -/
def counting (s : State) : Bool := positioned s.whl.sync && !s.lns.rev

/-- The position that closes the current interval carries a tooth (R197, R200). -/
def closesOnTooth (s : State) : Bool := !noTooth s s.whl.shift (posOf s (s.lns.cur + 1))

/-- The instant of the virtual boundary of the current interval, offset(4096) after its opening (R197). -/
def virtualAt (s : State) : Tick := s.lns.tOpen + lensOffset s 4096

/-- The instant at which the count reaches 4095 (R200). -/
def holdAt (s : State) : Tick := s.lns.tOpen + lensOffset s 4095

/-- The instant at which the tooth is overdue (R201). -/
def overdueAt (s : State) : Tick := virtualAt s + pred s 0 / 4096

/-- speed() of R208 at an instant: 0 in NOSYNC and before the first period. -/
def speedAt (s : State) (x : Tick) : Nat :=
  if s.whl.sync = .nosync ∨ s.lns.havePn = false ∨ s.nTeeth = 0 then 0
  else
    let pe := (x - s.lns.tLast) * 256 / (s.lns.k + 1)
    min 65535 (4800000000000 * 256 / (s.nTeeth * max 1 (max s.lns.pn pe)))

/-- The Lens reports a speed: sources 37 and 38 at the crossings of `LNS_SPD_THR` (R208). -/
def setSpeed (v : Nat) (s : State) : State :=
  let o := s.lns.speed
  let s := { s with lns := { s.lns with speed := v } }
  let s := raiseIf (decide (s.lns.spdHi < v) && decide (o ≤ s.lns.spdHi)) 37 s
  raiseIf (decide (v < s.lns.spdLo) && decide (s.lns.spdLo ≤ o)) 38 s

/-- The speed is recomputed now (R208): `sixteenths` counts the sixteenths of pn that have passed. -/
def speedNow (s : State) : State :=
  let s := setSpeed (speedAt s s.etc) s
  { s with lns.sixteenths := (s.etc - s.lns.tLast) / max 1 (s.lns.pn / 4096) }

/-- SPEED_RECOMPUTE: a further sixteenth of pn has passed since the last tooth (R208). -/
def doSpeedRecompute (s : State) : State :=
  if s.lns.havePn ∧ s.whl.sync ≠ .nosync ∧
      s.lns.sixteenths < (s.etc - s.lns.tLast) / max 1 (s.lns.pn / 4096) then speedNow s
  else s

end Sys2Proof.Machine
end

