-- ==== Sys2Proof/Machine/Passing.lean ====
section
/-! DEFINITION. Angles passed (06_lens_interpolation.md R214): the WAITAs they wake (08 R271) and the ANGLE
triggers they activate (09 R297), by counting, by a virtual boundary or by a sweep. -/

namespace Sys2Proof.Machine

/-- The contexts that hold anything: those of declared tasks. -/
def contexts (s : State) : List Nat := s.seq.ctx.map (·.1)

/-- A WAITA of context `i` ends with a result code (R270, R271) (DEDUCED, log 44). -/
def endWaita (code i : Nat) (s : State) : State :=
  match (s.ctx i).wait with
  | .angle d _ _ _ => makeReady i (s.setCtx i ((s.ctx i).setReg d (BitVec.ofNat 32 code)))
  | _ => s

/-- Every WAITA ends with a result code: the position is lost (3), reverse is declared (4), the frame is
corrected (7) (R271). -/
def endWaitas (code : Nat) (s : State) : State := forEach (contexts s) (endWaita code) s

/-- The forward range (from, to] of the cycle holds the linear angle `a` (R214). -/
def inRange (len lo hi a : Nat) : Bool :=
  let d := fwdDist len lo a
  decide (1 ≤ d) && decide (d ≤ fwdDist len lo hi)

/-- The marks of an ANGLE trigger up to a distance `e` less than two cycles on from TP0 (R297): k x TP1 within each
cycle. -/
def marksTo (len step e : Nat) : Nat :=
  if e < len then e / step else (len - 1) / step + 1 + (e - len) / step

/-- How many marks of an ANGLE trigger the forward range (from, to] holds (R297). -/
def marksIn (len lo hi : Nat) (t : Task) : Nat :=
  let p := t.tp0.toNat % len
  let step := t.tp1.toNat
  if step = 0 then (if inRange len lo hi p then 1 else 0)
  else
    let u := fwdDist len p (lo % len)
    marksTo len step (u + fwdDist len lo hi) - marksTo len step u

/-- The angles in (from, to] are passed: the WAITAs on them end with REACHED, or SWEPT in a sweep, and the ANGLE
triggers activate at each mark there, in a sweep once (R214, R271, R297). After two activations more marks only count
OVERRUNS, which stop at 255. -/
def passContext (swept : Bool) (len lo hi i : Nat) (s : State) : State :=
  let s := match (s.ctx i).wait with
    | .angle _ target _ _ =>
      if inRange len lo hi target.toNat then endWaita (if swept then 1 else 0) i s else s
    | _ => s
  match s.task i with
  | some t =>
    if t.trig = 1 then repeatN (activate 2 i) (min (marksIn len lo hi t) (if swept then 1 else 300)) s else s
  | none => s

/-- The angles in (from, to] are passed, for every context. -/
def passRange (swept : Bool) (lo hi : Nat) (s : State) : State :=
  if lo = hi then s
  else
    let s' := forEach (contexts s) (passContext swept s.cycleLen lo hi) s
    { s' with lns.seen := hi }

/-- The angles up to the count at an instant are passed by counting. -/
def passTo (x : Tick) (s : State) : State :=
  match counting s, lensLinAt s x with
  | true, some a =>
    if fwdDist s.cycleLen s.lns.seen a < s.cycleLen / 2 then passRange false s.lns.seen a s else s
  | _, _ => s

/-- Watching starts from the present angle: the angle becomes valid or jumps (R297). -/
def watchHere (s : State) : State :=
  match lensLin s with
  | some a => { s with lns.seen := a }
  | none => s

/-- ANGLE_PASSED: the Lens angle has passed `angle` by counting; every angle up to it not yet acted on is
passed with it (R214). An angle the Lens has not passed changes nothing. -/
def doAnglePassed (angle : Word) (s : State) : State :=
  match counting s, lensLin s with
  | true, some a =>
    if angValid s angle && inRange s.cycleLen s.lns.seen a angle.toNat
        && decide (fwdDist s.cycleLen s.lns.seen a < s.cycleLen / 2) then
      passRange false s.lns.seen angle.toNat s
    else s
  | _, _ => s

end Sys2Proof.Machine
end

