-- ==== Sys2Proof/Machine/Gate.lean ====
section
/-! DEFINITION. The envelope's fields (03_trust_ownership_envelope.md R94, R95), the profile entries (10 R320),
and the gate's eight checks (R99). -/

namespace Sys2Proof.Machine

/-! ## The envelope and the profile table -/

/-- N_TEETH of an envelope (R94). -/
def envTeeth (e : List Byte) : Nat := leAt e 56 2
/-- ENV_SEQ of an envelope. -/
def envSeq (e : List Byte) : Nat := leAt e 8 8
/-- A field of the record of channel `k`. -/
def envField (e : List Byte) (k off n : Nat) : Nat := leAt e (64 + 32 * k + off) n
/-- ANG_EARLY. -/
def envEarly (e : List Byte) (k : Nat) : Nat := envField e k 0 4
/-- ANG_LATE. -/
def envLate (e : List Byte) (k : Nat) : Nat := envField e k 4 4
/-- ON_MAX in 10 ns. -/
def envOnMax (e : List Byte) (k : Nat) : Nat := envField e k 8 4
/-- SPACING_MIN in microseconds. -/
def envSpacing (e : List Byte) (k : Nat) : Nat := envField e k 12 2
/-- EV_MAX. -/
def envEvMax (e : List Byte) (k : Nat) : Nat := envField e k 14 1
/-- QUICK_OK. -/
def envQuickOk (e : List Byte) (k : Nat) : Bool := bitAt (envField e k 15 1) 0
/-- CRANK_OK. -/
def envCrankOk (e : List Byte) (k : Nat) : Bool := bitAt (envField e k 15 1) 1
/-- PEAK_MAX in 10 mA. -/
def envPeakMax (e : List Byte) (k : Nat) : Nat := envField e k 16 2
/-- BOOST_MAX in 0.5 V. -/
def envBoostMax (e : List Byte) (k : Nat) : Nat := envField e k 18 2
/-- HOLD_MAX in 10 mA. -/
def envHoldMax (e : List Byte) (k : Nat) : Nat := envField e k 20 2
/-- RPM_MIN in 0.1 rpm. -/
def envRpmMin (e : List Byte) (k : Nat) : Nat := envField e k 22 2
/-- RPM_MAX in 0.1 rpm. -/
def envRpmMax (e : List Byte) (k : Nat) : Nat := envField e k 24 2

/-- Entry `p` of a block's profile table (R320). -/
def profileAt (b : Block) (p : Nat) : Profile :=
  let a := 0x400 + 32 * p
  let f := blkU8 b (a + 1)
  { kind := blkU8 b a
    steepFeed := bitAt f 0
    trDecay := bits f 1 2
    dithSq := bitAt f 3
    banks := blkU8 b (a + 2)
    boost := blkU16 b (a + 4)
    boostMin := blkU16 b (a + 6)
    iPeak := blkU16 b (a + 8)
    tPeakMax := blkU16 b (a + 10)
    iHold := blkU16 b (a + 12)
    tTrMax := blkU16 b (a + 14)
    tOn := blkU32 b (a + 16)
    hyst := blkU16 b (a + 20)
    dithAmp := blkU16 b (a + 22)
    dithPer := blkU16 b (a + 24)
    eBoost := blkU16 b (a + 26)
    extMax := blkU16 b (a + 28) }

/-- The profile table in force. -/
def State.profile (s : State) (p : Nat) : Profile := profileAt s.cfg.active p

/-- The on-time of an event, T_ON + ONT, in 10 ns (R323). -/
def onTime (p : Profile) (ont : Int) : Int := p.tOn + ont

/-- The on-time lies within 1 microsecond to 4 s (R323). -/
def onTimeOk (p : Profile) (ont : Int) : Bool :=
  decide (100 ≤ onTime p ont) && decide (onTime p ont ≤ 400000000)

/-- Insertion step 5 accepts the profile for a channel (R323). -/
def profileOk (p : Profile) (ch : Nat) (ont : Int) : Bool :=
  (p.kind == 1 || p.kind == 2) && bitAt p.banks (bankOf ch) && onTimeOk p ont

/-! ## The gate's checks (R99, R323) -/

/-- Check 1: an envelope in force that reads well, with the geometry's N_TEETH. -/
def check1 (s : State) : Bool :=
  match s.sec.envelope with
  | some e => !s.sec.envBad && envTeeth e == s.nTeeth
  | none => false

/-- The envelope in force, empty if none. -/
def envNow (s : State) : List Byte := s.sec.envelope.getD []

/-- Check 2: the channel exists and may fire. -/
def check2 (s : State) (ch : Nat) : Bool := decide (ch < s.channels) && envEvMax (envNow s) ch != 0

/-- The rotation is forward, or assumed so (R165). -/
def rotatesForward (s : State) : Bool :=
  match dirOf s with
  | .forward | .assumed => true
  | _ => false

/-- Check 3: forward rotation, and FULL, or QUICK or CRANK where permitted. -/
def check3 (s : State) (ch : Nat) : Bool :=
  rotatesForward s && match s.whl.sync with
    | .full => true
    | .quick => envQuickOk (envNow s) ch
    | .crank => envCrankOk (envNow s) ch
    | _ => false

/-- Check 4: the speed lies within the band. -/
def check4 (s : State) (ch : Nat) : Bool :=
  decide (envRpmMin (envNow s) ch ≤ s.lns.speed) && decide (s.lns.speed ≤ envRpmMax (envNow s) ch)

/-- Check 5: the start angle lies in the forward range from ANG_EARLY to ANG_LATE. -/
def check5 (s : State) (ch : Nat) (target : Word) : Bool :=
  let a := envEarly (envNow s) ch
  decide (fwdDist s.cycleLen a target.toNat ≤ fwdDist s.cycleLen a (envLate (envNow s) ch))

/-- The boost level check 6 compares (R323). -/
def gateBoost (p : Profile) : Nat := if p.kind = 1 then p.boost else 0

/-- The peak current check 6 compares (R323). -/
def gatePeak (p : Profile) : Nat := if p.kind = 1 then p.iPeak else p.iHold + p.dithAmp

/-- Check 6: the profile lies within the channel's limits. -/
def check6 (s : State) (ch : Nat) (p : Profile) (ont : Int) : Bool :=
  let e := envNow s
  decide (gateBoost p ≤ envBoostMax e ch) && decide (gatePeak p ≤ envPeakMax e ch)
    && decide (p.iHold + p.dithAmp ≤ envHoldMax e ch) && decide (onTime p ont ≤ envOnMax e ch)

/-- Check 7: fewer than EV_MAX events have started on the channel in this cycle. -/
def check7 (s : State) (ch : Nat) : Bool := decide (s.evs.started.get 0 ch < envEvMax (envNow s) ch)

/-- Check 8: no profile runs on the channel, and its last turn-off lies SPACING_MIN before the frozen time. -/
def check8 (s : State) (ch : Nat) (frozen : Tick) : Bool :=
  (s.chan ch).phase == .idle && match (s.chan ch).lastOff with
    | none => true
    | some o => decide (o + envSpacing (envNow s) ch * ticksPerUs ≤ frozen)

/-- Checks 1 to 6 in order: the number of the first that fails, 0 if all pass (R99). -/
def gate6 (s : State) (ch : Nat) (target : Word) (p : Profile) (ont : Int) : Nat :=
  if !check1 s then 1
  else if !check2 s ch then 2
  else if !check3 s ch then 3
  else if !check4 s ch then 4
  else if !check5 s ch target then 5
  else if !check6 s ch p ont then 6
  else 0

/-- All eight checks in order, as at commit (R99). -/
def gate8 (s : State) (ch : Nat) (target : Word) (p : Profile) (ont : Int) (frozen : Tick) : Nat :=
  match gate6 s ch target p ont with
  | 0 => if !check7 s ch then 7 else if !check8 s ch frozen then 8 else 0
  | n => n

/-- Checks 1 to 6 for an event with the profile table in force. -/
def gateEvent (s : State) (e : Event) : Nat := gate6 s e.ch e.target (s.profile e.prof) e.ont

end Sys2Proof.Machine
end

