-- ==== Sys2Proof/Machine/Sched.lean ====
section
/-! DEFINITION. The event scheduler (07_event_scheduler.md R219 to R256): the near set, re-aim passes, insertion,
AIM, CANCEL, the commit stages of R25 with the boost energy of 10 R338 and the bank arbitration of R341,
memory errors. -/

namespace Sys2Proof.Machine

/-! ## Cycle tags, lateness and the aim window -/

/-- The current cycle tag (R227). -/
def curTag (s : State) : Nat := s.evs.cycle % 256

/-- The next cycle tag. -/
def nextTag (s : State) : Nat := (s.evs.cycle + 1) % 256

/-- An event's target belongs to the current cycle and the Lens angle has passed it (R227, R231). -/
def evPassed (s : State) (e : Event) : Bool :=
  match lensLin s with
  | some a => e.ctag == curTag s && decide (e.target.toNat ≤ a)
  | none => false

/-- An event with a projection is late at this instant (R231). -/
def evLate (s : State) (e : Event) : Bool :=
  evPassed s e || decide (e.proj + 1500 * ticksPerNs < s.etc + s.horizonNs * ticksPerNs)

/-- Intervals from the current one to the event's target, in the cycle its tag names (R229). -/
def evAhead (s : State) (e : Event) : Option Nat :=
  let j := angInterval e.target
  if e.ctag = curTag s then (if s.lns.cur ≤ j then some (j - s.lns.cur) else none)
  else if e.ctag = nextTag s then some (j + 2 * s.nTeeth - s.lns.cur)
  else none

/-- The event lies in the aim window (R229) (DEDUCED, log 34). -/
def inWindow (s : State) (e : Event) : Bool :=
  positioned s.whl.sync && match evAhead s e with
    | some d => decide (d ≤ s.aimWindow)
    | none => false

/-- The members of the near set. -/
def nearSlots (s : State) : List Nat := slotsWhere s (fun e => e.state == .near)

/-- Insert an index into a list sorted by a key, before equal keys. -/
def insertBy (key : Nat → Nat) (i : Nat) : List Nat → List Nat
  | [] => [i]
  | j :: r => if key i ≤ key j then i :: j :: r else j :: insertBy key i r

/-- Sort indices by a key, keeping the order of equal keys. -/
def sortBy (key : Nat → Nat) : List Nat → List Nat
  | [] => []
  | i :: r => insertBy key i (sortBy key r)

/-- The forward distance of an event in the window from the Lens angle (R229). -/
def evDist (s : State) (e : Event) : Nat :=
  match evAhead s e with
  | some d => d * 4096 + angMt e.target
  | none => 0

/-- WAITING events in the window, nearest first (R229). -/
def windowWaiting (s : State) : List Nat :=
  sortBy (fun i => evDist s (s.slot i)) (slotsWhere s (fun e => e.state == .waiting && inWindow s e))

/-- An event becomes a member of the near set with its projection. -/
def joinNear (i : Nat) (s : State) : State :=
  let e := s.slot i
  s.setSlot i { e with state := .near, proj := projectWord s e.target }

/-- Admit the nearest WAITING events in the window until the near set holds 512 (R229). -/
def nearFill (s : State) : State := forEach ((windowWaiting s).take (512 - (nearSlots s).length)) joinNear s

/-- WAITING events whose targets the Lens angle has passed are dropped with reason 19 (R230). -/
def dropPassedWaiting (s : State) : State :=
  forEach (slotsWhere s (fun e => e.state == .waiting && evPassed s e)) (dropEvent 19 0) s

/-- The window holds more WAITING events than the near set has room for (R230). -/
def nearOverflow (s : State) : State :=
  if 512 < (nearSlots s).length + (windowWaiting s).length then
    raise 202 { s with evs.nearFull := satInc 65535 s.evs.nearFull }
  else s

/-- The projection of an event admitted at a Lens update until the pass reaches it (R229): no instant of ETC. -/
def unprojected : Tick := 2 ^ 64

/-- An event admitted at a Lens update: the update's pass projects it (R229). -/
def joinPass (i : Nat) (s : State) : State := s.setSlot i { s.slot i with state := .near, proj := unprojected }

/-- A re-aim pass over the near set starts (R22): the members by their previous projection, earliest first, then the
events admitted at this update in the order of their admission (R229). Boundary steps that run are completed first
(R212). Of members with one previous projection the
lower slot goes first (DESIGN CHOICE, log 78). -/
def startPass (admitted : List Nat) (s : State) : State :=
  let members := sortBy (fun i => (s.slot i).proj) ((nearSlots s).filter (fun i => !(admitted.contains i)))
  { s with evs := { s.evs with
    passes := wrapInc 16 s.evs.passes, pass := members ++ admitted, passAt := s.evs.steps.getD s.etc, passRank := 0 } }

/-- A Lens update or another prediction change (R22, R23, R229, R230): a pass still running is abandoned, passed
WAITING events are dropped, the near set is filled, and a pass starts. -/
def predictionChanged (s : State) : State :=
  let s := if s.evs.pass = [] then s else { s with evs.restarts := wrapInc 16 s.evs.restarts }
  let s := nearOverflow (dropPassedWaiting s)
  let adm := (windowWaiting s).take (512 - (nearSlots s).length)
  startPass adm (forEach adm joinPass s)

/-- An event inserted or changed while a pass runs is projected at that moment, and not reached by the pass
(R232). -/
def leavePass (i : Nat) (s : State) : State :=
  { s with evs := { s.evs with
    pass := s.evs.pass.filter (fun j => j != i), heldOver := s.evs.heldOver.filter (fun j => j != i) } }

/-! ## Insertion, AIM and CANCEL -/

/-- The answer of the scheduler (R228): result word, handle, and a notice to post after it (R279). -/
structure Answer where
  res : Nat
  detail : Nat := 0
  handle : Word := 0
  notice : Option (Word × Word) := none

/-- The result word of R228. -/
def Answer.word (a : Answer) : Word := BitVec.ofNat 32 (a.res + a.detail * 256)

/-- The first FREE slot after slot `i`, in index order with wrap (R223). -/
def freeAfter (s : State) : Nat → Nat → Option Nat
  | 0, _ => none
  | f + 1, i =>
    let j := (i + 1) % 8192
    if (s.slot j).state = .free then some j else freeAfter s f j

/-- An insertion is refused (R226). -/
def refuseInsertion (res : Nat) (s : State) : State × Answer :=
  ({ s with evs.refuse := wrapInc 32 s.evs.refuse }, { res := res })

/-- The descriptor of an insertion request (R222). -/
def requestEvent (owner : Nat) (w0 w1 w2 : Word) : Event :=
  { target := w0
    ch := bits w1.toNat 0 6
    prof := bits w1.toNat 8 8
    ctag := bits w1.toNat 16 8
    next := w1.getLsbD 24
    sigStart := w1.getLsbD 25
    ont := signed 16 (bits w2.toNat 0 16)
    user := bits w2.toNat 16 8
    owner := owner }

/-- A reserved bit of words 1 or 2 is set (R222, R226 step 2). -/
def reservedSet (w1 w2 : Word) : Bool := (w1 &&& 0xFC0000C0#32) != 0#32 || (w2 &&& 0xFF000000#32) != 0#32

/-- A drop at insertion (R226 steps 8 and 9): recorded, the slot freed, its notice posted after the result. -/
def dropAtInsertion (res reason detail i : Nat) (e : Event) (s : State) : State × Answer :=
  let n := dropNotice i e reason detail
  ((recordDrop i e e.ch reason detail s).setSlot i {},
    { res := res, detail := detail, handle := handleOf i e.seq, notice := some n })

/-- Steps 7 to 9 of R226 for a request that takes slot `i`. -/
def placeEvent (i : Nat) (e : Event) (s : State) : State × Answer :=
  let tag := if e.next then
      (match lensLin s with
        | some a => if a < e.target.toNat then curTag s else nextTag s
        | none => nextTag s)
    else e.ctag
  let e := { e with ctag := tag, seq := s.evs.seq }
  let s := leavePass i { s with evs := { s.evs with
    lastSlot := i, seq := wrapInc 16 s.evs.seq, ins := wrapInc 32 s.evs.ins } }
  let near := inWindow s e && decide ((nearSlots s).length < 512)
  let e := if near then { e with proj := projectWord s e.target } else e
  if (if near then evLate s e else evPassed s e) then dropAtInsertion 7 1 0 i e s
  else match gateEvent s e with
    | 0 => (s.setSlot i { e with state := if near then .near else .waiting },
        { res := 0, handle := handleOf i e.seq })
    | n => dropAtInsertion 8 7 n i e s

/-- An insertion request is examined (R226). -/
def insertEvent (owner : Nat) (w0 w1 w2 : Word) (s : State) : State × Answer :=
  let e := requestEvent owner w0 w1 w2
  if s.flt.safe then refuseInsertion 6 s
  else if reservedSet w1 w2 || !angValid s w0 || (!e.next && e.ctag != curTag s && e.ctag != nextTag s) then
    refuseInsertion 2 s
  else if !positioned s.whl.sync then refuseInsertion 3 s
  else if s.channels ≤ e.ch then refuseInsertion 4 s
  else if !profileOk (s.profile e.prof) e.ch e.ont then refuseInsertion 5 s
  else match freeAfter s 8192 s.evs.lastSlot with
    | none => refuseInsertion 1 (raise 201 { s with evs.tblFull := satInc 65535 s.evs.tblFull })
    | some i => placeEvent i e s

/-- The slot a handle names for an owner: a live event of that SEQ and owner (R224, R225, R237). -/
def lookup (owner : Nat) (h : Word) (s : State) : Option Nat :=
  let i := bits h.toNat 16 13
  let e := s.slot i
  if h.toNat < 2 ^ 29 ∧ e.seq = bits h.toNat 0 16 ∧ e.owner = owner ∧
      e.state ≠ .free ∧ e.state ≠ .quarantined ∧ e.bad = false then some i
  else none

/-- A NEAR event that no longer lies in the window makes room (R229). -/
def aimPlace (i : Nat) (e : Event) (wasNear near : Bool) (s : State) : State :=
  let s := s.setSlot i { e with state := if near then .near else .waiting }
  if wasNear && !near then nearFill s else s

/-- AIM of a WAITING or NEAR event (R235). -/
def aimLive (i : Nat) (target w2 : Word) (s : State) : State × Answer :=
  let e := s.slot i
  let ont := signed 16 (bits w2.toNat 0 16)
  let h := handleOf i e.seq
  if (w2 &&& 0xFFFF0000#32) != 0#32 || !angValid s target then (s, { res := 2, handle := h })
  else if !onTimeOk (s.profile e.prof) ont then (s, { res := 5, handle := h })
  else
    let wasNear := e.state == .near
    let e := { e with target := target, ont := ont }
    let near := inWindow s e && (wasNear || decide ((nearSlots s).length < 512))
    let e := if near then { e with proj := projectWord s target } else e
    let s := leavePass i (s.setSlot i e)
    if (if near then evLate s e else evPassed s e) then
      (nearFill (dropEvent 2 0 i s), { res := 7, handle := h })
    else match gateEvent s e with
      | 0 => (aimPlace i e wasNear near s, { res := 0, handle := h })
      | n => (nearFill (dropEvent 7 n i s), { res := 8, detail := n, handle := h })

/-- An AIM request (R235, R237) (DEDUCED, log 35). -/
def aimEvent (owner : Nat) (h target w2 : Word) (s : State) : State × Answer :=
  if s.flt.safe then (s, { res := 6 })
  else match lookup owner h s with
    | none => (s, { res := 9 })
    | some i =>
      match (s.slot i).state with
      | .waiting | .near => aimLive i target w2 s
      | _ => (s, { res := 10, handle := h })

/-- An owner cancellation frees the slot: no drop, no record, no notice (R236). -/
def cancelSlot (i : Nat) (s : State) : State :=
  freeSlot i { s with evs.cancels := wrapInc 32 s.evs.cancels }

/-- A CANCEL request (R236, R237). -/
def cancelEvent (owner : Nat) (h : Word) (s : State) : State × Answer :=
  if s.flt.safe then (s, { res := 6 })
  else match lookup owner h s with
    | none => (s, { res := 9 })
    | some i =>
      match (s.slot i).state with
      | .waiting => (cancelSlot i s, { res := 0, handle := h })
      | .near => (nearFill (cancelSlot i s), { res := 0, handle := h })
      | .committing | .armed =>
        if inTime s (s.slot i) then (cancelSlot i s, { res := 0, handle := h })
        else (s, { res := 11, handle := h })
      | _ => (s, { res := 11, handle := h })

/-- HALT_CANCEL: every WAITING and NEAR event of a sequencer is cancelled as by its owner (R305). -/
def haltCancel (q : Nat) (s : State) : State :=
  nearFill (forEach (slotsWhere s (fun e => pendingEv e && e.owner == q)) cancelSlot s)

/-- A waiting request of context `i` is answered; the result is delivered by SCHEDULER_RESULT (R228, R259). -/
def answer (i d b : Nat) (isInsertion : Bool) (r : State × Answer) : State :=
  r.1.setCtx i { r.1.ctx i with
    wait := .answered d b isInsertion r.2.word r.2.handle r.2.notice }

/-- The slot the CANCEL request of a context names. -/
def cancelOf (s : State) (i : Nat) : Option Nat :=
  match (s.ctx i).wait with
  | .cancel _ h => lookup (i / 8) h s
  | _ => none

/-- The slot the AIM request of a context names. -/
def aimOf (s : State) (i : Nat) : Option Nat :=
  match (s.ctx i).wait with
  | .aim _ h _ _ => lookup (i / 8) h s
  | _ => none

/-- A request of a context waits to be served; an AIM waits for a CANCEL of its event that has come (R238). -/
def requests (s : State) (i : Nat) : Bool :=
  match (s.ctx i).wait with
  | .insertion .. | .cancel .. => true
  | .aim .. => match aimOf s i with
    | some e => !((contexts s).any (fun j => cancelOf s j == some e))
    | none => true
  | _ => false

/-- How many places after the requester served last a sequencer stands; the firmware is requester 16 (R228). -/
def turnDist (s : State) (q : Nat) : Nat := (q + 16 - s.evs.turn) % 17

/-- The request of context 8 x `q` + `p` is the next one served: round-robin over the requesters (R228)
(DEDUCED, log 95). -/
def hasTurn (s : State) (q p : Nat) : Bool :=
  requests s (8 * q + p)
    && (contexts s).all (fun i => !requests s i || decide (turnDist s q ≤ turnDist s (i / 8)))

/-- A requester has been served (R228). -/
def served (q : Nat) (s : State) : State := { s with evs.turn := q }

/-- EVENT_INSERTION: the scheduler examines the insertion request of a context (R226, R228). -/
def doEventInsertion (q p : Nat) (s : State) : State :=
  match (s.ctx (8 * q + p)).wait, hasTurn s q p with
  | .insertion d b w0 w1 w2, true => answer (8 * q + p) d b true (insertEvent q w0 w1 w2 (served q s))
  | _, _ => s

/-- EVENT_AIM_REQUEST: the AIM request of a context (R228, R235). -/
def doEventAim (q p : Nat) (s : State) : State :=
  match (s.ctx (8 * q + p)).wait, hasTurn s q p with
  | .aim d h target w2, true => answer (8 * q + p) d 0 false (aimEvent q h target w2 (served q s))
  | _, _ => s

/-- EVENT_CANCEL_REQUEST: the CANCEL request of a context (R228, R236). -/
def doEventCancel (q p : Nat) (s : State) : State :=
  match (s.ctx (8 * q + p)).wait, hasTurn s q p with
  | .cancel d h, true => answer (8 * q + p) d 0 false (cancelEvent q h (served q s))
  | _, _ => s

/-! ## Claims on a bank (R340, R341) -/

/-- What a phase claims of the BANKED rail (R340). -/
inductive Rail where
  | boost | battery | none
  deriving DecidableEq, Repr

/-- A claim of an event (R341): an interval of ticks, the rail and the current in 10 mA. -/
structure Claim where
  lo : Tick
  hi : Tick
  rail : Rail
  current : Nat
  deriving DecidableEq, Repr

/-- A claim cut at the turn-off instant; none if nothing remains. -/
def cutClaim (off : Tick) (c : Claim) : List Claim :=
  if c.lo < min c.hi off then [{ c with hi := min c.hi off }] else []

/-- The rail STEEP claims (R340). -/
def steepRail (p : Profile) : Rail := if p.steepFeed then .boost else .battery

/-- The claims of a profile started at `f` with its turn-off instant at `off` (R341). -/
def claimsOf (p : Profile) (f off : Tick) : List Claim :=
  let steep := p.iHold + p.hyst + p.dithAmp
  if p.kind = 2 then cutClaim off { lo := f, hi := off, rail := steepRail p, current := steep }
  else
    let a := f + p.tPeakMax * ticksPerUs
    let b := a + p.tTrMax * ticksPerUs
    cutClaim off { lo := f, hi := a, rail := if p.boost = 0 then .battery else .boost, current := p.iPeak }
      ++ cutClaim off { lo := a, hi := b, rail := if p.trDecay = 0 then .battery else .none, current := p.iPeak }
      ++ cutClaim off { lo := b, hi := off, rail := steepRail p, current := steep }

/-- Two rail claims conflict in a BANKED bank (R340). -/
def railConflict : Rail → Rail → Bool
  | .none, _ => false
  | _, .none => false
  | .boost, _ => true
  | _, .boost => true
  | _, _ => false

/-- The length of the overlap of two claims in ticks. -/
def overlap (a b : Claim) : Nat := min a.hi b.hi - max a.lo b.lo

/-- The turn-off instant of a committed event, extension left out. -/
def evOff (e : Event) : Tick := e.frozen + (onTime e.copy e.ont).toNat * 80

/-- The claims of the committed and running events of a bank, channel `but` left out (R341). -/
def bankClaims (s : State) (b but : Nat) : List Claim :=
  (s.evs.slots.filter (fun e => committed e.2 && bankOf e.2.ch == b)).flatMap
      (fun e => claimsOf e.2.copy e.2.frozen (evOff e.2))
    ++ ((List.range 8).filter (fun i => running s (8 * b + i) && 8 * b + i != but)).flatMap
      (fun i => claimsOf (s.chan (8 * b + i)).ev.copy (s.chan (8 * b + i)).start (s.chan (8 * b + i)).offAt)

/-- The current a list of claims sums to at an instant. -/
def claimedAt (l : List Claim) (x : Tick) : Nat :=
  l.foldl (fun n c => if c.lo ≤ x ∧ x < c.hi then n + c.current else n) 0

/-- The bank refuses claims beside those it holds (R341): a conflict longer than the slip tolerance in a BANKED
bank, or a sum above 40 A at an instant of the claims. -/
def bankRefuses (s : State) (b : Nat) (mine others : List Claim) : Bool :=
  ((s.bank b).banked && mine.any (fun c => others.any (fun o =>
      railConflict c.rail o.rail && decide (s.slipNs b * ticksPerNs < overlap c o))))
    || (mine ++ others).any (fun o => decide (0 < claimedAt mine o.lo)
      && decide (4000 < claimedAt (mine ++ others) o.lo))

/-! ## Commit (R25, R233, R234) -/

/-- The edge unit of a channel holds an event that has not started (R239). -/
def edgeBusy (s : State) (ch : Nat) : Bool := s.evs.slots.any (fun e => committed e.2 && e.2.ch == ch)

/-- Stage 3 of R25 (R338): the reason of the refusal, 0 if it passes. -/
def stage3 (s : State) (ch : Nat) (p : Profile) : Nat :=
  let q := s.kettle (ktOf (bankOf ch))
  if s.supply.state = .holdup ∨ s.supply.state = .down then 9
  else if s.supply.enable = false then 10
  else if p.boost = 0 ∨ p.kind = 2 then 0
  else if q.state = .off ∨ q.state = .fault ∨ q.state = .bleed ∨ q.capUf = 0 ∨ 2 * p.boost + 8 < q.volt then 8
  else if (q.capUf : Int) * ((q.volt * q.volt : Nat) - (4 * p.boostMin * p.boostMin : Nat) : Int)
      < (3200 * (p.eBoost + q.res) : Nat) then 8
  else 0

/-- Stage 4 of R25: the Prism's refusal (R153, R239, R341), 0 if it passes. -/
def stage4 (s : State) (i : Nat) (e : Event) : Nat :=
  let b := bankOf e.ch
  if edgeBusy s e.ch then 11
  else if (s.bank b).draining then 12
  else if bankRefuses s b (claimsOf e.copy e.frozen (evOff e)) (bankClaims (s.setSlot i {}) b 64) then 12
  else 0

/-- The commit stages of R25 in order: the reason and DETAIL of the first refusal, (0, 0) if all pass. -/
def commitStages (s : State) (i : Nat) (e : Event) (armAt : Tick) : Nat × Nat :=
  if s.ruler.tooLong then (4, 1)
  else if evPassed s e || decide (e.frozen + 1500 * ticksPerNs < s.etc + s.horizonNs * ticksPerNs) then (3, 1)
  else match gate8 s e.ch e.target e.copy e.ont e.frozen with
    | 0 =>
      match stage3 s e.ch e.copy with
      | 0 =>
        match stage4 s i e with
        | 0 => if armAt + 100 * ticksPerNs ≤ e.frozen then (0, 0) else (13, 5)
        | r => (r, 4)
      | r => (r, 3)
    | n => (7, n)

/-- A CANCEL or AIM of the event of slot `i` has come, and goes before its commit (R238). -/
def requested (s : State) (i : Nat) : Bool :=
  (contexts s).any (fun j => cancelOf s j == some i || aimOf s j == some i)

/-- The commit instant of an event has come: the instant of the newest projection less H (R233). -/
def commitReached (s : State) (e : Event) : Bool := decide (e.proj ≤ s.etc + s.horizonNs * ticksPerNs)

/-- The event of slot `i` may commit now (R201, R233, R238, R240): NEAR, its commit instant reached, of the current
cycle, not held over the cycle boundary until the pass reaches it, not held back by an overdue tooth, and no request
before it. -/
def commitReady (s : State) (i : Nat) : Bool :=
  let e := s.slot i
  e.state == .near && commitReached s e && e.ctag == curTag s && !(s.evs.heldOver.contains i)
    && !(s.evs.hold && angInterval e.target != s.lns.cur) && !requested s i

/-- The event of slot `i` is the next to commit: commits go in order of commit instant, those of one instant in
order of slot (R233). -/
def commitDue (s : State) (i : Nat) : Bool :=
  commitReady s i && (nearSlots s).all (fun j => !commitReady s j || decide ((s.slot i).proj < (s.slot j).proj)
    || ((s.slot i).proj == (s.slot j).proj && decide (i ≤ j)))

/-- The event with the copies it takes at its commit (R234, R324). -/
def commitCopy (s : State) (e : Event) (armAt : Tick) : Event :=
  let p := s.profile e.prof
  { e with
    frozen := e.proj, armAt := armAt, copy := p
    peakMax := envPeakMax (envNow s) e.ch, onMax := envOnMax (envNow s) e.ch
    banked := (s.bank (bankOf e.ch)).banked
    reserve := if p.kind = 1 ∧ p.boost ≠ 0 then p.eBoost else 0 }

/-- The off-state test bias is removed at a commit: of the channel, in a BANKED bank of all its channels
(R362). -/
def abortTests (ch : Nat) (s : State) : State :=
  stopTests (fun k => k == ch || ((s.bank (bankOf ch)).banked && bankOf k == bankOf ch)) s

/-- An event that passed every stage is held by its channel's edge unit; its energy is reserved (R219, R338). -/
def arm (i : Nat) (e : Event) (s : State) : State :=
  let k := ktOf (bankOf e.ch)
  let q := s.kettle k
  (s.setKettle k { q with res := q.res + e.reserve }).setSlot i { e with state := .armed }

/-- COMMIT: the event of slot `i` reaches its commit instant; its time is frozen and it passes the stages, which
would arm its edge unit at `armAt` (R25, R233) (DEDUCED, log 8) (DEDUCED, log 74). -/
def doCommit (i : Nat) (armAt : Tick) (s : State) : State :=
  if !commitDue s i then s
  else
    let e := commitCopy s (s.slot i) armAt
    let s := abortTests e.ch s
    match commitStages s i e armAt with
    | (0, _) => nearFill (arm i e s)
    | (r, d) => nearFill (dropEvent r d i (s.setSlot i e))

/-! ## The running pass (R22, R23, R232) -/

/-- A commit inside a pass: the edge unit is armed at most 1.5 microseconds later (R26); when, is a free value
(DESIGN CHOICE, log 94). -/
def commitInPass (i : Nat) (s : State) : State :=
  if commitDue s i then
    doCommit i (s.etc + Config.armLatency s.fresh % (1500 * ticksPerNs + 1)) { s with fresh := s.fresh + 1 }
  else s

/-- The pass reaches the event of slot `i` (R232, R240): it is projected, tested for lateness, gated, its projection
stored, and it commits at once if its commit instant has passed. An event held over the cycle boundary meets the
lateness test of stage 1 instead. -/
def reaimOne (i : Nat) (s : State) : State :=
  let held := s.evs.heldOver.contains i
  let s := leavePass i s
  let e := s.slot i
  if e.state ≠ .near then s
  else
    let e := { e with proj := projectWord s e.target }
    if evLate s e && !(held && commitReached s e) then nearFill (dropEvent 2 0 i s)
    else match gateEvent s e with
      | 0 => commitInPass i (s.setSlot i e)
      | n => nearFill (dropEvent 7 n i s)

/-- The instant at which the pass reaches its next event: the event of rank k is done (k + 1) x 10 ns after the
start (R22) (DESIGN CHOICE, log 33). -/
def passNext (s : State) : Tick := s.evs.passAt + (s.evs.passRank + 1) * 10 * ticksPerNs

/-- The pass reaches its next event at that event's instant. -/
def passStep (i : Nat) (s : State) : State :=
  let u := reaimOne i { s with etc := passNext s, evs.passRank := s.evs.passRank + 1 }
  { u with etc := s.etc }

/-- A running pass reaches every event whose instant has come (R22, R232). -/
def passRun : List Nat → State → State
  | [], s => s
  | i :: r, s => if passNext s ≤ s.etc then passRun r (passStep i s) else s

/-- The re-aim pass is brought up to the present instant. -/
def passNow (s : State) : State := passRun s.evs.pass s

/-! ## Memory errors (R246 to R248) -/

/-- The channel a drop record shows after an uncorrectable error (R247). -/
def eccChannel (e : Event) (part : EccPart) : Nat :=
  match part, e.state with
  | .word w, .waiting => if w = 1 then 0xFF else e.ch
  | _, _ => e.ch

/-- The event as its drop record shows it after one word is lost: the fields of that word are free. -/
def lostFields (part : EccPart) (v : Word) (e : Event) : Event :=
  match part with
  | .word 0 => { e with target := v }
  | .word 1 => { e with prof := bits v.toNat 8 8, ctag := bits v.toNat 16 8 }
  | .word 2 => { e with user := bits v.toNat 16 8 }
  | .word 3 => { e with seq := bits v.toNat 0 16, owner := bits v.toNat 20 5 }
  | _ => e

/-- The slot is quarantined; source 205 and the scheduler memory fault are raised (R247, R248). -/
def quarantine (i : Nat) (s : State) : State :=
  let s := s.setSlot i { state := .quarantined }
  fault 16 (raise 205 { s with evs.uncorr := satInc 255 s.evs.uncorr })

/-- A committed event whose withdrawal comes too late starts from the edge unit's copy; its slot is quarantined
(R241, R247). -/
def quarantineLate (i : Nat) (s : State) : State :=
  let s := s.setSlot i { s.slot i with bad := true }
  fault 16 (raise 205 { s with evs.uncorr := satInc 255 s.evs.uncorr })

/-- EVENT_TABLE_ECC_ERROR: an uncorrectable error in a slot or a copy of its times (R241, R247, R248). -/
def doEventTableEccError (i : Nat) (part : EccPart) (s : State) : State :=
  let e := s.slot i
  if e.state = .quarantined ∨ e.bad = true then s
  else if e.state = .free ∨ e.state = .running then quarantine i s
  else if committed e && !inTime s e then quarantineLate i s
  else
    let f := lostFields part (Config.lostWord s.fresh) e
    let ch := eccChannel e part
    let s := recordDrop i f ch 20 0 { s with fresh := s.fresh + 1 }
    let n := dropNotice i { f with ch := ch % 64 } 20 0
    let s := notice f.owner n.1 n.2 (freeSlot i s)
    nearFill (quarantine i s)

end Sys2Proof.Machine
end

