-- ==== Sys2Proof/Machine/Cycle.lean ====
section
/-! DEFINITION. Field groups taking effect (04_ohmac_command_set.md R150 to R153), the quick-start record's
invalidation (05 R175, R179), the envelope coming into force (03 R97) and the steps at the engine-cycle boundary
(04 R151, 07 R242, 03 R106). -/

namespace Sys2Proof.Machine

/-! ## The quick-start record (R175 to R179) -/

/-- A Caddy write begins (R435, R436). -/
def caddyJob (j : CaddyJob) (s : State) : State := { s with bgs.jobs := s.bgs.jobs ++ [j] }

/-- Records whose write has begun or waits are written unusable (R152, R179). -/
def spoilRecords (reason : Nat) (s : State) : State :=
  let waits := s.bgs.jobs.any (fun j => match j with
    | .quickStart r => r.usable
    | _ => false)
  if waits then
    raise 20 { s with
      whl.qsInval := reason
      bgs.jobs := s.bgs.jobs.map (fun j => match j with
        | .quickStart r => .quickStart { r with usable := false }
        | j => j) }
  else s

/-- The record in force is marked unusable: an invalidation with a higher QS_SEQ is written (R178, R179). -/
def qsInvalidate (reason : Nat) (s : State) : State :=
  if s.whl.qs.usable then
    let r := { s.whl.qs with usable := false, seq := s.whl.qs.seq + 1 }
    raise 20 (caddyJob (.quickStart r) { s with whl := { s.whl with qs := r, qsInval := reason } })
  else s

/-- The held position is discarded (R174): the record, if one is usable, becomes unusable with it (R179). -/
def dropHeld (reason : Nat) (s : State) : State :=
  if s.whl.crank.hasPos then
    qsInvalidate reason { s with whl := { s.whl with crank := { s.whl.crank with hasPos := false }, qsInval := reason } }
  else s

/-! ## Groups taking effect (R150) -/

/-- The byte ranges of a field group, by group number (R142). -/
def groupRanges : Nat → List (Nat × Nat)
  | 0 => [(0x20, 32)]
  | 1 => [(0x40, 16)]
  | 2 => [(0x50, 48)]
  | 3 => [(0x80, 160)]
  | 4 => [(0x120, 32)]
  | 5 => [(0x140, 32)]
  | 6 => [(0x160, 64), (0x400, 8192)]
  | 7 => [(0x1A0, 96)]
  | 8 => [(0x200, 32)]
  | _ => []

/-- The entries of a block inside a range. -/
def blkRange (b : Block) (a n : Nat) : Block := b.filter (fun e => decide (a ≤ e.1) && decide (e.1 < a + n))

/-- A block with one range taken from another block. -/
def copyRange (src dst : Block) (r : Nat × Nat) : Block :=
  dst.filter (fun e => decide (e.1 < r.1)) ++ blkRange src r.1 r.2
    ++ dst.filter (fun e => decide (r.1 + r.2 ≤ e.1))

/-- A block with one group taken from another block. -/
def copyGroup (src : Block) (g : Nat) (dst : Block) : Block := (groupRanges g).foldl (copyRange src) dst

/-- Two blocks differ in a group. -/
def groupDiffers (a b : Block) (g : Nat) : Bool :=
  (groupRanges g).any (fun r => decide (blkRange a r.1 r.2 ≠ blkRange b r.1 r.2))

/-- The fields whose change is a change of geometry (R152): N_TEETH to GAP_POS and ZERO_OFS. -/
def geometryOf (b : Block) : List Nat :=
  [blkU16 b 0x80, blkU8 b 0x82, blkU8 b 0x83, blkU16 b 0x84, blkU32 b 0x88]

/-- The tooth-error map is cleared (R206). -/
def clearMap (s : State) : State :=
  raise 40 { s with lns := { s.lns with
    map := [], learnedSet := [], stamps := [], unsaved := false, restored := false } }

/-- Inputs that are off produce no stamps (R155). -/
def offInputs (s : State) : State :=
  forEach ((List.range 8).filter (fun n => s.role n == 0))
    (fun n s => s.setWheel n { s.wheel n with held := [], lead := none }) s

/-- WHEEL takes effect (R152): a new geometry discards the map and the record, and with them the position held
on the old one; no position is held without direction decoding (R174). -/
def wheelApplied (old : Block) (s : State) : State :=
  let s := offInputs s
  let s := if sourceDecodes s then s else { s with whl.crank.hasPos := false }
  if geometryOf old = geometryOf s.cfg.active then s
  else
    let s := qsInvalidate 1 (spoilRecords 1 (clearMap s))
    { s with whl := { s.whl with
      crank := { s.whl.crank with hasPos := false }, second := {}, secOfs := none, secState := 0, secAgree := false } }

/-- A profile started under a bank mode is still running (R153). -/
def oldModeRuns (s : State) (b : Nat) (banked : Bool) : Bool :=
  (List.range 8).any (fun i => (s.chan (8 * b + i)).phase != .idle && (s.chan (8 * b + i)).ev.banked == banked)

/-- A bank's mode follows the configuration once no profile of the old mode runs (R153, R347). -/
def bankMode (b : Nat) (s : State) : State :=
  let want := blkBanked s.cfg.active b
  let x := s.bank b
  if x.banked = want then s.setBank b { x with draining := false }
  else if oldModeRuns s b x.banked then s.setBank b { x with draining := true }
  else raise (112 + b) (s.setBank b { x with banked := want, draining := false })

/-- The slots whose PEAK a new target of Kettle `k` waits for: events committed on its banks and channels in
PEAK (R337). -/
def peaksAwaited (s : State) (k : Nat) : List Nat :=
  slotsWhere s (fun e => committed e && e.copy.kind == 1 && ktOf (bankOf e.ch) == k)
    ++ ((List.range 16).filter (fun i => (s.chan (16 * k + i)).phase == .peak)).map (fun i => (s.chan (16 * k + i)).evSlot)

/-- A changed KT_BOOST sets the Kettle's new target (R153, R337). -/
def kettleTarget (k : Nat) (s : State) : State :=
  let q := s.kettle k
  let u := s.ktBoost k
  if q.waiting = some u then s
  else if q.target = u then s.setKettle k { q with waiting := none, waitFor := [] }
  else ktTargetNow k (s.setKettle k { q with waiting := some u, waitFor := peaksAwaited s k })

/-- DRIVE takes effect (R153). -/
def driveApplied (s : State) : State :=
  let s := forEach (List.range s.banks) bankMode s
  ktLimits (forEach (List.range s.kettles) kettleTarget s)

/-- Frames moved to the lane that stays enabled (R449): those that do not fit are lost and counted. -/
def mergeLane (a b : Lane) : Lane × Lane × Nat :=
  let room := 256 - b.queue.length
  let lost := a.queue.length - room
  ({ a with queue := [], lost := sat 65535 (a.lost + lost) }, { b with queue := b.queue ++ a.queue.take room }, lost)

/-- MIRROR_EN takes effect (R449). -/
def mirrorApplied (old : Nat) (s : State) : State :=
  match s.mirrorEn % 4 with
  | 0 => { s with obs := { s.obs with lane0 := { s.obs.lane0 with queue := [] }, lane1 := { s.obs.lane1 with queue := [] } } }
  | 1 =>
    if bitAt old 1 then
      let r := mergeLane s.obs.lane1 s.obs.lane0
      raiseIf (r.2.2 != 0) 228 { s with obs := { s.obs with lane0 := laneStart (lanesStopped s) r.2.1, lane1 := r.1 } }
    else s
  | 2 =>
    if bitAt old 0 then
      let r := mergeLane s.obs.lane0 s.obs.lane1
      raiseIf (r.2.2 != 0) 228 { s with obs := { s.obs with lane0 := r.1, lane1 := laneStart (lanesStopped s) r.2.1 } }
    else s
  | _ => s

/-- VBAK is not good, and expected (R417 source 3, R143 VBAK_REQ). -/
def vbakAbsent (s : State) : Bool := !s.supply.vbak.good && bitAt (blkU8 s.cfg.active 0x41) 0

/-- Fault source 3 follows its condition. -/
def vbakCheck (s : State) : State := if vbakAbsent s then faultOnset 3 s else faultEnd 3 s

/-- What a group changes beside its fields when it takes effect. -/
def groupEffect (old : Block) (g : Nat) (s : State) : State :=
  match g with
  | 1 => vbakCheck (ktLimits s)
  | 3 => wheelApplied old s
  | 6 => driveApplied s
  | 7 => tripsApplied s
  | 8 => mirrorApplied (blkU8 old 0x204) s
  | _ => s

/-- The groups of a mask. -/
def groupsOf (m : Nat) : List Nat := (List.range 9).filter (fun g => bitAt m g)

/-- COMMIT_SEQ of a block (R142, R148). -/
def commitSeq (b : Block) : Nat := blkU32 b 8 + 2 ^ 32 * blkU32 b 12

/-- Source 10 and the CONFIG entry of a group that takes effect (R150, R443). -/
def groupReport (g : Nat) (s : State) : State :=
  log 9 1 (leBytes 2 (2 ^ g) ++ leBytes 8 (commitSeq s.cfg.committed)) (raise 10 s)

/-- The groups of a mask take effect together (R150): their fields become active, then each is reported. -/
def applyGroups (m : Nat) (s : State) : State :=
  if groupsOf m = [] then s
  else
    let old := s.cfg.active
    let s := { s with cfg := { s.cfg with
      active := (groupsOf m).foldl (fun b g => copyGroup s.cfg.committed g b) old
      pending := s.cfg.pending &&& ~~~(BitVec.ofNat 16 m) } }
    let s := forEach (groupsOf m) (groupEffect old) s
    forEach (groupsOf m) groupReport s

/-- Apply those of the named groups that are pending. -/
def applyPending (m : Nat) (s : State) : State := applyGroups (s.cfg.pending.toNat &&& m) s

/-! ## The envelope coming into force (R97) -/

/-- A waiting envelope takes effect; source 236 is raised (R97, R110). -/
def envelopeBoundary (s : State) : State :=
  match s.sec.waitingEnv with
  | some e => raise 236 { s with sec := { s.sec with envelope := some e, waitingEnv := none, envBad := false } }
  | none => s

/-! ## The engine-cycle boundary (R151, R242) -/

/-- The 96 bytes of a cycle record with a nonce (R106). -/
def CycleRec.bytes (r : CycleRec) (nonce : List Byte) : List Byte :=
  leBytes 4 0x59434C4B ++ leBytes 4 r.cycle ++ leBytes 8 r.etcStart ++ leBytes 8 r.etcEnd ++ leBytes 8 r.envSeq
    ++ leBytes 2 r.counts.fired ++ leBytes 2 r.counts.late ++ leBytes 2 r.counts.gate ++ leBytes 2 r.counts.energy
    ++ leBytes 2 r.counts.other ++ zeros 2 ++ padTo 16 nonce ++ zeros 4 ++ beBytes 32 r.chain.toNat

/-- A cycle had a drop. -/
def CycleCounts.anyDrop (c : CycleCounts) : Bool := c.late != 0 || c.gate != 0 || c.energy != 0 || c.other != 0

/-- The logbook takes the record of the cycle (R443): at level 2 with a drop or every 1,024th, else at level 3. -/
def logCycle (r : CycleRec) (s : State) : State :=
  if (if r.counts.anyDrop || r.cycle % 1024 == 0 then 2 else 3) ≤ s.logLevel then logAppend 15 (r.bytes []) s else s

/-- One expected mark that did not arrive in the cycle is a cam error (R164). -/
def camError (s : State) : State :=
  raise 19 { s with whl := { s.whl with camErr := satInc 65535 s.whl.camErr } }

/-- The learned marks of a cam that the cycle did not bring. -/
def missedMarks (c : Cam) : Nat := ((List.range c.learned.length).filter (fun i => !(c.met.contains i))).length

/-- A phase mark of a cam in a list of marks. -/
def phaseMarkOf (l : List (Nat × Bool)) : Option Nat := (l.find? (fun m => m.2)).map (·.1)

/-- The end of the learning cycle (R164): the marks collected are learned, the phase-mark angle is shown. -/
def camLearned (s : State) : State :=
  let s := { s with whl := { s.whl with
    learnCycle := 2
    cams := Table.mapAll {} (fun c => { c with learned := c.collect, collect := [], met := [], contra := false }) s.whl.cams } }
  match (phaseMarkOf (s.whl.cams.get {} 0).learned).orElse (fun _ => phaseMarkOf (s.whl.cams.get {} 1).learned) with
  | some a => { s with whl := { s.whl with camAng := angWord a } }
  | none => s

/-- The cam checks of a cycle that ends in FULL (R164, R184). -/
def camCycleCheck (s : State) : State :=
  let run := if s.whl.phaseNow then 0 else s.whl.missRun + 1
  let missed := (s.whl.cams.map (fun e => missedMarks e.2)).foldl (· + ·) 0
  let lost := decide (2 ≤ run)
  let s := if lost then s else repeatN camError missed s
  let s := raiseIf (lost && !s.whl.camLost) 19 s
  { s with whl := { s.whl with
    missRun := run, camLost := lost, contraPrev := s.whl.contraNow, contraNow := false, phaseNow := false
    cams := Table.mapAll {} (fun c => { c with met := [], contra := false }) s.whl.cams } }

/-- The cam marks at a forward crossing of the cycle boundary in FULL (R164): the first complete cycle is
learned, the later ones are checked. -/
def camCycle (s : State) : State :=
  if s.whl.sync ≠ .full then s
  else match s.whl.learnCycle with
    | 0 => { s with whl := { s.whl with
        learnCycle := 1, phaseNow := false
        cams := Table.mapAll {} (fun c => { c with collect := [] }) s.whl.cams } }
    | 1 => camLearned { s with whl := { s.whl with phaseNow := false } }
    | _ => camCycleCheck s

/-- Step 1 of R242: every event of the ending cycle that has not started is dropped with reason 6; one a
withdrawal reaches too late starts (R241). -/
def purge (tag : Nat) (s : State) : State :=
  let mine := slotsWhere s (fun e => unstarted e && e.ctag == tag)
  let before := s.evs.drops
  let s := forEach mine (fun i s => match (s.slot i).state with
    | .waiting | .near => dropEvent 6 0 i s
    | _ => withdraw 6 i s) s
  raiseIf (s.evs.drops != before) 203 s

/-- The counts of a cycle that came before it began, and those since. -/
def CycleCounts.plus (a b : CycleCounts) : CycleCounts :=
  { fired := sat 65535 (a.fired + b.fired), late := sat 65535 (a.late + b.late), gate := sat 65535 (a.gate + b.gate)
    energy := sat 65535 (a.energy + b.energy), other := sat 65535 (a.other + b.other) }

/-- The steps at a forward crossing of the cycle boundary that increments the counter, at instant `x` (R151,
R173, R242). The counts of the ending cycle are those `evs.next` holds once the counter has moved, with those of its
events dropped before it began. NEAR events of the new cycle whose commit instant has come are held for the pass that
follows (R240). Reverse before it is no part of a run-down after it (R176) (DEDUCED, log 97). The steps
are complete 500 ns later, the bound of R242 (DESIGN CHOICE, log 33). -/
def cycleBoundary (x : Tick) (s : State) : State :=
  let tag := curTag s
  let old := s.evs
  let chain := s.bgs.lastHash
  let env := envSeq (envNow s)
  let s := camCycle s
  let s := { s with
    whl.revSeen := false
    evs := { s.evs with cycle := wrapInc 32 old.cycle, cur := {}, next := old.cur, early := old.next }
    lns := { s.lns with
      fullCross := if s.whl.sync = .full then satInc 9 s.lns.fullCross else 0
      pauseCross := s.lns.pauseCross - 1 } }
  let s := purge tag s
  let r : CycleRec := { cycle := old.cycle, etcStart := old.boundaryEtc, etcEnd := x, envSeq := env
                        counts := old.early.plus s.evs.next, chain := chain }
  let s := { s with evs := { s.evs with
    boundaryEtc := x, next := {}, started := []
    heldOver := slotsWhere s (fun e => e.state == .near && commitReached s e)
    records := (s.evs.records ++ [r]).drop (s.evs.records.length - 255) } }
  let s := logCycle r s
  let s := envelopeBoundary s
  let s := applyPending 0x70 s
  { s with evs.steps := some (s.etc + 500 * ticksPerNs) }

/-- The boundary steps are complete: source 204, the Mirror frame and the CYCLE latches (R242, R273). -/
def stepsDone (s : State) : State :=
  latchAll 4 (mirrorState 4 (curTag s) (raise 204 { s with evs.steps := none }))

/-- A forward crossing of the cycle boundary (R173): after a reverse crossing it clears the flag only. -/
def crossForward (x : Tick) (s : State) : State :=
  if s.whl.cycleRev then { s with whl.cycleRev := false } else cycleBoundary x s

end Sys2Proof.Machine
end

