-- ==== Sys2Proof/Machine/Dia.lean ====
section
/-! DEFINITION. Closing detection and load diagnostics (11_closing_detection_diagnostics.md R351 to R366): samples
and the kink law, the closing record, the end of a capture, off-state tests and on-state faults. -/

namespace Sys2Proof.Machine

/-! ## The kink law (R351, R352) -/

/-- M = 2^F. -/
def KinkCfg.sumLen (c : KinkCfg) : Nat := 2 ^ c.f

/-- The samples k depends on: M + 2D. -/
def KinkCfg.span (c : KinkCfg) : Nat := c.sumLen + 2 * c.d

/-- The threshold K_TH << F. -/
def KinkCfg.threshold (c : KinkCfg) : Int := (c.kth * 2 ^ c.f : Nat)

/-- The sum of a list of codes. -/
def sumCodes (l : List Int) : Int := l.foldl (· + ·) 0

/-- y of R351, `n` samples before the newest of a history. -/
def kinkY (c : KinkCfg) (hist : List Int) (n : Nat) : Int := sumCodes ((hist.drop n).take c.sumLen)

/-- k of R351 at the newest sample, after POL. -/
def kinkK (c : KinkCfg) (hist : List Int) : Int :=
  let k := (kinkY c hist 0 - kinkY c hist c.d) - (kinkY c hist c.d - kinkY c hist (2 * c.d))
  if c.pol then -k else k

/-- A code of -2,048 or +2,047 is saturated (R354). -/
def saturated (v : Int) : Bool := v == -2048 || v == 2047

/-- The criterion of R351 at the newest sample. -/
def kinkCriterion (c : KinkCfg) (hist : List Int) : Bool :=
  decide (c.threshold ≤ kinkK c hist) && !(hist.take c.span).any saturated

/-- r of R352, Q8.8 samples. -/
def kinkRatio (c : KinkCfg) (k kPrev : Int) : Nat := min ((k * 256) / (k - kPrev)).toNat (c.d * 256)

/-- CLOSE of R352. -/
def closeAt (c : KinkCfg) (d : Detection) : Tick :=
  d.etc - kinkRatio c d.k d.kPrev * 400 / 256 - (c.sumLen - 1) * 200

/-! ## Captures (R355 to R357) -/

/-- The end of a capture window (R355). -/
def windowEnd (c : Capture) : Tick := c.off + (c.cfg.winStart + c.cfg.winLen) * ticksPerUs

/-- The instant of the capture's next sample lies in the search range (R356), which the first 10 samples never reach
(R357). -/
def inSearch (c : Capture) (x : Tick) : Bool :=
  match c.recovEnd with
  | some r => decide (c.off + c.cfg.winStart * ticksPerUs ≤ x) && decide (r + c.cfg.span * 400 ≤ x)
      && decide (x ≤ windowEnd c) && decide (10 ≤ c.count)
  | none => false

/-- The history of the sample at `x` includes a switching edge of the bank (R357). -/
def disturbedAt (s : State) (b : Nat) (c : Capture) (x : Tick) : Bool :=
  match (s.bank b).lastSwitch with
  | some e => decide (x ≤ e + (c.cfg.span - 1) * 400)
  | none => false

/-- The stored halfword of a sample (R357). -/
def traceWord (v : Int) (det : Bool) : Nat := twos 12 v + flagAt det 12 + flagAt (saturated v) 13

/-- The address of halfword `i` of a bank's trace buffer (R357). -/
def traceAddr (b i : Nat) : Nat := 0x600000 + 0x800 * b + 2 * i

/-- The detection is marked on the stored sample whose interval contains it (R357). -/
def markDetection (b n : Nat) (s : State) : State :=
  let d := s.dgt b
  let i := n / 2 ^ d.dec
  if i < d.count then
    let a := traceAddr b i + 1
    (s.memPatch a [s.memByte a ||| 0x10#8]).setDgt b { d with detIdx := i }
  else s

/-- Every 2^DEC-th sample is stored, up to 1,024 (R357). -/
def storeSample (b n : Nat) (v : Int) (s : State) : State :=
  let d := s.dgt b
  if n % 2 ^ d.dec = 0 ∧ d.count < 1024 then
    (s.memPatch (traceAddr b d.count) (leBytes 2 (traceWord v false))).setDgt b { d with
      count := d.count + 1, trEtc := if d.count = 0 then s.etc else d.trEtc }
  else s

/-- The capture after one more sample (R351, R356). -/
def addSample (s : State) (b : Nat) (v : Int) (c : Capture) : Capture :=
  let hist := (v :: c.hist).take (c.cfg.span + 1)
  let k := kinkK c.cfg hist
  let here := inSearch c s.etc
  let found := c.det.isNone && here && c.lastIn && c.lastOk && kinkCriterion c.cfg hist
    && (match c.kLast with
      | some p => decide (p < c.cfg.threshold)
      | none => false)
  { c with
    hist := hist, count := c.count + 1, kLast := some k, lastOk := !saturated v, lastIn := here
    det := if found then some { n := c.count, etc := s.etc, k := k, kPrev := c.kLast.getD 0, y := kinkY c.cfg hist 0
                                disturbed := disturbedAt s b c s.etc }
      else c.det }

/-- The sample is the next of the capture: the first at or after the turn-off instant, the others 400 ticks apart
(R351, R355). -/
def sampleDue (s : State) (b : Nat) (c : Capture) : Bool :=
  decide (c.off ≤ s.etc) && decide (s.etc ≤ windowEnd c)
    && (c.count == 0 || s.etc == (s.dgt b).trEtc + 400 * c.count)

/-- DIGITISER_SAMPLE: a capturing digitiser takes its next sample (R351, R357). -/
def doDigitiserSample (b : Nat) (code : BitVec 12) (s : State) : State :=
  match (s.dgt b).capture with
  | some c =>
    if sampleDue s b c then
      let v := signed 12 code.toNat
      let s := storeSample b c.count v s
      let c' := addSample s b v c
      let s := s.setDgt b { s.dgt b with capture := some c' }
      if c.det.isNone && c'.det.isSome then markDetection b c.count s else s
    else s
  | none => s

/-! ## The closing record (R358, R359) -/

/-- A count rounded up to whole units. -/
def ceilDiv (n d : Nat) : Nat := (n + d - 1) / d

/-- The 64 bytes of a closing record (R359). -/
def recordBytes (s : State) (b : Nat) (c : Capture) (d : Detection) (num : Nat) : List Byte :=
  let ch := s.chan c.ch
  let e := c.ev
  let close := closeAt c.cfg d
  let recov := sat 65535 ((c.recovEnd.getD c.off - c.off) / 80)
  leBytes 4 (c.ch + e.prof * 2 ^ 8 + e.user * 2 ^ 16 + ch.lastEnd * 2 ^ 24)
    ++ leBytes 4 (e.seq + e.ctag * 2 ^ 16 + e.owner * 2 ^ 24)
    ++ leBytes 8 ch.start ++ leBytes 8 c.off ++ leBytes 8 close
    ++ leBytes 4 (sat 65535 (d.k / (c.cfg.sumLen : Nat)).toNat + kinkRatio c.cfg d.k d.kPrev * 2 ^ 16)
    ++ leBytes 4 (twos 12 (d.y / (c.cfg.sumLen : Nat)) + flagAt d.disturbed 12 + flagAt c.cfg.range 13)
    ++ leBytes 4 (recov + sat 8191 ch.lastPeak * 2 ^ 16)
    ++ leBytes 4 c.cycle
    ++ leBytes 4 (twos 16 e.ont + sat 65535 (ceilDiv ch.ext 1000) * 2 ^ 16)
    ++ leBytes 4 num
    ++ leBytes 4 (c.seq + (s.dgt b).detIdx * 2 ^ 16)
    ++ zeros 4

/-- The record of a detection is written, then W increments, then the CLOSE notice is posted and the channel source
raised (R278, R358, R447). -/
def writeClosing (b : Nat) (c : Capture) (d : Detection) (s : State) : State :=
  let num := s.dia.recWr
  let h := s.dch c.ch
  let s := s.memWrite (0x610000 + 64 * (num % 1024)) (recordBytes s b c d num)
  let s := { s with dia.recWr := wrapInc 32 num }
  let s := { s with bgs.closes :=
    s.bgs.closes.filter (fun (x : Tick × Nat × Nat) => decide (s.etc < x.1 + ticksPerS)) ++ [(s.etc, c.ch, (closeAt c.cfg d - c.off) / 800)] }
  let s := s.setDgt b { s.dgt b with capture := some { c with written := true } }
  let s := s.setDch c.ch { h with last := 1, disturbed := d.disturbed, kinks := wrapInc 16 h.kinks }
  let s := notice c.ev.owner (noticeWord 3 0 c.ch c.ev.user 0) (BitVec.ofNat 32 num) s
  let s := raise (48 + c.ch) s
  mirrorAt 4 (BitVec.ofNat 8 c.ch :: leBytes 2 c.ev.seq ++ leBytes 4 num) (closeAt c.cfg d) s

/-- A detection whose record is not yet written has it written. -/
def pendingRecord (b : Nat) (s : State) : State :=
  match (s.dgt b).capture with
  | some c => match c.det, c.written with
    | some d, false => writeClosing b c d s
    | _, _ => s
  | none => s

/-- CLOSING_RECORD_WRITTEN (R358) (DEDUCED, log 38). -/
def doClosingRecordWritten (b : Nat) (s : State) : State := pendingRecord b s

/-- A capture ends at an instant: the digitiser is released (R355, R356). -/
def endCapture (b : Nat) (x : Tick) (s : State) : State :=
  match (s.dgt b).capture with
  | some c =>
    let s := pendingRecord b s
    let h := s.dch c.ch
    let h := { h with lastCapture := x }
    let h := if c.det.isNone then { h with last := 2, misses := satInc 255 h.misses } else h
    (s.setDch c.ch h).setDgt b { s.dgt b with capture := none, muxAt := some x }
  | none => s

/-- CAPTURE_END: the capture window ends (R355). -/
def doCaptureEnd (b : Nat) (s : State) : State :=
  match (s.dgt b).capture with
  | some c => if windowEnd c ≤ s.etc then endCapture b (windowEnd c) s else s
  | none => s

/-- The next profile start on a channel ends the capture of its previous tail (R355). -/
def startEndsCapture (k : Nat) (x : Tick) (s : State) : State :=
  match (s.dgt (bankOf k)).capture with
  | some c => if c.ch = k then endCapture (bankOf k) x s else s
  | none => s

/-! ## Off-state tests (R361, R362, R364) -/

/-- What a channel's phase claims of its rail (R340). -/
def phaseClaim (c : Chan) : Rail :=
  match c.phase with
  | .peak => if c.peakSel = 1 then .boost else .battery
  | .transition => if c.ev.copy.trDecay = 0 then .battery else .none
  | .steep => steepRail c.ev.copy
  | _ => .none

/-- A channel's phase holds a claim on its bank's rail now (R340, R342). -/
def holdsRail (s : State) (r : Rail) (k : Nat) : Bool := decide (phaseClaim (s.chan k) = r) && !(s.chan k).withheld

/-- A channel of a bank holds a claim on its rail. -/
def bankHolds (s : State) (r : Rail) (b : Nat) : Bool := (List.range 8).any (fun i => holdsRail s r (8 * b + i))

/-- The rail of a BANKED bank, which all its selectors follow: at boost level, at battery level or off (R339, R340). -/
def bankRail (s : State) (b : Nat) : Rail :=
  if bankHolds s .boost b then .boost else if bankHolds s .battery b then .battery else .none

/-- What a channel's high-side selector connects (R339): the rail of a BANKED bank; of an INDEPENDENT one the feed of
the channel's own phase while its regulator or its PEAK has it on (R325 to R327). -/
def highSide (s : State) (k : Nat) : Rail :=
  let c := s.chan k
  if (s.bank (bankOf k)).banked then bankRail s (bankOf k)
  else match c.phase with
    | .peak | .steep => if c.feedOn && !c.withheld then phaseClaim c else .none
    | _ => .none

/-- A channel's low side is on (R325 to R329, R339): in PEAK; in STEEP, where a BANKED bank chops it; in a slow
TRANSITION of an INDEPENDENT bank, whose current freewheels to PGND. -/
def lowSide (s : State) (k : Nat) : Bool :=
  let c := s.chan k
  let banked := (s.bank (bankOf k)).banked
  match c.phase with
  | .peak => true
  | .transition => decide (c.ev.copy.trDecay = 0) && !banked
  | .steep => !banked || (c.feedOn && !c.withheld)
  | _ => false

/-- A channel's feed and low side are on. -/
def feeding (s : State) (k : Nat) : Bool := decide (highSide s k ≠ .none) && lowSide s k

/-- A running profile of a bank holds a rail claim. -/
def bankClaimed (s : State) (b : Nat) : Bool :=
  (List.range 8).any (fun i => decide (phaseClaim (s.chan (8 * b + i)) ≠ .none))

/-- A capture of the channel is running. -/
def capturing (s : State) (k : Nat) : Bool :=
  match (s.dgt (bankOf k)).capture with
  | some c => c.ch == k
  | none => false

/-- The channel is eligible for the off-state test (R362, R418, R457). -/
def testEligible (s : State) (k : Nat) : Bool :=
  let c := s.chan k
  decide (k < s.channels) && s.sys.mode == .run && !s.flt.safe
    && (s.supply.state == .main || s.supply.state == .backup)
    && c.phase == .idle && !edgeBusy s k && !capturing s k
    && decide (c.idleAt + 20 * ticksPerUs ≤ s.etc) && decide ((s.dch k).lastCapture + 20 * ticksPerUs ≤ s.etc)
    && !((s.bank (bankOf k)).banked && bankClaimed s (bankOf k))

/-- Start the test of a channel. -/
def startTest (k : Nat) (s : State) : State :=
  let h := s.dch k
  s.setDch k { h with test := some s.etc, testSingle := h.single.isSome, single := none }

/-- A channel's DIAG_RUN test waits and its time has not passed (R364). -/
def singleWaits (s : State) (h : DiaCh) : Bool :=
  match h.single with
  | some d => decide (s.etc ≤ d)
  | none => false

/-- OFF_TEST_START: every 1 ms a test starts on each eligible channel with OFF_EN set (R362); a DIAG_RUN test starts at
the channel's eligibility (R364). -/
def doOffTestStart (s : State) : State :=
  let round := match s.dia.lastRound with
    | some r => decide (r + ticksPerMs ≤ s.etc)
    | none => true
  let l := (List.range s.channels).filter (fun k =>
    let h := s.dch k
    h.test.isNone && (singleWaits s h || (round && h.offEn)) && testEligible s k)
  let s := forEach l startTest s
  if round then { s with dia.lastRound := some s.etc } else s

/-- The row of R361 a pair of voltages in 10 mV meets, by its result code (DEDUCED, log 39). -/
def offRow (code : Nat) (v : Nat × Nat) : Bool :=
  let sb := decide (600 ≤ v.1) || decide (600 ≤ v.2)
  let sg := decide (v.1 ≤ 150)
  let op := decide (300 ≤ v.1) && decide (v.2 ≤ 150)
  let ok := decide (300 ≤ v.1 ∧ v.1 ≤ 600 ∧ 300 ≤ v.2 ∧ v.2 ≤ 600) && decide (v.1 ≤ v.2 + 50 ∧ v.2 ≤ v.1 + 50)
  match code with
  | 4 => sb
  | 3 => sg
  | 2 => op
  | 1 => ok
  | _ => !sb && !sg && !op && !ok

/-- The result of a test: the first row that holds throughout; none if no single row does (R361). -/
def offResult (l : List (Nat × Nat)) : Option Nat :=
  if l.isEmpty then none else [4, 3, 2, 1, 5].find? (fun c => l.all (offRow c))

/-- The result is a fault code (R361, R362). -/
def offFaulty (c : Nat) : Bool := c == 2 || c == 3 || c == 4

/-- A complete test's result (R362, R364, R369). A confirmed code that lasts is counted and raised once (R412). -/
def offDone (k code : Nat) (last : Nat × Nat) (s : State) : State :=
  let h := s.dch k
  let confirms := offFaulty code && (h.testSingle || h.prevOff == code)
  let onset := confirms && h.confirmed != code
  let s := s.setDch k { h with
    off := code, prevOff := code, offTests := wrapInc 16 h.offTests, vh := sat 4095 last.1, vl := sat 4095 last.2
    test := none, testSingle := false
    confirmed := if confirms || h.confirmed == code then code else 0
    offFlt := h.offFlt || confirms, offFaults := if onset then satInc 255 h.offFaults else h.offFaults }
  if onset then fault (80 + bankOf k) s else s

/-- OFF_TEST_COMPLETE: 50 microseconds of settling and 100 of measurement are over (R361). -/
def doOffTestComplete (k : Nat) (samples : List (Nat × Nat)) (s : State) : State :=
  match (s.dch k).test with
  | some t =>
    if t + 150 * ticksPerUs ≤ s.etc then
      match offResult samples with
      | some c => offDone k c (samples.getLastD (0, 0)) s
      | none => s.setDch k { s.dch k with test := some s.etc }
    else s
  | none => s

/-- OFF_TEST_NOT_RUN: a DIAG_RUN test found no eligibility within 10 ms (R364). -/
def doOffTestNotRun (k : Nat) (s : State) : State :=
  let h := s.dch k
  match h.single with
  | some d => if d ≤ s.etc then s.setDch k { h with single := none, off := 6 } else s
  | none => s

/-- The channels of a 64-bit mask. -/
def maskChannels (m : BitVec 64) : List Nat := (List.range 64).filter (fun k => m.getLsbD k)

/-- DIAG_RUN kind 1 (R364): one test on each masked channel, begun at once where it is eligible. -/
def diagOffTest (m : BitVec 64) (s : State) : State :=
  forEach (maskChannels m) (fun k s =>
    let s := s.setDch k { s.dch k with single := some (s.etc + 10 * ticksPerMs) }
    if (s.dch k).test.isNone && testEligible s k then startTest k s else s) s

/-- DIAG_RUN kind 2 (R364). -/
def diagClear (m : BitVec 64) (s : State) : State :=
  forEach (maskChannels m) (fun k s =>
    s.setDch k { s.dch k with offFlt := false, onFlt := false, off := 0, onCode := 0 }) s

/-! ## On-state faults (R363) -/

/-- The feed mismatch of R363. -/
def mismatched (m : OnStateMeas) : Bool := decide (300 < m.mismatch)

/-- The 1 microsecond filter of R363 on the mismatch and on V_H's side of 6.0 V. -/
def heldHigh (m : OnStateMeas) : Bool := decide (1000 ≤ m.heldNs) && decide (1000 ≤ m.vhNs)

/-- The 1 microsecond filter of R363 on the mismatch, on V_L's side of 1.5 V and on the low side. -/
def heldLow (s : State) (k : Nat) (m : OnStateMeas) : Bool :=
  decide (1000 ≤ m.heldNs) && decide (1000 ≤ m.vlNs) && decide ((s.chan k).switchAt + ticksPerUs ≤ s.etc)

/-- T_OPEN after the start is now: the criterion is sampled once, and the termination begins within
1 microsecond. -/
def openSample (s : State) (k : Nat) : Bool :=
  let x := (s.chan k).start + (s.dch k).tOpen * ticksPerUs
  decide (x ≤ s.etc) && decide (s.etc ≤ x + ticksPerUs)

/-- The first on-state fault that holds, in the order of R363; 0 if none does. -/
def onCodeOf (s : State) (k : Nat) (m : OnStateMeas) : Nat :=
  if 500 < m.rise500 ∧ lowSide s k = true then 5
  else if mismatched m && !lowSide s k && decide (m.vl ≤ 150) && heldLow s k m then 3
  else if mismatched m && decide (m.vh ≤ 600) && heldHigh m then 2
  else if mismatched m && decide (600 < m.vh) && heldHigh m then 4
  else if (s.dch k).openEn && openSample s k && decide (m.current < 20) && feeding s k then 1
  else 0

end Sys2Proof.Machine
end

