-- ==== Sys2Proof/Machine/Drive.lean ====
section
/-! DEFINITION. The actuator drive (10_actuator_drive.md R319 to R346): the phases of a profile, the regulator and
its dither, the limits, bank sharing in running, extensions and setpoints, and the Kettles. -/

namespace Sys2Proof.Machine

/-! ## Measurements -/

/-- The summed current of a bank's channels in 10 mA (R350). -/
def bankSum (s : State) (b : Nat) : Nat := ((List.range 8).map (fun i => (s.chan (8 * b + i)).current)).foldl (· + ·) 0

/-- A channel's current is measured (R349, R350). -/
def measure (k current : Nat) (s : State) : State :=
  let c := s.chan k
  let s := s.setChan k { c with current := sat 8191 current, lastPeak := max c.lastPeak (sat 8191 current) }
  s.setBank (bankOf k) { s.bank (bankOf k) with iSum := sat 8191 (bankSum s (bankOf k)) }

/-! ## Bank sharing in running (R340, R342) -/

/-- Channel `a` yields to channel `b` of its BANKED bank: `b` started later and their phases' claims conflict. -/
def yieldsTo (s : State) (a b : Nat) : Bool :=
  let x := s.chan a
  let y := s.chan b
  a != b && (decide (x.start < y.start) || (x.start == y.start && decide (a < b)))
    && railConflict (phaseClaim x) (phaseClaim y)

/-- Channel `a` yields to some running channel of its bank. -/
def yields (s : State) (a : Nat) : Bool :=
  (s.bank (bankOf a)).banked && running s a
    && (List.range 8).any (fun i => running s (8 * bankOf a + i) && yieldsTo s a (8 * bankOf a + i))

/-- PEAK ends and TRANSITION begins at an instant: the feed opens (R326, R327). -/
def toTransition (k : Nat) (x : Tick) (reached : Bool) (energyUj : Nat) (s : State) : State :=
  let s := peakOver k energyUj s
  let s := s.setChan k { s.chan k with
    phase := .transition, phaseAt := x, switchAt := x, feedOn := false, peakOk := reached }
  bankEdge (bankOf k) x s

/-- A slip is counted in the bank and shown on the earlier channel (R342). -/
def slip (k : Nat) (s : State) : State :=
  let b := bankOf k
  let s := s.setChan k { s.chan k with slipped := true }
  raise (112 + b) (s.setBank b { s.bank b with slips := satInc 65535 (s.bank b).slips })

/-- The earlier profile yields the rail, or has it back (R342). -/
def yieldStep (x : Tick) (k : Nat) (s : State) : State :=
  let c := s.chan k
  if yields s k then
    if c.phase = .peak then slip k (toTransition k x false (freePeakEnergy s) { s with fresh := s.fresh + 1 })
    else if c.withheld then s
    else bankEdge (bankOf k) x (slip k (s.setChan k { c with withheld := true, switchAt := x }))
  else if c.withheld then s.setChan k { c with withheld := false, switchAt := x } else s

/-- The claims of a bank have changed at an instant: its channels yield or have the rail back. -/
def arbitrate (b : Nat) (x : Tick) (s : State) : State :=
  forEach ((List.range 8).map (fun i => 8 * b + i)) (yieldStep x) s

/-- ON_STATE_FAULT: an on-state criterion is met (R363); what ends gives its claims back (R342). -/
def doOnStateFault (k : Nat) (m : OnStateMeas) (s : State) : State :=
  let code := onCodeOf s k m
  if !running s k || code == 0 then s
  else
    let b := bankOf k
    let s := if code ≠ 1 ∧ code ≠ 5 ∧ (s.bank b).banked = true then endBank 9 b s else endEarly 9 k s
    let s := arbitrate b s.etc s
    let h := s.dch k
    fault (80 + b) (s.setDch k { h with onCode := code, onFlt := true, onFaults := satInc 255 h.onFaults })

/-! ## The phases of a profile (R319, R326 to R329) -/

/-- The armed event of a channel, with its slot. -/
def armedOn (s : State) (k : Nat) : Option (Nat × Event) :=
  s.evs.slots.find? (fun e => e.2.state == .armed && e.2.ch == k)

/-- The channel after a profile start: the copies of R324 rule the profile to its end. -/
def startChannel (i : Nat) (e : Event) (c : Chan) : Chan :=
  let p := e.copy
  { c with
    phase := if p.kind = 2 then .steep else .peak
    slipped := false, seq := e.seq, prof := e.prof
    peakSel := if p.kind = 2 then 0 else if p.boost = 0 then 2 else 1
    steepFeed := p.steepFeed, prop := p.kind == 2, ext := 0, lastPeak := 0
    start := e.frozen, shots := (c.shots + 1) % 2 ^ 64, feedOn := true, withheld := false, dither := 0
    phaseAt := e.frozen, switchAt := e.frozen, offAt := evOff e, evSlot := i, ev := e }

/-- PROFILE_START: an armed edge unit reaches its frozen time (R27, R220, R278, R345, R447). -/
def doProfileStart (k : Nat) (s : State) : State :=
  match armedOn s k with
  | some (i, e) =>
    if s.etc < e.frozen ∨ (s.chan k).phase ≠ .idle then s
    else
      let s := stopTests (fun j => j == k || ((s.bank (bankOf k)).banked && bankOf j == bankOf k)) s
      let s := fallEnds (ktOf (bankOf k)) (startEndsCapture k e.frozen s)
      let s := (s.setSlot i (if e.bad then { state := .quarantined } else { e with state := .running })).setChan k (startChannel i e (s.chan k))
      let s := { s with evs := { s.evs with
        cur := { s.evs.cur with fired := satInc 65535 s.evs.cur.fired }
        started := s.evs.started.set 0 k (s.evs.started.get 0 k + 1) } }
      let s := if e.sigStart then notice e.owner (noticeWord 1 0 k e.user 0) (handleOf i e.seq) s else s
      let s := mirrorAt 2 (BitVec.ofNat 8 k :: leBytes 2 e.seq ++ leBytes 4 e.target.toNat) e.frozen s
      arbitrate (bankOf k) e.frozen (bankEdge (bankOf k) e.frozen s)
  | none => s

/-- PEAK_END: the current reaches I_PEAK (R326). -/
def doPeakEnd (k current energyUj : Nat) (s : State) : State :=
  let c := s.chan k
  if c.phase = .peak ∧ c.ev.copy.iPeak ≤ current then
    arbitrate (bankOf k) s.etc (toTransition k s.etc true energyUj (measure k current s))
  else s

/-- PEAK_TIMEOUT: T_PEAK_MAX passes before I_PEAK is reached and before the turn-off instant (R326, R346). -/
def doPeakTimeout (k current energyUj : Nat) (s : State) : State :=
  let c := s.chan k
  let x := c.start + c.ev.copy.tPeakMax * ticksPerUs
  if c.phase = .peak ∧ x ≤ s.etc ∧ x < c.offAt ∧ current < c.ev.copy.iPeak then
    let s := toTransition k x false energyUj (measure k current s)
    let s := s.setChan k { s.chan k with peakTmo := satInc 255 (s.chan k).peakTmo }
    arbitrate (bankOf k) x (raise (48 + k) s)
  else s

/-- STEEP begins with the feed on, the dither at phase 0 (R327, R328). -/
def toSteep (k : Nat) (x : Tick) (s : State) : State :=
  let s := s.setChan k { s.chan k with phase := .steep, phaseAt := x, switchAt := x, feedOn := true, dither := 0 }
  arbitrate (bankOf k) x (bankEdge (bankOf k) x s)

/-- TRANSITION_END: the current falls to I_HOLD, or T_TR_MAX has passed (R327). -/
def doTransitionEnd (k current : Nat) (s : State) : State :=
  let c := s.chan k
  let x := c.phaseAt + c.ev.copy.tTrMax * ticksPerUs
  if c.phase ≠ .transition then s
  else if x ≤ s.etc then toSteep k x (measure k current s)
  else if current ≤ c.ev.copy.iHold then toSteep k s.etc (measure k current s)
  else s

/-- The dither offset in 10 mA at a time since the entry to STEEP (R328). -/
def ditherAt (p : Profile) (since : Tick) : Int :=
  if p.dithAmp = 0 ∨ p.dithPer = 0 then 0
  else
    let per := p.dithPer * ticksPerUs
    let x := since % per
    let a : Int := p.dithAmp
    if p.dithSq then (if 2 * x < per then a else -a)
    else if 4 * x < per then 4 * a * (x : Nat) / (per : Nat)
    else if 4 * x < 3 * per then 2 * a - 4 * a * (x : Nat) / (per : Nat)
    else 4 * a * (x : Nat) / (per : Nat) - 4 * a

/-- DITHER_STEP: the offset of the setpoint follows the dither's shape (R328). -/
def doDitherStep (k : Nat) (s : State) : State :=
  let c := s.chan k
  if c.phase = .steep then s.setChan k { c with dither := ditherAt c.ev.copy (s.etc - c.phaseAt) } else s

/-- The setpoint of STEEP (R328, R330). -/
def setpointOf (c : Chan) : Int :=
  (if c.ev.copy.kind = 2 then min c.setpt c.ev.copy.iHold else c.ev.copy.iHold : Nat) + c.dither

/-- REGULATOR_SWITCH: the measured current leaves the band and the regulator switches the feed, each interval lasting at
least 250 ns (R325). -/
def doRegulatorSwitch (k current : Nat) (s : State) : State :=
  let c := s.chan k
  if c.phase ≠ .steep then s
  else
    let s := measure k current s
    let sp := setpointOf c
    let on := decide ((current : Int) < sp - c.ev.copy.hyst)
    let off := decide (sp + c.ev.copy.hyst < (current : Int))
    if c.switchAt + 250 * ticksPerNs ≤ s.etc ∧ ((c.feedOn = true ∧ off = true) ∨ (c.feedOn = false ∧ on = true)) then
      bankEdge (bankOf k) s.etc (s.setChan k { s.chan k with feedOn := !c.feedOn, switchAt := s.etc })
    else s

/-- TURN_OFF_INSTANT: the turn-off instant, extension included, arrives not later than ON_MAX (R319, R329, R332). -/
def doTurnOffInstant (k current energyUj : Nat) (s : State) : State :=
  let c := s.chan k
  if running s k && decide (c.offAt ≤ s.etc) && decide (c.offAt ≤ c.start + c.ev.onMax * 80) then
    let s := measure k current s
    let reached := c.phase != .peak || decide (c.ev.copy.iPeak ≤ current)
    let s := turnOff k c.offAt 1 energyUj s
    let s := if c.phase = .peak ∧ reached = true then s.setChan k { s.chan k with peakOk := true } else s
    arbitrate (bankOf k) c.offAt s
  else s

/-- The capture of a channel learns that TURN-OFF is complete (R356). -/
def captureRecovered (k : Nat) (s : State) : State :=
  let d := s.dgt (bankOf k)
  match d.capture with
  | some c =>
    if c.ch = k ∧ c.recovEnd = none then
      s.setDgt (bankOf k) { d with capture := some { c with recovEnd := some s.etc } }
    else s
  | none => s

/-- TURN_OFF_COMPLETE: the current falls below 100 mA; the channel is idle and the slot FREE, unless it is
quarantined (R220, R248, R329); a bank mode waiting for the profile follows (R153). -/
def doTurnOffComplete (k current : Nat) (s : State) : State :=
  let c := s.chan k
  if c.phase = .turnOff ∧ current < 10 then
    let s := measure k current s
    let s := s.setChan k { s.chan k with phase := .idle, idleAt := s.etc }
    let e := s.slot c.evSlot
    let s := if e.state = .running ∧ e.seq = c.ev.seq ∧ e.ch = k then freeSlot c.evSlot s else s
    bankMode (bankOf k) (captureRecovered k (bankEdge (bankOf k) s.etc s))
  else s

/-! ## Limits (R331, R332) -/

/-- The overcurrent limit of a running profile (R331). -/
def ocLimit (c : Chan) : Nat := min (c.ev.peakMax + 100) 3400

/-- CHANNEL_OVERCURRENT: the channel current has held at the limit for 200 ns (R331). -/
def doChannelOvercurrent (k current : Nat) (s : State) : State :=
  if running s k && decide (ocLimit (s.chan k) ≤ current) then
    fault 76 (arbitrate (bankOf k) s.etc (endEarly 3 k (measure k current s)))
  else s

/-- BANK_OVERCURRENT: the bank's summed current has held at 42 A for 200 ns (R331). -/
def doBankOvercurrent (b sum : Nat) (s : State) : State :=
  if 4200 ≤ sum ∧ b < s.banks then
    let s := s.setBank b { s.bank b with iSum := sat 8191 sum }
    fault (64 + b) (raise (112 + b) (endBank 4 b s))
  else s

/-- ON_MAX_STOP: the drive's timer reaches ON_MAX before the turn-off instant (R332). -/
def doOnMaxStop (k : Nat) (s : State) : State :=
  let c := s.chan k
  let x := c.start + c.ev.onMax * 80
  if running s k && decide (x ≤ s.etc) && decide (x < c.offAt) then
    fault 77 (arbitrate (bankOf k) x (endAt 2 x k s))
  else s

/-! ## Extensions and setpoints (R330, R343) -/

/-- The STEEP claim of a profile started at `f` with its turn-off instant at `off` (R341). -/
def steepClaim (p : Profile) (f off : Tick) : List Claim :=
  let lo := if p.kind = 2 then f else f + (p.tPeakMax + p.tTrMax) * ticksPerUs
  cutClaim off { lo := lo, hi := off, rail := steepRail p, current := p.iHold + p.hyst + p.dithAmp }

/-- The order number of the first condition of R343 that fails; 0 if the extension is granted. -/
def extRefusal (s : State) (q k ext : Nat) : Nat :=
  let c := s.chan k
  let total := c.ext + ext
  if c.phase ≠ .steep then 1
  else if c.ev.owner ≠ q then 2
  else if c.offAt < s.etc + 500 * ticksPerNs then 3
  else if c.ev.copy.extMax * 1000 < total then 4
  else if (c.ev.onMax : Int) < onTime c.ev.copy c.ev.ont + total then 5
  else if bankRefuses s (bankOf k) (steepClaim c.ev.copy c.start (c.offAt + ext * 80)) (bankClaims s (bankOf k) k) then 6
  else 0

/-- EXTENSION_WRITE: a write of `ACT_CH_EXT` by a sequencer reaches the drive (R343, R344). -/
def doExtensionWrite (q k ext : Nat) (s : State) : State :=
  let n := ext % 2 ^ 24
  if n = 0 ∨ s.channels ≤ k then s
  else
    let c := s.chan k
    match extRefusal s q k n with
    | 0 => s.setChan k { c with ext := c.ext + n, offAt := c.offAt + n * 80, extRefused := false }
    | w => raise (48 + k) (s.setChan k { c with extRefused := true, extWhy := w, extRef := satInc 255 c.extRef })

/-- SETPOINT_WRITE: a write of `ACT_CH_SETPT` reaches the regulator (R330, R349). -/
def doSetpointWrite (k : Nat) (value : Word) (s : State) : State :=
  if s.channels ≤ k then s else s.setChan k { s.chan k with setpt := bits value.toNat 0 11 }

/-! ## Kettles (R334, R336, R434) -/

/-- The Kettle voltage is measured, in 0.25 V; at 154 V the internal dump clamps (R336, R350). -/
def kettleVolt (k volt : Nat) (s : State) : State :=
  s.setKettle k { s.kettle k with volt := sat 1023 volt, dump := decide (616 ≤ volt) }

/-- The voltage measured now is one the bleed, while it alone moves the Kettle, leaves it: within 5 W ± 20 % above
42 V and 10 kΩ ± 10 % below, to one step of the measurement (R488). -/
def fallAllows (s : State) (k volt : Nat) : Bool :=
  let q := s.kettle k
  match q.fall with
  | some (t0, v0) => decide (bleedFall 6000 9000 q.capUf v0 (s.etc - t0) ≤ volt + 1)
      && decide (volt ≤ bleedFall 4000 11000 q.capUf v0 (s.etc - t0) + 1)
  | none => true

/-- The Kettle's level at a measured voltage (R334, R336, R488). -/
def kettleLevel (k volt : Nat) (s : State) : State :=
  let s := kettleVolt k volt s
  markFall k (ktUpdate k (if 616 ≤ volt then ktFault k s else s))

/-- KETTLE_LEVEL_CHANGE: the Kettle's voltage crosses a threshold of its states (R334, R336); a voltage that the bleed
of R488 does not leave a Kettle nothing else moves is no crossing. -/
def doKettleLevelChange (k volt : Nat) (s : State) : State :=
  if s.kettles ≤ k ∨ fallAllows s k volt = false then s else kettleLevel k volt s

/-- KETTLE_CHARGE_DEADLINE: CHARGING outlasts its deadline (R336). -/
def doKettleChargeDeadline (k : Nat) (s : State) : State :=
  let q := s.kettle k
  match q.state, q.deadline with
  | .charging, some d => if d ≤ s.etc then ktFault k s else s
  | _, _ => s

/-- KETTLE_OVERVOLTAGE: the Kettle's voltage reaches 154 V (R336). -/
def doKettleOvervoltage (k volt : Nat) (s : State) : State :=
  if s.kettles ≤ k ∨ volt < 616 ∨ fallAllows s k volt = false then s else kettleLevel k volt s

/-- The Kettle's capacitance is measured now: at start, with its level not 0 and ENABLE on, before its charger first runs;
later every 24 h while READY (R434, R458 step 7, R470). -/
def capDue (s : State) (k : Nat) : Bool :=
  let q := s.kettle k
  if q.capUf = 0 then s.ktBoost k != 0 && s.supply.enable
  else q.state == .ready && decide (q.measuredAt + 86400 * ticksPerS ≤ s.etc)

/-- KETTLE_CAPACITANCE_MEASURE (R434): a result outside 150 to 264 microfarads is reported and used. -/
def doKettleCapacitance (k microfarad : Nat) (s : State) : State :=
  if s.kettles ≤ k ∨ !capDue s k then s
  else
    let oor := decide (microfarad < 150 ∨ 264 < microfarad)
    let bit := BitVec.twoPow 4 k
    let q := s.kettle k
    let s := s.setKettle k { q with capUf := sat 1023 microfarad, measuredAt := s.etc }
    let s := { s with bgs.capOor := if oor then s.bgs.capOor ||| bit else s.bgs.capOor &&& ~~~bit }
    let s := if (s.kettle k).state = .charging then s.setKettle k { s.kettle k with deadline := chgDeadline s k } else s
    calReport oor (72 + k) 220 s

end Sys2Proof.Machine
end

