-- ==== Sys2Proof/Machine/LensOps.lean ====
section
/-! DEFINITION. What the Lens does (06_lens_interpolation.md R194, R197 to R201, R205 to R212): the update at a
boundary tooth with its sweep, the map, virtual boundaries, hold, overdue, reverse and restart. -/

namespace Sys2Proof.Machine

/-! ## The update (R194) -/

/-- The interval `n` places before interval `j`. -/
def backBy (s : State) (j n : Nat) : Nat := (j + 2 * s.nTeeth - n) % (2 * s.nTeeth)

/-- w of R194: the sum of 32,768 + map[i] over the `n` intervals that end at the opening of interval `j`. -/
def weight (s : State) (j : Nat) : Nat → Int
  | 0 => 0
  | n + 1 => weight s j n + (32768 + mapEntry s (backBy s j (n + 1)))

/-- p_raw of R194, 36 bits. -/
def rawPeriod (s : State) (t : Tick) : Nat := (t - s.lns.tLast) % 2 ^ 36

/-- pn_new of R194. -/
def pnNew (s : State) (t : Tick) (j n : Nat) : Nat := rawPeriod s t * 256 * 32768 / (weight s j n).toNat

/-- acc of R194 before its clamp. -/
def accRaw (s : State) (pn : Nat) : Int :=
  s.lns.acc + ((pn : Int) - s.lns.pn - s.lns.acc) / (2 ^ s.accShift : Nat)

/-- pn, acc and the clamp flag after on_boundary (R194). -/
def lensLaw (t : Tick) (j n : Nat) (err : Bool) (s : State) : Lns :=
  if !s.lns.havePn then { s.lns with pn := rawPeriod s t * 256, acc := 0, havePn := true, accClamp := false }
  else if err then s.lns
  else
    let p := pnNew s t j n
    let a := accRaw s p
    let lim : Int := (p / 4 : Nat)
    { s.lns with pn := p, acc := clampInt (-lim) lim a, accClamp := decide (a ≤ -lim) || decide (lim ≤ a) }

/-! ## Map learning (R205, R206) -/

/-- The first learning condition that fails, by its `LNS_STAT.PAUSE` code; 0 if all hold (R205, R217). -/
def learnPause (s : State) (rc rc2 : Nat) : Nat :=
  if s.lns.mapMode ≠ 1 then 1
  else if s.whl.sync ≠ .full ∨ s.lns.fullCross < 3 ∨ 0 < s.lns.pauseCross then 2
  else if s.lns.cleanRev < 4 * s.nTeeth then 3
  else if s.lns.cleanErr < 4 * s.nTeeth then 4
  else if s.lns.speed < 200 ∨ 40000 < s.lns.speed then 5
  else if rc / 64 < max rc rc2 - min rc rc2 then 6
  else 0

/-- One map entry moves by its share of eps (R205); entries are Q1.15. -/
def learnEntry (eps : Int) (gain : Nat) (i : Nat) (s : State) : State :=
  let m := s.lns.map.get 0 i
  { s with lns := { s.lns with
    map := s.lns.map.set 0 i (m + (eps - m) / (2 ^ gain : Nat))
    learnedSet := s.lns.learnedSet.set false i true
    unsaved := true } }

/-- learn(p_raw, s) of R205. -/
def learnStep (pRaw j n rc : Nat) (s : State) : State :=
  let eps : Int := (pRaw * 256 * 32768 / (n * rc) : Nat) - 32768
  if eps < -8192 ∨ 8192 < eps then
    raise 39 { s with lns := { s.lns with clamps := satInc 65535 s.lns.clamps, learn := false } }
  else
    let s := { s with lns := { s.lns with learn := true } }
    forEach ((List.range n).map (fun d => backBy s j (d + 1))) (learnEntry eps s.mapGain) s

/-- The learning at a real tooth that opens interval `j`, and the stamps kept for it (R205). -/
def lensLearn (t : Tick) (j n pRaw : Nat) (s : State) : State :=
  let c := s.lns.stamps.get (0, 0) j
  let rc := (t - c.1) * 256 / (2 * s.nTeeth)
  let rc2 := (c.1 - c.2) * 256 / (2 * s.nTeeth)
  let p := learnPause s rc rc2
  let s := { s with lns := { s.lns with pause := p, stamps := s.lns.stamps.set (0, 0) j (t, c.1) } }
  if p = 0 ∧ 0 < n * rc then learnStep pRaw j n rc s else { s with lns := { s.lns with learn := false } }

/-- A real tooth that is not learned, or a state without tooth timing: LEARN and PAUSE follow (R205, R217). -/
def notLearned (s : State) : State := { s with lns := { s.lns with learn := false, pause := learnPause s 1 1 } }

/-! ## Sweep (R198, R199) -/

/-- The event's start angle lies in the swept range (from, to] of its cycle. -/
def evSwept (s : State) (lo hi : Nat) (e : Event) : Bool :=
  let a := e.target.toNat
  let wraps := decide (hi < lo)
  unstarted e && (if e.ctag = curTag s then decide (lo < a) && (wraps || decide (a ≤ hi))
    else e.ctag == nextTag s && wraps && decide (a ≤ hi))

/-- Events in the swept range are dropped or withdrawn with reason 5; source 33 if there was one (R199). -/
def sweepEvents (lo hi : Nat) (s : State) : State :=
  let l := slotsWhere s (evSwept s lo hi)
  let before := s.evs.drops
  let s := forEach l (fun i s => match (s.slot i).state with
    | .waiting | .near => dropEvent 5 0 i s
    | _ => withdraw 5 i s) s
  raiseIf (s.evs.drops != before) 33 s

/-- The angles in (from, to] are swept (R198, R199, R271, R297). -/
def sweep (lo hi : Nat) (s : State) : State :=
  let n := fwdDist s.cycleLen lo hi
  let s := { s with lns := { s.lns with sweepLast := sat 8191 n, sweeps := satInc 65535 s.lns.sweeps } }
  passRange true lo hi (sweepEvents lo hi s)

/-- The move of the Lens angle at an update, from the angle before it: a sweep where the tooth was early, else
by counting (R198, R214), and the cycle boundary it crosses, at the tooth's stamp (R151, R173). A tooth is early where
more than its own boundary lies ahead of the angle, be the interval opened by a tooth or not (DEDUCED, log 99). -/
def lensMove (old : Nat) (t : Tick) (s : State) : State :=
  match lensLin s with
  | none => s
  | some new =>
    let d := fwdDist s.cycleLen old (s.lns.cur * 4096)
    let s := if s.cycleLen / 2 ≤ d then watchHere s
      else if 1 < d then sweep old new s
      else passRange false old new s
    if d < s.cycleLen / 2 && inRange s.cycleLen old new 0 then crossForward t s else s

/-! ## Boundaries by teeth -/

/-- The mode after an update (R211, R217). -/
def updateMode (s : State) : LensMode := if positioned s.whl.sync then .run else .period

/-- A further prediction (R212): MAP_MODE as configured acts from it. -/
def newPrediction (s : State) : State := { s with lns.mapMode := s.mapModeCfg }

/-- A Lens update at a boundary tooth: stamp `t`, the interval `j` it opens, the number `n` of intervals since the
last boundary and the error flag (R194, R198, R204, R205, R208, R212). -/
def lensUpdate (t : Tick) (j n : Nat) (err : Bool) (s : State) : State :=
  let s := passTo s.etc s
  let old := if counting s then lensLin s else none
  let pRaw := rawPeriod s t
  let kept : LensKept := { pn := s.lns.pn, acc := s.lns.acc, accClamp := s.lns.accClamp, map := s.lns.map
                           learnedSet := s.lns.learnedSet, unsaved := s.lns.unsaved }
  let s := { s with lns := { lensLaw t j n err s with
    kept := if s.lns.havePn && !err then some kept else none
    tLast := t, tOpen := t, cur := j, k := 0, mode := updateMode s
    cleanErr := if err then 0 else s.lns.cleanErr + n, cleanRev := s.lns.cleanRev + n } }
  let s := speedNow (newPrediction s)
  let s := if positioned s.whl.sync then lensLearn t j n pRaw s else notLearned s
  let s := { s with evs.hold := false }
  let s := match old with
    | some a => lensMove a t s
    | none => s
  predictionChanged s

/-- The pulse of the last boundary edge is ambiguous: its update counts as one with err set, so that pn, acc and the map
are as before it, and the prediction changes (R204) (DEDUCED, log 100). -/
def lensUndo (t : Tick) (s : State) : State :=
  match s.lns.kept with
  | some o =>
    if s.lns.tLast = t then
      predictionChanged (speedNow { s with lns := { s.lns with
        pn := o.pn, acc := o.acc, accClamp := o.accClamp, map := o.map, learnedSet := o.learnedSet
        unsaved := o.unsaved, learn := false, kept := none } })
    else s
  | none => s

/-- The first crank edge after NOSYNC gives the stamp the first period is measured from (R194, R211). -/
def lensFirst (t : Tick) (s : State) : State :=
  { s with lns := { s.lns with tLast := t, tOpen := t, k := 0, started := true, havePn := false, pn := 0, acc := 0 } }

/-- The Lens takes cur from the decoder's position at the entering tooth (R211): a prediction change; watching
starts from the new angle (R297) (DEDUCED, log 42). -/
def lensEnter (j : Nat) (s : State) : State :=
  let s := { s with
    lns := { s.lns with cur := j, k := 0, rev := false, mode := .run, fullCross := 0 }, evs.hold := false }
  predictionChanged (speedNow (watchHere (newPrediction s)))

/-- cur is renumbered by N at a frame correction: a prediction change (R172, R204). The map stays indexed by the
interval, so its indices follow cur (DEDUCED, log 30). -/
def lensRenumber (s : State) : State :=
  predictionChanged (watchHere (newPrediction { s with lns.cur := (s.lns.cur + s.nTeeth) % (2 * s.nTeeth) }))

/-- NOSYNC: pn, acc and speed are cleared, the map is kept (R209, R211). Reverse stays declared while the direction
reads reverse (R167, R210). -/
def lensClear (s : State) : State :=
  let s := setSpeed 0 s
  notLearned { s with
    lns := { s.lns with
      pn := 0, acc := 0, accClamp := false, started := false, havePn := false, mode := .none, k := 0
      sixteenths := 0, fullCross := 0, stamps := [], kept := none }
    evs.hold := false }

/-! ## Boundaries without a tooth (R197, R200, R201) -/

/-- VIRTUAL_BOUNDARY: the count passes 4095 in an interval closed by a missing position; the next interval opens
at that instant (R197, R229, R230). -/
def doVirtualBoundary (s : State) : State :=
  if counting s && !closesOnTooth s && decide (virtualAt s ≤ s.etc) then
    let x := virtualAt s
    let lo := s.lns.cur * 4096 + 4095
    let s := passTo x s
    let j := (s.lns.cur + 1) % (2 * s.nTeeth)
    let s := { s with lns := { s.lns with
      tOpen := x, cur := j, k := (s.lns.k + 1) % 4, mode := .run } }
    let s := passRange false lo (j * 4096) s
    if j = 0 && !s.whl.cycleRev then
      let s := dropPassedWaiting (cycleBoundary x s)
      startPass [] (nearFill s)
    else
      let s := if j = 0 then crossForward x s else s
      nearFill (dropPassedWaiting s)
  else s

/-- COUNT_HOLD: the count has reached 4095 and the next position carries a tooth (R200). -/
def doCountHold (s : State) : State :=
  if counting s && closesOnTooth s && s.lns.mode == .run && decide (holdAt s ≤ s.etc) then
    passTo s.etc { s with lns.mode := .hold }
  else s

/-- The crank source's Strainer holds a crossing stamped before an instant (R202). -/
def heldBefore (s : State) (x : Tick) : Bool :=
  match crankInput s with
  | some n => (s.wheel n).held.any (fun c => decide (c.stamp < x))
  | none => false

/-- TOOTH_OVERDUE: the tooth is a sixteenth of its period past its prediction (R201, R202). -/
def doToothOverdue (s : State) : State :=
  if counting s && closesOnTooth s && s.lns.mode != .overdue && decide (overdueAt s ≤ s.etc)
      && !heldBefore s (overdueAt s) then
    let s := passTo s.etc s
    let s := raise 32 { s with
      lns := { s.lns with mode := .overdue, overdues := satInc 65535 s.lns.overdues }
      evs.hold := true }
    let cur := s.lns.cur
    let s := forEach (slotsWhere s (fun e => committed e && decide (cur < angInterval e.target))) (withdraw 14) s
    speedNow s
  else s

/-! ## Reverse (R210) -/

/-- Reverse is declared: the micro-tick count stops, acc is cleared, source 35 is raised (R210). Without a
position the mode stays the one R211 gives the state. -/
def lensReverse (s : State) : State :=
  raise 35 { s with
    lns := { s.lns with
      rev := true, acc := 0, accClamp := false, cleanRev := 0
      mode := if positioned s.whl.sync then .reverse else s.lns.mode }
    evs.hold := false }

/-- The displayed angle moves to the last tooth passed in reverse (R173, R210): moving back over the cycle
boundary sets the flag, moving forward over it is a forward crossing. -/
def lensShow (j : Nat) (back : Bool) (x : Tick) (s : State) : State :=
  let old := s.lns.cur
  let s := notLearned { s with lns.cur := j }
  if back then (if old < j then { s with whl.cycleRev := true } else s)
  else if j < old then crossForward x s else s

/-- Forward rotation resumes: the second short pulse, stamped `t`, opens the interval `j`, and the period between
the two short pulses becomes pn (R210). -/
def lensResume (t : Tick) (j : Nat) (period : Nat) (s : State) : State :=
  let old := s.lns.cur
  let s := { s with lns := { s.lns with
    rev := false, pn := period * 256, acc := 0, accClamp := false, havePn := true, tLast := t, tOpen := t, k := 0
    cur := j, mode := updateMode s, cleanErr := s.lns.cleanErr, cleanRev := 0 } }
  let s := speedNow (newPrediction (raise 36 s))
  if positioned s.whl.sync then
    let s := match lensLin s with
      | some a => sweep ((j * 4096 + s.cycleLen - 1) % s.cycleLen) a s
      | none => s
    predictionChanged (if j < old then crossForward t s else s)
  else predictionChanged s

end Sys2Proof.Machine
end

