-- ==== Sys2Proof/Machine/Sync.lean ====
section
/-! DEFINITION. The synchronisation state machine (05_wheel_inputs_synchronisation.md R168 to R175, R180 to R182):
state changes with their reports, the entries to each state, tooth errors, LOST, retraction and stall. -/

namespace Sys2Proof.Machine

/-- Change the crank source's decoder. -/
def onCrank (f : CrankDec → CrankDec) (s : State) : State := { s with whl.crank := f s.whl.crank }

/-- Bits [15:0] of `WHL_SYNC_LAST` (R190). -/
def syncLastWord (w : Whl) : Nat := syncCode w.lastFrom + syncCode w.lastTo * 16 + w.lastCause * 256

/-- The synchronisation state changes (R168): the cause is recorded, source 16 raised, the change reported to the
logbook, the Mirror port and the SYNC latches; waits on an angle end where the position is lost (R271). -/
def changeSync (st : Sync) (cause : Nat) (s : State) : State :=
  let from_ := s.whl.sync
  let s := { s with whl := { s.whl with
    sync := st, lastFrom := from_, lastTo := st, lastCause := cause, changes := wrapInc 16 s.whl.changes
    lastEtc := s.etc
    learnCycle := if st = .full then 0 else s.whl.learnCycle
    contraNow := false, contraPrev := false, missRun := 0, camLost := false } }
  let s := mirrorState 1 (syncLastWord s.whl) (raise 16 s)
  let s := log 8 1 (leBytes 4 (syncLastWord s.whl + s.whl.changes * 65536)) s
  let s := if positioned from_ && !positioned st then endWaitas 3 s else s
  latchAll 5 s

/-- The actions of R170 on events and profiles. -/
def stopFiring (reason : Nat) (s : State) : State := endAll 5 (dropPending reason s)

/-- Entry to CRANK, QUICK or FULL from a state without a position (R168, R211). -/
def enterPosition (st : Sync) (cause : Nat) (s : State) : State :=
  let s := changeSync st cause { s with whl := { s.whl with
    provisional := st == .crank, sinceErr := none, quickCount := 0, quickGap := false, cycleRev := false
    revSeen := false, qsTrack := false } }
  lensEnter (intervalOf s (prevTooth s s.whl.shift s.whl.crank.f)) s

/-- Entry to NOSYNC (R97, R150, R157, R164, R183, R209, R211). -/
def enterNosync (cause : Nat) (s : State) : State :=
  let keep : CrankDec := { hasPos := s.whl.crank.hasPos, f := s.whl.crank.f, back := s.whl.crank.back
                           dir := s.whl.crank.dir, runClass := s.whl.crank.runClass, run := s.whl.crank.run }
  let s := lensClear s
  let s := { s with whl := { s.whl with
    crank := keep, promoted := false, promoFirst := false, shift := 0, provisional := false
    second := if s.whl.promoted then {} else s.whl.second
    secState := if s.whl.promoted then 0 else s.whl.secState
    secAgree := !s.whl.promoted && s.whl.secAgree
    cams := [], camAng := 0xFFFFFFFF, learnCycle := 0, phase := none, refStamp := none, sinceErr := none
    cycleRev := false
    inp := Table.mapAll {} (fun w => { w with adaptPeak := 0 }) s.whl.inp } }
  let s := changeSync .nosync cause s
  applyPending 0x78 (envelopeBoundary s)

/-- Entry to LOST (R168, R170, R171). A WAITA whose angle was passed before that instant has ended already; of what
comes with it, the loss goes first (R271). -/
def enterLost (cause : Nat) (s : State) : State :=
  let s := passTo (s.etc - 1) s
  let quick := s.whl.sync == .quick
  let known := sourceDecodes s && s.whl.crank.dir != .unknown
  let s := stopFiring 15 (changeSync .lost cause s)
  let s := if quick then qsInvalidate 6 { s with whl.qsInval := 6 } else s
  raiseIf known 17 { s with
    whl := { s.whl with
      crank := { s.whl.crank with hasPos := false, dir := .unknown, runClass := .none, run := 0, stepBack := none, quickRun := 0 }
      second := { s.whl.second with dir := .unknown, runClass := .none, run := 0 }
      provisional := false
      cams := [], camAng := 0xFFFFFFFF, learnCycle := 0, secOfs := none, phase := none, qsTrack := false }
    lns := { s.lns with rev := false, mode := .none, learn := false, pause := if s.lns.mapMode = 1 then 2 else 1 } }

/-- A contradiction in QUICK retracts (R182). -/
def retract (s : State) : State := enterLost 10 (raise 21 s)

/-- LOSS_REPORTED: LOST falls to NOSYNC (R168, R171). -/
def doLossReported (s : State) : State :=
  match s.whl.sync with
  | .lost => enterNosync 12 s
  | _ => s

/-- A tooth error (R169): counted in a state with a position, where the second within N positions leads to LOST
and any in QUICK retracts; elsewhere it discards the held position (R174). -/
def toothError (s : State) : State :=
  if !positioned s.whl.sync then dropHeld 3 (onCrank (fun d => { d with quickRun := 0 }) s)
  else
    let s := raise 18 { s with
      whl := { s.whl with toothErr := satInc 65535 s.whl.toothErr }, lns.cleanErr := 0 }
    if s.whl.sync = .quick then retract s
    else match s.whl.sinceErr with
      | some k => if k < s.nTeeth then enterLost 7 s else { s with whl.sinceErr := some 0 }
      | none => { s with whl.sinceErr := some 0 }

/-- The frame is corrected (R172): every position is renumbered by N, the last cam marks' angles with them, pending events are dropped with reason
18, WAITAs end with FRAME, source 23 is raised. -/
def frameCorrect (s : State) : State :=
  let s := passTo (s.etc - 1) s
  let s := onCrank (fun d => { d with f := (d.f + s.nTeeth) % (2 * s.nTeeth) }) s
  let s := { s with whl.cams := Table.mapAll {} (fun c =>
    { c with last := c.last.map (fun l => (l.1, l.2.map (fun a => (a + s.cycleLen / 2) % s.cycleLen))) }) s.whl.cams }
  let s := raise 23 (forEach (slotsWhere s pendingEv) (dropEvent 18 0) s)
  lensRenumber (endWaitas 7 s)

/-- The guard zone in ETC time (R163): one interval is pn. -/
def guardTime (s : State) : Nat :=
  let p := s.lns.pn / 256
  if s.gapCount = 0 then p / 4 else max (2 * p) (3 * s.nTeeth * p / 360)

/-- The phase mark that makes the reference tooth stamped `t` the anchor is used (R163): a mark judged in time
and found inside the guard zone, before the tooth or behind it, is a cam error. Answers whether the tooth is the anchor. -/
def usePhase (t : Tick) (s : State) : State × Bool :=
  let s := { s with whl.refStamp := some t }
  match s.whl.phase with
  | none => (s, false)
  | some (p, byAngle) =>
    if t < p then
      (if !byAngle && decide (p < t + guardTime s) then (camError { s with whl.phase := none }, false) else (s, false))
    else
      let s := { s with whl.phase := none }
      if !byAngle && decide (t < p + guardTime s) then (camError s, false) else (s, true)

/-- The source's own linear number of a tooth (R183). -/
def ownLin (s : State) (f : Nat) : Nat := (f + 2 * s.nTeeth - s.whl.shift) % (2 * s.nTeeth)

/-- A confirmed gap at its expected reference tooth (R168, R172, R181). -/
def confirmedReference (c : GapCand) (s : State) : State :=
  let r := usePhase c.stamp s
  let s := r.1
  let own := ownLin s c.ref
  let first := own % s.nTeeth == refPos s
  let second := decide (s.nTeeth ≤ own)
  match s.whl.sync with
  | .quick =>
    let s := { s with whl.quickGap := true }
    if s.camMarks = 0 then changeSync .crank 6 { s with whl.provisional := true }
    else if r.2 then (if first && !second then changeSync .full 5 s else retract s)
    else s
  | .crank =>
    if r.2 && first then
      let s := if second then frameCorrect s else s
      changeSync .full 3 { s with whl.provisional := false }
    else s
  | _ => s

/-- A gap confirmed in TOOTH (R168): the reference tooth is edge k; the edge after it is the entering tooth, unless it
is an extra edge and no tooth. -/
def enterFromTooth (extra : Bool) (c : GapCand) (s : State) : State :=
  let r := usePhase c.stamp s
  let s := r.1
  if s.gapCount = 1 ∨ r.2 then
    let s := onCrank (fun d => { d with hasPos := true, f := if extra then nextTooth s 0 (refPos s) else nextTooth s 0 (nextTooth s 0 (refPos s)) })
      { s with whl.shift := 0 }
    if r.2 then enterPosition .full 3 s else enterPosition .crank 2 s
  else s

/-- With GAP_COUNT 0 the anchor is the first tooth after a phase mark (R163, R168, R181). -/
def anchorWithoutGap (t : Tick) (s : State) : State :=
  if s.gapCount ≠ 0 then s
  else
    let r := usePhase t s
    let s := r.1
    if !r.2 then s
    else match s.whl.sync with
      | .tooth =>
        enterPosition .full 3 (onCrank (fun d => { d with hasPos := true, f := nextTooth s 0 0 }) { s with whl.shift := 0 })
      | .quick => if ownLin s (prevTooth s s.whl.shift s.whl.crank.f) = 0 then changeSync .full 5 s else retract s
      | _ => s

/-- QUICK lasts at most 2N positions (R168). -/
def quickLimit (s : State) : State :=
  if s.whl.sync = .quick ∧ 2 * s.nTeeth ≤ s.whl.quickCount then
    if s.whl.quickGap then changeSync .crank 6 { s with whl.provisional := true } else enterLost 13 s
  else s

/-! ## Stall (R170, R175, R207, R209) -/

/-- The quick-start record of the present stop (R175, R176). -/
def stopRecord (s : State) : QsRecord :=
  { usable := true
    revSeen := s.whl.revSeen
    seq := s.whl.qs.seq + 1
    nTeeth := s.nTeeth, gapMissing := s.gapMissing, gapCount := s.gapCount, gapPos := s.gapPos
    camMarks := s.camMarks, zeroOfs := s.zeroOfs
    nextPos := s.whl.crank.f % s.nTeeth
    nextRev := s.whl.crank.f / s.nTeeth % 2
    lastDir := if s.whl.crank.back then 1 else 0
    stopEtc := s.whl.lastEdge, cycle := s.evs.cycle, revTeeth := s.whl.revTeeth, phaseAng := s.whl.camAng }

/-- The write of a quick-start record begins (R175, R178). -/
def writeRecord (s : State) : State :=
  caddyJob (.quickStart (stopRecord s)) { s with whl := { s.whl with qsMoved := false, qsTrack := true } }

/-- The instant at which stall is due (R209). -/
def stallAt (s : State) : Tick := s.whl.lastEdge + s.stallUs * ticksPerUs

/-- Stall in a state with tooth timing. In HOLDUP no record is written: the flush marks it unusable (R50, R186). -/
def stallNow (s : State) : State :=
  let full := s.whl.sync == .full
  let s := passTo (s.etc - 1) s
  let s := raise 34 { s with lns := { s.lns with stalls := satInc 65535 s.lns.stalls } }
  let s := stopFiring 16 s
  let s := if full && s.lns.unsaved then caddyJob .lensMap s else s
  let s := if sourceDecodes s then s else onCrank (fun d => { d with hasPos := false }) s
  let s := if (full || s.whl.qsTrack) && s.whl.crank.hasPos && s.supply.state != .holdup then writeRecord s else s
  enterNosync 11 { s with sys.stallAt := some s.etc }

/-- STALL: no crank-source edge has been accepted for STALL_US (R202, R209); in NOSYNC it writes the record again
after motion that followed a write (R175). -/
def doStall (s : State) : State :=
  if s.etc < stallAt s ∨ heldBefore s (stallAt s) = true then s
  else match s.whl.sync with
    | .nosync =>
      if s.whl.qsTrack && s.whl.qsMoved && s.whl.crank.hasPos && sourceDecodes s && s.supply.state != .holdup then
        writeRecord s
      else s
    | _ => stallNow s

end Sys2Proof.Machine
end

