-- ==== Sys2Proof/Machine/Wheel.lean ====
section
/-! DEFINITION. The wheel inputs (05_wheel_inputs_synchronisation.md R155 to R167, R180, R183 to R185): crossings
and the Strainer, the classification of periods, forward and reverse passages, pulses and the direction, cam
marks, the crank secondary and auxiliary inputs. -/

namespace Sys2Proof.Machine

/-! ## Period classes (R160) -/

/-- The class of a crank period (R160). -/
inductive PeriodClass where
  | normal | gap | extra | missing
  deriving DecidableEq, Repr

/-- The class of a period `T` against the previous period `P` over `n` intervals, with g = GAP_MISSING (R160). -/
def classify (g T P n : Nat) : PeriodClass :=
  if 10 * T * n < 3 * P then .extra
  else if g = 0 then (if 2 * T * n < 5 * P then .normal else .missing)
  else if 2 * T * n < (2 * g + 1) * P then .normal
  else if 4 * T * n ≤ 7 * (g + 1) * P then .gap
  else .missing

/-- The class of the period that ends at `t` on a crank sensor; none before a period to compare with. -/
def periodClass (s : State) (d : CrankDec) (t : Tick) : Option PeriodClass :=
  match d.last, d.prevN with
  | some l, n + 1 => some (classify s.gapMissing (t - l) d.prevT (n + 1))
  | _, _ => none

/-- `WHL_INn_STAT.LAST_CLASS` of a period (R192). -/
def edgeClassOf : Option PeriodClass → EdgeClass
  | some .gap => .gap
  | some .extra => .error
  | some .missing => .error
  | _ => .tooth

/-- Set LAST_CLASS of an input. -/
def setClass (n : Nat) (c : EdgeClass) (s : State) : State := s.setWheel n { s.wheel n with lastClass := c }

/-- The number of intervals a one-interval period is taken from (R160). -/
def spannedBy (g span : Nat) : Option PeriodClass → Nat
  | some .gap => g + 1
  | some .missing => span
  | _ => 1

/-- A gap candidate is confirmed by the period `T` at the next edge (R161). -/
def confirms (g T : Nat) (c : GapCand) : Bool := decide (T * (2 * g + 1) ≤ 2 * c.period)

/-! ## Forward passages of the crank source (R160, R161, R168, R169, R204) -/

/-- Positions from the tooth before F to F (R166). -/
def spanToF (s : State) : Nat :=
  let f := s.whl.crank.f
  (f + 2 * s.nTeeth - prevTooth s s.whl.shift f) % (2 * s.nTeeth)

/-- The tooth being passed forward is a reference tooth by the numbering. -/
def expectsGap (s : State) : Bool := s.whl.crank.hasPos && isRef s s.whl.shift s.whl.crank.f

/-- A gap candidate waiting for its confirmation is judged at edge k + 1 (R161). Answers the candidate
confirmed in TOOTH. -/
def judgeCandidate (T : Nat) (s : State) : State × Option GapCand :=
  match s.whl.crank.cand with
  | none => (s, none)
  | some c =>
    let s := onCrank (fun d => { d with cand := none }) s
    let conf := confirms s.gapMissing T c
    if positioned s.whl.sync then
      if !conf then (toothError s, none)
      else if c.expected then (confirmedReference c s, none)
      else if s.whl.sync = .quick then (retract s, none)
      else (enterLost 8 s, none)
    else (s, if conf then some c else none)

/-- A gap candidate is not confirmed at this edge, which is a tooth error in a state with a position (R161, R169). -/
def unconfirmed (T : Nat) (s : State) : Bool :=
  positioned s.whl.sync && match s.whl.crank.cand with
    | some c => !confirms s.gapMissing T c
    | none => false

/-- The crank source's decoder after a forward boundary edge (R160, R161, R166, R180). -/
def passForward (s : State) (t : Tick) (cls : Option PeriodClass) (span : Nat) (d : CrankDec) : CrankDec :=
  let exp := expectsGap s
  let T := t - d.last.getD t
  { d with
    last := some t, prevT := T, prevN := spannedBy s.gapMissing span cls
    cand := if cls = some .gap then some { period := T, expected := exp, ref := d.f, stamp := t, primary := 0 } else none
    f := nextTooth s s.whl.shift d.f
    agree := cls.isNone || (decide (cls = some .gap) == exp) }

/-- The update at a boundary edge and the state changes it brings (R168, R194); where it ends in LOST, the waits on an
angle end with the loss before the update passes any (R271). -/
def boundaryUpdate (t : Tick) (j span : Nat) (err : Bool) (confirmed : Option GapCand) (s : State) : State :=
  let run := fun s =>
    let s := lensUpdate t j span err s
    let s := match confirmed, s.whl.sync with
      | some c, .tooth => enterFromTooth false c s
      | _, _ => s
    quickLimit (anchorWithoutGap t s)
  let u := run s
  if u.whl.sync = .lost then run (endWaitas 3 (passTo (s.etc - 1) s)) else u

/-- An edge of the crank source that is a boundary (R168, R194, R204); `bad` tells that it leaves a gap unconfirmed. -/
def forwardBoundary (t : Tick) (cls : Option PeriodClass) (bad : Bool) (confirmed : Option GapCand) (s : State) : State :=
  let exp := expectsGap s
  let pos := positioned s.whl.sync
  let gap := decide (cls = some .gap)
  let span := if pos then spanToF s else if gap then s.gapMissing + 1 else 1
  let err := cls = some .missing || (if pos then exp != gap else gap) || bad || s.whl.promoFirst
  let j := if pos then intervalOf s s.whl.crank.f else s.lns.cur
  let s := onCrank (passForward s t cls span) { s with whl := { s.whl with
    promoFirst := false
    quickCount := s.whl.quickCount + span } }
  boundaryUpdate t j span err confirmed (if s.whl.sync = .nosync then changeSync .tooth 1 s else s)

/-- A forward passage with a period to measure (R160, R161, R169). -/
def forwardPeriod (inp : Nat) (t : Tick) (s : State) : State :=
  let cls := periodClass s s.whl.crank t
  let T := t - s.whl.crank.last.getD t
  let n := if cls = some .extra then 0 else spanToF s
  let s := if positioned s.whl.sync then { s with whl.sinceErr := s.whl.sinceErr.map (· + n) } else s
  let bad := unconfirmed T s
  let r := judgeCandidate T s
  let s := r.1
  if s.whl.sync = .lost then s
  else
    let s := setClass inp (edgeClassOf cls) s
    if cls = some .extra then
      let s := toothError s
      match r.2, s.whl.sync with
      | some c, .tooth => enterFromTooth true c s
      | _, _ => s
    else
      let wrong := decide (cls = some .missing)
        || (positioned s.whl.sync && expectsGap s && decide (cls ≠ some .gap))
      let s := if wrong then toothError s else s
      if s.whl.sync = .lost then s else forwardBoundary t cls bad r.2 s

/-- An edge without a position while reverse is declared: the second after NOSYNC leads to TOOTH (R168); the Lens takes
no period from it (R210). -/
def reverseEdge (t : Tick) (s : State) : State :=
  let first := s.whl.crank.last.isNone
  let s := notLearned (onCrank (fun d => { d with last := some t, prevN := 0, cand := none }) s)
  if s.whl.sync = .nosync ∧ first = false then changeSync .tooth 1 s else s

/-- A forward passage of the crank source: in reverse F steps and the displayed angle follows; the first edge gives
the stamp the first period is measured from and has no class (R160, R166, R194, R210, R211). -/
def forwardPassage (inp : Nat) (t : Tick) (s : State) : State :=
  let f := s.whl.crank.f
  if s.lns.rev then
    let s := onCrank (fun d => { d with f := nextTooth s s.whl.shift d.f }) s
    if positioned s.whl.sync then lensShow (intervalOf s f) false t s else reverseEdge t s
  else match s.whl.crank.last with
    | none =>
      lensFirst t (onCrank (fun d => { d with last := some t, agree := true, f := nextTooth s s.whl.shift d.f }) s)
    | some _ => forwardPeriod inp t s

/-! ## Reverse passages (R166, R176) -/

/-- A reverse passage moves F to the previous tooth present (R166); REV_TEETH counts it (R176). -/
def stepBack (s : State) : State :=
  onCrank (fun d => { d with f := prevTooth s s.whl.shift d.f })
    { s with whl.revTeeth := satInc 65535 s.whl.revTeeth }

/-- Tooth timing of a reverse passage in a state without a position and before reverse is declared: the edge
is the first, or a boundary of NOSYNC or TOOTH. -/
def reverseTiming (t : Tick) (s : State) : State :=
  match s.whl.crank.last with
  | none => lensFirst t (onCrank (fun d => { d with last := some t }) s)
  | some l =>
    let s := onCrank (fun d => { d with last := some t, prevT := t - l, prevN := 1, cand := none }) s
    let s := if s.whl.sync = .nosync then changeSync .tooth 1 s else s
    lensUpdate t s.lns.cur 1 false s

/-- A reverse passage of the crank source. -/
def backPassage (t : Tick) (s : State) : State :=
  let s := stepBack s
  if s.lns.rev then
    (if positioned s.whl.sync then lensShow (intervalOf s s.whl.crank.f) true t s else reverseEdge t s)
  else if positioned s.whl.sync then s
  else reverseTiming t s

/-! ## Leading edges of the crank source (R165, R166, R171, R175, R447) -/

/-- The EDGE frame of an accepted crank-source edge (R447). -/
def edgeFrame (t : Tick) (s : State) : State :=
  let w : Word := match lensLinAt s t with
    | some a => angWord a
    | none => 0xFFFFFFFF
  mirrorAt 1 ([BitVec.ofNat 8 (syncCode s.whl.sync + dirCode (dirOf s) * 16), 0, 0] ++ leBytes 4 w.toNat) t s

/-- What every accepted crank-source edge does: stall is measured from it, and the stored record becomes
unusable (R175, R209, R465, R467). -/
def edgeAccepted (t : Tick) (s : State) : State :=
  let s := { s with whl := { s.whl with lastEdge := t, secEdges := 0, qsMoved := true }, sys.stallAt := none }
  wake 9 (qsInvalidate 4 s)

/-- A timing crossing of the crank source is accepted (R166, R168, R171). -/
def sourceEdge (inp : Nat) (t : Tick) (s : State) : State :=
  let s := edgeAccepted t s
  if s.whl.sync = .lost then edgeFrame t s
  else
    let d := s.whl.crank
    let back := decodes s inp && d.back
    let s := onCrank (fun d => { d with
      prevLead := if d.lead = 0 then none else some d.lead
      lead := t, before := d.f, stepBack := some back }) s
    edgeFrame t (if back then backPassage t s else forwardPassage inp t s)

/-! ## Pulses and the direction (R165 to R167, R170, R180, R210) -/

/-- The step of the pulse just classified is undone and redone the other way (R166). -/
def redoStep (inp : Nat) (back : Bool) (s : State) : State :=
  let d := s.whl.crank
  let s := onCrank (fun d => { d with f := d.before, stepBack := none }) s
  if back then
    let s := stepBack s
    if s.lns.rev && positioned s.whl.sync then lensShow (intervalOf s s.whl.crank.f) true d.lead s else s
  else
    let s := { s with whl.revTeeth := s.whl.revTeeth - 1 }
    if s.lns.rev || d.last = some d.lead then
      let s := onCrank (fun d => { d with f := nextTooth s s.whl.shift d.f }) s
      if s.lns.rev && positioned s.whl.sync then lensShow (intervalOf s d.before) false d.lead s else s
    else forwardPassage inp d.lead s

/-- The direction after one more pulse of a class (R167); `pos` tells whether the state has a position. -/
def nextDir (cls : Pulse) (run : Nat) (pos : Bool) (dir : Dir) : Dir :=
  match cls with
  | .long => if dir = .forward ∨ 2 ≤ run then .reverse else dir
  | .short => if 2 ≤ run then .forward else dir
  | .ambiguous => if 2 ≤ run ∧ pos = false then .unknown else dir
  | .none => dir

/-- A decoder counts one more pulse of a class (R167). -/
def runDec (cls : Pulse) (pos : Bool) (d : CrankDec) : CrankDec :=
  let run := if d.runClass = cls then d.run + 1 else 1
  { d with
    runClass := cls, run := run, dir := nextDir cls run pos d.dir
    back := match cls with
      | .short => false
      | .long => true
      | _ => d.back }

/-- Reverse is declared (R168, R170, R210, R271). -/
def declareReverse (s : State) : State :=
  let s := stopFiring 17 (passTo (s.etc - 1) s)
  let s := onCrank (fun d => { d with cand := none }) s
  let s := if s.whl.sync = .quick then applyPending 0x70 (changeSync .tooth 14 { s with lns.mode := .period }) else s
  let s := lensReverse s
  let s := if positioned s.whl.sync then lensShow (intervalOf s s.whl.crank.f) true s.etc s else s
  endWaitas 4 s

/-- The direction returns to forward after reverse running: the Lens restarts at the second short pulse (R210). -/
def declareForward (s : State) : State :=
  let d := s.whl.crank
  match d.prevLead with
  | none => s
  | some p =>
    let per := d.lead - p
    let j := if positioned s.whl.sync then intervalOf s (prevTooth s s.whl.shift d.f) else s.lns.cur
    let s := { s with whl.revTeeth := 0 }
    lensResume d.lead j per
      (onCrank (fun d => { d with last := some d.lead, prevT := per, prevN := 1, cand := none }) s)

/-- The direction has changed from `old` (R167, R174, R187). -/
def dirChanged (old : Dir) (s : State) : State :=
  let new := s.whl.crank.dir
  if new = old then s
  else
    let s := raise 17 s
    match new with
    | .reverse => declareReverse s
    | .unknown => dropHeld 3 s
    | .forward => if s.lns.rev then declareForward s else { s with whl.revTeeth := 0 }
    | .assumed => s

/-- The third consecutive short pulse in TOOTH with a held position passes to QUICK (R180). -/
def quickCheck (cls : Pulse) (s : State) : State :=
  let d := s.whl.crank
  if cls ≠ .short ∨ d.hasPos = false then onCrank (fun d => { d with quickRun := 0 }) s
  else
    let s := onCrank (fun d => { d with quickRun := if d.agree then d.quickRun + 1 else 1 }) s
    if 3 ≤ s.whl.crank.quickRun ∧ s.whl.sync = .tooth then enterPosition .quick 4 s else s

/-- A pulse of the crank source is classified (R165 to R167, R169, R174, R180). -/
def sourcePulse (inp : Nat) (cls : Pulse) (s : State) : State :=
  if s.whl.sync = .lost then s
  else
    let d := s.whl.crank
    let s := match cls, d.stepBack with
      | .short, some true => redoStep inp false s
      | .long, some false => redoStep inp true s
      | _, _ => s
    let s := if cls = .long then { s with whl.revSeen := true } else s
    let s := if cls = .ambiguous then lensUndo d.lead (toothError s) else s
    if s.whl.sync = .lost then s
    else
      let old := s.whl.crank.dir
      let s := onCrank (runDec cls (positioned s.whl.sync)) s
      quickCheck cls (dirChanged old (onCrank (fun d => { d with stepBack := none }) s))

/-! ## Cam marks (R162 to R164, R184) -/

/-- A mark is the phase mark (R162): the only one, or less than half the preceding distance from the mark before,
in crank angle where both distances are known in angle. -/
def isPhaseMark (marks : Nat) (dist prev : Option (Nat × Option Nat)) : Bool :=
  if marks = 1 then true
  else match dist, prev with
    | some (_, some a), some (_, some b) => decide (2 * a < b)
    | some (t, _), some (u, _) => decide (2 * t < u)
    | _, _ => false

/-- The tolerance of R163 and R164: the larger of 2 intervals and 3 degrees of crank angle, in mt. -/
def markTol (s : State) : Nat := max 8192 (3 * s.nTeeth * 4096 / 360)

/-- The distance between two linear angles either way round. -/
def angDist (len a b : Nat) : Nat := min (fwdDist len a b) (fwdDist len b a)

/-- A linear angle lies in the guard zone of R163, measured in crank angle. -/
def inGuard (s : State) (a : Nat) : Bool :=
  if s.gapCount = 0 then decide (min (a % 4096) (4096 - a % 4096) < 1024)
  else (List.range (2 * s.nTeeth)).any (fun f =>
    isRef s s.whl.shift f && decide (angDist s.cycleLen a (intervalOf s f * 4096) < markTol s))

/-- A cam mark inside the guard zone behind the last reference tooth, or tooth, in ETC time (R163). -/
def inGuardTime (s : State) (t : Tick) : Bool :=
  match (if s.gapCount = 0 then s.whl.crank.last else s.whl.refStamp) with
  | some r => decide (t < r + guardTime s)
  | none => false

/-- The cam of an index (R155: cam 1 is index 0). -/
def State.cam (s : State) (c : Nat) : Cam := s.whl.cams.get {} c

/-- Write a cam. -/
def State.setCam (s : State) (c : Nat) (x : Cam) : State := { s with whl.cams := s.whl.cams.set {} c x }

/-- The other cam has met its learned phase mark in this cycle (R184). -/
def otherPhaseMet (s : State) (c : Nat) : Bool :=
  let o := s.cam (1 - c)
  o.met.any (fun i => match o.learned[i]? with
    | some m => m.2
    | none => false)

/-- A phase mark away from its learned angle (R164, R184): a cam error; 360 degrees away it is a phase
contradiction, on both cams where the other meets its own phase mark in the cycle, before it or after, and the second in
consecutive cycles leads to LOST. -/
def phaseElsewhere (c x a : Nat) (s : State) : State :=
  let s := camError s
  if angDist s.cycleLen x ((a + s.cycleLen / 2) % s.cycleLen) ≤ markTol s then
    let s := if otherPhaseMet s c then camError s else s
    let s := s.setCam c { s.cam c with contra := true }
    if s.whl.contraPrev then enterLost 9 s else { s with whl.contraNow := true }
  else s

/-- A cam mark in FULL at linear angle `x` (R164): collected in the learning cycle, checked after it. -/
def camInFull (c x : Nat) (phase : Bool) (s : State) : State :=
  let m := s.cam c
  match s.whl.learnCycle with
  | 0 => s
  | 1 => s.setCam c { m with collect := m.collect ++ [(x, phase)] }
  | _ =>
    match phase, phaseMarkOf m.learned with
    | true, some a =>
      if angDist s.cycleLen x a ≤ markTol s then
        let s := if (s.cam (1 - c)).contra then camError s else s
        s.setCam c { m with met := m.met ++ (List.range m.learned.length).filter (fun i =>
          match m.learned[i]? with
          | some l => l.2
          | none => false) }
      else phaseElsewhere c x a s
    | _, _ =>
      match (List.range m.learned.length).find? (fun i => match m.learned[i]? with
          | some l => decide (angDist s.cycleLen x l.1 ≤ markTol s)
          | none => false) with
      | some i => s.setCam c { m with met := m.met ++ [i] }
      | none => camError s

/-- A phase mark is met: inside a guard zone it is a cam error and not used (R163). -/
def phaseMet (t : Tick) (x : Option Nat) (s : State) : State :=
  let s := { s with whl.phaseNow := true }
  let inside := match x with
    | some a => inGuard s a
    | none => inGuardTime s t
  if inside then camError s else { s with whl.phase := some (t, x.isSome) }

/-- A timing crossing of cam `c` on input `inp` is accepted (R162 to R164). -/
def camEdge (inp c : Nat) (t : Tick) (s : State) : State :=
  if s.camMarks = 0 ∨ s.whl.sync = .lost then s
  else
    let m := s.cam c
    let x := lensLinAt s t
    let dist : Option (Nat × Option Nat) := m.last.map (fun l =>
      (t - l.1, match l.2, x with
        | some a, some b => some (fwdDist s.cycleLen a b)
        | _, _ => none))
    let phase := isPhaseMark s.camMarks dist m.prevDist
    let s := setClass inp (if phase then .camPhase else .camRegular)
      (s.setCam c { m with last := some (t, x), prevDist := dist })
    let s := match s.whl.sync, x with
      | .full, some a => camInFull c a phase s
      | _, _ => s
    if phase && s.whl.sync != .lost then phaseMet t x s else s

/-! ## The crank secondary (R183) -/

/-- Change the secondary's decoder. -/
def onSecond (f : CrankDec → CrankDec) (s : State) : State := { s with whl.second := f s.whl.second }

/-- The secondary loses its own numbering. -/
def secondLost (s : State) : State :=
  onSecond (fun d => { d with hasPos := false, cand := none }) { s with whl.secState := 1 }

/-- The cross-check at a secondary reference tooth, with the primary's position then (R183). -/
def secondCheck (pos : Nat) (s : State) : State :=
  match s.whl.secOfs with
  | none => { s with whl := { s.whl with secOfs := some pos, secAgree := true } }
  | some o =>
    let d := (pos + s.nTeeth - o) % s.nTeeth
    if d ≤ 1 ∨ d + 1 = s.nTeeth then
      { s with whl := { s.whl with secAgree := true, secBad := s.whl.secBad && !s.whl.secAgree } }
    else raiseIf (!s.whl.secBad) 22 { s with whl := { s.whl with secAgree := false, secBad := true } }

/-- A gap of the secondary is confirmed: its reference tooth was edge k (R161, R183). SEC_OFS is the primary's position
at the reference tooth behind the gap at GAP_POS; a secondary without numbering takes its first gap for that one
(DEDUCED, log 98). -/
def secondReference (c : GapCand) (s : State) : State :=
  let n := s.nTeeth
  let back := if s.whl.second.hasPos then (c.ref % n + n - refPos s) % n else 0
  let s := if s.whl.second.hasPos then s
    else onSecond (fun d => { d with hasPos := true, f := nextTooth s 0 (refPos s) }) { s with whl.secState := 2 }
  if c.primary = 0 then s else secondCheck ((c.primary - 1 + n - back) % n) s

/-- The primary's position plus 1 while it has one, else 0. -/
def primaryMark (s : State) : Nat :=
  if positioned s.whl.sync then s.whl.crank.f % s.nTeeth + 1 else 0

/-- The secondary's decoder after a boundary edge. -/
def passSecond (s : State) (t : Tick) (cls : Option PeriodClass) (d : CrankDec) : CrankDec :=
  let T := t - d.last.getD t
  { d with
    last := some t, prevT := T, prevN := spannedBy s.gapMissing 1 cls
    cand := if cls = some .gap then
        some { period := T, expected := d.hasPos && isRef s 0 d.f, ref := d.f, stamp := t, primary := primaryMark s }
      else none
    f := nextTooth s 0 d.f }

/-- A forward edge of the secondary with a period to measure (R160, R161, R183): its own errors cost it its own
numbering only. -/
def secondPeriod (inp : Nat) (t : Tick) (s : State) : State :=
  let d := s.whl.second
  let cls := periodClass s d t
  let s := setClass inp (edgeClassOf cls) s
  if cls = some .extra then secondLost s
  else
    let exp := d.hasPos && isRef s 0 d.f
    let ok := cls != some .missing && !(exp && cls != some .gap)
    let s := if ok then s else secondLost s
    let s := match d.cand with
      | some c =>
        if confirms s.gapMissing (t - d.last.getD t) c then
          (if s.whl.second.hasPos && !c.expected then secondLost s else secondReference c s)
        else secondLost s
      | none => s
    onSecond (passSecond s t cls) s

/-- A timing crossing of the crank secondary is accepted (R183); in LOST it is counted, not classified (R171). -/
def secondEdge (inp : Nat) (t : Tick) (s : State) : State :=
  if s.whl.sync = .lost then s
  else
  let d := s.whl.second
  let back := decodes s inp && d.back
  let s := { s with whl := { s.whl with secEdges := s.whl.secEdges + 1, secState := max 1 s.whl.secState } }
  let s := onSecond (fun d => { d with
    prevLead := if d.lead = 0 then none else some d.lead, lead := t, before := d.f, stepBack := some back }) s
  if back then onSecond (fun d => { d with f := prevTooth s 0 d.f, last := some t, prevN := 0, cand := none }) s
  else match d.last with
    | none => onSecond (fun d => { d with last := some t, f := nextTooth s 0 d.f }) s
    | some _ => secondPeriod inp t s

/-- A pulse of the secondary is classified: its numbering and its direction follow as the source's do (R166,
R167). -/
def secondPulse (cls : Pulse) (s : State) : State :=
  onSecond (fun d =>
    let f := match cls, d.stepBack with
      | .short, some true => nextTooth s 0 d.before
      | .long, some false => prevTooth s 0 d.before
      | _, _ => d.f
    runDec cls (positioned s.whl.sync) { d with f := f, stepBack := none }) s

/-- The positions by which the secondary's own numbering stands behind the module's (R183). -/
def secondShift (s : State) (ofs : Nat) : Nat :=
  (ofs + s.nTeeth - nextTooth s 0 (refPos s) % s.nTeeth) % s.nTeeth

/-- `k` teeth of a sensor forward of a linear position. -/
def teethOn (s : State) (shift : Nat) : Nat → Nat → Nat
  | 0, f => f
  | k + 1, f => teethOn s shift k (nextTooth s shift f)

/-- The linear position the module numbers next, told from the secondary's numbering and SEC_OFS: the place
nearest the primary's F; without a numbering of the secondary, the primary's F with the teeth the secondary has passed
since (R183) (DEDUCED, log 98). -/
def promotedF (s : State) (ofs : Nat) : Nat :=
  let n := s.nTeeth
  if s.whl.second.hasPos then
    let own := (s.whl.second.f + secondShift s ofs) % n
    let d := (own + n - s.whl.crank.f % n) % n
    if 2 * d ≤ n then (s.whl.crank.f + d) % (2 * n) else (s.whl.crank.f + d + n) % (2 * n)
  else teethOn s (secondShift s ofs) (s.whl.secEdges % (2 * n)) s.whl.crank.f

/-- The primary has been silent for three predicted tooth periods while the secondary delivered at least three edges,
or shows a sensor-supply fault (R183). -/
def primaryGone (s : State) (inp : Nat) : Bool :=
  (s.wheel inp).vswFault
    || (decide (3 ≤ s.whl.secEdges) && decide (s.whl.lastEdge + 3 * pred s 0 / 256 ≤ s.etc))

/-- SECONDARY_PROMOTION: the secondary replaces the primary, keeping the state and the position (R183, R204,
R205). -/
def doSecondaryPromotion (s : State) : State :=
  match inputOf s 1, inputOf s 2, s.whl.secOfs with
  | some p, some _, some ofs =>
    if !s.whl.promoted && positioned s.whl.sync && s.whl.secAgree && primaryGone s p then
      let f := promotedF s ofs
      let shift := secondShift s ofs
      let s := passTo s.etc s
      raise 22 { s with
        whl := { s.whl with
          promoted := true, promoFirst := true, shift := shift
          lastEdge := s.whl.second.last.getD s.whl.lastEdge
          crank := { s.whl.second with f := f, hasPos := true, cand := none, stepBack := none } }
        lns.pauseCross := 2 }
    else s
  | _, _, _ => s

/-! ## Crossings and the Strainer (R55, R155 to R158, R179, R202) -/

/-- The wheel inputs work: from step 5 of the reset sequence (R458), in RUN and STANDBY, and outside DOWN. -/
def wheelOn (s : State) : Bool :=
  s.supply.state != .down && match s.sys.mode with
    | .reset => decide (5 ≤ s.sys.step)
    | .run | .standby => true
    | _ => false

/-- An input works in STANDBY (R457): crank and cam roles. -/
def inputAwake (s : State) (n : Nat) : Bool :=
  s.role n != 0 && (s.sys.mode != .standby || decide (1 ≤ s.role n ∧ s.role n ≤ 4))

/-- The timing crossing is the rising one, or the falling one with inverted polarity (R158). -/
def isTiming (s : State) (n : Nat) (rising : Bool) : Bool := rising != bitAt (s.whMode n) 2

/-- The input is a VR input (R143 MODE, R157). -/
def isVr (s : State) (n : Nat) : Bool := !bitAt (s.whMode n) 0

/-- The arming threshold in force in mV (R157). -/
def armThreshold (s : State) (n : Nat) : Nat :=
  if bitAt (s.whMode n) 3 then min 2000 (max (s.armMv n) ((s.wheel n).adaptPeak / 4)) else s.armMv n

/-- The comparator's output, crossings held by the Strainer included. -/
def comparator (w : WheelIn) : Bool :=
  match w.held.getLast? with
  | some c => c.rising
  | none => w.level

/-- FILT_NS of an input in ticks. -/
def filtTicks (s : State) (n : Nat) : Nat := s.filtNs n * ticksPerNs

/-- A VR timing crossing that is not armed (R157). -/
def unarmed (s : State) (n : Nat) (rising : Bool) (peakMv : Nat) : Bool :=
  isVr s n && isTiming s n rising && decide (peakMv ≤ armThreshold s n)

/-- The Strainer holds a crossing that has not yet stayed for FILT_NS (R156). -/
def strained (s : State) (n : Nat) : Bool :=
  match (s.wheel n).held.getLast? with
  | some h => decide (s.etc < h.stamp + filtTicks s n)
  | none => false

/-- A crossing enters the Strainer (R156, R157): one that returns before FILT_NS rejects the crossing it returns
from; a VR timing crossing not armed is none. -/
def strain (n : Nat) (rising : Bool) (peakMv : Nat) (s : State) : State :=
  let w := s.wheel n
  if rising = comparator w then s
  else if strained s n then s.setWheel n { w with held := w.held.dropLast, rej := satInc 0xFFFFFFFF w.rej }
  else if unarmed s n rising peakMv then s
  else s.setWheel n { w with held := w.held ++ [{ stamp := s.etc, rising := rising, peakMv := peakMv }] }

/-- WHEEL_CROSSING: the comparator of an input crosses (R156 to R158); in SLEEP and on the way there only a VR crank
primary's comparator is armed, and its crossing marks the record unusable and wakes (R179, R469). -/
def doWheelCrossing (n : Nat) (rising : Bool) (peakMv : Nat) (s : State) : State :=
  if wheelOn s && inputAwake s n then strain n rising peakMv s
  else if (asleep s || s.sys.mode == .entering) && s.role n == 1 && isVr s n
      && s.supply.state != .down then
    wake 0 (qsInvalidate 7 s)
  else s

/-- The width of the pulse ends at a trailing crossing: `WHL_INn_WIDTH` in ns, and the class (R165, R188). -/
def pulseOf (s : State) (n : Nat) (width : Nat) : Pulse :=
  if width ≤ s.dirLim0 n * ticksPerUs then .short
  else if s.dirLim1 n * ticksPerUs ≤ width then .long
  else .ambiguous

/-- The pulse of an input is classified (R165, R192). -/
def classifyPulse (n : Nat) (cls : Pulse) (s : State) : State :=
  let s := s.setWheel n { s.wheel n with pulse := cls }
  if crankInput s = some n then sourcePulse n cls s
  else if s.role n = 2 then secondPulse cls s
  else s

/-- A crank or secondary input with direction decoding (R158, R165). -/
def decodesHere (s : State) (n : Nat) : Bool := decodes s n && (s.role n == 1 || s.role n == 2)

/-- An accepted timing crossing by the role of its input (R155, R185). -/
def timingAccepted (n : Nat) (c : Crossing) (s : State) : State :=
  let w := s.wheel n
  let s := s.setWheel n { w with
    level := c.rising, stamp := c.stamp, edges := wrapInc 32 w.edges
    peak := if isVr s n then sat 65535 (c.peakMv / 10) else w.peak, adaptPeak := c.peakMv
    lead := if decodesHere s n then some c.stamp else none
    pulse := if decodesHere s n then .none else w.pulse
    lostEdge := s.whl.sync == .lost }
  if crankInput s = some n then sourceEdge n c.stamp s
  else match s.role n with
    | 2 => secondEdge n c.stamp s
    | 3 => camEdge n 0 c.stamp s
    | 4 => camEdge n 1 c.stamp s
    | 5 => raise (24 + n) (setClass n .auxiliary s)
    | _ => s

/-- An accepted opposite crossing: it re-arms the input, and on an input with direction decoding it ends the pulse,
which it classifies unless that is done, or its edge was accepted in LOST (R158, R165, R171). -/
def trailingAccepted (n : Nat) (c : Crossing) (s : State) : State :=
  let w := s.wheel n
  let s := s.setWheel n { w with level := c.rising }
  match decodesHere s n, w.lead with
  | true, some l =>
    let s := s.setWheel n { s.wheel n with width := sat 0xFFFFFFFF ((c.stamp - l) / ticksPerNs), lead := none }
    if w.pulse = .none ∧ w.lostEdge = false then classifyPulse n (pulseOf s n (c.stamp - l)) s else s
  | _, _ => s

/-- STRAINER_ACCEPT: a held crossing has stayed for FILT_NS and is passed on with its stamp (R156, R20). -/
def doStrainerAccept (n : Nat) (s : State) : State :=
  match (s.wheel n).held with
  | c :: rest =>
    if c.stamp + filtTicks s n ≤ s.etc && wheelOn s && inputAwake s n then
      let s := s.setWheel n { s.wheel n with held := rest }
      if isTiming s n c.rising then timingAccepted n c s else trailingAccepted n c s
    else s
  | [] => s

/-- PULSE_LONG_TIMEOUT: no trailing crossing has been accepted by leading stamp + DIR_LIM1 + FILT_NS, and the Strainer
holds none stamped before leading stamp + DIR_LIM1: the pulse is long (R165). -/
def doPulseLongTimeout (n : Nat) (s : State) : State :=
  match (s.wheel n).lead with
  | some l =>
    let lim := l + s.dirLim1 n * ticksPerUs
    if (s.wheel n).pulse = .none && !(s.wheel n).lostEdge && lim + filtTicks s n ≤ s.etc
        && !(s.wheel n).held.any (fun c => !isTiming s n c.rising && decide (c.stamp < lim)) then
      classifyPulse n .long s
    else s
  | none => s

end Sys2Proof.Machine
end

