-- ==== Sys2Proof/Machine/Regs.lean ====
section
/-! DEFINITION. Register reads (16_register_address_map.md R473 to R481 and the register tables of each chapter):
the words of each block, the counters read by snapshot (00 R9, R10), and a read by a requester. -/

namespace Sys2Proof.Machine

/-! ## Helpers -/

/-- One of the 32-bit words of a wide vector. -/
def word32 {w : Nat} (v : BitVec w) (i : Nat) : Nat := v.toNat / 2 ^ (32 * i) % 2 ^ 32

/-- A mask of the indices below `n` that satisfy a condition. -/
def maskOf (n : Nat) (p : Nat → Bool) : Nat := (List.range n).foldl (fun a i => a + flagAt (p i) i) 0

/-- A Q.8 count of ticks in ns, rounded (R216). -/
def q8Ns (q : Int) : Int := (q + 1024) / 2048

/-- The index and the offset of an address in an array of windows. -/
def window (base size count a : Nat) : Option (Nat × Nat) :=
  if base ≤ a ∧ a < base + size * count then some ((a - base) / size, (a - base) % size) else none

/-- OWNER_ID: the first 8 bytes of SHA-256 of OWK_PUB; zero in UNCLAIMED (03). -/
def ownerId (s : State) : List Byte :=
  match s.keys.life with
  | .owned => slice (beBytes 32 (Config.sha256 (beBytes 64 s.keys.owk.toNat)).toNat) 0 8
  | _ => zeros 8

/-- Minutes left in the release countdown, rounded up; 0 while none runs (R85, R105). -/
def releaseMinutes (s : State) : Nat :=
  match s.sec.release with
  | some r => ceilDiv (r.since + 86400 * ticksPerS - s.etc) (60 * ticksPerS)
  | none => 0

/-- CLAIM_N is strapped. -/
def strapped (s : State) : Bool := s.supply.claimStrap

/-- The code of a lifecycle state (R472, R481). -/
def lifeCode : Life → Nat
  | .unclaimed => 0
  | .owned => 1
  | .retired => 2

/-- The code of a supply state (R472, R485). -/
def supplyCode : SupplyState → Nat
  | .main => 0
  | .backup => 1
  | .holdup => 2
  | .down => 2

/-- A slot's code. -/
def slotCode : Slot → Nat
  | .a => 0
  | .b => 1

/-! ## SYS (R471, R472, R125) -/

/-- `SYS_STAT`. -/
def sysStat (s : State) : Nat :=
  s.sys.phase + (if s.sec.regsUp then lifeCode s.keys.life else 0) * 2 ^ 3 + supplyCode s.supply.state * 2 ^ 5
    + flagAt s.supply.enable 7 + flagAt (strapped s) 8

/-- `SYS_PWR_STAT`. -/
def pwrStat (s : State) : Nat :=
  (match s.sys.mode with
    | .reset | .run => 0
    | .standby => 1
    | .entering | .sleep => 2
    | .waking => 3) + s.sys.refuse * 2 ^ 4 + s.sys.sleeps * 2 ^ 16

/-- `SYS_IMG`. -/
def sysImg (s : State) : Nat :=
  let k := s.keys
  s.sys.refA + s.sys.refB * 2 ^ 4
    + (if s.sec.regsUp then slotCode k.sel * 2 ^ 8 + flagAt k.trial 9 + k.trials * 2 ^ 10 else 0)
    + (match s.sys.running with
      | some x => slotCode x
      | none => 3) * 2 ^ 12

/-- The session state of a link: 0 NONE, 1 OPENING, 2 OPEN (R131, R481). -/
def sessionCode : SessionSt → Nat
  | .none => 0
  | .opening _ => 1
  | .opened _ => 2

/-- `SYS_MBX_STAT` (R125). -/
def mbxStat (s : State) : Nat :=
  flagAt s.links.txFrame.isNone 0 + flagAt s.links.rxReady 1
    + flagAt (sessionCode s.links.spi.session == 2) 2 + flagAt s.links.spi.req.isSome 3
    + s.links.spi.frameErr * 2 ^ 8 + (if s.links.rxReady then s.links.rxBuf.length else 0) * 2 ^ 16

/-- The SYS block. -/
def sysWord (s : State) (a : Nat) : Nat :=
  match a with
  | 0x00 => (if s.sys.order64 then 64 else 32) + Config.dieRevision * 2 ^ 8 + Config.romVersion * 2 ^ 16
  | 0x04 => sysStat s
  | 0x08 => s.sys.autoStby * 2 ^ 8 + s.sys.autoSlp * 2 ^ 16
  | 0x0C => pwrStat s
  | 0x10 => s.sys.wakeEn.toNat + s.sys.wakeLvl * 2 ^ 8
  | 0x14 => s.sys.wakeSrc.toNat
  | 0x18 => s.sys.rstCause + s.sys.prevSafe * 2 ^ 4 + flagAt s.sys.prevValid 11
  | 0x1C => s.nv.starts
  | 0x20 => sysImg s
  | 0x24 => s.sys.selftest.toNat
  | 0x104 => mbxStat s
  | 0x108 => s.links.hostRej
  | _ => if 0x400 ≤ a ∧ a < 0x600 then leAt s.links.rxBuf (a - 0x400) 4 else 0

/-! ## IRC and FLT (R423 to R426) -/

/-- The registers of one interrupt target. -/
def ircTargetWord (s : State) (g : IrcTarget) (host : Bool) (o : Nat) : Nat :=
  if o < 0x20 then word32 g.en (o / 4)
  else if o < 0x40 then word32 g.pend ((o - 0x20) / 4)
  else if o < 0x60 then word32 g.act ((o - 0x40) / 4)
  else match o with
    | 0x60 => g.thr
    | 0x64 => if host then s.irc.modUs + s.irc.modCnt * 2 ^ 12 + s.irc.bypass * 2 ^ 20 + s.irc.idle * 2 ^ 24 else 0
    | 0x68 => best s g
    | 0x70 => g.claimed + effThr g * 2 ^ 8 + flagAt (host && s.irc.line) 12
        + flagAt (host && s.irc.hold.isSome) 13 + flagAt g.ccRef 14
    | 0x74 => g.coalesced + g.refused * 2 ^ 16
    | _ => 0

/-- The IRC block. -/
def ircWord (s : State) (a : Nat) : Nat :=
  if a < 0x1080 then (s.levelWord ((a - 0x1000) / 4)).toNat
  else if 0x1100 ≤ a ∧ a < 0x1178 then ircTargetWord s s.irc.host true (a - 0x1100)
  else if 0x1200 ≤ a ∧ a < 0x1278 then ircTargetWord s s.irc.mgmt false (a - 0x1200)
  else 0

/-- `FLT_FIRST` and `FLT_LAST`. -/
def faultRecWord (r : FaultRec) : Nat := r.src + flagAt r.valid 7 + r.cls * 2 ^ 8

/-- `FLT_GRACE`. -/
def graceWord (s : State) : Nat :=
  match s.flt.grace with
  | some d => ceilDiv (d - s.etc) ticksPerUs % 2 ^ 20 + 2 ^ 20
  | none => 0

/-- The FLT block. -/
def fltWord (s : State) (a : Nat) : Nat :=
  let w := s.flt.wdt
  if a < 0x200C then word32 s.flt.sticky ((a - 0x2000) / 4)
  else if a < 0x2018 then word32 s.flt.pend ((a - 0x200C) / 4)
  else if a < 0x2030 then blkU32 s.cfg.active (0x50 + (a - 0x2018))
  else match a with
    | 0x2030 => graceWord s
    | 0x2034 => s.graceUs
    | 0x2038 => faultRecWord s.flt.first
    | 0x2044 => faultRecWord s.flt.last
    | 0x2050 => fltSafeWord s
    | 0x205C => s.flt.total
    | 0x2060 => w.timeout + w.window * 2 ^ 16 + flagAt w.lock 24
    | 0x2068 => w.token.toNat + flagAt (w.timeout != 0) 16 + flagAt w.warned 17 + flagAt w.bad 18
    | _ => 0

/-! ## TIM and PWM (R396 to R400) -/

/-- `TIM_CTL`. -/
def timCtlWord (c : TimerCfg) : Nat :=
  c.tb + flagAt c.capture 3 + flagAt c.restart 4 + c.link * 2 ^ 5 + c.master * 2 ^ 8 + c.cap * 2 ^ 16

/-- `TIM_STAT.STATE`. -/
def timStateCode : TimerState → Nat
  | .stopped => 0
  | .running => 1
  | .expired => 2
  | .armed => 3

/-- The registers of a timer. -/
def timerWord (s : State) (n o : Nat) : Nat :=
  let c := s.timer n
  match o with
  | 0x00 => timCtlWord c.ctl
  | 0x04 => c.target.toNat
  | 0x08 => timCount c s.etc % 2 ^ 32
  | 0x0C => c.ctl.filt + c.ctl.ps * 2 ^ 16
  | 0x10 => c.capt.toNat
  | 0x1C => timStateCode c.state + flagAt c.exp 2 + flagAt c.new 3 + flagAt c.ovr 4 + flagAt c.madeUp 5
      + flagAt c.unseen 6 + flagAt c.linkErr 7
  | 0x20 => flagAt c.ieExp 0 + flagAt c.ieCap 1
  | _ => 0

/-- The registers of an EB unit. -/
def ebWord (s : State) (n o : Nat) : Nat :=
  let u := s.ebU n
  match o with
  | 0x00 => flagAt u.en 0 + flagAt u.updnCtl 1 + flagAt u.imm 2 + flagAt u.armAt.isSome 3 + flagAt u.tlatch 4
      + u.tripMask.toNat * 2 ^ 8
  | 0x04 => u.act.per
  | 0x08 => u.act.cmp
  | 0x0C => u.act.dtMin + u.act.dtMax * 2 ^ 16 + flagAt u.act.adapt 31
  | 0x10 => u.act.minPulse + u.act.blank * 2 ^ 12 + u.act.tripFilt * 2 ^ 24
  | 0x14 => u.ie.toNat + u.ips * 2 ^ 8
  | 0x18 => ebState s u + flagAt u.down 2 + flagAt u.high 3 + flagAt u.hg 4 + flagAt u.lg 5 + u.flags.toNat * 2 ^ 8
      + flagAt u.tripped 16 + flagAt ((u.filtered &&& u.tripMask) != 0#4) 17 + flagAt u.bstLow 18
  | 0x1C => ebCount u s.etc % 2 ^ 24
  | 0x20 => sat 1023 u.dtRise + flagAt u.tmoR 10 + sat 1023 u.dtFall * 2 ^ 16 + flagAt u.tmoF 26
  | 0x24 => u.dropH + u.dropL * 2 ^ 16
  | 0x28 => u.trips + u.clrRef * 2 ^ 16 + u.bstUv * 2 ^ 24
  | _ => 0

/-- A KC trigger's registers. -/
def kcTrigWord (g : KcTrig) : Nat := g.frac + flagAt g.bsel 16 + g.ch * 2 ^ 17 + flagAt g.en 20

/-- A KC trigger's sample register. -/
def kcSampleWord (g : KcTrig) : Nat :=
  g.code.toNat + flagAt g.settling 12 + flagAt g.sat 13 + flagAt g.missed 14 + g.tseq * 2 ^ 16

/-- The registers of a KC unit (DEDUCED, log 52). -/
def kcWord (s : State) (k o : Nat) : Nat :=
  let u := s.kcU k
  let trig := fun j => u.trig.get {} j
  if s.kettles ≤ k then 0
  else match o with
    | 0x00 => u.running.toNat + flagAt (u.running && decide ((s.etc - u.boundary) / ticksPerNs < u.cmp)) 2
    | 0x04 => u.per
    | 0x08 => u.cmp
    | 0x0C => if u.running then (s.etc - u.boundary) / ticksPerNs % 2 ^ 24 else 0
    | 0x10 => u.ie.toNat + u.ips * 2 ^ 8
    | 0x14 => u.flags.toNat
    | 0x38 => (trig 0).misses + (trig 1).misses * 2 ^ 8 + (trig 2).misses * 2 ^ 16 + (trig 3).misses * 2 ^ 24
    | _ =>
      if 0x18 ≤ o ∧ o < 0x28 then kcTrigWord (trig ((o - 0x18) / 4))
      else if 0x28 ≤ o ∧ o < 0x38 then kcSampleWord (trig ((o - 0x28) / 4))
      else 0

/-- The PWM block. -/
def pwmWord (s : State) (a : Nat) : Nat :=
  if a = 0x4F08 then
    maskOf 8 (fun n => ebState s (s.ebU n) == 1) + maskOf 8 (fun n => ebState s (s.ebU n) == 2) * 2 ^ 8
      + maskOf 8 (fun n => ebState s (s.ebU n) == 3) * 2 ^ 16 + maskOf 4 (tripActive s) * 2 ^ 24
  else match window 0x4000 0x80 8 a, window 0x4400 0x80 4 a with
    | some (n, o), _ => ebWord s n o
    | _, some (k, o) => kcWord s k o
    | _, _ => 0

/-- The TIM block. -/
def timWord (s : State) (a : Nat) : Nat :=
  if a = 0x3F04 then s.tim.makeupUs
  else match window 0x3000 0x40 24 a with
    | some (n, o) => timerWord s n o
    | none => 0

/-! ## WHL and LNS (R188 to R192, R216 to R218) -/

/-- A held position is valid: it is kept only while the crank source has direction decoding (R174, R189). -/
def heldShown (s : State) : Bool := s.whl.crank.hasPos && sourceDecodes s

/-- POS is valid: STATE is 2, 3 or 4, or HELD is set (R189). -/
def posShown (s : State) : Bool := heldShown s || positioned s.whl.sync

/-- `WHL_SYNC`. POS, and with it REV, is free where R189 does not call it valid, once the state has left its reset value (DESIGN CHOICE, log 17). -/
def whlSync (s : State) : Nat :=
  let w := s.whl
  let pos := if posShown s then w.crank.f % s.nTeeth
    else if w.changes = 0 then 0 else (Config.unstated s.fresh).toNat % 1024
  let rev := if posShown s then w.crank.f / s.nTeeth % 2
    else if w.changes = 0 then 0 else (Config.unstated s.fresh).toNat / 1024 % 2
  syncCode w.sync + flagAt w.provisional 3 + dirCode (dirOf s) * 2 ^ 4 + flagAt w.promoted 6
    + flagAt (heldShown s) 7 + rev * 2 ^ 8 + pos * 2 ^ 16

/-- `WHL_QS_STAT`. -/
def whlQsStat (s : State) : Nat :=
  let q := s.whl.qs
  flagAt (q.usable || heldShown s) 0 + flagAt (s.whl.qsUnwatched && decide (0 < q.seq)) 1 + flagAt q.revSeen 2 + flagAt s.whl.qsCopy 3
    + s.whl.qsInval * 2 ^ 4 + q.nextRev * 2 ^ 8 + q.nextPos * 2 ^ 16

/-- The code of LAST_CLASS. -/
def edgeClassCode : EdgeClass → Nat
  | .none => 0
  | .tooth => 1
  | .gap => 2
  | .camRegular => 3
  | .camPhase => 4
  | .error => 5
  | .auxiliary => 6

/-- The code of PULSE. -/
def pulseCode : Pulse → Nat
  | .short => 0
  | .long => 1
  | .ambiguous => 2
  | .none => 3

/-- The registers of a wheel input. -/
def whlInWord (s : State) (n o : Nat) : Nat :=
  let w := s.wheel n
  match o with
  | 0x08 => s.role n + flagAt w.level 3 + flagAt w.vswFault 4 + edgeClassCode w.lastClass * 2 ^ 5 + pulseCode w.pulse * 2 ^ 8
  | 0x0C => w.width
  | 0x10 => w.edges
  | 0x14 => w.rej
  | 0x18 => (if s.role n != 0 && isVr s n then armThreshold s n % 2048 else 0) + w.peak * 2 ^ 16
  | _ => 0

/-- The WHL block. -/
def whlWord (s : State) (a : Nat) : Nat :=
  let w := s.whl
  match a with
  | 0x5000 => whlSync s
  | 0x5004 => syncLastWord w + w.changes * 2 ^ 16
  | 0x5010 => w.toothErr + w.camErr * 2 ^ 16
  | 0x5014 => w.camAng.toNat
  | 0x5018 => w.secState + flagAt w.secAgree 2 + flagAt w.promoted 3 + w.secOfs.getD 0 * 2 ^ 16
  | 0x501C => whlQsStat s
  | _ => match window 0x5040 32 8 a with
    | some (n, o) => whlInWord s n o
    | none => 0

/-- The code of `LNS_STAT.MODE`. -/
def lensModeCode : LensMode → Nat
  | .none => 0
  | .period => 1
  | .run => 2
  | .hold => 3
  | .overdue => 4
  | .reverse => 5

/-- `LNS_STAT`. -/
def lnsStat (s : State) : Nat :=
  let l := s.lns
  lensModeCode l.mode + flagAt (l.k != 0) 3 + flagAt l.accClamp 4 + flagAt (l.havePn && predClamped s) 5
    + l.mapMode * 2 ^ 6 + flagAt l.learn 8 + l.pause * 2 ^ 9 + l.k * 2 ^ 16

/-- One entry of `LNS_MAP`. -/
def mapHalf (s : State) (i : Nat) : Nat := if i < 2 * s.nTeeth then twos 16 (s.lns.map.get 0 i) else 0

/-- `LNS_TOOTH_PER` (R216). -/
def lnsToothPer (s : State) : Nat := sat 0xFFFFFFFF (q8Ns s.lns.pn).toNat

/-- `LNS_ACC` (R216). -/
def lnsAcc (s : State) : Nat := twos 32 (q8Ns s.lns.acc)

/-- `LNS_SWEEP` (R218). -/
def lnsSweep (s : State) : Nat := s.lns.sweepLast + s.lns.sweeps * 2 ^ 16

/-- The LNS block. -/
def lnsWord (s : State) (a : Nat) : Nat :=
  let l := s.lns
  match a with
  | 0x6004 => lnsStat s
  | 0x6020 => lnsToothPer s
  | 0x6024 => if l.havePn then sat 0xFFFFFFFF (q8Ns (pred s 0)).toNat else 0
  | 0x6028 => lnsAcc s
  | 0x602C => l.speed
  | 0x6030 => l.spdLo + l.spdHi * 2 ^ 16
  | 0x6034 => lnsSweep s
  | 0x6038 => l.overdues + l.stalls * 2 ^ 16
  | 0x603C => sat 2048 l.learnedSet.length + flagAt l.restored 12 + flagAt l.restoreFail 13 + flagAt l.unsaved 14
      + l.clamps * 2 ^ 16
  | _ => if 0x6800 ≤ a ∧ a < 0x7800 then
      mapHalf s ((a - 0x6800) / 2) + mapHalf s ((a - 0x6800) / 2 + 1) * 2 ^ 16
    else 0

/-! ## EVS (R253 to R256) -/

/-- A slot is live: states 1 to 5. -/
def live (e : Event) : Bool := unstarted e || e.state == .running

/-- `EVS_STAT`. -/
def evsStat (s : State) : Nat :=
  (nearSlots s).length + (slotsWhere s live).length * 2 ^ 16 + flagAt s.flt.safe 30 + flagAt s.evs.hold 31

/-- The EVS block. -/
def evsWord (s : State) (a : Nat) : Nat :=
  let e := s.evs
  match a with
  | 0x8000 => evsStat s
  | 0x8004 => e.cycle
  | 0x8010 => s.horizonNs + s.aimWindow * 2 ^ 16
  | 0x8014 => e.seq
  | 0x8018 => e.ins
  | 0x801C => e.dropWr
  | 0x8020 => e.drops
  | 0x8024 => e.refuse
  | 0x8028 => e.cancels
  | 0x802C => e.tblFull + e.nearFull * 2 ^ 16
  | 0x8030 => e.passes + e.restarts * 2 ^ 16
  | 0x8034 => e.corr + e.uncorr * 2 ^ 16 + sat 255 (slotsWhere s (fun x => x.state == .quarantined || x.bad)).length * 2 ^ 24
  | 0x8038 => e.cur.fired + e.cur.late * 2 ^ 16
  | 0x803C => e.cur.gate + e.cur.energy * 2 ^ 16
  | 0x8040 => e.cur.other
  | 0x8044 => maskOf 32 (edgeBusy s)
  | 0x8048 => maskOf 32 (fun i => edgeBusy s (i + 32))
  | _ => 0

/-! ## ACT and DIA (R348 to R350, R367 to R370) -/

/-- `ACT_CH_STAT.PHASE`; 5 during an off-state test. -/
def phaseCode (s : State) (k : Nat) : Nat :=
  match (s.chan k).phase with
  | .idle => if (s.dch k).test.isSome then 5 else 0
  | .peak => 1
  | .transition => 2
  | .steep => 3
  | .turnOff => 4

/-- `ACT_BANK_STAT` (R350). -/
def bankStat (s : State) (b : Nat) : Nat :=
  let x := s.bank b
  let boost := (List.range 8).find? (fun i => holdsRail s .boost (8 * b + i))
  flagAt x.banked 0 + flagAt x.draining 1 + boost.getD 0 * 2 ^ 2 + flagAt boost.isSome 5
    + maskOf 8 (fun i => holdsRail s .battery (8 * b + i)) * 2 ^ 8 + x.iSum * 2 ^ 16

/-- The code of a Kettle state (R334). -/
def ktCode : KtState → Nat
  | .off => 0
  | .charging => 1
  | .ready => 2
  | .lowering => 3
  | .fault => 4
  | .bleed => 5

/-- `ACT_KT_STAT` (R350). -/
def ktStat (s : State) (k : Nat) : Nat :=
  let q := s.kettle k
  ktCode q.state + flagAt (s.sys.mode == .run && decide (q.chgW < s.ktChgMax k * 10)) 3 + sat 255 q.chgW * 2 ^ 4 + q.target * 2 ^ 12
    + sat 2047 (q.res / 10) * 2 ^ 21

/-- The registers of a channel's window. -/
def actWord (s : State) (k o : Nat) : Nat :=
  let c := s.chan k
  let b := bankOf k
  if s.channels ≤ k then 0
  else match o with
    | 0x00 => phaseCode s k + flagAt (edgeBusy s k) 3 + c.lastEnd * 2 ^ 4 + flagAt c.peakOk 8 + flagAt c.slipped 9
        + flagAt c.extRefused 10 + c.seq * 2 ^ 16
    | 0x04 => c.prof + c.peakSel * 2 ^ 8 + flagAt c.steepFeed 10 + flagAt c.prop 11
        + sat 65535 (ceilDiv c.ext 1000) * 2 ^ 16
    | 0x08 => c.current + c.lastPeak * 2 ^ 16
    | 0x0C => c.setpt
    | 0x14 => c.peakTmo + c.extRef * 2 ^ 8 + c.extWhy * 2 ^ 16 + c.terms * 2 ^ 24
    | 0x30 => bankStat s b
    | 0x34 => (s.bank b).arbDrops + (s.bank b).slips * 2 ^ 16
    | 0x38 => ktStat s (ktOf b)
    | 0x3C => ktShown s (ktOf b) + (s.kettle (ktOf b)).capUf * 2 ^ 16
    | _ => 0

/-- The registers of a channel's diagnostics. -/
def diaChWord (s : State) (k o : Nat) : Nat :=
  let h := s.dch k
  let c := h.cfg
  if s.channels ≤ k then 0
  else match o with
    | 0x00 => flagAt c.en 0 + flagAt c.pol 1 + flagAt c.range 2 + c.f * 2 ^ 3 + c.d * 2 ^ 8 + c.kth * 2 ^ 16
    | 0x04 => c.winStart + c.winLen * 2 ^ 12 + c.dec * 2 ^ 24
    | 0x08 => flagAt h.offEn 0 + flagAt h.openEn 1 + h.tOpen * 2 ^ 16
    | 0x0C => h.last + flagAt h.disturbed 3
    | 0x10 => h.kinks + h.misses * 2 ^ 16 + h.busy * 2 ^ 24
    | 0x14 => h.off + flagAt h.offFlt 4 + flagAt h.onFlt 5 + h.onCode * 2 ^ 8
    | 0x18 => h.offTests + h.offFaults * 2 ^ 16 + h.onFaults * 2 ^ 24
    | 0x1C => h.vh + h.vl * 2 ^ 16
    | _ => 0

/-- The registers of a digitiser. -/
def diaDgWord (s : State) (b o : Nat) : Nat :=
  let d := s.dgt b
  if s.banks ≤ b then 0
  else match o with
    | 0x00 => flagAt d.capture.isSome 0 + d.ch * 2 + d.trseq * 2 ^ 16
    | 0x0C => d.count + d.dec * 2 ^ 11 + d.detIdx * 2 ^ 16
    | 0x10 => d.captures + d.busyMiss * 2 ^ 16
    | _ => 0

/-- The DIA block. -/
def diaWord (s : State) (a : Nat) : Nat :=
  match a with
  | 0xAC00 => s.dia.recWr
  | 0xAC04 => s.dia.corr + s.dia.uncorr * 2 ^ 16
  | _ => match window 0xA000 32 64 a, window 0xA800 32 8 a with
    | some (k, o), _ => diaChWord s k o
    | _, some (b, o) => diaDgWord s b o
    | _, _ => 0

/-! ## SEQ, MMU and DMA (R315 to R318) -/

/-- The code of a context state (R295). -/
def ctxCode : CtxState → Nat
  | .empty => 0
  | .idle => 1
  | .ready => 2
  | .issuing => 3
  | .parked => 4
  | .halted => 5

/-- The registers of a context (R316). -/
def ctxWord (s : State) (i o : Nat) : Nat :=
  let c := s.ctx i
  match o with
  | 0x0 => ctxCode c.state + flagAt c.fh 3 + c.prioNow * 2 ^ 4
      + (s.latchBits i).toNat * 2 ^ 8
      + (if c.state = .halted then c.fpc else c.pc).toNat * 2 ^ 16
  | 0x4 => c.cause + c.haltBy * 2 ^ 4 + c.faults * 2 ^ 8 + c.fpc.toNat * 2 ^ 16
  | 0x8 => c.faddr.toNat
  | 0xC => c.acts + c.overruns * 2 ^ 16 + flagAt c.pending 24 + c.lastTrig * 2 ^ 25
  | _ => 0

/-- The registers of a sequencer. -/
def seqWord (s : State) (q o : Nat) : Nat :=
  let x := s.sq q
  let is := fun (p : CtxState → Bool) => maskOf 8 (fun i => p (s.ctx (8 * q + i)).state)
  match o with
  | 0x00 => is (fun t => t == .ready || t == .issuing) + is (fun t => t == .halted) * 2 ^ 8
      + maskOf 8 (fun i => (s.task (8 * q + i)).isSome) * 2 ^ 16
  | 0x04 => x.sigVal.toNat
  | 0x08 => x.mbxSeq.toNat
  | 0x0C => x.notices.length + x.nloss * 2 ^ 16
  | _ => if 0x80 ≤ o then ctxWord s (8 * q + (o - 0x80) / 16) (o % 16) else 0

/-- The code of `DMA_STAT.STATE`. -/
def dmaCode : DmaPhase → Nat
  | .idle => 0
  | .load | .move => 1
  | .done => 2
  | .faulted => 3

/-- The registers of a DMA channel. -/
def dmaWord (s : State) (c o : Nat) : Nat :=
  let d := s.dmaCh c
  match o with
  | 0x00 => dmaCode d.phase + d.cause * 2 ^ 2 + sat 255 d.chain * 2 ^ 8 + d.runs * 2 ^ 16
  | 0x04 => d.desc % 2 ^ 24
  | 0x08 => d.bytes
  | 0x0C => d.faddr % 2 ^ 24
  | 0x10 => d.ownQ + d.ownS * 2 ^ 4
  | _ => 0

/-- The MMU and DMA block. -/
def mmuWord (s : State) (a : Nat) : Nat :=
  match a with
  | 0xC000 => s.dma.corr + s.dma.uncorr * 2 ^ 16
  | 0xC004 => s.dma.eccAddr % 2 ^ 24
  | 0xC008 => s.dma.segflt
  | _ => match window 0xC800 32 16 a with
    | some (c, o) => dmaWord s c o
    | none => 0

/-! ## BGS and OBS (R454 to R456) -/

/-- A Caddy write is in progress (R455 CADDY_BUSY, R468). -/
def caddyBusy (s : State) : Bool :=
  !s.bgs.jobs.isEmpty || s.sec.envWrite.isSome || s.cfg.storing.isSome

/-- Scrub runs: from step 5 of the reset sequence, in RUN and STANDBY (R457). -/
def scrubRuns (s : State) : Bool :=
  s.supply.state != .down && match s.sys.mode with
    | .reset => decide (5 ≤ s.sys.step)
    | .run | .standby => true
    | _ => false

/-- `BGS_CAL` (R455). -/
def bgsCal (s : State) : Nat := s.ruler.taps.toNat + twos 8 s.ruler.corr * 2 ^ 16 + s.ruler.relocks * 2 ^ 24

/-- `BGS_CADDY` (R455). -/
def bgsCaddy (s : State) : Nat :=
  s.bgs.spare + s.bgs.refreshPos * 2 ^ 10 + sat 4095 ((s.etc - s.bgs.refreshBegan) / (3600 * ticksPerS)) * 2 ^ 20

/-- `BGS_CADDY_ERR` (R455). -/
def bgsCaddyErr (s : State) : Nat := s.bgs.rewrites + s.bgs.lost * 2 ^ 16

/-- `BGS_GUARD` (R455). -/
def bgsGuard (s : State) : Nat := s.bgs.guardScrub + s.bgs.guardCaddy * 2 ^ 16 + s.bgs.guardLog * 2 ^ 24

/-- The BGS block. -/
def bgsWord (s : State) (a : Nat) : Nat :=
  let g := s.bgs
  match a with
  | 0xD000 => flagAt (scrubRuns s) 0 + flagAt (s.ruler.phase == .locked) 1 + flagAt (s.ruler.phase == .holdover) 2
      + flagAt (caddyBusy s) 3 + flagAt (decide (g.refreshBegan + 2592000 * ticksPerS < s.etc)) 4
      + g.guardNow.toNat * 2 ^ 8
  | 0xD004 => g.scrubs
  | 0xD008 => g.scrubCorr + g.scrubUncorr * 2 ^ 16 + g.restored * 2 ^ 24
  | 0xD00C => g.scrubAddr % 2 ^ 24
  | 0xD010 => bgsCal s
  | 0xD014 => g.staleDg.toNat + g.capOor.toNat * 2 ^ 8
  | 0xD018 => word32 g.staleCh 0
  | 0xD01C => word32 g.staleCh 1
  | 0xD020 => bgsCaddy s
  | 0xD024 => g.wearMax
  | 0xD028 => bgsCaddyErr s
  | 0xD02C => g.logNext
  | 0xD030 => g.logLost
  | 0xD034 => sat 4095 (tailFill g.tail / 16) + s.logLevel * 2 ^ 12 + g.flushes * 2 ^ 16
  | 0xD038 => g.bseq
  | 0xD03C => bgsGuard s
  | _ => 0

/-- The OBS block. -/
def obsWord (s : State) (a : Nat) : Nat :=
  match a with
  | 0xE000 =>
    let e := s.mirrorEn % 4
    e + flagAt (e == 1 || e == 2) 2 + sat 256 s.obs.lane0.queue.length * 2 ^ 4 + sat 256 s.obs.lane1.queue.length * 2 ^ 16
  | 0xE004 => s.obs.lane0.sent
  | 0xE008 => s.obs.lane1.sent
  | 0xE00C => s.obs.lane0.lost + s.obs.lane1.lost * 2 ^ 16
  | _ => 0

/-! ## SEC (R480, R481) -/

/-- The byte of `SEC_LINK` of a link. -/
def secLinkByte (s : State) (l : LinkSt) : Nat :=
  sessionCode l.session + (match l.session with
    | .none => 0
    | .opening o => o.slot
    | .opened x => x.slot) * 2 ^ 2
    + flagAt (match l.lockUntil with
      | some t => decide (s.etc < t)
      | none => false) 6

/-- The operator slots that hold a certificate. -/
def slotMask (s : State) : Nat := maskOf 16 (fun i => (s.keys.slots.get none i).isSome)

/-- The SEC block; every register reads zero before step 5 of the reset sequence. -/
def secWord (s : State) (a : Nat) : Nat :=
  if !s.sec.regsUp then 0
  else match a with
    | 0xF000 => lifeCode s.keys.life + flagAt s.nv.ksFail 2 + flagAt s.sec.envelope.isSome 3 + flagAt (strapped s) 4
        + flagAt s.sec.release.isSome 5 + flagAt s.sec.entropyFail 6
    | 0xF004 => s.keys.ogen
    | 0xF008 => s.keys.forced
    | 0xF00C => releaseMinutes s
    | 0xF028 => s.nv.secFail
    | 0xF02C => secLinkByte s s.links.spi + secLinkByte s s.links.can0 * 2 ^ 8 + secLinkByte s s.links.can1 * 2 ^ 16
    | 0xF030 => leAt (ownerId s) 0 4
    | 0xF034 => leAt (ownerId s) 4 4
    | 0xF038 => slotMask s
    | _ => 0

/-! ## Counters read by snapshot (R9, R10) -/

/-- The pair of a timer at an offset. -/
def timerPair (s : State) (n o : Nat) : Option Nat :=
  if o = 0x14 then some (s.timer n).captEtc else if o = 0x24 then some (s.timer n).start else none

/-- The pair of a channel's window at an offset. -/
def actPair (s : State) (k o : Nat) : Option Nat :=
  let c := s.chan k
  if s.channels ≤ k then none
  else match o with
    | 0x18 => some c.start
    | 0x20 => some c.shots
    | 0x28 => some c.eboost
    | _ => none

/-- The pairs of the arrays of windows. -/
def windowPair (s : State) (a : Nat) : Option Nat :=
  match window 0x3000 0x40 24 a, window 0x4000 0x80 8 a, window 0x4400 0x80 4 a with
  | some (n, o), _, _ => timerPair s n o
  | _, some (n, o), _ => if o = 0x2C then some (s.ebU n).boundary else none
  | _, _, some (k, o) => if o = 0x3C ∧ k < s.kettles then some (s.kcU k).boundary else none
  | _, _, _ =>
    match window 0x5040 32 8 a, window 0x9000 64 64 a, window 0xA800 32 8 a with
    | some (n, o), _, _ => if o = 0 then some (s.wheel n).stamp else none
    | _, some (k, o), _ => actPair s k o
    | _, _, some (b, o) => if o = 4 ∧ b < s.banks then some (s.dgt b).trEtc else none
    | _, _, _ => none

/-- The counter whose low word stands at an address. -/
def pairAt (s : State) (a : Nat) : Option Nat :=
  match a with
  | 0x28 => some s.etc
  | 0x203C => some s.flt.first.etc
  | 0x2048 => some s.flt.last.etc
  | 0x2054 => some s.flt.safeEtc
  | 0x5008 => some s.whl.lastEtc
  | 0x5020 => some s.whl.qs.seq
  | 0x6010 => some s.lns.tOpen
  | 0x6018 => some s.lns.pn
  | 0x8008 => some s.evs.boundaryEtc
  | 0xF010 => if s.sec.regsUp then some s.keys.oseq else none
  | 0xF018 => if s.sec.regsUp then some (envSeq (envNow s)) else none
  | 0xF020 => if s.sec.regsUp then some s.keys.floor else none
  | _ => windowPair s a

/-- A requester's number in the snapshot tables. -/
def reqNum : Requester → Nat
  | .host => 0
  | .ctx q p => 1 + 8 * q.val + p.val
  | .dma c => 129 + c.val
  | .core => 145

/-! ## Reads -/

/-- A register word that is not read by snapshot, by block (R477). -/
def plainWord (s : State) (a : Nat) : Nat :=
  match a / 4096 with
  | 0 => sysWord s a
  | 1 => ircWord s a
  | 2 => fltWord s a
  | 3 => timWord s a
  | 4 => pwmWord s a
  | 5 => whlWord s a
  | 6 | 7 => lnsWord s a
  | 8 => evsWord s a
  | 9 => match window 0x9000 64 64 a with
    | some (k, o) => actWord s k o
    | none => 0
  | 10 => diaWord s a
  | 11 => match window 0xB000 0x100 16 a with
    | some (q, o) => seqWord s q o
    | none => 0
  | 12 => mmuWord s a
  | 13 => bgsWord s a
  | 14 => obsWord s a
  | 15 => secWord s a
  | _ => 0

/-- The word a requester reads at an aligned register address (R9, R10, R216). -/
def regWord (r : Requester) (a : Nat) (s : State) : Word :=
  if a = 0x6000 then lensWord s
  else if a = 0x6008 then s.snaps.angLo.get 0 (reqNum r)
  else if a = 0x600C then s.snaps.angHi.get 0 (reqNum r)
  else match pairAt s a, (if 4 ≤ a then pairAt s (a - 4) else none) with
    | some v, _ => BitVec.ofNat 32 v
    | none, some _ => s.snaps.high.get 0 (reqNum r * 65536 + a)
    | none, none => BitVec.ofNat 32 (plainWord s a)

/-- The snapshot a read leaves: a low word latches its high word, `LNS_ANGLE` latches the instant (R9, R216)
(DEDUCED, log 71). -/
def regLatch (r : Requester) (a : Nat) (s : State) : State :=
  if a = 0x6000 then
    { s with snaps := { s.snaps with
      angLo := s.snaps.angLo.set 0 (reqNum r) (BitVec.ofNat 32 s.etc)
      angHi := s.snaps.angHi.set 0 (reqNum r) (BitVec.ofNat 32 (s.etc / 2 ^ 32)) } }
  else match pairAt s a with
    | some v => { s with snaps.high := s.snaps.high.set 0 (reqNum r * 65536 + (a + 4)) (BitVec.ofNat 32 (v / 2 ^ 32)) }
    | none => s

/-- SNAPSHOT_READ: a read of a register by a requester (R9, R475); one at an address that is no multiple of 4 is ignored
(R124). -/
def doSnapshotRead (r : Requester) (a : Nat) (s : State) : State :=
  if a < 0x10000 ∧ a % 4 = 0 then regLatch r a s else s

/-- LNS_ANGLE_READ: a read of `LNS_ANGLE` by a requester (R216). -/
def doLnsAngleRead (r : Requester) (s : State) : State := regLatch r 0x6000 s

end Sys2Proof.Machine
end

