-- ==== Sys2Proof/Machine/Memory.lean ====
section
/-! DEFINITION. The addressable memories (16_register_address_map.md R473): regions, descriptor words as they read,
and the error accounts of program, data and capture memory (09_tasks_memory_dma_faults.md R306). -/

namespace Sys2Proof.Machine

/-- The regions of R473. -/
inductive Region where
  | registers | eventTable | dropRing | program | data | trace | closing | captureReserved | unmapped
  deriving DecidableEq, Repr

/-- The region of an address (R473). -/
def regionOf (a : Nat) : Region :=
  if a < 0x10000 then .registers
  else if 0x100000 ≤ a ∧ a < 0x120000 then .eventTable
  else if 0x120000 ≤ a ∧ a < 0x128000 then .dropRing
  else if 0x200000 ≤ a ∧ a < 0x240000 then .program
  else if 0x400000 ≤ a ∧ a < 0x480000 then .data
  else if 0x600000 ≤ a ∧ a < 0x604000 then .trace
  else if 0x610000 ≤ a ∧ a < 0x620000 then .closing
  else if 0x600000 ≤ a ∧ a < 0x640000 then .captureReserved
  else .unmapped

/-- The code of a slot state (R219). -/
def evCode : EvState → Nat
  | .free => 0
  | .waiting => 1
  | .near => 2
  | .committing => 3
  | .armed => 4
  | .running => 5
  | .quarantined => 6

/-- The state of a slot as its descriptor shows it (R219, R220): COMMITTING until the edge unit is armed, QUARANTINED
where a word of the slot is lost. -/
def stateShown (s : State) (e : Event) : EvState :=
  if e.bad then .quarantined
  else if e.state = .armed ∧ s.etc < e.armAt then .committing
  else e.state

/-- Word `w` of a descriptor (R222). -/
def slotWord (s : State) (e : Event) (w : Nat) : Word :=
  match w with
  | 0 => e.target
  | 1 => BitVec.ofNat 32 (e.ch + e.prof * 2 ^ 8 + e.ctag * 2 ^ 16 + flagAt e.next 24 + flagAt e.sigStart 25)
  | 2 => BitVec.ofNat 32 (twos 16 e.ont + e.user * 2 ^ 16)
  | _ => BitVec.ofNat 32 (e.seq + evCode (stateShown s e) * 2 ^ 16 + e.owner * 2 ^ 20)

/-- The word at an aligned address of the memory regions; the reserved capture memory reads zero (R473). -/
def readWord (s : State) (a : Nat) : Word :=
  match regionOf a with
  | .eventTable => slotWord s (s.slot ((a - 0x100000) / 16)) (a / 4 % 4)
  | .dropRing | .program | .data | .trace | .closing => s.memWord a
  | _ => 0

/-- The aligned word at `a` now reads with an uncorrectable error. -/
def isBad (s : State) (a : Nat) : Bool := s.mem.bad.get false a

/-- What a read of the word at `a` finds: a word already uncorrectable stays so (R306). -/
def eccAt (s : State) (a : Nat) (e : Ecc) : Ecc := if isBad s a then .uncorrectable else e

/-- The word is uncorrectable from now on; its fault source is raised once for it (R306). -/
def markBad (a source : Nat) (s : State) : State :=
  let known := s.mem.reported.get false a
  let s := { s with mem := { s.mem with
    bad := s.mem.bad.set false a true, reported := s.mem.reported.set false a true } }
  if known then s else fault source s

/-- An uncorrectable error is found in the word at `a` (R306, R317, R370): counted, and reported to the fault
collector. -/
def eccFound (a : Nat) (s : State) : State :=
  match regionOf a with
  | .program | .data =>
    markBad a 56 { s with dma := { s.dma with uncorr := satInc 255 s.dma.uncorr, eccAddr := a } }
  | .trace | .closing | .captureReserved =>
    markBad a 78 { s with dia.uncorr := satInc 255 s.dia.uncorr }
  | .eventTable =>
    doEventTableEccError ((a - 0x100000) / 16) (.word ⟨a / 4 % 4, Nat.mod_lt _ (by decide)⟩) s
  | _ => s

/-- A corrected error is written back and counted (R306, R246, R370). -/
def eccFixed (a : Nat) (s : State) : State :=
  match regionOf a with
  | .program | .data => { s with dma.corr := satInc 65535 s.dma.corr }
  | .trace | .closing | .captureReserved => { s with dia.corr := satInc 65535 s.dia.corr }
  | .eventTable => { s with evs.corr := satInc 65535 s.evs.corr }
  | _ => s

/-- What a read of the word at `a` finds and counts (R306). -/
def eccRead (a : Nat) (e : Ecc) (s : State) : State :=
  match eccAt s a e with
  | .clean => s
  | .corrected => eccFixed a s
  | .uncorrectable => eccFound a s

/-- The word at `a` is good again (R306): restored or replaced. -/
def eccRestored (a : Nat) (s : State) : State :=
  { s with mem := { s.mem with bad := s.mem.bad.erase a, reported := s.mem.reported.erase a } }

end Sys2Proof.Machine
end

