-- ==== Sys2Proof/Machine/Caddy.lean ====
section
/-! DEFINITION. The Caddy (14_background_observation.md R435 to R439): its blocks, the spare pool, block writes with
their read-back, and the flush of the logbook (R437, R444). Logical blocks (DESIGN CHOICE, log 21): 0 to 63 and 64 to 127 the image
slots, 128 identity, 129 and 130 the key store, 131 and 132 the envelope, 133 to 138 the configuration block, 139 and
140 the quick-start record, 141 to 144 the Lens map, 145 to 176 the wear counter saves, 177 to 432 the logbook ring;
physical blocks 433 to 1,023 are the spare pool at delivery. -/

namespace Sys2Proof.Machine

/-! ## Blocks -/

/-- The physical block of a logical block (R436). -/
def physOf (s : State) (l : Nat) : Nat := if s.nv.blockOf.get 0 l = 0 then l else s.nv.blockOf.get 0 l - 1

/-- A physical block holds a logical block. -/
def mapped (s : State) (p : Nat) : Bool :=
  (decide (p < 433) && s.nv.blockOf.get 0 p == 0) || s.nv.blockOf.any (fun e => e.2 == p + 1)

/-- The logical block a physical block holds. -/
def logicalOf (s : State) (p : Nat) : Option Nat :=
  match s.nv.blockOf.find? (fun e => e.2 == p + 1) with
  | some e => some e.1
  | none => if p < 433 ∧ s.nv.blockOf.get 0 p = 0 then some p else none

/-- A block of the spare pool. -/
def isSpare (s : State) (p : Nat) : Bool := !s.nv.retired.get false p && !mapped s p

/-- The spare block with the lowest write count, the lowest number among equals (R436). -/
def bestSpare (s : State) : Option Nat :=
  (List.range 1024).foldl (fun a p =>
    if !isSpare s p then a
    else match a with
      | none => some p
      | some q => if s.nv.writes.get 0 p < s.nv.writes.get 0 q then some p else some q) none

/-- A block write is counted (R436, `BGS_CADDY_WEAR`). -/
def countWrite (p : Nat) (s : State) : State :=
  let n := s.nv.writes.get 0 p + 1
  { s with
    nv := { s.nv with writes := s.nv.writes.set 0 p n }
    bgs := { s.bgs with wearMax := max s.bgs.wearMax n, wroteAt := s.bgs.wroteAt.set 0 p s.etc, caddyAt := s.etc } }

/-- A write of logical block `l` has been read back: it moves to the best spare block, and the block it held returns
to the pool (R436). With no spare block left the logical block is written where it stands. -/
def blockWritten (l : Nat) (s : State) : State :=
  let p := (bestSpare s).getD (physOf s l)
  let s := countWrite p s
  { s with nv := { s.nv with
    blockOf := s.nv.blockOf.set 0 l (if p = l then 0 else p + 1), badBlocks := s.nv.badBlocks.erase l } }

/-- The write of several logical blocks has been read back. -/
def blocksWritten (l : List Nat) (s : State) : State := forEach l blockWritten s

/-- The older of two copies of a region is written next (R436); `base` is its first logical block, `n` its blocks. -/
def copyTurn (s : State) (base n : Nat) : List Nat :=
  let a := if s.nv.turn.get false base then base + n else base
  (List.range n).map (fun i => a + i)

/-- The other copy is the older one from now on. -/
def turnCopy (base : Nat) (s : State) : State :=
  { s with nv.turn := s.nv.turn.set false base (!s.nv.turn.get false base) }

/-- A region held in two copies is replaced by writing its older copy (R436). -/
def regionWritten (base n : Nat) (s : State) : State := turnCopy base (blocksWritten (copyTurn s base n) s)

/-- The CADDY entry of R443: block and action (1 rewritten, 2 retired, 3 lost, 4 write failed). -/
def logCaddy (block action : Nat) (s : State) : State := log 11 1 (leBytes 2 block ++ [BitVec.ofNat 8 action]) s

/-- A block that fails its read-back is retired (R439): source 221, and source 223 once below 16 spare blocks. -/
def retireBlock (s : State) : State :=
  match bestSpare s with
  | none => s
  | some p =>
    let s := { s with
      nv := { s.nv with retired := s.nv.retired.set false p true }
      bgs := { s.bgs with spare := s.bgs.spare - 1, rewrites := satInc 65535 s.bgs.rewrites } }
    let s := raise 221 (logCaddy p 2 s)
    if s.bgs.spare < 16 ∧ s.bgs.spareWarned = false then raise 223 { s with bgs.spareWarned := true } else s

/-- A Caddy write has failed both its attempts (R439): the content before it stands. -/
def writeFailed (block : Nat) (s : State) : State := fault 19 (logCaddy block 4 (retireBlock s))

/-! ## Jobs -/

/-- Where a save of the wear counters goes: 64 records of 2 KiB, two a block (R437). -/
def wearBlock (n : Nat) : Nat := 145 + n % 64 / 2

/-- The blocks of the ring that `n` bytes from position `p` touch (R435, R444). -/
def ringBlocks (p n : Nat) : List Nat :=
  if n = 0 then []
  else (List.range ((p % 4096 + n + 4095) / 4096)).map (fun i => 177 + (p / 4096 + i) % 256)

/-- The bytes of the first `k` entries of the tail. -/
def tailBytes (s : State) (k : Nat) : Nat := tailFill (s.bgs.tail.take k)

/-- Bytes 0 to 63 of a quick-start record (R176). -/
def QsRecord.body (r : QsRecord) : List Byte :=
  leBytes 4 0x53514C4B ++ leBytes 2 1 ++ leBytes 2 (flagAt r.usable 0 + flagAt r.revSeen 1) ++ leBytes 8 r.seq
    ++ leBytes 2 r.nTeeth ++ leBytes 1 r.gapMissing ++ leBytes 1 r.gapCount ++ leBytes 2 r.gapPos
    ++ leBytes 1 r.camMarks ++ zeros 1 ++ leBytes 4 r.zeroOfs ++ leBytes 2 r.nextPos ++ leBytes 1 r.nextRev
    ++ leBytes 1 r.lastDir ++ leBytes 8 r.stopEtc ++ leBytes 4 r.cycle ++ leBytes 2 r.revTeeth ++ zeros 2
    ++ leBytes 4 r.phaseAng.toNat ++ zeros 12

/-- The 96 bytes of a quick-start record (R176). -/
def QsRecord.bytes (r : QsRecord) : List Byte := r.body ++ beBytes 32 (quickstartMac r.body).toNat

/-- The fields of a stored quick-start record (R176). -/
def recordOf (b : List Byte) : QsRecord :=
  { usable := bitAt (leAt b 6 2) 0, revSeen := bitAt (leAt b 6 2) 1, seq := leAt b 8 8, nTeeth := leAt b 16 2
    gapMissing := leAt b 18 1, gapCount := leAt b 19 1, gapPos := leAt b 20 2, camMarks := leAt b 22 1
    zeroOfs := leAt b 24 4, nextPos := leAt b 28 2, nextRev := leAt b 30 1, lastDir := leAt b 31 1
    stopEtc := leAt b 32 8, cycle := leAt b 40 4, revTeeth := leAt b 44 2
    phaseAng := BitVec.ofNat 32 (leAt b 48 4) }

/-- MAGIC, FORMAT, the reserved bytes and the MAC of a stored quick-start record are right (R177). -/
def recordSound (b : List Byte) : Bool :=
  b.length == 96 && leAt b 0 4 == 0x53514C4B && leAt b 4 2 == 1 && decide (leAt b 6 2 < 4) && leAt b 23 1 == 0
    && leAt b 46 2 == 0 && allZero (slice b 52 12) && beNat (slice b 64 32) == (quickstartMac (b.take 64)).toNat

/-- The copy of the quick-start record written next: the one with the lower QS_SEQ (R178). -/
def recordCopy (s : State) : Bool :=
  if s.nv.qs0 = [] then false
  else s.nv.qs1 = [] || decide ((recordOf s.nv.qs1).seq < (recordOf s.nv.qs0).seq)

/-- The logical blocks a job writes. -/
def jobBlocks (s : State) (j : CaddyJob) : List Nat :=
  match j with
  | .quickStart _ => [139 + (recordCopy s).toNat]
  | .lensMap => copyTurn s 141 2
  | .logFlush k => ringBlocks s.nv.ringPos (tailBytes s k)
  | .wearSave => [wearBlock s.nv.wearSeq]
  | .refresh b | .restore b => [b]

/-- The quick-start record's write completes (R175, R178): the record is in force, source 20 is raised; an edge
accepted since makes it unusable at once. -/
def recordWritten (r : QsRecord) (s : State) : State :=
  let c := recordCopy s
  let s := { s with
    nv := if c then { s.nv with qs1 := r.bytes } else { s.nv with qs0 := r.bytes }
    whl := if s.whl.qs.seq < r.seq then { s.whl with qs := r, qsCopy := c, qsUnwatched := false } else s.whl }
  if r.usable then
    let s := raise 20 s
    if s.whl.qsMoved then qsInvalidate 4 s else s
  else s

/-- The content of a saved Lens map that its HMAC covers: the geometry fields, then the entries (R207; the order is a
DESIGN CHOICE, log 101). -/
def mapBody (map : Table Int) (nTeeth gapMissing gapCount gapPos camMarks zeroOfs : Nat) : List Byte :=
  leBytes 2 nTeeth ++ leBytes 1 gapMissing ++ leBytes 1 gapCount ++ leBytes 2 gapPos ++ leBytes 1 camMarks
    ++ leBytes 4 zeroOfs ++ (List.range (2 * nTeeth)).flatMap (fun i => leBytes 2 (twos 16 (map.get 0 i)))

/-- The Lens map as it is saved, under K_QS (R207). -/
def mapSaved (s : State) : SavedMap :=
  { map := s.lns.map, nTeeth := s.nTeeth, gapMissing := s.gapMissing, gapCount := s.gapCount, gapPos := s.gapPos
    camMarks := s.camMarks, zeroOfs := s.zeroOfs
    mac := quickstartMac (mapBody s.lns.map s.nTeeth s.gapMissing s.gapCount s.gapPos s.camMarks s.zeroOfs) }

/-- The HMAC of a saved map verifies (R207). -/
def SavedMap.sound (m : SavedMap) : Bool :=
  m.mac == quickstartMac (mapBody m.map m.nTeeth m.gapMissing m.gapCount m.gapPos m.camMarks m.zeroOfs)

/-- Give the entries of a flush their places in the ring. -/
def placeEntries (p : Nat) : List LogEntry → List (Nat × LogEntry)
  | [] => []
  | e :: r => (p, e) :: placeEntries (p + 48 + e.body.length) r

/-- The first `k` entries of the tail are in the ring, over the oldest ones (R444). -/
def tailWritten (k : Nat) (s : State) : State :=
  let fin := s.nv.ringPos + tailBytes s k
  let ring := s.nv.ring ++ placeEntries s.nv.ringPos (s.bgs.tail.take k)
  { s with
    nv := { s.nv with ring := ring.filter (fun e => decide (fin ≤ e.1 + 1048576)), ringPos := fin }
    bgs := { s.bgs with tail := s.bgs.tail.drop k } }

/-- The shot and boost-energy counters of every channel (R437). -/
def wearNow (s : State) : List (Nat × Nat) := (List.range 64).map (fun k => ((s.chan k).shots, (s.chan k).eboost))

/-- A save of the wear counters in its 2 KiB record (R437): the sequence, the counters and the CRC over them. -/
def wearBytes (n : Nat) (l : List (Nat × Nat)) : List Byte :=
  let b := leBytes 8 n ++ l.flatMap (fun e => leBytes 8 e.1 ++ leBytes 8 e.2) ++ zeros 1012
  b ++ leBytes 4 (crc32 b)

/-- A saved record is valid (R437): its CRC fits, and its block reads well. -/
def wearSound (s : State) (b : List Byte) : Bool :=
  b.length == 2048 && leAt b 2044 4 == crc32 (b.take 2044) && !s.nv.badBlocks.get false (wearBlock (leAt b 0 8))

/-- The counters a record holds (R437). -/
def wearOf (b : List Byte) : List (Nat × Nat) := (List.range 64).map (fun k => (leAt b (8 + 16 * k) 8, leAt b (16 + 16 * k) 8))

/-- A valid record for the current stop has been written (R50). -/
def recordStands (s : State) : Bool :=
  s.whl.qs.usable && s.whl.sync == .nosync && s.whl.qs.stopEtc == s.whl.lastEdge && !s.whl.qsMoved

/-- The flush of a HOLDUP is over, written or failed: step 5 of R50 follows. -/
def flushOver (s : State) : State :=
  if s.supply.state = .holdup ∧ s.supply.holdupSteps = 4 then
    let s := { s with supply.holdupSteps := 6 }
    if recordStands s then s
    else
      let s := qsInvalidate 2 s
      { s with whl.qsInval := 2 }
  else s

/-- The wear counters are saved, which completes a flush (R437, R444). -/
def wearSaved (s : State) : State :=
  let s := { s with
    nv := { s.nv with wear := (wearBytes s.nv.wearSeq (wearNow s) :: s.nv.wear).take 64, wearSeq := s.nv.wearSeq + 1 }
    bgs := { s.bgs with flushes := wrapInc 16 s.bgs.flushes } }
  flushOver (raise 226 s)

/-- What a job has changed once all its blocks are written. -/
def jobDone (j : CaddyJob) (s : State) : State :=
  match j with
  | .quickStart r => recordWritten r s
  | .lensMap => raise 40 (turnCopy 141 { s with nv.map := some (mapSaved s), lns.unsaved := false })
  | .logFlush k => tailWritten k s
  | .wearSave => wearSaved s
  | .refresh b => logCaddy b 1 { s with bgs := { s.bgs with
      rewrites := satInc 65535 s.bgs.rewrites, guardNow := s.bgs.guardNow &&& 0xB#4 } }
  | .restore b => raise 221 (logCaddy b 1 { s with bgs := { s.bgs with
      rewrites := satInc 65535 s.bgs.rewrites, guardNow := s.bgs.guardNow &&& 0xB#4 } })

/-- The first job leaves the queue. -/
def popJob (s : State) : State := { s with bgs := { s.bgs with jobs := s.bgs.jobs.drop 1, jobDone := 0, retried := false } }

/-- A block of the first job is read back (R436, R439): the map follows a success; the first failure retires the
block and is retried on another spare block, the second ends the write. -/
def jobStep (ok : Bool) (j : CaddyJob) (s : State) : State :=
  let l := jobBlocks s j
  let b := l.getD s.bgs.jobDone 0
  if ok then
    let s := blockWritten b s
    if s.bgs.jobDone + 1 < l.length then { s with bgs := { s.bgs with jobDone := s.bgs.jobDone + 1, retried := false } }
    else jobDone j (popJob s)
  else if s.bgs.retried then
    match j with
    | .wearSave => flushOver (popJob (writeFailed b s))
    | _ => popJob (writeFailed b s)
  else { retireBlock s with bgs := { (retireBlock s).bgs with retried := true } }

/-- CADDY_WRITE_COMPLETE: a block write of the Caddy is read back (R436, R439). -/
def doCaddyWriteComplete (ok : Bool) (s : State) : State :=
  match s.bgs.jobs with
  | j :: _ => jobStep ok j s
  | [] => s

/-! ## The flush (R444) -/

/-- Step 1 of R444: the LOSS entry of earlier losses, written ahead of the tail, source 227. -/
def flushLoss (s : State) : State :=
  if s.bgs.lostRun = 0 then s
  else
    let s := logPut 17 (leBytes 4 s.bgs.lostRun ++ zeros 12) { s with bgs.lostRun := 0 }
    let t := s.bgs.tail
    raise 227 { s with bgs.tail := t.drop (t.length - 1) ++ t.take (t.length - 1) }

/-- The HEAD over the last entry written (R108, R443, R444); with DIK destroyed none can be signed (R83) (DEDUCED, log
93). -/
def flushHead (s : State) : State :=
  if s.bgs.logNext = s.bgs.headAt ∨ s.nv.keys.destroyed = true then s
  else
    let body := leBytes 4 0x484C4C4B ++ leBytes 4 ((s.bgs.logNext + 2 ^ 32 - 1) % 2 ^ 32) ++ leBytes 8 s.etc
      ++ beBytes 32 s.bgs.lastHash.toNat
    let sig := Config.dikSign s.sec.signNext body
    let s := logPut 16 (body ++ beBytes 64 sig.toNat) { s with sec.signNext := s.sec.signNext + 1 }
    { s with bgs.headAt := s.bgs.logNext }

/-- A flush is in progress. -/
def flushing (s : State) : Bool := s.bgs.jobs.any (fun j => j == .wearSave)

/-- The flush begins (R444): LOSS, HEAD, then the tail and the wear counters go to the Caddy. -/
def startFlush (s : State) : State :=
  if flushing s then s
  else
    let s := flushHead (flushLoss s)
    let k := s.bgs.tail.length
    let s := if k = 0 then s else caddyJob (.logFlush k) s
    caddyJob .wearSave s

/-- The background services run (R457): from step 5 of the reset sequence, in RUN and STANDBY. -/
def serviceRuns (s : State) : Bool := scrubRuns s

/-- The management core processes or verifies a command (R427). -/
def coreBusy (s : State) : Bool :=
  s.sec.transfer.isSome || s.links.spi.req.isSome || s.links.can0.req.isSome || s.links.can1.req.isSome

/-- A telemetry batch or logbook flush that falls due while the core is busy is done in the service's guarded share,
and counted (R427, R428) (DEDUCED, log 96). -/
def logGuard (s : State) : State :=
  if coreBusy s then { s with bgs.guardLog := satInc 255 s.bgs.guardLog } else s

/-- LOGBOOK_FLUSH: at every 10 s of ETC the module flushes the logbook (R444). -/
def doLogbookFlush (s : State) : State :=
  let n := s.etc / (10 * ticksPerS)
  if !serviceRuns s || decide (n ≤ s.bgs.flushSlot) then s
  else startFlush (logGuard { s with bgs.flushSlot := n })

/-! ## Retention refresh (R438, R439) -/

/-- The first logical block of the other copy of a block held in two copies, or `none` (R435). -/
def otherCopy (l : Nat) : Option Nat :=
  if l = 129 ∨ l = 131 ∨ l = 139 then some (l + 1)
  else if l = 130 ∨ l = 132 ∨ l = 140 then some (l - 1)
  else if 133 ≤ l ∧ l ≤ 135 then some (l + 3)
  else if 136 ≤ l ∧ l ≤ 138 then some (l - 3)
  else if l = 141 ∨ l = 142 then some (l + 2)
  else if l = 143 ∨ l = 144 then some (l - 2)
  else none

/-- An uncorrectable block has no intact copy: its content is lost, source 224 (R439). -/
def blockLost (l : Nat) (s : State) : State :=
  let s := { s with nv.badBlocks := s.nv.badBlocks.set false l true }
  let s := if l < 64 ∧ s.sys.running ≠ some .a then { s with nv.imgA := {} }
    else if 64 ≤ l ∧ l < 128 ∧ s.sys.running ≠ some .b then { s with nv.imgB := {} }
    else if 177 ≤ l ∧ l < 433 then
      { s with nv.ring := s.nv.ring.filter (fun e =>
        !(ringBlocks e.1 (48 + e.2.body.length)).contains l) }
    else s
  raise 224 (logCaddy l 3 s)

/-- An uncorrectable block is found (R439). -/
def blockBad (l : Nat) (s : State) : State :=
  let s := { s with bgs.lost := satInc 65535 s.bgs.lost }
  match otherCopy l with
  | some m => if s.nv.badBlocks.get false m then blockLost l s else caddyJob (.restore l) s
  | none => blockLost l s

/-- The refresh reads a block: it is rewritten when it shows 2 or more corrected bits or has not been written for
365 days (R438). -/
def refreshRead (p : Nat) (r : BlockRead) (s : State) : State :=
  match logicalOf s p with
  | none => s
  | some l =>
    match r with
    | .uncorrectable => blockBad l s
    | .bits n =>
      if 2 ≤ n ∨ s.bgs.wroteAt.get 0 p + 31536000 * ticksPerS ≤ s.etc then caddyJob (.refresh l) s else s

/-- The step falls due (R438): the port idle for 100 ms and 60 s since the last block, the guard after 40 min, or a new
pass that a start begins at once. -/
def refreshDue (s : State) : Bool :=
  s.bgs.refreshNow || decide (s.bgs.refreshAt + 2400 * ticksPerS ≤ s.etc)
    || (!caddyBusy s && decide (s.bgs.caddyAt + 100 * ticksPerMs ≤ s.etc)
      && decide (s.bgs.refreshAt + 60 * ticksPerS ≤ s.etc))

/-- RETENTION_REFRESH_STEP: the refresh reads the next Caddy block (R438); the end of a pass raises source 222. -/
def doRetentionRefreshStep (r : BlockRead) (s : State) : State :=
  if !(serviceRuns s && s.supply.state != .holdup && refreshDue s) then s
  else
    let forced := decide (s.bgs.refreshAt + 2400 * ticksPerS ≤ s.etc)
    let before := s.bgs.jobs.length
    let s := refreshRead s.bgs.refreshPos r s
    let p := (s.bgs.refreshPos + 1) % 1024
    let s := { s with bgs := { s.bgs with
      refreshAt := s.etc, refreshPos := p, refreshNow := false
      guardCaddy := if forced then satInc 255 s.bgs.guardCaddy else s.bgs.guardCaddy
      guardNow := if forced && decide (before < s.bgs.jobs.length) then s.bgs.guardNow ||| 4#4 else s.bgs.guardNow } }
    if p = 0 then raise 222 { s with bgs := { s.bgs with refreshBegan := s.bgs.passBegan, passBegan := s.etc } } else s

end Sys2Proof.Machine
end

