-- ==== Sys2Proof/Machine/Background.lean ====
section
/-! DEFINITION. The background services (14_background_observation.md): memory scrub (R429 to R431), calibration
(R432, R433), telemetry (R440, R441) and the Mirror port (R446 to R449). -/

namespace Sys2Proof.Machine

/-! ## Memory scrub -/

/-- The number of a scrub region. -/
def regionIdx : ScrubRegion → Nat
  | .program => 0
  | .data => 1
  | .capture => 2
  | .eventTable => 3
  | .dropRing => 4
  | .nearStore => 5
  | .envelope => 6
  | .config => 7
  | .collector => 8

/-- The words a scrubber reads in its region (R429): capture memory the trace buffers, then the record ring; the
near-set store one access a member; the configuration both copies; the collector the words of `collectorWords`
(DESIGN CHOICE, log 22). -/
def scrubWords : ScrubRegion → Nat
  | .program => 65536
  | .data => 131072
  | .capture => 20480
  | .eventTable => 32768
  | .dropRing => 8192
  | .nearStore => 512
  | .envelope => 544
  | .config => 4608
  | .collector => 96

/-- The address of the `p`-th word of a region; none for a region without addresses (R473). -/
def scrubAddr (g : ScrubRegion) (p : Nat) : Option Nat :=
  match g with
  | .program => some (0x200000 + 4 * p)
  | .data => some (0x400000 + 4 * p)
  | .capture => some (if p < 4096 then 0x600000 + 4 * p else 0x610000 + 4 * (p - 4096))
  | .eventTable => some (0x100000 + 4 * p)
  | .dropRing => some (0x120000 + 4 * p)
  | _ => none

/-- A region read through a memory port, whose scrubber has a guard of one word every 2 microseconds (R428). -/
def onPort : ScrubRegion → Bool
  | .program | .data | .capture | .eventTable | .dropRing | .nearStore => true
  | _ => false

/-- One word of an interrupt target reloads from its reset value (R422): enables, pending and active bits, and the
recorded levels of the active sources it held. -/
def reloadTarget (w : Nat) (g : IrcTarget) : IrcTarget :=
  let m : BitVec 256 := ~~~((0xFFFFFFFF#256) <<< (32 * (w % 8)))
  match w / 8 with
  | 0 => { g with en := g.en &&& m }
  | 1 => { g with pend := g.pend &&& m }
  | _ => { g with act := g.act &&& m, recLevel := Table.outside (32 * (w % 8)) 32 g.recLevel }

/-- The reserved fault sources, whose sticky bits read 0 (R417). -/
def reservedFaults : BitVec 96 :=
  (List.range 96).foldl (fun a n =>
    if n == 7 || n == 21 || decide (24 ≤ n ∧ n < 40) || decide (58 ≤ n ∧ n < 64) || n == 79 || decide (88 ≤ n) then
      a ||| BitVec.twoPow 96 n else a) 0

/-- Word `w` of the interrupt and fault collector state reloads from its reset value; sticky bits read 1 (R422).
The words (DESIGN CHOICE, log 22): 0 to 2 sticky, 3 to 5 pending, 6 to 37 levels, 38 to 61 HOST and 62 to 85 MGMT enable, pending and
active bits, 86 and 87 the thresholds, 88 the moderation, 89 and 90 `FLT_FIRST` and `FLT_LAST`, 91 `FLT_TOTAL`. -/
def reloadCollector (w : Nat) (s : State) : State :=
  let m : BitVec 96 := (0xFFFFFFFF#96) <<< (32 * (w % 3))
  if w < 3 then { s with flt.sticky := s.flt.sticky ||| (m &&& ~~~reservedFaults) }
  else if w < 6 then { s with flt.pend := s.flt.pend &&& ~~~m }
  else if w < 38 then { s with irc.levels := s.irc.levels.erase (w - 6) }
  else if w < 62 then { s with irc.host := reloadTarget (w - 38) s.irc.host }
  else if w < 86 then { s with irc.mgmt := reloadTarget (w - 62) s.irc.mgmt }
  else match w with
    | 86 => { s with irc.host.thr := 0 }
    | 87 => { s with irc.mgmt.thr := 0 }
    | 88 => { s with irc := { s.irc with modUs := 0, modCnt := 1, bypass := 0, idle := 0 } }
    | 89 => { s with flt.first := {} }
    | 90 => { s with flt.last := {} }
    | 91 => { s with flt.total := 0 }
    | _ => s

/-- The gate's copy of the envelope reads with an uncorrectable error (R98): check 1 fails until it is reloaded; the
error is reported to the fault collector. -/
def envCopyError (s : State) : State :=
  if s.sec.envBad || s.sec.envelope.isNone then s else fault 17 { s with sec.envBad := true }

/-- An uncorrectable word of a region is found (R431). -/
def scrubBad (g : ScrubRegion) (p : Nat) (otherOk : Bool) (s : State) : State :=
  let a := (scrubAddr g p).getD 0
  let s := { s with bgs := { s.bgs with
    scrubUncorr := satInc 255 s.bgs.scrubUncorr, scrubAddr := (scrubAddr g p).getD s.bgs.scrubAddr } }
  match g with
  | .program =>
    let s := eccFound a s
    if otherOk && s.sys.running.isSome then
      raise 217 (eccRestored a { s with bgs.restored := satInc 255 s.bgs.restored })
    else raise 224 s
  | .data | .capture => eccFound a (raise 216 s)
  | .eventTable =>
    doEventTableEccError (p / 4) (.word ⟨p % 4, Nat.mod_lt p (by decide)⟩) s
  | .dropRing => raise 216 (s.memWrite (a / 32 * 32) (zeros 32))
  | .nearStore =>
    match (nearSlots s)[p]? with
    | some i => doEventTableEccError i .nearStore s
    | none => s
  | .envelope => raise 236 (envCopyError s)
  | .config => raise 216 (if otherOk then s else fault 22 s)
  | .collector => fault 20 (reloadCollector p s)

/-- A correctable word is written back and counted (R430, R306, R246). -/
def scrubFixed (g : ScrubRegion) (p : Nat) (s : State) : State :=
  let s := { s with bgs.scrubCorr := satInc 65535 s.bgs.scrubCorr }
  match g with
  | .nearStore => { s with evs.corr := satInc 65535 s.evs.corr }
  | _ => match scrubAddr g p with
    | some a => eccFixed a s
    | none => s

/-- A QUARANTINED slot met in a pass is rewritten as a zero descriptor and becomes FREE (R431). -/
def freesQuarantined (g : ScrubRegion) (p : Nat) (s : State) : Bool :=
  g == .eventTable && (s.slot (p / 4)).state == .quarantined

/-- The memory port of a region: the drop ring shares the event table's (R428). -/
def portIdx (g : ScrubRegion) : Nat := if g = .dropRing then regionIdx .eventTable else regionIdx g

/-- The scrubber goes on to its next word; when every region has been passed, the pass is counted (R429). -/
def scrubNext (g : ScrubRegion) (s : State) : State :=
  let i := regionIdx g
  let p := s.bgs.scrubPos.get 0 i + 1
  let past := decide (scrubWords g ≤ p)
  let fin := if past then s.bgs.scrubDone.set false i true else s.bgs.scrubDone
  let all := fin.length == 9
  { s with bgs := { s.bgs with
    scrubPos := s.bgs.scrubPos.set 0 i (if past then 0 else p)
    scrubDone := if all then [] else fin
    scrubs := if all then wrapInc 32 s.bgs.scrubs else s.bgs.scrubs
    scrubAt := s.bgs.scrubAt.set 0 (portIdx g) s.etc } }

/-- The guard of a scrubber: its last access lies 2 microseconds back (R428) (DEDUCED, log 73). -/
def scrubGuard (g : ScrubRegion) (s : State) : State :=
  if onPort g && decide (s.bgs.scrubAt.get 0 (portIdx g) + 2 * ticksPerUs ≤ s.etc) then
    { s with bgs.guardScrub := satInc 255 s.bgs.guardScrub }
  else s

/-- The error found by a scrub access: a word of memory already uncorrectable stays so (R306). -/
def scrubEcc (s : State) (g : ScrubRegion) (p : Nat) (e : Ecc) : Ecc :=
  match scrubAddr g p with
  | some a => eccAt s a e
  | none => e

/-- SCRUB_ACCESS: the scrubber of a region reads its next word (R429 to R431); `otherOk` tells whether the Caddy
copy of a program word, or the other copy of a configuration word, is good. -/
def doScrubAccess (g : ScrubRegion) (e : Ecc) (otherOk : Bool) (s : State) : State :=
  if !scrubRuns s then s
  else
    let p := s.bgs.scrubPos.get 0 (regionIdx g)
    let frees := freesQuarantined g p s
    let s := scrubGuard g s
    let s := match scrubEcc s g p e with
      | .clean => s
      | .corrected => scrubFixed g p s
      | .uncorrectable => scrubBad g p otherOk s
    scrubNext g (if frees then s.setSlot (p / 4) {} else s)

/-! ## Calibration -/

/-- RULER_CALIBRATION: a new tap-to-tick map (R432); a correction above 10 ppm raises source 218. -/
def doRulerCalibration (taps : BitVec 10) (halfPpm : Int) (s : State) : State :=
  match s.ruler.phase with
  | .locked =>
    calReport (decide (20 < halfPpm) || decide (halfPpm < -20)) 77 218
      { s with ruler := { s.ruler with taps := taps, corr := clampInt (-128) 127 halfPpm } }
  | _ => s

/-- The number of a sense-chain item. -/
def itemIdx : SenseItem → Nat
  | .current k => k.val
  | .digitiser b => 64 + b.val
  | .kettle k => 72 + k.val
  | .inputStage => 76

/-- The item exists on the order code (R4, R5). -/
def itemPresent (s : State) : SenseItem → Bool
  | .current k => decide (k.val < s.channels)
  | .digitiser b => decide (b.val < s.banks)
  | .kettle k => decide (k.val < s.kettles)
  | .inputStage => true

/-- A KC trigger of digitiser `b` falls due within 1 microsecond (R433). -/
def trigSoon (s : State) (b : Nat) : Bool :=
  let u := s.kcU (b / 2)
  u.running && (List.range 4).any (fun j =>
    let g := u.trig.get {} j
    g.en && !g.fired && g.bsel.toNat == b % 2
      && decide (s.etc ≤ kcTrigAt u g ∧ kcTrigAt u g ≤ s.etc + ticksPerUs))

/-- The condition of an item's calibration (R433). -/
def itemReady (s : State) : SenseItem → Bool
  | .current k => (s.chan k.val).phase == .idle && decide ((s.chan k.val).idleAt + 20 * ticksPerUs ≤ s.etc)
      && (s.dch k.val).test.isNone
  | .digitiser b => (s.dgt b.val).capture.isNone && !trigSoon s b.val
  | .kettle _ | .inputStage => true

/-- Set or clear an item's stale bit (R433). -/
def setStale (v : Bool) (i : SenseItem) (s : State) : State :=
  match i with
  | .current k =>
    let m := BitVec.twoPow 64 k.val
    { s with bgs.staleCh := if v then s.bgs.staleCh ||| m else s.bgs.staleCh &&& ~~~m }
  | .digitiser b =>
    let m := BitVec.twoPow 8 b.val
    { s with bgs.staleDg := if v then s.bgs.staleDg ||| m else s.bgs.staleDg &&& ~~~m }
  | i => { s with bgs.staleOther := s.bgs.staleOther.set false (itemIdx i) v }

/-- An item is stale. -/
def isStale (s : State) : SenseItem → Bool
  | .current k => s.bgs.staleCh.getLsbD k.val
  | .digitiser b => s.bgs.staleDg.getLsbD b.val
  | i => s.bgs.staleOther.get false (itemIdx i)

/-- SENSE_CALIBRATION: an item is calibrated where its conditions allow; its stale bit clears (R433). -/
def doSenseCalibration (i : SenseItem) (s : State) : State :=
  if serviceRuns s && itemPresent s i && itemReady s i then
    setStale false i { s with bgs.calAt := s.bgs.calAt.set 0 (itemIdx i) s.etc }
  else s

/-- SENSE_STALE: an item has not been calibrated for 60 s; source 219 is raised once (R433). -/
def doSenseStale (i : SenseItem) (s : State) : State :=
  if serviceRuns s && itemPresent s i && !isStale s i
      && decide (s.bgs.calAt.get 0 (itemIdx i) + 60 * ticksPerS ≤ s.etc) then
    calReport true (itemIdx i) 219 (setStale true i s)
  else s

/-! ## Telemetry (R440, R441) -/

/-- A sum over channels or another index range. -/
def sumOf (n : Nat) (f : Nat → Nat) : Nat := (List.range n).foldl (fun a i => a + f i) 0

/-- Unsigned 16-bit items. -/
def u16s (l : List Nat) : List Byte := l.flatMap (leBytes 2)

/-- Unsigned 32-bit items. -/
def u32s (l : List Nat) : List Byte := l.flatMap (leBytes 4)

/-- The mean CLOSE - OFF of a channel's records of the last second, 0xFFFF without a record; a mean that its 16 bits
cannot hold is free (DESIGN CHOICE, log 17). -/
def meanClose (s : State) (x : Tick) (k : Nat) : Nat :=
  let l := (s.bgs.closes.filter (fun e => decide (e.2.1 = k) && decide (x < e.1 + ticksPerS) && decide (e.1 ≤ x))).map
    (fun e => e.2.2)
  if l.length = 0 then 0xFFFF
  else
    let m := l.foldl (· + ·) 0 / l.length
    if m < 0xFFFF then m else (Config.unstated s.fresh).toNat % 65536

/-- The cycle records closed in the second before an instant. -/
def closedIn (s : State) (x : Tick) : List CycleRec :=
  s.evs.records.filter (fun r => decide (x < r.etcEnd + ticksPerS) && decide (r.etcEnd ≤ x))

/-- The sum of a count over cycle records. -/
def cycleSum (l : List CycleRec) (f : CycleCounts → Nat) : Nat := l.foldl (fun a r => a + f r.counts) 0

/-- The RMS currents of bank `b`; banks absent on the order code read zero. -/
def bankRms (s : State) (m : TelemetryMeas) (b : Nat) : List Byte :=
  u16s ((List.range 8).map (fun i => if b < s.banks then m.rms.getD (8 * b + i) 0 else 0))

/-- The mean closing delays of bank `b`. -/
def bankClose (s : State) (x : Tick) (b : Nat) : List Byte :=
  u16s ((List.range 8).map (fun i => if b < s.banks then meanClose s x (8 * b + i) else 0))

/-- The store voltage in millivolts (R54): 40 V from the end of its linear charge on, else as last measured or
stated. -/
def storeVolt (s : State) : Nat :=
  match s.supply.storeFull with
  | some x => if x ≤ s.now then 40000 else s.supply.storeMv
  | none => s.supply.storeMv

/-- The items whose content the module holds about its surroundings: bits 0 to 20 of TELEM_SET. -/
def telemLow (s : State) (m : TelemetryMeas) (x : Tick) (bit : Nat) : List Byte :=
  let c := closedIn s x
  match bit with
  | 0 => leBytes 1 (supplyCode s.supply.state) ++ [0] ++ u16s [m.vmain, m.vbak, storeVolt s / 10]
  | 1 => ((List.range 13).map (fun i =>
      if (decide (s.banks ≤ i) && decide (i < 8)) || (decide (8 + s.kettles ≤ i) && decide (i < 12)) then 0
      else BitVec.ofNat 8 (twos 8 (m.temps.getD i 0)))) ++ zeros 3
  | 2 => (List.range 4).flatMap (fun k => leBytes 2 (ktShown s k)
      ++ [BitVec.ofNat 8 (ktCode (s.kettle k).state), BitVec.ofNat 8 (sat 255 (s.kettle k).chgW)])
  | 3 => [BitVec.ofNat 8 (syncCode s.whl.sync), BitVec.ofNat 8 (dirCode (dirOf s))] ++ leBytes 2 s.lns.speed
      ++ leBytes 4 s.evs.cycle
  | 4 => u32s [c.length, cycleSum c (·.fired), cycleSum c (·.late), cycleSum c (·.gate), cycleSum c (·.energy),
      cycleSum c (·.other)]
  | _ => if bit ≤ 12 then bankRms s m (bit - 5) else bankClose s x (bit - 13)

/-- The mask of open sessions, bit = link ID. -/
def openMask (s : State) : Nat :=
  flagAt (sessionCode s.links.spi.session == 2) 0 + flagAt (sessionCode s.links.can0.session == 2) 1
    + flagAt (sessionCode s.links.can1.session == 2) 2

/-- The other items: bits 21 to 31 of TELEM_SET. -/
def telemHigh (s : State) (bit : Nat) : List Byte :=
  match bit with
  | 21 => u32s [s.flt.total, word32 s.flt.sticky 0, word32 s.flt.sticky 1, word32 s.flt.sticky 2]
  | 22 => u32s [s.bgs.scrubs, bgsCaddy s, s.bgs.logLost, bgsGuard s]
  | 23 => u32s [lnsToothPer s, lnsAcc s, lnsSweep s]
  | 24 => u32s [evsStat s, s.evs.ins, s.evs.drops]
  | 25 => [BitVec.ofNat 8 (sat 255 s.links.spi.frameErr), BitVec.ofNat 8 (sat 255 s.links.can0.busOffs),
      BitVec.ofNat 8 (sat 255 s.links.can1.busOffs), BitVec.ofNat 8 (openMask s)] ++ leBytes 4 s.nv.secFail
  | 26 => leBytes 2 (maskOf 16 (fun q => (ctxsOf q).any (fun i => (s.ctx i).state == .halted)))
      ++ leBytes 2 (sat 65535 (sumOf 16 (fun q => (s.sq q).nloss))) ++ leBytes 4 (sumOf 128 (fun i => (s.ctx i).overruns))
  | 27 => u16s ((List.range 8).map (fun i => s.supply.ain.get 0 i))
  | 28 => u32s [s.bgs.wearMax, bgsCaddyErr s]
  | 29 => leBytes 8 (maskOf 64 (fun k => (s.dch k).offFlt)) ++ leBytes 8 (maskOf 64 (fun k => (s.dch k).onFlt))
  | 30 => u32s [bgsCal s, sat 0xFFFFFFFF s.ruler.lastHoldoverUs]
  | _ => leBytes 8 (sumOf 64 (fun k => (s.chan k).shots))

/-- The item of a TELEM_SET bit. -/
def telemItem (s : State) (m : TelemetryMeas) (x : Tick) (bit : Nat) : List Byte :=
  if bit < 21 then telemLow s m x bit else telemHigh s bit

/-- TELEM_SET in force (R143). -/
def telemSet (s : State) : Nat := blkU32 s.cfg.active 0x200

/-- The batch of an instant (R440). -/
def batchBytes (s : State) (m : TelemetryMeas) (x : Tick) (bseq : Nat) : List Byte :=
  let items := ((List.range 32).filter (fun b => bitAt (telemSet s) b)).flatMap (telemItem s m x)
  leBytes 4 0x42544C4B ++ leBytes 4 bseq ++ leBytes 8 x ++ leBytes 4 (telemSet s) ++ leBytes 2 (24 + items.length)
    ++ zeros 2 ++ items

/-- The 12-bit code of an analogue input at a voltage in millivolts (R63): 0 to 5 V at 12 bits, 4095 above (DEDUCED,
log 88). -/
def ainCode (mv : Nat) : Nat := min 4095 (mv * 4096 / 5000)

/-- What the module measured of its supplies and analogue inputs for a batch (R63, R54): the codes, the over-range flag
of every input above 5.1 V, VA5 and the hold-up store, which its charger holds at 40 V. -/
def sampled (m : TelemetryMeas) (x : Supply) : Supply :=
  { x with
    ain := Table.setList 0 [] 0 ((m.ain.take 8).map ainCode)
    ainOver := BitVec.ofNat 8 (maskOf 8 (fun i => decide (5100 < m.ain.getD i 0)))
    va5Mv := m.va5
    storeMv := min 40000 (10 * m.store) }

/-- TELEMETRY_BATCH: on a whole second of ETC the items are sampled; the batch replaces the one before (R440). -/
def doTelemetryBatch (m : TelemetryMeas) (s : State) : State :=
  let n := s.etc / ticksPerS
  if !serviceRuns s || decide (n ≤ s.bgs.telemSec) then s
  else
    let q := wrapInc 32 s.bgs.bseq
    let s := logGuard { s with supply := sampled m s.supply }
    raise 225 { s with
      fresh := s.fresh + 1
      bgs := { s.bgs with telemSec := n, bseq := q, batch := batchBytes s m (n * ticksPerS) q } }

/-! ## The Mirror port -/

/-- COUNTER_FRAME: every 1 ms of ETC a COUNTERS frame is queued (R447). -/
def doCounterFrame (s : State) : State :=
  let n := s.etc / ticksPerMs
  if lanesStopped s || !serviceRuns s || decide (n ≤ s.obs.counterMs) then s
  else
    mirrorAt 8 ([0] ++ leBytes 2 s.lns.speed ++ u32s [s.evs.cycle, s.evs.ins, s.evs.drops, s.dia.recWr, s.flt.total])
      (n * ticksPerMs) { s with obs.counterMs := n }

/-- What a Mirror lane carries (R446, R449): the control characters, a data byte, or differential 0 where it is disabled. -/
inductive LineSymbol where
  | k28_5 | k27_7 | k29_7
  | data (b : Byte)
  | off
  deriving DecidableEq, Repr

/-- A frame on the line with the K28.5 that follows it (R446): its data bytes between K27.7 and K29.7, with their
CRC-16, low byte first. -/
def Frame.symbols (f : Frame) : List LineSymbol :=
  LineSymbol.k27_7 :: (f.data ++ leBytes 2 (crc16 f.data)).map LineSymbol.data ++ [LineSymbol.k29_7, LineSymbol.k28_5]

/-- What a lane puts on its line now (R446, R449): the frame it sends, K28.5 where it has none, and 0 where it is
disabled and has completed its frame. -/
def laneLine (s : State) (n : Nat) : List LineSymbol :=
  match (if n = 0 then s.obs.lane0 else s.obs.lane1).sending with
  | some f => f.symbols
  | none => if bitAt s.mirrorEn n then [LineSymbol.k28_5] else [LineSymbol.off]

/-- A lane has sent its frame and begins its next (R446, R448). -/
def laneSent (stopped : Bool) (l : Lane) : Lane :=
  match l.sending with
  | some _ => laneStart stopped { l with sending := none, sent := wrapInc 32 l.sent }
  | none => l

/-- MIRROR_FRAME_SENT: a lane finishes sending a frame and starts the next one queued. -/
def doMirrorFrameSent (lane : Nat) (s : State) : State :=
  if lane = 0 then { s with obs.lane0 := laneSent (lanesStopped s) s.obs.lane0 }
  else { s with obs.lane1 := laneSent (lanesStopped s) s.obs.lane1 }

/-- Both lanes begin sending again (R457). -/
def lanesResume (s : State) : State :=
  { s with obs := { s.obs with
    lane0 := laneStart (lanesStopped s) s.obs.lane0, lane1 := laneStart (lanesStopped s) s.obs.lane1 } }

end Sys2Proof.Machine
end

