-- ==== Sys2Proof/Machine/TaskTable.lean ====
section
/-! DEFINITION. The task table of an image (09_tasks_memory_dma_faults.md R289 to R294): its parse and the checks of
R291, and the segment rules. -/

namespace Sys2Proof.Machine

/-- Entry `i` of a task table. -/
def entryAt (tab : List Byte) (i : Nat) : List Byte := slice tab (32 + 96 * i) 96

/-- The two words of a segment descriptor (R292). -/
def segOf (w0 w1 : Nat) : Seg :=
  { base := bits w0 0 24, limit := bits w1 0 24, r := bitAt w0 24, w := bitAt w0 25, x := bitAt w0 26, share := bitAt w0 27 }

/-- A descriptor with R, W and X clear is empty (R292). -/
def Seg.empty (g : Seg) : Bool := !g.r && !g.w && !g.x

/-- Segment descriptor `i` of an entry. -/
def segAt (e : List Byte) (i : Nat) : Seg := segOf (leAt e (32 + 8 * i) 4) (leAt e (36 + 8 * i) 4)

/-- A task as an entry declares it (R290). -/
def taskOf (e : List Byte) : Task :=
  { prio := leAt e 2 1, fprio := leAt e 3 1
    entry := BitVec.ofNat 16 (leAt e 4 2), faultPc := BitVec.ofNat 16 (leAt e 6 2)
    trig := leAt e 8 1, start := bitAt (leAt e 9 1) 0, haltCancel := bitAt (leAt e 9 1) 1
    dmaGrant := BitVec.ofNat 16 (leAt e 10 2)
    tp0 := BitVec.ofNat 32 (leAt e 12 4), tp1 := BitVec.ofNat 32 (leAt e 16 4)
    budget := leAt e 20 4
    segs := ((List.range 8).map (segAt e)).filter (fun g => !g.empty) }

/-- The context of an entry: 8 x SQ + SLOT. -/
def ctxOfEntry (e : List Byte) : Nat := 8 * leAt e 0 1 + leAt e 1 1

/-- TP0 lies within its range for its TRIG; an ANGLE base is checked against the geometry (R290, R291). -/
def tp0Ok (s : State) (trig tp0 : Nat) : Bool :=
  match trig with
  | 0 => tp0 == 0
  | 1 => angValid s (BitVec.ofNat 32 tp0)
  | 2 => decide (1 ≤ tp0 ∧ tp0 ≤ 4000000)
  | _ => decide (tp0 < 64)

/-- TP1 lies within its range for its TRIG (R290). -/
def tp1Ok (s : State) (trig tp0 tp1 : Nat) : Bool :=
  match trig with
  | 1 => decide (tp1 < s.cycleLen)
  | 2 => decide (tp1 ≤ tp0)
  | _ => tp1 == 0

/-- The memory regions a segment may lie in (R293), by first and last address. -/
def segRegions : List (Nat × Nat) :=
  [(0x200000, 0x23FFFF), (0x400000, 0x47FFFF), (0x600000, 0x63FFFF), (0x100000, 0x11FFFF), (0x120000, 0x127FFF),
   (0x0, 0xFFFF)]

/-- The extent, X and W rules of R293 and the form of R292. -/
def segOk (w0 w1 : Nat) : Bool :=
  let g := segOf w0 w1
  bits w0 28 4 == 0 && bits w1 24 8 == 0 &&
    (if g.empty then g.base == 0 && g.limit == 0 && !g.share
    else g.base % 4 == 0 && (g.limit + 1) % 4 == 0 && decide (g.base ≤ g.limit)
      && segRegions.any (fun r => decide (r.1 ≤ g.base ∧ g.limit ≤ r.2))
      && (!g.x || regionOf g.base == .program)
      && (!g.w || regionOf g.base == .data || regionOf g.base == .registers))

/-- The first offset of an entry whose field lies outside its range (R290, R291). -/
def entryFault (s : State) (e : List Byte) : Option Nat :=
  let f := fun a n => leAt e a n
  if 15 < f 0 1 then some 0
  else if 7 < f 1 1 then some 1
  else if 7 < f 2 1 then some 2
  else if f 3 1 < f 2 1 ∨ 7 < f 3 1 then some 3
  else if 3 < f 8 1 then some 8
  else if 3 < f 9 1 then some 9
  else if !tp0Ok s (f 8 1) (f 12 4) then some 12
  else if !tp1Ok s (f 8 1) (f 12 4) (f 16 4) then some 16
  else if 1000000 < f 20 4 then some 20
  else if f 24 8 ≠ 0 then some 24
  else ((List.range 8).find? (fun i => !segOk (f (32 + 8 * i) 4) (f (36 + 8 * i) 4))).map (fun i => 32 + 8 * i)

/-- Two data-memory ranges both written overlap, and one is not shared (R293). -/
def ownerClash (a b : Seg) : Bool :=
  a.w && b.w && regionOf a.base == .data && regionOf b.base == .data
    && decide (a.base ≤ b.limit ∧ b.base ≤ a.limit) && (!a.share || !b.share)

/-- Two entries name one context, or clash over a range (R291, R293): the offset in the later one. -/
def pairFault (a b : List Byte) : Option Nat :=
  if ctxOfEntry a = ctxOfEntry b then some 0
  else ((List.range 8).find? (fun i => (List.range 8).any (fun j => ownerClash (segAt b i) (segAt a j)))).map
    (fun i => 32 + 8 * i)

/-- The first failing entry and offset of a task table (R291); entry 0xFFFF is the header. -/
def tableFault (s : State) (tab : List Byte) : Option (Nat × Nat) :=
  let n := leAt tab 6 2
  if leAt tab 0 4 ≠ 0x54544C4B then some (0xFFFF, 0)
  else if leAt tab 4 2 ≠ 1 then some (0xFFFF, 4)
  else if n < 1 ∨ 128 < n ∨ tab.length ≠ 32 + 96 * n then some (0xFFFF, 6)
  else if !allZero (slice tab 8 24) then some (0xFFFF, 8)
  else (List.range n).findSome? (fun i =>
    match entryFault s (entryAt tab i) with
    | some o => some (i, o)
    | none => (List.range i).findSome? (fun j => (pairFault (entryAt tab j) (entryAt tab i)).map (fun o => (i, o))))

/-! ## Segment checks (R294) -/

/-- The right an access needs (R294). -/
inductive Right where
  | fetch | load | store | patch
  deriving DecidableEq, Repr

/-- A descriptor holds a right. -/
def Seg.grants (g : Seg) : Right → Bool
  | .fetch => g.x
  | .load => g.r
  | .store => g.w
  | .patch => g.r && g.w

/-- An access of `n` bytes at `a` is admitted by one descriptor (R294). -/
def admitted (l : List Seg) (r : Right) (a n : Nat) : Bool :=
  l.any (fun g => g.grants r && decide (g.base ≤ a ∧ a + n - 1 ≤ g.limit))

end Sys2Proof.Machine
end

