-- ==== Sys2Proof/Machine/Trust.lean ====
section
/-! DEFINITION. Keys, signatures and the signed structures (03_trust_ownership_envelope.md R77 to R105): operator
certificates, envelopes and images with their checks, and what a verification failure does (R109). -/

namespace Sys2Proof.Machine

/-! ## Hashes, keys, signatures and entropy -/

/-- SHA-256 as 32 bytes. -/
def sha (m : List Byte) : List Byte := beBytes 32 (Config.sha256 m).toNat

/-- A public key as bytes. -/
def pubBytes (p : BitVec 512) : List Byte := beBytes 64 p.toNat

/-- DEV_BIND of this module: SHA-256 of DIK_PUB. -/
def devBind : List Byte := sha (pubBytes Config.dikPub)

/-- The first 8 bytes of SHA-256 of a public key: OWNER_ID, SIGNER_ID. -/
def keyId (pub : List Byte) : List Byte := slice (sha pub) 0 8

/-- A signature over a message verifies under a public key. -/
def verifies (pub msg sig : List Byte) : Bool :=
  Config.ecdsaVerify (BitVec.ofNat 512 (beNat pub)) msg (BitVec.ofNat 512 (beNat sig))

/-- OWK_PUB as bytes. -/
def owkPub (s : State) : List Byte := pubBytes s.keys.owk

/-- A signature under OWK verifies; only in OWNED is there an OWK. -/
def owkVerifies (s : State) (msg sig : List Byte) : Bool := s.keys.life == .owned && verifies (owkPub s) msg sig

/-- The next signature DIK makes (R77). -/
def dikSig (s : State) (msg : List Byte) : List Byte := beBytes 64 (Config.dikSign s.sec.signNext msg).toNat

/-- A DIK signature has been made. -/
def signed1 (s : State) : State := { s with sec.signNext := s.sec.signNext + 1 }

/-- The next `n` bytes of the entropy source (R79). -/
def entropy (s : State) (n : Nat) : List Byte := (List.range n).map (fun i => Config.entropyByte (s.sec.entropyNext + i))

/-- Bytes of the entropy source have been used. -/
def entropyUsed (n : Nat) (s : State) : State := { s with sec.entropyNext := s.sec.entropyNext + n }

/-- A new claim challenge is issued (R82). -/
def newChallenge (s : State) : State :=
  let c := BitVec.ofNat 256 (beNat (entropy s 32))
  entropyUsed 32 { s with sec := { s.sec with challenge := c, challengeAt := s.etc } }

/-- DEV_BIND is zero or names the module. -/
def bindOk (b : List Byte) : Bool := allZero b || b == devBind

/-- Bytes under the key stream of a key and nonce, from position `i`. -/
def gcmCrypt (key nonce : List Byte) : Nat → List Byte → List Byte
  | _, [] => []
  | i, b :: r => (b ^^^ Config.gcmStream key nonce i) :: gcmCrypt key nonce (i + 1) r

/-! ## The sealed key store (R78) -/

/-- "KL6420 keystore" (R78). -/
def keystoreInfo : List Byte :=
  [0x4B, 0x4C, 0x36, 0x34, 0x32, 0x30, 0x20, 0x6B, 0x65, 0x79, 0x73, 0x74, 0x6F, 0x72, 0x65]

/-- The key under which the key store is sealed: derived from DSS with the info string "KL6420 keystore" (R78). -/
def keystoreKey : List Byte := hkdf [] Config.dss keystoreInfo 0 32

/-- An operator slot as bytes: a presence byte, then the certificate (DESIGN CHOICE, log 92). -/
def slotRecord : Option (List Byte) → List Byte
  | none => [0]
  | some c => 1 :: c

/-- The content of the key store as the bytes that are sealed, in the order of R78 (DESIGN CHOICE, log 92). -/
def keyBytes (k : KeyStore) : List Byte :=
  pubBytes k.owk ++ leBytes 8 k.oseq ++ leBytes 4 k.ogen ++ (List.range 16).flatMap (fun i => slotRecord (k.slots.get none i))
    ++ leBytes 8 k.floor ++ leBytes 4 k.forced
    ++ [BitVec.ofNat 8 (lifeCode k.life), BitVec.ofNat 8 (slotCode k.sel), BitVec.ofNat 8 (flagAt k.trial 0),
      BitVec.ofNat 8 k.trials]

/-- The key store sealed under a nonce (R78). -/
def sealKeys (nonce : List Byte) (k : KeyStore) : Seal :=
  let ct := gcmCrypt keystoreKey nonce 0 (keyBytes k)
  { nonce := nonce, text := ct, tag := Config.gcmTag keystoreKey nonce [] ct }

/-- The stored record authenticates and holds the key store (R78); the record as delivered does, and so does the mark of
RETIRED, for which no secret is left. -/
def keysAuthentic (s : State) : Bool :=
  match s.nv.keySeal with
  | none => true
  | some x => s.nv.keys.destroyed || x == sealKeys x.nonce s.nv.keys

/-! ## Verification failures (R109) -/

/-- One more consecutive failure on a link: from the eighth on, openings and claims are refused for a pause. -/
def linkFail (l : Link) (s : State) : State :=
  let x := s.link l
  let n := x.fails + 1
  if n < 8 then s.setLink l { x with fails := n }
  else
    let p := if x.pauseS = 0 then 1 else min 60 (2 * x.pauseS)
    let s' := s.setLink l { x with fails := n, pauseS := p, lockUntil := some (s.etc + p * ticksPerS) }
    raiseIf x.lockUntil.isNone 233 s'

/-- A success ends a run of failures. -/
def linkOk (l : Link) (s : State) : State := s.setLink l { s.link l with fails := 0, pauseS := 0 }

/-- A failure counted in SEC_FAIL. -/
def countSecFail (s : State) : State := { s with nv.secFail := satInc 0xFFFFFFFF s.nv.secFail }

/-- A signature, DEV_BIND, OWNER_ID, OGEN or ROLES check fails (R109 row 1) (DEDUCED, log 54). -/
def signatureFail (l : Link) (s : State) : State :=
  linkFail l (log 4 0 [1, BitVec.ofNat 8 (linkId l), 4] (raise 232 (countSecFail s)))

/-- A stale sequence number, or a message whose tag or counter fails (R109 rows 2 and 5). -/
def countedFail (l : Link) (s : State) : State := linkFail l (raise 232 (countSecFail s))

/-- A claim without presence or with a wrong challenge, or a malformed structure (R109 rows 3 and 4). -/
def plainFail (l : Link) (s : State) : State := linkFail l (raise 232 s)

/-- Openings and claims are refused on a link. -/
def lockedOut (s : State) (l : Link) : Bool :=
  match (s.link l).lockUntil with
  | some d => decide (s.etc < d)
  | none => false

/-- LOCKOUT_EXPIRY: the pause of a link ends; source 233 (R109, R110). -/
def doLockoutExpiry (l : Link) (s : State) : State :=
  match (s.link l).lockUntil with
  | some d => if d ≤ s.etc then raise 233 (s.setLink l { s.link l with lockUntil := none }) else s
  | none => s

/-! ## Operator certificates (R84, R90, R91) -/

/-- The offset of the first fault of a certificate's form. -/
def certFormFault (c : List Byte) : Option Nat :=
  if c.length ≠ 192 then some (min c.length 192)
  else if leAt c 0 4 ≠ 0x504F4C4B then some 0
  else if leAt c 4 2 ≠ 1 then some 4
  else ((List.range 8).find? (fun i => c.getD (56 + i) 0 != 0)).map (fun i => 56 + i)

/-- ROLES of a certificate. -/
def certRoles (c : List Byte) : Nat := leAt c 6 2

/-- OP_PUB of a certificate. -/
def certPub (c : List Byte) : List Byte := slice c 64 64

/-- A certificate is valid (R84): signed by OWK, of this ownership generation, for this module and owner, with no
reserved role. -/
def certValid (s : State) (c : List Byte) : Bool :=
  (certFormFault c).isNone && owkVerifies s (slice c 0 128) (slice c 128 64) && leAt c 12 4 == s.keys.ogen
    && bindOk (slice c 16 32) && slice c 48 8 == ownerId s && decide (certRoles c < 64)

/-! ## Envelopes (R94 to R98, R486) -/

/-- The first index from `a` of `n` bytes that is not zero. -/
def firstNonZero (b : List Byte) (a n : Nat) : Option Nat :=
  ((List.range n).find? (fun i => b.getD (a + i) 0 != 0)).map (fun i => a + i)

/-- The offset of the first fault of a channel record's form. -/
def recordFormFault (e : List Byte) (k : Nat) : Option Nat :=
  let a := 64 + 32 * k
  if 4 ≤ envField e k 15 1 then some (a + 15) else firstNonZero e (a + 26) 6

/-- Check 1 of R96: the offset of the first fault of the form, the length first (DESIGN CHOICE, log 81). -/
def envFormFault (e : List Byte) : Option Nat :=
  if e.length ≠ 2176 then some (min e.length 2176)
  else if leAt e 0 4 ≠ 0x56454C4B then some 0
  else if leAt e 4 2 ≠ 1 then some 4
  else if leAt e 6 2 ≠ 64 then some 6
  else (firstNonZero e 58 6).orElse (fun _ => (List.range 64).findSome? (recordFormFault e))

/-- Check 2 of R96: OWNER_ID and the signature under OWK. -/
def envSigned (s : State) (e : List Byte) : Bool :=
  slice e 48 8 == ownerId s && owkVerifies s (slice e 0 2112) (slice e 2112 64)

/-- The offset, in a channel record, of the first field out of range (R95). -/
def recordRange (s : State) (e : List Byte) (k : Nat) : Option Nat :=
  let a := 64 + 32 * k
  let wide := fun w => decide (2 * envTeeth e ≤ w / 4096)
  if wide (envEarly e k) then some a
  else if wide (envLate e k) then some (a + 4)
  else if envOnMax e k < 1 ∨ 400000000 < envOnMax e k then some (a + 8)
  else if s.channels ≤ k ∧ envEvMax e k ≠ 0 then some (a + 14)
  else if 3200 < envPeakMax e k then some (a + 16)
  else if envBoostMax e k ≠ 0 ∧ (envBoostMax e k < 60 ∨ 300 < envBoostMax e k) then some (a + 18)
  else if 1600 < envHoldMax e k then some (a + 20)
  else if envRpmMin e k < 200 ∨ 40000 < envRpmMin e k then some (a + 22)
  else if envRpmMax e k < envRpmMin e k ∨ 40000 < envRpmMax e k then some (a + 24)
  else none

/-- Check 5 of R96: the offset of the first field out of range. -/
def envRangeFault (s : State) (e : List Byte) : Option Nat :=
  if envTeeth e < 1 ∨ 1024 < envTeeth e then some 56 else (List.range 64).findSome? (recordRange s e)

/-- The baseline of R486: ENV_SEQ of the newest envelope held. -/
def envBaseline (s : State) : Nat :=
  match s.sec.waitingEnv, s.sec.envelope with
  | some w, _ => envSeq w
  | none, some e => envSeq e
  | none, none => 0

/-- The checks of R96 in order: STATUS and DETAIL of the first that fails. -/
def envRefusal (s : State) (e : List Byte) : Option (Nat × Nat) :=
  match envFormFault e with
  | some o => some (1, o)
  | none =>
    if !envSigned s e then some (4, 0)
    else if !bindOk (slice e 16 32) then some (4, 0)
    else if envSeq e ≤ envBaseline s then some (5, 0)
    else (envRangeFault s e).map (fun o => (11, o))

/-- A stored envelope verifies (R98). -/
def envVerifies (s : State) (e : List Byte) : Bool :=
  (envFormFault e).isNone && envSigned s e && bindOk (slice e 16 32) && (envRangeFault s e).isNone

/-- The Caddy copy of the envelope in force, reloaded for the gate (R98): a waiting envelope (R97), the newer copy, stays
out of it (DEDUCED, log 89). -/
def reloadedEnvelope (s : State) : Option (List Byte) :=
  match s.sec.waitingEnv with
  | none => none
  | some w => [s.nv.env0, s.nv.env1].find? (fun e => e != w && envVerifies s e)

/-- The stored envelope in use (R98): the first Caddy copy, the newer one, or else the second. -/
def storedEnvelope (s : State) : Option (List Byte) :=
  let a := if envSeq s.nv.env0 < envSeq s.nv.env1 then (s.nv.env1, s.nv.env0) else (s.nv.env0, s.nv.env1)
  if envVerifies s a.1 then some a.1 else if envVerifies s a.2 then some a.2 else none

/-! ## Images (R102, R103, R460) -/

/-- IMG_SEQ of an image. -/
def imgSeq (b : List Byte) : Nat := leAt b 8 8
/-- CODE_LEN. -/
def imgCode (b : List Byte) : Nat := leAt b 64 4
/-- DATA_LEN. -/
def imgData (b : List Byte) : Nat := leAt b 68 4
/-- TABLE_LEN. -/
def imgTable (b : List Byte) : Nat := leAt b 72 4

/-- The image is signed by the owner: SIGNER_ID names OWK; otherwise a certificate follows SIG (R102). -/
def imgByOwner (s : State) (b : List Byte) : Bool := slice b 56 8 == keyId (owkPub s)

/-- The length of the body as received (R102). -/
def imgBodyLen (s : State) (b : List Byte) : Nat := b.length - (if imgByOwner s b then 192 else 384)

/-- The certificate appended to an image. -/
def imgCert (b : List Byte) : List Byte := slice b (b.length - 192) 192

/-- SIGNER_ID names OWK, or the key of a valid appended certificate that holds IMGSIGN (R103). -/
def imgSignerOk (s : State) (b : List Byte) : Bool :=
  imgByOwner s b || (decide (384 ≤ b.length) && certValid s (imgCert b) && bitAt (certRoles (imgCert b)) 4
    && slice b 56 8 == keyId (certPub (imgCert b)))

/-- SIG verifies over the header under the signer's key. -/
def imgSigOk (s : State) (b : List Byte) : Bool :=
  verifies (if imgByOwner s b then owkPub s else certPub (imgCert b)) (slice b 0 128)
    (slice b (128 + imgBodyLen s b) 64)

/-- BODY_HASH matches the body. -/
def imgHashOk (s : State) (b : List Byte) : Bool := slice b 80 32 == sha (slice b 128 (imgBodyLen s b))

/-- The length fields are multiples of 4 and sum to the body length. -/
def imgLensOk (s : State) (b : List Byte) : Bool :=
  imgCode b + imgData b + imgTable b == imgBodyLen s b && imgCode b % 4 == 0 && imgData b % 4 == 0
    && imgTable b % 4 == 0

/-- OWNER_ID names the installed OWK and DEV_BIND is zero or names the module. -/
def imgOwned (s : State) (b : List Byte) : Bool :=
  s.keys.life == .owned && slice b 48 8 == ownerId s && bindOk (slice b 16 32)

/-- The offset of the first fault of an image header's form (R102). -/
def imgFormFault (b : List Byte) : Option Nat :=
  if b.length < 192 then some b.length
  else if leAt b 0 4 ≠ 0x4D494C4B then some 0
  else if leAt b 4 2 ≠ 1 then some 4
  else if leAt b 6 2 ≠ 0 then some 6
  else if leAt b 78 2 ≠ 0 then some 78
  else firstNonZero b 112 16

/-- The task table of an image: the last part of the body. -/
def imgTableBytes (b : List Byte) : List Byte := slice b (128 + imgCode b + imgData b) (imgTable b)

/-- An image slot's content. -/
def imageOf (s : State) : Slot → Image
  | .a => s.nv.imgA
  | .b => s.nv.imgB

/-- Write an image slot's content. -/
def setImage (x : Slot) (i : Image) (s : State) : State :=
  match x with
  | .a => { s with nv.imgA := i }
  | .b => { s with nv.imgB := i }

/-- The other slot. -/
def otherSlot : Slot → Slot
  | .a => .b
  | .b => .a

/-- The slot is marked empty. -/
def slotEmpty (s : State) (x : Slot) : Bool := !(imageOf s x).full

/-- The refusal reason of a slot at start (R460), 0 if it runs. -/
def startRefusal (s : State) (x : Slot) : Nat :=
  let b := (imageOf s x).bytes
  if x = s.keys.sel ∧ s.keys.trial = true ∧ s.keys.trials = 0 then 8
  else if slotEmpty s x then 1
  else if (imgFormFault b).isSome || !imgSignerOk s b || !imgSigOk s b then 2
  else if !imgHashOk s b || !imgLensOk s b then 3
  else if imgSeq b < s.keys.floor then 4
  else if Config.romVersion < leAt b 76 2 then 5
  else if !imgOwned s b then 6
  else if (tableFault s (imgTableBytes b)).isSome then 7
  else 0

/-! ## The attestation report (R105) -/

/-- A slot's code with 0xFF for none. -/
def slotByte : Option Slot → Byte
  | some .a => 0
  | some .b => 1
  | none => 0xFF

/-- The hash of a slot's header, zero if the slot is empty. -/
def headerHash (s : State) (x : Slot) : List Byte :=
  if slotEmpty s x then zeros 32 else sha (slice (imageOf s x).bytes 0 128)

/-- `n` bytes of a block from offset `a`. -/
def blockSlice (b : Block) (a n : Nat) : List Byte := Table.getList 0 b a n

/-- All 9,216 bytes of a block. -/
def blockAll (b : Block) : List Byte := blockSlice b 0 9216

/-- Bytes 0 to 207 of the attestation report (R105); ENV_HASH is zero with no envelope in force (DESIGN CHOICE, log 80). -/
def attestBody (s : State) (nonce : List Byte) : List Byte :=
  let k := s.keys
  leBytes 4 0x54414C4B
    ++ [BitVec.ofNat 8 (lifeCode k.life),
      BitVec.ofNat 8 (flagAt s.sec.release.isSome 0 + flagAt s.nv.ksFail 1 + flagAt (strapped s) 2
        + flagAt s.sec.envelope.isSome 3)]
    ++ leBytes 2 Config.romVersion ++ nonce ++ leBytes 4 k.ogen ++ leBytes 4 k.forced ++ ownerId s
    ++ leBytes 8 s.etc ++ leBytes 4 s.evs.cycle
    ++ [slotByte s.sys.running, BitVec.ofNat 8 (syncCode s.whl.sync)] ++ leBytes 2 (releaseMinutes s)
    ++ leBytes 8 (envSeq (envNow s))
    ++ (match s.sec.envelope with
      | some e => sha e
      | none => zeros 32)
    ++ headerHash s .a ++ headerHash s .b ++ leBytes 8 k.floor ++ sha (blockAll s.cfg.active)
    ++ leBytes 4 s.nv.secFail ++ zeros 4

end Sys2Proof.Machine
end

