-- ==== Sys2Proof/Machine/Session.lean ====
section
/-! DEFINITION. Sessions (03 R87 to R89, 04 R131 to R133): closing, timeouts, and the lifecycle operations that end
ownership (03 R83, R85). -/

namespace Sys2Proof.Machine

/-- The LINK entry of R443: link ID and event (0 bus-off, 1 session opened, 2 session closed). -/
def logLink (l : Link) (event : Nat) (s : State) : State :=
  log 12 2 [BitVec.ofNat 8 (linkId l), BitVec.ofNat 8 event] s

/-- Staging is discarded when its holder's session closes (R144); an image transfer ends, its slot empty (R139). -/
def dropHoldings (l : Link) (s : State) : State :=
  let s := match s.cfg.staging with
    | some (h, _) => if h = l then { s with cfg.staging := none } else s
    | none => s
  match s.sec.transfer with
  | some x => if x.link = l then { s with sec.transfer := none } else s
  | none => s

/-- A sealed request in processing whose session closes is carried no further (DEDUCED, log 26). -/
def dropSealed (x : LinkSt) : LinkSt :=
  match x.req with
  | some r => if r.sealed then { x with req := none } else x
  | none => x

/-- The session of a link closes (R89, R131): its keys are erased; source 238 for an open one. -/
def closeSession (l : Link) (s : State) : State :=
  match (s.link l).session with
  | .none => s
  | .opening _ => s.setLink l { s.link l with session := .none }
  | .opened _ => dropHoldings l (raise 238 (logLink l 2 (s.setLink l { dropSealed (s.link l) with session := .none })))

/-- All sessions close (R89). -/
def closeAll (s : State) : State := closeSession .can1 (closeSession .can0 (closeSession .spi s))

/-- SESS_IDLE in force in s (R143). -/
def sessIdle (s : State) : Nat := blkU16 s.cfg.active 0x30

/-- The session of a link has lapsed (R131). -/
def lapsed (s : State) (l : Link) : Bool :=
  match (s.link l).session with
  | .opened x => decide (x.lastAt + sessIdle s * ticksPerS ≤ s.etc)
  | _ => false

/-- The host links work: from step 5 of the reset sequence, in RUN and STANDBY (R457, R458). -/
def linksOn (s : State) : Bool :=
  s.sys.linksUp && s.supply.state != .down && match s.sys.mode with
    | .reset | .run | .standby => true
    | _ => false

/-- SESSION_IDLE_TIMEOUT: no sealed message was accepted for SESS_IDLE (R131); a session that lapses in SLEEP is
closed at wake (R469). -/
def doSessionIdleTimeout (l : Link) (s : State) : State :=
  if linksOn s && lapsed s l then closeSession l s else s

/-- SESSION_OPEN_TIMEOUT: 5 s pass without a valid OPEN_3 (R131). -/
def doSessionOpenTimeout (l : Link) (s : State) : State :=
  match (s.link l).session with
  | .opening o =>
    if linksOn s && decide (o.since + 5 * ticksPerS ≤ s.etc) then countedFail l (closeSession l s) else s
  | _ => s

/-! ## Ending an ownership (R83, R85) -/

/-- The LIFECYCLE entry of R443: operation, OGEN, OWNER_ID (DEDUCED, log 61). -/
def logLife (op : Nat) (s : State) : State :=
  log 5 0 ([BitVec.ofNat 8 op] ++ zeros 3 ++ leBytes 4 s.nv.keys.ogen ++ ownerId s) s

/-- The key store is rewritten, a sealed record of this module (R78, R435). -/
def writeKeys (k : KeyStore) (s : State) : State :=
  regionWritten 129 1 { s with nv := { s.nv with
    keys := k, keySeal := some (sealKeys (Config.sealNonce s.nv.seals) k), seals := s.nv.seals + 1, ksFail := false } }

/-- A context of an erased image: no task is declared for it any more (R295), but a halted one stays HALTED until reset
and the counts stay (R295, R318) (DEDUCED, log 24). -/
def endContext (c : Ctx) : Ctx :=
  match c.state with
  | .halted => c
  | _ => { c with state := .empty, wait := .none, pending := false, fh := false }

/-- DECOMMISSION (R83): OWK, operator slots, envelope, both images, the quick-start record and the image floor are
erased, OGEN is incremented; logbook and wear data stay. Every session closes; source 234. No angle code runs in
UNCLAIMED (R80), so the running image stops (DEDUCED, log 24); events committed before keep their gate decision
(DEDUCED, log 82). After a failed key store OGEN and the forced-release count start from 0 (DESIGN CHOICE, log 83). -/
def decommission (life : Life) (op : Nat) (forced : Bool) (s : State) : State :=
  let k := s.keys
  let n : KeyStore := { life := life, ogen := wrapInc 32 k.ogen
                        forced := if forced then wrapInc 32 k.forced else k.forced
                        destroyed := life == .retired }
  let s := writeKeys n s
  let s := qsInvalidate 8 s
  let s := { s with
    nv := { s.nv with env0 := [], env1 := [], imgA := {}, imgB := {}, qs0 := [], qs1 := [] }
    sec := { s.sec with envelope := none, waitingEnv := none, envBad := false, release := none, transfer := none }
    whl := { s.whl with qs := {}, qsInval := 8 }
    sys := { s.sys with running := none, phase := if s.sys.running.isSome then 4 else s.sys.phase }
    seq := { s.seq with ctx := s.seq.ctx.map (fun e => (e.1, endContext e.2)), task := [] }
    bgs := { s.bgs with jobs := s.bgs.jobs.filter (fun j => match j with
      | .quickStart _ => false
      | _ => true) } }
  raise 234 (logLife op (closeAll s))

end Sys2Proof.Machine
end

