-- ==== Sys2Proof/Machine/Reset.lean ====
section
/-! DEFINITION. The reset sequence (15_startup_sleep_power.md R458 to R464): what survives a reset, the timed steps,
image selection and the start record. The four timed steps of RESET_STEP_COMPLETE are the self-test (steps 3 and 4),
the Caddy mount (5), the envelope (6) and the image (8, with 7 beside it and 9 at its end); steps 1 and 2 end with
REFERENCE_STARTED (DEDUCED, log 23). -/

namespace Sys2Proof.Machine

/-! ## What survives a reset -/

/-- The source and validity of PREV_SAFE that a reset finds (R464): of a SAFE in force, or after DOWN of the last SAFE
entry flushed after the last START entry. -/
def prevSafeOf (cause : Nat) (s : State) : Nat × Bool :=
  if cause ≠ 1 then (if s.flt.safe then (s.flt.safeSrc, true) else (0, false))
  else
    let since := (s.nv.ring.map (fun e => e.2)).reverse.takeWhile (fun e => e.kind != 1)
    match since.find? (fun e => e.kind == 3) with
    | some e => ((e.body.getD 1 0).toNat % 128, true)
    | none => (0, false)

/-- The newest entry in the ring. -/
def ringLast (s : State) : Option LogEntry := (s.nv.ring.getLast?).map (fun e => e.2)

/-- The logbook's place after a reset: the tail buffer's entries are gone (DEDUCED, log 19). -/
def logPlace (s : State) (g : Bgs) : Bgs :=
  match ringLast s with
  | some e =>
    let n := wrapInc 32 e.index
    { g with logNext := n, lastHash := Config.sha256 e.bytes, headAt := if e.kind = 16 then n else n + 1 }
  | none => g

/-- The background services at a reset: what they do at whole multiples of ETC, and the times that count from their last
step, go on from here (DEDUCED, log 106). -/
def bgsAtReset (s : State) : Bgs :=
  { scrubAt := Table.setList 0 [] 0 (List.replicate 9 s.etc)
    calAt := Table.setList 0 [] 0 (List.replicate 77 s.etc)
    refreshAt := s.etc, caddyAt := s.etc
    telemSec := s.etc / ticksPerS, flushSlot := s.etc / (10 * ticksPerS) }

/-- What the Caddy keeps of the retention refresh, whose services run from step 5 on (R438). -/
def retentionOf (s : State) : Retention :=
  if s.sec.regsUp then
    { pos := s.bgs.refreshPos, began := s.bgs.refreshBegan, passBegan := s.bgs.passBegan, wroteAt := s.bgs.wroteAt }
  else s.nv.kept

/-- The wear counters, kept in their retained store across RESET_N and RESET (R437). -/
def wearOnly (s : State) : Table Chan :=
  (List.range 64).foldl (fun m k => Table.set {} m k { shots := (s.chan k).shots, eboost := (s.chan k).eboost }) []

/-- The supply state the judged inputs give at a reset (R42). -/
def supplyAt (s : State) : SupplyState :=
  match s.supply.state with
  | .down => if s.supply.vmain.good then .main else .backup
  | x => x

/-- What a link keeps across a reset other than power-up: its run of failures and its lockout (R109); its last session
ID is kept at every reset (R132). -/
def linkKept (cause : Nat) (x : LinkSt) : LinkSt :=
  if cause = 1 then { lastSid := x.lastSid }
  else { lastSid := x.lastSid, fails := x.fails, pauseS := x.pauseS, lockUntil := x.lockUntil }

/-- A reset begins (R458): CAUSE 1 power-up, 2 RESET_N, 3 RESET command. What needs no power, the pins, the
measured temperatures, ETC and, except at power-up, the retained stores survive; all else takes its reset value
(DEDUCED, log 31). -/
def resetState (cause : Nat) (s : State) : State :=
  let p := prevSafeOf cause s
  { State.reset with
    pending := s.pending
    now := s.now
    etc := s.etc
    fresh := s.fresh
    supply := { state := supplyAt s, vmain := s.supply.vmain, vbak := s.supply.vbak
                storeCharged := s.supply.storeCharged && cause != 1
                storeMv := if cause = 1 then 0 else s.supply.storeMv
                storeFrom := if cause = 1 then s.now else s.supply.storeFrom
                storeFull := if cause = 1 then none else s.supply.storeFull
                enable := s.supply.enable
                claimStrap := s.supply.claimStrap, claimSince := s.supply.claimSince
                holdupAt := s.supply.holdupAt, sensorsOff := s.supply.state == .holdup && s.supply.sensorsOff
                derateW := s.supply.derateW, heat := s.supply.heat }
    sys := { order64 := s.sys.order64, rstCause := cause, prevSafe := p.1, prevValid := p.2 }
    pwm := { tripOn := s.pwm.tripOn }
    whl := { qsUnwatched := s.whl.qsUnwatched || (cause == 1 && decide (s.nv.qs0 ≠ [] ∨ s.nv.qs1 ≠ [])) }
    act := { ch := if cause = 1 then [] else wearOnly s }
    bgs := logPlace s (bgsAtReset s)
    obs := { counterMs := s.etc / ticksPerMs }
    sec := { signNext := s.sec.signNext, entropyNext := s.sec.entropyNext, ephNext := s.sec.ephNext
             release := if cause = 1 then none else s.sec.release }
    links := { spi := linkKept cause s.links.spi, can0 := linkKept cause s.links.can0
               can1 := linkKept cause s.links.can1 }
    cfg := { active := defaultBlock, committed := defaultBlock
             was := if s.sec.regsUp then some s.cfg.active else s.cfg.was }
    nv := { s.nv with starts := wrapInc 32 s.nv.starts, ksFail := false, kept := retentionOf s } }

/-! ## The start record (R463) -/

/-- The START entry: KIND 0 at the end of the reset sequence or its stop, 1 at a wake from SLEEP. -/
def startRecord (kind wakeBits : Nat) (s : State) : State :=
  let y := s.sys
  log 1 0 ([BitVec.ofNat 8 kind, BitVec.ofNat 8 (if kind = 0 then y.rstCause else 0)] ++ leBytes 2 wakeBits
    ++ [BitVec.ofNat 8 (y.prevSafe + flagAt y.prevValid 7), slotByte y.running, BitVec.ofNat 8 y.refA,
        BitVec.ofNat 8 y.refB] ++ leBytes 4 s.nv.starts ++ leBytes 2 y.selftest.toNat
    ++ [BitVec.ofNat 8 s.keys.trials, 0]) s

/-- The sequence stops (R459, R462): outputs stay off and SAFE_OUT_N low until the next reset. -/
def stopSequence (links : Bool) (s : State) : State :=
  startRecord 0 0 { s with sys := { s.sys with phase := 5, seqDone := true, linksUp := links } }

/-! ## Steps 1 to 4 -/

/-- REFERENCE_STARTED: a source of the reference runs (R67); steps 1 and 2 are complete and the ruler locks. -/
def doReferenceStarted (s : State) : State :=
  match s.sys.mode, s.sys.seqDone with
  | .reset, false =>
    if s.ruler.refPresent ∨ s.supply.state = .down then s
    else { s with
      ruler := { s.ruler with refPresent := true, phase := .locking }
      sys := { s.sys with step := max 2 s.sys.step } }
  | _, _ => s

/-- The self-test completes (R459, step 3); the ruler is locked by then (step 4). -/
def stepSelfTest (r : StepResult) (s : State) : State :=
  let f := r.failed.toNat
  let s := { s with
    ruler := { s.ruler with phase := .locked }
    sys := { s.sys with selftest := r.failed }
    sec := { s.sec with entropyFail := bitAt f 7 } }
  if bitAt f 0 || bitAt f 1 || bitAt f 6 then stopSequence false s
  else if bits f 2 4 ≠ 0 then stopSequence true s
  else raiseIf (bitAt f 7) 239 { s with sys := { s.sys with step := 4, phase := 1 } }

/-! ## Step 5 -/

/-- The banks and Kettles take the settings of the block that becomes active. -/
def driveBoot (s : State) : State :=
  let s := forEach (List.range s.banks) (fun b s => s.setBank b { s.bank b with banked := blkBanked s.cfg.active b }) s
  forEach (List.range s.kettles) (fun k s => ktUpdate k (s.setKettle k { s.kettle k with target := s.ktBoost k })) s

/-- The last complete pass of the retention refresh began more than 30 days before an instant (R438). -/
def Retention.stale (k : Retention) (x : Tick) : Bool := decide (k.began + 2592000 * ticksPerS < x)

/-- The retention refresh goes on where the Caddy has it; a complete pass begun more than 30 days before makes a new one
start at once (R438) (DEDUCED, log 106). -/
def bootRetention (s : State) : State :=
  let k := s.nv.kept
  let old := k.stale s.etc
  { s with bgs := { s.bgs with
    refreshPos := if old then 0 else k.pos, refreshBegan := k.began
    passBegan := if old then s.etc else k.passBegan, wroteAt := k.wroteAt, refreshNow := old } }

/-- The highest write count of the Caddy's blocks. -/
def highestWear (s : State) : Nat := s.nv.writes.foldl (fun m e => max m e.2) 0

/-- The groups that take effect at this reset: those in which the block that becomes active differs from the one that
was active when the reset came (R150) (DEDUCED, log 90). -/
def groupsAtReset (b : Block) (s : State) : List Nat :=
  match s.cfg.was with
  | some w => (List.range 9).filter (groupDiffers w b)
  | none => []

/-- Step 5: the Caddy is mounted, the key store authenticated, the configuration block active; wheel decoding
starts and the host links answer. In RETIRED the sequence stops here (R462). -/
def stepCaddy (r : StepResult) (s : State) : State :=
  let b := s.nv.cfg.getD defaultBlock
  let s := { s with
    nv := { s.nv with ksFail := !(r.keyStoreOk && keysAuthentic s) }
    cfg := { s.cfg with active := b, committed := b }
    lns := { s.lns with mapMode := blkU8 b 0x121 }
    sec := { s.sec with regsUp := true }
    bgs := { s.bgs with wearMax := highestWear s, spare := 591 - s.nv.retired.length }
    sys := { s.sys with step := 5, linksUp := true } }
  let s := newChallenge (bootRetention s)
  let s := driveBoot s
  let s := forEach (groupsAtReset b s) groupReport s
  let s := if s.nv.ksFail then fault 18 s else s
  let s := vbakCheck s
  if s.keys.life = .retired then stopSequence true s else s

/-! ## Step 6 -/

/-- The stored envelope comes into force if it verifies; one that does not raises source 236 (R98). -/
def bootEnvelope (s : State) : State :=
  match storedEnvelope s with
  | some e => { s with sec := { s.sec with envelope := some e } }
  | none => if s.nv.env0 = [] ∧ s.nv.env1 = [] then s else raise 236 s

/-- The newest save of the wear counters that reads well (R437). -/
def savedWear (s : State) : List (Nat × Nat) :=
  match s.nv.wear.find? (wearSound s) with
  | some b => wearOf b
  | none => []

/-- The wear counters come from their retained store, or from the Caddy (R437). -/
def bootWear (r : StepResult) (s : State) : State :=
  if s.sys.rstCause ≠ 1 ∧ r.wearStoreOk = true then s
  else
    let l := savedWear s
    forEach (List.range 64) (fun k s =>
      s.setChan k { s.chan k with shots := (l.getD k (0, 0)).1, eboost := (l.getD k (0, 0)).2 }) s

/-- A quick-start record fits the active WHEEL group (R177). -/
def recordFits (s : State) (r : QsRecord) : Bool :=
  r.nTeeth == s.nTeeth && r.gapMissing == s.gapMissing && r.gapCount == s.gapCount && r.gapPos == s.gapPos
    && r.camMarks == s.camMarks && r.zeroOfs == s.zeroOfs

/-- The quick-start copy with the higher QS_SEQ among those that read well (R178), with its location. -/
def storedRecord (s : State) : Option (QsRecord × Bool) :=
  let read := fun (block : Nat) (b : List Byte) =>
    if s.nv.badBlocks.get false block = false ∧ recordSound b = true then some (recordOf b) else none
  match read 139 s.nv.qs0, read 140 s.nv.qs1 with
  | some x, some y => if x.seq < y.seq then some (y, true) else some (x, false)
  | some x, none => some (x, false)
  | none, some y => some (y, true)
  | none, none => none

/-- The held position a usable record gives (R180), where the crank source has direction decoding (R174). -/
def holdRecord (r : QsRecord) (s : State) : State :=
  { s with whl := { s.whl with
    crank := { s.whl.crank with hasPos := sourceDecodes s, f := r.nextRev * s.nTeeth + r.nextPos, back := r.lastDir == 1 }
    revTeeth := r.revTeeth, qsTrack := true, lastEdge := r.stopEtc } }

/-- The quick-start record is restored (R175 to R179): with no copy that verifies, of those written, there is none; one
of other geometry is unusable, and so is one restored after crank edges (R470). -/
def bootRecord (s : State) : State :=
  match storedRecord s with
  | none => if s.nv.qs0 = [] ∧ s.nv.qs1 = [] then s else raise 20 { s with whl.qsInval := 5 }
  | some (r, c) =>
    let moved := s.whl.qsMoved
    let s := { s with whl := { s.whl with qs := r, qsCopy := c } }
    if !r.usable then s
    else if !recordFits s r then qsInvalidate 5 s
    else if moved then qsInvalidate 4 s
    else holdRecord r s

/-- The blocks of the copy of the Lens map saved last read well (R435, R439). -/
def mapReadable (s : State) : Bool :=
  let a := if s.nv.turn.get false 141 then 141 else 143
  !s.nv.badBlocks.get false a && !s.nv.badBlocks.get false (a + 1)

/-- The saved Lens map is restored where its MAC verifies and its geometry fits; a failed restore clears the map (R206,
R207, R215). -/
def bootMap (s : State) : State :=
  match s.nv.map with
  | none => s
  | some m =>
    if mapReadable s = true ∧ m.sound = true ∧ m.nTeeth = s.nTeeth ∧ m.gapMissing = s.gapMissing ∧ m.gapCount = s.gapCount ∧ m.gapPos = s.gapPos
        ∧ m.camMarks = s.camMarks ∧ m.zeroOfs = s.zeroOfs then
      raise 40 { s with lns := { s.lns with map := m.map, restored := true } }
    else raise 40 { s with lns := { s.lns with map := [], restoreFail := true } }

/-- Step 6. -/
def stepEnvelope (r : StepResult) (s : State) : State :=
  let s := bootMap (bootRecord (bootWear r (bootEnvelope s)))
  { s with sys := { s.sys with step := 6, phase := 2 } }

/-! ## Steps 7 to 9 -/

/-- The IMAGE entry of R443: slot, event (1 installed, 2 refused, 3 confirmed, 4 refused at start), reason, the
failing entry and offset of a task table, IMG_SEQ. -/
def logImage (x : Slot) (event reason : Nat) (place : Nat × Nat) (s : State) : State :=
  log 10 1 ([BitVec.ofNat 8 (slotCode x), BitVec.ofNat 8 event, BitVec.ofNat 8 reason, 0] ++ leBytes 2 place.1
    ++ leBytes 2 place.2 ++ leBytes 8 (imgSeq (imageOf s x).bytes)) s

/-- A slot is refused at start (R460, R291): its reason is shown; a refused image is reported. -/
def refuseSlot (x : Slot) (reason : Nat) (s : State) : State :=
  let s := match x with
    | .a => { s with sys.refA := reason }
    | .b => { s with sys.refB := reason }
  if reason = 1 then s
  else
    let place := if reason = 7 then (tableFault s (imgTableBytes (imageOf s x).bytes)).getD (0, 0) else (0, 0)
    raise 237 (logImage x 4 reason place s)

/-- The context of a declared task at image start (R296). -/
def bootContext (t : Task) : Ctx := { pc := t.entry, state := .idle, prioNow := t.prio }

/-- Every declared task gets its context (R296). -/
def declareTasks (tab : List Byte) (s : State) : State :=
  (List.range (leAt tab 6 2)).foldl (fun s i =>
    let e := entryAt tab i
    let t := taskOf e
    let s := s.setCtx (ctxOfEntry e) (bootContext t)
    { s with seq.task := s.seq.task.set none (ctxOfEntry e) (some t) }) { s with seq := {} }

/-- The contexts of tasks with START, in order of descending PRIO, then of SQ and SLOT (R296). -/
def startOrder (s : State) : List Nat :=
  sortBy (fun i => 8 - ((s.task i).map (fun t => t.prio)).getD 0)
    ((List.range 128).filter (fun i => ((s.task i).map (fun t => t.start)).getD false))

/-- The sequence ends: power mode RUN, the chargers are enabled where a Kettle's level asks for them. -/
def endSequence (phase : Nat) (s : State) : State :=
  ktLimits { s with sys := { s.sys with step := if phase = 3 then 9 else 8, phase := phase, seqDone := true, mode := .run } }

/-- A slot's image is loaded and runs (R296, R458 steps 8 and 9). -/
def runImage (x : Slot) (s : State) : State :=
  let b := (imageOf s x).bytes
  let s := { s with mem := {} }
  let s := s.memWrite 0x200000 (slice b 128 (imgCode b))
  let s := s.memWrite 0x400000 (slice b (128 + imgCode b) (imgData b))
  let s := declareTasks (imgTableBytes b) s
  let s := endSequence 3 { s with sys := { s.sys with running := some x, imageStart := s.etc } }
  let s := forEach (startOrder s) (activate 1) s
  startRecord 0 0 s

/-- SEL runs; on trial, TRIALS_LEFT is counted down first (R460). -/
def runSelected (s : State) : State :=
  let k := s.keys
  let s := if k.trial then writeKeys { k with trials := k.trials - 1 } s else s
  runImage k.sel s

/-- The other slot runs; SEL becomes that slot and TRIAL clears (R460) (DEDUCED, log 43). -/
def runOther (s : State) : State :=
  let k := s.keys
  runImage (otherSlot k.sel) (writeKeys { k with sel := otherSlot k.sel, trial := false } s)

/-- Step 8: SEL is tried, then the other slot; with neither the sequence stops in NOIMAGE (R460, R461). -/
def stepImage (s : State) : State :=
  let x := s.keys.sel
  match startRefusal s x with
  | 0 => runSelected s
  | r =>
    let s := refuseSlot x r s
    match startRefusal s (otherSlot x) with
    | 0 => runOther s
    | r' => startRecord 0 0 (endSequence 4 (refuseSlot (otherSlot x) r' s))

/-- An image slot with a block that reads uncorrectable shows empty at the next start (R439). -/
def dropBadImages (s : State) : State :=
  let s := if (List.range 64).any (fun b => s.nv.badBlocks.get false b) then { s with nv.imgA := {} } else s
  if (List.range 64).any (fun b => s.nv.badBlocks.get false (64 + b)) then { s with nv.imgB := {} } else s

/-- RESET_STEP_COMPLETE: the timed step in progress completes (R458); without a running reference the sequence
holds. -/
def doResetStepComplete (r : StepResult) (s : State) : State :=
  match s.sys.mode, s.sys.seqDone with
  | .reset, false =>
    if s.supply.state = .down ∨ s.ruler.refPresent = false then s
    else match s.sys.step with
      | 2 => stepSelfTest r s
      | 4 => stepCaddy r s
      | 5 => stepEnvelope r s
      | 6 => stepImage (dropBadImages s)
      | _ => s
  | _, _ => s

/-! ## Causes of a reset -/

/-- RESET_COMMAND_DELAY_EXPIRY: 10 ms after the RESET response is ready the reset sequence starts (R140). -/
def doResetCommandDelayExpiry (s : State) : State :=
  match s.sys.resetDue with
  | some d => if d ≤ s.etc then resetState 3 s else s
  | none => s

end Sys2Proof.Machine
end

