-- ==== Sys2Proof/Machine/Supply.lean ====
section
/-! DEFINITION. Supplies, discretes, temperatures and the reference (02_connectors_supplies_ratings.md R42 to R54,
R57, R68, R69, R72, R73; 01_event_road.md R33). -/

namespace Sys2Proof.Machine

/-! ## Supply states -/

/-- A supply input's state. -/
def State.input (s : State) : SupplyInput → SupplyIn
  | .vmain => s.supply.vmain
  | .vbak => s.supply.vbak

/-- Write a supply input's state. -/
def State.setInput (s : State) (i : SupplyInput) (x : SupplyIn) : State :=
  match i with
  | .vmain => { s with supply.vmain := x }
  | .vbak => { s with supply.vbak := x }

/-- The inputs judged good: bit 0 VMAIN, bit 1 VBAK. -/
def goodMask (s : State) : Nat := flagAt s.supply.vmain.good 0 + flagAt s.supply.vbak.good 1

/-- The SUPPLY entry of R443: from, to, the good and the overvoltage inputs, the steps of R50 completed and the
duration of a HOLDUP in microseconds (DESIGN CHOICE, log 76). -/
def logSupply (old new : SupplyState) (steps us : Nat) (s : State) : State :=
  log 7 1 ([BitVec.ofNat 8 (supplyCode old), BitVec.ofNat 8 (supplyCode new), BitVec.ofNat 8 (goodMask s),
    BitVec.ofNat 8 (flagAt s.supply.vmain.overvolt 0 + flagAt s.supply.vbak.overvolt 1), BitVec.ofNat 8 steps, 0, 0, 0]
    ++ leBytes 4 (sat 0xFFFFFFFF us)) s

/-- The supply state changes (R45): source 1, the logbook, the Mirror port and a wake in STANDBY (R467). -/
def supplyTo (new : SupplyState) (steps us : Nat) (s : State) : State :=
  let old := s.supply.state
  let s := { s with supply := { s.supply with state := new, before := old } }
  let s := mirrorState 2 (supplyCode new + supplyCode old * 256) (raise 1 s)
  logSupply old new steps us s

/-- Steps 1 to 4 of R50: profiles end, commits are refused, chargers stop, VSWn and VA5 go off, the flush of the
logbook begins; sessions close (R89), bridge gates go to high impedance (R384) and off-state tests stop (R365). -/
def holdupSteps (s : State) : State :=
  let s := endAll 7 (withdrawAll 9 s)
  let s := stopTests (fun _ => true) (ebAllOff (ktLimits s))
  let s := { s with supply := { s.supply with sensorsOff := true, holdupSteps := 4 } }
  startFlush (closeAll s)

/-- Entry to HOLDUP (R50); in SLEEP the module wakes first (R469). -/
def enterHoldup (s : State) : State :=
  let s := supplyTo .holdup 0 0 s
  let s := { s with supply := { s.supply with holdupAt := s.etc, holdupSteps := 0, storeFull := none } }
  match s.sys.mode with
  | .sleep | .waking => wake 8 s
  | _ => holdupSteps (wake 8 s)

/-- A channel's switches are held off as the module stops (R52): no profile is in flight (R46). -/
def chanDown (k : Nat) (s : State) : State :=
  s.setChan k { s.chan k with phase := .idle, feedOn := false, withheld := false, dither := 0, slipped := false }

/-- Entry to DOWN (R52): all switches and bridge gates are held off, no profile is in flight, the chargers are off
(R46) and the module stops. -/
def enterDown (s : State) : State :=
  let s := { s with supply := { s.supply with
    state := .down, before := s.supply.state, storeCharged := false, storeFull := none } }
  let s := forEach (s.act.ch.map (·.1)) chanDown (ebAllOff s)
  forEach (List.range s.kettles) ktUpdate (stopTests (fun _ => true) (ktLimits s))

/-- Neither input is good (R42): HOLDUP, or DOWN where the store has not been charged (R54). -/
def bothLost (s : State) : State := if s.supply.storeCharged then enterHoldup s else enterDown s

/-- The state moves between MAIN and BACKUP, or back from HOLDUP; chargers follow, VBAK's absence is judged. -/
def supplyRun (new : SupplyState) (steps us : Nat) (s : State) : State :=
  vbakCheck (ktLimits (wake 12 (supplyTo new steps us s)))

/-- A crossing that would end an input's good judgement is in its hold (R43). -/
def failing (x : SupplyIn) : Bool :=
  match x.crossing with
  | some (_, .uvFalling) | some (_, .ovRising) => x.good
  | _ => false

/-- The supply state that follows MAIN (R42). While VBAK's own loss is in its hold the switch-over gap of R48 goes on,
so that both inputs failing together lead from MAIN to HOLDUP directly (R45). -/
def fromMain (s : State) : State :=
  if s.supply.vmain.good then vbakCheck s
  else if !s.supply.vbak.good then bothLost s
  else if failing s.supply.vbak then s
  else supplyRun .backup 0 0 s

/-- The supply state after a judgement (R42, R44). -/
def reselect (s : State) : State :=
  match s.supply.state with
  | .main => fromMain s
  | .backup =>
    if s.supply.vbak.good then s else if s.supply.vmain.good then supplyRun .main 0 0 s else bothLost s
  | .holdup => s
  | .down => if s.supply.vmain.good || s.supply.vbak.good then resetState 1 s else s

/-- Fault source 4 and interrupt source 5 follow the overvoltage judgements (R43). -/
def overvoltCheck (i : SupplyInput) (before : Bool) (s : State) : State :=
  if s.supply.state = .down then s
  else if (s.input i).overvolt && !before then
    logSupply s.supply.state s.supply.state 0 0 (faultOnset 4 (raise 5 s))
  else if !s.supply.vmain.overvolt && !s.supply.vbak.overvolt then faultEnd 4 s
  else s

/-- A crossing of this threshold in this direction is one that decides if it holds (R43): below the falling
undervoltage threshold, above the rising one, above the rising overvoltage threshold, below the falling one. -/
def decides (th : Threshold) (up : Bool) : Bool :=
  match th with
  | .uvRising | .ovRising => up
  | .uvFalling | .ovFalling => !up

/-- SUPPLY_THRESHOLD_CROSSING: an input crosses a threshold: a crossing that decides starts its 0.2 microsecond hold in
the place of one still in its hold; a crossing back ends the hold without a change (R43), and with it a switch-over gap
that waited for VBAK. -/
def doSupplyThresholdCrossing (i : SupplyInput) (th : Threshold) (up : Bool) (millivolt : Nat) (s : State) : State :=
  let waited := failing s.supply.vbak
  let s := s.setInput i { s.input i with
    crossing := if decides th up then some (s.now, th) else none, millivolt := millivolt }
  if s.supply.state = .main ∧ s.supply.vmain.good = false ∧ waited = true ∧ failing s.supply.vbak = false then fromMain s
  else s

/-- The input after a crossing that held (R43). -/
def judged (th : Threshold) (now : Tick) (x : SupplyIn) : SupplyIn :=
  match th with
  | .uvRising | .ovFalling =>
    { x with good := true, overvolt := false, crossing := none, goodSince := if x.good then x.goodSince else now }
  | .uvFalling => { x with good := false, overvolt := false, crossing := none }
  | .ovRising => { x with good := false, overvolt := true, crossing := none }

/-- Fault source 3 follows a judgement; before step 5 of the reset sequence no configuration is in force (R458). -/
def vbakJudged (s : State) : State :=
  if s.supply.state = .down ∨ (s.sys.mode = .reset ∧ s.sys.step < 5) then s else vbakCheck s

/-- SUPPLY_JUDGEMENT: a crossing that has held for 0.2 microseconds changes the judgement (R43). -/
def doSupplyJudgement (i : SupplyInput) (s : State) : State :=
  let x := s.input i
  match x.crossing with
  | some (t0, th) =>
    if s.now < t0 + 200 * ticksPerNs then s
    else reselect (vbakJudged (overvoltCheck i x.overvolt (s.setInput i (judged th s.now x))))
  | none => s

/-- SUPPLY_DEBOUNCE_EXPIRY: VMAIN has been good for 100 ms in BACKUP (R44). -/
def doSupplyDebounceExpiry (s : State) : State :=
  let x := s.supply.vmain
  if s.supply.state = .backup ∧ x.good = true ∧ x.goodSince + 100 * ticksPerMs ≤ s.now then supplyRun .main 0 0 s else s

/-- An input has been good for 1 ms (R51). -/
def goodMs (s : State) (x : SupplyIn) : Bool := x.good && decide (x.goodSince + ticksPerMs ≤ s.now)

/-- HOLDUP ends (R51): the chargers and the sensor supplies restart. -/
def leaveHoldup (new : SupplyState) (s : State) : State :=
  let us := (s.etc - s.supply.holdupAt) / ticksPerUs
  let steps := s.supply.holdupSteps
  supplyRun new steps us { s with supply := { s.supply with
    sensorsOff := asleep s, holdupSteps := 0 } }

/-- HOLDUP_RECOVERY_EXPIRY: an input has stayed good for 1 ms in HOLDUP: to MAIN if VMAIN has, else to BACKUP
(R51). -/
def doHoldupRecoveryExpiry (s : State) : State :=
  match s.supply.state with
  | .holdup =>
    if goodMs s s.supply.vmain then leaveHoldup .main s
    else if goodMs s s.supply.vbak then leaveHoldup .backup s
    else s
  | _ => s

/-- HOLDUP_STORE_EXHAUSTED: the store falls to 12 V (R52). -/
def doHoldupStoreExhausted (s : State) : State :=
  match s.supply.state with
  | .holdup => enterDown { s with supply := { s.supply with storeMv := 12000 } }
  | _ => s

/-- HOLDUP_STORE_CHARGED: the store first reaches 36 V (R54); at constant current it rises linearly, so it reaches
40 V after another ninth of the time so far. -/
def doHoldupStoreCharged (s : State) : State :=
  match s.supply.state with
  | .down => s
  | _ => { s with supply := { s.supply with
      storeCharged := true, storeMv := 36000
      storeFull := some (s.now + (s.now - s.supply.storeFrom) / 9) } }

/-! ## Discretes -/

/-- ENABLE_CHANGE (R69): off holds the power stage off, ends profiles and withdraws committed events; each change
is reported. -/
def doEnableChange (on : Bool) (s : State) : State :=
  if on = s.supply.enable then s
  else
    let s := { s with supply.enable := on }
    if s.supply.state = .down then s
    else
      let s := raise 2 s
      let s := if on then s else ebAllOff (endAll 8 (withdrawAll 10 s))
      wake 12 (ktLimits s)

/-- CLAIM_N is strapped or released (R68): its removal cancels a release countdown (R85). -/
def doClaimNChange (on : Bool) (s : State) : State :=
  if on = s.supply.claimStrap then s
  else
    let s := { s with supply := { s.supply with claimStrap := on, claimSince := s.etc } }
    if on = false ∧ s.sec.release.isSome = true then raise 235 { s with sec.release := none } else s

/-- SAFE_OUT_N is low (R70): in SAFE, throughout the reset sequence, in NOIMAGE and in DOWN. -/
def safeOutLow (s : State) : Bool := s.flt.safe || s.supply.state == .down || s.sys.phase != 3

/-! ## Temperatures (R72, R73) -/

/-- The number of a domain: banks 0 to 7, chargers 8 to 11. -/
def domainIdx : ThermalDomain → Nat
  | .bank b => b.val
  | .charger k => 8 + k.val

/-- The level of a junction temperature: 1 from 135, 2 from 150, 3 from 165 degrees C (R73). -/
def heatLevel (celsius : Int) : Nat :=
  if 165 ≤ celsius then 3 else if 150 ≤ celsius then 2 else if 135 ≤ celsius then 1 else 0

/-- The thermal fault follows the highest level (R73, R412). -/
def thermalFault (s : State) : State :=
  if s.supply.heat.any (fun e => e.2 == 3) then faultOnset 5 s else faultEnd 5 s

/-- THERMAL_THRESHOLD: a junction temperature crosses 135, 150 or 165 degrees C (R73). -/
def doThermalThreshold (d : ThermalDomain) (celsius : Int) (s : State) : State :=
  let i := domainIdx d
  let old := s.supply.heat.get 0 i
  let new := heatLevel celsius
  if (i < 8 ∧ s.banks ≤ i) ∨ 8 + s.kettles ≤ i ∨ new = old then s
  else
    let s := { s with supply.heat := s.supply.heat.set 0 i new }
    let s := raiseIf ((decide (old < new) && decide (old < 2)) || (decide (2 ≤ old) && decide (new < 2))) 4 s
    thermalFault (ktLimits s)

/-- The derated charger input at a cold-plate temperature in tenths of a degree C, in W (R72): 150 W up to 70,
110 W at 80, 70 W at 90, between them linear, rounded down; above 90 as at 90 (DEDUCED, log 25). -/
def derated (tenths : Int) : Nat :=
  let t := clampInt 700 900 tenths
  ((1500 - 4 * (t - 700)) / 10).toNat

/-- THERMAL_DERATING_CHANGE: a measured temperature changes the derated limit of a charger (R72, R335). -/
def doThermalDeratingChange (k : Nat) (tenths : Int) (s : State) : State :=
  let w := derated tenths
  if s.kettles ≤ k ∨ w = derate s k then s
  else ktLimit k (raise 4 { s with supply.derateW := s.supply.derateW.set 150 k w })

/-! ## Sensor supplies (R57, R63) -/

/-- The fault source of a sensor supply (R417). -/
def railFault : SensorRail → Nat
  | .vsw n => 8 + n.val
  | .va5 => 6

/-- Show or clear the fault of a sensor supply (R192 VSW_FAULT). -/
def railShow (v : Bool) (r : SensorRail) (s : State) : State :=
  match r with
  | .vsw n => s.setWheel n.val { s.wheel n.val with vswFault := v }
  | .va5 => { s with supply.va5Fault := v }

/-- The fault of a sensor supply is shown. -/
def railBad (s : State) : SensorRail → Bool
  | .vsw n => (s.wheel n.val).vswFault
  | .va5 => s.supply.va5Fault

/-- SENSOR_SUPPLY_FAULT: a short or an overload of a VSWn or VA5 that is on (R57, R63). -/
def doSensorSupplyFault (r : SensorRail) (s : State) : State :=
  if s.supply.sensorsOff || railBad s r then s else faultOnset (railFault r) (raise 6 (railShow true r s))

/-- SENSOR_SUPPLY_RECOVERY: the short or overload has ended (R57, R404). -/
def doSensorSupplyRecovery (r : SensorRail) (s : State) : State :=
  if railBad s r then faultEnd (railFault r) (raise 6 (railShow false r s)) else s

/-! ## The reference (R33) -/

/-- REFERENCE_LOSS: no reference edge for 200 ns (R33): holdover on the last map; a sequence whose ruler has not yet
locked holds again (R67). -/
def doReferenceLoss (s : State) : State :=
  match s.ruler.phase with
  | .locked | .relocking =>
    faultOnset 1 (raise 3 { s with ruler := { s.ruler with phase := .holdover, lossAt := s.etc, refPresent := false } })
  | .locking => { s with ruler := { s.ruler with phase := .off, refPresent := false } }
  | _ => s

/-- HOLDOVER_EXPIRY: holdover exceeds 10 ms; no further event commits and committed events that a withdrawal
still reaches are withdrawn (R33, R241). -/
def doHoldoverExpiry (s : State) : State :=
  match s.ruler.phase with
  | .holdover =>
    if s.ruler.tooLong ∨ s.etc < s.ruler.lossAt + 10 * ticksPerMs then s
    else
      let s := forEach (slotsWhere s committed) (withdraw 4) { s with ruler.tooLong := true }
      faultOnset 2 (raise 3 s)
  | _ => s

/-- REFERENCE_RETURN: the reference returns and the ruler starts to relock (R33). -/
def doReferenceReturn (s : State) : State :=
  match s.ruler.phase with
  | .holdover => faultEnd 1 { s with ruler := { s.ruler with
      phase := .relocking, refPresent := true, lastHoldoverUs := (s.etc - s.ruler.lossAt) / ticksPerUs } }
  | _ => s

/-- The ruler is locked again: commits resume, source 3 is raised, the relock is counted (R33, R432). -/
def relocked (s : State) : State :=
  faultEnd 2 (raise 3 { s with ruler := { s.ruler with
    phase := .locked, refPresent := true, tooLong := false, relocks := satInc 255 s.ruler.relocks } })

/-- RELOCK_COMPLETE: the relock is reported (R33). -/
def doRelockComplete (s : State) : State :=
  match s.ruler.phase with
  | .relocking => relocked s
  | _ => s

end Sys2Proof.Machine
end

