-- ==== Sys2Proof/Machine/Power.lean ====
section
/-! DEFINITION. The power modes (15_startup_sleep_power.md R465 to R469): the requests for STANDBY and SLEEP, the
passage into SLEEP and the returns to RUN, with the timers made up (12_pwm_timers.md R393). -/

namespace Sys2Proof.Machine

/-! ## Conditions and refusals -/

/-- A DMA transfer runs (R465). -/
def dmaBusy (s : State) : Bool := s.dma.ch.any (fun e => e.2.phase == .load || e.2.phase == .move)

/-- The record or map write of a stall is not complete (R465). -/
def stallWritePending (s : State) : Bool :=
  s.bgs.jobs.any (fun j => match j with
    | .quickStart _ | .lensMap => true
    | _ => false)

/-- `SYS_PWR_STAT.REFUSE` of a request for STANDBY, 0 when every condition of R465 holds. -/
def standbyRefusal (s : State) : Nat :=
  if s.whl.sync ≠ .nosync then 1
  else if s.act.ch.any (fun e => e.2.phase != .idle) then 2
  else if s.pwm.eb.any (fun e => e.2.en) then 3
  else if dmaBusy s then 4
  else if stallWritePending s then 5
  else 0

/-- The refusal of a request for SLEEP (R468). -/
def sleepRefusal (s : State) : Nat :=
  match standbyRefusal s with
  | 0 =>
    if s.sec.release.isSome then 6
    else if s.supply.state ≠ .main ∧ s.supply.state ≠ .backup then 7
    else if caddyBusy s || s.sec.transfer.isSome then 8
    else 0
  | r => r

/-- A request is refused; it is not kept (R465). -/
def refusePower (r : Nat) (s : State) : State := { s with sys.refuse := r }

/-! ## STANDBY (R465 to R467) -/

/-- Entry to STANDBY: chargers, off-state tests, digitisers, lanes, sequencers and DMA stand still (R457). -/
def enterStandby (s : State) : State :=
  let s := { s with sys := { s.sys with mode := .standby, standbyAt := some s.etc, wakePending := 0 } }
  stopTests (fun _ => true) (ktLimits s)

/-- STANDBY_REQUEST: REQ = STANDBY (R465). -/
def doStandbyRequest (s : State) : State :=
  match s.sys.mode with
  | .run => if standbyRefusal s = 0 then enterStandby s else refusePower (standbyRefusal s) s
  | _ => s

/-- AUTO_STANDBY: AUTO_STBY seconds after a stall with no crank edge since, one attempt (R465). -/
def doAutoStandby (s : State) : State :=
  match s.sys.stallAt with
  | some x =>
    if s.sys.autoStby = 0 ∨ s.etc < x + s.sys.autoStby * ticksPerS ∨ s.sys.mode ≠ .run then s
    else doStandbyRequest { s with sys.stallAt := none }
  | none => s

/-- RUN is reached again: the causes are shown, chargers and lanes resume. -/
def backToRun (s : State) : State :=
  let s := { s with sys := { s.sys with
    mode := .run, wakeSrc := s.sys.wakePending, wakePending := 0, standbyAt := none } }
  let s := { s with seq.runSince := s.etc }
  lanesResume (ktLimits s)

/-- The watchdog's count restarts at a wake, which gives the code a full timeout (R421, R466). -/
def watchdogWake (s : State) : State := { s with flt.wdt := { s.flt.wdt with since := s.etc, warned := false } }

/-- STANDBY_WAKE: a wake cause returns the module to RUN (R467). -/
def doStandbyWake (s : State) : State :=
  match s.sys.mode with
  | .standby => if s.sys.wakePending = 0 then s else backToRun (watchdogWake s)
  | _ => s

/-! ## Into SLEEP (R468) -/

/-- The passage to SLEEP begins: the logbook flush, chargers stopped, Kettles bled to 42 V. -/
def enterSleep (s : State) : State :=
  let s := { s with sys := { s.sys with mode := .entering, before := s.sys.mode, wakePending := 0 } }
  let s := stopTests (fun _ => true) (startFlush (ktLimits s))
  forEach (List.range s.kettles) ktUpdate s

/-- SLEEP_REQUEST: REQ = SLEEP (R468). -/
def doSleepRequest (s : State) : State :=
  match s.sys.mode with
  | .run | .standby => if sleepRefusal s = 0 then enterSleep s else refusePower (sleepRefusal s) s
  | _ => s

/-- AUTO_SLEEP: AUTO_SLP seconds after STANDBY was entered, one attempt (R468). -/
def doAutoSleep (s : State) : State :=
  match s.sys.mode, s.sys.standbyAt with
  | .standby, some x =>
    if s.sys.autoSlp = 0 ∨ s.etc < x + s.sys.autoSlp * ticksPerS then s
    else doSleepRequest { s with sys.standbyAt := none }
  | _, _ => s

/-- Steps 1 and 2 of R468 are complete: the flush is written and every Kettle is at 42 V or less. -/
def sleepReady (s : State) : Bool :=
  !flushing s && (List.range s.kettles).all (fun k => decide ((s.kettle k).volt ≤ 168))

/-- The crank primary is a Hall sensor, which SLEEP leaves without supply (R179). -/
def hallCrank (s : State) : Bool := (List.range 8).any (fun n => s.role n == 1 && !isVr s n)

/-- SLEEP_ENTRY_COMPLETE: steps 3 to 5 of R468 are carried out and SLEEP is reached; the EB units are disabled in it
(R384). -/
def doSleepEntryComplete (s : State) : State :=
  match s.sys.mode with
  | .entering =>
    if sleepReady s then
      let s := ebAllOff s
      { s with
        sys := { s.sys with mode := .sleep, sleeps := wrapInc 16 s.sys.sleeps, sleptAt := s.etc, standbyAt := none }
        sleepBase := s.etc
        supply := { s.supply with sensorsOff := true }
        ruler := { s.ruler with phase := .off, refPresent := false }
        whl := { s.whl with qsUnwatched := s.whl.qsUnwatched || (s.whl.qs.usable && hallCrank s) } }
    else s
  | _ => s

/-- What a wake cause does to a passage (R468, R469): before step 4 it abandons the entry with REFUSE 10, and the
module is back in its previous mode, where the causes of R467 still act; in SLEEP the return to RUN begins. -/
def powerSettle (s : State) : State :=
  if s.sys.wakePending = 0 then s
  else match s.sys.mode with
    | .entering =>
      if sleepReady s then s
      else
        let keep : BitVec 13 := if s.sys.before = .standby then s.sys.wakePending &&& 0x00F0#13 else 0
        let s := { s with sys := { s.sys with mode := s.sys.before, refuse := 10, wakePending := keep } }
        lanesResume (forEach (List.range s.kettles) ktUpdate (ktLimits s))
    | .sleep => { s with sys.mode := .waking }
    | _ => s

/-! ## Out of SLEEP (R393, R469) -/

/-- A master that ran on in SLEEP expired in it (R393, R394). -/
def expiredAsleep (s : State) (m : Nat) : Bool :=
  decide (22 ≤ m) && (s.timer m).state == .expired && decide (s.sys.sleptAt ≤ (s.timer m).expAt)

/-- What the sleep brought timer `n` (R393, R394): the expiry a time timebase reached, or the expiry of a master that
ran on. -/
def makeUpOne (n : Nat) (s : State) : State :=
  let c := s.timer n
  if n < 22 ∧ tbNs c.run.tb ≠ 0 ∧ timDue c ≤ s.etc then timAct timFuel .expire n (timDue c) s
  else if c.run.tb = 6 ∧ expiredAsleep s c.run.master = true then
    let s := s.setTimer n { c with count := c.count + 1 }
    if c.target.toNat ≤ c.count + 1 then timAct timFuel .expire n (s.timer c.run.master).expAt s else s
  else s

/-- The timers that a make-up brought to expiry have MADEUP set, linked slaves among them (R393). -/
def markMadeUp (old s : State) : State :=
  forEach ((List.range 24).filter (fun m => (old.timer m).state != .expired && (s.timer m).state == .expired))
    (fun m s => s.setTimer m { s.timer m with madeUp := true }) s

/-- Make up timer `n` at wake (R393): one with a time timebase whose TARGET passed during the sleep expires, and its
slaves from that expiry instant; a timer that counts edges or captures has UNSEEN set. -/
def makeUp (n : Nat) (s : State) : State :=
  let c := s.timer n
  if c.state ≠ .running then s
  else
    let s := if c.run.tb = 5 ∨ c.run.capture = true then s.setTimer n { c with unseen := true } else s
    markMadeUp s (makeUpOne n s)

/-- All timers are made up in ascending order, with the duration in `TIM_MAKEUP` (R393). -/
def makeUpAll (s : State) : State :=
  forEach (List.range 24) makeUp
    { s with tim := { s.tim with makeupUs := sat 0xFFFFFFFF ((s.etc - s.sys.sleptAt) / ticksPerUs) } }

/-- The sessions that lapsed in SLEEP close (R469). -/
def closeLapsed (s : State) : State :=
  [Link.spi, Link.can0, Link.can1].foldl (fun s l => if lapsed s l then closeSession l s else s) s

/-- The crank primary is a VR sensor, whose comparator SLEEP keeps armed (R179). -/
def vrCrank (s : State) : Bool := (List.range 8).any (fun n => s.role n == 1 && isVr s n)

/-- The module returns to RUN: the reference restarts, the ruler relocks, the timers are made up, the sensor
supplies are restored, the cores resume and the START entry is written; after an entry to HOLDUP the steps of R50
follow. -/
def wakeUp (s : State) : State :=
  let s := watchdogWake s
  let s := { s with supply.sensorsOff := false }
  let w := s.sys.wakePending
  let s := makeUpAll { relocked s with sys.mode := .run }
  let s := closeLapsed (backToRun s)
  let s := startRecord 1 w.toNat s
  match s.supply.state with
  | .holdup => holdupSteps s
  | _ => s

/-- SLEEP_WAKE: a cause of R469 returns the module to RUN; `cause` names one that comes from outside: 0 a crossing on
a VR crank primary, 1 and 2 WUP on CAN0 and CAN1, 3 CS_N falling. -/
def doSleepWake (cause : Option (Fin 4)) (s : State) : State :=
  if !asleep s then s
  else
    let s := match cause with
      | some 0 => if vrCrank s then wake 0 (qsInvalidate 7 s) else s
      | some c => wake c.val s
      | none => s
    if s.sys.wakePending = 0 then s else wakeUp s

/-! ## RESET_N (R68) -/

/-- RESET_N was low for at least 10 microseconds: the reset sequence starts at its rising edge. -/
def doResetN (s : State) : State :=
  match s.supply.state with
  | .down => s
  | _ => resetState 2 s

end Sys2Proof.Machine
end

