-- ==== Sys2Proof/Machine/Irq.lean ====
section
/-! DEFINITION. Claims and completions, the moderation hold, the grace deadline, acknowledgement and the watchdog
(13_interrupts_fault_collection.md R407 to R410, R415, R417, R420, R421). -/

namespace Sys2Proof.Machine

/-- The state of an interrupt target. -/
def State.target (s : State) : IrqTarget → IrcTarget
  | .host => s.irc.host
  | .mgmt => s.irc.mgmt

/-- Write the state of an interrupt target. -/
def State.setTarget (s : State) (g : IrqTarget) (x : IrcTarget) : State :=
  match g with
  | .host => { s with irc := { s.irc with host := x } }
  | .mgmt => { s with irc := { s.irc with mgmt := x } }

/-- A refused claim or completion is counted (R407). -/
def IrcTarget.refuse (x : IrcTarget) : IrcTarget := { x with ccRef := true, refused := satInc 65535 x.refused }

/-- A claim of source `n`: pending clears, active is set and the level is recorded (R407). -/
def IrcTarget.claim (n level : Nat) (x : IrcTarget) : IrcTarget :=
  { x with
    pend := x.pend &&& ~~~(BitVec.twoPow 256 n)
    act := x.act ||| BitVec.twoPow 256 n
    recLevel := x.recLevel.set 0 n level
    claimed := n
    ccRef := false }

/-- A completion of source `n` (R407). -/
def IrcTarget.complete (n : Nat) (x : IrcTarget) : IrcTarget :=
  { x with act := x.act &&& ~~~(BitVec.twoPow 256 n), recLevel := x.recLevel.set 0 n 0, ccRef := false }

/-- The source a claim write claims, 0 where it is refused (R407): the best deliverable one for SRC 0, else SRC
if it is deliverable. -/
def claimable (s : State) (x : IrcTarget) (src : Nat) : Nat :=
  if src = 0 then best s x else if deliverable s x src then src else 0

/-- IRQ_CLAIM: a claim write acts at its arrival (R407). -/
def doIrqClaim (g : IrqTarget) (src : Nat) (s : State) : State :=
  let x := s.target g
  let n := claimable s x src
  s.setTarget g (if n = 0 then { x.refuse with claimed := 0 } else x.claim n (s.level n))

/-- IRQ_COMPLETE: a completion of an active source (R407). -/
def doIrqComplete (g : IrqTarget) (src : Nat) (s : State) : State :=
  let x := s.target g
  s.setTarget g (if src = 0 ∨ x.act.getLsbD src = false then x.refuse else x.complete src)

/-- MODERATION_HOLD_END: MOD_US after the release the hold ends (R410). -/
def doModerationHoldEnd (s : State) : State :=
  match s.irc.hold with
  | some h => if h.release + s.irc.modUs * ticksPerUs ≤ s.etc then { s with irc := { s.irc with hold := none } } else s
  | none => s

/-- GRACE_DEADLINE: the deadline is reached with a fault pending (R415). -/
def doGraceDeadline (s : State) : State := graceDue s

/-- FAULT_ACKNOWLEDGE: a write of 1 to sticky bits (R415); one at or after the deadline comes too late. -/
def doFaultAcknowledge (w : Nat) (mask : Word) (s : State) : State := acknowledge w mask (graceDue s)

/-! ## The watchdog -/

/-- The period of TIMEOUT in ticks. -/
def Watchdog.period (w : Watchdog) : Nat := w.timeout * ticksPerMs

/-- The count restarts. -/
def Watchdog.restart (now : Tick) (w : Watchdog) : Watchdog := { w with since := now, warned := false }

/-- An accepted service: the count restarts and TOKEN takes its next value (R420). -/
def Watchdog.accept (now : Tick) (n : Nat) (w : Watchdog) : Watchdog :=
  { w.restart now with service := some now, bad := false, token := Config.nextToken n }

/-- A service comes earlier than WINDOW/256 of TIMEOUT after the previous accepted one (R420). -/
def Watchdog.early (now : Tick) (w : Watchdog) : Bool :=
  match w.service with
  | some x => decide (256 * (now - x) < w.window * w.period)
  | none => false

/-- WATCHDOG_SERVICE: a write of `FLT_WDT_SVC` (R420). -/
def doWatchdogService (v : BitVec 16) (s : State) : State :=
  let w := s.flt.wdt
  if w.timeout = 0 then s
  else if v = ~~~w.token ∧ w.early s.etc = false then
    { s with flt.wdt := w.accept s.etc s.fresh, fresh := s.fresh + 1 }
  else fault 0 { s with flt.wdt := { w.restart s.etc with bad := true } }

/-- WATCHDOG_TIMEOUT: the count reaches TIMEOUT: fault source 0 (R420), or in STANDBY and SLEEP a wake and no fault
(R421, R466). -/
def doWatchdogTimeout (s : State) : State :=
  let w := s.flt.wdt
  if w.timeout = 0 ∨ s.etc < w.since + w.period then s
  else match s.sys.mode with
    | .reset | .run => fault 0 { s with flt.wdt := w.restart s.etc }
    | .standby => wake 7 { s with flt.wdt := w.restart s.etc }
    | .entering => wake 7 { s with flt.wdt := w.restart s.etc }
    | .sleep | .waking => wake 7 s

/-- WATCHDOG_WARNING: the count passes 3/4 of TIMEOUT (R420). -/
def doWatchdogWarning (s : State) : State :=
  let w := s.flt.wdt
  if w.timeout = 0 ∨ w.warned = true ∨ 4 * (s.etc - w.since) < 3 * w.period then s
  else raise 252 { s with flt.wdt := { w with warned := true } }

/-- A write of `FLT_WDT_CFG` (R420, R426): LOCK freezes it; the count starts where the watchdog was off (DEDUCED,
log 60). -/
def writeWdtCfg (v : Nat) (s : State) : State :=
  let w := s.flt.wdt
  if w.lock then s
  else
    let w' := { w with timeout := bits v 0 16, window := bits v 16 8, lock := bitAt v 24 }
    { s with flt.wdt := if w.timeout = 0 then { w'.restart s.etc with service := none } else w' }

/-- HANDSHAKE_STALL: a timing-core handshake stays incomplete for 10 microseconds (R417). -/
def doHandshakeStall (s : State) : State := fault 23 s

/-- MGMT_CORE_STALL: no management core progress for 10 ms (R417). -/
def doMgmtCoreStall (s : State) : State := fault 22 s

end Sys2Proof.Machine
end

