-- ==== Sys2Proof/Machine/Frames.lean ====
section
/-! DEFINITION. Ohmac frames and messages on the way out (04_ohmac_command_set.md R111 to R118, R125 to R130): the
framing of a message, the mailbox and the CAN ports, LINK_ERROR, sealing, and the response to a request. -/

namespace Sys2Proof.Machine

/-! ## Frames -/

/-- The greatest PLEN of a link (R113). -/
def plenMax : Link → Nat
  | .spi => 502
  | _ => 54

/-- A frame from the module (R111): FCTL has version 1 and DIR set. -/
def frameBytes (first last : Bool) (mtag : Byte) (seg : Nat) (payload : List Byte) : List Byte :=
  let h := [BitVec.ofNat 8 (1 + flagAt first 4 + flagAt last 5 + flagAt true 6), mtag] ++ leBytes 2 seg
    ++ leBytes 2 payload.length ++ payload
  h ++ leBytes 4 (crc32 h)

/-- A message cut into frames of at most `m` payload bytes (R113); `fuel` bounds their number. -/
def cutFrames (m : Nat) (mtag : Byte) : Nat → Nat → List Byte → List (List Byte)
  | 0, _, _ => []
  | fuel + 1, seg, b =>
    if b.length ≤ m then [frameBytes (seg == 0) true mtag seg b]
    else frameBytes (seg == 0) false mtag seg (b.take m) :: cutFrames m mtag fuel (seg + 1) (b.drop m)

/-- The FD data length that holds `n` bytes of a frame (R129). -/
def fdLength (n : Nat) : Nat := ([12, 16, 20, 24, 32, 48, 64].find? (fun k => decide (n ≤ k))).getD 64

/-- The data a link carries for a frame: padded with zero bytes on CAN (R129). -/
def carried (l : Link) (f : List Byte) : List Byte :=
  match l with
  | .spi => f
  | _ => padTo (fdLength f.length) f

/-- The next response frame is placed in the receive buffer once it is free; source 8 (R126, R127). -/
def placeFrame (s : State) : State :=
  let x := s.links.spi
  match s.links.rxReady, x.out with
  | false, f :: r =>
    raise 8 { s with links := { s.links with spi := { x with out := r }, rxBuf := f, rxReady := true } }
  | _, _ => s

/-- A message from the module is queued on a link (R113). -/
def sendMsg (l : Link) (mtag : Byte) (m : List Byte) (s : State) : State :=
  let x := s.link l
  let s := s.setLink l { x with out := x.out ++ (cutFrames (plenMax l) mtag 90 0 m).map (carried l) }
  match l with
  | .spi => placeFrame s
  | _ => s

/-- A plain message (R115). -/
def plainMsg (code rtag : Nat) (body : List Byte) : List Byte :=
  leBytes 2 code ++ leBytes 2 rtag ++ leBytes 4 body.length ++ body

/-- STATUS and DETAIL (R118). -/
def statusBytes (status detail : Nat) : List Byte := leBytes 2 status ++ leBytes 2 detail

/-- A frame error of a link is counted and the message being assembled is abandoned; the LINK_ERROR response carries
the reason and the MTAG (R114, R125) (DEDUCED, log 62). -/
def linkError (l : Link) (reason : Nat) (mtag : Byte) (s : State) : State :=
  let s := s.setLink l { s.link l with asm := none, frameErr := satInc 255 (s.link l).frameErr }
  sendMsg l mtag (plainMsg 0xFFFE 0 (statusBytes 1 reason ++ [mtag, 0, 0, 0])) s

/-! ## Sealing (R88, R116) -/

/-- The GCM nonce: direction 1 from the host, 2 from the module, then the counter (R88). -/
def gcmNonce (dir ctr : Nat) : List Byte := beBytes 4 dir ++ beBytes 8 ctr

/-- The additional authenticated data: SID and counter as they stand in the message (R116). -/
def sealAad (sid : Word) (ctr : Nat) : List Byte := leBytes 4 sid.toNat ++ leBytes 8 ctr

/-- A sealed message (R116). -/
def sealedMsg (key : List Byte) (dir : Nat) (sid : Word) (ctr : Nat) (inner : List Byte) : List Byte :=
  let n := gcmNonce dir ctr
  let ct := gcmCrypt key n 0 inner
  leBytes 2 0x0100 ++ zeros 2 ++ sealAad sid ctr ++ ct
    ++ beBytes 16 (Config.gcmTag key n (sealAad sid ctr) ct).toNat

/-- The session's module counter moves on; at 2^64 - 1 the session closes (R88, R131). -/
def counterUsed (l : Link) (x : Session) (s : State) : State :=
  let c := x.lastModule + 1
  let s := s.setLink l { s.link l with session := .opened { x with lastModule := c } }
  if 2 ^ 64 - 1 ≤ c then closeSession l s else s

/-- An inner message is sent sealed in the open session of a link. -/
def sendSealed (l : Link) (mtag : Byte) (x : Session) (inner : List Byte) (s : State) : State :=
  counterUsed l x (sendMsg l mtag (sealedMsg x.keyMH 2 x.sid (x.lastModule + 1) inner) s)

/-! ## The response to a request (R118, R122, R134) -/

/-- What a command answers: STATUS, DETAIL, the data after them, and the state it leaves. -/
structure Reply where
  status : Nat := 0
  detail : Nat := 0
  data : List Byte := []
  state : State

/-- The inner response of a request; data follow where the reply carries them. -/
def responseMsg (r : Request) (a : Reply) : List Byte :=
  plainMsg (r.code + 0x8000) r.rtag.toNat (statusBytes a.status a.detail ++ a.data)

/-- The request in processing on a link is answered: plain if it was plain; sealed if it was sealed, with the response
kept for a repetition (R122). A command that closes the session it came in is answered under that session's keys
before they are erased (R131 CLOSE, DEDUCED, log 27). -/
def respond (l : Link) (before : State) (r : Request) (a : Reply) : State :=
  let s := a.state.setLink l { a.state.link l with req := none }
  let m := responseMsg r a
  if !r.sealed then sendMsg l r.mtag m s
  else match (s.link l).session, (before.link l).session with
    | .opened x, _ => sendSealed l r.mtag { x with stored := some m } m s
    | _, .opened x => sendMsg l r.mtag (sealedMsg x.keyMH 2 x.sid (x.lastModule + 1) m) s
    | _, _ => s

/-! ## The mailbox and the ports -/

/-- MBX_SEND: SEND passes the frame in the transmit buffer to the module, or is a frame error or without effect
(R126). -/
def doMbxSend (len : Nat) (s : State) : State :=
  if !linksOn s then s
  else if s.links.txFrame.isSome then { s with links.hostRej := satInc 0xFFFFFFFF s.links.hostRej }
  else if len < 11 ∨ 512 < len then linkError .spi 3 (s.links.txBuf.get 0 1) s
  else { s with links := { s.links with txFrame := some (Table.getList 0 s.links.txBuf 0 len) } }

/-- MBX_RX_DONE: the host has read the frame; the next one is placed (R125, R126). -/
def doMbxRxDone (s : State) : State :=
  if linksOn s && s.links.rxReady then placeFrame { s with links := { s.links with rxReady := false } } else s

/-- MBX_ABORT: the host message being assembled is abandoned, with no LINK_ERROR (R125). -/
def doMbxAbort (s : State) : State :=
  if linksOn s then s.setLink .spi { s.link .spi with asm := none } else s

/-- The link of a CAN port. -/
def canLink (second : Bool) : Link := if second then .can1 else .can0

/-- The rest of a queue of frames after the message at its front. -/
def afterMessage : List (List Byte) → List (List Byte)
  | [] => []
  | f :: r => if (f.getD 0 0).getLsbD 5 then r else afterMessage r

/-- CAN_BUS_OFF: the message being transmitted is abandoned, the session stays open; logged, source 7 (R130, R404). -/
def doCanBusOff (second : Bool) (s : State) : State :=
  let l := canLink second
  let x := s.link l
  if x.busOff || !linksOn s then s
  else raise 7 (logLink l 0 (s.setLink l { x with
    busOff := true, busOffs := satInc 65535 x.busOffs, out := afterMessage x.out }))

/-- CAN_BUS_OFF_RECOVERY: the port has recovered; source 7 (R130, R404). -/
def doCanBusOffRecovery (second : Bool) (s : State) : State :=
  let l := canLink second
  let x := s.link l
  if x.busOff then raise 7 (s.setLink l { x with busOff := false }) else s

/-- The offset of a CAN port's fields in the HOST section (R143). -/
def canBase (second : Bool) : Nat := if second then 0x28 else 0x20

/-- The data rate of a CAN port exceeds its nominal rate (R128, R143): NOM 0 to 3 stands for 125, 250, 500 and 1,000
kbit/s, DATA 0 to 3 for 1, 2, 4 and 5 Mbit/s. -/
def canSwitches (s : State) (second : Bool) : Bool :=
  !(blkU8 s.cfg.active (canBase second) == 3 && blkU8 s.cfg.active (canBase second + 1) == 0)

/-- The CAN frame that carries a data field from the module: on the receive identifier plus 1, in the same format, with
bit rate switching where the data rate exceeds the nominal one (R128). -/
def canFrame (s : State) (second : Bool) (data : List Byte) : CanFrame :=
  { extended := bitAt (blkU8 s.cfg.active (canBase second + 2)) 0
    ident := blkU32 s.cfg.active (canBase second + 4) + 1
    brs := canSwitches s second
    data := data }

/-- CAN_FRAME_TRANSMITTED: the frame sent leaves the queue, and the next of the message is sent (R113, R128). -/
def doCanFrameTransmitted (second : Bool) (s : State) : State :=
  let l := canLink second
  let x := s.link l
  if x.busOff || !linksOn s then s
  else s.setLink l { x with
    out := x.out.drop 1
    sent := match x.out with
      | d :: _ => some (canFrame s second d)
      | [] => x.sent }

end Sys2Proof.Machine
end

