-- ==== Sys2Proof/Machine/Messages.lean ====
section
/-! DEFINITION. Ohmac frames and messages on the way in (04_ohmac_command_set.md R111 to R122, R128 to R134): the
checks of a frame, the assembly of a message and its examination in the order of R120. -/

namespace Sys2Proof.Machine

/-! ## Which commands there are (R134) -/

/-- The command codes of R134. -/
def knownCodes : List Nat :=
  [1, 2, 3, 4, 5, 6, 0x10, 0x12, 0x13, 0x14, 0x20, 0x21, 0x22, 0x23, 0x30, 0x40, 0x41, 0x42, 0x43, 0x44,
    0x50, 0x51, 0x52, 0x53, 0x54, 0x55, 0x60, 0x61]

/-- The commands accepted only plain. -/
def plainOnly (code : Nat) : Bool := code == 3 || code == 0x10 || code == 0x12

/-- The commands accepted plain. -/
def plainForm (code : Nat) : Bool := decide (code ≤ 6) || plainOnly code

/-- The roles of which a session must hold one for a sealed command (R134); none for the others. -/
def rolesFor (code : Nat) : List Nat :=
  match code with
  | 0x02 | 0x20 | 0x21 | 0x22 | 0x23 => [0]
  | 0x30 => [1]
  | 0x40 | 0x41 | 0x42 => [2]
  | 0x43 | 0x44 => [0, 2]
  | 0x50 | 0x51 | 0x52 | 0x53 | 0x54 => [3]
  | 0x55 => [2, 3]
  | 0x60 | 0x61 => [5]
  | _ => []

/-- The session holds a role the command needs (R90). -/
def roleOk (x : Session) (code : Nat) : Bool :=
  (rolesFor code).isEmpty || (rolesFor code).any (fun b => x.roles.getLsbD b)

/-! ## Answers given at once -/

/-- A plain answer to a message. -/
def answerPlain (l : Link) (mtag : Byte) (code rtag status detail : Nat) (data : List Byte) (s : State) : State :=
  sendMsg l mtag (plainMsg ((code + 0x8000) % 65536) rtag (statusBytes status detail ++ data)) s

/-- A sealed answer to a request not taken into processing; `keep` stores it for a repetition (R122). -/
def answerSealed (l : Link) (mtag : Byte) (code rtag status detail : Nat) (keep : Bool) (s : State) : State :=
  match (s.link l).session with
  | .opened x =>
    let m := plainMsg ((code + 0x8000) % 65536) rtag (statusBytes status detail)
    sendSealed l mtag (if keep then { x with stored := some m } else x) m s
  | _ => s

/-- A request is taken into processing (R121). -/
def takeRequest (l : Link) (mtag : Byte) (code rtag : Nat) (body : List Byte) (isSealed : Bool) (s : State) : State :=
  s.setLink l { s.link l with req := some { code := code, rtag := BitVec.ofNat 16 rtag, body := body
                                            sealed := isSealed, mtag := mtag } }

/-! ## Requests whose form names no row of the command table -/

/-- The body lengths of the owner operations (R92). -/
def ownerLen (op : Nat) : Nat :=
  match op with
  | 1 => 196
  | 2 => 4
  | 3 => 72
  | _ => 4

/-- The first fault of an owner command wrapper's form (R92). -/
def ownerFormFault (b : List Byte) : Option Nat :=
  let op := leAt b 4 2
  let n := leAt b 6 2
  if b.length < 112 then some b.length
  else if leAt b 0 4 ≠ 0x574F4C4B then some 0
  else if op < 1 ∨ 5 < op then some 4
  else if n ≠ ownerLen op then some 6
  else if b.length ≠ 112 + n then some (min b.length (112 + n))
  else if op = 1 ∨ op = 2 then firstNonZero b 49 3
  else if op = 3 then none
  else firstNonZero b 48 4

/-- STATUS with which the module's condition refuses a command, 0 if it does not: a key store that failed leaves
identity, attestation and FORCE_RELEASE (R109); RETIRED leaves identity (R462); a sequence that stopped on the march
test leaves identity and attestation (R459) (DEDUCED, log 55). -/
def moduleRefusal (s : State) (code : Nat) : Nat :=
  if s.nv.ksFail ∧ code ≠ 1 ∧ code ≠ 2 ∧ code ≠ 5 then 18
  else if s.keys.life = .retired ∧ code ≠ 1 then 2
  else if s.sys.phase = 5 ∧ s.sys.selftest ≠ 0 ∧ code ≠ 1 ∧ code ≠ 2 then 2
  else 0

/-- STATUS and DETAIL of the body of a request that no command carries further: an OWNER wrapper or a DIAG_RUN whose
operation does not exist (R92, R364). -/
def noRowBody (code : Nat) (body : List Byte) : Option (Nat × Nat) :=
  match code with
  | 0x04 => if leAt body 4 2 < 1 ∨ 5 < leAt body 4 2 then (ownerFormFault body).map (fun o => (1, o)) else none
  | 0x61 =>
    if body.length ≠ 12 then some (1, min body.length 12)
    else match firstNonZero body 9 3 with
      | some o => some (1, o)
      | none => if leAt body 8 1 = 1 ∨ leAt body 8 1 = 2 then none else some (11, 0)
  | _ => none

/-- The answer to such a request (R120 stage 8): the module's condition and the lifecycle come before the body. -/
def noRow (s : State) (code : Nat) (body : List Byte) : Option (Nat × Nat) :=
  (noRowBody code body).map (fun r => match moduleRefusal s code with
    | 0 => if s.keys.life ≠ .owned then (2, 0) else r
    | st => (st, 0))

/-- What a refused CLAIM leaves: after every claim attempt a new challenge is issued (R82). -/
def claimAttempt (code : Nat) (s : State) : State := if code = 3 then newChallenge s else s

/-! ## The examination of a message (R120) -/

/-- A plain message, from stage 3 on. -/
def plainIn (l : Link) (mtag : Byte) (m : List Byte) (s : State) : State :=
  let code := leAt m 0 2
  let rtag := leAt m 2 2
  let body := m.drop 8
  if !knownCodes.contains code then answerPlain l mtag code rtag 1 0 [] s
  else if m.length < 8 ∨ leAt m 4 4 ≠ body.length ∨ 4096 < body.length then
    answerPlain l mtag code rtag 1 4 [] (claimAttempt code s)
  else if (s.link l).req.isSome then answerPlain l mtag code rtag 9 0 [] (claimAttempt code s)
  else if !plainForm code then answerPlain l mtag code rtag 1 0 [] s
  else match noRow s code body with
    | some (st, d) =>
      let s := if st = 1 then plainFail l s else s
      answerPlain l mtag code rtag st d [] s
    | none => takeRequest l mtag code rtag body false s

/-- An inner message of the open session, from stage 6 on (R120). -/
def innerIn (l : Link) (mtag : Byte) (x : Session) (m : List Byte) (s : State) : State :=
  let code := leAt m 0 2
  let rtag := leAt m 2 2
  let body := m.drop 8
  let refuse := fun st d s => answerSealed l mtag code rtag st d true s
  if m.length < 8 ∨ leAt m 4 4 ≠ body.length ∨ 4096 < body.length then refuse 1 4 s
  else if !knownCodes.contains code || plainOnly code then refuse 1 0 s
  else if !roleOk x code then refuse 3 ((rolesFor code).headD 0) s
  else match noRow s code body with
    | some (st, d) => refuse st d (if st = 1 then plainFail l s else s)
    | none => takeRequest l mtag code rtag body true s

/-- A sealed message that verified (R88): the session accepts it; a request repeating the last CODE and RTAG gets the
stored response again (R122); one that finds another in processing gets BUSY (R121). With the last counter the session
closes and the command is not carried out (DESIGN CHOICE, log 79). -/
def acceptSealed (l : Link) (mtag : Byte) (x : Session) (ctr : Nat) (m : List Byte) (s : State) : State :=
  let id := (leAt m 0 2, BitVec.ofNat 16 (leAt m 2 2))
  let x := { x with lastHost := ctr, lastAt := s.etc, failures := 0 }
  let s := linkOk l (s.setLink l { s.link l with session := .opened x })
  if 2 ^ 64 - 1 ≤ ctr then closeSession l s
  else if (s.link l).req.isSome then answerSealed l mtag id.1 id.2.toNat 9 0 false s
  else match x.lastReq == some id, x.stored with
    | true, some r => sendSealed l mtag x r s
    | _, _ =>
      let x := { x with lastReq := some id, stored := none }
      innerIn l mtag x m (s.setLink l { s.link l with session := .opened x })

/-- A sealed message whose tag or counter fails (R109): no response; the fourth in a row closes the session. -/
def sealFailure (l : Link) (x : Session) (s : State) : State :=
  let s := countedFail l (s.setLink l { s.link l with session := .opened { x with failures := x.failures + 1 } })
  if 4 ≤ x.failures + 1 then closeSession l s else s

/-- A sealed message, from stage 3 on (R116, R120). -/
def sealedIn (l : Link) (mtag : Byte) (m : List Byte) (s : State) : State :=
  let sid := BitVec.ofNat 32 (leAt m 4 4)
  let ctr := leAt m 8 8
  let n := m.length - 32
  if m.length < 32 then answerPlain l mtag 0x0100 0 1 m.length [] s
  else if leAt m 2 2 ≠ 0 then answerPlain l mtag 0x0100 0 1 2 [] s
  else match (s.link l).session with
    | .opened x =>
      if x.sid ≠ sid then answerPlain l mtag 0x0100 0 2 0 (slice m 4 4) s
      else
        let ct := slice m 16 n
        let k := x.keyHM
        let nonce := gcmNonce 1 ctr
        if beNat (slice m (16 + n) 16) ≠ (Config.gcmTag k nonce (slice m 4 12) ct).toNat ∨ ctr ≤ x.lastHost then
          sealFailure l x s
        else acceptSealed l mtag x ctr (gcmCrypt k nonce 0 ct) s
    | _ => answerPlain l mtag 0x0100 0 2 0 (slice m 4 4) s

/-- Seconds left of a lockout, rounded up (R119). -/
def lockoutLeft (s : State) (l : Link) : Nat :=
  match (s.link l).lockUntil with
  | some d => ceilDiv (d - s.etc) ticksPerS
  | none => 0

/-- A complete message is examined (R120). -/
def messageIn (l : Link) (mtag : Byte) (m : List Byte) (s : State) : State :=
  let code := leAt m 0 2
  let rtag := if code = 0x0100 then 0 else leAt m 2 2
  if s.supply.state = .holdup then answerPlain l mtag code rtag 8 0 [] (claimAttempt code s)
  else if lockedOut s l && (code == 3 || code == 0x10) then
    answerPlain l mtag code rtag 10 (lockoutLeft s l) [] (claimAttempt code s)
  else if code = 0x0100 then sealedIn l mtag m s
  else plainIn l mtag m s

/-! ## Assembly (R113, R114) -/

/-- The greatest length of the message being assembled (R117). -/
def messageMax (b : List Byte) : Nat := if leAt b 0 2 = 0x0100 then 4136 else 4104

/-- The payload of a frame joins the message; the LAST frame completes it (R113, R114). -/
def extendMessage (l : Link) (mtag : Byte) (seg : Nat) (last : Bool) (b : List Byte) (s : State) : State :=
  if messageMax b < b.length then linkError l 8 mtag s
  else if last then messageIn l mtag b (s.setLink l { s.link l with asm := none })
  else s.setLink l { s.link l with asm := some { mtag := mtag, next := seg + 1, bytes := b, last := s.etc } }

/-- The rows of R114 on the frame alone: its reason, 0 for a sound frame. A PLEN above the link's maximum leaves the
CRC no place, so it is looked at first (DEDUCED, log 28). -/
def frameFault (l : Link) (f : List Byte) : Nat :=
  let plen := leAt f 4 2
  if plenMax l < plen then 3
  else if f.length < 10 + plen ∨ leAt f (6 + plen) 4 ≠ crc32 (f.take (6 + plen)) then 1
  else if bits (leAt f 0 1) 0 4 ≠ 1 ∨ bits (leAt f 0 1) 6 2 ≠ 0 then 2
  else if plen = 0 then 3
  else 0

/-- A sound frame: the rows of R114 on the order of frames. -/
def frameStep (l : Link) (f : List Byte) (s : State) : State :=
  let mtag := f.getD 1 0
  let seg := leAt f 2 2
  let last := bitAt (leAt f 0 1) 5
  let payload := slice f 6 (leAt f 4 2)
  let first := bitAt (leAt f 0 1) 4
  match (s.link l).asm, first with
  | none, false => linkError l 4 mtag s
  | some a, false =>
    if a.next ≠ seg ∨ a.mtag ≠ mtag then linkError l 5 mtag s
    else extendMessage l mtag seg last (a.bytes ++ payload) s
  | old, true =>
    let s := match old with
      | some a => linkError l 6 a.mtag s
      | none => s
    if seg ≠ 0 then linkError l 5 mtag s else extendMessage l mtag 0 last payload s

/-- More than 100 ms after the last frame of an unfinished message it is abandoned (R114). -/
def gapCheck (l : Link) (s : State) : State :=
  match (s.link l).asm with
  | some a => if a.last + 100 * ticksPerMs < s.etc then linkError l 7 a.mtag s else s
  | none => s

/-- FRAME_GAP_TIMEOUT: more than 100 ms pass between two frames of one message (R114). -/
def doFrameGapTimeout (l : Link) (s : State) : State := if linksOn s then gapCheck l s else s

/-- A complete Ohmac frame arrives on a link, whose timeouts that are due come first; in STANDBY it is a wake cause
(R467). -/
def frameIn (l : Link) (f : List Byte) (s : State) : State :=
  let s := wake 10 (gapCheck l (doSessionOpenTimeout l (doSessionIdleTimeout l s)))
  match frameFault l f with
  | 0 => frameStep l f s
  | r => linkError l r (f.getD 1 0) s

/-- A CAN frame is one the port receives (R128, R129): an FD data frame that carries its receive identifier, while the
port is enabled and on the bus. -/
def canReceives (s : State) (second fd ext : Bool) (ident : Nat) (data : List Byte) : Bool :=
  let a := canBase second
  let fl := blkU8 s.cfg.active (a + 2)
  fd && bitAt fl 1 && bitAt fl 0 == ext && blkU32 s.cfg.active (a + 4) == ident
    && !(s.link (canLink second)).busOff && [12, 16, 20, 24, 32, 48, 64].contains data.length

/-- OHMAC_FRAME: the module takes the frame from the transmit buffer, which sets TX_FREE and raises source 9, or
receives one on a CAN port (R126 to R129). -/
def doOhmacFrame (src : FrameSource) (s : State) : State :=
  if !linksOn s then s
  else match src with
    | .mailbox =>
      match s.links.txFrame with
      | some f => frameIn .spi f (raise 9 { s with links := { s.links with txFrame := none } })
      | none => s
    | .can second fd ext ident data =>
      if canReceives s second fd ext ident data then frameIn (canLink second) data s else s

end Sys2Proof.Machine
end

