-- ==== Sys2Proof/Machine/Owner.lean ====
section
/-! DEFINITION. The commands of trust and ownership (03_trust_ownership_envelope.md R79 to R98, R105, R109;
04_ohmac_command_set.md R131 to R138): identity, attestation, claim, owner commands, forced release, envelope
installation and sessions, with the timed happenings of 03. -/

namespace Sys2Proof.Machine

/-! ## A command at its action instant (R120 stage 8, R123) -/

/-- A refusal with no data. -/
def refusal (status detail : Nat) (s : State) : Reply := { status := status, detail := detail, state := s }

/-- A success with its data. -/
def success (data : List Byte) (s : State) : Reply := { data := data, state := s }

/-- The request in processing on a link, where it carries a code. -/
def requestOf (l : Link) (code : Nat) (s : State) : Option Request :=
  match (s.link l).req with
  | some r => if r.code = code ∧ linksOn s = true then some r else none
  | none => none

/-- A command acts on the request in processing and answers it (R123). -/
def command (l : Link) (code : Nat) (f : Request → State → Reply) (s : State) : State :=
  match requestOf l code s with
  | some r => respond l s r (match moduleRefusal s code with
    | 0 => f r s
    | st => refusal st 0 s)
  | none => s

/-- A malformed body or a non-zero reserved byte: FORMAT with the offset of the first fault (R119), a failure of R109. -/
def malformed (l : Link) (offset : Nat) (s : State) : Reply := refusal 1 offset (plainFail l s)

/-- A body of the wrong length is malformed (R119). -/
def sized (l : Link) (n : Nat) (r : Request) (s : State) (k : Unit → Reply) : Reply :=
  if r.body.length ≠ n then malformed l (min r.body.length n) s else k ()

/-! ## Identity and attestation -/

/-- The device certificate with its split signature, 144 bytes (R93, R135). -/
def deviceCert (s : State) : List Byte :=
  leBytes 4 0x56444C4B ++ leBytes 4 Config.serial.toNat ++ leBytes 2 (if s.sys.order64 then 64 else 32) ++ zeros 6
    ++ pubBytes Config.dikPub ++ beBytes 64 Config.deviceSignature.toNat

/-- Seconds the claim challenge remains valid (R82, R135); 0 unless UNCLAIMED. -/
def challengeLeft (s : State) : Nat :=
  match s.keys.life with
  | .unclaimed => (s.sec.challengeAt + 600 * ticksPerS - s.etc) / ticksPerS
  | _ => 0

/-- The response data of IDENTITY (R135). -/
def identityData (l : Link) (s : State) : List Byte :=
  deviceCert s ++ leBytes 4 (sysWord s 0) ++ leBytes 2 Config.romVersion
    ++ [BitVec.ofNat 8 (lifeCode s.keys.life), BitVec.ofNat 8 (syncCode s.whl.sync)]
    ++ (match s.keys.life with
      | .unclaimed => beBytes 32 s.sec.challenge.toNat
      | _ => zeros 32)
    ++ leBytes 2 (challengeLeft s) ++ [BitVec.ofNat 8 (linkId l), 0]

/-- IDENTITY (R135). -/
def doIdentity (l : Link) (s : State) : State :=
  command l 0x01 (fun r s => sized l 0 r s (fun _ => success (identityData l s) s)) s

/-- ATTEST (R105). -/
def doAttest (l : Link) (s : State) : State :=
  command l 0x02 (fun r s => sized l 16 r s (fun _ =>
    let b := attestBody s r.body
    success (b ++ dikSig s b) (signed1 s))) s

/-! ## CLAIM (R81, R82, R91) -/

/-- CLAIM_N has been strapped without interruption for at least 1 s, and still is (R81). -/
def presence (s : State) : Bool := s.supply.claimStrap && decide (s.supply.claimSince + ticksPerS ≤ s.etc)

/-- The receipt of a claim, before its signature (R91). -/
def receiptBody (s : State) (challenge : List Byte) : List Byte :=
  leBytes 4 0x43524C4B ++ leBytes 4 s.keys.ogen ++ challenge ++ ownerId s ++ devBind

/-- The first fault of a CLAIM's form (R91). -/
def claimFormFault (b : List Byte) : Option Nat :=
  if b.length ≠ 208 then some (min b.length 208)
  else if leAt b 0 4 ≠ 0x4C434C4B then some 0
  else if leAt b 4 4 ≠ 1 then some 4
  else none

/-- The key store with a new owner (R81, R83). -/
def withOwner (pub : List Byte) (oseq : Nat) (k : KeyStore) : KeyStore :=
  { k with life := .owned, owk := BitVec.ofNat 512 (beNat pub), oseq := oseq, ogen := wrapInc 32 k.ogen, slots := [] }

/-- The effect of a claim that passed every check; `stored` is the read-back of the key store. -/
def claimDone (l : Link) (stored : Bool) (b : List Byte) (s : State) : Reply :=
  if !stored then refusal 19 0 (writeFailed 129 s)
  else
    let s := raise 234 (logLife 0 (linkOk l (writeKeys (withOwner (slice b 72 64) (leAt b 136 8) s.keys) s)))
    let body := receiptBody s (slice b 40 32)
    success (body ++ dikSig s body) (signed1 s)

/-- The checks of a claim in order (R81, R109). -/
def claimReply (l : Link) (stored : Bool) (r : Request) (s : State) : Reply :=
  let b := r.body
  if s.keys.life ≠ .unclaimed then refusal 2 0 s
  else if s.sec.entropyFail then refusal 16 0 s
  else match claimFormFault b with
    | some o => malformed l o s
    | none =>
      if !presence s then refusal 6 0 (plainFail l s)
      else if beNat (slice b 40 32) ≠ s.sec.challenge.toNat then refusal 7 0 (plainFail l s)
      else if slice b 8 32 ≠ devBind ∨ verifies (slice b 72 64) (slice b 0 144) (slice b 144 64) = false then
        refusal 4 0 (signatureFail l s)
      else claimDone l stored b s

/-- CLAIM (R81): after every attempt a new challenge is issued (R82). -/
def doClaim (l : Link) (stored : Bool) (s : State) : State :=
  match requestOf l 0x03 s with
  | some r =>
    let a := match moduleRefusal s 0x03 with
      | 0 => claimReply l stored r s
      | st => refusal st 0 s
    respond l s r { a with state := newChallenge a.state }
  | none => s

/-! ## Owner commands (R83, R92) -/

/-- The body of an owner command. -/
def ownerBody (b : List Byte) : List Byte := slice b 48 (leAt b 6 2)

/-- The common checks of an owner command (R83, R109), or the reply that refuses it. -/
def ownerCheck (l : Link) (b : List Byte) (s : State) : Option Reply :=
  let n := 48 + leAt b 6 2
  if s.keys.life ≠ .owned then some (refusal 2 0 s)
  else match ownerFormFault b with
    | some o => some (malformed l o s)
    | none =>
      if owkVerifies s (slice b 0 n) (slice b n 64) = false ∨ slice b 16 32 ≠ devBind then
        some (refusal 4 0 (signatureFail l s))
      else if leAt b 8 8 ≤ s.keys.oseq then some (refusal 5 0 (countedFail l s))
      else none

/-- The data of an accepted owner command (R135). -/
def ownerData (b : List Byte) (s : State) : List Byte := slice b 8 8 ++ leBytes 4 s.nv.keys.ogen ++ zeros 4

/-- An owner operation: `pre` its additional preconditions (R83), `act` its effect once the stored OSEQ has become
the wrapper's. A precondition that fails leaves OSEQ as it was (DEDUCED, log 29). -/
def ownerOp (l : Link) (op : Nat) (stored : Bool) (pre : List Byte → State → Option Reply)
    (act : List Byte → State → State) (s : State) : State :=
  match requestOf l 0x04 s with
  | none => s
  | some q =>
    if leAt q.body 4 2 ≠ op then s
    else command l 0x04 (fun r s =>
      let b := r.body
      match (ownerCheck l b s).orElse (fun _ => pre (ownerBody b) s) with
      | some a => a
      | none =>
        if !stored then refusal 19 0 (writeFailed 129 s)
        else
          let s := act (ownerBody b) (linkOk l (writeKeys { s.keys with oseq := leAt b 8 8 } s))
          success (ownerData b s) s) s

/-- The slot byte of ENROL and REVOKE lies in 0 to 15 (R92). -/
def slotRange (b : List Byte) (s : State) : Option Reply := if 15 < leAt b 0 1 then some (refusal 11 0 s) else none

/-- A change of an operator slot (R83). -/
def setOperator (i : Nat) (c : Option (List Byte)) (s : State) : State :=
  writeKeys { s.keys with slots := s.keys.slots.set none i c } s

/-- The session of a link was opened under a slot. -/
def openedUnder (i : Nat) (s : State) (l : Link) : Bool :=
  match (s.link l).session with
  | .opened x => x.slot == i
  | .opening o => o.slot == i
  | .none => false

/-- The sessions opened under a slot close (R83, R89). -/
def closeSlot (i : Nat) (s : State) : State :=
  [Link.spi, Link.can0, Link.can1].foldl (fun s l => if openedUnder i s l then closeSession l s else s) s

/-- ENROL (R83, R84): a valid certificate is stored in the slot, replacing any previous one. -/
def doEnrol (l : Link) (stored : Bool) (s : State) : State :=
  ownerOp l 1 stored
    (fun b s =>
      let c := slice b 4 192
      match certFormFault c with
      | some o => some (malformed l (52 + o) s)
      | none =>
        (slotRange b s).orElse (fun _ => if certValid s c then none else some (refusal 4 0 (signatureFail l s))))
    (fun b s => logLife 1 (setOperator (leAt b 0 1) (some (slice b 4 192)) s)) s

/-- REVOKE (R83): the slot is emptied and its session closes at once. -/
def doRevoke (l : Link) (stored : Bool) (s : State) : State :=
  ownerOp l 2 stored slotRange (fun b s => closeSlot (leAt b 0 1) (logLife 2 (setOperator (leAt b 0 1) none s))) s

/-- TRANSFER (R83): the new OWK and its OSEQ start are installed, OGEN is incremented, all slots are emptied and all
sessions close; envelope and images stay (DEDUCED, log 58). -/
def doTransfer (l : Link) (stored : Bool) (s : State) : State :=
  ownerOp l 3 stored
    (fun _ s => if presence s then none else some (refusal 6 0 (plainFail l s)))
    (fun b s => raise 234 (closeAll (logLife 3 (writeKeys (withOwner (slice b 0 64) (leAt b 64 8) s.keys) s)))) s

/-- The synchronisation state must be NOSYNC (R83). -/
def needNosync (s : State) : Option Reply := if s.whl.sync = .nosync then none else some (refusal 12 (syncCode s.whl.sync) s)

/-- DECOMMISSION (R83). -/
def doDecommission (l : Link) (stored : Bool) (s : State) : State :=
  ownerOp l 4 stored (fun _ s => needNosync s) (fun _ s => decommission .unclaimed 4 false s) s

/-- RETIRE (R83). -/
def doRetire (l : Link) (stored : Bool) (s : State) : State :=
  ownerOp l 5 stored (fun _ s => needNosync s) (fun _ s => decommission .retired 5 false s) s

/-! ## Forced release (R85, R86, R138) -/

/-- A release countdown starts: source 235 (R85, R110). -/
def armRelease (s : State) : State :=
  let r : Release := { since := s.etc, nextRemind := s.etc + 60 * ticksPerS, nextLog := s.etc + 3600 * ticksPerS }
  raise 235 { s with sec := { s.sec with release := some r } }

/-- FORCE_RELEASE (R85, R138). -/
def doForceRelease (l : Link) (s : State) : State :=
  command l 0x05 (fun r s => sized l 0 r s (fun _ =>
    if !s.supply.claimStrap then refusal 6 0 s
    else
      let s := if s.sec.release.isSome then s else armRelease s
      success (leBytes 2 (releaseMinutes s) ++ zeros 2) s)) s

/-- RELEASE_REMINDER: every 60 s source 235 is raised, every hour the logbook takes the minutes left (R86). -/
def doReleaseReminder (s : State) : State :=
  match s.sec.release with
  | none => s
  | some r =>
    let due := decide (r.nextRemind ≤ s.etc)
    let hour := decide (r.nextLog ≤ s.etc)
    let s := raiseIf due 235 s
    let s := if hour then log 6 0 (leBytes 2 (releaseMinutes s)) s else s
    { s with sec := { s.sec with release := some { r with
      nextRemind := if due then r.nextRemind + 60 * ticksPerS else r.nextRemind
      nextLog := if hour then r.nextLog + 3600 * ticksPerS else r.nextLog } } }

/-- RELEASE_COUNTDOWN_EXPIRY: after 24 h the module decommissions without the NOSYNC precondition and counts a forced
release (R85). -/
def doReleaseCountdownExpiry (s : State) : State :=
  match s.sec.release with
  | some r => if r.since + 86400 * ticksPerS ≤ s.etc then decommission .unclaimed 6 true s else s
  | none => s

/-- CHALLENGE_EXPIRY: the challenge is 10 min old (R82). -/
def doChallengeExpiry (s : State) : State :=
  if s.sec.regsUp && decide (s.sec.challengeAt + 600 * ticksPerS ≤ s.etc) then newChallenge s else s

/-- ENTROPY_HEALTH_FAILURE (R79, R110). -/
def doEntropyHealthFailure (s : State) : State :=
  if s.sec.entropyFail then s else raise 239 { s with sec := { s.sec with entropyFail := true } }

/-- ENTROPY_HEALTH_RECOVERY: the health tests pass again (R79). -/
def doEntropyHealthRecovery (s : State) : State := { s with sec := { s.sec with entropyFail := false } }

/-! ## The envelope (R96 to R98) -/

/-- The reply to an envelope that a check of R96 refuses, with the counts of R109. -/
def envRefused (l : Link) (x : Nat × Nat) (s : State) : Reply :=
  match x with
  | (1, d) => malformed l d s
  | (4, d) => refusal 4 d (signatureFail l s)
  | (5, d) => refusal 5 d (countedFail l s)
  | (st, d) => refusal st d s

/-- ENV_INSTALL: a verified envelope's write to the Caddy begins, and the response waits for it (R97, R134); one that
finds another in its write waits for that (DEDUCED, log 57). -/
def doEnvInstall (l : Link) (s : State) : State :=
  match requestOf l 0x06 s with
  | none => s
  | some r =>
    if s.sec.envWrite.isSome then s
    else if moduleRefusal s 0x06 = 0 ∧ s.keys.life = .owned ∧ (envRefusal s r.body).isNone = true then
      linkOk l { s with sec := { s.sec with envWrite := some (l, r.body) } }
    else command l 0x06 (fun r s =>
      if s.keys.life ≠ .owned then refusal 2 0 s
      else match envRefusal s r.body with
        | some x => envRefused l x s
        | none => refusal 0 0 s) s

/-- The older Caddy copy is replaced (R97, R435). -/
def storeEnvelope (e : List Byte) (s : State) : State :=
  let s := regionWritten 131 1 s
  if envSeq s.nv.env0 < envSeq s.nv.env1 ∨ s.nv.env0 = [] then { s with nv := { s.nv with env0 := e } }
  else { s with nv := { s.nv with env1 := e } }

/-- A stored envelope takes effect now in NOSYNC, else at the next engine-cycle boundary (R97). -/
def envelopeStored (e : List Byte) (s : State) : State :=
  let s := raise 236 { storeEnvelope e s with sec := { s.sec with waitingEnv := some e, envWrite := none } }
  if s.whl.sync = .nosync then envelopeBoundary s else s

/-- The request that waits for an envelope's write is answered. -/
def envAnswer (l : Link) (before : State) (a : Reply) : State :=
  match requestOf l 0x06 before with
  | some r => respond l before r a
  | none => a.state

/-- ENVELOPE_WRITE_COMPLETE: the write is read back (R97, R439); an envelope whose owner has changed meanwhile is
refused. -/
def doEnvelopeWriteComplete (ok : Bool) (s : State) : State :=
  match s.sec.envWrite with
  | none => s
  | some (l, e) =>
    let idle := { s with sec := { s.sec with envWrite := none } }
    if !ok then envAnswer l s (refusal 19 0 (writeFailed 131 idle))
    else if s.keys.life ≠ .owned then envAnswer l s (refusal 2 0 idle)
    else match envRefusal s e with
      | some x => envAnswer l s (envRefused l x idle)
      | none =>
        let t := envelopeStored e s
        envAnswer l s (success (slice e 8 8 ++ [if t.sec.waitingEnv.isSome then 1 else 0] ++ zeros 3) t)

/-- ENVELOPE_COPY_ERROR: a read of the gate's copy is uncorrectable (R98). -/
def doEnvelopeCopyError (s : State) : State := if s.sec.envelope.isSome then envCopyError s else s

/-- ENVELOPE_RELOAD_COMPLETE: the copy is reloaded from the Caddy and verified again, or source 236 is raised (R98); a
waiting envelope comes into force at its boundary alone (R97). -/
def doEnvelopeReloadComplete (s : State) : State :=
  if !s.sec.envBad then s
  else match (if s.sec.waitingEnv.isSome then reloadedEnvelope s else storedEnvelope s) with
    | some e => { s with sec := { s.sec with envelope := some e, envBad := false } }
    | none => raise 236 s

/-! ## Sessions (R84, R87, R131, R132) -/

/-- A session ID from the entropy source, drawn again while it is zero or the previous one (R132); none where 64 draws
in a row gave nothing else (DESIGN CHOICE, log 91). -/
def drawSid (last : Word) : Nat → Nat → Option (Word × Nat)
  | 0, _ => none
  | fuel + 1, at_ =>
    let w := BitVec.ofNat 32 (leNat ((List.range 4).map (fun i => Config.entropyByte (at_ + i))))
    if w = 0 ∨ w = last then drawSid last fuel (at_ + 4) else some (w, at_ + 4)

/-- "KL6420 ohmac v1" (R87). -/
def ohmacInfo : List Byte :=
  [0x4B, 0x4C, 0x36, 0x34, 0x32, 0x30, 0x20, 0x6F, 0x68, 0x6D, 0x61, 0x63, 0x20, 0x76, 0x31]

/-- OPEN_2 with session ID `d.1`: the module's keys and nonce, the session ID and the transcript with its DIK signature
(R87). -/
def openWith (l : Link) (b : List Byte) (d : Word × Nat) (s : State) : Reply :=
  let qh := slice b 4 64
  let nh := slice b 68 16
  let n := s.sec.ephNext
  let qm := pubBytes (Config.ephemeralPub n)
  let nm := entropy s 16
  let tr := leBytes 4 0x53534C4B ++ slice b 0 1 ++ [BitVec.ofNat 8 (linkId l)] ++ leBytes 4 d.1.toNat ++ qh ++ nh ++ qm ++ nm
  let salt := nh ++ nm
  let z := Config.ecdhSecret n (BitVec.ofNat 512 (beNat qh))
  let info := ohmacInfo ++ sha tr
  let o : Opening := { slot := leAt b 0 1, sid := d.1, transcript := tr, keyHM := hkdf salt z info 0 32
                       keyMH := hkdf salt z info 32 32, since := s.etc }
  let sig := dikSig s tr
  let s := { s with sec := { s.sec with ephNext := n + 1, entropyNext := d.2 } }
  success (qm ++ nm ++ leBytes 4 d.1.toNat ++ sig)
    (signed1 (s.setLink l { s.link l with session := .opening o, lastSid := d.1 }))

/-- OPEN_2; a source that gives no session ID fails its opening with ENTROPY (R79, R132). -/
def openTwo (l : Link) (b : List Byte) (s : State) : Reply :=
  match drawSid (s.link l).lastSid 64 (s.sec.entropyNext + 16) with
  | some d => openWith l b d s
  | none => refusal 16 0 (entropyUsed 272 s)

/-- The first fault of an OPEN_1 body (R135). -/
def openFormFault (b : List Byte) : Option Nat :=
  if b.length ≠ 84 then some (min b.length 84) else firstNonZero b 1 3

/-- OPEN_1: an open session of the link closes first (R89); the slot must hold a valid certificate (R87). -/
def doOpen1 (l : Link) (s : State) : State :=
  command l 0x10 (fun r s =>
    let b := r.body
    let s := closeSession l s
    if s.keys.life ≠ .owned then refusal 2 0 s
    else if s.sec.entropyFail then refusal 16 0 s
    else match openFormFault b with
      | some o => malformed l o s
      | none =>
        if 15 < leAt b 0 1 then refusal 11 0 s
        else match s.keys.slots.get none (leAt b 0 1) with
          | none => refusal 13 0 s
          | some c => if certValid s c then openTwo l b s else refusal 4 0 (signatureFail l s)) s

/-- OPEN_3 verified: the session is open and OPEN_ACK goes sealed with counter 1 (R131). -/
def opened (l : Link) (before : State) (r : Request) (o : Opening) (c : List Byte) (s : State) : State :=
  let x : Session := { slot := o.slot, sid := o.sid, serial := BitVec.ofNat 32 (leAt c 8 4)
                       roles := BitVec.ofNat 16 (certRoles c), keyHM := o.keyHM, keyMH := o.keyMH, lastAt := s.etc }
  let s := raise 238 (logLink l 1 (linkOk l (s.setLink l { s.link l with session := .opened x })))
  respond l before { r with sealed := true }
    (success (slice c 8 4 ++ slice c 6 2 ++ leBytes 2 (sessIdle s)) s)

/-- OPEN_3 fails: the session state returns to NONE and a verification failure is counted (R131). -/
def openFails (l : Link) (status detail : Nat) (s : State) : Reply :=
  let s := s.setLink l { s.link l with session := .none }
  refusal status detail (if status = 1 then plainFail l s else signatureFail l s)

/-- The bytes the operator signs: the transcript hash, then "OP" (R87). -/
def openSigned (o : Opening) : List Byte := sha o.transcript ++ [0x4F, 0x50]

/-- OPEN_3 (R87, R131, R132). -/
def doOpen3 (l : Link) (s : State) : State :=
  match requestOf l 0x12 s, (s.link l).session with
  | some r, .opening o =>
    let b := r.body
    match moduleRefusal s 0x12, s.keys.slots.get none o.slot with
    | 0, some c =>
      if b.length ≠ 68 then respond l s r (openFails l 1 (min b.length 68) s)
      else if leAt b 0 4 = o.sid.toNat ∧ certValid s c = true ∧ verifies (certPub c) (openSigned o) (slice b 4 64) = true
      then opened l s r o c s
      else respond l s r (openFails l 4 0 s)
    | 0, none => respond l s r (openFails l 4 0 s)
    | st, _ => respond l s r (refusal st 0 s)
  | some r, _ => respond l s r (refusal 2 0 s)
  | none, _ => s

/-- CLOSE: the response is sent, then the keys are erased (R131). -/
def doClose (l : Link) (s : State) : State :=
  command l 0x13 (fun r s => sized l 0 r s (fun _ => success [] (closeSession l s))) s

end Sys2Proof.Machine
end

