-- ==== Sys2Proof/Machine/Staging.lean ====
section
/-! DEFINITION. The configuration commands (04_ohmac_command_set.md R142 to R149, R487; 10_actuator_drive.md R320 to
R322; 13 R417): the fields with their checks, the clamp report, staging, the conflicts and the commit. -/

namespace Sys2Proof.Machine

/-! ## Fields (R143, R320) -/

/-- The sizes of the fields of the word at a block offset, in order; reserved bytes form fields of their own, split at
word boundaries. -/
def wordFields (w : Nat) : List Nat :=
  if 0x400 ≤ w then
    (if w % 32 = 0 then [1, 1, 1, 1] else if w % 32 = 16 then [4] else [2, 2])
  else if 0xA0 ≤ w ∧ w < 0x120 then
    (if w % 16 = 0 then [1, 1, 2] else if w % 16 = 12 then [4] else [2, 2])
  else if 0x168 ≤ w ∧ w < 0x180 then [2, 2]
  else if (0x160 ≤ w ∧ w < 0x168) ∨ (0x1A0 ≤ w ∧ w < 0x1B4) then [1, 1, 1, 1]
  else match w with
    | 0x20 | 0x28 | 0x120 | 0x180 => [1, 1, 1, 1]
    | 0x30 => [2, 2]
    | 0x40 | 0x144 | 0x204 => [1, 1, 2]
    | 0x80 | 0x84 => [2, 1, 1]
    | 0x1B4 => [1, 3]
    | _ => [4]

/-- The offsets and sizes of the fields of a word. -/
def fieldsOf (w : Nat) : List (Nat × Nat) :=
  ((wordFields w).foldl (fun (a : Nat × List (Nat × Nat)) n => (a.1 + n, a.2 ++ [(a.1, n)])) (w, [])).2

/-- What a check says of a value: 0 accepted, 1 clamped, 2 refused, with the value stored. -/
structure Check where
  action : Nat
  stored : Nat
  deriving DecidableEq, Repr

/-- A value that stands. -/
def accept (v : Nat) : Check := { action := 0, stored := v }

/-- A value that is refused. -/
def reject : Check := { action := 2, stored := 0 }

/-- Refused outside a range. -/
def within (lo hi v : Nat) : Check := if lo ≤ v ∧ v ≤ hi then accept v else reject

/-- Clamped to a range. -/
def clamped (lo hi v : Nat) : Check :=
  if v < lo then { action := 1, stored := lo } else if hi < v then { action := 1, stored := hi } else accept v

/-- 0, or a range; refused otherwise. -/
def zeroOr (lo hi v : Nat) : Check := if v = 0 then accept v else within lo hi v

/-- On the KL6420-32 a field of an absent bank or Kettle accepts only its default (R143). -/
def absentField (o64 : Bool) (default : Nat) (c : Check) (v : Nat) : Check :=
  if o64 then c else if v = default then accept v else reject

/-- KT_BOOST: 0 or 60 to 300, else clamped (R143). -/
def boostCheck (v : Nat) : Check := if v = 0 then accept v else clamped 60 300 v

/-- A CAN receive identifier in the format FLAGS selects (R143), checked where it lies in the chunk (DESIGN CHOICE, log
77). -/
def canIdCheck (b : Block) (flags v : Nat) : Check :=
  within 0 (if bitAt (blkU8 b flags) 0 then 0x1FFFFFFE else 0x7FE) v

/-- The fixed minimum class of a fault source (R417). -/
def minClass (n : Nat) : Nat :=
  if n = 0 ∨ n = 22 ∨ n = 23 then 2 else if n = 20 ∨ n = 77 ∨ (64 ≤ n ∧ n ≤ 71) then 1 else 0

/-- A CLASS word with every source raised to its minimum (R143, R417). -/
def classWord (w v : Nat) : Nat :=
  (List.range 16).foldl (fun a i => a + max (bits v (2 * i) 2) (minClass (16 * w + i)) * 4 ^ i) 0

/-- A CLASS word: a source of value 3 refuses it, one below its minimum is clamped (R143, R487). -/
def classCheck (w v : Nat) : Check :=
  if (List.range 16).any (fun i => bits v (2 * i) 2 == 3) then reject
  else if classWord w v = v then accept v
  else { action := 1, stored := classWord w v }

/-- ZERO_OFS against N_TEETH of the staging copy (R12, R143). -/
def zeroOfsCheck (b : Block) (v : Nat) : Check := if 2 * blkU16 b 0x80 ≤ v / 4096 then reject else accept v

/-- The fields of one wheel input, by their offset in its section (R143). -/
def wheelInCheck (o v : Nat) : Check :=
  match o with
  | 0 => within 0 5 v
  | 1 => within 0 31 v
  | 2 => clamped 50 2000 v
  | 4 => clamped 100 20000 v
  | 6 | 8 => clamped 1 65535 v
  | _ => within 0 0 v

/-- The fields of the DRIVE section outside the profile table, by their offset in it (R143); a reserved byte that is not
zero is refused (DESIGN CHOICE, log 86). -/
def driveCheck (o64 : Bool) (o v : Nat) : Check :=
  if o < 4 then within 0 1 v
  else if o < 8 then absentField o64 1 (within 0 1 v) v
  else if o < 16 then clamped 0 2000 v
  else if o < 24 then absentField o64 500 (clamped 0 2000 v) v
  else if o < 28 then boostCheck v
  else if o < 32 then absentField o64 0 (boostCheck v) v
  else if o < 34 then clamped 1 15 v
  else if o < 36 then absentField o64 15 (clamped 1 15 v) v
  else within 0 0 v

/-- DITH_PER (R321). -/
def dithCheck (v : Nat) : Check := if v = 0 then accept v else clamped 50 10000 v

/-- A field of a profile entry of KIND 1 or 2, by its offset in the entry (R320, R321). -/
def profileCheck (o64 : Bool) (o v : Nat) : Check :=
  match o with
  | 0 => within 0 2 v
  | 1 => if 16 ≤ v ∨ bits v 1 2 = 3 then reject else accept v
  | 2 => if !o64 && decide (16 ≤ v) then reject else accept v
  | 4 | 6 => zeroOr 60 300 v
  | 8 => zeroOr 50 3200 v
  | 10 | 14 => within 0 2000 v
  | 12 => within 10 1600 v
  | 16 => within 100 400000000 v
  | 20 => clamped 5 200 v
  | 22 => within 0 400 v
  | 24 => dithCheck v
  | 26 => within 0 30000 v
  | 28 => accept v
  | _ => within 0 0 v

/-- A field of a profile entry at CFG_STAGE: of an entry of KIND 0 only the reserved bytes and bits are checked, and
KIND itself (R321). -/
def profileStage (o64 : Bool) (kind o v : Nat) : Check :=
  if kind ≠ 0 ∨ o = 0 ∨ o = 3 ∨ o = 30 then profileCheck o64 o v
  else if o = 1 ∧ 16 ≤ v then reject
  else accept v

/-- The fields of the sections HOST, SUPPLY, FAULT, the head of WHEEL, LENS, SCHED and BG (R143); a reserved byte that is
not zero is refused (DESIGN CHOICE, log 86). -/
def sectionCheck (b : Block) (a v : Nat) : Check :=
  match a with
  | 0x20 | 0x21 | 0x22 | 0x28 | 0x29 | 0x2A => within 0 3 v
  | 0x24 => canIdCheck b 0x22 v
  | 0x2C => canIdCheck b 0x2A v
  | 0x30 => clamped 1 3600 v
  | 0x40 => clamped 1 10 v
  | 0x41 => within 0 1 v
  | 0x50 | 0x54 | 0x58 | 0x5C | 0x60 | 0x64 => classCheck ((a - 0x50) / 4) v
  | 0x68 => clamped 1 1000000 v
  | 0x80 => within 8 1024 v
  | 0x82 => within 0 3 v
  | 0x83 => within 0 2 v
  | 0x84 => accept v
  | 0x86 => within 0 64 v
  | 0x88 => zeroOfsCheck b v
  | 0x8C => clamped 10000 4000000 v
  | 0x120 => clamped 0 8 v
  | 0x121 => within 0 2 v
  | 0x122 => clamped 2 12 v
  | 0x140 => clamped 2000 50000 v
  | 0x144 => clamped 1 64 v
  | 0x145 => within 0 3 v
  | 0x200 => accept v
  | 0x204 => within 0 3 v
  | 0x205 => clamped 0 3 v
  | _ => within 0 0 v

/-- The check of the field at block offset `a` with value `v`, in the block `b` (R143). -/
def fieldCheck (o64 : Bool) (b : Block) (a v : Nat) : Check :=
  if 0x400 ≤ a then profileStage o64 (blkU8 b (a / 32 * 32)) (a % 32) v
  else if 0xA0 ≤ a ∧ a < 0x120 then wheelInCheck (a % 16) v
  else if 0x160 ≤ a ∧ a < 0x1A0 then driveCheck o64 (a - 0x160) v
  else if 0x1A0 ≤ a ∧ a < 0x1B0 then within 0 7 v
  else if 0x1B0 ≤ a ∧ a < 0x1B4 then within 0 3 v
  else if a = 0x1B4 then accept v
  else sectionCheck b a v

/-! ## The clamp report (R146, R487) -/

/-- An entry of the clamp report. -/
structure ReportEntry where
  offset : Nat
  size : Nat
  action : Nat
  written : Nat
  stored : Nat
  deriving DecidableEq, Repr

/-- The 12 bytes of an entry. -/
def ReportEntry.bytes (e : ReportEntry) : List Byte :=
  leBytes 2 e.offset ++ [BitVec.ofNat 8 e.size, BitVec.ofNat 8 e.action] ++ leBytes 4 e.written ++ leBytes 4 e.stored

/-- The clamp report: the first 64 entries by offset (R146). -/
def reportBytes (l : List ReportEntry) : List Byte :=
  leBytes 2 (min 64 l.length) ++ [if 64 < l.length then 1 else 0, 0]
    ++ ((l.take 64).map ReportEntry.bytes).flatten

/-- A little-endian field of a block. -/
def blkField (b : Block) (a n : Nat) : Nat := leNat (blockSlice b a n)

/-- The report entry of a field of a chunk, none if it is accepted (R145). -/
def stageEntry (o64 : Bool) (b : Block) (f : Nat × Nat) : Option ReportEntry :=
  let v := blkField b f.1 f.2
  let c := fieldCheck o64 b f.1 v
  if c.action = 0 then none
  else some { offset := f.1, size := f.2, action := c.action, written := v, stored := c.stored }

/-- The entries of a chunk of `n` bytes at offset `a`, in the copy with the chunk applied (DEDUCED, log 56). -/
def stageEntries (o64 : Bool) (b : Block) (a n : Nat) : List ReportEntry :=
  ((List.range (n / 4)).map (fun i => fieldsOf (a + 4 * i))).flatten.filterMap (stageEntry o64 b)

/-- Write bytes into a block. -/
def blkWrite (b : Block) (a : Nat) (l : List Byte) : Block := Table.setList 0 b a l

/-- The block with the clamped values in place of those sent. -/
def applyClamps (b : Block) (l : List ReportEntry) : Block :=
  l.foldl (fun b e => blkWrite b e.offset (leBytes e.size e.stored)) b

/-! ## CFG_STAGE and CFG_DISCARD (R144, R145) -/

/-- Another session holds staging. -/
def heldElsewhere (s : State) (l : Link) : Bool :=
  match s.cfg.staging with
  | some (h, _) => h != l
  | none => false

/-- The staging copy, or the bytes the next CFG_STAGE fills it with (R144). -/
def stagingCopy (s : State) : Block :=
  match s.cfg.staging with
  | some (_, b) => b
  | none => s.cfg.committed

/-- The effect of a well-formed chunk (R145); one that touches the header is refused with an empty report (DESIGN CHOICE,
log 85). -/
def stageChunk (l : Link) (a : Nat) (data : List Byte) (s : State) : Reply :=
  let b := stagingCopy s
  let s := { s with cfg := { s.cfg with staging := some (l, b) } }
  if a < 0x20 then { status := 11, data := reportBytes [], state := s }
  else
    let t := blkWrite b a data
    let es := stageEntries s.sys.order64 t a data.length
    if es.any (fun e => e.action == 2) then { status := 11, data := reportBytes es, state := s }
    else success (reportBytes es) { s with cfg := { s.cfg with staging := some (l, applyClamps t es) } }

/-- CFG_STAGE (R145). -/
def doCfgStage (l : Link) (s : State) : State :=
  command l 0x40 (fun r s =>
    let b := r.body
    let a := leAt b 0 2
    let n := leAt b 2 2
    if heldElsewhere s l then refusal 17 0 s
    else if b.length < 4 then malformed l b.length s
    else if b.length ≠ 4 + n then malformed l 2 s
    else if a % 4 ≠ 0 ∨ 9216 < a + n then malformed l 0 s
    else if n % 4 ≠ 0 ∨ n < 4 ∨ 4088 < n then malformed l 2 s
    else stageChunk l a (b.drop 4) s) s

/-- This session holds staging. -/
def holdsStaging (s : State) (l : Link) : Bool :=
  match s.cfg.staging with
  | some (h, _) => h == l
  | none => false

/-- CFG_DISCARD (R144); with no session holding staging it is answered with STAGING (DESIGN CHOICE, log 84). -/
def doCfgDiscard (l : Link) (s : State) : State :=
  command l 0x42 (fun r s =>
    if !holdsStaging s l then refusal 17 0 s
    else sized l 0 r s (fun _ => success [] { s with cfg := { s.cfg with staging := none } })) s

/-! ## Conflicts (R147, R322, R487) -/

/-- A conflict of the field at `a` with the field at `other`. -/
def conflict (a n other : Nat) : ReportEntry := { offset := a, size := n, action := 3, written := other, stored := 0 }

/-- One conflict where a condition holds. -/
def conflictIf (c : Bool) (a n other : Nat) : List ReportEntry := if c then [conflict a n other] else []

/-- ROLE of input `n` of a block. -/
def roleAt (b : Block) (n : Nat) : Nat := blkU8 b (0xA0 + 16 * n)

/-- The conflicts of wheel input `n` (R147). -/
def inputConflicts (b : Block) (n : Nat) : List ReportEntry :=
  let o := 0xA0 + 16 * n
  let r := roleAt b n
  let dirDec := bitAt (blkU8 b (o + 1)) 4
  (if r = 0 ∨ r = 5 then [] else
      ((List.range n).filter (fun m => roleAt b m == r)).map (fun m => conflict o 1 (0xA0 + 16 * m)))
    ++ conflictIf (decide (2 ≤ r ∧ r ≤ 4) && !(List.range 8).any (fun m => roleAt b m == 1)) o 1 0
    ++ conflictIf (dirDec && r != 1 && r != 2) (o + 1) 1 o
    ++ conflictIf (dirDec && decide (blkU16 b (o + 8) ≤ blkU16 b (o + 6))) (o + 6) 2 (o + 8)

/-- The conflicts of the geometry, in ascending offset (R147). -/
def geometryConflicts (s : State) (b : Block) : List ReportEntry :=
  let n := blkU16 b 0x80
  (match s.sec.envelope with
    | some e => if envTeeth e = n then [] else [{ conflict 0x80 2 0 with stored := envTeeth e }]
    | none => [])
    ++ conflictIf ((blkU8 b 0x82 == 0) != (blkU8 b 0x83 == 0)) 0x82 1 0x83
    ++ conflictIf (decide (n ≤ blkU16 b 0x84)) 0x84 2 0x80
    ++ conflictIf (decide (2 * n ≤ blkU32 b 0x88 / 4096)) 0x88 4 0x80

/-- The fields of a profile entry that stand out of their range: offset and size (R322). -/
def profileOut (o64 : Bool) (b : Block) (p : Nat) : List (Nat × Nat) :=
  [(1, 1), (2, 1), (4, 2), (6, 2), (8, 2), (10, 2), (12, 2), (14, 2), (16, 4), (20, 2), (22, 2), (24, 2), (26, 2)].filter
    (fun f => (profileCheck o64 f.1 (blkField b (p + f.1) f.2)).action != 0)

/-- The Kettles of the banks a profile permits. -/
def kettlesOf (banks : Nat) : List Nat := (List.range 4).filter (fun k => bits banks (2 * k) 2 != 0)

/-- The conflicts of a SOLENOID profile (R322). -/
def solenoidConflicts (b : Block) (p : Nat) : List ReportEntry :=
  let u := fun o => blkU16 b (p + o)
  let steep := bitAt (blkU8 b (p + 1)) 0
  let boost := u 4
  let none_ := boost == 0
  conflictIf (none_ != (u 6 == 0)) (p + 4) 2 (p + 6)
    ++ conflictIf (none_ != (u 26 == 0)) (p + 4) 2 (p + 26)
    ++ conflictIf (none_ && steep) (p + 4) 2 (p + 1)
    ++ conflictIf (!none_ && decide (boost < u 6)) (p + 6) 2 (p + 4)
    ++ (if none_ then [] else
      ((kettlesOf (blkU8 b (p + 2))).filter (fun k => blkU16 b (0x178 + 2 * k) != boost)).map
        (fun k => conflict (p + 4) 2 (0x178 + 2 * k)))
    ++ conflictIf (u 8 == 0) (p + 8) 2 0 ++ conflictIf (u 10 == 0) (p + 10) 2 0 ++ conflictIf (u 14 == 0) (p + 14) 2 0
    ++ conflictIf (decide (u 8 < u 12)) (p + 12) 2 (p + 8)

/-- The conflicts of a PROPORTIONAL profile (R322). -/
def proportionalConflicts (b : Block) (p : Nat) : List ReportEntry :=
  let u := fun o => blkU16 b (p + o)
  ([4, 6, 26, 8, 10, 14].filter (fun o => u o != 0)).map (fun o => conflict (p + o) 2 0)
    ++ conflictIf (bits (blkU8 b (p + 1)) 0 3 != 0) (p + 1) 1 0
    ++ ((List.range 8).filter (fun k => bitAt (blkU8 b (p + 2)) k && blkBanked b k)).map
      (fun k => conflict (p + 2) 1 (0x160 + k))

/-- The conflicts of a profile entry at block offset `p` (R322, R487). -/
def profileConflicts (o64 : Bool) (b : Block) (p : Nat) : List ReportEntry :=
  let kind := blkU8 b p
  let amp := blkU16 b (p + 22)
  if kind ≠ 1 ∧ kind ≠ 2 then []
  else
    conflictIf (blkU8 b (p + 2) == 0) (p + 2) 1 0
      ++ (if kind = 1 then solenoidConflicts b p else proportionalConflicts b p)
      ++ conflictIf (amp != 0 && blkU16 b (p + 24) == 0) (p + 22) 2 (p + 24)
      ++ conflictIf (decide (blkU16 b (p + 12) < amp)) (p + 22) 2 (p + 12)
      ++ (profileOut o64 b p).map (fun f => conflict (p + f.1) f.2 p)

/-- A report entry put into its place by offset, behind those of the same offset. -/
def insertEntry (e : ReportEntry) : List ReportEntry → List ReportEntry
  | [] => [e]
  | x :: r => if e.offset < x.offset then e :: x :: r else x :: insertEntry e r

/-- Entries in ascending offset. -/
def byOffset (l : List ReportEntry) : List ReportEntry := l.foldl (fun a e => insertEntry e a) []

/-- Every conflict of a staging copy, by offset (R147). -/
def conflictsOf (s : State) (b : Block) : List ReportEntry :=
  byOffset (geometryConflicts s b ++ ((List.range 8).map (inputConflicts b)).flatten
    ++ ((List.range 256).map (fun i => profileConflicts s.sys.order64 b (0x400 + 32 * i))).flatten)

/-! ## CFG_COMMIT (R147 to R150) -/

/-- The header of a block with a COMMIT_SEQ (R142). -/
def withSeq (b : Block) (n : Nat) : Block := blkWrite b 8 (leBytes 8 n)

/-- The groups that differ between two blocks. -/
def changedGroups (a b : Block) : Nat := maskOf 9 (groupDiffers a b)

/-- The groups that take effect at the commit instant (R150). -/
def immediateGroups (s : State) : Nat :=
  match s.whl.sync with
  | .nosync => 0x1FE
  | .tooth => 0x1F6
  | _ => 0x186

/-- A commit without conflict: COMMIT_SEQ is incremented, staging is released, the changed groups take effect or wait,
and the Caddy write begins (R148 to R150). -/
def commitDone (b : Block) (s : State) : Reply :=
  let n := commitSeq s.cfg.committed + 1
  let ch := changedGroups s.cfg.committed b
  let before := s.cfg.pending
  let c := withSeq b n
  let s := { s with cfg := { s.cfg with
    active := withSeq s.cfg.active n, committed := c, pending := before ||| BitVec.ofNat 16 ch
    staging := none, storing := some c } }
  let s := applyPending (immediateGroups s) s
  let p := s.cfg.pending.toNat
  success (leBytes 8 n ++ leBytes 2 ch ++ leBytes 2 (ch &&& (0x1FF - p)) ++ leBytes 2 p ++ zeros 2 ++ reportBytes []) s

/-- CFG_COMMIT (R147); with no session holding staging it is answered with STAGING (DESIGN CHOICE, log 84). -/
def doCfgCommit (l : Link) (s : State) : State :=
  command l 0x41 (fun r s =>
    if !holdsStaging s l then refusal 17 0 s
    else sized l 32 r s (fun _ =>
      let b := stagingCopy s
      if sha (blockAll b) ≠ r.body then refusal 17 0 s
      else match conflictsOf s b with
        | [] => commitDone b s
        | es => { status := 17, data := reportBytes es, state := s })) s

/-- CONFIG_STORE_COMPLETE: the block's atomic replacement is read back, or fails (R149). -/
def doConfigStoreComplete (ok : Bool) (s : State) : State :=
  match s.cfg.storing with
  | none => s
  | some b =>
    let s := { s with cfg := { s.cfg with storing := none } }
    if ok then regionWritten 133 3 { s with nv := { s.nv with cfg := some b } } else writeFailed 133 s

/-! ## CFG_READ and CFG_STATUS (R135) -/

/-- CFG_READ: the active block, staging or the stored block; with none stored the default block (DESIGN CHOICE, log 87). -/
def doCfgRead (l : Link) (s : State) : State :=
  command l 0x43 (fun r s => sized l 8 r s (fun _ =>
    let b := r.body
    let w := leAt b 0 1
    let a := leAt b 2 2
    let n := leAt b 4 2
    if leAt b 1 1 ≠ 0 then malformed l 1 s
    else if leAt b 6 2 ≠ 0 then malformed l 6 s
    else if 2 < w ∨ n < 4 ∨ 4092 < n ∨ 9216 < a + n then refusal 11 0 s
    else success (blockSlice (match w with
      | 0 => s.cfg.active
      | 1 => stagingCopy s
      | _ => s.nv.cfg.getD defaultBlock) a n) s)) s

/-- CFG_STATUS. -/
def doCfgStatus (l : Link) (s : State) : State :=
  command l 0x44 (fun r s => sized l 0 r s (fun _ =>
    let holder : Byte × List Byte := match s.cfg.staging with
      | some (h, b) => (BitVec.ofNat 8 (linkId h), sha (blockAll b))
      | none => (0xFF, zeros 32)
    success ([holder.1, 0] ++ leBytes 2 s.cfg.pending.toNat ++ leBytes 8 (commitSeq s.cfg.committed)
      ++ sha (blockAll s.cfg.active) ++ holder.2) s)) s

end Sys2Proof.Machine
end

