-- ==== Sys2Proof/Machine/Service.lean ====
section
/-! DEFINITION. The commands that read, write mailboxes, install images and test (04_ohmac_command_set.md R134 to R141;
03 R102 to R107; 11 R364; 14 R440, R445; 15 R460, R461). -/

namespace Sys2Proof.Machine

/-! ## Reading -/

/-- PING (R135). -/
def doPing (l : Link) (s : State) : State :=
  command l 0x14 (fun r s => sized l 0 r s (fun _ =>
    success (leBytes 8 s.etc ++ leBytes 4 s.evs.cycle ++ zeros 4) s)) s

/-- Register words read in ascending order with the management core's snapshot (R137). -/
def readSeq : Nat → Nat → State → List Byte × State
  | 0, _, s => ([], s)
  | n + 1, a, s =>
    let w := regWord .core a s
    let t := readSeq n (a + 4) (regLatch .core a s)
    (leBytes 4 w.toNat ++ t.1, t.2)

/-- READ_REGS (R137). -/
def doReadRegs (l : Link) (s : State) : State :=
  command l 0x20 (fun r s => sized l 8 r s (fun _ =>
    let a := leAt r.body 0 4
    let n := leAt r.body 4 2
    if a % 4 ≠ 0 then malformed l 0 s
    else if leAt r.body 6 2 ≠ 0 then malformed l 6 s
    else if n < 1 ∨ 1023 < n ∨ 0x10000 < a + 4 * n then refusal 11 0 s
    else
      let t := readSeq n a s
      success t.1 t.2)) s

/-- CYCLE_RECORD: the record of one of the last 256 completed cycles, signed by DIK (R106, R107). -/
def doCycleRecord (l : Link) (s : State) : State :=
  command l 0x21 (fun r s => sized l 20 r s (fun _ =>
    match s.evs.records.find? (fun c => c.cycle == leAt r.body 0 4) with
    | none => refusal 11 0 s
    | some c =>
      let b := c.bytes (slice r.body 4 16)
      success (b ++ dikSig s b) (signed1 s))) s

/-- TELEMETRY: the newest complete batch (R440). -/
def doTelemetry (l : Link) (s : State) : State :=
  command l 0x22 (fun r s => sized l 0 r s (fun _ => success s.bgs.batch s)) s

/-- How many entries ago an INDEX was given, modulo 2^32; 0 for the next one. -/
def logAge (s : State) (i : Nat) : Nat := (s.bgs.logNext + 2 ^ 32 - i) % 2 ^ 32

/-- An entry put into its place in INDEX order. -/
def insertLog (s : State) (e : LogEntry) : List LogEntry → List LogEntry
  | [] => [e]
  | x :: r => if logAge s x.index < logAge s e.index then e :: x :: r else x :: insertLog s e r

/-- The entries in the ring and the tail buffer from an INDEX on, in INDEX order (R445). -/
def logFrom (s : State) (first : Nat) : List LogEntry :=
  let a := logAge s first
  if a = 0 ∨ 2 ^ 31 ≤ a then []
  else ((s.nv.ring.map (fun e => e.2) ++ s.bgs.tail).filter (fun e => decide (logAge s e.index ≤ a))).foldl
    (fun l e => insertLog s e l) []

/-- Whole entries while they number at most `n` and fill at most `room` bytes (R445). -/
def takeEntries : Nat → Nat → List LogEntry → List LogEntry
  | 0, _, _ => []
  | _, _, [] => []
  | n + 1, room, e :: r => if e.bytes.length ≤ room then e :: takeEntries n (room - e.bytes.length) r else []

/-- LOG_READ (R445). -/
def doLogRead (l : Link) (s : State) : State :=
  command l 0x23 (fun r s => sized l 8 r s (fun _ =>
    let n := leAt r.body 4 2
    if leAt r.body 6 2 ≠ 0 then malformed l 6 s
    else if n < 1 ∨ 64 < n then refusal 11 0 s
    else
      let all := logFrom s (leAt r.body 0 4)
      let es := takeEntries n 4084 all
      let next := ((all.drop es.length).head?).map (fun e => e.index)
      success (leBytes 4 (next.getD s.bgs.logNext) ++ leBytes 2 es.length ++ zeros 2
        ++ (es.map LogEntry.bytes).flatten) s)) s

/-! ## TARGETS (R136) -/

/-- The words of a byte string. -/
def wordsOf (b : List Byte) : List Word := (List.range (b.length / 4)).map (fun i => BitVec.ofNat 32 (leAt b (4 * i) 4))

/-- The mailbox of sequencer `q` is written in one piece, MBX_SEQ is incremented and the MBX latch set (R136, R273). -/
def writeMailbox (q first : Nat) (w : List Word) (s : State) : State :=
  let x := s.sq q
  latchSq 0 q (s.setSq q { x with mailbox := Table.setList 0 x.mailbox first w, mbxSeq := x.mbxSeq + 1 })

/-- TARGETS (R134 to R136). -/
def doTargets (l : Link) (s : State) : State :=
  command l 0x30 (fun r s =>
    let b := r.body
    let q := leAt b 0 1
    let f := leAt b 1 1
    let n := leAt b 2 1
    if s.sys.running.isNone then refusal 2 0 s
    else if b.length < 4 then malformed l b.length s
    else if leAt b 3 1 ≠ 0 then malformed l 3 s
    else if b.length ≠ 4 + 4 * n then malformed l (min b.length (4 + 4 * n)) s
    else if 15 < q ∨ 63 < f ∨ n < 1 ∨ 64 < f + n then refusal 11 0 s
    else
      let s := writeMailbox q f (wordsOf (b.drop 4)) s
      success (leBytes 8 s.etc ++ leBytes 4 (s.sq q).mbxSeq.toNat ++ zeros 4) s) s

/-! ## Images (R102 to R104, R139, R140, R460) -/

/-- The reset sequence has ended (R461). -/
def sequenceEnded (s : State) : Bool := s.sys.seqDone && s.sys.mode != .reset

/-- The slot a byte names. -/
def slotOf (n : Nat) : Option Slot := if n = 0 then some .a else if n = 1 then some .b else none

/-- IMG_BEGIN: the slot is marked empty and erased (R139). -/
def doImgBegin (l : Link) (s : State) : State :=
  command l 0x50 (fun r s =>
    if !sequenceEnded s then refusal 2 0 s
    else sized l 8 r s (fun _ =>
      let total := leAt r.body 4 4
      match firstNonZero r.body 1 3, slotOf (leAt r.body 0 1) with
      | some o, _ => malformed l o s
      | none, none => refusal 11 0 s
      | none, some x =>
        if total < 192 ∨ 262144 < total then refusal 11 0 s
        else if s.sys.running = some x then refusal 13 0 s
        else
          let s := setImage x {} s
          success [] { s with sec := { s.sec with transfer := some { slot := x, total := total, next := 0, link := l } } })) s

/-- The transfer in progress on a link. -/
def transferOf (s : State) (l : Link) : Option Transfer := s.sec.transfer.filter (fun x => x.link == l)

/-- The Caddy blocks that `n` more bytes of a transfer complete. -/
def imageBlocks (x : Transfer) (n : Nat) : List Nat :=
  let e := if x.next + n = x.total then (x.total + 4095) / 4096 else (x.next + n) / 4096
  (List.range (e - x.next / 4096)).map (fun i => 64 * slotCode x.slot + x.next / 4096 + i)

/-- IMG_DATA: bytes at the next expected offset (R139). -/
def doImgData (l : Link) (s : State) : State :=
  command l 0x51 (fun r s =>
    let b := r.body
    let d := b.drop 4
    match transferOf s l with
    | none => refusal 2 0 s
    | some x =>
      if b.length < 5 ∨ 4092 < b.length then malformed l (min b.length 4092) s
      else if leAt b 0 4 ≠ x.next ∨ x.total < x.next + d.length then refusal 11 0 s
      else
        let i := imageOf s x.slot
        let s := blocksWritten (imageBlocks x d.length) (setImage x.slot { i with bytes := i.bytes ++ d } s)
        let n := x.next + d.length
        success (leBytes 4 n) { s with sec := { s.sec with transfer := some { x with next := n } } }) s

/-- The first check of R103 an image fails, as STATUS and DETAIL, in the order of R139. -/
def imageRefusal (s : State) (x : Slot) (b : List Byte) : Option (Nat × Nat) :=
  match imgFormFault b with
  | some o => some (1, o)
  | none =>
    if s.sys.running = some x then some (13, 0)
    else if !imgOwned s b || !imgSignerOk s b || !imgSigOk s b then some (4, 0)
    else if !imgHashOk s b then some (14, 0)
    else if imgSeq b < s.keys.floor then some (5, 0)
    else if Config.romVersion < leAt b 76 2 then some (15, 0)
    else if !imgLensOk s b then some (14, 0)
    else none

/-- What a refused image does: its slot is marked empty, source 237, the counts of R109 (R103, R109). -/
def imageRefused (l : Link) (x : Slot) (st : Nat) (s : State) : State :=
  let s := raise 237 (logImage x 2 st (0, 0) s)
  let s := setImage x {} s
  if st = 1 then plainFail l s else if st = 4 then signatureFail l s else if st = 5 then countedFail l s else s

/-- IMG_END: the slot's content is verified (R103, R104, R139). -/
def doImgEnd (l : Link) (s : State) : State :=
  command l 0x52 (fun r s =>
    match transferOf s l with
    | none => refusal 2 0 s
    | some x => sized l 0 r s (fun _ =>
      if x.next ≠ x.total then refusal 2 0 s
      else
        let b := (imageOf s x.slot).bytes
        let s := { s with sec := { s.sec with transfer := none } }
        match imageRefusal s x.slot b with
        | some (st, d) => refusal st d (imageRefused l x.slot st s)
        | none =>
          let s := linkOk l (setImage x.slot { bytes := b, full := true, verified := true } s)
          success (slice b 8 8 ++ sha (slice b 0 128)) (raise 237 (logImage x.slot 1 0 (0, 0) s)))) s

/-- The key store with a slot selected (R460). -/
def selected (x : Slot) (seq : Nat) (k : KeyStore) : KeyStore :=
  if seq = k.floor then { k with sel := x, trial := false } else { k with sel := x, trial := true, trials := 3 }

/-- IMG_SELECT: the slot the next reset tries first, sealed in the key store (R140, R460). -/
def doImgSelect (l : Link) (stored : Bool) (s : State) : State :=
  command l 0x53 (fun r s =>
    if !sequenceEnded s then refusal 2 0 s
    else sized l 4 r s (fun _ =>
      match firstNonZero r.body 1 3, slotOf (leAt r.body 0 1) with
      | some o, _ => malformed l o s
      | none, none => refusal 11 0 s
      | none, some x =>
        let i := imageOf s x
        if !i.full || !i.verified then refusal 13 0 s
        else if !stored then refusal 19 0 (writeFailed 129 s)
        else success [] (writeKeys (selected x (imgSeq i.bytes) s.keys) s))) s

/-- IMG_CONFIRM: the image floor rises to the running image's IMG_SEQ, and TRIAL clears (R104, R460) (DEDUCED, log
59). -/
def doImgConfirm (l : Link) (stored : Bool) (s : State) : State :=
  command l 0x54 (fun r s =>
    match sequenceEnded s, s.sys.running with
    | true, some x => sized l 0 r s (fun _ =>
      if !stored then refusal 19 0 (writeFailed 129 s)
      else
        let n := max s.keys.floor (imgSeq (imageOf s x).bytes)
        let s := writeKeys { s.keys with floor := n, trial := false } s
        success (leBytes 8 n) (raise 237 (logImage x 3 0 (0, 0) s)))
    | _, _ => refusal 2 0 s) s

/-- RESET: answered first; the reset sequence starts 10 ms after the response is ready (R140). -/
def doReset (l : Link) (s : State) : State :=
  command l 0x55 (fun r s =>
    if !sequenceEnded s then refusal 2 0 s
    else if s.whl.sync ≠ .nosync then refusal 12 (syncCode s.whl.sync) s
    else sized l 4 r s (fun _ =>
      match firstNonZero r.body 1 3 with
      | some o => malformed l o s
      | none =>
        if leAt r.body 0 1 ≠ 0 then refusal 11 0 s
        else success [] { s with sys := { s.sys with
          resetDue := some (s.sys.resetDue.getD (s.etc + 10 * ticksPerMs)) } })) s

/-! ## Tests (R141, R364) -/

/-- STATUS, DETAIL and data for an insertion result (R141). -/
def shotReply (a : Answer) (s : State) : Reply :=
  match a.res with
  | 0 => success (leBytes 2 (bits a.handle.toNat 0 16) ++ zeros 2) s
  | 2 | 4 | 5 => refusal 11 a.res s
  | 3 => refusal 12 (syncCode s.whl.sync) s
  | 8 => refusal 20 a.detail s
  | r => refusal 2 r s

/-- TEST_SHOT: one event of OWNER 16 for the next occurrence of the target (R141). -/
def doTestShot (l : Link) (s : State) : State :=
  command l 0x60 (fun r s =>
    let b := r.body
    let ch := leAt b 0 1
    let p := leAt b 2 2
    if s.sys.running.isNone then refusal 2 0 s
    else sized l 8 r s (fun _ =>
      if leAt b 1 1 ≠ 0 then malformed l 1 s
      else if 63 < ch ∨ 255 < p then refusal 11 2 s
      else
        let t := insertEvent 16 (BitVec.ofNat 32 (leAt b 4 4)) (BitVec.ofNat 32 (ch + p * 2 ^ 8 + 2 ^ 24)) 0 (served 16 s)
        shotReply t.2 t.1)) s

/-- DIAG_RUN of a test kind (R364): `k` runs on the channel mask. -/
def diagRun (l : Link) (kind : Nat) (k : BitVec 64 → State → State) (s : State) : State :=
  match requestOf l 0x61 s with
  | none => s
  | some q =>
    if leAt q.body 8 1 ≠ kind then s
    else command l 0x61 (fun r s =>
      let m := leAt r.body 0 8
      if s.flt.safe ∧ kind = 1 then refusal 2 0 s
      else if 2 ^ s.channels ≤ m then refusal 11 0 s
      else success [] (k (BitVec.ofNat 64 m) s)) s

/-- DIAG_RUN_OFF_TEST: test kind 1 (R364). -/
def doDiagRunOffTest (l : Link) (s : State) : State := diagRun l 1 diagOffTest s

/-- DIAG_RUN_CLEAR: test kind 2 (R364). -/
def doDiagRunClear (l : Link) (s : State) : State := diagRun l 2 diagClear s

end Sys2Proof.Machine
end

