-- ==== Sys2Proof/Machine/Writes.lean ====
section
/-! DEFINITION. Register writes (16_register_address_map.md R476, R478 and the register tables of each chapter): who may
write what, the fields a write changes and what it sets off. A value outside a field's range is stored as the
nearest limit (R368, R396, R399); reserved bits are ignored (R14). -/

namespace Sys2Proof.Machine

/-! ## Timers (R390, R399, R400) -/

/-- FILT holds 0 or 20 to 10,000 ns: the nearest limit (R399, R400). -/
def clampFilt (v : Nat) : Nat := if v < 10 then 0 else clampNat 20 10000 v

/-- The settings a write of `TIM_CTL` stores (R392, R400) (DEDUCED, log 37). -/
def timerCfgOf (v : Nat) (c : TimerCfg) : TimerCfg :=
  { c with
    tb := min 6 (bits v 0 3), capture := bitAt v 3, restart := bitAt v 4, link := min 2 (bits v 5 2)
    master := min 23 (bits v 8 5), cap := bits v 16 4 }

/-- A write of `TIM_CTL`: the settings, then STOP, then START (R390) (DEDUCED, log 72). -/
def writeTimCtl (n v : Nat) (s : State) : State :=
  let s := s.setTimer n { s.timer n with ctl := timerCfgOf v (s.timer n).ctl }
  let s := if bitAt v 25 then doTimerStop n s else s
  if bitAt v 24 then doTimerStart n s else s

/-- A write of `TIM_CAPCFG`. -/
def writeTimCapcfg (n v : Nat) (s : State) : State :=
  let c := s.timer n
  s.setTimer n { c with ctl := { c.ctl with filt := clampFilt (bits v 0 14), ps := clampNat 1 256 (bits v 16 9) } }

/-- A write of `TIM_STAT`: EXP, NEW and OVR clear where written 1. -/
def writeTimStat (n v : Nat) (s : State) : State :=
  let c := s.timer n
  s.setTimer n { c with
    exp := c.exp && !bitAt v 2, new := c.new && !bitAt v 3, ovr := c.ovr && !bitAt v 4 }

/-- A write of a timer's register. -/
def writeTimer (n o : Nat) (v : Word) (s : State) : State :=
  match o with
  | 0x00 => writeTimCtl n v.toNat s
  | 0x04 => doTimerTargetWrite n v s
  | 0x0C => writeTimCapcfg n v.toNat s
  | 0x1C => writeTimStat n v.toNat s
  | 0x20 => s.setTimer n { s.timer n with ieExp := bitAt v.toNat 0, ieCap := bitAt v.toNat 1 }
  | _ => s

/-! ## PWM units (R377, R379, R383, R396 to R398) -/

/-- A write of `PWM_EB_CTL`: the fields, then LOAD, then EN. -/
def writeEbCtl (n v : Nat) (s : State) : State :=
  let s := s.setEb n { s.ebU n with updnCtl := bitAt v 1, imm := bitAt v 2, tlatch := bitAt v 4 }
  let s := ebSetMask (BitVec.ofNat 4 (bits v 8 4)) n s
  let s := if bitAt v 3 then doEbLoadArm n s else s
  if bitAt v 0 then doEbEnable n s else if (s.ebU n).en then doEbDisable n s else s

/-- The shadow a write of `PWM_EB_DT` leaves. -/
def dtShadow (v : Nat) (x : EbVals) : EbVals :=
  { x with dtMin := bits v 0 10, dtMax := clampNat 20 1023 (bits v 16 10), adapt := bitAt v 31 }

/-- The shadow a write of `PWM_EB_PROT` leaves. -/
def protShadow (v : Nat) (x : EbVals) : EbVals :=
  { x with minPulse := bits v 0 10, blank := min 1023 (bits v 12 10), tripFilt := min 100 (bits v 24 7) }

/-- A write of `PWM_EB_STAT`: flags clear where written 1; a 1 at TRIPPED asks for its clearing. -/
def writeEbStat (n v : Nat) (s : State) : State :=
  let u := s.ebU n
  let s := s.setEb n { u with flags := u.flags &&& ~~~(BitVec.ofNat 5 (bits v 8 5)) }
  if bitAt v 16 then doEbTripClear n s else s

/-- A write of an EB unit's register. -/
def writeEb (n o : Nat) (v : Word) (s : State) : State :=
  let u := s.ebU n
  match o with
  | 0x00 => writeEbCtl n v.toNat s
  | 0x04 => doEbWrite n .per v s
  | 0x08 => doEbWrite n .cmp v s
  | 0x0C => ebShadow (dtShadow v.toNat) n s
  | 0x10 => ebShadow (protShadow v.toNat) n s
  | 0x14 => s.setEb n { u with 
      ie := BitVec.ofNat 5 (bits v.toNat 0 5), ips := bits v.toNat 8 8, preZero := 0, prePer := 0, preCmp := 0 }
  | 0x18 => writeEbStat n v.toNat s
  | _ => s

/-- A write of `PWM_KC_TRIGj`. -/
def kcTrigOf (v : Nat) (g : KcTrig) : KcTrig :=
  { g with frac := bits v 0 16, bsel := bitAt v 16, ch := bits v 17 3, en := bitAt v 20 }

/-- A write of a KC unit's register. -/
def writeKc (k o : Nat) (v : Word) (s : State) : State :=
  let u := s.kcU k
  if s.kettles ≤ k then s
  else match o with
    | 0x10 => s.setKc k { u with 
        ie := BitVec.ofNat 7 (bits v.toNat 0 7), ips := bits v.toNat 8 8, preZero := 0, prePer := 0, preCmp := 0 }
    | 0x14 => s.setKc k { u with flags := u.flags &&& ~~~(BitVec.ofNat 7 (bits v.toNat 0 7)) }
    | _ =>
      if 0x18 ≤ o ∧ o < 0x28 then
        s.setKc k { u with trig := u.trig.modify {} ((o - 0x18) / 4) (kcTrigOf v.toNat) }
      else s

/-- A write of the PWM block. -/
def writePwm (a : Nat) (v : Word) (s : State) : State :=
  match a with
  | 0x4F00 => doPwmGlbLoad (bits v.toNat 0 8) s
  | 0x4F04 => doPwmGlbStart (bits v.toNat 0 8) s
  | _ => match window 0x4000 0x80 8 a, window 0x4400 0x80 4 a with
    | some (n, o), _ => writeEb n o v s
    | _, some (k, o) => writeKc k o v s
    | _, _ => s

/-- A write of the TIM block. -/
def writeTim (a : Nat) (v : Word) (s : State) : State :=
  match a with
  | 0x3F00 => doTimGlbStart (bits v.toNat 0 24) s
  | _ => match window 0x3000 0x40 24 a with
    | some (n, o) => writeTimer n o v s
    | none => s

/-! ## Detection settings (R368, R369) -/

/-- The fields of `DIA_CH_KCFG`. -/
def kcfgOf (v : Nat) (c : KinkCfg) : KinkCfg :=
  { c with
    en := bitAt v 0, pol := bitAt v 1, range := bitAt v 2, f := min 5 (bits v 3 3)
    d := clampNat 2 64 (bits v 8 7), kth := clampNat 1 2047 (bits v 16 12) }

/-- The fields of `DIA_CH_WIN`. -/
def kwinOf (v : Nat) (c : KinkCfg) : KinkCfg :=
  { c with winStart := bits v 0 12, winLen := max 1 (bits v 12 12), dec := min 4 (bits v 24 3) }

/-- A write of a channel's detection registers. -/
def writeDch (k o : Nat) (v : Word) (s : State) : State :=
  let h := s.dch k
  let w := v.toNat
  if s.channels ≤ k then s
  else match o with
    | 0x00 => s.setDch k { h with cfg := kcfgOf w h.cfg }
    | 0x04 => s.setDch k { h with cfg := kwinOf w h.cfg }
    | 0x08 => s.setDch k { h with offEn := bitAt w 0, openEn := bitAt w 1, tOpen := clampNat 10 2000 (bits w 16 11) }
    | 0x14 => s.setDch k { h with offFlt := h.offFlt && !bitAt w 4, onFlt := h.onFlt && !bitAt w 5 }
    | _ => s

/-! ## Power, levels and the watchdog (R423, R425, R471) -/

/-- A write of `SYS_PWR_CTL`: the settings, then the request (R465, R468, R472). -/
def writePwrCtl (v : Nat) (s : State) : State :=
  let s := { s with sys := { s.sys with autoStby := bits v 8 8, autoSlp := bits v 16 16 } }
  match bits v 0 2 with
  | 1 => doStandbyRequest s
  | 2 => doSleepRequest s
  | _ => s

/-- A write of `IRC_LEVELw`. -/
def writeLevel (w : Nat) (v : Word) (s : State) : State :=
  { s with irc := { s.irc with levels := s.irc.levels.set (levelReset w) w v } }

/-! ## Interrupt targets (R407, R423, R424) -/

/-- One 32-bit word of the enables replaced. -/
def setEnWord (en : BitVec 256) (w : Nat) (v : Word) : BitVec 256 :=
  BitVec.ofNat 256 (en.toNat - word32 en w * 2 ^ (32 * w) + v.toNat * 2 ^ (32 * w))

/-- A write of a target's claim-complete register. -/
def writeCc (g : IrqTarget) (v : Nat) (s : State) : State :=
  if bitAt v 8 then doIrqComplete g (bits v 0 8) s else doIrqClaim g (bits v 0 8) s

/-- A write of `IRC_HOST_MOD`. -/
def writeMod (v : Nat) (s : State) : State :=
  { s with irc := { s.irc with
    modUs := bits v 0 12, modCnt := max 1 (bits v 12 8), bypass := bits v 20 4, idle := bits v 24 8 } }

/-- A target's registers that a write changes, by their offset; `none` for any other. -/
def writeTarget (g : IrqTarget) (o : Nat) (v : Word) (s : State) : Option State :=
  let x := s.target g
  if o < 0x20 then some (s.setTarget g { x with en := setEnWord x.en (o / 4) v })
  else match o with
    | 0x60 => some (s.setTarget g { x with thr := bits v.toNat 0 4 })
    | 0x6C => some (writeCc g v.toNat s)
    | _ => none

/-! ## The writers of R478 -/

/-- A host write that has no effect is counted (R16). -/
def hostRefused (s : State) : State := { s with links := { s.links with hostRej := satInc 0xFFFFFFFF s.links.hostRej } }

/-- A host write of one word of the transmit buffer (R125, R126). -/
def writeTxBuf (a : Nat) (v : Word) (s : State) : State :=
  if s.links.txFrame.isSome then hostRefused s
  else { s with links := { s.links with txBuf := s.links.txBuf.setList 0 (a - 0x200) (leBytes 4 v.toNat) } }

/-- A host write of `SYS_MBX_CTL`: ABORT, then RX_DONE, then SEND (R125). -/
def writeMbxCtl (v : Nat) (s : State) : State :=
  let s := if bitAt v 18 then doMbxAbort s else s
  let s := if bitAt v 17 then doMbxRxDone s else s
  if bitAt v 16 then doMbxSend (bits v 0 10) s else s

/-- A write by the host over SPI (R16, R124, R478). -/
def hostWrite (a : Nat) (v : Word) (s : State) : State :=
  if !linksOn s then s
  else if a = 0x100 then writeMbxCtl v.toNat s
  else if 0x200 ≤ a ∧ a < 0x400 then writeTxBuf a v s
  else if a = 0x1164 then writeMod v.toNat s
  else if 0x1100 ≤ a ∧ a < 0x1178 then (writeTarget .host (a - 0x1100) v s).getD (hostRefused s)
  else hostRefused s

/-- A write by angle code or by the Rharno firmware (R478); `owner` is the sequencer, 16 for the firmware. -/
def codeWrite (owner a : Nat) (v : Word) (s : State) : State :=
  match a / 4096 with
  | 0 => match a with
    | 0x8 => writePwrCtl v.toNat s
    | 0x10 => { s with sys := { s.sys with wakeEn := BitVec.ofNat 7 (bits v.toNat 0 7), wakeLvl := bits v.toNat 8 4 } }
    | _ => s
  | 1 => if a < 0x1080 then writeLevel ((a - 0x1000) / 4) v s else s
  | 2 => match a with
    | 0x2000 => doFaultAcknowledge 0 v s
    | 0x2004 => doFaultAcknowledge 1 v s
    | 0x2008 => doFaultAcknowledge 2 v s
    | 0x2060 => writeWdtCfg v.toNat s
    | 0x2064 => doWatchdogService (v.setWidth 16) s
    | _ => s
  | 3 => writeTim a v s
  | 4 => writePwm a v s
  | 6 => if a = 0x6030 then
      { s with lns := { s.lns with spdLo := bits v.toNat 0 16, spdHi := bits v.toNat 16 16 } }
    else s
  | 9 => match window 0x9000 64 64 a with
    | some (k, 0x0C) => doSetpointWrite k v s
    | some (k, 0x10) => doExtensionWrite owner k v.toNat s
    | _ => s
  | 10 => match window 0xA000 32 64 a with
    | some (k, o) => writeDch k o v s
    | none => s
  | _ => s

/-- A write by the management core: its own target's registers, and as the Rharno firmware the rest (R478). -/
def coreWrite (a : Nat) (v : Word) (s : State) : State :=
  if asleep s then s
  else if 0x1200 ≤ a ∧ a < 0x1278 then (writeTarget .mgmt (a - 0x1200) v s).getD s
  else codeWrite 16 a v s

/-- REGISTER_WRITE: a write of an aligned word by a requester; one by a requester R478 does not name has no effect
(R16, R476, R478) (DESIGN CHOICE, log 9) (DEDUCED, log 63). -/
def doRegisterWrite (r : Requester) (a : Nat) (v : Word) (s : State) : State :=
  if a % 4 ≠ 0 then s
  else match r with
    | .host => hostWrite a v s
    | .core => coreWrite a v s
    | .dma _ => s
    | .ctx q p =>
      if s.sys.mode = .run ∧ admitted ((s.task (8 * q.val + p.val)).getD {}).segs .store a 4 = true then
        codeWrite q.val a v s
      else s

end Sys2Proof.Machine
end

