-- ==== Sys2Proof/Machine/Tasks.lean ====
section
/-! DEFINITION. Contexts, priority, budget, faults and the issue of instructions (09_tasks_memory_dma_faults.md R295 to
R305, 08_angle_code_isa.md R257 to R263). -/

namespace Sys2Proof.Machine

/-! ## Contexts -/

/-- The task of context `i`; an empty slot holds none, and issues nothing. -/
def State.taskOf (s : State) (i : Nat) : Task := (s.task i).getD {}

/-- The context as a requester (R9). -/
def ctxReq (i : Nat) : Requester := .ctx (Fin.ofNat 16 (i / 8)) (Fin.ofNat 8 i)

/-- The context is READY or ISSUING. -/
def mayIssue (s : State) (i : Nat) : Bool := (s.ctx i).state == .ready || (s.ctx i).state == .issuing

/-- Context `i` issues ahead of context `j`: higher current priority, else the one issuing already, else ready first
(R299, R300). -/
def issuesBefore (s : State) (i j : Nat) : Bool :=
  decide ((s.ctx j).prioNow < (s.ctx i).prioNow)
    || ((s.ctx i).prioNow == (s.ctx j).prioNow && (s.ctx j).state != .issuing
      && ((s.ctx i).state == .issuing || decide ((s.ctx i).order < (s.ctx j).order)))

/-- The instant at which the instruction in progress on a sequencer was issued (R300): the last boundary, or, if no
context was ready then, the instant at which the first became ready. -/
def issuedAt (s : State) (q : Nat) : Tick :=
  let b := max (s.sq q).boundary s.seq.runSince
  let ready := (ctxsOf q).filter (mayIssue s)
  match ready.map (fun i => (s.ctx i).readyAt) with
  | [] => b
  | x :: r => max b (r.foldl min x)

/-- The context whose instruction is in progress on a sequencer: chosen among those ready when it was issued, since a
context that becomes ready meanwhile waits for its end (R299, R300) (DESIGN CHOICE, log 20). -/
def bestCtx (s : State) (q : Nat) : Option Nat :=
  (ctxsOf q).foldl (fun a i =>
    if !mayIssue s i || decide (issuedAt s q < (s.ctx i).readyAt) then a
    else match a with
      | none => some i
      | some j => if issuesBefore s i j then some i else a) none

/-- Write a general register of context `i`. -/
def setReg (i d : Nat) (v : Word) (s : State) : State := s.setCtx i ((s.ctx i).setReg d v)

/-- The next instruction of context `i` is at `p`. -/
def setPc (i : Nat) (p : BitVec 16) (s : State) : State := s.setCtx i { s.ctx i with pc := p }

/-- On to the next instruction: PC arithmetic is modulo 65,536 (R267). -/
def nextPc (i : Nat) (s : State) : State := setPc i ((s.ctx i).pc + 1) s

/-- Write the result register and go on. -/
def writeD (i d : Nat) (v : Word) (s : State) : State := nextPc i (setReg i d v s)

/-- Write Q. -/
def setQ (i : Nat) (b : Bool) (s : State) : State := s.setCtx i { s.ctx i with q := b }

/-! ## Task faults (R302 to R305) -/

/-- What a fault records: CAUSE, FPC, FADDR and the count (R303 step 1). -/
def faulted (cause : Nat) (faddr : Word) (c : Ctx) : Ctx :=
  { c with cause := cause, fpc := c.pc, faddr := faddr, faults := satInc 255 c.faults }

/-- The handler is entered (R303 steps 2 to 4). -/
def enterHandler (t : Task) (c : Ctx) : Ctx :=
  let c := { c with
    saveG13 := c.reg 13, saveG14 := c.reg 14, saveG15 := c.reg 15, saveC := c.c, saveV := c.v, saveQ := c.q }
  let c := ((c.setReg 13 c.faddr).setReg 14 (c.fpc.setWidth 32)).setReg 15 (BitVec.ofNat 32 c.cause)
  { c with fh := true, prioNow := t.fprio, pc := t.faultPc }

/-- The handler ends: g13 to g15, the flags and the priority are restored (R304). -/
def leaveHandler (t : Task) (c : Ctx) : Ctx :=
  let c := ((c.setReg 13 c.saveG13).setReg 14 c.saveG14).setReg 15 c.saveG15
  { c with c := c.saveC, v := c.saveV, q := c.saveQ, prioNow := t.prio, fh := false }

/-- HALTBY of a fault just recorded, 0 where a handler takes it (R305). -/
def haltCase (t : Task) (c : Ctx) : Nat :=
  if c.cause = 7 ∧ c.secondBudget = true then 3
  else if c.fh then 2
  else if t.faultPc = 0xFFFF then 1
  else 0

/-- The task of context `i` halts (R305). -/
def haltTask (i by' : Nat) (s : State) : State :=
  let s := fault (40 + i / 8) (s.setCtx i { s.ctx i with state := .halted, haltBy := by' })
  if (s.taskOf i).haltCancel then haltCancel (i / 8) s else s

/-- The TASK entry of R443: SQ, slot, cause and FPC of a handled fault. -/
def logTask (i cause : Nat) (pc : BitVec 16) (s : State) : State :=
  log 13 2 ([BitVec.ofNat 8 (i / 8), BitVec.ofNat 8 (i % 8), BitVec.ofNat 8 cause, 0] ++ leBytes 2 pc.toNat) s

/-- A segment fault of a task or of DMA is counted (R317). -/
def countSegFault (s : State) : State := { s with dma.segflt := wrapInc 32 s.dma.segflt }

/-- A task fault of context `i` (R303, R305) (DEDUCED, log 66). -/
def takeFault (i cause : Nat) (faddr : Word) (s : State) : State :=
  let s := if cause = 2 ∨ cause = 4 then countSegFault s else s
  let t := s.taskOf i
  let c := faulted cause faddr (s.ctx i)
  match haltCase t c with
  | 0 =>
    let c := if cause = 7 then { c with secondBudget := true, used := 0 } else c
    logTask i cause c.fpc (s.setCtx i (enterHandler t c))
  | h => haltTask i h (s.setCtx i c)

/-! ## Budgets (R301) -/

/-- The activation of context `i` has used more than BUDGET. -/
def overBudget (s : State) (i : Nat) : Bool :=
  (s.taskOf i).budget != 0 && decide ((s.taskOf i).budget * ticksPerUs < (s.ctx i).used)

/-- At an instruction boundary, a BUDGET fault due is taken (DEDUCED, log 64). -/
def budgetFault (i : Nat) (s : State) : State :=
  if mayIssue s i && overBudget s i then takeFault i 7 (BitVec.ofNat 32 (s.taskOf i).budget) s else s

/-- Sequencers issue (R457, R466). -/
def issuing (s : State) : Bool := s.sys.mode == .run

/-- BUDGET_EXHAUSTED: at a boundary, the fault of an activation over its budget is taken (R301). -/
def doBudgetExhausted (q p : Nat) (s : State) : State :=
  if issuing s then budgetFault (8 * q + p) s else s

/-- The instant from which the present instruction of context `i` occupies its sequencer: the context was ready, the
instruction before it was complete and the module was in RUN. -/
def issueFrom (s : State) (i : Nat) : Tick :=
  max (s.ctx i).readyAt (max (s.sq (i / 8)).boundary s.seq.runSince)

/-- A context its sequencer issued for is READY again (R295). -/
def toReady (j : Nat) (s : State) : State :=
  if (s.ctx j).state = .issuing then s.setCtx j { s.ctx j with state := .ready } else s

/-- The time of an instruction of context `i` that completes now is counted, and the context is ISSUING; the one the
sequencer issued for before is READY (R295, R301). -/
def occupy (i : Nat) (s : State) : State :=
  let c := s.ctx i
  let used := c.used + (s.etc - issueFrom s i)
  let s := forEach (ctxsOf (i / 8)) toReady s
  let s := s.setCtx i { s.ctx i with state := .issuing, used := used }
  s.setSq (i / 8) { s.sq (i / 8) with boundary := s.etc }

/-! ## Issue (R259, R262, R263) -/

/-- What an instruction comes to: its effect, or a fault with CAUSE and FADDR, before which only memory error
accounts have changed (R263). -/
inductive Done where
  | next (s : State)
  | fault (cause : Nat) (faddr : Word) (s : State)

/-- The instruction is complete, or its fault is taken. -/
def Done.finish (i : Nat) : Done → State
  | .next s => s
  | .fault cause faddr s => takeFault i cause faddr s

/-- The address of an instruction (R257). -/
def fetchAddr (pc : BitVec 16) : Nat := 0x200000 + 4 * pc.toNat

/-- The fetch of context `i`: a segment fault, an uncorrectable error, or none of these (R263, R302) (DEDUCED, log
65). -/
def fetchFault (s : State) (i : Nat) (e : Ecc) : Nat :=
  let a := fetchAddr (s.ctx i).pc
  if !admitted (s.taskOf i).segs .fetch a 4 then 2
  else if eccAt s a e = .uncorrectable then 3
  else 0

/-- The word context `i` fetches. -/
def fetchWord (s : State) (i : Nat) : Word := s.memWord (fetchAddr (s.ctx i).pc)

/-- The instruction boundary before an issue: BUDGET faults due on the sequencer are taken. -/
def atBoundary (q : Nat) (s : State) : State := forEach (ctxsOf q) budgetFault s

/-- Issue on a sequencer: the context of R299 fetches its word; `run` acts on it and tells whether the word is
one of the row's instruction. A fetch fault is taken by any row (R263); a word of another instruction leaves
the state as it was (DEDUCED, log 18). -/
def issueWith (n : Issue) (run : Nat → Word → State → Option Done) (s0 : State) : State :=
  if !issuing s0 then s0
  else
    let s := atBoundary n.sq.val s0
    match bestCtx s n.sq.val with
    | none => s0
    | some i =>
      let a := fetchAddr (s.ctx i).pc
      match fetchFault s i n.fetch with
      | 0 =>
        match run i (fetchWord s i) (occupy i (eccRead a n.fetch s)) with
        | some d => d.finish i
        | none => s0
      | 3 => takeFault i 3 (BitVec.ofNat 32 a) (occupy i (eccFound a s))
      | c => takeFault i c (BitVec.ofNat 32 a) (occupy i s)

/-- One instruction of operation `op` on a sequencer. -/
def issueOp (op : AOp) (n : Issue) (run : Nat → AInstr → State → Done) (s : State) : State :=
  issueWith n (fun i w s => match decodeAngle w with
    | some x => if x.op = op then some (run i x s) else none
    | none => none) s

/-- ILLEGAL_INSTRUCTION: an illegal word faults before it changes any state (R262). -/
def doIllegalInstruction (n : Issue) (s : State) : State :=
  issueWith n (fun _ w s => match decodeAngle w with
    | some _ => none
    | none => some (.fault 1 w s)) s

end Sys2Proof.Machine
end

