-- ==== Sys2Proof/Machine/Angle.lean ====
section
/-! DEFINITION. Angle code: integer instructions, angle arithmetic, branches, snapshots and task flow
(08_angle_code_isa.md R264, R265, R267 to R269, R284; 09 R304). -/

namespace Sys2Proof.Machine

/-! ## Integer instructions (R264) -/

/-- A result of registers A and B written to D. -/
def aluR (f : Word → Word → Word) (i : Nat) (x : AInstr) (s : State) : Done :=
  .next (writeD i x.d (f ((s.ctx i).reg x.a) ((s.ctx i).reg x.b)) s)

/-- A result of register A and the immediate field written to D. -/
def aluI (f : Word → Nat → Word) (i : Nat) (x : AInstr) (s : State) : Done :=
  .next (writeD i x.d (f ((s.ctx i).reg x.a) x.imm) s)

/-- A sum or difference written to D, with C and V. -/
def additive (f : Ctx → Word → SumFlags) (b : Ctx → Word) (i : Nat) (x : AInstr) (s : State) : Done :=
  let c := s.ctx i
  let r := f c (b c)
  .next (writeD i x.d r.value (s.setCtx i { c with c := r.c, v := r.v }))

/-- ADD. -/
def effAdd (i : Nat) (x : AInstr) : State → Done :=
  additive (fun c b => addFlags (c.reg x.a) b false) (fun c => c.reg x.b) i x
/-- SUB. -/
def effSub (i : Nat) (x : AInstr) : State → Done :=
  additive (fun c b => subFlags (c.reg x.a) b false) (fun c => c.reg x.b) i x
/-- ADDC. -/
def effAddc (i : Nat) (x : AInstr) : State → Done :=
  additive (fun c b => addFlags (c.reg x.a) b c.c) (fun c => c.reg x.b) i x
/-- SUBC: gA - gB - (1 - C). -/
def effSubc (i : Nat) (x : AInstr) : State → Done :=
  additive (fun c b => subFlags (c.reg x.a) b (!c.c)) (fun c => c.reg x.b) i x
/-- ADDI. -/
def effAddi (i : Nat) (x : AInstr) : State → Done :=
  additive (fun c b => addFlags (c.reg x.a) b false) (fun _ => sext18 x.imm) i x

/-- AND. -/
def opAnd (a b : Word) : Word := a &&& b
/-- OR. -/
def opOr (a b : Word) : Word := a ||| b
/-- XOR. -/
def opXor (a b : Word) : Word := a ^^^ b
/-- SHL. -/
def opShl (a b : Word) : Word := a <<< (b.toNat % 32)
/-- SHR. -/
def opShr (a b : Word) : Word := a >>> (b.toNat % 32)
/-- SAR. -/
def opSar (a b : Word) : Word := a.sshiftRight (b.toNat % 32)
/-- MUL. -/
def opMul (a b : Word) : Word := a * b
/-- MULHU. -/
def opMulhu (a b : Word) : Word := BitVec.ofNat 32 (a.toNat * b.toNat / 4294967296)
/-- MULHS. -/
def opMulhs (a b : Word) : Word := BitVec.ofInt 32 (a.toInt * b.toInt / 4294967296)
/-- DIVU: 0xFFFF_FFFF where gB is 0. -/
def opDivu (a b : Word) : Word := if b = 0 then 0xFFFFFFFF else BitVec.ofNat 32 (a.toNat / b.toNat)
/-- REMU: gA where gB is 0. -/
def opRemu (a b : Word) : Word := if b = 0 then a else BitVec.ofNat 32 (a.toNat % b.toNat)
/-- SLT. -/
def opSlt (a b : Word) : Word := if a.toInt < b.toInt then 1 else 0
/-- SLTU. -/
def opSltu (a b : Word) : Word := if a.toNat < b.toNat then 1 else 0
/-- ANDI. -/
def opAndi (a : Word) (m : Nat) : Word := a &&& zext18 m
/-- ORI. -/
def opOri (a : Word) (m : Nat) : Word := a ||| zext18 m
/-- XORI. -/
def opXori (a : Word) (m : Nat) : Word := a ^^^ zext18 m
/-- SHLI. -/
def opShli (a : Word) (m : Nat) : Word := a <<< (m % 32)
/-- SHRI. -/
def opShri (a : Word) (m : Nat) : Word := a >>> (m % 32)
/-- SARI. -/
def opSari (a : Word) (m : Nat) : Word := a.sshiftRight (m % 32)

/-- LUI: IMM22 << 10. -/
def effLui (i : Nat) (x : AInstr) (s : State) : Done := .next (writeD i x.d (BitVec.ofNat 32 (x.imm * 1024)) s)

/-! ## Angle arithmetic (R265) -/

/-- The result of ADDA, none where the operand is not a valid angle word (R12). -/
def addaOf (s : State) (a b : Word) : Option Word :=
  if angValid s a then some (angWord (((a.toNat : Int) + b.toInt) % (s.cycleLen : Int)).toNat) else none

/-- The result of DISTA, none where an operand is not a valid angle word (R12). -/
def distaOf (s : State) (a b : Word) : Option Word :=
  if angValid s a && angValid s b then some (BitVec.ofNat 32 (fwdDist s.cycleLen a.toNat b.toNat)) else none

/-- An angle result is written with Q clear, 0xFFFF_FFFF with Q set where there is none. -/
def effAngle (f : State → Word → Word → Option Word) (i : Nat) (x : AInstr) (s : State) : Done :=
  match f s ((s.ctx i).reg x.a) ((s.ctx i).reg x.b) with
  | some v => .next (writeD i x.d v (setQ i false s))
  | none => .next (writeD i x.d 0xFFFFFFFF (setQ i true s))

/-! ## Branches (R267) -/

/-- A branch, taken or not. -/
def branchIf (take : Bool) (i : Nat) (x : AInstr) (s : State) : Done :=
  if take then .next (setPc i (branchPc (s.ctx i).pc x.imm) s) else .next (nextPc i s)

/-- A branch on a relation of registers A and B. -/
def effBranch (p : Word → Word → Bool) (i : Nat) (x : AInstr) (s : State) : Done :=
  branchIf (p ((s.ctx i).reg x.a) ((s.ctx i).reg x.b)) i x s

/-- The condition of BF. -/
def condHolds (c : Ctx) : Nat → Bool
  | 0 => c.c
  | 1 => !c.c
  | 2 => c.v
  | 3 => !c.v
  | 4 => c.q
  | _ => !c.q

/-- BF. -/
def effBf (i : Nat) (x : AInstr) (s : State) : Done := branchIf (condHolds (s.ctx i) x.a) i x s

/-- JMP (DEDUCED, log 32). -/
def effJmp (i : Nat) (x : AInstr) (s : State) : Done := .next (setPc i (BitVec.ofNat 16 x.imm) s)

/-- JAL: gD takes PC + 1. -/
def effJal (i : Nat) (x : AInstr) (s : State) : Done :=
  .next (setPc i (BitVec.ofNat 16 x.imm) (setReg i x.d (((s.ctx i).pc + 1).setWidth 32) s))

/-- JR: the target is read from gA; while the fault handler runs, JR ends it (R304). -/
def effJr (i : Nat) (x : AInstr) (s : State) : Done :=
  let c := s.ctx i
  let p := (c.reg x.a).setWidth 16
  .next (setPc i p (if c.fh then s.setCtx i (leaveHandler (s.taskOf i) c) else s))

/-! ## Snapshots (R268, R269) -/

/-- The five values of SNAP at this instant. -/
def snapshotOf (s : State) : Snapshot :=
  { ang := lensWord s
    etcLo := BitVec.ofNat 32 s.etc
    etcHi := BitVec.ofNat 32 (s.etc / 2 ^ 32)
    stat := BitVec.ofNat 32 (syncCode s.whl.sync + dirCode (dirOf s) * 2 ^ 4 + s.evs.cycle % 256 * 2 ^ 8
      + s.lns.speed * 2 ^ 16)
    cycle := BitVec.ofNat 32 s.evs.cycle }

/-- SNAP: while the boundary steps of R242 run it parks until they are complete (R259, R268). -/
def effSnap (i : Nat) (_x : AInstr) (s : State) : Done :=
  .next (nextPc i (s.setCtx i (if s.evs.steps.isSome then { s.ctx i with state := .parked, wait := .snap }
    else { s.ctx i with snap := snapshotOf s })))

/-- A parked SNAP samples once the boundary steps are complete, and its context becomes ready (R268). -/
def wakeSnap (i : Nat) (s : State) : State :=
  match (s.ctx i).wait with
  | .snap => makeReady i (s.setCtx i { s.ctx i with snap := snapshotOf s })
  | _ => s

/-- Boundary steps that run are complete once their instant has come (R242, R268). -/
def stepsNow (s : State) : State :=
  match s.evs.steps with
  | some x =>
    if x ≤ s.etc then
      let u := stepsDone { s with etc := x }
      { forEach (contexts u) wakeSnap u with etc := s.etc }
    else s
  | none => s

/-- What RDS returns for a selector (R269). -/
def rdsValue (s : State) (i sel : Nat) : Word :=
  let c := s.ctx i
  match sel with
  | 0 => c.snap.ang
  | 1 => c.snap.etcLo
  | 2 => c.snap.etcHi
  | 3 => c.snap.stat
  | 4 => c.snap.cycle
  | 5 => c.sigIn.setWidth 32
  | 6 => (s.sq (i / 8)).mbxSeq
  | 7 => BitVec.ofNat 32 (i / 8 + i % 8 * 2 ^ 4 + c.prioNow * 2 ^ 8)
  | 8 => BitVec.ofNat 32 (s.sq (i / 8)).notices.length
  | 9 => BitVec.ofNat 32 (flagAt c.c 0 + flagAt c.v 1 + flagAt c.q 2)
  | _ => BitVec.ofNat 32 s.nTeeth

/-- RDS: selector 5 clears SIGIN. -/
def effRds (i : Nat) (x : AInstr) (s : State) : Done :=
  let v := rdsValue s i x.imm
  let s := if x.imm = 5 then s.setCtx i { s.ctx i with sigIn := 0 } else s
  .next (writeD i x.d v s)

/-! ## Task flow (R284, R298, R304) -/

/-- YIELD: behind every other ready context of the same priority. -/
def effYield (i : Nat) (_x : AInstr) (s : State) : Done := .next (makeReady i (nextPc i s))

/-- END: the handler ends, if it runs, and the activation ends; a pending trigger starts the next at once. -/
def effEnd (i : Nat) (_x : AInstr) (s : State) : Done :=
  let t := s.taskOf i
  let s := nextPc i s
  let s := if (s.ctx i).fh then s.setCtx i (leaveHandler t (s.ctx i)) else s
  let s := s.setCtx i { s.ctx i with state := .idle, prioNow := t.prio }
  .next (if (s.ctx i).pending then startActivation (s.ctx i).pendTrig i t s else s)

/-! ## The rows -/

/-- ADD. -/
def doAdd (n : Issue) : State → State := issueOp .add n effAdd
/-- SUB. -/
def doSub (n : Issue) : State → State := issueOp .sub n effSub
/-- ADDC. -/
def doAddc (n : Issue) : State → State := issueOp .addc n effAddc
/-- SUBC. -/
def doSubc (n : Issue) : State → State := issueOp .subc n effSubc
/-- AND. -/
def doAnd (n : Issue) : State → State := issueOp .and n (aluR opAnd)
/-- OR. -/
def doOr (n : Issue) : State → State := issueOp .or n (aluR opOr)
/-- XOR. -/
def doXor (n : Issue) : State → State := issueOp .xor n (aluR opXor)
/-- SHL. -/
def doShl (n : Issue) : State → State := issueOp .shl n (aluR opShl)
/-- SHR. -/
def doShr (n : Issue) : State → State := issueOp .shr n (aluR opShr)
/-- SAR. -/
def doSar (n : Issue) : State → State := issueOp .sar n (aluR opSar)
/-- MUL. -/
def doMul (n : Issue) : State → State := issueOp .mul n (aluR opMul)
/-- MULHU. -/
def doMulhu (n : Issue) : State → State := issueOp .mulhu n (aluR opMulhu)
/-- MULHS. -/
def doMulhs (n : Issue) : State → State := issueOp .mulhs n (aluR opMulhs)
/-- DIVU. -/
def doDivu (n : Issue) : State → State := issueOp .divu n (aluR opDivu)
/-- REMU. -/
def doRemu (n : Issue) : State → State := issueOp .remu n (aluR opRemu)
/-- SLT. -/
def doSlt (n : Issue) : State → State := issueOp .slt n (aluR opSlt)
/-- SLTU. -/
def doSltu (n : Issue) : State → State := issueOp .sltu n (aluR opSltu)
/-- ADDA. -/
def doAdda (n : Issue) : State → State := issueOp .adda n (effAngle addaOf)
/-- DISTA. -/
def doDista (n : Issue) : State → State := issueOp .dista n (effAngle distaOf)
/-- ADDI. -/
def doAddi (n : Issue) : State → State := issueOp .addi n effAddi
/-- ANDI. -/
def doAndi (n : Issue) : State → State := issueOp .andi n (aluI opAndi)
/-- ORI. -/
def doOri (n : Issue) : State → State := issueOp .ori n (aluI opOri)
/-- XORI. -/
def doXori (n : Issue) : State → State := issueOp .xori n (aluI opXori)
/-- SHLI. -/
def doShli (n : Issue) : State → State := issueOp .shli n (aluI opShli)
/-- SHRI. -/
def doShri (n : Issue) : State → State := issueOp .shri n (aluI opShri)
/-- SARI. -/
def doSari (n : Issue) : State → State := issueOp .sari n (aluI opSari)
/-- LUI. -/
def doLui (n : Issue) : State → State := issueOp .lui n effLui
/-- BEQ. -/
def doBeq (n : Issue) : State → State := issueOp .beq n (effBranch (fun a b => a == b))
/-- BNE. -/
def doBne (n : Issue) : State → State := issueOp .bne n (effBranch (fun a b => a != b))
/-- BLT. -/
def doBlt (n : Issue) : State → State := issueOp .blt n (effBranch (fun a b => decide (a.toInt < b.toInt)))
/-- BGE. -/
def doBge (n : Issue) : State → State := issueOp .bge n (effBranch (fun a b => decide (b.toInt ≤ a.toInt)))
/-- BLTU. -/
def doBltu (n : Issue) : State → State := issueOp .bltu n (effBranch (fun a b => decide (a.toNat < b.toNat)))
/-- BGEU. -/
def doBgeu (n : Issue) : State → State := issueOp .bgeu n (effBranch (fun a b => decide (b.toNat ≤ a.toNat)))
/-- BF. -/
def doBf (n : Issue) : State → State := issueOp .bf n effBf
/-- JMP. -/
def doJmp (n : Issue) : State → State := issueOp .jmp n effJmp
/-- JAL. -/
def doJal (n : Issue) : State → State := issueOp .jal n effJal
/-- JR. -/
def doJr (n : Issue) : State → State := issueOp .jr n effJr
/-- SNAP. -/
def doSnap (n : Issue) : State → State := issueOp .snap n effSnap
/-- RDS. -/
def doRds (n : Issue) : State → State := issueOp .rds n effRds
/-- YIELD. -/
def doYield (n : Issue) : State → State := issueOp .yield n effYield
/-- END. -/
def doEnd (n : Issue) : State → State := issueOp .endTask n effEnd

end Sys2Proof.Machine
end

