-- ==== Sys2Proof/Machine/AngleMem.lean ====
section
/-! DEFINITION. Angle code that reaches memory and its neighbours: loads and stores, closing records, the mailbox,
notices, DMAGO and SIGNAL (08_angle_code_isa.md R266, R279 to R283; 16 R475). -/

namespace Sys2Proof.Machine

/-! ## Loads and stores (R266, R294, R475) -/

/-- The address gA + sext(IMM18). -/
def memAddr (s : State) (i : Nat) (x : AInstr) : Word := (s.ctx i).reg x.a + sext18 x.imm

/-- The part of `n` bytes of a word at the place an address names (R8). -/
def partOf (w : Word) (a n : Nat) : Word := BitVec.ofNat 32 (w.toNat / 2 ^ (8 * (a % 4)) % 2 ^ (8 * n))

/-- A word with the part of `n` bytes at the place an address names replaced. -/
def withPart (w v : Word) (a n : Nat) : Word :=
  let k := 2 ^ (8 * (a % 4))
  BitVec.ofNat 32 (w.toNat - (partOf w a n).toNat * k + v.toNat % 2 ^ (8 * n) * k)

/-- The word a requester reads at an aligned address (R266, R313): a register with its snapshot effect, or memory. -/
def readAny (r : Requester) (a : Nat) (s : State) : Word := if a < 0x10000 then regWord r a s else readWord s a

/-- What the read leaves behind: the snapshot latch (R9). -/
def readLatch (r : Requester) (a : Nat) (s : State) : State := if a < 0x10000 then regLatch r a s else s

/-- The access of `n` bytes a segment refuses: bits [31:24] of the address, the task's descriptors, and a part of a
register word stored to (R266, R294, R475). -/
def accessRefused (s : State) (i : Nat) (r : Right) (a n : Nat) : Bool :=
  decide (0x1000000 ≤ a) || (r == .patch && decide (a < 0x10000)) || !admitted (s.taskOf i).segs r a n

/-- The fault of an access: SEG, then ALN, then ECC of the word it reads; 0 for none (R266). -/
def accessFault (s : State) (i : Nat) (r : Right) (a n : Nat) (e : Ecc) : Nat :=
  if accessRefused s i r a n then 4
  else if a % n ≠ 0 then 5
  else if r ≠ .store ∧ 0x10000 ≤ a ∧ eccAt s (a / 4 * 4) e = .uncorrectable then 6
  else 0

/-- An access that faults, or what it does (R263). -/
def withAccess (r : Right) (n : Nat) (e : Ecc) (i : Nat) (x : AInstr) (f : Nat → State → State) (s : State) : Done :=
  let w := memAddr s i x
  let a := w.toNat
  match accessFault s i r a n e with
  | 0 => .next (f a (if r = .store ∨ a < 0x10000 then s else eccRead (a / 4 * 4) e s))
  | 6 => .fault 6 (BitVec.ofNat 32 (a / 4 * 4)) (eccFound (a / 4 * 4) s)
  | c => .fault c w s

/-- LD, LDH and LDB: the addressed part of the word, zero-extended. -/
def effLoad (n : Nat) (e : Ecc) (i : Nat) (x : AInstr) : State → Done :=
  withAccess .load n e i x (fun a s =>
    let v := partOf (readAny (ctxReq i) (a / 4 * 4) s) a n
    writeD i x.d v (readLatch (ctxReq i) (a / 4 * 4) s))

/-- A word stored where a W segment admits it: a register, under R16, or data memory. -/
def storeWord (i a : Nat) (v : Word) (s : State) : State :=
  match regionOf a with
  | .registers => doRegisterWrite (ctxReq i) a v s
  | .data => s.memSetWord a v
  | _ => s

/-- ST. -/
def effStore (i : Nat) (x : AInstr) : State → Done :=
  withAccess .store 4 .clean i x (fun a s => nextPc i (storeWord i a ((s.ctx i).reg x.d) s))

/-- STH and STB: a read-modify-write of the enclosing word. -/
def effPatch (n : Nat) (e : Ecc) (i : Nat) (x : AInstr) : State → Done :=
  withAccess .patch n e i x (fun a s =>
    nextPc i (storeWord i (a / 4 * 4) (withPart (readWord s (a / 4 * 4)) ((s.ctx i).reg x.d) a n) s))

/-! ## Closing records (R280) -/

/-- The address of word `k` of closing record `n` (R358). -/
def recordAddr (n : Word) (k : Nat) : Nat := 0x610000 + 64 * (n.toNat % 1024) + 4 * k

/-- Record `n` is readable: 1 to 1,023 records behind the count written (R280, R358). -/
def recordReadable (s : State) (n : Word) : Bool :=
  let d := (BitVec.ofNat 32 s.dia.recWr - n).toNat
  decide (1 ≤ d) && decide (d ≤ 1023)

/-- CAPRD. -/
def effCaprd (e : Ecc) (i : Nat) (x : AInstr) (s : State) : Done :=
  let n := (s.ctx i).reg x.a
  let a := recordAddr n x.imm
  if !recordReadable s n then .next (writeD i x.d 0 (setQ i true s))
  else if eccAt s a e = .uncorrectable then .fault 6 (BitVec.ofNat 32 a) (eccFound a s)
  else
    let s := eccRead a e s
    .next (writeD i x.d (s.memWord a) (setQ i false s))

/-! ## Mailbox (R281) -/

/-- MBXRD. -/
def effMbxrd (i : Nat) (x : AInstr) (s : State) : Done :=
  .next (writeD i x.d ((s.sq (i / 8)).mailbox.get 0 x.imm) s)

/-- The bytes of `n` mailbox words from word `k`. -/
def mailboxBytes (c : SeqSt) (k n : Nat) : List Byte :=
  (Table.getList 0 c.mailbox k n).flatMap (fun w => leBytes 4 w.toNat)

/-- MBXCP: the destination is data memory, checked whole before any word is written (DEDUCED, log 68). -/
def effMbxcp (i : Nat) (x : AInstr) (s : State) : Done :=
  let a := (s.ctx i).reg x.a
  let b := ((s.ctx i).reg x.b).toNat
  let first := bits b 0 8
  let n := bits b 8 8
  if n = 0 ∨ 64 < first + n ∨ bits b 16 16 ≠ 0 then .next (nextPc i (setQ i true s))
  else if accessRefused s i .store a.toNat (4 * n) || regionOf a.toNat != .data then .fault 4 a s
  else if a.toNat % 4 ≠ 0 then .fault 5 a s
  else
    let c := s.sq (i / 8)
    .next (writeD i x.d c.mbxSeq (setQ i false (s.memWrite a.toNat (mailboxBytes c first n))))

/-! ## Notices (R279) -/

/-- NOTE removes the oldest notice. -/
def effNote (i : Nat) (x : AInstr) (s : State) : Done :=
  let c := s.sq (i / 8)
  match c.notices with
  | [] => .next (nextPc i (setReg i x.b 0 (setReg i x.d 0 (setQ i true s))))
  | (w0, w1) :: r =>
    let s := s.setSq (i / 8) { c with notices := r }
    .next (nextPc i (setReg i x.b w1 (setReg i x.d w0 (setQ i false s))))

/-! ## DMAGO and SIGNAL (R282, R283) -/

/-- The answer of DMAGO: 2 DENIED, 1 BUSY, 0 STARTED (DEDUCED, log 69). -/
def dmaAnswer (s : State) (i c : Nat) : Nat :=
  if (s.taskOf i).dmaGrant.getLsbD c = false then 2
  else match (s.dmaCh c).phase with
    | .load | .move => 1
    | _ => 0

/-- A transfer starts on channel `c` with the segments of the task (R310). -/
def dmaStart (i c desc : Nat) (s : State) : State :=
  let d := s.dmaCh c
  s.setDma c { d with
    phase := .load, cause := 0, chain := 0, runs := wrapInc 16 d.runs, desc := desc, bytes := 0
    ownQ := i / 8, ownS := i % 8, segs := (s.taskOf i).segs }

/-- DMAGO. -/
def effDmago (i : Nat) (x : AInstr) (s : State) : Done :=
  let r := dmaAnswer s i x.imm
  let s' := if r = 0 then dmaStart i x.imm ((s.ctx i).reg x.a).toNat s else s
  .next (writeD i x.d (BitVec.ofNat 32 r) s')

/-- SIGIN bit `q` is set in a context that holds a task. -/
def signalIn (q j : Nat) (s : State) : State :=
  match (s.ctx j).state with
  | .empty => s
  | _ => s.setCtx j { s.ctx j with sigIn := (s.ctx j).sigIn ||| BitVec.twoPow 16 q }

/-- SIGIN bit `q` is set in every context of sequencer `d`, the EMPTY ones too. -/
def signalAll (q d : Nat) (s : State) : State :=
  forEach (ctxsOf d) (signalIn q) (s.setSq d { s.sq d with sigIn := (s.sq d).sigIn ||| BitVec.twoPow 16 q })

/-- SIGNAL: mode 0 the host's signal value, mode 1 SIGIN and the SIG latch of another sequencer. -/
def effSignal (i : Nat) (x : AInstr) (s : State) : Done :=
  let q := i / 8
  let v := (s.ctx i).reg x.a
  let s := nextPc i s
  .next (if x.imm = 0 then raise (168 + q) (s.setSq q { s.sq q with sigVal := v })
    else latchSq 2 (v.toNat % 16) (signalAll q (v.toNat % 16) s))

/-! ## The rows -/

/-- LD. -/
def doLd (n : Issue) : State → State := issueOp .ld n (effLoad 4 n.data)
/-- LDH. -/
def doLdh (n : Issue) : State → State := issueOp .ldh n (effLoad 2 n.data)
/-- LDB. -/
def doLdb (n : Issue) : State → State := issueOp .ldb n (effLoad 1 n.data)
/-- ST. -/
def doSt (n : Issue) : State → State := issueOp .st n effStore
/-- STH. -/
def doSth (n : Issue) : State → State := issueOp .sth n (effPatch 2 n.data)
/-- STB. -/
def doStb (n : Issue) : State → State := issueOp .stb n (effPatch 1 n.data)
/-- CAPRD. -/
def doCaprd (n : Issue) : State → State := issueOp .caprd n (effCaprd n.data)
/-- MBXRD. -/
def doMbxrd (n : Issue) : State → State := issueOp .mbxrd n effMbxrd
/-- MBXCP. -/
def doMbxcp (n : Issue) : State → State := issueOp .mbxcp n effMbxcp
/-- NOTE. -/
def doNote (n : Issue) : State → State := issueOp .note n effNote
/-- DMAGO. -/
def doDmago (n : Issue) : State → State := issueOp .dmago n effDmago
/-- SIGNAL. -/
def doSignal (n : Issue) : State → State := issueOp .signal n effSignal

end Sys2Proof.Machine
end

