-- ==== Sys2Proof/Machine/AngleWait.lean ====
section
/-! DEFINITION. Waits and requests of angle code: WAITA, WAITT, WAITE, SCHED, AIM, CANCEL, their results, and TIME
triggers (08_angle_code_isa.md R270 to R277; 09 R297). -/

namespace Sys2Proof.Machine

/-- The context parks behind its instruction (R259). -/
def park (i : Nat) (w : Wait) (s : State) : State :=
  nextPc i (s.setCtx i { s.ctx i with state := .parked, wait := w })

/-! ## WAITA, WAITT and WAITE (R271 to R273) -/

/-- The result of WAITA at issue, none where it parks (R271). -/
def waitaResult (s : State) (target : Word) : Option Nat :=
  if !angValid s target then some 5
  else if !positioned s.whl.sync then some 3
  else match lensLin s with
    | none => some 3
    | some a =>
      let d := fwdDist s.cycleLen a target.toNat
      if d = 0 then some 0 else if s.cycleLen ≤ 2 * d then some 6 else none

/-- WAITA. -/
def effWaita (i : Nat) (x : AInstr) (s : State) : Done :=
  let target := (s.ctx i).reg x.a
  match waitaResult s target with
  | some r => .next (writeD i x.d (BitVec.ofNat 32 r) s)
  | none => .next (park i (.angle x.d target s.etc ((s.ctx i).reg x.b).toNat) s)

/-- WAITT: the target is gB:gA. -/
def effWaitt (i : Nat) (x : AInstr) (s : State) : Done :=
  let t := ((s.ctx i).reg x.a).toNat + ((s.ctx i).reg x.b).toNat * 2 ^ 32
  if t ≤ s.etc then .next (writeD i x.d 0 s) else .next (park i (.instant x.d t) s)

/-- WAITE. -/
def effWaite (i : Nat) (x : AInstr) (s : State) : Done :=
  let mask : BitVec 6 := ((s.ctx i).reg x.a).setWidth 6
  let timeout := ((s.ctx i).reg x.b).toNat
  let v := s.latchBits i &&& mask
  if v ≠ 0#6 then
    .next (writeD i x.d (v.setWidth 32) (s.setCtx i { s.ctx i with latches := (s.ctx i).latches &&& ~~~v }))
  else if mask = 0#6 ∧ timeout = 0 then .next (writeD i x.d 0 s)
  else .next (park i (.latch x.d mask s.etc timeout) s)

/-- A parked context takes its result and becomes ready (R274). -/
def wakeWith (i d : Nat) (v : Word) (s : State) : State := makeReady i (setReg i d v s)

/-- WAITT_REACHED: ETC has reached the target (R272). -/
def doWaittReached (q p : Nat) (s : State) : State :=
  match (s.ctx (8 * q + p)).wait with
  | .instant d t => if t ≤ s.etc then wakeWith (8 * q + p) d 0 s else s
  | _ => s

/-- The timeout of a WAITA: an angle passed by counting up to that instant comes first (R271). -/
def waitaTimeout (i : Nat) (s : State) : State :=
  match (s.ctx i).wait with
  | .angle d _ _ _ => wakeWith i d 2 s
  | _ => s

/-- WAIT_TIMEOUT: the timeout of a WAITA or WAITE has expired (R271, R273). -/
def doWaitTimeout (q p : Nat) (s : State) : State :=
  let i := 8 * q + p
  match (s.ctx i).wait with
  | .angle _ _ t0 n => if n ≠ 0 ∧ t0 + 8 * n ≤ s.etc then waitaTimeout i (passTo (t0 + 8 * n) s) else s
  | .latch d _ t0 n => if n ≠ 0 ∧ t0 + 8 * n ≤ s.etc then wakeWith i d 0x80000000 s else s
  | _ => s

/-! ## SCHED, AIM and CANCEL (R275 to R277) -/

/-- SCHED: the three words are read at issue. -/
def effSched (i : Nat) (x : AInstr) (s : State) : Done :=
  let c := s.ctx i
  .next (park i (.insertion x.d x.b (c.reg x.a) (c.reg (x.a + 1)) (c.reg (x.a + 2))) s)

/-- AIM. -/
def effAim (i : Nat) (x : AInstr) (s : State) : Done :=
  let c := s.ctx i
  .next (park i (.aim x.d (c.reg x.a) (c.reg (x.a + 1)) (c.reg (x.a + 2))) s)

/-- CANCEL. -/
def effCancel (i : Nat) (x : AInstr) (s : State) : Done :=
  .next (park i (.cancel x.d ((s.ctx i).reg x.a)) s)

/-- SCHEDULER_RESULT: the result, and the handle of an insertion, are written; the notice of a drop at insertion
follows (R259, R275, R279). -/
def doSchedulerResult (q p : Nat) (s : State) : State :=
  let i := 8 * q + p
  match (s.ctx i).wait with
  | .answered d b isInsertion res handle n =>
    let s := setReg i d res s
    let s := makeReady i (if isInsertion then setReg i b handle s else s)
    match n with
    | some (w0, w1) => notice q w0 w1 s
    | none => s
  | _ => s

/-! ## TIME triggers (R297) -/

/-- The instant of the next TIME trigger of context `i`: image start + TP1 + k x TP0. -/
def timeTriggerAt (s : State) (i : Nat) : Tick :=
  let t := s.taskOf i
  s.sys.imageStart + (t.tp1.toNat + (s.ctx i).nextTime * t.tp0.toNat) * ticksPerUs

/-- TIME_TRIGGER: ETC reaches the instant of a TIME trigger; in SLEEP the sequencers stand still (R457) (DEDUCED,
log 70). -/
def doTimeTrigger (q p : Nat) (s : State) : State :=
  let i := 8 * q + p
  match s.task i with
  | some t =>
    if t.trig = 2 ∧ timeTriggerAt s i ≤ s.etc ∧ asleep s = false then
      activate 3 i (s.setCtx i { s.ctx i with nextTime := (s.ctx i).nextTime + 1 })
    else s
  | none => s

/-! ## The rows -/

/-- WAITA. -/
def doWaita (n : Issue) : State → State := issueOp .waita n effWaita
/-- WAITT. -/
def doWaitt (n : Issue) : State → State := issueOp .waitt n effWaitt
/-- WAITE. -/
def doWaite (n : Issue) : State → State := issueOp .waite n effWaite
/-- SCHED. -/
def doSched (n : Issue) : State → State := issueOp .sched n effSched
/-- AIM. -/
def doAim (n : Issue) : State → State := issueOp .aim n effAim
/-- CANCEL. -/
def doCancel (n : Issue) : State → State := issueOp .cancel n effCancel

end Sys2Proof.Machine
end

