-- ==== Sys2Proof/Machine/Dma.lean ====
section
/-! DEFINITION. DMA (09_tasks_memory_dma_faults.md R309 to R313): descriptors, bursts, faults and completion. -/

namespace Sys2Proof.Machine

/-! ## Descriptors (R309, R310) -/

/-- Word `k` of the descriptor at `a`; one that reads with an uncorrectable error is a free value (DESIGN CHOICE, log 16). -/
def descWord (s : State) (a k : Nat) : Nat :=
  if isBad s (a + 4 * k) then (Config.lostWord (s.fresh + k)).toNat else (s.memWord (a + 4 * k)).toNat

/-- What the load of a descriptor finds and counts: word `k` of the eight meets `e` where `j` is 16 + k (R306). -/
def descEcc (a j : Nat) (e : Ecc) (s : State) : State :=
  forEach (List.range 8) (fun k => eccRead (a + 4 * k) (if j = 16 + k then e else .clean)) s

/-- The descriptor lies aligned in data memory within one segment holding R and W (R309, R310 step 1). -/
def descAdmitted (d : DmaCh) : Bool :=
  d.desc % 32 == 0 && regionOf d.desc == .data && admitted d.segs .patch d.desc 32

/-- The fields of a descriptor are within their ranges (R309, R310 step 2). -/
def descOk (src dst len ctl rsv : Nat) : Bool :=
  decide (src < 2 ^ 24) && src % 4 == 0 && regionOf dst == .data && dst % 4 == 0
    && decide (4 ≤ len) && decide (len ≤ 524288) && len % 4 == 0 && decide (ctl < 8) && rsv == 0

/-- STATUS and DONE of a descriptor written back. -/
def writeStatus (a status done : Nat) (s : State) : State :=
  s.memWrite (a + 20) (leBytes 4 status ++ leBytes 4 done)

/-- A DMA fault: the channel stops, the starter's DMA latch is set, sources 184 + c and 57 are raised (R311). -/
def dmaFault (c cause faddr : Nat) (s : State) : State :=
  let d := s.dmaCh c
  let s := if cause = 1 ∨ cause = 3 ∨ cause = 4 then countSegFault s else s
  let s := s.setDma c { d with phase := .faulted, cause := cause, faddr := faddr }
  fault 57 (raise (184 + c) (setLatch 3 (8 * d.ownQ + d.ownS) s))

/-- Steps 1 and 2 of R310: the descriptor is loaded and checked, STATUS 1 and DONE 0 are written. -/
def dmaLoad (c j : Nat) (e : Ecc) (s : State) : State :=
  let d := s.dmaCh c
  if 1024 ≤ d.chain then dmaFault c 6 d.desc s
  else if !descAdmitted d then dmaFault c 1 d.desc s
  else
    let s := descEcc d.desc j e s
    let w := descWord s d.desc
    let s := { s with fresh := s.fresh + 8 }
    if !descOk (w 0) (w 1) (w 2) (w 3) (w 7) then dmaFault c 2 d.desc s
    else
      let s := s.setDma c { d with
        phase := .move, src := w 0, dst := w 1, len := w 2, ctl := w 3, link := BitVec.ofNat 32 (w 4), bytes := 0 }
      writeStatus d.desc 1 0 s

/-! ## Bursts (R310 step 3, R311) -/

/-- SRC_FIXED. -/
def DmaCh.fixed (d : DmaCh) : Bool := bitAt d.ctl 2
/-- LINK_EN. -/
def DmaCh.linked (d : DmaCh) : Bool := bitAt d.ctl 1
/-- IRQ. -/
def DmaCh.irq (d : DmaCh) : Bool := bitAt d.ctl 0

/-- The bytes of the next burst: up to 16 words. -/
def DmaCh.burst (d : DmaCh) : Nat := min 64 (d.len - d.bytes)
/-- The first source address of the next burst. -/
def DmaCh.from' (d : DmaCh) : Nat := if d.fixed then d.src else d.src + d.bytes
/-- The bytes of its source range. -/
def DmaCh.fromLen (d : DmaCh) : Nat := if d.fixed then 4 else d.burst
/-- The first destination address of the next burst. -/
def DmaCh.to' (d : DmaCh) : Nat := d.dst + d.bytes

/-- The source address of word `k` of the burst. -/
def DmaCh.wordAt (d : DmaCh) (k : Nat) : Nat := if d.fixed then d.src else d.from' + 4 * k

/-- What the read of word `k` of the burst finds, where word `j` meets `e`. -/
def burstEcc (s : State) (d : DmaCh) (j : Nat) (e : Ecc) (k : Nat) : Ecc :=
  if d.wordAt k < 0x10000 then .clean else eccAt s (d.wordAt k) (if k = j then e else .clean)

/-- One word of the burst is read: the word, and what the read counts and latches (R306, R313). -/
def burstRead (c j : Nat) (e : Ecc) (k : Nat) (r : State × List Byte) : State × List Byte :=
  let s := r.1
  let a := (s.dmaCh c).wordAt k
  let q : Requester := .dma (Fin.ofNat 16 c)
  let w := readAny q a s
  let s := if a < 0x10000 then readLatch q a s else eccRead a (if k = j then e else .clean) s
  (s, r.2 ++ leBytes 4 w.toNat)

/-- All words of the burst are read, in ascending order. -/
def burstWords (c j n : Nat) (e : Ecc) (s : State) : State × List Byte :=
  (List.range n).foldl (fun r k => burstRead c j e k r) (s, [])

/-- The descriptor is rewritten so that it describes the unmoved remainder (R311, causes 3 to 5). -/
def rewriteDesc (d : DmaCh) (cause : Nat) (s : State) : State :=
  writeStatus d.desc (3 + cause * 4) d.bytes
    (s.memWrite d.desc (leBytes 4 d.from' ++ leBytes 4 d.to' ++ leBytes 4 (d.len - d.bytes)))

/-- A descriptor is complete: STATUS 2 and DONE = LEN are written back and it is counted (R310 step 4). -/
def descDone (c : Nat) (s : State) : State :=
  let d := s.dmaCh c
  (writeStatus d.desc 2 d.len s).setDma c { d with chain := d.chain + 1 }

/-- The words of a burst are written; a linked descriptor that is complete leads to the next one. -/
def burstWrite (c : Nat) (b : List Byte) (s : State) : State :=
  let d := s.dmaCh c
  let s := s.memWrite d.to' b
  let s := s.setDma c { d with bytes := d.bytes + d.burst }
  if d.bytes + d.burst = d.len ∧ d.linked = true then
    let s := descDone c s
    s.setDma c { s.dmaCh c with phase := .load, desc := d.link.toNat, bytes := 0 }
  else s

/-- One burst: the source range, the destination range, the reads, the writes (R310, R311). -/
def dmaMove (c j : Nat) (e : Ecc) (s : State) : State :=
  let d := s.dmaCh c
  let n := d.burst / 4
  if !admitted d.segs .load d.from' d.fromLen then dmaFault c 3 d.from' (rewriteDesc d 3 s)
  else if !admitted d.segs .store d.to' d.burst then dmaFault c 4 d.to' (rewriteDesc d 4 s)
  else
    let bad := (List.range n).any (fun k => burstEcc s d j e k == .uncorrectable)
    let r := burstWords c j n e s
    if bad then dmaFault c 5 d.from' (rewriteDesc d 5 r.1) else burstWrite c r.2 r.1

/-- A channel has a burst to move, or a descriptor to load. -/
def burstWaits (d : DmaCh) : Bool := d.phase == .load || (d.phase == .move && decide (d.bytes < d.len))

/-- How many places after the channel served last a channel stands (R313). -/
def dmaDist (s : State) (c : Nat) : Nat := (c + 15 - s.dma.turn) % 16

/-- The channel's burst is the next one served: burst by burst in round robin (R313). -/
def dmaTurn (s : State) (c : Nat) : Bool :=
  (List.range 16).all (fun k => !burstWaits (s.dmaCh k) || decide (dmaDist s c ≤ dmaDist s k))

/-- DMA_BURST: the channel whose turn it is loads its descriptor if it has none and moves the next burst; word `j` of
the burst, from 16 on of the descriptor, meets what `e` says (R310, R313). -/
def doDmaBurst (c j : Nat) (e : Ecc) (s : State) : State :=
  if !issuing s || !dmaTurn s c then s
  else
    let s := { s with dma.turn := c }
    let s := if (s.dmaCh c).phase = .load then dmaLoad c j e s else s
    if (s.dmaCh c).phase = .move ∧ (s.dmaCh c).bytes < (s.dmaCh c).len then dmaMove c j e s else s

/-- DMA_TRANSFER_COMPLETE: the last descriptor is written back, the DMA latch is set, and source 184 + c is raised
if IRQ is set (R312). -/
def doDmaTransferComplete (c : Nat) (s : State) : State :=
  let d := s.dmaCh c
  if !issuing s then s
  else if d.phase = .move ∧ d.bytes = d.len ∧ d.linked = false then
    let s := descDone c s
    let s := s.setDma c { s.dmaCh c with phase := .done }
    raiseIf d.irq (184 + c) (setLatch 3 (8 * d.ownQ + d.ownS) s)
  else s

end Sys2Proof.Machine
end

