-- ==== Sys2Proof/Machine/Run.lean ====
section
/-! DEFINITION. How a command runs: ETC reaches its instant, what time alone has brought by then comes, its effect takes
place, the power passages and HOST_INT_N follow (R22, R242, R387, R405, R468). -/

namespace Sys2Proof.Machine

/-- What time alone has brought by now: the boundary steps, the re-aim pass that runs and the CMP events of the KC units
(R22, R242, R387). -/
def timeNow (s : State) : State := passNow (stepsNow (kcNow s))

/-- A command that happens at `t` with effect `f`: what time alone brings comes before it. In DOWN the module has
stopped (R52): only time passes (DESIGN CHOICE, log 7). -/
def run (t : Tick) (f : State → State) (s : State) : Host.Outcome State Fault Refusal :=
  let s := s.advance t
  .next (if s.supply.state = .down then s else settle (powerSettle (f (timeNow s))))

/-- A command about what needs no power of the module: the supply inputs, the pins and the temperatures. -/
def runAlways (t : Tick) (f : State → State) (s : State) : Host.Outcome State Fault Refusal :=
  .next (settle (powerSettle (f (timeNow (s.advance t)))))

end Sys2Proof.Machine
end

