-- ==== Sys2Proof/Machine/RowsAngle.lean ====
section
/-! DEFINITION. The meanings of the rows of angle code, tasks and DMA. -/

namespace Sys2Proof.Machine

/-- ADD (R264). -/
def execAdd (t : Tick) (j : Issue) (s : State) : Host.Outcome State Fault Refusal :=
  run t (doAdd j) s

/-- SUB (R264). -/
def execSub (t : Tick) (j : Issue) (s : State) : Host.Outcome State Fault Refusal :=
  run t (doSub j) s

/-- ADDC (R264). -/
def execAddc (t : Tick) (j : Issue) (s : State) : Host.Outcome State Fault Refusal :=
  run t (doAddc j) s

/-- SUBC (R264). -/
def execSubc (t : Tick) (j : Issue) (s : State) : Host.Outcome State Fault Refusal :=
  run t (doSubc j) s

/-- AND (R264). -/
def execAnd (t : Tick) (j : Issue) (s : State) : Host.Outcome State Fault Refusal :=
  run t (doAnd j) s

/-- OR (R264). -/
def execOr (t : Tick) (j : Issue) (s : State) : Host.Outcome State Fault Refusal :=
  run t (doOr j) s

/-- XOR (R264). -/
def execXor (t : Tick) (j : Issue) (s : State) : Host.Outcome State Fault Refusal :=
  run t (doXor j) s

/-- SHL (R264). -/
def execShl (t : Tick) (j : Issue) (s : State) : Host.Outcome State Fault Refusal :=
  run t (doShl j) s

/-- SHR (R264). -/
def execShr (t : Tick) (j : Issue) (s : State) : Host.Outcome State Fault Refusal :=
  run t (doShr j) s

/-- SAR (R264). -/
def execSar (t : Tick) (j : Issue) (s : State) : Host.Outcome State Fault Refusal :=
  run t (doSar j) s

/-- MUL (R264). -/
def execMul (t : Tick) (j : Issue) (s : State) : Host.Outcome State Fault Refusal :=
  run t (doMul j) s

/-- MULHU (R264). -/
def execMulhu (t : Tick) (j : Issue) (s : State) : Host.Outcome State Fault Refusal :=
  run t (doMulhu j) s

/-- MULHS (R264). -/
def execMulhs (t : Tick) (j : Issue) (s : State) : Host.Outcome State Fault Refusal :=
  run t (doMulhs j) s

/-- DIVU (R264). -/
def execDivu (t : Tick) (j : Issue) (s : State) : Host.Outcome State Fault Refusal :=
  run t (doDivu j) s

/-- REMU (R264). -/
def execRemu (t : Tick) (j : Issue) (s : State) : Host.Outcome State Fault Refusal :=
  run t (doRemu j) s

/-- SLT (R264). -/
def execSlt (t : Tick) (j : Issue) (s : State) : Host.Outcome State Fault Refusal :=
  run t (doSlt j) s

/-- SLTU (R264). -/
def execSltu (t : Tick) (j : Issue) (s : State) : Host.Outcome State Fault Refusal :=
  run t (doSltu j) s

/-- ADDA (R265). -/
def execAdda (t : Tick) (j : Issue) (s : State) : Host.Outcome State Fault Refusal :=
  run t (doAdda j) s

/-- DISTA (R265). -/
def execDista (t : Tick) (j : Issue) (s : State) : Host.Outcome State Fault Refusal :=
  run t (doDista j) s

/-- ADDI (R264). -/
def execAddi (t : Tick) (j : Issue) (s : State) : Host.Outcome State Fault Refusal :=
  run t (doAddi j) s

/-- ANDI (R264). -/
def execAndi (t : Tick) (j : Issue) (s : State) : Host.Outcome State Fault Refusal :=
  run t (doAndi j) s

/-- ORI (R264). -/
def execOri (t : Tick) (j : Issue) (s : State) : Host.Outcome State Fault Refusal :=
  run t (doOri j) s

/-- XORI (R264). -/
def execXori (t : Tick) (j : Issue) (s : State) : Host.Outcome State Fault Refusal :=
  run t (doXori j) s

/-- SHLI (R264). -/
def execShli (t : Tick) (j : Issue) (s : State) : Host.Outcome State Fault Refusal :=
  run t (doShli j) s

/-- SHRI (R264). -/
def execShri (t : Tick) (j : Issue) (s : State) : Host.Outcome State Fault Refusal :=
  run t (doShri j) s

/-- SARI (R264). -/
def execSari (t : Tick) (j : Issue) (s : State) : Host.Outcome State Fault Refusal :=
  run t (doSari j) s

/-- LUI (R264). -/
def execLui (t : Tick) (j : Issue) (s : State) : Host.Outcome State Fault Refusal :=
  run t (doLui j) s

/-- LD (R266). -/
def execLd (t : Tick) (j : Issue) (s : State) : Host.Outcome State Fault Refusal :=
  run t (doLd j) s

/-- LDH (R266). -/
def execLdh (t : Tick) (j : Issue) (s : State) : Host.Outcome State Fault Refusal :=
  run t (doLdh j) s

/-- LDB (R266). -/
def execLdb (t : Tick) (j : Issue) (s : State) : Host.Outcome State Fault Refusal :=
  run t (doLdb j) s

/-- ST (R266). -/
def execSt (t : Tick) (j : Issue) (s : State) : Host.Outcome State Fault Refusal :=
  run t (doSt j) s

/-- STH (R266). -/
def execSth (t : Tick) (j : Issue) (s : State) : Host.Outcome State Fault Refusal :=
  run t (doSth j) s

/-- STB (R266). -/
def execStb (t : Tick) (j : Issue) (s : State) : Host.Outcome State Fault Refusal :=
  run t (doStb j) s

/-- BEQ (R267). -/
def execBeq (t : Tick) (j : Issue) (s : State) : Host.Outcome State Fault Refusal :=
  run t (doBeq j) s

/-- BNE (R267). -/
def execBne (t : Tick) (j : Issue) (s : State) : Host.Outcome State Fault Refusal :=
  run t (doBne j) s

/-- BLT (R267). -/
def execBlt (t : Tick) (j : Issue) (s : State) : Host.Outcome State Fault Refusal :=
  run t (doBlt j) s

/-- BGE (R267). -/
def execBge (t : Tick) (j : Issue) (s : State) : Host.Outcome State Fault Refusal :=
  run t (doBge j) s

/-- BLTU (R267). -/
def execBltu (t : Tick) (j : Issue) (s : State) : Host.Outcome State Fault Refusal :=
  run t (doBltu j) s

/-- BGEU (R267). -/
def execBgeu (t : Tick) (j : Issue) (s : State) : Host.Outcome State Fault Refusal :=
  run t (doBgeu j) s

/-- BF (R267). -/
def execBf (t : Tick) (j : Issue) (s : State) : Host.Outcome State Fault Refusal :=
  run t (doBf j) s

/-- JMP (R267). -/
def execJmp (t : Tick) (j : Issue) (s : State) : Host.Outcome State Fault Refusal :=
  run t (doJmp j) s

/-- JAL (R267). -/
def execJal (t : Tick) (j : Issue) (s : State) : Host.Outcome State Fault Refusal :=
  run t (doJal j) s

/-- JR (R304). -/
def execJr (t : Tick) (j : Issue) (s : State) : Host.Outcome State Fault Refusal :=
  run t (doJr j) s

/-- SNAP (R268). -/
def execSnap (t : Tick) (j : Issue) (s : State) : Host.Outcome State Fault Refusal :=
  run t (doSnap j) s

/-- RDS (R269). -/
def execRds (t : Tick) (j : Issue) (s : State) : Host.Outcome State Fault Refusal :=
  run t (doRds j) s

/-- WAITA (R271). -/
def execWaita (t : Tick) (j : Issue) (s : State) : Host.Outcome State Fault Refusal :=
  run t (doWaita j) s

/-- WAITT (R272). -/
def execWaitt (t : Tick) (j : Issue) (s : State) : Host.Outcome State Fault Refusal :=
  run t (doWaitt j) s

/-- WAITE (R273). -/
def execWaite (t : Tick) (j : Issue) (s : State) : Host.Outcome State Fault Refusal :=
  run t (doWaite j) s

/-- WAITT_REACHED (R272). -/
def execWaittReached (t : Tick) (q : Fin 16) (p : Fin 8) (s : State) : Host.Outcome State Fault Refusal :=
  run t (doWaittReached q.val p.val) s

/-- WAIT_TIMEOUT (R271). -/
def execWaitTimeout (t : Tick) (q : Fin 16) (p : Fin 8) (s : State) : Host.Outcome State Fault Refusal :=
  run t (doWaitTimeout q.val p.val) s

/-- SCHED (R275). -/
def execSched (t : Tick) (j : Issue) (s : State) : Host.Outcome State Fault Refusal :=
  run t (doSched j) s

/-- AIM (R277). -/
def execAim (t : Tick) (j : Issue) (s : State) : Host.Outcome State Fault Refusal :=
  run t (doAim j) s

/-- CANCEL (R277). -/
def execCancel (t : Tick) (j : Issue) (s : State) : Host.Outcome State Fault Refusal :=
  run t (doCancel j) s

/-- SCHEDULER_RESULT (R259). -/
def execSchedulerResult (t : Tick) (q : Fin 16) (p : Fin 8) (s : State) : Host.Outcome State Fault Refusal :=
  run t (doSchedulerResult q.val p.val) s

/-- NOTE (R279). -/
def execNote (t : Tick) (j : Issue) (s : State) : Host.Outcome State Fault Refusal :=
  run t (doNote j) s

/-- CAPRD (R280). -/
def execCaprd (t : Tick) (j : Issue) (s : State) : Host.Outcome State Fault Refusal :=
  run t (doCaprd j) s

/-- MBXRD (R281). -/
def execMbxrd (t : Tick) (j : Issue) (s : State) : Host.Outcome State Fault Refusal :=
  run t (doMbxrd j) s

/-- MBXCP (R281). -/
def execMbxcp (t : Tick) (j : Issue) (s : State) : Host.Outcome State Fault Refusal :=
  run t (doMbxcp j) s

/-- DMAGO (R282). -/
def execDmago (t : Tick) (j : Issue) (s : State) : Host.Outcome State Fault Refusal :=
  run t (doDmago j) s

/-- SIGNAL (R283). -/
def execSignal (t : Tick) (j : Issue) (s : State) : Host.Outcome State Fault Refusal :=
  run t (doSignal j) s

/-- YIELD (R284). -/
def execYield (t : Tick) (j : Issue) (s : State) : Host.Outcome State Fault Refusal :=
  run t (doYield j) s

/-- END (R284). -/
def execEndTask (t : Tick) (j : Issue) (s : State) : Host.Outcome State Fault Refusal :=
  run t (doEnd j) s

/-- TIME_TRIGGER (R297). -/
def execTimeTrigger (t : Tick) (q : Fin 16) (p : Fin 8) (s : State) : Host.Outcome State Fault Refusal :=
  run t (doTimeTrigger q.val p.val) s

/-- BUDGET_EXHAUSTED (R301). -/
def execBudgetExhausted (t : Tick) (q : Fin 16) (p : Fin 8) (s : State) : Host.Outcome State Fault Refusal :=
  run t (doBudgetExhausted q.val p.val) s

/-- DMA_BURST (R310). -/
def execDmaBurst (t : Tick) (c : Fin 16) (word : Fin 24) (ecc : Ecc) (s : State) : Host.Outcome State Fault Refusal :=
  run t (doDmaBurst c.val word.val ecc) s

/-- DMA_TRANSFER_COMPLETE (R312). -/
def execDmaTransferComplete (t : Tick) (c : Fin 16) (s : State) : Host.Outcome State Fault Refusal :=
  run t (doDmaTransferComplete c.val) s

end Sys2Proof.Machine
end

