-- ==== Sys2Proof/Machine/RowsBackground.lean ====
section
/-! DEFINITION. The meanings of the rows of background services and the Mirror port. -/

namespace Sys2Proof.Machine

/-- SCRUB_ACCESS (R429). -/
def execScrubAccess (t : Tick) (g : ScrubRegion) (ecc : Ecc) (caddyOk : Bool) (s : State) : Host.Outcome State Fault Refusal :=
  run t (doScrubAccess g ecc caddyOk) s

/-- RULER_CALIBRATION (R432). -/
def execRulerCalibration (t : Tick) (taps : BitVec 10) (halfPpm : Int) (s : State) : Host.Outcome State Fault Refusal :=
  run t (doRulerCalibration taps halfPpm) s

/-- SENSE_CALIBRATION (R433). -/
def execSenseCalibration (t : Tick) (item : SenseItem) (s : State) : Host.Outcome State Fault Refusal :=
  run t (doSenseCalibration item) s

/-- SENSE_STALE (R433). -/
def execSenseStale (t : Tick) (item : SenseItem) (s : State) : Host.Outcome State Fault Refusal :=
  run t (doSenseStale item) s

/-- RETENTION_REFRESH_STEP (R438). -/
def execRetentionRefreshStep (t : Tick) (r : BlockRead) (s : State) : Host.Outcome State Fault Refusal :=
  run t (doRetentionRefreshStep r) s

/-- TELEMETRY_BATCH (R440). -/
def execTelemetryBatch (t : Tick) (m : TelemetryMeas) (s : State) : Host.Outcome State Fault Refusal :=
  run t (doTelemetryBatch m) s

/-- LOGBOOK_FLUSH (R444). -/
def execLogbookFlush (t : Tick) (s : State) : Host.Outcome State Fault Refusal :=
  run t doLogbookFlush s

/-- COUNTER_FRAME (R447). -/
def execCounterFrame (t : Tick) (s : State) : Host.Outcome State Fault Refusal :=
  run t doCounterFrame s

/-- MIRROR_FRAME_SENT (R446). -/
def execMirrorFrameSent (t : Tick) (lane : Fin 2) (s : State) : Host.Outcome State Fault Refusal :=
  run t (doMirrorFrameSent lane.val) s

end Sys2Proof.Machine
end

