-- ==== Sys2Proof/Machine/RowsCommands.lean ====
section
/-! DEFINITION. The meanings of the rows of the command set. -/

namespace Sys2Proof.Machine

/-- IDENTITY (R135). -/
def execIdentity (t : Tick) (l : Link) (s : State) : Host.Outcome State Fault Refusal :=
  run t (doIdentity l) s

/-- ATTEST (R105). -/
def execAttest (t : Tick) (l : Link) (s : State) : Host.Outcome State Fault Refusal :=
  run t (doAttest l) s

/-- CLAIM (R81). -/
def execClaim (t : Tick) (l : Link) (stored : Bool) (s : State) : Host.Outcome State Fault Refusal :=
  run t (doClaim l stored) s

/-- ENROL (R83). -/
def execEnrol (t : Tick) (l : Link) (stored : Bool) (s : State) : Host.Outcome State Fault Refusal :=
  run t (doEnrol l stored) s

/-- REVOKE (R83). -/
def execRevoke (t : Tick) (l : Link) (stored : Bool) (s : State) : Host.Outcome State Fault Refusal :=
  run t (doRevoke l stored) s

/-- TRANSFER (R83). -/
def execTransfer (t : Tick) (l : Link) (stored : Bool) (s : State) : Host.Outcome State Fault Refusal :=
  run t (doTransfer l stored) s

/-- DECOMMISSION (R83). -/
def execDecommission (t : Tick) (l : Link) (stored : Bool) (s : State) : Host.Outcome State Fault Refusal :=
  run t (doDecommission l stored) s

/-- RETIRE (R83). -/
def execRetire (t : Tick) (l : Link) (stored : Bool) (s : State) : Host.Outcome State Fault Refusal :=
  run t (doRetire l stored) s

/-- FORCE_RELEASE (R138). -/
def execForceRelease (t : Tick) (l : Link) (s : State) : Host.Outcome State Fault Refusal :=
  run t (doForceRelease l) s

/-- ENV_INSTALL (R96). -/
def execEnvInstall (t : Tick) (l : Link) (s : State) : Host.Outcome State Fault Refusal :=
  run t (doEnvInstall l) s

/-- OPEN_1 (R87). -/
def execOpen1 (t : Tick) (l : Link) (s : State) : Host.Outcome State Fault Refusal :=
  run t (doOpen1 l) s

/-- OPEN_3 (R131). -/
def execOpen3 (t : Tick) (l : Link) (s : State) : Host.Outcome State Fault Refusal :=
  run t (doOpen3 l) s

/-- CLOSE (R131). -/
def execClose (t : Tick) (l : Link) (s : State) : Host.Outcome State Fault Refusal :=
  run t (doClose l) s

/-- PING (R135). -/
def execPing (t : Tick) (l : Link) (s : State) : Host.Outcome State Fault Refusal :=
  run t (doPing l) s

/-- READ_REGS (R137). -/
def execReadRegs (t : Tick) (l : Link) (s : State) : Host.Outcome State Fault Refusal :=
  run t (doReadRegs l) s

/-- CYCLE_RECORD (R106). -/
def execCycleRecord (t : Tick) (l : Link) (s : State) : Host.Outcome State Fault Refusal :=
  run t (doCycleRecord l) s

/-- TELEMETRY (R440). -/
def execTelemetry (t : Tick) (l : Link) (s : State) : Host.Outcome State Fault Refusal :=
  run t (doTelemetry l) s

/-- LOG_READ (R445). -/
def execLogRead (t : Tick) (l : Link) (s : State) : Host.Outcome State Fault Refusal :=
  run t (doLogRead l) s

/-- TARGETS (R136). -/
def execTargets (t : Tick) (l : Link) (s : State) : Host.Outcome State Fault Refusal :=
  run t (doTargets l) s

/-- CFG_STAGE (R145). -/
def execCfgStage (t : Tick) (l : Link) (s : State) : Host.Outcome State Fault Refusal :=
  run t (doCfgStage l) s

/-- CFG_COMMIT (R147). -/
def execCfgCommit (t : Tick) (l : Link) (s : State) : Host.Outcome State Fault Refusal :=
  run t (doCfgCommit l) s

/-- CFG_DISCARD (R144). -/
def execCfgDiscard (t : Tick) (l : Link) (s : State) : Host.Outcome State Fault Refusal :=
  run t (doCfgDiscard l) s

/-- CFG_READ (R135). -/
def execCfgRead (t : Tick) (l : Link) (s : State) : Host.Outcome State Fault Refusal :=
  run t (doCfgRead l) s

/-- CFG_STATUS (R135). -/
def execCfgStatus (t : Tick) (l : Link) (s : State) : Host.Outcome State Fault Refusal :=
  run t (doCfgStatus l) s

/-- IMG_BEGIN (R139). -/
def execImgBegin (t : Tick) (l : Link) (s : State) : Host.Outcome State Fault Refusal :=
  run t (doImgBegin l) s

/-- IMG_DATA (R139). -/
def execImgData (t : Tick) (l : Link) (s : State) : Host.Outcome State Fault Refusal :=
  run t (doImgData l) s

/-- IMG_END (R103). -/
def execImgEnd (t : Tick) (l : Link) (s : State) : Host.Outcome State Fault Refusal :=
  run t (doImgEnd l) s

/-- IMG_SELECT (R460). -/
def execImgSelect (t : Tick) (l : Link) (stored : Bool) (s : State) : Host.Outcome State Fault Refusal :=
  run t (doImgSelect l stored) s

/-- IMG_CONFIRM (R104). -/
def execImgConfirm (t : Tick) (l : Link) (stored : Bool) (s : State) : Host.Outcome State Fault Refusal :=
  run t (doImgConfirm l stored) s

/-- RESET (R140). -/
def execReset (t : Tick) (l : Link) (s : State) : Host.Outcome State Fault Refusal :=
  run t (doReset l) s

/-- RESET_COMMAND_DELAY_EXPIRY (R140). -/
def execResetCommandDelayExpiry (t : Tick) (s : State) : Host.Outcome State Fault Refusal :=
  run t doResetCommandDelayExpiry s

/-- TEST_SHOT (R141). -/
def execTestShot (t : Tick) (l : Link) (s : State) : Host.Outcome State Fault Refusal :=
  run t (doTestShot l) s

/-- DIAG_RUN_OFF_TEST (R364). -/
def execDiagRunOffTest (t : Tick) (l : Link) (s : State) : Host.Outcome State Fault Refusal :=
  run t (doDiagRunOffTest l) s

/-- DIAG_RUN_CLEAR (R364). -/
def execDiagRunClear (t : Tick) (l : Link) (s : State) : Host.Outcome State Fault Refusal :=
  run t (doDiagRunClear l) s

end Sys2Proof.Machine
end

