-- ==== Sys2Proof/Machine/RowsDia.lean ====
section
/-! DEFINITION. The meanings of the rows of closing detection and load diagnostics. -/

namespace Sys2Proof.Machine

/-- CLOSING_RECORD_WRITTEN (R358). -/
def execClosingRecordWritten (t : Tick) (b : Fin 8) (s : State) : Host.Outcome State Fault Refusal :=
  run t (doClosingRecordWritten b.val) s

/-- CAPTURE_END (R355). -/
def execCaptureEnd (t : Tick) (b : Fin 8) (s : State) : Host.Outcome State Fault Refusal :=
  run t (doCaptureEnd b.val) s

/-- OFF_TEST_START (R362). -/
def execOffTestStart (t : Tick) (s : State) : Host.Outcome State Fault Refusal :=
  run t doOffTestStart s

/-- OFF_TEST_COMPLETE (R361). -/
def execOffTestComplete (t : Tick) (k : Fin 64) (samples : List (Nat × Nat)) (s : State) : Host.Outcome State Fault Refusal :=
  run t (doOffTestComplete k.val samples) s

end Sys2Proof.Machine
end

