-- ==== Sys2Proof/Machine/RowsDrive.lean ====
section
/-! DEFINITION. The meanings of the rows of the actuator drive. -/

namespace Sys2Proof.Machine

/-- PROFILE_START (R27). -/
def execProfileStart (t : Tick) (k : Fin 64) (s : State) : Host.Outcome State Fault Refusal :=
  run t (doProfileStart k.val) s

/-- REGULATOR_SWITCH (R325). -/
def execRegulatorSwitch (t : Tick) (k : Fin 64) (current : Nat) (s : State) : Host.Outcome State Fault Refusal :=
  run t (doRegulatorSwitch k.val current) s

/-- PEAK_END (R326). -/
def execPeakEnd (t : Tick) (k : Fin 64) (current : Nat) (energyUj : Nat) (s : State) : Host.Outcome State Fault Refusal :=
  run t (doPeakEnd k.val current energyUj) s

/-- PEAK_TIMEOUT (R326). -/
def execPeakTimeout (t : Tick) (k : Fin 64) (current : Nat) (energyUj : Nat) (s : State) : Host.Outcome State Fault Refusal :=
  run t (doPeakTimeout k.val current energyUj) s

/-- TRANSITION_END (R327). -/
def execTransitionEnd (t : Tick) (k : Fin 64) (current : Nat) (s : State) : Host.Outcome State Fault Refusal :=
  run t (doTransitionEnd k.val current) s

/-- DITHER_STEP (R328). -/
def execDitherStep (t : Tick) (k : Fin 64) (s : State) : Host.Outcome State Fault Refusal :=
  run t (doDitherStep k.val) s

/-- TURN_OFF_INSTANT (R319). -/
def execTurnOffInstant (t : Tick) (k : Fin 64) (current : Nat) (energyUj : Nat) (s : State) : Host.Outcome State Fault Refusal :=
  run t (doTurnOffInstant k.val current energyUj) s

/-- TURN_OFF_COMPLETE (R329). -/
def execTurnOffComplete (t : Tick) (k : Fin 64) (current : Nat) (s : State) : Host.Outcome State Fault Refusal :=
  run t (doTurnOffComplete k.val current) s

/-- CHANNEL_OVERCURRENT (R331). -/
def execChannelOvercurrent (t : Tick) (k : Fin 64) (current : Nat) (s : State) : Host.Outcome State Fault Refusal :=
  run t (doChannelOvercurrent k.val current) s

/-- BANK_OVERCURRENT (R331). -/
def execBankOvercurrent (t : Tick) (b : Fin 8) (sum : Nat) (s : State) : Host.Outcome State Fault Refusal :=
  run t (doBankOvercurrent b.val sum) s

/-- ON_MAX_STOP (R332). -/
def execOnMaxStop (t : Tick) (k : Fin 64) (s : State) : Host.Outcome State Fault Refusal :=
  run t (doOnMaxStop k.val) s

/-- ON_STATE_FAULT (R363). -/
def execOnStateFault (t : Tick) (k : Fin 64) (m : OnStateMeas) (s : State) : Host.Outcome State Fault Refusal :=
  run t (doOnStateFault k.val m) s

/-- EXTENSION_WRITE (R343). -/
def execExtensionWrite (t : Tick) (q : Fin 16) (k : Fin 64) (ext : Nat) (s : State) : Host.Outcome State Fault Refusal :=
  run t (doExtensionWrite q.val k.val ext) s

/-- SETPOINT_WRITE (R330). -/
def execSetpointWrite (t : Tick) (k : Fin 64) (value : Word) (s : State) : Host.Outcome State Fault Refusal :=
  run t (doSetpointWrite k.val value) s

/-- KETTLE_LEVEL_CHANGE (R334). -/
def execKettleLevelChange (t : Tick) (k : Fin 4) (volt : Nat) (s : State) : Host.Outcome State Fault Refusal :=
  run t (doKettleLevelChange k.val volt) s

/-- KETTLE_CHARGE_DEADLINE (R336). -/
def execKettleChargeDeadline (t : Tick) (k : Fin 4) (s : State) : Host.Outcome State Fault Refusal :=
  run t (doKettleChargeDeadline k.val) s

/-- KETTLE_OVERVOLTAGE (R336). -/
def execKettleOvervoltage (t : Tick) (k : Fin 4) (volt : Nat) (s : State) : Host.Outcome State Fault Refusal :=
  run t (doKettleOvervoltage k.val volt) s

/-- KETTLE_CAPACITANCE_MEASURE (R434). -/
def execKettleCapacitanceMeasure (t : Tick) (k : Fin 4) (microfarad : Nat) (s : State) : Host.Outcome State Fault Refusal :=
  run t (doKettleCapacitance k.val microfarad) s

end Sys2Proof.Machine
end

