-- ==== Sys2Proof/Machine/RowsFaults.lean ====
section
/-! DEFINITION. The meanings of the rows of interrupts, faults and the watchdog. -/

namespace Sys2Proof.Machine

/-- IRQ_CLAIM (R407). -/
def execIrqClaim (t : Tick) (g : IrqTarget) (src : Byte) (s : State) : Host.Outcome State Fault Refusal :=
  run t (doIrqClaim g src.toNat) s

/-- IRQ_COMPLETE (R407). -/
def execIrqComplete (t : Tick) (g : IrqTarget) (src : Byte) (s : State) : Host.Outcome State Fault Refusal :=
  run t (doIrqComplete g src.toNat) s

/-- MODERATION_HOLD_END (R410). -/
def execModerationHoldEnd (t : Tick) (s : State) : Host.Outcome State Fault Refusal :=
  run t doModerationHoldEnd s

/-- GRACE_DEADLINE (R415). -/
def execGraceDeadline (t : Tick) (s : State) : Host.Outcome State Fault Refusal :=
  run t doGraceDeadline s

/-- FAULT_ACKNOWLEDGE (R415). -/
def execFaultAcknowledge (t : Tick) (w : Fin 3) (mask : Word) (s : State) : Host.Outcome State Fault Refusal :=
  run t (doFaultAcknowledge w.val mask) s

/-- WATCHDOG_SERVICE (R420). -/
def execWatchdogService (t : Tick) (value : BitVec 16) (s : State) : Host.Outcome State Fault Refusal :=
  run t (doWatchdogService value) s

/-- WATCHDOG_TIMEOUT (R420). -/
def execWatchdogTimeout (t : Tick) (s : State) : Host.Outcome State Fault Refusal :=
  run t doWatchdogTimeout s

/-- WATCHDOG_WARNING (R420). -/
def execWatchdogWarning (t : Tick) (s : State) : Host.Outcome State Fault Refusal :=
  run t doWatchdogWarning s

/-- HANDSHAKE_STALL (R417). -/
def execHandshakeStall (t : Tick) (s : State) : Host.Outcome State Fault Refusal :=
  run t doHandshakeStall s

/-- MGMT_CORE_STALL (R417). -/
def execMgmtCoreStall (t : Tick) (s : State) : Host.Outcome State Fault Refusal :=
  run t doMgmtCoreStall s

end Sys2Proof.Machine
end

