-- ==== Sys2Proof/Machine/RowsLinks.lean ====
section
/-! DEFINITION. The meanings of the rows of host links and sessions. -/

namespace Sys2Proof.Machine

/-- OHMAC_FRAME (R114). -/
def execOhmacFrame (t : Tick) (src : FrameSource) (s : State) : Host.Outcome State Fault Refusal :=
  run t (doOhmacFrame src) s

/-- FRAME_GAP_TIMEOUT (R114). -/
def execFrameGapTimeout (t : Tick) (l : Link) (s : State) : Host.Outcome State Fault Refusal :=
  run t (doFrameGapTimeout l) s

/-- MBX_SEND (R126). -/
def execMbxSend (t : Tick) (len : Nat) (s : State) : Host.Outcome State Fault Refusal :=
  run t (doMbxSend len) s

/-- MBX_RX_DONE (R126). -/
def execMbxRxDone (t : Tick) (s : State) : Host.Outcome State Fault Refusal :=
  run t doMbxRxDone s

/-- MBX_ABORT (R125). -/
def execMbxAbort (t : Tick) (s : State) : Host.Outcome State Fault Refusal :=
  run t doMbxAbort s

/-- CAN_BUS_OFF (R130). -/
def execCanBusOff (t : Tick) (second : Bool) (s : State) : Host.Outcome State Fault Refusal :=
  run t (doCanBusOff second) s

/-- SESSION_OPEN_TIMEOUT (R131). -/
def execSessionOpenTimeout (t : Tick) (l : Link) (s : State) : Host.Outcome State Fault Refusal :=
  run t (doSessionOpenTimeout l) s

/-- SESSION_IDLE_TIMEOUT (R131). -/
def execSessionIdleTimeout (t : Tick) (l : Link) (s : State) : Host.Outcome State Fault Refusal :=
  run t (doSessionIdleTimeout l) s

end Sys2Proof.Machine
end

