-- ==== Sys2Proof/Machine/RowsPower.lean ====
section
/-! DEFINITION. The meanings of the rows of registers, power modes and the remaining happenings. -/

namespace Sys2Proof.Machine

/-- SNAPSHOT_READ (R9). -/
def execSnapshotRead (t : Tick) (r : Requester) (addr : BitVec 24) (s : State) : Host.Outcome State Fault Refusal :=
  run t (doSnapshotRead r addr.toNat) s

/-- LNS_ANGLE_READ (R216). -/
def execLnsAngleRead (t : Tick) (r : Requester) (s : State) : Host.Outcome State Fault Refusal :=
  run t (doLnsAngleRead r) s

/-- REGISTER_WRITE (R16). -/
def execRegisterWrite (t : Tick) (r : Requester) (addr : BitVec 24) (value : Word) (s : State) : Host.Outcome State Fault Refusal :=
  run t (doRegisterWrite r addr.toNat value) s

/-- STANDBY_REQUEST (R465). -/
def execStandbyRequest (t : Tick) (s : State) : Host.Outcome State Fault Refusal :=
  run t doStandbyRequest s

/-- SLEEP_REQUEST (R468). -/
def execSleepRequest (t : Tick) (s : State) : Host.Outcome State Fault Refusal :=
  run t doSleepRequest s

/-- AUTO_STANDBY (R465). -/
def execAutoStandby (t : Tick) (s : State) : Host.Outcome State Fault Refusal :=
  run t doAutoStandby s

/-- AUTO_SLEEP (R468). -/
def execAutoSleep (t : Tick) (s : State) : Host.Outcome State Fault Refusal :=
  run t doAutoSleep s

/-- STANDBY_WAKE (R467). -/
def execStandbyWake (t : Tick) (s : State) : Host.Outcome State Fault Refusal :=
  run t doStandbyWake s

/-- SLEEP_WAKE (R469). -/
def execSleepWake (t : Tick) (cause : Option (Fin 4)) (s : State) : Host.Outcome State Fault Refusal :=
  run t (doSleepWake cause) s

/-- LOSS_REPORTED (R168). -/
def execLossReported (t : Tick) (s : State) : Host.Outcome State Fault Refusal :=
  run t doLossReported s

/-- HOLDUP_STORE_CHARGED (R54). -/
def execHoldupStoreCharged (t : Tick) (s : State) : Host.Outcome State Fault Refusal :=
  run t doHoldupStoreCharged s

/-- CAN_BUS_OFF_RECOVERY (R130). -/
def execCanBusOffRecovery (t : Tick) (second : Bool) (s : State) : Host.Outcome State Fault Refusal :=
  run t (doCanBusOffRecovery second) s

/-- ENTROPY_HEALTH_RECOVERY (R79). -/
def execEntropyHealthRecovery (t : Tick) (s : State) : Host.Outcome State Fault Refusal :=
  run t doEntropyHealthRecovery s

/-- SENSOR_SUPPLY_RECOVERY (R57). -/
def execSensorSupplyRecovery (t : Tick) (r : SensorRail) (s : State) : Host.Outcome State Fault Refusal :=
  run t (doSensorSupplyRecovery r) s

/-- TRIP_INPUT_RELEASE (R383). -/
def execTripInputRelease (t : Tick) (j : Fin 4) (s : State) : Host.Outcome State Fault Refusal :=
  runAlways t (doTripInputRelease j.val) s

/-- THERMAL_DERATING_CHANGE (R72). -/
def execThermalDeratingChange (t : Tick) (k : Fin 4) (coldPlateTenths : Int) (s : State) : Host.Outcome State Fault Refusal :=
  runAlways t (doThermalDeratingChange k.val coldPlateTenths) s

/-- DIGITISER_SAMPLE (R357). -/
def execDigitiserSample (t : Tick) (b : Fin 8) (code : BitVec 12) (s : State) : Host.Outcome State Fault Refusal :=
  run t (doDigitiserSample b.val code) s

/-- OFF_TEST_NOT_RUN (R364). -/
def execOffTestNotRun (t : Tick) (k : Fin 64) (s : State) : Host.Outcome State Fault Refusal :=
  run t (doOffTestNotRun k.val) s

/-- ILLEGAL_INSTRUCTION (R262). -/
def execIllegalInstruction (t : Tick) (j : Issue) (s : State) : Host.Outcome State Fault Refusal :=
  run t (doIllegalInstruction j) s

/-- SLEEP_ENTRY_COMPLETE (R468). -/
def execSleepEntryComplete (t : Tick) (s : State) : Host.Outcome State Fault Refusal :=
  run t doSleepEntryComplete s

/-- RESET_STEP_COMPLETE (R458). -/
def execResetStepComplete (t : Tick) (r : StepResult) (s : State) : Host.Outcome State Fault Refusal :=
  run t (doResetStepComplete r) s

/-- CAN_FRAME_TRANSMITTED (R113). -/
def execCanFrameTransmitted (t : Tick) (second : Bool) (s : State) : Host.Outcome State Fault Refusal :=
  run t (doCanFrameTransmitted second) s

end Sys2Proof.Machine
end

