-- ==== Sys2Proof/Machine/RowsPwm.lean ====
section
/-! DEFINITION. The meanings of the rows of PWM units and timers. -/

namespace Sys2Proof.Machine

/-- KC_PERIOD_BOUNDARY (R385). -/
def execKcPeriodBoundary (t : Tick) (k : Fin 4) (per : Nat) (cmp : Nat) (s : State) : Host.Outcome State Fault Refusal :=
  run t (doKcPeriodBoundary k.val per cmp) s

/-- KC_TRIGGER (R386). -/
def execKcTrigger (t : Tick) (k : Fin 4) (j : Fin 4) (code : BitVec 12) (s : State) : Host.Outcome State Fault Refusal :=
  run t (doKcTrigger k.val j.val code) s

/-- EB_PERIOD_BOUNDARY (R371). -/
def execEbPeriodBoundary (t : Tick) (n : Fin 8) (bootLow : Bool) (s : State) : Host.Outcome State Fault Refusal :=
  run t (doEbPeriodBoundary n.val bootLow) s

/-- EB_PER_EVENT (R371). -/
def execEbPerEvent (t : Tick) (n : Fin 8) (s : State) : Host.Outcome State Fault Refusal :=
  run t (doEbPerEvent n.val) s

/-- EB_PHASE_EDGE (R372). -/
def execEbPhaseEdge (t : Tick) (n : Fin 8) (bootLow : Bool) (s : State) : Host.Outcome State Fault Refusal :=
  run t (doEbPhaseEdge n.val bootLow) s

/-- EB_DEAD_TIME_END (R374). -/
def execEbDeadTimeEnd (t : Tick) (n : Fin 8) (swung : Bool) (s : State) : Host.Outcome State Fault Refusal :=
  run t (doEbDeadTimeEnd n.val swung) s

/-- TRIP_ACCEPT (R381). -/
def execTripAccept (t : Tick) (n : Fin 8) (j : TripLevel) (s : State) : Host.Outcome State Fault Refusal :=
  runAlways t (doTripAccept n.val j.j.val j.held) s

/-- BLANKING_END (R382). -/
def execBlankingEnd (t : Tick) (n : Fin 8) (s : State) : Host.Outcome State Fault Refusal :=
  run t (doBlankingEnd n.val) s

/-- EB_ENABLE (R379). -/
def execEbEnable (t : Tick) (n : Fin 8) (s : State) : Host.Outcome State Fault Refusal :=
  run t (doEbEnable n.val) s

/-- EB_DISABLE (R379). -/
def execEbDisable (t : Tick) (n : Fin 8) (s : State) : Host.Outcome State Fault Refusal :=
  run t (doEbDisable n.val) s

/-- EB_LOAD_ARM (R377). -/
def execEbLoadArm (t : Tick) (n : Fin 8) (s : State) : Host.Outcome State Fault Refusal :=
  run t (doEbLoadArm n.val) s

/-- EB_IMMEDIATE_WRITE (R378). -/
def execEbImmediateWrite (t : Tick) (n : Fin 8) (which : EbValue) (value : Word) (s : State) : Host.Outcome State Fault Refusal :=
  run t (doEbWrite n.val which value) s

/-- EB_TRIP_CLEAR (R383). -/
def execEbTripClear (t : Tick) (n : Fin 8) (s : State) : Host.Outcome State Fault Refusal :=
  run t (doEbTripClear n.val) s

/-- PWM_GLB_LOAD (R377). -/
def execPwmGlbLoad (t : Tick) (mask : Byte) (s : State) : Host.Outcome State Fault Refusal :=
  run t (doPwmGlbLoad mask.toNat) s

/-- PWM_GLB_START (R379). -/
def execPwmGlbStart (t : Tick) (mask : Byte) (s : State) : Host.Outcome State Fault Refusal :=
  run t (doPwmGlbStart mask.toNat) s

/-- TIMER_START (R390). -/
def execTimerStart (t : Tick) (n : Fin 24) (s : State) : Host.Outcome State Fault Refusal :=
  run t (doTimerStart n.val) s

/-- TIMER_STOP (R390). -/
def execTimerStop (t : Tick) (n : Fin 24) (s : State) : Host.Outcome State Fault Refusal :=
  run t (doTimerStop n.val) s

/-- TIMER_TARGET_WRITE (R390). -/
def execTimerTargetWrite (t : Tick) (n : Fin 24) (target : Word) (s : State) : Host.Outcome State Fault Refusal :=
  run t (doTimerTargetWrite n.val target) s

/-- TIM_GLB_START (R390). -/
def execTimGlbStart (t : Tick) (mask : BitVec 24) (s : State) : Host.Outcome State Fault Refusal :=
  run t (doTimGlbStart mask.toNat) s

/-- TIMER_EXPIRY (R389). -/
def execTimerExpiry (t : Tick) (n : Fin 24) (s : State) : Host.Outcome State Fault Refusal :=
  run t (doTimerExpiry n.val) s

/-- CAPTURE_EDGE (R391). -/
def execCaptureEdge (t : Tick) (n : Fin 24) (stamp : Tick) (rising : Bool) (s : State) : Host.Outcome State Fault Refusal :=
  run t (doCaptureEdge n.val stamp rising) s

end Sys2Proof.Machine
end

