-- ==== Sys2Proof/Machine/RowsSched.lean ====
section
/-! DEFINITION. The meanings of the rows of the event scheduler. -/

namespace Sys2Proof.Machine

/-- EVENT_INSERTION (R226). -/
def execEventInsertion (t : Tick) (q : Fin 16) (p : Fin 8) (s : State) : Host.Outcome State Fault Refusal :=
  run t (doEventInsertion q.val p.val) s

/-- EVENT_AIM_REQUEST (R235). -/
def execEventAimRequest (t : Tick) (q : Fin 16) (p : Fin 8) (s : State) : Host.Outcome State Fault Refusal :=
  run t (doEventAim q.val p.val) s

/-- EVENT_CANCEL_REQUEST (R236). -/
def execEventCancelRequest (t : Tick) (q : Fin 16) (p : Fin 8) (s : State) : Host.Outcome State Fault Refusal :=
  run t (doEventCancel q.val p.val) s

/-- COMMIT (R233). -/
def execCommit (t : Tick) (slot : Fin 8192) (armAt : Tick) (s : State) : Host.Outcome State Fault Refusal :=
  run t (doCommit slot.val armAt) s

/-- EVENT_TABLE_ECC_ERROR (R247). -/
def execEventTableEccError (t : Tick) (slot : Fin 8192) (part : EccPart) (s : State) : Host.Outcome State Fault Refusal :=
  run t (doEventTableEccError slot.val part) s

end Sys2Proof.Machine
end

