-- ==== Sys2Proof/Machine/RowsSupply.lean ====
section
/-! DEFINITION. The meanings of the rows of supplies, discretes, temperatures, the reference and RESET_N. -/

namespace Sys2Proof.Machine

/-- SUPPLY_THRESHOLD_CROSSING (R43). -/
def execSupplyThresholdCrossing (t : Tick) (j : SupplyInput) (th : Threshold) (up : Bool) (millivolt : Nat) (s : State) : Host.Outcome State Fault Refusal :=
  runAlways t (doSupplyThresholdCrossing j th up millivolt) s

/-- SUPPLY_JUDGEMENT (R43). -/
def execSupplyJudgement (t : Tick) (j : SupplyInput) (s : State) : Host.Outcome State Fault Refusal :=
  runAlways t (doSupplyJudgement j) s

/-- SUPPLY_DEBOUNCE_EXPIRY (R44). -/
def execSupplyDebounceExpiry (t : Tick) (s : State) : Host.Outcome State Fault Refusal :=
  run t doSupplyDebounceExpiry s

/-- HOLDUP_RECOVERY_EXPIRY (R51). -/
def execHoldupRecoveryExpiry (t : Tick) (s : State) : Host.Outcome State Fault Refusal :=
  run t doHoldupRecoveryExpiry s

/-- HOLDUP_STORE_EXHAUSTED (R52). -/
def execHoldupStoreExhausted (t : Tick) (s : State) : Host.Outcome State Fault Refusal :=
  run t doHoldupStoreExhausted s

/-- ENABLE_CHANGE (R69). -/
def execEnableChange (t : Tick) (on : Bool) (s : State) : Host.Outcome State Fault Refusal :=
  runAlways t (doEnableChange on) s

/-- THERMAL_THRESHOLD (R73). -/
def execThermalThreshold (t : Tick) (d : ThermalDomain) (celsius : Int) (s : State) : Host.Outcome State Fault Refusal :=
  runAlways t (doThermalThreshold d celsius) s

/-- SENSOR_SUPPLY_FAULT (R57). -/
def execSensorSupplyFault (t : Tick) (r : SensorRail) (s : State) : Host.Outcome State Fault Refusal :=
  run t (doSensorSupplyFault r) s

/-- REFERENCE_LOSS (R33). -/
def execReferenceLoss (t : Tick) (s : State) : Host.Outcome State Fault Refusal :=
  run t doReferenceLoss s

/-- HOLDOVER_EXPIRY (R33). -/
def execHoldoverExpiry (t : Tick) (s : State) : Host.Outcome State Fault Refusal :=
  run t doHoldoverExpiry s

/-- REFERENCE_RETURN (R33). -/
def execReferenceReturn (t : Tick) (s : State) : Host.Outcome State Fault Refusal :=
  run t doReferenceReturn s

/-- RELOCK_COMPLETE (R33). -/
def execRelockComplete (t : Tick) (s : State) : Host.Outcome State Fault Refusal :=
  run t doRelockComplete s

/-- REFERENCE_STARTED (R67). -/
def execReferenceStarted (t : Tick) (s : State) : Host.Outcome State Fault Refusal :=
  run t doReferenceStarted s

/-- RESET_N_PULSE (R68): low for 10 microseconds or more resets the module, for less than 2 it is ignored; between
these the outcome is not defined (DEDUCED, log 75). -/
def execResetNPulse (t : Tick) (lowNs : Nat) (s : State) : Host.Outcome State Fault Refusal :=
  if lowNs < 2000 ∨ s.supply.state = .down then run t id s
  else if 10000 ≤ lowNs then run t doResetN s
  else .fault .undefinedResetPulse

end Sys2Proof.Machine
end

