-- ==== Sys2Proof/Machine/RowsTrust.lean ====
section
/-! DEFINITION. The meanings of the rows of trust, the envelope and the stores. -/

namespace Sys2Proof.Machine

/-- CLAIM_N_CHANGE (R85). -/
def execClaimNChange (t : Tick) (strapped : Bool) (s : State) : Host.Outcome State Fault Refusal :=
  runAlways t (doClaimNChange strapped) s

/-- CHALLENGE_EXPIRY (R82). -/
def execChallengeExpiry (t : Tick) (s : State) : Host.Outcome State Fault Refusal :=
  run t doChallengeExpiry s

/-- RELEASE_REMINDER (R86). -/
def execReleaseReminder (t : Tick) (s : State) : Host.Outcome State Fault Refusal :=
  run t doReleaseReminder s

/-- RELEASE_COUNTDOWN_EXPIRY (R85). -/
def execReleaseCountdownExpiry (t : Tick) (s : State) : Host.Outcome State Fault Refusal :=
  run t doReleaseCountdownExpiry s

/-- ENTROPY_HEALTH_FAILURE (R79). -/
def execEntropyHealthFailure (t : Tick) (s : State) : Host.Outcome State Fault Refusal :=
  run t doEntropyHealthFailure s

/-- LOCKOUT_EXPIRY (R109). -/
def execLockoutExpiry (t : Tick) (l : Link) (s : State) : Host.Outcome State Fault Refusal :=
  run t (doLockoutExpiry l) s

/-- ENVELOPE_COPY_ERROR (R98). -/
def execEnvelopeCopyError (t : Tick) (s : State) : Host.Outcome State Fault Refusal :=
  run t doEnvelopeCopyError s

/-- ENVELOPE_RELOAD_COMPLETE (R98). -/
def execEnvelopeReloadComplete (t : Tick) (s : State) : Host.Outcome State Fault Refusal :=
  run t doEnvelopeReloadComplete s

/-- ENVELOPE_WRITE_COMPLETE (R97). -/
def execEnvelopeWriteComplete (t : Tick) (readBackOk : Bool) (s : State) : Host.Outcome State Fault Refusal :=
  run t (doEnvelopeWriteComplete readBackOk) s

/-- CONFIG_STORE_COMPLETE (R149). -/
def execConfigStoreComplete (t : Tick) (readBackOk : Bool) (s : State) : Host.Outcome State Fault Refusal :=
  run t (doConfigStoreComplete readBackOk) s

/-- CADDY_WRITE_COMPLETE (R436). -/
def execCaddyWriteComplete (t : Tick) (readBackOk : Bool) (s : State) : Host.Outcome State Fault Refusal :=
  run t (doCaddyWriteComplete readBackOk) s

end Sys2Proof.Machine
end

