-- ==== Sys2Proof/Machine/RowsWheel.lean ====
section
/-! DEFINITION. The meanings of the rows of wheel inputs, synchronisation and Lens. -/

namespace Sys2Proof.Machine

/-- WHEEL_CROSSING (R156). -/
def execWheelCrossing (t : Tick) (n : Fin 8) (rising : Bool) (peakMv : Nat) (s : State) : Host.Outcome State Fault Refusal :=
  run t (doWheelCrossing n.val rising peakMv) s

/-- STRAINER_ACCEPT (R156). -/
def execStrainerAccept (t : Tick) (n : Fin 8) (s : State) : Host.Outcome State Fault Refusal :=
  run t (doStrainerAccept n.val) s

/-- PULSE_LONG_TIMEOUT (R165). -/
def execPulseLongTimeout (t : Tick) (n : Fin 8) (s : State) : Host.Outcome State Fault Refusal :=
  run t (doPulseLongTimeout n.val) s

/-- SECONDARY_PROMOTION (R183). -/
def execSecondaryPromotion (t : Tick) (s : State) : Host.Outcome State Fault Refusal :=
  run t doSecondaryPromotion s

/-- VIRTUAL_BOUNDARY (R197). -/
def execVirtualBoundary (t : Tick) (s : State) : Host.Outcome State Fault Refusal :=
  run t doVirtualBoundary s

/-- COUNT_HOLD (R200). -/
def execCountHold (t : Tick) (s : State) : Host.Outcome State Fault Refusal :=
  run t doCountHold s

/-- TOOTH_OVERDUE (R201). -/
def execToothOverdue (t : Tick) (s : State) : Host.Outcome State Fault Refusal :=
  run t doToothOverdue s

/-- SPEED_RECOMPUTE (R208). -/
def execSpeedRecompute (t : Tick) (s : State) : Host.Outcome State Fault Refusal :=
  run t doSpeedRecompute s

/-- STALL (R209). -/
def execStall (t : Tick) (s : State) : Host.Outcome State Fault Refusal :=
  run t doStall s

/-- ANGLE_PASSED (R214). -/
def execAnglePassed (t : Tick) (angle : Word) (s : State) : Host.Outcome State Fault Refusal :=
  run t (doAnglePassed angle) s

end Sys2Proof.Machine
end

