-- ==== Sys2Proof/Machine/Dispatch.lean ====
section
/-! DEFINITION. One arm per command: a direct call of its meaning. -/

namespace Sys2Proof.Machine

def exec (i : Instr) (s : State) : Host.Outcome State Fault Refusal :=
  match i with
  -- Wheel inputs, synchronisation and Lens (05, 06)
  | .wheelCrossing t n rising peakMv => Sys2Proof.Machine.execWheelCrossing t n rising peakMv s
  | .strainerAccept t n => Sys2Proof.Machine.execStrainerAccept t n s
  | .pulseLongTimeout t n => Sys2Proof.Machine.execPulseLongTimeout t n s
  | .secondaryPromotion t => Sys2Proof.Machine.execSecondaryPromotion t s
  | .virtualBoundary t => Sys2Proof.Machine.execVirtualBoundary t s
  | .countHold t => Sys2Proof.Machine.execCountHold t s
  | .toothOverdue t => Sys2Proof.Machine.execToothOverdue t s
  | .speedRecompute t => Sys2Proof.Machine.execSpeedRecompute t s
  | .stall t => Sys2Proof.Machine.execStall t s
  | .anglePassed t angle => Sys2Proof.Machine.execAnglePassed t angle s
  -- Event scheduler (07)
  | .eventInsertion t q p => Sys2Proof.Machine.execEventInsertion t q p s
  | .eventAimRequest t q p => Sys2Proof.Machine.execEventAimRequest t q p s
  | .eventCancelRequest t q p => Sys2Proof.Machine.execEventCancelRequest t q p s
  | .commit t slot armAt => Sys2Proof.Machine.execCommit t slot armAt s
  | .eventTableEccError t slot part => Sys2Proof.Machine.execEventTableEccError t slot part s
  -- Actuator drive (10)
  | .profileStart t k => Sys2Proof.Machine.execProfileStart t k s
  | .regulatorSwitch t k current => Sys2Proof.Machine.execRegulatorSwitch t k current s
  | .peakEnd t k current energyUj => Sys2Proof.Machine.execPeakEnd t k current energyUj s
  | .peakTimeout t k current energyUj => Sys2Proof.Machine.execPeakTimeout t k current energyUj s
  | .transitionEnd t k current => Sys2Proof.Machine.execTransitionEnd t k current s
  | .ditherStep t k => Sys2Proof.Machine.execDitherStep t k s
  | .turnOffInstant t k current energyUj => Sys2Proof.Machine.execTurnOffInstant t k current energyUj s
  | .turnOffComplete t k current => Sys2Proof.Machine.execTurnOffComplete t k current s
  | .channelOvercurrent t k current => Sys2Proof.Machine.execChannelOvercurrent t k current s
  | .bankOvercurrent t b sum => Sys2Proof.Machine.execBankOvercurrent t b sum s
  | .onMaxStop t k => Sys2Proof.Machine.execOnMaxStop t k s
  | .onStateFault t k m => Sys2Proof.Machine.execOnStateFault t k m s
  | .extensionWrite t q k ext => Sys2Proof.Machine.execExtensionWrite t q k ext s
  | .setpointWrite t k value => Sys2Proof.Machine.execSetpointWrite t k value s
  | .kettleLevelChange t k volt => Sys2Proof.Machine.execKettleLevelChange t k volt s
  | .kettleChargeDeadline t k => Sys2Proof.Machine.execKettleChargeDeadline t k s
  | .kettleOvervoltage t k volt => Sys2Proof.Machine.execKettleOvervoltage t k volt s
  | .kettleCapacitanceMeasure t k microfarad => Sys2Proof.Machine.execKettleCapacitanceMeasure t k microfarad s
  -- Closing detection and load diagnostics (11)
  | .closingRecordWritten t b => Sys2Proof.Machine.execClosingRecordWritten t b s
  | .captureEnd t b => Sys2Proof.Machine.execCaptureEnd t b s
  | .offTestStart t => Sys2Proof.Machine.execOffTestStart t s
  | .offTestComplete t k samples => Sys2Proof.Machine.execOffTestComplete t k samples s
  -- PWM units (12)
  | .kcPeriodBoundary t k per cmp => Sys2Proof.Machine.execKcPeriodBoundary t k per cmp s
  | .kcTrigger t k j code => Sys2Proof.Machine.execKcTrigger t k j code s
  | .ebPeriodBoundary t n bootLow => Sys2Proof.Machine.execEbPeriodBoundary t n bootLow s
  | .ebPerEvent t n => Sys2Proof.Machine.execEbPerEvent t n s
  | .ebPhaseEdge t n bootLow => Sys2Proof.Machine.execEbPhaseEdge t n bootLow s
  | .ebDeadTimeEnd t n swung => Sys2Proof.Machine.execEbDeadTimeEnd t n swung s
  | .tripAccept t n j => Sys2Proof.Machine.execTripAccept t n j s
  | .blankingEnd t n => Sys2Proof.Machine.execBlankingEnd t n s
  | .ebEnable t n => Sys2Proof.Machine.execEbEnable t n s
  | .ebDisable t n => Sys2Proof.Machine.execEbDisable t n s
  | .ebLoadArm t n => Sys2Proof.Machine.execEbLoadArm t n s
  | .ebImmediateWrite t n which value => Sys2Proof.Machine.execEbImmediateWrite t n which value s
  | .ebTripClear t n => Sys2Proof.Machine.execEbTripClear t n s
  | .pwmGlbLoad t mask => Sys2Proof.Machine.execPwmGlbLoad t mask s
  | .pwmGlbStart t mask => Sys2Proof.Machine.execPwmGlbStart t mask s
  -- Timers (12)
  | .timerStart t n => Sys2Proof.Machine.execTimerStart t n s
  | .timerStop t n => Sys2Proof.Machine.execTimerStop t n s
  | .timerTargetWrite t n target => Sys2Proof.Machine.execTimerTargetWrite t n target s
  | .timGlbStart t mask => Sys2Proof.Machine.execTimGlbStart t mask s
  | .timerExpiry t n => Sys2Proof.Machine.execTimerExpiry t n s
  | .captureEdge t n stamp rising => Sys2Proof.Machine.execCaptureEdge t n stamp rising s
  -- Supplies, discretes, temperature (02)
  | .supplyThresholdCrossing t j th up millivolt => Sys2Proof.Machine.execSupplyThresholdCrossing t j th up millivolt s
  | .supplyJudgement t j => Sys2Proof.Machine.execSupplyJudgement t j s
  | .supplyDebounceExpiry t => Sys2Proof.Machine.execSupplyDebounceExpiry t s
  | .holdupRecoveryExpiry t => Sys2Proof.Machine.execHoldupRecoveryExpiry t s
  | .holdupStoreExhausted t => Sys2Proof.Machine.execHoldupStoreExhausted t s
  | .enableChange t on => Sys2Proof.Machine.execEnableChange t on s
  | .thermalThreshold t d celsius => Sys2Proof.Machine.execThermalThreshold t d celsius s
  | .sensorSupplyFault t r => Sys2Proof.Machine.execSensorSupplyFault t r s
  -- Reference and reset (01, 15)
  | .referenceLoss t => Sys2Proof.Machine.execReferenceLoss t s
  | .holdoverExpiry t => Sys2Proof.Machine.execHoldoverExpiry t s
  | .referenceReturn t => Sys2Proof.Machine.execReferenceReturn t s
  | .relockComplete t => Sys2Proof.Machine.execRelockComplete t s
  | .referenceStarted t => Sys2Proof.Machine.execReferenceStarted t s
  | .resetNPulse t lowNs => Sys2Proof.Machine.execResetNPulse t lowNs s
  -- Trust (03)
  | .claimNChange t strapped => Sys2Proof.Machine.execClaimNChange t strapped s
  | .challengeExpiry t => Sys2Proof.Machine.execChallengeExpiry t s
  | .releaseReminder t => Sys2Proof.Machine.execReleaseReminder t s
  | .releaseCountdownExpiry t => Sys2Proof.Machine.execReleaseCountdownExpiry t s
  | .entropyHealthFailure t => Sys2Proof.Machine.execEntropyHealthFailure t s
  | .lockoutExpiry t l => Sys2Proof.Machine.execLockoutExpiry t l s
  | .envelopeCopyError t => Sys2Proof.Machine.execEnvelopeCopyError t s
  | .envelopeReloadComplete t => Sys2Proof.Machine.execEnvelopeReloadComplete t s
  | .envelopeWriteComplete t readBackOk => Sys2Proof.Machine.execEnvelopeWriteComplete t readBackOk s
  | .configStoreComplete t readBackOk => Sys2Proof.Machine.execConfigStoreComplete t readBackOk s
  | .caddyWriteComplete t readBackOk => Sys2Proof.Machine.execCaddyWriteComplete t readBackOk s
  -- Links and sessions (04)
  | .ohmacFrame t src => Sys2Proof.Machine.execOhmacFrame t src s
  | .frameGapTimeout t l => Sys2Proof.Machine.execFrameGapTimeout t l s
  | .mbxSend t len => Sys2Proof.Machine.execMbxSend t len s
  | .mbxRxDone t => Sys2Proof.Machine.execMbxRxDone t s
  | .mbxAbort t => Sys2Proof.Machine.execMbxAbort t s
  | .canBusOff t second => Sys2Proof.Machine.execCanBusOff t second s
  | .sessionOpenTimeout t l => Sys2Proof.Machine.execSessionOpenTimeout t l s
  | .sessionIdleTimeout t l => Sys2Proof.Machine.execSessionIdleTimeout t l s
  -- The command set (04): the request in processing on the link reaches its action instant
  | .identity t l => Sys2Proof.Machine.execIdentity t l s
  | .attest t l => Sys2Proof.Machine.execAttest t l s
  | .claim t l stored => Sys2Proof.Machine.execClaim t l stored s
  | .enrol t l stored => Sys2Proof.Machine.execEnrol t l stored s
  | .revoke t l stored => Sys2Proof.Machine.execRevoke t l stored s
  | .transfer t l stored => Sys2Proof.Machine.execTransfer t l stored s
  | .decommission t l stored => Sys2Proof.Machine.execDecommission t l stored s
  | .retire t l stored => Sys2Proof.Machine.execRetire t l stored s
  | .forceRelease t l => Sys2Proof.Machine.execForceRelease t l s
  | .envInstall t l => Sys2Proof.Machine.execEnvInstall t l s
  | .open1 t l => Sys2Proof.Machine.execOpen1 t l s
  | .open3 t l => Sys2Proof.Machine.execOpen3 t l s
  | .close t l => Sys2Proof.Machine.execClose t l s
  | .ping t l => Sys2Proof.Machine.execPing t l s
  | .readRegs t l => Sys2Proof.Machine.execReadRegs t l s
  | .cycleRecord t l => Sys2Proof.Machine.execCycleRecord t l s
  | .telemetry t l => Sys2Proof.Machine.execTelemetry t l s
  | .logRead t l => Sys2Proof.Machine.execLogRead t l s
  | .targets t l => Sys2Proof.Machine.execTargets t l s
  | .cfgStage t l => Sys2Proof.Machine.execCfgStage t l s
  | .cfgCommit t l => Sys2Proof.Machine.execCfgCommit t l s
  | .cfgDiscard t l => Sys2Proof.Machine.execCfgDiscard t l s
  | .cfgRead t l => Sys2Proof.Machine.execCfgRead t l s
  | .cfgStatus t l => Sys2Proof.Machine.execCfgStatus t l s
  | .imgBegin t l => Sys2Proof.Machine.execImgBegin t l s
  | .imgData t l => Sys2Proof.Machine.execImgData t l s
  | .imgEnd t l => Sys2Proof.Machine.execImgEnd t l s
  | .imgSelect t l stored => Sys2Proof.Machine.execImgSelect t l stored s
  | .imgConfirm t l stored => Sys2Proof.Machine.execImgConfirm t l stored s
  | .reset t l => Sys2Proof.Machine.execReset t l s
  | .resetCommandDelayExpiry t => Sys2Proof.Machine.execResetCommandDelayExpiry t s
  | .testShot t l => Sys2Proof.Machine.execTestShot t l s
  | .diagRunOffTest t l => Sys2Proof.Machine.execDiagRunOffTest t l s
  | .diagRunClear t l => Sys2Proof.Machine.execDiagRunClear t l s
  -- Angle code (08)
  | .add t j => Sys2Proof.Machine.execAdd t j s
  | .sub t j => Sys2Proof.Machine.execSub t j s
  | .addc t j => Sys2Proof.Machine.execAddc t j s
  | .subc t j => Sys2Proof.Machine.execSubc t j s
  | .and t j => Sys2Proof.Machine.execAnd t j s
  | .or t j => Sys2Proof.Machine.execOr t j s
  | .xor t j => Sys2Proof.Machine.execXor t j s
  | .shl t j => Sys2Proof.Machine.execShl t j s
  | .shr t j => Sys2Proof.Machine.execShr t j s
  | .sar t j => Sys2Proof.Machine.execSar t j s
  | .mul t j => Sys2Proof.Machine.execMul t j s
  | .mulhu t j => Sys2Proof.Machine.execMulhu t j s
  | .mulhs t j => Sys2Proof.Machine.execMulhs t j s
  | .divu t j => Sys2Proof.Machine.execDivu t j s
  | .remu t j => Sys2Proof.Machine.execRemu t j s
  | .slt t j => Sys2Proof.Machine.execSlt t j s
  | .sltu t j => Sys2Proof.Machine.execSltu t j s
  | .adda t j => Sys2Proof.Machine.execAdda t j s
  | .dista t j => Sys2Proof.Machine.execDista t j s
  | .addi t j => Sys2Proof.Machine.execAddi t j s
  | .andi t j => Sys2Proof.Machine.execAndi t j s
  | .ori t j => Sys2Proof.Machine.execOri t j s
  | .xori t j => Sys2Proof.Machine.execXori t j s
  | .shli t j => Sys2Proof.Machine.execShli t j s
  | .shri t j => Sys2Proof.Machine.execShri t j s
  | .sari t j => Sys2Proof.Machine.execSari t j s
  | .lui t j => Sys2Proof.Machine.execLui t j s
  | .ld t j => Sys2Proof.Machine.execLd t j s
  | .ldh t j => Sys2Proof.Machine.execLdh t j s
  | .ldb t j => Sys2Proof.Machine.execLdb t j s
  | .st t j => Sys2Proof.Machine.execSt t j s
  | .sth t j => Sys2Proof.Machine.execSth t j s
  | .stb t j => Sys2Proof.Machine.execStb t j s
  | .beq t j => Sys2Proof.Machine.execBeq t j s
  | .bne t j => Sys2Proof.Machine.execBne t j s
  | .blt t j => Sys2Proof.Machine.execBlt t j s
  | .bge t j => Sys2Proof.Machine.execBge t j s
  | .bltu t j => Sys2Proof.Machine.execBltu t j s
  | .bgeu t j => Sys2Proof.Machine.execBgeu t j s
  | .bf t j => Sys2Proof.Machine.execBf t j s
  | .jmp t j => Sys2Proof.Machine.execJmp t j s
  | .jal t j => Sys2Proof.Machine.execJal t j s
  | .jr t j => Sys2Proof.Machine.execJr t j s
  | .snap t j => Sys2Proof.Machine.execSnap t j s
  | .rds t j => Sys2Proof.Machine.execRds t j s
  | .waita t j => Sys2Proof.Machine.execWaita t j s
  | .waitt t j => Sys2Proof.Machine.execWaitt t j s
  | .waite t j => Sys2Proof.Machine.execWaite t j s
  | .waittReached t q p => Sys2Proof.Machine.execWaittReached t q p s
  | .waitTimeout t q p => Sys2Proof.Machine.execWaitTimeout t q p s
  | .sched t j => Sys2Proof.Machine.execSched t j s
  | .aim t j => Sys2Proof.Machine.execAim t j s
  | .cancel t j => Sys2Proof.Machine.execCancel t j s
  | .schedulerResult t q p => Sys2Proof.Machine.execSchedulerResult t q p s
  | .note t j => Sys2Proof.Machine.execNote t j s
  | .caprd t j => Sys2Proof.Machine.execCaprd t j s
  | .mbxrd t j => Sys2Proof.Machine.execMbxrd t j s
  | .mbxcp t j => Sys2Proof.Machine.execMbxcp t j s
  | .dmago t j => Sys2Proof.Machine.execDmago t j s
  | .signal t j => Sys2Proof.Machine.execSignal t j s
  | .yield t j => Sys2Proof.Machine.execYield t j s
  | .endTask t j => Sys2Proof.Machine.execEndTask t j s
  | .timeTrigger t q p => Sys2Proof.Machine.execTimeTrigger t q p s
  | .budgetExhausted t q p => Sys2Proof.Machine.execBudgetExhausted t q p s
  | .dmaBurst t c word ecc => Sys2Proof.Machine.execDmaBurst t c word ecc s
  | .dmaTransferComplete t c => Sys2Proof.Machine.execDmaTransferComplete t c s
  -- Interrupts and faults (13)
  | .irqClaim t g src => Sys2Proof.Machine.execIrqClaim t g src s
  | .irqComplete t g src => Sys2Proof.Machine.execIrqComplete t g src s
  | .moderationHoldEnd t => Sys2Proof.Machine.execModerationHoldEnd t s
  | .graceDeadline t => Sys2Proof.Machine.execGraceDeadline t s
  | .faultAcknowledge t w mask => Sys2Proof.Machine.execFaultAcknowledge t w mask s
  | .watchdogService t value => Sys2Proof.Machine.execWatchdogService t value s
  | .watchdogTimeout t => Sys2Proof.Machine.execWatchdogTimeout t s
  | .watchdogWarning t => Sys2Proof.Machine.execWatchdogWarning t s
  | .handshakeStall t => Sys2Proof.Machine.execHandshakeStall t s
  | .mgmtCoreStall t => Sys2Proof.Machine.execMgmtCoreStall t s
  -- Background services and the Mirror port (14)
  | .scrubAccess t g ecc caddyOk => Sys2Proof.Machine.execScrubAccess t g ecc caddyOk s
  | .rulerCalibration t taps halfPpm => Sys2Proof.Machine.execRulerCalibration t taps halfPpm s
  | .senseCalibration t item => Sys2Proof.Machine.execSenseCalibration t item s
  | .senseStale t item => Sys2Proof.Machine.execSenseStale t item s
  | .retentionRefreshStep t r => Sys2Proof.Machine.execRetentionRefreshStep t r s
  | .telemetryBatch t m => Sys2Proof.Machine.execTelemetryBatch t m s
  | .logbookFlush t => Sys2Proof.Machine.execLogbookFlush t s
  | .counterFrame t => Sys2Proof.Machine.execCounterFrame t s
  | .mirrorFrameSent t lane => Sys2Proof.Machine.execMirrorFrameSent t lane s
  -- Registers (00, 16)
  | .snapshotRead t r addr => Sys2Proof.Machine.execSnapshotRead t r addr s
  | .lnsAngleRead t r => Sys2Proof.Machine.execLnsAngleRead t r s
  | .registerWrite t r addr value => Sys2Proof.Machine.execRegisterWrite t r addr value s
  -- Power (15)
  | .standbyRequest t => Sys2Proof.Machine.execStandbyRequest t s
  | .sleepRequest t => Sys2Proof.Machine.execSleepRequest t s
  | .autoStandby t => Sys2Proof.Machine.execAutoStandby t s
  | .autoSleep t => Sys2Proof.Machine.execAutoSleep t s
  | .standbyWake t => Sys2Proof.Machine.execStandbyWake t s
  | .sleepWake t cause => Sys2Proof.Machine.execSleepWake t cause s
  | .lossReported t => Sys2Proof.Machine.execLossReported t s
  | .holdupStoreCharged t => Sys2Proof.Machine.execHoldupStoreCharged t s
  | .canBusOffRecovery t second => Sys2Proof.Machine.execCanBusOffRecovery t second s
  | .entropyHealthRecovery t => Sys2Proof.Machine.execEntropyHealthRecovery t s
  | .sensorSupplyRecovery t r => Sys2Proof.Machine.execSensorSupplyRecovery t r s
  | .tripInputRelease t j => Sys2Proof.Machine.execTripInputRelease t j s
  | .thermalDeratingChange t k coldPlateTenths => Sys2Proof.Machine.execThermalDeratingChange t k coldPlateTenths s
  | .digitiserSample t b code => Sys2Proof.Machine.execDigitiserSample t b code s
  | .offTestNotRun t k => Sys2Proof.Machine.execOffTestNotRun t k s
  | .illegalInstruction t j => Sys2Proof.Machine.execIllegalInstruction t j s
  | .sleepEntryComplete t => Sys2Proof.Machine.execSleepEntryComplete t s
  | .resetStepComplete t r => Sys2Proof.Machine.execResetStepComplete t r s
  | .canFrameTransmitted t second => Sys2Proof.Machine.execCanFrameTransmitted t second s

end Sys2Proof.Machine
end

