-- ==== Sys2Proof/Machine/Spi.lean ====
section
/-! DEFINITION. The SPI transaction of the host (04_ohmac_command_set.md R124): which single-word accesses it stands for, in
order, and what a read shifts out. -/

namespace Sys2Proof.Machine

/-- The instruction byte of a transaction: 0x0B reads, 0x02 writes, any other is unknown (R124). -/
def spiCode (b : List Byte) : Nat := (b.getD 0 0).toNat

/-- The address of a transaction: three bytes, most significant first (R124). -/
def spiAddr (b : List Byte) : Nat := beNat (slice b 1 3)

/-- A transaction is acted on: its header is complete, its instruction known and its address aligned (R124). -/
def spiSound (b : List Byte) : Bool :=
  decide (4 ≤ b.length) && (spiCode b == 0x0B || spiCode b == 0x02) && spiAddr b % 4 == 0

/-- The address of word `i` of a transaction: it advances by 4 after each word (R124). -/
def spiWordAddr (b : List Byte) (i : Nat) : BitVec 24 := BitVec.ofNat 24 (spiAddr b + 4 * i)

/-- The data words of a write, least significant byte first; an incomplete last word is dropped (R124). -/
def spiWords (b : List Byte) : List Word := wordsOf (b.drop 4)

/-- A read of one word by the host: `LNS_ANGLE` latches by its own row (R216). -/
def spiReadOf (t : Tick) (a : BitVec 24) : Instr :=
  if a = 0x6000 then .lnsAngleRead t .host else .snapshotRead t .host a

/-- The commands a transaction at `t` stands for: the writes of its whole words, or the `n` reads its clocks shift out,
in ascending order; none where it is ignored (R124). -/
def spiCommands (t : Tick) (n : Nat) (b : List Byte) : List Instr :=
  if !spiSound b then []
  else if spiCode b = 0x02 then
    (List.range (spiWords b).length).map (fun i => .registerWrite t .host (spiWordAddr b i) ((spiWords b).getD i 0))
  else (List.range n).map (fun i => spiReadOf t (spiWordAddr b i))

/-- The words a read shifts out from address `a` on, each latching for the host as it is read (R9, R124). -/
def spiShift : Nat → Nat → State → List Byte
  | 0, _, _ => []
  | n + 1, a, s => leBytes 4 (regWord .host a s).toNat ++ spiShift n (a + 4) (doSnapshotRead .host a s)

/-- The bytes a transaction of `n` read words shifts out after its 8 dummy clocks; none for any other (R124). -/
def spiOut (n : Nat) (b : List Byte) (s : State) : List Byte :=
  if spiSound b && spiCode b == 0x0B then spiShift n (spiAddr b) s else []

end Sys2Proof.Machine
end

