-- ==== Sys2Proof/WellFormed.lean ====
section
/-! DEFINITION. Well-formed commands: what a happening must be like for the spec to describe it. Operands of type Fin
carry their range; what is left are the figures a measurement, a peer or an address can show. -/

namespace Sys2Proof

/-- A sensed current in 10 mA, within `ACT_CH_CUR.NOW` (R349). -/
def currentOk (i : Nat) : Bool := decide (i < 8192)

/-- An energy in microjoules, within the 32-bit word of a snapshot pair (R349). -/
def energyOk (e : Nat) : Bool := decide (e < 2 ^ 32)

/-- A pin voltage in 10 mV, within `DIA_CH_VOLT` (R369). -/
def pinOk (v : Nat) : Bool := decide (v < 4096)

/-- A Kettle voltage in 0.25 V, within `ACT_KT_VOLT` (R350). -/
def kettleOk (v : Nat) : Bool := decide (v < 1024)

/-- A temperature in degrees C that a sensor shows: the least a signed byte of telemetry holds (R441), and room above
the highest threshold of R73. -/
def celsiusOk (c : Int) : Bool := decide (-128 ≤ c) && decide (c ≤ 255)

/-- A frame from its link: a CAN identifier within its format and a data field of at most 64 bytes (R128, R129). -/
def frameOk : FrameSource → Bool
  | .mailbox => true
  | .can _ _ extended ident data =>
    decide (ident < (if extended then 2 ^ 29 else 2 ^ 11)) && decide (data.length ≤ 64)

/-- A count of corrected bits within a 64-byte ECC unit (R438). -/
def blockReadOk : BlockRead → Bool
  | .bits n => decide (n ≤ 512)
  | .uncorrectable => true

/-- The figures of a telemetry batch: as many as the batch has fields for (R441), analogue inputs within the 36 V and
VA5 within the regions they can be driven to (R41). -/
def telemetryOk (m : TelemetryMeas) : Bool :=
  decide (m.temps.length ≤ 13) && decide (m.rms.length ≤ 64) && decide (m.ain.length ≤ 8)
    && m.ain.all (fun v => decide (v ≤ 36000)) && decide (m.va5 ≤ 36000)

/-- An aligned address of the register space (R475). -/
def alignedReg (a : BitVec 24) : Bool := decide (a.toNat < 0x10000) && a.toNat % 4 == 0

/-- The instant a command happens at. -/
def Instr.time : Instr → Tick
  | .wheelCrossing t _ _ _ | .strainerAccept t _ | .pulseLongTimeout t _ | .secondaryPromotion t
    | .virtualBoundary t | .countHold t | .toothOverdue t | .speedRecompute t | .stall t | .anglePassed t _
    | .eventInsertion t _ _ | .eventAimRequest t _ _ | .eventCancelRequest t _ _ | .commit t _ _
    | .eventTableEccError t _ _ | .profileStart t _ | .regulatorSwitch t _ _ | .peakEnd t _ _ _
    | .peakTimeout t _ _ _ | .transitionEnd t _ _ | .ditherStep t _ | .turnOffInstant t _ _ _
    | .turnOffComplete t _ _ | .channelOvercurrent t _ _ | .bankOvercurrent t _ _ | .onMaxStop t _
    | .onStateFault t _ _ | .extensionWrite t _ _ _ | .setpointWrite t _ _ | .kettleLevelChange t _ _
    | .kettleChargeDeadline t _ | .kettleOvervoltage t _ _ | .kettleCapacitanceMeasure t _ _
    | .closingRecordWritten t _ | .captureEnd t _ | .offTestStart t | .offTestComplete t _ _
    | .kcPeriodBoundary t _ _ _ | .kcTrigger t _ _ _ | .ebPeriodBoundary t _ _ | .ebPerEvent t _
    | .ebPhaseEdge t _ _ | .ebDeadTimeEnd t _ _ | .tripAccept t _ _ | .blankingEnd t _ | .ebEnable t _
    | .ebDisable t _ | .ebLoadArm t _ | .ebImmediateWrite t _ _ _ | .ebTripClear t _ | .pwmGlbLoad t _
    | .pwmGlbStart t _ | .timerStart t _ | .timerStop t _ | .timerTargetWrite t _ _ | .timGlbStart t _
    | .timerExpiry t _ | .captureEdge t _ _ _ | .supplyThresholdCrossing t _ _ _ _ | .supplyJudgement t _
    | .supplyDebounceExpiry t | .holdupRecoveryExpiry t | .holdupStoreExhausted t | .enableChange t _
    | .thermalThreshold t _ _ | .sensorSupplyFault t _ | .referenceLoss t | .holdoverExpiry t
    | .referenceReturn t | .relockComplete t | .referenceStarted t | .resetNPulse t _ | .claimNChange t _
    | .challengeExpiry t | .releaseReminder t | .releaseCountdownExpiry t | .entropyHealthFailure t
    | .lockoutExpiry t _ | .envelopeCopyError t | .envelopeReloadComplete t | .envelopeWriteComplete t _
    | .configStoreComplete t _ | .caddyWriteComplete t _ | .ohmacFrame t _ | .frameGapTimeout t _
    | .mbxSend t _ | .mbxRxDone t | .mbxAbort t | .canBusOff t _ | .sessionOpenTimeout t _
    | .sessionIdleTimeout t _ | .identity t _ | .attest t _ | .claim t _ _ | .enrol t _ _ | .revoke t _ _
    | .transfer t _ _ | .decommission t _ _ | .retire t _ _ | .forceRelease t _ | .envInstall t _ | .open1 t _
    | .open3 t _ | .close t _ | .ping t _ | .readRegs t _ | .cycleRecord t _ | .telemetry t _ | .logRead t _
    | .targets t _ | .cfgStage t _ | .cfgCommit t _ | .cfgDiscard t _ | .cfgRead t _ | .cfgStatus t _
    | .imgBegin t _ | .imgData t _ | .imgEnd t _ | .imgSelect t _ _ | .imgConfirm t _ _ | .reset t _
    | .resetCommandDelayExpiry t | .testShot t _ | .diagRunOffTest t _ | .diagRunClear t _ | .add t _
    | .sub t _ | .addc t _ | .subc t _ | .and t _ | .or t _ | .xor t _ | .shl t _ | .shr t _ | .sar t _
    | .mul t _ | .mulhu t _ | .mulhs t _ | .divu t _ | .remu t _ | .slt t _ | .sltu t _ | .adda t _
    | .dista t _ | .addi t _ | .andi t _ | .ori t _ | .xori t _ | .shli t _ | .shri t _ | .sari t _ | .lui t _
    | .ld t _ | .ldh t _ | .ldb t _ | .st t _ | .sth t _ | .stb t _ | .beq t _ | .bne t _ | .blt t _ | .bge t _
    | .bltu t _ | .bgeu t _ | .bf t _ | .jmp t _ | .jal t _ | .jr t _ | .snap t _ | .rds t _ | .waita t _
    | .waitt t _ | .waite t _ | .waittReached t _ _ | .waitTimeout t _ _ | .sched t _ | .aim t _ | .cancel t _
    | .schedulerResult t _ _ | .note t _ | .caprd t _ | .mbxrd t _ | .mbxcp t _ | .dmago t _ | .signal t _
    | .yield t _ | .endTask t _ | .timeTrigger t _ _ | .budgetExhausted t _ _ | .dmaBurst t _ _ _
    | .dmaTransferComplete t _ | .irqClaim t _ _ | .irqComplete t _ _ | .moderationHoldEnd t | .graceDeadline t
    | .faultAcknowledge t _ _ | .watchdogService t _ | .watchdogTimeout t | .watchdogWarning t
    | .handshakeStall t | .mgmtCoreStall t | .scrubAccess t _ _ _ | .rulerCalibration t _ _
    | .senseCalibration t _ | .senseStale t _ | .retentionRefreshStep t _ | .telemetryBatch t _
    | .logbookFlush t | .counterFrame t | .mirrorFrameSent t _ | .snapshotRead t _ _ | .lnsAngleRead t _
    | .registerWrite t _ _ _ | .standbyRequest t | .sleepRequest t | .autoStandby t | .autoSleep t
    | .standbyWake t | .sleepWake t _ | .lossReported t | .holdupStoreCharged t | .canBusOffRecovery t _
    | .entropyHealthRecovery t | .sensorSupplyRecovery t _ | .tripInputRelease t _
    | .thermalDeratingChange t _ _ | .digitiserSample t _ _ | .offTestNotRun t _ | .illegalInstruction t _
    | .sleepEntryComplete t | .resetStepComplete t _ | .canFrameTransmitted t _ => t

/-- The operands of a command lie within what the spec lets them be. -/
def Instr.operandsOk : Instr → Bool
  | .wheelCrossing _ _ _ v => decide (v < 65536)
  | .regulatorSwitch _ _ i => currentOk i
  | .peakEnd _ _ i e => currentOk i && energyOk e
  | .peakTimeout _ _ i e => currentOk i && energyOk e
  | .transitionEnd _ _ i => currentOk i
  | .turnOffInstant _ _ i e => currentOk i && energyOk e
  | .turnOffComplete _ _ i => currentOk i
  | .channelOvercurrent _ _ i => currentOk i
  | .bankOvercurrent _ _ i => decide (i < 8 * 8192)
  | .onStateFault _ _ m => currentOk m.current && pinOk m.vh && pinOk m.vl
  | .extensionWrite _ _ _ x => decide (x < 2 ^ 24)
  | .kettleLevelChange _ _ v => kettleOk v
  | .kettleOvervoltage _ _ v => kettleOk v
  | .kettleCapacitanceMeasure _ _ c => decide (c < 65536)
  | .offTestComplete _ _ l => l.all (fun x => pinOk x.1 && pinOk x.2)
  | .kcPeriodBoundary _ _ per cmp => decide (per < 2 ^ 24) && decide (cmp < 2 ^ 24)
  | .captureEdge t _ stamp _ => decide (stamp ≤ t)
  | .supplyThresholdCrossing _ _ _ _ v => decide (v < 65536)
  | .thermalThreshold _ _ c => celsiusOk c
  | .ohmacFrame _ f => frameOk f
  | .mbxSend _ n => decide (n < 1024)
  | .rulerCalibration _ _ c => decide (-128 ≤ c) && decide (c ≤ 127)
  | .retentionRefreshStep _ r => blockReadOk r
  | .telemetryBatch _ m => telemetryOk m
  | .snapshotRead _ _ a => alignedReg a
  | .registerWrite _ _ a _ => alignedReg a
  | .thermalDeratingChange _ _ c => celsiusOk (c / 10)
  | .strainerAccept .. | .pulseLongTimeout .. | .secondaryPromotion .. | .virtualBoundary .. | .countHold ..
    | .toothOverdue .. | .speedRecompute .. | .stall .. | .anglePassed .. | .eventInsertion ..
    | .eventAimRequest .. | .eventCancelRequest .. | .commit .. | .eventTableEccError .. | .profileStart ..
    | .ditherStep .. | .onMaxStop .. | .setpointWrite .. | .kettleChargeDeadline .. | .closingRecordWritten ..
    | .captureEnd .. | .offTestStart .. | .kcTrigger .. | .ebPeriodBoundary .. | .ebPerEvent ..
    | .ebPhaseEdge .. | .ebDeadTimeEnd .. | .tripAccept .. | .blankingEnd .. | .ebEnable .. | .ebDisable ..
    | .ebLoadArm .. | .ebImmediateWrite .. | .ebTripClear .. | .pwmGlbLoad .. | .pwmGlbStart ..
    | .timerStart .. | .timerStop .. | .timerTargetWrite .. | .timGlbStart .. | .timerExpiry ..
    | .supplyJudgement .. | .supplyDebounceExpiry .. | .holdupRecoveryExpiry .. | .holdupStoreExhausted ..
    | .enableChange .. | .sensorSupplyFault .. | .referenceLoss .. | .holdoverExpiry .. | .referenceReturn ..
    | .relockComplete .. | .referenceStarted .. | .resetNPulse .. | .claimNChange .. | .challengeExpiry ..
    | .releaseReminder .. | .releaseCountdownExpiry .. | .entropyHealthFailure .. | .lockoutExpiry ..
    | .envelopeCopyError .. | .envelopeReloadComplete .. | .envelopeWriteComplete .. | .configStoreComplete ..
    | .caddyWriteComplete .. | .frameGapTimeout .. | .mbxRxDone .. | .mbxAbort .. | .canBusOff ..
    | .sessionOpenTimeout .. | .sessionIdleTimeout .. | .identity .. | .attest .. | .claim .. | .enrol ..
    | .revoke .. | .transfer .. | .decommission .. | .retire .. | .forceRelease .. | .envInstall .. | .open1 ..
    | .open3 .. | .close .. | .ping .. | .readRegs .. | .cycleRecord .. | .telemetry .. | .logRead ..
    | .targets .. | .cfgStage .. | .cfgCommit .. | .cfgDiscard .. | .cfgRead .. | .cfgStatus .. | .imgBegin ..
    | .imgData .. | .imgEnd .. | .imgSelect .. | .imgConfirm .. | .reset .. | .resetCommandDelayExpiry ..
    | .testShot .. | .diagRunOffTest .. | .diagRunClear .. | .add .. | .sub .. | .addc .. | .subc .. | .and ..
    | .or .. | .xor .. | .shl .. | .shr .. | .sar .. | .mul .. | .mulhu .. | .mulhs .. | .divu .. | .remu ..
    | .slt .. | .sltu .. | .adda .. | .dista .. | .addi .. | .andi .. | .ori .. | .xori .. | .shli ..
    | .shri .. | .sari .. | .lui .. | .ld .. | .ldh .. | .ldb .. | .st .. | .sth .. | .stb .. | .beq ..
    | .bne .. | .blt .. | .bge .. | .bltu .. | .bgeu .. | .bf .. | .jmp .. | .jal .. | .jr .. | .snap ..
    | .rds .. | .waita .. | .waitt .. | .waite .. | .waittReached .. | .waitTimeout .. | .sched .. | .aim ..
    | .cancel .. | .schedulerResult .. | .note .. | .caprd .. | .mbxrd .. | .mbxcp .. | .dmago .. | .signal ..
    | .yield .. | .endTask .. | .timeTrigger .. | .budgetExhausted .. | .dmaBurst .. | .dmaTransferComplete ..
    | .irqClaim .. | .irqComplete .. | .moderationHoldEnd .. | .graceDeadline .. | .faultAcknowledge ..
    | .watchdogService .. | .watchdogTimeout .. | .watchdogWarning .. | .handshakeStall .. | .mgmtCoreStall ..
    | .scrubAccess .. | .senseCalibration .. | .senseStale .. | .logbookFlush .. | .counterFrame ..
    | .mirrorFrameSent .. | .lnsAngleRead .. | .standbyRequest .. | .sleepRequest .. | .autoStandby ..
    | .autoSleep .. | .standbyWake .. | .sleepWake .. | .lossReported .. | .holdupStoreCharged ..
    | .canBusOffRecovery .. | .entropyHealthRecovery .. | .sensorSupplyRecovery .. | .tripInputRelease ..
    | .digitiserSample .. | .offTestNotRun .. | .illegalInstruction .. | .sleepEntryComplete ..
    | .resetStepComplete .. | .canFrameTransmitted .. => true

/-- A well-formed command: its instant lies within 64-bit ETC (R9), its operands within their ranges. -/
def Instr.wf (i : Instr) : Bool := decide (i.time < 2 ^ 64) && i.operandsOk

end Sys2Proof
end

