-- ==== Sys2Proof/Safety.lean ====
section
/-! DEFINITION. What statements are said in terms of: the canonical memory, what a next state is, and what frames leave. -/

namespace Sys2Proof.Machine

/-- The memory's canonical form: addresses strictly rising, no entry equal to what an unlisted address reads as. -/
def memWf (m : Mem) : Bool := Table.wf 0 m.cells && Table.wf false m.bad && Table.wf false m.reported

/-- Nothing waits for time alone to bring it: no re-aim pass and no boundary steps run, and no KC unit has yet to reach
its CMP in a period that runs (R22, R242, R387). -/
def timeIdle (s : State) : Bool :=
  s.evs.pass.isEmpty && s.evs.steps.isNone && (List.range 4).all (fun k => !(s.kcU k).running || (s.kcU k).cmpDone)

/-- The module is powered and in RUN, which its commands ask of power and mode (R52, R457), and nothing waits for time
alone to bring it. -/
abbrev Alive (s : State) : Prop := s.sys.mode = .run ∧ s.supply.state ≠ .down ∧ timeIdle s = true

/-- A command answers a next state, and that state has a property. -/
def Yields (i : Instr) (s : State) (p : State → Prop) : Prop := ∃ u, exec i s = .next u ∧ p u

/-! ## Angle code -/

/-- At an issue of sequencer `j.sq` the module is powered and in RUN, no BUDGET fault is due there, `i` is the context
of R299, its fetch is admitted and finds no error, and its word is the instruction `x`. -/
abbrev Issues (s : State) (j : Issue) (i : Nat) (x : AInstr) : Prop :=
  Alive s ∧ (∀ k ∈ ctxsOf j.sq.val, mayIssue s k = true → overBudget s k = false) ∧
    bestCtx s j.sq.val = some i ∧ j.fetch = .clean ∧ fetchFault s i .clean = 0 ∧
    decodeAngle (fetchWord s i) = some x

/-- Context `i` while its instruction, complete at `t`, acts: ISSUING, its time counted (R295, R301). -/
def issued (s : State) (t : Tick) (i : Nat) : Ctx :=
  { s.ctx i with state := .issuing, used := (s.ctx i).used + (max s.etc t - issueFrom s i) }

/-- The context after its instruction wrote `v` to register `d` and went on to the next word (R267). -/
def Ctx.wrote (c : Ctx) (d : Nat) (v : Word) : Ctx := { c.setReg d v with pc := c.pc + 1 }

/-- Nothing but time, the sequencers and HOST_INT_N with its hold has changed. -/
def SeqFrame (s u : State) : Prop :=
  u = { s with
    now := u.now, etc := u.etc, seq := u.seq
    irc := { s.irc with line := u.irc.line, hold := u.irc.hold, quiet := u.irc.quiet } }

/-- An instruction of context `i`, complete at `t`, leaves context `i` as `c` and changes nothing else: the context its
sequencer issued for before is READY, the sequencer's boundary is `t`, and ETC is reached. -/
def Leaves (s : State) (t : Tick) (i : Nat) (c : Ctx) (u : State) : Prop :=
  u.ctx i = c ∧
    (∀ k, k ≠ i → u.ctx k =
      if k / 8 = i / 8 ∧ (s.ctx k).state = .issuing then { s.ctx k with state := .ready } else s.ctx k) ∧
    (∀ q, u.sq q = if q = i / 8 then { s.sq q with boundary := max s.etc t } else s.sq q) ∧
    u.seq.task = s.seq.task ∧ u.etc = max s.etc t ∧ SeqFrame s u

/-! ## Drive, faults and SAFE -/

/-- No other profile of channel `k`'s bank shares its rails: the bank is INDEPENDENT, or no other channel of it runs. -/
abbrev Unshared (s : State) (k : Nat) : Prop :=
  (s.bank (k / 8)).banked = false ∨ ∀ j : Fin 8, 8 * (k / 8) + j.val ≠ k → running s (8 * (k / 8) + j.val) = false

/-- Fault source `n` has occurred: its sticky bit, `FLT_LAST` and `FLT_TOTAL` (R412). -/
abbrev Occurred (s u : State) (n : Nat) : Prop :=
  u.flt.sticky.getLsbD n = true ∧ u.flt.last.src = n ∧ u.flt.total = wrapInc 32 s.flt.total

/-- What SAFE leaves (R418): no event waits to start, no profile runs, every bridge gate is off and every Kettle bleeds;
profiles that ran ended with LAST_END 6. -/
def SafeLeaves (s u : State) : Prop :=
  (∀ i, unstarted (u.slot i) = false) ∧ (∀ k, k < 64 → running u k = false) ∧
    (∀ k, k < 64 → running s k = true → (u.chan k).lastEnd = 6) ∧
    (∀ n, n < 8 → (u.ebU n).en = false ∧ (u.ebU n).hg = false ∧ (u.ebU n).lg = false) ∧
    ∀ k, k < s.kettles → (u.kettle k).state = .bleed

/-! ## Messages on the links -/

/-- The frames a link has to send, the one in the SPI receive buffer first (R118, R126). -/
def framesWaiting (s : State) (l : Link) : List (List Byte) :=
  match l with
  | .spi => (if s.links.rxReady then [s.links.rxBuf] else []) ++ s.links.spi.out
  | .can0 => s.links.can0.out
  | .can1 => s.links.can1.out

/-- The frames that carry a message (R111 to R113, R128). -/
def framesOf (l : Link) (mtag : Byte) (m : List Byte) : List (List Byte) :=
  (cutFrames (plenMax l) mtag 90 0 m).map (carried l)

/-- A response before it is sealed (R118): the request's code with bit 15, its RTAG, the length, STATUS, DETAIL, data. -/
def plainResponse (r : Request) (status detail : Nat) (data : List Byte) : List Byte :=
  leBytes 2 (r.code + 0x8000) ++ leBytes 2 r.rtag.toNat ++ leBytes 4 (4 + data.length) ++
    (leBytes 2 status ++ leBytes 2 detail ++ data)

/-- A session is open on the link and its counter lets it seal one more message (R88, R131). -/
def sealsNext (s : State) (l : Link) : Bool :=
  match (s.link l).session with
  | .opened x => decide (x.lastModule + 2 < 2 ^ 64)
  | _ => false

/-- The module runs with its links up, and request `r` of link `l`, with the code of a command that the module does not
refuse as a whole, is in processing; a sealed one under an open session (R120, R123, R134). -/
abbrev Asked (s : State) (l : Link) (r : Request) (code : Nat) : Prop :=
  Alive s ∧ s.sys.linksUp = true ∧ (s.link l).req = some r ∧ r.code = code ∧ moduleRefusal s code = 0 ∧
    (r.sealed = true → sealsNext s l = true)

/-- In `u` request `r` is out of processing, and one response with STATUS, DETAIL and data, sealed under the session of
`s` if `r` is, stands behind the frames that waited on its link (R118, R122). -/
def Answered (s u : State) (l : Link) (r : Request) (status detail : Nat) (data : List Byte) : Prop :=
  (u.link l).req = none ∧ framesWaiting u l = framesWaiting s l ++ framesOf l r.mtag
    (match r.sealed, (s.link l).session with
    | true, .opened x => sealedMsg x.keyMH 2 x.sid (x.lastModule + 1) (plainResponse r status detail data)
    | _, _ => plainResponse r status detail data)

/-- Nothing but time, the links and the interrupt controller has changed. -/
def LinkFrame (s u : State) : Prop := u = { s with now := u.now, etc := u.etc, links := u.links, irc := u.irc }

end Sys2Proof.Machine
end

