-- ==== Sys2Proof/Certificates/Slice0/Obligations.lean ====
section
/-! DEFINITION. The statements: what the rules of spec/ say the commands of the block do, and what every command keeps. -/

open Sys2Proof Sys2Proof.Machine

/-- A step is the command at the front of the queue run on the state with the queue's rest; on an empty queue the
block idles (DESIGN CHOICE, log 1). -/
def Obligations.StepRunsTheFrontCommand : Prop :=
  (∀ (c : Instr) (q : List Instr) (s : State), s.pending = c :: q → step s = exec c { s with pending := q }) ∧
  ∀ s : State, s.pending = [] → step s = .next s

/-- The registers that the register tables give a reset value read it at reset, and the machine is at rest: the memory
in its canonical form with nothing listed, no command waiting, no task in a context, every event slot free, neither
synchronised nor in SAFE. -/
def Obligations.RegistersAtReset : Prop :=
  ((∀ p ∈ [(0x1000, (0x11111110 : Word)), (0x1004, 0x11111111), (0x107C, 0x11111111), (0x4F08, 0x00FF0000),
      (0x5014, 0xFFFFFFFF), (0x6000, 0xFFFFFFFF)], regWord .core p.1 State.reset = p.2) ∧
  (∀ a ∈ [0x14, 0x24, 0x108, 0x1100, 0x1120, 0x1140, 0x1160, 0x2000, 0x200C, 0x203C, 0x2048, 0x2054, 0x205C, 0x3F04,
      0x5020, 0x5040, 0x504C, 0x5050, 0x5054, 0x6008, 0x6010, 0x6018, 0x6020, 0x6024, 0x6028, 0x602C, 0x6800, 0x8004,
      0x8008, 0x8014, 0x8018, 0x801C, 0x8020, 0x8024, 0x8028, 0x8044, 0x8048, 0xA804, 0xAC00, 0xC004, 0xC008, 0xC804,
      0xC808, 0xC80C, 0xD004, 0xD00C, 0xD018, 0xD01C, 0xD030, 0xD038, 0xE004, 0xE008, 0xE00C, 0xF004, 0xF008, 0xF00C,
      0xF010, 0xF018, 0xF020, 0xF028, 0xF030, 0xF038], regWord .core a State.reset = 0)) ∧
  (memWf State.reset.mem = true ∧ State.reset.mem.cells = [] ∧ State.reset.pending = [] ∧
  (∀ i, State.reset.ctx i = {}) ∧ (∀ i, State.reset.slot i = {}) ∧ State.reset.whl.sync = .nosync ∧
  State.reset.flt.safe = false ∧ (∀ i, i < 128 → (State.reset.ctx i).state = .empty))

/-- R261, R262, R264 to R284: words spelled from the encoding tables, and words that are illegal. -/
def Obligations.SampleWordsDecode : Prop :=
  decodeAngle 0x50CFFFFB = some { op := .addi, d := 3, a := 3, imm := 0x3FFFB } ∧
  decodeAngle 0x728C0040 = some { op := .ld, d := 10, a := 3, imm := 0x40 } ∧
  decodeAngle 0xD5D28000 = some { op := .sched, d := 7, a := 4, b := 10 } ∧
  decodeAngle 0x9A37FFF0 = some { op := .blt, a := 8, b := 13, imm := 0x3FFF0 } ∧
  decodeAngle 0x00000000 = none ∧ decodeAngle 0x04000001 = none ∧ decodeAngle 0xC0400000 = none

/-- R257, R295: register 0 of every context reads 0, and a write to it changes nothing. -/
def Obligations.RegisterZeroReadsZero : Prop :=
  ∀ (c : Ctx) (v : Word) (r : Nat), c.reg 0 = 0 ∧ c.setReg 0 v = c ∧
    (r ≠ 0 → (c.setReg r v).reg r = v) ∧ ∀ m, m ≠ r → (c.setReg r v).reg m = c.reg m

/-- R261: decoding the word of a well-formed instruction gives it back, for every instruction and every value of its
fields. -/
def Obligations.EncodedInstructionsDecode : Prop := ∀ x : AInstr, x.wf = true → decodeAngle (encodeAngle x) = some x

/-- Every step keeps the memory in its canonical form: addresses strictly rising, no entry equal to what an unlisted
address reads as. -/
def Obligations.MemoryStaysCanonical : Prop :=
  ∀ s u : State, memWf s.mem = true → step s = .next u → memWf u.mem = true

/-- R418, R419: a command that leaves SAFE is RESET_N, the expiry of the RESET command's delay, or the supply
judgement that enters DOWN. No register write and no other command leaves it. -/
def Obligations.OnlyResetLeavesSafe : Prop :=
  ∀ s u : State, step s = .next u → s.flt.safe = true → u.flt.safe = false →
    ∃ (c : Instr) (q : List Instr), s.pending = c :: q ∧
      ((∃ t n, c = .resetNPulse t n) ∨ (∃ t, c = .resetCommandDelayExpiry t) ∨ ∃ t j, c = .supplyJudgement t j)

/-- R168, R171, R175: the synchronisation state is changed by an accepted edge, a pulse that is long by time, a stall,
a reported loss, or a reset; a stall, a reported loss and a reset leave NOSYNC. -/
def Obligations.SynchronisationChangesOnlyByItsCauses : Prop :=
  ∀ (c : Instr) (s u : State), exec c s = .next u → u.whl.sync ≠ s.whl.sync →
    (∃ t n, c = .strainerAccept t n) ∨ (∃ t n, c = .pulseLongTimeout t n) ∨
      ((∃ t, c = .stall t) ∨ (∃ t, c = .lossReported t) ∨ (∃ t, c = .resetCommandDelayExpiry t) ∨
        (∃ t n, c = .resetNPulse t n) ∨ ∃ t j, c = .supplyJudgement t j) ∧ u.whl.sync = .nosync

/-- R32, R457, R459: every command answers a next state, but a RESET_N pulse of a width for which the effect is
undefined. No command takes ETC back, and in RUN each brings it at least to its own instant. No command touches the
queue, nor the order code of the hardware. -/
def Obligations.TimeNeverGoesBack : Prop :=
  ∀ (c : Instr) (s : State), (∀ t n, c = .resetNPulse t n → n < 2000 ∨ 10000 ≤ n) →
    ∃ u, exec c s = .next u ∧ s.etc ≤ u.etc ∧ s.now ≤ u.now ∧ c.time ≤ u.now ∧ (s.sys.mode = .run → c.time ≤ u.etc) ∧
      u.pending = s.pending ∧ u.sys.order64 = s.sys.order64

/-- R457, R465 to R469: the module leaves RUN only by a reset, or by a request, written by angle code, the firmware or
a command of its own, or an automatic entry to STANDBY or SLEEP. -/
def Obligations.RunIsLeftOnlyOnRequest : Prop :=
  ∀ (c : Instr) (s u : State), exec c s = .next u → s.sys.mode = .run → u.sys.mode ≠ .run →
    (∃ t, c = .standbyRequest t ∨ c = .sleepRequest t ∨ c = .autoStandby t ∨ c = .autoSleep t ∨
      c = .sleepEntryComplete t ∨ c = .resetCommandDelayExpiry t) ∨
    (∃ t j, c = .st t j ∨ c = .sth t j ∨ c = .stb t j) ∨ (∃ t r a v, c = .registerWrite t r a v) ∨
    (∃ t n, c = .resetNPulse t n) ∨ ∃ t j, c = .supplyJudgement t j

/-- R405, R410: after every command HOST_INT_N is low while a moderation hold runs, and else follows the sources
deliverable to HOST. -/
def Obligations.HostLineFollowsSources : Prop :=
  ∀ (c : Instr) (s u : State), s.supply.state ≠ .down → exec c s = .next u →
    (u.irc.hold ≠ none → u.irc.line = false) ∧
    (u.irc.hold = none → u.irc.line = decide (best u u.irc.host ≠ 0))

/-- R185: an edge accepted on an auxiliary input is its stamp, read as a pair at `WHL_INn_STAMP_LO`, and raises source
24 + n; outside the input's own registers and that source nothing changes. -/
def Obligations.AuxiliaryEdgesOnlyStamp : Prop :=
  ∀ (s : State) (t : Tick) (n : Fin 8) (c : Crossing) (rest : List Crossing), Alive s → s.role n = 5 →
    (s.wheel n).held = c :: rest → c.stamp + s.filtNs n * ticksPerNs ≤ max s.etc t → isTiming s n c.rising = true →
    s.sys.order64 = true ∨ n.val < 4 →
    let a := 0x5040 + 32 * n.val
    Yields (.strainerAccept t n) s (fun u =>
      (∀ r, regWord r a u = BitVec.ofNat 32 c.stamp ∧
        regWord r (a + 4) (regLatch r a u) = BitVec.ofNat 32 (c.stamp / 2 ^ 32)) ∧
      u.irc.host.pend = s.irc.host.pend ||| BitVec.twoPow 256 (24 + n.val) ∧
      u.irc.mgmt.pend = s.irc.mgmt.pend ||| BitVec.twoPow 256 (24 + n.val) ∧
      (∀ m, m ≠ n.val → u.wheel m = s.wheel m) ∧
      u = { s with
        now := max s.now t, etc := max s.etc t, whl := { s.whl with inp := u.whl.inp }
        irc := { s.irc with
          host := { s.irc.host with pend := u.irc.host.pend, coalesced := u.irc.host.coalesced }
          mgmt := { s.irc.mgmt with pend := u.irc.mgmt.pend, coalesced := u.irc.mgmt.coalesced }
          line := u.irc.line, hold := u.irc.hold, quiet := u.irc.quiet } })

/-- R304: JR and END while FH is set end the handler: g13 to g15, C, V and Q come back, the priority is PRIO again, FH
is cleared, and no other register changes; END ends the activation too. With the faulting pc in its register JR
retries the instruction, with the next pc it skips it. -/
def Obligations.JrAndEndEndTheHandler : Prop :=
  ∀ (s : State) (t : Tick) (j : Issue) (i : Nat) (x : AInstr), Issues s j i x → (s.ctx i).fh = true →
    let c := issued s t i
    let A := (s.ctx i).reg x.a
    let back : Ctx := { ((c.setReg 13 c.saveG13).setReg 14 c.saveG14).setReg 15 c.saveG15 with
      c := c.saveC, v := c.saveV, q := c.saveQ, fh := false, prioNow := (s.taskOf i).prio }
    (∀ r, back.reg r = if r = 13 then c.saveG13 else if r = 14 then c.saveG14 else if r = 15 then c.saveG15
      else (s.ctx i).reg r) ∧
    (x.op = .jr → Yields (.jr t j) s (Leaves s t i { back with pc := A.setWidth 16 })) ∧
    (x.op = .jr → A = c.fpc.setWidth 32 → Yields (.jr t j) s (fun u => (u.ctx i).pc = c.fpc)) ∧
    (x.op = .jr → A = c.fpc.setWidth 32 + 1 → Yields (.jr t j) s (fun u => (u.ctx i).pc = c.fpc + 1)) ∧
    (x.op = .endTask → c.pending = false → Yields (.endTask t j) s (Leaves s t i { back with
      pc := c.pc + 1, state := .idle })) ∧
    (x.op = .endTask → c.pending = true → Yields (.endTask t j) s (Leaves s t i { back with
      pc := (s.taskOf i).entry, acts := wrapInc 16 c.acts, lastTrig := c.pendTrig, used := 0, secondBudget := false
      pending := false, state := .ready, order := s.seq.orderNext, readyAt := max s.etc t, wait := .none }))

/-- R406: `IRC_HOST_CLAIM` reads as the best deliverable source, or 0 where none is; the read changes nothing. The
best is deliverable, no deliverable source is of a higher level, and none of its level has a lower number. -/
def Obligations.ClaimReadShowsTheBest : Prop :=
  ∀ (s : State) (r : Requester), ∃ n, n < 256 ∧ regWord r 0x1168 s = BitVec.ofNat 32 n ∧ regLatch r 0x1168 s = s ∧
    (n ≠ 0 → deliverable s s.irc.host n = true) ∧
    ∀ m, 0 < m → m < 256 → deliverable s s.irc.host m = true →
      n ≠ 0 ∧ s.level m ≤ s.level n ∧ (s.level m = s.level n → n ≤ m)

/-- R414: the one grace timer starts at the occurrence that finds it stopped and keeps its deadline for later ones,
which are marked pending and due at that deadline. The occurrences are those of the three sources whose commands the
table has of their own. -/
def Obligations.OneGraceTimer : Prop :=
  ∀ (s : State) (t : Tick), Alive s → s.flt.safe = false →
    let x := max s.etc t
    (∀ c n, (c = .handshakeStall t ∧ n = 23) ∨ (c = .mgmtCoreStall t ∧ n = 22) ∨
        (c = .watchdogTimeout t ∧ n = 0 ∧ s.flt.wdt.timeout ≠ 0 ∧
          s.flt.wdt.since + s.flt.wdt.timeout * ticksPerMs ≤ x) → s.faultClass n = 1 →
      (s.flt.grace = none → Yields c s (fun u =>
        u.flt.grace = some (x + s.graceUs * ticksPerUs) ∧ u.irc.host.pend.getLsbD 249 = true ∧
        u.flt.pend = s.flt.pend ||| BitVec.twoPow 96 n)) ∧
      (∀ d, s.flt.grace = some d → Yields c s (fun u =>
        u.flt.grace = some d ∧ u.flt.pend = s.flt.pend ||| BitVec.twoPow 96 n))) ∧
    (∀ d, s.flt.grace = some d → d ≤ x → s.flt.pend ≠ 0 → Yields (.graceDeadline t) s (fun u =>
      u.flt.safe = true ∧ u.flt.grace = none ∧ s.flt.pend.getLsbD u.flt.safeSrc = true))

/-- R376: a high phase that begins while the bootstrap is low is dropped: no gate changes at its start, so EBn_LG
stays as it is, and BST_UV counts it in place of DROP_H. It begins at the crossing of CMP on the way down, or at a
boundary. -/
def Obligations.LowBootstrapDropsHighPhases : Prop :=
  ∀ (s : State) (t : Tick) (n : Fin 8), Alive s → (s.ebU n).en = true → (s.ebU n).tripped = false →
    (s.ebU n).clearOk = false → (s.ebU n).high = false →
    let dropped (u : State) := (u.ebU n).high = true ∧ (u.ebU n).hg = (s.ebU n).hg ∧ (u.ebU n).lg = (s.ebU n).lg ∧
      (u.ebU n).pendOn = (s.ebU n).pendOn ∧ (u.ebU n).bstUv = satInc 255 (s.ebU n).bstUv ∧
      (u.ebU n).dropH = (s.ebU n).dropH ∧ (u.ebU n).dropL = (s.ebU n).dropL ∧ (u.ebU n).flags.getLsbD 4 = true
    (∀ x, ebCrossing (s.ebU n) = some x → x ≤ max s.etc t → Yields (.ebPhaseEdge t n true) s dropped) ∧
    ((s.ebU n).updn = false ∨ (s.ebU n).down = true → ebBoundaryDue (s.ebU n) ≤ max s.etc t → (s.ebU n).armAt = none →
      (s.ebU n).act.cmp ≠ 0 → Yields (.ebPeriodBoundary t n true) s dropped)

/-- R16: what a host write reaches: the host's own interrupt enables, threshold and moderation, its claim-complete
register, the command mailbox and its buffer. Nothing else of the module changes, and a write to any other register is
counted and has no other effect. -/
def Obligations.HostWritesReachTheirOwn : Prop :=
  ∀ (s : State) (t : Tick) (a : BitVec 24) (v : Word), Alive s → s.sys.linksUp = true → a.toNat % 4 = 0 →
    Yields (.registerWrite t .host a v) s (fun u =>
      u.irc.levels = s.irc.levels ∧ u.irc.mgmt.en = s.irc.mgmt.en ∧ u.irc.mgmt.thr = s.irc.mgmt.thr ∧
      u.irc.mgmt.act = s.irc.mgmt.act ∧ u = { s with now := max s.now t, etc := max s.etc t, irc := u.irc, links := u.links } ∧
      (a.toNat ≠ 0x100 → (a.toNat < 0x200 ∨ 0x400 ≤ a.toNat) → (a.toNat < 0x1100 ∨ 0x1120 ≤ a.toNat) →
        a.toNat ≠ 0x1160 → a.toNat ≠ 0x1164 → a.toNat ≠ 0x116C →
        u = { s with
          now := max s.now t, etc := max s.etc t, links := { s.links with hostRej := satInc 0xFFFFFFFF s.links.hostRej }
          irc := { s.irc with line := u.irc.line, hold := u.irc.hold, quiet := u.irc.quiet } }))

/-- R156, R157: a crossing of an input that is in use enters its Strainer, or rejects the crossing it returns from, or
is no crossing of an unarmed VR input; nothing but that input changes. -/
def Obligations.CrossingsEnterTheStrainer : Prop :=
  ∀ (s : State) (t : Tick) (n : Fin 8) (rising : Bool) (pk : Nat), Alive s → s.role n ≠ 0 →
    let w := s.wheel n
    let x := max s.etc t
    let strained := ∃ h, w.held.getLast? = some h ∧ x < h.stamp + s.filtNs n * ticksPerNs
    let unarmed := isVr s n = true ∧ isTiming s n rising = true ∧ pk ≤ armThreshold s n
    let others (u : State) := (∀ m, m ≠ n.val → u.wheel m = s.wheel m) ∧ u = { s with
      now := max s.now t, etc := x, whl := { s.whl with inp := u.whl.inp }
      irc := { s.irc with line := u.irc.line, hold := u.irc.hold, quiet := u.irc.quiet } }
    (rising = comparator w → Yields (.wheelCrossing t n rising pk) s (fun u => u.wheel n = w ∧ others u)) ∧
    (rising ≠ comparator w → strained → Yields (.wheelCrossing t n rising pk) s (fun u =>
      u.wheel n = { w with held := w.held.dropLast, rej := satInc 0xFFFFFFFF w.rej } ∧ others u)) ∧
    (rising ≠ comparator w → ¬ strained → unarmed → Yields (.wheelCrossing t n rising pk) s (fun u =>
      u.wheel n = w ∧ others u)) ∧
    (rising ≠ comparator w → ¬ strained → ¬ unarmed → Yields (.wheelCrossing t n rising pk) s (fun u =>
      u.wheel n = { w with held := w.held ++ [{ stamp := x, rising := rising, peakMv := pk : Crossing }] } ∧ others u))

/-- R155, R156, R158, R165 to R168, R171: what the acceptance of a held crossing does, by the role of its input, and
what a pulse that is long by time does. -/
def Obligations.EdgesAndLongPulses : Prop :=
  (∀ (s : State) (t : Tick) (n : Fin 8) (c : Crossing) (rest : List Crossing), Alive s → s.role n ≠ 0 →
    (s.wheel n).held = c :: rest → c.stamp + s.filtNs n * ticksPerNs ≤ max s.etc t → decodes s n = false →
    let yields (p : State → Prop) := Yields (.strainerAccept t n) s p
    let edge : WheelIn := { s.wheel n with
      held := rest, level := c.rising, stamp := c.stamp, edges := wrapInc 32 (s.wheel n).edges, adaptPeak := c.peakMv
      peak := if isVr s n then sat 65535 (c.peakMv / 10) else (s.wheel n).peak, lead := none
      lostEdge := s.whl.sync == .lost }
    (isTiming s n c.rising = false → yields (fun u =>
      u.wheel n = { s.wheel n with held := rest, level := c.rising } ∧ (∀ m, m ≠ n.val → u.wheel m = s.wheel m) ∧
        u = { s with
          now := max s.now t, etc := max s.etc t, whl := { s.whl with inp := u.whl.inp }
          irc := { s.irc with line := u.irc.line, hold := u.irc.hold, quiet := u.irc.quiet } })) ∧
    (isTiming s n c.rising = true → s.role n = 5 → yields (fun u =>
      u.wheel n = { edge with lastClass := .auxiliary } ∧ (∀ m, m ≠ n.val → u.wheel m = s.wheel m) ∧
        (s.sys.order64 = true → u.irc.host.pend.getLsbD (24 + n.val) = true) ∧
        u = { s with now := max s.now t, etc := max s.etc t, irc := u.irc, whl := { s.whl with inp := u.whl.inp } })) ∧
    (isTiming s n c.rising = true → crankInput s = some n.val → s.whl.sync = .lost → yields (fun u =>
      u.wheel n = edge ∧ u.whl.lastEdge = c.stamp ∧ u.whl.sync = .lost ∧ u.whl.crank = s.whl.crank ∧ u.lns = s.lns)) ∧
    (isTiming s n c.rising = true → crankInput s = some n.val → s.whl.sync = .nosync → s.lns.rev = false →
      s.whl.crank.last = none → yields (fun u =>
        u.wheel n = edge ∧ u.whl.sync = .nosync ∧ u.whl.lastEdge = c.stamp ∧ u.whl.crank.last = some c.stamp ∧
        u.lns.tLast = c.stamp ∧ u.lns.started = true ∧ u.lns.havePn = false)) ∧
    (∀ l, isTiming s n c.rising = true → crankInput s = some n.val → s.whl.sync = .nosync → s.lns.rev = false →
      s.whl.crank.last = some l → s.whl.crank.prevN = 0 → s.whl.crank.cand = none → s.gapCount ≠ 0 → yields (fun u => u.whl.sync = .tooth))) ∧
  (∀ (s : State) (t : Tick) (n : Fin 8) (l : Tick), Alive s → (s.wheel n).lead = some l → (s.wheel n).pulse = .none →
    (s.wheel n).lostEdge = false →
    l + s.dirLim1 n * ticksPerUs + s.filtNs n * ticksPerNs ≤ max s.etc t → (s.wheel n).held = [] →
    crankInput s = some n.val →
    (s.whl.sync = .lost → Yields (.pulseLongTimeout t n) s (fun u =>
      u.wheel n = { s.wheel n with pulse := .long } ∧ u.whl.crank = s.whl.crank)) ∧
    (s.whl.sync = .nosync → s.whl.crank.stepBack = some false → s.whl.crank.dir = .unknown →
      s.whl.crank.runClass ≠ .long → s.lns.rev = false → Yields (.pulseLongTimeout t n) s (fun u =>
        u.wheel n = { s.wheel n with pulse := .long } ∧ u.whl.sync = .nosync ∧
        u.whl.crank.f = prevTooth s s.whl.shift s.whl.crank.before ∧ u.whl.crank.dir = .unknown ∧
        u.whl.crank.runClass = .long ∧ u.whl.crank.run = 1 ∧ u.whl.crank.stepBack = none ∧ u.whl.crank.back = true ∧
        u.whl.revTeeth = satInc 65535 s.whl.revTeeth)))

/-- R168, R170, R171, R175, R183, R209: the crank secondary replaces a primary that is gone; stall, and the fall from
LOST. -/
def Obligations.PromotionStallAndLoss : Prop :=
  (∀ (s : State) (t : Tick) (p q ofs : Nat), Alive s → inputOf s 1 = some p → inputOf s 2 = some q →
    s.whl.secOfs = some ofs → s.whl.promoted = false → positioned s.whl.sync = true → s.whl.secAgree = true →
    primaryGone (s.advance t) p = true →
    Yields (.secondaryPromotion t) s (fun u =>
      u.whl.promoted = true ∧ u.whl.promoFirst = true ∧ u.whl.sync = s.whl.sync ∧ u.lns.pauseCross = 2 ∧
      u.irc.host.pend.getLsbD 22 = true ∧
      u.whl.crank = { s.whl.second with f := promotedF s ofs, hasPos := true, cand := none, stepBack := none } ∧
      u.whl.shift = secondShift s ofs)) ∧
  (∀ (s : State) (t : Tick), Alive s →
    (stallAt s ≤ max s.etc t → heldBefore s (stallAt s) = false → s.whl.sync ≠ .nosync →
      Yields (.stall t) s (fun u => u.whl.sync = .nosync)) ∧
    (stallAt s ≤ max s.etc t → heldBefore s (stallAt s) = false → s.whl.sync = .nosync → s.whl.qsTrack = true →
      s.whl.qsMoved = true → s.whl.crank.hasPos = true → sourceDecodes s = true → s.supply.state ≠ .holdup →
      Yields (.stall t) s (fun u => u.bgs.jobs = s.bgs.jobs ++ [.quickStart (stopRecord s)] ∧
        u.whl = { s.whl with qsMoved := false } ∧ u.lns = s.lns)) ∧
    (s.whl.sync = .lost → Yields (.lossReported t) s (fun u => u.whl.sync = .nosync)))

/-- R197, R200, R201, R208: the Lens between boundary teeth. -/
def Obligations.LensBetweenTeeth : Prop :=
  ∀ (s : State) (t : Tick), Alive s →
    (counting s = true → closesOnTooth s = false → virtualAt s ≤ max s.etc t →
      (s.lns.cur + 1) % (2 * s.nTeeth) ≠ 0 →
      Yields (.virtualBoundary t) s (fun u =>
        u.lns.tOpen = virtualAt s ∧ u.lns.cur = (s.lns.cur + 1) % (2 * s.nTeeth) ∧ u.lns.k = (s.lns.k + 1) % 4 ∧
        u.lns.mode = .run ∧ u.lns.pn = s.lns.pn ∧ u.lns.acc = s.lns.acc ∧ u.lns.tLast = s.lns.tLast)) ∧
    (counting s = true → closesOnTooth s = true → s.lns.mode = .run → holdAt s ≤ max s.etc t →
      Yields (.countHold t) s (fun u =>
        u.lns = { s.lns with mode := .hold, seen := u.lns.seen } ∧ u.whl = s.whl ∧ u.evs = s.evs)) ∧
    (counting s = true → closesOnTooth s = true → s.lns.mode ≠ .overdue → overdueAt s ≤ max s.etc t →
      heldBefore s (overdueAt s) = false →
      Yields (.toothOverdue t) s (fun u =>
        u.lns.mode = .overdue ∧ u.lns.overdues = satInc 65535 s.lns.overdues ∧ u.evs.hold = true ∧
        u.irc.host.pend.getLsbD 32 = true)) ∧
    (s.lns.havePn = true → s.whl.sync ≠ .nosync →
      s.lns.sixteenths < (max s.etc t - s.lns.tLast) / max 1 (s.lns.pn / 4096) →
      Yields (.speedRecompute t) s (fun u =>
        u.lns = { s.lns with
          speed := speedAt s (max s.etc t)
          sixteenths := (max s.etc t - s.lns.tLast) / max 1 (s.lns.pn / 4096) })) ∧
    (∀ (angle : Word) (a : Nat), counting s = true → lensLinAt s (max s.etc t) = some a → angValid s angle = true →
      inRange s.cycleLen s.lns.seen a angle.toNat = true → fwdDist s.cycleLen s.lns.seen a < s.cycleLen / 2 →
      Yields (.anglePassed t angle) s (fun u =>
        u.lns = { s.lns with seen := angle.toNat } ∧ u.whl = s.whl ∧ u.evs = s.evs))

/-- R226, R228, R235 to R237: the checks of an insertion in their order and what an accepted one outside the aim
window does; what AIM and CANCEL requests answer and change. -/
def Obligations.SchedulerAnswers : Prop :=
  (∀ (s : State) (t : Tick) (q : Fin 16) (p : Fin 8) (d b : Nat) (w0 w1 w2 : Word), Alive s →
    (s.ctx (8 * q.val + p.val)).wait = .insertion d b w0 w1 w2 → hasTurn s q p = true →
    let i := 8 * q.val + p.val
    let r := requestEvent q w0 w1 w2
    let code : Nat :=
      if s.flt.safe then 6
      else if w1 &&& 0xFC0000C0 ≠ 0 ∨ w2 &&& 0xFF000000 ≠ 0 ∨ 2 * s.nTeeth ≤ w0.toNat / 4096 ∨
        (r.next = false ∧ r.ctag ≠ s.evs.cycle % 256 ∧ r.ctag ≠ (s.evs.cycle + 1) % 256) then 2
      else if positioned s.whl.sync = false then 3
      else if s.channels ≤ r.ch then 4
      else if profileOk (s.profile r.prof) r.ch r.ont = false then 5
      else if freeAfter s 8192 s.evs.lastSlot = none then 1
      else 0
    (code ≠ 0 → Yields (.eventInsertion t q p) s (fun u =>
      u.ctx i = { s.ctx i with wait := .answered d b true (BitVec.ofNat 32 code) 0 none } ∧
      u.evs = { s.evs with
        turn := q.val, refuse := wrapInc 32 s.evs.refuse
        tblFull := if code = 1 then satInc 65535 s.evs.tblFull else s.evs.tblFull })) ∧
    (∀ k, code = 0 → freeAfter s 8192 s.evs.lastSlot = some k → r.next = false → inWindow s r = false →
      evPassed (s.advance t) r = false → gateEvent s r = 0 →
      Yields (.eventInsertion t q p) s (fun u =>
        u.ctx i = { s.ctx i with wait := .answered d b true 0 (handleOf k s.evs.seq) none } ∧
        u.slot k = { r with seq := s.evs.seq, state := .waiting } ∧ (∀ m, m ≠ k → u.slot m = s.slot m) ∧
        u.evs = { s.evs with
          slots := u.evs.slots, turn := q.val, lastSlot := k, seq := wrapInc 16 s.evs.seq
          ins := wrapInc 32 s.evs.ins, heldOver := s.evs.heldOver.filter (fun m => m != k) }))) ∧
  (∀ (s : State) (t : Tick) (q : Fin 16) (p : Fin 8) (d : Nat) (h w1 w2 : Word), Alive s → hasTurn s q p = true →
    let i := 8 * q.val + p.val
    let ends (c : Instr) (res hd : Word) (f : Evs → Evs) := Yields c s (fun u =>
      u.ctx i = { s.ctx i with wait := .answered d 0 false res hd none } ∧ u.evs = f { s.evs with turn := q.val })
    ((s.ctx i).wait = .aim d h w1 w2 →
      (s.flt.safe = true → ends (.eventAimRequest t q p) 6 0 id) ∧
      (s.flt.safe = false → lookup q h s = none → ends (.eventAimRequest t q p) 9 0 id) ∧
      (∀ k, s.flt.safe = false → lookup q h s = some k → (s.slot k).state ≠ .waiting → (s.slot k).state ≠ .near →
        ends (.eventAimRequest t q p) 10 h id) ∧
      (∀ k, s.flt.safe = false → lookup q h s = some k → (s.slot k).state = .waiting → w2 &&& 0xFFFF0000 = 0 →
        w1.toNat / 4096 < 2 * s.nTeeth → onTimeOk (s.profile (s.slot k).prof) (signed 16 (w2.toNat % 65536)) = true →
        inWindow s { s.slot k with target := w1 } = false →
        evPassed (s.advance t) { s.slot k with target := w1 } = false →
        gateEvent s { s.slot k with target := w1, ont := signed 16 (w2.toNat % 65536) } = 0 →
        Yields (.eventAimRequest t q p) s (fun u =>
          u.ctx i = { s.ctx i with wait := .answered d 0 false 0 (handleOf k (s.slot k).seq) none } ∧
          u.slot k = { s.slot k with target := w1, ont := signed 16 (w2.toNat % 65536) } ∧
          (∀ m, m ≠ k → u.slot m = s.slot m)))) ∧
    ((s.ctx i).wait = .cancel d h →
      (s.flt.safe = true → ends (.eventCancelRequest t q p) 6 0 id) ∧
      (s.flt.safe = false → lookup q h s = none → ends (.eventCancelRequest t q p) 9 0 id) ∧
      (∀ k, s.flt.safe = false → lookup q h s = some k → (s.slot k).state = .running →
        ends (.eventCancelRequest t q p) 11 h id) ∧
      (∀ k, s.flt.safe = false → lookup q h s = some k → (s.slot k).state = .waiting → (s.slot k).bad = false →
        ends (.eventCancelRequest t q p) 0 h (fun e => { e with
          slots := e.slots.set {} k {}, cancels := wrapInc 32 e.cancels }))))

/-- R25, R27, R220, R233, R234, R247, R248, R256, R324, R338, R349: a due event that passes the commit stages is
frozen and armed, one that does not is dropped; an armed event starts its profile at its frozen time; an uncorrectable
error in the event table quarantines the slot. -/
def Obligations.CommitStartAndTableErrors : Prop :=
  (∀ (s : State) (t : Tick) (i : Fin 8192) (armAt : Tick), Alive s →
    commitDue (s.advance t) i = true →
    let e := commitCopy s (s.slot i) armAt
    (commitStages (abortTests e.ch (s.advance t)) i e armAt = (0, 0) →
      Yields (.commit t i armAt) s (fun u =>
        u.slot i = { e with state := .armed } ∧ e.frozen = (s.slot i).proj ∧
        (u.kettle (e.ch / 16)).res = (s.kettle (e.ch / 16)).res + e.reserve ∧ u.evs.drops = s.evs.drops)) ∧
    (∀ r dt, r ≠ 0 → commitStages (abortTests e.ch (s.advance t)) i e armAt = (r, dt) → (s.slot i).bad = false →
      Yields (.commit t i armAt) s (fun u => u.slot i = {} ∧ u.evs.drops = wrapInc 32 s.evs.drops))) ∧
  (∀ (s : State) (t : Tick) (k : Fin 64) (i : Nat) (e : Event), Alive s → Unshared s k →
    armedOn s k = some (i, e) → e.frozen ≤ max s.etc t → (s.chan k).phase = .idle →
    Yields (.profileStart t k) s (fun u =>
      (u.chan k).phase = (if e.copy.kind = 2 then .steep else .peak) ∧ (u.chan k).start = e.frozen ∧
      (u.chan k).feedOn = true ∧ (u.chan k).offAt = e.frozen + (e.copy.tOn + e.ont).toNat * 80 ∧
      (u.chan k).ev = e ∧ (u.chan k).evSlot = i ∧ (u.chan k).seq = e.seq ∧ (u.chan k).prof = e.prof ∧
      (u.chan k).shots = ((s.chan k).shots + 1) % 2 ^ 64 ∧ (u.chan k).ext = 0 ∧
      u.slot i = { e with state := .running } ∧ (∀ m, m ≠ i → u.slot m = s.slot m) ∧
      u.evs.cur.fired = satInc 65535 s.evs.cur.fired ∧
      u.evs.started.get 0 k = s.evs.started.get 0 k + 1)) ∧
  (∀ (s : State) (t : Tick) (i : Fin 8192) (part : EccPart), Alive s → s.flt.safe = true →
    (s.slot i).state = .free ∨ (s.slot i).state = .running → (s.slot i).bad = false →
    Yields (.eventTableEccError t i part) s (fun u =>
      u.slot i = { state := .quarantined } ∧ (∀ m, m ≠ i.val → u.slot m = s.slot m) ∧
      u.evs.uncorr = satInc 255 s.evs.uncorr ∧ u.flt.sticky.getLsbD 16 = true ∧ u.flt.last.src = 16 ∧
      u.flt.total = wrapInc 32 s.flt.total))

/-- R319, R325 to R330, R343: the phases of a running profile where no other profile shares the rails of its bank; the
regulator, its dither, its setpoint and the extensions of a running profile. -/
def Obligations.ProfilePhasesAndRegulator : Prop :=
  (∀ (s : State) (t : Tick) (k : Fin 64) (cur uj : Nat), Alive s → Unshared s k →
    let c := s.chan k
    let p := c.ev.copy
    let x := max s.etc t
    (c.phase = .peak → p.iPeak ≤ cur → Yields (.peakEnd t k cur uj) s (fun u =>
      (u.chan k).phase = .transition ∧ (u.chan k).feedOn = false ∧ (u.chan k).phaseAt = x ∧
      (u.chan k).peakOk = true ∧ (u.chan k).current = min cur 8191 ∧
      (u.chan k).eboost = (if c.peakSel = 1 then (c.eboost + uj) % 2 ^ 64 else c.eboost) ∧
      (u.kettle (k.val / 16)).res = (s.kettle (k.val / 16)).res - c.ev.reserve)) ∧
    (c.phase = .peak → c.start + p.tPeakMax * ticksPerUs ≤ x → c.start + p.tPeakMax * ticksPerUs < c.offAt →
      cur < p.iPeak → Yields (.peakTimeout t k cur uj) s (fun u =>
        (u.chan k).phase = .transition ∧ (u.chan k).feedOn = false ∧
        (u.chan k).phaseAt = c.start + p.tPeakMax * ticksPerUs ∧ (u.chan k).peakOk = false ∧
        (u.chan k).peakTmo = satInc 255 c.peakTmo)) ∧
    (c.phase = .transition → c.phaseAt + p.tTrMax * ticksPerUs ≤ x ∨ cur ≤ p.iHold →
      Yields (.transitionEnd t k cur) s (fun u =>
        (u.chan k).phase = .steep ∧ (u.chan k).feedOn = true ∧ (u.chan k).dither = 0 ∧
        (u.chan k).phaseAt = (if c.phaseAt + p.tTrMax * ticksPerUs ≤ x then c.phaseAt + p.tTrMax * ticksPerUs else x))) ∧
    (running s k = true → c.offAt ≤ x → c.offAt ≤ c.start + c.ev.onMax * 80 →
      Yields (.turnOffInstant t k cur uj) s (fun u =>
        (u.chan k).phase = .turnOff ∧ (u.chan k).lastEnd = 1 ∧ (u.chan k).feedOn = false ∧
        (u.chan k).lastOff = some c.offAt ∧ (c.phase = .peak → (u.chan k).peakOk = decide (p.iPeak ≤ cur)))) ∧
    (c.phase = .turnOff → cur < 10 → Yields (.turnOffComplete t k cur) s (fun u =>
      (u.chan k).phase = .idle ∧ (u.chan k).idleAt = x ∧
      ((s.slot c.evSlot).state = .running → (s.slot c.evSlot).seq = c.ev.seq → (s.slot c.evSlot).ch = k.val →
        u.slot c.evSlot = if (s.slot c.evSlot).bad then { state := .quarantined } else {}) ∧
      ((s.slot c.evSlot).state = .quarantined → u.slot c.evSlot = s.slot c.evSlot)))) ∧
  (∀ (s : State) (t : Tick) (k : Fin 64), Alive s →
    let c := s.chan k
    let x := max s.etc t
    let driveOnly (u : State) := u = { s with
      now := max s.now t, etc := x, act := u.act, irc := { s.irc with line := u.irc.line, hold := u.irc.hold, quiet := u.irc.quiet } }
    (∀ cur : Nat, c.phase = .steep → Yields (.regulatorSwitch t k cur) s (fun u =>
      driveOnly u ∧ (u.chan k).current = min cur 8191 ∧
      (if c.switchAt + 250 * ticksPerNs ≤ x ∧
          ((c.feedOn = true ∧ setpointOf c + c.ev.copy.hyst < cur) ∨
            (c.feedOn = false ∧ (cur : Int) < setpointOf c - c.ev.copy.hyst))
        then (u.chan k).feedOn = !c.feedOn ∧ (u.chan k).switchAt = x
        else (u.chan k).feedOn = c.feedOn ∧ (u.chan k).switchAt = c.switchAt))) ∧
    (c.phase = .steep → Yields (.ditherStep t k) s (fun u =>
      driveOnly u ∧ u.chan k = { c with dither := ditherAt c.ev.copy (x - c.phaseAt) } ∧
      ∀ m, m ≠ k.val → u.chan m = s.chan m)) ∧
    (∀ v : Word, k.val < s.channels → Yields (.setpointWrite t k v) s (fun u =>
      driveOnly u ∧ u.chan k = { c with setpt := v.toNat % 2048 } ∧ ∀ m, m ≠ k.val → u.chan m = s.chan m)) ∧
    (∀ (q : Fin 16) (ext : Nat), 0 < ext → ext < 2 ^ 24 → k.val < s.channels →
      (extRefusal (s.advance t) q k ext = 0 → Yields (.extensionWrite t q k ext) s (fun u =>
        driveOnly u ∧ u.chan k = { c with ext := c.ext + ext, offAt := c.offAt + ext * 80, extRefused := false } ∧
        ∀ m, m ≠ k.val → u.chan m = s.chan m)) ∧
      (extRefusal (s.advance t) q k ext ≠ 0 → Yields (.extensionWrite t q k ext) s (fun u =>
        u.chan k = { c with
          extRefused := true, extWhy := extRefusal (s.advance t) q k ext, extRef := satInc 255 c.extRef } ∧
        u.irc.host.pend.getLsbD (48 + k.val) = true ∧ ∀ m, m ≠ k.val → u.chan m = s.chan m))))

/-- R331 to R334, R336, R363, R434: the limits end running profiles and raise their faults; the measured events of a
Kettle. -/
def Obligations.DriveLimitsAndKettles : Prop :=
  (∀ (s : State) (t : Tick), Alive s →
    (∀ (k : Fin 64) (cur : Nat), running s k = true → min ((s.chan k).ev.peakMax + 100) 3400 ≤ cur →
      Yields (.channelOvercurrent t k cur) s (fun u =>
        (u.chan k).phase = .turnOff ∧ (u.chan k).lastEnd = 3 ∧ (u.chan k).feedOn = false ∧ Occurred s u 76)) ∧
    (∀ (b : Fin 8) (sum : Nat), 4200 ≤ sum → b.val < s.banks → Yields (.bankOvercurrent t b sum) s (fun u =>
      (∀ j : Fin 8, running s (8 * b.val + j.val) = true →
        (u.chan (8 * b.val + j.val)).phase = .turnOff ∧ (u.chan (8 * b.val + j.val)).lastEnd = 4) ∧
      Occurred s u (64 + b.val))) ∧
    (∀ k : Fin 64, running s k = true → (s.chan k).start + (s.chan k).ev.onMax * 80 ≤ max s.etc t →
      (s.chan k).start + (s.chan k).ev.onMax * 80 < (s.chan k).offAt →
      Yields (.onMaxStop t k) s (fun u =>
        (u.chan k).phase = .turnOff ∧ (u.chan k).lastEnd = 2 ∧
        (u.chan k).lastOff = some ((s.chan k).start + (s.chan k).ev.onMax * 80) ∧ Occurred s u 77)) ∧
    (∀ (k : Fin 64) (m : OnStateMeas), running s k = true → k.val < s.channels →
      onCodeOf (s.advance t) k m ≠ 0 → Yields (.onStateFault t k m) s (fun u =>
        (u.chan k).phase = .turnOff ∧ (u.chan k).lastEnd = 9 ∧ (u.dch k).onFlt = true ∧
        (u.dch k).onCode = onCodeOf (s.advance t) k m ∧ (u.dch k).onFaults = satInc 255 (s.dch k).onFaults ∧
        Occurred s u (80 + k.val / 8)))) ∧
  (∀ (s : State) (t : Tick) (k : Fin 4) (v : Nat), Alive s → k.val < s.kettles →
    let q := s.kettle k
    (v < 616 → fallAllows (s.advance t) k v = true → Yields (.kettleLevelChange t k v) s (fun u =>
      (u.kettle k).volt = v ∧ (u.kettle k).dump = false ∧ (u.kettle k).target = q.target ∧
      (u.kettle k).state = (if s.flt.safe then .bleed else if q.faulted then .fault else ktLevel q.target v) ∧
      (u.kettle k).chgOn = ktCharges (u.kettle k).state q.target v q.chgOn)) ∧
    (616 ≤ v → fallAllows (s.advance t) k v = true → q.faulted = false →
      let faults (u : State) := (u.kettle k).volt = min v 1023 ∧ (u.kettle k).dump = true ∧ Occurred s u (72 + k.val) ∧
        ((u.kettle k).state = .fault ∨ (u.kettle k).state = .bleed)
      Yields (.kettleLevelChange t k v) s faults ∧ Yields (.kettleOvervoltage t k v) s faults) ∧
    (∀ d, q.state = .charging → q.faulted = false → q.deadline = some d → d ≤ max s.etc t → Yields (.kettleChargeDeadline t k) s (fun u =>
      Occurred s u (72 + k.val) ∧ ((u.kettle k).state = .fault ∨ (u.kettle k).state = .bleed))) ∧
    (capDue (s.advance t) k = true → Yields (.kettleCapacitanceMeasure t k v) s (fun u =>
      (u.kettle k).capUf = min v 1023 ∧ (u.kettle k).measuredAt = max s.etc t ∧
      u.bgs.capOor.getLsbD k = decide (v < 150 ∨ 264 < v))))

/-- R351, R355, R357 to R359, R361, R362, R364, R369: samples, the closing record and the end of a capture, where
memory changes only in the bank's trace buffer or in the record's 64 bytes; off-state tests start, give their result,
or are not run. -/
def Obligations.DiagnosticsCaptureAndTest : Prop :=
  (∀ (s : State) (t : Tick) (b : Fin 8) (c : Capture), Alive s → (s.dgt b).capture = some c →
    (∀ code : BitVec 12, sampleDue (s.advance t) b c = true → (s.dgt b).count < 1024 →
      Yields (.digitiserSample t b code) s (fun u =>
        (∃ c', (u.dgt b).capture = some c' ∧ c'.count = c.count + 1 ∧
          c'.hist = (code.toInt :: c.hist).take (2 ^ c.cfg.f + 2 * c.cfg.d + 1)) ∧
        (u.dgt b).count = (if c.count % 2 ^ (s.dgt b).dec = 0 then (s.dgt b).count + 1 else (s.dgt b).count) ∧
        (c.count % 2 ^ (s.dgt b).dec = 0 →
          u.memByte (0x600000 + 0x800 * b + 2 * (s.dgt b).count) = code.setWidth 8) ∧
        ∀ a, a < 0x600000 + 0x800 * b.val ∨ 0x600000 + 0x800 * b.val + 0x800 ≤ a → u.memByte a = s.memByte a)) ∧
    (∀ d, c.det = some d → c.written = false → Yields (.closingRecordWritten t b) s (fun u =>
      let base := 0x610000 + 64 * (s.dia.recWr % 1024)
      (∀ i, i < 64 → u.memByte (base + i) = (recordBytes s b c d s.dia.recWr).getD i 0) ∧
      (∀ a, a < base ∨ base + 64 ≤ a → u.memByte a = s.memByte a) ∧
      u.dia.recWr = wrapInc 32 s.dia.recWr ∧ (u.dgt b).capture = some { c with written := true } ∧
      u.dch c.ch = { s.dch c.ch with
        last := 1, disturbed := d.disturbed, kinks := wrapInc 16 (s.dch c.ch).kinks })) ∧
    (c.off + (c.cfg.winStart + c.cfg.winLen) * ticksPerUs ≤ max s.etc t → c.det = none →
      Yields (.captureEnd t b) s (fun u =>
        u.dgt b = { s.dgt b with
          capture := none, muxAt := some (c.off + (c.cfg.winStart + c.cfg.winLen) * ticksPerUs) } ∧
        u.dch c.ch = { s.dch c.ch with
          lastCapture := c.off + (c.cfg.winStart + c.cfg.winLen) * ticksPerUs
          last := 2, misses := satInc 255 (s.dch c.ch).misses } ∧ u.mem = s.mem))) ∧
  (∀ (s : State) (t : Tick) (k : Fin 64), Alive s →
    let h := s.dch k
    (h.test = none → h.offEn = true → testEligible (s.advance t) k = true →
      (∀ r, s.dia.lastRound = some r → r + ticksPerMs ≤ max s.etc t) →
      Yields (.offTestStart t) s (fun u =>
        u.dch k = { h with test := some (max s.etc t), testSingle := h.single.isSome, single := none } ∧
        u.dia.lastRound = some (max s.etc t))) ∧
    (∀ (x : Tick) (l : List (Nat × Nat)) (code : Nat), h.test = some x → x + 150 * ticksPerUs ≤ max s.etc t →
      offResult l = some code →
      let again := (code = 2 ∨ code = 3 ∨ code = 4) ∧ (h.testSingle = true ∨ h.prevOff = code)
      let confirmed := again ∧ h.confirmed ≠ code
      (¬ confirmed → Yields (.offTestComplete t k l) s (fun u =>
        (u.dch k).off = code ∧ (u.dch k).test = none ∧ (u.dch k).offFlt = (h.offFlt || decide again) ∧
        (u.dch k).offTests = wrapInc 16 h.offTests ∧ u.flt = s.flt ∧ ∀ m, m ≠ k.val → u.dch m = s.dch m)) ∧
      (confirmed → k.val < s.channels → Yields (.offTestComplete t k l) s (fun u =>
        (u.dch k).off = code ∧ (u.dch k).test = none ∧ (u.dch k).offFlt = true ∧ Occurred s u (80 + k.val / 8)))) ∧
    (∀ d, h.single = some d → d ≤ max s.etc t → Yields (.offTestNotRun t k) s (fun u =>
      u.dch k = { h with single := none, off := 6 } ∧ ∀ m, m ≠ k.val → u.dch m = s.dch m)))

/-- R371, R374, R377 to R379, R384: EB units are enabled and disabled, alone and together, and load their shadows. -/
def Obligations.EbStartsStopsAndLoads : Prop :=
  (∀ (s : State) (t : Tick) (n : Fin 8), Alive s →
    ((s.ebU n).en = false → hizCause s = false →
      Yields (.ebEnable t n) s (fun u =>
        (u.ebU n).en = true ∧ (u.ebU n).anchor = max s.etc t ∧ (u.ebU n).anchorCount = 0 ∧ (u.ebU n).down = false ∧
        (u.ebU n).hg = false ∧ (u.ebU n).lg = false ∧ (u.ebU n).updn = (s.ebU n).updnCtl ∧
        (u.ebU n).act = { (s.ebU n).shadow with dtMin := min (s.ebU n).shadow.dtMin (s.ebU n).shadow.dtMax } ∧
        (u.ebU n).armAt = none ∧ ∀ m, m ≠ n.val → u.ebU m = s.ebU m)) ∧
    Yields (.ebDisable t n) s (fun u =>
      (u.ebU n).en = false ∧ (u.ebU n).hg = false ∧ (u.ebU n).lg = false ∧ (u.ebU n).pendOn = none ∧
      ∀ m, m ≠ n.val → u.ebU m = s.ebU m)) ∧
  (∀ (s : State) (t : Tick), Alive s →
    (∀ n : Fin 8, Yields (.ebLoadArm t n) s (fun u =>
      u.ebU n = { s.ebU n with armAt := some ((s.ebU n).armAt.getD (max s.etc t)) } ∧
      ∀ m, m ≠ n.val → u.ebU m = s.ebU m)) ∧
    (∀ mask : Byte, Yields (.pwmGlbLoad t mask) s (fun u => ∀ n : Fin 8,
      u.ebU n = if mask.getLsbD n then { s.ebU n with armAt := some ((s.ebU n).armAt.getD (max s.etc t)) } else s.ebU n)) ∧
    (∀ mask : Byte, hizCause s = false → (∀ n : Fin 8, (s.ebU n).en = false) →
      Yields (.pwmGlbStart t mask) s (fun u => ∀ n : Fin 8,
        if mask.getLsbD n then (u.ebU n).en = true ∧ (u.ebU n).anchor = max s.etc t ∧ (u.ebU n).anchorCount = 0
        else u.ebU n = s.ebU n)) ∧
    (∀ (n : Fin 8) (v : Word), (s.ebU n).imm = false →
      let per := clampNat 100 16777215 (v.toNat % 16777216)
      let cmp := v.toNat % 16777216
      ((s.ebU n).en = false ∨ max s.etc t < ebBoundaryDue (s.ebU n) →
        Yields (.ebImmediateWrite t n .per v) s (fun u => u.ebU n = { s.ebU n with shadow.per := per }) ∧
        Yields (.ebImmediateWrite t n .cmp v) s (fun u => u.ebU n = { s.ebU n with shadow.cmp := cmp })) ∧
      ((s.ebU n).en = true → ebBoundaryDue (s.ebU n) ≤ max s.etc t → (s.ebU n).late = none →
        Yields (.ebImmediateWrite t n .per v) s (fun u =>
          u.ebU n = { s.ebU n with late := some { (s.ebU n).shadow with per := per } }) ∧
        Yields (.ebImmediateWrite t n .cmp v) s (fun u =>
          u.ebU n = { s.ebU n with late := some { (s.ebU n).shadow with cmp := cmp } }))) ∧
    (∀ (n : Fin 8) (v : Word), (s.ebU n).imm = true → (s.ebU n).en = true → (s.ebU n).updn = false →
      clampNat 100 16777215 (v.toNat % 16777216) ≤ ebCount (s.ebU n) (max s.etc t) →
      Yields (.ebImmediateWrite t n .per v) s (fun u =>
        (u.ebU n).boundary = max s.etc t ∧ (u.ebU n).anchor = max s.etc t ∧ (u.ebU n).anchorCount = 0 ∧
        (u.ebU n).flags.getLsbD 0 = true ∧ (u.ebU n).flags.getLsbD 1 = true)) ∧
    (∀ (n : Fin 8) (v : Word), (s.ebU n).imm = true → (s.ebU n).en = false →
      Yields (.ebImmediateWrite t n .per v) s (fun u =>
        u.ebU n = { s.ebU n with act.per := clampNat 100 16777215 (v.toNat % 16777216) }) ∧
      Yields (.ebImmediateWrite t n .cmp v) s (fun u =>
        u.ebU n = { s.ebU n with act.cmp := v.toNat % 16777216 })))

/-- R371, R372, R374, R377, R381 to R383: period boundaries, PER and CMP events and dead times of a running EB unit; a
trip is taken or held during blanking, taken at the end of blanking, and cleared or kept. -/
def Obligations.EbEventsAndTrips : Prop :=
  (∀ (s : State) (t : Tick) (n : Fin 8) (b : Bool), Alive s → (s.ebU n).en = true →
    (((s.ebU n).updn = false ∨ (s.ebU n).down = true) → ebBoundaryDue (s.ebU n) ≤ max s.etc t →
      Yields (.ebPeriodBoundary t n b) s (fun u =>
        (u.ebU n).boundary = ebBoundaryDue (s.ebU n) ∧ (u.ebU n).anchor = ebBoundaryDue (s.ebU n) ∧
        (u.ebU n).anchorCount = 0 ∧ (u.ebU n).down = false ∧ (u.ebU n).flags.getLsbD 0 = true ∧
        ((s.ebU n).updn = false → (u.ebU n).flags.getLsbD 1 = true) ∧
        (∀ a, (s.ebU n).armAt = some a → a < ebBoundaryDue (s.ebU n) →
          (u.ebU n).armAt = none ∧ (u.ebU n).act = { (s.ebU n).shadow with
            dtMin := min (s.ebU n).shadow.dtMin (s.ebU n).shadow.dtMax }) ∧
        ((∀ a, (s.ebU n).armAt = some a → ebBoundaryDue (s.ebU n) ≤ a) →
          (u.ebU n).armAt = (s.ebU n).armAt ∧ (u.ebU n).act = (s.ebU n).act))) ∧
    ((s.ebU n).updn = true → (s.ebU n).down = false →
      (s.ebU n).anchor + ((s.ebU n).act.per - (s.ebU n).anchorCount) * ticksPerNs ≤ max s.etc t →
      Yields (.ebPerEvent t n) s (fun u =>
        (u.ebU n).down = true ∧ (u.ebU n).anchorCount = (s.ebU n).act.per ∧
        (u.ebU n).anchor = (s.ebU n).anchor + ((s.ebU n).act.per - (s.ebU n).anchorCount) * ticksPerNs ∧
        (u.ebU n).flags.getLsbD 1 = true)) ∧
    (∀ x, ebCrossing (s.ebU n) = some x → x ≤ max s.etc t →
      Yields (.ebPhaseEdge t n b) s (fun u =>
        (u.ebU n).high = !(s.ebU n).high ∧ (u.ebU n).flags.getLsbD 2 = true)) ∧
    (∀ g e, (s.ebU n).pendOn = some (g, e) → (s.ebU n).act.adapt = false → e + (s.ebU n).act.dtMax * ticksPerNs ≤ max s.etc t →
      Yields (.ebDeadTimeEnd t n b) s (fun u =>
        (u.ebU n).pendOn = none ∧ (u.ebU n).hg = (g || (s.ebU n).hg) ∧ (u.ebU n).lg = (!g || (s.ebU n).lg) ∧
        (if g then (u.ebU n).dtRise else (u.ebU n).dtFall) = (s.ebU n).act.dtMax))) ∧
  (∀ (s : State) (t : Tick) (n : Fin 8) (j : Fin 4), Alive s →
    let v := s.ebU n
    let x := max s.etc t
    let tripped (u : State) := (u.ebU n).tripped = true ∧ (u.ebU n).hg = false ∧ (u.ebU n).lg = false ∧
      (u.ebU n).pendOn = none ∧ (u.ebU n).flags.getLsbD 3 = true ∧ (u.ebU n).trips = satInc 65535 v.trips
    (∀ held : Nat, tripEnabled s j = true → v.tripMask.getLsbD j = true → v.en = true → v.act.tripFilt * 10 ≤ held →
      (∀ b, v.blankEnd = some b → b ≤ x ∨ v.pendOn.isSome = true) →
      Yields (.tripAccept t n ⟨j, held⟩) s (fun u =>
        tripped u ∧ (u.ebU n).filtered.getLsbD j = true ∧ tripActive u j = true)) ∧
    (∀ held : Nat, tripEnabled s j = false ∨ held < v.act.tripFilt * 10 → Yields (.tripAccept t n ⟨j, held⟩) s (fun u =>
      u.ebU n = v ∧ tripActive u j = true)) ∧
    (∀ (held : Nat) (b : Tick), tripEnabled s j = true → v.tripMask.getLsbD j = true → v.en = true →
      v.act.tripFilt * 10 ≤ held → v.blankEnd = some b → x < b → v.pendOn = none →
      Yields (.tripAccept t n ⟨j, held⟩) s (fun u =>
        (u.ebU n).heldTrip = true ∧ (u.ebU n).tripped = v.tripped ∧ (u.ebU n).hg = v.hg ∧ (u.ebU n).lg = v.lg)) ∧
    (∀ b, v.blankEnd = some b → b ≤ x → v.heldTrip = true → v.en = true → v.filtered &&& v.tripMask ≠ 0 →
      Yields (.blankingEnd t n) s (fun u => tripped u ∧ (u.ebU n).blankEnd = none)) ∧
    (∀ b, v.blankEnd = some b → b ≤ x → v.heldTrip = false → Yields (.blankingEnd t n) s (fun u =>
      u.ebU n = { v with blankEnd := none })) ∧
    (v.tripped = true → v.filtered &&& v.tripMask ≠ 0 → Yields (.ebTripClear t n) s (fun u =>
      u.ebU n = { v with clrRef := satInc 255 v.clrRef })) ∧
    (v.tripped = true → v.filtered &&& v.tripMask = 0 → Yields (.ebTripClear t n) s (fun u =>
      u.ebU n = { v with tripped := false, clearOk := v.en })) ∧
    Yields (.tripInputRelease t j) s (fun u =>
      tripActive u j = false ∧ (∀ m, m < 8 → (u.ebU m).filtered.getLsbD j = false) ∧
      ∀ m, m < 8 → (u.ebU m).hg = (s.ebU m).hg ∧ (u.ebU m).tripped = (s.ebU m).tripped))

/-- R385 to R387, R398: the periods of a KC unit, its events and its triggers. -/
def Obligations.KcPeriodsAndTriggers : Prop :=
  (∀ (s : State) (t : Tick) (k : Fin 4) (per cmp : Nat), s.sys.mode = .run → s.supply.state ≠ .down →
    s.evs.pass = [] → s.evs.steps = none → kcMayRun s k = true →
    let q := s.kcU k
    q.running = true → q.cmpDone = false → 0 < q.cmp → q.cmp < q.per → q.boundary + q.per * ticksPerNs ≤ max s.etc t →
    Yields (.kcPeriodBoundary t k per cmp) s (fun u =>
      (u.kcU k).flags.getLsbD 0 = true ∧ (u.kcU k).flags.getLsbD 1 = true ∧ (u.kcU k).flags.getLsbD 2 = true)) ∧
  ∀ (s : State) (t : Tick) (k : Fin 4), Alive s →
    let q := s.kcU k
    let x := max s.etc t
    (∀ per cmp : Nat, kcMayRun s k = false → Yields (.kcPeriodBoundary t k per cmp) s (fun u =>
      u.kcU k = { q with running := false, per := 0, cmp := 0, cmpDone := true })) ∧
    (∀ per cmp : Nat, kcMayRun s k = true → per < 2 ^ 24 → cmp < 2 ^ 24 →
      q.running = false ∨ q.boundary + q.per * ticksPerNs ≤ x →
      Yields (.kcPeriodBoundary t k per cmp) s (fun u =>
        (u.kcU k).running = true ∧ (u.kcU k).per = per ∧
        (u.kcU k).cmp = (if (s.kettle k).chgOn then cmp else 0) ∧
        (u.kcU k).boundary = (if q.running then q.boundary + q.per * ticksPerNs else x) ∧
        (q.running = true → (u.kcU k).flags.getLsbD 0 = true ∧ (u.kcU k).flags.getLsbD 1 = true))) ∧
    (∀ (j : Fin 4) (code : BitVec 12),
      let g := q.trig.get {} j
      let b := 2 * k.val + g.bsel.toNat
      let at_ := q.boundary + q.per * g.frac / 65536 * ticksPerNs
      q.running = true → g.en = true → g.fired = false → at_ ≤ x → at_ < q.boundary + q.per * ticksPerNs →
      ((s.dgt b).capture = none → Yields (.kcTrigger t k j code) s (fun u =>
        ((u.kcU k).trig.get {} j).code = code ∧ ((u.kcU k).trig.get {} j).fired = true ∧
        ((u.kcU k).trig.get {} j).missed = false ∧ ((u.kcU k).trig.get {} j).tseq = wrapInc 16 g.tseq ∧
        (u.kcU k).flags.getLsbD (3 + j.val) = true ∧ (u.dgt b).mux = g.ch)) ∧
      ((s.dgt b).capture ≠ none → Yields (.kcTrigger t k j code) s (fun u =>
        ((u.kcU k).trig.get {} j).missed = true ∧ ((u.kcU k).trig.get {} j).fired = true ∧
        ((u.kcU k).trig.get {} j).misses = satInc 255 g.misses ∧
        ((u.kcU k).trig.get {} j).code = g.code ∧ u.dgt b = s.dgt b)))

/-- R389 to R392, R395: starts and stops of timers, alone and together; expiries, target writes and captures of a
timer that no other timer follows. -/
def Obligations.TimersRunExpireAndCapture : Prop :=
  (∀ (s : State) (t : Tick) (n : Fin 24), Alive s →
    let c := s.timer n
    let x := max s.etc t
    let started (m : Nat) : Timer := { s.timer m with
      run := (s.timer m).ctl, state := .running, start := x, count := 0, edges := 0, madeUp := false, unseen := false
      linkErr := false, lastEdge := none }
    let due (m : Nat) : Tick := (s.timer m).start + (s.timer m).target.toNat * tbNs (s.timer m).run.tb * ticksPerNs
    let early (m : Nat) := (s.timer m).state = .running → tbNs (s.timer m).run.tb ≠ 0 → x ≤ due m
    let others (u : State) := ∀ m, m ≠ n.val → u.timer m = s.timer m
    (early n → c.ctl.link = 0 ∨ (c.ctl.link = 2 ∧ c.ctl.master < n.val) → c.target ≠ 0 →
      (∀ m : Fin 24, ¬ ((s.timer m).ctl.link = 2 ∧ (s.timer m).ctl.master = n.val)) →
      Yields (.timerStart t n) s (fun u => u.timer n = started n ∧ others u)) ∧
    (early n → c.ctl.link = 1 → c.ctl.master < n.val → Yields (.timerStart t n) s (fun u =>
      u.timer n = { started n with state := .armed, start := c.start } ∧ others u)) ∧
    (early n → c.ctl.link ≠ 0 → n.val ≤ c.ctl.master → Yields (.timerStart t n) s (fun u =>
      u.timer n = { c with linkErr := true, state := .stopped } ∧ others u)) ∧
    (c.state = .running → tbNs c.run.tb = 0 ∨ x < due n → Yields (.timerStop t n) s (fun u =>
      u.timer n = { c with count := timCount c x, state := .stopped } ∧ others u)) ∧
    (c.state = .armed → Yields (.timerStop t n) s (fun u => u.timer n = { c with state := .stopped } ∧ others u)) ∧
    (c.state ≠ .running → c.state ≠ .armed → Yields (.timerStop t n) s (fun u => u.timer n = c ∧ others u)) ∧
    (∀ mask : BitVec 24, (∀ m : Fin 24, early m ∧ (s.timer m).ctl.link = 0 ∧ (s.timer m).target ≠ 0) →
      Yields (.timGlbStart t mask) s (fun u => ∀ m : Fin 24,
        u.timer m = if mask.getLsbD m then started m else s.timer m))) ∧
  (∀ (s : State) (t : Tick) (n : Fin 24), Alive s →
    let c := s.timer n
    let x := max s.etc t
    let due := c.start + c.target.toNat * tbNs c.run.tb * ticksPerNs
    let others (u : State) := ∀ m, m ≠ n.val → u.timer m = s.timer m
    (c.state = .running → tbNs c.run.tb ≠ 0 → due ≤ x →
      (∀ m : Fin 24, (s.timer m).run.link ≠ 1 ∧ (s.timer m).run.tb ≠ 6) →
      (Yields (.timerExpiry t n) s (fun u =>
        u.timer n = { c with state := .expired, exp := true, count := c.target.toNat, expAt := due } ∧ others u ∧
        (c.ieExp = true → u.irc.host.pend.getLsbD (144 + n.val) = true))) ∧
      Yields (.timerStop t n) s (fun u =>
        u.timer n = { c with state := .expired, exp := true, count := c.target.toNat, expAt := due } ∧ others u)) ∧
    (∀ v : Word, c.state ≠ .running ∨ ((tbNs c.run.tb = 0 ∨ x ≤ due) ∧ timCount c x < v.toNat) →
      Yields (.timerTargetWrite t n v) s (fun u => u.timer n = { c with target := v } ∧ others u)) ∧
    (∀ v : Word, c.state = .running → (tbNs c.run.tb = 0 ∨ x ≤ due) → v.toNat ≤ timCount c x →
      (∀ m : Fin 24, (s.timer m).run.link ≠ 1 ∧ (s.timer m).run.tb ≠ 6) → Yields (.timerTargetWrite t n v) s (fun u =>
        u.timer n = { c with target := v, state := .expired, exp := true, count := v.toNat, expAt := x } ∧ others u)) ∧
    (∀ (y : Tick) (r : Bool), capSelected s c.run.cap r = true → y + c.run.filt * ticksPerNs ≤ x →
      (∀ e, c.lastEdge = some e → e + c.run.filt * ticksPerNs ≤ y) →
      c.state = .running → tbNs c.run.tb ≠ 0 → y < due → c.run.capture = true →
      Yields (.captureEdge t n y r) s (fun u => others u ∧
        u.timer n = if (c.edges + 1) % c.run.ps ≠ 0 then { c with edges := c.edges + 1, lastEdge := some y }
          else { c with
            edges := c.edges + 1, lastEdge := some y
            capt := BitVec.ofNat 32 ((y - c.start) / (tbNs c.run.tb * ticksPerNs)), captEtc := y
            new := true, ovr := c.ovr || c.new
            start := if c.run.restart then y else c.start, count := if c.run.restart then 0 else c.count })) ∧
    (∀ (y : Tick) (r : Bool), capSelected s c.run.cap r = true → y + c.run.filt * ticksPerNs ≤ x →
      (∀ e, c.lastEdge = some e → e + c.run.filt * ticksPerNs ≤ y) →
      c.state = .running → c.run.tb = 5 → c.run.capture = false → c.count + 1 < c.target.toNat →
      Yields (.captureEdge t n y r) s (fun u =>
        u.timer n = { c with count := c.count + 1, lastEdge := some y } ∧ others u)) ∧
    (∀ (y e : Tick) (r : Bool), c.lastEdge = some e → y < e + c.run.filt * ticksPerNs →
      Yields (.captureEdge t n y r) s (fun u => u.tim = s.tim)))

/-- R371 to R395: a command of the PWM units or of the timers changes nothing outside them but the interrupt
controller, and a KC trigger the digitiser it uses. -/
def Obligations.PwmAndTimerFrames : Prop :=
  (∀ (s u : State) (t : Tick) (n : Fin 8) (k j : Fin 4) (b : Bool) (w : EbValue) (v : Word) (mask : Byte)
    (per cmp held : Nat) (code : BitVec 12), Alive s →
    (∀ c ∈ [.ebPeriodBoundary t n b, .ebPerEvent t n, .ebPhaseEdge t n b, .ebDeadTimeEnd t n b, .tripAccept t n ⟨j, held⟩,
        .blankingEnd t n, .ebEnable t n, .ebDisable t n, .ebLoadArm t n, .ebImmediateWrite t n w v, .ebTripClear t n,
        .pwmGlbLoad t mask, .pwmGlbStart t mask, .kcPeriodBoundary t k per cmp, .tripInputRelease t j],
      exec c s = .next u → u = { s with now := max s.now t, etc := max s.etc t, pwm := u.pwm, irc := u.irc, fresh := u.fresh }) ∧
    (exec (.kcTrigger t k j code) s = .next u →
      u = { s with now := max s.now t, etc := max s.etc t, pwm := u.pwm, irc := u.irc, dia := { s.dia with dg := u.dia.dg } })) ∧
  (∀ (s u : State) (t : Tick) (n : Fin 24) (v : Word) (mask : BitVec 24) (y : Tick) (r : Bool), Alive s →
    ∀ c ∈ [.timerStart t n, .timerStop t n, .timerTargetWrite t n v, .timGlbStart t mask, .timerExpiry t n,
        .captureEdge t n y r],
      exec c s = .next u → u = { s with now := max s.now t, etc := max s.etc t, tim := u.tim, irc := u.irc })

/-- R42, R43, R44, R51, R52, R54: the supply inputs' judgements and the supply states. -/
def Obligations.SupplyStates : Prop :=
  ∀ (s : State) (t : Tick), Alive s →
    let x := max s.now t
    (∀ (j : SupplyInput) (th : Threshold) (up : Bool) (mv : Nat), Yields (.supplyThresholdCrossing t j th up mv) s (fun u =>
      u.input j = { s.input j with
        millivolt := mv
        crossing := if ((th = .uvRising ∨ th = .ovRising) ↔ up = true) then some (x, th) else none } ∧
      (∀ k, k ≠ j → u.input k = s.input k) ∧
      (s.supply.state = .main → s.supply.vmain.good = false → failing s.supply.vbak = true → j = .vbak →
        failing u.supply.vbak = false → u.supply.state = .backup) ∧
      (s.supply.state ≠ .main ∨ s.supply.vmain.good = true ∨ failing s.supply.vbak = false ∨ j = .vmain →
        u.supply.state = s.supply.state))) ∧
    (∀ (j : SupplyInput) (t0 : Tick) (th : Threshold), (s.input j).crossing = some (t0, th) →
      t0 + 200 * ticksPerNs ≤ x → Yields (.supplyJudgement t j) s (fun u =>
        (u.input j).crossing = none ∧ (u.input j).good = decide (th = .uvRising ∨ th = .ovFalling) ∧
        (u.input j).overvolt = decide (th = .ovRising) ∧ (∀ k, k ≠ j → u.input k = s.input k) ∧
        (s.supply.state = .main → j = .vmain → th = .uvFalling → failing s.supply.vbak = false → u.supply.state =
          if s.supply.vbak.good then .backup else if s.supply.storeCharged then .holdup else .down) ∧
        (s.supply.state = .main → s.supply.vmain.good = false → j = .vbak → th = .uvFalling → u.supply.before = .main ∧
          u.supply.state = if s.supply.storeCharged then .holdup else .down))) ∧
    (s.supply.state = .backup → s.supply.vmain.good = true → s.supply.vmain.goodSince + 100 * ticksPerMs ≤ x →
      Yields (.supplyDebounceExpiry t) s (fun u => u.supply.state = .main ∧ u.supply.before = .backup)) ∧
    (s.supply.state = .holdup → s.supply.vmain.good = true → s.supply.vmain.goodSince + ticksPerMs ≤ x →
      Yields (.holdupRecoveryExpiry t) s (fun u =>
        u.supply.state = .main ∧ u.supply.sensorsOff = false ∧ u.supply.holdupSteps = 0)) ∧
    (s.supply.state = .holdup → s.supply.vmain.good = false → s.supply.vbak.good = true →
      s.supply.vbak.goodSince + ticksPerMs ≤ x → Yields (.holdupRecoveryExpiry t) s (fun u =>
        u.supply.state = .backup ∧ u.supply.sensorsOff = false ∧ u.supply.holdupSteps = 0)) ∧
    (s.supply.state = .holdup → Yields (.holdupStoreExhausted t) s (fun u =>
      u.supply.state = .down ∧ (∀ n, n < 8 → (u.ebU n).en = false ∧ (u.ebU n).hg = false ∧ (u.ebU n).lg = false) ∧
      (∀ k, k < 64 → running u k = false) ∧ ∀ k, k < s.kettles → (u.kettle k).state = .bleed ∧ (u.kettle k).chgW = 0)) ∧
    Yields (.holdupStoreCharged t) s (fun u => u.supply = { s.supply with
      storeCharged := true, storeMv := 36000, storeFull := u.supply.storeFull })

/-- R33, R57, R63, R69, R72, R73, R241, R333: ENABLE going off ends every running profile, withdraws every committed
event and switches the bridge gates off, and going on changes no channel; measured temperatures and the sensor
supplies; loss and return of the reference. -/
def Obligations.EnableThermalAndReference : Prop :=
  (∀ (s : State) (t : Tick), Alive s →
    (s.supply.enable = true → Yields (.enableChange t false) s (fun u =>
      u.supply.enable = false ∧
      (∀ k, k < 64 → running s k = true → (u.chan k).phase = .turnOff ∧ (u.chan k).lastEnd = 8) ∧
      (∀ k, k < 64 → running u k = false) ∧
      (∀ n, n < 8 → (u.ebU n).en = false ∧ (u.ebU n).hg = false ∧ (u.ebU n).lg = false) ∧
      u.irc.host.pend.getLsbD 2 = true)) ∧
    (s.supply.enable = false → Yields (.enableChange t true) s (fun u =>
      u.supply = { s.supply with enable := true } ∧ u.act.ch = s.act.ch ∧ u.evs = s.evs ∧
      u.irc.host.pend.getLsbD 2 = true))) ∧
  (∀ (s : State) (t : Tick), Alive s →
    (∀ (d : ThermalDomain) (c : Int), domainIdx d < 8 + s.kettles → (domainIdx d < 8 → domainIdx d < s.banks) →
      heatLevel c ≠ s.supply.heat.get 0 (domainIdx d) → Yields (.thermalThreshold t d c) s (fun u =>
        u.supply.heat.get 0 (domainIdx d) = (if 165 ≤ c then 3 else if 150 ≤ c then 2 else if 135 ≤ c then 1 else 0) ∧
        (165 ≤ c → s.flt.cond.getLsbD 5 = false → Occurred s u 5))) ∧
    (∀ (k : Fin 4) (tenths : Int), k.val < s.kettles → derated tenths ≠ derate s k →
      Yields (.thermalDeratingChange t k tenths) s (fun u =>
        derate u k = derated tenths ∧ u.irc.host.pend.getLsbD 4 = true)) ∧
    (∀ r : SensorRail, s.supply.sensorsOff = false → railBad s r = false → s.flt.cond.getLsbD (railFault r) = false →
      Yields (.sensorSupplyFault t r) s (fun u => railBad u r = true ∧ Occurred s u (railFault r))) ∧
    (∀ r : SensorRail, railBad s r = true → Yields (.sensorSupplyRecovery t r) s (fun u =>
      railBad u r = false ∧ u.flt.cond.getLsbD (railFault r) = false ∧ u.flt.sticky = s.flt.sticky))) ∧
  (∀ (s : State) (t : Tick), Alive s →
    let x := max s.etc t
    (s.ruler.phase = .locked ∨ s.ruler.phase = .relocking → s.flt.cond.getLsbD 1 = false →
      Yields (.referenceLoss t) s (fun u =>
        u.ruler = { s.ruler with phase := .holdover, lossAt := x, refPresent := false } ∧ Occurred s u 1)) ∧
    (s.ruler.phase = .holdover → s.ruler.tooLong = false → s.ruler.lossAt + 10 * ticksPerMs ≤ x →
      s.flt.cond.getLsbD 2 = false → Yields (.holdoverExpiry t) s (fun u =>
        u.ruler = { s.ruler with tooLong := true } ∧ Occurred s u 2)) ∧
    (s.ruler.phase = .holdover → Yields (.referenceReturn t) s (fun u =>
      u.ruler = { s.ruler with
        phase := .relocking, refPresent := true, lastHoldoverUs := (x - s.ruler.lossAt) / ticksPerUs } ∧
      u.flt.cond.getLsbD 1 = false)) ∧
    (s.ruler.phase = .relocking → Yields (.relockComplete t) s (fun u =>
      u.ruler = { s.ruler with
        phase := .locked, refPresent := true, tooLong := false, relocks := satInc 255 s.ruler.relocks } ∧
      u.flt.cond.getLsbD 2 = false)))

/-- R68, R457 to R459, R465 to R468: the reset sequence from the start of the reference to the end of step 4, RESET_N
and the RESET command's delay; the requests for STANDBY and SLEEP, refused or granted. -/
def Obligations.ResetsAndPowerRequests : Prop :=
  (∀ (s : State) (t : Tick), s.supply.state ≠ .down →
    (s.sys.mode = .reset → s.sys.seqDone = false → s.ruler.refPresent = false →
      Yields (.referenceStarted t) s (fun u =>
        u.ruler = { s.ruler with refPresent := true, phase := .locking } ∧ u.sys.step = max 2 s.sys.step ∧
        u.sys.mode = .reset)) ∧
    (∀ r : StepResult, s.sys.mode = .reset → s.sys.seqDone = false → s.ruler.refPresent = true → s.sys.step = 2 →
      r.failed &&& 0x7F = 0 → Yields (.resetStepComplete t r) s (fun u =>
        u.sys.step = 4 ∧ u.sys.phase = 1 ∧ u.sys.selftest = r.failed ∧ u.ruler.phase = .locked)) ∧
    (∀ r : StepResult, s.sys.mode = .reset → s.sys.seqDone = false → s.ruler.refPresent = true → s.sys.step = 2 →
      r.failed.getLsbD 0 = true → Yields (.resetStepComplete t r) s (fun u =>
        u.sys.seqDone = true ∧ u.sys.phase = 5 ∧ u.sys.linksUp = false ∧ u.sys.mode = .reset)) ∧
    (∀ ns : Nat, ns < 2000 → Alive s → Yields (.resetNPulse t ns) s (fun u =>
      u = { s with
        now := max s.now t, etc := max s.etc t, irc := { s.irc with line := u.irc.line, hold := u.irc.hold, quiet := u.irc.quiet } })) ∧
    (∀ ns : Nat, 10000 ≤ ns → Yields (.resetNPulse t ns) s (fun u =>
      u.sys.mode = .reset ∧ u.sys.step = 0 ∧ u.sys.rstCause = 2 ∧ u.sys.running = none ∧ u.flt.safe = false ∧
      u.whl.sync = .nosync ∧ u.mem = {} ∧ u.evs = {} ∧ u.seq = {} ∧ u.pending = s.pending ∧
      ∀ k, k < 64 → (u.chan k).phase = .idle ∧ (u.chan k).shots = (s.chan k).shots)) ∧
    (∀ ns : Nat, 2000 ≤ ns → ns < 10000 → exec (.resetNPulse t ns) s = .fault .undefinedResetPulse) ∧
    (∀ d, s.sys.mode = .run → s.sys.resetDue = some d → d ≤ max s.etc t → Yields (.resetCommandDelayExpiry t) s (fun u =>
      u.sys.mode = .reset ∧ u.sys.step = 0 ∧ u.sys.rstCause = 3 ∧ u.nv.starts = wrapInc 32 s.nv.starts ∧
      u.etc = max s.etc t))) ∧
  (∀ (s : State) (t : Tick), Alive s → s.sys.wakePending = 0 →
    (standbyRefusal s ≠ 0 → Yields (.standbyRequest t) s (fun u => u.sys = { s.sys with refuse := standbyRefusal s } ∧
      u.act = s.act ∧ u.pwm = s.pwm)) ∧
    (standbyRefusal s = 0 → Yields (.standbyRequest t) s (fun u =>
      u.sys = { s.sys with mode := .standby, standbyAt := some (max s.etc t), wakePending := 0 } ∧
      ∀ k, k < s.kettles → (u.kettle k).chgW = 0)) ∧
    (sleepRefusal s ≠ 0 → Yields (.sleepRequest t) s (fun u => u.sys = { s.sys with refuse := sleepRefusal s })) ∧
    (sleepRefusal s = 0 → s.sys.wakeEn.getLsbD 6 = false → Yields (.sleepRequest t) s (fun u => u.sys.mode = .entering ∧ u.sys.before = .run)) ∧
    (∀ x, s.sys.stallAt = some x → s.sys.autoStby ≠ 0 → x + s.sys.autoStby * ticksPerS ≤ max s.etc t →
      standbyRefusal s = 0 → Yields (.autoStandby t) s (fun u =>
        u.sys = { s.sys with mode := .standby, stallAt := none, standbyAt := some (max s.etc t), wakePending := 0 })))

/-- R467, R468, R469: automatic sleep, the end of the passage to SLEEP, and the returns to RUN. -/
def Obligations.SleepAndWake : Prop :=
  ∀ (s : State) (t : Tick), s.supply.state ≠ .down → timeIdle s = true →
    (∀ x, s.sys.mode = .standby → s.sys.standbyAt = some x → s.sys.autoSlp ≠ 0 → s.sys.wakePending = 0 →
      x + s.sys.autoSlp * ticksPerS ≤ max s.etc t → sleepRefusal s = 0 → s.sys.wakeEn.getLsbD 6 = false →
      Yields (.autoSleep t) s (fun u => u.sys.mode = .entering ∧ u.sys.before = .standby)) ∧
    (s.sys.mode = .entering → s.sys.wakePending = 0 → sleepReady s = true → Yields (.sleepEntryComplete t) s (fun u =>
      u.sys.mode = .sleep ∧ u.sys.sleeps = wrapInc 16 s.sys.sleeps ∧ u.sys.sleptAt = max s.etc t ∧
      u.sleepBase = max s.etc t ∧ u.supply.sensorsOff = true ∧ u.ruler.refPresent = false)) ∧
    (s.sys.mode = .standby → s.sys.wakePending ≠ 0 → Yields (.standbyWake t) s (fun u =>
      u.sys.mode = .run ∧ u.sys.wakeSrc = s.sys.wakePending ∧ u.sys.wakePending = 0 ∧
      u.seq.runSince = max s.etc t)) ∧
    (s.sys.mode = .waking → s.sys.wakePending ≠ 0 → Yields (.sleepWake t none) s (fun u =>
      u.sys.mode = .run ∧ s.sys.wakePending &&& ~~~u.sys.wakeSrc = 0 ∧ u.sys.wakePending = 0 ∧
      u.ruler.phase = .locked))

/-- R403, R406, R407: claims and completions at one target change that target alone, and nothing outside the interrupt
controller. -/
def Obligations.InterruptClaims : Prop :=
  ∀ (s : State) (t : Tick) (g : IrqTarget) (src : Byte), Alive s →
    let x := s.target g
    let n := if src = 0 then best s x else if deliverable s x src.toNat then src.toNat else 0
    let only (u : State) := (∀ h, h ≠ g → u.target h = s.target h) ∧ u = { s with now := max s.now t, etc := max s.etc t, irc := u.irc }
    let refused : IrcTarget := { x with ccRef := true, refused := satInc 65535 x.refused }
    (n ≠ 0 → Yields (.irqClaim t g src) s (fun u => only u ∧ u.target g = { x with
      pend := x.pend &&& ~~~(BitVec.twoPow 256 n), act := x.act ||| BitVec.twoPow 256 n
      recLevel := x.recLevel.set 0 n (s.level n), claimed := n, ccRef := false })) ∧
    (n = 0 → Yields (.irqClaim t g src) s (fun u => only u ∧ u.target g = { refused with claimed := 0 })) ∧
    (src ≠ 0 → x.act.getLsbD src.toNat = true → Yields (.irqComplete t g src) s (fun u => only u ∧ u.target g = { x with
      act := x.act &&& ~~~(BitVec.twoPow 256 src.toNat), recLevel := x.recLevel.set 0 src.toNat 0, ccRef := false })) ∧
    (src = 0 ∨ x.act.getLsbD src.toNat = false → Yields (.irqComplete t g src) s (fun u => only u ∧
      u.target g = refused)) ∧
    (∀ h, s.irc.hold = some h → s.irc.line = false → h.release + s.irc.modUs * ticksPerUs ≤ max s.etc t →
      Yields (.moderationHoldEnd t) s (fun u =>
        u.irc.hold = none ∧ u.irc.line = decide (best s s.irc.host ≠ 0) ∧ u.irc.host = s.irc.host ∧
        u.irc.mgmt = s.irc.mgmt ∧ u = { s with now := max s.now t, etc := max s.etc t, irc := u.irc }))

/-- R412, R413, R414, R417, R418: an occurrence of a fault source is recorded and has the reaction of its class. -/
def Obligations.FaultReactions : Prop :=
  ∀ (s : State) (t : Tick), Alive s →
    let x := max s.etc t
    let reacts (n : Nat) (u : State) :=
      Occurred s u n ∧ u.flt.last.etc = x ∧ u.irc.host.pend.getLsbD 248 = true ∧
      u.flt.first = (if s.flt.first.valid then s.flt.first else u.flt.last) ∧
      (s.flt.safe = true ∨ s.faultClass n = 0 →
        u.flt.safe = s.flt.safe ∧ u.flt.pend = s.flt.pend ∧ u.flt.grace = s.flt.grace ∧ u.evs = s.evs ∧ u.act = s.act) ∧
      (s.flt.safe = false → s.faultClass n = 1 →
        u.flt.safe = false ∧ u.flt.pend = s.flt.pend ||| BitVec.twoPow 96 n ∧
        u.flt.grace = some (s.flt.grace.getD (x + s.graceUs * ticksPerUs)) ∧ u.evs = s.evs ∧ u.act = s.act) ∧
      (s.flt.safe = false → 2 ≤ s.faultClass n →
        u.flt.safe = true ∧ u.flt.safeSrc = n ∧ u.flt.safeGrace = false ∧ u.flt.safeEtc = x ∧ u.flt.grace = none ∧
        u.irc.host.pend.getLsbD 251 = true ∧ SafeLeaves s u)
    Yields (.handshakeStall t) s (reacts 23) ∧ Yields (.mgmtCoreStall t) s (reacts 22) ∧
    (s.flt.wdt.timeout ≠ 0 → s.flt.wdt.since + s.flt.wdt.timeout * ticksPerMs ≤ x →
      Yields (.watchdogTimeout t) s (reacts 0))

/-- R415, R420: the grace deadline leads to SAFE; an acknowledgement before it clears the bits written and, with the
last pending fault, stops the timer; an accepted watchdog service restarts the count and moves the token, a bad one is
a fault, and the warning comes at three quarters of the time. The token's next value is left open (DESIGN CHOICE, log 15). -/
def Obligations.AcknowledgementAndWatchdog : Prop :=
  (∀ (s : State) (t : Tick), Alive s →
    (∀ d, s.flt.safe = false → s.flt.grace = some d → d ≤ max s.etc t → s.flt.pend ≠ 0 →
      Yields (.graceDeadline t) s (fun u =>
        u.flt.safe = true ∧ u.flt.safeGrace = true ∧ u.flt.safeEtc = max s.etc t ∧ u.flt.grace = none ∧
        s.flt.pend.getLsbD u.flt.safeSrc = true ∧ (∀ m, m < u.flt.safeSrc → s.flt.pend.getLsbD m = false) ∧
        SafeLeaves s u)) ∧
    (∀ (w : Fin 3) (mask : Word), (∀ d, s.flt.grace = some d → max s.etc t < d) →
      let m : BitVec 96 := mask.setWidth 96 <<< (32 * w.val)
      Yields (.faultAcknowledge t w mask) s (fun u =>
        u.flt = { s.flt with
          sticky := s.flt.sticky &&& ~~~m, pend := s.flt.pend &&& ~~~m
          grace := if s.flt.pend &&& ~~~m = 0 then none else s.flt.grace } ∧
        (s.flt.grace ≠ none → s.flt.pend &&& ~~~m = 0 → u.irc.host.pend.getLsbD 250 = true) ∧
        u.evs = s.evs ∧ u.act = s.act))) ∧
  (∀ (s : State) (t : Tick), Alive s → s.flt.wdt.timeout ≠ 0 →
    let w := s.flt.wdt
    let x := max s.etc t
    (∀ v : BitVec 16, v = ~~~w.token →
      (∀ y, w.service = some y → w.window * (w.timeout * ticksPerMs) ≤ 256 * (x - y)) →
      Yields (.watchdogService t v) s (fun u =>
        u.flt = { s.flt with wdt := { w with
          since := x, warned := false, service := some x, bad := false, token := Config.nextToken s.fresh } } ∧
        u.fresh = s.fresh + 1)) ∧
    (∀ v : BitVec 16, v ≠ ~~~w.token → Yields (.watchdogService t v) s (fun u =>
      u.flt.wdt = { w with since := x, warned := false, bad := true } ∧ Occurred s u 0)) ∧
    (w.warned = false → 3 * (w.timeout * ticksPerMs) ≤ 4 * (x - w.since) → Yields (.watchdogWarning t) s (fun u =>
      u.flt = { s.flt with wdt := { w with warned := true } } ∧ u.irc.host.pend.getLsbD 252 = true)))

/-- R265, R266: the integer instructions write their result, advance the pc, set C and V where they are sums or
differences, and leave everything else as the issue leaves it. -/
def Obligations.AngleIntegerResults : Prop :=
  ∀ (s : State) (t : Tick) (j : Issue) (i : Nat) (x : AInstr), Issues s j i x →
    let c := issued s t i
    let A := (s.ctx i).reg x.a
    let B := (s.ctx i).reg x.b
    let I : Word := BitVec.ofNat 32 (x.imm % 262144)
    let S : Word := (BitVec.ofNat 18 x.imm).signExtend 32
    let gives (k : Instr) (v : Word) := Yields k s (Leaves s t i (c.wrote x.d v))
    let sums (k : Instr) (v : Word) (cy : Bool) (r : Int) := Yields k s (Leaves s t i
      ({ c with c := cy, v := decide (r < -2147483648 ∨ 2147483648 ≤ r) }.wrote x.d v))
    (x.op = .add → sums (.add t j) (A + B) (decide (4294967296 ≤ A.toNat + B.toNat)) (A.toInt + B.toInt)) ∧
    (x.op = .sub → sums (.sub t j) (A - B) (decide (B.toNat ≤ A.toNat)) (A.toInt - B.toInt)) ∧
    (x.op = .addc → sums (.addc t j) (A + B + BitVec.ofNat 32 (s.ctx i).c.toNat)
      (decide (4294967296 ≤ A.toNat + B.toNat + (s.ctx i).c.toNat)) (A.toInt + B.toInt + (s.ctx i).c.toNat)) ∧
    (x.op = .subc → sums (.subc t j) (A - B - BitVec.ofNat 32 (!(s.ctx i).c).toNat)
      (decide (B.toNat + (!(s.ctx i).c).toNat ≤ A.toNat)) (A.toInt - B.toInt - (!(s.ctx i).c).toNat)) ∧
    (x.op = .addi → sums (.addi t j) (A + S) (decide (4294967296 ≤ A.toNat + S.toNat)) (A.toInt + S.toInt)) ∧
    (x.op = .and → gives (.and t j) (A &&& B)) ∧ (x.op = .or → gives (.or t j) (A ||| B)) ∧
    (x.op = .xor → gives (.xor t j) (A ^^^ B)) ∧
    (x.op = .shl → gives (.shl t j) (A <<< (B.toNat % 32))) ∧
    (x.op = .shr → gives (.shr t j) (A >>> (B.toNat % 32))) ∧
    (x.op = .sar → gives (.sar t j) (A.sshiftRight (B.toNat % 32))) ∧
    (x.op = .mul → gives (.mul t j) (A * B)) ∧
    (x.op = .mulhu → gives (.mulhu t j) (BitVec.ofNat 32 (A.toNat * B.toNat / 4294967296))) ∧
    (x.op = .mulhs → gives (.mulhs t j) (BitVec.ofInt 32 (A.toInt * B.toInt / 4294967296))) ∧
    (x.op = .divu → gives (.divu t j) (if B = 0 then 0xFFFFFFFF else BitVec.ofNat 32 (A.toNat / B.toNat))) ∧
    (x.op = .remu → gives (.remu t j) (if B = 0 then A else BitVec.ofNat 32 (A.toNat % B.toNat))) ∧
    (x.op = .slt → gives (.slt t j) (if A.toInt < B.toInt then 1 else 0)) ∧
    (x.op = .sltu → gives (.sltu t j) (if A.toNat < B.toNat then 1 else 0)) ∧
    (x.op = .andi → gives (.andi t j) (A &&& I)) ∧ (x.op = .ori → gives (.ori t j) (A ||| I)) ∧
    (x.op = .xori → gives (.xori t j) (A ^^^ I)) ∧
    (x.op = .shli → gives (.shli t j) (A <<< x.imm)) ∧ (x.op = .shri → gives (.shri t j) (A >>> x.imm)) ∧
    (x.op = .sari → gives (.sari t j) (A.sshiftRight x.imm)) ∧
    (x.op = .lui → gives (.lui t j) (BitVec.ofNat 32 (x.imm * 1024)))

/-- R267: branches, jumps, and JR outside a fault handler. -/
def Obligations.AngleBranchesAndJumps : Prop :=
  ∀ (s : State) (t : Tick) (j : Issue) (i : Nat) (x : AInstr), Issues s j i x →
    let c := issued s t i
    let A := (s.ctx i).reg x.a
    let B := (s.ctx i).reg x.b
    let target : BitVec 16 := c.pc + 1 + ((BitVec.ofNat 18 x.imm).signExtend 32).setWidth 16
    let branches (k : Instr) (p : Prop) [Decidable p] :=
      Yields k s (Leaves s t i { c with pc := if p then target else c.pc + 1 })
    (x.op = .beq → branches (.beq t j) (A = B)) ∧ (x.op = .bne → branches (.bne t j) (A ≠ B)) ∧
    (x.op = .blt → branches (.blt t j) (A.toInt < B.toInt)) ∧
    (x.op = .bge → branches (.bge t j) (B.toInt ≤ A.toInt)) ∧
    (x.op = .bltu → branches (.bltu t j) (A.toNat < B.toNat)) ∧
    (x.op = .bgeu → branches (.bgeu t j) (B.toNat ≤ A.toNat)) ∧
    (x.op = .bf → x.a < 6 ∧ branches (.bf t j)
      ((if x.a / 2 = 0 then c.c else if x.a / 2 = 1 then c.v else c.q) = decide (x.a % 2 = 0))) ∧
    (x.op = .jmp → Yields (.jmp t j) s (Leaves s t i { c with pc := BitVec.ofNat 16 x.imm })) ∧
    (x.op = .jal → Yields (.jal t j) s (Leaves s t i
      { c.setReg x.d ((c.pc + 1).setWidth 32) with pc := BitVec.ofNat 16 x.imm })) ∧
    (x.op = .jr → (s.ctx i).fh = false → Yields (.jr t j) s (Leaves s t i { c with pc := A.setWidth 16 }))

/-- R266, R302, R313: loads from memory write a register and stores to data memory write their bytes, little-endian;
every other byte of memory reads as before. -/
def Obligations.AngleLoadsAndStores : Prop :=
  ∀ (s : State) (t : Tick) (j : Issue) (i : Nat) (x : AInstr), Issues s j i x → j.data = .clean →
    let c := issued s t i
    let a := ((s.ctx i).reg x.a + (BitVec.ofNat 18 x.imm).signExtend 32).toNat
    let V := ((s.ctx i).reg x.d).toNat
    let reads (n : Nat) := a < 0x1000000 ∧ admitted (s.taskOf i).segs .load a n = true ∧ a % n = 0 ∧ 0x10000 ≤ a ∧
      isBad s (a / 4 * 4) = false
    let loads (k : Instr) (n : Nat) := reads n → Yields k s (Leaves s t i (c.wrote x.d
      (BitVec.ofNat 32 ((readWord s (a / 4 * 4)).toNat / 2 ^ (8 * (a % 4)) % 2 ^ (8 * n)))))
    let patches (r : Right) (n : Nat) := admitted (s.taskOf i).segs r a n = true ∧ a % n = 0 ∧ regionOf a = .data ∧
      isBad s (a / 4 * 4) = false
    let stores (k : Instr) (r : Right) (n : Nat) := patches r n → Yields k s (fun u =>
      u.ctx i = { c with pc := c.pc + 1 } ∧
      (∀ b, b < n → u.memByte (a + b) = BitVec.ofNat 8 (V / 2 ^ (8 * b))) ∧
      (∀ b, b < a ∨ a + n ≤ b → u.memByte b = s.memByte b) ∧
      u = { s with
        now := max s.now t, etc := max s.etc t, seq := u.seq, mem := u.mem
        irc := { s.irc with line := u.irc.line, hold := u.irc.hold, quiet := u.irc.quiet } })
    (x.op = .ld → loads (.ld t j) 4) ∧ (x.op = .ldh → loads (.ldh t j) 2) ∧ (x.op = .ldb → loads (.ldb t j) 1) ∧
    (x.op = .st → stores (.st t j) .store 4) ∧ (x.op = .sth → stores (.sth t j) .patch 2) ∧
    (x.op = .stb → stores (.stb t j) .patch 1)

/-- R271 to R277: scheduler requests and waits park their context, or complete at once where the rules say so. -/
def Obligations.AngleRequestsPark : Prop :=
  ∀ (s : State) (t : Tick) (j : Issue) (i : Nat) (x : AInstr), Issues s j i x →
    let c := issued s t i
    let A := (s.ctx i).reg x.a
    let B := (s.ctx i).reg x.b
    let parks (k : Instr) (w : Wait) := Yields k s (Leaves s t i { c with pc := c.pc + 1, state := .parked, wait := w })
    (x.op = .sched → parks (.sched t j)
      (.insertion x.d x.b A ((s.ctx i).reg (x.a + 1)) ((s.ctx i).reg (x.a + 2)))) ∧
    (x.op = .aim → parks (.aim t j) (.aim x.d A ((s.ctx i).reg (x.a + 1)) ((s.ctx i).reg (x.a + 2)))) ∧
    (x.op = .cancel → parks (.cancel t j) (.cancel x.d A)) ∧
    (x.op = .waitt → max s.etc t < A.toNat + B.toNat * 4294967296 →
      parks (.waitt t j) (.instant x.d (A.toNat + B.toNat * 4294967296))) ∧
    (x.op = .waitt → A.toNat + B.toNat * 4294967296 ≤ max s.etc t →
      Yields (.waitt t j) s (Leaves s t i (c.wrote x.d 0))) ∧
    (x.op = .waite → s.latchBits i &&& A.setWidth 6 = 0#6 → ¬ (A.setWidth 6 = 0#6 ∧ B = 0) →
      parks (.waite t j) (.latch x.d (A.setWidth 6) (max s.etc t) B.toNat)) ∧
    (x.op = .waite → s.latchBits i &&& A.setWidth 6 ≠ 0#6 → Yields (.waite t j) s (Leaves s t i
      ({ c with latches := c.latches &&& ~~~(s.latchBits i &&& A.setWidth 6) }.wrote x.d
        ((s.latchBits i &&& A.setWidth 6).setWidth 32)))) ∧
    (x.op = .waita → 2 * s.nTeeth ≤ A.toNat / 4096 → Yields (.waita t j) s (Leaves s t i (c.wrote x.d 5))) ∧
    (x.op = .waita → A.toNat / 4096 < 2 * s.nTeeth → positioned s.whl.sync = false →
      Yields (.waita t j) s (Leaves s t i (c.wrote x.d 3))) ∧
    (∀ l, x.op = .waita → A.toNat / 4096 < 2 * s.nTeeth → positioned s.whl.sync = true →
      lensLin (s.advance t) = some l → 0 < fwdDist (2 * s.nTeeth * 4096) l A.toNat →
      2 * fwdDist (2 * s.nTeeth * 4096) l A.toNat < 2 * s.nTeeth * 4096 →
      parks (.waita t j) (.angle x.d A (max s.etc t) B.toNat))

/-- R268, R269, R280, R281, R284, R298: the instructions on angles, snapshots, the mailbox, closing records and the
flow of tasks. -/
def Obligations.AngleStateInstructions : Prop :=
  ∀ (s : State) (t : Tick) (j : Issue) (i : Nat) (x : AInstr), Issues s j i x →
    let c := issued s t i
    let A := (s.ctx i).reg x.a
    let B := (s.ctx i).reg x.b
    let now := max s.etc t
    let len := 2 * s.nTeeth * 4096
    let gives (k : Instr) (c : Ctx) (v : Word) := Yields k s (Leaves s t i (c.wrote x.d v))
    (x.op = .adda → A.toNat / 4096 < 2 * s.nTeeth →
      gives (.adda t j) { c with q := false } (BitVec.ofInt 32 ((A.toNat + B.toInt) % len))) ∧
    (x.op = .adda → 2 * s.nTeeth ≤ A.toNat / 4096 → gives (.adda t j) { c with q := true } 0xFFFFFFFF) ∧
    (x.op = .dista → A.toNat / 4096 < 2 * s.nTeeth → B.toNat / 4096 < 2 * s.nTeeth →
      gives (.dista t j) { c with q := false } (BitVec.ofNat 32 ((B.toNat + len - A.toNat) % len))) ∧
    (x.op = .dista → 2 * s.nTeeth ≤ A.toNat / 4096 ∨ 2 * s.nTeeth ≤ B.toNat / 4096 →
      gives (.dista t j) { c with q := true } 0xFFFFFFFF) ∧
    (x.op = .snap → Yields (.snap t j) s (Leaves s t i { c with pc := c.pc + 1, snap := {
      ang := lensWord (s.advance t), etcLo := BitVec.ofNat 32 now, etcHi := BitVec.ofNat 32 (now / 2 ^ 32)
      stat := BitVec.ofNat 32 (syncCode s.whl.sync + dirCode (dirOf s) * 16 + s.evs.cycle % 256 * 256 +
        s.lns.speed * 65536)
      cycle := BitVec.ofNat 32 s.evs.cycle } })) ∧
    (x.op = .rds → x.imm = 5 → gives (.rds t j) { c with sigIn := 0 } (c.sigIn.setWidth 32)) ∧
    (x.op = .rds → x.imm ≠ 5 → x.imm ≤ 10 ∧ gives (.rds t j) c
      ([c.snap.ang, c.snap.etcLo, c.snap.etcHi, c.snap.stat, c.snap.cycle, 0, (s.sq (i / 8)).mbxSeq,
        BitVec.ofNat 32 (i / 8 + i % 8 * 16 + c.prioNow * 256), BitVec.ofNat 32 (s.sq (i / 8)).notices.length,
        BitVec.ofNat 32 (c.c.toNat + c.v.toNat * 2 + c.q.toNat * 4), BitVec.ofNat 32 s.nTeeth].getD x.imm 0)) ∧
    (x.op = .mbxrd → gives (.mbxrd t j) c ((s.sq (i / 8)).mailbox.get 0 x.imm)) ∧
    (x.op = .note → (s.sq (i / 8)).notices = [] → Yields (.note t j) s (Leaves s t i
      { ({ c with q := true }.setReg x.d 0).setReg x.b 0 with pc := c.pc + 1 })) ∧
    (∀ w0 w1 r, x.op = .note → (s.sq (i / 8)).notices = (w0, w1) :: r → Yields (.note t j) s (fun u =>
      u.ctx i = { ({ c with q := false }.setReg x.d w0).setReg x.b w1 with pc := c.pc + 1 } ∧
      (u.sq (i / 8)).notices = r ∧ SeqFrame s u)) ∧
    (x.op = .caprd → recordReadable s A = false → gives (.caprd t j) { c with q := true } 0) ∧
    (x.op = .caprd → recordReadable s A = true → j.data = .clean → isBad s (recordAddr A x.imm) = false →
      gives (.caprd t j) { c with q := false } (s.memWord (recordAddr A x.imm))) ∧
    (x.op = .yield → Yields (.yield t j) s (fun u => u.seq.orderNext = s.seq.orderNext + 1 ∧ Leaves s t i { c with
      pc := c.pc + 1, state := .ready, order := s.seq.orderNext, readyAt := now, wait := .none } u)) ∧
    (x.op = .endTask → c.fh = false → c.pending = false → Yields (.endTask t j) s (Leaves s t i { c with
      pc := c.pc + 1, state := .idle, prioNow := (s.taskOf i).prio })) ∧
    (x.op = .endTask → c.fh = false → c.pending = true → Yields (.endTask t j) s (Leaves s t i { c with
      pc := (s.taskOf i).entry, acts := wrapInc 16 c.acts, lastTrig := c.pendTrig, prioNow := (s.taskOf i).prio
      used := 0, secondBudget := false, pending := false, state := .ready, order := s.seq.orderNext, readyAt := now
      wait := .none }))

/-- R281, R282, R283, R309: the instructions that reach data memory, a DMA channel and other sequencers. -/
def Obligations.AngleReachesOut : Prop :=
  ∀ (s : State) (t : Tick) (j : Issue) (i : Nat) (x : AInstr), Issues s j i x →
    let c := issued s t i
    let A := (s.ctx i).reg x.a
    let B := (s.ctx i).reg x.b
    let first := B.toNat % 256
    let n := B.toNat / 256 % 256
    (x.op = .mbxcp → n = 0 ∨ 64 < first + n ∨ 65536 ≤ B.toNat → Yields (.mbxcp t j) s (Leaves s t i
      { c with q := true, pc := c.pc + 1 })) ∧
    (x.op = .mbxcp → 0 < n → first + n ≤ 64 → B.toNat < 65536 → admitted (s.taskOf i).segs .store A.toNat (4 * n) = true →
      regionOf A.toNat = .data → A.toNat % 4 = 0 → Yields (.mbxcp t j) s (fun u =>
        u.ctx i = { c with q := false }.wrote x.d (s.sq (i / 8)).mbxSeq ∧
        (∀ k, k < n → ∀ b, b < 4 → u.memByte (A.toNat + 4 * k + b) =
          BitVec.ofNat 8 (((s.sq (i / 8)).mailbox.get 0 (first + k)).toNat / 2 ^ (8 * b))) ∧
        ∀ a, a < A.toNat ∨ A.toNat + 4 * n ≤ a → u.memByte a = s.memByte a)) ∧
    (x.op = .dmago → dmaAnswer s i x.imm ≠ 0 → Yields (.dmago t j) s (Leaves s t i
      (c.wrote x.d (BitVec.ofNat 32 (dmaAnswer s i x.imm))))) ∧
    (x.op = .dmago → (s.taskOf i).dmaGrant.getLsbD x.imm = true → (s.dmaCh x.imm).phase ≠ .load →
      (s.dmaCh x.imm).phase ≠ .move → Yields (.dmago t j) s (fun u =>
        u.ctx i = c.wrote x.d 0 ∧
        u.dmaCh x.imm = { s.dmaCh x.imm with
          phase := .load, cause := 0, chain := 0, runs := wrapInc 16 (s.dmaCh x.imm).runs, desc := A.toNat, bytes := 0
          ownQ := i / 8, ownS := i % 8, segs := (s.taskOf i).segs } ∧
        (∀ m, m ≠ x.imm → u.dmaCh m = s.dmaCh m) ∧ u.mem = s.mem)) ∧
    (x.op = .signal → x.imm = 0 → Yields (.signal t j) s (fun u =>
      u.ctx i = { c with pc := c.pc + 1 } ∧ (u.sq (i / 8)).sigVal = A ∧
      u.irc.host.pend.getLsbD (168 + i / 8) = true ∧ u.mem = s.mem)) ∧
    (x.op = .signal → x.imm ≠ 0 → Yields (.signal t j) s (fun u =>
      (u.ctx i).pc = c.pc + 1 ∧ SeqFrame s u ∧
      ∀ k, k / 8 = A.toNat % 16 → (s.ctx k).state ≠ .empty → (u.ctx k).sigIn.getLsbD (i / 8) = true))

/-- R271 to R273, R275, R297: what ends a park, and what a TIME trigger starts. -/
def Obligations.ParkedContextsWake : Prop :=
  ∀ (s : State) (t : Tick) (q : Fin 16) (p : Fin 8), Alive s →
    let i := 8 * q.val + p.val
    let c := s.ctx i
    let x := max s.etc t
    let wakes (k : Instr) (c : Ctx) := Yields k s (fun u =>
      u.ctx i = { c with state := .ready, order := s.seq.orderNext, readyAt := x, wait := .none } ∧
      (∀ m, m ≠ i → u.ctx m = s.ctx m) ∧ u.seq.sq = s.seq.sq ∧ SeqFrame s { u with lns := s.lns })
    (∀ d target, c.wait = .instant d target → target ≤ x → wakes (.waittReached t q p) (c.setReg d 0)) ∧
    (∀ d mask t0 n, c.wait = .latch d mask t0 n → n ≠ 0 → t0 + 8 * n ≤ x →
      wakes (.waitTimeout t q p) (c.setReg d 0x80000000)) ∧
    (∀ d w t0 n, c.wait = .angle d w t0 n → n ≠ 0 → t0 + 8 * n ≤ x → lensLinAt s (t0 + 8 * n) = some s.lns.seen →
      wakes (.waitTimeout t q p) (c.setReg d 2)) ∧
    (∀ d b r h, c.wait = .answered d b true r h none → wakes (.schedulerResult t q p) ((c.setReg d r).setReg b h)) ∧
    (∀ d b r h, c.wait = .answered d b false r h none → wakes (.schedulerResult t q p) (c.setReg d r)) ∧
    (∀ k, s.task i = some k → k.trig = 2 → timeTriggerAt s i ≤ x → c.state = .idle →
      wakes (.timeTrigger t q p) { c with
        pc := k.entry, acts := wrapInc 16 c.acts, lastTrig := 3, prioNow := k.prio, used := 0, secondBudget := false
        pending := false, nextTime := c.nextTime + 1 }) ∧
    (∀ k, s.task i = some k → k.trig = 2 → timeTriggerAt s i ≤ x → c.state = .parked → c.pending = false →
      Yields (.timeTrigger t q p) s (fun u =>
        u.ctx i = { c with pending := true, pendTrig := 3, nextTime := c.nextTime + 1 } ∧ SeqFrame s u))

/-- R262, R263, R301 to R305: an illegal word and an exhausted budget enter the task's handler, or halt the task. -/
def Obligations.TaskFaults : Prop :=
  ∀ (s : State) (t : Tick) (i : Nat), Alive s →
    let handled (c : Ctx) (cause : Nat) (faddr : Word) : Ctx :=
      { ((c.setReg 13 faddr).setReg 14 (c.pc.setWidth 32)).setReg 15 (BitVec.ofNat 32 cause) with
        cause := cause, fpc := c.pc, faddr := faddr, faults := satInc 255 c.faults
        saveG13 := c.reg 13, saveG14 := c.reg 14, saveG15 := c.reg 15, saveC := c.c, saveV := c.v, saveQ := c.q
        fh := true, prioNow := (s.taskOf i).fprio, pc := (s.taskOf i).faultPc }
    let halted (u : State) (h cause : Nat) (faddr : Word) (pc : BitVec 16) :=
      (u.ctx i).state = .halted ∧ (u.ctx i).haltBy = h ∧ (u.ctx i).cause = cause ∧ (u.ctx i).faddr = faddr ∧
      (u.ctx i).fpc = pc ∧ Occurred s u (40 + i / 8)
    (∀ j : Issue, (∀ k ∈ ctxsOf j.sq.val, mayIssue s k = true → overBudget s k = false) → bestCtx s j.sq.val = some i →
      j.fetch = .clean → fetchFault s i .clean = 0 → decodeAngle (fetchWord s i) = none →
      ((s.ctx i).fh = false → (s.taskOf i).faultPc ≠ 0xFFFF → Yields (.illegalInstruction t j) s (fun u =>
        u.ctx i = handled (issued s t i) 1 (fetchWord s i) ∧ u.mem = s.mem)) ∧
      ((s.ctx i).wait = .none → (s.ctx i).fh = false → (s.taskOf i).faultPc = 0xFFFF →
        Yields (.illegalInstruction t j) s (fun u => halted u 1 1 (fetchWord s i) (s.ctx i).pc)) ∧
      ((s.ctx i).wait = .none → (s.ctx i).fh = true → Yields (.illegalInstruction t j) s (fun u =>
        halted u 2 1 (fetchWord s i) (s.ctx i).pc))) ∧
    (∀ (q : Fin 16) (p : Fin 8), i = 8 * q.val + p.val → mayIssue s i = true → overBudget s i = true →
      ((s.ctx i).secondBudget = false → (s.ctx i).fh = false → (s.taskOf i).faultPc ≠ 0xFFFF →
        Yields (.budgetExhausted t q p) s (fun u => u.ctx i =
          { handled (s.ctx i) 7 (BitVec.ofNat 32 (s.taskOf i).budget) with secondBudget := true, used := 0 })) ∧
      ((s.ctx i).wait = .none → (s.ctx i).secondBudget = true → Yields (.budgetExhausted t q p) s (fun u =>
        halted u 3 7 (BitVec.ofNat 32 (s.taskOf i).budget) (s.ctx i).pc)))

/-- R310, R312: a burst between data memory addresses moves its bytes and nothing else, and the last one completes the
transfer. -/
def Obligations.DmaMovesBytes : Prop :=
  ∀ (s : State) (t : Tick) (c : Fin 16) (w : Fin 24), Alive s →
    let d := s.dmaCh c
    let from_ := d.src + d.bytes
    let to_ := d.dst + d.bytes
    let n := min 64 (d.len - d.bytes)
    (d.phase = .move → dmaTurn s c = true → d.bytes < d.len → d.fixed = false → d.len % 4 = 0 → d.bytes % 4 = 0 → s.mem.bad = [] →
      admitted d.segs .load from_ n = true → admitted d.segs .store to_ n = true →
      0x400000 ≤ from_ → from_ + n ≤ 0x480000 → d.linked = false ∨ d.bytes + n < d.len →
      Yields (.dmaBurst t c w .clean) s (fun u =>
        u.dmaCh c = { d with bytes := d.bytes + n } ∧ (∀ k, k < n → u.memByte (to_ + k) = s.memByte (from_ + k)) ∧
        (∀ a, a < to_ ∨ to_ + n ≤ a → u.memByte a = s.memByte a) ∧ ∀ m, m ≠ c.val → u.dmaCh m = s.dmaCh m)) ∧
    (d.phase = .move → d.bytes = d.len → d.linked = false → Yields (.dmaTransferComplete t c) s (fun u =>
      u.dmaCh c = { d with phase := .done, chain := d.chain + 1 } ∧
      (∀ b, b < 4 → u.memByte (d.desc + 20 + b) = (if b = 0 then 2 else 0) ∧
        u.memByte (d.desc + 24 + b) = BitVec.ofNat 8 (d.len / 2 ^ (8 * b))) ∧
      (∀ a, a < d.desc + 20 ∨ d.desc + 28 ≤ a → u.memByte a = s.memByte a) ∧
      (d.irq = true → u.irc.host.pend.getLsbD (184 + c.val) = true) ∧
      ((s.ctx (8 * d.ownQ + d.ownS)).state = .halted → (u.ctx (8 * d.ownQ + d.ownS)).latches.getLsbD 3 = true)))

/-- R79 to R82, R85, R86, R109, R138: the strap, the claim challenge, the release countdown, the entropy source's
health and the lock-out of a link. -/
def Obligations.OwnerTimersAndStrap : Prop :=
  ∀ (s : State) (t : Tick), Alive s →
    let x := max s.etc t
    let raised (u : State) (n : Nat) := u.irc.host.pend.getLsbD n = true
    (∀ on, on ≠ s.supply.claimStrap → Yields (.claimNChange t on) s (fun u =>
      u.supply = { s.supply with claimStrap := on, claimSince := x } ∧
      u.sec = { s.sec with release := if on then s.sec.release else none } ∧
      (on = false → s.sec.release.isSome = true → raised u 235) ∧ u.nv = s.nv ∧ u.links = s.links)) ∧
    (s.sec.regsUp = true → s.sec.challengeAt + 600 * ticksPerS ≤ x → Yields (.challengeExpiry t) s (fun u =>
      u.sec = { s.sec with
        challenge := BitVec.ofNat 256 (beNat ((List.range 32).map (fun i => Config.entropyByte (s.sec.entropyNext + i))))
        challengeAt := x, entropyNext := s.sec.entropyNext + 32 } ∧ u.nv = s.nv)) ∧
    (∀ r, s.sec.release = some r → Yields (.releaseReminder t) s (fun u =>
      u.sec = { s.sec with release := some { r with
        nextRemind := if r.nextRemind ≤ x then r.nextRemind + 60 * ticksPerS else r.nextRemind
        nextLog := if r.nextLog ≤ x then r.nextLog + 3600 * ticksPerS else r.nextLog } } ∧
      (r.nextRemind ≤ x → raised u 235) ∧
      (r.nextLog ≤ x → u.bgs.logNext = wrapInc 32 s.bgs.logNext ∨ u.bgs.lostRun = s.bgs.lostRun + 1) ∧ u.nv = s.nv)) ∧
    (∀ r, s.sec.release = some r → r.since + 86400 * ticksPerS ≤ x → Yields (.releaseCountdownExpiry t) s (fun u =>
      u.nv.keys = { life := .unclaimed, ogen := wrapInc 32 s.keys.ogen, forced := wrapInc 32 s.keys.forced } ∧
      u.nv.env0 = [] ∧ u.nv.env1 = [] ∧ u.nv.imgA = {} ∧ u.nv.imgB = {} ∧ u.nv.qs0 = [] ∧ u.nv.qs1 = [] ∧
      u.sec.release = none ∧ u.sec.envelope = none ∧ u.sec.waitingEnv = none ∧ u.sys.running = none ∧
      (∀ i, (s.ctx i).state = .halted → u.ctx i = s.ctx i) ∧
      (∀ i, (s.ctx i).state ≠ .halted → (u.ctx i).state = .empty ∧ (u.ctx i).faults = (s.ctx i).faults ∧
        (u.ctx i).overruns = (s.ctx i).overruns) ∧
      (∀ l, (u.link l).session = .none) ∧ raised u 234)) ∧
    (s.sec.entropyFail = false → Yields (.entropyHealthFailure t) s (fun u =>
      u.sec = { s.sec with entropyFail := true } ∧ raised u 239 ∧ u.nv = s.nv)) ∧
    Yields (.entropyHealthRecovery t) s (fun u => u.sec = { s.sec with entropyFail := false } ∧ u.nv = s.nv) ∧
    (∀ l d, (s.link l).lockUntil = some d → d ≤ x → Yields (.lockoutExpiry t l) s (fun u =>
      u.link l = { s.link l with lockUntil := none } ∧ (∀ k, k ≠ l → u.link k = s.link k) ∧ raised u 233 ∧ u.nv = s.nv))

/-- R96 to R98, R143, R435 to R437: an uncorrectable read of the gate's envelope and its reload, and what the writes
to the Caddy leave when they are complete. A failed write is a fault (source 19) and changes no region. -/
def Obligations.CaddyWritesComplete : Prop :=
  ∀ (s : State) (t : Tick), Alive s →
    (s.sec.envelope.isSome = true → s.sec.envBad = false → Yields (.envelopeCopyError t) s (fun u =>
      u.sec = { s.sec with envBad := true } ∧ Occurred s u 17)) ∧
    (∀ e, s.sec.envBad = true → storedEnvelope s = some e → Yields (.envelopeReloadComplete t) s (fun u =>
      u.sec = { s.sec with envelope := some e, envBad := false })) ∧
    (s.sec.envBad = true → storedEnvelope s = none → Yields (.envelopeReloadComplete t) s (fun u =>
      u.sec = s.sec ∧ u.irc.host.pend.getLsbD 236 = true)) ∧
    (∀ l e r, s.sec.envWrite = some (l, e) → (s.link l).req = some r → r.code = 6 → s.sys.linksUp = true →
      s.keys.life = .owned → envRefusal s e = none → r.sealed = false →
      Yields (.envelopeWriteComplete t true) s (fun u =>
        u.sec.envWrite = none ∧ (u.nv.env0 = e ∨ u.nv.env1 = e) ∧ (u.nv.env0 = s.nv.env0 ∨ u.nv.env1 = s.nv.env1) ∧
        (s.whl.sync ≠ .nosync → u.sec.waitingEnv = some e ∧ u.sec.envelope = s.sec.envelope) ∧
        (s.whl.sync = .nosync → u.sec.waitingEnv = none ∧ u.sec.envelope = some e ∧ u.sec.envBad = false) ∧
        (u.link l).req = none ∧ u.irc.host.pend.getLsbD 236 = true)) ∧
    (∀ b, s.cfg.storing = some b → Yields (.configStoreComplete t true) s (fun u =>
      u.cfg = { s.cfg with storing := none } ∧ u.nv.cfg = some b)) ∧
    (∀ b, s.cfg.storing = some b → Yields (.configStoreComplete t false) s (fun u =>
      u.cfg = { s.cfg with storing := none } ∧ u.nv.cfg = s.nv.cfg ∧ Occurred s u 19)) ∧
    (∀ b r, s.bgs.jobs = .refresh b :: r → s.bgs.jobDone = 0 → Yields (.caddyWriteComplete t true) s (fun u =>
      u.bgs.jobs = r ∧ u.bgs.rewrites = satInc 65535 s.bgs.rewrites ∧ u.nv.badBlocks.get false b = false ∧
      u.nv.writes.get 0 (physOf u b) = s.nv.writes.get 0 (physOf u b) + 1)) ∧
    (∀ k r, s.bgs.jobs = .logFlush k :: r → (ringBlocks s.nv.ringPos (tailBytes s k)).length ≤ s.bgs.jobDone + 1 →
      Yields (.caddyWriteComplete t true) s (fun u =>
        u.bgs.jobs = r ∧ u.bgs.tail = s.bgs.tail.drop k ∧ u.nv.ringPos = s.nv.ringPos + tailBytes s k)) ∧
    (∀ j r, s.bgs.jobs = j :: r → s.bgs.retried = true → Yields (.caddyWriteComplete t false) s (fun u =>
      u.bgs.jobs = r ∧ u.nv.env0 = s.nv.env0 ∧ u.nv.cfg = s.nv.cfg ∧ u.nv.keys = s.nv.keys ∧ Occurred s u 19))

/-- R126 to R129: the SPI mailbox and the CAN ports. -/
def Obligations.MailboxAndCanPorts : Prop :=
  ∀ (s : State) (t : Tick), Alive s → s.sys.linksUp = true →
    (∀ n, s.links.txFrame = none → 11 ≤ n → n ≤ 512 → Yields (.mbxSend t n) s (fun u =>
      u.links = { s.links with txFrame := some (Table.getList 0 s.links.txBuf 0 n) })) ∧
    (∀ n, s.links.txFrame.isSome = true → Yields (.mbxSend t n) s (fun u =>
      u.links = { s.links with hostRej := satInc 0xFFFFFFFF s.links.hostRej })) ∧
    (∀ n, s.links.txFrame = none → n < 11 ∨ 512 < n → Yields (.mbxSend t n) s (fun u =>
      u.links.txFrame = none ∧ (u.link .spi).frameErr = satInc 255 (s.link .spi).frameErr ∧
      framesWaiting u .spi = framesWaiting s .spi ++ framesOf .spi (s.links.txBuf.get 0 1)
        (leBytes 2 0xFFFE ++ [0, 0] ++ leBytes 4 8 ++ [1, 0, 3, 0, s.links.txBuf.get 0 1, 0, 0, 0]))) ∧
    (s.links.rxReady = true → s.links.spi.out = [] → Yields (.mbxRxDone t) s (fun u =>
      u.links = { s.links with rxReady := false })) ∧
    (∀ f r, s.links.rxReady = true → s.links.spi.out = f :: r → Yields (.mbxRxDone t) s (fun u =>
      u.links = { s.links with spi.out := r, rxBuf := f } ∧ u.irc.host.pend.getLsbD 8 = true)) ∧
    Yields (.mbxAbort t) s (fun u => u.links = { s.links with spi.asm := none }) ∧
    (∀ (second : Bool), let l : Link := if second then .can1 else .can0
      ((s.link l).busOff = false → Yields (.canBusOff t second) s (fun u =>
        (u.link l).busOff = true ∧ (u.link l).busOffs = satInc 65535 (s.link l).busOffs ∧
        (u.link l).session = (s.link l).session ∧ (u.link l).asm = (s.link l).asm ∧ u.link .spi = s.link .spi ∧
        u.irc.host.pend.getLsbD 7 = true)) ∧
      ((s.link l).busOff = true → Yields (.canBusOffRecovery t second) s (fun u =>
        u.link l = { s.link l with busOff := false } ∧ u.irc.host.pend.getLsbD 7 = true)) ∧
      (∀ d r, (s.link l).busOff = false → (s.link l).out = d :: r → Yields (.canFrameTransmitted t second) s (fun u =>
        u.link l = { s.link l with out := r, sent := some (canFrame s second d) } ∧ u.link .spi = s.link .spi)) ∧
      ((s.link l).busOff = false → (s.link l).out = [] → Yields (.canFrameTransmitted t second) s (fun u =>
        u.link l = s.link l ∧ u.link .spi = s.link .spi)))

/-- R112 to R114, R121, R131: a frame starts a message or completes it, a complete plain IDENTITY request is taken
into processing, a gap abandons an unfinished message, and an unfinished opening and an idle session end. -/
def Obligations.FramesMessagesAndSessions : Prop :=
  ∀ (s : State) (t : Tick), Alive s → s.sys.linksUp = true →
    let x := max s.etc t
    let frame (flags mtag : Byte) (seg : Nat) (p : List Byte) : List Byte :=
      let h := [flags, mtag] ++ leBytes 2 seg ++ leBytes 2 p.length ++ p
      h ++ leBytes 4 (crc32 h)
    (∀ (mtag : Byte) (p : List Byte), s.links.txFrame = some (frame 0x11 mtag 0 p) → 0 < p.length →
      p.length ≤ 502 → (s.link .spi).asm = none → (s.link .spi).session = .none →
      Yields (.ohmacFrame t .mailbox) s (fun u =>
        u.links = { s.links with
          txFrame := none
          spi := { s.links.spi with asm := some { mtag := mtag, next := 1, bytes := p, last := x } } } ∧
        u.irc.host.pend.getLsbD 9 = true)) ∧
    (∀ (mtag : Byte) (a : Assembly) (p : List Byte), s.links.txFrame = some (frame 0x21 mtag a.next p) →
      (s.link .spi).asm = some a → a.mtag = mtag → a.next < 65536 → x ≤ a.last + 100 * ticksPerMs → p.length ≤ 502 →
      a.bytes ++ p = [1, 0, 0x34, 0x12, 0, 0, 0, 0] → p ≠ [] → (s.link .spi).session = .none →
      (s.link .spi).req = none → s.supply.state ≠ .holdup →
      Yields (.ohmacFrame t .mailbox) s (fun u =>
        u.link .spi = { s.link .spi with
          asm := none
          req := some { code := 1, rtag := 0x1234, body := [], sealed := false, mtag := mtag } } ∧
        u.links.txFrame = none)) ∧
    (∀ l a, (s.link l).asm = some a → a.last + 100 * ticksPerMs < x → Yields (.frameGapTimeout t l) s (fun u =>
      (u.link l).asm = none ∧ (u.link l).frameErr = satInc 255 (s.link l).frameErr ∧
      framesWaiting u l = framesWaiting s l ++ framesOf l a.mtag
        (leBytes 2 0xFFFE ++ [0, 0] ++ leBytes 4 8 ++ [1, 0, 7, 0, a.mtag, 0, 0, 0]) ∧
      ∀ k, k ≠ l → u.link k = s.link k)) ∧
    (∀ l o, (s.link l).session = .opening o → o.since + 5 * ticksPerS ≤ x → (s.link l).fails < 7 →
      Yields (.sessionOpenTimeout t l) s (fun u =>
        u.link l = { s.link l with session := .none, fails := (s.link l).fails + 1 } ∧
        u.nv.secFail = satInc 0xFFFFFFFF s.nv.secFail ∧ u.irc.host.pend.getLsbD 232 = true)) ∧
    (∀ l y, (s.link l).session = .opened y → y.lastAt + sessIdle s * ticksPerS ≤ x →
      Yields (.sessionIdleTimeout t l) s (fun u =>
        (u.link l).session = .none ∧ (∀ q, (u.link l).req = some q → q.sealed = false) ∧
        u.irc.host.pend.getLsbD 238 = true ∧
        (∀ b, u.cfg.staging = some (l, b) → False) ∧ ∀ k, k ≠ l → u.link k = s.link k))

/-- R105, R106, R118, R119, R134, R135: the commands that read: each answers its data with STATUS 0 and changes
nothing but the links (a signature advances the signer); a body of the wrong length is answered STATUS 1. -/
def Obligations.ReadingCommandsAnswer : Prop :=
  ∀ (s : State) (t : Tick) (l : Link) (r : Request),
    let x := max s.etc t
    let now := s.advance t
    let b := r.body
    let answers (k : Instr) (data : List Byte) := Yields k s (fun u =>
      Answered s u l r 0 0 data ∧ LinkFrame s u ∧ ∀ m, m ≠ l → u.link m = s.link m)
    let signs (k : Instr) (data : List Byte) := Yields k s (fun u =>
      Answered s u l r 0 0 (data ++ beBytes 64 (Config.dikSign s.sec.signNext data).toNat) ∧
      LinkFrame { s with sec.signNext := s.sec.signNext + 1 } u ∧ ∀ m, m ≠ l → u.link m = s.link m)
    (Asked s l r 0x01 → b.length = 0 → answers (.identity t l) (identityData l now)) ∧
    (Asked s l r 0x02 → b.length = 16 → signs (.attest t l) (attestBody now b)) ∧
    (Asked s l r 0x14 → b.length = 0 →
      answers (.ping t l) (leBytes 8 x ++ leBytes 4 s.evs.cycle ++ zeros 4)) ∧
    (∀ a n, Asked s l r 0x20 → b = leBytes 4 a ++ leBytes 2 n ++ [0, 0] → a % 4 = 0 → 1 ≤ n → n ≤ 1023 →
      a + 4 * n ≤ 0x10000 → Yields (.readRegs t l) s (fun u =>
        Answered s u l r 0 0 (readSeq n a now).1 ∧ LinkFrame { s with snaps := (readSeq n a now).2.snaps } u)) ∧
    (∀ c, Asked s l r 0x21 → b.length = 20 → s.evs.records.find? (fun c => c.cycle == leAt b 0 4) = some c →
      signs (.cycleRecord t l) (c.bytes (slice b 4 16))) ∧
    (Asked s l r 0x21 → b.length = 20 → s.evs.records.find? (fun c => c.cycle == leAt b 0 4) = none →
      Yields (.cycleRecord t l) s (fun u => Answered s u l r 11 0 [] ∧ LinkFrame s u)) ∧
    (Asked s l r 0x22 → b.length = 0 → answers (.telemetry t l) s.bgs.batch) ∧
    (∀ a n, Asked s l r 0x23 → b = leBytes 4 a ++ leBytes 2 n ++ [0, 0] → 1 ≤ n → n ≤ 64 → a < 2 ^ 32 →
      let all := logFrom s a
      let es := takeEntries n 4084 all
      answers (.logRead t l) (leBytes 4 ((((all.drop es.length).head?).map (fun e => e.index)).getD s.bgs.logNext) ++
        leBytes 2 es.length ++ zeros 2 ++ (es.map LogEntry.bytes).flatten)) ∧
    (∀ w a n, Asked s l r 0x43 → b = [BitVec.ofNat 8 w, 0] ++ leBytes 2 a ++ leBytes 2 n ++ [0, 0] → w ≤ 2 → 4 ≤ n →
      n ≤ 4092 → a + n ≤ 9216 → answers (.cfgRead t l) (Table.getList 0
        (if w = 0 then s.cfg.active else if w = 1 then stagingCopy s else s.nv.cfg.getD defaultBlock) a n)) ∧
    (Asked s l r 0x44 → b.length = 0 → answers (.cfgStatus t l)
      ((match s.cfg.staging with
        | some (h, _) => [BitVec.ofNat 8 (linkId h), 0]
        | none => [0xFF, 0]) ++ leBytes 2 s.cfg.pending.toNat ++ leBytes 8 (commitSeq s.cfg.committed) ++
        sha (blockAll s.cfg.active) ++
        (match s.cfg.staging with
        | some (_, c) => sha (blockAll c)
        | none => zeros 32))) ∧
    (∀ code n k, (code, n, k) ∈ [(0x01, 0, Instr.identity t l), (0x02, 16, .attest t l), (0x05, 0, .forceRelease t l),
        (0x13, 0, .close t l), (0x14, 0, .ping t l), (0x20, 8, .readRegs t l), (0x21, 20, .cycleRecord t l),
        (0x22, 0, .telemetry t l), (0x23, 8, .logRead t l), (0x43, 8, .cfgRead t l), (0x44, 0, .cfgStatus t l)] →
      Asked s l r code → b.length ≠ n → Yields k s (fun u =>
        Answered s u l r 1 (min b.length n) [] ∧ LinkFrame s u))

/-- R81 to R85, R91, R92, R95, R138, R486: the owner's commands, with the key store written and read back. -/
def Obligations.OwnershipCommands : Prop :=
  ∀ (s : State) (t : Tick) (l : Link) (r : Request),
    let x := max s.etc t
    let b := r.body
    let body := slice b 48 (leAt b 6 2)
    let done := slice b 8 8 ++ leBytes 4 s.keys.ogen ++ zeros 4
    let shown := s.supply.claimStrap = true ∧ s.supply.claimSince + ticksPerS ≤ x
    let owned (op : Nat) := Asked s l r 0x04 ∧ leAt b 4 2 = op ∧ s.keys.life = .owned ∧ ownerFormFault b = none ∧
      owkVerifies s (slice b 0 (48 + leAt b 6 2)) (slice b (48 + leAt b 6 2) 64) = true ∧ slice b 16 32 = devBind ∧
      s.keys.oseq < leAt b 8 8
    let erased (life : Life) (u : State) :=
      u.nv.keys = { life := life, ogen := wrapInc 32 s.keys.ogen, forced := s.keys.forced, destroyed := life == .retired } ∧
      u.nv.env0 = [] ∧ u.nv.env1 = [] ∧ u.nv.imgA = {} ∧ u.nv.imgB = {} ∧ u.sec.envelope = none ∧
      (∀ m, (u.link m).session = .none) ∧
      Answered s u l r 0 0 (slice b 8 8 ++ leBytes 4 (wrapInc 32 s.keys.ogen) ++ zeros 4)
    (Asked s l r 0x03 → r.sealed = false → s.keys.life = .unclaimed → s.sec.entropyFail = false →
      claimFormFault b = none → shown → beNat (slice b 40 32) = s.sec.challenge.toNat → slice b 8 32 = devBind →
      verifies (slice b 72 64) (slice b 0 144) (slice b 144 64) = true → Yields (.claim t l true) s (fun u =>
        u.nv.keys = { s.keys with
          life := .owned, owk := BitVec.ofNat 512 (beNat (slice b 72 64)), oseq := leAt b 136 8
          ogen := wrapInc 32 s.keys.ogen, slots := [] } ∧
        u.nv.ksFail = false ∧ u.sec.challengeAt = x ∧ (u.link l).fails = 0 ∧ u.irc.host.pend.getLsbD 234 = true ∧
        ∃ data, Answered s u l r 0 0 data)) ∧
    (Asked s l r 0x03 → r.sealed = false → s.keys.life ≠ .unclaimed → Yields (.claim t l true) s (fun u =>
      Answered s u l r 2 0 [] ∧ u.nv = s.nv)) ∧
    (owned 1 → certFormFault (slice body 4 192) = none → leAt body 0 1 ≤ 15 → certValid s (slice body 4 192) = true →
      Yields (.enrol t l true) s (fun u =>
        u.nv.keys = { s.keys with oseq := leAt b 8 8, slots := s.keys.slots.set none (leAt body 0 1) (some (slice body 4 192)) } ∧
        Answered s u l r 0 0 done)) ∧
    (owned 2 → leAt body 0 1 ≤ 15 → Yields (.revoke t l true) s (fun u =>
      u.nv.keys = { s.keys with oseq := leAt b 8 8, slots := s.keys.slots.set none (leAt body 0 1) none } ∧
      (∀ m, openedUnder (leAt body 0 1) u m = false) ∧ Answered s u l r 0 0 done)) ∧
    (owned 3 → shown → Yields (.transfer t l true) s (fun u =>
      u.nv.keys = { s.keys with
        owk := BitVec.ofNat 512 (beNat (slice body 0 64)), oseq := leAt body 64 8, ogen := wrapInc 32 s.keys.ogen
        slots := [] } ∧
      (∀ m, (u.link m).session = .none) ∧ u.irc.host.pend.getLsbD 234 = true ∧
      Answered s u l r 0 0 (slice b 8 8 ++ leBytes 4 (wrapInc 32 s.keys.ogen) ++ zeros 4))) ∧
    (owned 4 → s.whl.sync = .nosync → Yields (.decommission t l true) s (erased .unclaimed)) ∧
    (owned 5 → s.whl.sync = .nosync → Yields (.retire t l true) s (erased .retired)) ∧
    (owned 4 → s.whl.sync ≠ .nosync → Yields (.decommission t l true) s (fun u =>
      Answered s u l r 12 (syncCode s.whl.sync) [] ∧ u.nv = s.nv)) ∧
    (owned 5 → s.whl.sync ≠ .nosync → Yields (.retire t l true) s (fun u =>
      Answered s u l r 12 (syncCode s.whl.sync) [] ∧ u.nv = s.nv)) ∧
    (Asked s l r 0x05 → b = [] → s.supply.claimStrap = true → s.sec.release = none →
      Yields (.forceRelease t l) s (fun u =>
        u.sec = { s.sec with release := some {
          since := x, nextRemind := x + 60 * ticksPerS, nextLog := x + 3600 * ticksPerS } } ∧
        Answered s u l r 0 0 (leBytes 2 1440 ++ [0, 0]))) ∧
    (Asked s l r 0x05 → b = [] → s.supply.claimStrap = false → Yields (.forceRelease t l) s (fun u =>
      Answered s u l r 6 0 [] ∧ LinkFrame s u)) ∧
    (Asked s l r 0x06 → s.sec.envWrite = none → s.keys.life = .owned → envRefusal s b = none →
      Yields (.envInstall t l) s (fun u =>
        u.sec = { s.sec with envWrite := some (l, b) } ∧ u.nv = s.nv ∧
        u.link l = { s.link l with fails := 0, pauseS := 0 })) ∧
    (Asked s l r 0x06 → s.sec.envWrite = none → s.keys.life ≠ .owned → Yields (.envInstall t l) s (fun u =>
      Answered s u l r 2 0 [] ∧ LinkFrame s u))

/-- R84, R87, R131: a session opens in two steps and closes on CLOSE. -/
def Obligations.SessionsOpenAndClose : Prop :=
  ∀ (s : State) (t : Tick) (l : Link) (r : Request),
    let x := max s.etc t
    let b := r.body
    (∀ c, Asked s l r 0x10 → r.sealed = false → s.keys.life = .owned → s.sec.entropyFail = false →
      openFormFault b = none → leAt b 0 1 ≤ 15 → s.keys.slots.get none (leAt b 0 1) = some c → certValid s c = true →
      Yields (.open1 t l) s (fun u =>
        (∃ o, (u.link l).session = .opening o ∧ o.slot = leAt b 0 1 ∧ o.since = x ∧ (u.link l).lastSid = o.sid ∧ o.sid ≠ 0) ∧
        u.sec.ephNext = s.sec.ephNext + 1 ∧ u.sec.signNext = s.sec.signNext + 1 ∧ u.nv.keys = s.nv.keys ∧
        ∃ data, Answered s u l r 0 0 data)) ∧
    (Asked s l r 0x10 → r.sealed = false → s.keys.life = .owned → s.sec.entropyFail = false →
      openFormFault b = none → leAt b 0 1 ≤ 15 → s.keys.slots.get none (leAt b 0 1) = none →
      Yields (.open1 t l) s (fun u => (u.link l).session = .none ∧ Answered s u l r 13 0 [])) ∧
    (∀ o c, Asked s l r 0x12 → r.sealed = false → (s.link l).session = .opening o →
      s.keys.slots.get none o.slot = some c → b.length = 68 → leAt b 0 4 = o.sid.toNat → certValid s c = true →
      verifies (certPub c) (openSigned o) (slice b 4 64) = true → Yields (.open3 t l) s (fun u =>
        (∃ y, (u.link l).session = .opened y ∧ y.slot = o.slot ∧ y.sid = o.sid ∧ y.keyHM = o.keyHM ∧ y.keyMH = o.keyMH ∧
          y.roles = BitVec.ofNat 16 (certRoles c) ∧ y.lastHost = 0 ∧ y.lastModule = 1 ∧ y.lastAt = x) ∧
        (u.link l).fails = 0 ∧ u.irc.host.pend.getLsbD 238 = true ∧
        framesWaiting u l = framesWaiting s l ++ framesOf l r.mtag (sealedMsg o.keyMH 2 o.sid 1
          (plainResponse r 0 0 (slice c 8 4 ++ slice c 6 2 ++ leBytes 2 (sessIdle s)))))) ∧
    (Asked s l r 0x12 → r.sealed = false → (s.link l).session = .none → Yields (.open3 t l) s (fun u =>
      Answered s u l r 2 0 [] ∧ LinkFrame s u)) ∧
    (Asked s l r 0x13 → b = [] → r.sealed = true → Yields (.close t l) s (fun u =>
      (u.link l).session = .none ∧ Answered s u l r 0 0 [] ∧ u.irc.host.pend.getLsbD 238 = true ∧ u.nv = s.nv))

/-- R136, R142 to R150: TARGETS writes a mailbox; the staging copy is written, discarded and committed. -/
def Obligations.TargetsAndConfigurationCommands : Prop :=
  ∀ (s : State) (t : Tick) (l : Link) (r : Request),
    let x := max s.etc t
    let b := r.body
    let data := b.drop 4
    (∀ q f, Asked s l r 0x30 → s.sys.running.isSome = true → b.take 4 = [BitVec.ofNat 8 q, BitVec.ofNat 8 f,
        BitVec.ofNat 8 (data.length / 4), 0] → data.length % 4 = 0 → q ≤ 15 → data ≠ [] → f + data.length / 4 ≤ 64 →
      Yields (.targets t l) s (fun u =>
        (∀ k, k < data.length / 4 → (u.sq q).mailbox.get 0 (f + k) = BitVec.ofNat 32 (leAt data (4 * k) 4)) ∧
        (∀ k, k < f ∨ f + data.length / 4 ≤ k → (u.sq q).mailbox.get 0 k = (s.sq q).mailbox.get 0 k) ∧
        (u.sq q).mbxSeq = (s.sq q).mbxSeq + 1 ∧ (∀ m, m ≠ q → u.sq m = s.sq m) ∧
        (∀ p, p < 8 → (s.ctx (8 * q + p)).state = .halted → (u.ctx (8 * q + p)).latches.getLsbD 0 = true) ∧
        Answered s u l r 0 0 (leBytes 8 x ++ leBytes 4 ((s.sq q).mbxSeq + 1).toNat ++ zeros 4))) ∧
    (Asked s l r 0x30 → s.sys.running = none → Yields (.targets t l) s (fun u =>
      Answered s u l r 2 0 [] ∧ LinkFrame s u)) ∧
    (∀ a, Asked s l r 0x40 → heldElsewhere s l = false → b.take 4 = leBytes 2 a ++ leBytes 2 data.length →
      a % 4 = 0 → 0x20 ≤ a → a + data.length ≤ 9216 → data.length % 4 = 0 → 4 ≤ data.length → data.length ≤ 4088 →
      stageEntries s.sys.order64 (blkWrite (stagingCopy s) a data) a data.length = [] →
      Yields (.cfgStage t l) s (fun u =>
        u.cfg = { s.cfg with staging := some (l, Table.setList 0 (stagingCopy s) a data) } ∧
        Answered s u l r 0 0 [0, 0, 0, 0])) ∧
    (∀ h c, Asked s l r 0x40 → s.cfg.staging = some (h, c) → h ≠ l → Yields (.cfgStage t l) s (fun u =>
      Answered s u l r 17 0 [] ∧ LinkFrame s u)) ∧
    (∀ c, Asked s l r 0x41 → s.cfg.staging = some (l, c) → sha (blockAll c) = b → b.length = 32 → conflictsOf s c = [] →
      Yields (.cfgCommit t l) s (fun u =>
        u.cfg.committed = blkWrite c 8 (leBytes 8 (commitSeq s.cfg.committed + 1)) ∧
        u.cfg.storing = some (blkWrite c 8 (leBytes 8 (commitSeq s.cfg.committed + 1))) ∧ u.cfg.staging = none ∧
        (s.whl.sync = .full → u.cfg.pending =
          (s.cfg.pending ||| BitVec.ofNat 16 (changedGroups s.cfg.committed c)) &&& ~~~0x186#16) ∧
        u.nv.cfg = s.nv.cfg ∧ ∃ data, Answered s u l r 0 0 data)) ∧
    (∀ c, Asked s l r 0x41 → s.cfg.staging = some (l, c) → sha (blockAll c) ≠ b → b.length = 32 →
      Yields (.cfgCommit t l) s (fun u => Answered s u l r 17 0 [] ∧ LinkFrame s u)) ∧
    (∀ c, Asked s l r 0x42 → s.cfg.staging = some (l, c) → b = [] → Yields (.cfgDiscard t l) s (fun u =>
      u.cfg = { s.cfg with staging := none } ∧ Answered s u l r 0 0 [])) ∧
    (∀ k code, (code, k) ∈ [(0x41, Instr.cfgCommit t l), (0x42, .cfgDiscard t l)] → Asked s l r code →
      holdsStaging s l = false → Yields k s (fun u => Answered s u l r 17 0 [] ∧ LinkFrame s u))

/-- R102 to R104, R139, R140, R460: an image comes in, is selected and confirmed, and a reset is requested. -/
def Obligations.ImageAndResetCommands : Prop :=
  ∀ (s : State) (t : Tick) (l : Link) (r : Request),
    let x := max s.etc t
    let b := r.body
    (∀ n total k, Asked s l r 0x50 → sequenceEnded s = true → b = [BitVec.ofNat 8 n, 0, 0, 0] ++ leBytes 4 total →
      slotOf n = some k → s.sys.running ≠ some k → 192 ≤ total → total ≤ 262144 → Yields (.imgBegin t l) s (fun u =>
        imageOf u k = {} ∧ u.sec = { s.sec with transfer := some { slot := k, total := total, next := 0, link := l } } ∧
        Answered s u l r 0 0 [])) ∧
    (∀ y, Asked s l r 0x51 → s.sec.transfer = some y → y.link = l → leAt b 0 4 = y.next → 5 ≤ b.length →
      b.length ≤ 4092 → y.next + (b.length - 4) ≤ y.total → Yields (.imgData t l) s (fun u =>
        imageOf u y.slot = { imageOf s y.slot with bytes := (imageOf s y.slot).bytes ++ b.drop 4 } ∧
        u.sec = { s.sec with transfer := some { y with next := y.next + (b.length - 4) } } ∧
        Answered s u l r 0 0 (leBytes 4 (y.next + (b.length - 4))))) ∧
    (∀ y, Asked s l r 0x51 → s.sec.transfer = some y → y.link = l → leAt b 0 4 ≠ y.next → 5 ≤ b.length →
      b.length ≤ 4092 → Yields (.imgData t l) s (fun u => Answered s u l r 11 0 [] ∧ LinkFrame s u)) ∧
    (∀ y, Asked s l r 0x52 → s.sec.transfer = some y → y.link = l → b = [] → y.next = y.total →
      imageRefusal s y.slot (imageOf s y.slot).bytes = none → Yields (.imgEnd t l) s (fun u =>
        imageOf u y.slot = { bytes := (imageOf s y.slot).bytes, full := true, verified := true } ∧
        u.sec.transfer = none ∧ u.irc.host.pend.getLsbD 237 = true ∧
        Answered s u l r 0 0 (slice (imageOf s y.slot).bytes 8 8 ++ sha (slice (imageOf s y.slot).bytes 0 128)))) ∧
    (∀ y, Asked s l r 0x52 → s.sec.transfer = some y → y.link = l → b = [] → y.next ≠ y.total →
      Yields (.imgEnd t l) s (fun u => Answered s u l r 2 0 [] ∧ LinkFrame s u)) ∧
    (∀ n k, Asked s l r 0x53 → sequenceEnded s = true → b = [BitVec.ofNat 8 n, 0, 0, 0] → slotOf n = some k →
      (imageOf s k).full = true → (imageOf s k).verified = true → Yields (.imgSelect t l true) s (fun u =>
        u.nv.keys = (if imgSeq (imageOf s k).bytes = s.keys.floor then { s.keys with sel := k, trial := false }
          else { s.keys with sel := k, trial := true, trials := 3 }) ∧
        Answered s u l r 0 0 [])) ∧
    (∀ k, Asked s l r 0x54 → sequenceEnded s = true → s.sys.running = some k → b = [] →
      Yields (.imgConfirm t l true) s (fun u =>
        u.nv.keys = { s.keys with floor := max s.keys.floor (imgSeq (imageOf s k).bytes), trial := false } ∧
        u.irc.host.pend.getLsbD 237 = true ∧
        Answered s u l r 0 0 (leBytes 8 (max s.keys.floor (imgSeq (imageOf s k).bytes))))) ∧
    (Asked s l r 0x55 → sequenceEnded s = true → s.whl.sync = .nosync → b = [0, 0, 0, 0] →
      Yields (.reset t l) s (fun u =>
        u.sys = { s.sys with resetDue := some (s.sys.resetDue.getD (x + 10 * ticksPerMs)) } ∧
        Answered s u l r 0 0 [])) ∧
    (Asked s l r 0x55 → sequenceEnded s = true → s.whl.sync ≠ .nosync → Yields (.reset t l) s (fun u =>
      Answered s u l r 12 (syncCode s.whl.sync) [] ∧ LinkFrame s u))

/-- R101, R141, R364: a test shot inserts an event of the firmware's, and DIAG_RUN starts off-state tests or clears
fault latches. -/
def Obligations.ServiceCommands : Prop :=
  ∀ (s : State) (t : Tick) (l : Link) (r : Request),
    let x := max s.etc t
    let b := r.body
    (∀ ch p ang k, Asked s l r 0x60 → s.sys.running.isSome = true → ch ≤ 63 → p ≤ 255 →
      b = [BitVec.ofNat 8 ch, 0] ++ leBytes 2 p ++ leBytes 4 ang → ang < 2 ^ 32 →
      let ahead : Bool := match lensLin (s.advance t) with
        | some a => decide (a < ang)
        | none => false
      let e := { requestEvent 16 (BitVec.ofNat 32 ang) (BitVec.ofNat 32 (ch + p * 256 + 2 ^ 24)) 0 with
        ctag := if ahead then s.evs.cycle % 256 else (s.evs.cycle + 1) % 256 }
      s.flt.safe = false → ang / 4096 < 2 * s.nTeeth → positioned s.whl.sync = true → ch < s.channels →
      profileOk (s.profile p) ch e.ont = true → freeAfter s 8192 s.evs.lastSlot = some k → inWindow s e = false →
      evPassed (s.advance t) e = false → gateEvent s e = 0 → Yields (.testShot t l) s (fun u =>
        (u.slot k).state = .waiting ∧ (u.slot k).owner = 16 ∧ (u.slot k).ch = ch ∧ (u.slot k).prof = p ∧
        (u.slot k).target = BitVec.ofNat 32 ang ∧ (u.slot k).ctag = e.ctag ∧ (u.slot k).seq = s.evs.seq ∧
        (∀ m, m ≠ k → u.slot m = s.slot m) ∧ u.evs.seq = wrapInc 16 s.evs.seq ∧
        Answered s u l r 0 0 (leBytes 2 s.evs.seq ++ [0, 0]))) ∧
    (∀ ch p ang, Asked s l r 0x60 → s.sys.running.isSome = true → b = [BitVec.ofNat 8 ch, 0] ++ leBytes 2 p ++ leBytes 4 ang →
      ch ≤ 255 → p ≤ 65535 → 63 < ch ∨ 255 < p → Yields (.testShot t l) s (fun u =>
        Answered s u l r 11 2 [] ∧ LinkFrame s u)) ∧
    (Asked s l r 0x60 → s.sys.running.isSome = true → b.length = 8 → leAt b 1 1 = 0 → leAt b 0 1 ≤ 63 →
      leAt b 2 2 ≤ 255 → s.flt.safe = true → Yields (.testShot t l) s (fun u =>
        Answered s u l r 2 6 [] ∧ u.evs = { s.evs with refuse := wrapInc 32 s.evs.refuse, turn := 16 })) ∧
    (∀ m : BitVec 64, Asked s l r 0x61 → b = leBytes 8 m.toNat ++ [1, 0, 0, 0] → m.toNat < 2 ^ s.channels →
      s.flt.safe = false → Yields (.diagRunOffTest t l) s (fun u =>
        (∀ k : Fin 64, (s.dch k).test = none →
          (m.getLsbD k = false → u.dch k = s.dch k) ∧
          (m.getLsbD k = true → testEligible (s.advance t) k = true → u.dch k = { s.dch k with
            test := some x, testSingle := true, single := none }) ∧
          (m.getLsbD k = true → testEligible (s.advance t) k = false → u.dch k = { s.dch k with
            single := some (x + 10 * ticksPerMs) })) ∧
        Answered s u l r 0 0 [])) ∧
    (∀ m : BitVec 64, Asked s l r 0x61 → b = leBytes 8 m.toNat ++ [2, 0, 0, 0] → m.toNat < 2 ^ s.channels →
      Yields (.diagRunClear t l) s (fun u =>
        (∀ k : Fin 64, u.dch k = if m.getLsbD k then { s.dch k with offFlt := false, onFlt := false, off := 0, onCode := 0 }
          else s.dch k) ∧
        Answered s u l r 0 0 [])) ∧
    (∀ m : BitVec 64, Asked s l r 0x61 → b = leBytes 8 m.toNat ++ [1, 0, 0, 0] → s.flt.safe = true →
      Yields (.diagRunOffTest t l) s (fun u => Answered s u l r 2 0 [] ∧ LinkFrame s u))

/-- R24, R429 to R434: a scrub access reads the next word of its region, calibrations renew a sense item and the
Ruler, and an item without one goes stale. -/
def Obligations.ScrubbingAndCalibration : Prop :=
  ∀ (s : State) (t : Tick), Alive s →
    let x := max s.etc t
    (∀ g ok, let p := s.bgs.scrubPos.get 0 (regionIdx g)
      s.mem.bad = [] → p + 1 < scrubWords g →
      Yields (.scrubAccess t g .clean ok) s (fun u =>
        u.bgs.scrubPos.get 0 (regionIdx g) = p + 1 ∧ u.bgs.scrubAt.get 0 (portIdx g) = x ∧
        u.bgs.scrubCorr = s.bgs.scrubCorr ∧ u.bgs.scrubUncorr = s.bgs.scrubUncorr ∧ u.mem = s.mem ∧
        (g ≠ .eventTable → u.evs = s.evs) ∧
        (∀ k, g ≠ k → u.bgs.scrubPos.get 0 (regionIdx k) = s.bgs.scrubPos.get 0 (regionIdx k)))) ∧
    (∀ g ok, s.mem.bad = [] → scrubWords g ≤ s.bgs.scrubPos.get 0 (regionIdx g) + 1 →
      Yields (.scrubAccess t g .corrected ok) s (fun u =>
        u.bgs.scrubPos.get 0 (regionIdx g) = 0 ∧ u.bgs.scrubCorr = satInc 65535 s.bgs.scrubCorr ∧ u.mem = s.mem)) ∧
    (s.sys.running.isSome = true → Yields (.scrubAccess t .program .uncorrectable true) s (fun u =>
      u.bgs.scrubUncorr = satInc 255 s.bgs.scrubUncorr ∧ u.bgs.restored = satInc 255 s.bgs.restored ∧
      u.bgs.scrubAddr = 0x200000 + 4 * s.bgs.scrubPos.get 0 0 ∧ u.mem.cells = s.mem.cells ∧
      u.irc.host.pend.getLsbD 217 = true)) ∧
    (∀ k ok, s.bgs.scrubPos.get 0 3 = 4 * k → (s.slot k).state = .quarantined → s.mem.bad = [] →
      Yields (.scrubAccess t .eventTable .clean ok) s (fun u =>
        u.slot k = {} ∧ ∀ m, m ≠ k → u.slot m = s.slot m)) ∧
    (∀ taps h, s.ruler.phase = .locked → Yields (.rulerCalibration t taps h) s (fun u =>
      u.ruler = { s.ruler with taps := taps, corr := max (-128) (min 127 h) } ∧
      (20 < h ∨ h < -20 → u.irc.host.pend.getLsbD 218 = true))) ∧
    (∀ taps h, s.ruler.phase ≠ .locked → Yields (.rulerCalibration t taps h) s (fun u => u.ruler = s.ruler)) ∧
    (∀ i, itemPresent s i = true → itemReady (s.advance t) i = true → Yields (.senseCalibration t i) s (fun u =>
      isStale u i = false ∧ u.bgs.calAt.get 0 (itemIdx i) = x ∧ ∀ k, k ≠ i → isStale u k = isStale s k)) ∧
    (∀ i, itemPresent s i = true → isStale s i = false → s.bgs.calAt.get 0 (itemIdx i) + 60 * ticksPerS ≤ x →
      Yields (.senseStale t i) s (fun u =>
        isStale u i = true ∧ (∀ k, k ≠ i → isStale u k = isStale s k) ∧ u.irc.host.pend.getLsbD 219 = true))

/-- R108, R437 to R444: a retention refresh step looks at one block, a telemetry batch is built each second, and a
flush appends the signed chain head and orders its writes. -/
def Obligations.RefreshTelemetryAndFlush : Prop :=
  ∀ (s : State) (t : Tick), Alive s →
    let x := max s.etc t
    (∀ n l, s.supply.state ≠ .holdup → refreshDue (s.advance t) = true → logicalOf s s.bgs.refreshPos = some l →
      Yields (.retentionRefreshStep t (.bits n)) s (fun u =>
        u.bgs.jobs = s.bgs.jobs ++
          (if 2 ≤ n ∨ s.bgs.wroteAt.get 0 s.bgs.refreshPos + 31536000 * ticksPerS ≤ x then [.refresh l] else []) ∧
        u.bgs.refreshPos = (s.bgs.refreshPos + 1) % 1024 ∧ u.bgs.refreshAt = x ∧ u.nv = s.nv ∧
        (s.bgs.refreshPos = 1023 → u.irc.host.pend.getLsbD 222 = true))) ∧
    (∀ l m, s.supply.state ≠ .holdup → refreshDue (s.advance t) = true → logicalOf s s.bgs.refreshPos = some l →
      otherCopy l = some m → s.nv.badBlocks.get false m = false →
      Yields (.retentionRefreshStep t .uncorrectable) s (fun u =>
        u.bgs.jobs = s.bgs.jobs ++ [.restore l] ∧ u.bgs.lost = satInc 65535 s.bgs.lost ∧ u.nv = s.nv)) ∧
    (∀ m, s.bgs.telemSec < x / ticksPerS → Yields (.telemetryBatch t m) s (fun u =>
      u.bgs = { s.bgs with telemSec := x / ticksPerS, bseq := wrapInc 32 s.bgs.bseq, batch := u.bgs.batch,
                           guardLog := u.bgs.guardLog } ∧
      u.bgs.batch.take 20 = leBytes 4 0x42544C4B ++ leBytes 4 (wrapInc 32 s.bgs.bseq) ++
        leBytes 8 (x / ticksPerS * ticksPerS) ++ leBytes 4 (telemSet s) ∧
      u.supply = { s.supply with
        ain := Table.setList 0 [] 0 ((m.ain.take 8).map ainCode), ainOver := u.supply.ainOver, va5Mv := m.va5,
        storeMv := min 40000 (10 * m.store) } ∧
      (∀ i, i < 8 → u.supply.ainOver.getLsbD i = decide (5100 < m.ain.getD i 0) ∧
        (5100 < m.ain.getD i 0 → u.supply.ain.get 0 i = 4095)) ∧ u.irc.host.pend.getLsbD 225 = true)) ∧
    (s.bgs.flushSlot < x / (10 * ticksPerS) → flushing s = false → s.bgs.lostRun = 0 → s.bgs.logNext ≠ s.bgs.headAt →
      Yields (.logbookFlush t) s (fun u =>
        (∃ e, u.bgs.tail = s.bgs.tail ++ [e] ∧ e.kind = 16 ∧ e.index = s.bgs.logNext ∧ e.prev = s.bgs.lastHash ∧
          e.body.take 16 = leBytes 4 0x484C4C4B ++ leBytes 4 ((s.bgs.logNext + 2 ^ 32 - 1) % 2 ^ 32) ++ leBytes 8 x) ∧
        u.bgs.jobs = s.bgs.jobs ++ [.logFlush (s.bgs.tail.length + 1), .wearSave] ∧
        u.bgs.logNext = wrapInc 32 s.bgs.logNext ∧ u.bgs.headAt = u.bgs.logNext ∧
        u.sec = { s.sec with signNext := s.sec.signNext + 1 })) ∧
    (s.bgs.flushSlot < x / (10 * ticksPerS) → flushing s = true → Yields (.logbookFlush t) s (fun u =>
      u.bgs = { s.bgs with flushSlot := x / (10 * ticksPerS), guardLog := u.bgs.guardLog }))

/-- R9, R10, R124, R446 to R449, R472: COUNTERS frames and the Mirror lanes, the latches of a counter pair and of
`LNS_ANGLE`, what a write to a register does by requester, and the words an SPI transaction writes. -/
def Obligations.MirrorAndRegisterAccess : Prop :=
  ∀ (s : State) (t : Tick), Alive s →
    let x := max s.etc t
    (s.obs.counterMs < x / ticksPerMs → s.mirrorEn % 4 = 2 → s.obs.lane1.sending = none → s.obs.lane1.queue = [] →
      s.obs.lane1.lossRun = 0 → Yields (.counterFrame t) s (fun u =>
        u.obs = { s.obs with
          counterMs := x / ticksPerMs
          lane1 := { s.obs.lane1 with sending := some {
            type := 8, data := [8, 0] ++ leBytes 2 s.lns.speed ++ leBytes 4 s.evs.cycle ++ leBytes 4 s.evs.ins ++
              leBytes 4 s.evs.drops ++ leBytes 4 s.dia.recWr ++ leBytes 4 s.flt.total ++
              leBytes 8 (x / ticksPerMs * ticksPerMs) } } })) ∧
    (∀ f n, s.obs.lane0.sending = some f → nextFrame s.obs.lane0.queue = some n →
      Yields (.mirrorFrameSent t 0) s (fun u => u.obs = { s.obs with
        lane0 := { s.obs.lane0 with
          sending := some n, queue := s.obs.lane0.queue.erase n, sent := wrapInc 32 s.obs.lane0.sent } })) ∧
    (∀ r (a : BitVec 24) v, a.toNat < 0x10000 → a.toNat % 4 = 0 → a.toNat ≠ 0x6000 → pairAt (s.advance t) a.toNat = some v →
      Yields (.snapshotRead t r a) s (fun u =>
        u.snaps.high.get 0 (reqNum r * 65536 + (a.toNat + 4)) = BitVec.ofNat 32 (v / 2 ^ 32) ∧
        (∀ k, k ≠ reqNum r * 65536 + (a.toNat + 4) → u.snaps.high.get 0 k = s.snaps.high.get 0 k) ∧
        u.snaps.angLo = s.snaps.angLo ∧ u.snaps.angHi = s.snaps.angHi ∧ u.nv = s.nv)) ∧
    (∀ r, Yields (.lnsAngleRead t r) s (fun u =>
      u.snaps.angLo.get 0 (reqNum r) = BitVec.ofNat 32 x ∧ u.snaps.angHi.get 0 (reqNum r) = BitVec.ofNat 32 (x / 2 ^ 32) ∧
      u.snaps.high = s.snaps.high ∧
      ∀ k, k ≠ reqNum r → u.snaps.angLo.get 0 k = s.snaps.angLo.get 0 k ∧ u.snaps.angHi.get 0 k = s.snaps.angHi.get 0 k)) ∧
    (∀ v : Word, Yields (.registerWrite t .core 0x6030 v) s (fun u =>
      u.lns = { s.lns with spdLo := v.toNat % 65536, spdHi := v.toNat / 65536 })) ∧
    (∀ (k : Nat) (v : Word), k < 32 → Yields (.registerWrite t .core (BitVec.ofNat 24 (0x1000 + 4 * k)) v) s (fun u =>
      u.irc.levels.get (levelReset k) k = v ∧ ∀ m, m ≠ k → u.irc.levels.get (levelReset m) m = s.irc.levels.get (levelReset m) m)) ∧
    (∀ (a : BitVec 24) v, s.sys.linksUp = true → a.toNat % 4 = 0 → a.toNat ≠ 0x100 →
      (a.toNat < 0x200 ∨ 0x400 ≤ a.toNat) → (a.toNat < 0x1100 ∨ 0x1178 ≤ a.toNat) →
      Yields (.registerWrite t .host a v) s (fun u =>
        u.links = { s.links with hostRej := satInc 0xFFFFFFFF s.links.hostRej } ∧ u.nv = s.nv ∧ u.sys = s.sys)) ∧
    (∀ r (a : BitVec 24) v, a.toNat % 4 ≠ 0 ∨ (∃ c, r = .dma c) ∨
        (∃ q p, r = .ctx q p ∧ admitted (s.taskOf (8 * q.val + p.val)).segs .store a.toNat 4 = false) →
      Yields (.registerWrite t r a v) s (fun u => u = { s with
        now := max s.now t, etc := x, irc := { s.irc with line := u.irc.line, hold := u.irc.hold, quiet := u.irc.quiet } })) ∧
    (∀ n (a : BitVec 24) (w v : Word) (z : List Byte), a.toNat % 4 = 0 → z.length < 4 →
      spiCommands t n ([2] ++ beBytes 3 a.toNat ++ leBytes 4 w.toNat ++ leBytes 4 v.toNat ++ z) =
        [.registerWrite t .host a w, .registerWrite t .host (a + 4) v]) ∧
    (∀ n b, spiAddr b % 4 ≠ 0 ∨ (b.head? ≠ some 0x0B ∧ b.head? ≠ some 2) → spiCommands t n b = [])
end

