-- ==== Sys2Proof/Laws/Effect.lean ====
section
/-! SUPPORT. What a command does, said once: the instant it happens at, its effect, and exec in terms of the two. -/

namespace Sys2Proof.Machine

/-- The instant a command happens at. -/
def instant : Instr → Tick
  | .wheelCrossing t _ _ _ | .strainerAccept t _ | .pulseLongTimeout t _ | .secondaryPromotion t => t
  | .virtualBoundary t | .countHold t | .toothOverdue t | .speedRecompute t => t
  | .stall t | .anglePassed t _ | .eventInsertion t _ _ | .eventAimRequest t _ _ => t
  | .eventCancelRequest t _ _ | .commit t _ _ | .eventTableEccError t _ _ | .profileStart t _ => t
  | .regulatorSwitch t _ _ | .peakEnd t _ _ _ | .peakTimeout t _ _ _ | .transitionEnd t _ _ => t
  | .ditherStep t _ | .turnOffInstant t _ _ _ | .turnOffComplete t _ _ | .channelOvercurrent t _ _ => t
  | .bankOvercurrent t _ _ | .onMaxStop t _ | .onStateFault t _ _ | .extensionWrite t _ _ _ => t
  | .setpointWrite t _ _ | .kettleLevelChange t _ _ | .kettleChargeDeadline t _ | .kettleOvervoltage t _ _ => t
  | .kettleCapacitanceMeasure t _ _ | .closingRecordWritten t _ | .captureEnd t _ | .offTestStart t => t
  | .offTestComplete t _ _ | .kcPeriodBoundary t _ _ _ | .kcTrigger t _ _ _ | .ebPeriodBoundary t _ _ => t
  | .ebPerEvent t _ | .ebPhaseEdge t _ _ | .ebDeadTimeEnd t _ _ | .tripAccept t _ _ => t
  | .blankingEnd t _ | .ebEnable t _ | .ebDisable t _ | .ebLoadArm t _ => t
  | .ebImmediateWrite t _ _ _ | .ebTripClear t _ | .pwmGlbLoad t _ | .pwmGlbStart t _ => t
  | .timerStart t _ | .timerStop t _ | .timerTargetWrite t _ _ | .timGlbStart t _ => t
  | .timerExpiry t _ | .captureEdge t _ _ _ | .supplyThresholdCrossing t _ _ _ _ | .supplyJudgement t _ => t
  | .supplyDebounceExpiry t | .holdupRecoveryExpiry t | .holdupStoreExhausted t | .enableChange t _ => t
  | .thermalThreshold t _ _ | .sensorSupplyFault t _ | .referenceLoss t | .holdoverExpiry t => t
  | .referenceReturn t | .relockComplete t | .referenceStarted t | .resetNPulse t _ => t
  | .claimNChange t _ | .challengeExpiry t | .releaseReminder t | .releaseCountdownExpiry t => t
  | .entropyHealthFailure t | .lockoutExpiry t _ | .envelopeCopyError t | .envelopeReloadComplete t => t
  | .envelopeWriteComplete t _ | .configStoreComplete t _ | .caddyWriteComplete t _ | .ohmacFrame t _ => t
  | .frameGapTimeout t _ | .mbxSend t _ | .mbxRxDone t | .mbxAbort t => t
  | .canBusOff t _ | .sessionOpenTimeout t _ | .sessionIdleTimeout t _ | .identity t _ => t
  | .attest t _ | .claim t _ _ | .enrol t _ _ | .revoke t _ _ => t
  | .transfer t _ _ | .decommission t _ _ | .retire t _ _ | .forceRelease t _ => t
  | .envInstall t _ | .open1 t _ | .open3 t _ | .close t _ => t
  | .ping t _ | .readRegs t _ | .cycleRecord t _ | .telemetry t _ => t
  | .logRead t _ | .targets t _ | .cfgStage t _ | .cfgCommit t _ => t
  | .cfgDiscard t _ | .cfgRead t _ | .cfgStatus t _ | .imgBegin t _ => t
  | .imgData t _ | .imgEnd t _ | .imgSelect t _ _ | .imgConfirm t _ _ => t
  | .reset t _ | .resetCommandDelayExpiry t | .testShot t _ | .diagRunOffTest t _ => t
  | .diagRunClear t _ | .add t _ | .sub t _ | .addc t _ => t
  | .subc t _ | .and t _ | .or t _ | .xor t _ => t
  | .shl t _ | .shr t _ | .sar t _ | .mul t _ => t
  | .mulhu t _ | .mulhs t _ | .divu t _ | .remu t _ => t
  | .slt t _ | .sltu t _ | .adda t _ | .dista t _ => t
  | .addi t _ | .andi t _ | .ori t _ | .xori t _ => t
  | .shli t _ | .shri t _ | .sari t _ | .lui t _ => t
  | .ld t _ | .ldh t _ | .ldb t _ | .st t _ => t
  | .sth t _ | .stb t _ | .beq t _ | .bne t _ => t
  | .blt t _ | .bge t _ | .bltu t _ | .bgeu t _ => t
  | .bf t _ | .jmp t _ | .jal t _ | .jr t _ => t
  | .snap t _ | .rds t _ | .waita t _ | .waitt t _ => t
  | .waite t _ | .waittReached t _ _ | .waitTimeout t _ _ | .sched t _ => t
  | .aim t _ | .cancel t _ | .schedulerResult t _ _ | .note t _ => t
  | .caprd t _ | .mbxrd t _ | .mbxcp t _ | .dmago t _ => t
  | .signal t _ | .yield t _ | .endTask t _ | .timeTrigger t _ _ => t
  | .budgetExhausted t _ _ | .dmaBurst t _ _ _ | .dmaTransferComplete t _ | .irqClaim t _ _ => t
  | .irqComplete t _ _ | .moderationHoldEnd t | .graceDeadline t | .faultAcknowledge t _ _ => t
  | .watchdogService t _ | .watchdogTimeout t | .watchdogWarning t | .handshakeStall t => t
  | .mgmtCoreStall t | .scrubAccess t _ _ _ | .rulerCalibration t _ _ | .senseCalibration t _ => t
  | .senseStale t _ | .retentionRefreshStep t _ | .telemetryBatch t _ | .logbookFlush t => t
  | .counterFrame t | .mirrorFrameSent t _ | .snapshotRead t _ _ | .lnsAngleRead t _ => t
  | .registerWrite t _ _ _ | .standbyRequest t | .sleepRequest t | .autoStandby t => t
  | .autoSleep t | .standbyWake t | .sleepWake t _ | .lossReported t => t
  | .holdupStoreCharged t | .canBusOffRecovery t _ | .entropyHealthRecovery t | .sensorSupplyRecovery t _ => t
  | .tripInputRelease t _ | .thermalDeratingChange t _ _ | .digitiserSample t _ _ | .offTestNotRun t _ => t
  | .illegalInstruction t _ | .sleepEntryComplete t | .resetStepComplete t _ | .canFrameTransmitted t _ => t

/-- The commands that happen whether or not the module is powered: the supply inputs, the pins and the temperatures. -/
def unpowered : Instr → Bool
  | .tripAccept _ _ _ | .supplyThresholdCrossing _ _ _ _ _ | .supplyJudgement _ _ | .enableChange _ _ | .thermalThreshold _ _ _ | .claimNChange _ _ | .tripInputRelease _ _ | .thermalDeratingChange _ _ _ => true
  | _ => false

/-- A RESET_N pulse whose outcome R68 does not define. -/
def undefinedPulse (s : State) : Instr → Bool
  | .resetNPulse _ lowNs => !(decide (lowNs < 2000) || s.supply.state == .down) && decide (lowNs < 10000)
  | _ => false

/-- The effect of a command at its instant. -/
def effect : Instr → State → State
  | .wheelCrossing _ n rising peakMv => doWheelCrossing n.val rising peakMv
  | .strainerAccept _ n => doStrainerAccept n.val
  | .pulseLongTimeout _ n => doPulseLongTimeout n.val
  | .secondaryPromotion _ => doSecondaryPromotion
  | .virtualBoundary _ => doVirtualBoundary
  | .countHold _ => doCountHold
  | .toothOverdue _ => doToothOverdue
  | .speedRecompute _ => doSpeedRecompute
  | .stall _ => doStall
  | .anglePassed _ angle => doAnglePassed angle
  | .eventInsertion _ q p => doEventInsertion q.val p.val
  | .eventAimRequest _ q p => doEventAim q.val p.val
  | .eventCancelRequest _ q p => doEventCancel q.val p.val
  | .commit _ slot armAt => doCommit slot.val armAt
  | .eventTableEccError _ slot part => doEventTableEccError slot.val part
  | .profileStart _ k => doProfileStart k.val
  | .regulatorSwitch _ k current => doRegulatorSwitch k.val current
  | .peakEnd _ k current energyUj => doPeakEnd k.val current energyUj
  | .peakTimeout _ k current energyUj => doPeakTimeout k.val current energyUj
  | .transitionEnd _ k current => doTransitionEnd k.val current
  | .ditherStep _ k => doDitherStep k.val
  | .turnOffInstant _ k current energyUj => doTurnOffInstant k.val current energyUj
  | .turnOffComplete _ k current => doTurnOffComplete k.val current
  | .channelOvercurrent _ k current => doChannelOvercurrent k.val current
  | .bankOvercurrent _ b sum => doBankOvercurrent b.val sum
  | .onMaxStop _ k => doOnMaxStop k.val
  | .onStateFault _ k m => doOnStateFault k.val m
  | .extensionWrite _ q k ext => doExtensionWrite q.val k.val ext
  | .setpointWrite _ k value => doSetpointWrite k.val value
  | .kettleLevelChange _ k volt => doKettleLevelChange k.val volt
  | .kettleChargeDeadline _ k => doKettleChargeDeadline k.val
  | .kettleOvervoltage _ k volt => doKettleOvervoltage k.val volt
  | .kettleCapacitanceMeasure _ k microfarad => doKettleCapacitance k.val microfarad
  | .closingRecordWritten _ b => doClosingRecordWritten b.val
  | .captureEnd _ b => doCaptureEnd b.val
  | .offTestStart _ => doOffTestStart
  | .offTestComplete _ k samples => doOffTestComplete k.val samples
  | .kcPeriodBoundary _ k per cmp => doKcPeriodBoundary k.val per cmp
  | .kcTrigger _ k j code => doKcTrigger k.val j.val code
  | .ebPeriodBoundary _ n bootLow => doEbPeriodBoundary n.val bootLow
  | .ebPerEvent _ n => doEbPerEvent n.val
  | .ebPhaseEdge _ n bootLow => doEbPhaseEdge n.val bootLow
  | .ebDeadTimeEnd _ n swung => doEbDeadTimeEnd n.val swung
  | .tripAccept _ n j => doTripAccept n.val j.j.val j.held
  | .blankingEnd _ n => doBlankingEnd n.val
  | .ebEnable _ n => doEbEnable n.val
  | .ebDisable _ n => doEbDisable n.val
  | .ebLoadArm _ n => doEbLoadArm n.val
  | .ebImmediateWrite _ n which value => doEbWrite n.val which value
  | .ebTripClear _ n => doEbTripClear n.val
  | .pwmGlbLoad _ mask => doPwmGlbLoad mask.toNat
  | .pwmGlbStart _ mask => doPwmGlbStart mask.toNat
  | .timerStart _ n => doTimerStart n.val
  | .timerStop _ n => doTimerStop n.val
  | .timerTargetWrite _ n target => doTimerTargetWrite n.val target
  | .timGlbStart _ mask => doTimGlbStart mask.toNat
  | .timerExpiry _ n => doTimerExpiry n.val
  | .captureEdge _ n stamp rising => doCaptureEdge n.val stamp rising
  | .supplyThresholdCrossing _ j th up millivolt => doSupplyThresholdCrossing j th up millivolt
  | .supplyJudgement _ j => doSupplyJudgement j
  | .supplyDebounceExpiry _ => doSupplyDebounceExpiry
  | .holdupRecoveryExpiry _ => doHoldupRecoveryExpiry
  | .holdupStoreExhausted _ => doHoldupStoreExhausted
  | .enableChange _ on => doEnableChange on
  | .thermalThreshold _ d celsius => doThermalThreshold d celsius
  | .sensorSupplyFault _ r => doSensorSupplyFault r
  | .referenceLoss _ => doReferenceLoss
  | .holdoverExpiry _ => doHoldoverExpiry
  | .referenceReturn _ => doReferenceReturn
  | .relockComplete _ => doRelockComplete
  | .referenceStarted _ => doReferenceStarted
  | .resetNPulse _ lowNs => if lowNs < 2000 then id else doResetN
  | .claimNChange _ strapped => doClaimNChange strapped
  | .challengeExpiry _ => doChallengeExpiry
  | .releaseReminder _ => doReleaseReminder
  | .releaseCountdownExpiry _ => doReleaseCountdownExpiry
  | .entropyHealthFailure _ => doEntropyHealthFailure
  | .lockoutExpiry _ l => doLockoutExpiry l
  | .envelopeCopyError _ => doEnvelopeCopyError
  | .envelopeReloadComplete _ => doEnvelopeReloadComplete
  | .envelopeWriteComplete _ readBackOk => doEnvelopeWriteComplete readBackOk
  | .configStoreComplete _ readBackOk => doConfigStoreComplete readBackOk
  | .caddyWriteComplete _ readBackOk => doCaddyWriteComplete readBackOk
  | .ohmacFrame _ src => doOhmacFrame src
  | .frameGapTimeout _ l => doFrameGapTimeout l
  | .mbxSend _ len => doMbxSend len
  | .mbxRxDone _ => doMbxRxDone
  | .mbxAbort _ => doMbxAbort
  | .canBusOff _ second => doCanBusOff second
  | .sessionOpenTimeout _ l => doSessionOpenTimeout l
  | .sessionIdleTimeout _ l => doSessionIdleTimeout l
  | .identity _ l => doIdentity l
  | .attest _ l => doAttest l
  | .claim _ l stored => doClaim l stored
  | .enrol _ l stored => doEnrol l stored
  | .revoke _ l stored => doRevoke l stored
  | .transfer _ l stored => doTransfer l stored
  | .decommission _ l stored => doDecommission l stored
  | .retire _ l stored => doRetire l stored
  | .forceRelease _ l => doForceRelease l
  | .envInstall _ l => doEnvInstall l
  | .open1 _ l => doOpen1 l
  | .open3 _ l => doOpen3 l
  | .close _ l => doClose l
  | .ping _ l => doPing l
  | .readRegs _ l => doReadRegs l
  | .cycleRecord _ l => doCycleRecord l
  | .telemetry _ l => doTelemetry l
  | .logRead _ l => doLogRead l
  | .targets _ l => doTargets l
  | .cfgStage _ l => doCfgStage l
  | .cfgCommit _ l => doCfgCommit l
  | .cfgDiscard _ l => doCfgDiscard l
  | .cfgRead _ l => doCfgRead l
  | .cfgStatus _ l => doCfgStatus l
  | .imgBegin _ l => doImgBegin l
  | .imgData _ l => doImgData l
  | .imgEnd _ l => doImgEnd l
  | .imgSelect _ l stored => doImgSelect l stored
  | .imgConfirm _ l stored => doImgConfirm l stored
  | .reset _ l => doReset l
  | .resetCommandDelayExpiry _ => doResetCommandDelayExpiry
  | .testShot _ l => doTestShot l
  | .diagRunOffTest _ l => doDiagRunOffTest l
  | .diagRunClear _ l => doDiagRunClear l
  | .add _ j => doAdd j
  | .sub _ j => doSub j
  | .addc _ j => doAddc j
  | .subc _ j => doSubc j
  | .and _ j => doAnd j
  | .or _ j => doOr j
  | .xor _ j => doXor j
  | .shl _ j => doShl j
  | .shr _ j => doShr j
  | .sar _ j => doSar j
  | .mul _ j => doMul j
  | .mulhu _ j => doMulhu j
  | .mulhs _ j => doMulhs j
  | .divu _ j => doDivu j
  | .remu _ j => doRemu j
  | .slt _ j => doSlt j
  | .sltu _ j => doSltu j
  | .adda _ j => doAdda j
  | .dista _ j => doDista j
  | .addi _ j => doAddi j
  | .andi _ j => doAndi j
  | .ori _ j => doOri j
  | .xori _ j => doXori j
  | .shli _ j => doShli j
  | .shri _ j => doShri j
  | .sari _ j => doSari j
  | .lui _ j => doLui j
  | .ld _ j => doLd j
  | .ldh _ j => doLdh j
  | .ldb _ j => doLdb j
  | .st _ j => doSt j
  | .sth _ j => doSth j
  | .stb _ j => doStb j
  | .beq _ j => doBeq j
  | .bne _ j => doBne j
  | .blt _ j => doBlt j
  | .bge _ j => doBge j
  | .bltu _ j => doBltu j
  | .bgeu _ j => doBgeu j
  | .bf _ j => doBf j
  | .jmp _ j => doJmp j
  | .jal _ j => doJal j
  | .jr _ j => doJr j
  | .snap _ j => doSnap j
  | .rds _ j => doRds j
  | .waita _ j => doWaita j
  | .waitt _ j => doWaitt j
  | .waite _ j => doWaite j
  | .waittReached _ q p => doWaittReached q.val p.val
  | .waitTimeout _ q p => doWaitTimeout q.val p.val
  | .sched _ j => doSched j
  | .aim _ j => doAim j
  | .cancel _ j => doCancel j
  | .schedulerResult _ q p => doSchedulerResult q.val p.val
  | .note _ j => doNote j
  | .caprd _ j => doCaprd j
  | .mbxrd _ j => doMbxrd j
  | .mbxcp _ j => doMbxcp j
  | .dmago _ j => doDmago j
  | .signal _ j => doSignal j
  | .yield _ j => doYield j
  | .endTask _ j => doEnd j
  | .timeTrigger _ q p => doTimeTrigger q.val p.val
  | .budgetExhausted _ q p => doBudgetExhausted q.val p.val
  | .dmaBurst _ c word ecc => doDmaBurst c.val word.val ecc
  | .dmaTransferComplete _ c => doDmaTransferComplete c.val
  | .irqClaim _ g src => doIrqClaim g src.toNat
  | .irqComplete _ g src => doIrqComplete g src.toNat
  | .moderationHoldEnd _ => doModerationHoldEnd
  | .graceDeadline _ => doGraceDeadline
  | .faultAcknowledge _ w mask => doFaultAcknowledge w.val mask
  | .watchdogService _ value => doWatchdogService value
  | .watchdogTimeout _ => doWatchdogTimeout
  | .watchdogWarning _ => doWatchdogWarning
  | .handshakeStall _ => doHandshakeStall
  | .mgmtCoreStall _ => doMgmtCoreStall
  | .scrubAccess _ g ecc caddyOk => doScrubAccess g ecc caddyOk
  | .rulerCalibration _ taps halfPpm => doRulerCalibration taps halfPpm
  | .senseCalibration _ item => doSenseCalibration item
  | .senseStale _ item => doSenseStale item
  | .retentionRefreshStep _ r => doRetentionRefreshStep r
  | .telemetryBatch _ m => doTelemetryBatch m
  | .logbookFlush _ => doLogbookFlush
  | .counterFrame _ => doCounterFrame
  | .mirrorFrameSent _ lane => doMirrorFrameSent lane.val
  | .snapshotRead _ r addr => doSnapshotRead r addr.toNat
  | .lnsAngleRead _ r => doLnsAngleRead r
  | .registerWrite _ r addr value => doRegisterWrite r addr.toNat value
  | .standbyRequest _ => doStandbyRequest
  | .sleepRequest _ => doSleepRequest
  | .autoStandby _ => doAutoStandby
  | .autoSleep _ => doAutoSleep
  | .standbyWake _ => doStandbyWake
  | .sleepWake _ cause => doSleepWake cause
  | .lossReported _ => doLossReported
  | .holdupStoreCharged _ => doHoldupStoreCharged
  | .canBusOffRecovery _ second => doCanBusOffRecovery second
  | .entropyHealthRecovery _ => doEntropyHealthRecovery
  | .sensorSupplyRecovery _ r => doSensorSupplyRecovery r
  | .tripInputRelease _ j => doTripInputRelease j.val
  | .thermalDeratingChange _ k coldPlateTenths => doThermalDeratingChange k.val coldPlateTenths
  | .digitiserSample _ b code => doDigitiserSample b.val code
  | .offTestNotRun _ k => doOffTestNotRun k.val
  | .illegalInstruction _ j => doIllegalInstruction j
  | .sleepEntryComplete _ => doSleepEntryComplete
  | .resetStepComplete _ r => doResetStepComplete r
  | .canFrameTransmitted _ second => doCanFrameTransmitted second

/-- A command at its instant: time passes, and where the module is powered its effect follows, with the power
passages and HOST_INT_N. -/
def after (i : Instr) (s : State) : State :=
  let s := s.advance (instant i)
  match unpowered i with
  | true => settle (powerSettle (effect i (timeNow s)))
  | false => if s.supply.state = .down then s else settle (powerSettle (effect i (timeNow s)))

/-- Everything exec can answer: the fault of an undefined RESET_N pulse, or the state after the command. -/
theorem exec_eq (i : Instr) (s : State) :
    exec i s = if undefinedPulse s i then .fault .undefinedResetPulse else .next (after i s) := by
  cases i
  case resetNPulse t lowNs =>
    have hi : instant (.resetNPulse t lowNs) = t := rfl
    have hu : unpowered (.resetNPulse t lowNs) = false := rfl
    have he : effect (.resetNPulse t lowNs) = if lowNs < 2000 then id else doResetN := rfl
    have hs : (s.advance t).supply.state = s.supply.state := rfl
    show execResetNPulse t lowNs s = _
    unfold execResetNPulse run after
    simp only [hi, hu, he, hs, undefinedPulse]
    by_cases hd : s.supply.state = .down <;> by_cases h2 : lowNs < 2000 <;> by_cases h3 : 10000 ≤ lowNs <;>
      simp [hd, h2, h3]
  all_goals rfl

/-- The state a completed instruction leaves. -/
def Done.st : Done → State
  | .next s => s
  | .fault _ _ s => s
@[simp] theorem Done.st_next (s : State) : (Done.next s).st = s := rfl
@[simp] theorem Done.st_fault (a : Nat) (b : Word) (s : State) : (Done.fault a b s).st = s := rfl
/-- What no command's effect touches: the queue, ETC and the instant once reached, and the order code. -/
abbrev State.base (s : State) : List Instr × Tick × Tick × Bool := (s.pending, s.etc, s.now, s.sys.order64)

end Sys2Proof.Machine
end

