-- ==== Sys2Proof/Laws/Table.lean ====
section
/-! SUPPORT. The laws of canonical tables: what a read after a write gives, and that every table operation
keeps the canonical form. -/

namespace Sys2Proof.Machine

variable {α : Type}

@[simp] theorem Table.get_nil (d : α) (i : Nat) : Table.get d [] i = d := rfl

theorem Table.get_erase_same (d : α) (m : Table α) (i : Nat) : Table.get d (Table.erase i m) i = d := by
  induction m with
  | nil => rfl
  | cons e r ih =>
    unfold Table.erase
    split
    · exact ih
    · rename_i h
      simp only [Table.get, if_neg h, ih]

theorem Table.get_erase_other (d : α) (m : Table α) {i j : Nat} (h : j ≠ i) :
    Table.get d (Table.erase i m) j = Table.get d m j := by
  induction m with
  | nil => rfl
  | cons e r ih =>
    unfold Table.erase
    split
    · rename_i hk
      simp only [Table.get, ih]
      rw [if_neg (by omega)]
    · simp only [Table.get, ih]

theorem Table.get_insert_other (d : α) (m : Table α) {i j : Nat} (v : α) (h : j ≠ i) :
    Table.get d (Table.insert i v m) j = Table.get d m j := by
  induction m with
  | nil => simp [Table.insert, Table.get, h.symm]
  | cons e r ih =>
    unfold Table.insert
    split
    · simp only [Table.get, if_neg h.symm]
    · simp only [Table.get, ih]

theorem Table.get_insert_same (d : α) (m : Table α) (i : Nat) (v : α) (h : ∀ e ∈ m, e.1 ≠ i) :
    Table.get d (Table.insert i v m) i = v := by
  induction m with
  | nil => simp [Table.insert, Table.get]
  | cons e r ih =>
    unfold Table.insert
    split
    · simp [Table.get]
    · have h1 := h e (by simp)
      simp only [Table.get, if_neg h1]
      exact ih (fun e he => h e (by simp [he]))

theorem Table.erase_ne (m : Table α) (i : Nat) : ∀ e ∈ Table.erase i m, e.1 ≠ i := by
  induction m with
  | nil => simp [Table.erase]
  | cons e r ih =>
    unfold Table.erase
    split
    · exact ih
    · rename_i h
      intro x hx
      rcases List.mem_cons.1 hx with hx | hx
      · rw [hx]; exact h
      · exact ih x hx

theorem Table.above_erase {k : Nat} {m : Table α} (i : Nat) (h : Table.above k m = true) :
    Table.above k (Table.erase i m) = true := by
  induction m with
  | nil => rfl
  | cons e r ih =>
    simp only [Table.above, List.all_cons, Bool.and_eq_true] at h ih ⊢
    unfold Table.erase
    split
    · exact ih h.2
    · simp only [List.all_cons, Bool.and_eq_true]
      exact ⟨h.1, ih h.2⟩

theorem Table.above_insert {k : Nat} {m : Table α} {i : Nat} (v : α) (h : Table.above k m = true) (hi : k < i) :
    Table.above k (Table.insert i v m) = true := by
  induction m with
  | nil => simp [Table.insert, Table.above, hi]
  | cons e r ih =>
    simp only [Table.above, List.all_cons, Bool.and_eq_true, decide_eq_true_eq] at h ih ⊢
    unfold Table.insert
    split
    · simp only [List.all_cons, Bool.and_eq_true, decide_eq_true_eq]
      exact ⟨hi, h⟩
    · simp only [List.all_cons, Bool.and_eq_true, decide_eq_true_eq]
      exact ⟨h.1, ih h.2⟩

theorem Table.above_lower {k l : Nat} {m : Table α} (h : Table.above k m = true) (hl : l ≤ k) : Table.above l m = true := by
  simp only [Table.above, List.all_eq_true, decide_eq_true_eq] at h ⊢
  exact fun e he => Nat.lt_of_le_of_lt hl (h e he)

variable [DecidableEq α]

omit [DecidableEq α] in
theorem Table.erase_erase (m : Table α) (i : Nat) : Table.erase i (Table.erase i m) = Table.erase i m := by
  induction m with
  | nil => rfl
  | cons e r ih =>
    by_cases h : e.1 = i
    · simp only [Table.erase, if_pos h, ih]
    · simp only [Table.erase, if_neg h, ih]

omit [DecidableEq α] in
theorem Table.erase_insert (m : Table α) (i : Nat) (v : α) :
    Table.erase i (Table.insert i v m) = Table.erase i m := by
  induction m with
  | nil => simp [Table.insert, Table.erase]
  | cons e r ih =>
    unfold Table.insert
    split
    · simp [Table.erase]
    · by_cases h : e.1 = i
      · simp only [Table.erase, if_pos h, ih]
      · simp only [Table.erase, if_neg h, ih]

/-- The last write of an index is what counts. -/
@[simp] theorem Table.set_set (d : α) (m : Table α) (i : Nat) (v w : α) :
    Table.set d (Table.set d m i v) i w = Table.set d m i w := by
  have h : Table.erase i (Table.set d m i v) = Table.erase i m := by
    unfold Table.set
    split
    · exact Table.erase_erase m i
    · rw [Table.erase_insert, Table.erase_erase]
  unfold Table.set at h ⊢
  rw [h]

/-- A read of the index written gives the value written. -/
@[simp] theorem Table.get_set_same (d : α) (m : Table α) (i : Nat) (v : α) : Table.get d (Table.set d m i v) i = v := by
  unfold Table.set
  split
  · rename_i h
    rw [Table.get_erase_same, h]
  · exact Table.get_insert_same _ _ _ _ (Table.erase_ne m i)

/-- A write leaves every other index alone. -/
theorem Table.get_set_other (d : α) (m : Table α) {i j : Nat} (v : α) (h : j ≠ i) :
    Table.get d (Table.set d m i v) j = Table.get d m j := by
  unfold Table.set
  split
  · exact Table.get_erase_other d m h
  · rw [Table.get_insert_other d _ v h, Table.get_erase_other d m h]

/-- A read after a write, at any index. -/
theorem Table.get_set (d : α) (m : Table α) (i j : Nat) (v : α) :
    Table.get d (Table.set d m i v) j = if j = i then v else Table.get d m j := by
  split
  · rename_i h
    rw [h, Table.get_set_same]
  · rename_i h
    exact Table.get_set_other d m v h

/-- A write of consecutive values leaves the indices outside them alone. -/
theorem Table.get_setList_outside (d : α) (m : Table α) (a j : Nat) (l : List α) (h : j < a ∨ a + l.length ≤ j) :
    Table.get d (Table.setList d m a l) j = Table.get d m j := by
  induction l generalizing m a with
  | nil => rfl
  | cons v r ih =>
    simp only [List.length_cons] at h
    rw [Table.setList, ih _ _ (by omega), Table.get_set_other d m v (by omega)]

/-- A write of consecutive values is what a read of them gives. -/
theorem Table.get_setList_inside (d : α) (m : Table α) (a k : Nat) (l : List α) (h : k < l.length) :
    Table.get d (Table.setList d m a l) (a + k) = l[k] := by
  induction l generalizing m a k with
  | nil => simp at h
  | cons v r ih =>
    rw [Table.setList]
    cases k with
    | zero => rw [Table.get_setList_outside _ _ _ _ _ (by omega)]; simp
    | succ k =>
      have := ih (Table.set d m a v) (a + 1) k (by simpa using h)
      simpa [Nat.add_comm, Nat.add_left_comm] using this

theorem Table.wf_erase {d : α} {m : Table α} (i : Nat) (h : Table.wf d m = true) : Table.wf d (Table.erase i m) = true := by
  induction m with
  | nil => rfl
  | cons e r ih =>
    simp only [Table.wf, Bool.and_eq_true] at h
    unfold Table.erase
    split
    · exact ih h.2
    · simp only [Table.wf, Bool.and_eq_true]
      exact ⟨⟨h.1.1, Table.above_erase i h.1.2⟩, ih h.2⟩

theorem Table.wf_insert {d : α} {m : Table α} {i : Nat} {v : α} (h : Table.wf d m = true) (hv : v ≠ d)
    (hi : ∀ e ∈ m, e.1 ≠ i) : Table.wf d (Table.insert i v m) = true := by
  induction m with
  | nil => simp [Table.insert, Table.wf, Table.above, hv]
  | cons e r ih =>
    simp only [Table.wf, Bool.and_eq_true] at h
    unfold Table.insert
    split
    · rename_i hk
      simp only [Table.wf, Bool.and_eq_true, decide_eq_true_eq]
      refine ⟨⟨hv, ?_⟩, ⟨by simpa using h.1.1, h.1.2⟩, h.2⟩
      have := Table.above_lower h.1.2 (Nat.le_of_lt hk)
      simp only [Table.above, List.all_cons, Bool.and_eq_true, decide_eq_true_eq] at this ⊢
      exact ⟨hk, this⟩
    · rename_i hk
      have hne := hi e (by simp)
      simp only [Table.wf, Bool.and_eq_true]
      exact ⟨⟨h.1.1, Table.above_insert v h.1.2 (by omega)⟩, ih h.2 (fun x hx => hi x (by simp [hx]))⟩

/-- A write keeps the canonical form. -/
theorem Table.wf_set {d : α} {m : Table α} (i : Nat) (v : α) (h : Table.wf d m = true) :
    Table.wf d (Table.set d m i v) = true := by
  unfold Table.set
  split
  · exact Table.wf_erase i h
  · rename_i hv
    exact Table.wf_insert (Table.wf_erase i h) hv (Table.erase_ne m i)

/-- A write of consecutive values keeps the canonical form. -/
theorem Table.wf_setList {d : α} {m : Table α} (a : Nat) (l : List α) (h : Table.wf d m = true) :
    Table.wf d (Table.setList d m a l) = true := by
  induction l generalizing m a with
  | nil => exact h
  | cons v r ih => exact ih _ (Table.wf_set a v h)

/-- Entries dropped keep the canonical form. -/
theorem Table.wf_filter {d : α} {m : Table α} (p : Nat × α → Bool) (h : Table.wf d m = true) :
    Table.wf d (List.filter p m) = true := by
  induction m with
  | nil => rfl
  | cons e r ih =>
    simp only [Table.wf, Bool.and_eq_true] at h
    rw [List.filter_cons]
    split
    · simp only [Table.wf, Bool.and_eq_true]
      refine ⟨⟨h.1.1, ?_⟩, ih h.2⟩
      have := h.1.2
      simp only [Table.above, List.all_eq_true, decide_eq_true_eq, List.mem_filter] at this ⊢
      exact fun x hx => this x hx.1
    · exact ih h.2

theorem Table.wf_outside {d : α} {m : Table α} (a n : Nat) (h : Table.wf d m = true) :
    Table.wf d (Table.outside a n m) = true := Table.wf_filter _ h

end Sys2Proof.Machine
end

