-- ==== Sys2Proof/Laws/State.lean ====
section
/-! SUPPORT. The state's fields after each update of one indexed piece: the piece written reads back, every other
piece of its kind and every other block is unchanged. -/

namespace Sys2Proof.Machine

@[simp] theorem State.chan_setChan (s : State) (k : Nat) (c : Chan) : (s.setChan k c).chan k = c := Table.get_set_same ..
theorem State.chan_setChan_other (s : State) {j k : Nat} (c : Chan) (h : j ≠ k) : (s.setChan k c).chan j = s.chan j :=
  Table.get_set_other _ _ _ h
@[simp] theorem State.setChan_setChan (s : State) (k : Nat) (a b : Chan) : (s.setChan k a).setChan k b = s.setChan k b := by
  simp [State.setChan]
@[simp] theorem State.setChan_blocks (s : State) (k : Nat) (c : Chan) :
    (s.setChan k c).pending = s.pending ∧ (s.setChan k c).etc = s.etc ∧ (s.setChan k c).now = s.now ∧ (s.setChan k c).sleepBase = s.sleepBase ∧
    (s.setChan k c).fresh = s.fresh ∧ (s.setChan k c).ruler = s.ruler ∧ (s.setChan k c).supply = s.supply ∧
    (s.setChan k c).sys = s.sys ∧ (s.setChan k c).irc = s.irc ∧ (s.setChan k c).flt = s.flt ∧
    (s.setChan k c).tim = s.tim ∧ (s.setChan k c).pwm = s.pwm ∧ (s.setChan k c).whl = s.whl ∧
    (s.setChan k c).lns = s.lns ∧ (s.setChan k c).evs = s.evs ∧ (s.setChan k c).dia = s.dia ∧
    (s.setChan k c).seq = s.seq ∧ (s.setChan k c).dma = s.dma ∧ (s.setChan k c).mem = s.mem ∧
    (s.setChan k c).bgs = s.bgs ∧ (s.setChan k c).obs = s.obs ∧ (s.setChan k c).sec = s.sec ∧
    (s.setChan k c).links = s.links ∧ (s.setChan k c).cfg = s.cfg ∧ (s.setChan k c).snaps = s.snaps ∧
    (s.setChan k c).nv = s.nv :=
  ⟨rfl, rfl, rfl, rfl, rfl, rfl, rfl, rfl, rfl, rfl, rfl, rfl, rfl, rfl, rfl, rfl, rfl, rfl, rfl, rfl, rfl, rfl, rfl, rfl, rfl, rfl⟩
@[simp] theorem State.setChan_pieces (s : State) (k j : Nat) (c : Chan) :
    (s.setChan k c).bank j = s.bank j ∧ (s.setChan k c).kettle j = s.kettle j ∧ (s.setChan k c).dch j = s.dch j ∧
    (s.setChan k c).dgt j = s.dgt j ∧ (s.setChan k c).slot j = s.slot j ∧ (s.setChan k c).sq j = s.sq j ∧
    (s.setChan k c).ctx j = s.ctx j ∧ (s.setChan k c).dmaCh j = s.dmaCh j ∧ (s.setChan k c).timer j = s.timer j ∧
    (s.setChan k c).ebU j = s.ebU j ∧ (s.setChan k c).kcU j = s.kcU j ∧ (s.setChan k c).wheel j = s.wheel j :=
  ⟨rfl, rfl, rfl, rfl, rfl, rfl, rfl, rfl, rfl, rfl, rfl, rfl⟩

@[simp] theorem State.bank_setBank (s : State) (k : Nat) (c : BankSt) : (s.setBank k c).bank k = c := Table.get_set_same ..
theorem State.bank_setBank_other (s : State) {j k : Nat} (c : BankSt) (h : j ≠ k) : (s.setBank k c).bank j = s.bank j :=
  Table.get_set_other _ _ _ h
@[simp] theorem State.setBank_setBank (s : State) (k : Nat) (a b : BankSt) : (s.setBank k a).setBank k b = s.setBank k b := by
  simp [State.setBank]
@[simp] theorem State.setBank_blocks (s : State) (k : Nat) (c : BankSt) :
    (s.setBank k c).pending = s.pending ∧ (s.setBank k c).etc = s.etc ∧ (s.setBank k c).now = s.now ∧ (s.setBank k c).sleepBase = s.sleepBase ∧
    (s.setBank k c).fresh = s.fresh ∧ (s.setBank k c).ruler = s.ruler ∧ (s.setBank k c).supply = s.supply ∧
    (s.setBank k c).sys = s.sys ∧ (s.setBank k c).irc = s.irc ∧ (s.setBank k c).flt = s.flt ∧
    (s.setBank k c).tim = s.tim ∧ (s.setBank k c).pwm = s.pwm ∧ (s.setBank k c).whl = s.whl ∧
    (s.setBank k c).lns = s.lns ∧ (s.setBank k c).evs = s.evs ∧ (s.setBank k c).dia = s.dia ∧
    (s.setBank k c).seq = s.seq ∧ (s.setBank k c).dma = s.dma ∧ (s.setBank k c).mem = s.mem ∧
    (s.setBank k c).bgs = s.bgs ∧ (s.setBank k c).obs = s.obs ∧ (s.setBank k c).sec = s.sec ∧
    (s.setBank k c).links = s.links ∧ (s.setBank k c).cfg = s.cfg ∧ (s.setBank k c).snaps = s.snaps ∧
    (s.setBank k c).nv = s.nv :=
  ⟨rfl, rfl, rfl, rfl, rfl, rfl, rfl, rfl, rfl, rfl, rfl, rfl, rfl, rfl, rfl, rfl, rfl, rfl, rfl, rfl, rfl, rfl, rfl, rfl, rfl, rfl⟩
@[simp] theorem State.setBank_pieces (s : State) (k j : Nat) (c : BankSt) :
    (s.setBank k c).chan j = s.chan j ∧ (s.setBank k c).kettle j = s.kettle j ∧ (s.setBank k c).dch j = s.dch j ∧
    (s.setBank k c).dgt j = s.dgt j ∧ (s.setBank k c).slot j = s.slot j ∧ (s.setBank k c).sq j = s.sq j ∧
    (s.setBank k c).ctx j = s.ctx j ∧ (s.setBank k c).dmaCh j = s.dmaCh j ∧ (s.setBank k c).timer j = s.timer j ∧
    (s.setBank k c).ebU j = s.ebU j ∧ (s.setBank k c).kcU j = s.kcU j ∧ (s.setBank k c).wheel j = s.wheel j :=
  ⟨rfl, rfl, rfl, rfl, rfl, rfl, rfl, rfl, rfl, rfl, rfl, rfl⟩

@[simp] theorem State.kettle_setKettle (s : State) (k : Nat) (c : Kettle) : (s.setKettle k c).kettle k = c := Table.get_set_same ..
theorem State.kettle_setKettle_other (s : State) {j k : Nat} (c : Kettle) (h : j ≠ k) : (s.setKettle k c).kettle j = s.kettle j :=
  Table.get_set_other _ _ _ h
@[simp] theorem State.setKettle_setKettle (s : State) (k : Nat) (a b : Kettle) : (s.setKettle k a).setKettle k b = s.setKettle k b := by
  simp [State.setKettle]
@[simp] theorem State.setKettle_blocks (s : State) (k : Nat) (c : Kettle) :
    (s.setKettle k c).pending = s.pending ∧ (s.setKettle k c).etc = s.etc ∧ (s.setKettle k c).now = s.now ∧
    (s.setKettle k c).sleepBase = s.sleepBase ∧ (s.setKettle k c).fresh = s.fresh ∧
    (s.setKettle k c).ruler = s.ruler ∧ (s.setKettle k c).supply = s.supply ∧ (s.setKettle k c).sys = s.sys ∧
    (s.setKettle k c).irc = s.irc ∧ (s.setKettle k c).flt = s.flt ∧ (s.setKettle k c).tim = s.tim ∧
    (s.setKettle k c).pwm = s.pwm ∧ (s.setKettle k c).whl = s.whl ∧ (s.setKettle k c).lns = s.lns ∧
    (s.setKettle k c).evs = s.evs ∧ (s.setKettle k c).dia = s.dia ∧ (s.setKettle k c).seq = s.seq ∧
    (s.setKettle k c).dma = s.dma ∧ (s.setKettle k c).mem = s.mem ∧ (s.setKettle k c).bgs = s.bgs ∧
    (s.setKettle k c).obs = s.obs ∧ (s.setKettle k c).sec = s.sec ∧ (s.setKettle k c).links = s.links ∧
    (s.setKettle k c).cfg = s.cfg ∧ (s.setKettle k c).snaps = s.snaps ∧ (s.setKettle k c).nv = s.nv :=
  ⟨rfl, rfl, rfl, rfl, rfl, rfl, rfl, rfl, rfl, rfl, rfl, rfl, rfl, rfl, rfl, rfl, rfl, rfl, rfl, rfl, rfl, rfl, rfl, rfl, rfl, rfl⟩
@[simp] theorem State.setKettle_pieces (s : State) (k j : Nat) (c : Kettle) :
    (s.setKettle k c).chan j = s.chan j ∧ (s.setKettle k c).bank j = s.bank j ∧ (s.setKettle k c).dch j = s.dch j ∧
    (s.setKettle k c).dgt j = s.dgt j ∧ (s.setKettle k c).slot j = s.slot j ∧ (s.setKettle k c).sq j = s.sq j ∧
    (s.setKettle k c).ctx j = s.ctx j ∧ (s.setKettle k c).dmaCh j = s.dmaCh j ∧
    (s.setKettle k c).timer j = s.timer j ∧ (s.setKettle k c).ebU j = s.ebU j ∧ (s.setKettle k c).kcU j = s.kcU j ∧
    (s.setKettle k c).wheel j = s.wheel j :=
  ⟨rfl, rfl, rfl, rfl, rfl, rfl, rfl, rfl, rfl, rfl, rfl, rfl⟩

@[simp] theorem State.dch_setDch (s : State) (k : Nat) (c : DiaCh) : (s.setDch k c).dch k = c := Table.get_set_same ..
theorem State.dch_setDch_other (s : State) {j k : Nat} (c : DiaCh) (h : j ≠ k) : (s.setDch k c).dch j = s.dch j :=
  Table.get_set_other _ _ _ h
@[simp] theorem State.setDch_setDch (s : State) (k : Nat) (a b : DiaCh) : (s.setDch k a).setDch k b = s.setDch k b := by
  simp [State.setDch]
@[simp] theorem State.setDch_blocks (s : State) (k : Nat) (c : DiaCh) :
    (s.setDch k c).pending = s.pending ∧ (s.setDch k c).etc = s.etc ∧ (s.setDch k c).now = s.now ∧ (s.setDch k c).sleepBase = s.sleepBase ∧
    (s.setDch k c).fresh = s.fresh ∧ (s.setDch k c).ruler = s.ruler ∧ (s.setDch k c).supply = s.supply ∧
    (s.setDch k c).sys = s.sys ∧ (s.setDch k c).irc = s.irc ∧ (s.setDch k c).flt = s.flt ∧
    (s.setDch k c).tim = s.tim ∧ (s.setDch k c).pwm = s.pwm ∧ (s.setDch k c).whl = s.whl ∧
    (s.setDch k c).lns = s.lns ∧ (s.setDch k c).evs = s.evs ∧ (s.setDch k c).act = s.act ∧
    (s.setDch k c).seq = s.seq ∧ (s.setDch k c).dma = s.dma ∧ (s.setDch k c).mem = s.mem ∧
    (s.setDch k c).bgs = s.bgs ∧ (s.setDch k c).obs = s.obs ∧ (s.setDch k c).sec = s.sec ∧
    (s.setDch k c).links = s.links ∧ (s.setDch k c).cfg = s.cfg ∧ (s.setDch k c).snaps = s.snaps ∧
    (s.setDch k c).nv = s.nv :=
  ⟨rfl, rfl, rfl, rfl, rfl, rfl, rfl, rfl, rfl, rfl, rfl, rfl, rfl, rfl, rfl, rfl, rfl, rfl, rfl, rfl, rfl, rfl, rfl, rfl, rfl, rfl⟩
@[simp] theorem State.setDch_pieces (s : State) (k j : Nat) (c : DiaCh) :
    (s.setDch k c).chan j = s.chan j ∧ (s.setDch k c).bank j = s.bank j ∧ (s.setDch k c).kettle j = s.kettle j ∧
    (s.setDch k c).dgt j = s.dgt j ∧ (s.setDch k c).slot j = s.slot j ∧ (s.setDch k c).sq j = s.sq j ∧
    (s.setDch k c).ctx j = s.ctx j ∧ (s.setDch k c).dmaCh j = s.dmaCh j ∧ (s.setDch k c).timer j = s.timer j ∧
    (s.setDch k c).ebU j = s.ebU j ∧ (s.setDch k c).kcU j = s.kcU j ∧ (s.setDch k c).wheel j = s.wheel j :=
  ⟨rfl, rfl, rfl, rfl, rfl, rfl, rfl, rfl, rfl, rfl, rfl, rfl⟩

@[simp] theorem State.dgt_setDgt (s : State) (k : Nat) (c : Digitiser) : (s.setDgt k c).dgt k = c := Table.get_set_same ..
theorem State.dgt_setDgt_other (s : State) {j k : Nat} (c : Digitiser) (h : j ≠ k) : (s.setDgt k c).dgt j = s.dgt j :=
  Table.get_set_other _ _ _ h
@[simp] theorem State.setDgt_setDgt (s : State) (k : Nat) (a b : Digitiser) : (s.setDgt k a).setDgt k b = s.setDgt k b := by
  simp [State.setDgt]
@[simp] theorem State.setDgt_blocks (s : State) (k : Nat) (c : Digitiser) :
    (s.setDgt k c).pending = s.pending ∧ (s.setDgt k c).etc = s.etc ∧ (s.setDgt k c).now = s.now ∧ (s.setDgt k c).sleepBase = s.sleepBase ∧
    (s.setDgt k c).fresh = s.fresh ∧ (s.setDgt k c).ruler = s.ruler ∧ (s.setDgt k c).supply = s.supply ∧
    (s.setDgt k c).sys = s.sys ∧ (s.setDgt k c).irc = s.irc ∧ (s.setDgt k c).flt = s.flt ∧
    (s.setDgt k c).tim = s.tim ∧ (s.setDgt k c).pwm = s.pwm ∧ (s.setDgt k c).whl = s.whl ∧
    (s.setDgt k c).lns = s.lns ∧ (s.setDgt k c).evs = s.evs ∧ (s.setDgt k c).act = s.act ∧
    (s.setDgt k c).seq = s.seq ∧ (s.setDgt k c).dma = s.dma ∧ (s.setDgt k c).mem = s.mem ∧
    (s.setDgt k c).bgs = s.bgs ∧ (s.setDgt k c).obs = s.obs ∧ (s.setDgt k c).sec = s.sec ∧
    (s.setDgt k c).links = s.links ∧ (s.setDgt k c).cfg = s.cfg ∧ (s.setDgt k c).snaps = s.snaps ∧
    (s.setDgt k c).nv = s.nv :=
  ⟨rfl, rfl, rfl, rfl, rfl, rfl, rfl, rfl, rfl, rfl, rfl, rfl, rfl, rfl, rfl, rfl, rfl, rfl, rfl, rfl, rfl, rfl, rfl, rfl, rfl, rfl⟩
@[simp] theorem State.setDgt_pieces (s : State) (k j : Nat) (c : Digitiser) :
    (s.setDgt k c).chan j = s.chan j ∧ (s.setDgt k c).bank j = s.bank j ∧ (s.setDgt k c).kettle j = s.kettle j ∧
    (s.setDgt k c).dch j = s.dch j ∧ (s.setDgt k c).slot j = s.slot j ∧ (s.setDgt k c).sq j = s.sq j ∧
    (s.setDgt k c).ctx j = s.ctx j ∧ (s.setDgt k c).dmaCh j = s.dmaCh j ∧ (s.setDgt k c).timer j = s.timer j ∧
    (s.setDgt k c).ebU j = s.ebU j ∧ (s.setDgt k c).kcU j = s.kcU j ∧ (s.setDgt k c).wheel j = s.wheel j :=
  ⟨rfl, rfl, rfl, rfl, rfl, rfl, rfl, rfl, rfl, rfl, rfl, rfl⟩

@[simp] theorem State.slot_setSlot (s : State) (k : Nat) (c : Event) : (s.setSlot k c).slot k = c := Table.get_set_same ..
theorem State.slot_setSlot_other (s : State) {j k : Nat} (c : Event) (h : j ≠ k) : (s.setSlot k c).slot j = s.slot j :=
  Table.get_set_other _ _ _ h
@[simp] theorem State.setSlot_setSlot (s : State) (k : Nat) (a b : Event) : (s.setSlot k a).setSlot k b = s.setSlot k b := by
  simp [State.setSlot]
@[simp] theorem State.setSlot_blocks (s : State) (k : Nat) (c : Event) :
    (s.setSlot k c).pending = s.pending ∧ (s.setSlot k c).etc = s.etc ∧ (s.setSlot k c).now = s.now ∧ (s.setSlot k c).sleepBase = s.sleepBase ∧
    (s.setSlot k c).fresh = s.fresh ∧ (s.setSlot k c).ruler = s.ruler ∧ (s.setSlot k c).supply = s.supply ∧
    (s.setSlot k c).sys = s.sys ∧ (s.setSlot k c).irc = s.irc ∧ (s.setSlot k c).flt = s.flt ∧
    (s.setSlot k c).tim = s.tim ∧ (s.setSlot k c).pwm = s.pwm ∧ (s.setSlot k c).whl = s.whl ∧
    (s.setSlot k c).lns = s.lns ∧ (s.setSlot k c).act = s.act ∧ (s.setSlot k c).dia = s.dia ∧
    (s.setSlot k c).seq = s.seq ∧ (s.setSlot k c).dma = s.dma ∧ (s.setSlot k c).mem = s.mem ∧
    (s.setSlot k c).bgs = s.bgs ∧ (s.setSlot k c).obs = s.obs ∧ (s.setSlot k c).sec = s.sec ∧
    (s.setSlot k c).links = s.links ∧ (s.setSlot k c).cfg = s.cfg ∧ (s.setSlot k c).snaps = s.snaps ∧
    (s.setSlot k c).nv = s.nv :=
  ⟨rfl, rfl, rfl, rfl, rfl, rfl, rfl, rfl, rfl, rfl, rfl, rfl, rfl, rfl, rfl, rfl, rfl, rfl, rfl, rfl, rfl, rfl, rfl, rfl, rfl, rfl⟩
@[simp] theorem State.setSlot_pieces (s : State) (k j : Nat) (c : Event) :
    (s.setSlot k c).chan j = s.chan j ∧ (s.setSlot k c).bank j = s.bank j ∧ (s.setSlot k c).kettle j = s.kettle j ∧
    (s.setSlot k c).dch j = s.dch j ∧ (s.setSlot k c).dgt j = s.dgt j ∧ (s.setSlot k c).sq j = s.sq j ∧
    (s.setSlot k c).ctx j = s.ctx j ∧ (s.setSlot k c).dmaCh j = s.dmaCh j ∧ (s.setSlot k c).timer j = s.timer j ∧
    (s.setSlot k c).ebU j = s.ebU j ∧ (s.setSlot k c).kcU j = s.kcU j ∧ (s.setSlot k c).wheel j = s.wheel j :=
  ⟨rfl, rfl, rfl, rfl, rfl, rfl, rfl, rfl, rfl, rfl, rfl, rfl⟩

@[simp] theorem State.sq_setSq (s : State) (k : Nat) (c : SeqSt) : (s.setSq k c).sq k = c := Table.get_set_same ..
theorem State.sq_setSq_other (s : State) {j k : Nat} (c : SeqSt) (h : j ≠ k) : (s.setSq k c).sq j = s.sq j :=
  Table.get_set_other _ _ _ h
@[simp] theorem State.setSq_setSq (s : State) (k : Nat) (a b : SeqSt) : (s.setSq k a).setSq k b = s.setSq k b := by
  simp [State.setSq]
@[simp] theorem State.setSq_blocks (s : State) (k : Nat) (c : SeqSt) :
    (s.setSq k c).pending = s.pending ∧ (s.setSq k c).etc = s.etc ∧ (s.setSq k c).now = s.now ∧ (s.setSq k c).sleepBase = s.sleepBase ∧
    (s.setSq k c).fresh = s.fresh ∧ (s.setSq k c).ruler = s.ruler ∧ (s.setSq k c).supply = s.supply ∧
    (s.setSq k c).sys = s.sys ∧ (s.setSq k c).irc = s.irc ∧ (s.setSq k c).flt = s.flt ∧ (s.setSq k c).tim = s.tim ∧
    (s.setSq k c).pwm = s.pwm ∧ (s.setSq k c).whl = s.whl ∧ (s.setSq k c).lns = s.lns ∧ (s.setSq k c).evs = s.evs ∧
    (s.setSq k c).act = s.act ∧ (s.setSq k c).dia = s.dia ∧ (s.setSq k c).dma = s.dma ∧ (s.setSq k c).mem = s.mem ∧
    (s.setSq k c).bgs = s.bgs ∧ (s.setSq k c).obs = s.obs ∧ (s.setSq k c).sec = s.sec ∧
    (s.setSq k c).links = s.links ∧ (s.setSq k c).cfg = s.cfg ∧ (s.setSq k c).snaps = s.snaps ∧
    (s.setSq k c).nv = s.nv :=
  ⟨rfl, rfl, rfl, rfl, rfl, rfl, rfl, rfl, rfl, rfl, rfl, rfl, rfl, rfl, rfl, rfl, rfl, rfl, rfl, rfl, rfl, rfl, rfl, rfl, rfl, rfl⟩
@[simp] theorem State.setSq_pieces (s : State) (k j : Nat) (c : SeqSt) :
    (s.setSq k c).chan j = s.chan j ∧ (s.setSq k c).bank j = s.bank j ∧ (s.setSq k c).kettle j = s.kettle j ∧
    (s.setSq k c).dch j = s.dch j ∧ (s.setSq k c).dgt j = s.dgt j ∧ (s.setSq k c).slot j = s.slot j ∧
    (s.setSq k c).ctx j = s.ctx j ∧ (s.setSq k c).dmaCh j = s.dmaCh j ∧ (s.setSq k c).timer j = s.timer j ∧
    (s.setSq k c).ebU j = s.ebU j ∧ (s.setSq k c).kcU j = s.kcU j ∧ (s.setSq k c).wheel j = s.wheel j :=
  ⟨rfl, rfl, rfl, rfl, rfl, rfl, rfl, rfl, rfl, rfl, rfl, rfl⟩

@[simp] theorem State.ctx_setCtx (s : State) (k : Nat) (c : Ctx) : (s.setCtx k c).ctx k = c := Table.get_set_same ..
theorem State.ctx_setCtx_other (s : State) {j k : Nat} (c : Ctx) (h : j ≠ k) : (s.setCtx k c).ctx j = s.ctx j :=
  Table.get_set_other _ _ _ h
@[simp] theorem State.setCtx_setCtx (s : State) (k : Nat) (a b : Ctx) : (s.setCtx k a).setCtx k b = s.setCtx k b := by
  simp [State.setCtx]
@[simp] theorem State.setCtx_blocks (s : State) (k : Nat) (c : Ctx) :
    (s.setCtx k c).pending = s.pending ∧ (s.setCtx k c).etc = s.etc ∧ (s.setCtx k c).now = s.now ∧ (s.setCtx k c).sleepBase = s.sleepBase ∧
    (s.setCtx k c).fresh = s.fresh ∧ (s.setCtx k c).ruler = s.ruler ∧ (s.setCtx k c).supply = s.supply ∧
    (s.setCtx k c).sys = s.sys ∧ (s.setCtx k c).irc = s.irc ∧ (s.setCtx k c).flt = s.flt ∧
    (s.setCtx k c).tim = s.tim ∧ (s.setCtx k c).pwm = s.pwm ∧ (s.setCtx k c).whl = s.whl ∧
    (s.setCtx k c).lns = s.lns ∧ (s.setCtx k c).evs = s.evs ∧ (s.setCtx k c).act = s.act ∧
    (s.setCtx k c).dia = s.dia ∧ (s.setCtx k c).dma = s.dma ∧ (s.setCtx k c).mem = s.mem ∧
    (s.setCtx k c).bgs = s.bgs ∧ (s.setCtx k c).obs = s.obs ∧ (s.setCtx k c).sec = s.sec ∧
    (s.setCtx k c).links = s.links ∧ (s.setCtx k c).cfg = s.cfg ∧ (s.setCtx k c).snaps = s.snaps ∧
    (s.setCtx k c).nv = s.nv :=
  ⟨rfl, rfl, rfl, rfl, rfl, rfl, rfl, rfl, rfl, rfl, rfl, rfl, rfl, rfl, rfl, rfl, rfl, rfl, rfl, rfl, rfl, rfl, rfl, rfl, rfl, rfl⟩
@[simp] theorem State.setCtx_pieces (s : State) (k j : Nat) (c : Ctx) :
    (s.setCtx k c).chan j = s.chan j ∧ (s.setCtx k c).bank j = s.bank j ∧ (s.setCtx k c).kettle j = s.kettle j ∧
    (s.setCtx k c).dch j = s.dch j ∧ (s.setCtx k c).dgt j = s.dgt j ∧ (s.setCtx k c).slot j = s.slot j ∧
    (s.setCtx k c).sq j = s.sq j ∧ (s.setCtx k c).dmaCh j = s.dmaCh j ∧ (s.setCtx k c).timer j = s.timer j ∧
    (s.setCtx k c).ebU j = s.ebU j ∧ (s.setCtx k c).kcU j = s.kcU j ∧ (s.setCtx k c).wheel j = s.wheel j :=
  ⟨rfl, rfl, rfl, rfl, rfl, rfl, rfl, rfl, rfl, rfl, rfl, rfl⟩

@[simp] theorem State.dmaCh_setDma (s : State) (k : Nat) (c : DmaCh) : (s.setDma k c).dmaCh k = c := Table.get_set_same ..
theorem State.dmaCh_setDma_other (s : State) {j k : Nat} (c : DmaCh) (h : j ≠ k) : (s.setDma k c).dmaCh j = s.dmaCh j :=
  Table.get_set_other _ _ _ h
@[simp] theorem State.setDma_setDma (s : State) (k : Nat) (a b : DmaCh) : (s.setDma k a).setDma k b = s.setDma k b := by
  simp [State.setDma]
@[simp] theorem State.setDma_blocks (s : State) (k : Nat) (c : DmaCh) :
    (s.setDma k c).pending = s.pending ∧ (s.setDma k c).etc = s.etc ∧ (s.setDma k c).now = s.now ∧ (s.setDma k c).sleepBase = s.sleepBase ∧
    (s.setDma k c).fresh = s.fresh ∧ (s.setDma k c).ruler = s.ruler ∧ (s.setDma k c).supply = s.supply ∧
    (s.setDma k c).sys = s.sys ∧ (s.setDma k c).irc = s.irc ∧ (s.setDma k c).flt = s.flt ∧
    (s.setDma k c).tim = s.tim ∧ (s.setDma k c).pwm = s.pwm ∧ (s.setDma k c).whl = s.whl ∧
    (s.setDma k c).lns = s.lns ∧ (s.setDma k c).evs = s.evs ∧ (s.setDma k c).act = s.act ∧
    (s.setDma k c).dia = s.dia ∧ (s.setDma k c).seq = s.seq ∧ (s.setDma k c).mem = s.mem ∧
    (s.setDma k c).bgs = s.bgs ∧ (s.setDma k c).obs = s.obs ∧ (s.setDma k c).sec = s.sec ∧
    (s.setDma k c).links = s.links ∧ (s.setDma k c).cfg = s.cfg ∧ (s.setDma k c).snaps = s.snaps ∧
    (s.setDma k c).nv = s.nv :=
  ⟨rfl, rfl, rfl, rfl, rfl, rfl, rfl, rfl, rfl, rfl, rfl, rfl, rfl, rfl, rfl, rfl, rfl, rfl, rfl, rfl, rfl, rfl, rfl, rfl, rfl, rfl⟩
@[simp] theorem State.setDma_pieces (s : State) (k j : Nat) (c : DmaCh) :
    (s.setDma k c).chan j = s.chan j ∧ (s.setDma k c).bank j = s.bank j ∧ (s.setDma k c).kettle j = s.kettle j ∧
    (s.setDma k c).dch j = s.dch j ∧ (s.setDma k c).dgt j = s.dgt j ∧ (s.setDma k c).slot j = s.slot j ∧
    (s.setDma k c).sq j = s.sq j ∧ (s.setDma k c).ctx j = s.ctx j ∧ (s.setDma k c).timer j = s.timer j ∧
    (s.setDma k c).ebU j = s.ebU j ∧ (s.setDma k c).kcU j = s.kcU j ∧ (s.setDma k c).wheel j = s.wheel j :=
  ⟨rfl, rfl, rfl, rfl, rfl, rfl, rfl, rfl, rfl, rfl, rfl, rfl⟩

@[simp] theorem State.timer_setTimer (s : State) (k : Nat) (c : Timer) : (s.setTimer k c).timer k = c := Table.get_set_same ..
theorem State.timer_setTimer_other (s : State) {j k : Nat} (c : Timer) (h : j ≠ k) : (s.setTimer k c).timer j = s.timer j :=
  Table.get_set_other _ _ _ h
@[simp] theorem State.setTimer_setTimer (s : State) (k : Nat) (a b : Timer) : (s.setTimer k a).setTimer k b = s.setTimer k b := by
  simp [State.setTimer]
@[simp] theorem State.setTimer_blocks (s : State) (k : Nat) (c : Timer) :
    (s.setTimer k c).pending = s.pending ∧ (s.setTimer k c).etc = s.etc ∧ (s.setTimer k c).now = s.now ∧
    (s.setTimer k c).sleepBase = s.sleepBase ∧ (s.setTimer k c).fresh = s.fresh ∧
    (s.setTimer k c).ruler = s.ruler ∧ (s.setTimer k c).supply = s.supply ∧ (s.setTimer k c).sys = s.sys ∧
    (s.setTimer k c).irc = s.irc ∧ (s.setTimer k c).flt = s.flt ∧ (s.setTimer k c).pwm = s.pwm ∧
    (s.setTimer k c).whl = s.whl ∧ (s.setTimer k c).lns = s.lns ∧ (s.setTimer k c).evs = s.evs ∧
    (s.setTimer k c).act = s.act ∧ (s.setTimer k c).dia = s.dia ∧ (s.setTimer k c).seq = s.seq ∧
    (s.setTimer k c).dma = s.dma ∧ (s.setTimer k c).mem = s.mem ∧ (s.setTimer k c).bgs = s.bgs ∧
    (s.setTimer k c).obs = s.obs ∧ (s.setTimer k c).sec = s.sec ∧ (s.setTimer k c).links = s.links ∧
    (s.setTimer k c).cfg = s.cfg ∧ (s.setTimer k c).snaps = s.snaps ∧ (s.setTimer k c).nv = s.nv :=
  ⟨rfl, rfl, rfl, rfl, rfl, rfl, rfl, rfl, rfl, rfl, rfl, rfl, rfl, rfl, rfl, rfl, rfl, rfl, rfl, rfl, rfl, rfl, rfl, rfl, rfl, rfl⟩
@[simp] theorem State.setTimer_pieces (s : State) (k j : Nat) (c : Timer) :
    (s.setTimer k c).chan j = s.chan j ∧ (s.setTimer k c).bank j = s.bank j ∧
    (s.setTimer k c).kettle j = s.kettle j ∧ (s.setTimer k c).dch j = s.dch j ∧ (s.setTimer k c).dgt j = s.dgt j ∧
    (s.setTimer k c).slot j = s.slot j ∧ (s.setTimer k c).sq j = s.sq j ∧ (s.setTimer k c).ctx j = s.ctx j ∧
    (s.setTimer k c).dmaCh j = s.dmaCh j ∧ (s.setTimer k c).ebU j = s.ebU j ∧ (s.setTimer k c).kcU j = s.kcU j ∧
    (s.setTimer k c).wheel j = s.wheel j :=
  ⟨rfl, rfl, rfl, rfl, rfl, rfl, rfl, rfl, rfl, rfl, rfl, rfl⟩

@[simp] theorem State.ebU_setEb (s : State) (k : Nat) (c : Eb) : (s.setEb k c).ebU k = c := Table.get_set_same ..
theorem State.ebU_setEb_other (s : State) {j k : Nat} (c : Eb) (h : j ≠ k) : (s.setEb k c).ebU j = s.ebU j :=
  Table.get_set_other _ _ _ h
@[simp] theorem State.setEb_setEb (s : State) (k : Nat) (a b : Eb) : (s.setEb k a).setEb k b = s.setEb k b := by
  simp [State.setEb]
@[simp] theorem State.setEb_blocks (s : State) (k : Nat) (c : Eb) :
    (s.setEb k c).pending = s.pending ∧ (s.setEb k c).etc = s.etc ∧ (s.setEb k c).now = s.now ∧ (s.setEb k c).sleepBase = s.sleepBase ∧
    (s.setEb k c).fresh = s.fresh ∧ (s.setEb k c).ruler = s.ruler ∧ (s.setEb k c).supply = s.supply ∧
    (s.setEb k c).sys = s.sys ∧ (s.setEb k c).irc = s.irc ∧ (s.setEb k c).flt = s.flt ∧ (s.setEb k c).tim = s.tim ∧
    (s.setEb k c).whl = s.whl ∧ (s.setEb k c).lns = s.lns ∧ (s.setEb k c).evs = s.evs ∧ (s.setEb k c).act = s.act ∧
    (s.setEb k c).dia = s.dia ∧ (s.setEb k c).seq = s.seq ∧ (s.setEb k c).dma = s.dma ∧ (s.setEb k c).mem = s.mem ∧
    (s.setEb k c).bgs = s.bgs ∧ (s.setEb k c).obs = s.obs ∧ (s.setEb k c).sec = s.sec ∧
    (s.setEb k c).links = s.links ∧ (s.setEb k c).cfg = s.cfg ∧ (s.setEb k c).snaps = s.snaps ∧
    (s.setEb k c).nv = s.nv :=
  ⟨rfl, rfl, rfl, rfl, rfl, rfl, rfl, rfl, rfl, rfl, rfl, rfl, rfl, rfl, rfl, rfl, rfl, rfl, rfl, rfl, rfl, rfl, rfl, rfl, rfl, rfl⟩
@[simp] theorem State.setEb_pieces (s : State) (k j : Nat) (c : Eb) :
    (s.setEb k c).chan j = s.chan j ∧ (s.setEb k c).bank j = s.bank j ∧ (s.setEb k c).kettle j = s.kettle j ∧
    (s.setEb k c).dch j = s.dch j ∧ (s.setEb k c).dgt j = s.dgt j ∧ (s.setEb k c).slot j = s.slot j ∧
    (s.setEb k c).sq j = s.sq j ∧ (s.setEb k c).ctx j = s.ctx j ∧ (s.setEb k c).dmaCh j = s.dmaCh j ∧
    (s.setEb k c).timer j = s.timer j ∧ (s.setEb k c).kcU j = s.kcU j ∧ (s.setEb k c).wheel j = s.wheel j :=
  ⟨rfl, rfl, rfl, rfl, rfl, rfl, rfl, rfl, rfl, rfl, rfl, rfl⟩

@[simp] theorem State.kcU_setKc (s : State) (k : Nat) (c : Kc) : (s.setKc k c).kcU k = c := Table.get_set_same ..
theorem State.kcU_setKc_other (s : State) {j k : Nat} (c : Kc) (h : j ≠ k) : (s.setKc k c).kcU j = s.kcU j :=
  Table.get_set_other _ _ _ h
@[simp] theorem State.setKc_setKc (s : State) (k : Nat) (a b : Kc) : (s.setKc k a).setKc k b = s.setKc k b := by
  simp [State.setKc]
@[simp] theorem State.setKc_blocks (s : State) (k : Nat) (c : Kc) :
    (s.setKc k c).pending = s.pending ∧ (s.setKc k c).etc = s.etc ∧ (s.setKc k c).now = s.now ∧ (s.setKc k c).sleepBase = s.sleepBase ∧
    (s.setKc k c).fresh = s.fresh ∧ (s.setKc k c).ruler = s.ruler ∧ (s.setKc k c).supply = s.supply ∧
    (s.setKc k c).sys = s.sys ∧ (s.setKc k c).irc = s.irc ∧ (s.setKc k c).flt = s.flt ∧ (s.setKc k c).tim = s.tim ∧
    (s.setKc k c).whl = s.whl ∧ (s.setKc k c).lns = s.lns ∧ (s.setKc k c).evs = s.evs ∧ (s.setKc k c).act = s.act ∧
    (s.setKc k c).dia = s.dia ∧ (s.setKc k c).seq = s.seq ∧ (s.setKc k c).dma = s.dma ∧ (s.setKc k c).mem = s.mem ∧
    (s.setKc k c).bgs = s.bgs ∧ (s.setKc k c).obs = s.obs ∧ (s.setKc k c).sec = s.sec ∧
    (s.setKc k c).links = s.links ∧ (s.setKc k c).cfg = s.cfg ∧ (s.setKc k c).snaps = s.snaps ∧
    (s.setKc k c).nv = s.nv :=
  ⟨rfl, rfl, rfl, rfl, rfl, rfl, rfl, rfl, rfl, rfl, rfl, rfl, rfl, rfl, rfl, rfl, rfl, rfl, rfl, rfl, rfl, rfl, rfl, rfl, rfl, rfl⟩
@[simp] theorem State.setKc_pieces (s : State) (k j : Nat) (c : Kc) :
    (s.setKc k c).chan j = s.chan j ∧ (s.setKc k c).bank j = s.bank j ∧ (s.setKc k c).kettle j = s.kettle j ∧
    (s.setKc k c).dch j = s.dch j ∧ (s.setKc k c).dgt j = s.dgt j ∧ (s.setKc k c).slot j = s.slot j ∧
    (s.setKc k c).sq j = s.sq j ∧ (s.setKc k c).ctx j = s.ctx j ∧ (s.setKc k c).dmaCh j = s.dmaCh j ∧
    (s.setKc k c).timer j = s.timer j ∧ (s.setKc k c).ebU j = s.ebU j ∧ (s.setKc k c).wheel j = s.wheel j :=
  ⟨rfl, rfl, rfl, rfl, rfl, rfl, rfl, rfl, rfl, rfl, rfl, rfl⟩

@[simp] theorem State.wheel_setWheel (s : State) (k : Nat) (c : WheelIn) : (s.setWheel k c).wheel k = c := Table.get_set_same ..
theorem State.wheel_setWheel_other (s : State) {j k : Nat} (c : WheelIn) (h : j ≠ k) : (s.setWheel k c).wheel j = s.wheel j :=
  Table.get_set_other _ _ _ h
@[simp] theorem State.setWheel_setWheel (s : State) (k : Nat) (a b : WheelIn) : (s.setWheel k a).setWheel k b = s.setWheel k b := by
  simp [State.setWheel]
@[simp] theorem State.setWheel_blocks (s : State) (k : Nat) (c : WheelIn) :
    (s.setWheel k c).pending = s.pending ∧ (s.setWheel k c).etc = s.etc ∧ (s.setWheel k c).now = s.now ∧
    (s.setWheel k c).sleepBase = s.sleepBase ∧ (s.setWheel k c).fresh = s.fresh ∧
    (s.setWheel k c).ruler = s.ruler ∧ (s.setWheel k c).supply = s.supply ∧ (s.setWheel k c).sys = s.sys ∧
    (s.setWheel k c).irc = s.irc ∧ (s.setWheel k c).flt = s.flt ∧ (s.setWheel k c).tim = s.tim ∧
    (s.setWheel k c).pwm = s.pwm ∧ (s.setWheel k c).lns = s.lns ∧ (s.setWheel k c).evs = s.evs ∧
    (s.setWheel k c).act = s.act ∧ (s.setWheel k c).dia = s.dia ∧ (s.setWheel k c).seq = s.seq ∧
    (s.setWheel k c).dma = s.dma ∧ (s.setWheel k c).mem = s.mem ∧ (s.setWheel k c).bgs = s.bgs ∧
    (s.setWheel k c).obs = s.obs ∧ (s.setWheel k c).sec = s.sec ∧ (s.setWheel k c).links = s.links ∧
    (s.setWheel k c).cfg = s.cfg ∧ (s.setWheel k c).snaps = s.snaps ∧ (s.setWheel k c).nv = s.nv :=
  ⟨rfl, rfl, rfl, rfl, rfl, rfl, rfl, rfl, rfl, rfl, rfl, rfl, rfl, rfl, rfl, rfl, rfl, rfl, rfl, rfl, rfl, rfl, rfl, rfl, rfl, rfl⟩
@[simp] theorem State.setWheel_pieces (s : State) (k j : Nat) (c : WheelIn) :
    (s.setWheel k c).chan j = s.chan j ∧ (s.setWheel k c).bank j = s.bank j ∧
    (s.setWheel k c).kettle j = s.kettle j ∧ (s.setWheel k c).dch j = s.dch j ∧ (s.setWheel k c).dgt j = s.dgt j ∧
    (s.setWheel k c).slot j = s.slot j ∧ (s.setWheel k c).sq j = s.sq j ∧ (s.setWheel k c).ctx j = s.ctx j ∧
    (s.setWheel k c).dmaCh j = s.dmaCh j ∧ (s.setWheel k c).timer j = s.timer j ∧
    (s.setWheel k c).ebU j = s.ebU j ∧ (s.setWheel k c).kcU j = s.kcU j :=
  ⟨rfl, rfl, rfl, rfl, rfl, rfl, rfl, rfl, rfl, rfl, rfl, rfl⟩

@[simp] theorem State.link_setLink (s : State) (l : Link) (x : LinkSt) : (s.setLink l x).link l = x := by cases l <;> rfl
theorem State.link_setLink_other (s : State) {l m : Link} (x : LinkSt) (h : m ≠ l) :
    (s.setLink l x).link m = s.link m := by cases l <;> cases m <;> first | rfl | exact absurd rfl h
@[simp] theorem State.setLink_blocks (s : State) (l : Link) (x : LinkSt) :
    (s.setLink l x).pending = s.pending ∧ (s.setLink l x).etc = s.etc ∧ (s.setLink l x).now = s.now ∧ (s.setLink l x).sleepBase = s.sleepBase ∧
    (s.setLink l x).fresh = s.fresh ∧ (s.setLink l x).ruler = s.ruler ∧ (s.setLink l x).supply = s.supply ∧
    (s.setLink l x).sys = s.sys ∧ (s.setLink l x).irc = s.irc ∧ (s.setLink l x).flt = s.flt ∧
    (s.setLink l x).tim = s.tim ∧ (s.setLink l x).pwm = s.pwm ∧ (s.setLink l x).whl = s.whl ∧
    (s.setLink l x).lns = s.lns ∧ (s.setLink l x).evs = s.evs ∧ (s.setLink l x).act = s.act ∧
    (s.setLink l x).dia = s.dia ∧ (s.setLink l x).seq = s.seq ∧ (s.setLink l x).dma = s.dma ∧
    (s.setLink l x).mem = s.mem ∧ (s.setLink l x).bgs = s.bgs ∧ (s.setLink l x).obs = s.obs ∧
    (s.setLink l x).sec = s.sec ∧ (s.setLink l x).cfg = s.cfg ∧ (s.setLink l x).snaps = s.snaps ∧
    (s.setLink l x).nv = s.nv :=
  by cases l <;> exact ⟨rfl, rfl, rfl, rfl, rfl, rfl, rfl, rfl, rfl, rfl, rfl, rfl, rfl, rfl, rfl, rfl, rfl, rfl, rfl, rfl, rfl, rfl, rfl, rfl, rfl, rfl⟩

/-- A byte outside the bytes written reads as before. -/
theorem State.memByte_memWrite_other (s : State) (a j : Nat) (b : List Byte) (h : j < a ∨ a + b.length ≤ j) :
    (s.memWrite a b).memByte j = s.memByte j := Table.get_setList_outside _ _ _ _ _ h

/-- A byte written reads back. -/
theorem State.memByte_memWrite (s : State) (a k : Nat) (b : List Byte) (h : k < b.length) :
    (s.memWrite a b).memByte (a + k) = b[k] := Table.get_setList_inside _ _ _ _ _ h

/-- A byte outside a patch reads as before. -/
theorem State.memByte_memPatch_other (s : State) (a j : Nat) (b : List Byte) (h : j < a ∨ a + b.length ≤ j) :
    (s.memPatch a b).memByte j = s.memByte j := Table.get_setList_outside _ _ _ _ _ h

@[simp] theorem State.memWrite_blocks (s : State) (a : Nat) (b : List Byte) :
    (s.memWrite a b).pending = s.pending ∧ (s.memWrite a b).etc = s.etc ∧ (s.memWrite a b).now = s.now ∧
    (s.memWrite a b).sleepBase = s.sleepBase ∧ (s.memWrite a b).fresh = s.fresh ∧
    (s.memWrite a b).ruler = s.ruler ∧ (s.memWrite a b).supply = s.supply ∧ (s.memWrite a b).sys = s.sys ∧
    (s.memWrite a b).irc = s.irc ∧ (s.memWrite a b).flt = s.flt ∧ (s.memWrite a b).tim = s.tim ∧
    (s.memWrite a b).pwm = s.pwm ∧ (s.memWrite a b).whl = s.whl ∧ (s.memWrite a b).lns = s.lns ∧
    (s.memWrite a b).evs = s.evs ∧ (s.memWrite a b).act = s.act ∧ (s.memWrite a b).dia = s.dia ∧
    (s.memWrite a b).seq = s.seq ∧ (s.memWrite a b).dma = s.dma ∧ (s.memWrite a b).bgs = s.bgs ∧
    (s.memWrite a b).obs = s.obs ∧ (s.memWrite a b).sec = s.sec ∧ (s.memWrite a b).links = s.links ∧
    (s.memWrite a b).cfg = s.cfg ∧ (s.memWrite a b).snaps = s.snaps ∧ (s.memWrite a b).nv = s.nv :=
  ⟨rfl, rfl, rfl, rfl, rfl, rfl, rfl, rfl, rfl, rfl, rfl, rfl, rfl, rfl, rfl, rfl, rfl, rfl, rfl, rfl, rfl, rfl, rfl, rfl, rfl, rfl⟩
@[simp] theorem State.memPatch_blocks (s : State) (a : Nat) (b : List Byte) :
    (s.memPatch a b).pending = s.pending ∧ (s.memPatch a b).etc = s.etc ∧ (s.memPatch a b).now = s.now ∧
    (s.memPatch a b).sleepBase = s.sleepBase ∧ (s.memPatch a b).fresh = s.fresh ∧
    (s.memPatch a b).ruler = s.ruler ∧ (s.memPatch a b).supply = s.supply ∧ (s.memPatch a b).sys = s.sys ∧
    (s.memPatch a b).irc = s.irc ∧ (s.memPatch a b).flt = s.flt ∧ (s.memPatch a b).tim = s.tim ∧
    (s.memPatch a b).pwm = s.pwm ∧ (s.memPatch a b).whl = s.whl ∧ (s.memPatch a b).lns = s.lns ∧
    (s.memPatch a b).evs = s.evs ∧ (s.memPatch a b).act = s.act ∧ (s.memPatch a b).dia = s.dia ∧
    (s.memPatch a b).seq = s.seq ∧ (s.memPatch a b).dma = s.dma ∧ (s.memPatch a b).bgs = s.bgs ∧
    (s.memPatch a b).obs = s.obs ∧ (s.memPatch a b).sec = s.sec ∧ (s.memPatch a b).links = s.links ∧
    (s.memPatch a b).cfg = s.cfg ∧ (s.memPatch a b).snaps = s.snaps ∧ (s.memPatch a b).nv = s.nv :=
  ⟨rfl, rfl, rfl, rfl, rfl, rfl, rfl, rfl, rfl, rfl, rfl, rfl, rfl, rfl, rfl, rfl, rfl, rfl, rfl, rfl, rfl, rfl, rfl, rfl, rfl, rfl⟩

end Sys2Proof.Machine
end

