-- ==== Sys2Proof/Laws/Ops.lean ====
section
/-! SUPPORT. What each shared operation can do, said once: the blocks it leaves alone, and the plain form it has
while the module is in RUN. -/

namespace Sys2Proof.Machine

/-! ## In RUN -/

/-- No wake cause is taken in RUN (R467, R469). -/
theorem wake_run (b : Nat) (s : State) (h : s.sys.mode = .run) : wake b s = s := by
  unfold wake wakeAllowed
  simp [h]

/-- A raise in RUN: both targets of the interrupt controller, nothing else (R402). -/
theorem raise_run (n : Nat) (s : State) (h : s.sys.mode = .run) :
    raise n s = if !s.sys.order64 && absentSource n then s else { s with irc := ircRaise n s.irc } := by
  unfold raise
  split
  · rfl
  · dsimp only
    split
    · exact wake_run _ _ h
    · rfl

/-- No power passage takes place in RUN (R468). -/
theorem powerSettle_run (s : State) (h : s.sys.mode = .run) : powerSettle s = s := by
  unfold powerSettle
  split
  · rfl
  · rw [h]

/-- ETC in RUN reaches the command's instant and never steps back (R9). -/
theorem advance_run (t : Tick) (s : State) (h : s.sys.mode = .run) : s.advance t = { s with now := max s.now t, etc := max s.etc t } := by
  have e : (if s.etc < t then t else s.etc) = max s.etc t := by
    split
    · rename_i h; exact (Nat.max_eq_right (Nat.le_of_lt h)).symm
    · rename_i h; exact (Nat.max_eq_left (Nat.not_lt.1 h)).symm
  have n : (if s.now < t then t else s.now) = max s.now t := by
    split
    · rename_i h; exact (Nat.max_eq_right (Nat.le_of_lt h)).symm
    · rename_i h; exact (Nat.max_eq_left (Nat.not_lt.1 h)).symm
  unfold State.advance
  rw [h, ← e, ← n]

/-- A command that happens while the module is powered: its effect, the power passages and HOST_INT_N. -/
theorem after_powered (i : Instr) (s : State) (h : s.supply.state ≠ .down) :
    after i s = settle (powerSettle (effect i (timeNow (s.advance (instant i))))) := by
  unfold after
  dsimp only
  split
  · rfl
  · exact if_neg h

/-- exec of a command while the module is powered. -/
theorem exec_powered (i : Instr) (s : State) (h : s.supply.state ≠ .down) (hp : undefinedPulse s i = false) :
    exec i s = .next (settle (powerSettle (effect i (timeNow (s.advance (instant i)))))) := by
  rw [exec_eq, hp, after_powered i s h]
  rfl

/-- No KC unit reaches its CMP where none has yet to. -/
theorem kcNow_idle (s : State) (h : ∀ k, k < 4 → (s.kcU k).running = false ∨ (s.kcU k).cmpDone = true) : kcNow s = s := by
  have g : ∀ l : List Nat, (∀ k ∈ l, k < 4) → forEach l kcReached s = s := by
    intro l
    induction l with
    | nil => intro _; rfl
    | cons a r ih =>
      intro hl
      have e : kcReached a s = s := by
        unfold kcReached
        rcases h a (hl a (by simp)) with x | x <;> simp [x]
      show forEach r kcReached (kcReached a s) = s
      rw [e]
      exact ih (fun k hk => hl k (by simp [hk]))
  exact g _ (fun k hk => List.mem_range.1 hk)

/-- Time alone brings nothing where nothing waits for it. -/
theorem timeNow_idle (t : Tick) (s : State) (h : timeIdle s = true) : timeNow (s.advance t) = s.advance t := by
  unfold timeIdle at h
  simp only [Bool.and_eq_true, List.all_eq_true, List.mem_range, Bool.or_eq_true, Bool.not_eq_true'] at h
  obtain ⟨⟨hp, hs⟩, hk⟩ := h
  have e : kcNow (s.advance t) = s.advance t := kcNow_idle _ hk
  have e2 : stepsNow (s.advance t) = s.advance t := by
    have : (s.advance t).evs.steps = none := by simpa [State.advance] using hs
    unfold stepsNow
    rw [this]
  have e3 : passNow (s.advance t) = s.advance t := by
    have : (s.advance t).evs.pass = [] := by simpa [State.advance] using hp
    unfold passNow
    rw [this]
    rfl
  unfold timeNow
  rw [e, e2, e3]

/-- exec of a command whose effect leaves the module in RUN: the effect, then HOST_INT_N. -/
theorem exec_run (i : Instr) (s : State) (h : Alive s) (hp : undefinedPulse s i = false)
    (hm : (effect i (s.advance (instant i))).sys.mode = .run) :
    exec i s = .next (settle (effect i (s.advance (instant i)))) := by
  rw [exec_powered i s h.2.1 hp, timeNow_idle _ s h.2.2, powerSettle_run _ hm]

/-! ## Blocks left alone -/

/-- HOST_INT_N and its hold, nothing else (R405, R410). -/
theorem settle_frame (s : State) : settle s = { s with irc := (settle s).irc } := rfl
theorem wake_frame (b : Nat) (s : State) : wake b s = { s with sys.wakePending := (wake b s).sys.wakePending } := by
  unfold wake
  split <;> rfl
theorem raise_frame (n : Nat) (s : State) :
    raise n s = { s with irc := (raise n s).irc, sys.wakePending := (raise n s).sys.wakePending } := by
  unfold raise
  split
  · rfl
  · dsimp only
    split
    · unfold wake
      split <;> rfl
    · rfl
theorem raiseIf_frame (c : Bool) (n : Nat) (s : State) :
    raiseIf c n s = { s with irc := (raiseIf c n s).irc, sys.wakePending := (raiseIf c n s).sys.wakePending } := by
  unfold raiseIf
  split
  · exact raise_frame n s
  · rfl
theorem logPut_frame (k : Nat) (b : List Byte) (s : State) : logPut k b s = { s with bgs := (logPut k b s).bgs } := rfl
theorem logAppend_frame (k : Nat) (b : List Byte) (s : State) :
    logAppend k b s = { s with bgs := (logAppend k b s).bgs } := by
  unfold logAppend
  split <;> rfl
theorem log_frame (k l : Nat) (b : List Byte) (s : State) : log k l b s = { s with bgs := (log k l b s).bgs } := by
  unfold log
  split
  · exact logAppend_frame ..
  · rfl
theorem mirrorAt_frame (ty : Nat) (b : List Byte) (e : Tick) (s : State) :
    mirrorAt ty b e s = { s with
      irc := (mirrorAt ty b e s).irc, obs := (mirrorAt ty b e s).obs
      sys.wakePending := (mirrorAt ty b e s).sys.wakePending } := by
  unfold mirrorAt
  split
  · rfl
  all_goals
    refine (raiseIf_frame _ _ _).trans ?_
    rw [raiseIf_frame]
theorem mirror_frame (ty : Nat) (b : List Byte) (s : State) :
    mirror ty b s = { s with
      irc := (mirror ty b s).irc, obs := (mirror ty b s).obs
      sys.wakePending := (mirror ty b s).sys.wakePending } := mirrorAt_frame ..
theorem mirrorState_frame (k v : Nat) (s : State) :
    mirrorState k v s = { s with
      irc := (mirrorState k v s).irc, obs := (mirrorState k v s).obs
      sys.wakePending := (mirrorState k v s).sys.wakePending } := mirrorAt_frame ..

/-- Only the sequencers' block differs. -/
def SeqOnly (s e : State) : Prop := e = { s with seq := e.seq }

theorem SeqOnly.rfl {s : State} : SeqOnly s s := Eq.refl _
theorem SeqOnly.trans {a b c : State} (h : SeqOnly a b) (g : SeqOnly b c) : SeqOnly a c := by
  unfold SeqOnly at *
  rw [g, h]
theorem SeqOnly.foldl {α : Type} (l : List α) (f : State → α → State) (h : ∀ s a, SeqOnly s (f s a)) (s : State) :
    SeqOnly s (l.foldl f s) := by
  induction l generalizing s with
  | nil => exact SeqOnly.rfl
  | cons a r ih => exact (h s a).trans (ih _)
theorem makeReady_frame (i : Nat) (s : State) : SeqOnly s (makeReady i s) := Eq.refl _
theorem startActivation_frame (g i : Nat) (t : Task) (s : State) : SeqOnly s (startActivation g i t s) :=
  SeqOnly.trans (Eq.refl _ : SeqOnly s (s.setCtx i _)) (makeReady_frame i _)
theorem activate_frame (g i : Nat) (s : State) : SeqOnly s (activate g i s) := by
  unfold activate
  split
  · exact SeqOnly.rfl
  · dsimp only
    split
    · exact SeqOnly.rfl
    · exact Eq.refl _
    · exact Eq.refl _
    · split <;> exact Eq.refl _
theorem wakeLatch_frame (i : Nat) (s : State) : SeqOnly s (wakeLatch i s) := by
  unfold wakeLatch
  split
  · dsimp only
    split <;> exact Eq.refl _
  · exact SeqOnly.rfl
theorem latchFire_frame (b i : Nat) (s : State) : SeqOnly s (match s.task i with
    | some t => if t.trig = 3 ∧ t.tp0.getLsbD b then activate 4 i s else s
    | none => s) := by
  split
  · split
    · exact activate_frame ..
    · exact SeqOnly.rfl
  · exact SeqOnly.rfl
theorem setLatch_frame (b i : Nat) (s : State) : SeqOnly s (setLatch b i s) := by
  unfold setLatch
  split
  · exact SeqOnly.rfl
  · dsimp only
    refine SeqOnly.trans (SeqOnly.trans (b := if b = 1 then s else s.setCtx i { s.ctx i with
        latches := (s.ctx i).latches ||| BitVec.twoPow 6 b }) ?_ (latchFire_frame b i _)) (wakeLatch_frame i _)
    split <;> exact Eq.refl _
theorem latchSq_frame (b q : Nat) (s : State) : SeqOnly s (latchSq b q s) := by
  unfold latchSq
  dsimp only
  refine SeqOnly.trans (b := if b = 1 then s else s.setSq q { s.sq q with
      latches := (s.sq q).latches ||| BitVec.twoPow 6 b }) ?_ (SeqOnly.foldl _ _ (fun s i => setLatch_frame b i s) _)
  split <;> exact Eq.refl _
theorem latchAll_frame (b : Nat) (s : State) : SeqOnly s (latchAll b s) :=
  SeqOnly.trans (b := { s with seq.latches := s.seq.latches ||| BitVec.twoPow 6 b }) (Eq.refl _)
    (SeqOnly.foldl _ _ (fun s i => setLatch_frame b i s) _)
theorem notice_frame (o : Nat) (a b : Word) (s : State) : SeqOnly s (notice o a b s) := by
  unfold notice
  split
  · exact SeqOnly.rfl
  · dsimp only
    split
    · exact SeqOnly.trans (Eq.refl _ : SeqOnly s (s.setSq o _)) (latchSq_frame ..)
    · exact Eq.refl _

@[simp] theorem advance_blocks (t : Tick) (s : State) :
    (s.advance t).pending = s.pending ∧ (s.advance t).sleepBase = s.sleepBase ∧ (s.advance t).fresh = s.fresh ∧
    (s.advance t).ruler = s.ruler ∧ (s.advance t).supply = s.supply ∧ (s.advance t).sys = s.sys ∧
    (s.advance t).irc = s.irc ∧ (s.advance t).flt = s.flt ∧ (s.advance t).tim = s.tim ∧ (s.advance t).pwm = s.pwm ∧
    (s.advance t).whl = s.whl ∧ (s.advance t).lns = s.lns ∧ (s.advance t).evs = s.evs ∧ (s.advance t).act = s.act ∧
    (s.advance t).dia = s.dia ∧ (s.advance t).seq = s.seq ∧ (s.advance t).dma = s.dma ∧ (s.advance t).mem = s.mem ∧
    (s.advance t).bgs = s.bgs ∧ (s.advance t).obs = s.obs ∧ (s.advance t).sec = s.sec ∧
    (s.advance t).links = s.links ∧ (s.advance t).cfg = s.cfg ∧ (s.advance t).snaps = s.snaps ∧
    (s.advance t).nv = s.nv :=
  ⟨rfl, rfl, rfl, rfl, rfl, rfl, rfl, rfl, rfl, rfl, rfl, rfl, rfl, rfl, rfl, rfl, rfl, rfl, rfl, rfl, rfl, rfl, rfl, rfl, rfl⟩
@[simp] theorem settle_blocks (s : State) :
    (settle s).pending = s.pending ∧ (settle s).etc = s.etc ∧ (settle s).now = s.now ∧ (settle s).sleepBase = s.sleepBase ∧
    (settle s).fresh = s.fresh ∧ (settle s).ruler = s.ruler ∧ (settle s).supply = s.supply ∧
    (settle s).sys = s.sys ∧ (settle s).flt = s.flt ∧ (settle s).tim = s.tim ∧ (settle s).pwm = s.pwm ∧
    (settle s).whl = s.whl ∧ (settle s).lns = s.lns ∧ (settle s).evs = s.evs ∧ (settle s).act = s.act ∧
    (settle s).dia = s.dia ∧ (settle s).seq = s.seq ∧ (settle s).dma = s.dma ∧ (settle s).mem = s.mem ∧
    (settle s).bgs = s.bgs ∧ (settle s).obs = s.obs ∧ (settle s).sec = s.sec ∧ (settle s).links = s.links ∧
    (settle s).cfg = s.cfg ∧ (settle s).snaps = s.snaps ∧ (settle s).nv = s.nv :=
  ⟨rfl, rfl, rfl, rfl, rfl, rfl, rfl, rfl, rfl, rfl, rfl, rfl, rfl, rfl, rfl, rfl, rfl, rfl, rfl, rfl, rfl, rfl, rfl, rfl, rfl, rfl⟩
@[simp] theorem wake_blocks (b : Nat) (s : State) :
    (wake b s).pending = s.pending ∧ (wake b s).etc = s.etc ∧ (wake b s).now = s.now ∧ (wake b s).sleepBase = s.sleepBase ∧
    (wake b s).fresh = s.fresh ∧ (wake b s).ruler = s.ruler ∧ (wake b s).supply = s.supply ∧
    (wake b s).irc = s.irc ∧ (wake b s).flt = s.flt ∧ (wake b s).tim = s.tim ∧ (wake b s).pwm = s.pwm ∧
    (wake b s).whl = s.whl ∧ (wake b s).lns = s.lns ∧ (wake b s).evs = s.evs ∧ (wake b s).act = s.act ∧
    (wake b s).dia = s.dia ∧ (wake b s).seq = s.seq ∧ (wake b s).dma = s.dma ∧ (wake b s).mem = s.mem ∧
    (wake b s).bgs = s.bgs ∧ (wake b s).obs = s.obs ∧ (wake b s).sec = s.sec ∧ (wake b s).links = s.links ∧
    (wake b s).cfg = s.cfg ∧ (wake b s).snaps = s.snaps ∧ (wake b s).nv = s.nv :=
  by
  rw [wake_frame]
  exact ⟨rfl, rfl, rfl, rfl, rfl, rfl, rfl, rfl, rfl, rfl, rfl, rfl, rfl, rfl, rfl, rfl, rfl, rfl, rfl, rfl, rfl, rfl, rfl, rfl, rfl, rfl⟩
@[simp] theorem wake_power (b : Nat) (s : State) : (wake b s).sys.mode = s.sys.mode ∧ (wake b s).sys.order64 = s.sys.order64 := by
  rw [wake_frame]
  exact ⟨rfl, rfl⟩
@[simp] theorem raise_blocks (n : Nat) (s : State) :
    (raise n s).pending = s.pending ∧ (raise n s).etc = s.etc ∧ (raise n s).now = s.now ∧ (raise n s).sleepBase = s.sleepBase ∧
    (raise n s).fresh = s.fresh ∧ (raise n s).ruler = s.ruler ∧ (raise n s).supply = s.supply ∧
    (raise n s).flt = s.flt ∧ (raise n s).tim = s.tim ∧ (raise n s).pwm = s.pwm ∧ (raise n s).whl = s.whl ∧
    (raise n s).lns = s.lns ∧ (raise n s).evs = s.evs ∧ (raise n s).act = s.act ∧ (raise n s).dia = s.dia ∧
    (raise n s).seq = s.seq ∧ (raise n s).dma = s.dma ∧ (raise n s).mem = s.mem ∧ (raise n s).bgs = s.bgs ∧
    (raise n s).obs = s.obs ∧ (raise n s).sec = s.sec ∧ (raise n s).links = s.links ∧ (raise n s).cfg = s.cfg ∧
    (raise n s).snaps = s.snaps ∧ (raise n s).nv = s.nv :=
  by
  rw [raise_frame]
  exact ⟨rfl, rfl, rfl, rfl, rfl, rfl, rfl, rfl, rfl, rfl, rfl, rfl, rfl, rfl, rfl, rfl, rfl, rfl, rfl, rfl, rfl, rfl, rfl, rfl, rfl⟩
@[simp] theorem raise_power (n : Nat) (s : State) : (raise n s).sys.mode = s.sys.mode ∧ (raise n s).sys.order64 = s.sys.order64 := by
  rw [raise_frame]
  exact ⟨rfl, rfl⟩
@[simp] theorem raiseIf_blocks (c : Bool) (n : Nat) (s : State) :
    (raiseIf c n s).pending = s.pending ∧ (raiseIf c n s).etc = s.etc ∧ (raiseIf c n s).now = s.now ∧ (raiseIf c n s).sleepBase = s.sleepBase ∧
    (raiseIf c n s).fresh = s.fresh ∧ (raiseIf c n s).ruler = s.ruler ∧ (raiseIf c n s).supply = s.supply ∧
    (raiseIf c n s).flt = s.flt ∧ (raiseIf c n s).tim = s.tim ∧ (raiseIf c n s).pwm = s.pwm ∧
    (raiseIf c n s).whl = s.whl ∧ (raiseIf c n s).lns = s.lns ∧ (raiseIf c n s).evs = s.evs ∧
    (raiseIf c n s).act = s.act ∧ (raiseIf c n s).dia = s.dia ∧ (raiseIf c n s).seq = s.seq ∧
    (raiseIf c n s).dma = s.dma ∧ (raiseIf c n s).mem = s.mem ∧ (raiseIf c n s).bgs = s.bgs ∧
    (raiseIf c n s).obs = s.obs ∧ (raiseIf c n s).sec = s.sec ∧ (raiseIf c n s).links = s.links ∧
    (raiseIf c n s).cfg = s.cfg ∧ (raiseIf c n s).snaps = s.snaps ∧ (raiseIf c n s).nv = s.nv :=
  by
  rw [raiseIf_frame]
  exact ⟨rfl, rfl, rfl, rfl, rfl, rfl, rfl, rfl, rfl, rfl, rfl, rfl, rfl, rfl, rfl, rfl, rfl, rfl, rfl, rfl, rfl, rfl, rfl, rfl, rfl⟩
@[simp] theorem raiseIf_power (c : Bool) (n : Nat) (s : State) : (raiseIf c n s).sys.mode = s.sys.mode ∧ (raiseIf c n s).sys.order64 = s.sys.order64 := by
  rw [raiseIf_frame]
  exact ⟨rfl, rfl⟩
@[simp] theorem logPut_blocks (k : Nat) (b : List Byte) (s : State) :
    (logPut k b s).pending = s.pending ∧ (logPut k b s).etc = s.etc ∧ (logPut k b s).now = s.now ∧ (logPut k b s).sleepBase = s.sleepBase ∧
    (logPut k b s).fresh = s.fresh ∧ (logPut k b s).ruler = s.ruler ∧ (logPut k b s).supply = s.supply ∧
    (logPut k b s).sys = s.sys ∧ (logPut k b s).irc = s.irc ∧ (logPut k b s).flt = s.flt ∧
    (logPut k b s).tim = s.tim ∧ (logPut k b s).pwm = s.pwm ∧ (logPut k b s).whl = s.whl ∧
    (logPut k b s).lns = s.lns ∧ (logPut k b s).evs = s.evs ∧ (logPut k b s).act = s.act ∧
    (logPut k b s).dia = s.dia ∧ (logPut k b s).seq = s.seq ∧ (logPut k b s).dma = s.dma ∧
    (logPut k b s).mem = s.mem ∧ (logPut k b s).obs = s.obs ∧ (logPut k b s).sec = s.sec ∧
    (logPut k b s).links = s.links ∧ (logPut k b s).cfg = s.cfg ∧ (logPut k b s).snaps = s.snaps ∧
    (logPut k b s).nv = s.nv :=
  ⟨rfl, rfl, rfl, rfl, rfl, rfl, rfl, rfl, rfl, rfl, rfl, rfl, rfl, rfl, rfl, rfl, rfl, rfl, rfl, rfl, rfl, rfl, rfl, rfl, rfl, rfl⟩
@[simp] theorem logAppend_blocks (k : Nat) (b : List Byte) (s : State) :
    (logAppend k b s).pending = s.pending ∧ (logAppend k b s).etc = s.etc ∧ (logAppend k b s).now = s.now ∧
    (logAppend k b s).sleepBase = s.sleepBase ∧ (logAppend k b s).fresh = s.fresh ∧
    (logAppend k b s).ruler = s.ruler ∧ (logAppend k b s).supply = s.supply ∧ (logAppend k b s).sys = s.sys ∧
    (logAppend k b s).irc = s.irc ∧ (logAppend k b s).flt = s.flt ∧ (logAppend k b s).tim = s.tim ∧
    (logAppend k b s).pwm = s.pwm ∧ (logAppend k b s).whl = s.whl ∧ (logAppend k b s).lns = s.lns ∧
    (logAppend k b s).evs = s.evs ∧ (logAppend k b s).act = s.act ∧ (logAppend k b s).dia = s.dia ∧
    (logAppend k b s).seq = s.seq ∧ (logAppend k b s).dma = s.dma ∧ (logAppend k b s).mem = s.mem ∧
    (logAppend k b s).obs = s.obs ∧ (logAppend k b s).sec = s.sec ∧ (logAppend k b s).links = s.links ∧
    (logAppend k b s).cfg = s.cfg ∧ (logAppend k b s).snaps = s.snaps ∧ (logAppend k b s).nv = s.nv :=
  by
  rw [logAppend_frame]
  exact ⟨rfl, rfl, rfl, rfl, rfl, rfl, rfl, rfl, rfl, rfl, rfl, rfl, rfl, rfl, rfl, rfl, rfl, rfl, rfl, rfl, rfl, rfl, rfl, rfl, rfl, rfl⟩
@[simp] theorem log_blocks (k l : Nat) (b : List Byte) (s : State) :
    (log k l b s).pending = s.pending ∧ (log k l b s).etc = s.etc ∧ (log k l b s).now = s.now ∧ (log k l b s).sleepBase = s.sleepBase ∧
    (log k l b s).fresh = s.fresh ∧ (log k l b s).ruler = s.ruler ∧ (log k l b s).supply = s.supply ∧
    (log k l b s).sys = s.sys ∧ (log k l b s).irc = s.irc ∧ (log k l b s).flt = s.flt ∧ (log k l b s).tim = s.tim ∧
    (log k l b s).pwm = s.pwm ∧ (log k l b s).whl = s.whl ∧ (log k l b s).lns = s.lns ∧ (log k l b s).evs = s.evs ∧
    (log k l b s).act = s.act ∧ (log k l b s).dia = s.dia ∧ (log k l b s).seq = s.seq ∧ (log k l b s).dma = s.dma ∧
    (log k l b s).mem = s.mem ∧ (log k l b s).obs = s.obs ∧ (log k l b s).sec = s.sec ∧
    (log k l b s).links = s.links ∧ (log k l b s).cfg = s.cfg ∧ (log k l b s).snaps = s.snaps ∧
    (log k l b s).nv = s.nv :=
  by
  rw [log_frame]
  exact ⟨rfl, rfl, rfl, rfl, rfl, rfl, rfl, rfl, rfl, rfl, rfl, rfl, rfl, rfl, rfl, rfl, rfl, rfl, rfl, rfl, rfl, rfl, rfl, rfl, rfl, rfl⟩
@[simp] theorem mirrorAt_blocks (y : Nat) (b : List Byte) (e : Tick) (s : State) :
    (mirrorAt y b e s).pending = s.pending ∧ (mirrorAt y b e s).etc = s.etc ∧ (mirrorAt y b e s).now = s.now ∧
    (mirrorAt y b e s).sleepBase = s.sleepBase ∧ (mirrorAt y b e s).fresh = s.fresh ∧
    (mirrorAt y b e s).ruler = s.ruler ∧ (mirrorAt y b e s).supply = s.supply ∧ (mirrorAt y b e s).flt = s.flt ∧
    (mirrorAt y b e s).tim = s.tim ∧ (mirrorAt y b e s).pwm = s.pwm ∧ (mirrorAt y b e s).whl = s.whl ∧
    (mirrorAt y b e s).lns = s.lns ∧ (mirrorAt y b e s).evs = s.evs ∧ (mirrorAt y b e s).act = s.act ∧
    (mirrorAt y b e s).dia = s.dia ∧ (mirrorAt y b e s).seq = s.seq ∧ (mirrorAt y b e s).dma = s.dma ∧
    (mirrorAt y b e s).mem = s.mem ∧ (mirrorAt y b e s).bgs = s.bgs ∧ (mirrorAt y b e s).sec = s.sec ∧
    (mirrorAt y b e s).links = s.links ∧ (mirrorAt y b e s).cfg = s.cfg ∧ (mirrorAt y b e s).snaps = s.snaps ∧
    (mirrorAt y b e s).nv = s.nv :=
  by
  rw [mirrorAt_frame]
  exact ⟨rfl, rfl, rfl, rfl, rfl, rfl, rfl, rfl, rfl, rfl, rfl, rfl, rfl, rfl, rfl, rfl, rfl, rfl, rfl, rfl, rfl, rfl, rfl, rfl⟩
@[simp] theorem mirrorAt_power (y : Nat) (b : List Byte) (e : Tick) (s : State) : (mirrorAt y b e s).sys.mode = s.sys.mode ∧ (mirrorAt y b e s).sys.order64 = s.sys.order64 := by
  rw [mirrorAt_frame]
  exact ⟨rfl, rfl⟩
@[simp] theorem mirror_blocks (y : Nat) (b : List Byte) (s : State) :
    (mirror y b s).pending = s.pending ∧ (mirror y b s).etc = s.etc ∧ (mirror y b s).now = s.now ∧ (mirror y b s).sleepBase = s.sleepBase ∧
    (mirror y b s).fresh = s.fresh ∧ (mirror y b s).ruler = s.ruler ∧ (mirror y b s).supply = s.supply ∧
    (mirror y b s).flt = s.flt ∧ (mirror y b s).tim = s.tim ∧ (mirror y b s).pwm = s.pwm ∧
    (mirror y b s).whl = s.whl ∧ (mirror y b s).lns = s.lns ∧ (mirror y b s).evs = s.evs ∧
    (mirror y b s).act = s.act ∧ (mirror y b s).dia = s.dia ∧ (mirror y b s).seq = s.seq ∧
    (mirror y b s).dma = s.dma ∧ (mirror y b s).mem = s.mem ∧ (mirror y b s).bgs = s.bgs ∧
    (mirror y b s).sec = s.sec ∧ (mirror y b s).links = s.links ∧ (mirror y b s).cfg = s.cfg ∧
    (mirror y b s).snaps = s.snaps ∧ (mirror y b s).nv = s.nv :=
  by
  rw [mirror_frame]
  exact ⟨rfl, rfl, rfl, rfl, rfl, rfl, rfl, rfl, rfl, rfl, rfl, rfl, rfl, rfl, rfl, rfl, rfl, rfl, rfl, rfl, rfl, rfl, rfl, rfl⟩
@[simp] theorem mirror_power (y : Nat) (b : List Byte) (s : State) : (mirror y b s).sys.mode = s.sys.mode ∧ (mirror y b s).sys.order64 = s.sys.order64 := by
  rw [mirror_frame]
  exact ⟨rfl, rfl⟩
@[simp] theorem mirrorState_blocks (k v : Nat) (s : State) :
    (mirrorState k v s).pending = s.pending ∧ (mirrorState k v s).etc = s.etc ∧ (mirrorState k v s).now = s.now ∧
    (mirrorState k v s).sleepBase = s.sleepBase ∧ (mirrorState k v s).fresh = s.fresh ∧
    (mirrorState k v s).ruler = s.ruler ∧ (mirrorState k v s).supply = s.supply ∧ (mirrorState k v s).flt = s.flt ∧
    (mirrorState k v s).tim = s.tim ∧ (mirrorState k v s).pwm = s.pwm ∧ (mirrorState k v s).whl = s.whl ∧
    (mirrorState k v s).lns = s.lns ∧ (mirrorState k v s).evs = s.evs ∧ (mirrorState k v s).act = s.act ∧
    (mirrorState k v s).dia = s.dia ∧ (mirrorState k v s).seq = s.seq ∧ (mirrorState k v s).dma = s.dma ∧
    (mirrorState k v s).mem = s.mem ∧ (mirrorState k v s).bgs = s.bgs ∧ (mirrorState k v s).sec = s.sec ∧
    (mirrorState k v s).links = s.links ∧ (mirrorState k v s).cfg = s.cfg ∧ (mirrorState k v s).snaps = s.snaps ∧
    (mirrorState k v s).nv = s.nv :=
  by
  rw [mirrorState_frame]
  exact ⟨rfl, rfl, rfl, rfl, rfl, rfl, rfl, rfl, rfl, rfl, rfl, rfl, rfl, rfl, rfl, rfl, rfl, rfl, rfl, rfl, rfl, rfl, rfl, rfl⟩
@[simp] theorem mirrorState_power (k v : Nat) (s : State) : (mirrorState k v s).sys.mode = s.sys.mode ∧ (mirrorState k v s).sys.order64 = s.sys.order64 := by
  rw [mirrorState_frame]
  exact ⟨rfl, rfl⟩
@[simp] theorem makeReady_blocks (i : Nat) (s : State) :
    (makeReady i s).pending = s.pending ∧ (makeReady i s).etc = s.etc ∧ (makeReady i s).now = s.now ∧ (makeReady i s).sleepBase = s.sleepBase ∧
    (makeReady i s).fresh = s.fresh ∧ (makeReady i s).ruler = s.ruler ∧ (makeReady i s).supply = s.supply ∧
    (makeReady i s).sys = s.sys ∧ (makeReady i s).irc = s.irc ∧ (makeReady i s).flt = s.flt ∧
    (makeReady i s).tim = s.tim ∧ (makeReady i s).pwm = s.pwm ∧ (makeReady i s).whl = s.whl ∧
    (makeReady i s).lns = s.lns ∧ (makeReady i s).evs = s.evs ∧ (makeReady i s).act = s.act ∧
    (makeReady i s).dia = s.dia ∧ (makeReady i s).dma = s.dma ∧ (makeReady i s).mem = s.mem ∧
    (makeReady i s).bgs = s.bgs ∧ (makeReady i s).obs = s.obs ∧ (makeReady i s).sec = s.sec ∧
    (makeReady i s).links = s.links ∧ (makeReady i s).cfg = s.cfg ∧ (makeReady i s).snaps = s.snaps ∧
    (makeReady i s).nv = s.nv :=
  by
  have h : _ = _ := makeReady_frame i s
  rw [h]
  exact ⟨rfl, rfl, rfl, rfl, rfl, rfl, rfl, rfl, rfl, rfl, rfl, rfl, rfl, rfl, rfl, rfl, rfl, rfl, rfl, rfl, rfl, rfl, rfl, rfl, rfl, rfl⟩
@[simp] theorem startActivation_blocks (g i : Nat) (t : Task) (s : State) :
    (startActivation g i t s).pending = s.pending ∧ (startActivation g i t s).etc = s.etc ∧ (startActivation g i t s).now = s.now ∧
    (startActivation g i t s).sleepBase = s.sleepBase ∧ (startActivation g i t s).fresh = s.fresh ∧
    (startActivation g i t s).ruler = s.ruler ∧ (startActivation g i t s).supply = s.supply ∧
    (startActivation g i t s).sys = s.sys ∧ (startActivation g i t s).irc = s.irc ∧
    (startActivation g i t s).flt = s.flt ∧ (startActivation g i t s).tim = s.tim ∧
    (startActivation g i t s).pwm = s.pwm ∧ (startActivation g i t s).whl = s.whl ∧
    (startActivation g i t s).lns = s.lns ∧ (startActivation g i t s).evs = s.evs ∧
    (startActivation g i t s).act = s.act ∧ (startActivation g i t s).dia = s.dia ∧
    (startActivation g i t s).dma = s.dma ∧ (startActivation g i t s).mem = s.mem ∧
    (startActivation g i t s).bgs = s.bgs ∧ (startActivation g i t s).obs = s.obs ∧
    (startActivation g i t s).sec = s.sec ∧ (startActivation g i t s).links = s.links ∧
    (startActivation g i t s).cfg = s.cfg ∧ (startActivation g i t s).snaps = s.snaps ∧
    (startActivation g i t s).nv = s.nv :=
  by
  have h : _ = _ := startActivation_frame g i t s
  rw [h]
  exact ⟨rfl, rfl, rfl, rfl, rfl, rfl, rfl, rfl, rfl, rfl, rfl, rfl, rfl, rfl, rfl, rfl, rfl, rfl, rfl, rfl, rfl, rfl, rfl, rfl, rfl, rfl⟩
@[simp] theorem activate_blocks (g i : Nat) (s : State) :
    (activate g i s).pending = s.pending ∧ (activate g i s).etc = s.etc ∧ (activate g i s).now = s.now ∧
    (activate g i s).sleepBase = s.sleepBase ∧ (activate g i s).fresh = s.fresh ∧
    (activate g i s).ruler = s.ruler ∧ (activate g i s).supply = s.supply ∧ (activate g i s).sys = s.sys ∧
    (activate g i s).irc = s.irc ∧ (activate g i s).flt = s.flt ∧ (activate g i s).tim = s.tim ∧
    (activate g i s).pwm = s.pwm ∧ (activate g i s).whl = s.whl ∧ (activate g i s).lns = s.lns ∧
    (activate g i s).evs = s.evs ∧ (activate g i s).act = s.act ∧ (activate g i s).dia = s.dia ∧
    (activate g i s).dma = s.dma ∧ (activate g i s).mem = s.mem ∧ (activate g i s).bgs = s.bgs ∧
    (activate g i s).obs = s.obs ∧ (activate g i s).sec = s.sec ∧ (activate g i s).links = s.links ∧
    (activate g i s).cfg = s.cfg ∧ (activate g i s).snaps = s.snaps ∧ (activate g i s).nv = s.nv :=
  by
  have h : _ = _ := activate_frame g i s
  rw [h]
  exact ⟨rfl, rfl, rfl, rfl, rfl, rfl, rfl, rfl, rfl, rfl, rfl, rfl, rfl, rfl, rfl, rfl, rfl, rfl, rfl, rfl, rfl, rfl, rfl, rfl, rfl, rfl⟩
@[simp] theorem wakeLatch_blocks (i : Nat) (s : State) :
    (wakeLatch i s).pending = s.pending ∧ (wakeLatch i s).etc = s.etc ∧ (wakeLatch i s).now = s.now ∧ (wakeLatch i s).sleepBase = s.sleepBase ∧
    (wakeLatch i s).fresh = s.fresh ∧ (wakeLatch i s).ruler = s.ruler ∧ (wakeLatch i s).supply = s.supply ∧
    (wakeLatch i s).sys = s.sys ∧ (wakeLatch i s).irc = s.irc ∧ (wakeLatch i s).flt = s.flt ∧
    (wakeLatch i s).tim = s.tim ∧ (wakeLatch i s).pwm = s.pwm ∧ (wakeLatch i s).whl = s.whl ∧
    (wakeLatch i s).lns = s.lns ∧ (wakeLatch i s).evs = s.evs ∧ (wakeLatch i s).act = s.act ∧
    (wakeLatch i s).dia = s.dia ∧ (wakeLatch i s).dma = s.dma ∧ (wakeLatch i s).mem = s.mem ∧
    (wakeLatch i s).bgs = s.bgs ∧ (wakeLatch i s).obs = s.obs ∧ (wakeLatch i s).sec = s.sec ∧
    (wakeLatch i s).links = s.links ∧ (wakeLatch i s).cfg = s.cfg ∧ (wakeLatch i s).snaps = s.snaps ∧
    (wakeLatch i s).nv = s.nv :=
  by
  have h : _ = _ := wakeLatch_frame i s
  rw [h]
  exact ⟨rfl, rfl, rfl, rfl, rfl, rfl, rfl, rfl, rfl, rfl, rfl, rfl, rfl, rfl, rfl, rfl, rfl, rfl, rfl, rfl, rfl, rfl, rfl, rfl, rfl, rfl⟩
@[simp] theorem setLatch_blocks (b i : Nat) (s : State) :
    (setLatch b i s).pending = s.pending ∧ (setLatch b i s).etc = s.etc ∧ (setLatch b i s).now = s.now ∧
    (setLatch b i s).sleepBase = s.sleepBase ∧ (setLatch b i s).fresh = s.fresh ∧
    (setLatch b i s).ruler = s.ruler ∧ (setLatch b i s).supply = s.supply ∧ (setLatch b i s).sys = s.sys ∧
    (setLatch b i s).irc = s.irc ∧ (setLatch b i s).flt = s.flt ∧ (setLatch b i s).tim = s.tim ∧
    (setLatch b i s).pwm = s.pwm ∧ (setLatch b i s).whl = s.whl ∧ (setLatch b i s).lns = s.lns ∧
    (setLatch b i s).evs = s.evs ∧ (setLatch b i s).act = s.act ∧ (setLatch b i s).dia = s.dia ∧
    (setLatch b i s).dma = s.dma ∧ (setLatch b i s).mem = s.mem ∧ (setLatch b i s).bgs = s.bgs ∧
    (setLatch b i s).obs = s.obs ∧ (setLatch b i s).sec = s.sec ∧ (setLatch b i s).links = s.links ∧
    (setLatch b i s).cfg = s.cfg ∧ (setLatch b i s).snaps = s.snaps ∧ (setLatch b i s).nv = s.nv :=
  by
  have h : _ = _ := setLatch_frame b i s
  rw [h]
  exact ⟨rfl, rfl, rfl, rfl, rfl, rfl, rfl, rfl, rfl, rfl, rfl, rfl, rfl, rfl, rfl, rfl, rfl, rfl, rfl, rfl, rfl, rfl, rfl, rfl, rfl, rfl⟩
@[simp] theorem latchSq_blocks (b q : Nat) (s : State) :
    (latchSq b q s).pending = s.pending ∧ (latchSq b q s).etc = s.etc ∧ (latchSq b q s).now = s.now ∧ (latchSq b q s).sleepBase = s.sleepBase ∧
    (latchSq b q s).fresh = s.fresh ∧ (latchSq b q s).ruler = s.ruler ∧ (latchSq b q s).supply = s.supply ∧
    (latchSq b q s).sys = s.sys ∧ (latchSq b q s).irc = s.irc ∧ (latchSq b q s).flt = s.flt ∧
    (latchSq b q s).tim = s.tim ∧ (latchSq b q s).pwm = s.pwm ∧ (latchSq b q s).whl = s.whl ∧
    (latchSq b q s).lns = s.lns ∧ (latchSq b q s).evs = s.evs ∧ (latchSq b q s).act = s.act ∧
    (latchSq b q s).dia = s.dia ∧ (latchSq b q s).dma = s.dma ∧ (latchSq b q s).mem = s.mem ∧
    (latchSq b q s).bgs = s.bgs ∧ (latchSq b q s).obs = s.obs ∧ (latchSq b q s).sec = s.sec ∧
    (latchSq b q s).links = s.links ∧ (latchSq b q s).cfg = s.cfg ∧ (latchSq b q s).snaps = s.snaps ∧
    (latchSq b q s).nv = s.nv :=
  by
  have h : _ = _ := latchSq_frame b q s
  rw [h]
  exact ⟨rfl, rfl, rfl, rfl, rfl, rfl, rfl, rfl, rfl, rfl, rfl, rfl, rfl, rfl, rfl, rfl, rfl, rfl, rfl, rfl, rfl, rfl, rfl, rfl, rfl, rfl⟩
@[simp] theorem latchAll_blocks (b : Nat) (s : State) :
    (latchAll b s).pending = s.pending ∧ (latchAll b s).etc = s.etc ∧ (latchAll b s).now = s.now ∧ (latchAll b s).sleepBase = s.sleepBase ∧
    (latchAll b s).fresh = s.fresh ∧ (latchAll b s).ruler = s.ruler ∧ (latchAll b s).supply = s.supply ∧
    (latchAll b s).sys = s.sys ∧ (latchAll b s).irc = s.irc ∧ (latchAll b s).flt = s.flt ∧
    (latchAll b s).tim = s.tim ∧ (latchAll b s).pwm = s.pwm ∧ (latchAll b s).whl = s.whl ∧
    (latchAll b s).lns = s.lns ∧ (latchAll b s).evs = s.evs ∧ (latchAll b s).act = s.act ∧
    (latchAll b s).dia = s.dia ∧ (latchAll b s).dma = s.dma ∧ (latchAll b s).mem = s.mem ∧
    (latchAll b s).bgs = s.bgs ∧ (latchAll b s).obs = s.obs ∧ (latchAll b s).sec = s.sec ∧
    (latchAll b s).links = s.links ∧ (latchAll b s).cfg = s.cfg ∧ (latchAll b s).snaps = s.snaps ∧
    (latchAll b s).nv = s.nv :=
  by
  have h : _ = _ := latchAll_frame b s
  rw [h]
  exact ⟨rfl, rfl, rfl, rfl, rfl, rfl, rfl, rfl, rfl, rfl, rfl, rfl, rfl, rfl, rfl, rfl, rfl, rfl, rfl, rfl, rfl, rfl, rfl, rfl, rfl, rfl⟩
@[simp] theorem notice_blocks (o : Nat) (a b : Word) (s : State) :
    (notice o a b s).pending = s.pending ∧ (notice o a b s).etc = s.etc ∧ (notice o a b s).now = s.now ∧
    (notice o a b s).sleepBase = s.sleepBase ∧ (notice o a b s).fresh = s.fresh ∧
    (notice o a b s).ruler = s.ruler ∧ (notice o a b s).supply = s.supply ∧ (notice o a b s).sys = s.sys ∧
    (notice o a b s).irc = s.irc ∧ (notice o a b s).flt = s.flt ∧ (notice o a b s).tim = s.tim ∧
    (notice o a b s).pwm = s.pwm ∧ (notice o a b s).whl = s.whl ∧ (notice o a b s).lns = s.lns ∧
    (notice o a b s).evs = s.evs ∧ (notice o a b s).act = s.act ∧ (notice o a b s).dia = s.dia ∧
    (notice o a b s).dma = s.dma ∧ (notice o a b s).mem = s.mem ∧ (notice o a b s).bgs = s.bgs ∧
    (notice o a b s).obs = s.obs ∧ (notice o a b s).sec = s.sec ∧ (notice o a b s).links = s.links ∧
    (notice o a b s).cfg = s.cfg ∧ (notice o a b s).snaps = s.snaps ∧ (notice o a b s).nv = s.nv :=
  by
  have h : _ = _ := notice_frame o a b s
  rw [h]
  exact ⟨rfl, rfl, rfl, rfl, rfl, rfl, rfl, rfl, rfl, rfl, rfl, rfl, rfl, rfl, rfl, rfl, rfl, rfl, rfl, rfl, rfl, rfl, rfl, rfl, rfl, rfl⟩
@[simp] theorem settle_pieces (k : Nat) (s : State) :
    (settle s).chan k = s.chan k ∧ (settle s).bank k = s.bank k ∧ (settle s).kettle k = s.kettle k ∧
    (settle s).dch k = s.dch k ∧ (settle s).dgt k = s.dgt k ∧ (settle s).slot k = s.slot k ∧
    (settle s).sq k = s.sq k ∧ (settle s).ctx k = s.ctx k ∧ (settle s).dmaCh k = s.dmaCh k ∧
    (settle s).timer k = s.timer k ∧ (settle s).ebU k = s.ebU k ∧ (settle s).kcU k = s.kcU k ∧
    (settle s).wheel k = s.wheel k := by
  simp [State.chan, State.bank, State.kettle, State.dch, State.dgt, State.slot, State.sq, State.ctx, State.dmaCh, State.timer, State.ebU, State.kcU, State.wheel]
@[simp] theorem advance_pieces (k : Nat) (t : Tick) (s : State) :
    (s.advance t).chan k = s.chan k ∧ (s.advance t).bank k = s.bank k ∧ (s.advance t).kettle k = s.kettle k ∧
    (s.advance t).dch k = s.dch k ∧ (s.advance t).dgt k = s.dgt k ∧ (s.advance t).slot k = s.slot k ∧
    (s.advance t).sq k = s.sq k ∧ (s.advance t).ctx k = s.ctx k ∧ (s.advance t).dmaCh k = s.dmaCh k ∧
    (s.advance t).timer k = s.timer k ∧ (s.advance t).ebU k = s.ebU k ∧ (s.advance t).kcU k = s.kcU k ∧
    (s.advance t).wheel k = s.wheel k := by
  simp [State.chan, State.bank, State.kettle, State.dch, State.dgt, State.slot, State.sq, State.ctx, State.dmaCh, State.timer, State.ebU, State.kcU, State.wheel]
@[simp] theorem raise_pieces (k : Nat) (n : Nat) (s : State) :
    (raise n s).chan k = s.chan k ∧ (raise n s).bank k = s.bank k ∧ (raise n s).kettle k = s.kettle k ∧
    (raise n s).dch k = s.dch k ∧ (raise n s).dgt k = s.dgt k ∧ (raise n s).slot k = s.slot k ∧
    (raise n s).sq k = s.sq k ∧ (raise n s).ctx k = s.ctx k ∧ (raise n s).dmaCh k = s.dmaCh k ∧
    (raise n s).timer k = s.timer k ∧ (raise n s).ebU k = s.ebU k ∧ (raise n s).kcU k = s.kcU k ∧
    (raise n s).wheel k = s.wheel k := by
  simp [State.chan, State.bank, State.kettle, State.dch, State.dgt, State.slot, State.sq, State.ctx, State.dmaCh, State.timer, State.ebU, State.kcU, State.wheel]
@[simp] theorem raiseIf_pieces (k : Nat) (c : Bool) (n : Nat) (s : State) :
    (raiseIf c n s).chan k = s.chan k ∧ (raiseIf c n s).bank k = s.bank k ∧ (raiseIf c n s).kettle k = s.kettle k ∧
    (raiseIf c n s).dch k = s.dch k ∧ (raiseIf c n s).dgt k = s.dgt k ∧ (raiseIf c n s).slot k = s.slot k ∧
    (raiseIf c n s).sq k = s.sq k ∧ (raiseIf c n s).ctx k = s.ctx k ∧ (raiseIf c n s).dmaCh k = s.dmaCh k ∧
    (raiseIf c n s).timer k = s.timer k ∧ (raiseIf c n s).ebU k = s.ebU k ∧ (raiseIf c n s).kcU k = s.kcU k ∧
    (raiseIf c n s).wheel k = s.wheel k := by
  simp [State.chan, State.bank, State.kettle, State.dch, State.dgt, State.slot, State.sq, State.ctx, State.dmaCh, State.timer, State.ebU, State.kcU, State.wheel]
@[simp] theorem log_pieces (k : Nat) (a l : Nat) (b : List Byte) (s : State) :
    (log a l b s).chan k = s.chan k ∧ (log a l b s).bank k = s.bank k ∧ (log a l b s).kettle k = s.kettle k ∧
    (log a l b s).dch k = s.dch k ∧ (log a l b s).dgt k = s.dgt k ∧ (log a l b s).slot k = s.slot k ∧
    (log a l b s).sq k = s.sq k ∧ (log a l b s).ctx k = s.ctx k ∧ (log a l b s).dmaCh k = s.dmaCh k ∧
    (log a l b s).timer k = s.timer k ∧ (log a l b s).ebU k = s.ebU k ∧ (log a l b s).kcU k = s.kcU k ∧
    (log a l b s).wheel k = s.wheel k := by
  simp [State.chan, State.bank, State.kettle, State.dch, State.dgt, State.slot, State.sq, State.ctx, State.dmaCh, State.timer, State.ebU, State.kcU, State.wheel]
@[simp] theorem mirror_pieces (k : Nat) (y : Nat) (b : List Byte) (s : State) :
    (mirror y b s).chan k = s.chan k ∧ (mirror y b s).bank k = s.bank k ∧ (mirror y b s).kettle k = s.kettle k ∧
    (mirror y b s).dch k = s.dch k ∧ (mirror y b s).dgt k = s.dgt k ∧ (mirror y b s).slot k = s.slot k ∧
    (mirror y b s).sq k = s.sq k ∧ (mirror y b s).ctx k = s.ctx k ∧ (mirror y b s).dmaCh k = s.dmaCh k ∧
    (mirror y b s).timer k = s.timer k ∧ (mirror y b s).ebU k = s.ebU k ∧ (mirror y b s).kcU k = s.kcU k ∧
    (mirror y b s).wheel k = s.wheel k := by
  simp [State.chan, State.bank, State.kettle, State.dch, State.dgt, State.slot, State.sq, State.ctx, State.dmaCh, State.timer, State.ebU, State.kcU, State.wheel]
@[simp] theorem notice_pieces (k : Nat) (o : Nat) (a b : Word) (s : State) :
    (notice o a b s).chan k = s.chan k ∧ (notice o a b s).bank k = s.bank k ∧
    (notice o a b s).kettle k = s.kettle k ∧ (notice o a b s).dch k = s.dch k ∧ (notice o a b s).dgt k = s.dgt k ∧
    (notice o a b s).slot k = s.slot k ∧ (notice o a b s).dmaCh k = s.dmaCh k ∧
    (notice o a b s).timer k = s.timer k ∧ (notice o a b s).ebU k = s.ebU k ∧ (notice o a b s).kcU k = s.kcU k ∧
    (notice o a b s).wheel k = s.wheel k := by
  simp [State.chan, State.bank, State.kettle, State.dch, State.dgt, State.slot, State.dmaCh, State.timer, State.ebU, State.kcU, State.wheel]
@[simp] theorem latchAll_pieces (k : Nat) (b : Nat) (s : State) :
    (latchAll b s).chan k = s.chan k ∧ (latchAll b s).bank k = s.bank k ∧ (latchAll b s).kettle k = s.kettle k ∧
    (latchAll b s).dch k = s.dch k ∧ (latchAll b s).dgt k = s.dgt k ∧ (latchAll b s).slot k = s.slot k ∧
    (latchAll b s).dmaCh k = s.dmaCh k ∧ (latchAll b s).timer k = s.timer k ∧ (latchAll b s).ebU k = s.ebU k ∧
    (latchAll b s).kcU k = s.kcU k ∧ (latchAll b s).wheel k = s.wheel k := by
  simp [State.chan, State.bank, State.kettle, State.dch, State.dgt, State.slot, State.dmaCh, State.timer, State.ebU, State.kcU, State.wheel]

end Sys2Proof.Machine
end

