-- ==== Sys2Proof/Laws/Mode.lean ====
section
/-! SUPPORT. The operations that keep the module in RUN. -/

set_option linter.all false

namespace Sys2Proof.Machine
theorem foldl_mode {α : Type} (l : List α) (f : State → α → State) (s : State) (h : ∀ (s : State) a, s.sys.mode = .run → (f s a).sys.mode = .run)
    (h_ : s.sys.mode = .run) : (l.foldl f s).sys.mode = .run := by
  induction l generalizing s with
  | nil => exact h_
  | cons a r ih => exact ih _ (h _ _ h_)
theorem foldl1_mode {α β : Type} (l : List α) (f : State × β → α → State × β) (s : State × β)
    (h : ∀ (s : State × β) a, s.1.sys.mode = .run → (f s a).1.sys.mode = .run) (h_ : s.1.sys.mode = .run) : (l.foldl f s).1.sys.mode = .run := by
  induction l generalizing s with
  | nil => exact h_
  | cons a r ih => exact ih _ (h _ _ h_)
theorem repeatN_mode (f : State → State) (n : Nat) (s : State) (h : ∀ s : State, s.sys.mode = .run → (f s).sys.mode = .run) (h_ : s.sys.mode = .run) :
    (repeatN f n s).sys.mode = .run := by
  induction n generalizing s with
  | zero => exact h_
  | succ n ih => exact ih _ (h _ h_)
theorem or_mode (a : Option Reply) (b : Unit → Option Reply) (h1 : ∀ r, a = some r → r.state.sys.mode = .run)
    (h2 : ∀ r, b () = some r → r.state.sys.mode = .run) (r : Reply) (h : a.orElse b = some r) : r.state.sys.mode = .run := by
  cases a with
  | none => exact h2 r h
  | some x => exact h1 r h
theorem getD_mode (a : Option State) (d : State) (h1 : ∀ x, a = some x → x.sys.mode = .run) (h2 : d.sys.mode = .run) : (a.getD d).sys.mode = .run := by
  cases a with
  | none => exact h2
  | some x => exact h1 x rfl

theorem State_advance_mode (t : Tick) (s : State) (h_ : s.sys.mode = .run) :
    (Sys2Proof.Machine.State.advance t s).sys.mode = .run := by
  unfold State.advance
  repeat' (with_reducible first | assumption | dsimp only | split | intro)

theorem State_setChan_mode (s : State) (k : Nat) (c : Chan) (h_ : s.sys.mode = .run) :
    (Sys2Proof.Machine.State.setChan s k c).sys.mode = .run := by
  unfold State.setChan
  repeat' (with_reducible first | assumption | dsimp only | split | intro)

theorem State_setBank_mode (s : State) (b : Nat) (c : BankSt) (h_ : s.sys.mode = .run) :
    (Sys2Proof.Machine.State.setBank s b c).sys.mode = .run := by
  unfold State.setBank
  repeat' (with_reducible first | assumption | dsimp only | split | intro)

theorem State_setKettle_mode (s : State) (k : Nat) (c : Kettle) (h_ : s.sys.mode = .run) :
    (Sys2Proof.Machine.State.setKettle s k c).sys.mode = .run := by
  unfold State.setKettle
  repeat' (with_reducible first | assumption | dsimp only | split | intro)

theorem State_setDch_mode (s : State) (k : Nat) (c : DiaCh) (h_ : s.sys.mode = .run) :
    (Sys2Proof.Machine.State.setDch s k c).sys.mode = .run := by
  unfold State.setDch
  repeat' (with_reducible first | assumption | dsimp only | split | intro)

theorem State_setDgt_mode (s : State) (b : Nat) (c : Digitiser) (h_ : s.sys.mode = .run) :
    (Sys2Proof.Machine.State.setDgt s b c).sys.mode = .run := by
  unfold State.setDgt
  repeat' (with_reducible first | assumption | dsimp only | split | intro)

theorem State_setSlot_mode (s : State) (i : Nat) (e : Event) (h_ : s.sys.mode = .run) :
    (Sys2Proof.Machine.State.setSlot s i e).sys.mode = .run := by
  unfold State.setSlot
  repeat' (with_reducible first | assumption | dsimp only | split | intro)

theorem State_setSq_mode (s : State) (q : Nat) (c : SeqSt) (h_ : s.sys.mode = .run) :
    (Sys2Proof.Machine.State.setSq s q c).sys.mode = .run := by
  unfold State.setSq
  repeat' (with_reducible first | assumption | dsimp only | split | intro)

theorem State_setCtx_mode (s : State) (i : Nat) (c : Ctx) (h_ : s.sys.mode = .run) :
    (Sys2Proof.Machine.State.setCtx s i c).sys.mode = .run := by
  unfold State.setCtx
  repeat' (with_reducible first | assumption | dsimp only | split | intro)

theorem State_setDma_mode (s : State) (c : Nat) (d : DmaCh) (h_ : s.sys.mode = .run) :
    (Sys2Proof.Machine.State.setDma s c d).sys.mode = .run := by
  unfold State.setDma
  repeat' (with_reducible first | assumption | dsimp only | split | intro)

theorem State_setTimer_mode (s : State) (n : Nat) (c : Timer) (h_ : s.sys.mode = .run) :
    (Sys2Proof.Machine.State.setTimer s n c).sys.mode = .run := by
  unfold State.setTimer
  repeat' (with_reducible first | assumption | dsimp only | split | intro)

theorem State_setEb_mode (s : State) (n : Nat) (c : Eb) (h_ : s.sys.mode = .run) :
    (Sys2Proof.Machine.State.setEb s n c).sys.mode = .run := by
  unfold State.setEb
  repeat' (with_reducible first | assumption | dsimp only | split | intro)

theorem State_setKc_mode (s : State) (k : Nat) (c : Kc) (h_ : s.sys.mode = .run) :
    (Sys2Proof.Machine.State.setKc s k c).sys.mode = .run := by
  unfold State.setKc
  repeat' (with_reducible first | assumption | dsimp only | split | intro)

theorem State_setWheel_mode (s : State) (n : Nat) (c : WheelIn) (h_ : s.sys.mode = .run) :
    (Sys2Proof.Machine.State.setWheel s n c).sys.mode = .run := by
  unfold State.setWheel
  repeat' (with_reducible first | assumption | dsimp only | split | intro)

theorem State_setLink_mode (s : State) (l : Link) (x : LinkSt) (h_ : s.sys.mode = .run) :
    (Sys2Proof.Machine.State.setLink s l x).sys.mode = .run := by
  unfold State.setLink
  repeat' (with_reducible first | assumption | dsimp only | split | intro)

theorem State_memPatch_mode (s : State) (a : Nat) (b : List Byte) (h_ : s.sys.mode = .run) :
    (Sys2Proof.Machine.State.memPatch s a b).sys.mode = .run := by
  unfold State.memPatch
  repeat' (with_reducible first | assumption | dsimp only | split | intro)

theorem State_memWrite_mode (s : State) (a : Nat) (b : List Byte) (h_ : s.sys.mode = .run) :
    (Sys2Proof.Machine.State.memWrite s a b).sys.mode = .run := by
  unfold State.memWrite
  repeat' (with_reducible first | assumption | dsimp only | split | intro)

theorem State_memSetWord_mode (s : State) (a : Nat) (w : Word) (h_ : s.sys.mode = .run) :
    (Sys2Proof.Machine.State.memSetWord s a w).sys.mode = .run := by
  unfold State.memSetWord
  repeat' (with_reducible first | assumption | apply State_memWrite_mode | dsimp only | split | intro)

theorem wake_mode (b : Nat) (s : State) (h_ : s.sys.mode = .run) :
    (wake b s).sys.mode = .run := by
  unfold wake
  repeat' (with_reducible first | assumption | dsimp only | split | intro)

theorem raise_mode (n : Nat) (s : State) (h_ : s.sys.mode = .run) :
    (raise n s).sys.mode = .run := by
  unfold raise
  repeat' (with_reducible first | assumption | apply wake_mode | dsimp only | split | intro)

theorem raiseIf_mode (c : Bool) (n : Nat) (s : State) (h_ : s.sys.mode = .run) :
    (raiseIf c n s).sys.mode = .run := by
  unfold raiseIf
  repeat' (with_reducible first | assumption | apply raise_mode | dsimp only | split | intro)

theorem settle_mode (s : State) (h_ : s.sys.mode = .run) :
    (settle s).sys.mode = .run := by
  unfold settle
  repeat' (with_reducible first | assumption | dsimp only | split | intro)

theorem logPut_mode (kind : Nat) (body : List Byte) (s : State) (h_ : s.sys.mode = .run) :
    (logPut kind body s).sys.mode = .run := by
  unfold logPut
  repeat' (with_reducible first | assumption | dsimp only | split | intro)

theorem logAppend_mode (kind : Nat) (body : List Byte) (s : State) (h_ : s.sys.mode = .run) :
    (logAppend kind body s).sys.mode = .run := by
  unfold logAppend
  repeat' (with_reducible first | assumption | apply logPut_mode | dsimp only | split | intro)

theorem log_mode (kind level : Nat) (body : List Byte) (s : State) (h_ : s.sys.mode = .run) :
    (log kind level body s).sys.mode = .run := by
  unfold log
  repeat' (with_reducible first | assumption | apply logAppend_mode | dsimp only | split | intro)

theorem mirrorAt_mode (ty : Nat) (body : List Byte) (etc : Tick) (s : State) (h_ : s.sys.mode = .run) :
    (mirrorAt ty body etc s).sys.mode = .run := by
  unfold mirrorAt
  repeat' (with_reducible first | assumption | apply raiseIf_mode | dsimp only | split | intro)

theorem mirror_mode (ty : Nat) (body : List Byte) (s : State) (h_ : s.sys.mode = .run) :
    (mirror ty body s).sys.mode = .run := by
  unfold mirror
  repeat' (with_reducible first | assumption | apply mirrorAt_mode | dsimp only | split | intro)

theorem mirrorState_mode (kind value : Nat) (s : State) (h_ : s.sys.mode = .run) :
    (mirrorState kind value s).sys.mode = .run := by
  unfold mirrorState
  repeat' (with_reducible first | assumption | apply mirror_mode | dsimp only | split | intro)

theorem makeReady_mode (i : Nat) (s : State) (h_ : s.sys.mode = .run) :
    (makeReady i s).sys.mode = .run := by
  unfold makeReady
  repeat' (with_reducible first | assumption | apply State_setCtx_mode | dsimp only | split | intro)

theorem startActivation_mode (trig i : Nat) (t : Task) (s : State) (h_ : s.sys.mode = .run) :
    (startActivation trig i t s).sys.mode = .run := by
  unfold startActivation
  repeat' (with_reducible first | assumption | apply makeReady_mode | apply State_setCtx_mode | dsimp only | split | intro)

theorem activate_mode (trig i : Nat) (s : State) (h_ : s.sys.mode = .run) :
    (activate trig i s).sys.mode = .run := by
  unfold activate
  repeat' (with_reducible first | assumption | apply startActivation_mode | apply State_setCtx_mode | dsimp only | split | intro)

theorem wakeLatch_mode (i : Nat) (s : State) (h_ : s.sys.mode = .run) :
    (wakeLatch i s).sys.mode = .run := by
  unfold wakeLatch
  repeat' (with_reducible first | assumption | apply makeReady_mode | apply State_setCtx_mode | apply setReg_mode | dsimp only | split | intro)

theorem setLatch_mode (b i : Nat) (s : State) (h_ : s.sys.mode = .run) :
    (setLatch b i s).sys.mode = .run := by
  unfold setLatch
  repeat' (with_reducible first | assumption | apply State_setCtx_mode | apply activate_mode | apply wakeLatch_mode | dsimp only | split | intro)

theorem forEach_mode (l : List Nat) (f : Nat → State → State) (s : State) (h_f : ∀ i (s : State), s.sys.mode = .run → (f i s).sys.mode = .run)
    (h_ : s.sys.mode = .run) : (forEach l f s).sys.mode = .run := foldl_mode _ _ _ (fun s i => h_f i s) h_

theorem latchSq_mode (b q : Nat) (s : State) (h_ : s.sys.mode = .run) :
    (latchSq b q s).sys.mode = .run := by
  unfold latchSq
  repeat' (with_reducible first | assumption | apply State_setSq_mode | apply forEach_mode | apply setLatch_mode | dsimp only | split | intro)

theorem latchAll_mode (b : Nat) (s : State) (h_ : s.sys.mode = .run) :
    (latchAll b s).sys.mode = .run := by
  unfold latchAll
  repeat' (with_reducible first | assumption | apply forEach_mode | apply setLatch_mode | dsimp only | split | intro)

theorem notice_mode (owner : Nat) (w0 w1 : Word) (s : State) (h_ : s.sys.mode = .run) :
    (notice owner w0 w1 s).sys.mode = .run := by
  unfold notice
  repeat' (with_reducible first | assumption | apply State_setSq_mode | apply latchSq_mode | dsimp only | split | intro)

theorem ebZero_mode (n : Nat) (s : State) (h_ : s.sys.mode = .run) :
    (ebZero n s).sys.mode = .run := by
  unfold ebZero
  repeat' (with_reducible first | assumption | apply raiseIf_mode | apply State_setEb_mode | dsimp only | split | intro)

theorem ebPer_mode (n : Nat) (s : State) (h_ : s.sys.mode = .run) :
    (ebPer n s).sys.mode = .run := by
  unfold ebPer
  repeat' (with_reducible first | assumption | apply raiseIf_mode | apply State_setEb_mode | dsimp only | split | intro)

theorem ebCmp_mode (n : Nat) (s : State) (h_ : s.sys.mode = .run) :
    (ebCmp n s).sys.mode = .run := by
  unfold ebCmp
  repeat' (with_reducible first | assumption | apply raiseIf_mode | apply State_setEb_mode | dsimp only | split | intro)

theorem ebTrip_mode (n : Nat) (s : State) (h_ : s.sys.mode = .run) :
    (ebTrip n s).sys.mode = .run := by
  unfold ebTrip
  repeat' (with_reducible first | assumption | apply raiseIf_mode | apply State_setEb_mode | dsimp only | split | intro)

theorem ebUnblank_mode (n : Nat) (s : State) (h_ : s.sys.mode = .run) :
    (ebUnblank n s).sys.mode = .run := by
  unfold ebUnblank
  repeat' (with_reducible first | assumption | apply State_setEb_mode | apply ebTrip_mode | dsimp only | split | intro)

theorem ebPhase_mode (toHigh : Bool) (x : Tick) (len : Nat) (n : Nat) (s : State) (h_ : s.sys.mode = .run) :
    (ebPhase toHigh x len n s).sys.mode = .run := by
  unfold ebPhase
  repeat' (with_reducible first | assumption | apply State_setEb_mode | apply raiseIf_mode | apply ebUnblank_mode | dsimp only | split | intro)

theorem ebZeroPhase_mode (x : Tick) (n : Nat) (s : State) (h_ : s.sys.mode = .run) :
    (ebZeroPhase x n s).sys.mode = .run := by
  unfold ebZeroPhase
  repeat' (with_reducible first | assumption | apply ebPhase_mode | apply State_setEb_mode | dsimp only | split | intro)

theorem ebBoundary_mode (x : Tick) (n : Nat) (s : State) (h_ : s.sys.mode = .run) :
    (ebBoundary x n s).sys.mode = .run := by
  unfold ebBoundary
  repeat' (with_reducible first | assumption | apply State_setEb_mode | apply ebZero_mode | apply ebPer_mode | apply ebZeroPhase_mode | dsimp only | split | intro)

theorem ebShadow_mode (f : EbVals → EbVals) (n : Nat) (s : State) (h_ : s.sys.mode = .run) :
    (ebShadow f n s).sys.mode = .run := by
  unfold ebShadow
  repeat' (with_reducible first | assumption | apply State_setEb_mode | dsimp only | split | intro)

theorem doEbPeriodBoundary_mode (n : Nat) (bootLow : Bool) (s : State) (h_ : s.sys.mode = .run) :
    (doEbPeriodBoundary n bootLow s).sys.mode = .run := by
  unfold doEbPeriodBoundary
  repeat' (with_reducible first | assumption | apply ebBoundary_mode | apply State_setEb_mode | dsimp only | split | intro)

theorem doEbPerEvent_mode (n : Nat) (s : State) (h_ : s.sys.mode = .run) :
    (doEbPerEvent n s).sys.mode = .run := by
  unfold doEbPerEvent
  repeat' (with_reducible first | assumption | apply ebPer_mode | apply State_setEb_mode | dsimp only | split | intro)

theorem doEbPhaseEdge_mode (n : Nat) (bootLow : Bool) (s : State) (h_ : s.sys.mode = .run) :
    (doEbPhaseEdge n bootLow s).sys.mode = .run := by
  unfold doEbPhaseEdge
  repeat' (with_reducible first | assumption | apply ebCmp_mode | apply ebPhase_mode | apply State_setEb_mode | dsimp only | split | intro)

theorem doEbDeadTimeEnd_mode (n : Nat) (swung : Bool) (s : State) (h_ : s.sys.mode = .run) :
    (doEbDeadTimeEnd n swung s).sys.mode = .run := by
  unfold doEbDeadTimeEnd
  repeat' (with_reducible first | assumption | apply State_setEb_mode | dsimp only | split | intro)

theorem setTrip_mode (i : Nat) (active : Bool) (s : State) (h_ : s.sys.mode = .run) :
    (setTrip i active s).sys.mode = .run := by
  unfold setTrip
  repeat' (with_reducible first | assumption | dsimp only | split | intro)

theorem ebTripDecide_mode (n : Nat) (s : State) (h_ : s.sys.mode = .run) :
    (ebTripDecide n s).sys.mode = .run := by
  unfold ebTripDecide
  repeat' (with_reducible first | assumption | apply State_setEb_mode | apply ebTrip_mode | dsimp only | split | intro)

theorem doTripAccept_mode (n i held : Nat) (s : State) (h_ : s.sys.mode = .run) :
    (doTripAccept n i held s).sys.mode = .run := by
  unfold doTripAccept
  repeat' (with_reducible first | assumption | apply setTrip_mode | apply State_setEb_mode | apply ebTripDecide_mode | dsimp only | split | intro)

theorem ebSetMask_mode (mask : BitVec 4) (n : Nat) (s : State) (h_ : s.sys.mode = .run) :
    (ebSetMask mask n s).sys.mode = .run := by
  unfold ebSetMask
  repeat' (with_reducible first | assumption | apply State_setEb_mode | apply ebTripDecide_mode | dsimp only | split | intro)

theorem doBlankingEnd_mode (n : Nat) (s : State) (h_ : s.sys.mode = .run) :
    (doBlankingEnd n s).sys.mode = .run := by
  unfold doBlankingEnd
  repeat' (with_reducible first | assumption | apply State_setEb_mode | apply ebTrip_mode | dsimp only | split | intro)

theorem ebRelease_mode (i n : Nat) (s : State) (h_ : s.sys.mode = .run) :
    (ebRelease i n s).sys.mode = .run := by
  unfold ebRelease
  repeat' (with_reducible first | assumption | apply State_setEb_mode | dsimp only | split | intro)

theorem doTripInputRelease_mode (i : Nat) (s : State) (h_ : s.sys.mode = .run) :
    (doTripInputRelease i s).sys.mode = .run := by
  unfold doTripInputRelease
  repeat' (with_reducible first | assumption | apply forEach_mode | apply ebRelease_mode | apply setTrip_mode | dsimp only | split | intro)

theorem tripsApplied_mode (s : State) (h_ : s.sys.mode = .run) :
    (tripsApplied s).sys.mode = .run := by
  unfold tripsApplied
  repeat' (with_reducible first | assumption | apply forEach_mode | apply ebRelease_mode | dsimp only | split | intro)

theorem doEbEnable_mode (n : Nat) (s : State) (h_ : s.sys.mode = .run) :
    (doEbEnable n s).sys.mode = .run := by
  unfold doEbEnable
  repeat' (with_reducible first | assumption | apply ebPhase_mode | apply State_setEb_mode | apply ebTrip_mode | dsimp only | split | intro)

theorem doEbDisable_mode (n : Nat) (s : State) (h_ : s.sys.mode = .run) :
    (doEbDisable n s).sys.mode = .run := by
  unfold doEbDisable
  repeat' (with_reducible first | assumption | apply State_setEb_mode | dsimp only | split | intro)

theorem ebAllOff_mode (s : State) (h_ : s.sys.mode = .run) :
    (ebAllOff s).sys.mode = .run := by
  unfold ebAllOff
  repeat' (with_reducible first | assumption | apply forEach_mode | apply doEbDisable_mode | dsimp only | split | intro)

theorem doEbLoadArm_mode (n : Nat) (s : State) (h_ : s.sys.mode = .run) :
    (doEbLoadArm n s).sys.mode = .run := by
  unfold doEbLoadArm
  repeat' (with_reducible first | assumption | apply State_setEb_mode | dsimp only | split | intro)

theorem doPwmGlbLoad_mode (mask : Nat) (s : State) (h_ : s.sys.mode = .run) :
    (doPwmGlbLoad mask s).sys.mode = .run := by
  unfold doPwmGlbLoad
  repeat' (with_reducible first | assumption | apply forEach_mode | apply doEbLoadArm_mode | dsimp only | split | intro)

theorem doPwmGlbStart_mode (mask : Nat) (s : State) (h_ : s.sys.mode = .run) :
    (doPwmGlbStart mask s).sys.mode = .run := by
  unfold doPwmGlbStart
  repeat' (with_reducible first | assumption | apply forEach_mode | apply doEbEnable_mode | dsimp only | split | intro)

theorem bootstrapFree_mode (n : Nat) (s : State) (h_ : s.sys.mode = .run) :
    (bootstrapFree n s).sys.mode = .run := by
  unfold bootstrapFree
  repeat' (with_reducible first | assumption | apply State_setEb_mode | dsimp only | split | intro)

theorem ebRecross_mode (n : Nat) (s : State) (h_ : s.sys.mode = .run) :
    (ebRecross n s).sys.mode = .run := by
  unfold ebRecross
  repeat' (with_reducible first | assumption | apply ebPhase_mode | apply bootstrapFree_mode | dsimp only | split | intro)

theorem ebImmPer_mode (v n : Nat) (s : State) (h_ : s.sys.mode = .run) :
    (ebImmPer v n s).sys.mode = .run := by
  unfold ebImmPer
  repeat' (with_reducible first | assumption | apply State_setEb_mode | apply ebBoundary_mode | apply bootstrapFree_mode | apply ebRecross_mode | apply ebPer_mode | dsimp only | split | intro)

theorem ebImmCmp_mode (v n : Nat) (s : State) (h_ : s.sys.mode = .run) :
    (ebImmCmp v n s).sys.mode = .run := by
  unfold ebImmCmp
  repeat' (with_reducible first | assumption | apply ebRecross_mode | apply State_setEb_mode | dsimp only | split | intro)

theorem doEbWrite_mode (n : Nat) (which : EbValue) (value : Word) (s : State) (h_ : s.sys.mode = .run) :
    (doEbWrite n which value s).sys.mode = .run := by
  unfold doEbWrite
  repeat' (with_reducible first | assumption | apply ebImmPer_mode | apply ebShadow_mode | apply ebImmCmp_mode | dsimp only | split | intro)

theorem doEbTripClear_mode (n : Nat) (s : State) (h_ : s.sys.mode = .run) :
    (doEbTripClear n s).sys.mode = .run := by
  unfold doEbTripClear
  repeat' (with_reducible first | assumption | apply State_setEb_mode | dsimp only | split | intro)

theorem kcStop_mode (k : Nat) (s : State) (h_ : s.sys.mode = .run) :
    (kcStop k s).sys.mode = .run := by
  unfold kcStop
  repeat' (with_reducible first | assumption | apply State_setKc_mode | dsimp only | split | intro)

theorem kcZero_mode (k : Nat) (s : State) (h_ : s.sys.mode = .run) :
    (kcZero k s).sys.mode = .run := by
  unfold kcZero
  repeat' (with_reducible first | assumption | apply raiseIf_mode | apply State_setKc_mode | dsimp only | split | intro)

theorem kcPer_mode (k : Nat) (s : State) (h_ : s.sys.mode = .run) :
    (kcPer k s).sys.mode = .run := by
  unfold kcPer
  repeat' (with_reducible first | assumption | apply raiseIf_mode | apply State_setKc_mode | dsimp only | split | intro)

theorem kcCmp_mode (k : Nat) (s : State) (h_ : s.sys.mode = .run) :
    (kcCmp k s).sys.mode = .run := by
  unfold kcCmp
  repeat' (with_reducible first | assumption | apply raiseIf_mode | apply State_setKc_mode | dsimp only | split | intro)

theorem kcReached_mode (k : Nat) (s : State) (h_ : s.sys.mode = .run) :
    (kcReached k s).sys.mode = .run := by
  unfold kcReached
  repeat' (with_reducible first | assumption | apply kcCmp_mode | dsimp only | split | intro)

theorem kcNow_mode (s : State) (h_ : s.sys.mode = .run) :
    (kcNow s).sys.mode = .run := by
  unfold kcNow
  repeat' (with_reducible first | assumption | apply forEach_mode | apply kcReached_mode | dsimp only | split | intro)

theorem doKcPeriodBoundary_mode (k per cmp : Nat) (s : State) (h_ : s.sys.mode = .run) :
    (doKcPeriodBoundary k per cmp s).sys.mode = .run := by
  unfold doKcPeriodBoundary
  repeat' (with_reducible first | assumption | apply kcStop_mode | apply kcPer_mode | apply kcZero_mode | apply State_setKc_mode | dsimp only | split | intro)

theorem doKcTrigger_mode (k j : Nat) (code : BitVec 12) (s : State) (h_ : s.sys.mode = .run) :
    (doKcTrigger k j code s).sys.mode = .run := by
  unfold doKcTrigger
  repeat' (with_reducible first | assumption | apply State_setKc_mode | apply State_setDgt_mode | apply raiseIf_mode | dsimp only | split | intro)

theorem timFollow_mode (rec : TimOp → Nat → Tick → State → State) (op : TimOp) (n : Nat) (x : Tick) (m : Nat) (s : State)
    (h_r : ∀ o n x (s : State), s.sys.mode = .run → (rec o n x s).sys.mode = .run) (h_ : s.sys.mode = .run) : (timFollow rec op n x m s).sys.mode = .run := by
  unfold timFollow
  repeat' (with_reducible first | assumption | apply State_setTimer_mode | apply h_r | dsimp only | split | intro)
theorem timAct_mode (k : Nat) (op : TimOp) (n : Nat) (x : Tick) (s : State) (h_ : s.sys.mode = .run) : (timAct k op n x s).sys.mode = .run := by
  induction k generalizing op n x s with
  | zero => cases op <;> exact h_
  | succ k ih =>
    cases op <;> simp only [timAct]
    all_goals
      refine foldl_mode _ _ _ (fun s a h => timFollow_mode _ _ _ _ _ _ ih h) ?_
      repeat' (with_reducible first | assumption | apply ih | apply State_setTimer_mode | apply raiseIf_mode | apply wake_mode | dsimp only | split)

theorem timBefore_mode (n : Nat) (x : Tick) (s : State) (h_ : s.sys.mode = .run) :
    (timBefore n x s).sys.mode = .run := by
  unfold timBefore
  repeat' (with_reducible first | assumption | apply timAct_mode | dsimp only | split | intro)

theorem doTimerStart_mode (n : Nat) (s : State) (h_ : s.sys.mode = .run) :
    (doTimerStart n s).sys.mode = .run := by
  unfold doTimerStart
  repeat' (with_reducible first | assumption | apply timBefore_mode | apply State_setTimer_mode | apply timAct_mode | dsimp only | split | intro)

theorem doTimerStop_mode (n : Nat) (s : State) (h_ : s.sys.mode = .run) :
    (doTimerStop n s).sys.mode = .run := by
  unfold doTimerStop
  repeat' (with_reducible first | assumption | apply timBefore_mode | apply State_setTimer_mode | dsimp only | split | intro)

theorem doTimerTargetWrite_mode (n : Nat) (target : Word) (s : State) (h_ : s.sys.mode = .run) :
    (doTimerTargetWrite n target s).sys.mode = .run := by
  unfold doTimerTargetWrite
  repeat' (with_reducible first | assumption | apply timBefore_mode | apply State_setTimer_mode | apply timAct_mode | dsimp only | split | intro)

theorem doTimGlbStart_mode (mask : Nat) (s : State) (h_ : s.sys.mode = .run) :
    (doTimGlbStart mask s).sys.mode = .run := by
  unfold doTimGlbStart
  repeat' (with_reducible first | assumption | apply forEach_mode | apply doTimerStart_mode | dsimp only | split | intro)

theorem doTimerExpiry_mode (n : Nat) (s : State) (h_ : s.sys.mode = .run) :
    (doTimerExpiry n s).sys.mode = .run := by
  unfold doTimerExpiry
  repeat' (with_reducible first | assumption | apply timAct_mode | dsimp only | split | intro)

theorem captureAt_mode (alive : Bool) (n : Nat) (stamp : Tick) (s : State) (h_ : s.sys.mode = .run) :
    (captureAt alive n stamp s).sys.mode = .run := by
  unfold captureAt
  repeat' (with_reducible first | assumption | apply State_setTimer_mode | apply raiseIf_mode | dsimp only | split | intro)

theorem doCaptureEdge_mode (n : Nat) (stamp : Tick) (rising : Bool) (s : State) (h_ : s.sys.mode = .run) :
    (doCaptureEdge n stamp rising s).sys.mode = .run := by
  unfold doCaptureEdge
  repeat' (with_reducible first | assumption | apply State_setTimer_mode | apply captureAt_mode | apply timAct_mode | dsimp only | split | intro)

theorem ktEnter_mode (k : Nat) (st : KtState) (s : State) (h_ : s.sys.mode = .run) :
    (ktEnter k st s).sys.mode = .run := by
  unfold ktEnter
  repeat' (with_reducible first | assumption | apply State_setKettle_mode | apply fault_mode | apply kcStop_mode | apply raise_mode | dsimp only | split | intro)

theorem ktUpdate_mode (k : Nat) (s : State) (h_ : s.sys.mode = .run) :
    (ktUpdate k s).sys.mode = .run := by
  unfold ktUpdate
  repeat' (with_reducible first | assumption | apply ktEnter_mode | dsimp only | split | intro)

theorem ktLimit_mode (k : Nat) (s : State) (h_ : s.sys.mode = .run) :
    (ktLimit k s).sys.mode = .run := by
  unfold ktLimit
  repeat' (with_reducible first | assumption | apply State_setKettle_mode | apply kcStop_mode | dsimp only | split | intro)

theorem markFall_mode (k : Nat) (s : State) (h_ : s.sys.mode = .run) :
    (markFall k s).sys.mode = .run := by
  unfold markFall
  repeat' (with_reducible first | assumption | apply State_setKettle_mode | dsimp only | split | intro)

theorem fallEnds_mode (k : Nat) (s : State) (h_ : s.sys.mode = .run) :
    (fallEnds k s).sys.mode = .run := by
  unfold fallEnds
  repeat' (with_reducible first | assumption | apply State_setKettle_mode | dsimp only | split | intro)

theorem ktLimits_mode (s : State) (h_ : s.sys.mode = .run) :
    (ktLimits s).sys.mode = .run := by
  unfold ktLimits
  repeat' (with_reducible first | assumption | apply forEach_mode | apply ktLimit_mode | dsimp only | split | intro)

theorem ktTargetNow_mode (k : Nat) (s : State) (h_ : s.sys.mode = .run) :
    (ktTargetNow k s).sys.mode = .run := by
  unfold ktTargetNow
  repeat' (with_reducible first | assumption | apply ktUpdate_mode | apply State_setKettle_mode | dsimp only | split | intro)

theorem ktPassed_mode (k i : Nat) (s : State) (h_ : s.sys.mode = .run) :
    (ktPassed k i s).sys.mode = .run := by
  unfold ktPassed
  repeat' (with_reducible first | assumption | apply ktTargetNow_mode | apply State_setKettle_mode | dsimp only | split | intro)

theorem ktRelease_mode (k amount : Nat) (s : State) (h_ : s.sys.mode = .run) :
    (ktRelease k amount s).sys.mode = .run := by
  unfold ktRelease
  repeat' (with_reducible first | assumption | apply State_setKettle_mode | dsimp only | split | intro)

theorem digitiserBusy_mode (k : Nat) (s : State) (h_ : s.sys.mode = .run) :
    (digitiserBusy k s).sys.mode = .run := by
  unfold digitiserBusy
  repeat' (with_reducible first | assumption | apply State_setDch_mode | apply State_setDgt_mode | dsimp only | split | intro)

theorem takeCapture_mode (k : Nat) (off : Tick) (c : Capture) (s : State) (h_ : s.sys.mode = .run) :
    (takeCapture k off c s).sys.mode = .run := by
  unfold takeCapture
  repeat' (with_reducible first | assumption | apply State_setDgt_mode | dsimp only | split | intro)

theorem beginCapture_mode (k : Nat) (off : Tick) (s : State) (h_ : s.sys.mode = .run) :
    (beginCapture k off s).sys.mode = .run := by
  unfold beginCapture
  repeat' (with_reducible first | assumption | apply digitiserBusy_mode | apply takeCapture_mode | apply State_setDgt_mode | dsimp only | split | intro)

theorem peakOver_mode (k energyUj : Nat) (s : State) (h_ : s.sys.mode = .run) :
    (peakOver k energyUj s).sys.mode = .run := by
  unfold peakOver
  repeat' (with_reducible first | assumption | apply ktRelease_mode | apply State_setChan_mode | apply ktPassed_mode | dsimp only | split | intro)

theorem bankEdge_mode (b : Nat) (x : Tick) (s : State) (h_ : s.sys.mode = .run) :
    (bankEdge b x s).sys.mode = .run := by
  unfold bankEdge
  repeat' (with_reducible first | assumption | apply State_setBank_mode | dsimp only | split | intro)

theorem turnOff_mode (k : Nat) (off : Tick) (lastEnd energyUj : Nat) (s : State) (h_ : s.sys.mode = .run) :
    (turnOff k off lastEnd energyUj s).sys.mode = .run := by
  unfold turnOff
  repeat' (with_reducible first | assumption | apply peakOver_mode | apply State_setChan_mode | apply beginCapture_mode | apply bankEdge_mode | dsimp only | split | intro)

theorem endAt_mode (cause : Nat) (off : Tick) (k : Nat) (s : State) (h_ : s.sys.mode = .run) :
    (endAt cause off k s).sys.mode = .run := by
  unfold endAt
  repeat' (with_reducible first | assumption | apply turnOff_mode | apply raise_mode | apply State_setChan_mode | dsimp only | split | intro)

theorem endEarly_mode (cause k : Nat) (s : State) (h_ : s.sys.mode = .run) :
    (endEarly cause k s).sys.mode = .run := by
  unfold endEarly
  repeat' (with_reducible first | assumption | apply endAt_mode | dsimp only | split | intro)

theorem endAll_mode (cause : Nat) (s : State) (h_ : s.sys.mode = .run) :
    (endAll cause s).sys.mode = .run := by
  unfold endAll
  repeat' (with_reducible first | assumption | apply forEach_mode | apply endEarly_mode | dsimp only | split | intro)

theorem endBank_mode (cause b : Nat) (s : State) (h_ : s.sys.mode = .run) :
    (endBank cause b s).sys.mode = .run := by
  unfold endBank
  repeat' (with_reducible first | assumption | apply forEach_mode | apply endEarly_mode | dsimp only | split | intro)

theorem stopTests_mode (p : Nat → Bool) (s : State) (h_ : s.sys.mode = .run) :
    (stopTests p s).sys.mode = .run := by
  unfold stopTests
  repeat' (with_reducible first | assumption | apply forEach_mode | apply State_setDch_mode | dsimp only | split | intro)

theorem recordDrop_mode (i : Nat) (e : Event) (ch reason detail : Nat) (s : State) (h_ : s.sys.mode = .run) :
    (recordDrop i e ch reason detail s).sys.mode = .run := by
  unfold recordDrop
  repeat' (with_reducible first | assumption | apply State_memWrite_mode | apply raiseIf_mode | apply raise_mode | apply State_setBank_mode | apply mirror_mode | dsimp only | split | intro)

theorem freeSlot_mode (i : Nat) (s : State) (h_ : s.sys.mode = .run) :
    (freeSlot i s).sys.mode = .run := by
  unfold freeSlot
  repeat' (with_reducible first | assumption | apply State_setSlot_mode | apply ktPassed_mode | apply ktRelease_mode | dsimp only | split | intro)

theorem dropEvent_mode (reason detail i : Nat) (s : State) (h_ : s.sys.mode = .run) :
    (dropEvent reason detail i s).sys.mode = .run := by
  unfold dropEvent
  repeat' (with_reducible first | assumption | apply notice_mode | apply freeSlot_mode | apply recordDrop_mode | dsimp only | split | intro)

theorem withdraw_mode (reason i : Nat) (s : State) (h_ : s.sys.mode = .run) :
    (withdraw reason i s).sys.mode = .run := by
  unfold withdraw
  repeat' (with_reducible first | assumption | apply dropEvent_mode | dsimp only | split | intro)

theorem withdrawAll_mode (reason : Nat) (s : State) (h_ : s.sys.mode = .run) :
    (withdrawAll reason s).sys.mode = .run := by
  unfold withdrawAll
  repeat' (with_reducible first | assumption | apply forEach_mode | apply dropEvent_mode | dsimp only | split | intro)

theorem dropPending_mode (reason : Nat) (s : State) (h_ : s.sys.mode = .run) :
    (dropPending reason s).sys.mode = .run := by
  unfold dropPending
  repeat' (with_reducible first | assumption | apply forEach_mode | apply withdraw_mode | apply dropEvent_mode | dsimp only | split | intro)

theorem safeEntry_mode (src : Nat) (byGrace : Bool) (s : State) (h_ : s.sys.mode = .run) :
    (safeEntry src byGrace s).sys.mode = .run := by
  unfold safeEntry
  repeat' (with_reducible first | assumption | apply forEach_mode | apply dropEvent_mode | apply endAll_mode | apply ktUpdate_mode | apply ebAllOff_mode | apply stopTests_mode | apply raise_mode | apply mirrorState_mode | apply log_mode | dsimp only | split | intro)

theorem faultRecord_mode (n c : Nat) (s : State) (h_ : s.sys.mode = .run) :
    (faultRecord n c s).sys.mode = .run := by
  unfold faultRecord
  repeat' (with_reducible first | assumption | dsimp only | split | intro)

theorem graceReaction_mode (n : Nat) (s : State) (h_ : s.sys.mode = .run) :
    (graceReaction n s).sys.mode = .run := by
  unfold graceReaction
  repeat' (with_reducible first | assumption | apply raise_mode | dsimp only | split | intro)

theorem reaction_mode (n c : Nat) (s : State) (h_ : s.sys.mode = .run) :
    (reaction n c s).sys.mode = .run := by
  unfold reaction
  repeat' (with_reducible first | assumption | apply graceReaction_mode | apply safeEntry_mode | dsimp only | split | intro)

theorem fault_mode (n : Nat) (s : State) (h_ : s.sys.mode = .run) :
    (fault n s).sys.mode = .run := by
  unfold fault
  repeat' (with_reducible first | assumption | apply raise_mode | apply faultRecord_mode | apply mirror_mode | apply reaction_mode | apply wake_mode | apply log_mode | dsimp only | split | intro)

theorem faultOnset_mode (n : Nat) (s : State) (h_ : s.sys.mode = .run) :
    (faultOnset n s).sys.mode = .run := by
  unfold faultOnset
  repeat' (with_reducible first | assumption | apply fault_mode | dsimp only | split | intro)

theorem faultEnd_mode (n : Nat) (s : State) (h_ : s.sys.mode = .run) :
    (faultEnd n s).sys.mode = .run := by
  unfold faultEnd
  repeat' (with_reducible first | assumption | dsimp only | split | intro)

theorem calReport_mode (c : Bool) (item source : Nat) (s : State) (h_ : s.sys.mode = .run) :
    (calReport c item source s).sys.mode = .run := by
  unfold calReport
  repeat' (with_reducible first | assumption | apply raise_mode | apply log_mode | dsimp only | split | intro)

theorem ktFault_mode (k : Nat) (s : State) (h_ : s.sys.mode = .run) :
    (ktFault k s).sys.mode = .run := by
  unfold ktFault
  repeat' (with_reducible first | assumption | apply fault_mode | apply ktUpdate_mode | apply State_setKettle_mode | dsimp only | split | intro)

theorem acknowledge_mode (w : Nat) (mask : Word) (s : State) (h_ : s.sys.mode = .run) :
    (acknowledge w mask s).sys.mode = .run := by
  unfold acknowledge
  repeat' (with_reducible first | assumption | apply raise_mode | dsimp only | split | intro)

theorem graceDue_mode (s : State) (h_ : s.sys.mode = .run) :
    (graceDue s).sys.mode = .run := by
  unfold graceDue
  repeat' (with_reducible first | assumption | apply safeEntry_mode | dsimp only | split | intro)

theorem setSpeed_mode (v : Nat) (s : State) (h_ : s.sys.mode = .run) :
    (setSpeed v s).sys.mode = .run := by
  unfold setSpeed
  repeat' (with_reducible first | assumption | apply raiseIf_mode | dsimp only | split | intro)

theorem speedNow_mode (s : State) (h_ : s.sys.mode = .run) :
    (speedNow s).sys.mode = .run := by
  unfold speedNow
  repeat' (with_reducible first | assumption | apply setSpeed_mode | dsimp only | split | intro)

theorem doSpeedRecompute_mode (s : State) (h_ : s.sys.mode = .run) :
    (doSpeedRecompute s).sys.mode = .run := by
  unfold doSpeedRecompute
  repeat' (with_reducible first | assumption | apply speedNow_mode | dsimp only | split | intro)

theorem endWaita_mode (code i : Nat) (s : State) (h_ : s.sys.mode = .run) :
    (endWaita code i s).sys.mode = .run := by
  unfold endWaita
  repeat' (with_reducible first | assumption | apply makeReady_mode | apply State_setCtx_mode | apply setReg_mode | dsimp only | split | intro)

theorem endWaitas_mode (code : Nat) (s : State) (h_ : s.sys.mode = .run) :
    (endWaitas code s).sys.mode = .run := by
  unfold endWaitas
  repeat' (with_reducible first | assumption | apply forEach_mode | apply endWaita_mode | dsimp only | split | intro)

theorem passContext_mode (swept : Bool) (len lo hi i : Nat) (s : State) (h_ : s.sys.mode = .run) :
    (passContext swept len lo hi i s).sys.mode = .run := by
  unfold passContext
  repeat' (with_reducible first | assumption | apply endWaita_mode | apply repeatN_mode | apply activate_mode | dsimp only | split | intro)

theorem passRange_mode (swept : Bool) (lo hi : Nat) (s : State) (h_ : s.sys.mode = .run) :
    (passRange swept lo hi s).sys.mode = .run := by
  unfold passRange
  repeat' (with_reducible first | assumption | apply forEach_mode | apply passContext_mode | dsimp only | split | intro)

theorem passTo_mode (x : Tick) (s : State) (h_ : s.sys.mode = .run) :
    (passTo x s).sys.mode = .run := by
  unfold passTo
  repeat' (with_reducible first | assumption | apply passRange_mode | dsimp only | split | intro)

theorem watchHere_mode (s : State) (h_ : s.sys.mode = .run) :
    (watchHere s).sys.mode = .run := by
  unfold watchHere
  repeat' (with_reducible first | assumption | dsimp only | split | intro)

theorem doAnglePassed_mode (angle : Word) (s : State) (h_ : s.sys.mode = .run) :
    (doAnglePassed angle s).sys.mode = .run := by
  unfold doAnglePassed
  repeat' (with_reducible first | assumption | apply passRange_mode | dsimp only | split | intro)

theorem joinNear_mode (i : Nat) (s : State) (h_ : s.sys.mode = .run) :
    (joinNear i s).sys.mode = .run := by
  unfold joinNear
  repeat' (with_reducible first | assumption | apply State_setSlot_mode | dsimp only | split | intro)

theorem nearFill_mode (s : State) (h_ : s.sys.mode = .run) :
    (nearFill s).sys.mode = .run := by
  unfold nearFill
  repeat' (with_reducible first | assumption | apply forEach_mode | apply joinNear_mode | dsimp only | split | intro)

theorem dropPassedWaiting_mode (s : State) (h_ : s.sys.mode = .run) :
    (dropPassedWaiting s).sys.mode = .run := by
  unfold dropPassedWaiting
  repeat' (with_reducible first | assumption | apply forEach_mode | apply dropEvent_mode | dsimp only | split | intro)

theorem nearOverflow_mode (s : State) (h_ : s.sys.mode = .run) :
    (nearOverflow s).sys.mode = .run := by
  unfold nearOverflow
  repeat' (with_reducible first | assumption | apply raise_mode | dsimp only | split | intro)

theorem joinPass_mode (i : Nat) (s : State) (h_ : s.sys.mode = .run) :
    (joinPass i s).sys.mode = .run := by
  unfold joinPass
  repeat' (with_reducible first | assumption | apply State_setSlot_mode | dsimp only | split | intro)

theorem startPass_mode (admitted : List Nat) (s : State) (h_ : s.sys.mode = .run) :
    (startPass admitted s).sys.mode = .run := by
  unfold startPass
  repeat' (with_reducible first | assumption | dsimp only | split | intro)

theorem predictionChanged_mode (s : State) (h_ : s.sys.mode = .run) :
    (predictionChanged s).sys.mode = .run := by
  unfold predictionChanged
  repeat' (with_reducible first | assumption | apply nearOverflow_mode | apply dropPassedWaiting_mode | apply startPass_mode | apply forEach_mode | apply joinPass_mode | dsimp only | split | intro)

theorem leavePass_mode (i : Nat) (s : State) (h_ : s.sys.mode = .run) :
    (leavePass i s).sys.mode = .run := by
  unfold leavePass
  repeat' (with_reducible first | assumption | dsimp only | split | intro)

theorem refuseInsertion_mode (res : Nat) (s : State) (h_ : s.sys.mode = .run) :
    (refuseInsertion res s).1.sys.mode = .run := by
  unfold refuseInsertion
  repeat' (with_reducible first | assumption | dsimp only | split | intro)

theorem dropAtInsertion_mode (res reason detail i : Nat) (e : Event) (s : State) (h_ : s.sys.mode = .run) :
    (dropAtInsertion res reason detail i e s).1.sys.mode = .run := by
  unfold dropAtInsertion
  repeat' (with_reducible first | assumption | apply recordDrop_mode | apply State_setSlot_mode | apply notice_mode | dsimp only | split | intro)

theorem placeEvent_mode (i : Nat) (e : Event) (s : State) (h_ : s.sys.mode = .run) :
    (placeEvent i e s).1.sys.mode = .run := by
  unfold placeEvent
  repeat' (with_reducible first | assumption | apply leavePass_mode | apply dropAtInsertion_mode | apply State_setSlot_mode | dsimp only | split | intro)

theorem insertEvent_mode (owner : Nat) (w0 w1 w2 : Word) (s : State) (h_ : s.sys.mode = .run) :
    (insertEvent owner w0 w1 w2 s).1.sys.mode = .run := by
  unfold insertEvent
  repeat' (with_reducible first | assumption | apply refuseInsertion_mode | apply raise_mode | apply placeEvent_mode | dsimp only | split | intro)

theorem aimPlace_mode (i : Nat) (e : Event) (wasNear near : Bool) (s : State) (h_ : s.sys.mode = .run) :
    (aimPlace i e wasNear near s).sys.mode = .run := by
  unfold aimPlace
  repeat' (with_reducible first | assumption | apply State_setSlot_mode | apply nearFill_mode | dsimp only | split | intro)

theorem aimLive_mode (i : Nat) (target w2 : Word) (s : State) (h_ : s.sys.mode = .run) :
    (aimLive i target w2 s).1.sys.mode = .run := by
  unfold aimLive
  repeat' (with_reducible first | assumption | apply leavePass_mode | apply State_setSlot_mode | apply nearFill_mode | apply dropEvent_mode | apply aimPlace_mode | dsimp only | split | intro)

theorem aimEvent_mode (owner : Nat) (h target w2 : Word) (s : State) (h_ : s.sys.mode = .run) :
    (aimEvent owner h target w2 s).1.sys.mode = .run := by
  unfold aimEvent
  repeat' (with_reducible first | assumption | apply aimLive_mode | dsimp only | split | intro)

theorem cancelSlot_mode (i : Nat) (s : State) (h_ : s.sys.mode = .run) :
    (cancelSlot i s).sys.mode = .run := by
  unfold cancelSlot
  repeat' (with_reducible first | assumption | apply freeSlot_mode | dsimp only | split | intro)

theorem cancelEvent_mode (owner : Nat) (h : Word) (s : State) (h_ : s.sys.mode = .run) :
    (cancelEvent owner h s).1.sys.mode = .run := by
  unfold cancelEvent
  repeat' (with_reducible first | assumption | apply cancelSlot_mode | apply nearFill_mode | dsimp only | split | intro)

theorem haltCancel_mode (q : Nat) (s : State) (h_ : s.sys.mode = .run) :
    (haltCancel q s).sys.mode = .run := by
  unfold haltCancel
  repeat' (with_reducible first | assumption | apply nearFill_mode | apply forEach_mode | apply cancelSlot_mode | dsimp only | split | intro)

theorem answer_mode (i d b : Nat) (isInsertion : Bool) (r : State × Answer) (h_ : r.1.sys.mode = .run) :
    (answer i d b isInsertion r).sys.mode = .run := by
  unfold answer
  repeat' (with_reducible first | assumption | apply State_setCtx_mode | apply notice_mode | dsimp only | split | intro)

theorem served_mode (q : Nat) (s : State) (h_ : s.sys.mode = .run) :
    (served q s).sys.mode = .run := by
  unfold served
  repeat' (with_reducible first | assumption | dsimp only | split | intro)

theorem doEventInsertion_mode (q p : Nat) (s : State) (h_ : s.sys.mode = .run) :
    (doEventInsertion q p s).sys.mode = .run := by
  unfold doEventInsertion
  repeat' (with_reducible first | assumption | apply answer_mode | apply insertEvent_mode | apply served_mode | dsimp only | split | intro)

theorem doEventAim_mode (q p : Nat) (s : State) (h_ : s.sys.mode = .run) :
    (doEventAim q p s).sys.mode = .run := by
  unfold doEventAim
  repeat' (with_reducible first | assumption | apply answer_mode | apply aimEvent_mode | apply served_mode | dsimp only | split | intro)

theorem doEventCancel_mode (q p : Nat) (s : State) (h_ : s.sys.mode = .run) :
    (doEventCancel q p s).sys.mode = .run := by
  unfold doEventCancel
  repeat' (with_reducible first | assumption | apply answer_mode | apply cancelEvent_mode | apply served_mode | dsimp only | split | intro)

theorem abortTests_mode (ch : Nat) (s : State) (h_ : s.sys.mode = .run) :
    (abortTests ch s).sys.mode = .run := by
  unfold abortTests
  repeat' (with_reducible first | assumption | apply stopTests_mode | dsimp only | split | intro)

theorem arm_mode (i : Nat) (e : Event) (s : State) (h_ : s.sys.mode = .run) :
    (arm i e s).sys.mode = .run := by
  unfold arm
  repeat' (with_reducible first | assumption | apply State_setKettle_mode | apply State_setSlot_mode | dsimp only | split | intro)

theorem doCommit_mode (i : Nat) (armAt : Tick) (s : State) (h_ : s.sys.mode = .run) :
    (doCommit i armAt s).sys.mode = .run := by
  unfold doCommit
  repeat' (with_reducible first | assumption | apply abortTests_mode | apply nearFill_mode | apply arm_mode | apply dropEvent_mode | apply State_setSlot_mode | dsimp only | split | intro)

theorem commitInPass_mode (i : Nat) (s : State) (h_ : s.sys.mode = .run) :
    (commitInPass i s).sys.mode = .run := by
  unfold commitInPass
  repeat' (with_reducible first | assumption | apply doCommit_mode | dsimp only | split | intro)

theorem reaimOne_mode (i : Nat) (s : State) (h_ : s.sys.mode = .run) :
    (reaimOne i s).sys.mode = .run := by
  unfold reaimOne
  repeat' (with_reducible first | assumption | apply leavePass_mode | apply nearFill_mode | apply dropEvent_mode | apply commitInPass_mode | apply State_setSlot_mode | dsimp only | split | intro)

theorem passStep_mode (i : Nat) (s : State) (h_ : s.sys.mode = .run) :
    (passStep i s).sys.mode = .run := by
  unfold passStep
  repeat' (with_reducible first | assumption | apply reaimOne_mode | dsimp only | split | intro)

theorem passRun_mode (l : List Nat) (s : State) (h_ : s.sys.mode = .run) : (passRun l s).sys.mode = .run := by
  induction l generalizing s with
  | nil => exact h_
  | cons i r ih =>
    unfold passRun
    split
    · exact ih _ (passStep_mode _ _ h_)
    · exact h_
theorem passNow_mode (s : State) (h_ : s.sys.mode = .run) :
    (passNow s).sys.mode = .run := by
  unfold passNow
  exact passRun_mode _ _ h_

theorem quarantine_mode (i : Nat) (s : State) (h_ : s.sys.mode = .run) :
    (quarantine i s).sys.mode = .run := by
  unfold quarantine
  repeat' (with_reducible first | assumption | apply State_setSlot_mode | apply fault_mode | apply raise_mode | dsimp only | split | intro)

theorem quarantineLate_mode (i : Nat) (s : State) (h_ : s.sys.mode = .run) :
    (quarantineLate i s).sys.mode = .run := by
  unfold quarantineLate
  repeat' (with_reducible first | assumption | apply State_setSlot_mode | apply fault_mode | apply raise_mode | dsimp only | split | intro)

theorem doEventTableEccError_mode (i : Nat) (part : EccPart) (s : State) (h_ : s.sys.mode = .run) :
    (doEventTableEccError i part s).sys.mode = .run := by
  unfold doEventTableEccError
  repeat' (with_reducible first | assumption | apply quarantine_mode | apply quarantineLate_mode | apply recordDrop_mode | apply notice_mode | apply freeSlot_mode | apply nearFill_mode | dsimp only | split | intro)

theorem caddyJob_mode (j : CaddyJob) (s : State) (h_ : s.sys.mode = .run) :
    (caddyJob j s).sys.mode = .run := by
  unfold caddyJob
  repeat' (with_reducible first | assumption | dsimp only | split | intro)

theorem spoilRecords_mode (reason : Nat) (s : State) (h_ : s.sys.mode = .run) :
    (spoilRecords reason s).sys.mode = .run := by
  unfold spoilRecords
  repeat' (with_reducible first | assumption | apply raise_mode | dsimp only | split | intro)

theorem qsInvalidate_mode (reason : Nat) (s : State) (h_ : s.sys.mode = .run) :
    (qsInvalidate reason s).sys.mode = .run := by
  unfold qsInvalidate
  repeat' (with_reducible first | assumption | apply raise_mode | apply caddyJob_mode | dsimp only | split | intro)

theorem dropHeld_mode (reason : Nat) (s : State) (h_ : s.sys.mode = .run) :
    (dropHeld reason s).sys.mode = .run := by
  unfold dropHeld
  repeat' (with_reducible first | assumption | apply qsInvalidate_mode | dsimp only | split | intro)

theorem clearMap_mode (s : State) (h_ : s.sys.mode = .run) :
    (clearMap s).sys.mode = .run := by
  unfold clearMap
  repeat' (with_reducible first | assumption | apply raise_mode | dsimp only | split | intro)

theorem offInputs_mode (s : State) (h_ : s.sys.mode = .run) :
    (offInputs s).sys.mode = .run := by
  unfold offInputs
  repeat' (with_reducible first | assumption | apply forEach_mode | apply State_setWheel_mode | dsimp only | split | intro)

theorem wheelApplied_mode (old : Block) (s : State) (h_ : s.sys.mode = .run) :
    (wheelApplied old s).sys.mode = .run := by
  unfold wheelApplied
  repeat' (with_reducible first | assumption | apply offInputs_mode | apply qsInvalidate_mode | apply spoilRecords_mode | apply clearMap_mode | dsimp only | split | intro)

theorem bankMode_mode (b : Nat) (s : State) (h_ : s.sys.mode = .run) :
    (bankMode b s).sys.mode = .run := by
  unfold bankMode
  repeat' (with_reducible first | assumption | apply State_setBank_mode | apply raise_mode | dsimp only | split | intro)

theorem kettleTarget_mode (k : Nat) (s : State) (h_ : s.sys.mode = .run) :
    (kettleTarget k s).sys.mode = .run := by
  unfold kettleTarget
  repeat' (with_reducible first | assumption | apply State_setKettle_mode | apply ktTargetNow_mode | dsimp only | split | intro)

theorem driveApplied_mode (s : State) (h_ : s.sys.mode = .run) :
    (driveApplied s).sys.mode = .run := by
  unfold driveApplied
  repeat' (with_reducible first | assumption | apply forEach_mode | apply bankMode_mode | apply ktLimits_mode | apply kettleTarget_mode | dsimp only | split | intro)

theorem mirrorApplied_mode (old : Nat) (s : State) (h_ : s.sys.mode = .run) :
    (mirrorApplied old s).sys.mode = .run := by
  unfold mirrorApplied
  repeat' (with_reducible first | assumption | apply raiseIf_mode | dsimp only | split | intro)

theorem vbakCheck_mode (s : State) (h_ : s.sys.mode = .run) :
    (vbakCheck s).sys.mode = .run := by
  unfold vbakCheck
  repeat' (with_reducible first | assumption | apply faultOnset_mode | apply faultEnd_mode | dsimp only | split | intro)

theorem groupEffect_mode (old : Block) (g : Nat) (s : State) (h_ : s.sys.mode = .run) :
    (groupEffect old g s).sys.mode = .run := by
  unfold groupEffect
  repeat' (with_reducible first | assumption | apply vbakCheck_mode | apply ktLimits_mode | apply wheelApplied_mode | apply driveApplied_mode | apply tripsApplied_mode | apply mirrorApplied_mode | dsimp only | split | intro)

theorem groupReport_mode (g : Nat) (s : State) (h_ : s.sys.mode = .run) :
    (groupReport g s).sys.mode = .run := by
  unfold groupReport
  repeat' (with_reducible first | assumption | apply log_mode | apply raise_mode | dsimp only | split | intro)

theorem applyGroups_mode (m : Nat) (s : State) (h_ : s.sys.mode = .run) :
    (applyGroups m s).sys.mode = .run := by
  unfold applyGroups
  repeat' (with_reducible first | assumption | apply forEach_mode | apply groupEffect_mode | apply groupReport_mode | apply foldl_mode | apply foldl1_mode | dsimp only | split | intro)

theorem applyPending_mode (m : Nat) (s : State) (h_ : s.sys.mode = .run) :
    (applyPending m s).sys.mode = .run := by
  unfold applyPending
  repeat' (with_reducible first | assumption | apply applyGroups_mode | dsimp only | split | intro)

theorem envelopeBoundary_mode (s : State) (h_ : s.sys.mode = .run) :
    (envelopeBoundary s).sys.mode = .run := by
  unfold envelopeBoundary
  repeat' (with_reducible first | assumption | apply raise_mode | dsimp only | split | intro)

theorem logCycle_mode (r : CycleRec) (s : State) (h_ : s.sys.mode = .run) :
    (logCycle r s).sys.mode = .run := by
  unfold logCycle
  repeat' (with_reducible first | assumption | apply logAppend_mode | dsimp only | split | intro)

theorem camError_mode (s : State) (h_ : s.sys.mode = .run) :
    (camError s).sys.mode = .run := by
  unfold camError
  repeat' (with_reducible first | assumption | apply raise_mode | dsimp only | split | intro)

theorem camLearned_mode (s : State) (h_ : s.sys.mode = .run) :
    (camLearned s).sys.mode = .run := by
  unfold camLearned
  repeat' (with_reducible first | assumption | dsimp only | split | intro)

theorem camCycleCheck_mode (s : State) (h_ : s.sys.mode = .run) :
    (camCycleCheck s).sys.mode = .run := by
  unfold camCycleCheck
  repeat' (with_reducible first | assumption | apply repeatN_mode | apply camError_mode | apply raiseIf_mode | apply foldl_mode | apply foldl1_mode | dsimp only | split | intro)

theorem camCycle_mode (s : State) (h_ : s.sys.mode = .run) :
    (camCycle s).sys.mode = .run := by
  unfold camCycle
  repeat' (with_reducible first | assumption | apply camLearned_mode | apply camCycleCheck_mode | dsimp only | split | intro)

theorem purge_mode (tag : Nat) (s : State) (h_ : s.sys.mode = .run) :
    (purge tag s).sys.mode = .run := by
  unfold purge
  repeat' (with_reducible first | assumption | apply forEach_mode | apply dropEvent_mode | apply withdraw_mode | apply raiseIf_mode | dsimp only | split | intro)

theorem cycleBoundary_mode (x : Tick) (s : State) (h_ : s.sys.mode = .run) :
    (cycleBoundary x s).sys.mode = .run := by
  unfold cycleBoundary
  repeat' (with_reducible first | assumption | apply camCycle_mode | apply purge_mode | apply logCycle_mode | apply envelopeBoundary_mode | apply applyPending_mode | dsimp only | split | intro)

theorem stepsDone_mode (s : State) (h_ : s.sys.mode = .run) :
    (stepsDone s).sys.mode = .run := by
  unfold stepsDone
  repeat' (with_reducible first | assumption | apply latchAll_mode | apply mirrorState_mode | apply raise_mode | dsimp only | split | intro)

theorem crossForward_mode (x : Tick) (s : State) (h_ : s.sys.mode = .run) :
    (crossForward x s).sys.mode = .run := by
  unfold crossForward
  repeat' (with_reducible first | assumption | apply cycleBoundary_mode | dsimp only | split | intro)

theorem learnEntry_mode (eps : Int) (gain : Nat) (i : Nat) (s : State) (h_ : s.sys.mode = .run) :
    (learnEntry eps gain i s).sys.mode = .run := by
  unfold learnEntry
  repeat' (with_reducible first | assumption | dsimp only | split | intro)

theorem learnStep_mode (pRaw j n rc : Nat) (s : State) (h_ : s.sys.mode = .run) :
    (learnStep pRaw j n rc s).sys.mode = .run := by
  unfold learnStep
  repeat' (with_reducible first | assumption | apply raise_mode | apply forEach_mode | apply learnEntry_mode | dsimp only | split | intro)

theorem lensLearn_mode (t : Tick) (j n pRaw : Nat) (s : State) (h_ : s.sys.mode = .run) :
    (lensLearn t j n pRaw s).sys.mode = .run := by
  unfold lensLearn
  repeat' (with_reducible first | assumption | apply learnStep_mode | dsimp only | split | intro)

theorem notLearned_mode (s : State) (h_ : s.sys.mode = .run) :
    (notLearned s).sys.mode = .run := by
  unfold notLearned
  repeat' (with_reducible first | assumption | dsimp only | split | intro)

theorem sweepEvents_mode (lo hi : Nat) (s : State) (h_ : s.sys.mode = .run) :
    (sweepEvents lo hi s).sys.mode = .run := by
  unfold sweepEvents
  repeat' (with_reducible first | assumption | apply forEach_mode | apply dropEvent_mode | apply withdraw_mode | apply raiseIf_mode | dsimp only | split | intro)

theorem sweep_mode (lo hi : Nat) (s : State) (h_ : s.sys.mode = .run) :
    (sweep lo hi s).sys.mode = .run := by
  unfold sweep
  repeat' (with_reducible first | assumption | apply passRange_mode | apply sweepEvents_mode | dsimp only | split | intro)

theorem lensMove_mode (old : Nat) (t : Tick) (s : State) (h_ : s.sys.mode = .run) :
    (lensMove old t s).sys.mode = .run := by
  unfold lensMove
  repeat' (with_reducible first | assumption | apply watchHere_mode | apply sweep_mode | apply passRange_mode | apply crossForward_mode | dsimp only | split | intro)

theorem newPrediction_mode (s : State) (h_ : s.sys.mode = .run) :
    (newPrediction s).sys.mode = .run := by
  unfold newPrediction
  repeat' (with_reducible first | assumption | dsimp only | split | intro)

theorem lensUpdate_mode (t : Tick) (j n : Nat) (err : Bool) (s : State) (h_ : s.sys.mode = .run) :
    (lensUpdate t j n err s).sys.mode = .run := by
  unfold lensUpdate
  repeat' (with_reducible first | assumption | apply passTo_mode | apply speedNow_mode | apply newPrediction_mode | apply lensLearn_mode | apply notLearned_mode | apply lensMove_mode | apply predictionChanged_mode | dsimp only | split | intro)

theorem lensUndo_mode (t : Tick) (s : State) (h_ : s.sys.mode = .run) :
    (lensUndo t s).sys.mode = .run := by
  unfold lensUndo
  repeat' (with_reducible first | assumption | apply predictionChanged_mode | apply speedNow_mode | dsimp only | split | intro)

theorem lensFirst_mode (t : Tick) (s : State) (h_ : s.sys.mode = .run) :
    (lensFirst t s).sys.mode = .run := by
  unfold lensFirst
  repeat' (with_reducible first | assumption | dsimp only | split | intro)

theorem lensEnter_mode (j : Nat) (s : State) (h_ : s.sys.mode = .run) :
    (lensEnter j s).sys.mode = .run := by
  unfold lensEnter
  repeat' (with_reducible first | assumption | apply predictionChanged_mode | apply speedNow_mode | apply watchHere_mode | apply newPrediction_mode | dsimp only | split | intro)

theorem lensRenumber_mode (s : State) (h_ : s.sys.mode = .run) :
    (lensRenumber s).sys.mode = .run := by
  unfold lensRenumber
  repeat' (with_reducible first | assumption | apply predictionChanged_mode | apply watchHere_mode | apply newPrediction_mode | dsimp only | split | intro)

theorem lensClear_mode (s : State) (h_ : s.sys.mode = .run) :
    (lensClear s).sys.mode = .run := by
  unfold lensClear
  repeat' (with_reducible first | assumption | apply setSpeed_mode | apply notLearned_mode | dsimp only | split | intro)

theorem doVirtualBoundary_mode (s : State) (h_ : s.sys.mode = .run) :
    (doVirtualBoundary s).sys.mode = .run := by
  unfold doVirtualBoundary
  repeat' (with_reducible first | assumption | apply passTo_mode | apply passRange_mode | apply dropPassedWaiting_mode | apply cycleBoundary_mode | apply startPass_mode | apply nearFill_mode | apply crossForward_mode | dsimp only | split | intro)

theorem doCountHold_mode (s : State) (h_ : s.sys.mode = .run) :
    (doCountHold s).sys.mode = .run := by
  unfold doCountHold
  repeat' (with_reducible first | assumption | apply passTo_mode | dsimp only | split | intro)

theorem doToothOverdue_mode (s : State) (h_ : s.sys.mode = .run) :
    (doToothOverdue s).sys.mode = .run := by
  unfold doToothOverdue
  repeat' (with_reducible first | assumption | apply passTo_mode | apply raise_mode | apply forEach_mode | apply withdraw_mode | apply speedNow_mode | dsimp only | split | intro)

theorem lensReverse_mode (s : State) (h_ : s.sys.mode = .run) :
    (lensReverse s).sys.mode = .run := by
  unfold lensReverse
  repeat' (with_reducible first | assumption | apply raise_mode | dsimp only | split | intro)

theorem lensShow_mode (j : Nat) (back : Bool) (x : Tick) (s : State) (h_ : s.sys.mode = .run) :
    (lensShow j back x s).sys.mode = .run := by
  unfold lensShow
  repeat' (with_reducible first | assumption | apply notLearned_mode | apply crossForward_mode | dsimp only | split | intro)

theorem lensResume_mode (t : Tick) (j : Nat) (period : Nat) (s : State) (h_ : s.sys.mode = .run) :
    (lensResume t j period s).sys.mode = .run := by
  unfold lensResume
  repeat' (with_reducible first | assumption | apply speedNow_mode | apply newPrediction_mode | apply raise_mode | apply sweep_mode | apply predictionChanged_mode | apply crossForward_mode | dsimp only | split | intro)

theorem onCrank_mode (f : CrankDec → CrankDec) (s : State) (h_ : s.sys.mode = .run) :
    (onCrank f s).sys.mode = .run := by
  unfold onCrank
  repeat' (with_reducible first | assumption | dsimp only | split | intro)

theorem changeSync_mode (st : Sync) (cause : Nat) (s : State) (h_ : s.sys.mode = .run) :
    (changeSync st cause s).sys.mode = .run := by
  unfold changeSync
  repeat' (with_reducible first | assumption | apply mirrorState_mode | apply raise_mode | apply log_mode | apply endWaitas_mode | apply latchAll_mode | dsimp only | split | intro)

theorem stopFiring_mode (reason : Nat) (s : State) (h_ : s.sys.mode = .run) :
    (stopFiring reason s).sys.mode = .run := by
  unfold stopFiring
  repeat' (with_reducible first | assumption | apply endAll_mode | apply dropPending_mode | dsimp only | split | intro)

theorem enterPosition_mode (st : Sync) (cause : Nat) (s : State) (h_ : s.sys.mode = .run) :
    (enterPosition st cause s).sys.mode = .run := by
  unfold enterPosition
  repeat' (with_reducible first | assumption | apply changeSync_mode | apply lensEnter_mode | dsimp only | split | intro)

theorem enterNosync_mode (cause : Nat) (s : State) (h_ : s.sys.mode = .run) :
    (enterNosync cause s).sys.mode = .run := by
  unfold enterNosync
  repeat' (with_reducible first | assumption | apply lensClear_mode | apply changeSync_mode | apply applyPending_mode | apply envelopeBoundary_mode | dsimp only | split | intro)

theorem enterLost_mode (cause : Nat) (s : State) (h_ : s.sys.mode = .run) :
    (enterLost cause s).sys.mode = .run := by
  unfold enterLost
  repeat' (with_reducible first | assumption | apply passTo_mode | apply stopFiring_mode | apply changeSync_mode | apply qsInvalidate_mode | apply raiseIf_mode | apply stepBack_mode | dsimp only | split | intro)

theorem retract_mode (s : State) (h_ : s.sys.mode = .run) :
    (retract s).sys.mode = .run := by
  unfold retract
  repeat' (with_reducible first | assumption | apply enterLost_mode | apply raise_mode | dsimp only | split | intro)

theorem doLossReported_mode (s : State) (h_ : s.sys.mode = .run) :
    (doLossReported s).sys.mode = .run := by
  unfold doLossReported
  repeat' (with_reducible first | assumption | apply enterNosync_mode | dsimp only | split | intro)

theorem toothError_mode (s : State) (h_ : s.sys.mode = .run) :
    (toothError s).sys.mode = .run := by
  unfold toothError
  repeat' (with_reducible first | assumption | apply dropHeld_mode | apply onCrank_mode | apply raise_mode | apply retract_mode | apply enterLost_mode | dsimp only | split | intro)

theorem frameCorrect_mode (s : State) (h_ : s.sys.mode = .run) :
    (frameCorrect s).sys.mode = .run := by
  unfold frameCorrect
  repeat' (with_reducible first | assumption | apply passTo_mode | apply onCrank_mode | apply raise_mode | apply forEach_mode | apply dropEvent_mode | apply lensRenumber_mode | apply endWaitas_mode | dsimp only | split | intro)

theorem usePhase_mode (t : Tick) (s : State) (h_ : s.sys.mode = .run) :
    (usePhase t s).1.sys.mode = .run := by
  unfold usePhase
  repeat' (with_reducible first | assumption | apply camError_mode | dsimp only | split | intro)

theorem confirmedReference_mode (c : GapCand) (s : State) (h_ : s.sys.mode = .run) :
    (confirmedReference c s).sys.mode = .run := by
  unfold confirmedReference
  repeat' (with_reducible first | assumption | apply usePhase_mode | apply changeSync_mode | apply retract_mode | apply frameCorrect_mode | dsimp only | split | intro)

theorem enterFromTooth_mode (extra : Bool) (c : GapCand) (s : State) (h_ : s.sys.mode = .run) :
    (enterFromTooth extra c s).sys.mode = .run := by
  unfold enterFromTooth
  repeat' (with_reducible first | assumption | apply usePhase_mode | apply onCrank_mode | apply enterPosition_mode | dsimp only | split | intro)

theorem anchorWithoutGap_mode (t : Tick) (s : State) (h_ : s.sys.mode = .run) :
    (anchorWithoutGap t s).sys.mode = .run := by
  unfold anchorWithoutGap
  repeat' (with_reducible first | assumption | apply usePhase_mode | apply enterPosition_mode | apply onCrank_mode | apply changeSync_mode | apply retract_mode | dsimp only | split | intro)

theorem quickLimit_mode (s : State) (h_ : s.sys.mode = .run) :
    (quickLimit s).sys.mode = .run := by
  unfold quickLimit
  repeat' (with_reducible first | assumption | apply changeSync_mode | apply enterLost_mode | dsimp only | split | intro)

theorem writeRecord_mode (s : State) (h_ : s.sys.mode = .run) :
    (writeRecord s).sys.mode = .run := by
  unfold writeRecord
  repeat' (with_reducible first | assumption | apply caddyJob_mode | dsimp only | split | intro)

theorem stallNow_mode (s : State) (h_ : s.sys.mode = .run) :
    (stallNow s).sys.mode = .run := by
  unfold stallNow
  repeat' (with_reducible first | assumption | apply passTo_mode | apply raise_mode | apply stopFiring_mode | apply caddyJob_mode | apply onCrank_mode | apply writeRecord_mode | apply enterNosync_mode | dsimp only | split | intro)

theorem doStall_mode (s : State) (h_ : s.sys.mode = .run) :
    (doStall s).sys.mode = .run := by
  unfold doStall
  repeat' (with_reducible first | assumption | apply writeRecord_mode | apply stallNow_mode | dsimp only | split | intro)

theorem setClass_mode (n : Nat) (c : EdgeClass) (s : State) (h_ : s.sys.mode = .run) :
    (setClass n c s).sys.mode = .run := by
  unfold setClass
  repeat' (with_reducible first | assumption | apply State_setWheel_mode | dsimp only | split | intro)

theorem judgeCandidate_mode (T : Nat) (s : State) (h_ : s.sys.mode = .run) :
    (judgeCandidate T s).1.sys.mode = .run := by
  unfold judgeCandidate
  repeat' (with_reducible first | assumption | apply onCrank_mode | apply toothError_mode | apply confirmedReference_mode | apply retract_mode | apply enterLost_mode | dsimp only | split | intro)

theorem boundaryUpdate_mode (t : Tick) (j span : Nat) (err : Bool) (confirmed : Option GapCand) (s : State) (h_ : s.sys.mode = .run) :
    (boundaryUpdate t j span err confirmed s).sys.mode = .run := by
  unfold boundaryUpdate
  repeat' (with_reducible first | assumption | apply lensUpdate_mode | apply enterFromTooth_mode | apply quickLimit_mode | apply anchorWithoutGap_mode | apply endWaitas_mode | apply passTo_mode | dsimp only | split | intro)

theorem forwardBoundary_mode (t : Tick) (cls : Option PeriodClass) (bad : Bool) (confirmed : Option GapCand) (s : State) (h_ : s.sys.mode = .run) :
    (forwardBoundary t cls bad confirmed s).sys.mode = .run := by
  unfold forwardBoundary
  repeat' (with_reducible first | assumption | apply onCrank_mode | apply boundaryUpdate_mode | apply changeSync_mode | dsimp only | split | intro)

theorem forwardPeriod_mode (inp : Nat) (t : Tick) (s : State) (h_ : s.sys.mode = .run) :
    (forwardPeriod inp t s).sys.mode = .run := by
  unfold forwardPeriod
  repeat' (with_reducible first | assumption | apply judgeCandidate_mode | apply setClass_mode | apply toothError_mode | apply enterFromTooth_mode | apply forwardBoundary_mode | dsimp only | split | intro)

theorem reverseEdge_mode (t : Tick) (s : State) (h_ : s.sys.mode = .run) :
    (reverseEdge t s).sys.mode = .run := by
  unfold reverseEdge
  repeat' (with_reducible first | assumption | apply notLearned_mode | apply onCrank_mode | apply changeSync_mode | dsimp only | split | intro)

theorem forwardPassage_mode (inp : Nat) (t : Tick) (s : State) (h_ : s.sys.mode = .run) :
    (forwardPassage inp t s).sys.mode = .run := by
  unfold forwardPassage
  repeat' (with_reducible first | assumption | apply onCrank_mode | apply lensShow_mode | apply reverseEdge_mode | apply lensFirst_mode | apply forwardPeriod_mode | dsimp only | split | intro)

theorem stepBack_mode (s : State) (h_ : s.sys.mode = .run) :
    (stepBack s).sys.mode = .run := by
  unfold stepBack
  repeat' (with_reducible first | assumption | apply onCrank_mode | dsimp only | split | intro)

theorem reverseTiming_mode (t : Tick) (s : State) (h_ : s.sys.mode = .run) :
    (reverseTiming t s).sys.mode = .run := by
  unfold reverseTiming
  repeat' (with_reducible first | assumption | apply lensFirst_mode | apply onCrank_mode | apply changeSync_mode | apply lensUpdate_mode | dsimp only | split | intro)

theorem backPassage_mode (t : Tick) (s : State) (h_ : s.sys.mode = .run) :
    (backPassage t s).sys.mode = .run := by
  unfold backPassage
  repeat' (with_reducible first | assumption | apply stepBack_mode | apply lensShow_mode | apply reverseEdge_mode | apply reverseTiming_mode | dsimp only | split | intro)

theorem edgeFrame_mode (t : Tick) (s : State) (h_ : s.sys.mode = .run) :
    (edgeFrame t s).sys.mode = .run := by
  unfold edgeFrame
  repeat' (with_reducible first | assumption | apply mirrorAt_mode | dsimp only | split | intro)

theorem edgeAccepted_mode (t : Tick) (s : State) (h_ : s.sys.mode = .run) :
    (edgeAccepted t s).sys.mode = .run := by
  unfold edgeAccepted
  repeat' (with_reducible first | assumption | apply wake_mode | apply qsInvalidate_mode | dsimp only | split | intro)

theorem sourceEdge_mode (inp : Nat) (t : Tick) (s : State) (h_ : s.sys.mode = .run) :
    (sourceEdge inp t s).sys.mode = .run := by
  unfold sourceEdge
  repeat' (with_reducible first | assumption | apply edgeAccepted_mode | apply edgeFrame_mode | apply onCrank_mode | apply stepBack_mode | apply backPassage_mode | apply forwardPassage_mode | dsimp only | split | intro)

theorem redoStep_mode (inp : Nat) (back : Bool) (s : State) (h_ : s.sys.mode = .run) :
    (redoStep inp back s).sys.mode = .run := by
  unfold redoStep
  repeat' (with_reducible first | assumption | apply onCrank_mode | apply stepBack_mode | apply lensShow_mode | apply forwardPassage_mode | dsimp only | split | intro)

theorem declareReverse_mode (s : State) (h_ : s.sys.mode = .run) :
    (declareReverse s).sys.mode = .run := by
  unfold declareReverse
  repeat' (with_reducible first | assumption | apply stopFiring_mode | apply passTo_mode | apply onCrank_mode | apply applyPending_mode | apply changeSync_mode | apply lensReverse_mode | apply lensShow_mode | apply endWaitas_mode | dsimp only | split | intro)

theorem declareForward_mode (s : State) (h_ : s.sys.mode = .run) :
    (declareForward s).sys.mode = .run := by
  unfold declareForward
  repeat' (with_reducible first | assumption | apply lensResume_mode | apply onCrank_mode | dsimp only | split | intro)

theorem dirChanged_mode (old : Dir) (s : State) (h_ : s.sys.mode = .run) :
    (dirChanged old s).sys.mode = .run := by
  unfold dirChanged
  repeat' (with_reducible first | assumption | apply raise_mode | apply declareReverse_mode | apply dropHeld_mode | apply declareForward_mode | dsimp only | split | intro)

theorem quickCheck_mode (cls : Pulse) (s : State) (h_ : s.sys.mode = .run) :
    (quickCheck cls s).sys.mode = .run := by
  unfold quickCheck
  repeat' (with_reducible first | assumption | apply onCrank_mode | apply enterPosition_mode | dsimp only | split | intro)

theorem sourcePulse_mode (inp : Nat) (cls : Pulse) (s : State) (h_ : s.sys.mode = .run) :
    (sourcePulse inp cls s).sys.mode = .run := by
  unfold sourcePulse
  repeat' (with_reducible first | assumption | apply stepBack_mode | apply redoStep_mode | apply lensUndo_mode | apply toothError_mode | apply onCrank_mode | apply quickCheck_mode | apply dirChanged_mode | dsimp only | split | intro)

theorem State_setCam_mode (s : State) (c : Nat) (x : Cam) (h_ : s.sys.mode = .run) :
    (Sys2Proof.Machine.State.setCam s c x).sys.mode = .run := by
  unfold State.setCam
  repeat' (with_reducible first | assumption | dsimp only | split | intro)

theorem phaseElsewhere_mode (c x a : Nat) (s : State) (h_ : s.sys.mode = .run) :
    (phaseElsewhere c x a s).sys.mode = .run := by
  unfold phaseElsewhere
  repeat' (with_reducible first | assumption | apply camError_mode | apply State_setCam_mode | apply enterLost_mode | dsimp only | split | intro)

theorem camInFull_mode (c x : Nat) (phase : Bool) (s : State) (h_ : s.sys.mode = .run) :
    (camInFull c x phase s).sys.mode = .run := by
  unfold camInFull
  repeat' (with_reducible first | assumption | apply State_setCam_mode | apply camError_mode | apply phaseElsewhere_mode | dsimp only | split | intro)

theorem phaseMet_mode (t : Tick) (x : Option Nat) (s : State) (h_ : s.sys.mode = .run) :
    (phaseMet t x s).sys.mode = .run := by
  unfold phaseMet
  repeat' (with_reducible first | assumption | apply camError_mode | dsimp only | split | intro)

theorem camEdge_mode (inp c : Nat) (t : Tick) (s : State) (h_ : s.sys.mode = .run) :
    (camEdge inp c t s).sys.mode = .run := by
  unfold camEdge
  repeat' (with_reducible first | assumption | apply setClass_mode | apply State_setCam_mode | apply camInFull_mode | apply phaseMet_mode | dsimp only | split | intro)

theorem onSecond_mode (f : CrankDec → CrankDec) (s : State) (h_ : s.sys.mode = .run) :
    (onSecond f s).sys.mode = .run := by
  unfold onSecond
  repeat' (with_reducible first | assumption | dsimp only | split | intro)

theorem secondLost_mode (s : State) (h_ : s.sys.mode = .run) :
    (secondLost s).sys.mode = .run := by
  unfold secondLost
  repeat' (with_reducible first | assumption | apply onSecond_mode | dsimp only | split | intro)

theorem secondCheck_mode (pos : Nat) (s : State) (h_ : s.sys.mode = .run) :
    (secondCheck pos s).sys.mode = .run := by
  unfold secondCheck
  repeat' (with_reducible first | assumption | apply raiseIf_mode | dsimp only | split | intro)

theorem secondReference_mode (c : GapCand) (s : State) (h_ : s.sys.mode = .run) :
    (secondReference c s).sys.mode = .run := by
  unfold secondReference
  repeat' (with_reducible first | assumption | apply onSecond_mode | apply secondCheck_mode | dsimp only | split | intro)

theorem secondPeriod_mode (inp : Nat) (t : Tick) (s : State) (h_ : s.sys.mode = .run) :
    (secondPeriod inp t s).sys.mode = .run := by
  unfold secondPeriod
  repeat' (with_reducible first | assumption | apply setClass_mode | apply secondLost_mode | apply secondReference_mode | apply onSecond_mode | dsimp only | split | intro)

theorem secondEdge_mode (inp : Nat) (t : Tick) (s : State) (h_ : s.sys.mode = .run) :
    (secondEdge inp t s).sys.mode = .run := by
  unfold secondEdge
  repeat' (with_reducible first | assumption | apply onSecond_mode | apply stepBack_mode | apply secondPeriod_mode | dsimp only | split | intro)

theorem secondPulse_mode (cls : Pulse) (s : State) (h_ : s.sys.mode = .run) :
    (secondPulse cls s).sys.mode = .run := by
  unfold secondPulse
  repeat' (with_reducible first | assumption | apply onSecond_mode | apply stepBack_mode | dsimp only | split | intro)

theorem doSecondaryPromotion_mode (s : State) (h_ : s.sys.mode = .run) :
    (doSecondaryPromotion s).sys.mode = .run := by
  unfold doSecondaryPromotion
  repeat' (with_reducible first | assumption | apply passTo_mode | apply raise_mode | apply stepBack_mode | dsimp only | split | intro)

theorem strain_mode (n : Nat) (rising : Bool) (peakMv : Nat) (s : State) (h_ : s.sys.mode = .run) :
    (strain n rising peakMv s).sys.mode = .run := by
  unfold strain
  repeat' (with_reducible first | assumption | apply State_setWheel_mode | dsimp only | split | intro)

theorem doWheelCrossing_mode (n : Nat) (rising : Bool) (peakMv : Nat) (s : State) (h_ : s.sys.mode = .run) :
    (doWheelCrossing n rising peakMv s).sys.mode = .run := by
  unfold doWheelCrossing
  repeat' (with_reducible first | assumption | apply strain_mode | apply wake_mode | apply qsInvalidate_mode | dsimp only | split | intro)

theorem classifyPulse_mode (n : Nat) (cls : Pulse) (s : State) (h_ : s.sys.mode = .run) :
    (classifyPulse n cls s).sys.mode = .run := by
  unfold classifyPulse
  repeat' (with_reducible first | assumption | apply State_setWheel_mode | apply sourcePulse_mode | apply secondPulse_mode | dsimp only | split | intro)

theorem timingAccepted_mode (n : Nat) (c : Crossing) (s : State) (h_ : s.sys.mode = .run) :
    (timingAccepted n c s).sys.mode = .run := by
  unfold timingAccepted
  repeat' (with_reducible first | assumption | apply State_setWheel_mode | apply sourceEdge_mode | apply secondEdge_mode | apply camEdge_mode | apply raise_mode | apply setClass_mode | dsimp only | split | intro)

theorem trailingAccepted_mode (n : Nat) (c : Crossing) (s : State) (h_ : s.sys.mode = .run) :
    (trailingAccepted n c s).sys.mode = .run := by
  unfold trailingAccepted
  repeat' (with_reducible first | assumption | apply State_setWheel_mode | apply classifyPulse_mode | dsimp only | split | intro)

theorem doStrainerAccept_mode (n : Nat) (s : State) (h_ : s.sys.mode = .run) :
    (doStrainerAccept n s).sys.mode = .run := by
  unfold doStrainerAccept
  repeat' (with_reducible first | assumption | apply State_setWheel_mode | apply timingAccepted_mode | apply trailingAccepted_mode | dsimp only | split | intro)

theorem doPulseLongTimeout_mode (n : Nat) (s : State) (h_ : s.sys.mode = .run) :
    (doPulseLongTimeout n s).sys.mode = .run := by
  unfold doPulseLongTimeout
  repeat' (with_reducible first | assumption | apply classifyPulse_mode | dsimp only | split | intro)

theorem markDetection_mode (b n : Nat) (s : State) (h_ : s.sys.mode = .run) :
    (markDetection b n s).sys.mode = .run := by
  unfold markDetection
  repeat' (with_reducible first | assumption | apply State_memPatch_mode | apply State_setDgt_mode | dsimp only | split | intro)

theorem storeSample_mode (b n : Nat) (v : Int) (s : State) (h_ : s.sys.mode = .run) :
    (storeSample b n v s).sys.mode = .run := by
  unfold storeSample
  repeat' (with_reducible first | assumption | apply State_memPatch_mode | apply State_setDgt_mode | dsimp only | split | intro)

theorem doDigitiserSample_mode (b : Nat) (code : BitVec 12) (s : State) (h_ : s.sys.mode = .run) :
    (doDigitiserSample b code s).sys.mode = .run := by
  unfold doDigitiserSample
  repeat' (with_reducible first | assumption | apply storeSample_mode | apply State_setDgt_mode | apply markDetection_mode | dsimp only | split | intro)

theorem writeClosing_mode (b : Nat) (c : Capture) (d : Detection) (s : State) (h_ : s.sys.mode = .run) :
    (writeClosing b c d s).sys.mode = .run := by
  unfold writeClosing
  repeat' (with_reducible first | assumption | apply State_memWrite_mode | apply State_setDgt_mode | apply State_setDch_mode | apply notice_mode | apply raise_mode | apply mirrorAt_mode | dsimp only | split | intro)

theorem pendingRecord_mode (b : Nat) (s : State) (h_ : s.sys.mode = .run) :
    (pendingRecord b s).sys.mode = .run := by
  unfold pendingRecord
  repeat' (with_reducible first | assumption | apply writeClosing_mode | dsimp only | split | intro)

theorem doClosingRecordWritten_mode (b : Nat) (s : State) (h_ : s.sys.mode = .run) :
    (doClosingRecordWritten b s).sys.mode = .run := by
  unfold doClosingRecordWritten
  repeat' (with_reducible first | assumption | apply pendingRecord_mode | dsimp only | split | intro)

theorem endCapture_mode (b : Nat) (x : Tick) (s : State) (h_ : s.sys.mode = .run) :
    (endCapture b x s).sys.mode = .run := by
  unfold endCapture
  repeat' (with_reducible first | assumption | apply pendingRecord_mode | apply State_setDch_mode | apply State_setDgt_mode | dsimp only | split | intro)

theorem doCaptureEnd_mode (b : Nat) (s : State) (h_ : s.sys.mode = .run) :
    (doCaptureEnd b s).sys.mode = .run := by
  unfold doCaptureEnd
  repeat' (with_reducible first | assumption | apply endCapture_mode | dsimp only | split | intro)

theorem startEndsCapture_mode (k : Nat) (x : Tick) (s : State) (h_ : s.sys.mode = .run) :
    (startEndsCapture k x s).sys.mode = .run := by
  unfold startEndsCapture
  repeat' (with_reducible first | assumption | apply endCapture_mode | dsimp only | split | intro)

theorem startTest_mode (k : Nat) (s : State) (h_ : s.sys.mode = .run) :
    (startTest k s).sys.mode = .run := by
  unfold startTest
  repeat' (with_reducible first | assumption | apply State_setDch_mode | dsimp only | split | intro)

theorem doOffTestStart_mode (s : State) (h_ : s.sys.mode = .run) :
    (doOffTestStart s).sys.mode = .run := by
  unfold doOffTestStart
  repeat' (with_reducible first | assumption | apply forEach_mode | apply startTest_mode | dsimp only | split | intro)

theorem offDone_mode (k code : Nat) (last : Nat × Nat) (s : State) (h_ : s.sys.mode = .run) :
    (offDone k code last s).sys.mode = .run := by
  unfold offDone
  repeat' (with_reducible first | assumption | apply State_setDch_mode | apply fault_mode | dsimp only | split | intro)

theorem doOffTestComplete_mode (k : Nat) (samples : List (Nat × Nat)) (s : State) (h_ : s.sys.mode = .run) :
    (doOffTestComplete k samples s).sys.mode = .run := by
  unfold doOffTestComplete
  repeat' (with_reducible first | assumption | apply offDone_mode | apply State_setDch_mode | dsimp only | split | intro)

theorem doOffTestNotRun_mode (k : Nat) (s : State) (h_ : s.sys.mode = .run) :
    (doOffTestNotRun k s).sys.mode = .run := by
  unfold doOffTestNotRun
  repeat' (with_reducible first | assumption | apply State_setDch_mode | dsimp only | split | intro)

theorem diagOffTest_mode (m : BitVec 64) (s : State) (h_ : s.sys.mode = .run) :
    (diagOffTest m s).sys.mode = .run := by
  unfold diagOffTest
  repeat' (with_reducible first | assumption | apply forEach_mode | apply State_setDch_mode | apply startTest_mode | dsimp only | split | intro)

theorem diagClear_mode (m : BitVec 64) (s : State) (h_ : s.sys.mode = .run) :
    (diagClear m s).sys.mode = .run := by
  unfold diagClear
  repeat' (with_reducible first | assumption | apply forEach_mode | apply State_setDch_mode | dsimp only | split | intro)

theorem measure_mode (k current : Nat) (s : State) (h_ : s.sys.mode = .run) :
    (measure k current s).sys.mode = .run := by
  unfold measure
  repeat' (with_reducible first | assumption | apply State_setChan_mode | apply State_setBank_mode | dsimp only | split | intro)

theorem toTransition_mode (k : Nat) (x : Tick) (reached : Bool) (energyUj : Nat) (s : State) (h_ : s.sys.mode = .run) :
    (toTransition k x reached energyUj s).sys.mode = .run := by
  unfold toTransition
  repeat' (with_reducible first | assumption | apply peakOver_mode | apply State_setChan_mode | apply bankEdge_mode | dsimp only | split | intro)

theorem slip_mode (k : Nat) (s : State) (h_ : s.sys.mode = .run) :
    (slip k s).sys.mode = .run := by
  unfold slip
  repeat' (with_reducible first | assumption | apply State_setChan_mode | apply raise_mode | apply State_setBank_mode | dsimp only | split | intro)

theorem yieldStep_mode (x : Tick) (k : Nat) (s : State) (h_ : s.sys.mode = .run) :
    (yieldStep x k s).sys.mode = .run := by
  unfold yieldStep
  repeat' (with_reducible first | assumption | apply slip_mode | apply toTransition_mode | apply bankEdge_mode | apply State_setChan_mode | dsimp only | split | intro)

theorem arbitrate_mode (b : Nat) (x : Tick) (s : State) (h_ : s.sys.mode = .run) :
    (arbitrate b x s).sys.mode = .run := by
  unfold arbitrate
  repeat' (with_reducible first | assumption | apply forEach_mode | apply yieldStep_mode | dsimp only | split | intro)

theorem doOnStateFault_mode (k : Nat) (m : OnStateMeas) (s : State) (h_ : s.sys.mode = .run) :
    (doOnStateFault k m s).sys.mode = .run := by
  unfold doOnStateFault
  repeat' (with_reducible first | assumption | apply endBank_mode | apply endEarly_mode | apply arbitrate_mode | apply fault_mode | apply State_setDch_mode | dsimp only | split | intro)

theorem doProfileStart_mode (k : Nat) (s : State) (h_ : s.sys.mode = .run) :
    (doProfileStart k s).sys.mode = .run := by
  unfold doProfileStart
  repeat' (with_reducible first | assumption | apply stopTests_mode | apply fallEnds_mode | apply startEndsCapture_mode | apply State_setSlot_mode | apply State_setChan_mode | apply notice_mode | apply mirrorAt_mode | apply arbitrate_mode | apply bankEdge_mode | dsimp only | split | intro)

theorem doPeakEnd_mode (k current energyUj : Nat) (s : State) (h_ : s.sys.mode = .run) :
    (doPeakEnd k current energyUj s).sys.mode = .run := by
  unfold doPeakEnd
  repeat' (with_reducible first | assumption | apply arbitrate_mode | apply toTransition_mode | apply measure_mode | dsimp only | split | intro)

theorem doPeakTimeout_mode (k current energyUj : Nat) (s : State) (h_ : s.sys.mode = .run) :
    (doPeakTimeout k current energyUj s).sys.mode = .run := by
  unfold doPeakTimeout
  repeat' (with_reducible first | assumption | apply toTransition_mode | apply measure_mode | apply State_setChan_mode | apply arbitrate_mode | apply raise_mode | dsimp only | split | intro)

theorem toSteep_mode (k : Nat) (x : Tick) (s : State) (h_ : s.sys.mode = .run) :
    (toSteep k x s).sys.mode = .run := by
  unfold toSteep
  repeat' (with_reducible first | assumption | apply State_setChan_mode | apply arbitrate_mode | apply bankEdge_mode | dsimp only | split | intro)

theorem doTransitionEnd_mode (k current : Nat) (s : State) (h_ : s.sys.mode = .run) :
    (doTransitionEnd k current s).sys.mode = .run := by
  unfold doTransitionEnd
  repeat' (with_reducible first | assumption | apply toSteep_mode | apply measure_mode | dsimp only | split | intro)

theorem doDitherStep_mode (k : Nat) (s : State) (h_ : s.sys.mode = .run) :
    (doDitherStep k s).sys.mode = .run := by
  unfold doDitherStep
  repeat' (with_reducible first | assumption | apply State_setChan_mode | dsimp only | split | intro)

theorem doRegulatorSwitch_mode (k current : Nat) (s : State) (h_ : s.sys.mode = .run) :
    (doRegulatorSwitch k current s).sys.mode = .run := by
  unfold doRegulatorSwitch
  repeat' (with_reducible first | assumption | apply measure_mode | apply bankEdge_mode | apply State_setChan_mode | dsimp only | split | intro)

theorem doTurnOffInstant_mode (k current energyUj : Nat) (s : State) (h_ : s.sys.mode = .run) :
    (doTurnOffInstant k current energyUj s).sys.mode = .run := by
  unfold doTurnOffInstant
  repeat' (with_reducible first | assumption | apply measure_mode | apply turnOff_mode | apply State_setChan_mode | apply arbitrate_mode | dsimp only | split | intro)

theorem captureRecovered_mode (k : Nat) (s : State) (h_ : s.sys.mode = .run) :
    (captureRecovered k s).sys.mode = .run := by
  unfold captureRecovered
  repeat' (with_reducible first | assumption | apply State_setDgt_mode | dsimp only | split | intro)

theorem doTurnOffComplete_mode (k current : Nat) (s : State) (h_ : s.sys.mode = .run) :
    (doTurnOffComplete k current s).sys.mode = .run := by
  unfold doTurnOffComplete
  repeat' (with_reducible first | assumption | apply turnOff_mode | apply measure_mode | apply State_setChan_mode | apply freeSlot_mode | apply bankMode_mode | apply captureRecovered_mode | apply bankEdge_mode | dsimp only | split | intro)

theorem doChannelOvercurrent_mode (k current : Nat) (s : State) (h_ : s.sys.mode = .run) :
    (doChannelOvercurrent k current s).sys.mode = .run := by
  unfold doChannelOvercurrent
  repeat' (with_reducible first | assumption | apply fault_mode | apply arbitrate_mode | apply endEarly_mode | apply measure_mode | dsimp only | split | intro)

theorem doBankOvercurrent_mode (b sum : Nat) (s : State) (h_ : s.sys.mode = .run) :
    (doBankOvercurrent b sum s).sys.mode = .run := by
  unfold doBankOvercurrent
  repeat' (with_reducible first | assumption | apply State_setBank_mode | apply fault_mode | apply raise_mode | apply endBank_mode | dsimp only | split | intro)

theorem doOnMaxStop_mode (k : Nat) (s : State) (h_ : s.sys.mode = .run) :
    (doOnMaxStop k s).sys.mode = .run := by
  unfold doOnMaxStop
  repeat' (with_reducible first | assumption | apply fault_mode | apply arbitrate_mode | apply endAt_mode | dsimp only | split | intro)

theorem doExtensionWrite_mode (q k ext : Nat) (s : State) (h_ : s.sys.mode = .run) :
    (doExtensionWrite q k ext s).sys.mode = .run := by
  unfold doExtensionWrite
  repeat' (with_reducible first | assumption | apply State_setChan_mode | apply raise_mode | dsimp only | split | intro)

theorem doSetpointWrite_mode (k : Nat) (value : Word) (s : State) (h_ : s.sys.mode = .run) :
    (doSetpointWrite k value s).sys.mode = .run := by
  unfold doSetpointWrite
  repeat' (with_reducible first | assumption | apply State_setChan_mode | dsimp only | split | intro)

theorem kettleVolt_mode (k volt : Nat) (s : State) (h_ : s.sys.mode = .run) :
    (kettleVolt k volt s).sys.mode = .run := by
  unfold kettleVolt
  repeat' (with_reducible first | assumption | apply State_setKettle_mode | dsimp only | split | intro)

theorem kettleLevel_mode (k volt : Nat) (s : State) (h_ : s.sys.mode = .run) :
    (kettleLevel k volt s).sys.mode = .run := by
  unfold kettleLevel
  repeat' (with_reducible first | assumption | apply kettleVolt_mode | apply markFall_mode | apply ktUpdate_mode | apply ktFault_mode | dsimp only | split | intro)

theorem doKettleLevelChange_mode (k volt : Nat) (s : State) (h_ : s.sys.mode = .run) :
    (doKettleLevelChange k volt s).sys.mode = .run := by
  unfold doKettleLevelChange
  repeat' (with_reducible first | assumption | apply kettleLevel_mode | dsimp only | split | intro)

theorem doKettleChargeDeadline_mode (k : Nat) (s : State) (h_ : s.sys.mode = .run) :
    (doKettleChargeDeadline k s).sys.mode = .run := by
  unfold doKettleChargeDeadline
  repeat' (with_reducible first | assumption | apply ktFault_mode | dsimp only | split | intro)

theorem doKettleOvervoltage_mode (k volt : Nat) (s : State) (h_ : s.sys.mode = .run) :
    (doKettleOvervoltage k volt s).sys.mode = .run := by
  unfold doKettleOvervoltage
  repeat' (with_reducible first | assumption | apply kettleLevel_mode | dsimp only | split | intro)

theorem doKettleCapacitance_mode (k microfarad : Nat) (s : State) (h_ : s.sys.mode = .run) :
    (doKettleCapacitance k microfarad s).sys.mode = .run := by
  unfold doKettleCapacitance
  repeat' (with_reducible first | assumption | apply State_setKettle_mode | apply calReport_mode | dsimp only | split | intro)

theorem regLatch_mode (r : Requester) (a : Nat) (s : State) (h_ : s.sys.mode = .run) :
    (regLatch r a s).sys.mode = .run := by
  unfold regLatch
  repeat' (with_reducible first | assumption | dsimp only | split | intro)

theorem doSnapshotRead_mode (r : Requester) (a : Nat) (s : State) (h_ : s.sys.mode = .run) :
    (doSnapshotRead r a s).sys.mode = .run := by
  unfold doSnapshotRead
  repeat' (with_reducible first | assumption | apply regLatch_mode | dsimp only | split | intro)

theorem doLnsAngleRead_mode (r : Requester) (s : State) (h_ : s.sys.mode = .run) :
    (doLnsAngleRead r s).sys.mode = .run := by
  unfold doLnsAngleRead
  repeat' (with_reducible first | assumption | apply regLatch_mode | dsimp only | split | intro)

theorem markBad_mode (a source : Nat) (s : State) (h_ : s.sys.mode = .run) :
    (markBad a source s).sys.mode = .run := by
  unfold markBad
  repeat' (with_reducible first | assumption | apply fault_mode | dsimp only | split | intro)

theorem eccFound_mode (a : Nat) (s : State) (h_ : s.sys.mode = .run) :
    (eccFound a s).sys.mode = .run := by
  unfold eccFound
  repeat' (with_reducible first | assumption | apply markBad_mode | apply doEventTableEccError_mode | dsimp only | split | intro)

theorem eccFixed_mode (a : Nat) (s : State) (h_ : s.sys.mode = .run) :
    (eccFixed a s).sys.mode = .run := by
  unfold eccFixed
  repeat' (with_reducible first | assumption | dsimp only | split | intro)

theorem eccRead_mode (a : Nat) (e : Ecc) (s : State) (h_ : s.sys.mode = .run) :
    (eccRead a e s).sys.mode = .run := by
  unfold eccRead
  repeat' (with_reducible first | assumption | apply eccFixed_mode | apply eccFound_mode | dsimp only | split | intro)

theorem eccRestored_mode (a : Nat) (s : State) (h_ : s.sys.mode = .run) :
    (eccRestored a s).sys.mode = .run := by
  unfold eccRestored
  repeat' (with_reducible first | assumption | dsimp only | split | intro)

theorem countWrite_mode (p : Nat) (s : State) (h_ : s.sys.mode = .run) :
    (countWrite p s).sys.mode = .run := by
  unfold countWrite
  repeat' (with_reducible first | assumption | dsimp only | split | intro)

theorem blockWritten_mode (l : Nat) (s : State) (h_ : s.sys.mode = .run) :
    (blockWritten l s).sys.mode = .run := by
  unfold blockWritten
  repeat' (with_reducible first | assumption | apply countWrite_mode | dsimp only | split | intro)

theorem blocksWritten_mode (l : List Nat) (s : State) (h_ : s.sys.mode = .run) :
    (blocksWritten l s).sys.mode = .run := by
  unfold blocksWritten
  repeat' (with_reducible first | assumption | apply forEach_mode | apply blockWritten_mode | dsimp only | split | intro)

theorem turnCopy_mode (base : Nat) (s : State) (h_ : s.sys.mode = .run) :
    (turnCopy base s).sys.mode = .run := by
  unfold turnCopy
  repeat' (with_reducible first | assumption | dsimp only | split | intro)

theorem regionWritten_mode (base n : Nat) (s : State) (h_ : s.sys.mode = .run) :
    (regionWritten base n s).sys.mode = .run := by
  unfold regionWritten
  repeat' (with_reducible first | assumption | apply turnCopy_mode | apply blocksWritten_mode | dsimp only | split | intro)

theorem logCaddy_mode (block action : Nat) (s : State) (h_ : s.sys.mode = .run) :
    (logCaddy block action s).sys.mode = .run := by
  unfold logCaddy
  repeat' (with_reducible first | assumption | apply log_mode | dsimp only | split | intro)

theorem retireBlock_mode (s : State) (h_ : s.sys.mode = .run) :
    (retireBlock s).sys.mode = .run := by
  unfold retireBlock
  repeat' (with_reducible first | assumption | apply raise_mode | apply logCaddy_mode | dsimp only | split | intro)

theorem writeFailed_mode (block : Nat) (s : State) (h_ : s.sys.mode = .run) :
    (writeFailed block s).sys.mode = .run := by
  unfold writeFailed
  repeat' (with_reducible first | assumption | apply fault_mode | apply logCaddy_mode | apply retireBlock_mode | dsimp only | split | intro)

theorem recordWritten_mode (r : QsRecord) (s : State) (h_ : s.sys.mode = .run) :
    (recordWritten r s).sys.mode = .run := by
  unfold recordWritten
  repeat' (with_reducible first | assumption | apply raise_mode | apply qsInvalidate_mode | dsimp only | split | intro)

theorem tailWritten_mode (k : Nat) (s : State) (h_ : s.sys.mode = .run) :
    (tailWritten k s).sys.mode = .run := by
  unfold tailWritten
  repeat' (with_reducible first | assumption | dsimp only | split | intro)

theorem flushOver_mode (s : State) (h_ : s.sys.mode = .run) :
    (flushOver s).sys.mode = .run := by
  unfold flushOver
  repeat' (with_reducible first | assumption | apply holdupSteps_mode | apply qsInvalidate_mode | dsimp only | split | intro)

theorem wearSaved_mode (s : State) (h_ : s.sys.mode = .run) :
    (wearSaved s).sys.mode = .run := by
  unfold wearSaved
  repeat' (with_reducible first | assumption | apply flushOver_mode | apply raise_mode | dsimp only | split | intro)

theorem jobDone_mode (j : CaddyJob) (s : State) (h_ : s.sys.mode = .run) :
    (jobDone j s).sys.mode = .run := by
  unfold jobDone
  repeat' (with_reducible first | assumption | apply recordWritten_mode | apply raise_mode | apply turnCopy_mode | apply tailWritten_mode | apply wearSaved_mode | apply logCaddy_mode | dsimp only | split | intro)

theorem popJob_mode (s : State) (h_ : s.sys.mode = .run) :
    (popJob s).sys.mode = .run := by
  unfold popJob
  repeat' (with_reducible first | assumption | apply jobDone_mode | dsimp only | split | intro)

theorem jobStep_mode (ok : Bool) (j : CaddyJob) (s : State) (h_ : s.sys.mode = .run) :
    (jobStep ok j s).sys.mode = .run := by
  unfold jobStep
  repeat' (with_reducible first | assumption | apply jobDone_mode | apply blockWritten_mode | apply popJob_mode | apply flushOver_mode | apply writeFailed_mode | apply retireBlock_mode | dsimp only | split | intro)

theorem doCaddyWriteComplete_mode (ok : Bool) (s : State) (h_ : s.sys.mode = .run) :
    (doCaddyWriteComplete ok s).sys.mode = .run := by
  unfold doCaddyWriteComplete
  repeat' (with_reducible first | assumption | apply jobStep_mode | dsimp only | split | intro)

theorem flushLoss_mode (s : State) (h_ : s.sys.mode = .run) :
    (flushLoss s).sys.mode = .run := by
  unfold flushLoss
  repeat' (with_reducible first | assumption | apply logPut_mode | apply raise_mode | dsimp only | split | intro)

theorem flushHead_mode (s : State) (h_ : s.sys.mode = .run) : (flushHead s).sys.mode = .run := by
  unfold flushHead
  split
  · exact h_
  · generalize leBytes 4 0x484C4C4B ++ _ ++ _ ++ _ = body
    repeat' (with_reducible first | assumption | apply logPut_mode | dsimp only | split | intro)

theorem startFlush_mode (s : State) (h_ : s.sys.mode = .run) :
    (startFlush s).sys.mode = .run := by
  unfold startFlush
  repeat' (with_reducible first | assumption | apply flushHead_mode | apply flushLoss_mode | apply caddyJob_mode | dsimp only | split | intro)

theorem logGuard_mode (s : State) (h_ : s.sys.mode = .run) :
    (logGuard s).sys.mode = .run := by
  unfold logGuard
  repeat' (with_reducible first | assumption | dsimp only | split | intro)

theorem doLogbookFlush_mode (s : State) (h_ : s.sys.mode = .run) :
    (doLogbookFlush s).sys.mode = .run := by
  unfold doLogbookFlush
  repeat' (with_reducible first | assumption | apply startFlush_mode | apply logGuard_mode | dsimp only | split | intro)

theorem blockLost_mode (l : Nat) (s : State) (h_ : s.sys.mode = .run) :
    (blockLost l s).sys.mode = .run := by
  unfold blockLost
  repeat' (with_reducible first | assumption | apply raise_mode | apply logCaddy_mode | dsimp only | split | intro)

theorem blockBad_mode (l : Nat) (s : State) (h_ : s.sys.mode = .run) :
    (blockBad l s).sys.mode = .run := by
  unfold blockBad
  repeat' (with_reducible first | assumption | apply blockLost_mode | apply caddyJob_mode | dsimp only | split | intro)

theorem refreshRead_mode (p : Nat) (r : BlockRead) (s : State) (h_ : s.sys.mode = .run) :
    (refreshRead p r s).sys.mode = .run := by
  unfold refreshRead
  repeat' (with_reducible first | assumption | apply blockBad_mode | apply caddyJob_mode | dsimp only | split | intro)

theorem doRetentionRefreshStep_mode (r : BlockRead) (s : State) (h_ : s.sys.mode = .run) :
    (doRetentionRefreshStep r s).sys.mode = .run := by
  unfold doRetentionRefreshStep
  repeat' (with_reducible first | assumption | apply refreshRead_mode | apply raise_mode | dsimp only | split | intro)

theorem reloadCollector_mode (w : Nat) (s : State) (h_ : s.sys.mode = .run) :
    (reloadCollector w s).sys.mode = .run := by
  unfold reloadCollector
  repeat' (with_reducible first | assumption | dsimp only | split | intro)

theorem envCopyError_mode (s : State) (h_ : s.sys.mode = .run) :
    (envCopyError s).sys.mode = .run := by
  unfold envCopyError
  repeat' (with_reducible first | assumption | apply fault_mode | dsimp only | split | intro)

theorem scrubBad_mode (g : ScrubRegion) (p : Nat) (otherOk : Bool) (s : State) (h_ : s.sys.mode = .run) :
    (scrubBad g p otherOk s).sys.mode = .run := by
  unfold scrubBad
  repeat' (with_reducible first | assumption | apply eccFound_mode | apply raise_mode | apply eccRestored_mode | apply doEventTableEccError_mode | apply State_memWrite_mode | apply envCopyError_mode | apply fault_mode | apply reloadCollector_mode | dsimp only | split | intro)

theorem scrubFixed_mode (g : ScrubRegion) (p : Nat) (s : State) (h_ : s.sys.mode = .run) :
    (scrubFixed g p s).sys.mode = .run := by
  unfold scrubFixed
  repeat' (with_reducible first | assumption | apply eccFixed_mode | dsimp only | split | intro)

theorem scrubNext_mode (g : ScrubRegion) (s : State) (h_ : s.sys.mode = .run) :
    (scrubNext g s).sys.mode = .run := by
  unfold scrubNext
  repeat' (with_reducible first | assumption | dsimp only | split | intro)

theorem scrubGuard_mode (g : ScrubRegion) (s : State) (h_ : s.sys.mode = .run) :
    (scrubGuard g s).sys.mode = .run := by
  unfold scrubGuard
  repeat' (with_reducible first | assumption | dsimp only | split | intro)

theorem doScrubAccess_mode (g : ScrubRegion) (e : Ecc) (otherOk : Bool) (s : State) (h_ : s.sys.mode = .run) :
    (doScrubAccess g e otherOk s).sys.mode = .run := by
  unfold doScrubAccess
  repeat' (with_reducible first | assumption | apply scrubGuard_mode | apply scrubFixed_mode | apply scrubBad_mode | apply scrubNext_mode | apply State_setSlot_mode | dsimp only | split | intro)

theorem doRulerCalibration_mode (taps : BitVec 10) (halfPpm : Int) (s : State) (h_ : s.sys.mode = .run) :
    (doRulerCalibration taps halfPpm s).sys.mode = .run := by
  unfold doRulerCalibration
  repeat' (with_reducible first | assumption | apply calReport_mode | dsimp only | split | intro)

theorem setStale_mode (v : Bool) (i : SenseItem) (s : State) (h_ : s.sys.mode = .run) :
    (setStale v i s).sys.mode = .run := by
  unfold setStale
  repeat' (with_reducible first | assumption | dsimp only | split | intro)

theorem doSenseCalibration_mode (i : SenseItem) (s : State) (h_ : s.sys.mode = .run) :
    (doSenseCalibration i s).sys.mode = .run := by
  unfold doSenseCalibration
  repeat' (with_reducible first | assumption | apply setStale_mode | dsimp only | split | intro)

theorem doSenseStale_mode (i : SenseItem) (s : State) (h_ : s.sys.mode = .run) :
    (doSenseStale i s).sys.mode = .run := by
  unfold doSenseStale
  repeat' (with_reducible first | assumption | apply calReport_mode | apply setStale_mode | dsimp only | split | intro)

theorem doTelemetryBatch_mode (m : TelemetryMeas) (s : State) (h_ : s.sys.mode = .run) :
    (doTelemetryBatch m s).sys.mode = .run := by
  unfold doTelemetryBatch
  repeat' (with_reducible first | assumption | apply logGuard_mode | apply raise_mode | dsimp only | split | intro)

theorem doCounterFrame_mode (s : State) (h_ : s.sys.mode = .run) :
    (doCounterFrame s).sys.mode = .run := by
  unfold doCounterFrame
  repeat' (with_reducible first | assumption | apply mirrorAt_mode | dsimp only | split | intro)

theorem doMirrorFrameSent_mode (lane : Nat) (s : State) (h_ : s.sys.mode = .run) :
    (doMirrorFrameSent lane s).sys.mode = .run := by
  unfold doMirrorFrameSent
  repeat' (with_reducible first | assumption | dsimp only | split | intro)

theorem lanesResume_mode (s : State) (h_ : s.sys.mode = .run) :
    (lanesResume s).sys.mode = .run := by
  unfold lanesResume
  repeat' (with_reducible first | assumption | dsimp only | split | intro)

theorem signed1_mode (s : State) (h_ : s.sys.mode = .run) :
    (signed1 s).sys.mode = .run := by
  unfold signed1
  repeat' (with_reducible first | assumption | dsimp only | split | intro)

theorem entropyUsed_mode (n : Nat) (s : State) (h_ : s.sys.mode = .run) :
    (entropyUsed n s).sys.mode = .run := by
  unfold entropyUsed
  repeat' (with_reducible first | assumption | dsimp only | split | intro)

theorem newChallenge_mode (s : State) (h_ : s.sys.mode = .run) :
    (newChallenge s).sys.mode = .run := by
  unfold newChallenge
  repeat' (with_reducible first | assumption | apply entropyUsed_mode | dsimp only | split | intro)

theorem linkFail_mode (l : Link) (s : State) (h_ : s.sys.mode = .run) :
    (linkFail l s).sys.mode = .run := by
  unfold linkFail
  repeat' (with_reducible first | assumption | apply State_setLink_mode | apply raiseIf_mode | dsimp only | split | intro)

theorem linkOk_mode (l : Link) (s : State) (h_ : s.sys.mode = .run) :
    (linkOk l s).sys.mode = .run := by
  unfold linkOk
  repeat' (with_reducible first | assumption | apply State_setLink_mode | dsimp only | split | intro)

theorem countSecFail_mode (s : State) (h_ : s.sys.mode = .run) :
    (countSecFail s).sys.mode = .run := by
  unfold countSecFail
  repeat' (with_reducible first | assumption | dsimp only | split | intro)

theorem signatureFail_mode (l : Link) (s : State) (h_ : s.sys.mode = .run) :
    (signatureFail l s).sys.mode = .run := by
  unfold signatureFail
  repeat' (with_reducible first | assumption | apply linkFail_mode | apply log_mode | apply raise_mode | apply countSecFail_mode | dsimp only | split | intro)

theorem countedFail_mode (l : Link) (s : State) (h_ : s.sys.mode = .run) :
    (countedFail l s).sys.mode = .run := by
  unfold countedFail
  repeat' (with_reducible first | assumption | apply linkFail_mode | apply raise_mode | apply countSecFail_mode | dsimp only | split | intro)

theorem plainFail_mode (l : Link) (s : State) (h_ : s.sys.mode = .run) :
    (plainFail l s).sys.mode = .run := by
  unfold plainFail
  repeat' (with_reducible first | assumption | apply linkFail_mode | apply raise_mode | dsimp only | split | intro)

theorem doLockoutExpiry_mode (l : Link) (s : State) (h_ : s.sys.mode = .run) :
    (doLockoutExpiry l s).sys.mode = .run := by
  unfold doLockoutExpiry
  repeat' (with_reducible first | assumption | apply raise_mode | apply State_setLink_mode | dsimp only | split | intro)

theorem setImage_mode (x : Slot) (i : Image) (s : State) (h_ : s.sys.mode = .run) :
    (setImage x i s).sys.mode = .run := by
  unfold setImage
  repeat' (with_reducible first | assumption | dsimp only | split | intro)

theorem logLink_mode (l : Link) (event : Nat) (s : State) (h_ : s.sys.mode = .run) :
    (logLink l event s).sys.mode = .run := by
  unfold logLink
  repeat' (with_reducible first | assumption | apply log_mode | dsimp only | split | intro)

theorem dropHoldings_mode (l : Link) (s : State) (h_ : s.sys.mode = .run) :
    (dropHoldings l s).sys.mode = .run := by
  unfold dropHoldings
  repeat' (with_reducible first | assumption | dsimp only | split | intro)

theorem closeSession_mode (l : Link) (s : State) (h_ : s.sys.mode = .run) :
    (closeSession l s).sys.mode = .run := by
  unfold closeSession
  repeat' (with_reducible first | assumption | apply State_setLink_mode | apply opened_mode | apply dropHoldings_mode | apply raise_mode | apply logLink_mode | dsimp only | split | intro)

theorem closeAll_mode (s : State) (h_ : s.sys.mode = .run) :
    (closeAll s).sys.mode = .run := by
  unfold closeAll
  repeat' (with_reducible first | assumption | apply closeSession_mode | dsimp only | split | intro)

theorem doSessionIdleTimeout_mode (l : Link) (s : State) (h_ : s.sys.mode = .run) :
    (doSessionIdleTimeout l s).sys.mode = .run := by
  unfold doSessionIdleTimeout
  repeat' (with_reducible first | assumption | apply closeSession_mode | dsimp only | split | intro)

theorem doSessionOpenTimeout_mode (l : Link) (s : State) (h_ : s.sys.mode = .run) :
    (doSessionOpenTimeout l s).sys.mode = .run := by
  unfold doSessionOpenTimeout
  repeat' (with_reducible first | assumption | apply countedFail_mode | apply closeSession_mode | dsimp only | split | intro)

theorem logLife_mode (op : Nat) (s : State) (h_ : s.sys.mode = .run) :
    (logLife op s).sys.mode = .run := by
  unfold logLife
  repeat' (with_reducible first | assumption | apply log_mode | dsimp only | split | intro)

theorem writeKeys_mode (k : KeyStore) (s : State) (h_ : s.sys.mode = .run) :
    (writeKeys k s).sys.mode = .run := by
  unfold writeKeys
  repeat' (with_reducible first | assumption | apply regionWritten_mode | dsimp only | split | intro)

theorem decommission_mode (life : Life) (op : Nat) (forced : Bool) (s : State) (h_ : s.sys.mode = .run) :
    (decommission life op forced s).sys.mode = .run := by
  unfold decommission
  repeat' (with_reducible first | assumption | apply writeKeys_mode | apply qsInvalidate_mode | apply raise_mode | apply logLife_mode | apply closeAll_mode | dsimp only | split | intro)

theorem startRecord_mode (kind wakeBits : Nat) (s : State) (h_ : s.sys.mode = .run) :
    (startRecord kind wakeBits s).sys.mode = .run := by
  unfold startRecord
  repeat' (with_reducible first | assumption | apply log_mode | dsimp only | split | intro)

theorem stopSequence_mode (links : Bool) (s : State) (h_ : s.sys.mode = .run) :
    (stopSequence links s).sys.mode = .run := by
  unfold stopSequence
  repeat' (with_reducible first | assumption | apply startRecord_mode | dsimp only | split | intro)

theorem doReferenceStarted_mode (s : State) (h_ : s.sys.mode = .run) :
    (doReferenceStarted s).sys.mode = .run := by
  unfold doReferenceStarted
  repeat' (with_reducible first | assumption | dsimp only | split | intro)

theorem stepSelfTest_mode (r : StepResult) (s : State) (h_ : s.sys.mode = .run) :
    (stepSelfTest r s).sys.mode = .run := by
  unfold stepSelfTest
  repeat' (with_reducible first | assumption | apply stopSequence_mode | apply raiseIf_mode | dsimp only | split | intro)

theorem driveBoot_mode (s : State) (h_ : s.sys.mode = .run) :
    (driveBoot s).sys.mode = .run := by
  unfold driveBoot
  repeat' (with_reducible first | assumption | apply forEach_mode | apply State_setBank_mode | apply ktUpdate_mode | apply State_setKettle_mode | dsimp only | split | intro)

theorem bootRetention_mode (s : State) (h_ : s.sys.mode = .run) :
    (bootRetention s).sys.mode = .run := by
  rw [bootRetention]
  generalize s.nv.kept.stale s.etc = o
  exact h_

theorem stepCaddy_mode (r : StepResult) (s : State) (h_ : s.sys.mode = .run) :
    (stepCaddy r s).sys.mode = .run := by
  unfold stepCaddy
  repeat' (with_reducible first | assumption | apply newChallenge_mode | apply bootRetention_mode | apply driveBoot_mode | apply forEach_mode | apply groupReport_mode | apply fault_mode | apply vbakCheck_mode | apply stopSequence_mode | dsimp only | split | intro)

theorem bootEnvelope_mode (s : State) (h_ : s.sys.mode = .run) :
    (bootEnvelope s).sys.mode = .run := by
  unfold bootEnvelope
  repeat' (with_reducible first | assumption | apply raise_mode | dsimp only | split | intro)

theorem bootWear_mode (r : StepResult) (s : State) (h_ : s.sys.mode = .run) :
    (bootWear r s).sys.mode = .run := by
  unfold bootWear
  repeat' (with_reducible first | assumption | apply forEach_mode | apply State_setChan_mode | dsimp only | split | intro)

theorem holdRecord_mode (r : QsRecord) (s : State) (h_ : s.sys.mode = .run) :
    (holdRecord r s).sys.mode = .run := by
  unfold holdRecord
  repeat' (with_reducible first | assumption | dsimp only | split | intro)

theorem bootRecord_mode (s : State) (h_ : s.sys.mode = .run) :
    (bootRecord s).sys.mode = .run := by
  unfold bootRecord
  repeat' (with_reducible first | assumption | apply raise_mode | apply qsInvalidate_mode | apply holdRecord_mode | dsimp only | split | intro)

theorem bootMap_mode (s : State) (h_ : s.sys.mode = .run) :
    (bootMap s).sys.mode = .run := by
  unfold bootMap
  repeat' (with_reducible first | assumption | apply raise_mode | dsimp only | split | intro)

theorem stepEnvelope_mode (r : StepResult) (s : State) (h_ : s.sys.mode = .run) :
    (stepEnvelope r s).sys.mode = .run := by
  unfold stepEnvelope
  repeat' (with_reducible first | assumption | apply bootMap_mode | apply bootRecord_mode | apply bootWear_mode | apply bootEnvelope_mode | dsimp only | split | intro)

theorem logImage_mode (x : Slot) (event reason : Nat) (place : Nat × Nat) (s : State) (h_ : s.sys.mode = .run) :
    (logImage x event reason place s).sys.mode = .run := by
  unfold logImage
  repeat' (with_reducible first | assumption | apply log_mode | dsimp only | split | intro)

theorem refuseSlot_mode (x : Slot) (reason : Nat) (s : State) (h_ : s.sys.mode = .run) :
    (refuseSlot x reason s).sys.mode = .run := by
  unfold refuseSlot
  repeat' (with_reducible first | assumption | apply raise_mode | apply logImage_mode | dsimp only | split | intro)

theorem declareTasks_mode (tab : List Byte) (s : State) (h_ : s.sys.mode = .run) :
    (declareTasks tab s).sys.mode = .run := by
  unfold declareTasks
  repeat' (with_reducible first | assumption | apply State_setCtx_mode | apply foldl_mode | apply foldl1_mode | dsimp only | split | intro)

theorem endSequence_mode (phase : Nat) (s : State) (h_ : s.sys.mode = .run) :
    (endSequence phase s).sys.mode = .run := by
  unfold endSequence
  repeat' (with_reducible first | assumption | apply ktLimits_mode | dsimp only | split | intro)

theorem runImage_mode (x : Slot) (s : State) (h_ : s.sys.mode = .run) :
    (runImage x s).sys.mode = .run := by
  unfold runImage
  repeat' (with_reducible first | assumption | apply State_memWrite_mode | apply declareTasks_mode | apply endSequence_mode | apply forEach_mode | apply activate_mode | apply startRecord_mode | dsimp only | split | intro)

theorem runSelected_mode (s : State) (h_ : s.sys.mode = .run) :
    (runSelected s).sys.mode = .run := by
  unfold runSelected
  repeat' (with_reducible first | assumption | apply writeKeys_mode | apply runImage_mode | dsimp only | split | intro)

theorem runOther_mode (s : State) (h_ : s.sys.mode = .run) :
    (runOther s).sys.mode = .run := by
  unfold runOther
  repeat' (with_reducible first | assumption | apply runImage_mode | apply writeKeys_mode | dsimp only | split | intro)

theorem stepImage_mode (s : State) (h_ : s.sys.mode = .run) :
    (stepImage s).sys.mode = .run := by
  unfold stepImage
  repeat' (with_reducible first | assumption | apply runSelected_mode | apply refuseSlot_mode | apply runOther_mode | apply startRecord_mode | apply endSequence_mode | dsimp only | split | intro)

theorem dropBadImages_mode (s : State) (h_ : s.sys.mode = .run) :
    (dropBadImages s).sys.mode = .run := by
  unfold dropBadImages
  repeat' (with_reducible first | assumption | dsimp only | split | intro)

theorem doResetStepComplete_mode (r : StepResult) (s : State) (h_ : s.sys.mode = .run) :
    (doResetStepComplete r s).sys.mode = .run := by
  unfold doResetStepComplete
  repeat' (with_reducible first | assumption | apply stepSelfTest_mode | apply stepCaddy_mode | apply stepEnvelope_mode | apply stepImage_mode | apply dropBadImages_mode | dsimp only | split | intro)

theorem State_setInput_mode (s : State) (i : SupplyInput) (x : SupplyIn) (h_ : s.sys.mode = .run) :
    (Sys2Proof.Machine.State.setInput s i x).sys.mode = .run := by
  unfold State.setInput
  repeat' (with_reducible first | assumption | dsimp only | split | intro)

theorem logSupply_mode (old new : SupplyState) (steps us : Nat) (s : State) (h_ : s.sys.mode = .run) :
    (logSupply old new steps us s).sys.mode = .run := by
  unfold logSupply
  repeat' (with_reducible first | assumption | apply log_mode | dsimp only | split | intro)

theorem supplyTo_mode (new : SupplyState) (steps us : Nat) (s : State) (h_ : s.sys.mode = .run) :
    (supplyTo new steps us s).sys.mode = .run := by
  unfold supplyTo
  repeat' (with_reducible first | assumption | apply mirrorState_mode | apply raise_mode | apply logSupply_mode | dsimp only | split | intro)

theorem holdupSteps_mode (s : State) (h_ : s.sys.mode = .run) :
    (holdupSteps s).sys.mode = .run := by
  unfold holdupSteps
  repeat' (with_reducible first | assumption | apply endAll_mode | apply withdrawAll_mode | apply stopTests_mode | apply ebAllOff_mode | apply ktLimits_mode | apply startFlush_mode | apply closeAll_mode | dsimp only | split | intro)

theorem enterHoldup_mode (s : State) (h_ : s.sys.mode = .run) :
    (enterHoldup s).sys.mode = .run := by
  unfold enterHoldup
  repeat' (with_reducible first | assumption | apply supplyTo_mode | apply holdupSteps_mode | apply wake_mode | dsimp only | split | intro)

theorem chanDown_mode (k : Nat) (s : State) (h_ : s.sys.mode = .run) :
    (chanDown k s).sys.mode = .run := by
  unfold chanDown
  repeat' (with_reducible first | assumption | apply State_setChan_mode | dsimp only | split | intro)

theorem enterDown_mode (s : State) (h_ : s.sys.mode = .run) :
    (enterDown s).sys.mode = .run := by
  unfold enterDown
  repeat' (with_reducible first | assumption | apply forEach_mode | apply chanDown_mode | apply ebAllOff_mode | apply ktUpdate_mode | apply stopTests_mode | apply ktLimits_mode | dsimp only | split | intro)

theorem bothLost_mode (s : State) (h_ : s.sys.mode = .run) :
    (bothLost s).sys.mode = .run := by
  unfold bothLost
  repeat' (with_reducible first | assumption | apply enterHoldup_mode | apply enterDown_mode | dsimp only | split | intro)

theorem supplyRun_mode (new : SupplyState) (steps us : Nat) (s : State) (h_ : s.sys.mode = .run) :
    (supplyRun new steps us s).sys.mode = .run := by
  unfold supplyRun
  repeat' (with_reducible first | assumption | apply vbakCheck_mode | apply ktLimits_mode | apply wake_mode | apply supplyTo_mode | dsimp only | split | intro)

theorem fromMain_mode (s : State) (h_ : s.sys.mode = .run) :
    (fromMain s).sys.mode = .run := by
  unfold fromMain
  repeat' (with_reducible first | assumption | apply vbakCheck_mode | apply bothLost_mode | apply supplyRun_mode | dsimp only | split | intro)

theorem overvoltCheck_mode (i : SupplyInput) (before : Bool) (s : State) (h_ : s.sys.mode = .run) :
    (overvoltCheck i before s).sys.mode = .run := by
  unfold overvoltCheck
  repeat' (with_reducible first | assumption | apply logSupply_mode | apply faultOnset_mode | apply raise_mode | apply faultEnd_mode | dsimp only | split | intro)

theorem doSupplyThresholdCrossing_mode (i : SupplyInput) (th : Threshold) (up : Bool) (millivolt : Nat) (s : State) (h_ : s.sys.mode = .run) :
    (doSupplyThresholdCrossing i th up millivolt s).sys.mode = .run := by
  unfold doSupplyThresholdCrossing
  repeat' (with_reducible first | assumption | apply State_setInput_mode | apply fromMain_mode | dsimp only | split | intro)

theorem vbakJudged_mode (s : State) (h_ : s.sys.mode = .run) :
    (vbakJudged s).sys.mode = .run := by
  unfold vbakJudged
  repeat' (with_reducible first | assumption | apply vbakCheck_mode | dsimp only | split | intro)

theorem doSupplyDebounceExpiry_mode (s : State) (h_ : s.sys.mode = .run) :
    (doSupplyDebounceExpiry s).sys.mode = .run := by
  unfold doSupplyDebounceExpiry
  repeat' (with_reducible first | assumption | apply supplyRun_mode | dsimp only | split | intro)

theorem leaveHoldup_mode (new : SupplyState) (s : State) (h_ : s.sys.mode = .run) :
    (leaveHoldup new s).sys.mode = .run := by
  unfold leaveHoldup
  repeat' (with_reducible first | assumption | apply holdupSteps_mode | apply supplyRun_mode | dsimp only | split | intro)

theorem doHoldupRecoveryExpiry_mode (s : State) (h_ : s.sys.mode = .run) :
    (doHoldupRecoveryExpiry s).sys.mode = .run := by
  unfold doHoldupRecoveryExpiry
  repeat' (with_reducible first | assumption | apply leaveHoldup_mode | dsimp only | split | intro)

theorem doHoldupStoreExhausted_mode (s : State) (h_ : s.sys.mode = .run) :
    (doHoldupStoreExhausted s).sys.mode = .run := by
  unfold doHoldupStoreExhausted
  repeat' (with_reducible first | assumption | apply enterDown_mode | dsimp only | split | intro)

theorem doHoldupStoreCharged_mode (s : State) (h_ : s.sys.mode = .run) :
    (doHoldupStoreCharged s).sys.mode = .run := by
  unfold doHoldupStoreCharged
  repeat' (with_reducible first | assumption | dsimp only | split | intro)

theorem doEnableChange_mode (on : Bool) (s : State) (h_ : s.sys.mode = .run) :
    (doEnableChange on s).sys.mode = .run := by
  unfold doEnableChange
  repeat' (with_reducible first | assumption | apply raise_mode | apply ebAllOff_mode | apply endAll_mode | apply withdrawAll_mode | apply wake_mode | apply ktLimits_mode | dsimp only | split | intro)

theorem doClaimNChange_mode (on : Bool) (s : State) (h_ : s.sys.mode = .run) :
    (doClaimNChange on s).sys.mode = .run := by
  unfold doClaimNChange
  repeat' (with_reducible first | assumption | apply raise_mode | dsimp only | split | intro)

theorem thermalFault_mode (s : State) (h_ : s.sys.mode = .run) :
    (thermalFault s).sys.mode = .run := by
  unfold thermalFault
  repeat' (with_reducible first | assumption | apply faultOnset_mode | apply faultEnd_mode | dsimp only | split | intro)

theorem doThermalThreshold_mode (d : ThermalDomain) (celsius : Int) (s : State) (h_ : s.sys.mode = .run) :
    (doThermalThreshold d celsius s).sys.mode = .run := by
  unfold doThermalThreshold
  repeat' (with_reducible first | assumption | apply raiseIf_mode | apply thermalFault_mode | apply ktLimits_mode | dsimp only | split | intro)

theorem doThermalDeratingChange_mode (k : Nat) (tenths : Int) (s : State) (h_ : s.sys.mode = .run) :
    (doThermalDeratingChange k tenths s).sys.mode = .run := by
  unfold doThermalDeratingChange
  repeat' (with_reducible first | assumption | apply ktLimit_mode | apply raise_mode | dsimp only | split | intro)

theorem railShow_mode (v : Bool) (r : SensorRail) (s : State) (h_ : s.sys.mode = .run) :
    (railShow v r s).sys.mode = .run := by
  unfold railShow
  repeat' (with_reducible first | assumption | apply State_setWheel_mode | dsimp only | split | intro)

theorem doSensorSupplyFault_mode (r : SensorRail) (s : State) (h_ : s.sys.mode = .run) :
    (doSensorSupplyFault r s).sys.mode = .run := by
  unfold doSensorSupplyFault
  repeat' (with_reducible first | assumption | apply faultOnset_mode | apply raise_mode | apply railShow_mode | dsimp only | split | intro)

theorem doSensorSupplyRecovery_mode (r : SensorRail) (s : State) (h_ : s.sys.mode = .run) :
    (doSensorSupplyRecovery r s).sys.mode = .run := by
  unfold doSensorSupplyRecovery
  repeat' (with_reducible first | assumption | apply faultEnd_mode | apply raise_mode | apply railShow_mode | dsimp only | split | intro)

theorem doReferenceLoss_mode (s : State) (h_ : s.sys.mode = .run) :
    (doReferenceLoss s).sys.mode = .run := by
  unfold doReferenceLoss
  repeat' (with_reducible first | assumption | apply faultOnset_mode | apply raise_mode | dsimp only | split | intro)

theorem doHoldoverExpiry_mode (s : State) (h_ : s.sys.mode = .run) :
    (doHoldoverExpiry s).sys.mode = .run := by
  unfold doHoldoverExpiry
  repeat' (with_reducible first | assumption | apply forEach_mode | apply withdraw_mode | apply faultOnset_mode | apply raise_mode | dsimp only | split | intro)

theorem doReferenceReturn_mode (s : State) (h_ : s.sys.mode = .run) :
    (doReferenceReturn s).sys.mode = .run := by
  unfold doReferenceReturn
  repeat' (with_reducible first | assumption | apply faultEnd_mode | dsimp only | split | intro)

theorem relocked_mode (s : State) (h_ : s.sys.mode = .run) :
    (relocked s).sys.mode = .run := by
  unfold relocked
  repeat' (with_reducible first | assumption | apply faultEnd_mode | apply raise_mode | dsimp only | split | intro)

theorem doRelockComplete_mode (s : State) (h_ : s.sys.mode = .run) :
    (doRelockComplete s).sys.mode = .run := by
  unfold doRelockComplete
  repeat' (with_reducible first | assumption | apply relocked_mode | dsimp only | split | intro)

theorem refusePower_mode (r : Nat) (s : State) (h_ : s.sys.mode = .run) :
    (refusePower r s).sys.mode = .run := by
  unfold refusePower
  repeat' (with_reducible first | assumption | dsimp only | split | intro)

theorem backToRun_mode (s : State) (h_ : s.sys.mode = .run) :
    (backToRun s).sys.mode = .run := by
  unfold backToRun
  repeat' (with_reducible first | assumption | apply lanesResume_mode | apply ktLimits_mode | dsimp only | split | intro)

theorem watchdogWake_mode (s : State) (h_ : s.sys.mode = .run) :
    (watchdogWake s).sys.mode = .run := by
  unfold watchdogWake
  repeat' (with_reducible first | assumption | dsimp only | split | intro)

theorem doStandbyWake_mode (s : State) (h_ : s.sys.mode = .run) :
    (doStandbyWake s).sys.mode = .run := by
  unfold doStandbyWake
  repeat' (with_reducible first | assumption | apply backToRun_mode | apply watchdogWake_mode | dsimp only | split | intro)

theorem makeUpOne_mode (n : Nat) (s : State) (h_ : s.sys.mode = .run) :
    (makeUpOne n s).sys.mode = .run := by
  unfold makeUpOne
  repeat' (with_reducible first | assumption | apply timAct_mode | apply State_setTimer_mode | dsimp only | split | intro)

theorem markMadeUp_mode (old s : State) (h_ : s.sys.mode = .run) :
    (markMadeUp old s).sys.mode = .run := by
  unfold markMadeUp
  repeat' (with_reducible first | assumption | apply forEach_mode | apply State_setTimer_mode | dsimp only | split | intro)

theorem makeUp_mode (n : Nat) (s : State) (h_ : s.sys.mode = .run) :
    (makeUp n s).sys.mode = .run := by
  unfold makeUp
  repeat' (with_reducible first | assumption | apply State_setTimer_mode | apply markMadeUp_mode | apply makeUpOne_mode | dsimp only | split | intro)

theorem makeUpAll_mode (s : State) (h_ : s.sys.mode = .run) :
    (makeUpAll s).sys.mode = .run := by
  unfold makeUpAll
  repeat' (with_reducible first | assumption | apply forEach_mode | apply makeUp_mode | dsimp only | split | intro)

theorem closeLapsed_mode (s : State) (h_ : s.sys.mode = .run) :
    (closeLapsed s).sys.mode = .run := by
  unfold closeLapsed
  repeat' (with_reducible first | assumption | apply closeSession_mode | apply foldl_mode | apply foldl1_mode | dsimp only | split | intro)

theorem wakeUp_mode (s : State) (h_ : s.sys.mode = .run) :
    (wakeUp s).sys.mode = .run := by
  unfold wakeUp
  repeat' (with_reducible first | assumption | apply watchdogWake_mode | apply makeUpAll_mode | apply relocked_mode | apply closeLapsed_mode | apply backToRun_mode | apply startRecord_mode | apply holdupSteps_mode | dsimp only | split | intro)

theorem doSleepWake_mode (cause : Option (Fin 4)) (s : State) (h_ : s.sys.mode = .run) :
    (doSleepWake cause s).sys.mode = .run := by
  unfold doSleepWake
  repeat' (with_reducible first | assumption | apply wake_mode | apply qsInvalidate_mode | apply wakeUp_mode | dsimp only | split | intro)

theorem State_setTarget_mode (s : State) (g : IrqTarget) (x : IrcTarget) (h_ : s.sys.mode = .run) :
    (Sys2Proof.Machine.State.setTarget s g x).sys.mode = .run := by
  unfold State.setTarget
  repeat' (with_reducible first | assumption | dsimp only | split | intro)

theorem doIrqClaim_mode (g : IrqTarget) (src : Nat) (s : State) (h_ : s.sys.mode = .run) :
    (doIrqClaim g src s).sys.mode = .run := by
  unfold doIrqClaim
  repeat' (with_reducible first | assumption | apply State_setTarget_mode | dsimp only | split | intro)

theorem doIrqComplete_mode (g : IrqTarget) (src : Nat) (s : State) (h_ : s.sys.mode = .run) :
    (doIrqComplete g src s).sys.mode = .run := by
  unfold doIrqComplete
  repeat' (with_reducible first | assumption | apply State_setTarget_mode | dsimp only | split | intro)

theorem doModerationHoldEnd_mode (s : State) (h_ : s.sys.mode = .run) :
    (doModerationHoldEnd s).sys.mode = .run := by
  unfold doModerationHoldEnd
  repeat' (with_reducible first | assumption | dsimp only | split | intro)

theorem doGraceDeadline_mode (s : State) (h_ : s.sys.mode = .run) :
    (doGraceDeadline s).sys.mode = .run := by
  unfold doGraceDeadline
  repeat' (with_reducible first | assumption | apply graceDue_mode | dsimp only | split | intro)

theorem doFaultAcknowledge_mode (w : Nat) (mask : Word) (s : State) (h_ : s.sys.mode = .run) :
    (doFaultAcknowledge w mask s).sys.mode = .run := by
  unfold doFaultAcknowledge
  repeat' (with_reducible first | assumption | apply acknowledge_mode | apply graceDue_mode | dsimp only | split | intro)

theorem doWatchdogService_mode (v : BitVec 16) (s : State) (h_ : s.sys.mode = .run) :
    (doWatchdogService v s).sys.mode = .run := by
  unfold doWatchdogService
  repeat' (with_reducible first | assumption | apply fault_mode | dsimp only | split | intro)

theorem doWatchdogTimeout_mode (s : State) (h_ : s.sys.mode = .run) :
    (doWatchdogTimeout s).sys.mode = .run := by
  unfold doWatchdogTimeout
  repeat' (with_reducible first | assumption | apply fault_mode | apply wake_mode | dsimp only | split | intro)

theorem doWatchdogWarning_mode (s : State) (h_ : s.sys.mode = .run) :
    (doWatchdogWarning s).sys.mode = .run := by
  unfold doWatchdogWarning
  repeat' (with_reducible first | assumption | apply raise_mode | dsimp only | split | intro)

theorem writeWdtCfg_mode (v : Nat) (s : State) (h_ : s.sys.mode = .run) :
    (writeWdtCfg v s).sys.mode = .run := by
  unfold writeWdtCfg
  repeat' (with_reducible first | assumption | dsimp only | split | intro)

theorem doHandshakeStall_mode (s : State) (h_ : s.sys.mode = .run) :
    (doHandshakeStall s).sys.mode = .run := by
  unfold doHandshakeStall
  repeat' (with_reducible first | assumption | apply fault_mode | dsimp only | split | intro)

theorem doMgmtCoreStall_mode (s : State) (h_ : s.sys.mode = .run) :
    (doMgmtCoreStall s).sys.mode = .run := by
  unfold doMgmtCoreStall
  repeat' (with_reducible first | assumption | apply fault_mode | dsimp only | split | intro)

theorem placeFrame_mode (s : State) (h_ : s.sys.mode = .run) :
    (placeFrame s).sys.mode = .run := by
  unfold placeFrame
  repeat' (with_reducible first | assumption | apply raise_mode | dsimp only | split | intro)

theorem sendMsg_mode (l : Link) (mtag : Byte) (m : List Byte) (s : State) (h_ : s.sys.mode = .run) :
    (sendMsg l mtag m s).sys.mode = .run := by
  unfold sendMsg
  repeat' (with_reducible first | assumption | apply State_setLink_mode | apply placeFrame_mode | dsimp only | split | intro)

theorem linkError_mode (l : Link) (reason : Nat) (mtag : Byte) (s : State) (h_ : s.sys.mode = .run) :
    (linkError l reason mtag s).sys.mode = .run := by
  unfold linkError
  repeat' (with_reducible first | assumption | apply State_setLink_mode | apply sendMsg_mode | dsimp only | split | intro)

theorem counterUsed_mode (l : Link) (x : Session) (s : State) (h_ : s.sys.mode = .run) :
    (counterUsed l x s).sys.mode = .run := by
  unfold counterUsed
  repeat' (with_reducible first | assumption | apply State_setLink_mode | apply opened_mode | apply closeSession_mode | dsimp only | split | intro)

theorem sendSealed_mode (l : Link) (mtag : Byte) (x : Session) (inner : List Byte) (s : State) (h_ : s.sys.mode = .run) :
    (sendSealed l mtag x inner s).sys.mode = .run := by
  unfold sendSealed
  repeat' (with_reducible first | assumption | apply counterUsed_mode | apply sendMsg_mode | dsimp only | split | intro)

theorem respond_mode (l : Link) (before : State) (r : Request) (a : Reply) (h_ : a.state.sys.mode = .run) :
    (respond l before r a).sys.mode = .run := by
  unfold respond
  repeat' (with_reducible first | assumption | apply State_setLink_mode | apply sendMsg_mode | apply opened_mode | apply sendSealed_mode | dsimp only | split | intro)

theorem doMbxSend_mode (len : Nat) (s : State) (h_ : s.sys.mode = .run) :
    (doMbxSend len s).sys.mode = .run := by
  unfold doMbxSend
  repeat' (with_reducible first | assumption | apply linkError_mode | dsimp only | split | intro)

theorem doMbxRxDone_mode (s : State) (h_ : s.sys.mode = .run) :
    (doMbxRxDone s).sys.mode = .run := by
  unfold doMbxRxDone
  repeat' (with_reducible first | assumption | apply placeFrame_mode | dsimp only | split | intro)

theorem doMbxAbort_mode (s : State) (h_ : s.sys.mode = .run) :
    (doMbxAbort s).sys.mode = .run := by
  unfold doMbxAbort
  repeat' (with_reducible first | assumption | apply State_setLink_mode | dsimp only | split | intro)

theorem doCanBusOff_mode (second : Bool) (s : State) (h_ : s.sys.mode = .run) :
    (doCanBusOff second s).sys.mode = .run := by
  unfold doCanBusOff
  repeat' (with_reducible first | assumption | apply raise_mode | apply logLink_mode | apply State_setLink_mode | dsimp only | split | intro)

theorem doCanBusOffRecovery_mode (second : Bool) (s : State) (h_ : s.sys.mode = .run) :
    (doCanBusOffRecovery second s).sys.mode = .run := by
  unfold doCanBusOffRecovery
  repeat' (with_reducible first | assumption | apply raise_mode | apply State_setLink_mode | dsimp only | split | intro)

theorem doCanFrameTransmitted_mode (second : Bool) (s : State) (h_ : s.sys.mode = .run) :
    (doCanFrameTransmitted second s).sys.mode = .run := by
  unfold doCanFrameTransmitted
  repeat' (with_reducible first | assumption | apply State_setLink_mode | dsimp only | split | intro)

theorem answerPlain_mode (l : Link) (mtag : Byte) (code rtag status detail : Nat) (data : List Byte) (s : State) (h_ : s.sys.mode = .run) :
    (answerPlain l mtag code rtag status detail data s).sys.mode = .run := by
  unfold answerPlain
  repeat' (with_reducible first | assumption | apply sendMsg_mode | dsimp only | split | intro)

theorem answerSealed_mode (l : Link) (mtag : Byte) (code rtag status detail : Nat) (keep : Bool) (s : State) (h_ : s.sys.mode = .run) :
    (answerSealed l mtag code rtag status detail keep s).sys.mode = .run := by
  unfold answerSealed
  repeat' (with_reducible first | assumption | apply opened_mode | apply sendSealed_mode | dsimp only | split | intro)

theorem takeRequest_mode (l : Link) (mtag : Byte) (code rtag : Nat) (body : List Byte) (isSealed : Bool) (s : State) (h_ : s.sys.mode = .run) :
    (takeRequest l mtag code rtag body isSealed s).sys.mode = .run := by
  unfold takeRequest
  repeat' (with_reducible first | assumption | apply State_setLink_mode | dsimp only | split | intro)

theorem claimAttempt_mode (code : Nat) (s : State) (h_ : s.sys.mode = .run) :
    (claimAttempt code s).sys.mode = .run := by
  unfold claimAttempt
  repeat' (with_reducible first | assumption | apply newChallenge_mode | dsimp only | split | intro)

theorem plainIn_mode (l : Link) (mtag : Byte) (m : List Byte) (s : State) (h_ : s.sys.mode = .run) :
    (plainIn l mtag m s).sys.mode = .run := by
  unfold plainIn
  repeat' (with_reducible first | assumption | apply answerPlain_mode | apply claimAttempt_mode | apply plainFail_mode | apply takeRequest_mode | dsimp only | split | intro)

theorem innerIn_mode (l : Link) (mtag : Byte) (x : Session) (m : List Byte) (s : State) (h_ : s.sys.mode = .run) :
    (innerIn l mtag x m s).sys.mode = .run := by
  unfold innerIn
  repeat' (with_reducible first | assumption | apply answerSealed_mode | apply plainFail_mode | apply takeRequest_mode | dsimp only | split | intro)

theorem acceptSealed_mode (l : Link) (mtag : Byte) (x : Session) (ctr : Nat) (m : List Byte) (s : State) (h_ : s.sys.mode = .run) :
    (acceptSealed l mtag x ctr m s).sys.mode = .run := by
  unfold acceptSealed
  repeat' (with_reducible first | assumption | apply linkOk_mode | apply State_setLink_mode | apply opened_mode | apply closeSession_mode | apply answerSealed_mode | apply sendSealed_mode | apply innerIn_mode | dsimp only | split | intro)

theorem sealFailure_mode (l : Link) (x : Session) (s : State) (h_ : s.sys.mode = .run) :
    (sealFailure l x s).sys.mode = .run := by
  unfold sealFailure
  repeat' (with_reducible first | assumption | apply countedFail_mode | apply State_setLink_mode | apply opened_mode | apply closeSession_mode | dsimp only | split | intro)

theorem sealedIn_mode (l : Link) (mtag : Byte) (m : List Byte) (s : State) (h_ : s.sys.mode = .run) :
    (sealedIn l mtag m s).sys.mode = .run := by
  unfold sealedIn
  repeat' (with_reducible first | assumption | apply answerPlain_mode | apply opened_mode | apply sealFailure_mode | apply acceptSealed_mode | dsimp only | split | intro)

theorem messageIn_mode (l : Link) (mtag : Byte) (m : List Byte) (s : State) (h_ : s.sys.mode = .run) :
    (messageIn l mtag m s).sys.mode = .run := by
  unfold messageIn
  repeat' (with_reducible first | assumption | apply answerPlain_mode | apply claimAttempt_mode | apply sealedIn_mode | apply plainIn_mode | dsimp only | split | intro)

theorem extendMessage_mode (l : Link) (mtag : Byte) (seg : Nat) (last : Bool) (b : List Byte) (s : State) (h_ : s.sys.mode = .run) :
    (extendMessage l mtag seg last b s).sys.mode = .run := by
  unfold extendMessage
  repeat' (with_reducible first | assumption | apply linkError_mode | apply messageIn_mode | apply State_setLink_mode | dsimp only | split | intro)

theorem frameStep_mode (l : Link) (f : List Byte) (s : State) (h_ : s.sys.mode = .run) :
    (frameStep l f s).sys.mode = .run := by
  unfold frameStep
  repeat' (with_reducible first | assumption | apply linkError_mode | apply extendMessage_mode | dsimp only | split | intro)

theorem gapCheck_mode (l : Link) (s : State) (h_ : s.sys.mode = .run) :
    (gapCheck l s).sys.mode = .run := by
  unfold gapCheck
  repeat' (with_reducible first | assumption | apply linkError_mode | dsimp only | split | intro)

theorem doFrameGapTimeout_mode (l : Link) (s : State) (h_ : s.sys.mode = .run) :
    (doFrameGapTimeout l s).sys.mode = .run := by
  unfold doFrameGapTimeout
  repeat' (with_reducible first | assumption | apply gapCheck_mode | dsimp only | split | intro)

theorem frameIn_mode (l : Link) (f : List Byte) (s : State) (h_ : s.sys.mode = .run) :
    (frameIn l f s).sys.mode = .run := by
  unfold frameIn
  repeat' (with_reducible first | assumption | apply wake_mode | apply gapCheck_mode | apply doSessionOpenTimeout_mode | apply doSessionIdleTimeout_mode | apply frameStep_mode | apply linkError_mode | dsimp only | split | intro)

theorem doOhmacFrame_mode (src : FrameSource) (s : State) (h_ : s.sys.mode = .run) :
    (doOhmacFrame src s).sys.mode = .run := by
  unfold doOhmacFrame
  repeat' (with_reducible first | assumption | apply frameIn_mode | apply raise_mode | dsimp only | split | intro)

theorem refusal_mode (status detail : Nat) (s : State) (h_ : s.sys.mode = .run) :
    (refusal status detail s).state.sys.mode = .run := by
  unfold refusal
  repeat' (with_reducible first | assumption | dsimp only | split | intro)

theorem success_mode (data : List Byte) (s : State) (h_ : s.sys.mode = .run) :
    (success data s).state.sys.mode = .run := by
  unfold success
  repeat' (with_reducible first | assumption | dsimp only | split | intro)

theorem command_mode (l : Link) (code : Nat) (f : Request → State → Reply) (s : State) (h_f : ∀ i (s : State), s.sys.mode = .run → (f i s).state.sys.mode = .run) (h_ : s.sys.mode = .run) :
    (command l code f s).sys.mode = .run := by
  unfold command
  repeat' (with_reducible first | assumption | apply respond_mode | apply refusal_mode | apply h_f | dsimp only | split | intro)

theorem malformed_mode (l : Link) (offset : Nat) (s : State) (h_ : s.sys.mode = .run) :
    (malformed l offset s).state.sys.mode = .run := by
  unfold malformed
  repeat' (with_reducible first | assumption | apply refusal_mode | apply plainFail_mode | dsimp only | split | intro)

theorem sized_mode (l : Link) (n : Nat) (r : Request) (s : State) (k : Unit → Reply) (h_ : s.sys.mode = .run) (h : (k ()).state.sys.mode = .run) :
    (sized l n r s k).state.sys.mode = .run := by
  unfold sized
  repeat' (with_reducible first | assumption | apply malformed_mode | dsimp only | split | intro)

theorem doIdentity_mode (l : Link) (s : State) (h_ : s.sys.mode = .run) :
    (doIdentity l s).sys.mode = .run := by
  unfold doIdentity
  repeat' (with_reducible first | assumption | apply command_mode | apply sized_mode | apply success_mode | dsimp only | split | intro)

theorem doAttest_mode (l : Link) (s : State) (h_ : s.sys.mode = .run) :
    (doAttest l s).sys.mode = .run := by
  unfold doAttest
  repeat' (with_reducible first | assumption | apply command_mode | apply sized_mode | apply success_mode | apply signed1_mode | dsimp only | split | intro)

theorem claimDone_mode (l : Link) (stored : Bool) (b : List Byte) (s : State) (h_ : s.sys.mode = .run) :
    (claimDone l stored b s).state.sys.mode = .run := by
  unfold claimDone
  repeat' (with_reducible first | assumption | apply refusal_mode | apply writeFailed_mode | apply raise_mode | apply logLife_mode | apply linkOk_mode | apply writeKeys_mode | apply success_mode | apply signed1_mode | dsimp only | split | intro)

theorem claimReply_mode (l : Link) (stored : Bool) (r : Request) (s : State) (h_ : s.sys.mode = .run) :
    (claimReply l stored r s).state.sys.mode = .run := by
  unfold claimReply
  repeat' (with_reducible first | assumption | apply refusal_mode | apply malformed_mode | apply plainFail_mode | apply signatureFail_mode | apply claimDone_mode | dsimp only | split | intro)

theorem doClaim_mode (l : Link) (stored : Bool) (s : State) (h_ : s.sys.mode = .run) :
    (doClaim l stored s).sys.mode = .run := by
  unfold doClaim
  repeat' (with_reducible first | assumption | apply claimReply_mode | apply refusal_mode | apply respond_mode | apply newChallenge_mode | dsimp only | split | intro)

theorem ownerCheck_mode (l : Link) (b : List Byte) (s : State) (h_ : s.sys.mode = .run) (x_ : Reply) (hx_ : (ownerCheck l b s) = some x_) :
    x_.state.sys.mode = .run := by
  unfold ownerCheck at hx_
  (try dsimp only at hx_) <;> (repeat' split at hx_) <;> first | (cases hx_; repeat' (with_reducible first | assumption | apply refusal_mode | apply malformed_mode | apply signatureFail_mode | apply countedFail_mode | dsimp only | split | intro)) | (simp at hx_; done) | (simp_all; done)

theorem ownerOp_mode (l : Link) (op : Nat) (stored : Bool) (pre : List Byte → State → Option Reply) (act : List Byte → State → State) (s : State) (h_pre : ∀ i (s : State) r, pre i s = some r → s.sys.mode = .run → r.state.sys.mode = .run) (h_act : ∀ i (s : State), s.sys.mode = .run → (act i s).sys.mode = .run) (h_ : s.sys.mode = .run) :
    (ownerOp l op stored pre act s).sys.mode = .run := by
  unfold ownerOp
  split
  · exact h_
  · split
    · exact h_
    · apply command_mode _ _ _ _ _ h_
      intro r s h_
      dsimp only
      split
      · rename_i x hx
        exact or_mode _ _ (fun y hy => ownerCheck_mode _ _ _ h_ _ hy) (fun y hy => h_pre _ _ _ hy h_) _ hx
      · repeat' (with_reducible first | assumption | apply command_mode | apply refusal_mode | apply writeFailed_mode | apply linkOk_mode | apply writeKeys_mode | apply success_mode | apply h_act | dsimp only | split | intro)

theorem slotRange_mode (b : List Byte) (s : State) (h_ : s.sys.mode = .run) (x_ : Reply) (hx_ : (slotRange b s) = some x_) :
    x_.state.sys.mode = .run := by
  unfold slotRange at hx_
  (try dsimp only at hx_) <;> (repeat' split at hx_) <;> first | (cases hx_; repeat' (with_reducible first | assumption | apply refusal_mode | dsimp only | split | intro)) | (simp at hx_; done) | (simp_all; done)

theorem setOperator_mode (i : Nat) (c : Option (List Byte)) (s : State) (h_ : s.sys.mode = .run) :
    (setOperator i c s).sys.mode = .run := by
  unfold setOperator
  repeat' (with_reducible first | assumption | apply writeKeys_mode | dsimp only | split | intro)

theorem closeSlot_mode (i : Nat) (s : State) (h_ : s.sys.mode = .run) :
    (closeSlot i s).sys.mode = .run := by
  unfold closeSlot
  repeat' (with_reducible first | assumption | apply closeSession_mode | apply foldl_mode | apply foldl1_mode | dsimp only | split | intro)

theorem doEnrol_mode (l : Link) (stored : Bool) (s : State) (h_ : s.sys.mode = .run) :
    (doEnrol l stored s).sys.mode = .run := by
  unfold doEnrol
  refine ownerOp_mode _ _ _ _ _ _ (fun b s x hx h_ => ?_) (fun b s h_ => ?_) h_
  · dsimp only at hx
    split at hx
    · cases hx; repeat' (with_reducible first | assumption | apply ownerOp_mode | apply malformed_mode | apply refusal_mode | apply signatureFail_mode | apply logLife_mode | apply setOperator_mode | dsimp only | split | intro)
    · refine or_mode _ _ (fun y hy => slotRange_mode _ _ h_ _ hy) (fun y hy => ?_) _ hx
      split at hy
      · cases hy
      · cases hy; repeat' (with_reducible first | assumption | apply ownerOp_mode | apply malformed_mode | apply refusal_mode | apply signatureFail_mode | apply logLife_mode | apply setOperator_mode | dsimp only | split | intro)
  · repeat' (with_reducible first | assumption | apply ownerOp_mode | apply malformed_mode | apply refusal_mode | apply signatureFail_mode | apply logLife_mode | apply setOperator_mode | dsimp only | split | intro)

theorem doRevoke_mode (l : Link) (stored : Bool) (s : State) (h_ : s.sys.mode = .run) :
    (doRevoke l stored s).sys.mode = .run := by
  unfold doRevoke
  refine ownerOp_mode _ _ _ _ _ _ (fun b s x hx h => slotRange_mode _ _ h _ hx) (fun b s h_ => ?_) h_
  repeat' (with_reducible first | assumption | apply ownerOp_mode | apply closeSlot_mode | apply logLife_mode | apply setOperator_mode | dsimp only | split | intro)

theorem doTransfer_mode (l : Link) (stored : Bool) (s : State) (h_ : s.sys.mode = .run) :
    (doTransfer l stored s).sys.mode = .run := by
  unfold doTransfer
  refine ownerOp_mode _ _ _ _ _ _ (fun b s x hx h_ => ?_) (fun b s h_ => ?_) h_
  · split at hx
    · cases hx
    · cases hx; repeat' (with_reducible first | assumption | apply ownerOp_mode | apply refusal_mode | apply plainFail_mode | apply raise_mode | apply closeAll_mode | apply logLife_mode | apply writeKeys_mode | dsimp only | split | intro)
  · repeat' (with_reducible first | assumption | apply ownerOp_mode | apply refusal_mode | apply plainFail_mode | apply raise_mode | apply closeAll_mode | apply logLife_mode | apply writeKeys_mode | dsimp only | split | intro)

theorem needNosync_mode (s : State) (h_ : s.sys.mode = .run) (x_ : Reply) (hx_ : (needNosync s) = some x_) :
    x_.state.sys.mode = .run := by
  unfold needNosync at hx_
  (try dsimp only at hx_) <;> (repeat' split at hx_) <;> first | (cases hx_; repeat' (with_reducible first | assumption | apply refusal_mode | dsimp only | split | intro)) | (simp at hx_; done) | (simp_all; done)

theorem doDecommission_mode (l : Link) (stored : Bool) (s : State) (h_ : s.sys.mode = .run) :
    (doDecommission l stored s).sys.mode = .run := by
  unfold doDecommission
  refine ownerOp_mode _ _ _ _ _ _ (fun b s x hx h => needNosync_mode _ h _ hx) (fun b s h_ => ?_) h_
  repeat' (with_reducible first | assumption | apply ownerOp_mode | apply decommission_mode | dsimp only | split | intro)

theorem doRetire_mode (l : Link) (stored : Bool) (s : State) (h_ : s.sys.mode = .run) :
    (doRetire l stored s).sys.mode = .run := by
  unfold doRetire
  refine ownerOp_mode _ _ _ _ _ _ (fun b s x hx h => needNosync_mode _ h _ hx) (fun b s h_ => ?_) h_
  repeat' (with_reducible first | assumption | apply ownerOp_mode | apply decommission_mode | dsimp only | split | intro)

theorem armRelease_mode (s : State) (h_ : s.sys.mode = .run) :
    (armRelease s).sys.mode = .run := by
  unfold armRelease
  repeat' (with_reducible first | assumption | apply raise_mode | dsimp only | split | intro)

theorem doForceRelease_mode (l : Link) (s : State) (h_ : s.sys.mode = .run) :
    (doForceRelease l s).sys.mode = .run := by
  unfold doForceRelease
  repeat' (with_reducible first | assumption | apply command_mode | apply sized_mode | apply refusal_mode | apply armRelease_mode | apply success_mode | dsimp only | split | intro)

theorem doReleaseReminder_mode (s : State) (h_ : s.sys.mode = .run) :
    (doReleaseReminder s).sys.mode = .run := by
  unfold doReleaseReminder
  repeat' (with_reducible first | assumption | apply raiseIf_mode | apply log_mode | dsimp only | split | intro)

theorem doReleaseCountdownExpiry_mode (s : State) (h_ : s.sys.mode = .run) :
    (doReleaseCountdownExpiry s).sys.mode = .run := by
  unfold doReleaseCountdownExpiry
  repeat' (with_reducible first | assumption | apply decommission_mode | dsimp only | split | intro)

theorem doChallengeExpiry_mode (s : State) (h_ : s.sys.mode = .run) :
    (doChallengeExpiry s).sys.mode = .run := by
  unfold doChallengeExpiry
  repeat' (with_reducible first | assumption | apply newChallenge_mode | dsimp only | split | intro)

theorem doEntropyHealthFailure_mode (s : State) (h_ : s.sys.mode = .run) :
    (doEntropyHealthFailure s).sys.mode = .run := by
  unfold doEntropyHealthFailure
  repeat' (with_reducible first | assumption | apply raise_mode | dsimp only | split | intro)

theorem doEntropyHealthRecovery_mode (s : State) (h_ : s.sys.mode = .run) :
    (doEntropyHealthRecovery s).sys.mode = .run := by
  unfold doEntropyHealthRecovery
  repeat' (with_reducible first | assumption | dsimp only | split | intro)

theorem envRefused_mode (l : Link) (x : Nat × Nat) (s : State) (h_ : s.sys.mode = .run) :
    (envRefused l x s).state.sys.mode = .run := by
  unfold envRefused
  repeat' (with_reducible first | assumption | apply malformed_mode | apply refusal_mode | apply signatureFail_mode | apply countedFail_mode | dsimp only | split | intro)

theorem doEnvInstall_mode (l : Link) (s : State) (h_ : s.sys.mode = .run) :
    (doEnvInstall l s).sys.mode = .run := by
  unfold doEnvInstall
  repeat' (with_reducible first | assumption | apply linkOk_mode | apply command_mode | apply refusal_mode | apply envRefused_mode | dsimp only | split | intro)

theorem storeEnvelope_mode (e : List Byte) (s : State) (h_ : s.sys.mode = .run) :
    (storeEnvelope e s).sys.mode = .run := by
  unfold storeEnvelope
  repeat' (with_reducible first | assumption | apply regionWritten_mode | dsimp only | split | intro)

theorem envelopeStored_mode (e : List Byte) (s : State) (h_ : s.sys.mode = .run) :
    (envelopeStored e s).sys.mode = .run := by
  unfold envelopeStored
  repeat' (with_reducible first | assumption | apply raise_mode | apply storeEnvelope_mode | apply envelopeBoundary_mode | dsimp only | split | intro)

theorem envAnswer_mode (l : Link) (before : State) (a : Reply) (h_ : a.state.sys.mode = .run) :
    (envAnswer l before a).sys.mode = .run := by
  unfold envAnswer
  repeat' (with_reducible first | assumption | apply respond_mode | dsimp only | split | intro)

theorem doEnvelopeWriteComplete_mode (ok : Bool) (s : State) (h_ : s.sys.mode = .run) :
    (doEnvelopeWriteComplete ok s).sys.mode = .run := by
  unfold doEnvelopeWriteComplete
  repeat' (with_reducible first | assumption | apply envAnswer_mode | apply refusal_mode | apply writeFailed_mode | apply envRefused_mode | apply envelopeStored_mode | apply success_mode | dsimp only | split | intro)

theorem doEnvelopeCopyError_mode (s : State) (h_ : s.sys.mode = .run) :
    (doEnvelopeCopyError s).sys.mode = .run := by
  unfold doEnvelopeCopyError
  repeat' (with_reducible first | assumption | apply envCopyError_mode | dsimp only | split | intro)

theorem doEnvelopeReloadComplete_mode (s : State) (h_ : s.sys.mode = .run) :
    (doEnvelopeReloadComplete s).sys.mode = .run := by
  unfold doEnvelopeReloadComplete
  repeat' (with_reducible first | assumption | apply raise_mode | dsimp only | split | intro)

theorem openWith_mode (l : Link) (b : List Byte) (d : Word × Nat) (s : State) (h_ : s.sys.mode = .run) :
    (openWith l b d s).state.sys.mode = .run := by
  unfold openWith
  repeat' (with_reducible first | assumption | apply success_mode | apply signed1_mode | apply State_setLink_mode | dsimp only | split | intro)

theorem openTwo_mode (l : Link) (b : List Byte) (s : State) (h_ : s.sys.mode = .run) :
    (openTwo l b s).state.sys.mode = .run := by
  unfold openTwo
  repeat' (with_reducible first | assumption | apply openWith_mode | apply refusal_mode | apply entropyUsed_mode | dsimp only | split | intro)

theorem doOpen1_mode (l : Link) (s : State) (h_ : s.sys.mode = .run) :
    (doOpen1 l s).sys.mode = .run := by
  unfold doOpen1
  repeat' (with_reducible first | assumption | apply command_mode | apply closeSession_mode | apply refusal_mode | apply malformed_mode | apply openTwo_mode | apply signatureFail_mode | dsimp only | split | intro)

theorem opened_mode (l : Link) (before : State) (r : Request) (o : Opening) (c : List Byte) (s : State) (h_ : s.sys.mode = .run) :
    (opened l before r o c s).sys.mode = .run := by
  unfold opened
  repeat' (with_reducible first | assumption | apply raise_mode | apply logLink_mode | apply linkOk_mode | apply State_setLink_mode | apply respond_mode | apply success_mode | dsimp only | split | intro)

theorem openFails_mode (l : Link) (status detail : Nat) (s : State) (h_ : s.sys.mode = .run) :
    (openFails l status detail s).state.sys.mode = .run := by
  unfold openFails
  repeat' (with_reducible first | assumption | apply State_setLink_mode | apply refusal_mode | apply plainFail_mode | apply signatureFail_mode | dsimp only | split | intro)

theorem doOpen3_mode (l : Link) (s : State) (h_ : s.sys.mode = .run) :
    (doOpen3 l s).sys.mode = .run := by
  unfold doOpen3
  repeat' (with_reducible first | assumption | apply respond_mode | apply openFails_mode | apply opened_mode | apply refusal_mode | dsimp only | split | intro)

theorem doClose_mode (l : Link) (s : State) (h_ : s.sys.mode = .run) :
    (doClose l s).sys.mode = .run := by
  unfold doClose
  repeat' (with_reducible first | assumption | apply command_mode | apply sized_mode | apply success_mode | apply closeSession_mode | dsimp only | split | intro)

theorem stageChunk_mode (l : Link) (a : Nat) (data : List Byte) (s : State) (h_ : s.sys.mode = .run) :
    (stageChunk l a data s).state.sys.mode = .run := by
  unfold stageChunk
  repeat' (with_reducible first | assumption | apply success_mode | dsimp only | split | intro)

theorem doCfgStage_mode (l : Link) (s : State) (h_ : s.sys.mode = .run) :
    (doCfgStage l s).sys.mode = .run := by
  unfold doCfgStage
  repeat' (with_reducible first | assumption | apply command_mode | apply refusal_mode | apply malformed_mode | apply stageChunk_mode | dsimp only | split | intro)

theorem doCfgDiscard_mode (l : Link) (s : State) (h_ : s.sys.mode = .run) :
    (doCfgDiscard l s).sys.mode = .run := by
  unfold doCfgDiscard
  repeat' (with_reducible first | assumption | apply command_mode | apply refusal_mode | apply sized_mode | apply success_mode | dsimp only | split | intro)

theorem commitDone_mode (b : Block) (s : State) (h_ : s.sys.mode = .run) :
    (commitDone b s).state.sys.mode = .run := by
  unfold commitDone
  repeat' (with_reducible first | assumption | apply applyPending_mode | apply success_mode | dsimp only | split | intro)

theorem doCfgCommit_mode (l : Link) (s : State) (h_ : s.sys.mode = .run) :
    (doCfgCommit l s).sys.mode = .run := by
  unfold doCfgCommit
  repeat' (with_reducible first | assumption | apply command_mode | apply refusal_mode | apply sized_mode | apply commitDone_mode | dsimp only | split | intro)

theorem doConfigStoreComplete_mode (ok : Bool) (s : State) (h_ : s.sys.mode = .run) :
    (doConfigStoreComplete ok s).sys.mode = .run := by
  unfold doConfigStoreComplete
  repeat' (with_reducible first | assumption | apply regionWritten_mode | apply writeFailed_mode | dsimp only | split | intro)

theorem doCfgRead_mode (l : Link) (s : State) (h_ : s.sys.mode = .run) :
    (doCfgRead l s).sys.mode = .run := by
  unfold doCfgRead
  repeat' (with_reducible first | assumption | apply command_mode | apply sized_mode | apply malformed_mode | apply refusal_mode | apply success_mode | dsimp only | split | intro)

theorem doCfgStatus_mode (l : Link) (s : State) (h_ : s.sys.mode = .run) :
    (doCfgStatus l s).sys.mode = .run := by
  unfold doCfgStatus
  repeat' (with_reducible first | assumption | apply command_mode | apply sized_mode | apply success_mode | dsimp only | split | intro)

theorem doPing_mode (l : Link) (s : State) (h_ : s.sys.mode = .run) :
    (doPing l s).sys.mode = .run := by
  unfold doPing
  repeat' (with_reducible first | assumption | apply command_mode | apply sized_mode | apply success_mode | dsimp only | split | intro)

theorem readSeq_mode (n a : Nat) (s : State) (h_ : s.sys.mode = .run) : (readSeq n a s).2.sys.mode = .run := by
  induction n generalizing a s with
  | zero => exact h_
  | succ n ih => exact ih _ _ (regLatch_mode _ _ _ h_)
theorem doReadRegs_mode (l : Link) (s : State) (h_ : s.sys.mode = .run) :
    (doReadRegs l s).sys.mode = .run := by
  unfold doReadRegs
  repeat' (with_reducible first | assumption | apply command_mode | apply sized_mode | apply malformed_mode | apply refusal_mode | apply success_mode | apply readSeq_mode | dsimp only | split | intro)

theorem doCycleRecord_mode (l : Link) (s : State) (h_ : s.sys.mode = .run) :
    (doCycleRecord l s).sys.mode = .run := by
  unfold doCycleRecord
  repeat' (with_reducible first | assumption | apply command_mode | apply sized_mode | apply refusal_mode | apply success_mode | apply signed1_mode | dsimp only | split | intro)

theorem doTelemetry_mode (l : Link) (s : State) (h_ : s.sys.mode = .run) :
    (doTelemetry l s).sys.mode = .run := by
  unfold doTelemetry
  repeat' (with_reducible first | assumption | apply command_mode | apply sized_mode | apply success_mode | dsimp only | split | intro)

theorem doLogRead_mode (l : Link) (s : State) (h_ : s.sys.mode = .run) :
    (doLogRead l s).sys.mode = .run := by
  unfold doLogRead
  repeat' (with_reducible first | assumption | apply command_mode | apply sized_mode | apply malformed_mode | apply refusal_mode | apply success_mode | dsimp only | split | intro)

theorem writeMailbox_mode (q first : Nat) (w : List Word) (s : State) (h_ : s.sys.mode = .run) :
    (writeMailbox q first w s).sys.mode = .run := by
  unfold writeMailbox
  repeat' (with_reducible first | assumption | apply latchSq_mode | apply State_setSq_mode | dsimp only | split | intro)

theorem doTargets_mode (l : Link) (s : State) (h_ : s.sys.mode = .run) :
    (doTargets l s).sys.mode = .run := by
  unfold doTargets
  repeat' (with_reducible first | assumption | apply command_mode | apply refusal_mode | apply malformed_mode | apply writeMailbox_mode | apply success_mode | dsimp only | split | intro)

theorem doImgBegin_mode (l : Link) (s : State) (h_ : s.sys.mode = .run) :
    (doImgBegin l s).sys.mode = .run := by
  unfold doImgBegin
  repeat' (with_reducible first | assumption | apply command_mode | apply refusal_mode | apply sized_mode | apply malformed_mode | apply setImage_mode | apply success_mode | dsimp only | split | intro)

theorem doImgData_mode (l : Link) (s : State) (h_ : s.sys.mode = .run) :
    (doImgData l s).sys.mode = .run := by
  unfold doImgData
  repeat' (with_reducible first | assumption | apply command_mode | apply refusal_mode | apply malformed_mode | apply blocksWritten_mode | apply setImage_mode | apply success_mode | dsimp only | split | intro)

theorem imageRefused_mode (l : Link) (x : Slot) (st : Nat) (s : State) (h_ : s.sys.mode = .run) :
    (imageRefused l x st s).sys.mode = .run := by
  unfold imageRefused
  repeat' (with_reducible first | assumption | apply raise_mode | apply logImage_mode | apply setImage_mode | apply plainFail_mode | apply signatureFail_mode | apply countedFail_mode | dsimp only | split | intro)

theorem doImgEnd_mode (l : Link) (s : State) (h_ : s.sys.mode = .run) :
    (doImgEnd l s).sys.mode = .run := by
  unfold doImgEnd
  repeat' (with_reducible first | assumption | apply command_mode | apply refusal_mode | apply sized_mode | apply imageRefused_mode | apply linkOk_mode | apply setImage_mode | apply success_mode | apply raise_mode | apply logImage_mode | dsimp only | split | intro)

theorem doImgSelect_mode (l : Link) (stored : Bool) (s : State) (h_ : s.sys.mode = .run) :
    (doImgSelect l stored s).sys.mode = .run := by
  unfold doImgSelect
  repeat' (with_reducible first | assumption | apply command_mode | apply refusal_mode | apply sized_mode | apply malformed_mode | apply writeFailed_mode | apply success_mode | apply writeKeys_mode | dsimp only | split | intro)

theorem doImgConfirm_mode (l : Link) (stored : Bool) (s : State) (h_ : s.sys.mode = .run) :
    (doImgConfirm l stored s).sys.mode = .run := by
  unfold doImgConfirm
  repeat' (with_reducible first | assumption | apply command_mode | apply sized_mode | apply refusal_mode | apply writeFailed_mode | apply writeKeys_mode | apply success_mode | apply raise_mode | apply logImage_mode | dsimp only | split | intro)

theorem doReset_mode (l : Link) (s : State) (h_ : s.sys.mode = .run) :
    (doReset l s).sys.mode = .run := by
  unfold doReset
  repeat' (with_reducible first | assumption | apply command_mode | apply refusal_mode | apply sized_mode | apply malformed_mode | apply success_mode | dsimp only | split | intro)

theorem shotReply_mode (a : Answer) (s : State) (h_ : s.sys.mode = .run) :
    (shotReply a s).state.sys.mode = .run := by
  unfold shotReply
  repeat' (with_reducible first | assumption | apply success_mode | apply refusal_mode | dsimp only | split | intro)

theorem doTestShot_mode (l : Link) (s : State) (h_ : s.sys.mode = .run) :
    (doTestShot l s).sys.mode = .run := by
  unfold doTestShot
  repeat' (with_reducible first | assumption | apply command_mode | apply refusal_mode | apply sized_mode | apply malformed_mode | apply insertEvent_mode | apply served_mode | apply shotReply_mode | dsimp only | split | intro)

theorem diagRun_mode (l : Link) (kind : Nat) (k : BitVec 64 → State → State) (s : State) (h_k : ∀ i (s : State), s.sys.mode = .run → (k i s).sys.mode = .run) (h_ : s.sys.mode = .run) :
    (diagRun l kind k s).sys.mode = .run := by
  unfold diagRun
  repeat' (with_reducible first | assumption | apply command_mode | apply refusal_mode | apply success_mode | apply h_k | dsimp only | split | intro)

theorem doDiagRunOffTest_mode (l : Link) (s : State) (h_ : s.sys.mode = .run) :
    (doDiagRunOffTest l s).sys.mode = .run := by
  unfold doDiagRunOffTest
  repeat' (with_reducible first | assumption | apply diagRun_mode | apply diagOffTest_mode | dsimp only | split | intro)

theorem doDiagRunClear_mode (l : Link) (s : State) (h_ : s.sys.mode = .run) :
    (doDiagRunClear l s).sys.mode = .run := by
  unfold doDiagRunClear
  repeat' (with_reducible first | assumption | apply diagRun_mode | apply diagClear_mode | dsimp only | split | intro)

theorem writeTimCtl_mode (n v : Nat) (s : State) (h_ : s.sys.mode = .run) :
    (writeTimCtl n v s).sys.mode = .run := by
  unfold writeTimCtl
  repeat' (with_reducible first | assumption | apply State_setTimer_mode | apply doTimerStop_mode | apply doTimerStart_mode | dsimp only | split | intro)

theorem writeTimCapcfg_mode (n v : Nat) (s : State) (h_ : s.sys.mode = .run) :
    (writeTimCapcfg n v s).sys.mode = .run := by
  unfold writeTimCapcfg
  repeat' (with_reducible first | assumption | apply State_setTimer_mode | dsimp only | split | intro)

theorem writeTimStat_mode (n v : Nat) (s : State) (h_ : s.sys.mode = .run) :
    (writeTimStat n v s).sys.mode = .run := by
  unfold writeTimStat
  repeat' (with_reducible first | assumption | apply State_setTimer_mode | dsimp only | split | intro)

theorem writeTimer_mode (n o : Nat) (v : Word) (s : State) (h_ : s.sys.mode = .run) :
    (writeTimer n o v s).sys.mode = .run := by
  unfold writeTimer
  repeat' (with_reducible first | assumption | apply writeTimCtl_mode | apply doTimerTargetWrite_mode | apply writeTimCapcfg_mode | apply writeTimStat_mode | apply State_setTimer_mode | dsimp only | split | intro)

theorem writeEbCtl_mode (n v : Nat) (s : State) (h_ : s.sys.mode = .run) :
    (writeEbCtl n v s).sys.mode = .run := by
  unfold writeEbCtl
  repeat' (with_reducible first | assumption | apply State_setEb_mode | apply ebSetMask_mode | apply doEbLoadArm_mode | apply doEbEnable_mode | apply doEbDisable_mode | dsimp only | split | intro)

theorem writeEbStat_mode (n v : Nat) (s : State) (h_ : s.sys.mode = .run) :
    (writeEbStat n v s).sys.mode = .run := by
  unfold writeEbStat
  repeat' (with_reducible first | assumption | apply State_setEb_mode | apply doEbTripClear_mode | dsimp only | split | intro)

theorem writeEb_mode (n o : Nat) (v : Word) (s : State) (h_ : s.sys.mode = .run) :
    (writeEb n o v s).sys.mode = .run := by
  unfold writeEb
  repeat' (with_reducible first | assumption | apply writeEbCtl_mode | apply doEbWrite_mode | apply ebShadow_mode | apply State_setEb_mode | apply writeEbStat_mode | dsimp only | split | intro)

theorem writeKc_mode (k o : Nat) (v : Word) (s : State) (h_ : s.sys.mode = .run) :
    (writeKc k o v s).sys.mode = .run := by
  unfold writeKc
  repeat' (with_reducible first | assumption | apply State_setKc_mode | dsimp only | split | intro)

theorem writePwm_mode (a : Nat) (v : Word) (s : State) (h_ : s.sys.mode = .run) :
    (writePwm a v s).sys.mode = .run := by
  unfold writePwm
  repeat' (with_reducible first | assumption | apply doPwmGlbLoad_mode | apply doPwmGlbStart_mode | apply writeEb_mode | apply writeKc_mode | dsimp only | split | intro)

theorem writeTim_mode (a : Nat) (v : Word) (s : State) (h_ : s.sys.mode = .run) :
    (writeTim a v s).sys.mode = .run := by
  unfold writeTim
  repeat' (with_reducible first | assumption | apply doTimGlbStart_mode | apply writeTimer_mode | dsimp only | split | intro)

theorem writeDch_mode (k o : Nat) (v : Word) (s : State) (h_ : s.sys.mode = .run) :
    (writeDch k o v s).sys.mode = .run := by
  unfold writeDch
  repeat' (with_reducible first | assumption | apply State_setDch_mode | dsimp only | split | intro)

theorem writeLevel_mode (w : Nat) (v : Word) (s : State) (h_ : s.sys.mode = .run) :
    (writeLevel w v s).sys.mode = .run := by
  unfold writeLevel
  repeat' (with_reducible first | assumption | dsimp only | split | intro)

theorem writeCc_mode (g : IrqTarget) (v : Nat) (s : State) (h_ : s.sys.mode = .run) :
    (writeCc g v s).sys.mode = .run := by
  unfold writeCc
  repeat' (with_reducible first | assumption | apply doIrqComplete_mode | apply doIrqClaim_mode | dsimp only | split | intro)

theorem writeMod_mode (v : Nat) (s : State) (h_ : s.sys.mode = .run) :
    (writeMod v s).sys.mode = .run := by
  unfold writeMod
  repeat' (with_reducible first | assumption | dsimp only | split | intro)

theorem writeTarget_mode (g : IrqTarget) (o : Nat) (v : Word) (s : State) (h_ : s.sys.mode = .run) (x_ : State) (hx_ : (writeTarget g o v s) = some x_) :
    x_.sys.mode = .run := by
  unfold writeTarget at hx_
  (try dsimp only at hx_) <;> (repeat' split at hx_) <;> first | (cases hx_; repeat' (with_reducible first | assumption | apply State_setTarget_mode | apply writeCc_mode | dsimp only | split | intro)) | (simp at hx_; done) | (simp_all; done)

theorem hostRefused_mode (s : State) (h_ : s.sys.mode = .run) :
    (hostRefused s).sys.mode = .run := by
  unfold hostRefused
  repeat' (with_reducible first | assumption | dsimp only | split | intro)

theorem writeTxBuf_mode (a : Nat) (v : Word) (s : State) (h_ : s.sys.mode = .run) :
    (writeTxBuf a v s).sys.mode = .run := by
  unfold writeTxBuf
  repeat' (with_reducible first | assumption | apply hostRefused_mode | dsimp only | split | intro)

theorem writeMbxCtl_mode (v : Nat) (s : State) (h_ : s.sys.mode = .run) :
    (writeMbxCtl v s).sys.mode = .run := by
  unfold writeMbxCtl
  repeat' (with_reducible first | assumption | apply doMbxAbort_mode | apply doMbxRxDone_mode | apply doMbxSend_mode | dsimp only | split | intro)

theorem hostWrite_mode (a : Nat) (v : Word) (s : State) (h_ : s.sys.mode = .run) :
    (hostWrite a v s).sys.mode = .run := by
  unfold hostWrite
  repeat' (with_reducible first | assumption | apply getD_mode | apply writeMbxCtl_mode | apply writeTxBuf_mode | apply writeMod_mode | apply hostRefused_mode | split)
  exact fun x hx => writeTarget_mode _ _ _ _ h_ _ hx

theorem setReg_mode (i d : Nat) (v : Word) (s : State) (h_ : s.sys.mode = .run) :
    (setReg i d v s).sys.mode = .run := by
  unfold setReg
  repeat' (with_reducible first | assumption | apply State_setCtx_mode | dsimp only | split | intro)

theorem setPc_mode (i : Nat) (p : BitVec 16) (s : State) (h_ : s.sys.mode = .run) :
    (setPc i p s).sys.mode = .run := by
  unfold setPc
  repeat' (with_reducible first | assumption | apply State_setCtx_mode | dsimp only | split | intro)

theorem nextPc_mode (i : Nat) (s : State) (h_ : s.sys.mode = .run) :
    (nextPc i s).sys.mode = .run := by
  unfold nextPc
  repeat' (with_reducible first | assumption | apply setPc_mode | dsimp only | split | intro)

theorem writeD_mode (i d : Nat) (v : Word) (s : State) (h_ : s.sys.mode = .run) :
    (writeD i d v s).sys.mode = .run := by
  unfold writeD
  repeat' (with_reducible first | assumption | apply nextPc_mode | apply setReg_mode | dsimp only | split | intro)

theorem setQ_mode (i : Nat) (b : Bool) (s : State) (h_ : s.sys.mode = .run) :
    (setQ i b s).sys.mode = .run := by
  unfold setQ
  repeat' (with_reducible first | assumption | apply State_setCtx_mode | dsimp only | split | intro)

theorem haltTask_mode (i by' : Nat) (s : State) (h_ : s.sys.mode = .run) :
    (haltTask i by' s).sys.mode = .run := by
  unfold haltTask
  repeat' (with_reducible first | assumption | apply fault_mode | apply State_setCtx_mode | apply haltCancel_mode | dsimp only | split | intro)

theorem logTask_mode (i cause : Nat) (pc : BitVec 16) (s : State) (h_ : s.sys.mode = .run) :
    (logTask i cause pc s).sys.mode = .run := by
  unfold logTask
  repeat' (with_reducible first | assumption | apply log_mode | dsimp only | split | intro)

theorem countSegFault_mode (s : State) (h_ : s.sys.mode = .run) :
    (countSegFault s).sys.mode = .run := by
  unfold countSegFault
  repeat' (with_reducible first | assumption | dsimp only | split | intro)

theorem takeFault_mode (i cause : Nat) (faddr : Word) (s : State) (h_ : s.sys.mode = .run) :
    (takeFault i cause faddr s).sys.mode = .run := by
  unfold takeFault
  repeat' (with_reducible first | assumption | apply countSegFault_mode | apply logTask_mode | apply State_setCtx_mode | apply haltTask_mode | dsimp only | split | intro)

theorem budgetFault_mode (i : Nat) (s : State) (h_ : s.sys.mode = .run) :
    (budgetFault i s).sys.mode = .run := by
  unfold budgetFault
  repeat' (with_reducible first | assumption | apply takeFault_mode | dsimp only | split | intro)

theorem doBudgetExhausted_mode (q p : Nat) (s : State) (h_ : s.sys.mode = .run) :
    (doBudgetExhausted q p s).sys.mode = .run := by
  unfold doBudgetExhausted
  repeat' (with_reducible first | assumption | apply budgetFault_mode | dsimp only | split | intro)

theorem toReady_mode (j : Nat) (s : State) (h_ : s.sys.mode = .run) :
    (toReady j s).sys.mode = .run := by
  unfold toReady
  repeat' (with_reducible first | assumption | apply State_setCtx_mode | dsimp only | split | intro)

theorem occupy_mode (i : Nat) (s : State) (h_ : s.sys.mode = .run) :
    (occupy i s).sys.mode = .run := by
  unfold occupy
  repeat' (with_reducible first | assumption | apply forEach_mode | apply toReady_mode | apply State_setCtx_mode | apply State_setSq_mode | dsimp only | split | intro)

theorem atBoundary_mode (q : Nat) (s : State) (h_ : s.sys.mode = .run) :
    (atBoundary q s).sys.mode = .run := by
  unfold atBoundary
  repeat' (with_reducible first | assumption | apply forEach_mode | apply budgetFault_mode | dsimp only | split | intro)

theorem Done_finish_mode (i : Nat) (d : Done) (h_ : d.st.sys.mode = .run) : (d.finish i).sys.mode = .run := by
  cases d <;> simp only [Done.finish, Done.st_next, Done.st_fault] at h_ ⊢ <;> repeat' (with_reducible first | assumption | apply atBoundary_mode | apply occupy_mode | apply eccRead_mode | apply takeFault_mode | apply eccFound_mode | apply h_run | dsimp only | split | intro)
theorem issueWith_mode (n : Issue) (run : Nat → Word → State → Option Done) (s0 : State) (h_run : ∀ i w (s : State) d, run i w s = some d → s.sys.mode = .run → d.st.sys.mode = .run) (h_ : s0.sys.mode = .run) :
    (issueWith n run s0).sys.mode = .run := by
  unfold issueWith
  dsimp only
  split
  · exact h_
  · split
    · exact h_
    · split
      · split
        · rename_i hd
          refine Done_finish_mode _ _ (h_run _ _ _ _ hd ?_)
          repeat' (with_reducible first | assumption | apply atBoundary_mode | apply occupy_mode | apply eccRead_mode | apply takeFault_mode | apply eccFound_mode | apply h_run | dsimp only | split | intro)
        · exact h_
      · repeat' (with_reducible first | assumption | apply atBoundary_mode | apply occupy_mode | apply eccRead_mode | apply takeFault_mode | apply eccFound_mode | apply h_run | dsimp only | split | intro)
      · repeat' (with_reducible first | assumption | apply atBoundary_mode | apply occupy_mode | apply eccRead_mode | apply takeFault_mode | apply eccFound_mode | apply h_run | dsimp only | split | intro)

theorem issueOp_mode (op : AOp) (n : Issue) (run : Nat → AInstr → State → Done) (s : State) (h_run : ∀ i w (s : State), s.sys.mode = .run → (run i w s).st.sys.mode = .run) (h_ : s.sys.mode = .run) :
    (issueOp op n run s).sys.mode = .run := by
  unfold issueOp
  apply issueWith_mode _ _ _ _ h_
  intro i w s d hd h
  (repeat' split at hd) <;> cases hd
  exact h_run _ _ _ h

theorem doIllegalInstruction_mode (n : Issue) (s : State) (h_ : s.sys.mode = .run) :
    (doIllegalInstruction n s).sys.mode = .run := by
  unfold doIllegalInstruction
  apply issueWith_mode _ _ _ _ h_
  intro i w s d hd h
  split at hd <;> cases hd
  exact h

theorem aluR_mode (f : Word → Word → Word) (i : Nat) (x : AInstr) (s : State) (h_ : s.sys.mode = .run) :
    (aluR f i x s).st.sys.mode = .run := by
  unfold aluR
  repeat' (with_reducible first | assumption | apply writeD_mode | simp only [Done.st_next, Done.st_fault] | dsimp only | split | intro)

theorem aluI_mode (f : Word → Nat → Word) (i : Nat) (x : AInstr) (s : State) (h_ : s.sys.mode = .run) :
    (aluI f i x s).st.sys.mode = .run := by
  unfold aluI
  repeat' (with_reducible first | assumption | apply writeD_mode | simp only [Done.st_next, Done.st_fault] | dsimp only | split | intro)

theorem additive_mode (f : Ctx → Word → SumFlags) (b : Ctx → Word) (i : Nat) (x : AInstr) (s : State) (h_ : s.sys.mode = .run) :
    (additive f b i x s).st.sys.mode = .run := by
  unfold additive
  repeat' (with_reducible first | assumption | apply writeD_mode | apply State_setCtx_mode | simp only [Done.st_next, Done.st_fault] | dsimp only | split | intro)

theorem effAdd_mode (i : Nat) (x : AInstr) (s : State) (h_ : s.sys.mode = .run) :
    (effAdd i x s).st.sys.mode = .run := by
  unfold effAdd
  repeat' (with_reducible first | assumption | apply additive_mode | simp only [Done.st_next, Done.st_fault] | dsimp only | split | intro)

theorem effSub_mode (i : Nat) (x : AInstr) (s : State) (h_ : s.sys.mode = .run) :
    (effSub i x s).st.sys.mode = .run := by
  unfold effSub
  repeat' (with_reducible first | assumption | apply additive_mode | simp only [Done.st_next, Done.st_fault] | dsimp only | split | intro)

theorem effAddc_mode (i : Nat) (x : AInstr) (s : State) (h_ : s.sys.mode = .run) :
    (effAddc i x s).st.sys.mode = .run := by
  unfold effAddc
  repeat' (with_reducible first | assumption | apply additive_mode | simp only [Done.st_next, Done.st_fault] | dsimp only | split | intro)

theorem effSubc_mode (i : Nat) (x : AInstr) (s : State) (h_ : s.sys.mode = .run) :
    (effSubc i x s).st.sys.mode = .run := by
  unfold effSubc
  repeat' (with_reducible first | assumption | apply additive_mode | simp only [Done.st_next, Done.st_fault] | dsimp only | split | intro)

theorem effAddi_mode (i : Nat) (x : AInstr) (s : State) (h_ : s.sys.mode = .run) :
    (effAddi i x s).st.sys.mode = .run := by
  unfold effAddi
  repeat' (with_reducible first | assumption | apply additive_mode | simp only [Done.st_next, Done.st_fault] | dsimp only | split | intro)

theorem effLui_mode (i : Nat) (x : AInstr) (s : State) (h_ : s.sys.mode = .run) :
    (effLui i x s).st.sys.mode = .run := by
  unfold effLui
  repeat' (with_reducible first | assumption | apply writeD_mode | simp only [Done.st_next, Done.st_fault] | dsimp only | split | intro)

theorem effAngle_mode (f : State → Word → Word → Option Word) (i : Nat) (x : AInstr) (s : State) (h_ : s.sys.mode = .run) :
    (effAngle f i x s).st.sys.mode = .run := by
  unfold effAngle
  repeat' (with_reducible first | assumption | apply writeD_mode | apply setQ_mode | simp only [Done.st_next, Done.st_fault] | dsimp only | split | intro)

theorem branchIf_mode (take : Bool) (i : Nat) (x : AInstr) (s : State) (h_ : s.sys.mode = .run) :
    (branchIf take i x s).st.sys.mode = .run := by
  unfold branchIf
  repeat' (with_reducible first | assumption | apply setPc_mode | apply nextPc_mode | simp only [Done.st_next, Done.st_fault] | dsimp only | split | intro)

theorem effBranch_mode (p : Word → Word → Bool) (i : Nat) (x : AInstr) (s : State) (h_ : s.sys.mode = .run) :
    (effBranch p i x s).st.sys.mode = .run := by
  unfold effBranch
  repeat' (with_reducible first | assumption | apply branchIf_mode | simp only [Done.st_next, Done.st_fault] | dsimp only | split | intro)

theorem effBf_mode (i : Nat) (x : AInstr) (s : State) (h_ : s.sys.mode = .run) :
    (effBf i x s).st.sys.mode = .run := by
  unfold effBf
  repeat' (with_reducible first | assumption | apply branchIf_mode | simp only [Done.st_next, Done.st_fault] | dsimp only | split | intro)

theorem effJmp_mode (i : Nat) (x : AInstr) (s : State) (h_ : s.sys.mode = .run) :
    (effJmp i x s).st.sys.mode = .run := by
  unfold effJmp
  repeat' (with_reducible first | assumption | apply setPc_mode | simp only [Done.st_next, Done.st_fault] | dsimp only | split | intro)

theorem effJal_mode (i : Nat) (x : AInstr) (s : State) (h_ : s.sys.mode = .run) :
    (effJal i x s).st.sys.mode = .run := by
  unfold effJal
  repeat' (with_reducible first | assumption | apply setPc_mode | apply setReg_mode | simp only [Done.st_next, Done.st_fault] | dsimp only | split | intro)

theorem effJr_mode (i : Nat) (x : AInstr) (s : State) (h_ : s.sys.mode = .run) :
    (effJr i x s).st.sys.mode = .run := by
  unfold effJr
  repeat' (with_reducible first | assumption | apply setPc_mode | apply State_setCtx_mode | simp only [Done.st_next, Done.st_fault] | dsimp only | split | intro)

theorem effSnap_mode (i : Nat) (_x : AInstr) (s : State) (h_ : s.sys.mode = .run) :
    (effSnap i _x s).st.sys.mode = .run := by
  unfold effSnap
  repeat' (with_reducible first | assumption | apply nextPc_mode | apply State_setCtx_mode | simp only [Done.st_next, Done.st_fault] | dsimp only | split | intro)

theorem wakeSnap_mode (i : Nat) (s : State) (h_ : s.sys.mode = .run) :
    (wakeSnap i s).sys.mode = .run := by
  unfold wakeSnap
  repeat' (with_reducible first | assumption | apply makeReady_mode | apply State_setCtx_mode | dsimp only | split | intro)

theorem stepsNow_mode (s : State) (h_ : s.sys.mode = .run) :
    (stepsNow s).sys.mode = .run := by
  unfold stepsNow
  repeat' (with_reducible first | assumption | apply stepsDone_mode | apply forEach_mode | apply wakeSnap_mode | dsimp only | split | intro)

theorem effRds_mode (i : Nat) (x : AInstr) (s : State) (h_ : s.sys.mode = .run) :
    (effRds i x s).st.sys.mode = .run := by
  unfold effRds
  repeat' (with_reducible first | assumption | apply State_setCtx_mode | apply writeD_mode | simp only [Done.st_next, Done.st_fault] | dsimp only | split | intro)

theorem effYield_mode (i : Nat) (_x : AInstr) (s : State) (h_ : s.sys.mode = .run) :
    (effYield i _x s).st.sys.mode = .run := by
  unfold effYield
  repeat' (with_reducible first | assumption | apply makeReady_mode | apply nextPc_mode | simp only [Done.st_next, Done.st_fault] | dsimp only | split | intro)

theorem effEnd_mode (i : Nat) (_x : AInstr) (s : State) (h_ : s.sys.mode = .run) :
    (effEnd i _x s).st.sys.mode = .run := by
  unfold effEnd
  repeat' (with_reducible first | assumption | apply nextPc_mode | apply State_setCtx_mode | apply startActivation_mode | simp only [Done.st_next, Done.st_fault] | dsimp only | split | intro)

theorem doAdd_mode (n : Issue) (s : State) (h_ : s.sys.mode = .run) :
    (doAdd n s).sys.mode = .run := by
  unfold doAdd
  repeat' (with_reducible first | assumption | apply issueOp_mode | apply effAdd_mode | dsimp only | split | intro)

theorem doSub_mode (n : Issue) (s : State) (h_ : s.sys.mode = .run) :
    (doSub n s).sys.mode = .run := by
  unfold doSub
  repeat' (with_reducible first | assumption | apply issueOp_mode | apply effSub_mode | dsimp only | split | intro)

theorem doAddc_mode (n : Issue) (s : State) (h_ : s.sys.mode = .run) :
    (doAddc n s).sys.mode = .run := by
  unfold doAddc
  repeat' (with_reducible first | assumption | apply issueOp_mode | apply effAddc_mode | dsimp only | split | intro)

theorem doSubc_mode (n : Issue) (s : State) (h_ : s.sys.mode = .run) :
    (doSubc n s).sys.mode = .run := by
  unfold doSubc
  repeat' (with_reducible first | assumption | apply issueOp_mode | apply effSubc_mode | dsimp only | split | intro)

theorem doAnd_mode (n : Issue) (s : State) (h_ : s.sys.mode = .run) :
    (doAnd n s).sys.mode = .run := by
  unfold doAnd
  repeat' (with_reducible first | assumption | apply issueOp_mode | apply aluR_mode | dsimp only | split | intro)

theorem doOr_mode (n : Issue) (s : State) (h_ : s.sys.mode = .run) :
    (doOr n s).sys.mode = .run := by
  unfold doOr
  repeat' (with_reducible first | assumption | apply issueOp_mode | apply aluR_mode | dsimp only | split | intro)

theorem doXor_mode (n : Issue) (s : State) (h_ : s.sys.mode = .run) :
    (doXor n s).sys.mode = .run := by
  unfold doXor
  repeat' (with_reducible first | assumption | apply issueOp_mode | apply aluR_mode | dsimp only | split | intro)

theorem doShl_mode (n : Issue) (s : State) (h_ : s.sys.mode = .run) :
    (doShl n s).sys.mode = .run := by
  unfold doShl
  repeat' (with_reducible first | assumption | apply issueOp_mode | apply aluR_mode | dsimp only | split | intro)

theorem doShr_mode (n : Issue) (s : State) (h_ : s.sys.mode = .run) :
    (doShr n s).sys.mode = .run := by
  unfold doShr
  repeat' (with_reducible first | assumption | apply issueOp_mode | apply aluR_mode | dsimp only | split | intro)

theorem doSar_mode (n : Issue) (s : State) (h_ : s.sys.mode = .run) :
    (doSar n s).sys.mode = .run := by
  unfold doSar
  repeat' (with_reducible first | assumption | apply issueOp_mode | apply aluR_mode | dsimp only | split | intro)

theorem doMul_mode (n : Issue) (s : State) (h_ : s.sys.mode = .run) :
    (doMul n s).sys.mode = .run := by
  unfold doMul
  repeat' (with_reducible first | assumption | apply issueOp_mode | apply aluR_mode | dsimp only | split | intro)

theorem doMulhu_mode (n : Issue) (s : State) (h_ : s.sys.mode = .run) :
    (doMulhu n s).sys.mode = .run := by
  unfold doMulhu
  repeat' (with_reducible first | assumption | apply issueOp_mode | apply aluR_mode | dsimp only | split | intro)

theorem doMulhs_mode (n : Issue) (s : State) (h_ : s.sys.mode = .run) :
    (doMulhs n s).sys.mode = .run := by
  unfold doMulhs
  repeat' (with_reducible first | assumption | apply issueOp_mode | apply aluR_mode | dsimp only | split | intro)

theorem doDivu_mode (n : Issue) (s : State) (h_ : s.sys.mode = .run) :
    (doDivu n s).sys.mode = .run := by
  unfold doDivu
  repeat' (with_reducible first | assumption | apply issueOp_mode | apply aluR_mode | dsimp only | split | intro)

theorem doRemu_mode (n : Issue) (s : State) (h_ : s.sys.mode = .run) :
    (doRemu n s).sys.mode = .run := by
  unfold doRemu
  repeat' (with_reducible first | assumption | apply issueOp_mode | apply aluR_mode | dsimp only | split | intro)

theorem doSlt_mode (n : Issue) (s : State) (h_ : s.sys.mode = .run) :
    (doSlt n s).sys.mode = .run := by
  unfold doSlt
  repeat' (with_reducible first | assumption | apply issueOp_mode | apply aluR_mode | dsimp only | split | intro)

theorem doSltu_mode (n : Issue) (s : State) (h_ : s.sys.mode = .run) :
    (doSltu n s).sys.mode = .run := by
  unfold doSltu
  repeat' (with_reducible first | assumption | apply issueOp_mode | apply aluR_mode | dsimp only | split | intro)

theorem doAdda_mode (n : Issue) (s : State) (h_ : s.sys.mode = .run) :
    (doAdda n s).sys.mode = .run := by
  unfold doAdda
  repeat' (with_reducible first | assumption | apply issueOp_mode | apply effAngle_mode | dsimp only | split | intro)

theorem doDista_mode (n : Issue) (s : State) (h_ : s.sys.mode = .run) :
    (doDista n s).sys.mode = .run := by
  unfold doDista
  repeat' (with_reducible first | assumption | apply issueOp_mode | apply effAngle_mode | dsimp only | split | intro)

theorem doAddi_mode (n : Issue) (s : State) (h_ : s.sys.mode = .run) :
    (doAddi n s).sys.mode = .run := by
  unfold doAddi
  repeat' (with_reducible first | assumption | apply issueOp_mode | apply effAddi_mode | dsimp only | split | intro)

theorem doAndi_mode (n : Issue) (s : State) (h_ : s.sys.mode = .run) :
    (doAndi n s).sys.mode = .run := by
  unfold doAndi
  repeat' (with_reducible first | assumption | apply issueOp_mode | apply aluI_mode | dsimp only | split | intro)

theorem doOri_mode (n : Issue) (s : State) (h_ : s.sys.mode = .run) :
    (doOri n s).sys.mode = .run := by
  unfold doOri
  repeat' (with_reducible first | assumption | apply issueOp_mode | apply aluI_mode | dsimp only | split | intro)

theorem doXori_mode (n : Issue) (s : State) (h_ : s.sys.mode = .run) :
    (doXori n s).sys.mode = .run := by
  unfold doXori
  repeat' (with_reducible first | assumption | apply issueOp_mode | apply aluI_mode | dsimp only | split | intro)

theorem doShli_mode (n : Issue) (s : State) (h_ : s.sys.mode = .run) :
    (doShli n s).sys.mode = .run := by
  unfold doShli
  repeat' (with_reducible first | assumption | apply issueOp_mode | apply aluI_mode | dsimp only | split | intro)

theorem doShri_mode (n : Issue) (s : State) (h_ : s.sys.mode = .run) :
    (doShri n s).sys.mode = .run := by
  unfold doShri
  repeat' (with_reducible first | assumption | apply issueOp_mode | apply aluI_mode | dsimp only | split | intro)

theorem doSari_mode (n : Issue) (s : State) (h_ : s.sys.mode = .run) :
    (doSari n s).sys.mode = .run := by
  unfold doSari
  repeat' (with_reducible first | assumption | apply issueOp_mode | apply aluI_mode | dsimp only | split | intro)

theorem doLui_mode (n : Issue) (s : State) (h_ : s.sys.mode = .run) :
    (doLui n s).sys.mode = .run := by
  unfold doLui
  repeat' (with_reducible first | assumption | apply issueOp_mode | apply effLui_mode | dsimp only | split | intro)

theorem doBeq_mode (n : Issue) (s : State) (h_ : s.sys.mode = .run) :
    (doBeq n s).sys.mode = .run := by
  unfold doBeq
  repeat' (with_reducible first | assumption | apply issueOp_mode | apply effBranch_mode | dsimp only | split | intro)

theorem doBne_mode (n : Issue) (s : State) (h_ : s.sys.mode = .run) :
    (doBne n s).sys.mode = .run := by
  unfold doBne
  repeat' (with_reducible first | assumption | apply issueOp_mode | apply effBranch_mode | dsimp only | split | intro)

theorem doBlt_mode (n : Issue) (s : State) (h_ : s.sys.mode = .run) :
    (doBlt n s).sys.mode = .run := by
  unfold doBlt
  repeat' (with_reducible first | assumption | apply issueOp_mode | apply effBranch_mode | dsimp only | split | intro)

theorem doBge_mode (n : Issue) (s : State) (h_ : s.sys.mode = .run) :
    (doBge n s).sys.mode = .run := by
  unfold doBge
  repeat' (with_reducible first | assumption | apply issueOp_mode | apply effBranch_mode | dsimp only | split | intro)

theorem doBltu_mode (n : Issue) (s : State) (h_ : s.sys.mode = .run) :
    (doBltu n s).sys.mode = .run := by
  unfold doBltu
  repeat' (with_reducible first | assumption | apply issueOp_mode | apply effBranch_mode | dsimp only | split | intro)

theorem doBgeu_mode (n : Issue) (s : State) (h_ : s.sys.mode = .run) :
    (doBgeu n s).sys.mode = .run := by
  unfold doBgeu
  repeat' (with_reducible first | assumption | apply issueOp_mode | apply effBranch_mode | dsimp only | split | intro)

theorem doBf_mode (n : Issue) (s : State) (h_ : s.sys.mode = .run) :
    (doBf n s).sys.mode = .run := by
  unfold doBf
  repeat' (with_reducible first | assumption | apply issueOp_mode | apply effBf_mode | dsimp only | split | intro)

theorem doJmp_mode (n : Issue) (s : State) (h_ : s.sys.mode = .run) :
    (doJmp n s).sys.mode = .run := by
  unfold doJmp
  repeat' (with_reducible first | assumption | apply issueOp_mode | apply effJmp_mode | dsimp only | split | intro)

theorem doJal_mode (n : Issue) (s : State) (h_ : s.sys.mode = .run) :
    (doJal n s).sys.mode = .run := by
  unfold doJal
  repeat' (with_reducible first | assumption | apply issueOp_mode | apply effJal_mode | dsimp only | split | intro)

theorem doJr_mode (n : Issue) (s : State) (h_ : s.sys.mode = .run) :
    (doJr n s).sys.mode = .run := by
  unfold doJr
  repeat' (with_reducible first | assumption | apply issueOp_mode | apply effJr_mode | dsimp only | split | intro)

theorem doSnap_mode (n : Issue) (s : State) (h_ : s.sys.mode = .run) :
    (doSnap n s).sys.mode = .run := by
  unfold doSnap
  repeat' (with_reducible first | assumption | apply issueOp_mode | apply effSnap_mode | dsimp only | split | intro)

theorem doRds_mode (n : Issue) (s : State) (h_ : s.sys.mode = .run) :
    (doRds n s).sys.mode = .run := by
  unfold doRds
  repeat' (with_reducible first | assumption | apply issueOp_mode | apply effRds_mode | dsimp only | split | intro)

theorem doYield_mode (n : Issue) (s : State) (h_ : s.sys.mode = .run) :
    (doYield n s).sys.mode = .run := by
  unfold doYield
  repeat' (with_reducible first | assumption | apply issueOp_mode | apply effYield_mode | dsimp only | split | intro)

theorem doEnd_mode (n : Issue) (s : State) (h_ : s.sys.mode = .run) :
    (doEnd n s).sys.mode = .run := by
  unfold doEnd
  repeat' (with_reducible first | assumption | apply issueOp_mode | apply effEnd_mode | dsimp only | split | intro)

theorem readLatch_mode (r : Requester) (a : Nat) (s : State) (h_ : s.sys.mode = .run) :
    (readLatch r a s).sys.mode = .run := by
  unfold readLatch
  repeat' (with_reducible first | assumption | apply regLatch_mode | dsimp only | split | intro)

theorem withAccess_mode (r : Right) (n : Nat) (e : Ecc) (i : Nat) (x : AInstr) (f : Nat → State → State) (s : State) (h_f : ∀ i (s : State), s.sys.mode = .run → (f i s).sys.mode = .run) (h_ : s.sys.mode = .run) :
    (withAccess r n e i x f s).st.sys.mode = .run := by
  unfold withAccess
  repeat' (with_reducible first | assumption | apply eccRead_mode | apply fault_mode | apply eccFound_mode | apply h_f | simp only [Done.st_next, Done.st_fault] | dsimp only | split | intro)

theorem effLoad_mode (n : Nat) (e : Ecc) (i : Nat) (x : AInstr) (s : State) (h_ : s.sys.mode = .run) :
    (effLoad n e i x s).st.sys.mode = .run := by
  unfold effLoad
  repeat' (with_reducible first | assumption | apply withAccess_mode | apply writeD_mode | apply readLatch_mode | simp only [Done.st_next, Done.st_fault] | dsimp only | split | intro)

theorem effCaprd_mode (e : Ecc) (i : Nat) (x : AInstr) (s : State) (h_ : s.sys.mode = .run) :
    (effCaprd e i x s).st.sys.mode = .run := by
  unfold effCaprd
  repeat' (with_reducible first | assumption | apply writeD_mode | apply setQ_mode | apply fault_mode | apply eccFound_mode | apply eccRead_mode | simp only [Done.st_next, Done.st_fault] | dsimp only | split | intro)

theorem effMbxrd_mode (i : Nat) (x : AInstr) (s : State) (h_ : s.sys.mode = .run) :
    (effMbxrd i x s).st.sys.mode = .run := by
  unfold effMbxrd
  repeat' (with_reducible first | assumption | apply writeD_mode | simp only [Done.st_next, Done.st_fault] | dsimp only | split | intro)

theorem effMbxcp_mode (i : Nat) (x : AInstr) (s : State) (h_ : s.sys.mode = .run) :
    (effMbxcp i x s).st.sys.mode = .run := by
  unfold effMbxcp
  repeat' (with_reducible first | assumption | apply nextPc_mode | apply setQ_mode | apply fault_mode | apply writeD_mode | apply State_memWrite_mode | simp only [Done.st_next, Done.st_fault] | dsimp only | split | intro)

theorem effNote_mode (i : Nat) (x : AInstr) (s : State) (h_ : s.sys.mode = .run) :
    (effNote i x s).st.sys.mode = .run := by
  unfold effNote
  repeat' (with_reducible first | assumption | apply nextPc_mode | apply setReg_mode | apply setQ_mode | apply State_setSq_mode | simp only [Done.st_next, Done.st_fault] | dsimp only | split | intro)

theorem dmaStart_mode (i c desc : Nat) (s : State) (h_ : s.sys.mode = .run) :
    (dmaStart i c desc s).sys.mode = .run := by
  unfold dmaStart
  repeat' (with_reducible first | assumption | apply State_setDma_mode | dsimp only | split | intro)

theorem effDmago_mode (i : Nat) (x : AInstr) (s : State) (h_ : s.sys.mode = .run) :
    (effDmago i x s).st.sys.mode = .run := by
  unfold effDmago
  repeat' (with_reducible first | assumption | apply dmaStart_mode | apply writeD_mode | simp only [Done.st_next, Done.st_fault] | dsimp only | split | intro)

theorem signalIn_mode (q j : Nat) (s : State) (h_ : s.sys.mode = .run) :
    (signalIn q j s).sys.mode = .run := by
  unfold signalIn
  repeat' (with_reducible first | assumption | apply State_setCtx_mode | dsimp only | split | intro)

theorem signalAll_mode (q d : Nat) (s : State) (h_ : s.sys.mode = .run) :
    (signalAll q d s).sys.mode = .run := by
  unfold signalAll
  repeat' (with_reducible first | assumption | apply forEach_mode | apply signalIn_mode | apply State_setSq_mode | dsimp only | split | intro)

theorem effSignal_mode (i : Nat) (x : AInstr) (s : State) (h_ : s.sys.mode = .run) :
    (effSignal i x s).st.sys.mode = .run := by
  unfold effSignal
  repeat' (with_reducible first | assumption | apply nextPc_mode | apply raise_mode | apply State_setSq_mode | apply latchSq_mode | apply signalAll_mode | simp only [Done.st_next, Done.st_fault] | dsimp only | split | intro)

theorem doLd_mode (n : Issue) (s : State) (h_ : s.sys.mode = .run) :
    (doLd n s).sys.mode = .run := by
  unfold doLd
  repeat' (with_reducible first | assumption | apply issueOp_mode | apply effLoad_mode | dsimp only | split | intro)

theorem doLdh_mode (n : Issue) (s : State) (h_ : s.sys.mode = .run) :
    (doLdh n s).sys.mode = .run := by
  unfold doLdh
  repeat' (with_reducible first | assumption | apply issueOp_mode | apply effLoad_mode | dsimp only | split | intro)

theorem doLdb_mode (n : Issue) (s : State) (h_ : s.sys.mode = .run) :
    (doLdb n s).sys.mode = .run := by
  unfold doLdb
  repeat' (with_reducible first | assumption | apply issueOp_mode | apply effLoad_mode | dsimp only | split | intro)

theorem doCaprd_mode (n : Issue) (s : State) (h_ : s.sys.mode = .run) :
    (doCaprd n s).sys.mode = .run := by
  unfold doCaprd
  repeat' (with_reducible first | assumption | apply issueOp_mode | apply effCaprd_mode | dsimp only | split | intro)

theorem doMbxrd_mode (n : Issue) (s : State) (h_ : s.sys.mode = .run) :
    (doMbxrd n s).sys.mode = .run := by
  unfold doMbxrd
  repeat' (with_reducible first | assumption | apply issueOp_mode | apply effMbxrd_mode | dsimp only | split | intro)

theorem doMbxcp_mode (n : Issue) (s : State) (h_ : s.sys.mode = .run) :
    (doMbxcp n s).sys.mode = .run := by
  unfold doMbxcp
  repeat' (with_reducible first | assumption | apply issueOp_mode | apply effMbxcp_mode | dsimp only | split | intro)

theorem doNote_mode (n : Issue) (s : State) (h_ : s.sys.mode = .run) :
    (doNote n s).sys.mode = .run := by
  unfold doNote
  repeat' (with_reducible first | assumption | apply issueOp_mode | apply effNote_mode | dsimp only | split | intro)

theorem doDmago_mode (n : Issue) (s : State) (h_ : s.sys.mode = .run) :
    (doDmago n s).sys.mode = .run := by
  unfold doDmago
  repeat' (with_reducible first | assumption | apply issueOp_mode | apply effDmago_mode | dsimp only | split | intro)

theorem doSignal_mode (n : Issue) (s : State) (h_ : s.sys.mode = .run) :
    (doSignal n s).sys.mode = .run := by
  unfold doSignal
  repeat' (with_reducible first | assumption | apply issueOp_mode | apply effSignal_mode | dsimp only | split | intro)

theorem park_mode (i : Nat) (w : Wait) (s : State) (h_ : s.sys.mode = .run) :
    (park i w s).sys.mode = .run := by
  unfold park
  repeat' (with_reducible first | assumption | apply nextPc_mode | apply State_setCtx_mode | dsimp only | split | intro)

theorem effWaita_mode (i : Nat) (x : AInstr) (s : State) (h_ : s.sys.mode = .run) :
    (effWaita i x s).st.sys.mode = .run := by
  unfold effWaita
  repeat' (with_reducible first | assumption | apply writeD_mode | apply park_mode | simp only [Done.st_next, Done.st_fault] | dsimp only | split | intro)

theorem effWaitt_mode (i : Nat) (x : AInstr) (s : State) (h_ : s.sys.mode = .run) :
    (effWaitt i x s).st.sys.mode = .run := by
  unfold effWaitt
  repeat' (with_reducible first | assumption | apply writeD_mode | apply park_mode | simp only [Done.st_next, Done.st_fault] | dsimp only | split | intro)

theorem effWaite_mode (i : Nat) (x : AInstr) (s : State) (h_ : s.sys.mode = .run) :
    (effWaite i x s).st.sys.mode = .run := by
  unfold effWaite
  repeat' (with_reducible first | assumption | apply writeD_mode | apply State_setCtx_mode | apply park_mode | simp only [Done.st_next, Done.st_fault] | dsimp only | split | intro)

theorem wakeWith_mode (i d : Nat) (v : Word) (s : State) (h_ : s.sys.mode = .run) :
    (wakeWith i d v s).sys.mode = .run := by
  unfold wakeWith
  repeat' (with_reducible first | assumption | apply makeReady_mode | apply setReg_mode | dsimp only | split | intro)

theorem doWaittReached_mode (q p : Nat) (s : State) (h_ : s.sys.mode = .run) :
    (doWaittReached q p s).sys.mode = .run := by
  unfold doWaittReached
  repeat' (with_reducible first | assumption | apply wakeWith_mode | dsimp only | split | intro)

theorem waitaTimeout_mode (i : Nat) (s : State) (h_ : s.sys.mode = .run) :
    (waitaTimeout i s).sys.mode = .run := by
  unfold waitaTimeout
  repeat' (with_reducible first | assumption | apply wakeWith_mode | dsimp only | split | intro)

theorem doWaitTimeout_mode (q p : Nat) (s : State) (h_ : s.sys.mode = .run) :
    (doWaitTimeout q p s).sys.mode = .run := by
  unfold doWaitTimeout
  repeat' (with_reducible first | assumption | apply waitaTimeout_mode | apply passTo_mode | apply wakeWith_mode | dsimp only | split | intro)

theorem effSched_mode (i : Nat) (x : AInstr) (s : State) (h_ : s.sys.mode = .run) :
    (effSched i x s).st.sys.mode = .run := by
  unfold effSched
  repeat' (with_reducible first | assumption | apply park_mode | simp only [Done.st_next, Done.st_fault] | dsimp only | split | intro)

theorem effAim_mode (i : Nat) (x : AInstr) (s : State) (h_ : s.sys.mode = .run) :
    (effAim i x s).st.sys.mode = .run := by
  unfold effAim
  repeat' (with_reducible first | assumption | apply park_mode | simp only [Done.st_next, Done.st_fault] | dsimp only | split | intro)

theorem effCancel_mode (i : Nat) (x : AInstr) (s : State) (h_ : s.sys.mode = .run) :
    (effCancel i x s).st.sys.mode = .run := by
  unfold effCancel
  repeat' (with_reducible first | assumption | apply park_mode | simp only [Done.st_next, Done.st_fault] | dsimp only | split | intro)

theorem doSchedulerResult_mode (q p : Nat) (s : State) (h_ : s.sys.mode = .run) :
    (doSchedulerResult q p s).sys.mode = .run := by
  unfold doSchedulerResult
  repeat' (with_reducible first | assumption | apply setReg_mode | apply makeReady_mode | apply notice_mode | dsimp only | split | intro)

theorem doTimeTrigger_mode (q p : Nat) (s : State) (h_ : s.sys.mode = .run) :
    (doTimeTrigger q p s).sys.mode = .run := by
  unfold doTimeTrigger
  repeat' (with_reducible first | assumption | apply activate_mode | apply State_setCtx_mode | dsimp only | split | intro)

theorem doWaita_mode (n : Issue) (s : State) (h_ : s.sys.mode = .run) :
    (doWaita n s).sys.mode = .run := by
  unfold doWaita
  repeat' (with_reducible first | assumption | apply issueOp_mode | apply effWaita_mode | dsimp only | split | intro)

theorem doWaitt_mode (n : Issue) (s : State) (h_ : s.sys.mode = .run) :
    (doWaitt n s).sys.mode = .run := by
  unfold doWaitt
  repeat' (with_reducible first | assumption | apply issueOp_mode | apply effWaitt_mode | dsimp only | split | intro)

theorem doWaite_mode (n : Issue) (s : State) (h_ : s.sys.mode = .run) :
    (doWaite n s).sys.mode = .run := by
  unfold doWaite
  repeat' (with_reducible first | assumption | apply issueOp_mode | apply effWaite_mode | dsimp only | split | intro)

theorem doSched_mode (n : Issue) (s : State) (h_ : s.sys.mode = .run) :
    (doSched n s).sys.mode = .run := by
  unfold doSched
  repeat' (with_reducible first | assumption | apply issueOp_mode | apply effSched_mode | dsimp only | split | intro)

theorem doAim_mode (n : Issue) (s : State) (h_ : s.sys.mode = .run) :
    (doAim n s).sys.mode = .run := by
  unfold doAim
  repeat' (with_reducible first | assumption | apply issueOp_mode | apply effAim_mode | dsimp only | split | intro)

theorem doCancel_mode (n : Issue) (s : State) (h_ : s.sys.mode = .run) :
    (doCancel n s).sys.mode = .run := by
  unfold doCancel
  repeat' (with_reducible first | assumption | apply issueOp_mode | apply effCancel_mode | dsimp only | split | intro)

theorem descEcc_mode (a j : Nat) (e : Ecc) (s : State) (h_ : s.sys.mode = .run) :
    (descEcc a j e s).sys.mode = .run := by
  unfold descEcc
  repeat' (with_reducible first | assumption | apply forEach_mode | apply eccRead_mode | dsimp only | split | intro)

theorem writeStatus_mode (a status done : Nat) (s : State) (h_ : s.sys.mode = .run) :
    (writeStatus a status done s).sys.mode = .run := by
  unfold writeStatus
  repeat' (with_reducible first | assumption | apply State_memWrite_mode | dsimp only | split | intro)

theorem dmaFault_mode (c cause faddr : Nat) (s : State) (h_ : s.sys.mode = .run) :
    (dmaFault c cause faddr s).sys.mode = .run := by
  unfold dmaFault
  repeat' (with_reducible first | assumption | apply countSegFault_mode | apply State_setDma_mode | apply fault_mode | apply raise_mode | apply setLatch_mode | dsimp only | split | intro)

theorem dmaLoad_mode (c j : Nat) (e : Ecc) (s : State) (h_ : s.sys.mode = .run) :
    (dmaLoad c j e s).sys.mode = .run := by
  unfold dmaLoad
  repeat' (with_reducible first | assumption | apply dmaFault_mode | apply descEcc_mode | apply State_setDma_mode | apply writeStatus_mode | dsimp only | split | intro)

theorem burstRead_mode (c j : Nat) (e : Ecc) (k : Nat) (r : State × List Byte) (h_ : r.1.sys.mode = .run) :
    (burstRead c j e k r).1.sys.mode = .run := by
  unfold burstRead
  repeat' (with_reducible first | assumption | apply readLatch_mode | apply eccRead_mode | dsimp only | split | intro)

theorem burstWords_mode (c j n : Nat) (e : Ecc) (s : State) (h_ : s.sys.mode = .run) :
    (burstWords c j n e s).1.sys.mode = .run := by
  unfold burstWords
  repeat' (with_reducible first | assumption | apply burstRead_mode | apply foldl_mode | apply foldl1_mode | dsimp only | split | intro)

theorem rewriteDesc_mode (d : DmaCh) (cause : Nat) (s : State) (h_ : s.sys.mode = .run) :
    (rewriteDesc d cause s).sys.mode = .run := by
  unfold rewriteDesc
  repeat' (with_reducible first | assumption | apply writeStatus_mode | apply State_memWrite_mode | dsimp only | split | intro)

theorem descDone_mode (c : Nat) (s : State) (h_ : s.sys.mode = .run) :
    (descDone c s).sys.mode = .run := by
  unfold descDone
  repeat' (with_reducible first | assumption | apply writeStatus_mode | apply State_setDma_mode | dsimp only | split | intro)

theorem burstWrite_mode (c : Nat) (b : List Byte) (s : State) (h_ : s.sys.mode = .run) :
    (burstWrite c b s).sys.mode = .run := by
  unfold burstWrite
  repeat' (with_reducible first | assumption | apply State_memWrite_mode | apply State_setDma_mode | apply descDone_mode | dsimp only | split | intro)

theorem dmaMove_mode (c j : Nat) (e : Ecc) (s : State) (h_ : s.sys.mode = .run) :
    (dmaMove c j e s).sys.mode = .run := by
  unfold dmaMove
  repeat' (with_reducible first | assumption | apply dmaFault_mode | apply rewriteDesc_mode | apply burstWords_mode | apply burstWrite_mode | dsimp only | split | intro)

theorem doDmaBurst_mode (c j : Nat) (e : Ecc) (s : State) (h_ : s.sys.mode = .run) :
    (doDmaBurst c j e s).sys.mode = .run := by
  unfold doDmaBurst
  repeat' (with_reducible first | assumption | apply dmaLoad_mode | apply dmaMove_mode | dsimp only | split | intro)

theorem doDmaTransferComplete_mode (c : Nat) (s : State) (h_ : s.sys.mode = .run) :
    (doDmaTransferComplete c s).sys.mode = .run := by
  unfold doDmaTransferComplete
  repeat' (with_reducible first | assumption | apply descDone_mode | apply State_setDma_mode | apply raiseIf_mode | apply setLatch_mode | dsimp only | split | intro)

theorem timeNow_mode (s : State) (h_ : s.sys.mode = .run) :
    (timeNow s).sys.mode = .run := by
  unfold timeNow
  repeat' (with_reducible first | assumption | apply passNow_mode | apply stepsNow_mode | apply kcNow_mode | dsimp only | split | intro)

/-- The commands this family of lemmas leaves out. -/
def leaves_mode : Instr → Bool
  | .supplyJudgement _ _ | .resetCommandDelayExpiry _ | .st _ _ | .sth _ _ | .stb _ _ | .registerWrite _ _ _ _ | .standbyRequest _ | .sleepRequest _ | .autoStandby _ | .autoSleep _ | .sleepEntryComplete _ | .resetNPulse _ _ => true
  | _ => false

/-- The effect of every command but those named keeps the module in RUN. -/
theorem effect_mode (i : Instr) (s : State) (h_l : leaves_mode i = false) (h_ : s.sys.mode = .run) :
    (effect i s).sys.mode = .run := by
  cases i with
  | wheelCrossing => exact doWheelCrossing_mode (h_ := h_) ..
  | strainerAccept => exact doStrainerAccept_mode (h_ := h_) ..
  | pulseLongTimeout => exact doPulseLongTimeout_mode (h_ := h_) ..
  | secondaryPromotion => exact doSecondaryPromotion_mode (h_ := h_) ..
  | virtualBoundary => exact doVirtualBoundary_mode (h_ := h_) ..
  | countHold => exact doCountHold_mode (h_ := h_) ..
  | toothOverdue => exact doToothOverdue_mode (h_ := h_) ..
  | speedRecompute => exact doSpeedRecompute_mode (h_ := h_) ..
  | stall => exact doStall_mode (h_ := h_) ..
  | anglePassed => exact doAnglePassed_mode (h_ := h_) ..
  | eventInsertion => exact doEventInsertion_mode (h_ := h_) ..
  | eventAimRequest => exact doEventAim_mode (h_ := h_) ..
  | eventCancelRequest => exact doEventCancel_mode (h_ := h_) ..
  | commit => exact doCommit_mode (h_ := h_) ..
  | eventTableEccError => exact doEventTableEccError_mode (h_ := h_) ..
  | profileStart => exact doProfileStart_mode (h_ := h_) ..
  | regulatorSwitch => exact doRegulatorSwitch_mode (h_ := h_) ..
  | peakEnd => exact doPeakEnd_mode (h_ := h_) ..
  | peakTimeout => exact doPeakTimeout_mode (h_ := h_) ..
  | transitionEnd => exact doTransitionEnd_mode (h_ := h_) ..
  | ditherStep => exact doDitherStep_mode (h_ := h_) ..
  | turnOffInstant => exact doTurnOffInstant_mode (h_ := h_) ..
  | turnOffComplete => exact doTurnOffComplete_mode (h_ := h_) ..
  | channelOvercurrent => exact doChannelOvercurrent_mode (h_ := h_) ..
  | bankOvercurrent => exact doBankOvercurrent_mode (h_ := h_) ..
  | onMaxStop => exact doOnMaxStop_mode (h_ := h_) ..
  | onStateFault => exact doOnStateFault_mode (h_ := h_) ..
  | extensionWrite => exact doExtensionWrite_mode (h_ := h_) ..
  | setpointWrite => exact doSetpointWrite_mode (h_ := h_) ..
  | kettleLevelChange => exact doKettleLevelChange_mode (h_ := h_) ..
  | kettleChargeDeadline => exact doKettleChargeDeadline_mode (h_ := h_) ..
  | kettleOvervoltage => exact doKettleOvervoltage_mode (h_ := h_) ..
  | kettleCapacitanceMeasure => exact doKettleCapacitance_mode (h_ := h_) ..
  | closingRecordWritten => exact doClosingRecordWritten_mode (h_ := h_) ..
  | captureEnd => exact doCaptureEnd_mode (h_ := h_) ..
  | offTestStart => exact doOffTestStart_mode (h_ := h_) ..
  | offTestComplete => exact doOffTestComplete_mode (h_ := h_) ..
  | kcPeriodBoundary => exact doKcPeriodBoundary_mode (h_ := h_) ..
  | kcTrigger => exact doKcTrigger_mode (h_ := h_) ..
  | ebPeriodBoundary => exact doEbPeriodBoundary_mode (h_ := h_) ..
  | ebPerEvent => exact doEbPerEvent_mode (h_ := h_) ..
  | ebPhaseEdge => exact doEbPhaseEdge_mode (h_ := h_) ..
  | ebDeadTimeEnd => exact doEbDeadTimeEnd_mode (h_ := h_) ..
  | tripAccept => exact doTripAccept_mode (h_ := h_) ..
  | blankingEnd => exact doBlankingEnd_mode (h_ := h_) ..
  | ebEnable => exact doEbEnable_mode (h_ := h_) ..
  | ebDisable => exact doEbDisable_mode (h_ := h_) ..
  | ebLoadArm => exact doEbLoadArm_mode (h_ := h_) ..
  | ebImmediateWrite => exact doEbWrite_mode (h_ := h_) ..
  | ebTripClear => exact doEbTripClear_mode (h_ := h_) ..
  | pwmGlbLoad => exact doPwmGlbLoad_mode (h_ := h_) ..
  | pwmGlbStart => exact doPwmGlbStart_mode (h_ := h_) ..
  | timerStart => exact doTimerStart_mode (h_ := h_) ..
  | timerStop => exact doTimerStop_mode (h_ := h_) ..
  | timerTargetWrite => exact doTimerTargetWrite_mode (h_ := h_) ..
  | timGlbStart => exact doTimGlbStart_mode (h_ := h_) ..
  | timerExpiry => exact doTimerExpiry_mode (h_ := h_) ..
  | captureEdge => exact doCaptureEdge_mode (h_ := h_) ..
  | supplyThresholdCrossing => exact doSupplyThresholdCrossing_mode (h_ := h_) ..
  | supplyJudgement => cases h_l
  | supplyDebounceExpiry => exact doSupplyDebounceExpiry_mode (h_ := h_) ..
  | holdupRecoveryExpiry => exact doHoldupRecoveryExpiry_mode (h_ := h_) ..
  | holdupStoreExhausted => exact doHoldupStoreExhausted_mode (h_ := h_) ..
  | enableChange => exact doEnableChange_mode (h_ := h_) ..
  | thermalThreshold => exact doThermalThreshold_mode (h_ := h_) ..
  | sensorSupplyFault => exact doSensorSupplyFault_mode (h_ := h_) ..
  | referenceLoss => exact doReferenceLoss_mode (h_ := h_) ..
  | holdoverExpiry => exact doHoldoverExpiry_mode (h_ := h_) ..
  | referenceReturn => exact doReferenceReturn_mode (h_ := h_) ..
  | relockComplete => exact doRelockComplete_mode (h_ := h_) ..
  | referenceStarted => exact doReferenceStarted_mode (h_ := h_) ..
  | claimNChange => exact doClaimNChange_mode (h_ := h_) ..
  | challengeExpiry => exact doChallengeExpiry_mode (h_ := h_) ..
  | releaseReminder => exact doReleaseReminder_mode (h_ := h_) ..
  | releaseCountdownExpiry => exact doReleaseCountdownExpiry_mode (h_ := h_) ..
  | entropyHealthFailure => exact doEntropyHealthFailure_mode (h_ := h_) ..
  | lockoutExpiry => exact doLockoutExpiry_mode (h_ := h_) ..
  | envelopeCopyError => exact doEnvelopeCopyError_mode (h_ := h_) ..
  | envelopeReloadComplete => exact doEnvelopeReloadComplete_mode (h_ := h_) ..
  | envelopeWriteComplete => exact doEnvelopeWriteComplete_mode (h_ := h_) ..
  | configStoreComplete => exact doConfigStoreComplete_mode (h_ := h_) ..
  | caddyWriteComplete => exact doCaddyWriteComplete_mode (h_ := h_) ..
  | ohmacFrame => exact doOhmacFrame_mode (h_ := h_) ..
  | frameGapTimeout => exact doFrameGapTimeout_mode (h_ := h_) ..
  | mbxSend => exact doMbxSend_mode (h_ := h_) ..
  | mbxRxDone => exact doMbxRxDone_mode (h_ := h_) ..
  | mbxAbort => exact doMbxAbort_mode (h_ := h_) ..
  | canBusOff => exact doCanBusOff_mode (h_ := h_) ..
  | sessionOpenTimeout => exact doSessionOpenTimeout_mode (h_ := h_) ..
  | sessionIdleTimeout => exact doSessionIdleTimeout_mode (h_ := h_) ..
  | identity => exact doIdentity_mode (h_ := h_) ..
  | attest => exact doAttest_mode (h_ := h_) ..
  | claim => exact doClaim_mode (h_ := h_) ..
  | enrol => exact doEnrol_mode (h_ := h_) ..
  | revoke => exact doRevoke_mode (h_ := h_) ..
  | transfer => exact doTransfer_mode (h_ := h_) ..
  | decommission => exact doDecommission_mode (h_ := h_) ..
  | retire => exact doRetire_mode (h_ := h_) ..
  | forceRelease => exact doForceRelease_mode (h_ := h_) ..
  | envInstall => exact doEnvInstall_mode (h_ := h_) ..
  | open1 => exact doOpen1_mode (h_ := h_) ..
  | open3 => exact doOpen3_mode (h_ := h_) ..
  | close => exact doClose_mode (h_ := h_) ..
  | ping => exact doPing_mode (h_ := h_) ..
  | readRegs => exact doReadRegs_mode (h_ := h_) ..
  | cycleRecord => exact doCycleRecord_mode (h_ := h_) ..
  | telemetry => exact doTelemetry_mode (h_ := h_) ..
  | logRead => exact doLogRead_mode (h_ := h_) ..
  | targets => exact doTargets_mode (h_ := h_) ..
  | cfgStage => exact doCfgStage_mode (h_ := h_) ..
  | cfgCommit => exact doCfgCommit_mode (h_ := h_) ..
  | cfgDiscard => exact doCfgDiscard_mode (h_ := h_) ..
  | cfgRead => exact doCfgRead_mode (h_ := h_) ..
  | cfgStatus => exact doCfgStatus_mode (h_ := h_) ..
  | imgBegin => exact doImgBegin_mode (h_ := h_) ..
  | imgData => exact doImgData_mode (h_ := h_) ..
  | imgEnd => exact doImgEnd_mode (h_ := h_) ..
  | imgSelect => exact doImgSelect_mode (h_ := h_) ..
  | imgConfirm => exact doImgConfirm_mode (h_ := h_) ..
  | reset => exact doReset_mode (h_ := h_) ..
  | resetCommandDelayExpiry => cases h_l
  | testShot => exact doTestShot_mode (h_ := h_) ..
  | diagRunOffTest => exact doDiagRunOffTest_mode (h_ := h_) ..
  | diagRunClear => exact doDiagRunClear_mode (h_ := h_) ..
  | add => exact doAdd_mode (h_ := h_) ..
  | sub => exact doSub_mode (h_ := h_) ..
  | addc => exact doAddc_mode (h_ := h_) ..
  | subc => exact doSubc_mode (h_ := h_) ..
  | and => exact doAnd_mode (h_ := h_) ..
  | or => exact doOr_mode (h_ := h_) ..
  | xor => exact doXor_mode (h_ := h_) ..
  | shl => exact doShl_mode (h_ := h_) ..
  | shr => exact doShr_mode (h_ := h_) ..
  | sar => exact doSar_mode (h_ := h_) ..
  | mul => exact doMul_mode (h_ := h_) ..
  | mulhu => exact doMulhu_mode (h_ := h_) ..
  | mulhs => exact doMulhs_mode (h_ := h_) ..
  | divu => exact doDivu_mode (h_ := h_) ..
  | remu => exact doRemu_mode (h_ := h_) ..
  | slt => exact doSlt_mode (h_ := h_) ..
  | sltu => exact doSltu_mode (h_ := h_) ..
  | adda => exact doAdda_mode (h_ := h_) ..
  | dista => exact doDista_mode (h_ := h_) ..
  | addi => exact doAddi_mode (h_ := h_) ..
  | andi => exact doAndi_mode (h_ := h_) ..
  | ori => exact doOri_mode (h_ := h_) ..
  | xori => exact doXori_mode (h_ := h_) ..
  | shli => exact doShli_mode (h_ := h_) ..
  | shri => exact doShri_mode (h_ := h_) ..
  | sari => exact doSari_mode (h_ := h_) ..
  | lui => exact doLui_mode (h_ := h_) ..
  | ld => exact doLd_mode (h_ := h_) ..
  | ldh => exact doLdh_mode (h_ := h_) ..
  | ldb => exact doLdb_mode (h_ := h_) ..
  | st => cases h_l
  | sth => cases h_l
  | stb => cases h_l
  | beq => exact doBeq_mode (h_ := h_) ..
  | bne => exact doBne_mode (h_ := h_) ..
  | blt => exact doBlt_mode (h_ := h_) ..
  | bge => exact doBge_mode (h_ := h_) ..
  | bltu => exact doBltu_mode (h_ := h_) ..
  | bgeu => exact doBgeu_mode (h_ := h_) ..
  | bf => exact doBf_mode (h_ := h_) ..
  | jmp => exact doJmp_mode (h_ := h_) ..
  | jal => exact doJal_mode (h_ := h_) ..
  | jr => exact doJr_mode (h_ := h_) ..
  | snap => exact doSnap_mode (h_ := h_) ..
  | rds => exact doRds_mode (h_ := h_) ..
  | waita => exact doWaita_mode (h_ := h_) ..
  | waitt => exact doWaitt_mode (h_ := h_) ..
  | waite => exact doWaite_mode (h_ := h_) ..
  | waittReached => exact doWaittReached_mode (h_ := h_) ..
  | waitTimeout => exact doWaitTimeout_mode (h_ := h_) ..
  | sched => exact doSched_mode (h_ := h_) ..
  | aim => exact doAim_mode (h_ := h_) ..
  | cancel => exact doCancel_mode (h_ := h_) ..
  | schedulerResult => exact doSchedulerResult_mode (h_ := h_) ..
  | note => exact doNote_mode (h_ := h_) ..
  | caprd => exact doCaprd_mode (h_ := h_) ..
  | mbxrd => exact doMbxrd_mode (h_ := h_) ..
  | mbxcp => exact doMbxcp_mode (h_ := h_) ..
  | dmago => exact doDmago_mode (h_ := h_) ..
  | signal => exact doSignal_mode (h_ := h_) ..
  | yield => exact doYield_mode (h_ := h_) ..
  | endTask => exact doEnd_mode (h_ := h_) ..
  | timeTrigger => exact doTimeTrigger_mode (h_ := h_) ..
  | budgetExhausted => exact doBudgetExhausted_mode (h_ := h_) ..
  | dmaBurst => exact doDmaBurst_mode (h_ := h_) ..
  | dmaTransferComplete => exact doDmaTransferComplete_mode (h_ := h_) ..
  | irqClaim => exact doIrqClaim_mode (h_ := h_) ..
  | irqComplete => exact doIrqComplete_mode (h_ := h_) ..
  | moderationHoldEnd => exact doModerationHoldEnd_mode (h_ := h_) ..
  | graceDeadline => exact doGraceDeadline_mode (h_ := h_) ..
  | faultAcknowledge => exact doFaultAcknowledge_mode (h_ := h_) ..
  | watchdogService => exact doWatchdogService_mode (h_ := h_) ..
  | watchdogTimeout => exact doWatchdogTimeout_mode (h_ := h_) ..
  | watchdogWarning => exact doWatchdogWarning_mode (h_ := h_) ..
  | handshakeStall => exact doHandshakeStall_mode (h_ := h_) ..
  | mgmtCoreStall => exact doMgmtCoreStall_mode (h_ := h_) ..
  | scrubAccess => exact doScrubAccess_mode (h_ := h_) ..
  | rulerCalibration => exact doRulerCalibration_mode (h_ := h_) ..
  | senseCalibration => exact doSenseCalibration_mode (h_ := h_) ..
  | senseStale => exact doSenseStale_mode (h_ := h_) ..
  | retentionRefreshStep => exact doRetentionRefreshStep_mode (h_ := h_) ..
  | telemetryBatch => exact doTelemetryBatch_mode (h_ := h_) ..
  | logbookFlush => exact doLogbookFlush_mode (h_ := h_) ..
  | counterFrame => exact doCounterFrame_mode (h_ := h_) ..
  | mirrorFrameSent => exact doMirrorFrameSent_mode (h_ := h_) ..
  | snapshotRead => exact doSnapshotRead_mode (h_ := h_) ..
  | lnsAngleRead => exact doLnsAngleRead_mode (h_ := h_) ..
  | registerWrite => cases h_l
  | standbyRequest => cases h_l
  | sleepRequest => cases h_l
  | autoStandby => cases h_l
  | autoSleep => cases h_l
  | standbyWake => exact doStandbyWake_mode (h_ := h_) ..
  | sleepWake => exact doSleepWake_mode (h_ := h_) ..
  | lossReported => exact doLossReported_mode (h_ := h_) ..
  | holdupStoreCharged => exact doHoldupStoreCharged_mode (h_ := h_) ..
  | canBusOffRecovery => exact doCanBusOffRecovery_mode (h_ := h_) ..
  | entropyHealthRecovery => exact doEntropyHealthRecovery_mode (h_ := h_) ..
  | sensorSupplyRecovery => exact doSensorSupplyRecovery_mode (h_ := h_) ..
  | tripInputRelease => exact doTripInputRelease_mode (h_ := h_) ..
  | thermalDeratingChange => exact doThermalDeratingChange_mode (h_ := h_) ..
  | digitiserSample => exact doDigitiserSample_mode (h_ := h_) ..
  | offTestNotRun => exact doOffTestNotRun_mode (h_ := h_) ..
  | illegalInstruction => exact doIllegalInstruction_mode (h_ := h_) ..
  | sleepEntryComplete => cases h_l
  | resetStepComplete => exact doResetStepComplete_mode (h_ := h_) ..
  | canFrameTransmitted => exact doCanFrameTransmitted_mode (h_ := h_) ..
  | resetNPulse => cases h_l

/-- A command outside leaves_mode, on a module that is powered and in RUN: its effect, then HOST_INT_N. -/
theorem exec_alive (i : Instr) (s : State) (h : Alive s) (hl : leaves_mode i = false) :
    exec i s = .next (settle (effect i (s.advance (instant i)))) := by
  have hp : undefinedPulse s i = false := by
    cases i with
    | resetNPulse => cases hl
    | _ => rfl
  exact exec_run i s h hp (effect_mode i _ hl (by simpa using h.1))

/-- What exec answers for such a command has a property where the effect with HOST_INT_N has it. -/
theorem yields_alive (i : Instr) {s : State} {p : State → Prop} (h : Alive s) (hl : leaves_mode i = false)
    (hp : p (settle (effect i (s.advance (instant i))))) : Yields i s p := ⟨_, exec_alive i s h hl, hp⟩

/-- ETC at the instant of a command. -/
theorem etc_alive {s : State} (t : Tick) (h : Alive s) : (s.advance t).etc = max s.etc t := by rw [advance_run t s h.1]

end Sys2Proof.Machine
end

