-- ==== Sys2Proof/Laws/Answer.lean ====
section
/-! SUPPORT. What a message sent on a link leaves, and what the answer to a request leaves. -/

namespace Sys2Proof.Machine

set_option linter.all false

theorem linkFrame_refl (s : State) : LinkFrame s s := rfl

theorem linkFrame_trans {s t u : State} (h : LinkFrame s t) (k : LinkFrame t u) : LinkFrame s u := by
  unfold LinkFrame at *; rw [k, h]

theorem linkFrame_setLink (s : State) (l : Link) (x : LinkSt) : LinkFrame s (s.setLink l x) := by cases l <;> rfl

theorem linkFrame_settle (s : State) : LinkFrame s (settle s) := rfl

theorem linkFrame_placeFrame (s : State) (h : s.sys.mode = .run) : LinkFrame s (placeFrame s) := by
  unfold placeFrame
  dsimp only
  split
  · rw [raise_run _ _ (by exact h)]
    split <;> rfl
  · rfl

theorem linkFrame_sendMsg (l : Link) (g : Byte) (m : List Byte) (s : State) (h : s.sys.mode = .run) :
    LinkFrame s (sendMsg l g m s) := by
  unfold sendMsg
  dsimp only
  split
  · exact linkFrame_trans (linkFrame_setLink ..) (linkFrame_placeFrame _ (by simpa using h))
  · exact linkFrame_setLink ..

/-- Placing a frame in the SPI receive buffer keeps the frames to be sent, and everything of every link but those. -/
theorem placeFrame_waiting (s : State) (h : s.sys.mode = .run) (l : Link) :
    framesWaiting (placeFrame s) l = framesWaiting s l ∧
      { (placeFrame s).link l with out := [] } = { s.link l with out := [] } ∧ (l ≠ .spi → (placeFrame s).link l = s.link l) := by
  unfold placeFrame
  dsimp only
  split
  · rename_i f r h1 h2
    rw [raise_run _ _ (by exact h)]
    split <;> cases l <;> simp [framesWaiting, State.link, h1, h2]
  · simp

theorem framesWaiting_push (s : State) (l : Link) (f : List (List Byte)) :
    framesWaiting (s.setLink l { s.link l with out := (s.link l).out ++ f }) l = framesWaiting s l ++ f := by
  cases l
  · show (if s.links.rxReady then [s.links.rxBuf] else []) ++ (s.links.spi.out ++ f) = _
    rw [← List.append_assoc]; rfl
  · rfl
  · rfl

theorem sendMsg_waiting (l : Link) (g : Byte) (m : List Byte) (s : State) (h : s.sys.mode = .run) :
    framesWaiting (sendMsg l g m s) l = framesWaiting s l ++ framesOf l g m ∧
      { (sendMsg l g m s).link l with out := [] } = { s.link l with out := [] } ∧
      ∀ k, k ≠ l → (sendMsg l g m s).link k = s.link k := by
  cases l with
  | spi =>
    simp only [sendMsg]
    have hp := placeFrame_waiting (s.setLink .spi { s.link .spi with
      out := (s.link .spi).out ++ (cutFrames (plenMax .spi) g 90 0 m).map (carried .spi) }) (by simpa using h)
    refine ⟨?_, ?_, ?_⟩
    · rw [(hp .spi).1]; exact framesWaiting_push ..
    · rw [(hp .spi).2.1]; simp
    · intro k hk; rw [(hp k).2.2 hk, State.link_setLink_other _ _ hk]
  | can0 =>
    refine ⟨by simp [sendMsg, framesWaiting, State.setLink, framesOf, State.link], by simp [sendMsg], ?_⟩
    intro k hk; simp [sendMsg, State.link_setLink_other _ _ hk]
  | can1 =>
    refine ⟨by simp [sendMsg, framesWaiting, State.setLink, framesOf, State.link], by simp [sendMsg], ?_⟩
    intro k hk; simp [sendMsg, State.link_setLink_other _ _ hk]

theorem framesWaiting_setLink (s : State) (l : Link) (x : LinkSt) (h : x.out = (s.link l).out) :
    framesWaiting (s.setLink l x) l = framesWaiting s l := by
  cases l
  · show (if s.links.rxReady then [s.links.rxBuf] else []) ++ x.out = (if s.links.rxReady then [s.links.rxBuf] else []) ++ s.links.spi.out
    rw [show x.out = s.links.spi.out from h]
  · exact h
  · exact h

theorem responseMsg_eq (r : Request) (a : Reply) : responseMsg r a = plainResponse r a.status a.detail a.data := by
  have h : (statusBytes a.status a.detail ++ a.data).length = 4 + a.data.length := by simp [statusBytes, leBytes]; omega
  unfold responseMsg plainMsg plainResponse
  rw [h]
  rfl

/-- The answer to a request whose reply kept the frames of its link, and its session where it is sealed. -/
theorem respond_answered (l : Link) (before : State) (r : Request) (a : Reply) (h : a.state.sys.mode = .run)
    (hf : framesWaiting a.state l = framesWaiting before l) (hk : r.sealed = true → sealsNext before l = true)
    (hs : r.sealed = true → (a.state.link l).session = (before.link l).session) :
    Answered before (respond l before r a) l r a.status a.detail a.data ∧ LinkFrame a.state (respond l before r a) ∧
      (r.sealed = false → (respond l before r a).link l =
        { a.state.link l with req := none, out := ((respond l before r a).link l).out }) ∧
      ∀ k, k ≠ l → (respond l before r a).link k = a.state.link k := by
  unfold respond
  dsimp only
  rw [responseMsg_eq]
  cases hr : r.sealed with
  | false =>
    simp only [Bool.not_false, if_true]
    have hw := sendMsg_waiting l r.mtag (plainResponse r a.status a.detail a.data)
      (a.state.setLink l { a.state.link l with req := none }) (by simpa using h)
    have hl : (sendMsg l r.mtag (plainResponse r a.status a.detail a.data)
      (a.state.setLink l { a.state.link l with req := none })).link l = { a.state.link l with
        req := none, out := ((sendMsg l r.mtag (plainResponse r a.status a.detail a.data)
          (a.state.setLink l { a.state.link l with req := none })).link l).out } := by
      have := hw.2.1
      simp only [State.link_setLink] at this
      generalize sendMsg l r.mtag (plainResponse r a.status a.detail a.data) _ = z at this ⊢
      exact congrArg (fun y => { y with out := (z.link l).out }) this
    refine ⟨⟨?_, ?_⟩, linkFrame_trans (linkFrame_setLink ..) (linkFrame_sendMsg _ _ _ _ (by simpa using h)), fun _ => hl, ?_⟩
    · rw [hl]
    · rw [hw.1, framesWaiting_setLink _ _ _ (by rfl), hf]
      simp [hr]
    · intro k hk; rw [hw.2.2 k hk, State.link_setLink_other _ _ hk]
  | true =>
    have hk := hk hr
    have hs := hs hr
    simp only [sealsNext] at hk
    cases hb : (before.link l).session with
    | none => simp [hb] at hk
    | opening o => simp [hb] at hk
    | opened x =>
      rw [hb] at hs hk
      simp only [Bool.not_true, Bool.false_eq_true, if_false, State.link_setLink, hs]
      simp only [decide_eq_true_eq] at hk
      have hc : ¬ (2 ^ 64 - 1 ≤ x.lastModule + 1) := by omega
      simp only [sendSealed, counterUsed, hc, if_false]
      generalize hm : sealedMsg x.keyMH 2 x.sid (x.lastModule + 1) (plainResponse r a.status a.detail a.data) = m
      have hw := sendMsg_waiting l r.mtag m (a.state.setLink l { a.state.link l with req := none }) (by simpa using h)
      have hl := linkFrame_sendMsg l r.mtag m (a.state.setLink l { a.state.link l with req := none }) (by simpa using h)
      simp only [hs] at hw hl
      refine ⟨⟨?_, ?_⟩, ?_, ?_, ?_⟩
      · rw [State.link_setLink]
        have := hw.2.1
        simp only [State.link_setLink] at this
        exact congrArg LinkSt.req this
      · rw [framesWaiting_setLink _ _ _ (by rfl), hw.1, framesWaiting_setLink _ _ _ (by rfl), hf]
        simp only [hr, hb, hm]
      · exact linkFrame_trans (linkFrame_trans (linkFrame_setLink ..) hl) (linkFrame_setLink ..)
      · intro h; cases h
      · intro k hk; rw [State.link_setLink_other _ _ hk, hw.2.2 k hk, State.link_setLink_other _ _ hk]

/-- A request taken up in RUN and answered by a reply that keeps its link's frames and session: the command answers a
next state, in which the response of the reply waits on the link and nothing but the links and the interrupt controller
differs from the reply's state. -/
theorem command_answers {s : State} {l : Link} {r : Request} {code : Nat} {f : Request → State → Reply} (c : Instr) (t : Tick)
    (hc : exec c s = run t (command l code f) s) (h : Asked s l r code)
    (hm : (f r (s.advance t)).state.sys.mode = .run)
    (hf : framesWaiting (f r (s.advance t)).state l = framesWaiting s l)
    (hs : r.sealed = true → ((f r (s.advance t)).state.link l).session = (s.link l).session) :
    Yields c s (fun u => Answered s u l r (f r (s.advance t)).status (f r (s.advance t)).detail (f r (s.advance t)).data ∧
      LinkFrame (f r (s.advance t)).state u ∧ ∀ k, k ≠ l → u.link k = (f r (s.advance t)).state.link k) := by
  obtain ⟨⟨h1, h2, hi⟩, h3, h4, h5, h6, h7⟩ := h
  have hr : requestOf l code (s.advance t) = some r := by
    have : ((s.advance t).link l).req = some r := h4
    have hl : linksOn (s.advance t) = true := by
      simp only [linksOn, State.advance]; simp [h1, h2, h3]
    unfold requestOf
    rw [this]; simp [h5, hl]
  have hq : moduleRefusal (s.advance t) code = 0 := h6
  have hw := respond_answered l (s.advance t) r (f r (s.advance t)) hm hf (fun h => h7 h) hs
  have hd : (s.advance t).supply.state ≠ .down := h2
  have hu : (respond l (s.advance t) r (f r (s.advance t))).sys.mode = .run := by rw [hw.2.1]; exact hm
  refine ⟨settle (powerSettle (respond l (s.advance t) r (f r (s.advance t)))), ?_, ?_⟩
  · rw [hc]; unfold run command
    simp only [timeNow_idle t s hi, hr, hq, hd, if_false]
  · rw [powerSettle_run _ hu]
    exact ⟨hw.1, linkFrame_trans hw.2.1 (linkFrame_settle _), hw.2.2.2⟩

end Sys2Proof.Machine
end

