-- ==== Sys2Proof/Laws/Base.lean ====
section
/-! SUPPORT. No command's effect touches the queue, ETC and the instant once reached, or the order code. -/

set_option linter.all false

namespace Sys2Proof.Machine
theorem foldl_base {c_ : List Instr × Tick × Tick × Bool} {α : Type} (l : List α) (f : State → α → State) (s : State) (h : ∀ (s : State) a, s.base = c_ → (f s a).base = c_)
    (h_ : s.base = c_) : (l.foldl f s).base = c_ := by
  induction l generalizing s with
  | nil => exact h_
  | cons a r ih => exact ih _ (h _ _ h_)
theorem foldl1_base {c_ : List Instr × Tick × Tick × Bool} {α β : Type} (l : List α) (f : State × β → α → State × β) (s : State × β)
    (h : ∀ (s : State × β) a, s.1.base = c_ → (f s a).1.base = c_) (h_ : s.1.base = c_) : (l.foldl f s).1.base = c_ := by
  induction l generalizing s with
  | nil => exact h_
  | cons a r ih => exact ih _ (h _ _ h_)
theorem repeatN_base {c_ : List Instr × Tick × Tick × Bool} (f : State → State) (n : Nat) (s : State) (h : ∀ s : State, s.base = c_ → (f s).base = c_) (h_ : s.base = c_) :
    (repeatN f n s).base = c_ := by
  induction n generalizing s with
  | zero => exact h_
  | succ n ih => exact ih _ (h _ h_)
theorem or_base {c_ : List Instr × Tick × Tick × Bool} (a : Option Reply) (b : Unit → Option Reply) (h1 : ∀ r, a = some r → r.state.base = c_)
    (h2 : ∀ r, b () = some r → r.state.base = c_) (r : Reply) (h : a.orElse b = some r) : r.state.base = c_ := by
  cases a with
  | none => exact h2 r h
  | some x => exact h1 r h
theorem getD_base {c_ : List Instr × Tick × Tick × Bool} (a : Option State) (d : State) (h1 : ∀ x, a = some x → x.base = c_) (h2 : d.base = c_) : (a.getD d).base = c_ := by
  cases a with
  | none => exact h2
  | some x => exact h1 x rfl

theorem State_setChan_base {c_ : List Instr × Tick × Tick × Bool} (s : State) (k : Nat) (c : Chan) (h_ : s.base = c_) :
    (Sys2Proof.Machine.State.setChan s k c).base = c_ := by
  unfold State.setChan
  repeat' (with_reducible first | assumption | rfl | dsimp only | split | intro)

theorem State_setBank_base {c_ : List Instr × Tick × Tick × Bool} (s : State) (b : Nat) (c : BankSt) (h_ : s.base = c_) :
    (Sys2Proof.Machine.State.setBank s b c).base = c_ := by
  unfold State.setBank
  repeat' (with_reducible first | assumption | rfl | dsimp only | split | intro)

theorem State_setKettle_base {c_ : List Instr × Tick × Tick × Bool} (s : State) (k : Nat) (c : Kettle) (h_ : s.base = c_) :
    (Sys2Proof.Machine.State.setKettle s k c).base = c_ := by
  unfold State.setKettle
  repeat' (with_reducible first | assumption | rfl | dsimp only | split | intro)

theorem State_setDch_base {c_ : List Instr × Tick × Tick × Bool} (s : State) (k : Nat) (c : DiaCh) (h_ : s.base = c_) :
    (Sys2Proof.Machine.State.setDch s k c).base = c_ := by
  unfold State.setDch
  repeat' (with_reducible first | assumption | rfl | dsimp only | split | intro)

theorem State_setDgt_base {c_ : List Instr × Tick × Tick × Bool} (s : State) (b : Nat) (c : Digitiser) (h_ : s.base = c_) :
    (Sys2Proof.Machine.State.setDgt s b c).base = c_ := by
  unfold State.setDgt
  repeat' (with_reducible first | assumption | rfl | dsimp only | split | intro)

theorem State_setSlot_base {c_ : List Instr × Tick × Tick × Bool} (s : State) (i : Nat) (e : Event) (h_ : s.base = c_) :
    (Sys2Proof.Machine.State.setSlot s i e).base = c_ := by
  unfold State.setSlot
  repeat' (with_reducible first | assumption | rfl | dsimp only | split | intro)

theorem State_setSq_base {c_ : List Instr × Tick × Tick × Bool} (s : State) (q : Nat) (c : SeqSt) (h_ : s.base = c_) :
    (Sys2Proof.Machine.State.setSq s q c).base = c_ := by
  unfold State.setSq
  repeat' (with_reducible first | assumption | rfl | dsimp only | split | intro)

theorem State_setCtx_base {c_ : List Instr × Tick × Tick × Bool} (s : State) (i : Nat) (c : Ctx) (h_ : s.base = c_) :
    (Sys2Proof.Machine.State.setCtx s i c).base = c_ := by
  unfold State.setCtx
  repeat' (with_reducible first | assumption | rfl | dsimp only | split | intro)

theorem State_setDma_base {c_ : List Instr × Tick × Tick × Bool} (s : State) (c : Nat) (d : DmaCh) (h_ : s.base = c_) :
    (Sys2Proof.Machine.State.setDma s c d).base = c_ := by
  unfold State.setDma
  repeat' (with_reducible first | assumption | rfl | dsimp only | split | intro)

theorem State_setTimer_base {c_ : List Instr × Tick × Tick × Bool} (s : State) (n : Nat) (c : Timer) (h_ : s.base = c_) :
    (Sys2Proof.Machine.State.setTimer s n c).base = c_ := by
  unfold State.setTimer
  repeat' (with_reducible first | assumption | rfl | dsimp only | split | intro)

theorem State_setEb_base {c_ : List Instr × Tick × Tick × Bool} (s : State) (n : Nat) (c : Eb) (h_ : s.base = c_) :
    (Sys2Proof.Machine.State.setEb s n c).base = c_ := by
  unfold State.setEb
  repeat' (with_reducible first | assumption | rfl | dsimp only | split | intro)

theorem State_setKc_base {c_ : List Instr × Tick × Tick × Bool} (s : State) (k : Nat) (c : Kc) (h_ : s.base = c_) :
    (Sys2Proof.Machine.State.setKc s k c).base = c_ := by
  unfold State.setKc
  repeat' (with_reducible first | assumption | rfl | dsimp only | split | intro)

theorem State_setWheel_base {c_ : List Instr × Tick × Tick × Bool} (s : State) (n : Nat) (c : WheelIn) (h_ : s.base = c_) :
    (Sys2Proof.Machine.State.setWheel s n c).base = c_ := by
  unfold State.setWheel
  repeat' (with_reducible first | assumption | rfl | dsimp only | split | intro)

theorem State_setLink_base {c_ : List Instr × Tick × Tick × Bool} (s : State) (l : Link) (x : LinkSt) (h_ : s.base = c_) :
    (Sys2Proof.Machine.State.setLink s l x).base = c_ := by
  unfold State.setLink
  repeat' (with_reducible first | assumption | rfl | dsimp only | split | intro)

theorem State_memPatch_base {c_ : List Instr × Tick × Tick × Bool} (s : State) (a : Nat) (b : List Byte) (h_ : s.base = c_) :
    (Sys2Proof.Machine.State.memPatch s a b).base = c_ := by
  unfold State.memPatch
  repeat' (with_reducible first | assumption | rfl | dsimp only | split | intro)

theorem State_memWrite_base {c_ : List Instr × Tick × Tick × Bool} (s : State) (a : Nat) (b : List Byte) (h_ : s.base = c_) :
    (Sys2Proof.Machine.State.memWrite s a b).base = c_ := by
  unfold State.memWrite
  repeat' (with_reducible first | assumption | rfl | dsimp only | split | intro)

theorem State_memSetWord_base {c_ : List Instr × Tick × Tick × Bool} (s : State) (a : Nat) (w : Word) (h_ : s.base = c_) :
    (Sys2Proof.Machine.State.memSetWord s a w).base = c_ := by
  unfold State.memSetWord
  repeat' (with_reducible first | assumption | rfl | apply State_memWrite_base | dsimp only | split | intro)

theorem wake_base {c_ : List Instr × Tick × Tick × Bool} (b : Nat) (s : State) (h_ : s.base = c_) :
    (wake b s).base = c_ := by
  unfold wake
  repeat' (with_reducible first | assumption | rfl | dsimp only | split | intro)

theorem raise_base {c_ : List Instr × Tick × Tick × Bool} (n : Nat) (s : State) (h_ : s.base = c_) :
    (raise n s).base = c_ := by
  unfold raise
  repeat' (with_reducible first | assumption | rfl | apply wake_base | dsimp only | split | intro)

theorem raiseIf_base {c_ : List Instr × Tick × Tick × Bool} (c : Bool) (n : Nat) (s : State) (h_ : s.base = c_) :
    (raiseIf c n s).base = c_ := by
  unfold raiseIf
  repeat' (with_reducible first | assumption | rfl | apply raise_base | dsimp only | split | intro)

theorem settle_base {c_ : List Instr × Tick × Tick × Bool} (s : State) (h_ : s.base = c_) :
    (settle s).base = c_ := by
  unfold settle
  repeat' (with_reducible first | assumption | rfl | dsimp only | split | intro)

theorem logPut_base {c_ : List Instr × Tick × Tick × Bool} (kind : Nat) (body : List Byte) (s : State) (h_ : s.base = c_) :
    (logPut kind body s).base = c_ := by
  unfold logPut
  repeat' (with_reducible first | assumption | rfl | dsimp only | split | intro)

theorem logAppend_base {c_ : List Instr × Tick × Tick × Bool} (kind : Nat) (body : List Byte) (s : State) (h_ : s.base = c_) :
    (logAppend kind body s).base = c_ := by
  unfold logAppend
  repeat' (with_reducible first | assumption | rfl | apply logPut_base | dsimp only | split | intro)

theorem log_base {c_ : List Instr × Tick × Tick × Bool} (kind level : Nat) (body : List Byte) (s : State) (h_ : s.base = c_) :
    (log kind level body s).base = c_ := by
  unfold log
  repeat' (with_reducible first | assumption | rfl | apply logAppend_base | dsimp only | split | intro)

theorem mirrorAt_base {c_ : List Instr × Tick × Tick × Bool} (ty : Nat) (body : List Byte) (etc : Tick) (s : State) (h_ : s.base = c_) :
    (mirrorAt ty body etc s).base = c_ := by
  unfold mirrorAt
  repeat' (with_reducible first | assumption | rfl | apply raiseIf_base | dsimp only | split | intro)

theorem mirror_base {c_ : List Instr × Tick × Tick × Bool} (ty : Nat) (body : List Byte) (s : State) (h_ : s.base = c_) :
    (mirror ty body s).base = c_ := by
  unfold mirror
  repeat' (with_reducible first | assumption | rfl | apply mirrorAt_base | dsimp only | split | intro)

theorem mirrorState_base {c_ : List Instr × Tick × Tick × Bool} (kind value : Nat) (s : State) (h_ : s.base = c_) :
    (mirrorState kind value s).base = c_ := by
  unfold mirrorState
  repeat' (with_reducible first | assumption | rfl | apply mirror_base | dsimp only | split | intro)

theorem makeReady_base {c_ : List Instr × Tick × Tick × Bool} (i : Nat) (s : State) (h_ : s.base = c_) :
    (makeReady i s).base = c_ := by
  unfold makeReady
  repeat' (with_reducible first | assumption | rfl | apply State_setCtx_base | dsimp only | split | intro)

theorem startActivation_base {c_ : List Instr × Tick × Tick × Bool} (trig i : Nat) (t : Task) (s : State) (h_ : s.base = c_) :
    (startActivation trig i t s).base = c_ := by
  unfold startActivation
  repeat' (with_reducible first | assumption | rfl | apply makeReady_base | apply State_setCtx_base | dsimp only | split | intro)

theorem activate_base {c_ : List Instr × Tick × Tick × Bool} (trig i : Nat) (s : State) (h_ : s.base = c_) :
    (activate trig i s).base = c_ := by
  unfold activate
  repeat' (with_reducible first | assumption | rfl | apply startActivation_base | apply State_setCtx_base | dsimp only | split | intro)

theorem wakeLatch_base {c_ : List Instr × Tick × Tick × Bool} (i : Nat) (s : State) (h_ : s.base = c_) :
    (wakeLatch i s).base = c_ := by
  unfold wakeLatch
  repeat' (with_reducible first | assumption | rfl | apply makeReady_base | apply State_setCtx_base | apply setReg_base | dsimp only | split | intro)

theorem setLatch_base {c_ : List Instr × Tick × Tick × Bool} (b i : Nat) (s : State) (h_ : s.base = c_) :
    (setLatch b i s).base = c_ := by
  unfold setLatch
  repeat' (with_reducible first | assumption | rfl | apply State_setCtx_base | apply activate_base | apply wakeLatch_base | dsimp only | split | intro)

theorem forEach_base {c_ : List Instr × Tick × Tick × Bool} (l : List Nat) (f : Nat → State → State) (s : State) (h_f : ∀ i (s : State), s.base = c_ → (f i s).base = c_)
    (h_ : s.base = c_) : (forEach l f s).base = c_ := foldl_base _ _ _ (fun s i => h_f i s) h_

theorem latchSq_base {c_ : List Instr × Tick × Tick × Bool} (b q : Nat) (s : State) (h_ : s.base = c_) :
    (latchSq b q s).base = c_ := by
  unfold latchSq
  repeat' (with_reducible first | assumption | rfl | apply State_setSq_base | apply forEach_base | apply setLatch_base | dsimp only | split | intro)

theorem latchAll_base {c_ : List Instr × Tick × Tick × Bool} (b : Nat) (s : State) (h_ : s.base = c_) :
    (latchAll b s).base = c_ := by
  unfold latchAll
  repeat' (with_reducible first | assumption | rfl | apply forEach_base | apply setLatch_base | dsimp only | split | intro)

theorem notice_base {c_ : List Instr × Tick × Tick × Bool} (owner : Nat) (w0 w1 : Word) (s : State) (h_ : s.base = c_) :
    (notice owner w0 w1 s).base = c_ := by
  unfold notice
  repeat' (with_reducible first | assumption | rfl | apply State_setSq_base | apply latchSq_base | dsimp only | split | intro)

theorem ebZero_base {c_ : List Instr × Tick × Tick × Bool} (n : Nat) (s : State) (h_ : s.base = c_) :
    (ebZero n s).base = c_ := by
  unfold ebZero
  repeat' (with_reducible first | assumption | rfl | apply raiseIf_base | apply State_setEb_base | dsimp only | split | intro)

theorem ebPer_base {c_ : List Instr × Tick × Tick × Bool} (n : Nat) (s : State) (h_ : s.base = c_) :
    (ebPer n s).base = c_ := by
  unfold ebPer
  repeat' (with_reducible first | assumption | rfl | apply raiseIf_base | apply State_setEb_base | dsimp only | split | intro)

theorem ebCmp_base {c_ : List Instr × Tick × Tick × Bool} (n : Nat) (s : State) (h_ : s.base = c_) :
    (ebCmp n s).base = c_ := by
  unfold ebCmp
  repeat' (with_reducible first | assumption | rfl | apply raiseIf_base | apply State_setEb_base | dsimp only | split | intro)

theorem ebTrip_base {c_ : List Instr × Tick × Tick × Bool} (n : Nat) (s : State) (h_ : s.base = c_) :
    (ebTrip n s).base = c_ := by
  unfold ebTrip
  repeat' (with_reducible first | assumption | rfl | apply raiseIf_base | apply State_setEb_base | dsimp only | split | intro)

theorem ebUnblank_base {c_ : List Instr × Tick × Tick × Bool} (n : Nat) (s : State) (h_ : s.base = c_) :
    (ebUnblank n s).base = c_ := by
  unfold ebUnblank
  repeat' (with_reducible first | assumption | rfl | apply State_setEb_base | apply ebTrip_base | dsimp only | split | intro)

theorem ebPhase_base {c_ : List Instr × Tick × Tick × Bool} (toHigh : Bool) (x : Tick) (len : Nat) (n : Nat) (s : State) (h_ : s.base = c_) :
    (ebPhase toHigh x len n s).base = c_ := by
  unfold ebPhase
  repeat' (with_reducible first | assumption | rfl | apply State_setEb_base | apply raiseIf_base | apply ebUnblank_base | dsimp only | split | intro)

theorem ebZeroPhase_base {c_ : List Instr × Tick × Tick × Bool} (x : Tick) (n : Nat) (s : State) (h_ : s.base = c_) :
    (ebZeroPhase x n s).base = c_ := by
  unfold ebZeroPhase
  repeat' (with_reducible first | assumption | rfl | apply ebPhase_base | apply State_setEb_base | dsimp only | split | intro)

theorem ebBoundary_base {c_ : List Instr × Tick × Tick × Bool} (x : Tick) (n : Nat) (s : State) (h_ : s.base = c_) :
    (ebBoundary x n s).base = c_ := by
  unfold ebBoundary
  repeat' (with_reducible first | assumption | rfl | apply State_setEb_base | apply ebZero_base | apply ebPer_base | apply ebZeroPhase_base | dsimp only | split | intro)

theorem ebShadow_base {c_ : List Instr × Tick × Tick × Bool} (f : EbVals → EbVals) (n : Nat) (s : State) (h_ : s.base = c_) :
    (ebShadow f n s).base = c_ := by
  unfold ebShadow
  repeat' (with_reducible first | assumption | rfl | apply State_setEb_base | dsimp only | split | intro)

theorem doEbPeriodBoundary_base {c_ : List Instr × Tick × Tick × Bool} (n : Nat) (bootLow : Bool) (s : State) (h_ : s.base = c_) :
    (doEbPeriodBoundary n bootLow s).base = c_ := by
  unfold doEbPeriodBoundary
  repeat' (with_reducible first | assumption | rfl | apply ebBoundary_base | apply State_setEb_base | dsimp only | split | intro)

theorem doEbPerEvent_base {c_ : List Instr × Tick × Tick × Bool} (n : Nat) (s : State) (h_ : s.base = c_) :
    (doEbPerEvent n s).base = c_ := by
  unfold doEbPerEvent
  repeat' (with_reducible first | assumption | rfl | apply ebPer_base | apply State_setEb_base | dsimp only | split | intro)

theorem doEbPhaseEdge_base {c_ : List Instr × Tick × Tick × Bool} (n : Nat) (bootLow : Bool) (s : State) (h_ : s.base = c_) :
    (doEbPhaseEdge n bootLow s).base = c_ := by
  unfold doEbPhaseEdge
  repeat' (with_reducible first | assumption | rfl | apply ebCmp_base | apply ebPhase_base | apply State_setEb_base | dsimp only | split | intro)

theorem doEbDeadTimeEnd_base {c_ : List Instr × Tick × Tick × Bool} (n : Nat) (swung : Bool) (s : State) (h_ : s.base = c_) :
    (doEbDeadTimeEnd n swung s).base = c_ := by
  unfold doEbDeadTimeEnd
  repeat' (with_reducible first | assumption | rfl | apply State_setEb_base | dsimp only | split | intro)

theorem setTrip_base {c_ : List Instr × Tick × Tick × Bool} (i : Nat) (active : Bool) (s : State) (h_ : s.base = c_) :
    (setTrip i active s).base = c_ := by
  unfold setTrip
  repeat' (with_reducible first | assumption | rfl | dsimp only | split | intro)

theorem ebTripDecide_base {c_ : List Instr × Tick × Tick × Bool} (n : Nat) (s : State) (h_ : s.base = c_) :
    (ebTripDecide n s).base = c_ := by
  unfold ebTripDecide
  repeat' (with_reducible first | assumption | rfl | apply State_setEb_base | apply ebTrip_base | dsimp only | split | intro)

theorem doTripAccept_base {c_ : List Instr × Tick × Tick × Bool} (n i held : Nat) (s : State) (h_ : s.base = c_) :
    (doTripAccept n i held s).base = c_ := by
  unfold doTripAccept
  repeat' (with_reducible first | assumption | rfl | apply setTrip_base | apply State_setEb_base | apply ebTripDecide_base | dsimp only | split | intro)

theorem ebSetMask_base {c_ : List Instr × Tick × Tick × Bool} (mask : BitVec 4) (n : Nat) (s : State) (h_ : s.base = c_) :
    (ebSetMask mask n s).base = c_ := by
  unfold ebSetMask
  repeat' (with_reducible first | assumption | rfl | apply State_setEb_base | apply ebTripDecide_base | dsimp only | split | intro)

theorem doBlankingEnd_base {c_ : List Instr × Tick × Tick × Bool} (n : Nat) (s : State) (h_ : s.base = c_) :
    (doBlankingEnd n s).base = c_ := by
  unfold doBlankingEnd
  repeat' (with_reducible first | assumption | rfl | apply State_setEb_base | apply ebTrip_base | dsimp only | split | intro)

theorem ebRelease_base {c_ : List Instr × Tick × Tick × Bool} (i n : Nat) (s : State) (h_ : s.base = c_) :
    (ebRelease i n s).base = c_ := by
  unfold ebRelease
  repeat' (with_reducible first | assumption | rfl | apply State_setEb_base | dsimp only | split | intro)

theorem doTripInputRelease_base {c_ : List Instr × Tick × Tick × Bool} (i : Nat) (s : State) (h_ : s.base = c_) :
    (doTripInputRelease i s).base = c_ := by
  unfold doTripInputRelease
  repeat' (with_reducible first | assumption | rfl | apply forEach_base | apply ebRelease_base | apply setTrip_base | dsimp only | split | intro)

theorem tripsApplied_base {c_ : List Instr × Tick × Tick × Bool} (s : State) (h_ : s.base = c_) :
    (tripsApplied s).base = c_ := by
  unfold tripsApplied
  repeat' (with_reducible first | assumption | rfl | apply forEach_base | apply ebRelease_base | dsimp only | split | intro)

theorem doEbEnable_base {c_ : List Instr × Tick × Tick × Bool} (n : Nat) (s : State) (h_ : s.base = c_) :
    (doEbEnable n s).base = c_ := by
  unfold doEbEnable
  repeat' (with_reducible first | assumption | rfl | apply ebPhase_base | apply State_setEb_base | apply ebTrip_base | dsimp only | split | intro)

theorem doEbDisable_base {c_ : List Instr × Tick × Tick × Bool} (n : Nat) (s : State) (h_ : s.base = c_) :
    (doEbDisable n s).base = c_ := by
  unfold doEbDisable
  repeat' (with_reducible first | assumption | rfl | apply State_setEb_base | dsimp only | split | intro)

theorem ebAllOff_base {c_ : List Instr × Tick × Tick × Bool} (s : State) (h_ : s.base = c_) :
    (ebAllOff s).base = c_ := by
  unfold ebAllOff
  repeat' (with_reducible first | assumption | rfl | apply forEach_base | apply doEbDisable_base | dsimp only | split | intro)

theorem doEbLoadArm_base {c_ : List Instr × Tick × Tick × Bool} (n : Nat) (s : State) (h_ : s.base = c_) :
    (doEbLoadArm n s).base = c_ := by
  unfold doEbLoadArm
  repeat' (with_reducible first | assumption | rfl | apply State_setEb_base | dsimp only | split | intro)

theorem doPwmGlbLoad_base {c_ : List Instr × Tick × Tick × Bool} (mask : Nat) (s : State) (h_ : s.base = c_) :
    (doPwmGlbLoad mask s).base = c_ := by
  unfold doPwmGlbLoad
  repeat' (with_reducible first | assumption | rfl | apply forEach_base | apply doEbLoadArm_base | dsimp only | split | intro)

theorem doPwmGlbStart_base {c_ : List Instr × Tick × Tick × Bool} (mask : Nat) (s : State) (h_ : s.base = c_) :
    (doPwmGlbStart mask s).base = c_ := by
  unfold doPwmGlbStart
  repeat' (with_reducible first | assumption | rfl | apply forEach_base | apply doEbEnable_base | dsimp only | split | intro)

theorem bootstrapFree_base {c_ : List Instr × Tick × Tick × Bool} (n : Nat) (s : State) (h_ : s.base = c_) :
    (bootstrapFree n s).base = c_ := by
  unfold bootstrapFree
  repeat' (with_reducible first | assumption | rfl | apply State_setEb_base | dsimp only | split | intro)

theorem ebRecross_base {c_ : List Instr × Tick × Tick × Bool} (n : Nat) (s : State) (h_ : s.base = c_) :
    (ebRecross n s).base = c_ := by
  unfold ebRecross
  repeat' (with_reducible first | assumption | rfl | apply ebPhase_base | apply bootstrapFree_base | dsimp only | split | intro)

theorem ebImmPer_base {c_ : List Instr × Tick × Tick × Bool} (v n : Nat) (s : State) (h_ : s.base = c_) :
    (ebImmPer v n s).base = c_ := by
  unfold ebImmPer
  repeat' (with_reducible first | assumption | rfl | apply State_setEb_base | apply ebBoundary_base | apply bootstrapFree_base | apply ebRecross_base | apply ebPer_base | dsimp only | split | intro)

theorem ebImmCmp_base {c_ : List Instr × Tick × Tick × Bool} (v n : Nat) (s : State) (h_ : s.base = c_) :
    (ebImmCmp v n s).base = c_ := by
  unfold ebImmCmp
  repeat' (with_reducible first | assumption | rfl | apply ebRecross_base | apply State_setEb_base | dsimp only | split | intro)

theorem doEbWrite_base {c_ : List Instr × Tick × Tick × Bool} (n : Nat) (which : EbValue) (value : Word) (s : State) (h_ : s.base = c_) :
    (doEbWrite n which value s).base = c_ := by
  unfold doEbWrite
  repeat' (with_reducible first | assumption | rfl | apply ebImmPer_base | apply ebShadow_base | apply ebImmCmp_base | dsimp only | split | intro)

theorem doEbTripClear_base {c_ : List Instr × Tick × Tick × Bool} (n : Nat) (s : State) (h_ : s.base = c_) :
    (doEbTripClear n s).base = c_ := by
  unfold doEbTripClear
  repeat' (with_reducible first | assumption | rfl | apply State_setEb_base | dsimp only | split | intro)

theorem kcStop_base {c_ : List Instr × Tick × Tick × Bool} (k : Nat) (s : State) (h_ : s.base = c_) :
    (kcStop k s).base = c_ := by
  unfold kcStop
  repeat' (with_reducible first | assumption | rfl | apply State_setKc_base | dsimp only | split | intro)

theorem kcZero_base {c_ : List Instr × Tick × Tick × Bool} (k : Nat) (s : State) (h_ : s.base = c_) :
    (kcZero k s).base = c_ := by
  unfold kcZero
  repeat' (with_reducible first | assumption | rfl | apply raiseIf_base | apply State_setKc_base | dsimp only | split | intro)

theorem kcPer_base {c_ : List Instr × Tick × Tick × Bool} (k : Nat) (s : State) (h_ : s.base = c_) :
    (kcPer k s).base = c_ := by
  unfold kcPer
  repeat' (with_reducible first | assumption | rfl | apply raiseIf_base | apply State_setKc_base | dsimp only | split | intro)

theorem kcCmp_base {c_ : List Instr × Tick × Tick × Bool} (k : Nat) (s : State) (h_ : s.base = c_) :
    (kcCmp k s).base = c_ := by
  unfold kcCmp
  repeat' (with_reducible first | assumption | rfl | apply raiseIf_base | apply State_setKc_base | dsimp only | split | intro)

theorem kcReached_base {c_ : List Instr × Tick × Tick × Bool} (k : Nat) (s : State) (h_ : s.base = c_) :
    (kcReached k s).base = c_ := by
  unfold kcReached
  repeat' (with_reducible first | assumption | rfl | apply kcCmp_base | dsimp only | split | intro)

theorem kcNow_base {c_ : List Instr × Tick × Tick × Bool} (s : State) (h_ : s.base = c_) :
    (kcNow s).base = c_ := by
  unfold kcNow
  repeat' (with_reducible first | assumption | rfl | apply forEach_base | apply kcReached_base | dsimp only | split | intro)

theorem doKcPeriodBoundary_base {c_ : List Instr × Tick × Tick × Bool} (k per cmp : Nat) (s : State) (h_ : s.base = c_) :
    (doKcPeriodBoundary k per cmp s).base = c_ := by
  unfold doKcPeriodBoundary
  repeat' (with_reducible first | assumption | rfl | apply kcStop_base | apply kcPer_base | apply kcZero_base | apply State_setKc_base | dsimp only | split | intro)

theorem doKcTrigger_base {c_ : List Instr × Tick × Tick × Bool} (k j : Nat) (code : BitVec 12) (s : State) (h_ : s.base = c_) :
    (doKcTrigger k j code s).base = c_ := by
  unfold doKcTrigger
  repeat' (with_reducible first | assumption | rfl | apply State_setKc_base | apply State_setDgt_base | apply raiseIf_base | dsimp only | split | intro)

theorem timFollow_base {c_ : List Instr × Tick × Tick × Bool} (rec : TimOp → Nat → Tick → State → State) (op : TimOp) (n : Nat) (x : Tick) (m : Nat) (s : State)
    (h_r : ∀ o n x (s : State), s.base = c_ → (rec o n x s).base = c_) (h_ : s.base = c_) : (timFollow rec op n x m s).base = c_ := by
  unfold timFollow
  repeat' (with_reducible first | assumption | rfl | apply State_setTimer_base | apply h_r | dsimp only | split | intro)
theorem timAct_base {c_ : List Instr × Tick × Tick × Bool} (k : Nat) (op : TimOp) (n : Nat) (x : Tick) (s : State) (h_ : s.base = c_) : (timAct k op n x s).base = c_ := by
  induction k generalizing op n x s with
  | zero => cases op <;> exact h_
  | succ k ih =>
    cases op <;> simp only [timAct]
    all_goals
      refine foldl_base _ _ _ (fun s a h => timFollow_base _ _ _ _ _ _ ih h) ?_
      repeat' (with_reducible first | assumption | apply ih | apply State_setTimer_base | apply raiseIf_base | apply wake_base | dsimp only | split)

theorem timBefore_base {c_ : List Instr × Tick × Tick × Bool} (n : Nat) (x : Tick) (s : State) (h_ : s.base = c_) :
    (timBefore n x s).base = c_ := by
  unfold timBefore
  repeat' (with_reducible first | assumption | rfl | apply timAct_base | dsimp only | split | intro)

theorem doTimerStart_base {c_ : List Instr × Tick × Tick × Bool} (n : Nat) (s : State) (h_ : s.base = c_) :
    (doTimerStart n s).base = c_ := by
  unfold doTimerStart
  repeat' (with_reducible first | assumption | rfl | apply timBefore_base | apply State_setTimer_base | apply timAct_base | dsimp only | split | intro)

theorem doTimerStop_base {c_ : List Instr × Tick × Tick × Bool} (n : Nat) (s : State) (h_ : s.base = c_) :
    (doTimerStop n s).base = c_ := by
  unfold doTimerStop
  repeat' (with_reducible first | assumption | rfl | apply timBefore_base | apply State_setTimer_base | dsimp only | split | intro)

theorem doTimerTargetWrite_base {c_ : List Instr × Tick × Tick × Bool} (n : Nat) (target : Word) (s : State) (h_ : s.base = c_) :
    (doTimerTargetWrite n target s).base = c_ := by
  unfold doTimerTargetWrite
  repeat' (with_reducible first | assumption | rfl | apply timBefore_base | apply State_setTimer_base | apply timAct_base | dsimp only | split | intro)

theorem doTimGlbStart_base {c_ : List Instr × Tick × Tick × Bool} (mask : Nat) (s : State) (h_ : s.base = c_) :
    (doTimGlbStart mask s).base = c_ := by
  unfold doTimGlbStart
  repeat' (with_reducible first | assumption | rfl | apply forEach_base | apply doTimerStart_base | dsimp only | split | intro)

theorem doTimerExpiry_base {c_ : List Instr × Tick × Tick × Bool} (n : Nat) (s : State) (h_ : s.base = c_) :
    (doTimerExpiry n s).base = c_ := by
  unfold doTimerExpiry
  repeat' (with_reducible first | assumption | rfl | apply timAct_base | dsimp only | split | intro)

theorem captureAt_base {c_ : List Instr × Tick × Tick × Bool} (alive : Bool) (n : Nat) (stamp : Tick) (s : State) (h_ : s.base = c_) :
    (captureAt alive n stamp s).base = c_ := by
  unfold captureAt
  repeat' (with_reducible first | assumption | rfl | apply State_setTimer_base | apply raiseIf_base | dsimp only | split | intro)

theorem doCaptureEdge_base {c_ : List Instr × Tick × Tick × Bool} (n : Nat) (stamp : Tick) (rising : Bool) (s : State) (h_ : s.base = c_) :
    (doCaptureEdge n stamp rising s).base = c_ := by
  unfold doCaptureEdge
  repeat' (with_reducible first | assumption | rfl | apply State_setTimer_base | apply captureAt_base | apply timAct_base | dsimp only | split | intro)

theorem ktEnter_base {c_ : List Instr × Tick × Tick × Bool} (k : Nat) (st : KtState) (s : State) (h_ : s.base = c_) :
    (ktEnter k st s).base = c_ := by
  unfold ktEnter
  repeat' (with_reducible first | assumption | rfl | apply State_setKettle_base | apply fault_base | apply kcStop_base | apply raise_base | dsimp only | split | intro)

theorem ktUpdate_base {c_ : List Instr × Tick × Tick × Bool} (k : Nat) (s : State) (h_ : s.base = c_) :
    (ktUpdate k s).base = c_ := by
  unfold ktUpdate
  repeat' (with_reducible first | assumption | rfl | apply ktEnter_base | dsimp only | split | intro)

theorem ktLimit_base {c_ : List Instr × Tick × Tick × Bool} (k : Nat) (s : State) (h_ : s.base = c_) :
    (ktLimit k s).base = c_ := by
  unfold ktLimit
  repeat' (with_reducible first | assumption | rfl | apply State_setKettle_base | apply kcStop_base | dsimp only | split | intro)

theorem markFall_base {c_ : List Instr × Tick × Tick × Bool} (k : Nat) (s : State) (h_ : s.base = c_) :
    (markFall k s).base = c_ := by
  unfold markFall
  repeat' (with_reducible first | assumption | rfl | apply State_setKettle_base | dsimp only | split | intro)

theorem fallEnds_base {c_ : List Instr × Tick × Tick × Bool} (k : Nat) (s : State) (h_ : s.base = c_) :
    (fallEnds k s).base = c_ := by
  unfold fallEnds
  repeat' (with_reducible first | assumption | rfl | apply State_setKettle_base | dsimp only | split | intro)

theorem ktLimits_base {c_ : List Instr × Tick × Tick × Bool} (s : State) (h_ : s.base = c_) :
    (ktLimits s).base = c_ := by
  unfold ktLimits
  repeat' (with_reducible first | assumption | rfl | apply forEach_base | apply ktLimit_base | dsimp only | split | intro)

theorem ktTargetNow_base {c_ : List Instr × Tick × Tick × Bool} (k : Nat) (s : State) (h_ : s.base = c_) :
    (ktTargetNow k s).base = c_ := by
  unfold ktTargetNow
  repeat' (with_reducible first | assumption | rfl | apply ktUpdate_base | apply State_setKettle_base | dsimp only | split | intro)

theorem ktPassed_base {c_ : List Instr × Tick × Tick × Bool} (k i : Nat) (s : State) (h_ : s.base = c_) :
    (ktPassed k i s).base = c_ := by
  unfold ktPassed
  repeat' (with_reducible first | assumption | rfl | apply ktTargetNow_base | apply State_setKettle_base | dsimp only | split | intro)

theorem ktRelease_base {c_ : List Instr × Tick × Tick × Bool} (k amount : Nat) (s : State) (h_ : s.base = c_) :
    (ktRelease k amount s).base = c_ := by
  unfold ktRelease
  repeat' (with_reducible first | assumption | rfl | apply State_setKettle_base | dsimp only | split | intro)

theorem digitiserBusy_base {c_ : List Instr × Tick × Tick × Bool} (k : Nat) (s : State) (h_ : s.base = c_) :
    (digitiserBusy k s).base = c_ := by
  unfold digitiserBusy
  repeat' (with_reducible first | assumption | rfl | apply State_setDch_base | apply State_setDgt_base | dsimp only | split | intro)

theorem takeCapture_base {c_ : List Instr × Tick × Tick × Bool} (k : Nat) (off : Tick) (c : Capture) (s : State) (h_ : s.base = c_) :
    (takeCapture k off c s).base = c_ := by
  unfold takeCapture
  repeat' (with_reducible first | assumption | rfl | apply State_setDgt_base | dsimp only | split | intro)

theorem beginCapture_base {c_ : List Instr × Tick × Tick × Bool} (k : Nat) (off : Tick) (s : State) (h_ : s.base = c_) :
    (beginCapture k off s).base = c_ := by
  unfold beginCapture
  repeat' (with_reducible first | assumption | rfl | apply digitiserBusy_base | apply takeCapture_base | apply State_setDgt_base | dsimp only | split | intro)

theorem peakOver_base {c_ : List Instr × Tick × Tick × Bool} (k energyUj : Nat) (s : State) (h_ : s.base = c_) :
    (peakOver k energyUj s).base = c_ := by
  unfold peakOver
  repeat' (with_reducible first | assumption | rfl | apply ktRelease_base | apply State_setChan_base | apply ktPassed_base | dsimp only | split | intro)

theorem bankEdge_base {c_ : List Instr × Tick × Tick × Bool} (b : Nat) (x : Tick) (s : State) (h_ : s.base = c_) :
    (bankEdge b x s).base = c_ := by
  unfold bankEdge
  repeat' (with_reducible first | assumption | rfl | apply State_setBank_base | dsimp only | split | intro)

theorem turnOff_base {c_ : List Instr × Tick × Tick × Bool} (k : Nat) (off : Tick) (lastEnd energyUj : Nat) (s : State) (h_ : s.base = c_) :
    (turnOff k off lastEnd energyUj s).base = c_ := by
  unfold turnOff
  repeat' (with_reducible first | assumption | rfl | apply peakOver_base | apply State_setChan_base | apply beginCapture_base | apply bankEdge_base | dsimp only | split | intro)

theorem endAt_base {c_ : List Instr × Tick × Tick × Bool} (cause : Nat) (off : Tick) (k : Nat) (s : State) (h_ : s.base = c_) :
    (endAt cause off k s).base = c_ := by
  unfold endAt
  repeat' (with_reducible first | assumption | rfl | apply turnOff_base | apply raise_base | apply State_setChan_base | dsimp only | split | intro)

theorem endEarly_base {c_ : List Instr × Tick × Tick × Bool} (cause k : Nat) (s : State) (h_ : s.base = c_) :
    (endEarly cause k s).base = c_ := by
  unfold endEarly
  repeat' (with_reducible first | assumption | rfl | apply endAt_base | dsimp only | split | intro)

theorem endAll_base {c_ : List Instr × Tick × Tick × Bool} (cause : Nat) (s : State) (h_ : s.base = c_) :
    (endAll cause s).base = c_ := by
  unfold endAll
  repeat' (with_reducible first | assumption | rfl | apply forEach_base | apply endEarly_base | dsimp only | split | intro)

theorem endBank_base {c_ : List Instr × Tick × Tick × Bool} (cause b : Nat) (s : State) (h_ : s.base = c_) :
    (endBank cause b s).base = c_ := by
  unfold endBank
  repeat' (with_reducible first | assumption | rfl | apply forEach_base | apply endEarly_base | dsimp only | split | intro)

theorem stopTests_base {c_ : List Instr × Tick × Tick × Bool} (p : Nat → Bool) (s : State) (h_ : s.base = c_) :
    (stopTests p s).base = c_ := by
  unfold stopTests
  repeat' (with_reducible first | assumption | rfl | apply forEach_base | apply State_setDch_base | dsimp only | split | intro)

theorem recordDrop_base {c_ : List Instr × Tick × Tick × Bool} (i : Nat) (e : Event) (ch reason detail : Nat) (s : State) (h_ : s.base = c_) :
    (recordDrop i e ch reason detail s).base = c_ := by
  unfold recordDrop
  repeat' (with_reducible first | assumption | rfl | apply State_memWrite_base | apply raiseIf_base | apply raise_base | apply State_setBank_base | apply mirror_base | dsimp only | split | intro)

theorem freeSlot_base {c_ : List Instr × Tick × Tick × Bool} (i : Nat) (s : State) (h_ : s.base = c_) :
    (freeSlot i s).base = c_ := by
  unfold freeSlot
  repeat' (with_reducible first | assumption | rfl | apply State_setSlot_base | apply ktPassed_base | apply ktRelease_base | dsimp only | split | intro)

theorem dropEvent_base {c_ : List Instr × Tick × Tick × Bool} (reason detail i : Nat) (s : State) (h_ : s.base = c_) :
    (dropEvent reason detail i s).base = c_ := by
  unfold dropEvent
  repeat' (with_reducible first | assumption | rfl | apply notice_base | apply freeSlot_base | apply recordDrop_base | dsimp only | split | intro)

theorem withdraw_base {c_ : List Instr × Tick × Tick × Bool} (reason i : Nat) (s : State) (h_ : s.base = c_) :
    (withdraw reason i s).base = c_ := by
  unfold withdraw
  repeat' (with_reducible first | assumption | rfl | apply dropEvent_base | dsimp only | split | intro)

theorem withdrawAll_base {c_ : List Instr × Tick × Tick × Bool} (reason : Nat) (s : State) (h_ : s.base = c_) :
    (withdrawAll reason s).base = c_ := by
  unfold withdrawAll
  repeat' (with_reducible first | assumption | rfl | apply forEach_base | apply dropEvent_base | dsimp only | split | intro)

theorem dropPending_base {c_ : List Instr × Tick × Tick × Bool} (reason : Nat) (s : State) (h_ : s.base = c_) :
    (dropPending reason s).base = c_ := by
  unfold dropPending
  repeat' (with_reducible first | assumption | rfl | apply forEach_base | apply withdraw_base | apply dropEvent_base | dsimp only | split | intro)

theorem safeEntry_base {c_ : List Instr × Tick × Tick × Bool} (src : Nat) (byGrace : Bool) (s : State) (h_ : s.base = c_) :
    (safeEntry src byGrace s).base = c_ := by
  unfold safeEntry
  repeat' (with_reducible first | assumption | rfl | apply forEach_base | apply dropEvent_base | apply endAll_base | apply ktUpdate_base | apply ebAllOff_base | apply stopTests_base | apply raise_base | apply mirrorState_base | apply log_base | dsimp only | split | intro)

theorem faultRecord_base {c_ : List Instr × Tick × Tick × Bool} (n c : Nat) (s : State) (h_ : s.base = c_) :
    (faultRecord n c s).base = c_ := by
  unfold faultRecord
  repeat' (with_reducible first | assumption | rfl | dsimp only | split | intro)

theorem graceReaction_base {c_ : List Instr × Tick × Tick × Bool} (n : Nat) (s : State) (h_ : s.base = c_) :
    (graceReaction n s).base = c_ := by
  unfold graceReaction
  repeat' (with_reducible first | assumption | rfl | apply raise_base | dsimp only | split | intro)

theorem reaction_base {c_ : List Instr × Tick × Tick × Bool} (n c : Nat) (s : State) (h_ : s.base = c_) :
    (reaction n c s).base = c_ := by
  unfold reaction
  repeat' (with_reducible first | assumption | rfl | apply graceReaction_base | apply safeEntry_base | dsimp only | split | intro)

theorem fault_base {c_ : List Instr × Tick × Tick × Bool} (n : Nat) (s : State) (h_ : s.base = c_) :
    (fault n s).base = c_ := by
  unfold fault
  repeat' (with_reducible first | assumption | rfl | apply raise_base | apply faultRecord_base | apply mirror_base | apply reaction_base | apply wake_base | apply log_base | dsimp only | split | intro)

theorem faultOnset_base {c_ : List Instr × Tick × Tick × Bool} (n : Nat) (s : State) (h_ : s.base = c_) :
    (faultOnset n s).base = c_ := by
  unfold faultOnset
  repeat' (with_reducible first | assumption | rfl | apply fault_base | dsimp only | split | intro)

theorem faultEnd_base {c_ : List Instr × Tick × Tick × Bool} (n : Nat) (s : State) (h_ : s.base = c_) :
    (faultEnd n s).base = c_ := by
  unfold faultEnd
  repeat' (with_reducible first | assumption | rfl | dsimp only | split | intro)

theorem calReport_base {c_ : List Instr × Tick × Tick × Bool} (c : Bool) (item source : Nat) (s : State) (h_ : s.base = c_) :
    (calReport c item source s).base = c_ := by
  unfold calReport
  repeat' (with_reducible first | assumption | rfl | apply raise_base | apply log_base | dsimp only | split | intro)

theorem ktFault_base {c_ : List Instr × Tick × Tick × Bool} (k : Nat) (s : State) (h_ : s.base = c_) :
    (ktFault k s).base = c_ := by
  unfold ktFault
  repeat' (with_reducible first | assumption | rfl | apply fault_base | apply ktUpdate_base | apply State_setKettle_base | dsimp only | split | intro)

theorem acknowledge_base {c_ : List Instr × Tick × Tick × Bool} (w : Nat) (mask : Word) (s : State) (h_ : s.base = c_) :
    (acknowledge w mask s).base = c_ := by
  unfold acknowledge
  repeat' (with_reducible first | assumption | rfl | apply raise_base | dsimp only | split | intro)

theorem graceDue_base {c_ : List Instr × Tick × Tick × Bool} (s : State) (h_ : s.base = c_) :
    (graceDue s).base = c_ := by
  unfold graceDue
  repeat' (with_reducible first | assumption | rfl | apply safeEntry_base | dsimp only | split | intro)

theorem setSpeed_base {c_ : List Instr × Tick × Tick × Bool} (v : Nat) (s : State) (h_ : s.base = c_) :
    (setSpeed v s).base = c_ := by
  unfold setSpeed
  repeat' (with_reducible first | assumption | rfl | apply raiseIf_base | dsimp only | split | intro)

theorem speedNow_base {c_ : List Instr × Tick × Tick × Bool} (s : State) (h_ : s.base = c_) :
    (speedNow s).base = c_ := by
  unfold speedNow
  repeat' (with_reducible first | assumption | rfl | apply setSpeed_base | dsimp only | split | intro)

theorem doSpeedRecompute_base {c_ : List Instr × Tick × Tick × Bool} (s : State) (h_ : s.base = c_) :
    (doSpeedRecompute s).base = c_ := by
  unfold doSpeedRecompute
  repeat' (with_reducible first | assumption | rfl | apply speedNow_base | dsimp only | split | intro)

theorem endWaita_base {c_ : List Instr × Tick × Tick × Bool} (code i : Nat) (s : State) (h_ : s.base = c_) :
    (endWaita code i s).base = c_ := by
  unfold endWaita
  repeat' (with_reducible first | assumption | rfl | apply makeReady_base | apply State_setCtx_base | apply setReg_base | dsimp only | split | intro)

theorem endWaitas_base {c_ : List Instr × Tick × Tick × Bool} (code : Nat) (s : State) (h_ : s.base = c_) :
    (endWaitas code s).base = c_ := by
  unfold endWaitas
  repeat' (with_reducible first | assumption | rfl | apply forEach_base | apply endWaita_base | dsimp only | split | intro)

theorem passContext_base {c_ : List Instr × Tick × Tick × Bool} (swept : Bool) (len lo hi i : Nat) (s : State) (h_ : s.base = c_) :
    (passContext swept len lo hi i s).base = c_ := by
  unfold passContext
  repeat' (with_reducible first | assumption | rfl | apply endWaita_base | apply repeatN_base | apply activate_base | dsimp only | split | intro)

theorem passRange_base {c_ : List Instr × Tick × Tick × Bool} (swept : Bool) (lo hi : Nat) (s : State) (h_ : s.base = c_) :
    (passRange swept lo hi s).base = c_ := by
  unfold passRange
  repeat' (with_reducible first | assumption | rfl | apply forEach_base | apply passContext_base | dsimp only | split | intro)

theorem passTo_base {c_ : List Instr × Tick × Tick × Bool} (x : Tick) (s : State) (h_ : s.base = c_) :
    (passTo x s).base = c_ := by
  unfold passTo
  repeat' (with_reducible first | assumption | rfl | apply passRange_base | dsimp only | split | intro)

theorem watchHere_base {c_ : List Instr × Tick × Tick × Bool} (s : State) (h_ : s.base = c_) :
    (watchHere s).base = c_ := by
  unfold watchHere
  repeat' (with_reducible first | assumption | rfl | dsimp only | split | intro)

theorem doAnglePassed_base {c_ : List Instr × Tick × Tick × Bool} (angle : Word) (s : State) (h_ : s.base = c_) :
    (doAnglePassed angle s).base = c_ := by
  unfold doAnglePassed
  repeat' (with_reducible first | assumption | rfl | apply passRange_base | dsimp only | split | intro)

theorem joinNear_base {c_ : List Instr × Tick × Tick × Bool} (i : Nat) (s : State) (h_ : s.base = c_) :
    (joinNear i s).base = c_ := by
  unfold joinNear
  repeat' (with_reducible first | assumption | rfl | apply State_setSlot_base | dsimp only | split | intro)

theorem nearFill_base {c_ : List Instr × Tick × Tick × Bool} (s : State) (h_ : s.base = c_) :
    (nearFill s).base = c_ := by
  unfold nearFill
  repeat' (with_reducible first | assumption | rfl | apply forEach_base | apply joinNear_base | dsimp only | split | intro)

theorem dropPassedWaiting_base {c_ : List Instr × Tick × Tick × Bool} (s : State) (h_ : s.base = c_) :
    (dropPassedWaiting s).base = c_ := by
  unfold dropPassedWaiting
  repeat' (with_reducible first | assumption | rfl | apply forEach_base | apply dropEvent_base | dsimp only | split | intro)

theorem nearOverflow_base {c_ : List Instr × Tick × Tick × Bool} (s : State) (h_ : s.base = c_) :
    (nearOverflow s).base = c_ := by
  unfold nearOverflow
  repeat' (with_reducible first | assumption | rfl | apply raise_base | dsimp only | split | intro)

theorem joinPass_base {c_ : List Instr × Tick × Tick × Bool} (i : Nat) (s : State) (h_ : s.base = c_) :
    (joinPass i s).base = c_ := by
  unfold joinPass
  repeat' (with_reducible first | assumption | rfl | apply State_setSlot_base | dsimp only | split | intro)

theorem startPass_base {c_ : List Instr × Tick × Tick × Bool} (admitted : List Nat) (s : State) (h_ : s.base = c_) :
    (startPass admitted s).base = c_ := by
  unfold startPass
  repeat' (with_reducible first | assumption | rfl | dsimp only | split | intro)

theorem predictionChanged_base {c_ : List Instr × Tick × Tick × Bool} (s : State) (h_ : s.base = c_) :
    (predictionChanged s).base = c_ := by
  unfold predictionChanged
  repeat' (with_reducible first | assumption | rfl | apply nearOverflow_base | apply dropPassedWaiting_base | apply startPass_base | apply forEach_base | apply joinPass_base | dsimp only | split | intro)

theorem leavePass_base {c_ : List Instr × Tick × Tick × Bool} (i : Nat) (s : State) (h_ : s.base = c_) :
    (leavePass i s).base = c_ := by
  unfold leavePass
  repeat' (with_reducible first | assumption | rfl | dsimp only | split | intro)

theorem refuseInsertion_base {c_ : List Instr × Tick × Tick × Bool} (res : Nat) (s : State) (h_ : s.base = c_) :
    (refuseInsertion res s).1.base = c_ := by
  unfold refuseInsertion
  repeat' (with_reducible first | assumption | rfl | dsimp only | split | intro)

theorem dropAtInsertion_base {c_ : List Instr × Tick × Tick × Bool} (res reason detail i : Nat) (e : Event) (s : State) (h_ : s.base = c_) :
    (dropAtInsertion res reason detail i e s).1.base = c_ := by
  unfold dropAtInsertion
  repeat' (with_reducible first | assumption | rfl | apply recordDrop_base | apply State_setSlot_base | apply notice_base | dsimp only | split | intro)

theorem placeEvent_base {c_ : List Instr × Tick × Tick × Bool} (i : Nat) (e : Event) (s : State) (h_ : s.base = c_) :
    (placeEvent i e s).1.base = c_ := by
  unfold placeEvent
  repeat' (with_reducible first | assumption | rfl | apply leavePass_base | apply dropAtInsertion_base | apply State_setSlot_base | dsimp only | split | intro)

theorem insertEvent_base {c_ : List Instr × Tick × Tick × Bool} (owner : Nat) (w0 w1 w2 : Word) (s : State) (h_ : s.base = c_) :
    (insertEvent owner w0 w1 w2 s).1.base = c_ := by
  unfold insertEvent
  repeat' (with_reducible first | assumption | rfl | apply refuseInsertion_base | apply raise_base | apply placeEvent_base | dsimp only | split | intro)

theorem aimPlace_base {c_ : List Instr × Tick × Tick × Bool} (i : Nat) (e : Event) (wasNear near : Bool) (s : State) (h_ : s.base = c_) :
    (aimPlace i e wasNear near s).base = c_ := by
  unfold aimPlace
  repeat' (with_reducible first | assumption | rfl | apply State_setSlot_base | apply nearFill_base | dsimp only | split | intro)

theorem aimLive_base {c_ : List Instr × Tick × Tick × Bool} (i : Nat) (target w2 : Word) (s : State) (h_ : s.base = c_) :
    (aimLive i target w2 s).1.base = c_ := by
  unfold aimLive
  repeat' (with_reducible first | assumption | rfl | apply leavePass_base | apply State_setSlot_base | apply nearFill_base | apply dropEvent_base | apply aimPlace_base | dsimp only | split | intro)

theorem aimEvent_base {c_ : List Instr × Tick × Tick × Bool} (owner : Nat) (h target w2 : Word) (s : State) (h_ : s.base = c_) :
    (aimEvent owner h target w2 s).1.base = c_ := by
  unfold aimEvent
  repeat' (with_reducible first | assumption | rfl | apply aimLive_base | dsimp only | split | intro)

theorem cancelSlot_base {c_ : List Instr × Tick × Tick × Bool} (i : Nat) (s : State) (h_ : s.base = c_) :
    (cancelSlot i s).base = c_ := by
  unfold cancelSlot
  repeat' (with_reducible first | assumption | rfl | apply freeSlot_base | dsimp only | split | intro)

theorem cancelEvent_base {c_ : List Instr × Tick × Tick × Bool} (owner : Nat) (h : Word) (s : State) (h_ : s.base = c_) :
    (cancelEvent owner h s).1.base = c_ := by
  unfold cancelEvent
  repeat' (with_reducible first | assumption | rfl | apply cancelSlot_base | apply nearFill_base | dsimp only | split | intro)

theorem haltCancel_base {c_ : List Instr × Tick × Tick × Bool} (q : Nat) (s : State) (h_ : s.base = c_) :
    (haltCancel q s).base = c_ := by
  unfold haltCancel
  repeat' (with_reducible first | assumption | rfl | apply nearFill_base | apply forEach_base | apply cancelSlot_base | dsimp only | split | intro)

theorem answer_base {c_ : List Instr × Tick × Tick × Bool} (i d b : Nat) (isInsertion : Bool) (r : State × Answer) (h_ : r.1.base = c_) :
    (answer i d b isInsertion r).base = c_ := by
  unfold answer
  repeat' (with_reducible first | assumption | rfl | apply State_setCtx_base | apply notice_base | dsimp only | split | intro)

theorem served_base {c_ : List Instr × Tick × Tick × Bool} (q : Nat) (s : State) (h_ : s.base = c_) :
    (served q s).base = c_ := by
  unfold served
  repeat' (with_reducible first | assumption | rfl | dsimp only | split | intro)

theorem doEventInsertion_base {c_ : List Instr × Tick × Tick × Bool} (q p : Nat) (s : State) (h_ : s.base = c_) :
    (doEventInsertion q p s).base = c_ := by
  unfold doEventInsertion
  repeat' (with_reducible first | assumption | rfl | apply answer_base | apply insertEvent_base | apply served_base | dsimp only | split | intro)

theorem doEventAim_base {c_ : List Instr × Tick × Tick × Bool} (q p : Nat) (s : State) (h_ : s.base = c_) :
    (doEventAim q p s).base = c_ := by
  unfold doEventAim
  repeat' (with_reducible first | assumption | rfl | apply answer_base | apply aimEvent_base | apply served_base | dsimp only | split | intro)

theorem doEventCancel_base {c_ : List Instr × Tick × Tick × Bool} (q p : Nat) (s : State) (h_ : s.base = c_) :
    (doEventCancel q p s).base = c_ := by
  unfold doEventCancel
  repeat' (with_reducible first | assumption | rfl | apply answer_base | apply cancelEvent_base | apply served_base | dsimp only | split | intro)

theorem abortTests_base {c_ : List Instr × Tick × Tick × Bool} (ch : Nat) (s : State) (h_ : s.base = c_) :
    (abortTests ch s).base = c_ := by
  unfold abortTests
  repeat' (with_reducible first | assumption | rfl | apply stopTests_base | dsimp only | split | intro)

theorem arm_base {c_ : List Instr × Tick × Tick × Bool} (i : Nat) (e : Event) (s : State) (h_ : s.base = c_) :
    (arm i e s).base = c_ := by
  unfold arm
  repeat' (with_reducible first | assumption | rfl | apply State_setKettle_base | apply State_setSlot_base | dsimp only | split | intro)

theorem doCommit_base {c_ : List Instr × Tick × Tick × Bool} (i : Nat) (armAt : Tick) (s : State) (h_ : s.base = c_) :
    (doCommit i armAt s).base = c_ := by
  unfold doCommit
  repeat' (with_reducible first | assumption | rfl | apply abortTests_base | apply nearFill_base | apply arm_base | apply dropEvent_base | apply State_setSlot_base | dsimp only | split | intro)

theorem commitInPass_base {c_ : List Instr × Tick × Tick × Bool} (i : Nat) (s : State) (h_ : s.base = c_) :
    (commitInPass i s).base = c_ := by
  unfold commitInPass
  repeat' (with_reducible first | assumption | rfl | apply doCommit_base | dsimp only | split | intro)

theorem reaimOne_base {c_ : List Instr × Tick × Tick × Bool} (i : Nat) (s : State) (h_ : s.base = c_) :
    (reaimOne i s).base = c_ := by
  unfold reaimOne
  repeat' (with_reducible first | assumption | rfl | apply leavePass_base | apply nearFill_base | apply dropEvent_base | apply commitInPass_base | apply State_setSlot_base | dsimp only | split | intro)

theorem passStep_base {c_ : List Instr × Tick × Tick × Bool} (i : Nat) (s : State) (h_ : s.base = c_) : (passStep i s).base = c_ := by
  subst h_
  have h := reaimOne_base i { s with etc := passNext s, evs.passRank := s.evs.passRank + 1 } rfl
  simp only [State.base, Prod.mk.injEq] at h
  unfold passStep
  simp only [State.base, Prod.mk.injEq]
  exact ⟨h.1, trivial, h.2.2⟩

theorem passRun_base {c_ : List Instr × Tick × Tick × Bool} (l : List Nat) (s : State) (h_ : s.base = c_) : (passRun l s).base = c_ := by
  induction l generalizing s with
  | nil => exact h_
  | cons i r ih =>
    unfold passRun
    split
    · exact ih _ (passStep_base _ _ h_)
    · exact h_
theorem passNow_base {c_ : List Instr × Tick × Tick × Bool} (s : State) (h_ : s.base = c_) :
    (passNow s).base = c_ := by
  unfold passNow
  exact passRun_base _ _ h_

theorem quarantine_base {c_ : List Instr × Tick × Tick × Bool} (i : Nat) (s : State) (h_ : s.base = c_) :
    (quarantine i s).base = c_ := by
  unfold quarantine
  repeat' (with_reducible first | assumption | rfl | apply State_setSlot_base | apply fault_base | apply raise_base | dsimp only | split | intro)

theorem quarantineLate_base {c_ : List Instr × Tick × Tick × Bool} (i : Nat) (s : State) (h_ : s.base = c_) :
    (quarantineLate i s).base = c_ := by
  unfold quarantineLate
  repeat' (with_reducible first | assumption | rfl | apply State_setSlot_base | apply fault_base | apply raise_base | dsimp only | split | intro)

theorem doEventTableEccError_base {c_ : List Instr × Tick × Tick × Bool} (i : Nat) (part : EccPart) (s : State) (h_ : s.base = c_) :
    (doEventTableEccError i part s).base = c_ := by
  unfold doEventTableEccError
  repeat' (with_reducible first | assumption | rfl | apply quarantine_base | apply quarantineLate_base | apply recordDrop_base | apply notice_base | apply freeSlot_base | apply nearFill_base | dsimp only | split | intro)

theorem caddyJob_base {c_ : List Instr × Tick × Tick × Bool} (j : CaddyJob) (s : State) (h_ : s.base = c_) :
    (caddyJob j s).base = c_ := by
  unfold caddyJob
  repeat' (with_reducible first | assumption | rfl | dsimp only | split | intro)

theorem spoilRecords_base {c_ : List Instr × Tick × Tick × Bool} (reason : Nat) (s : State) (h_ : s.base = c_) :
    (spoilRecords reason s).base = c_ := by
  unfold spoilRecords
  repeat' (with_reducible first | assumption | rfl | apply raise_base | dsimp only | split | intro)

theorem qsInvalidate_base {c_ : List Instr × Tick × Tick × Bool} (reason : Nat) (s : State) (h_ : s.base = c_) :
    (qsInvalidate reason s).base = c_ := by
  unfold qsInvalidate
  repeat' (with_reducible first | assumption | rfl | apply raise_base | apply caddyJob_base | dsimp only | split | intro)

theorem dropHeld_base {c_ : List Instr × Tick × Tick × Bool} (reason : Nat) (s : State) (h_ : s.base = c_) :
    (dropHeld reason s).base = c_ := by
  unfold dropHeld
  repeat' (with_reducible first | assumption | rfl | apply qsInvalidate_base | dsimp only | split | intro)

theorem clearMap_base {c_ : List Instr × Tick × Tick × Bool} (s : State) (h_ : s.base = c_) :
    (clearMap s).base = c_ := by
  unfold clearMap
  repeat' (with_reducible first | assumption | rfl | apply raise_base | dsimp only | split | intro)

theorem offInputs_base {c_ : List Instr × Tick × Tick × Bool} (s : State) (h_ : s.base = c_) :
    (offInputs s).base = c_ := by
  unfold offInputs
  repeat' (with_reducible first | assumption | rfl | apply forEach_base | apply State_setWheel_base | dsimp only | split | intro)

theorem wheelApplied_base {c_ : List Instr × Tick × Tick × Bool} (old : Block) (s : State) (h_ : s.base = c_) :
    (wheelApplied old s).base = c_ := by
  unfold wheelApplied
  repeat' (with_reducible first | assumption | rfl | apply offInputs_base | apply qsInvalidate_base | apply spoilRecords_base | apply clearMap_base | dsimp only | split | intro)

theorem bankMode_base {c_ : List Instr × Tick × Tick × Bool} (b : Nat) (s : State) (h_ : s.base = c_) :
    (bankMode b s).base = c_ := by
  unfold bankMode
  repeat' (with_reducible first | assumption | rfl | apply State_setBank_base | apply raise_base | dsimp only | split | intro)

theorem kettleTarget_base {c_ : List Instr × Tick × Tick × Bool} (k : Nat) (s : State) (h_ : s.base = c_) :
    (kettleTarget k s).base = c_ := by
  unfold kettleTarget
  repeat' (with_reducible first | assumption | rfl | apply State_setKettle_base | apply ktTargetNow_base | dsimp only | split | intro)

theorem driveApplied_base {c_ : List Instr × Tick × Tick × Bool} (s : State) (h_ : s.base = c_) :
    (driveApplied s).base = c_ := by
  unfold driveApplied
  repeat' (with_reducible first | assumption | rfl | apply forEach_base | apply bankMode_base | apply ktLimits_base | apply kettleTarget_base | dsimp only | split | intro)

theorem mirrorApplied_base {c_ : List Instr × Tick × Tick × Bool} (old : Nat) (s : State) (h_ : s.base = c_) :
    (mirrorApplied old s).base = c_ := by
  unfold mirrorApplied
  repeat' (with_reducible first | assumption | rfl | apply raiseIf_base | dsimp only | split | intro)

theorem vbakCheck_base {c_ : List Instr × Tick × Tick × Bool} (s : State) (h_ : s.base = c_) :
    (vbakCheck s).base = c_ := by
  unfold vbakCheck
  repeat' (with_reducible first | assumption | rfl | apply faultOnset_base | apply faultEnd_base | dsimp only | split | intro)

theorem groupEffect_base {c_ : List Instr × Tick × Tick × Bool} (old : Block) (g : Nat) (s : State) (h_ : s.base = c_) :
    (groupEffect old g s).base = c_ := by
  unfold groupEffect
  repeat' (with_reducible first | assumption | rfl | apply vbakCheck_base | apply ktLimits_base | apply wheelApplied_base | apply driveApplied_base | apply tripsApplied_base | apply mirrorApplied_base | dsimp only | split | intro)

theorem groupReport_base {c_ : List Instr × Tick × Tick × Bool} (g : Nat) (s : State) (h_ : s.base = c_) :
    (groupReport g s).base = c_ := by
  unfold groupReport
  repeat' (with_reducible first | assumption | rfl | apply log_base | apply raise_base | dsimp only | split | intro)

theorem applyGroups_base {c_ : List Instr × Tick × Tick × Bool} (m : Nat) (s : State) (h_ : s.base = c_) :
    (applyGroups m s).base = c_ := by
  unfold applyGroups
  repeat' (with_reducible first | assumption | rfl | apply forEach_base | apply groupEffect_base | apply groupReport_base | apply foldl_base | apply foldl1_base | dsimp only | split | intro)

theorem applyPending_base {c_ : List Instr × Tick × Tick × Bool} (m : Nat) (s : State) (h_ : s.base = c_) :
    (applyPending m s).base = c_ := by
  unfold applyPending
  repeat' (with_reducible first | assumption | rfl | apply applyGroups_base | dsimp only | split | intro)

theorem envelopeBoundary_base {c_ : List Instr × Tick × Tick × Bool} (s : State) (h_ : s.base = c_) :
    (envelopeBoundary s).base = c_ := by
  unfold envelopeBoundary
  repeat' (with_reducible first | assumption | rfl | apply raise_base | dsimp only | split | intro)

theorem logCycle_base {c_ : List Instr × Tick × Tick × Bool} (r : CycleRec) (s : State) (h_ : s.base = c_) :
    (logCycle r s).base = c_ := by
  unfold logCycle
  repeat' (with_reducible first | assumption | rfl | apply logAppend_base | dsimp only | split | intro)

theorem camError_base {c_ : List Instr × Tick × Tick × Bool} (s : State) (h_ : s.base = c_) :
    (camError s).base = c_ := by
  unfold camError
  repeat' (with_reducible first | assumption | rfl | apply raise_base | dsimp only | split | intro)

theorem camLearned_base {c_ : List Instr × Tick × Tick × Bool} (s : State) (h_ : s.base = c_) :
    (camLearned s).base = c_ := by
  unfold camLearned
  repeat' (with_reducible first | assumption | rfl | dsimp only | split | intro)

theorem camCycleCheck_base {c_ : List Instr × Tick × Tick × Bool} (s : State) (h_ : s.base = c_) :
    (camCycleCheck s).base = c_ := by
  unfold camCycleCheck
  repeat' (with_reducible first | assumption | rfl | apply repeatN_base | apply camError_base | apply raiseIf_base | apply foldl_base | apply foldl1_base | dsimp only | split | intro)

theorem camCycle_base {c_ : List Instr × Tick × Tick × Bool} (s : State) (h_ : s.base = c_) :
    (camCycle s).base = c_ := by
  unfold camCycle
  repeat' (with_reducible first | assumption | rfl | apply camLearned_base | apply camCycleCheck_base | dsimp only | split | intro)

theorem purge_base {c_ : List Instr × Tick × Tick × Bool} (tag : Nat) (s : State) (h_ : s.base = c_) :
    (purge tag s).base = c_ := by
  unfold purge
  repeat' (with_reducible first | assumption | rfl | apply forEach_base | apply dropEvent_base | apply withdraw_base | apply raiseIf_base | dsimp only | split | intro)

theorem cycleBoundary_base {c_ : List Instr × Tick × Tick × Bool} (x : Tick) (s : State) (h_ : s.base = c_) :
    (cycleBoundary x s).base = c_ := by
  unfold cycleBoundary
  repeat' (with_reducible first | assumption | rfl | apply camCycle_base | apply purge_base | apply logCycle_base | apply envelopeBoundary_base | apply applyPending_base | dsimp only | split | intro)

theorem stepsDone_base {c_ : List Instr × Tick × Tick × Bool} (s : State) (h_ : s.base = c_) :
    (stepsDone s).base = c_ := by
  unfold stepsDone
  repeat' (with_reducible first | assumption | rfl | apply latchAll_base | apply mirrorState_base | apply raise_base | dsimp only | split | intro)

theorem crossForward_base {c_ : List Instr × Tick × Tick × Bool} (x : Tick) (s : State) (h_ : s.base = c_) :
    (crossForward x s).base = c_ := by
  unfold crossForward
  repeat' (with_reducible first | assumption | rfl | apply cycleBoundary_base | dsimp only | split | intro)

theorem learnEntry_base {c_ : List Instr × Tick × Tick × Bool} (eps : Int) (gain : Nat) (i : Nat) (s : State) (h_ : s.base = c_) :
    (learnEntry eps gain i s).base = c_ := by
  unfold learnEntry
  repeat' (with_reducible first | assumption | rfl | dsimp only | split | intro)

theorem learnStep_base {c_ : List Instr × Tick × Tick × Bool} (pRaw j n rc : Nat) (s : State) (h_ : s.base = c_) :
    (learnStep pRaw j n rc s).base = c_ := by
  unfold learnStep
  repeat' (with_reducible first | assumption | rfl | apply raise_base | apply forEach_base | apply learnEntry_base | dsimp only | split | intro)

theorem lensLearn_base {c_ : List Instr × Tick × Tick × Bool} (t : Tick) (j n pRaw : Nat) (s : State) (h_ : s.base = c_) :
    (lensLearn t j n pRaw s).base = c_ := by
  unfold lensLearn
  repeat' (with_reducible first | assumption | rfl | apply learnStep_base | dsimp only | split | intro)

theorem notLearned_base {c_ : List Instr × Tick × Tick × Bool} (s : State) (h_ : s.base = c_) :
    (notLearned s).base = c_ := by
  unfold notLearned
  repeat' (with_reducible first | assumption | rfl | dsimp only | split | intro)

theorem sweepEvents_base {c_ : List Instr × Tick × Tick × Bool} (lo hi : Nat) (s : State) (h_ : s.base = c_) :
    (sweepEvents lo hi s).base = c_ := by
  unfold sweepEvents
  repeat' (with_reducible first | assumption | rfl | apply forEach_base | apply dropEvent_base | apply withdraw_base | apply raiseIf_base | dsimp only | split | intro)

theorem sweep_base {c_ : List Instr × Tick × Tick × Bool} (lo hi : Nat) (s : State) (h_ : s.base = c_) :
    (sweep lo hi s).base = c_ := by
  unfold sweep
  repeat' (with_reducible first | assumption | rfl | apply passRange_base | apply sweepEvents_base | dsimp only | split | intro)

theorem lensMove_base {c_ : List Instr × Tick × Tick × Bool} (old : Nat) (t : Tick) (s : State) (h_ : s.base = c_) :
    (lensMove old t s).base = c_ := by
  unfold lensMove
  repeat' (with_reducible first | assumption | rfl | apply watchHere_base | apply sweep_base | apply passRange_base | apply crossForward_base | dsimp only | split | intro)

theorem newPrediction_base {c_ : List Instr × Tick × Tick × Bool} (s : State) (h_ : s.base = c_) :
    (newPrediction s).base = c_ := by
  unfold newPrediction
  repeat' (with_reducible first | assumption | rfl | dsimp only | split | intro)

theorem lensUpdate_base {c_ : List Instr × Tick × Tick × Bool} (t : Tick) (j n : Nat) (err : Bool) (s : State) (h_ : s.base = c_) :
    (lensUpdate t j n err s).base = c_ := by
  unfold lensUpdate
  repeat' (with_reducible first | assumption | rfl | apply passTo_base | apply speedNow_base | apply newPrediction_base | apply lensLearn_base | apply notLearned_base | apply lensMove_base | apply predictionChanged_base | dsimp only | split | intro)

theorem lensUndo_base {c_ : List Instr × Tick × Tick × Bool} (t : Tick) (s : State) (h_ : s.base = c_) :
    (lensUndo t s).base = c_ := by
  unfold lensUndo
  repeat' (with_reducible first | assumption | rfl | apply predictionChanged_base | apply speedNow_base | dsimp only | split | intro)

theorem lensFirst_base {c_ : List Instr × Tick × Tick × Bool} (t : Tick) (s : State) (h_ : s.base = c_) :
    (lensFirst t s).base = c_ := by
  unfold lensFirst
  repeat' (with_reducible first | assumption | rfl | dsimp only | split | intro)

theorem lensEnter_base {c_ : List Instr × Tick × Tick × Bool} (j : Nat) (s : State) (h_ : s.base = c_) :
    (lensEnter j s).base = c_ := by
  unfold lensEnter
  repeat' (with_reducible first | assumption | rfl | apply predictionChanged_base | apply speedNow_base | apply watchHere_base | apply newPrediction_base | dsimp only | split | intro)

theorem lensRenumber_base {c_ : List Instr × Tick × Tick × Bool} (s : State) (h_ : s.base = c_) :
    (lensRenumber s).base = c_ := by
  unfold lensRenumber
  repeat' (with_reducible first | assumption | rfl | apply predictionChanged_base | apply watchHere_base | apply newPrediction_base | dsimp only | split | intro)

theorem lensClear_base {c_ : List Instr × Tick × Tick × Bool} (s : State) (h_ : s.base = c_) :
    (lensClear s).base = c_ := by
  unfold lensClear
  repeat' (with_reducible first | assumption | rfl | apply setSpeed_base | apply notLearned_base | dsimp only | split | intro)

theorem doVirtualBoundary_base {c_ : List Instr × Tick × Tick × Bool} (s : State) (h_ : s.base = c_) :
    (doVirtualBoundary s).base = c_ := by
  unfold doVirtualBoundary
  repeat' (with_reducible first | assumption | rfl | apply passTo_base | apply passRange_base | apply dropPassedWaiting_base | apply cycleBoundary_base | apply startPass_base | apply nearFill_base | apply crossForward_base | dsimp only | split | intro)

theorem doCountHold_base {c_ : List Instr × Tick × Tick × Bool} (s : State) (h_ : s.base = c_) :
    (doCountHold s).base = c_ := by
  unfold doCountHold
  repeat' (with_reducible first | assumption | rfl | apply passTo_base | dsimp only | split | intro)

theorem doToothOverdue_base {c_ : List Instr × Tick × Tick × Bool} (s : State) (h_ : s.base = c_) :
    (doToothOverdue s).base = c_ := by
  unfold doToothOverdue
  repeat' (with_reducible first | assumption | rfl | apply passTo_base | apply raise_base | apply forEach_base | apply withdraw_base | apply speedNow_base | dsimp only | split | intro)

theorem lensReverse_base {c_ : List Instr × Tick × Tick × Bool} (s : State) (h_ : s.base = c_) :
    (lensReverse s).base = c_ := by
  unfold lensReverse
  repeat' (with_reducible first | assumption | rfl | apply raise_base | dsimp only | split | intro)

theorem lensShow_base {c_ : List Instr × Tick × Tick × Bool} (j : Nat) (back : Bool) (x : Tick) (s : State) (h_ : s.base = c_) :
    (lensShow j back x s).base = c_ := by
  unfold lensShow
  repeat' (with_reducible first | assumption | rfl | apply notLearned_base | apply crossForward_base | dsimp only | split | intro)

theorem lensResume_base {c_ : List Instr × Tick × Tick × Bool} (t : Tick) (j : Nat) (period : Nat) (s : State) (h_ : s.base = c_) :
    (lensResume t j period s).base = c_ := by
  unfold lensResume
  repeat' (with_reducible first | assumption | rfl | apply speedNow_base | apply newPrediction_base | apply raise_base | apply sweep_base | apply predictionChanged_base | apply crossForward_base | dsimp only | split | intro)

theorem onCrank_base {c_ : List Instr × Tick × Tick × Bool} (f : CrankDec → CrankDec) (s : State) (h_ : s.base = c_) :
    (onCrank f s).base = c_ := by
  unfold onCrank
  repeat' (with_reducible first | assumption | rfl | dsimp only | split | intro)

theorem changeSync_base {c_ : List Instr × Tick × Tick × Bool} (st : Sync) (cause : Nat) (s : State) (h_ : s.base = c_) :
    (changeSync st cause s).base = c_ := by
  unfold changeSync
  repeat' (with_reducible first | assumption | rfl | apply mirrorState_base | apply raise_base | apply log_base | apply endWaitas_base | apply latchAll_base | dsimp only | split | intro)

theorem stopFiring_base {c_ : List Instr × Tick × Tick × Bool} (reason : Nat) (s : State) (h_ : s.base = c_) :
    (stopFiring reason s).base = c_ := by
  unfold stopFiring
  repeat' (with_reducible first | assumption | rfl | apply endAll_base | apply dropPending_base | dsimp only | split | intro)

theorem enterPosition_base {c_ : List Instr × Tick × Tick × Bool} (st : Sync) (cause : Nat) (s : State) (h_ : s.base = c_) :
    (enterPosition st cause s).base = c_ := by
  unfold enterPosition
  repeat' (with_reducible first | assumption | rfl | apply changeSync_base | apply lensEnter_base | dsimp only | split | intro)

theorem enterNosync_base {c_ : List Instr × Tick × Tick × Bool} (cause : Nat) (s : State) (h_ : s.base = c_) :
    (enterNosync cause s).base = c_ := by
  unfold enterNosync
  repeat' (with_reducible first | assumption | rfl | apply lensClear_base | apply changeSync_base | apply applyPending_base | apply envelopeBoundary_base | dsimp only | split | intro)

theorem enterLost_base {c_ : List Instr × Tick × Tick × Bool} (cause : Nat) (s : State) (h_ : s.base = c_) :
    (enterLost cause s).base = c_ := by
  unfold enterLost
  repeat' (with_reducible first | assumption | rfl | apply passTo_base | apply stopFiring_base | apply changeSync_base | apply qsInvalidate_base | apply raiseIf_base | apply stepBack_base | dsimp only | split | intro)

theorem retract_base {c_ : List Instr × Tick × Tick × Bool} (s : State) (h_ : s.base = c_) :
    (retract s).base = c_ := by
  unfold retract
  repeat' (with_reducible first | assumption | rfl | apply enterLost_base | apply raise_base | dsimp only | split | intro)

theorem doLossReported_base {c_ : List Instr × Tick × Tick × Bool} (s : State) (h_ : s.base = c_) :
    (doLossReported s).base = c_ := by
  unfold doLossReported
  repeat' (with_reducible first | assumption | rfl | apply enterNosync_base | dsimp only | split | intro)

theorem toothError_base {c_ : List Instr × Tick × Tick × Bool} (s : State) (h_ : s.base = c_) :
    (toothError s).base = c_ := by
  unfold toothError
  repeat' (with_reducible first | assumption | rfl | apply dropHeld_base | apply onCrank_base | apply raise_base | apply retract_base | apply enterLost_base | dsimp only | split | intro)

theorem frameCorrect_base {c_ : List Instr × Tick × Tick × Bool} (s : State) (h_ : s.base = c_) :
    (frameCorrect s).base = c_ := by
  unfold frameCorrect
  repeat' (with_reducible first | assumption | rfl | apply passTo_base | apply onCrank_base | apply raise_base | apply forEach_base | apply dropEvent_base | apply lensRenumber_base | apply endWaitas_base | dsimp only | split | intro)

theorem usePhase_base {c_ : List Instr × Tick × Tick × Bool} (t : Tick) (s : State) (h_ : s.base = c_) :
    (usePhase t s).1.base = c_ := by
  unfold usePhase
  repeat' (with_reducible first | assumption | rfl | apply camError_base | dsimp only | split | intro)

theorem confirmedReference_base {c_ : List Instr × Tick × Tick × Bool} (c : GapCand) (s : State) (h_ : s.base = c_) :
    (confirmedReference c s).base = c_ := by
  unfold confirmedReference
  repeat' (with_reducible first | assumption | rfl | apply usePhase_base | apply changeSync_base | apply retract_base | apply frameCorrect_base | dsimp only | split | intro)

theorem enterFromTooth_base {c_ : List Instr × Tick × Tick × Bool} (extra : Bool) (c : GapCand) (s : State) (h_ : s.base = c_) :
    (enterFromTooth extra c s).base = c_ := by
  unfold enterFromTooth
  repeat' (with_reducible first | assumption | rfl | apply usePhase_base | apply onCrank_base | apply enterPosition_base | dsimp only | split | intro)

theorem anchorWithoutGap_base {c_ : List Instr × Tick × Tick × Bool} (t : Tick) (s : State) (h_ : s.base = c_) :
    (anchorWithoutGap t s).base = c_ := by
  unfold anchorWithoutGap
  repeat' (with_reducible first | assumption | rfl | apply usePhase_base | apply enterPosition_base | apply onCrank_base | apply changeSync_base | apply retract_base | dsimp only | split | intro)

theorem quickLimit_base {c_ : List Instr × Tick × Tick × Bool} (s : State) (h_ : s.base = c_) :
    (quickLimit s).base = c_ := by
  unfold quickLimit
  repeat' (with_reducible first | assumption | rfl | apply changeSync_base | apply enterLost_base | dsimp only | split | intro)

theorem writeRecord_base {c_ : List Instr × Tick × Tick × Bool} (s : State) (h_ : s.base = c_) :
    (writeRecord s).base = c_ := by
  unfold writeRecord
  repeat' (with_reducible first | assumption | rfl | apply caddyJob_base | dsimp only | split | intro)

theorem stallNow_base {c_ : List Instr × Tick × Tick × Bool} (s : State) (h_ : s.base = c_) :
    (stallNow s).base = c_ := by
  unfold stallNow
  repeat' (with_reducible first | assumption | rfl | apply passTo_base | apply raise_base | apply stopFiring_base | apply caddyJob_base | apply onCrank_base | apply writeRecord_base | apply enterNosync_base | dsimp only | split | intro)

theorem doStall_base {c_ : List Instr × Tick × Tick × Bool} (s : State) (h_ : s.base = c_) :
    (doStall s).base = c_ := by
  unfold doStall
  repeat' (with_reducible first | assumption | rfl | apply writeRecord_base | apply stallNow_base | dsimp only | split | intro)

theorem setClass_base {c_ : List Instr × Tick × Tick × Bool} (n : Nat) (c : EdgeClass) (s : State) (h_ : s.base = c_) :
    (setClass n c s).base = c_ := by
  unfold setClass
  repeat' (with_reducible first | assumption | rfl | apply State_setWheel_base | dsimp only | split | intro)

theorem judgeCandidate_base {c_ : List Instr × Tick × Tick × Bool} (T : Nat) (s : State) (h_ : s.base = c_) :
    (judgeCandidate T s).1.base = c_ := by
  unfold judgeCandidate
  repeat' (with_reducible first | assumption | rfl | apply onCrank_base | apply toothError_base | apply confirmedReference_base | apply retract_base | apply enterLost_base | dsimp only | split | intro)

theorem boundaryUpdate_base {c_ : List Instr × Tick × Tick × Bool} (t : Tick) (j span : Nat) (err : Bool) (confirmed : Option GapCand) (s : State) (h_ : s.base = c_) :
    (boundaryUpdate t j span err confirmed s).base = c_ := by
  unfold boundaryUpdate
  repeat' (with_reducible first | assumption | rfl | apply lensUpdate_base | apply enterFromTooth_base | apply quickLimit_base | apply anchorWithoutGap_base | apply endWaitas_base | apply passTo_base | dsimp only | split | intro)

theorem forwardBoundary_base {c_ : List Instr × Tick × Tick × Bool} (t : Tick) (cls : Option PeriodClass) (bad : Bool) (confirmed : Option GapCand) (s : State) (h_ : s.base = c_) :
    (forwardBoundary t cls bad confirmed s).base = c_ := by
  unfold forwardBoundary
  repeat' (with_reducible first | assumption | rfl | apply onCrank_base | apply boundaryUpdate_base | apply changeSync_base | dsimp only | split | intro)

theorem forwardPeriod_base {c_ : List Instr × Tick × Tick × Bool} (inp : Nat) (t : Tick) (s : State) (h_ : s.base = c_) :
    (forwardPeriod inp t s).base = c_ := by
  unfold forwardPeriod
  repeat' (with_reducible first | assumption | rfl | apply judgeCandidate_base | apply setClass_base | apply toothError_base | apply enterFromTooth_base | apply forwardBoundary_base | dsimp only | split | intro)

theorem reverseEdge_base {c_ : List Instr × Tick × Tick × Bool} (t : Tick) (s : State) (h_ : s.base = c_) :
    (reverseEdge t s).base = c_ := by
  unfold reverseEdge
  repeat' (with_reducible first | assumption | rfl | apply notLearned_base | apply onCrank_base | apply changeSync_base | dsimp only | split | intro)

theorem forwardPassage_base {c_ : List Instr × Tick × Tick × Bool} (inp : Nat) (t : Tick) (s : State) (h_ : s.base = c_) :
    (forwardPassage inp t s).base = c_ := by
  unfold forwardPassage
  repeat' (with_reducible first | assumption | rfl | apply onCrank_base | apply lensShow_base | apply reverseEdge_base | apply lensFirst_base | apply forwardPeriod_base | dsimp only | split | intro)

theorem stepBack_base {c_ : List Instr × Tick × Tick × Bool} (s : State) (h_ : s.base = c_) :
    (stepBack s).base = c_ := by
  unfold stepBack
  repeat' (with_reducible first | assumption | rfl | apply onCrank_base | dsimp only | split | intro)

theorem reverseTiming_base {c_ : List Instr × Tick × Tick × Bool} (t : Tick) (s : State) (h_ : s.base = c_) :
    (reverseTiming t s).base = c_ := by
  unfold reverseTiming
  repeat' (with_reducible first | assumption | rfl | apply lensFirst_base | apply onCrank_base | apply changeSync_base | apply lensUpdate_base | dsimp only | split | intro)

theorem backPassage_base {c_ : List Instr × Tick × Tick × Bool} (t : Tick) (s : State) (h_ : s.base = c_) :
    (backPassage t s).base = c_ := by
  unfold backPassage
  repeat' (with_reducible first | assumption | rfl | apply stepBack_base | apply lensShow_base | apply reverseEdge_base | apply reverseTiming_base | dsimp only | split | intro)

theorem edgeFrame_base {c_ : List Instr × Tick × Tick × Bool} (t : Tick) (s : State) (h_ : s.base = c_) :
    (edgeFrame t s).base = c_ := by
  unfold edgeFrame
  repeat' (with_reducible first | assumption | rfl | apply mirrorAt_base | dsimp only | split | intro)

theorem edgeAccepted_base {c_ : List Instr × Tick × Tick × Bool} (t : Tick) (s : State) (h_ : s.base = c_) :
    (edgeAccepted t s).base = c_ := by
  unfold edgeAccepted
  repeat' (with_reducible first | assumption | rfl | apply wake_base | apply qsInvalidate_base | dsimp only | split | intro)

theorem sourceEdge_base {c_ : List Instr × Tick × Tick × Bool} (inp : Nat) (t : Tick) (s : State) (h_ : s.base = c_) :
    (sourceEdge inp t s).base = c_ := by
  unfold sourceEdge
  repeat' (with_reducible first | assumption | rfl | apply edgeAccepted_base | apply edgeFrame_base | apply onCrank_base | apply stepBack_base | apply backPassage_base | apply forwardPassage_base | dsimp only | split | intro)

theorem redoStep_base {c_ : List Instr × Tick × Tick × Bool} (inp : Nat) (back : Bool) (s : State) (h_ : s.base = c_) :
    (redoStep inp back s).base = c_ := by
  unfold redoStep
  repeat' (with_reducible first | assumption | rfl | apply onCrank_base | apply stepBack_base | apply lensShow_base | apply forwardPassage_base | dsimp only | split | intro)

theorem declareReverse_base {c_ : List Instr × Tick × Tick × Bool} (s : State) (h_ : s.base = c_) :
    (declareReverse s).base = c_ := by
  unfold declareReverse
  repeat' (with_reducible first | assumption | rfl | apply stopFiring_base | apply passTo_base | apply onCrank_base | apply applyPending_base | apply changeSync_base | apply lensReverse_base | apply lensShow_base | apply endWaitas_base | dsimp only | split | intro)

theorem declareForward_base {c_ : List Instr × Tick × Tick × Bool} (s : State) (h_ : s.base = c_) :
    (declareForward s).base = c_ := by
  unfold declareForward
  repeat' (with_reducible first | assumption | rfl | apply lensResume_base | apply onCrank_base | dsimp only | split | intro)

theorem dirChanged_base {c_ : List Instr × Tick × Tick × Bool} (old : Dir) (s : State) (h_ : s.base = c_) :
    (dirChanged old s).base = c_ := by
  unfold dirChanged
  repeat' (with_reducible first | assumption | rfl | apply raise_base | apply declareReverse_base | apply dropHeld_base | apply declareForward_base | dsimp only | split | intro)

theorem quickCheck_base {c_ : List Instr × Tick × Tick × Bool} (cls : Pulse) (s : State) (h_ : s.base = c_) :
    (quickCheck cls s).base = c_ := by
  unfold quickCheck
  repeat' (with_reducible first | assumption | rfl | apply onCrank_base | apply enterPosition_base | dsimp only | split | intro)

theorem sourcePulse_base {c_ : List Instr × Tick × Tick × Bool} (inp : Nat) (cls : Pulse) (s : State) (h_ : s.base = c_) :
    (sourcePulse inp cls s).base = c_ := by
  unfold sourcePulse
  repeat' (with_reducible first | assumption | rfl | apply stepBack_base | apply redoStep_base | apply lensUndo_base | apply toothError_base | apply onCrank_base | apply quickCheck_base | apply dirChanged_base | dsimp only | split | intro)

theorem State_setCam_base {c_ : List Instr × Tick × Tick × Bool} (s : State) (c : Nat) (x : Cam) (h_ : s.base = c_) :
    (Sys2Proof.Machine.State.setCam s c x).base = c_ := by
  unfold State.setCam
  repeat' (with_reducible first | assumption | rfl | dsimp only | split | intro)

theorem phaseElsewhere_base {c_ : List Instr × Tick × Tick × Bool} (c x a : Nat) (s : State) (h_ : s.base = c_) :
    (phaseElsewhere c x a s).base = c_ := by
  unfold phaseElsewhere
  repeat' (with_reducible first | assumption | rfl | apply camError_base | apply State_setCam_base | apply enterLost_base | dsimp only | split | intro)

theorem camInFull_base {c_ : List Instr × Tick × Tick × Bool} (c x : Nat) (phase : Bool) (s : State) (h_ : s.base = c_) :
    (camInFull c x phase s).base = c_ := by
  unfold camInFull
  repeat' (with_reducible first | assumption | rfl | apply State_setCam_base | apply camError_base | apply phaseElsewhere_base | dsimp only | split | intro)

theorem phaseMet_base {c_ : List Instr × Tick × Tick × Bool} (t : Tick) (x : Option Nat) (s : State) (h_ : s.base = c_) :
    (phaseMet t x s).base = c_ := by
  unfold phaseMet
  repeat' (with_reducible first | assumption | rfl | apply camError_base | dsimp only | split | intro)

theorem camEdge_base {c_ : List Instr × Tick × Tick × Bool} (inp c : Nat) (t : Tick) (s : State) (h_ : s.base = c_) :
    (camEdge inp c t s).base = c_ := by
  unfold camEdge
  repeat' (with_reducible first | assumption | rfl | apply setClass_base | apply State_setCam_base | apply camInFull_base | apply phaseMet_base | dsimp only | split | intro)

theorem onSecond_base {c_ : List Instr × Tick × Tick × Bool} (f : CrankDec → CrankDec) (s : State) (h_ : s.base = c_) :
    (onSecond f s).base = c_ := by
  unfold onSecond
  repeat' (with_reducible first | assumption | rfl | dsimp only | split | intro)

theorem secondLost_base {c_ : List Instr × Tick × Tick × Bool} (s : State) (h_ : s.base = c_) :
    (secondLost s).base = c_ := by
  unfold secondLost
  repeat' (with_reducible first | assumption | rfl | apply onSecond_base | dsimp only | split | intro)

theorem secondCheck_base {c_ : List Instr × Tick × Tick × Bool} (pos : Nat) (s : State) (h_ : s.base = c_) :
    (secondCheck pos s).base = c_ := by
  unfold secondCheck
  repeat' (with_reducible first | assumption | rfl | apply raiseIf_base | dsimp only | split | intro)

theorem secondReference_base {c_ : List Instr × Tick × Tick × Bool} (c : GapCand) (s : State) (h_ : s.base = c_) :
    (secondReference c s).base = c_ := by
  unfold secondReference
  repeat' (with_reducible first | assumption | rfl | apply onSecond_base | apply secondCheck_base | dsimp only | split | intro)

theorem secondPeriod_base {c_ : List Instr × Tick × Tick × Bool} (inp : Nat) (t : Tick) (s : State) (h_ : s.base = c_) :
    (secondPeriod inp t s).base = c_ := by
  unfold secondPeriod
  repeat' (with_reducible first | assumption | rfl | apply setClass_base | apply secondLost_base | apply secondReference_base | apply onSecond_base | dsimp only | split | intro)

theorem secondEdge_base {c_ : List Instr × Tick × Tick × Bool} (inp : Nat) (t : Tick) (s : State) (h_ : s.base = c_) :
    (secondEdge inp t s).base = c_ := by
  unfold secondEdge
  repeat' (with_reducible first | assumption | rfl | apply onSecond_base | apply stepBack_base | apply secondPeriod_base | dsimp only | split | intro)

theorem secondPulse_base {c_ : List Instr × Tick × Tick × Bool} (cls : Pulse) (s : State) (h_ : s.base = c_) :
    (secondPulse cls s).base = c_ := by
  unfold secondPulse
  repeat' (with_reducible first | assumption | rfl | apply onSecond_base | apply stepBack_base | dsimp only | split | intro)

theorem doSecondaryPromotion_base {c_ : List Instr × Tick × Tick × Bool} (s : State) (h_ : s.base = c_) :
    (doSecondaryPromotion s).base = c_ := by
  unfold doSecondaryPromotion
  repeat' (with_reducible first | assumption | rfl | apply passTo_base | apply raise_base | apply stepBack_base | dsimp only | split | intro)

theorem strain_base {c_ : List Instr × Tick × Tick × Bool} (n : Nat) (rising : Bool) (peakMv : Nat) (s : State) (h_ : s.base = c_) :
    (strain n rising peakMv s).base = c_ := by
  unfold strain
  repeat' (with_reducible first | assumption | rfl | apply State_setWheel_base | dsimp only | split | intro)

theorem doWheelCrossing_base {c_ : List Instr × Tick × Tick × Bool} (n : Nat) (rising : Bool) (peakMv : Nat) (s : State) (h_ : s.base = c_) :
    (doWheelCrossing n rising peakMv s).base = c_ := by
  unfold doWheelCrossing
  repeat' (with_reducible first | assumption | rfl | apply strain_base | apply wake_base | apply qsInvalidate_base | dsimp only | split | intro)

theorem classifyPulse_base {c_ : List Instr × Tick × Tick × Bool} (n : Nat) (cls : Pulse) (s : State) (h_ : s.base = c_) :
    (classifyPulse n cls s).base = c_ := by
  unfold classifyPulse
  repeat' (with_reducible first | assumption | rfl | apply State_setWheel_base | apply sourcePulse_base | apply secondPulse_base | dsimp only | split | intro)

theorem timingAccepted_base {c_ : List Instr × Tick × Tick × Bool} (n : Nat) (c : Crossing) (s : State) (h_ : s.base = c_) :
    (timingAccepted n c s).base = c_ := by
  unfold timingAccepted
  repeat' (with_reducible first | assumption | rfl | apply State_setWheel_base | apply sourceEdge_base | apply secondEdge_base | apply camEdge_base | apply raise_base | apply setClass_base | dsimp only | split | intro)

theorem trailingAccepted_base {c_ : List Instr × Tick × Tick × Bool} (n : Nat) (c : Crossing) (s : State) (h_ : s.base = c_) :
    (trailingAccepted n c s).base = c_ := by
  unfold trailingAccepted
  repeat' (with_reducible first | assumption | rfl | apply State_setWheel_base | apply classifyPulse_base | dsimp only | split | intro)

theorem doStrainerAccept_base {c_ : List Instr × Tick × Tick × Bool} (n : Nat) (s : State) (h_ : s.base = c_) :
    (doStrainerAccept n s).base = c_ := by
  unfold doStrainerAccept
  repeat' (with_reducible first | assumption | rfl | apply State_setWheel_base | apply timingAccepted_base | apply trailingAccepted_base | dsimp only | split | intro)

theorem doPulseLongTimeout_base {c_ : List Instr × Tick × Tick × Bool} (n : Nat) (s : State) (h_ : s.base = c_) :
    (doPulseLongTimeout n s).base = c_ := by
  unfold doPulseLongTimeout
  repeat' (with_reducible first | assumption | rfl | apply classifyPulse_base | dsimp only | split | intro)

theorem markDetection_base {c_ : List Instr × Tick × Tick × Bool} (b n : Nat) (s : State) (h_ : s.base = c_) :
    (markDetection b n s).base = c_ := by
  unfold markDetection
  repeat' (with_reducible first | assumption | rfl | apply State_memPatch_base | apply State_setDgt_base | dsimp only | split | intro)

theorem storeSample_base {c_ : List Instr × Tick × Tick × Bool} (b n : Nat) (v : Int) (s : State) (h_ : s.base = c_) :
    (storeSample b n v s).base = c_ := by
  unfold storeSample
  repeat' (with_reducible first | assumption | rfl | apply State_memPatch_base | apply State_setDgt_base | dsimp only | split | intro)

theorem doDigitiserSample_base {c_ : List Instr × Tick × Tick × Bool} (b : Nat) (code : BitVec 12) (s : State) (h_ : s.base = c_) :
    (doDigitiserSample b code s).base = c_ := by
  unfold doDigitiserSample
  repeat' (with_reducible first | assumption | rfl | apply storeSample_base | apply State_setDgt_base | apply markDetection_base | dsimp only | split | intro)

theorem writeClosing_base {c_ : List Instr × Tick × Tick × Bool} (b : Nat) (c : Capture) (d : Detection) (s : State) (h_ : s.base = c_) :
    (writeClosing b c d s).base = c_ := by
  unfold writeClosing
  repeat' (with_reducible first | assumption | rfl | apply State_memWrite_base | apply State_setDgt_base | apply State_setDch_base | apply notice_base | apply raise_base | apply mirrorAt_base | dsimp only | split | intro)

theorem pendingRecord_base {c_ : List Instr × Tick × Tick × Bool} (b : Nat) (s : State) (h_ : s.base = c_) :
    (pendingRecord b s).base = c_ := by
  unfold pendingRecord
  repeat' (with_reducible first | assumption | rfl | apply writeClosing_base | dsimp only | split | intro)

theorem doClosingRecordWritten_base {c_ : List Instr × Tick × Tick × Bool} (b : Nat) (s : State) (h_ : s.base = c_) :
    (doClosingRecordWritten b s).base = c_ := by
  unfold doClosingRecordWritten
  repeat' (with_reducible first | assumption | rfl | apply pendingRecord_base | dsimp only | split | intro)

theorem endCapture_base {c_ : List Instr × Tick × Tick × Bool} (b : Nat) (x : Tick) (s : State) (h_ : s.base = c_) :
    (endCapture b x s).base = c_ := by
  unfold endCapture
  repeat' (with_reducible first | assumption | rfl | apply pendingRecord_base | apply State_setDch_base | apply State_setDgt_base | dsimp only | split | intro)

theorem doCaptureEnd_base {c_ : List Instr × Tick × Tick × Bool} (b : Nat) (s : State) (h_ : s.base = c_) :
    (doCaptureEnd b s).base = c_ := by
  unfold doCaptureEnd
  repeat' (with_reducible first | assumption | rfl | apply endCapture_base | dsimp only | split | intro)

theorem startEndsCapture_base {c_ : List Instr × Tick × Tick × Bool} (k : Nat) (x : Tick) (s : State) (h_ : s.base = c_) :
    (startEndsCapture k x s).base = c_ := by
  unfold startEndsCapture
  repeat' (with_reducible first | assumption | rfl | apply endCapture_base | dsimp only | split | intro)

theorem startTest_base {c_ : List Instr × Tick × Tick × Bool} (k : Nat) (s : State) (h_ : s.base = c_) :
    (startTest k s).base = c_ := by
  unfold startTest
  repeat' (with_reducible first | assumption | rfl | apply State_setDch_base | dsimp only | split | intro)

theorem doOffTestStart_base {c_ : List Instr × Tick × Tick × Bool} (s : State) (h_ : s.base = c_) :
    (doOffTestStart s).base = c_ := by
  unfold doOffTestStart
  repeat' (with_reducible first | assumption | rfl | apply forEach_base | apply startTest_base | dsimp only | split | intro)

theorem offDone_base {c_ : List Instr × Tick × Tick × Bool} (k code : Nat) (last : Nat × Nat) (s : State) (h_ : s.base = c_) :
    (offDone k code last s).base = c_ := by
  unfold offDone
  repeat' (with_reducible first | assumption | rfl | apply State_setDch_base | apply fault_base | dsimp only | split | intro)

theorem doOffTestComplete_base {c_ : List Instr × Tick × Tick × Bool} (k : Nat) (samples : List (Nat × Nat)) (s : State) (h_ : s.base = c_) :
    (doOffTestComplete k samples s).base = c_ := by
  unfold doOffTestComplete
  repeat' (with_reducible first | assumption | rfl | apply offDone_base | apply State_setDch_base | dsimp only | split | intro)

theorem doOffTestNotRun_base {c_ : List Instr × Tick × Tick × Bool} (k : Nat) (s : State) (h_ : s.base = c_) :
    (doOffTestNotRun k s).base = c_ := by
  unfold doOffTestNotRun
  repeat' (with_reducible first | assumption | rfl | apply State_setDch_base | dsimp only | split | intro)

theorem diagOffTest_base {c_ : List Instr × Tick × Tick × Bool} (m : BitVec 64) (s : State) (h_ : s.base = c_) :
    (diagOffTest m s).base = c_ := by
  unfold diagOffTest
  repeat' (with_reducible first | assumption | rfl | apply forEach_base | apply State_setDch_base | apply startTest_base | dsimp only | split | intro)

theorem diagClear_base {c_ : List Instr × Tick × Tick × Bool} (m : BitVec 64) (s : State) (h_ : s.base = c_) :
    (diagClear m s).base = c_ := by
  unfold diagClear
  repeat' (with_reducible first | assumption | rfl | apply forEach_base | apply State_setDch_base | dsimp only | split | intro)

theorem measure_base {c_ : List Instr × Tick × Tick × Bool} (k current : Nat) (s : State) (h_ : s.base = c_) :
    (measure k current s).base = c_ := by
  unfold measure
  repeat' (with_reducible first | assumption | rfl | apply State_setChan_base | apply State_setBank_base | dsimp only | split | intro)

theorem toTransition_base {c_ : List Instr × Tick × Tick × Bool} (k : Nat) (x : Tick) (reached : Bool) (energyUj : Nat) (s : State) (h_ : s.base = c_) :
    (toTransition k x reached energyUj s).base = c_ := by
  unfold toTransition
  repeat' (with_reducible first | assumption | rfl | apply peakOver_base | apply State_setChan_base | apply bankEdge_base | dsimp only | split | intro)

theorem slip_base {c_ : List Instr × Tick × Tick × Bool} (k : Nat) (s : State) (h_ : s.base = c_) :
    (slip k s).base = c_ := by
  unfold slip
  repeat' (with_reducible first | assumption | rfl | apply State_setChan_base | apply raise_base | apply State_setBank_base | dsimp only | split | intro)

theorem yieldStep_base {c_ : List Instr × Tick × Tick × Bool} (x : Tick) (k : Nat) (s : State) (h_ : s.base = c_) :
    (yieldStep x k s).base = c_ := by
  unfold yieldStep
  repeat' (with_reducible first | assumption | rfl | apply slip_base | apply toTransition_base | apply bankEdge_base | apply State_setChan_base | dsimp only | split | intro)

theorem arbitrate_base {c_ : List Instr × Tick × Tick × Bool} (b : Nat) (x : Tick) (s : State) (h_ : s.base = c_) :
    (arbitrate b x s).base = c_ := by
  unfold arbitrate
  repeat' (with_reducible first | assumption | rfl | apply forEach_base | apply yieldStep_base | dsimp only | split | intro)

theorem doOnStateFault_base {c_ : List Instr × Tick × Tick × Bool} (k : Nat) (m : OnStateMeas) (s : State) (h_ : s.base = c_) :
    (doOnStateFault k m s).base = c_ := by
  unfold doOnStateFault
  repeat' (with_reducible first | assumption | rfl | apply endBank_base | apply endEarly_base | apply arbitrate_base | apply fault_base | apply State_setDch_base | dsimp only | split | intro)

theorem doProfileStart_base {c_ : List Instr × Tick × Tick × Bool} (k : Nat) (s : State) (h_ : s.base = c_) :
    (doProfileStart k s).base = c_ := by
  unfold doProfileStart
  repeat' (with_reducible first | assumption | rfl | apply stopTests_base | apply fallEnds_base | apply startEndsCapture_base | apply State_setSlot_base | apply State_setChan_base | apply notice_base | apply mirrorAt_base | apply arbitrate_base | apply bankEdge_base | dsimp only | split | intro)

theorem doPeakEnd_base {c_ : List Instr × Tick × Tick × Bool} (k current energyUj : Nat) (s : State) (h_ : s.base = c_) :
    (doPeakEnd k current energyUj s).base = c_ := by
  unfold doPeakEnd
  repeat' (with_reducible first | assumption | rfl | apply arbitrate_base | apply toTransition_base | apply measure_base | dsimp only | split | intro)

theorem doPeakTimeout_base {c_ : List Instr × Tick × Tick × Bool} (k current energyUj : Nat) (s : State) (h_ : s.base = c_) :
    (doPeakTimeout k current energyUj s).base = c_ := by
  unfold doPeakTimeout
  repeat' (with_reducible first | assumption | rfl | apply toTransition_base | apply measure_base | apply State_setChan_base | apply arbitrate_base | apply raise_base | dsimp only | split | intro)

theorem toSteep_base {c_ : List Instr × Tick × Tick × Bool} (k : Nat) (x : Tick) (s : State) (h_ : s.base = c_) :
    (toSteep k x s).base = c_ := by
  unfold toSteep
  repeat' (with_reducible first | assumption | rfl | apply State_setChan_base | apply arbitrate_base | apply bankEdge_base | dsimp only | split | intro)

theorem doTransitionEnd_base {c_ : List Instr × Tick × Tick × Bool} (k current : Nat) (s : State) (h_ : s.base = c_) :
    (doTransitionEnd k current s).base = c_ := by
  unfold doTransitionEnd
  repeat' (with_reducible first | assumption | rfl | apply toSteep_base | apply measure_base | dsimp only | split | intro)

theorem doDitherStep_base {c_ : List Instr × Tick × Tick × Bool} (k : Nat) (s : State) (h_ : s.base = c_) :
    (doDitherStep k s).base = c_ := by
  unfold doDitherStep
  repeat' (with_reducible first | assumption | rfl | apply State_setChan_base | dsimp only | split | intro)

theorem doRegulatorSwitch_base {c_ : List Instr × Tick × Tick × Bool} (k current : Nat) (s : State) (h_ : s.base = c_) :
    (doRegulatorSwitch k current s).base = c_ := by
  unfold doRegulatorSwitch
  repeat' (with_reducible first | assumption | rfl | apply measure_base | apply bankEdge_base | apply State_setChan_base | dsimp only | split | intro)

theorem doTurnOffInstant_base {c_ : List Instr × Tick × Tick × Bool} (k current energyUj : Nat) (s : State) (h_ : s.base = c_) :
    (doTurnOffInstant k current energyUj s).base = c_ := by
  unfold doTurnOffInstant
  repeat' (with_reducible first | assumption | rfl | apply measure_base | apply turnOff_base | apply State_setChan_base | apply arbitrate_base | dsimp only | split | intro)

theorem captureRecovered_base {c_ : List Instr × Tick × Tick × Bool} (k : Nat) (s : State) (h_ : s.base = c_) :
    (captureRecovered k s).base = c_ := by
  unfold captureRecovered
  repeat' (with_reducible first | assumption | rfl | apply State_setDgt_base | dsimp only | split | intro)

theorem doTurnOffComplete_base {c_ : List Instr × Tick × Tick × Bool} (k current : Nat) (s : State) (h_ : s.base = c_) :
    (doTurnOffComplete k current s).base = c_ := by
  unfold doTurnOffComplete
  repeat' (with_reducible first | assumption | rfl | apply turnOff_base | apply measure_base | apply State_setChan_base | apply freeSlot_base | apply bankMode_base | apply captureRecovered_base | apply bankEdge_base | dsimp only | split | intro)

theorem doChannelOvercurrent_base {c_ : List Instr × Tick × Tick × Bool} (k current : Nat) (s : State) (h_ : s.base = c_) :
    (doChannelOvercurrent k current s).base = c_ := by
  unfold doChannelOvercurrent
  repeat' (with_reducible first | assumption | rfl | apply fault_base | apply arbitrate_base | apply endEarly_base | apply measure_base | dsimp only | split | intro)

theorem doBankOvercurrent_base {c_ : List Instr × Tick × Tick × Bool} (b sum : Nat) (s : State) (h_ : s.base = c_) :
    (doBankOvercurrent b sum s).base = c_ := by
  unfold doBankOvercurrent
  repeat' (with_reducible first | assumption | rfl | apply State_setBank_base | apply fault_base | apply raise_base | apply endBank_base | dsimp only | split | intro)

theorem doOnMaxStop_base {c_ : List Instr × Tick × Tick × Bool} (k : Nat) (s : State) (h_ : s.base = c_) :
    (doOnMaxStop k s).base = c_ := by
  unfold doOnMaxStop
  repeat' (with_reducible first | assumption | rfl | apply fault_base | apply arbitrate_base | apply endAt_base | dsimp only | split | intro)

theorem doExtensionWrite_base {c_ : List Instr × Tick × Tick × Bool} (q k ext : Nat) (s : State) (h_ : s.base = c_) :
    (doExtensionWrite q k ext s).base = c_ := by
  unfold doExtensionWrite
  repeat' (with_reducible first | assumption | rfl | apply State_setChan_base | apply raise_base | dsimp only | split | intro)

theorem doSetpointWrite_base {c_ : List Instr × Tick × Tick × Bool} (k : Nat) (value : Word) (s : State) (h_ : s.base = c_) :
    (doSetpointWrite k value s).base = c_ := by
  unfold doSetpointWrite
  repeat' (with_reducible first | assumption | rfl | apply State_setChan_base | dsimp only | split | intro)

theorem kettleVolt_base {c_ : List Instr × Tick × Tick × Bool} (k volt : Nat) (s : State) (h_ : s.base = c_) :
    (kettleVolt k volt s).base = c_ := by
  unfold kettleVolt
  repeat' (with_reducible first | assumption | rfl | apply State_setKettle_base | dsimp only | split | intro)

theorem kettleLevel_base {c_ : List Instr × Tick × Tick × Bool} (k volt : Nat) (s : State) (h_ : s.base = c_) :
    (kettleLevel k volt s).base = c_ := by
  unfold kettleLevel
  repeat' (with_reducible first | assumption | rfl | apply kettleVolt_base | apply markFall_base | apply ktUpdate_base | apply ktFault_base | dsimp only | split | intro)

theorem doKettleLevelChange_base {c_ : List Instr × Tick × Tick × Bool} (k volt : Nat) (s : State) (h_ : s.base = c_) :
    (doKettleLevelChange k volt s).base = c_ := by
  unfold doKettleLevelChange
  repeat' (with_reducible first | assumption | rfl | apply kettleLevel_base | dsimp only | split | intro)

theorem doKettleChargeDeadline_base {c_ : List Instr × Tick × Tick × Bool} (k : Nat) (s : State) (h_ : s.base = c_) :
    (doKettleChargeDeadline k s).base = c_ := by
  unfold doKettleChargeDeadline
  repeat' (with_reducible first | assumption | rfl | apply ktFault_base | dsimp only | split | intro)

theorem doKettleOvervoltage_base {c_ : List Instr × Tick × Tick × Bool} (k volt : Nat) (s : State) (h_ : s.base = c_) :
    (doKettleOvervoltage k volt s).base = c_ := by
  unfold doKettleOvervoltage
  repeat' (with_reducible first | assumption | rfl | apply kettleLevel_base | dsimp only | split | intro)

theorem doKettleCapacitance_base {c_ : List Instr × Tick × Tick × Bool} (k microfarad : Nat) (s : State) (h_ : s.base = c_) :
    (doKettleCapacitance k microfarad s).base = c_ := by
  unfold doKettleCapacitance
  repeat' (with_reducible first | assumption | rfl | apply State_setKettle_base | apply calReport_base | dsimp only | split | intro)

theorem regLatch_base {c_ : List Instr × Tick × Tick × Bool} (r : Requester) (a : Nat) (s : State) (h_ : s.base = c_) :
    (regLatch r a s).base = c_ := by
  unfold regLatch
  repeat' (with_reducible first | assumption | rfl | dsimp only | split | intro)

theorem doSnapshotRead_base {c_ : List Instr × Tick × Tick × Bool} (r : Requester) (a : Nat) (s : State) (h_ : s.base = c_) :
    (doSnapshotRead r a s).base = c_ := by
  unfold doSnapshotRead
  repeat' (with_reducible first | assumption | rfl | apply regLatch_base | dsimp only | split | intro)

theorem doLnsAngleRead_base {c_ : List Instr × Tick × Tick × Bool} (r : Requester) (s : State) (h_ : s.base = c_) :
    (doLnsAngleRead r s).base = c_ := by
  unfold doLnsAngleRead
  repeat' (with_reducible first | assumption | rfl | apply regLatch_base | dsimp only | split | intro)

theorem markBad_base {c_ : List Instr × Tick × Tick × Bool} (a source : Nat) (s : State) (h_ : s.base = c_) :
    (markBad a source s).base = c_ := by
  unfold markBad
  repeat' (with_reducible first | assumption | rfl | apply fault_base | dsimp only | split | intro)

theorem eccFound_base {c_ : List Instr × Tick × Tick × Bool} (a : Nat) (s : State) (h_ : s.base = c_) :
    (eccFound a s).base = c_ := by
  unfold eccFound
  repeat' (with_reducible first | assumption | rfl | apply markBad_base | apply doEventTableEccError_base | dsimp only | split | intro)

theorem eccFixed_base {c_ : List Instr × Tick × Tick × Bool} (a : Nat) (s : State) (h_ : s.base = c_) :
    (eccFixed a s).base = c_ := by
  unfold eccFixed
  repeat' (with_reducible first | assumption | rfl | dsimp only | split | intro)

theorem eccRead_base {c_ : List Instr × Tick × Tick × Bool} (a : Nat) (e : Ecc) (s : State) (h_ : s.base = c_) :
    (eccRead a e s).base = c_ := by
  unfold eccRead
  repeat' (with_reducible first | assumption | rfl | apply eccFixed_base | apply eccFound_base | dsimp only | split | intro)

theorem eccRestored_base {c_ : List Instr × Tick × Tick × Bool} (a : Nat) (s : State) (h_ : s.base = c_) :
    (eccRestored a s).base = c_ := by
  unfold eccRestored
  repeat' (with_reducible first | assumption | rfl | dsimp only | split | intro)

theorem countWrite_base {c_ : List Instr × Tick × Tick × Bool} (p : Nat) (s : State) (h_ : s.base = c_) :
    (countWrite p s).base = c_ := by
  unfold countWrite
  repeat' (with_reducible first | assumption | rfl | dsimp only | split | intro)

theorem blockWritten_base {c_ : List Instr × Tick × Tick × Bool} (l : Nat) (s : State) (h_ : s.base = c_) :
    (blockWritten l s).base = c_ := by
  unfold blockWritten
  repeat' (with_reducible first | assumption | rfl | apply countWrite_base | dsimp only | split | intro)

theorem blocksWritten_base {c_ : List Instr × Tick × Tick × Bool} (l : List Nat) (s : State) (h_ : s.base = c_) :
    (blocksWritten l s).base = c_ := by
  unfold blocksWritten
  repeat' (with_reducible first | assumption | rfl | apply forEach_base | apply blockWritten_base | dsimp only | split | intro)

theorem turnCopy_base {c_ : List Instr × Tick × Tick × Bool} (base : Nat) (s : State) (h_ : s.base = c_) :
    (turnCopy base s).base = c_ := by
  unfold turnCopy
  repeat' (with_reducible first | assumption | rfl | dsimp only | split | intro)

theorem regionWritten_base {c_ : List Instr × Tick × Tick × Bool} (base n : Nat) (s : State) (h_ : s.base = c_) :
    (regionWritten base n s).base = c_ := by
  unfold regionWritten
  repeat' (with_reducible first | assumption | rfl | apply turnCopy_base | apply blocksWritten_base | dsimp only | split | intro)

theorem logCaddy_base {c_ : List Instr × Tick × Tick × Bool} (block action : Nat) (s : State) (h_ : s.base = c_) :
    (logCaddy block action s).base = c_ := by
  unfold logCaddy
  repeat' (with_reducible first | assumption | rfl | apply log_base | dsimp only | split | intro)

theorem retireBlock_base {c_ : List Instr × Tick × Tick × Bool} (s : State) (h_ : s.base = c_) :
    (retireBlock s).base = c_ := by
  unfold retireBlock
  repeat' (with_reducible first | assumption | rfl | apply raise_base | apply logCaddy_base | dsimp only | split | intro)

theorem writeFailed_base {c_ : List Instr × Tick × Tick × Bool} (block : Nat) (s : State) (h_ : s.base = c_) :
    (writeFailed block s).base = c_ := by
  unfold writeFailed
  repeat' (with_reducible first | assumption | rfl | apply fault_base | apply logCaddy_base | apply retireBlock_base | dsimp only | split | intro)

theorem recordWritten_base {c_ : List Instr × Tick × Tick × Bool} (r : QsRecord) (s : State) (h_ : s.base = c_) :
    (recordWritten r s).base = c_ := by
  unfold recordWritten
  repeat' (with_reducible first | assumption | rfl | apply raise_base | apply qsInvalidate_base | dsimp only | split | intro)

theorem tailWritten_base {c_ : List Instr × Tick × Tick × Bool} (k : Nat) (s : State) (h_ : s.base = c_) :
    (tailWritten k s).base = c_ := by
  unfold tailWritten
  repeat' (with_reducible first | assumption | rfl | dsimp only | split | intro)

theorem flushOver_base {c_ : List Instr × Tick × Tick × Bool} (s : State) (h_ : s.base = c_) :
    (flushOver s).base = c_ := by
  unfold flushOver
  repeat' (with_reducible first | assumption | rfl | apply holdupSteps_base | apply qsInvalidate_base | dsimp only | split | intro)

theorem wearSaved_base {c_ : List Instr × Tick × Tick × Bool} (s : State) (h_ : s.base = c_) :
    (wearSaved s).base = c_ := by
  unfold wearSaved
  repeat' (with_reducible first | assumption | rfl | apply flushOver_base | apply raise_base | dsimp only | split | intro)

theorem jobDone_base {c_ : List Instr × Tick × Tick × Bool} (j : CaddyJob) (s : State) (h_ : s.base = c_) :
    (jobDone j s).base = c_ := by
  unfold jobDone
  repeat' (with_reducible first | assumption | rfl | apply recordWritten_base | apply raise_base | apply turnCopy_base | apply tailWritten_base | apply wearSaved_base | apply logCaddy_base | dsimp only | split | intro)

theorem popJob_base {c_ : List Instr × Tick × Tick × Bool} (s : State) (h_ : s.base = c_) :
    (popJob s).base = c_ := by
  unfold popJob
  repeat' (with_reducible first | assumption | rfl | apply jobDone_base | dsimp only | split | intro)

theorem jobStep_base {c_ : List Instr × Tick × Tick × Bool} (ok : Bool) (j : CaddyJob) (s : State) (h_ : s.base = c_) :
    (jobStep ok j s).base = c_ := by
  unfold jobStep
  repeat' (with_reducible first | assumption | rfl | apply jobDone_base | apply blockWritten_base | apply popJob_base | apply flushOver_base | apply writeFailed_base | apply retireBlock_base | dsimp only | split | intro)

theorem doCaddyWriteComplete_base {c_ : List Instr × Tick × Tick × Bool} (ok : Bool) (s : State) (h_ : s.base = c_) :
    (doCaddyWriteComplete ok s).base = c_ := by
  unfold doCaddyWriteComplete
  repeat' (with_reducible first | assumption | rfl | apply jobStep_base | dsimp only | split | intro)

theorem flushLoss_base {c_ : List Instr × Tick × Tick × Bool} (s : State) (h_ : s.base = c_) :
    (flushLoss s).base = c_ := by
  unfold flushLoss
  repeat' (with_reducible first | assumption | rfl | apply logPut_base | apply raise_base | dsimp only | split | intro)

theorem flushHead_base {c_ : List Instr × Tick × Tick × Bool} (s : State) (h_ : s.base = c_) : (flushHead s).base = c_ := by
  unfold flushHead
  split
  · exact h_
  · generalize leBytes 4 0x484C4C4B ++ _ ++ _ ++ _ = body
    repeat' (with_reducible first | assumption | rfl | apply logPut_base | dsimp only | split | intro)

theorem startFlush_base {c_ : List Instr × Tick × Tick × Bool} (s : State) (h_ : s.base = c_) :
    (startFlush s).base = c_ := by
  unfold startFlush
  repeat' (with_reducible first | assumption | rfl | apply flushHead_base | apply flushLoss_base | apply caddyJob_base | dsimp only | split | intro)

theorem logGuard_base {c_ : List Instr × Tick × Tick × Bool} (s : State) (h_ : s.base = c_) :
    (logGuard s).base = c_ := by
  unfold logGuard
  repeat' (with_reducible first | assumption | rfl | dsimp only | split | intro)

theorem doLogbookFlush_base {c_ : List Instr × Tick × Tick × Bool} (s : State) (h_ : s.base = c_) :
    (doLogbookFlush s).base = c_ := by
  unfold doLogbookFlush
  repeat' (with_reducible first | assumption | rfl | apply startFlush_base | apply logGuard_base | dsimp only | split | intro)

theorem blockLost_base {c_ : List Instr × Tick × Tick × Bool} (l : Nat) (s : State) (h_ : s.base = c_) :
    (blockLost l s).base = c_ := by
  unfold blockLost
  repeat' (with_reducible first | assumption | rfl | apply raise_base | apply logCaddy_base | dsimp only | split | intro)

theorem blockBad_base {c_ : List Instr × Tick × Tick × Bool} (l : Nat) (s : State) (h_ : s.base = c_) :
    (blockBad l s).base = c_ := by
  unfold blockBad
  repeat' (with_reducible first | assumption | rfl | apply blockLost_base | apply caddyJob_base | dsimp only | split | intro)

theorem refreshRead_base {c_ : List Instr × Tick × Tick × Bool} (p : Nat) (r : BlockRead) (s : State) (h_ : s.base = c_) :
    (refreshRead p r s).base = c_ := by
  unfold refreshRead
  repeat' (with_reducible first | assumption | rfl | apply blockBad_base | apply caddyJob_base | dsimp only | split | intro)

theorem doRetentionRefreshStep_base {c_ : List Instr × Tick × Tick × Bool} (r : BlockRead) (s : State) (h_ : s.base = c_) :
    (doRetentionRefreshStep r s).base = c_ := by
  unfold doRetentionRefreshStep
  repeat' (with_reducible first | assumption | rfl | apply refreshRead_base | apply raise_base | dsimp only | split | intro)

theorem reloadCollector_base {c_ : List Instr × Tick × Tick × Bool} (w : Nat) (s : State) (h_ : s.base = c_) :
    (reloadCollector w s).base = c_ := by
  unfold reloadCollector
  repeat' (with_reducible first | assumption | rfl | dsimp only | split | intro)

theorem envCopyError_base {c_ : List Instr × Tick × Tick × Bool} (s : State) (h_ : s.base = c_) :
    (envCopyError s).base = c_ := by
  unfold envCopyError
  repeat' (with_reducible first | assumption | rfl | apply fault_base | dsimp only | split | intro)

theorem scrubBad_base {c_ : List Instr × Tick × Tick × Bool} (g : ScrubRegion) (p : Nat) (otherOk : Bool) (s : State) (h_ : s.base = c_) :
    (scrubBad g p otherOk s).base = c_ := by
  unfold scrubBad
  repeat' (with_reducible first | assumption | rfl | apply eccFound_base | apply raise_base | apply eccRestored_base | apply doEventTableEccError_base | apply State_memWrite_base | apply envCopyError_base | apply fault_base | apply reloadCollector_base | dsimp only | split | intro)

theorem scrubFixed_base {c_ : List Instr × Tick × Tick × Bool} (g : ScrubRegion) (p : Nat) (s : State) (h_ : s.base = c_) :
    (scrubFixed g p s).base = c_ := by
  unfold scrubFixed
  repeat' (with_reducible first | assumption | rfl | apply eccFixed_base | dsimp only | split | intro)

theorem scrubNext_base {c_ : List Instr × Tick × Tick × Bool} (g : ScrubRegion) (s : State) (h_ : s.base = c_) :
    (scrubNext g s).base = c_ := by
  unfold scrubNext
  repeat' (with_reducible first | assumption | rfl | dsimp only | split | intro)

theorem scrubGuard_base {c_ : List Instr × Tick × Tick × Bool} (g : ScrubRegion) (s : State) (h_ : s.base = c_) :
    (scrubGuard g s).base = c_ := by
  unfold scrubGuard
  repeat' (with_reducible first | assumption | rfl | dsimp only | split | intro)

theorem doScrubAccess_base {c_ : List Instr × Tick × Tick × Bool} (g : ScrubRegion) (e : Ecc) (otherOk : Bool) (s : State) (h_ : s.base = c_) :
    (doScrubAccess g e otherOk s).base = c_ := by
  unfold doScrubAccess
  repeat' (with_reducible first | assumption | rfl | apply scrubGuard_base | apply scrubFixed_base | apply scrubBad_base | apply scrubNext_base | apply State_setSlot_base | dsimp only | split | intro)

theorem doRulerCalibration_base {c_ : List Instr × Tick × Tick × Bool} (taps : BitVec 10) (halfPpm : Int) (s : State) (h_ : s.base = c_) :
    (doRulerCalibration taps halfPpm s).base = c_ := by
  unfold doRulerCalibration
  repeat' (with_reducible first | assumption | rfl | apply calReport_base | dsimp only | split | intro)

theorem setStale_base {c_ : List Instr × Tick × Tick × Bool} (v : Bool) (i : SenseItem) (s : State) (h_ : s.base = c_) :
    (setStale v i s).base = c_ := by
  unfold setStale
  repeat' (with_reducible first | assumption | rfl | dsimp only | split | intro)

theorem doSenseCalibration_base {c_ : List Instr × Tick × Tick × Bool} (i : SenseItem) (s : State) (h_ : s.base = c_) :
    (doSenseCalibration i s).base = c_ := by
  unfold doSenseCalibration
  repeat' (with_reducible first | assumption | rfl | apply setStale_base | dsimp only | split | intro)

theorem doSenseStale_base {c_ : List Instr × Tick × Tick × Bool} (i : SenseItem) (s : State) (h_ : s.base = c_) :
    (doSenseStale i s).base = c_ := by
  unfold doSenseStale
  repeat' (with_reducible first | assumption | rfl | apply calReport_base | apply setStale_base | dsimp only | split | intro)

theorem doTelemetryBatch_base {c_ : List Instr × Tick × Tick × Bool} (m : TelemetryMeas) (s : State) (h_ : s.base = c_) :
    (doTelemetryBatch m s).base = c_ := by
  unfold doTelemetryBatch
  repeat' (with_reducible first | assumption | rfl | apply logGuard_base | apply raise_base | dsimp only | split | intro)

theorem doCounterFrame_base {c_ : List Instr × Tick × Tick × Bool} (s : State) (h_ : s.base = c_) :
    (doCounterFrame s).base = c_ := by
  unfold doCounterFrame
  repeat' (with_reducible first | assumption | rfl | apply mirrorAt_base | dsimp only | split | intro)

theorem doMirrorFrameSent_base {c_ : List Instr × Tick × Tick × Bool} (lane : Nat) (s : State) (h_ : s.base = c_) :
    (doMirrorFrameSent lane s).base = c_ := by
  unfold doMirrorFrameSent
  repeat' (with_reducible first | assumption | rfl | dsimp only | split | intro)

theorem lanesResume_base {c_ : List Instr × Tick × Tick × Bool} (s : State) (h_ : s.base = c_) :
    (lanesResume s).base = c_ := by
  unfold lanesResume
  repeat' (with_reducible first | assumption | rfl | dsimp only | split | intro)

theorem signed1_base {c_ : List Instr × Tick × Tick × Bool} (s : State) (h_ : s.base = c_) :
    (signed1 s).base = c_ := by
  unfold signed1
  repeat' (with_reducible first | assumption | rfl | dsimp only | split | intro)

theorem entropyUsed_base {c_ : List Instr × Tick × Tick × Bool} (n : Nat) (s : State) (h_ : s.base = c_) :
    (entropyUsed n s).base = c_ := by
  unfold entropyUsed
  repeat' (with_reducible first | assumption | rfl | dsimp only | split | intro)

theorem newChallenge_base {c_ : List Instr × Tick × Tick × Bool} (s : State) (h_ : s.base = c_) :
    (newChallenge s).base = c_ := by
  unfold newChallenge
  repeat' (with_reducible first | assumption | rfl | apply entropyUsed_base | dsimp only | split | intro)

theorem linkFail_base {c_ : List Instr × Tick × Tick × Bool} (l : Link) (s : State) (h_ : s.base = c_) :
    (linkFail l s).base = c_ := by
  unfold linkFail
  repeat' (with_reducible first | assumption | rfl | apply State_setLink_base | apply raiseIf_base | dsimp only | split | intro)

theorem linkOk_base {c_ : List Instr × Tick × Tick × Bool} (l : Link) (s : State) (h_ : s.base = c_) :
    (linkOk l s).base = c_ := by
  unfold linkOk
  repeat' (with_reducible first | assumption | rfl | apply State_setLink_base | dsimp only | split | intro)

theorem countSecFail_base {c_ : List Instr × Tick × Tick × Bool} (s : State) (h_ : s.base = c_) :
    (countSecFail s).base = c_ := by
  unfold countSecFail
  repeat' (with_reducible first | assumption | rfl | dsimp only | split | intro)

theorem signatureFail_base {c_ : List Instr × Tick × Tick × Bool} (l : Link) (s : State) (h_ : s.base = c_) :
    (signatureFail l s).base = c_ := by
  unfold signatureFail
  repeat' (with_reducible first | assumption | rfl | apply linkFail_base | apply log_base | apply raise_base | apply countSecFail_base | dsimp only | split | intro)

theorem countedFail_base {c_ : List Instr × Tick × Tick × Bool} (l : Link) (s : State) (h_ : s.base = c_) :
    (countedFail l s).base = c_ := by
  unfold countedFail
  repeat' (with_reducible first | assumption | rfl | apply linkFail_base | apply raise_base | apply countSecFail_base | dsimp only | split | intro)

theorem plainFail_base {c_ : List Instr × Tick × Tick × Bool} (l : Link) (s : State) (h_ : s.base = c_) :
    (plainFail l s).base = c_ := by
  unfold plainFail
  repeat' (with_reducible first | assumption | rfl | apply linkFail_base | apply raise_base | dsimp only | split | intro)

theorem doLockoutExpiry_base {c_ : List Instr × Tick × Tick × Bool} (l : Link) (s : State) (h_ : s.base = c_) :
    (doLockoutExpiry l s).base = c_ := by
  unfold doLockoutExpiry
  repeat' (with_reducible first | assumption | rfl | apply raise_base | apply State_setLink_base | dsimp only | split | intro)

theorem setImage_base {c_ : List Instr × Tick × Tick × Bool} (x : Slot) (i : Image) (s : State) (h_ : s.base = c_) :
    (setImage x i s).base = c_ := by
  unfold setImage
  repeat' (with_reducible first | assumption | rfl | dsimp only | split | intro)

theorem logLink_base {c_ : List Instr × Tick × Tick × Bool} (l : Link) (event : Nat) (s : State) (h_ : s.base = c_) :
    (logLink l event s).base = c_ := by
  unfold logLink
  repeat' (with_reducible first | assumption | rfl | apply log_base | dsimp only | split | intro)

theorem dropHoldings_base {c_ : List Instr × Tick × Tick × Bool} (l : Link) (s : State) (h_ : s.base = c_) :
    (dropHoldings l s).base = c_ := by
  unfold dropHoldings
  repeat' (with_reducible first | assumption | rfl | dsimp only | split | intro)

theorem closeSession_base {c_ : List Instr × Tick × Tick × Bool} (l : Link) (s : State) (h_ : s.base = c_) :
    (closeSession l s).base = c_ := by
  unfold closeSession
  repeat' (with_reducible first | assumption | rfl | apply State_setLink_base | apply opened_base | apply dropHoldings_base | apply raise_base | apply logLink_base | dsimp only | split | intro)

theorem closeAll_base {c_ : List Instr × Tick × Tick × Bool} (s : State) (h_ : s.base = c_) :
    (closeAll s).base = c_ := by
  unfold closeAll
  repeat' (with_reducible first | assumption | rfl | apply closeSession_base | dsimp only | split | intro)

theorem doSessionIdleTimeout_base {c_ : List Instr × Tick × Tick × Bool} (l : Link) (s : State) (h_ : s.base = c_) :
    (doSessionIdleTimeout l s).base = c_ := by
  unfold doSessionIdleTimeout
  repeat' (with_reducible first | assumption | rfl | apply closeSession_base | dsimp only | split | intro)

theorem doSessionOpenTimeout_base {c_ : List Instr × Tick × Tick × Bool} (l : Link) (s : State) (h_ : s.base = c_) :
    (doSessionOpenTimeout l s).base = c_ := by
  unfold doSessionOpenTimeout
  repeat' (with_reducible first | assumption | rfl | apply countedFail_base | apply closeSession_base | dsimp only | split | intro)

theorem logLife_base {c_ : List Instr × Tick × Tick × Bool} (op : Nat) (s : State) (h_ : s.base = c_) :
    (logLife op s).base = c_ := by
  unfold logLife
  repeat' (with_reducible first | assumption | rfl | apply log_base | dsimp only | split | intro)

theorem writeKeys_base {c_ : List Instr × Tick × Tick × Bool} (k : KeyStore) (s : State) (h_ : s.base = c_) :
    (writeKeys k s).base = c_ := by
  unfold writeKeys
  repeat' (with_reducible first | assumption | rfl | apply regionWritten_base | dsimp only | split | intro)

theorem decommission_base {c_ : List Instr × Tick × Tick × Bool} (life : Life) (op : Nat) (forced : Bool) (s : State) (h_ : s.base = c_) :
    (decommission life op forced s).base = c_ := by
  unfold decommission
  repeat' (with_reducible first | assumption | rfl | apply writeKeys_base | apply qsInvalidate_base | apply raise_base | apply logLife_base | apply closeAll_base | dsimp only | split | intro)

theorem resetState_base {c_ : List Instr × Tick × Tick × Bool} (cause : Nat) (s : State) (h_ : s.base = c_) :
    (resetState cause s).base = c_ := by
  unfold resetState
  repeat' (with_reducible first | assumption | rfl | dsimp only | split | intro)

theorem startRecord_base {c_ : List Instr × Tick × Tick × Bool} (kind wakeBits : Nat) (s : State) (h_ : s.base = c_) :
    (startRecord kind wakeBits s).base = c_ := by
  unfold startRecord
  repeat' (with_reducible first | assumption | rfl | apply log_base | dsimp only | split | intro)

theorem stopSequence_base {c_ : List Instr × Tick × Tick × Bool} (links : Bool) (s : State) (h_ : s.base = c_) :
    (stopSequence links s).base = c_ := by
  unfold stopSequence
  repeat' (with_reducible first | assumption | rfl | apply startRecord_base | dsimp only | split | intro)

theorem doReferenceStarted_base {c_ : List Instr × Tick × Tick × Bool} (s : State) (h_ : s.base = c_) :
    (doReferenceStarted s).base = c_ := by
  unfold doReferenceStarted
  repeat' (with_reducible first | assumption | rfl | dsimp only | split | intro)

theorem stepSelfTest_base {c_ : List Instr × Tick × Tick × Bool} (r : StepResult) (s : State) (h_ : s.base = c_) :
    (stepSelfTest r s).base = c_ := by
  unfold stepSelfTest
  repeat' (with_reducible first | assumption | rfl | apply stopSequence_base | apply raiseIf_base | dsimp only | split | intro)

theorem driveBoot_base {c_ : List Instr × Tick × Tick × Bool} (s : State) (h_ : s.base = c_) :
    (driveBoot s).base = c_ := by
  unfold driveBoot
  repeat' (with_reducible first | assumption | rfl | apply forEach_base | apply State_setBank_base | apply ktUpdate_base | apply State_setKettle_base | dsimp only | split | intro)

theorem bootRetention_base {c_ : List Instr × Tick × Tick × Bool} (s : State) (h_ : s.base = c_) :
    (bootRetention s).base = c_ := by
  rw [bootRetention]
  generalize s.nv.kept.stale s.etc = o
  exact h_

theorem stepCaddy_base {c_ : List Instr × Tick × Tick × Bool} (r : StepResult) (s : State) (h_ : s.base = c_) :
    (stepCaddy r s).base = c_ := by
  unfold stepCaddy
  repeat' (with_reducible first | assumption | rfl | apply newChallenge_base | apply bootRetention_base | apply driveBoot_base | apply forEach_base | apply groupReport_base | apply fault_base | apply vbakCheck_base | apply stopSequence_base | dsimp only | split | intro)

theorem bootEnvelope_base {c_ : List Instr × Tick × Tick × Bool} (s : State) (h_ : s.base = c_) :
    (bootEnvelope s).base = c_ := by
  unfold bootEnvelope
  repeat' (with_reducible first | assumption | rfl | apply raise_base | dsimp only | split | intro)

theorem bootWear_base {c_ : List Instr × Tick × Tick × Bool} (r : StepResult) (s : State) (h_ : s.base = c_) :
    (bootWear r s).base = c_ := by
  unfold bootWear
  repeat' (with_reducible first | assumption | rfl | apply forEach_base | apply State_setChan_base | dsimp only | split | intro)

theorem holdRecord_base {c_ : List Instr × Tick × Tick × Bool} (r : QsRecord) (s : State) (h_ : s.base = c_) :
    (holdRecord r s).base = c_ := by
  unfold holdRecord
  repeat' (with_reducible first | assumption | rfl | dsimp only | split | intro)

theorem bootRecord_base {c_ : List Instr × Tick × Tick × Bool} (s : State) (h_ : s.base = c_) :
    (bootRecord s).base = c_ := by
  unfold bootRecord
  repeat' (with_reducible first | assumption | rfl | apply raise_base | apply qsInvalidate_base | apply holdRecord_base | dsimp only | split | intro)

theorem bootMap_base {c_ : List Instr × Tick × Tick × Bool} (s : State) (h_ : s.base = c_) :
    (bootMap s).base = c_ := by
  unfold bootMap
  repeat' (with_reducible first | assumption | rfl | apply raise_base | dsimp only | split | intro)

theorem stepEnvelope_base {c_ : List Instr × Tick × Tick × Bool} (r : StepResult) (s : State) (h_ : s.base = c_) :
    (stepEnvelope r s).base = c_ := by
  unfold stepEnvelope
  repeat' (with_reducible first | assumption | rfl | apply bootMap_base | apply bootRecord_base | apply bootWear_base | apply bootEnvelope_base | dsimp only | split | intro)

theorem logImage_base {c_ : List Instr × Tick × Tick × Bool} (x : Slot) (event reason : Nat) (place : Nat × Nat) (s : State) (h_ : s.base = c_) :
    (logImage x event reason place s).base = c_ := by
  unfold logImage
  repeat' (with_reducible first | assumption | rfl | apply log_base | dsimp only | split | intro)

theorem refuseSlot_base {c_ : List Instr × Tick × Tick × Bool} (x : Slot) (reason : Nat) (s : State) (h_ : s.base = c_) :
    (refuseSlot x reason s).base = c_ := by
  unfold refuseSlot
  repeat' (with_reducible first | assumption | rfl | apply raise_base | apply logImage_base | dsimp only | split | intro)

theorem declareTasks_base {c_ : List Instr × Tick × Tick × Bool} (tab : List Byte) (s : State) (h_ : s.base = c_) :
    (declareTasks tab s).base = c_ := by
  unfold declareTasks
  repeat' (with_reducible first | assumption | rfl | apply State_setCtx_base | apply foldl_base | apply foldl1_base | dsimp only | split | intro)

theorem endSequence_base {c_ : List Instr × Tick × Tick × Bool} (phase : Nat) (s : State) (h_ : s.base = c_) :
    (endSequence phase s).base = c_ := by
  unfold endSequence
  repeat' (with_reducible first | assumption | rfl | apply ktLimits_base | dsimp only | split | intro)

theorem runImage_base {c_ : List Instr × Tick × Tick × Bool} (x : Slot) (s : State) (h_ : s.base = c_) :
    (runImage x s).base = c_ := by
  unfold runImage
  repeat' (with_reducible first | assumption | rfl | apply State_memWrite_base | apply declareTasks_base | apply endSequence_base | apply forEach_base | apply activate_base | apply startRecord_base | dsimp only | split | intro)

theorem runSelected_base {c_ : List Instr × Tick × Tick × Bool} (s : State) (h_ : s.base = c_) :
    (runSelected s).base = c_ := by
  unfold runSelected
  repeat' (with_reducible first | assumption | rfl | apply writeKeys_base | apply runImage_base | dsimp only | split | intro)

theorem runOther_base {c_ : List Instr × Tick × Tick × Bool} (s : State) (h_ : s.base = c_) :
    (runOther s).base = c_ := by
  unfold runOther
  repeat' (with_reducible first | assumption | rfl | apply runImage_base | apply writeKeys_base | dsimp only | split | intro)

theorem stepImage_base {c_ : List Instr × Tick × Tick × Bool} (s : State) (h_ : s.base = c_) :
    (stepImage s).base = c_ := by
  unfold stepImage
  repeat' (with_reducible first | assumption | rfl | apply runSelected_base | apply refuseSlot_base | apply runOther_base | apply startRecord_base | apply endSequence_base | dsimp only | split | intro)

theorem dropBadImages_base {c_ : List Instr × Tick × Tick × Bool} (s : State) (h_ : s.base = c_) :
    (dropBadImages s).base = c_ := by
  unfold dropBadImages
  repeat' (with_reducible first | assumption | rfl | dsimp only | split | intro)

theorem doResetStepComplete_base {c_ : List Instr × Tick × Tick × Bool} (r : StepResult) (s : State) (h_ : s.base = c_) :
    (doResetStepComplete r s).base = c_ := by
  unfold doResetStepComplete
  repeat' (with_reducible first | assumption | rfl | apply stepSelfTest_base | apply stepCaddy_base | apply stepEnvelope_base | apply stepImage_base | apply dropBadImages_base | dsimp only | split | intro)

theorem doResetCommandDelayExpiry_base {c_ : List Instr × Tick × Tick × Bool} (s : State) (h_ : s.base = c_) :
    (doResetCommandDelayExpiry s).base = c_ := by
  unfold doResetCommandDelayExpiry
  repeat' (with_reducible first | assumption | rfl | apply resetState_base | dsimp only | split | intro)

theorem State_setInput_base {c_ : List Instr × Tick × Tick × Bool} (s : State) (i : SupplyInput) (x : SupplyIn) (h_ : s.base = c_) :
    (Sys2Proof.Machine.State.setInput s i x).base = c_ := by
  unfold State.setInput
  repeat' (with_reducible first | assumption | rfl | dsimp only | split | intro)

theorem logSupply_base {c_ : List Instr × Tick × Tick × Bool} (old new : SupplyState) (steps us : Nat) (s : State) (h_ : s.base = c_) :
    (logSupply old new steps us s).base = c_ := by
  unfold logSupply
  repeat' (with_reducible first | assumption | rfl | apply log_base | dsimp only | split | intro)

theorem supplyTo_base {c_ : List Instr × Tick × Tick × Bool} (new : SupplyState) (steps us : Nat) (s : State) (h_ : s.base = c_) :
    (supplyTo new steps us s).base = c_ := by
  unfold supplyTo
  repeat' (with_reducible first | assumption | rfl | apply mirrorState_base | apply raise_base | apply logSupply_base | dsimp only | split | intro)

theorem holdupSteps_base {c_ : List Instr × Tick × Tick × Bool} (s : State) (h_ : s.base = c_) :
    (holdupSteps s).base = c_ := by
  unfold holdupSteps
  repeat' (with_reducible first | assumption | rfl | apply endAll_base | apply withdrawAll_base | apply stopTests_base | apply ebAllOff_base | apply ktLimits_base | apply startFlush_base | apply closeAll_base | dsimp only | split | intro)

theorem enterHoldup_base {c_ : List Instr × Tick × Tick × Bool} (s : State) (h_ : s.base = c_) :
    (enterHoldup s).base = c_ := by
  unfold enterHoldup
  repeat' (with_reducible first | assumption | rfl | apply supplyTo_base | apply holdupSteps_base | apply wake_base | dsimp only | split | intro)

theorem chanDown_base {c_ : List Instr × Tick × Tick × Bool} (k : Nat) (s : State) (h_ : s.base = c_) :
    (chanDown k s).base = c_ := by
  unfold chanDown
  repeat' (with_reducible first | assumption | rfl | apply State_setChan_base | dsimp only | split | intro)

theorem enterDown_base {c_ : List Instr × Tick × Tick × Bool} (s : State) (h_ : s.base = c_) :
    (enterDown s).base = c_ := by
  unfold enterDown
  repeat' (with_reducible first | assumption | rfl | apply forEach_base | apply chanDown_base | apply ebAllOff_base | apply ktUpdate_base | apply stopTests_base | apply ktLimits_base | dsimp only | split | intro)

theorem bothLost_base {c_ : List Instr × Tick × Tick × Bool} (s : State) (h_ : s.base = c_) :
    (bothLost s).base = c_ := by
  unfold bothLost
  repeat' (with_reducible first | assumption | rfl | apply enterHoldup_base | apply enterDown_base | dsimp only | split | intro)

theorem supplyRun_base {c_ : List Instr × Tick × Tick × Bool} (new : SupplyState) (steps us : Nat) (s : State) (h_ : s.base = c_) :
    (supplyRun new steps us s).base = c_ := by
  unfold supplyRun
  repeat' (with_reducible first | assumption | rfl | apply vbakCheck_base | apply ktLimits_base | apply wake_base | apply supplyTo_base | dsimp only | split | intro)

theorem fromMain_base {c_ : List Instr × Tick × Tick × Bool} (s : State) (h_ : s.base = c_) :
    (fromMain s).base = c_ := by
  unfold fromMain
  repeat' (with_reducible first | assumption | rfl | apply vbakCheck_base | apply bothLost_base | apply supplyRun_base | dsimp only | split | intro)

theorem reselect_base {c_ : List Instr × Tick × Tick × Bool} (s : State) (h_ : s.base = c_) :
    (reselect s).base = c_ := by
  unfold reselect
  repeat' (with_reducible first | assumption | rfl | apply fromMain_base | apply supplyRun_base | apply bothLost_base | apply resetState_base | dsimp only | split | intro)

theorem overvoltCheck_base {c_ : List Instr × Tick × Tick × Bool} (i : SupplyInput) (before : Bool) (s : State) (h_ : s.base = c_) :
    (overvoltCheck i before s).base = c_ := by
  unfold overvoltCheck
  repeat' (with_reducible first | assumption | rfl | apply logSupply_base | apply faultOnset_base | apply raise_base | apply faultEnd_base | dsimp only | split | intro)

theorem doSupplyThresholdCrossing_base {c_ : List Instr × Tick × Tick × Bool} (i : SupplyInput) (th : Threshold) (up : Bool) (millivolt : Nat) (s : State) (h_ : s.base = c_) :
    (doSupplyThresholdCrossing i th up millivolt s).base = c_ := by
  unfold doSupplyThresholdCrossing
  repeat' (with_reducible first | assumption | rfl | apply State_setInput_base | apply fromMain_base | dsimp only | split | intro)

theorem vbakJudged_base {c_ : List Instr × Tick × Tick × Bool} (s : State) (h_ : s.base = c_) :
    (vbakJudged s).base = c_ := by
  unfold vbakJudged
  repeat' (with_reducible first | assumption | rfl | apply vbakCheck_base | dsimp only | split | intro)

theorem doSupplyJudgement_base {c_ : List Instr × Tick × Tick × Bool} (i : SupplyInput) (s : State) (h_ : s.base = c_) :
    (doSupplyJudgement i s).base = c_ := by
  unfold doSupplyJudgement
  repeat' (with_reducible first | assumption | rfl | apply reselect_base | apply vbakJudged_base | apply overvoltCheck_base | apply State_setInput_base | dsimp only | split | intro)

theorem doSupplyDebounceExpiry_base {c_ : List Instr × Tick × Tick × Bool} (s : State) (h_ : s.base = c_) :
    (doSupplyDebounceExpiry s).base = c_ := by
  unfold doSupplyDebounceExpiry
  repeat' (with_reducible first | assumption | rfl | apply supplyRun_base | dsimp only | split | intro)

theorem leaveHoldup_base {c_ : List Instr × Tick × Tick × Bool} (new : SupplyState) (s : State) (h_ : s.base = c_) :
    (leaveHoldup new s).base = c_ := by
  unfold leaveHoldup
  repeat' (with_reducible first | assumption | rfl | apply holdupSteps_base | apply supplyRun_base | dsimp only | split | intro)

theorem doHoldupRecoveryExpiry_base {c_ : List Instr × Tick × Tick × Bool} (s : State) (h_ : s.base = c_) :
    (doHoldupRecoveryExpiry s).base = c_ := by
  unfold doHoldupRecoveryExpiry
  repeat' (with_reducible first | assumption | rfl | apply leaveHoldup_base | dsimp only | split | intro)

theorem doHoldupStoreExhausted_base {c_ : List Instr × Tick × Tick × Bool} (s : State) (h_ : s.base = c_) :
    (doHoldupStoreExhausted s).base = c_ := by
  unfold doHoldupStoreExhausted
  repeat' (with_reducible first | assumption | rfl | apply enterDown_base | dsimp only | split | intro)

theorem doHoldupStoreCharged_base {c_ : List Instr × Tick × Tick × Bool} (s : State) (h_ : s.base = c_) :
    (doHoldupStoreCharged s).base = c_ := by
  unfold doHoldupStoreCharged
  repeat' (with_reducible first | assumption | rfl | dsimp only | split | intro)

theorem doEnableChange_base {c_ : List Instr × Tick × Tick × Bool} (on : Bool) (s : State) (h_ : s.base = c_) :
    (doEnableChange on s).base = c_ := by
  unfold doEnableChange
  repeat' (with_reducible first | assumption | rfl | apply raise_base | apply ebAllOff_base | apply endAll_base | apply withdrawAll_base | apply wake_base | apply ktLimits_base | dsimp only | split | intro)

theorem doClaimNChange_base {c_ : List Instr × Tick × Tick × Bool} (on : Bool) (s : State) (h_ : s.base = c_) :
    (doClaimNChange on s).base = c_ := by
  unfold doClaimNChange
  repeat' (with_reducible first | assumption | rfl | apply raise_base | dsimp only | split | intro)

theorem thermalFault_base {c_ : List Instr × Tick × Tick × Bool} (s : State) (h_ : s.base = c_) :
    (thermalFault s).base = c_ := by
  unfold thermalFault
  repeat' (with_reducible first | assumption | rfl | apply faultOnset_base | apply faultEnd_base | dsimp only | split | intro)

theorem doThermalThreshold_base {c_ : List Instr × Tick × Tick × Bool} (d : ThermalDomain) (celsius : Int) (s : State) (h_ : s.base = c_) :
    (doThermalThreshold d celsius s).base = c_ := by
  unfold doThermalThreshold
  repeat' (with_reducible first | assumption | rfl | apply raiseIf_base | apply thermalFault_base | apply ktLimits_base | dsimp only | split | intro)

theorem doThermalDeratingChange_base {c_ : List Instr × Tick × Tick × Bool} (k : Nat) (tenths : Int) (s : State) (h_ : s.base = c_) :
    (doThermalDeratingChange k tenths s).base = c_ := by
  unfold doThermalDeratingChange
  repeat' (with_reducible first | assumption | rfl | apply ktLimit_base | apply raise_base | dsimp only | split | intro)

theorem railShow_base {c_ : List Instr × Tick × Tick × Bool} (v : Bool) (r : SensorRail) (s : State) (h_ : s.base = c_) :
    (railShow v r s).base = c_ := by
  unfold railShow
  repeat' (with_reducible first | assumption | rfl | apply State_setWheel_base | dsimp only | split | intro)

theorem doSensorSupplyFault_base {c_ : List Instr × Tick × Tick × Bool} (r : SensorRail) (s : State) (h_ : s.base = c_) :
    (doSensorSupplyFault r s).base = c_ := by
  unfold doSensorSupplyFault
  repeat' (with_reducible first | assumption | rfl | apply faultOnset_base | apply raise_base | apply railShow_base | dsimp only | split | intro)

theorem doSensorSupplyRecovery_base {c_ : List Instr × Tick × Tick × Bool} (r : SensorRail) (s : State) (h_ : s.base = c_) :
    (doSensorSupplyRecovery r s).base = c_ := by
  unfold doSensorSupplyRecovery
  repeat' (with_reducible first | assumption | rfl | apply faultEnd_base | apply raise_base | apply railShow_base | dsimp only | split | intro)

theorem doReferenceLoss_base {c_ : List Instr × Tick × Tick × Bool} (s : State) (h_ : s.base = c_) :
    (doReferenceLoss s).base = c_ := by
  unfold doReferenceLoss
  repeat' (with_reducible first | assumption | rfl | apply faultOnset_base | apply raise_base | dsimp only | split | intro)

theorem doHoldoverExpiry_base {c_ : List Instr × Tick × Tick × Bool} (s : State) (h_ : s.base = c_) :
    (doHoldoverExpiry s).base = c_ := by
  unfold doHoldoverExpiry
  repeat' (with_reducible first | assumption | rfl | apply forEach_base | apply withdraw_base | apply faultOnset_base | apply raise_base | dsimp only | split | intro)

theorem doReferenceReturn_base {c_ : List Instr × Tick × Tick × Bool} (s : State) (h_ : s.base = c_) :
    (doReferenceReturn s).base = c_ := by
  unfold doReferenceReturn
  repeat' (with_reducible first | assumption | rfl | apply faultEnd_base | dsimp only | split | intro)

theorem relocked_base {c_ : List Instr × Tick × Tick × Bool} (s : State) (h_ : s.base = c_) :
    (relocked s).base = c_ := by
  unfold relocked
  repeat' (with_reducible first | assumption | rfl | apply faultEnd_base | apply raise_base | dsimp only | split | intro)

theorem doRelockComplete_base {c_ : List Instr × Tick × Tick × Bool} (s : State) (h_ : s.base = c_) :
    (doRelockComplete s).base = c_ := by
  unfold doRelockComplete
  repeat' (with_reducible first | assumption | rfl | apply relocked_base | dsimp only | split | intro)

theorem refusePower_base {c_ : List Instr × Tick × Tick × Bool} (r : Nat) (s : State) (h_ : s.base = c_) :
    (refusePower r s).base = c_ := by
  unfold refusePower
  repeat' (with_reducible first | assumption | rfl | dsimp only | split | intro)

theorem enterStandby_base {c_ : List Instr × Tick × Tick × Bool} (s : State) (h_ : s.base = c_) :
    (enterStandby s).base = c_ := by
  unfold enterStandby
  repeat' (with_reducible first | assumption | rfl | apply stopTests_base | apply ktLimits_base | dsimp only | split | intro)

theorem doStandbyRequest_base {c_ : List Instr × Tick × Tick × Bool} (s : State) (h_ : s.base = c_) :
    (doStandbyRequest s).base = c_ := by
  unfold doStandbyRequest
  repeat' (with_reducible first | assumption | rfl | apply enterStandby_base | apply refusePower_base | dsimp only | split | intro)

theorem doAutoStandby_base {c_ : List Instr × Tick × Tick × Bool} (s : State) (h_ : s.base = c_) :
    (doAutoStandby s).base = c_ := by
  unfold doAutoStandby
  repeat' (with_reducible first | assumption | rfl | apply doStandbyRequest_base | dsimp only | split | intro)

theorem backToRun_base {c_ : List Instr × Tick × Tick × Bool} (s : State) (h_ : s.base = c_) :
    (backToRun s).base = c_ := by
  unfold backToRun
  repeat' (with_reducible first | assumption | rfl | apply lanesResume_base | apply ktLimits_base | dsimp only | split | intro)

theorem watchdogWake_base {c_ : List Instr × Tick × Tick × Bool} (s : State) (h_ : s.base = c_) :
    (watchdogWake s).base = c_ := by
  unfold watchdogWake
  repeat' (with_reducible first | assumption | rfl | dsimp only | split | intro)

theorem doStandbyWake_base {c_ : List Instr × Tick × Tick × Bool} (s : State) (h_ : s.base = c_) :
    (doStandbyWake s).base = c_ := by
  unfold doStandbyWake
  repeat' (with_reducible first | assumption | rfl | apply backToRun_base | apply watchdogWake_base | dsimp only | split | intro)

theorem enterSleep_base {c_ : List Instr × Tick × Tick × Bool} (s : State) (h_ : s.base = c_) :
    (enterSleep s).base = c_ := by
  unfold enterSleep
  repeat' (with_reducible first | assumption | rfl | apply stopTests_base | apply startFlush_base | apply ktLimits_base | apply forEach_base | apply ktUpdate_base | dsimp only | split | intro)

theorem doSleepRequest_base {c_ : List Instr × Tick × Tick × Bool} (s : State) (h_ : s.base = c_) :
    (doSleepRequest s).base = c_ := by
  unfold doSleepRequest
  repeat' (with_reducible first | assumption | rfl | apply enterSleep_base | apply refusePower_base | dsimp only | split | intro)

theorem doAutoSleep_base {c_ : List Instr × Tick × Tick × Bool} (s : State) (h_ : s.base = c_) :
    (doAutoSleep s).base = c_ := by
  unfold doAutoSleep
  repeat' (with_reducible first | assumption | rfl | apply doSleepRequest_base | dsimp only | split | intro)

theorem doSleepEntryComplete_base {c_ : List Instr × Tick × Tick × Bool} (s : State) (h_ : s.base = c_) :
    (doSleepEntryComplete s).base = c_ := by
  unfold doSleepEntryComplete
  repeat' (with_reducible first | assumption | rfl | apply ebAllOff_base | dsimp only | split | intro)

theorem powerSettle_base {c_ : List Instr × Tick × Tick × Bool} (s : State) (h_ : s.base = c_) :
    (powerSettle s).base = c_ := by
  unfold powerSettle
  repeat' (with_reducible first | assumption | rfl | apply lanesResume_base | apply forEach_base | apply ktUpdate_base | apply ktLimits_base | dsimp only | split | intro)

theorem makeUpOne_base {c_ : List Instr × Tick × Tick × Bool} (n : Nat) (s : State) (h_ : s.base = c_) :
    (makeUpOne n s).base = c_ := by
  unfold makeUpOne
  repeat' (with_reducible first | assumption | rfl | apply timAct_base | apply State_setTimer_base | dsimp only | split | intro)

theorem markMadeUp_base {c_ : List Instr × Tick × Tick × Bool} (old s : State) (h_ : s.base = c_) :
    (markMadeUp old s).base = c_ := by
  unfold markMadeUp
  repeat' (with_reducible first | assumption | rfl | apply forEach_base | apply State_setTimer_base | dsimp only | split | intro)

theorem makeUp_base {c_ : List Instr × Tick × Tick × Bool} (n : Nat) (s : State) (h_ : s.base = c_) :
    (makeUp n s).base = c_ := by
  unfold makeUp
  repeat' (with_reducible first | assumption | rfl | apply State_setTimer_base | apply markMadeUp_base | apply makeUpOne_base | dsimp only | split | intro)

theorem makeUpAll_base {c_ : List Instr × Tick × Tick × Bool} (s : State) (h_ : s.base = c_) :
    (makeUpAll s).base = c_ := by
  unfold makeUpAll
  repeat' (with_reducible first | assumption | rfl | apply forEach_base | apply makeUp_base | dsimp only | split | intro)

theorem closeLapsed_base {c_ : List Instr × Tick × Tick × Bool} (s : State) (h_ : s.base = c_) :
    (closeLapsed s).base = c_ := by
  unfold closeLapsed
  repeat' (with_reducible first | assumption | rfl | apply closeSession_base | apply foldl_base | apply foldl1_base | dsimp only | split | intro)

theorem wakeUp_base {c_ : List Instr × Tick × Tick × Bool} (s : State) (h_ : s.base = c_) :
    (wakeUp s).base = c_ := by
  unfold wakeUp
  repeat' (with_reducible first | assumption | rfl | apply watchdogWake_base | apply makeUpAll_base | apply relocked_base | apply closeLapsed_base | apply backToRun_base | apply startRecord_base | apply holdupSteps_base | dsimp only | split | intro)

theorem doSleepWake_base {c_ : List Instr × Tick × Tick × Bool} (cause : Option (Fin 4)) (s : State) (h_ : s.base = c_) :
    (doSleepWake cause s).base = c_ := by
  unfold doSleepWake
  repeat' (with_reducible first | assumption | rfl | apply wake_base | apply qsInvalidate_base | apply wakeUp_base | dsimp only | split | intro)

theorem doResetN_base {c_ : List Instr × Tick × Tick × Bool} (s : State) (h_ : s.base = c_) :
    (doResetN s).base = c_ := by
  unfold doResetN
  repeat' (with_reducible first | assumption | rfl | apply resetState_base | dsimp only | split | intro)

theorem State_setTarget_base {c_ : List Instr × Tick × Tick × Bool} (s : State) (g : IrqTarget) (x : IrcTarget) (h_ : s.base = c_) :
    (Sys2Proof.Machine.State.setTarget s g x).base = c_ := by
  unfold State.setTarget
  repeat' (with_reducible first | assumption | rfl | dsimp only | split | intro)

theorem doIrqClaim_base {c_ : List Instr × Tick × Tick × Bool} (g : IrqTarget) (src : Nat) (s : State) (h_ : s.base = c_) :
    (doIrqClaim g src s).base = c_ := by
  unfold doIrqClaim
  repeat' (with_reducible first | assumption | rfl | apply State_setTarget_base | dsimp only | split | intro)

theorem doIrqComplete_base {c_ : List Instr × Tick × Tick × Bool} (g : IrqTarget) (src : Nat) (s : State) (h_ : s.base = c_) :
    (doIrqComplete g src s).base = c_ := by
  unfold doIrqComplete
  repeat' (with_reducible first | assumption | rfl | apply State_setTarget_base | dsimp only | split | intro)

theorem doModerationHoldEnd_base {c_ : List Instr × Tick × Tick × Bool} (s : State) (h_ : s.base = c_) :
    (doModerationHoldEnd s).base = c_ := by
  unfold doModerationHoldEnd
  repeat' (with_reducible first | assumption | rfl | dsimp only | split | intro)

theorem doGraceDeadline_base {c_ : List Instr × Tick × Tick × Bool} (s : State) (h_ : s.base = c_) :
    (doGraceDeadline s).base = c_ := by
  unfold doGraceDeadline
  repeat' (with_reducible first | assumption | rfl | apply graceDue_base | dsimp only | split | intro)

theorem doFaultAcknowledge_base {c_ : List Instr × Tick × Tick × Bool} (w : Nat) (mask : Word) (s : State) (h_ : s.base = c_) :
    (doFaultAcknowledge w mask s).base = c_ := by
  unfold doFaultAcknowledge
  repeat' (with_reducible first | assumption | rfl | apply acknowledge_base | apply graceDue_base | dsimp only | split | intro)

theorem doWatchdogService_base {c_ : List Instr × Tick × Tick × Bool} (v : BitVec 16) (s : State) (h_ : s.base = c_) :
    (doWatchdogService v s).base = c_ := by
  unfold doWatchdogService
  repeat' (with_reducible first | assumption | rfl | apply fault_base | dsimp only | split | intro)

theorem doWatchdogTimeout_base {c_ : List Instr × Tick × Tick × Bool} (s : State) (h_ : s.base = c_) :
    (doWatchdogTimeout s).base = c_ := by
  unfold doWatchdogTimeout
  repeat' (with_reducible first | assumption | rfl | apply fault_base | apply wake_base | dsimp only | split | intro)

theorem doWatchdogWarning_base {c_ : List Instr × Tick × Tick × Bool} (s : State) (h_ : s.base = c_) :
    (doWatchdogWarning s).base = c_ := by
  unfold doWatchdogWarning
  repeat' (with_reducible first | assumption | rfl | apply raise_base | dsimp only | split | intro)

theorem writeWdtCfg_base {c_ : List Instr × Tick × Tick × Bool} (v : Nat) (s : State) (h_ : s.base = c_) :
    (writeWdtCfg v s).base = c_ := by
  unfold writeWdtCfg
  repeat' (with_reducible first | assumption | rfl | dsimp only | split | intro)

theorem doHandshakeStall_base {c_ : List Instr × Tick × Tick × Bool} (s : State) (h_ : s.base = c_) :
    (doHandshakeStall s).base = c_ := by
  unfold doHandshakeStall
  repeat' (with_reducible first | assumption | rfl | apply fault_base | dsimp only | split | intro)

theorem doMgmtCoreStall_base {c_ : List Instr × Tick × Tick × Bool} (s : State) (h_ : s.base = c_) :
    (doMgmtCoreStall s).base = c_ := by
  unfold doMgmtCoreStall
  repeat' (with_reducible first | assumption | rfl | apply fault_base | dsimp only | split | intro)

theorem placeFrame_base {c_ : List Instr × Tick × Tick × Bool} (s : State) (h_ : s.base = c_) :
    (placeFrame s).base = c_ := by
  unfold placeFrame
  repeat' (with_reducible first | assumption | rfl | apply raise_base | dsimp only | split | intro)

theorem sendMsg_base {c_ : List Instr × Tick × Tick × Bool} (l : Link) (mtag : Byte) (m : List Byte) (s : State) (h_ : s.base = c_) :
    (sendMsg l mtag m s).base = c_ := by
  unfold sendMsg
  repeat' (with_reducible first | assumption | rfl | apply State_setLink_base | apply placeFrame_base | dsimp only | split | intro)

theorem linkError_base {c_ : List Instr × Tick × Tick × Bool} (l : Link) (reason : Nat) (mtag : Byte) (s : State) (h_ : s.base = c_) :
    (linkError l reason mtag s).base = c_ := by
  unfold linkError
  repeat' (with_reducible first | assumption | rfl | apply State_setLink_base | apply sendMsg_base | dsimp only | split | intro)

theorem counterUsed_base {c_ : List Instr × Tick × Tick × Bool} (l : Link) (x : Session) (s : State) (h_ : s.base = c_) :
    (counterUsed l x s).base = c_ := by
  unfold counterUsed
  repeat' (with_reducible first | assumption | rfl | apply State_setLink_base | apply opened_base | apply closeSession_base | dsimp only | split | intro)

theorem sendSealed_base {c_ : List Instr × Tick × Tick × Bool} (l : Link) (mtag : Byte) (x : Session) (inner : List Byte) (s : State) (h_ : s.base = c_) :
    (sendSealed l mtag x inner s).base = c_ := by
  unfold sendSealed
  repeat' (with_reducible first | assumption | rfl | apply counterUsed_base | apply sendMsg_base | dsimp only | split | intro)

theorem respond_base {c_ : List Instr × Tick × Tick × Bool} (l : Link) (before : State) (r : Request) (a : Reply) (h_ : a.state.base = c_) :
    (respond l before r a).base = c_ := by
  unfold respond
  repeat' (with_reducible first | assumption | rfl | apply State_setLink_base | apply sendMsg_base | apply opened_base | apply sendSealed_base | dsimp only | split | intro)

theorem doMbxSend_base {c_ : List Instr × Tick × Tick × Bool} (len : Nat) (s : State) (h_ : s.base = c_) :
    (doMbxSend len s).base = c_ := by
  unfold doMbxSend
  repeat' (with_reducible first | assumption | rfl | apply linkError_base | dsimp only | split | intro)

theorem doMbxRxDone_base {c_ : List Instr × Tick × Tick × Bool} (s : State) (h_ : s.base = c_) :
    (doMbxRxDone s).base = c_ := by
  unfold doMbxRxDone
  repeat' (with_reducible first | assumption | rfl | apply placeFrame_base | dsimp only | split | intro)

theorem doMbxAbort_base {c_ : List Instr × Tick × Tick × Bool} (s : State) (h_ : s.base = c_) :
    (doMbxAbort s).base = c_ := by
  unfold doMbxAbort
  repeat' (with_reducible first | assumption | rfl | apply State_setLink_base | dsimp only | split | intro)

theorem doCanBusOff_base {c_ : List Instr × Tick × Tick × Bool} (second : Bool) (s : State) (h_ : s.base = c_) :
    (doCanBusOff second s).base = c_ := by
  unfold doCanBusOff
  repeat' (with_reducible first | assumption | rfl | apply raise_base | apply logLink_base | apply State_setLink_base | dsimp only | split | intro)

theorem doCanBusOffRecovery_base {c_ : List Instr × Tick × Tick × Bool} (second : Bool) (s : State) (h_ : s.base = c_) :
    (doCanBusOffRecovery second s).base = c_ := by
  unfold doCanBusOffRecovery
  repeat' (with_reducible first | assumption | rfl | apply raise_base | apply State_setLink_base | dsimp only | split | intro)

theorem doCanFrameTransmitted_base {c_ : List Instr × Tick × Tick × Bool} (second : Bool) (s : State) (h_ : s.base = c_) :
    (doCanFrameTransmitted second s).base = c_ := by
  unfold doCanFrameTransmitted
  repeat' (with_reducible first | assumption | rfl | apply State_setLink_base | dsimp only | split | intro)

theorem answerPlain_base {c_ : List Instr × Tick × Tick × Bool} (l : Link) (mtag : Byte) (code rtag status detail : Nat) (data : List Byte) (s : State) (h_ : s.base = c_) :
    (answerPlain l mtag code rtag status detail data s).base = c_ := by
  unfold answerPlain
  repeat' (with_reducible first | assumption | rfl | apply sendMsg_base | dsimp only | split | intro)

theorem answerSealed_base {c_ : List Instr × Tick × Tick × Bool} (l : Link) (mtag : Byte) (code rtag status detail : Nat) (keep : Bool) (s : State) (h_ : s.base = c_) :
    (answerSealed l mtag code rtag status detail keep s).base = c_ := by
  unfold answerSealed
  repeat' (with_reducible first | assumption | rfl | apply opened_base | apply sendSealed_base | dsimp only | split | intro)

theorem takeRequest_base {c_ : List Instr × Tick × Tick × Bool} (l : Link) (mtag : Byte) (code rtag : Nat) (body : List Byte) (isSealed : Bool) (s : State) (h_ : s.base = c_) :
    (takeRequest l mtag code rtag body isSealed s).base = c_ := by
  unfold takeRequest
  repeat' (with_reducible first | assumption | rfl | apply State_setLink_base | dsimp only | split | intro)

theorem claimAttempt_base {c_ : List Instr × Tick × Tick × Bool} (code : Nat) (s : State) (h_ : s.base = c_) :
    (claimAttempt code s).base = c_ := by
  unfold claimAttempt
  repeat' (with_reducible first | assumption | rfl | apply newChallenge_base | dsimp only | split | intro)

theorem plainIn_base {c_ : List Instr × Tick × Tick × Bool} (l : Link) (mtag : Byte) (m : List Byte) (s : State) (h_ : s.base = c_) :
    (plainIn l mtag m s).base = c_ := by
  unfold plainIn
  repeat' (with_reducible first | assumption | rfl | apply answerPlain_base | apply claimAttempt_base | apply plainFail_base | apply takeRequest_base | dsimp only | split | intro)

theorem innerIn_base {c_ : List Instr × Tick × Tick × Bool} (l : Link) (mtag : Byte) (x : Session) (m : List Byte) (s : State) (h_ : s.base = c_) :
    (innerIn l mtag x m s).base = c_ := by
  unfold innerIn
  repeat' (with_reducible first | assumption | rfl | apply answerSealed_base | apply plainFail_base | apply takeRequest_base | dsimp only | split | intro)

theorem acceptSealed_base {c_ : List Instr × Tick × Tick × Bool} (l : Link) (mtag : Byte) (x : Session) (ctr : Nat) (m : List Byte) (s : State) (h_ : s.base = c_) :
    (acceptSealed l mtag x ctr m s).base = c_ := by
  unfold acceptSealed
  repeat' (with_reducible first | assumption | rfl | apply linkOk_base | apply State_setLink_base | apply opened_base | apply closeSession_base | apply answerSealed_base | apply sendSealed_base | apply innerIn_base | dsimp only | split | intro)

theorem sealFailure_base {c_ : List Instr × Tick × Tick × Bool} (l : Link) (x : Session) (s : State) (h_ : s.base = c_) :
    (sealFailure l x s).base = c_ := by
  unfold sealFailure
  repeat' (with_reducible first | assumption | rfl | apply countedFail_base | apply State_setLink_base | apply opened_base | apply closeSession_base | dsimp only | split | intro)

theorem sealedIn_base {c_ : List Instr × Tick × Tick × Bool} (l : Link) (mtag : Byte) (m : List Byte) (s : State) (h_ : s.base = c_) :
    (sealedIn l mtag m s).base = c_ := by
  unfold sealedIn
  repeat' (with_reducible first | assumption | rfl | apply answerPlain_base | apply opened_base | apply sealFailure_base | apply acceptSealed_base | dsimp only | split | intro)

theorem messageIn_base {c_ : List Instr × Tick × Tick × Bool} (l : Link) (mtag : Byte) (m : List Byte) (s : State) (h_ : s.base = c_) :
    (messageIn l mtag m s).base = c_ := by
  unfold messageIn
  repeat' (with_reducible first | assumption | rfl | apply answerPlain_base | apply claimAttempt_base | apply sealedIn_base | apply plainIn_base | dsimp only | split | intro)

theorem extendMessage_base {c_ : List Instr × Tick × Tick × Bool} (l : Link) (mtag : Byte) (seg : Nat) (last : Bool) (b : List Byte) (s : State) (h_ : s.base = c_) :
    (extendMessage l mtag seg last b s).base = c_ := by
  unfold extendMessage
  repeat' (with_reducible first | assumption | rfl | apply linkError_base | apply messageIn_base | apply State_setLink_base | dsimp only | split | intro)

theorem frameStep_base {c_ : List Instr × Tick × Tick × Bool} (l : Link) (f : List Byte) (s : State) (h_ : s.base = c_) :
    (frameStep l f s).base = c_ := by
  unfold frameStep
  repeat' (with_reducible first | assumption | rfl | apply linkError_base | apply extendMessage_base | dsimp only | split | intro)

theorem gapCheck_base {c_ : List Instr × Tick × Tick × Bool} (l : Link) (s : State) (h_ : s.base = c_) :
    (gapCheck l s).base = c_ := by
  unfold gapCheck
  repeat' (with_reducible first | assumption | rfl | apply linkError_base | dsimp only | split | intro)

theorem doFrameGapTimeout_base {c_ : List Instr × Tick × Tick × Bool} (l : Link) (s : State) (h_ : s.base = c_) :
    (doFrameGapTimeout l s).base = c_ := by
  unfold doFrameGapTimeout
  repeat' (with_reducible first | assumption | rfl | apply gapCheck_base | dsimp only | split | intro)

theorem frameIn_base {c_ : List Instr × Tick × Tick × Bool} (l : Link) (f : List Byte) (s : State) (h_ : s.base = c_) :
    (frameIn l f s).base = c_ := by
  unfold frameIn
  repeat' (with_reducible first | assumption | rfl | apply wake_base | apply gapCheck_base | apply doSessionOpenTimeout_base | apply doSessionIdleTimeout_base | apply frameStep_base | apply linkError_base | dsimp only | split | intro)

theorem doOhmacFrame_base {c_ : List Instr × Tick × Tick × Bool} (src : FrameSource) (s : State) (h_ : s.base = c_) :
    (doOhmacFrame src s).base = c_ := by
  unfold doOhmacFrame
  repeat' (with_reducible first | assumption | rfl | apply frameIn_base | apply raise_base | dsimp only | split | intro)

theorem refusal_base {c_ : List Instr × Tick × Tick × Bool} (status detail : Nat) (s : State) (h_ : s.base = c_) :
    (refusal status detail s).state.base = c_ := by
  unfold refusal
  repeat' (with_reducible first | assumption | rfl | dsimp only | split | intro)

theorem success_base {c_ : List Instr × Tick × Tick × Bool} (data : List Byte) (s : State) (h_ : s.base = c_) :
    (success data s).state.base = c_ := by
  unfold success
  repeat' (with_reducible first | assumption | rfl | dsimp only | split | intro)

theorem command_base {c_ : List Instr × Tick × Tick × Bool} (l : Link) (code : Nat) (f : Request → State → Reply) (s : State) (h_f : ∀ i (s : State), s.base = c_ → (f i s).state.base = c_) (h_ : s.base = c_) :
    (command l code f s).base = c_ := by
  unfold command
  repeat' (with_reducible first | assumption | rfl | apply respond_base | apply refusal_base | apply h_f | dsimp only | split | intro)

theorem malformed_base {c_ : List Instr × Tick × Tick × Bool} (l : Link) (offset : Nat) (s : State) (h_ : s.base = c_) :
    (malformed l offset s).state.base = c_ := by
  unfold malformed
  repeat' (with_reducible first | assumption | rfl | apply refusal_base | apply plainFail_base | dsimp only | split | intro)

theorem sized_base {c_ : List Instr × Tick × Tick × Bool} (l : Link) (n : Nat) (r : Request) (s : State) (k : Unit → Reply) (h_ : s.base = c_) (h : (k ()).state.base = c_) :
    (sized l n r s k).state.base = c_ := by
  unfold sized
  repeat' (with_reducible first | assumption | rfl | apply malformed_base | dsimp only | split | intro)

theorem doIdentity_base {c_ : List Instr × Tick × Tick × Bool} (l : Link) (s : State) (h_ : s.base = c_) :
    (doIdentity l s).base = c_ := by
  unfold doIdentity
  repeat' (with_reducible first | assumption | rfl | apply command_base | apply sized_base | apply success_base | dsimp only | split | intro)

theorem doAttest_base {c_ : List Instr × Tick × Tick × Bool} (l : Link) (s : State) (h_ : s.base = c_) :
    (doAttest l s).base = c_ := by
  unfold doAttest
  repeat' (with_reducible first | assumption | rfl | apply command_base | apply sized_base | apply success_base | apply signed1_base | dsimp only | split | intro)

theorem claimDone_base {c_ : List Instr × Tick × Tick × Bool} (l : Link) (stored : Bool) (b : List Byte) (s : State) (h_ : s.base = c_) :
    (claimDone l stored b s).state.base = c_ := by
  unfold claimDone
  repeat' (with_reducible first | assumption | rfl | apply refusal_base | apply writeFailed_base | apply raise_base | apply logLife_base | apply linkOk_base | apply writeKeys_base | apply success_base | apply signed1_base | dsimp only | split | intro)

theorem claimReply_base {c_ : List Instr × Tick × Tick × Bool} (l : Link) (stored : Bool) (r : Request) (s : State) (h_ : s.base = c_) :
    (claimReply l stored r s).state.base = c_ := by
  unfold claimReply
  repeat' (with_reducible first | assumption | rfl | apply refusal_base | apply malformed_base | apply plainFail_base | apply signatureFail_base | apply claimDone_base | dsimp only | split | intro)

theorem doClaim_base {c_ : List Instr × Tick × Tick × Bool} (l : Link) (stored : Bool) (s : State) (h_ : s.base = c_) :
    (doClaim l stored s).base = c_ := by
  unfold doClaim
  repeat' (with_reducible first | assumption | rfl | apply claimReply_base | apply refusal_base | apply respond_base | apply newChallenge_base | dsimp only | split | intro)

theorem ownerCheck_base {c_ : List Instr × Tick × Tick × Bool} (l : Link) (b : List Byte) (s : State) (h_ : s.base = c_) (x_ : Reply) (hx_ : (ownerCheck l b s) = some x_) :
    x_.state.base = c_ := by
  unfold ownerCheck at hx_
  (try dsimp only at hx_) <;> (repeat' split at hx_) <;> first | (cases hx_; repeat' (with_reducible first | assumption | rfl | apply refusal_base | apply malformed_base | apply signatureFail_base | apply countedFail_base | dsimp only | split | intro)) | (simp at hx_; done) | (simp_all; done)

theorem ownerOp_base {c_ : List Instr × Tick × Tick × Bool} (l : Link) (op : Nat) (stored : Bool) (pre : List Byte → State → Option Reply) (act : List Byte → State → State) (s : State) (h_pre : ∀ i (s : State) r, pre i s = some r → s.base = c_ → r.state.base = c_) (h_act : ∀ i (s : State), s.base = c_ → (act i s).base = c_) (h_ : s.base = c_) :
    (ownerOp l op stored pre act s).base = c_ := by
  unfold ownerOp
  split
  · exact h_
  · split
    · exact h_
    · apply command_base _ _ _ _ _ h_
      intro r s h_
      dsimp only
      split
      · rename_i x hx
        exact or_base _ _ (fun y hy => ownerCheck_base _ _ _ h_ _ hy) (fun y hy => h_pre _ _ _ hy h_) _ hx
      · repeat' (with_reducible first | assumption | rfl | apply command_base | apply refusal_base | apply writeFailed_base | apply linkOk_base | apply writeKeys_base | apply success_base | apply h_act | dsimp only | split | intro)

theorem slotRange_base {c_ : List Instr × Tick × Tick × Bool} (b : List Byte) (s : State) (h_ : s.base = c_) (x_ : Reply) (hx_ : (slotRange b s) = some x_) :
    x_.state.base = c_ := by
  unfold slotRange at hx_
  (try dsimp only at hx_) <;> (repeat' split at hx_) <;> first | (cases hx_; repeat' (with_reducible first | assumption | rfl | apply refusal_base | dsimp only | split | intro)) | (simp at hx_; done) | (simp_all; done)

theorem setOperator_base {c_ : List Instr × Tick × Tick × Bool} (i : Nat) (c : Option (List Byte)) (s : State) (h_ : s.base = c_) :
    (setOperator i c s).base = c_ := by
  unfold setOperator
  repeat' (with_reducible first | assumption | rfl | apply writeKeys_base | dsimp only | split | intro)

theorem closeSlot_base {c_ : List Instr × Tick × Tick × Bool} (i : Nat) (s : State) (h_ : s.base = c_) :
    (closeSlot i s).base = c_ := by
  unfold closeSlot
  repeat' (with_reducible first | assumption | rfl | apply closeSession_base | apply foldl_base | apply foldl1_base | dsimp only | split | intro)

theorem doEnrol_base {c_ : List Instr × Tick × Tick × Bool} (l : Link) (stored : Bool) (s : State) (h_ : s.base = c_) :
    (doEnrol l stored s).base = c_ := by
  unfold doEnrol
  refine ownerOp_base _ _ _ _ _ _ (fun b s x hx h_ => ?_) (fun b s h_ => ?_) h_
  · dsimp only at hx
    split at hx
    · cases hx; repeat' (with_reducible first | assumption | rfl | apply ownerOp_base | apply malformed_base | apply refusal_base | apply signatureFail_base | apply logLife_base | apply setOperator_base | dsimp only | split | intro)
    · refine or_base _ _ (fun y hy => slotRange_base _ _ h_ _ hy) (fun y hy => ?_) _ hx
      split at hy
      · cases hy
      · cases hy; repeat' (with_reducible first | assumption | rfl | apply ownerOp_base | apply malformed_base | apply refusal_base | apply signatureFail_base | apply logLife_base | apply setOperator_base | dsimp only | split | intro)
  · repeat' (with_reducible first | assumption | rfl | apply ownerOp_base | apply malformed_base | apply refusal_base | apply signatureFail_base | apply logLife_base | apply setOperator_base | dsimp only | split | intro)

theorem doRevoke_base {c_ : List Instr × Tick × Tick × Bool} (l : Link) (stored : Bool) (s : State) (h_ : s.base = c_) :
    (doRevoke l stored s).base = c_ := by
  unfold doRevoke
  refine ownerOp_base _ _ _ _ _ _ (fun b s x hx h => slotRange_base _ _ h _ hx) (fun b s h_ => ?_) h_
  repeat' (with_reducible first | assumption | rfl | apply ownerOp_base | apply closeSlot_base | apply logLife_base | apply setOperator_base | dsimp only | split | intro)

theorem doTransfer_base {c_ : List Instr × Tick × Tick × Bool} (l : Link) (stored : Bool) (s : State) (h_ : s.base = c_) :
    (doTransfer l stored s).base = c_ := by
  unfold doTransfer
  refine ownerOp_base _ _ _ _ _ _ (fun b s x hx h_ => ?_) (fun b s h_ => ?_) h_
  · split at hx
    · cases hx
    · cases hx; repeat' (with_reducible first | assumption | rfl | apply ownerOp_base | apply refusal_base | apply plainFail_base | apply raise_base | apply closeAll_base | apply logLife_base | apply writeKeys_base | dsimp only | split | intro)
  · repeat' (with_reducible first | assumption | rfl | apply ownerOp_base | apply refusal_base | apply plainFail_base | apply raise_base | apply closeAll_base | apply logLife_base | apply writeKeys_base | dsimp only | split | intro)

theorem needNosync_base {c_ : List Instr × Tick × Tick × Bool} (s : State) (h_ : s.base = c_) (x_ : Reply) (hx_ : (needNosync s) = some x_) :
    x_.state.base = c_ := by
  unfold needNosync at hx_
  (try dsimp only at hx_) <;> (repeat' split at hx_) <;> first | (cases hx_; repeat' (with_reducible first | assumption | rfl | apply refusal_base | dsimp only | split | intro)) | (simp at hx_; done) | (simp_all; done)

theorem doDecommission_base {c_ : List Instr × Tick × Tick × Bool} (l : Link) (stored : Bool) (s : State) (h_ : s.base = c_) :
    (doDecommission l stored s).base = c_ := by
  unfold doDecommission
  refine ownerOp_base _ _ _ _ _ _ (fun b s x hx h => needNosync_base _ h _ hx) (fun b s h_ => ?_) h_
  repeat' (with_reducible first | assumption | rfl | apply ownerOp_base | apply decommission_base | dsimp only | split | intro)

theorem doRetire_base {c_ : List Instr × Tick × Tick × Bool} (l : Link) (stored : Bool) (s : State) (h_ : s.base = c_) :
    (doRetire l stored s).base = c_ := by
  unfold doRetire
  refine ownerOp_base _ _ _ _ _ _ (fun b s x hx h => needNosync_base _ h _ hx) (fun b s h_ => ?_) h_
  repeat' (with_reducible first | assumption | rfl | apply ownerOp_base | apply decommission_base | dsimp only | split | intro)

theorem armRelease_base {c_ : List Instr × Tick × Tick × Bool} (s : State) (h_ : s.base = c_) :
    (armRelease s).base = c_ := by
  unfold armRelease
  repeat' (with_reducible first | assumption | rfl | apply raise_base | dsimp only | split | intro)

theorem doForceRelease_base {c_ : List Instr × Tick × Tick × Bool} (l : Link) (s : State) (h_ : s.base = c_) :
    (doForceRelease l s).base = c_ := by
  unfold doForceRelease
  repeat' (with_reducible first | assumption | rfl | apply command_base | apply sized_base | apply refusal_base | apply armRelease_base | apply success_base | dsimp only | split | intro)

theorem doReleaseReminder_base {c_ : List Instr × Tick × Tick × Bool} (s : State) (h_ : s.base = c_) :
    (doReleaseReminder s).base = c_ := by
  unfold doReleaseReminder
  repeat' (with_reducible first | assumption | rfl | apply raiseIf_base | apply log_base | dsimp only | split | intro)

theorem doReleaseCountdownExpiry_base {c_ : List Instr × Tick × Tick × Bool} (s : State) (h_ : s.base = c_) :
    (doReleaseCountdownExpiry s).base = c_ := by
  unfold doReleaseCountdownExpiry
  repeat' (with_reducible first | assumption | rfl | apply decommission_base | dsimp only | split | intro)

theorem doChallengeExpiry_base {c_ : List Instr × Tick × Tick × Bool} (s : State) (h_ : s.base = c_) :
    (doChallengeExpiry s).base = c_ := by
  unfold doChallengeExpiry
  repeat' (with_reducible first | assumption | rfl | apply newChallenge_base | dsimp only | split | intro)

theorem doEntropyHealthFailure_base {c_ : List Instr × Tick × Tick × Bool} (s : State) (h_ : s.base = c_) :
    (doEntropyHealthFailure s).base = c_ := by
  unfold doEntropyHealthFailure
  repeat' (with_reducible first | assumption | rfl | apply raise_base | dsimp only | split | intro)

theorem doEntropyHealthRecovery_base {c_ : List Instr × Tick × Tick × Bool} (s : State) (h_ : s.base = c_) :
    (doEntropyHealthRecovery s).base = c_ := by
  unfold doEntropyHealthRecovery
  repeat' (with_reducible first | assumption | rfl | dsimp only | split | intro)

theorem envRefused_base {c_ : List Instr × Tick × Tick × Bool} (l : Link) (x : Nat × Nat) (s : State) (h_ : s.base = c_) :
    (envRefused l x s).state.base = c_ := by
  unfold envRefused
  repeat' (with_reducible first | assumption | rfl | apply malformed_base | apply refusal_base | apply signatureFail_base | apply countedFail_base | dsimp only | split | intro)

theorem doEnvInstall_base {c_ : List Instr × Tick × Tick × Bool} (l : Link) (s : State) (h_ : s.base = c_) :
    (doEnvInstall l s).base = c_ := by
  unfold doEnvInstall
  repeat' (with_reducible first | assumption | rfl | apply linkOk_base | apply command_base | apply refusal_base | apply envRefused_base | dsimp only | split | intro)

theorem storeEnvelope_base {c_ : List Instr × Tick × Tick × Bool} (e : List Byte) (s : State) (h_ : s.base = c_) :
    (storeEnvelope e s).base = c_ := by
  unfold storeEnvelope
  repeat' (with_reducible first | assumption | rfl | apply regionWritten_base | dsimp only | split | intro)

theorem envelopeStored_base {c_ : List Instr × Tick × Tick × Bool} (e : List Byte) (s : State) (h_ : s.base = c_) :
    (envelopeStored e s).base = c_ := by
  unfold envelopeStored
  repeat' (with_reducible first | assumption | rfl | apply raise_base | apply storeEnvelope_base | apply envelopeBoundary_base | dsimp only | split | intro)

theorem envAnswer_base {c_ : List Instr × Tick × Tick × Bool} (l : Link) (before : State) (a : Reply) (h_ : a.state.base = c_) :
    (envAnswer l before a).base = c_ := by
  unfold envAnswer
  repeat' (with_reducible first | assumption | rfl | apply respond_base | dsimp only | split | intro)

theorem doEnvelopeWriteComplete_base {c_ : List Instr × Tick × Tick × Bool} (ok : Bool) (s : State) (h_ : s.base = c_) :
    (doEnvelopeWriteComplete ok s).base = c_ := by
  unfold doEnvelopeWriteComplete
  repeat' (with_reducible first | assumption | rfl | apply envAnswer_base | apply refusal_base | apply writeFailed_base | apply envRefused_base | apply envelopeStored_base | apply success_base | dsimp only | split | intro)

theorem doEnvelopeCopyError_base {c_ : List Instr × Tick × Tick × Bool} (s : State) (h_ : s.base = c_) :
    (doEnvelopeCopyError s).base = c_ := by
  unfold doEnvelopeCopyError
  repeat' (with_reducible first | assumption | rfl | apply envCopyError_base | dsimp only | split | intro)

theorem doEnvelopeReloadComplete_base {c_ : List Instr × Tick × Tick × Bool} (s : State) (h_ : s.base = c_) :
    (doEnvelopeReloadComplete s).base = c_ := by
  unfold doEnvelopeReloadComplete
  repeat' (with_reducible first | assumption | rfl | apply raise_base | dsimp only | split | intro)

theorem openWith_base {c_ : List Instr × Tick × Tick × Bool} (l : Link) (b : List Byte) (d : Word × Nat) (s : State) (h_ : s.base = c_) :
    (openWith l b d s).state.base = c_ := by
  unfold openWith
  repeat' (with_reducible first | assumption | rfl | apply success_base | apply signed1_base | apply State_setLink_base | dsimp only | split | intro)

theorem openTwo_base {c_ : List Instr × Tick × Tick × Bool} (l : Link) (b : List Byte) (s : State) (h_ : s.base = c_) :
    (openTwo l b s).state.base = c_ := by
  unfold openTwo
  repeat' (with_reducible first | assumption | rfl | apply openWith_base | apply refusal_base | apply entropyUsed_base | dsimp only | split | intro)

theorem doOpen1_base {c_ : List Instr × Tick × Tick × Bool} (l : Link) (s : State) (h_ : s.base = c_) :
    (doOpen1 l s).base = c_ := by
  unfold doOpen1
  repeat' (with_reducible first | assumption | rfl | apply command_base | apply closeSession_base | apply refusal_base | apply malformed_base | apply openTwo_base | apply signatureFail_base | dsimp only | split | intro)

theorem opened_base {c_ : List Instr × Tick × Tick × Bool} (l : Link) (before : State) (r : Request) (o : Opening) (c : List Byte) (s : State) (h_ : s.base = c_) :
    (opened l before r o c s).base = c_ := by
  unfold opened
  repeat' (with_reducible first | assumption | rfl | apply raise_base | apply logLink_base | apply linkOk_base | apply State_setLink_base | apply respond_base | apply success_base | dsimp only | split | intro)

theorem openFails_base {c_ : List Instr × Tick × Tick × Bool} (l : Link) (status detail : Nat) (s : State) (h_ : s.base = c_) :
    (openFails l status detail s).state.base = c_ := by
  unfold openFails
  repeat' (with_reducible first | assumption | rfl | apply State_setLink_base | apply refusal_base | apply plainFail_base | apply signatureFail_base | dsimp only | split | intro)

theorem doOpen3_base {c_ : List Instr × Tick × Tick × Bool} (l : Link) (s : State) (h_ : s.base = c_) :
    (doOpen3 l s).base = c_ := by
  unfold doOpen3
  repeat' (with_reducible first | assumption | rfl | apply respond_base | apply openFails_base | apply opened_base | apply refusal_base | dsimp only | split | intro)

theorem doClose_base {c_ : List Instr × Tick × Tick × Bool} (l : Link) (s : State) (h_ : s.base = c_) :
    (doClose l s).base = c_ := by
  unfold doClose
  repeat' (with_reducible first | assumption | rfl | apply command_base | apply sized_base | apply success_base | apply closeSession_base | dsimp only | split | intro)

theorem stageChunk_base {c_ : List Instr × Tick × Tick × Bool} (l : Link) (a : Nat) (data : List Byte) (s : State) (h_ : s.base = c_) :
    (stageChunk l a data s).state.base = c_ := by
  unfold stageChunk
  repeat' (with_reducible first | assumption | rfl | apply success_base | dsimp only | split | intro)

theorem doCfgStage_base {c_ : List Instr × Tick × Tick × Bool} (l : Link) (s : State) (h_ : s.base = c_) :
    (doCfgStage l s).base = c_ := by
  unfold doCfgStage
  repeat' (with_reducible first | assumption | rfl | apply command_base | apply refusal_base | apply malformed_base | apply stageChunk_base | dsimp only | split | intro)

theorem doCfgDiscard_base {c_ : List Instr × Tick × Tick × Bool} (l : Link) (s : State) (h_ : s.base = c_) :
    (doCfgDiscard l s).base = c_ := by
  unfold doCfgDiscard
  repeat' (with_reducible first | assumption | rfl | apply command_base | apply refusal_base | apply sized_base | apply success_base | dsimp only | split | intro)

theorem commitDone_base {c_ : List Instr × Tick × Tick × Bool} (b : Block) (s : State) (h_ : s.base = c_) :
    (commitDone b s).state.base = c_ := by
  unfold commitDone
  repeat' (with_reducible first | assumption | rfl | apply applyPending_base | apply success_base | dsimp only | split | intro)

theorem doCfgCommit_base {c_ : List Instr × Tick × Tick × Bool} (l : Link) (s : State) (h_ : s.base = c_) :
    (doCfgCommit l s).base = c_ := by
  unfold doCfgCommit
  repeat' (with_reducible first | assumption | rfl | apply command_base | apply refusal_base | apply sized_base | apply commitDone_base | dsimp only | split | intro)

theorem doConfigStoreComplete_base {c_ : List Instr × Tick × Tick × Bool} (ok : Bool) (s : State) (h_ : s.base = c_) :
    (doConfigStoreComplete ok s).base = c_ := by
  unfold doConfigStoreComplete
  repeat' (with_reducible first | assumption | rfl | apply regionWritten_base | apply writeFailed_base | dsimp only | split | intro)

theorem doCfgRead_base {c_ : List Instr × Tick × Tick × Bool} (l : Link) (s : State) (h_ : s.base = c_) :
    (doCfgRead l s).base = c_ := by
  unfold doCfgRead
  repeat' (with_reducible first | assumption | rfl | apply command_base | apply sized_base | apply malformed_base | apply refusal_base | apply success_base | dsimp only | split | intro)

theorem doCfgStatus_base {c_ : List Instr × Tick × Tick × Bool} (l : Link) (s : State) (h_ : s.base = c_) :
    (doCfgStatus l s).base = c_ := by
  unfold doCfgStatus
  repeat' (with_reducible first | assumption | rfl | apply command_base | apply sized_base | apply success_base | dsimp only | split | intro)

theorem doPing_base {c_ : List Instr × Tick × Tick × Bool} (l : Link) (s : State) (h_ : s.base = c_) :
    (doPing l s).base = c_ := by
  unfold doPing
  repeat' (with_reducible first | assumption | rfl | apply command_base | apply sized_base | apply success_base | dsimp only | split | intro)

theorem readSeq_base {c_ : List Instr × Tick × Tick × Bool} (n a : Nat) (s : State) (h_ : s.base = c_) : (readSeq n a s).2.base = c_ := by
  induction n generalizing a s with
  | zero => exact h_
  | succ n ih => exact ih _ _ (regLatch_base _ _ _ h_)
theorem doReadRegs_base {c_ : List Instr × Tick × Tick × Bool} (l : Link) (s : State) (h_ : s.base = c_) :
    (doReadRegs l s).base = c_ := by
  unfold doReadRegs
  repeat' (with_reducible first | assumption | rfl | apply command_base | apply sized_base | apply malformed_base | apply refusal_base | apply success_base | apply readSeq_base | dsimp only | split | intro)

theorem doCycleRecord_base {c_ : List Instr × Tick × Tick × Bool} (l : Link) (s : State) (h_ : s.base = c_) :
    (doCycleRecord l s).base = c_ := by
  unfold doCycleRecord
  repeat' (with_reducible first | assumption | rfl | apply command_base | apply sized_base | apply refusal_base | apply success_base | apply signed1_base | dsimp only | split | intro)

theorem doTelemetry_base {c_ : List Instr × Tick × Tick × Bool} (l : Link) (s : State) (h_ : s.base = c_) :
    (doTelemetry l s).base = c_ := by
  unfold doTelemetry
  repeat' (with_reducible first | assumption | rfl | apply command_base | apply sized_base | apply success_base | dsimp only | split | intro)

theorem doLogRead_base {c_ : List Instr × Tick × Tick × Bool} (l : Link) (s : State) (h_ : s.base = c_) :
    (doLogRead l s).base = c_ := by
  unfold doLogRead
  repeat' (with_reducible first | assumption | rfl | apply command_base | apply sized_base | apply malformed_base | apply refusal_base | apply success_base | dsimp only | split | intro)

theorem writeMailbox_base {c_ : List Instr × Tick × Tick × Bool} (q first : Nat) (w : List Word) (s : State) (h_ : s.base = c_) :
    (writeMailbox q first w s).base = c_ := by
  unfold writeMailbox
  repeat' (with_reducible first | assumption | rfl | apply latchSq_base | apply State_setSq_base | dsimp only | split | intro)

theorem doTargets_base {c_ : List Instr × Tick × Tick × Bool} (l : Link) (s : State) (h_ : s.base = c_) :
    (doTargets l s).base = c_ := by
  unfold doTargets
  repeat' (with_reducible first | assumption | rfl | apply command_base | apply refusal_base | apply malformed_base | apply writeMailbox_base | apply success_base | dsimp only | split | intro)

theorem doImgBegin_base {c_ : List Instr × Tick × Tick × Bool} (l : Link) (s : State) (h_ : s.base = c_) :
    (doImgBegin l s).base = c_ := by
  unfold doImgBegin
  repeat' (with_reducible first | assumption | rfl | apply command_base | apply refusal_base | apply sized_base | apply malformed_base | apply setImage_base | apply success_base | dsimp only | split | intro)

theorem doImgData_base {c_ : List Instr × Tick × Tick × Bool} (l : Link) (s : State) (h_ : s.base = c_) :
    (doImgData l s).base = c_ := by
  unfold doImgData
  repeat' (with_reducible first | assumption | rfl | apply command_base | apply refusal_base | apply malformed_base | apply blocksWritten_base | apply setImage_base | apply success_base | dsimp only | split | intro)

theorem imageRefused_base {c_ : List Instr × Tick × Tick × Bool} (l : Link) (x : Slot) (st : Nat) (s : State) (h_ : s.base = c_) :
    (imageRefused l x st s).base = c_ := by
  unfold imageRefused
  repeat' (with_reducible first | assumption | rfl | apply raise_base | apply logImage_base | apply setImage_base | apply plainFail_base | apply signatureFail_base | apply countedFail_base | dsimp only | split | intro)

theorem doImgEnd_base {c_ : List Instr × Tick × Tick × Bool} (l : Link) (s : State) (h_ : s.base = c_) :
    (doImgEnd l s).base = c_ := by
  unfold doImgEnd
  repeat' (with_reducible first | assumption | rfl | apply command_base | apply refusal_base | apply sized_base | apply imageRefused_base | apply linkOk_base | apply setImage_base | apply success_base | apply raise_base | apply logImage_base | dsimp only | split | intro)

theorem doImgSelect_base {c_ : List Instr × Tick × Tick × Bool} (l : Link) (stored : Bool) (s : State) (h_ : s.base = c_) :
    (doImgSelect l stored s).base = c_ := by
  unfold doImgSelect
  repeat' (with_reducible first | assumption | rfl | apply command_base | apply refusal_base | apply sized_base | apply malformed_base | apply writeFailed_base | apply success_base | apply writeKeys_base | dsimp only | split | intro)

theorem doImgConfirm_base {c_ : List Instr × Tick × Tick × Bool} (l : Link) (stored : Bool) (s : State) (h_ : s.base = c_) :
    (doImgConfirm l stored s).base = c_ := by
  unfold doImgConfirm
  repeat' (with_reducible first | assumption | rfl | apply command_base | apply sized_base | apply refusal_base | apply writeFailed_base | apply writeKeys_base | apply success_base | apply raise_base | apply logImage_base | dsimp only | split | intro)

theorem doReset_base {c_ : List Instr × Tick × Tick × Bool} (l : Link) (s : State) (h_ : s.base = c_) :
    (doReset l s).base = c_ := by
  unfold doReset
  repeat' (with_reducible first | assumption | rfl | apply command_base | apply refusal_base | apply sized_base | apply malformed_base | apply success_base | dsimp only | split | intro)

theorem shotReply_base {c_ : List Instr × Tick × Tick × Bool} (a : Answer) (s : State) (h_ : s.base = c_) :
    (shotReply a s).state.base = c_ := by
  unfold shotReply
  repeat' (with_reducible first | assumption | rfl | apply success_base | apply refusal_base | dsimp only | split | intro)

theorem doTestShot_base {c_ : List Instr × Tick × Tick × Bool} (l : Link) (s : State) (h_ : s.base = c_) :
    (doTestShot l s).base = c_ := by
  unfold doTestShot
  repeat' (with_reducible first | assumption | rfl | apply command_base | apply refusal_base | apply sized_base | apply malformed_base | apply insertEvent_base | apply served_base | apply shotReply_base | dsimp only | split | intro)

theorem diagRun_base {c_ : List Instr × Tick × Tick × Bool} (l : Link) (kind : Nat) (k : BitVec 64 → State → State) (s : State) (h_k : ∀ i (s : State), s.base = c_ → (k i s).base = c_) (h_ : s.base = c_) :
    (diagRun l kind k s).base = c_ := by
  unfold diagRun
  repeat' (with_reducible first | assumption | rfl | apply command_base | apply refusal_base | apply success_base | apply h_k | dsimp only | split | intro)

theorem doDiagRunOffTest_base {c_ : List Instr × Tick × Tick × Bool} (l : Link) (s : State) (h_ : s.base = c_) :
    (doDiagRunOffTest l s).base = c_ := by
  unfold doDiagRunOffTest
  repeat' (with_reducible first | assumption | rfl | apply diagRun_base | apply diagOffTest_base | dsimp only | split | intro)

theorem doDiagRunClear_base {c_ : List Instr × Tick × Tick × Bool} (l : Link) (s : State) (h_ : s.base = c_) :
    (doDiagRunClear l s).base = c_ := by
  unfold doDiagRunClear
  repeat' (with_reducible first | assumption | rfl | apply diagRun_base | apply diagClear_base | dsimp only | split | intro)

theorem writeTimCtl_base {c_ : List Instr × Tick × Tick × Bool} (n v : Nat) (s : State) (h_ : s.base = c_) :
    (writeTimCtl n v s).base = c_ := by
  unfold writeTimCtl
  repeat' (with_reducible first | assumption | rfl | apply State_setTimer_base | apply doTimerStop_base | apply doTimerStart_base | dsimp only | split | intro)

theorem writeTimCapcfg_base {c_ : List Instr × Tick × Tick × Bool} (n v : Nat) (s : State) (h_ : s.base = c_) :
    (writeTimCapcfg n v s).base = c_ := by
  unfold writeTimCapcfg
  repeat' (with_reducible first | assumption | rfl | apply State_setTimer_base | dsimp only | split | intro)

theorem writeTimStat_base {c_ : List Instr × Tick × Tick × Bool} (n v : Nat) (s : State) (h_ : s.base = c_) :
    (writeTimStat n v s).base = c_ := by
  unfold writeTimStat
  repeat' (with_reducible first | assumption | rfl | apply State_setTimer_base | dsimp only | split | intro)

theorem writeTimer_base {c_ : List Instr × Tick × Tick × Bool} (n o : Nat) (v : Word) (s : State) (h_ : s.base = c_) :
    (writeTimer n o v s).base = c_ := by
  unfold writeTimer
  repeat' (with_reducible first | assumption | rfl | apply writeTimCtl_base | apply doTimerTargetWrite_base | apply writeTimCapcfg_base | apply writeTimStat_base | apply State_setTimer_base | dsimp only | split | intro)

theorem writeEbCtl_base {c_ : List Instr × Tick × Tick × Bool} (n v : Nat) (s : State) (h_ : s.base = c_) :
    (writeEbCtl n v s).base = c_ := by
  unfold writeEbCtl
  repeat' (with_reducible first | assumption | rfl | apply State_setEb_base | apply ebSetMask_base | apply doEbLoadArm_base | apply doEbEnable_base | apply doEbDisable_base | dsimp only | split | intro)

theorem writeEbStat_base {c_ : List Instr × Tick × Tick × Bool} (n v : Nat) (s : State) (h_ : s.base = c_) :
    (writeEbStat n v s).base = c_ := by
  unfold writeEbStat
  repeat' (with_reducible first | assumption | rfl | apply State_setEb_base | apply doEbTripClear_base | dsimp only | split | intro)

theorem writeEb_base {c_ : List Instr × Tick × Tick × Bool} (n o : Nat) (v : Word) (s : State) (h_ : s.base = c_) :
    (writeEb n o v s).base = c_ := by
  unfold writeEb
  repeat' (with_reducible first | assumption | rfl | apply writeEbCtl_base | apply doEbWrite_base | apply ebShadow_base | apply State_setEb_base | apply writeEbStat_base | dsimp only | split | intro)

theorem writeKc_base {c_ : List Instr × Tick × Tick × Bool} (k o : Nat) (v : Word) (s : State) (h_ : s.base = c_) :
    (writeKc k o v s).base = c_ := by
  unfold writeKc
  repeat' (with_reducible first | assumption | rfl | apply State_setKc_base | dsimp only | split | intro)

theorem writePwm_base {c_ : List Instr × Tick × Tick × Bool} (a : Nat) (v : Word) (s : State) (h_ : s.base = c_) :
    (writePwm a v s).base = c_ := by
  unfold writePwm
  repeat' (with_reducible first | assumption | rfl | apply doPwmGlbLoad_base | apply doPwmGlbStart_base | apply writeEb_base | apply writeKc_base | dsimp only | split | intro)

theorem writeTim_base {c_ : List Instr × Tick × Tick × Bool} (a : Nat) (v : Word) (s : State) (h_ : s.base = c_) :
    (writeTim a v s).base = c_ := by
  unfold writeTim
  repeat' (with_reducible first | assumption | rfl | apply doTimGlbStart_base | apply writeTimer_base | dsimp only | split | intro)

theorem writeDch_base {c_ : List Instr × Tick × Tick × Bool} (k o : Nat) (v : Word) (s : State) (h_ : s.base = c_) :
    (writeDch k o v s).base = c_ := by
  unfold writeDch
  repeat' (with_reducible first | assumption | rfl | apply State_setDch_base | dsimp only | split | intro)

theorem writePwrCtl_base {c_ : List Instr × Tick × Tick × Bool} (v : Nat) (s : State) (h_ : s.base = c_) :
    (writePwrCtl v s).base = c_ := by
  unfold writePwrCtl
  repeat' (with_reducible first | assumption | rfl | apply doStandbyRequest_base | apply doSleepRequest_base | dsimp only | split | intro)

theorem writeLevel_base {c_ : List Instr × Tick × Tick × Bool} (w : Nat) (v : Word) (s : State) (h_ : s.base = c_) :
    (writeLevel w v s).base = c_ := by
  unfold writeLevel
  repeat' (with_reducible first | assumption | rfl | dsimp only | split | intro)

theorem writeCc_base {c_ : List Instr × Tick × Tick × Bool} (g : IrqTarget) (v : Nat) (s : State) (h_ : s.base = c_) :
    (writeCc g v s).base = c_ := by
  unfold writeCc
  repeat' (with_reducible first | assumption | rfl | apply doIrqComplete_base | apply doIrqClaim_base | dsimp only | split | intro)

theorem writeMod_base {c_ : List Instr × Tick × Tick × Bool} (v : Nat) (s : State) (h_ : s.base = c_) :
    (writeMod v s).base = c_ := by
  unfold writeMod
  repeat' (with_reducible first | assumption | rfl | dsimp only | split | intro)

theorem writeTarget_base {c_ : List Instr × Tick × Tick × Bool} (g : IrqTarget) (o : Nat) (v : Word) (s : State) (h_ : s.base = c_) (x_ : State) (hx_ : (writeTarget g o v s) = some x_) :
    x_.base = c_ := by
  unfold writeTarget at hx_
  (try dsimp only at hx_) <;> (repeat' split at hx_) <;> first | (cases hx_; repeat' (with_reducible first | assumption | rfl | apply State_setTarget_base | apply writeCc_base | dsimp only | split | intro)) | (simp at hx_; done) | (simp_all; done)

theorem hostRefused_base {c_ : List Instr × Tick × Tick × Bool} (s : State) (h_ : s.base = c_) :
    (hostRefused s).base = c_ := by
  unfold hostRefused
  repeat' (with_reducible first | assumption | rfl | dsimp only | split | intro)

theorem writeTxBuf_base {c_ : List Instr × Tick × Tick × Bool} (a : Nat) (v : Word) (s : State) (h_ : s.base = c_) :
    (writeTxBuf a v s).base = c_ := by
  unfold writeTxBuf
  repeat' (with_reducible first | assumption | rfl | apply hostRefused_base | dsimp only | split | intro)

theorem writeMbxCtl_base {c_ : List Instr × Tick × Tick × Bool} (v : Nat) (s : State) (h_ : s.base = c_) :
    (writeMbxCtl v s).base = c_ := by
  unfold writeMbxCtl
  repeat' (with_reducible first | assumption | rfl | apply doMbxAbort_base | apply doMbxRxDone_base | apply doMbxSend_base | dsimp only | split | intro)

theorem hostWrite_base {c_ : List Instr × Tick × Tick × Bool} (a : Nat) (v : Word) (s : State) (h_ : s.base = c_) :
    (hostWrite a v s).base = c_ := by
  unfold hostWrite
  repeat' (with_reducible first | assumption | apply getD_base | apply writeMbxCtl_base | apply writeTxBuf_base | apply writeMod_base | apply hostRefused_base | split)
  exact fun x hx => writeTarget_base _ _ _ _ h_ _ hx

theorem codeWrite_base {c_ : List Instr × Tick × Tick × Bool} (owner a : Nat) (v : Word) (s : State) (h_ : s.base = c_) :
    (codeWrite owner a v s).base = c_ := by
  unfold codeWrite
  repeat' (with_reducible first | assumption | rfl | apply writePwrCtl_base | apply writeLevel_base | apply doFaultAcknowledge_base | apply writeWdtCfg_base | apply doWatchdogService_base | apply writeTim_base | apply writePwm_base | apply doSetpointWrite_base | apply doExtensionWrite_base | apply writeDch_base | dsimp only | split | intro)

theorem coreWrite_base {c_ : List Instr × Tick × Tick × Bool} (a : Nat) (v : Word) (s : State) (h_ : s.base = c_) :
    (coreWrite a v s).base = c_ := by
  unfold coreWrite
  split
  · exact h_
  · split
    · exact getD_base _ _ (fun x hx => writeTarget_base _ _ _ _ h_ _ hx) h_
    · exact codeWrite_base _ _ _ _ h_

theorem doRegisterWrite_base {c_ : List Instr × Tick × Tick × Bool} (r : Requester) (a : Nat) (v : Word) (s : State) (h_ : s.base = c_) :
    (doRegisterWrite r a v s).base = c_ := by
  unfold doRegisterWrite
  repeat' (with_reducible first | assumption | rfl | apply hostWrite_base | apply coreWrite_base | apply codeWrite_base | dsimp only | split | intro)

theorem setReg_base {c_ : List Instr × Tick × Tick × Bool} (i d : Nat) (v : Word) (s : State) (h_ : s.base = c_) :
    (setReg i d v s).base = c_ := by
  unfold setReg
  repeat' (with_reducible first | assumption | rfl | apply State_setCtx_base | dsimp only | split | intro)

theorem setPc_base {c_ : List Instr × Tick × Tick × Bool} (i : Nat) (p : BitVec 16) (s : State) (h_ : s.base = c_) :
    (setPc i p s).base = c_ := by
  unfold setPc
  repeat' (with_reducible first | assumption | rfl | apply State_setCtx_base | dsimp only | split | intro)

theorem nextPc_base {c_ : List Instr × Tick × Tick × Bool} (i : Nat) (s : State) (h_ : s.base = c_) :
    (nextPc i s).base = c_ := by
  unfold nextPc
  repeat' (with_reducible first | assumption | rfl | apply setPc_base | dsimp only | split | intro)

theorem writeD_base {c_ : List Instr × Tick × Tick × Bool} (i d : Nat) (v : Word) (s : State) (h_ : s.base = c_) :
    (writeD i d v s).base = c_ := by
  unfold writeD
  repeat' (with_reducible first | assumption | rfl | apply nextPc_base | apply setReg_base | dsimp only | split | intro)

theorem setQ_base {c_ : List Instr × Tick × Tick × Bool} (i : Nat) (b : Bool) (s : State) (h_ : s.base = c_) :
    (setQ i b s).base = c_ := by
  unfold setQ
  repeat' (with_reducible first | assumption | rfl | apply State_setCtx_base | dsimp only | split | intro)

theorem haltTask_base {c_ : List Instr × Tick × Tick × Bool} (i by' : Nat) (s : State) (h_ : s.base = c_) :
    (haltTask i by' s).base = c_ := by
  unfold haltTask
  repeat' (with_reducible first | assumption | rfl | apply fault_base | apply State_setCtx_base | apply haltCancel_base | dsimp only | split | intro)

theorem logTask_base {c_ : List Instr × Tick × Tick × Bool} (i cause : Nat) (pc : BitVec 16) (s : State) (h_ : s.base = c_) :
    (logTask i cause pc s).base = c_ := by
  unfold logTask
  repeat' (with_reducible first | assumption | rfl | apply log_base | dsimp only | split | intro)

theorem countSegFault_base {c_ : List Instr × Tick × Tick × Bool} (s : State) (h_ : s.base = c_) :
    (countSegFault s).base = c_ := by
  unfold countSegFault
  repeat' (with_reducible first | assumption | rfl | dsimp only | split | intro)

theorem takeFault_base {c_ : List Instr × Tick × Tick × Bool} (i cause : Nat) (faddr : Word) (s : State) (h_ : s.base = c_) :
    (takeFault i cause faddr s).base = c_ := by
  unfold takeFault
  repeat' (with_reducible first | assumption | rfl | apply countSegFault_base | apply logTask_base | apply State_setCtx_base | apply haltTask_base | dsimp only | split | intro)

theorem budgetFault_base {c_ : List Instr × Tick × Tick × Bool} (i : Nat) (s : State) (h_ : s.base = c_) :
    (budgetFault i s).base = c_ := by
  unfold budgetFault
  repeat' (with_reducible first | assumption | rfl | apply takeFault_base | dsimp only | split | intro)

theorem doBudgetExhausted_base {c_ : List Instr × Tick × Tick × Bool} (q p : Nat) (s : State) (h_ : s.base = c_) :
    (doBudgetExhausted q p s).base = c_ := by
  unfold doBudgetExhausted
  repeat' (with_reducible first | assumption | rfl | apply budgetFault_base | dsimp only | split | intro)

theorem toReady_base {c_ : List Instr × Tick × Tick × Bool} (j : Nat) (s : State) (h_ : s.base = c_) :
    (toReady j s).base = c_ := by
  unfold toReady
  repeat' (with_reducible first | assumption | rfl | apply State_setCtx_base | dsimp only | split | intro)

theorem occupy_base {c_ : List Instr × Tick × Tick × Bool} (i : Nat) (s : State) (h_ : s.base = c_) :
    (occupy i s).base = c_ := by
  unfold occupy
  repeat' (with_reducible first | assumption | rfl | apply forEach_base | apply toReady_base | apply State_setCtx_base | apply State_setSq_base | dsimp only | split | intro)

theorem atBoundary_base {c_ : List Instr × Tick × Tick × Bool} (q : Nat) (s : State) (h_ : s.base = c_) :
    (atBoundary q s).base = c_ := by
  unfold atBoundary
  repeat' (with_reducible first | assumption | rfl | apply forEach_base | apply budgetFault_base | dsimp only | split | intro)

theorem Done_finish_base {c_ : List Instr × Tick × Tick × Bool} (i : Nat) (d : Done) (h_ : d.st.base = c_) : (d.finish i).base = c_ := by
  cases d <;> simp only [Done.finish, Done.st_next, Done.st_fault] at h_ ⊢ <;> repeat' (with_reducible first | assumption | rfl | apply atBoundary_base | apply occupy_base | apply eccRead_base | apply takeFault_base | apply eccFound_base | apply h_run | dsimp only | split | intro)
theorem issueWith_base {c_ : List Instr × Tick × Tick × Bool} (n : Issue) (run : Nat → Word → State → Option Done) (s0 : State) (h_run : ∀ i w (s : State) d, run i w s = some d → s.base = c_ → d.st.base = c_) (h_ : s0.base = c_) :
    (issueWith n run s0).base = c_ := by
  unfold issueWith
  dsimp only
  split
  · exact h_
  · split
    · exact h_
    · split
      · split
        · rename_i hd
          refine Done_finish_base _ _ (h_run _ _ _ _ hd ?_)
          repeat' (with_reducible first | assumption | rfl | apply atBoundary_base | apply occupy_base | apply eccRead_base | apply takeFault_base | apply eccFound_base | apply h_run | dsimp only | split | intro)
        · exact h_
      · repeat' (with_reducible first | assumption | rfl | apply atBoundary_base | apply occupy_base | apply eccRead_base | apply takeFault_base | apply eccFound_base | apply h_run | dsimp only | split | intro)
      · repeat' (with_reducible first | assumption | rfl | apply atBoundary_base | apply occupy_base | apply eccRead_base | apply takeFault_base | apply eccFound_base | apply h_run | dsimp only | split | intro)

theorem issueOp_base {c_ : List Instr × Tick × Tick × Bool} (op : AOp) (n : Issue) (run : Nat → AInstr → State → Done) (s : State) (h_run : ∀ i w (s : State), s.base = c_ → (run i w s).st.base = c_) (h_ : s.base = c_) :
    (issueOp op n run s).base = c_ := by
  unfold issueOp
  apply issueWith_base _ _ _ _ h_
  intro i w s d hd h
  (repeat' split at hd) <;> cases hd
  exact h_run _ _ _ h

theorem doIllegalInstruction_base {c_ : List Instr × Tick × Tick × Bool} (n : Issue) (s : State) (h_ : s.base = c_) :
    (doIllegalInstruction n s).base = c_ := by
  unfold doIllegalInstruction
  apply issueWith_base _ _ _ _ h_
  intro i w s d hd h
  split at hd <;> cases hd
  exact h

theorem aluR_base {c_ : List Instr × Tick × Tick × Bool} (f : Word → Word → Word) (i : Nat) (x : AInstr) (s : State) (h_ : s.base = c_) :
    (aluR f i x s).st.base = c_ := by
  unfold aluR
  repeat' (with_reducible first | assumption | rfl | apply writeD_base | simp only [Done.st_next, Done.st_fault] | dsimp only | split | intro)

theorem aluI_base {c_ : List Instr × Tick × Tick × Bool} (f : Word → Nat → Word) (i : Nat) (x : AInstr) (s : State) (h_ : s.base = c_) :
    (aluI f i x s).st.base = c_ := by
  unfold aluI
  repeat' (with_reducible first | assumption | rfl | apply writeD_base | simp only [Done.st_next, Done.st_fault] | dsimp only | split | intro)

theorem additive_base {c_ : List Instr × Tick × Tick × Bool} (f : Ctx → Word → SumFlags) (b : Ctx → Word) (i : Nat) (x : AInstr) (s : State) (h_ : s.base = c_) :
    (additive f b i x s).st.base = c_ := by
  unfold additive
  repeat' (with_reducible first | assumption | rfl | apply writeD_base | apply State_setCtx_base | simp only [Done.st_next, Done.st_fault] | dsimp only | split | intro)

theorem effAdd_base {c_ : List Instr × Tick × Tick × Bool} (i : Nat) (x : AInstr) (s : State) (h_ : s.base = c_) :
    (effAdd i x s).st.base = c_ := by
  unfold effAdd
  repeat' (with_reducible first | assumption | rfl | apply additive_base | simp only [Done.st_next, Done.st_fault] | dsimp only | split | intro)

theorem effSub_base {c_ : List Instr × Tick × Tick × Bool} (i : Nat) (x : AInstr) (s : State) (h_ : s.base = c_) :
    (effSub i x s).st.base = c_ := by
  unfold effSub
  repeat' (with_reducible first | assumption | rfl | apply additive_base | simp only [Done.st_next, Done.st_fault] | dsimp only | split | intro)

theorem effAddc_base {c_ : List Instr × Tick × Tick × Bool} (i : Nat) (x : AInstr) (s : State) (h_ : s.base = c_) :
    (effAddc i x s).st.base = c_ := by
  unfold effAddc
  repeat' (with_reducible first | assumption | rfl | apply additive_base | simp only [Done.st_next, Done.st_fault] | dsimp only | split | intro)

theorem effSubc_base {c_ : List Instr × Tick × Tick × Bool} (i : Nat) (x : AInstr) (s : State) (h_ : s.base = c_) :
    (effSubc i x s).st.base = c_ := by
  unfold effSubc
  repeat' (with_reducible first | assumption | rfl | apply additive_base | simp only [Done.st_next, Done.st_fault] | dsimp only | split | intro)

theorem effAddi_base {c_ : List Instr × Tick × Tick × Bool} (i : Nat) (x : AInstr) (s : State) (h_ : s.base = c_) :
    (effAddi i x s).st.base = c_ := by
  unfold effAddi
  repeat' (with_reducible first | assumption | rfl | apply additive_base | simp only [Done.st_next, Done.st_fault] | dsimp only | split | intro)

theorem effLui_base {c_ : List Instr × Tick × Tick × Bool} (i : Nat) (x : AInstr) (s : State) (h_ : s.base = c_) :
    (effLui i x s).st.base = c_ := by
  unfold effLui
  repeat' (with_reducible first | assumption | rfl | apply writeD_base | simp only [Done.st_next, Done.st_fault] | dsimp only | split | intro)

theorem effAngle_base {c_ : List Instr × Tick × Tick × Bool} (f : State → Word → Word → Option Word) (i : Nat) (x : AInstr) (s : State) (h_ : s.base = c_) :
    (effAngle f i x s).st.base = c_ := by
  unfold effAngle
  repeat' (with_reducible first | assumption | rfl | apply writeD_base | apply setQ_base | simp only [Done.st_next, Done.st_fault] | dsimp only | split | intro)

theorem branchIf_base {c_ : List Instr × Tick × Tick × Bool} (take : Bool) (i : Nat) (x : AInstr) (s : State) (h_ : s.base = c_) :
    (branchIf take i x s).st.base = c_ := by
  unfold branchIf
  repeat' (with_reducible first | assumption | rfl | apply setPc_base | apply nextPc_base | simp only [Done.st_next, Done.st_fault] | dsimp only | split | intro)

theorem effBranch_base {c_ : List Instr × Tick × Tick × Bool} (p : Word → Word → Bool) (i : Nat) (x : AInstr) (s : State) (h_ : s.base = c_) :
    (effBranch p i x s).st.base = c_ := by
  unfold effBranch
  repeat' (with_reducible first | assumption | rfl | apply branchIf_base | simp only [Done.st_next, Done.st_fault] | dsimp only | split | intro)

theorem effBf_base {c_ : List Instr × Tick × Tick × Bool} (i : Nat) (x : AInstr) (s : State) (h_ : s.base = c_) :
    (effBf i x s).st.base = c_ := by
  unfold effBf
  repeat' (with_reducible first | assumption | rfl | apply branchIf_base | simp only [Done.st_next, Done.st_fault] | dsimp only | split | intro)

theorem effJmp_base {c_ : List Instr × Tick × Tick × Bool} (i : Nat) (x : AInstr) (s : State) (h_ : s.base = c_) :
    (effJmp i x s).st.base = c_ := by
  unfold effJmp
  repeat' (with_reducible first | assumption | rfl | apply setPc_base | simp only [Done.st_next, Done.st_fault] | dsimp only | split | intro)

theorem effJal_base {c_ : List Instr × Tick × Tick × Bool} (i : Nat) (x : AInstr) (s : State) (h_ : s.base = c_) :
    (effJal i x s).st.base = c_ := by
  unfold effJal
  repeat' (with_reducible first | assumption | rfl | apply setPc_base | apply setReg_base | simp only [Done.st_next, Done.st_fault] | dsimp only | split | intro)

theorem effJr_base {c_ : List Instr × Tick × Tick × Bool} (i : Nat) (x : AInstr) (s : State) (h_ : s.base = c_) :
    (effJr i x s).st.base = c_ := by
  unfold effJr
  repeat' (with_reducible first | assumption | rfl | apply setPc_base | apply State_setCtx_base | simp only [Done.st_next, Done.st_fault] | dsimp only | split | intro)

theorem effSnap_base {c_ : List Instr × Tick × Tick × Bool} (i : Nat) (_x : AInstr) (s : State) (h_ : s.base = c_) :
    (effSnap i _x s).st.base = c_ := by
  unfold effSnap
  repeat' (with_reducible first | assumption | rfl | apply nextPc_base | apply State_setCtx_base | simp only [Done.st_next, Done.st_fault] | dsimp only | split | intro)

theorem wakeSnap_base {c_ : List Instr × Tick × Tick × Bool} (i : Nat) (s : State) (h_ : s.base = c_) :
    (wakeSnap i s).base = c_ := by
  unfold wakeSnap
  repeat' (with_reducible first | assumption | rfl | apply makeReady_base | apply State_setCtx_base | dsimp only | split | intro)

theorem stepsNow_base {c_ : List Instr × Tick × Tick × Bool} (s : State) (h_ : s.base = c_) : (stepsNow s).base = c_ := by
  subst h_
  unfold stepsNow
  split
  · split
    · rename_i x _ _
      have h := forEach_base (contexts (stepsDone { s with etc := x })) wakeSnap (stepsDone { s with etc := x })
        (fun i s h => wakeSnap_base i s h) (stepsDone_base { s with etc := x } rfl)
      simp only [State.base, Prod.mk.injEq] at h ⊢
      exact ⟨h.1, trivial, h.2.2⟩
    · rfl
  · rfl

theorem effRds_base {c_ : List Instr × Tick × Tick × Bool} (i : Nat) (x : AInstr) (s : State) (h_ : s.base = c_) :
    (effRds i x s).st.base = c_ := by
  unfold effRds
  repeat' (with_reducible first | assumption | rfl | apply State_setCtx_base | apply writeD_base | simp only [Done.st_next, Done.st_fault] | dsimp only | split | intro)

theorem effYield_base {c_ : List Instr × Tick × Tick × Bool} (i : Nat) (_x : AInstr) (s : State) (h_ : s.base = c_) :
    (effYield i _x s).st.base = c_ := by
  unfold effYield
  repeat' (with_reducible first | assumption | rfl | apply makeReady_base | apply nextPc_base | simp only [Done.st_next, Done.st_fault] | dsimp only | split | intro)

theorem effEnd_base {c_ : List Instr × Tick × Tick × Bool} (i : Nat) (_x : AInstr) (s : State) (h_ : s.base = c_) :
    (effEnd i _x s).st.base = c_ := by
  unfold effEnd
  repeat' (with_reducible first | assumption | rfl | apply nextPc_base | apply State_setCtx_base | apply startActivation_base | simp only [Done.st_next, Done.st_fault] | dsimp only | split | intro)

theorem doAdd_base {c_ : List Instr × Tick × Tick × Bool} (n : Issue) (s : State) (h_ : s.base = c_) :
    (doAdd n s).base = c_ := by
  unfold doAdd
  repeat' (with_reducible first | assumption | rfl | apply issueOp_base | apply effAdd_base | dsimp only | split | intro)

theorem doSub_base {c_ : List Instr × Tick × Tick × Bool} (n : Issue) (s : State) (h_ : s.base = c_) :
    (doSub n s).base = c_ := by
  unfold doSub
  repeat' (with_reducible first | assumption | rfl | apply issueOp_base | apply effSub_base | dsimp only | split | intro)

theorem doAddc_base {c_ : List Instr × Tick × Tick × Bool} (n : Issue) (s : State) (h_ : s.base = c_) :
    (doAddc n s).base = c_ := by
  unfold doAddc
  repeat' (with_reducible first | assumption | rfl | apply issueOp_base | apply effAddc_base | dsimp only | split | intro)

theorem doSubc_base {c_ : List Instr × Tick × Tick × Bool} (n : Issue) (s : State) (h_ : s.base = c_) :
    (doSubc n s).base = c_ := by
  unfold doSubc
  repeat' (with_reducible first | assumption | rfl | apply issueOp_base | apply effSubc_base | dsimp only | split | intro)

theorem doAnd_base {c_ : List Instr × Tick × Tick × Bool} (n : Issue) (s : State) (h_ : s.base = c_) :
    (doAnd n s).base = c_ := by
  unfold doAnd
  repeat' (with_reducible first | assumption | rfl | apply issueOp_base | apply aluR_base | dsimp only | split | intro)

theorem doOr_base {c_ : List Instr × Tick × Tick × Bool} (n : Issue) (s : State) (h_ : s.base = c_) :
    (doOr n s).base = c_ := by
  unfold doOr
  repeat' (with_reducible first | assumption | rfl | apply issueOp_base | apply aluR_base | dsimp only | split | intro)

theorem doXor_base {c_ : List Instr × Tick × Tick × Bool} (n : Issue) (s : State) (h_ : s.base = c_) :
    (doXor n s).base = c_ := by
  unfold doXor
  repeat' (with_reducible first | assumption | rfl | apply issueOp_base | apply aluR_base | dsimp only | split | intro)

theorem doShl_base {c_ : List Instr × Tick × Tick × Bool} (n : Issue) (s : State) (h_ : s.base = c_) :
    (doShl n s).base = c_ := by
  unfold doShl
  repeat' (with_reducible first | assumption | rfl | apply issueOp_base | apply aluR_base | dsimp only | split | intro)

theorem doShr_base {c_ : List Instr × Tick × Tick × Bool} (n : Issue) (s : State) (h_ : s.base = c_) :
    (doShr n s).base = c_ := by
  unfold doShr
  repeat' (with_reducible first | assumption | rfl | apply issueOp_base | apply aluR_base | dsimp only | split | intro)

theorem doSar_base {c_ : List Instr × Tick × Tick × Bool} (n : Issue) (s : State) (h_ : s.base = c_) :
    (doSar n s).base = c_ := by
  unfold doSar
  repeat' (with_reducible first | assumption | rfl | apply issueOp_base | apply aluR_base | dsimp only | split | intro)

theorem doMul_base {c_ : List Instr × Tick × Tick × Bool} (n : Issue) (s : State) (h_ : s.base = c_) :
    (doMul n s).base = c_ := by
  unfold doMul
  repeat' (with_reducible first | assumption | rfl | apply issueOp_base | apply aluR_base | dsimp only | split | intro)

theorem doMulhu_base {c_ : List Instr × Tick × Tick × Bool} (n : Issue) (s : State) (h_ : s.base = c_) :
    (doMulhu n s).base = c_ := by
  unfold doMulhu
  repeat' (with_reducible first | assumption | rfl | apply issueOp_base | apply aluR_base | dsimp only | split | intro)

theorem doMulhs_base {c_ : List Instr × Tick × Tick × Bool} (n : Issue) (s : State) (h_ : s.base = c_) :
    (doMulhs n s).base = c_ := by
  unfold doMulhs
  repeat' (with_reducible first | assumption | rfl | apply issueOp_base | apply aluR_base | dsimp only | split | intro)

theorem doDivu_base {c_ : List Instr × Tick × Tick × Bool} (n : Issue) (s : State) (h_ : s.base = c_) :
    (doDivu n s).base = c_ := by
  unfold doDivu
  repeat' (with_reducible first | assumption | rfl | apply issueOp_base | apply aluR_base | dsimp only | split | intro)

theorem doRemu_base {c_ : List Instr × Tick × Tick × Bool} (n : Issue) (s : State) (h_ : s.base = c_) :
    (doRemu n s).base = c_ := by
  unfold doRemu
  repeat' (with_reducible first | assumption | rfl | apply issueOp_base | apply aluR_base | dsimp only | split | intro)

theorem doSlt_base {c_ : List Instr × Tick × Tick × Bool} (n : Issue) (s : State) (h_ : s.base = c_) :
    (doSlt n s).base = c_ := by
  unfold doSlt
  repeat' (with_reducible first | assumption | rfl | apply issueOp_base | apply aluR_base | dsimp only | split | intro)

theorem doSltu_base {c_ : List Instr × Tick × Tick × Bool} (n : Issue) (s : State) (h_ : s.base = c_) :
    (doSltu n s).base = c_ := by
  unfold doSltu
  repeat' (with_reducible first | assumption | rfl | apply issueOp_base | apply aluR_base | dsimp only | split | intro)

theorem doAdda_base {c_ : List Instr × Tick × Tick × Bool} (n : Issue) (s : State) (h_ : s.base = c_) :
    (doAdda n s).base = c_ := by
  unfold doAdda
  repeat' (with_reducible first | assumption | rfl | apply issueOp_base | apply effAngle_base | dsimp only | split | intro)

theorem doDista_base {c_ : List Instr × Tick × Tick × Bool} (n : Issue) (s : State) (h_ : s.base = c_) :
    (doDista n s).base = c_ := by
  unfold doDista
  repeat' (with_reducible first | assumption | rfl | apply issueOp_base | apply effAngle_base | dsimp only | split | intro)

theorem doAddi_base {c_ : List Instr × Tick × Tick × Bool} (n : Issue) (s : State) (h_ : s.base = c_) :
    (doAddi n s).base = c_ := by
  unfold doAddi
  repeat' (with_reducible first | assumption | rfl | apply issueOp_base | apply effAddi_base | dsimp only | split | intro)

theorem doAndi_base {c_ : List Instr × Tick × Tick × Bool} (n : Issue) (s : State) (h_ : s.base = c_) :
    (doAndi n s).base = c_ := by
  unfold doAndi
  repeat' (with_reducible first | assumption | rfl | apply issueOp_base | apply aluI_base | dsimp only | split | intro)

theorem doOri_base {c_ : List Instr × Tick × Tick × Bool} (n : Issue) (s : State) (h_ : s.base = c_) :
    (doOri n s).base = c_ := by
  unfold doOri
  repeat' (with_reducible first | assumption | rfl | apply issueOp_base | apply aluI_base | dsimp only | split | intro)

theorem doXori_base {c_ : List Instr × Tick × Tick × Bool} (n : Issue) (s : State) (h_ : s.base = c_) :
    (doXori n s).base = c_ := by
  unfold doXori
  repeat' (with_reducible first | assumption | rfl | apply issueOp_base | apply aluI_base | dsimp only | split | intro)

theorem doShli_base {c_ : List Instr × Tick × Tick × Bool} (n : Issue) (s : State) (h_ : s.base = c_) :
    (doShli n s).base = c_ := by
  unfold doShli
  repeat' (with_reducible first | assumption | rfl | apply issueOp_base | apply aluI_base | dsimp only | split | intro)

theorem doShri_base {c_ : List Instr × Tick × Tick × Bool} (n : Issue) (s : State) (h_ : s.base = c_) :
    (doShri n s).base = c_ := by
  unfold doShri
  repeat' (with_reducible first | assumption | rfl | apply issueOp_base | apply aluI_base | dsimp only | split | intro)

theorem doSari_base {c_ : List Instr × Tick × Tick × Bool} (n : Issue) (s : State) (h_ : s.base = c_) :
    (doSari n s).base = c_ := by
  unfold doSari
  repeat' (with_reducible first | assumption | rfl | apply issueOp_base | apply aluI_base | dsimp only | split | intro)

theorem doLui_base {c_ : List Instr × Tick × Tick × Bool} (n : Issue) (s : State) (h_ : s.base = c_) :
    (doLui n s).base = c_ := by
  unfold doLui
  repeat' (with_reducible first | assumption | rfl | apply issueOp_base | apply effLui_base | dsimp only | split | intro)

theorem doBeq_base {c_ : List Instr × Tick × Tick × Bool} (n : Issue) (s : State) (h_ : s.base = c_) :
    (doBeq n s).base = c_ := by
  unfold doBeq
  repeat' (with_reducible first | assumption | rfl | apply issueOp_base | apply effBranch_base | dsimp only | split | intro)

theorem doBne_base {c_ : List Instr × Tick × Tick × Bool} (n : Issue) (s : State) (h_ : s.base = c_) :
    (doBne n s).base = c_ := by
  unfold doBne
  repeat' (with_reducible first | assumption | rfl | apply issueOp_base | apply effBranch_base | dsimp only | split | intro)

theorem doBlt_base {c_ : List Instr × Tick × Tick × Bool} (n : Issue) (s : State) (h_ : s.base = c_) :
    (doBlt n s).base = c_ := by
  unfold doBlt
  repeat' (with_reducible first | assumption | rfl | apply issueOp_base | apply effBranch_base | dsimp only | split | intro)

theorem doBge_base {c_ : List Instr × Tick × Tick × Bool} (n : Issue) (s : State) (h_ : s.base = c_) :
    (doBge n s).base = c_ := by
  unfold doBge
  repeat' (with_reducible first | assumption | rfl | apply issueOp_base | apply effBranch_base | dsimp only | split | intro)

theorem doBltu_base {c_ : List Instr × Tick × Tick × Bool} (n : Issue) (s : State) (h_ : s.base = c_) :
    (doBltu n s).base = c_ := by
  unfold doBltu
  repeat' (with_reducible first | assumption | rfl | apply issueOp_base | apply effBranch_base | dsimp only | split | intro)

theorem doBgeu_base {c_ : List Instr × Tick × Tick × Bool} (n : Issue) (s : State) (h_ : s.base = c_) :
    (doBgeu n s).base = c_ := by
  unfold doBgeu
  repeat' (with_reducible first | assumption | rfl | apply issueOp_base | apply effBranch_base | dsimp only | split | intro)

theorem doBf_base {c_ : List Instr × Tick × Tick × Bool} (n : Issue) (s : State) (h_ : s.base = c_) :
    (doBf n s).base = c_ := by
  unfold doBf
  repeat' (with_reducible first | assumption | rfl | apply issueOp_base | apply effBf_base | dsimp only | split | intro)

theorem doJmp_base {c_ : List Instr × Tick × Tick × Bool} (n : Issue) (s : State) (h_ : s.base = c_) :
    (doJmp n s).base = c_ := by
  unfold doJmp
  repeat' (with_reducible first | assumption | rfl | apply issueOp_base | apply effJmp_base | dsimp only | split | intro)

theorem doJal_base {c_ : List Instr × Tick × Tick × Bool} (n : Issue) (s : State) (h_ : s.base = c_) :
    (doJal n s).base = c_ := by
  unfold doJal
  repeat' (with_reducible first | assumption | rfl | apply issueOp_base | apply effJal_base | dsimp only | split | intro)

theorem doJr_base {c_ : List Instr × Tick × Tick × Bool} (n : Issue) (s : State) (h_ : s.base = c_) :
    (doJr n s).base = c_ := by
  unfold doJr
  repeat' (with_reducible first | assumption | rfl | apply issueOp_base | apply effJr_base | dsimp only | split | intro)

theorem doSnap_base {c_ : List Instr × Tick × Tick × Bool} (n : Issue) (s : State) (h_ : s.base = c_) :
    (doSnap n s).base = c_ := by
  unfold doSnap
  repeat' (with_reducible first | assumption | rfl | apply issueOp_base | apply effSnap_base | dsimp only | split | intro)

theorem doRds_base {c_ : List Instr × Tick × Tick × Bool} (n : Issue) (s : State) (h_ : s.base = c_) :
    (doRds n s).base = c_ := by
  unfold doRds
  repeat' (with_reducible first | assumption | rfl | apply issueOp_base | apply effRds_base | dsimp only | split | intro)

theorem doYield_base {c_ : List Instr × Tick × Tick × Bool} (n : Issue) (s : State) (h_ : s.base = c_) :
    (doYield n s).base = c_ := by
  unfold doYield
  repeat' (with_reducible first | assumption | rfl | apply issueOp_base | apply effYield_base | dsimp only | split | intro)

theorem doEnd_base {c_ : List Instr × Tick × Tick × Bool} (n : Issue) (s : State) (h_ : s.base = c_) :
    (doEnd n s).base = c_ := by
  unfold doEnd
  repeat' (with_reducible first | assumption | rfl | apply issueOp_base | apply effEnd_base | dsimp only | split | intro)

theorem readLatch_base {c_ : List Instr × Tick × Tick × Bool} (r : Requester) (a : Nat) (s : State) (h_ : s.base = c_) :
    (readLatch r a s).base = c_ := by
  unfold readLatch
  repeat' (with_reducible first | assumption | rfl | apply regLatch_base | dsimp only | split | intro)

theorem withAccess_base {c_ : List Instr × Tick × Tick × Bool} (r : Right) (n : Nat) (e : Ecc) (i : Nat) (x : AInstr) (f : Nat → State → State) (s : State) (h_f : ∀ i (s : State), s.base = c_ → (f i s).base = c_) (h_ : s.base = c_) :
    (withAccess r n e i x f s).st.base = c_ := by
  unfold withAccess
  repeat' (with_reducible first | assumption | rfl | apply eccRead_base | apply fault_base | apply eccFound_base | apply h_f | simp only [Done.st_next, Done.st_fault] | dsimp only | split | intro)

theorem effLoad_base {c_ : List Instr × Tick × Tick × Bool} (n : Nat) (e : Ecc) (i : Nat) (x : AInstr) (s : State) (h_ : s.base = c_) :
    (effLoad n e i x s).st.base = c_ := by
  unfold effLoad
  repeat' (with_reducible first | assumption | rfl | apply withAccess_base | apply writeD_base | apply readLatch_base | simp only [Done.st_next, Done.st_fault] | dsimp only | split | intro)

theorem storeWord_base {c_ : List Instr × Tick × Tick × Bool} (i a : Nat) (v : Word) (s : State) (h_ : s.base = c_) :
    (storeWord i a v s).base = c_ := by
  unfold storeWord
  repeat' (with_reducible first | assumption | rfl | apply doRegisterWrite_base | apply State_memSetWord_base | dsimp only | split | intro)

theorem effStore_base {c_ : List Instr × Tick × Tick × Bool} (i : Nat) (x : AInstr) (s : State) (h_ : s.base = c_) :
    (effStore i x s).st.base = c_ := by
  unfold effStore
  repeat' (with_reducible first | assumption | rfl | apply withAccess_base | apply nextPc_base | apply storeWord_base | simp only [Done.st_next, Done.st_fault] | dsimp only | split | intro)

theorem effPatch_base {c_ : List Instr × Tick × Tick × Bool} (n : Nat) (e : Ecc) (i : Nat) (x : AInstr) (s : State) (h_ : s.base = c_) :
    (effPatch n e i x s).st.base = c_ := by
  unfold effPatch
  repeat' (with_reducible first | assumption | rfl | apply withAccess_base | apply nextPc_base | apply storeWord_base | simp only [Done.st_next, Done.st_fault] | dsimp only | split | intro)

theorem effCaprd_base {c_ : List Instr × Tick × Tick × Bool} (e : Ecc) (i : Nat) (x : AInstr) (s : State) (h_ : s.base = c_) :
    (effCaprd e i x s).st.base = c_ := by
  unfold effCaprd
  repeat' (with_reducible first | assumption | rfl | apply writeD_base | apply setQ_base | apply fault_base | apply eccFound_base | apply eccRead_base | simp only [Done.st_next, Done.st_fault] | dsimp only | split | intro)

theorem effMbxrd_base {c_ : List Instr × Tick × Tick × Bool} (i : Nat) (x : AInstr) (s : State) (h_ : s.base = c_) :
    (effMbxrd i x s).st.base = c_ := by
  unfold effMbxrd
  repeat' (with_reducible first | assumption | rfl | apply writeD_base | simp only [Done.st_next, Done.st_fault] | dsimp only | split | intro)

theorem effMbxcp_base {c_ : List Instr × Tick × Tick × Bool} (i : Nat) (x : AInstr) (s : State) (h_ : s.base = c_) :
    (effMbxcp i x s).st.base = c_ := by
  unfold effMbxcp
  repeat' (with_reducible first | assumption | rfl | apply nextPc_base | apply setQ_base | apply fault_base | apply writeD_base | apply State_memWrite_base | simp only [Done.st_next, Done.st_fault] | dsimp only | split | intro)

theorem effNote_base {c_ : List Instr × Tick × Tick × Bool} (i : Nat) (x : AInstr) (s : State) (h_ : s.base = c_) :
    (effNote i x s).st.base = c_ := by
  unfold effNote
  repeat' (with_reducible first | assumption | rfl | apply nextPc_base | apply setReg_base | apply setQ_base | apply State_setSq_base | simp only [Done.st_next, Done.st_fault] | dsimp only | split | intro)

theorem dmaStart_base {c_ : List Instr × Tick × Tick × Bool} (i c desc : Nat) (s : State) (h_ : s.base = c_) :
    (dmaStart i c desc s).base = c_ := by
  unfold dmaStart
  repeat' (with_reducible first | assumption | rfl | apply State_setDma_base | dsimp only | split | intro)

theorem effDmago_base {c_ : List Instr × Tick × Tick × Bool} (i : Nat) (x : AInstr) (s : State) (h_ : s.base = c_) :
    (effDmago i x s).st.base = c_ := by
  unfold effDmago
  repeat' (with_reducible first | assumption | rfl | apply dmaStart_base | apply writeD_base | simp only [Done.st_next, Done.st_fault] | dsimp only | split | intro)

theorem signalIn_base {c_ : List Instr × Tick × Tick × Bool} (q j : Nat) (s : State) (h_ : s.base = c_) :
    (signalIn q j s).base = c_ := by
  unfold signalIn
  repeat' (with_reducible first | assumption | rfl | apply State_setCtx_base | dsimp only | split | intro)

theorem signalAll_base {c_ : List Instr × Tick × Tick × Bool} (q d : Nat) (s : State) (h_ : s.base = c_) :
    (signalAll q d s).base = c_ := by
  unfold signalAll
  repeat' (with_reducible first | assumption | rfl | apply forEach_base | apply signalIn_base | apply State_setSq_base | dsimp only | split | intro)

theorem effSignal_base {c_ : List Instr × Tick × Tick × Bool} (i : Nat) (x : AInstr) (s : State) (h_ : s.base = c_) :
    (effSignal i x s).st.base = c_ := by
  unfold effSignal
  repeat' (with_reducible first | assumption | rfl | apply nextPc_base | apply raise_base | apply State_setSq_base | apply latchSq_base | apply signalAll_base | simp only [Done.st_next, Done.st_fault] | dsimp only | split | intro)

theorem doLd_base {c_ : List Instr × Tick × Tick × Bool} (n : Issue) (s : State) (h_ : s.base = c_) :
    (doLd n s).base = c_ := by
  unfold doLd
  repeat' (with_reducible first | assumption | rfl | apply issueOp_base | apply effLoad_base | dsimp only | split | intro)

theorem doLdh_base {c_ : List Instr × Tick × Tick × Bool} (n : Issue) (s : State) (h_ : s.base = c_) :
    (doLdh n s).base = c_ := by
  unfold doLdh
  repeat' (with_reducible first | assumption | rfl | apply issueOp_base | apply effLoad_base | dsimp only | split | intro)

theorem doLdb_base {c_ : List Instr × Tick × Tick × Bool} (n : Issue) (s : State) (h_ : s.base = c_) :
    (doLdb n s).base = c_ := by
  unfold doLdb
  repeat' (with_reducible first | assumption | rfl | apply issueOp_base | apply effLoad_base | dsimp only | split | intro)

theorem doSt_base {c_ : List Instr × Tick × Tick × Bool} (n : Issue) (s : State) (h_ : s.base = c_) :
    (doSt n s).base = c_ := by
  unfold doSt
  repeat' (with_reducible first | assumption | rfl | apply issueOp_base | apply effStore_base | dsimp only | split | intro)

theorem doSth_base {c_ : List Instr × Tick × Tick × Bool} (n : Issue) (s : State) (h_ : s.base = c_) :
    (doSth n s).base = c_ := by
  unfold doSth
  repeat' (with_reducible first | assumption | rfl | apply issueOp_base | apply effPatch_base | dsimp only | split | intro)

theorem doStb_base {c_ : List Instr × Tick × Tick × Bool} (n : Issue) (s : State) (h_ : s.base = c_) :
    (doStb n s).base = c_ := by
  unfold doStb
  repeat' (with_reducible first | assumption | rfl | apply issueOp_base | apply effPatch_base | dsimp only | split | intro)

theorem doCaprd_base {c_ : List Instr × Tick × Tick × Bool} (n : Issue) (s : State) (h_ : s.base = c_) :
    (doCaprd n s).base = c_ := by
  unfold doCaprd
  repeat' (with_reducible first | assumption | rfl | apply issueOp_base | apply effCaprd_base | dsimp only | split | intro)

theorem doMbxrd_base {c_ : List Instr × Tick × Tick × Bool} (n : Issue) (s : State) (h_ : s.base = c_) :
    (doMbxrd n s).base = c_ := by
  unfold doMbxrd
  repeat' (with_reducible first | assumption | rfl | apply issueOp_base | apply effMbxrd_base | dsimp only | split | intro)

theorem doMbxcp_base {c_ : List Instr × Tick × Tick × Bool} (n : Issue) (s : State) (h_ : s.base = c_) :
    (doMbxcp n s).base = c_ := by
  unfold doMbxcp
  repeat' (with_reducible first | assumption | rfl | apply issueOp_base | apply effMbxcp_base | dsimp only | split | intro)

theorem doNote_base {c_ : List Instr × Tick × Tick × Bool} (n : Issue) (s : State) (h_ : s.base = c_) :
    (doNote n s).base = c_ := by
  unfold doNote
  repeat' (with_reducible first | assumption | rfl | apply issueOp_base | apply effNote_base | dsimp only | split | intro)

theorem doDmago_base {c_ : List Instr × Tick × Tick × Bool} (n : Issue) (s : State) (h_ : s.base = c_) :
    (doDmago n s).base = c_ := by
  unfold doDmago
  repeat' (with_reducible first | assumption | rfl | apply issueOp_base | apply effDmago_base | dsimp only | split | intro)

theorem doSignal_base {c_ : List Instr × Tick × Tick × Bool} (n : Issue) (s : State) (h_ : s.base = c_) :
    (doSignal n s).base = c_ := by
  unfold doSignal
  repeat' (with_reducible first | assumption | rfl | apply issueOp_base | apply effSignal_base | dsimp only | split | intro)

theorem park_base {c_ : List Instr × Tick × Tick × Bool} (i : Nat) (w : Wait) (s : State) (h_ : s.base = c_) :
    (park i w s).base = c_ := by
  unfold park
  repeat' (with_reducible first | assumption | rfl | apply nextPc_base | apply State_setCtx_base | dsimp only | split | intro)

theorem effWaita_base {c_ : List Instr × Tick × Tick × Bool} (i : Nat) (x : AInstr) (s : State) (h_ : s.base = c_) :
    (effWaita i x s).st.base = c_ := by
  unfold effWaita
  repeat' (with_reducible first | assumption | rfl | apply writeD_base | apply park_base | simp only [Done.st_next, Done.st_fault] | dsimp only | split | intro)

theorem effWaitt_base {c_ : List Instr × Tick × Tick × Bool} (i : Nat) (x : AInstr) (s : State) (h_ : s.base = c_) :
    (effWaitt i x s).st.base = c_ := by
  unfold effWaitt
  repeat' (with_reducible first | assumption | rfl | apply writeD_base | apply park_base | simp only [Done.st_next, Done.st_fault] | dsimp only | split | intro)

theorem effWaite_base {c_ : List Instr × Tick × Tick × Bool} (i : Nat) (x : AInstr) (s : State) (h_ : s.base = c_) :
    (effWaite i x s).st.base = c_ := by
  unfold effWaite
  repeat' (with_reducible first | assumption | rfl | apply writeD_base | apply State_setCtx_base | apply park_base | simp only [Done.st_next, Done.st_fault] | dsimp only | split | intro)

theorem wakeWith_base {c_ : List Instr × Tick × Tick × Bool} (i d : Nat) (v : Word) (s : State) (h_ : s.base = c_) :
    (wakeWith i d v s).base = c_ := by
  unfold wakeWith
  repeat' (with_reducible first | assumption | rfl | apply makeReady_base | apply setReg_base | dsimp only | split | intro)

theorem doWaittReached_base {c_ : List Instr × Tick × Tick × Bool} (q p : Nat) (s : State) (h_ : s.base = c_) :
    (doWaittReached q p s).base = c_ := by
  unfold doWaittReached
  repeat' (with_reducible first | assumption | rfl | apply wakeWith_base | dsimp only | split | intro)

theorem waitaTimeout_base {c_ : List Instr × Tick × Tick × Bool} (i : Nat) (s : State) (h_ : s.base = c_) :
    (waitaTimeout i s).base = c_ := by
  unfold waitaTimeout
  repeat' (with_reducible first | assumption | rfl | apply wakeWith_base | dsimp only | split | intro)

theorem doWaitTimeout_base {c_ : List Instr × Tick × Tick × Bool} (q p : Nat) (s : State) (h_ : s.base = c_) :
    (doWaitTimeout q p s).base = c_ := by
  unfold doWaitTimeout
  repeat' (with_reducible first | assumption | rfl | apply waitaTimeout_base | apply passTo_base | apply wakeWith_base | dsimp only | split | intro)

theorem effSched_base {c_ : List Instr × Tick × Tick × Bool} (i : Nat) (x : AInstr) (s : State) (h_ : s.base = c_) :
    (effSched i x s).st.base = c_ := by
  unfold effSched
  repeat' (with_reducible first | assumption | rfl | apply park_base | simp only [Done.st_next, Done.st_fault] | dsimp only | split | intro)

theorem effAim_base {c_ : List Instr × Tick × Tick × Bool} (i : Nat) (x : AInstr) (s : State) (h_ : s.base = c_) :
    (effAim i x s).st.base = c_ := by
  unfold effAim
  repeat' (with_reducible first | assumption | rfl | apply park_base | simp only [Done.st_next, Done.st_fault] | dsimp only | split | intro)

theorem effCancel_base {c_ : List Instr × Tick × Tick × Bool} (i : Nat) (x : AInstr) (s : State) (h_ : s.base = c_) :
    (effCancel i x s).st.base = c_ := by
  unfold effCancel
  repeat' (with_reducible first | assumption | rfl | apply park_base | simp only [Done.st_next, Done.st_fault] | dsimp only | split | intro)

theorem doSchedulerResult_base {c_ : List Instr × Tick × Tick × Bool} (q p : Nat) (s : State) (h_ : s.base = c_) :
    (doSchedulerResult q p s).base = c_ := by
  unfold doSchedulerResult
  repeat' (with_reducible first | assumption | rfl | apply setReg_base | apply makeReady_base | apply notice_base | dsimp only | split | intro)

theorem doTimeTrigger_base {c_ : List Instr × Tick × Tick × Bool} (q p : Nat) (s : State) (h_ : s.base = c_) :
    (doTimeTrigger q p s).base = c_ := by
  unfold doTimeTrigger
  repeat' (with_reducible first | assumption | rfl | apply activate_base | apply State_setCtx_base | dsimp only | split | intro)

theorem doWaita_base {c_ : List Instr × Tick × Tick × Bool} (n : Issue) (s : State) (h_ : s.base = c_) :
    (doWaita n s).base = c_ := by
  unfold doWaita
  repeat' (with_reducible first | assumption | rfl | apply issueOp_base | apply effWaita_base | dsimp only | split | intro)

theorem doWaitt_base {c_ : List Instr × Tick × Tick × Bool} (n : Issue) (s : State) (h_ : s.base = c_) :
    (doWaitt n s).base = c_ := by
  unfold doWaitt
  repeat' (with_reducible first | assumption | rfl | apply issueOp_base | apply effWaitt_base | dsimp only | split | intro)

theorem doWaite_base {c_ : List Instr × Tick × Tick × Bool} (n : Issue) (s : State) (h_ : s.base = c_) :
    (doWaite n s).base = c_ := by
  unfold doWaite
  repeat' (with_reducible first | assumption | rfl | apply issueOp_base | apply effWaite_base | dsimp only | split | intro)

theorem doSched_base {c_ : List Instr × Tick × Tick × Bool} (n : Issue) (s : State) (h_ : s.base = c_) :
    (doSched n s).base = c_ := by
  unfold doSched
  repeat' (with_reducible first | assumption | rfl | apply issueOp_base | apply effSched_base | dsimp only | split | intro)

theorem doAim_base {c_ : List Instr × Tick × Tick × Bool} (n : Issue) (s : State) (h_ : s.base = c_) :
    (doAim n s).base = c_ := by
  unfold doAim
  repeat' (with_reducible first | assumption | rfl | apply issueOp_base | apply effAim_base | dsimp only | split | intro)

theorem doCancel_base {c_ : List Instr × Tick × Tick × Bool} (n : Issue) (s : State) (h_ : s.base = c_) :
    (doCancel n s).base = c_ := by
  unfold doCancel
  repeat' (with_reducible first | assumption | rfl | apply issueOp_base | apply effCancel_base | dsimp only | split | intro)

theorem descEcc_base {c_ : List Instr × Tick × Tick × Bool} (a j : Nat) (e : Ecc) (s : State) (h_ : s.base = c_) :
    (descEcc a j e s).base = c_ := by
  unfold descEcc
  repeat' (with_reducible first | assumption | rfl | apply forEach_base | apply eccRead_base | dsimp only | split | intro)

theorem writeStatus_base {c_ : List Instr × Tick × Tick × Bool} (a status done : Nat) (s : State) (h_ : s.base = c_) :
    (writeStatus a status done s).base = c_ := by
  unfold writeStatus
  repeat' (with_reducible first | assumption | rfl | apply State_memWrite_base | dsimp only | split | intro)

theorem dmaFault_base {c_ : List Instr × Tick × Tick × Bool} (c cause faddr : Nat) (s : State) (h_ : s.base = c_) :
    (dmaFault c cause faddr s).base = c_ := by
  unfold dmaFault
  repeat' (with_reducible first | assumption | rfl | apply countSegFault_base | apply State_setDma_base | apply fault_base | apply raise_base | apply setLatch_base | dsimp only | split | intro)

theorem dmaLoad_base {c_ : List Instr × Tick × Tick × Bool} (c j : Nat) (e : Ecc) (s : State) (h_ : s.base = c_) :
    (dmaLoad c j e s).base = c_ := by
  unfold dmaLoad
  repeat' (with_reducible first | assumption | rfl | apply dmaFault_base | apply descEcc_base | apply State_setDma_base | apply writeStatus_base | dsimp only | split | intro)

theorem burstRead_base {c_ : List Instr × Tick × Tick × Bool} (c j : Nat) (e : Ecc) (k : Nat) (r : State × List Byte) (h_ : r.1.base = c_) :
    (burstRead c j e k r).1.base = c_ := by
  unfold burstRead
  repeat' (with_reducible first | assumption | rfl | apply readLatch_base | apply eccRead_base | dsimp only | split | intro)

theorem burstWords_base {c_ : List Instr × Tick × Tick × Bool} (c j n : Nat) (e : Ecc) (s : State) (h_ : s.base = c_) :
    (burstWords c j n e s).1.base = c_ := by
  unfold burstWords
  repeat' (with_reducible first | assumption | rfl | apply burstRead_base | apply foldl_base | apply foldl1_base | dsimp only | split | intro)

theorem rewriteDesc_base {c_ : List Instr × Tick × Tick × Bool} (d : DmaCh) (cause : Nat) (s : State) (h_ : s.base = c_) :
    (rewriteDesc d cause s).base = c_ := by
  unfold rewriteDesc
  repeat' (with_reducible first | assumption | rfl | apply writeStatus_base | apply State_memWrite_base | dsimp only | split | intro)

theorem descDone_base {c_ : List Instr × Tick × Tick × Bool} (c : Nat) (s : State) (h_ : s.base = c_) :
    (descDone c s).base = c_ := by
  unfold descDone
  repeat' (with_reducible first | assumption | rfl | apply writeStatus_base | apply State_setDma_base | dsimp only | split | intro)

theorem burstWrite_base {c_ : List Instr × Tick × Tick × Bool} (c : Nat) (b : List Byte) (s : State) (h_ : s.base = c_) :
    (burstWrite c b s).base = c_ := by
  unfold burstWrite
  repeat' (with_reducible first | assumption | rfl | apply State_memWrite_base | apply State_setDma_base | apply descDone_base | dsimp only | split | intro)

theorem dmaMove_base {c_ : List Instr × Tick × Tick × Bool} (c j : Nat) (e : Ecc) (s : State) (h_ : s.base = c_) :
    (dmaMove c j e s).base = c_ := by
  unfold dmaMove
  repeat' (with_reducible first | assumption | rfl | apply dmaFault_base | apply rewriteDesc_base | apply burstWords_base | apply burstWrite_base | dsimp only | split | intro)

theorem doDmaBurst_base {c_ : List Instr × Tick × Tick × Bool} (c j : Nat) (e : Ecc) (s : State) (h_ : s.base = c_) :
    (doDmaBurst c j e s).base = c_ := by
  unfold doDmaBurst
  repeat' (with_reducible first | assumption | rfl | apply dmaLoad_base | apply dmaMove_base | dsimp only | split | intro)

theorem doDmaTransferComplete_base {c_ : List Instr × Tick × Tick × Bool} (c : Nat) (s : State) (h_ : s.base = c_) :
    (doDmaTransferComplete c s).base = c_ := by
  unfold doDmaTransferComplete
  repeat' (with_reducible first | assumption | rfl | apply descDone_base | apply State_setDma_base | apply raiseIf_base | apply setLatch_base | dsimp only | split | intro)

theorem timeNow_base {c_ : List Instr × Tick × Tick × Bool} (s : State) (h_ : s.base = c_) :
    (timeNow s).base = c_ := by
  unfold timeNow
  repeat' (with_reducible first | assumption | rfl | apply passNow_base | apply stepsNow_base | apply kcNow_base | dsimp only | split | intro)

/-- The effect of every command keeps the queue, ETC, the instant and the order code. -/
theorem effect_base {c_ : List Instr × Tick × Tick × Bool} (i : Instr) (s : State) (h_ : s.base = c_) :
    (effect i s).base = c_ := by
  cases i with
  | wheelCrossing => exact doWheelCrossing_base (h_ := h_) ..
  | strainerAccept => exact doStrainerAccept_base (h_ := h_) ..
  | pulseLongTimeout => exact doPulseLongTimeout_base (h_ := h_) ..
  | secondaryPromotion => exact doSecondaryPromotion_base (h_ := h_) ..
  | virtualBoundary => exact doVirtualBoundary_base (h_ := h_) ..
  | countHold => exact doCountHold_base (h_ := h_) ..
  | toothOverdue => exact doToothOverdue_base (h_ := h_) ..
  | speedRecompute => exact doSpeedRecompute_base (h_ := h_) ..
  | stall => exact doStall_base (h_ := h_) ..
  | anglePassed => exact doAnglePassed_base (h_ := h_) ..
  | eventInsertion => exact doEventInsertion_base (h_ := h_) ..
  | eventAimRequest => exact doEventAim_base (h_ := h_) ..
  | eventCancelRequest => exact doEventCancel_base (h_ := h_) ..
  | commit => exact doCommit_base (h_ := h_) ..
  | eventTableEccError => exact doEventTableEccError_base (h_ := h_) ..
  | profileStart => exact doProfileStart_base (h_ := h_) ..
  | regulatorSwitch => exact doRegulatorSwitch_base (h_ := h_) ..
  | peakEnd => exact doPeakEnd_base (h_ := h_) ..
  | peakTimeout => exact doPeakTimeout_base (h_ := h_) ..
  | transitionEnd => exact doTransitionEnd_base (h_ := h_) ..
  | ditherStep => exact doDitherStep_base (h_ := h_) ..
  | turnOffInstant => exact doTurnOffInstant_base (h_ := h_) ..
  | turnOffComplete => exact doTurnOffComplete_base (h_ := h_) ..
  | channelOvercurrent => exact doChannelOvercurrent_base (h_ := h_) ..
  | bankOvercurrent => exact doBankOvercurrent_base (h_ := h_) ..
  | onMaxStop => exact doOnMaxStop_base (h_ := h_) ..
  | onStateFault => exact doOnStateFault_base (h_ := h_) ..
  | extensionWrite => exact doExtensionWrite_base (h_ := h_) ..
  | setpointWrite => exact doSetpointWrite_base (h_ := h_) ..
  | kettleLevelChange => exact doKettleLevelChange_base (h_ := h_) ..
  | kettleChargeDeadline => exact doKettleChargeDeadline_base (h_ := h_) ..
  | kettleOvervoltage => exact doKettleOvervoltage_base (h_ := h_) ..
  | kettleCapacitanceMeasure => exact doKettleCapacitance_base (h_ := h_) ..
  | closingRecordWritten => exact doClosingRecordWritten_base (h_ := h_) ..
  | captureEnd => exact doCaptureEnd_base (h_ := h_) ..
  | offTestStart => exact doOffTestStart_base (h_ := h_) ..
  | offTestComplete => exact doOffTestComplete_base (h_ := h_) ..
  | kcPeriodBoundary => exact doKcPeriodBoundary_base (h_ := h_) ..
  | kcTrigger => exact doKcTrigger_base (h_ := h_) ..
  | ebPeriodBoundary => exact doEbPeriodBoundary_base (h_ := h_) ..
  | ebPerEvent => exact doEbPerEvent_base (h_ := h_) ..
  | ebPhaseEdge => exact doEbPhaseEdge_base (h_ := h_) ..
  | ebDeadTimeEnd => exact doEbDeadTimeEnd_base (h_ := h_) ..
  | tripAccept => exact doTripAccept_base (h_ := h_) ..
  | blankingEnd => exact doBlankingEnd_base (h_ := h_) ..
  | ebEnable => exact doEbEnable_base (h_ := h_) ..
  | ebDisable => exact doEbDisable_base (h_ := h_) ..
  | ebLoadArm => exact doEbLoadArm_base (h_ := h_) ..
  | ebImmediateWrite => exact doEbWrite_base (h_ := h_) ..
  | ebTripClear => exact doEbTripClear_base (h_ := h_) ..
  | pwmGlbLoad => exact doPwmGlbLoad_base (h_ := h_) ..
  | pwmGlbStart => exact doPwmGlbStart_base (h_ := h_) ..
  | timerStart => exact doTimerStart_base (h_ := h_) ..
  | timerStop => exact doTimerStop_base (h_ := h_) ..
  | timerTargetWrite => exact doTimerTargetWrite_base (h_ := h_) ..
  | timGlbStart => exact doTimGlbStart_base (h_ := h_) ..
  | timerExpiry => exact doTimerExpiry_base (h_ := h_) ..
  | captureEdge => exact doCaptureEdge_base (h_ := h_) ..
  | supplyThresholdCrossing => exact doSupplyThresholdCrossing_base (h_ := h_) ..
  | supplyJudgement => exact doSupplyJudgement_base (h_ := h_) ..
  | supplyDebounceExpiry => exact doSupplyDebounceExpiry_base (h_ := h_) ..
  | holdupRecoveryExpiry => exact doHoldupRecoveryExpiry_base (h_ := h_) ..
  | holdupStoreExhausted => exact doHoldupStoreExhausted_base (h_ := h_) ..
  | enableChange => exact doEnableChange_base (h_ := h_) ..
  | thermalThreshold => exact doThermalThreshold_base (h_ := h_) ..
  | sensorSupplyFault => exact doSensorSupplyFault_base (h_ := h_) ..
  | referenceLoss => exact doReferenceLoss_base (h_ := h_) ..
  | holdoverExpiry => exact doHoldoverExpiry_base (h_ := h_) ..
  | referenceReturn => exact doReferenceReturn_base (h_ := h_) ..
  | relockComplete => exact doRelockComplete_base (h_ := h_) ..
  | referenceStarted => exact doReferenceStarted_base (h_ := h_) ..
  | claimNChange => exact doClaimNChange_base (h_ := h_) ..
  | challengeExpiry => exact doChallengeExpiry_base (h_ := h_) ..
  | releaseReminder => exact doReleaseReminder_base (h_ := h_) ..
  | releaseCountdownExpiry => exact doReleaseCountdownExpiry_base (h_ := h_) ..
  | entropyHealthFailure => exact doEntropyHealthFailure_base (h_ := h_) ..
  | lockoutExpiry => exact doLockoutExpiry_base (h_ := h_) ..
  | envelopeCopyError => exact doEnvelopeCopyError_base (h_ := h_) ..
  | envelopeReloadComplete => exact doEnvelopeReloadComplete_base (h_ := h_) ..
  | envelopeWriteComplete => exact doEnvelopeWriteComplete_base (h_ := h_) ..
  | configStoreComplete => exact doConfigStoreComplete_base (h_ := h_) ..
  | caddyWriteComplete => exact doCaddyWriteComplete_base (h_ := h_) ..
  | ohmacFrame => exact doOhmacFrame_base (h_ := h_) ..
  | frameGapTimeout => exact doFrameGapTimeout_base (h_ := h_) ..
  | mbxSend => exact doMbxSend_base (h_ := h_) ..
  | mbxRxDone => exact doMbxRxDone_base (h_ := h_) ..
  | mbxAbort => exact doMbxAbort_base (h_ := h_) ..
  | canBusOff => exact doCanBusOff_base (h_ := h_) ..
  | sessionOpenTimeout => exact doSessionOpenTimeout_base (h_ := h_) ..
  | sessionIdleTimeout => exact doSessionIdleTimeout_base (h_ := h_) ..
  | identity => exact doIdentity_base (h_ := h_) ..
  | attest => exact doAttest_base (h_ := h_) ..
  | claim => exact doClaim_base (h_ := h_) ..
  | enrol => exact doEnrol_base (h_ := h_) ..
  | revoke => exact doRevoke_base (h_ := h_) ..
  | transfer => exact doTransfer_base (h_ := h_) ..
  | decommission => exact doDecommission_base (h_ := h_) ..
  | retire => exact doRetire_base (h_ := h_) ..
  | forceRelease => exact doForceRelease_base (h_ := h_) ..
  | envInstall => exact doEnvInstall_base (h_ := h_) ..
  | open1 => exact doOpen1_base (h_ := h_) ..
  | open3 => exact doOpen3_base (h_ := h_) ..
  | close => exact doClose_base (h_ := h_) ..
  | ping => exact doPing_base (h_ := h_) ..
  | readRegs => exact doReadRegs_base (h_ := h_) ..
  | cycleRecord => exact doCycleRecord_base (h_ := h_) ..
  | telemetry => exact doTelemetry_base (h_ := h_) ..
  | logRead => exact doLogRead_base (h_ := h_) ..
  | targets => exact doTargets_base (h_ := h_) ..
  | cfgStage => exact doCfgStage_base (h_ := h_) ..
  | cfgCommit => exact doCfgCommit_base (h_ := h_) ..
  | cfgDiscard => exact doCfgDiscard_base (h_ := h_) ..
  | cfgRead => exact doCfgRead_base (h_ := h_) ..
  | cfgStatus => exact doCfgStatus_base (h_ := h_) ..
  | imgBegin => exact doImgBegin_base (h_ := h_) ..
  | imgData => exact doImgData_base (h_ := h_) ..
  | imgEnd => exact doImgEnd_base (h_ := h_) ..
  | imgSelect => exact doImgSelect_base (h_ := h_) ..
  | imgConfirm => exact doImgConfirm_base (h_ := h_) ..
  | reset => exact doReset_base (h_ := h_) ..
  | resetCommandDelayExpiry => exact doResetCommandDelayExpiry_base (h_ := h_) ..
  | testShot => exact doTestShot_base (h_ := h_) ..
  | diagRunOffTest => exact doDiagRunOffTest_base (h_ := h_) ..
  | diagRunClear => exact doDiagRunClear_base (h_ := h_) ..
  | add => exact doAdd_base (h_ := h_) ..
  | sub => exact doSub_base (h_ := h_) ..
  | addc => exact doAddc_base (h_ := h_) ..
  | subc => exact doSubc_base (h_ := h_) ..
  | and => exact doAnd_base (h_ := h_) ..
  | or => exact doOr_base (h_ := h_) ..
  | xor => exact doXor_base (h_ := h_) ..
  | shl => exact doShl_base (h_ := h_) ..
  | shr => exact doShr_base (h_ := h_) ..
  | sar => exact doSar_base (h_ := h_) ..
  | mul => exact doMul_base (h_ := h_) ..
  | mulhu => exact doMulhu_base (h_ := h_) ..
  | mulhs => exact doMulhs_base (h_ := h_) ..
  | divu => exact doDivu_base (h_ := h_) ..
  | remu => exact doRemu_base (h_ := h_) ..
  | slt => exact doSlt_base (h_ := h_) ..
  | sltu => exact doSltu_base (h_ := h_) ..
  | adda => exact doAdda_base (h_ := h_) ..
  | dista => exact doDista_base (h_ := h_) ..
  | addi => exact doAddi_base (h_ := h_) ..
  | andi => exact doAndi_base (h_ := h_) ..
  | ori => exact doOri_base (h_ := h_) ..
  | xori => exact doXori_base (h_ := h_) ..
  | shli => exact doShli_base (h_ := h_) ..
  | shri => exact doShri_base (h_ := h_) ..
  | sari => exact doSari_base (h_ := h_) ..
  | lui => exact doLui_base (h_ := h_) ..
  | ld => exact doLd_base (h_ := h_) ..
  | ldh => exact doLdh_base (h_ := h_) ..
  | ldb => exact doLdb_base (h_ := h_) ..
  | st => exact doSt_base (h_ := h_) ..
  | sth => exact doSth_base (h_ := h_) ..
  | stb => exact doStb_base (h_ := h_) ..
  | beq => exact doBeq_base (h_ := h_) ..
  | bne => exact doBne_base (h_ := h_) ..
  | blt => exact doBlt_base (h_ := h_) ..
  | bge => exact doBge_base (h_ := h_) ..
  | bltu => exact doBltu_base (h_ := h_) ..
  | bgeu => exact doBgeu_base (h_ := h_) ..
  | bf => exact doBf_base (h_ := h_) ..
  | jmp => exact doJmp_base (h_ := h_) ..
  | jal => exact doJal_base (h_ := h_) ..
  | jr => exact doJr_base (h_ := h_) ..
  | snap => exact doSnap_base (h_ := h_) ..
  | rds => exact doRds_base (h_ := h_) ..
  | waita => exact doWaita_base (h_ := h_) ..
  | waitt => exact doWaitt_base (h_ := h_) ..
  | waite => exact doWaite_base (h_ := h_) ..
  | waittReached => exact doWaittReached_base (h_ := h_) ..
  | waitTimeout => exact doWaitTimeout_base (h_ := h_) ..
  | sched => exact doSched_base (h_ := h_) ..
  | aim => exact doAim_base (h_ := h_) ..
  | cancel => exact doCancel_base (h_ := h_) ..
  | schedulerResult => exact doSchedulerResult_base (h_ := h_) ..
  | note => exact doNote_base (h_ := h_) ..
  | caprd => exact doCaprd_base (h_ := h_) ..
  | mbxrd => exact doMbxrd_base (h_ := h_) ..
  | mbxcp => exact doMbxcp_base (h_ := h_) ..
  | dmago => exact doDmago_base (h_ := h_) ..
  | signal => exact doSignal_base (h_ := h_) ..
  | yield => exact doYield_base (h_ := h_) ..
  | endTask => exact doEnd_base (h_ := h_) ..
  | timeTrigger => exact doTimeTrigger_base (h_ := h_) ..
  | budgetExhausted => exact doBudgetExhausted_base (h_ := h_) ..
  | dmaBurst => exact doDmaBurst_base (h_ := h_) ..
  | dmaTransferComplete => exact doDmaTransferComplete_base (h_ := h_) ..
  | irqClaim => exact doIrqClaim_base (h_ := h_) ..
  | irqComplete => exact doIrqComplete_base (h_ := h_) ..
  | moderationHoldEnd => exact doModerationHoldEnd_base (h_ := h_) ..
  | graceDeadline => exact doGraceDeadline_base (h_ := h_) ..
  | faultAcknowledge => exact doFaultAcknowledge_base (h_ := h_) ..
  | watchdogService => exact doWatchdogService_base (h_ := h_) ..
  | watchdogTimeout => exact doWatchdogTimeout_base (h_ := h_) ..
  | watchdogWarning => exact doWatchdogWarning_base (h_ := h_) ..
  | handshakeStall => exact doHandshakeStall_base (h_ := h_) ..
  | mgmtCoreStall => exact doMgmtCoreStall_base (h_ := h_) ..
  | scrubAccess => exact doScrubAccess_base (h_ := h_) ..
  | rulerCalibration => exact doRulerCalibration_base (h_ := h_) ..
  | senseCalibration => exact doSenseCalibration_base (h_ := h_) ..
  | senseStale => exact doSenseStale_base (h_ := h_) ..
  | retentionRefreshStep => exact doRetentionRefreshStep_base (h_ := h_) ..
  | telemetryBatch => exact doTelemetryBatch_base (h_ := h_) ..
  | logbookFlush => exact doLogbookFlush_base (h_ := h_) ..
  | counterFrame => exact doCounterFrame_base (h_ := h_) ..
  | mirrorFrameSent => exact doMirrorFrameSent_base (h_ := h_) ..
  | snapshotRead => exact doSnapshotRead_base (h_ := h_) ..
  | lnsAngleRead => exact doLnsAngleRead_base (h_ := h_) ..
  | registerWrite => exact doRegisterWrite_base (h_ := h_) ..
  | standbyRequest => exact doStandbyRequest_base (h_ := h_) ..
  | sleepRequest => exact doSleepRequest_base (h_ := h_) ..
  | autoStandby => exact doAutoStandby_base (h_ := h_) ..
  | autoSleep => exact doAutoSleep_base (h_ := h_) ..
  | standbyWake => exact doStandbyWake_base (h_ := h_) ..
  | sleepWake => exact doSleepWake_base (h_ := h_) ..
  | lossReported => exact doLossReported_base (h_ := h_) ..
  | holdupStoreCharged => exact doHoldupStoreCharged_base (h_ := h_) ..
  | canBusOffRecovery => exact doCanBusOffRecovery_base (h_ := h_) ..
  | entropyHealthRecovery => exact doEntropyHealthRecovery_base (h_ := h_) ..
  | sensorSupplyRecovery => exact doSensorSupplyRecovery_base (h_ := h_) ..
  | tripInputRelease => exact doTripInputRelease_base (h_ := h_) ..
  | thermalDeratingChange => exact doThermalDeratingChange_base (h_ := h_) ..
  | digitiserSample => exact doDigitiserSample_base (h_ := h_) ..
  | offTestNotRun => exact doOffTestNotRun_base (h_ := h_) ..
  | illegalInstruction => exact doIllegalInstruction_base (h_ := h_) ..
  | sleepEntryComplete => exact doSleepEntryComplete_base (h_ := h_) ..
  | resetStepComplete => exact doResetStepComplete_base (h_ := h_) ..
  | canFrameTransmitted => exact doCanFrameTransmitted_base (h_ := h_) ..
  | resetNPulse t n =>
    show ((if n < 2000 then id else doResetN) s).base = c_
    split
    · exact h_
    · exact doResetN_base (h_ := h_) ..

/-- What every completed command leaves of the queue, of ETC and of the order code (R9). -/
theorem after_base (i : Instr) (s : State) : (after i s).base = (s.advance (instant i)).base := by
  unfold after
  dsimp only
  split
  · exact settle_base _ (powerSettle_base _ (effect_base i _ (timeNow_base _ rfl)))
  · split
    · rfl
    · exact settle_base _ (powerSettle_base _ (effect_base i _ (timeNow_base _ rfl)))

end Sys2Proof.Machine
end

