-- ==== Sys2Proof/Laws/Issue.lean ====
section
/-! SUPPORT. The issue of an instruction (R259, R299 to R302): what it comes to where no fault is due. -/

namespace Sys2Proof.Machine

theorem forEach_id (l : List Nat) (f : Nat → State → State) (s : State) (h : ∀ i ∈ l, f i s = s) : forEach l f s = s := by
  unfold forEach
  induction l with
  | nil => rfl
  | cons a r ih =>
    rw [List.foldl_cons, h a (by simp)]
    exact ih (fun i hi => h i (by simp [hi]))

theorem bestCtx_sq {s : State} {q i : Nat} (h : bestCtx s q = some i) : i / 8 = q := by
  have key : ∀ (l : List Nat) (a : Option Nat), (∀ j, a = some j → j ∈ ctxsOf q) → (∀ j ∈ l, j ∈ ctxsOf q) →
      ∀ i, l.foldl (fun a i =>
        if !mayIssue s i || decide (issuedAt s q < (s.ctx i).readyAt) then a
        else match a with
          | none => some i
          | some j => if issuesBefore s i j then some i else a) a = some i → i ∈ ctxsOf q := by
    intro l
    induction l with
    | nil => intro a ha _ i hi; exact ha i hi
    | cons b r ih =>
      intro a ha hl i hi
      rw [List.foldl_cons] at hi
      refine ih _ ?_ (fun j hj => hl j (by simp [hj])) i hi
      intro j hj
      have hb : b ∈ ctxsOf q := hl b (by simp)
      split at hj
      · exact ha j hj
      · cases a with
        | none => simp only [Option.some.injEq] at hj; exact hj ▸ hb
        | some c =>
          simp only at hj
          split at hj
          · simp only [Option.some.injEq] at hj; exact hj ▸ hb
          · exact ha j hj
  have hm := key (ctxsOf q) none (by simp) (fun _ h => h) i h
  simp only [ctxsOf, List.mem_map, List.mem_range] at hm
  obtain ⟨a, ha, rfl⟩ := hm
  omega

theorem mem_ctxsOf {q k : Nat} : k ∈ ctxsOf q ↔ k / 8 = q := by
  simp only [ctxsOf, List.mem_map, List.mem_range]
  constructor
  · rintro ⟨a, ha, rfl⟩; omega
  · intro h; exact ⟨k % 8, by omega, by omega⟩

theorem toReady_other {j k : Nat} (s : State) (h : k ≠ j) : (toReady j s).ctx k = s.ctx k := by
  unfold toReady
  split
  · exact State.ctx_setCtx_other _ _ h
  · rfl

theorem toReady_same (j : Nat) (s : State) : (toReady j s).ctx j =
    if (s.ctx j).state = .issuing then { s.ctx j with state := .ready } else s.ctx j := by
  unfold toReady
  split
  · exact State.ctx_setCtx ..
  · rfl

theorem toReady_fold (l : List Nat) (s : State) (k : Nat) : (forEach l toReady s).ctx k =
    if k ∈ l ∧ (s.ctx k).state = .issuing then { s.ctx k with state := .ready } else s.ctx k := by
  unfold forEach
  induction l generalizing s with
  | nil => simp
  | cons a r ih =>
    rw [List.foldl_cons, ih]
    by_cases hk : k = a
    · subst hk
      rw [toReady_same]
      by_cases h : (s.ctx k).state = .issuing <;> simp [h]
    · rw [toReady_other _ hk]
      simp [hk]

theorem toReady_seqOnly (l : List Nat) (s : State) : SeqOnly s (forEach l toReady s) :=
  SeqOnly.foldl _ _ (fun s a => by unfold toReady; split <;> exact Eq.refl _) s

theorem toReady_rest (l : List Nat) (s : State) :
    (forEach l toReady s).seq.sq = s.seq.sq ∧ (forEach l toReady s).seq.task = s.seq.task ∧
    (forEach l toReady s).seq.orderNext = s.seq.orderNext ∧ (forEach l toReady s).seq.runSince = s.seq.runSince := by
  unfold forEach
  induction l generalizing s with
  | nil => exact ⟨rfl, rfl, rfl, rfl⟩
  | cons a r ih =>
    rw [List.foldl_cons]
    have h := ih (toReady a s)
    have e : (toReady a s).seq.sq = s.seq.sq ∧ (toReady a s).seq.task = s.seq.task ∧
        (toReady a s).seq.orderNext = s.seq.orderNext ∧ (toReady a s).seq.runSince = s.seq.runSince := by
      unfold toReady
      split <;> exact ⟨rfl, rfl, rfl, rfl⟩
    exact ⟨h.1.trans e.1, h.2.1.trans e.2.1, h.2.2.1.trans e.2.2.1, h.2.2.2.trans e.2.2.2⟩

theorem occupy_eq (i : Nat) (s : State) : occupy i s =
    ((forEach (ctxsOf (i / 8)) toReady s).setCtx i { (forEach (ctxsOf (i / 8)) toReady s).ctx i with
      state := .issuing, used := (s.ctx i).used + (s.etc - issueFrom s i) }).setSq (i / 8)
      { s.sq (i / 8) with boundary := s.etc } := by
  have h := toReady_rest (ctxsOf (i / 8)) s
  have he : (forEach (ctxsOf (i / 8)) toReady s).etc = s.etc := by rw [toReady_seqOnly (ctxsOf (i / 8)) s]
  have hs : (forEach (ctxsOf (i / 8)) toReady s).sq (i / 8) = s.sq (i / 8) := by unfold State.sq; rw [h.1]
  unfold occupy
  dsimp only
  generalize forEach (ctxsOf (i / 8)) toReady s = w at h he hs ⊢
  rw [show ∀ c : Ctx, (w.setCtx i c).sq (i / 8) = w.sq (i / 8) from fun _ => rfl,
    show ∀ c : Ctx, (w.setCtx i c).etc = w.etc from fun _ => rfl, hs, he]

/-- The contexts while context `i` is issued for (R295, R301). -/
theorem occupy_ctx (i k : Nat) (s : State) : (occupy i s).ctx k =
    if k = i then { s.ctx i with state := .issuing, used := (s.ctx i).used + (s.etc - issueFrom s i) }
    else if k / 8 = i / 8 ∧ (s.ctx k).state = .issuing then { s.ctx k with state := .ready } else s.ctx k := by
  rw [occupy_eq]
  simp only [State.setSq_pieces]
  split
  · subst k
    rw [State.ctx_setCtx, toReady_fold]
    split <;> rfl
  · rename_i h
    rw [State.ctx_setCtx_other _ _ h, toReady_fold]
    simp only [mem_ctxsOf]

/-- The sequencers while context `i` is issued for. -/
theorem occupy_sq (i q : Nat) (s : State) : (occupy i s).sq q =
    if q = i / 8 then { s.sq q with boundary := s.etc } else s.sq q := by
  rw [occupy_eq]
  split
  · subst q
    rw [State.sq_setSq]
  · rename_i h
    rw [State.sq_setSq_other _ _ h]
    have h' := toReady_rest (ctxsOf (i / 8)) s
    generalize forEach (ctxsOf (i / 8)) toReady s = w at h' ⊢
    show w.sq q = s.sq q
    unfold State.sq
    rw [h'.1]

/-- Only the sequencers' block changes. -/
theorem occupy_seqOnly (i : Nat) (s : State) : SeqOnly s (occupy i s) := by
  rw [occupy_eq]
  have h := toReady_seqOnly (ctxsOf (i / 8)) s
  generalize forEach (ctxsOf (i / 8)) toReady s = w at h ⊢
  exact h.trans (Eq.refl _)

theorem occupy_rest (i : Nat) (s : State) : (occupy i s).seq.task = s.seq.task ∧
    (occupy i s).seq.orderNext = s.seq.orderNext ∧ (occupy i s).seq.runSince = s.seq.runSince := by
  rw [occupy_eq]
  have h := toReady_rest (ctxsOf (i / 8)) s
  generalize forEach (ctxsOf (i / 8)) toReady s = w at h ⊢
  exact ⟨h.2.1, h.2.2.1, h.2.2.2⟩

/-- An instruction of context `i` issued by its row, with no fault due before it: the row's operation on the occupied
sequencer. -/
theorem issueWith_issues {s : State} {j : Issue} {i : Nat} {x : AInstr} (t : Tick) (h : Issues s j i x)
    (run : Nat → Word → State → Option Done) :
    issueWith j run (s.advance t) = match run i (fetchWord s i) (occupy i (s.advance t)) with
      | some d => d.finish i
      | none => s.advance t := by
  obtain ⟨ha, hb, hc, hf, hz, hd⟩ := h
  have hB : atBoundary j.sq.val (s.advance t) = s.advance t := by
    unfold atBoundary
    refine forEach_id _ _ _ (fun k hk => ?_)
    unfold budgetFault
    rw [if_neg]
    intro hx
    rw [Bool.and_eq_true] at hx
    exact absurd hx.2 (by rw [show overBudget (s.advance t) k = overBudget s k from rfl, hb k hk hx.1]; simp)
  have hm : issuing (s.advance t) = true := by
    unfold issuing
    rw [show (s.advance t).sys.mode = s.sys.mode from rfl, ha.1]
    rfl
  have hz' : fetchFault (s.advance t) i .clean = 0 := hz
  have he : eccRead (fetchAddr ((s.advance t).ctx i).pc) .clean (s.advance t) = s.advance t := by
    unfold fetchFault at hz'
    unfold eccRead
    dsimp only at hz'
    split at hz'
    · cases hz'
    · split at hz'
      · cases hz'
      · rename_i hne
        unfold eccAt at hne ⊢
        split at hne
        · exact absurd rfl hne
        · rename_i hb'
          rw [if_neg hb']
  unfold issueWith
  simp only [hm, Bool.not_true, Bool.false_eq_true, if_false, hB]
  rw [show bestCtx (s.advance t) j.sq.val = some i from hc]
  simp only [hf, hz', he]
  rfl

theorem issueOp_issues {s : State} {j : Issue} {i : Nat} {x : AInstr} (t : Tick) (h : Issues s j i x)
    (run : Nat → AInstr → State → Done) :
    issueOp x.op j run (s.advance t) = (run i x (occupy i (s.advance t))).finish i := by
  unfold issueOp
  rw [issueWith_issues t h]
  simp only [h.2.2.2.2.2, if_true]

/-- Context `i` on the occupied sequencer. -/
theorem occupy_issued {s : State} (t : Tick) (i : Nat) (h : Alive s) : (occupy i (s.advance t)).ctx i = issued s t i := by
  rw [occupy_ctx, if_pos rfl, etc_alive t h]
  rfl

/-- An instruction that ends as one update of its context leaves nothing else changed. -/
theorem leaves_setCtx {s : State} (t : Tick) (i : Nat) (c : Ctx) (h : Alive s) :
    Leaves s t i c (settle ((occupy i (s.advance t)).setCtx i c)) := by
  have ho := occupy_seqOnly i (s.advance t)
  have hr := occupy_rest i (s.advance t)
  have hc := fun k => occupy_ctx i k (s.advance t)
  have hq := fun q => occupy_sq i q (s.advance t)
  generalize occupy i (s.advance t) = o at ho hr hc hq ⊢
  have he : o.etc = max s.etc t := by rw [ho, ← etc_alive t h]
  refine ⟨by simp, fun k hk => ?_, fun q => ?_, hr.1, he, ?_⟩
  · rw [show (settle (o.setCtx i c)).ctx k = (o.setCtx i c).ctx k from rfl, State.ctx_setCtx_other _ _ hk, hc, if_neg hk]
    rfl
  · show o.sq q = _
    rw [hq, etc_alive t h]
    rfl
  · unfold SeqFrame
    rw [ho]
    rfl

theorem writeD_eq (i d : Nat) (v : Word) (s : State) : writeD i d v s = s.setCtx i ((s.ctx i).wrote d v) := by
  unfold writeD nextPc setPc setReg Ctx.wrote
  rw [State.ctx_setCtx, State.setCtx_setCtx]
  unfold Ctx.setReg
  split <;> rfl

theorem setPc_eq (i : Nat) (p : BitVec 16) (s : State) : setPc i p s = s.setCtx i { s.ctx i with pc := p } := rfl

/-- A row of angle code whose instruction ends as one update of its context. -/
theorem yields_ctx (c : Instr) {s : State} {t : Tick} {j : Issue} {i : Nat} {x : AInstr} (g : Ctx → Ctx)
    (h : Issues s j i x) (hl : leaves_mode c = false)
    (he : settle (effect c (s.advance (instant c))) =
      settle ((occupy i (s.advance t)).setCtx i (g ((occupy i (s.advance t)).ctx i)))) :
    Yields c s (Leaves s t i (g (issued s t i))) := by
  refine yields_alive c h.1 hl ?_
  rw [he, occupy_issued t i h.1]
  exact leaves_setCtx t i _ h.1

/-- A decoded word meets what its row states of its fields (R262). -/
theorem decodeAngle_rowOk {w : Word} {x : AInstr} (h : decodeAngle w = some x) : x.rowOk = true := by
  unfold decodeAngle at h
  split at h
  · cases h
  · split at h
    · cases h
    · split at h
      · cases h; assumption
      · cases h

/-- A row whose operation updates only its context. -/
theorem yields_run (k : Instr) {s : State} {t : Tick} {j : Issue} {i : Nat} {x : AInstr} {op : AOp}
    {run : Nat → AInstr → State → Done} (c : Ctx) (h : Issues s j i x)
    (he : effect k (s.advance (instant k)) = issueOp op j run (s.advance t)) (hl : leaves_mode k = false)
    (ho : x.op = op) (hr : run i x (occupy i (s.advance t)) = .next ((occupy i (s.advance t)).setCtx i c)) :
    Yields k s (Leaves s t i c) := by
  refine yields_ctx (t := t) k (fun _ => c) h hl ?_
  rw [he, ← ho, issueOp_issues t h, hr]
  rfl

/-- A row whose operation writes one register. -/
theorem yields_writeD (k : Instr) {s : State} {t : Tick} {j : Issue} {i : Nat} {x : AInstr} {op : AOp}
    {run : Nat → AInstr → State → Done} (v : Word) (h : Issues s j i x)
    (he : effect k (s.advance (instant k)) = issueOp op j run (s.advance t)) (hl : leaves_mode k = false)
    (ho : x.op = op) (hr : run i x (occupy i (s.advance t)) = .next (writeD i x.d v (occupy i (s.advance t)))) :
    Yields k s (Leaves s t i ((issued s t i).wrote x.d v)) := by
  refine yields_run k _ h he hl ho ?_
  rw [hr, writeD_eq, occupy_issued t i h.1]

end Sys2Proof.Machine
end

