-- ==== Sys2Proof/Laws/MemWf.lean ====
section
/-! SUPPORT. Every operation keeps the memory's canonical form. -/

set_option linter.all false

namespace Sys2Proof.Machine
theorem foldl_wf {α : Type} (l : List α) (f : State → α → State) (s : State) (h : ∀ (s : State) a, memWf s.mem = true → memWf (f s a).mem = true)
    (h_ : memWf s.mem = true) : memWf (l.foldl f s).mem = true := by
  induction l generalizing s with
  | nil => exact h_
  | cons a r ih => exact ih _ (h _ _ h_)
theorem foldl1_wf {α β : Type} (l : List α) (f : State × β → α → State × β) (s : State × β)
    (h : ∀ (s : State × β) a, memWf s.1.mem = true → memWf (f s a).1.mem = true) (h_ : memWf s.1.mem = true) : memWf (l.foldl f s).1.mem = true := by
  induction l generalizing s with
  | nil => exact h_
  | cons a r ih => exact ih _ (h _ _ h_)
theorem repeatN_wf (f : State → State) (n : Nat) (s : State) (h : ∀ s : State, memWf s.mem = true → memWf (f s).mem = true) (h_ : memWf s.mem = true) :
    memWf (repeatN f n s).mem = true := by
  induction n generalizing s with
  | zero => exact h_
  | succ n ih => exact ih _ (h _ h_)
theorem or_wf (a : Option Reply) (b : Unit → Option Reply) (h1 : ∀ r, a = some r → memWf r.state.mem = true)
    (h2 : ∀ r, b () = some r → memWf r.state.mem = true) (r : Reply) (h : a.orElse b = some r) : memWf r.state.mem = true := by
  cases a with
  | none => exact h2 r h
  | some x => exact h1 r h
theorem getD_wf (a : Option State) (d : State) (h1 : ∀ x, a = some x → memWf x.mem = true) (h2 : memWf d.mem = true) : memWf (a.getD d).mem = true := by
  cases a with
  | none => exact h2
  | some x => exact h1 x rfl

theorem State_advance_wf (t : Tick) (s : State) (h_ : memWf s.mem = true) :
    memWf (Sys2Proof.Machine.State.advance t s).mem = true := by
  unfold State.advance
  repeat' (with_reducible first | assumption | dsimp only | split | intro)

theorem State_setChan_wf (s : State) (k : Nat) (c : Chan) (h_ : memWf s.mem = true) :
    memWf (Sys2Proof.Machine.State.setChan s k c).mem = true := by
  unfold State.setChan
  repeat' (with_reducible first | assumption | dsimp only | split | intro)

theorem State_setBank_wf (s : State) (b : Nat) (c : BankSt) (h_ : memWf s.mem = true) :
    memWf (Sys2Proof.Machine.State.setBank s b c).mem = true := by
  unfold State.setBank
  repeat' (with_reducible first | assumption | dsimp only | split | intro)

theorem State_setKettle_wf (s : State) (k : Nat) (c : Kettle) (h_ : memWf s.mem = true) :
    memWf (Sys2Proof.Machine.State.setKettle s k c).mem = true := by
  unfold State.setKettle
  repeat' (with_reducible first | assumption | dsimp only | split | intro)

theorem State_setDch_wf (s : State) (k : Nat) (c : DiaCh) (h_ : memWf s.mem = true) :
    memWf (Sys2Proof.Machine.State.setDch s k c).mem = true := by
  unfold State.setDch
  repeat' (with_reducible first | assumption | dsimp only | split | intro)

theorem State_setDgt_wf (s : State) (b : Nat) (c : Digitiser) (h_ : memWf s.mem = true) :
    memWf (Sys2Proof.Machine.State.setDgt s b c).mem = true := by
  unfold State.setDgt
  repeat' (with_reducible first | assumption | dsimp only | split | intro)

theorem State_setSlot_wf (s : State) (i : Nat) (e : Event) (h_ : memWf s.mem = true) :
    memWf (Sys2Proof.Machine.State.setSlot s i e).mem = true := by
  unfold State.setSlot
  repeat' (with_reducible first | assumption | dsimp only | split | intro)

theorem State_setSq_wf (s : State) (q : Nat) (c : SeqSt) (h_ : memWf s.mem = true) :
    memWf (Sys2Proof.Machine.State.setSq s q c).mem = true := by
  unfold State.setSq
  repeat' (with_reducible first | assumption | dsimp only | split | intro)

theorem State_setCtx_wf (s : State) (i : Nat) (c : Ctx) (h_ : memWf s.mem = true) :
    memWf (Sys2Proof.Machine.State.setCtx s i c).mem = true := by
  unfold State.setCtx
  repeat' (with_reducible first | assumption | dsimp only | split | intro)

theorem State_setDma_wf (s : State) (c : Nat) (d : DmaCh) (h_ : memWf s.mem = true) :
    memWf (Sys2Proof.Machine.State.setDma s c d).mem = true := by
  unfold State.setDma
  repeat' (with_reducible first | assumption | dsimp only | split | intro)

theorem State_setTimer_wf (s : State) (n : Nat) (c : Timer) (h_ : memWf s.mem = true) :
    memWf (Sys2Proof.Machine.State.setTimer s n c).mem = true := by
  unfold State.setTimer
  repeat' (with_reducible first | assumption | dsimp only | split | intro)

theorem State_setEb_wf (s : State) (n : Nat) (c : Eb) (h_ : memWf s.mem = true) :
    memWf (Sys2Proof.Machine.State.setEb s n c).mem = true := by
  unfold State.setEb
  repeat' (with_reducible first | assumption | dsimp only | split | intro)

theorem State_setKc_wf (s : State) (k : Nat) (c : Kc) (h_ : memWf s.mem = true) :
    memWf (Sys2Proof.Machine.State.setKc s k c).mem = true := by
  unfold State.setKc
  repeat' (with_reducible first | assumption | dsimp only | split | intro)

theorem State_setWheel_wf (s : State) (n : Nat) (c : WheelIn) (h_ : memWf s.mem = true) :
    memWf (Sys2Proof.Machine.State.setWheel s n c).mem = true := by
  unfold State.setWheel
  repeat' (with_reducible first | assumption | dsimp only | split | intro)

theorem State_setLink_wf (s : State) (l : Link) (x : LinkSt) (h_ : memWf s.mem = true) :
    memWf (Sys2Proof.Machine.State.setLink s l x).mem = true := by
  unfold State.setLink
  repeat' (with_reducible first | assumption | dsimp only | split | intro)

theorem State_memPatch_wf (s : State) (a : Nat) (b : List Byte) (h_ : memWf s.mem = true) :
    memWf (Sys2Proof.Machine.State.memPatch s a b).mem = true := by
  unfold State.memPatch memWf at *
  simp only [Bool.and_eq_true] at *
  exact ⟨⟨Table.wf_setList _ _ h_.1.1, h_.1.2⟩, h_.2⟩

theorem State_memWrite_wf (s : State) (a : Nat) (b : List Byte) (h_ : memWf s.mem = true) :
    memWf (Sys2Proof.Machine.State.memWrite s a b).mem = true := by
  unfold State.memWrite memWf at *
  simp only [Bool.and_eq_true] at *
  exact ⟨⟨Table.wf_setList _ _ h_.1.1, Table.wf_outside _ _ h_.1.2⟩, Table.wf_outside _ _ h_.2⟩

theorem State_memSetWord_wf (s : State) (a : Nat) (w : Word) (h_ : memWf s.mem = true) :
    memWf (Sys2Proof.Machine.State.memSetWord s a w).mem = true := by
  unfold State.memSetWord
  repeat' (with_reducible first | assumption | apply State_memWrite_wf | dsimp only | split | intro)

theorem wake_wf (b : Nat) (s : State) (h_ : memWf s.mem = true) :
    memWf (wake b s).mem = true := by
  unfold wake
  repeat' (with_reducible first | assumption | dsimp only | split | intro)

theorem raise_wf (n : Nat) (s : State) (h_ : memWf s.mem = true) :
    memWf (raise n s).mem = true := by
  unfold raise
  repeat' (with_reducible first | assumption | apply wake_wf | dsimp only | split | intro)

theorem raiseIf_wf (c : Bool) (n : Nat) (s : State) (h_ : memWf s.mem = true) :
    memWf (raiseIf c n s).mem = true := by
  unfold raiseIf
  repeat' (with_reducible first | assumption | apply raise_wf | dsimp only | split | intro)

theorem settle_wf (s : State) (h_ : memWf s.mem = true) :
    memWf (settle s).mem = true := by
  unfold settle
  repeat' (with_reducible first | assumption | dsimp only | split | intro)

theorem logPut_wf (kind : Nat) (body : List Byte) (s : State) (h_ : memWf s.mem = true) :
    memWf (logPut kind body s).mem = true := by
  unfold logPut
  repeat' (with_reducible first | assumption | dsimp only | split | intro)

theorem logAppend_wf (kind : Nat) (body : List Byte) (s : State) (h_ : memWf s.mem = true) :
    memWf (logAppend kind body s).mem = true := by
  unfold logAppend
  repeat' (with_reducible first | assumption | apply logPut_wf | dsimp only | split | intro)

theorem log_wf (kind level : Nat) (body : List Byte) (s : State) (h_ : memWf s.mem = true) :
    memWf (log kind level body s).mem = true := by
  unfold log
  repeat' (with_reducible first | assumption | apply logAppend_wf | dsimp only | split | intro)

theorem mirrorAt_wf (ty : Nat) (body : List Byte) (etc : Tick) (s : State) (h_ : memWf s.mem = true) :
    memWf (mirrorAt ty body etc s).mem = true := by
  unfold mirrorAt
  repeat' (with_reducible first | assumption | apply raiseIf_wf | dsimp only | split | intro)

theorem mirror_wf (ty : Nat) (body : List Byte) (s : State) (h_ : memWf s.mem = true) :
    memWf (mirror ty body s).mem = true := by
  unfold mirror
  repeat' (with_reducible first | assumption | apply mirrorAt_wf | dsimp only | split | intro)

theorem mirrorState_wf (kind value : Nat) (s : State) (h_ : memWf s.mem = true) :
    memWf (mirrorState kind value s).mem = true := by
  unfold mirrorState
  repeat' (with_reducible first | assumption | apply mirror_wf | dsimp only | split | intro)

theorem makeReady_wf (i : Nat) (s : State) (h_ : memWf s.mem = true) :
    memWf (makeReady i s).mem = true := by
  unfold makeReady
  repeat' (with_reducible first | assumption | apply State_setCtx_wf | dsimp only | split | intro)

theorem startActivation_wf (trig i : Nat) (t : Task) (s : State) (h_ : memWf s.mem = true) :
    memWf (startActivation trig i t s).mem = true := by
  unfold startActivation
  repeat' (with_reducible first | assumption | apply makeReady_wf | apply State_setCtx_wf | dsimp only | split | intro)

theorem activate_wf (trig i : Nat) (s : State) (h_ : memWf s.mem = true) :
    memWf (activate trig i s).mem = true := by
  unfold activate
  repeat' (with_reducible first | assumption | apply startActivation_wf | apply State_setCtx_wf | dsimp only | split | intro)

theorem wakeLatch_wf (i : Nat) (s : State) (h_ : memWf s.mem = true) :
    memWf (wakeLatch i s).mem = true := by
  unfold wakeLatch
  repeat' (with_reducible first | assumption | apply makeReady_wf | apply State_setCtx_wf | apply setReg_wf | dsimp only | split | intro)

theorem setLatch_wf (b i : Nat) (s : State) (h_ : memWf s.mem = true) :
    memWf (setLatch b i s).mem = true := by
  unfold setLatch
  repeat' (with_reducible first | assumption | apply State_setCtx_wf | apply activate_wf | apply wakeLatch_wf | dsimp only | split | intro)

theorem forEach_wf (l : List Nat) (f : Nat → State → State) (s : State) (h_f : ∀ i (s : State), memWf s.mem = true → memWf (f i s).mem = true)
    (h_ : memWf s.mem = true) : memWf (forEach l f s).mem = true := foldl_wf _ _ _ (fun s i => h_f i s) h_

theorem latchSq_wf (b q : Nat) (s : State) (h_ : memWf s.mem = true) :
    memWf (latchSq b q s).mem = true := by
  unfold latchSq
  repeat' (with_reducible first | assumption | apply State_setSq_wf | apply forEach_wf | apply setLatch_wf | dsimp only | split | intro)

theorem latchAll_wf (b : Nat) (s : State) (h_ : memWf s.mem = true) :
    memWf (latchAll b s).mem = true := by
  unfold latchAll
  repeat' (with_reducible first | assumption | apply forEach_wf | apply setLatch_wf | dsimp only | split | intro)

theorem notice_wf (owner : Nat) (w0 w1 : Word) (s : State) (h_ : memWf s.mem = true) :
    memWf (notice owner w0 w1 s).mem = true := by
  unfold notice
  repeat' (with_reducible first | assumption | apply State_setSq_wf | apply latchSq_wf | dsimp only | split | intro)

theorem ebZero_wf (n : Nat) (s : State) (h_ : memWf s.mem = true) :
    memWf (ebZero n s).mem = true := by
  unfold ebZero
  repeat' (with_reducible first | assumption | apply raiseIf_wf | apply State_setEb_wf | dsimp only | split | intro)

theorem ebPer_wf (n : Nat) (s : State) (h_ : memWf s.mem = true) :
    memWf (ebPer n s).mem = true := by
  unfold ebPer
  repeat' (with_reducible first | assumption | apply raiseIf_wf | apply State_setEb_wf | dsimp only | split | intro)

theorem ebCmp_wf (n : Nat) (s : State) (h_ : memWf s.mem = true) :
    memWf (ebCmp n s).mem = true := by
  unfold ebCmp
  repeat' (with_reducible first | assumption | apply raiseIf_wf | apply State_setEb_wf | dsimp only | split | intro)

theorem ebTrip_wf (n : Nat) (s : State) (h_ : memWf s.mem = true) :
    memWf (ebTrip n s).mem = true := by
  unfold ebTrip
  repeat' (with_reducible first | assumption | apply raiseIf_wf | apply State_setEb_wf | dsimp only | split | intro)

theorem ebUnblank_wf (n : Nat) (s : State) (h_ : memWf s.mem = true) :
    memWf (ebUnblank n s).mem = true := by
  unfold ebUnblank
  repeat' (with_reducible first | assumption | apply State_setEb_wf | apply ebTrip_wf | dsimp only | split | intro)

theorem ebPhase_wf (toHigh : Bool) (x : Tick) (len : Nat) (n : Nat) (s : State) (h_ : memWf s.mem = true) :
    memWf (ebPhase toHigh x len n s).mem = true := by
  unfold ebPhase
  repeat' (with_reducible first | assumption | apply State_setEb_wf | apply raiseIf_wf | apply ebUnblank_wf | dsimp only | split | intro)

theorem ebZeroPhase_wf (x : Tick) (n : Nat) (s : State) (h_ : memWf s.mem = true) :
    memWf (ebZeroPhase x n s).mem = true := by
  unfold ebZeroPhase
  repeat' (with_reducible first | assumption | apply ebPhase_wf | apply State_setEb_wf | dsimp only | split | intro)

theorem ebBoundary_wf (x : Tick) (n : Nat) (s : State) (h_ : memWf s.mem = true) :
    memWf (ebBoundary x n s).mem = true := by
  unfold ebBoundary
  repeat' (with_reducible first | assumption | apply State_setEb_wf | apply ebZero_wf | apply ebPer_wf | apply ebZeroPhase_wf | dsimp only | split | intro)

theorem ebShadow_wf (f : EbVals → EbVals) (n : Nat) (s : State) (h_ : memWf s.mem = true) :
    memWf (ebShadow f n s).mem = true := by
  unfold ebShadow
  repeat' (with_reducible first | assumption | apply State_setEb_wf | dsimp only | split | intro)

theorem doEbPeriodBoundary_wf (n : Nat) (bootLow : Bool) (s : State) (h_ : memWf s.mem = true) :
    memWf (doEbPeriodBoundary n bootLow s).mem = true := by
  unfold doEbPeriodBoundary
  repeat' (with_reducible first | assumption | apply ebBoundary_wf | apply State_setEb_wf | dsimp only | split | intro)

theorem doEbPerEvent_wf (n : Nat) (s : State) (h_ : memWf s.mem = true) :
    memWf (doEbPerEvent n s).mem = true := by
  unfold doEbPerEvent
  repeat' (with_reducible first | assumption | apply ebPer_wf | apply State_setEb_wf | dsimp only | split | intro)

theorem doEbPhaseEdge_wf (n : Nat) (bootLow : Bool) (s : State) (h_ : memWf s.mem = true) :
    memWf (doEbPhaseEdge n bootLow s).mem = true := by
  unfold doEbPhaseEdge
  repeat' (with_reducible first | assumption | apply ebCmp_wf | apply ebPhase_wf | apply State_setEb_wf | dsimp only | split | intro)

theorem doEbDeadTimeEnd_wf (n : Nat) (swung : Bool) (s : State) (h_ : memWf s.mem = true) :
    memWf (doEbDeadTimeEnd n swung s).mem = true := by
  unfold doEbDeadTimeEnd
  repeat' (with_reducible first | assumption | apply State_setEb_wf | dsimp only | split | intro)

theorem setTrip_wf (i : Nat) (active : Bool) (s : State) (h_ : memWf s.mem = true) :
    memWf (setTrip i active s).mem = true := by
  unfold setTrip
  repeat' (with_reducible first | assumption | dsimp only | split | intro)

theorem ebTripDecide_wf (n : Nat) (s : State) (h_ : memWf s.mem = true) :
    memWf (ebTripDecide n s).mem = true := by
  unfold ebTripDecide
  repeat' (with_reducible first | assumption | apply State_setEb_wf | apply ebTrip_wf | dsimp only | split | intro)

theorem doTripAccept_wf (n i held : Nat) (s : State) (h_ : memWf s.mem = true) :
    memWf (doTripAccept n i held s).mem = true := by
  unfold doTripAccept
  repeat' (with_reducible first | assumption | apply setTrip_wf | apply State_setEb_wf | apply ebTripDecide_wf | dsimp only | split | intro)

theorem ebSetMask_wf (mask : BitVec 4) (n : Nat) (s : State) (h_ : memWf s.mem = true) :
    memWf (ebSetMask mask n s).mem = true := by
  unfold ebSetMask
  repeat' (with_reducible first | assumption | apply State_setEb_wf | apply ebTripDecide_wf | dsimp only | split | intro)

theorem doBlankingEnd_wf (n : Nat) (s : State) (h_ : memWf s.mem = true) :
    memWf (doBlankingEnd n s).mem = true := by
  unfold doBlankingEnd
  repeat' (with_reducible first | assumption | apply State_setEb_wf | apply ebTrip_wf | dsimp only | split | intro)

theorem ebRelease_wf (i n : Nat) (s : State) (h_ : memWf s.mem = true) :
    memWf (ebRelease i n s).mem = true := by
  unfold ebRelease
  repeat' (with_reducible first | assumption | apply State_setEb_wf | dsimp only | split | intro)

theorem doTripInputRelease_wf (i : Nat) (s : State) (h_ : memWf s.mem = true) :
    memWf (doTripInputRelease i s).mem = true := by
  unfold doTripInputRelease
  repeat' (with_reducible first | assumption | apply forEach_wf | apply ebRelease_wf | apply setTrip_wf | dsimp only | split | intro)

theorem tripsApplied_wf (s : State) (h_ : memWf s.mem = true) :
    memWf (tripsApplied s).mem = true := by
  unfold tripsApplied
  repeat' (with_reducible first | assumption | apply forEach_wf | apply ebRelease_wf | dsimp only | split | intro)

theorem doEbEnable_wf (n : Nat) (s : State) (h_ : memWf s.mem = true) :
    memWf (doEbEnable n s).mem = true := by
  unfold doEbEnable
  repeat' (with_reducible first | assumption | apply ebPhase_wf | apply State_setEb_wf | apply ebTrip_wf | dsimp only | split | intro)

theorem doEbDisable_wf (n : Nat) (s : State) (h_ : memWf s.mem = true) :
    memWf (doEbDisable n s).mem = true := by
  unfold doEbDisable
  repeat' (with_reducible first | assumption | apply State_setEb_wf | dsimp only | split | intro)

theorem ebAllOff_wf (s : State) (h_ : memWf s.mem = true) :
    memWf (ebAllOff s).mem = true := by
  unfold ebAllOff
  repeat' (with_reducible first | assumption | apply forEach_wf | apply doEbDisable_wf | dsimp only | split | intro)

theorem doEbLoadArm_wf (n : Nat) (s : State) (h_ : memWf s.mem = true) :
    memWf (doEbLoadArm n s).mem = true := by
  unfold doEbLoadArm
  repeat' (with_reducible first | assumption | apply State_setEb_wf | dsimp only | split | intro)

theorem doPwmGlbLoad_wf (mask : Nat) (s : State) (h_ : memWf s.mem = true) :
    memWf (doPwmGlbLoad mask s).mem = true := by
  unfold doPwmGlbLoad
  repeat' (with_reducible first | assumption | apply forEach_wf | apply doEbLoadArm_wf | dsimp only | split | intro)

theorem doPwmGlbStart_wf (mask : Nat) (s : State) (h_ : memWf s.mem = true) :
    memWf (doPwmGlbStart mask s).mem = true := by
  unfold doPwmGlbStart
  repeat' (with_reducible first | assumption | apply forEach_wf | apply doEbEnable_wf | dsimp only | split | intro)

theorem bootstrapFree_wf (n : Nat) (s : State) (h_ : memWf s.mem = true) :
    memWf (bootstrapFree n s).mem = true := by
  unfold bootstrapFree
  repeat' (with_reducible first | assumption | apply State_setEb_wf | dsimp only | split | intro)

theorem ebRecross_wf (n : Nat) (s : State) (h_ : memWf s.mem = true) :
    memWf (ebRecross n s).mem = true := by
  unfold ebRecross
  repeat' (with_reducible first | assumption | apply ebPhase_wf | apply bootstrapFree_wf | dsimp only | split | intro)

theorem ebImmPer_wf (v n : Nat) (s : State) (h_ : memWf s.mem = true) :
    memWf (ebImmPer v n s).mem = true := by
  unfold ebImmPer
  repeat' (with_reducible first | assumption | apply State_setEb_wf | apply ebBoundary_wf | apply bootstrapFree_wf | apply ebRecross_wf | apply ebPer_wf | dsimp only | split | intro)

theorem ebImmCmp_wf (v n : Nat) (s : State) (h_ : memWf s.mem = true) :
    memWf (ebImmCmp v n s).mem = true := by
  unfold ebImmCmp
  repeat' (with_reducible first | assumption | apply ebRecross_wf | apply State_setEb_wf | dsimp only | split | intro)

theorem doEbWrite_wf (n : Nat) (which : EbValue) (value : Word) (s : State) (h_ : memWf s.mem = true) :
    memWf (doEbWrite n which value s).mem = true := by
  unfold doEbWrite
  repeat' (with_reducible first | assumption | apply ebImmPer_wf | apply ebShadow_wf | apply ebImmCmp_wf | dsimp only | split | intro)

theorem doEbTripClear_wf (n : Nat) (s : State) (h_ : memWf s.mem = true) :
    memWf (doEbTripClear n s).mem = true := by
  unfold doEbTripClear
  repeat' (with_reducible first | assumption | apply State_setEb_wf | dsimp only | split | intro)

theorem kcStop_wf (k : Nat) (s : State) (h_ : memWf s.mem = true) :
    memWf (kcStop k s).mem = true := by
  unfold kcStop
  repeat' (with_reducible first | assumption | apply State_setKc_wf | dsimp only | split | intro)

theorem kcZero_wf (k : Nat) (s : State) (h_ : memWf s.mem = true) :
    memWf (kcZero k s).mem = true := by
  unfold kcZero
  repeat' (with_reducible first | assumption | apply raiseIf_wf | apply State_setKc_wf | dsimp only | split | intro)

theorem kcPer_wf (k : Nat) (s : State) (h_ : memWf s.mem = true) :
    memWf (kcPer k s).mem = true := by
  unfold kcPer
  repeat' (with_reducible first | assumption | apply raiseIf_wf | apply State_setKc_wf | dsimp only | split | intro)

theorem kcCmp_wf (k : Nat) (s : State) (h_ : memWf s.mem = true) :
    memWf (kcCmp k s).mem = true := by
  unfold kcCmp
  repeat' (with_reducible first | assumption | apply raiseIf_wf | apply State_setKc_wf | dsimp only | split | intro)

theorem kcReached_wf (k : Nat) (s : State) (h_ : memWf s.mem = true) :
    memWf (kcReached k s).mem = true := by
  unfold kcReached
  repeat' (with_reducible first | assumption | apply kcCmp_wf | dsimp only | split | intro)

theorem kcNow_wf (s : State) (h_ : memWf s.mem = true) :
    memWf (kcNow s).mem = true := by
  unfold kcNow
  repeat' (with_reducible first | assumption | apply forEach_wf | apply kcReached_wf | dsimp only | split | intro)

theorem doKcPeriodBoundary_wf (k per cmp : Nat) (s : State) (h_ : memWf s.mem = true) :
    memWf (doKcPeriodBoundary k per cmp s).mem = true := by
  unfold doKcPeriodBoundary
  repeat' (with_reducible first | assumption | apply kcStop_wf | apply kcPer_wf | apply kcZero_wf | apply State_setKc_wf | dsimp only | split | intro)

theorem doKcTrigger_wf (k j : Nat) (code : BitVec 12) (s : State) (h_ : memWf s.mem = true) :
    memWf (doKcTrigger k j code s).mem = true := by
  unfold doKcTrigger
  repeat' (with_reducible first | assumption | apply State_setKc_wf | apply State_setDgt_wf | apply raiseIf_wf | dsimp only | split | intro)

theorem timFollow_wf (rec : TimOp → Nat → Tick → State → State) (op : TimOp) (n : Nat) (x : Tick) (m : Nat) (s : State)
    (h_r : ∀ o n x (s : State), memWf s.mem = true → memWf (rec o n x s).mem = true) (h_ : memWf s.mem = true) : memWf (timFollow rec op n x m s).mem = true := by
  unfold timFollow
  repeat' (with_reducible first | assumption | apply State_setTimer_wf | apply h_r | dsimp only | split | intro)
theorem timAct_wf (k : Nat) (op : TimOp) (n : Nat) (x : Tick) (s : State) (h_ : memWf s.mem = true) : memWf (timAct k op n x s).mem = true := by
  induction k generalizing op n x s with
  | zero => cases op <;> exact h_
  | succ k ih =>
    cases op <;> simp only [timAct]
    all_goals
      refine foldl_wf _ _ _ (fun s a h => timFollow_wf _ _ _ _ _ _ ih h) ?_
      repeat' (with_reducible first | assumption | apply ih | apply State_setTimer_wf | apply raiseIf_wf | apply wake_wf | dsimp only | split)

theorem timBefore_wf (n : Nat) (x : Tick) (s : State) (h_ : memWf s.mem = true) :
    memWf (timBefore n x s).mem = true := by
  unfold timBefore
  repeat' (with_reducible first | assumption | apply timAct_wf | dsimp only | split | intro)

theorem doTimerStart_wf (n : Nat) (s : State) (h_ : memWf s.mem = true) :
    memWf (doTimerStart n s).mem = true := by
  unfold doTimerStart
  repeat' (with_reducible first | assumption | apply timBefore_wf | apply State_setTimer_wf | apply timAct_wf | dsimp only | split | intro)

theorem doTimerStop_wf (n : Nat) (s : State) (h_ : memWf s.mem = true) :
    memWf (doTimerStop n s).mem = true := by
  unfold doTimerStop
  repeat' (with_reducible first | assumption | apply timBefore_wf | apply State_setTimer_wf | dsimp only | split | intro)

theorem doTimerTargetWrite_wf (n : Nat) (target : Word) (s : State) (h_ : memWf s.mem = true) :
    memWf (doTimerTargetWrite n target s).mem = true := by
  unfold doTimerTargetWrite
  repeat' (with_reducible first | assumption | apply timBefore_wf | apply State_setTimer_wf | apply timAct_wf | dsimp only | split | intro)

theorem doTimGlbStart_wf (mask : Nat) (s : State) (h_ : memWf s.mem = true) :
    memWf (doTimGlbStart mask s).mem = true := by
  unfold doTimGlbStart
  repeat' (with_reducible first | assumption | apply forEach_wf | apply doTimerStart_wf | dsimp only | split | intro)

theorem doTimerExpiry_wf (n : Nat) (s : State) (h_ : memWf s.mem = true) :
    memWf (doTimerExpiry n s).mem = true := by
  unfold doTimerExpiry
  repeat' (with_reducible first | assumption | apply timAct_wf | dsimp only | split | intro)

theorem captureAt_wf (alive : Bool) (n : Nat) (stamp : Tick) (s : State) (h_ : memWf s.mem = true) :
    memWf (captureAt alive n stamp s).mem = true := by
  unfold captureAt
  repeat' (with_reducible first | assumption | apply State_setTimer_wf | apply raiseIf_wf | dsimp only | split | intro)

theorem doCaptureEdge_wf (n : Nat) (stamp : Tick) (rising : Bool) (s : State) (h_ : memWf s.mem = true) :
    memWf (doCaptureEdge n stamp rising s).mem = true := by
  unfold doCaptureEdge
  repeat' (with_reducible first | assumption | apply State_setTimer_wf | apply captureAt_wf | apply timAct_wf | dsimp only | split | intro)

theorem ktEnter_wf (k : Nat) (st : KtState) (s : State) (h_ : memWf s.mem = true) :
    memWf (ktEnter k st s).mem = true := by
  unfold ktEnter
  repeat' (with_reducible first | assumption | apply State_setKettle_wf | apply fault_wf | apply kcStop_wf | apply raise_wf | dsimp only | split | intro)

theorem ktUpdate_wf (k : Nat) (s : State) (h_ : memWf s.mem = true) :
    memWf (ktUpdate k s).mem = true := by
  unfold ktUpdate
  repeat' (with_reducible first | assumption | apply ktEnter_wf | dsimp only | split | intro)

theorem ktLimit_wf (k : Nat) (s : State) (h_ : memWf s.mem = true) :
    memWf (ktLimit k s).mem = true := by
  unfold ktLimit
  repeat' (with_reducible first | assumption | apply State_setKettle_wf | apply kcStop_wf | dsimp only | split | intro)

theorem markFall_wf (k : Nat) (s : State) (h_ : memWf s.mem = true) :
    memWf (markFall k s).mem = true := by
  unfold markFall
  repeat' (with_reducible first | assumption | apply State_setKettle_wf | dsimp only | split | intro)

theorem fallEnds_wf (k : Nat) (s : State) (h_ : memWf s.mem = true) :
    memWf (fallEnds k s).mem = true := by
  unfold fallEnds
  repeat' (with_reducible first | assumption | apply State_setKettle_wf | dsimp only | split | intro)

theorem ktLimits_wf (s : State) (h_ : memWf s.mem = true) :
    memWf (ktLimits s).mem = true := by
  unfold ktLimits
  repeat' (with_reducible first | assumption | apply forEach_wf | apply ktLimit_wf | dsimp only | split | intro)

theorem ktTargetNow_wf (k : Nat) (s : State) (h_ : memWf s.mem = true) :
    memWf (ktTargetNow k s).mem = true := by
  unfold ktTargetNow
  repeat' (with_reducible first | assumption | apply ktUpdate_wf | apply State_setKettle_wf | dsimp only | split | intro)

theorem ktPassed_wf (k i : Nat) (s : State) (h_ : memWf s.mem = true) :
    memWf (ktPassed k i s).mem = true := by
  unfold ktPassed
  repeat' (with_reducible first | assumption | apply ktTargetNow_wf | apply State_setKettle_wf | dsimp only | split | intro)

theorem ktRelease_wf (k amount : Nat) (s : State) (h_ : memWf s.mem = true) :
    memWf (ktRelease k amount s).mem = true := by
  unfold ktRelease
  repeat' (with_reducible first | assumption | apply State_setKettle_wf | dsimp only | split | intro)

theorem digitiserBusy_wf (k : Nat) (s : State) (h_ : memWf s.mem = true) :
    memWf (digitiserBusy k s).mem = true := by
  unfold digitiserBusy
  repeat' (with_reducible first | assumption | apply State_setDch_wf | apply State_setDgt_wf | dsimp only | split | intro)

theorem takeCapture_wf (k : Nat) (off : Tick) (c : Capture) (s : State) (h_ : memWf s.mem = true) :
    memWf (takeCapture k off c s).mem = true := by
  unfold takeCapture
  repeat' (with_reducible first | assumption | apply State_setDgt_wf | dsimp only | split | intro)

theorem beginCapture_wf (k : Nat) (off : Tick) (s : State) (h_ : memWf s.mem = true) :
    memWf (beginCapture k off s).mem = true := by
  unfold beginCapture
  repeat' (with_reducible first | assumption | apply digitiserBusy_wf | apply takeCapture_wf | apply State_setDgt_wf | dsimp only | split | intro)

theorem peakOver_wf (k energyUj : Nat) (s : State) (h_ : memWf s.mem = true) :
    memWf (peakOver k energyUj s).mem = true := by
  unfold peakOver
  repeat' (with_reducible first | assumption | apply ktRelease_wf | apply State_setChan_wf | apply ktPassed_wf | dsimp only | split | intro)

theorem bankEdge_wf (b : Nat) (x : Tick) (s : State) (h_ : memWf s.mem = true) :
    memWf (bankEdge b x s).mem = true := by
  unfold bankEdge
  repeat' (with_reducible first | assumption | apply State_setBank_wf | dsimp only | split | intro)

theorem turnOff_wf (k : Nat) (off : Tick) (lastEnd energyUj : Nat) (s : State) (h_ : memWf s.mem = true) :
    memWf (turnOff k off lastEnd energyUj s).mem = true := by
  unfold turnOff
  repeat' (with_reducible first | assumption | apply peakOver_wf | apply State_setChan_wf | apply beginCapture_wf | apply bankEdge_wf | dsimp only | split | intro)

theorem endAt_wf (cause : Nat) (off : Tick) (k : Nat) (s : State) (h_ : memWf s.mem = true) :
    memWf (endAt cause off k s).mem = true := by
  unfold endAt
  repeat' (with_reducible first | assumption | apply turnOff_wf | apply raise_wf | apply State_setChan_wf | dsimp only | split | intro)

theorem endEarly_wf (cause k : Nat) (s : State) (h_ : memWf s.mem = true) :
    memWf (endEarly cause k s).mem = true := by
  unfold endEarly
  repeat' (with_reducible first | assumption | apply endAt_wf | dsimp only | split | intro)

theorem endAll_wf (cause : Nat) (s : State) (h_ : memWf s.mem = true) :
    memWf (endAll cause s).mem = true := by
  unfold endAll
  repeat' (with_reducible first | assumption | apply forEach_wf | apply endEarly_wf | dsimp only | split | intro)

theorem endBank_wf (cause b : Nat) (s : State) (h_ : memWf s.mem = true) :
    memWf (endBank cause b s).mem = true := by
  unfold endBank
  repeat' (with_reducible first | assumption | apply forEach_wf | apply endEarly_wf | dsimp only | split | intro)

theorem stopTests_wf (p : Nat → Bool) (s : State) (h_ : memWf s.mem = true) :
    memWf (stopTests p s).mem = true := by
  unfold stopTests
  repeat' (with_reducible first | assumption | apply forEach_wf | apply State_setDch_wf | dsimp only | split | intro)

theorem recordDrop_wf (i : Nat) (e : Event) (ch reason detail : Nat) (s : State) (h_ : memWf s.mem = true) :
    memWf (recordDrop i e ch reason detail s).mem = true := by
  unfold recordDrop
  repeat' (with_reducible first | assumption | apply State_memWrite_wf | apply raiseIf_wf | apply raise_wf | apply State_setBank_wf | apply mirror_wf | dsimp only | split | intro)

theorem freeSlot_wf (i : Nat) (s : State) (h_ : memWf s.mem = true) :
    memWf (freeSlot i s).mem = true := by
  unfold freeSlot
  repeat' (with_reducible first | assumption | apply State_setSlot_wf | apply ktPassed_wf | apply ktRelease_wf | dsimp only | split | intro)

theorem dropEvent_wf (reason detail i : Nat) (s : State) (h_ : memWf s.mem = true) :
    memWf (dropEvent reason detail i s).mem = true := by
  unfold dropEvent
  repeat' (with_reducible first | assumption | apply notice_wf | apply freeSlot_wf | apply recordDrop_wf | dsimp only | split | intro)

theorem withdraw_wf (reason i : Nat) (s : State) (h_ : memWf s.mem = true) :
    memWf (withdraw reason i s).mem = true := by
  unfold withdraw
  repeat' (with_reducible first | assumption | apply dropEvent_wf | dsimp only | split | intro)

theorem withdrawAll_wf (reason : Nat) (s : State) (h_ : memWf s.mem = true) :
    memWf (withdrawAll reason s).mem = true := by
  unfold withdrawAll
  repeat' (with_reducible first | assumption | apply forEach_wf | apply dropEvent_wf | dsimp only | split | intro)

theorem dropPending_wf (reason : Nat) (s : State) (h_ : memWf s.mem = true) :
    memWf (dropPending reason s).mem = true := by
  unfold dropPending
  repeat' (with_reducible first | assumption | apply forEach_wf | apply withdraw_wf | apply dropEvent_wf | dsimp only | split | intro)

theorem safeEntry_wf (src : Nat) (byGrace : Bool) (s : State) (h_ : memWf s.mem = true) :
    memWf (safeEntry src byGrace s).mem = true := by
  unfold safeEntry
  repeat' (with_reducible first | assumption | apply forEach_wf | apply dropEvent_wf | apply endAll_wf | apply ktUpdate_wf | apply ebAllOff_wf | apply stopTests_wf | apply raise_wf | apply mirrorState_wf | apply log_wf | dsimp only | split | intro)

theorem faultRecord_wf (n c : Nat) (s : State) (h_ : memWf s.mem = true) :
    memWf (faultRecord n c s).mem = true := by
  unfold faultRecord
  repeat' (with_reducible first | assumption | dsimp only | split | intro)

theorem graceReaction_wf (n : Nat) (s : State) (h_ : memWf s.mem = true) :
    memWf (graceReaction n s).mem = true := by
  unfold graceReaction
  repeat' (with_reducible first | assumption | apply raise_wf | dsimp only | split | intro)

theorem reaction_wf (n c : Nat) (s : State) (h_ : memWf s.mem = true) :
    memWf (reaction n c s).mem = true := by
  unfold reaction
  repeat' (with_reducible first | assumption | apply graceReaction_wf | apply safeEntry_wf | dsimp only | split | intro)

theorem fault_wf (n : Nat) (s : State) (h_ : memWf s.mem = true) :
    memWf (fault n s).mem = true := by
  unfold fault
  repeat' (with_reducible first | assumption | apply raise_wf | apply faultRecord_wf | apply mirror_wf | apply reaction_wf | apply wake_wf | apply log_wf | dsimp only | split | intro)

theorem faultOnset_wf (n : Nat) (s : State) (h_ : memWf s.mem = true) :
    memWf (faultOnset n s).mem = true := by
  unfold faultOnset
  repeat' (with_reducible first | assumption | apply fault_wf | dsimp only | split | intro)

theorem faultEnd_wf (n : Nat) (s : State) (h_ : memWf s.mem = true) :
    memWf (faultEnd n s).mem = true := by
  unfold faultEnd
  repeat' (with_reducible first | assumption | dsimp only | split | intro)

theorem calReport_wf (c : Bool) (item source : Nat) (s : State) (h_ : memWf s.mem = true) :
    memWf (calReport c item source s).mem = true := by
  unfold calReport
  repeat' (with_reducible first | assumption | apply raise_wf | apply log_wf | dsimp only | split | intro)

theorem ktFault_wf (k : Nat) (s : State) (h_ : memWf s.mem = true) :
    memWf (ktFault k s).mem = true := by
  unfold ktFault
  repeat' (with_reducible first | assumption | apply fault_wf | apply ktUpdate_wf | apply State_setKettle_wf | dsimp only | split | intro)

theorem acknowledge_wf (w : Nat) (mask : Word) (s : State) (h_ : memWf s.mem = true) :
    memWf (acknowledge w mask s).mem = true := by
  unfold acknowledge
  repeat' (with_reducible first | assumption | apply raise_wf | dsimp only | split | intro)

theorem graceDue_wf (s : State) (h_ : memWf s.mem = true) :
    memWf (graceDue s).mem = true := by
  unfold graceDue
  repeat' (with_reducible first | assumption | apply safeEntry_wf | dsimp only | split | intro)

theorem setSpeed_wf (v : Nat) (s : State) (h_ : memWf s.mem = true) :
    memWf (setSpeed v s).mem = true := by
  unfold setSpeed
  repeat' (with_reducible first | assumption | apply raiseIf_wf | dsimp only | split | intro)

theorem speedNow_wf (s : State) (h_ : memWf s.mem = true) :
    memWf (speedNow s).mem = true := by
  unfold speedNow
  repeat' (with_reducible first | assumption | apply setSpeed_wf | dsimp only | split | intro)

theorem doSpeedRecompute_wf (s : State) (h_ : memWf s.mem = true) :
    memWf (doSpeedRecompute s).mem = true := by
  unfold doSpeedRecompute
  repeat' (with_reducible first | assumption | apply speedNow_wf | dsimp only | split | intro)

theorem endWaita_wf (code i : Nat) (s : State) (h_ : memWf s.mem = true) :
    memWf (endWaita code i s).mem = true := by
  unfold endWaita
  repeat' (with_reducible first | assumption | apply makeReady_wf | apply State_setCtx_wf | apply setReg_wf | dsimp only | split | intro)

theorem endWaitas_wf (code : Nat) (s : State) (h_ : memWf s.mem = true) :
    memWf (endWaitas code s).mem = true := by
  unfold endWaitas
  repeat' (with_reducible first | assumption | apply forEach_wf | apply endWaita_wf | dsimp only | split | intro)

theorem passContext_wf (swept : Bool) (len lo hi i : Nat) (s : State) (h_ : memWf s.mem = true) :
    memWf (passContext swept len lo hi i s).mem = true := by
  unfold passContext
  repeat' (with_reducible first | assumption | apply endWaita_wf | apply repeatN_wf | apply activate_wf | dsimp only | split | intro)

theorem passRange_wf (swept : Bool) (lo hi : Nat) (s : State) (h_ : memWf s.mem = true) :
    memWf (passRange swept lo hi s).mem = true := by
  unfold passRange
  repeat' (with_reducible first | assumption | apply forEach_wf | apply passContext_wf | dsimp only | split | intro)

theorem passTo_wf (x : Tick) (s : State) (h_ : memWf s.mem = true) :
    memWf (passTo x s).mem = true := by
  unfold passTo
  repeat' (with_reducible first | assumption | apply passRange_wf | dsimp only | split | intro)

theorem watchHere_wf (s : State) (h_ : memWf s.mem = true) :
    memWf (watchHere s).mem = true := by
  unfold watchHere
  repeat' (with_reducible first | assumption | dsimp only | split | intro)

theorem doAnglePassed_wf (angle : Word) (s : State) (h_ : memWf s.mem = true) :
    memWf (doAnglePassed angle s).mem = true := by
  unfold doAnglePassed
  repeat' (with_reducible first | assumption | apply passRange_wf | dsimp only | split | intro)

theorem joinNear_wf (i : Nat) (s : State) (h_ : memWf s.mem = true) :
    memWf (joinNear i s).mem = true := by
  unfold joinNear
  repeat' (with_reducible first | assumption | apply State_setSlot_wf | dsimp only | split | intro)

theorem nearFill_wf (s : State) (h_ : memWf s.mem = true) :
    memWf (nearFill s).mem = true := by
  unfold nearFill
  repeat' (with_reducible first | assumption | apply forEach_wf | apply joinNear_wf | dsimp only | split | intro)

theorem dropPassedWaiting_wf (s : State) (h_ : memWf s.mem = true) :
    memWf (dropPassedWaiting s).mem = true := by
  unfold dropPassedWaiting
  repeat' (with_reducible first | assumption | apply forEach_wf | apply dropEvent_wf | dsimp only | split | intro)

theorem nearOverflow_wf (s : State) (h_ : memWf s.mem = true) :
    memWf (nearOverflow s).mem = true := by
  unfold nearOverflow
  repeat' (with_reducible first | assumption | apply raise_wf | dsimp only | split | intro)

theorem joinPass_wf (i : Nat) (s : State) (h_ : memWf s.mem = true) :
    memWf (joinPass i s).mem = true := by
  unfold joinPass
  repeat' (with_reducible first | assumption | apply State_setSlot_wf | dsimp only | split | intro)

theorem startPass_wf (admitted : List Nat) (s : State) (h_ : memWf s.mem = true) :
    memWf (startPass admitted s).mem = true := by
  unfold startPass
  repeat' (with_reducible first | assumption | dsimp only | split | intro)

theorem predictionChanged_wf (s : State) (h_ : memWf s.mem = true) :
    memWf (predictionChanged s).mem = true := by
  unfold predictionChanged
  repeat' (with_reducible first | assumption | apply nearOverflow_wf | apply dropPassedWaiting_wf | apply startPass_wf | apply forEach_wf | apply joinPass_wf | dsimp only | split | intro)

theorem leavePass_wf (i : Nat) (s : State) (h_ : memWf s.mem = true) :
    memWf (leavePass i s).mem = true := by
  unfold leavePass
  repeat' (with_reducible first | assumption | dsimp only | split | intro)

theorem refuseInsertion_wf (res : Nat) (s : State) (h_ : memWf s.mem = true) :
    memWf (refuseInsertion res s).1.mem = true := by
  unfold refuseInsertion
  repeat' (with_reducible first | assumption | dsimp only | split | intro)

theorem dropAtInsertion_wf (res reason detail i : Nat) (e : Event) (s : State) (h_ : memWf s.mem = true) :
    memWf (dropAtInsertion res reason detail i e s).1.mem = true := by
  unfold dropAtInsertion
  repeat' (with_reducible first | assumption | apply recordDrop_wf | apply State_setSlot_wf | apply notice_wf | dsimp only | split | intro)

theorem placeEvent_wf (i : Nat) (e : Event) (s : State) (h_ : memWf s.mem = true) :
    memWf (placeEvent i e s).1.mem = true := by
  unfold placeEvent
  repeat' (with_reducible first | assumption | apply leavePass_wf | apply dropAtInsertion_wf | apply State_setSlot_wf | dsimp only | split | intro)

theorem insertEvent_wf (owner : Nat) (w0 w1 w2 : Word) (s : State) (h_ : memWf s.mem = true) :
    memWf (insertEvent owner w0 w1 w2 s).1.mem = true := by
  unfold insertEvent
  repeat' (with_reducible first | assumption | apply refuseInsertion_wf | apply raise_wf | apply placeEvent_wf | dsimp only | split | intro)

theorem aimPlace_wf (i : Nat) (e : Event) (wasNear near : Bool) (s : State) (h_ : memWf s.mem = true) :
    memWf (aimPlace i e wasNear near s).mem = true := by
  unfold aimPlace
  repeat' (with_reducible first | assumption | apply State_setSlot_wf | apply nearFill_wf | dsimp only | split | intro)

theorem aimLive_wf (i : Nat) (target w2 : Word) (s : State) (h_ : memWf s.mem = true) :
    memWf (aimLive i target w2 s).1.mem = true := by
  unfold aimLive
  repeat' (with_reducible first | assumption | apply leavePass_wf | apply State_setSlot_wf | apply nearFill_wf | apply dropEvent_wf | apply aimPlace_wf | dsimp only | split | intro)

theorem aimEvent_wf (owner : Nat) (h target w2 : Word) (s : State) (h_ : memWf s.mem = true) :
    memWf (aimEvent owner h target w2 s).1.mem = true := by
  unfold aimEvent
  repeat' (with_reducible first | assumption | apply aimLive_wf | dsimp only | split | intro)

theorem cancelSlot_wf (i : Nat) (s : State) (h_ : memWf s.mem = true) :
    memWf (cancelSlot i s).mem = true := by
  unfold cancelSlot
  repeat' (with_reducible first | assumption | apply freeSlot_wf | dsimp only | split | intro)

theorem cancelEvent_wf (owner : Nat) (h : Word) (s : State) (h_ : memWf s.mem = true) :
    memWf (cancelEvent owner h s).1.mem = true := by
  unfold cancelEvent
  repeat' (with_reducible first | assumption | apply cancelSlot_wf | apply nearFill_wf | dsimp only | split | intro)

theorem haltCancel_wf (q : Nat) (s : State) (h_ : memWf s.mem = true) :
    memWf (haltCancel q s).mem = true := by
  unfold haltCancel
  repeat' (with_reducible first | assumption | apply nearFill_wf | apply forEach_wf | apply cancelSlot_wf | dsimp only | split | intro)

theorem answer_wf (i d b : Nat) (isInsertion : Bool) (r : State × Answer) (h_ : memWf r.1.mem = true) :
    memWf (answer i d b isInsertion r).mem = true := by
  unfold answer
  repeat' (with_reducible first | assumption | apply State_setCtx_wf | apply notice_wf | dsimp only | split | intro)

theorem served_wf (q : Nat) (s : State) (h_ : memWf s.mem = true) :
    memWf (served q s).mem = true := by
  unfold served
  repeat' (with_reducible first | assumption | dsimp only | split | intro)

theorem doEventInsertion_wf (q p : Nat) (s : State) (h_ : memWf s.mem = true) :
    memWf (doEventInsertion q p s).mem = true := by
  unfold doEventInsertion
  repeat' (with_reducible first | assumption | apply answer_wf | apply insertEvent_wf | apply served_wf | dsimp only | split | intro)

theorem doEventAim_wf (q p : Nat) (s : State) (h_ : memWf s.mem = true) :
    memWf (doEventAim q p s).mem = true := by
  unfold doEventAim
  repeat' (with_reducible first | assumption | apply answer_wf | apply aimEvent_wf | apply served_wf | dsimp only | split | intro)

theorem doEventCancel_wf (q p : Nat) (s : State) (h_ : memWf s.mem = true) :
    memWf (doEventCancel q p s).mem = true := by
  unfold doEventCancel
  repeat' (with_reducible first | assumption | apply answer_wf | apply cancelEvent_wf | apply served_wf | dsimp only | split | intro)

theorem abortTests_wf (ch : Nat) (s : State) (h_ : memWf s.mem = true) :
    memWf (abortTests ch s).mem = true := by
  unfold abortTests
  repeat' (with_reducible first | assumption | apply stopTests_wf | dsimp only | split | intro)

theorem arm_wf (i : Nat) (e : Event) (s : State) (h_ : memWf s.mem = true) :
    memWf (arm i e s).mem = true := by
  unfold arm
  repeat' (with_reducible first | assumption | apply State_setKettle_wf | apply State_setSlot_wf | dsimp only | split | intro)

theorem doCommit_wf (i : Nat) (armAt : Tick) (s : State) (h_ : memWf s.mem = true) :
    memWf (doCommit i armAt s).mem = true := by
  unfold doCommit
  repeat' (with_reducible first | assumption | apply abortTests_wf | apply nearFill_wf | apply arm_wf | apply dropEvent_wf | apply State_setSlot_wf | dsimp only | split | intro)

theorem commitInPass_wf (i : Nat) (s : State) (h_ : memWf s.mem = true) :
    memWf (commitInPass i s).mem = true := by
  unfold commitInPass
  repeat' (with_reducible first | assumption | apply doCommit_wf | dsimp only | split | intro)

theorem reaimOne_wf (i : Nat) (s : State) (h_ : memWf s.mem = true) :
    memWf (reaimOne i s).mem = true := by
  unfold reaimOne
  repeat' (with_reducible first | assumption | apply leavePass_wf | apply nearFill_wf | apply dropEvent_wf | apply commitInPass_wf | apply State_setSlot_wf | dsimp only | split | intro)

theorem passStep_wf (i : Nat) (s : State) (h_ : memWf s.mem = true) :
    memWf (passStep i s).mem = true := by
  unfold passStep
  repeat' (with_reducible first | assumption | apply reaimOne_wf | dsimp only | split | intro)

theorem passRun_wf (l : List Nat) (s : State) (h_ : memWf s.mem = true) : memWf (passRun l s).mem = true := by
  induction l generalizing s with
  | nil => exact h_
  | cons i r ih =>
    unfold passRun
    split
    · exact ih _ (passStep_wf _ _ h_)
    · exact h_
theorem passNow_wf (s : State) (h_ : memWf s.mem = true) :
    memWf (passNow s).mem = true := by
  unfold passNow
  exact passRun_wf _ _ h_

theorem quarantine_wf (i : Nat) (s : State) (h_ : memWf s.mem = true) :
    memWf (quarantine i s).mem = true := by
  unfold quarantine
  repeat' (with_reducible first | assumption | apply State_setSlot_wf | apply fault_wf | apply raise_wf | dsimp only | split | intro)

theorem quarantineLate_wf (i : Nat) (s : State) (h_ : memWf s.mem = true) :
    memWf (quarantineLate i s).mem = true := by
  unfold quarantineLate
  repeat' (with_reducible first | assumption | apply State_setSlot_wf | apply fault_wf | apply raise_wf | dsimp only | split | intro)

theorem doEventTableEccError_wf (i : Nat) (part : EccPart) (s : State) (h_ : memWf s.mem = true) :
    memWf (doEventTableEccError i part s).mem = true := by
  unfold doEventTableEccError
  repeat' (with_reducible first | assumption | apply quarantine_wf | apply quarantineLate_wf | apply recordDrop_wf | apply notice_wf | apply freeSlot_wf | apply nearFill_wf | dsimp only | split | intro)

theorem caddyJob_wf (j : CaddyJob) (s : State) (h_ : memWf s.mem = true) :
    memWf (caddyJob j s).mem = true := by
  unfold caddyJob
  repeat' (with_reducible first | assumption | dsimp only | split | intro)

theorem spoilRecords_wf (reason : Nat) (s : State) (h_ : memWf s.mem = true) :
    memWf (spoilRecords reason s).mem = true := by
  unfold spoilRecords
  repeat' (with_reducible first | assumption | apply raise_wf | dsimp only | split | intro)

theorem qsInvalidate_wf (reason : Nat) (s : State) (h_ : memWf s.mem = true) :
    memWf (qsInvalidate reason s).mem = true := by
  unfold qsInvalidate
  repeat' (with_reducible first | assumption | apply raise_wf | apply caddyJob_wf | dsimp only | split | intro)

theorem dropHeld_wf (reason : Nat) (s : State) (h_ : memWf s.mem = true) :
    memWf (dropHeld reason s).mem = true := by
  unfold dropHeld
  repeat' (with_reducible first | assumption | apply qsInvalidate_wf | dsimp only | split | intro)

theorem clearMap_wf (s : State) (h_ : memWf s.mem = true) :
    memWf (clearMap s).mem = true := by
  unfold clearMap
  repeat' (with_reducible first | assumption | apply raise_wf | dsimp only | split | intro)

theorem offInputs_wf (s : State) (h_ : memWf s.mem = true) :
    memWf (offInputs s).mem = true := by
  unfold offInputs
  repeat' (with_reducible first | assumption | apply forEach_wf | apply State_setWheel_wf | dsimp only | split | intro)

theorem wheelApplied_wf (old : Block) (s : State) (h_ : memWf s.mem = true) :
    memWf (wheelApplied old s).mem = true := by
  unfold wheelApplied
  repeat' (with_reducible first | assumption | apply offInputs_wf | apply qsInvalidate_wf | apply spoilRecords_wf | apply clearMap_wf | dsimp only | split | intro)

theorem bankMode_wf (b : Nat) (s : State) (h_ : memWf s.mem = true) :
    memWf (bankMode b s).mem = true := by
  unfold bankMode
  repeat' (with_reducible first | assumption | apply State_setBank_wf | apply raise_wf | dsimp only | split | intro)

theorem kettleTarget_wf (k : Nat) (s : State) (h_ : memWf s.mem = true) :
    memWf (kettleTarget k s).mem = true := by
  unfold kettleTarget
  repeat' (with_reducible first | assumption | apply State_setKettle_wf | apply ktTargetNow_wf | dsimp only | split | intro)

theorem driveApplied_wf (s : State) (h_ : memWf s.mem = true) :
    memWf (driveApplied s).mem = true := by
  unfold driveApplied
  repeat' (with_reducible first | assumption | apply forEach_wf | apply bankMode_wf | apply ktLimits_wf | apply kettleTarget_wf | dsimp only | split | intro)

theorem mirrorApplied_wf (old : Nat) (s : State) (h_ : memWf s.mem = true) :
    memWf (mirrorApplied old s).mem = true := by
  unfold mirrorApplied
  repeat' (with_reducible first | assumption | apply raiseIf_wf | dsimp only | split | intro)

theorem vbakCheck_wf (s : State) (h_ : memWf s.mem = true) :
    memWf (vbakCheck s).mem = true := by
  unfold vbakCheck
  repeat' (with_reducible first | assumption | apply faultOnset_wf | apply faultEnd_wf | dsimp only | split | intro)

theorem groupEffect_wf (old : Block) (g : Nat) (s : State) (h_ : memWf s.mem = true) :
    memWf (groupEffect old g s).mem = true := by
  unfold groupEffect
  repeat' (with_reducible first | assumption | apply vbakCheck_wf | apply ktLimits_wf | apply wheelApplied_wf | apply driveApplied_wf | apply tripsApplied_wf | apply mirrorApplied_wf | dsimp only | split | intro)

theorem groupReport_wf (g : Nat) (s : State) (h_ : memWf s.mem = true) :
    memWf (groupReport g s).mem = true := by
  unfold groupReport
  repeat' (with_reducible first | assumption | apply log_wf | apply raise_wf | dsimp only | split | intro)

theorem applyGroups_wf (m : Nat) (s : State) (h_ : memWf s.mem = true) :
    memWf (applyGroups m s).mem = true := by
  unfold applyGroups
  repeat' (with_reducible first | assumption | apply forEach_wf | apply groupEffect_wf | apply groupReport_wf | apply foldl_wf | apply foldl1_wf | dsimp only | split | intro)

theorem applyPending_wf (m : Nat) (s : State) (h_ : memWf s.mem = true) :
    memWf (applyPending m s).mem = true := by
  unfold applyPending
  repeat' (with_reducible first | assumption | apply applyGroups_wf | dsimp only | split | intro)

theorem envelopeBoundary_wf (s : State) (h_ : memWf s.mem = true) :
    memWf (envelopeBoundary s).mem = true := by
  unfold envelopeBoundary
  repeat' (with_reducible first | assumption | apply raise_wf | dsimp only | split | intro)

theorem logCycle_wf (r : CycleRec) (s : State) (h_ : memWf s.mem = true) :
    memWf (logCycle r s).mem = true := by
  unfold logCycle
  repeat' (with_reducible first | assumption | apply logAppend_wf | dsimp only | split | intro)

theorem camError_wf (s : State) (h_ : memWf s.mem = true) :
    memWf (camError s).mem = true := by
  unfold camError
  repeat' (with_reducible first | assumption | apply raise_wf | dsimp only | split | intro)

theorem camLearned_wf (s : State) (h_ : memWf s.mem = true) :
    memWf (camLearned s).mem = true := by
  unfold camLearned
  repeat' (with_reducible first | assumption | dsimp only | split | intro)

theorem camCycleCheck_wf (s : State) (h_ : memWf s.mem = true) :
    memWf (camCycleCheck s).mem = true := by
  unfold camCycleCheck
  repeat' (with_reducible first | assumption | apply repeatN_wf | apply camError_wf | apply raiseIf_wf | apply foldl_wf | apply foldl1_wf | dsimp only | split | intro)

theorem camCycle_wf (s : State) (h_ : memWf s.mem = true) :
    memWf (camCycle s).mem = true := by
  unfold camCycle
  repeat' (with_reducible first | assumption | apply camLearned_wf | apply camCycleCheck_wf | dsimp only | split | intro)

theorem purge_wf (tag : Nat) (s : State) (h_ : memWf s.mem = true) :
    memWf (purge tag s).mem = true := by
  unfold purge
  repeat' (with_reducible first | assumption | apply forEach_wf | apply dropEvent_wf | apply withdraw_wf | apply raiseIf_wf | dsimp only | split | intro)

theorem cycleBoundary_wf (x : Tick) (s : State) (h_ : memWf s.mem = true) :
    memWf (cycleBoundary x s).mem = true := by
  unfold cycleBoundary
  repeat' (with_reducible first | assumption | apply camCycle_wf | apply purge_wf | apply logCycle_wf | apply envelopeBoundary_wf | apply applyPending_wf | dsimp only | split | intro)

theorem stepsDone_wf (s : State) (h_ : memWf s.mem = true) :
    memWf (stepsDone s).mem = true := by
  unfold stepsDone
  repeat' (with_reducible first | assumption | apply latchAll_wf | apply mirrorState_wf | apply raise_wf | dsimp only | split | intro)

theorem crossForward_wf (x : Tick) (s : State) (h_ : memWf s.mem = true) :
    memWf (crossForward x s).mem = true := by
  unfold crossForward
  repeat' (with_reducible first | assumption | apply cycleBoundary_wf | dsimp only | split | intro)

theorem learnEntry_wf (eps : Int) (gain : Nat) (i : Nat) (s : State) (h_ : memWf s.mem = true) :
    memWf (learnEntry eps gain i s).mem = true := by
  unfold learnEntry
  repeat' (with_reducible first | assumption | dsimp only | split | intro)

theorem learnStep_wf (pRaw j n rc : Nat) (s : State) (h_ : memWf s.mem = true) :
    memWf (learnStep pRaw j n rc s).mem = true := by
  unfold learnStep
  repeat' (with_reducible first | assumption | apply raise_wf | apply forEach_wf | apply learnEntry_wf | dsimp only | split | intro)

theorem lensLearn_wf (t : Tick) (j n pRaw : Nat) (s : State) (h_ : memWf s.mem = true) :
    memWf (lensLearn t j n pRaw s).mem = true := by
  unfold lensLearn
  repeat' (with_reducible first | assumption | apply learnStep_wf | dsimp only | split | intro)

theorem notLearned_wf (s : State) (h_ : memWf s.mem = true) :
    memWf (notLearned s).mem = true := by
  unfold notLearned
  repeat' (with_reducible first | assumption | dsimp only | split | intro)

theorem sweepEvents_wf (lo hi : Nat) (s : State) (h_ : memWf s.mem = true) :
    memWf (sweepEvents lo hi s).mem = true := by
  unfold sweepEvents
  repeat' (with_reducible first | assumption | apply forEach_wf | apply dropEvent_wf | apply withdraw_wf | apply raiseIf_wf | dsimp only | split | intro)

theorem sweep_wf (lo hi : Nat) (s : State) (h_ : memWf s.mem = true) :
    memWf (sweep lo hi s).mem = true := by
  unfold sweep
  repeat' (with_reducible first | assumption | apply passRange_wf | apply sweepEvents_wf | dsimp only | split | intro)

theorem lensMove_wf (old : Nat) (t : Tick) (s : State) (h_ : memWf s.mem = true) :
    memWf (lensMove old t s).mem = true := by
  unfold lensMove
  repeat' (with_reducible first | assumption | apply watchHere_wf | apply sweep_wf | apply passRange_wf | apply crossForward_wf | dsimp only | split | intro)

theorem newPrediction_wf (s : State) (h_ : memWf s.mem = true) :
    memWf (newPrediction s).mem = true := by
  unfold newPrediction
  repeat' (with_reducible first | assumption | dsimp only | split | intro)

theorem lensUpdate_wf (t : Tick) (j n : Nat) (err : Bool) (s : State) (h_ : memWf s.mem = true) :
    memWf (lensUpdate t j n err s).mem = true := by
  unfold lensUpdate
  repeat' (with_reducible first | assumption | apply passTo_wf | apply speedNow_wf | apply newPrediction_wf | apply lensLearn_wf | apply notLearned_wf | apply lensMove_wf | apply predictionChanged_wf | dsimp only | split | intro)

theorem lensUndo_wf (t : Tick) (s : State) (h_ : memWf s.mem = true) :
    memWf (lensUndo t s).mem = true := by
  unfold lensUndo
  repeat' (with_reducible first | assumption | apply predictionChanged_wf | apply speedNow_wf | dsimp only | split | intro)

theorem lensFirst_wf (t : Tick) (s : State) (h_ : memWf s.mem = true) :
    memWf (lensFirst t s).mem = true := by
  unfold lensFirst
  repeat' (with_reducible first | assumption | dsimp only | split | intro)

theorem lensEnter_wf (j : Nat) (s : State) (h_ : memWf s.mem = true) :
    memWf (lensEnter j s).mem = true := by
  unfold lensEnter
  repeat' (with_reducible first | assumption | apply predictionChanged_wf | apply speedNow_wf | apply watchHere_wf | apply newPrediction_wf | dsimp only | split | intro)

theorem lensRenumber_wf (s : State) (h_ : memWf s.mem = true) :
    memWf (lensRenumber s).mem = true := by
  unfold lensRenumber
  repeat' (with_reducible first | assumption | apply predictionChanged_wf | apply watchHere_wf | apply newPrediction_wf | dsimp only | split | intro)

theorem lensClear_wf (s : State) (h_ : memWf s.mem = true) :
    memWf (lensClear s).mem = true := by
  unfold lensClear
  repeat' (with_reducible first | assumption | apply setSpeed_wf | apply notLearned_wf | dsimp only | split | intro)

theorem doVirtualBoundary_wf (s : State) (h_ : memWf s.mem = true) :
    memWf (doVirtualBoundary s).mem = true := by
  unfold doVirtualBoundary
  repeat' (with_reducible first | assumption | apply passTo_wf | apply passRange_wf | apply dropPassedWaiting_wf | apply cycleBoundary_wf | apply startPass_wf | apply nearFill_wf | apply crossForward_wf | dsimp only | split | intro)

theorem doCountHold_wf (s : State) (h_ : memWf s.mem = true) :
    memWf (doCountHold s).mem = true := by
  unfold doCountHold
  repeat' (with_reducible first | assumption | apply passTo_wf | dsimp only | split | intro)

theorem doToothOverdue_wf (s : State) (h_ : memWf s.mem = true) :
    memWf (doToothOverdue s).mem = true := by
  unfold doToothOverdue
  repeat' (with_reducible first | assumption | apply passTo_wf | apply raise_wf | apply forEach_wf | apply withdraw_wf | apply speedNow_wf | dsimp only | split | intro)

theorem lensReverse_wf (s : State) (h_ : memWf s.mem = true) :
    memWf (lensReverse s).mem = true := by
  unfold lensReverse
  repeat' (with_reducible first | assumption | apply raise_wf | dsimp only | split | intro)

theorem lensShow_wf (j : Nat) (back : Bool) (x : Tick) (s : State) (h_ : memWf s.mem = true) :
    memWf (lensShow j back x s).mem = true := by
  unfold lensShow
  repeat' (with_reducible first | assumption | apply notLearned_wf | apply crossForward_wf | dsimp only | split | intro)

theorem lensResume_wf (t : Tick) (j : Nat) (period : Nat) (s : State) (h_ : memWf s.mem = true) :
    memWf (lensResume t j period s).mem = true := by
  unfold lensResume
  repeat' (with_reducible first | assumption | apply speedNow_wf | apply newPrediction_wf | apply raise_wf | apply sweep_wf | apply predictionChanged_wf | apply crossForward_wf | dsimp only | split | intro)

theorem onCrank_wf (f : CrankDec → CrankDec) (s : State) (h_ : memWf s.mem = true) :
    memWf (onCrank f s).mem = true := by
  unfold onCrank
  repeat' (with_reducible first | assumption | dsimp only | split | intro)

theorem changeSync_wf (st : Sync) (cause : Nat) (s : State) (h_ : memWf s.mem = true) :
    memWf (changeSync st cause s).mem = true := by
  unfold changeSync
  repeat' (with_reducible first | assumption | apply mirrorState_wf | apply raise_wf | apply log_wf | apply endWaitas_wf | apply latchAll_wf | dsimp only | split | intro)

theorem stopFiring_wf (reason : Nat) (s : State) (h_ : memWf s.mem = true) :
    memWf (stopFiring reason s).mem = true := by
  unfold stopFiring
  repeat' (with_reducible first | assumption | apply endAll_wf | apply dropPending_wf | dsimp only | split | intro)

theorem enterPosition_wf (st : Sync) (cause : Nat) (s : State) (h_ : memWf s.mem = true) :
    memWf (enterPosition st cause s).mem = true := by
  unfold enterPosition
  repeat' (with_reducible first | assumption | apply changeSync_wf | apply lensEnter_wf | dsimp only | split | intro)

theorem enterNosync_wf (cause : Nat) (s : State) (h_ : memWf s.mem = true) :
    memWf (enterNosync cause s).mem = true := by
  unfold enterNosync
  repeat' (with_reducible first | assumption | apply lensClear_wf | apply changeSync_wf | apply applyPending_wf | apply envelopeBoundary_wf | dsimp only | split | intro)

theorem enterLost_wf (cause : Nat) (s : State) (h_ : memWf s.mem = true) :
    memWf (enterLost cause s).mem = true := by
  unfold enterLost
  repeat' (with_reducible first | assumption | apply passTo_wf | apply stopFiring_wf | apply changeSync_wf | apply qsInvalidate_wf | apply raiseIf_wf | apply stepBack_wf | dsimp only | split | intro)

theorem retract_wf (s : State) (h_ : memWf s.mem = true) :
    memWf (retract s).mem = true := by
  unfold retract
  repeat' (with_reducible first | assumption | apply enterLost_wf | apply raise_wf | dsimp only | split | intro)

theorem doLossReported_wf (s : State) (h_ : memWf s.mem = true) :
    memWf (doLossReported s).mem = true := by
  unfold doLossReported
  repeat' (with_reducible first | assumption | apply enterNosync_wf | dsimp only | split | intro)

theorem toothError_wf (s : State) (h_ : memWf s.mem = true) :
    memWf (toothError s).mem = true := by
  unfold toothError
  repeat' (with_reducible first | assumption | apply dropHeld_wf | apply onCrank_wf | apply raise_wf | apply retract_wf | apply enterLost_wf | dsimp only | split | intro)

theorem frameCorrect_wf (s : State) (h_ : memWf s.mem = true) :
    memWf (frameCorrect s).mem = true := by
  unfold frameCorrect
  repeat' (with_reducible first | assumption | apply passTo_wf | apply onCrank_wf | apply raise_wf | apply forEach_wf | apply dropEvent_wf | apply lensRenumber_wf | apply endWaitas_wf | dsimp only | split | intro)

theorem usePhase_wf (t : Tick) (s : State) (h_ : memWf s.mem = true) :
    memWf (usePhase t s).1.mem = true := by
  unfold usePhase
  repeat' (with_reducible first | assumption | apply camError_wf | dsimp only | split | intro)

theorem confirmedReference_wf (c : GapCand) (s : State) (h_ : memWf s.mem = true) :
    memWf (confirmedReference c s).mem = true := by
  unfold confirmedReference
  repeat' (with_reducible first | assumption | apply usePhase_wf | apply changeSync_wf | apply retract_wf | apply frameCorrect_wf | dsimp only | split | intro)

theorem enterFromTooth_wf (extra : Bool) (c : GapCand) (s : State) (h_ : memWf s.mem = true) :
    memWf (enterFromTooth extra c s).mem = true := by
  unfold enterFromTooth
  repeat' (with_reducible first | assumption | apply usePhase_wf | apply onCrank_wf | apply enterPosition_wf | dsimp only | split | intro)

theorem anchorWithoutGap_wf (t : Tick) (s : State) (h_ : memWf s.mem = true) :
    memWf (anchorWithoutGap t s).mem = true := by
  unfold anchorWithoutGap
  repeat' (with_reducible first | assumption | apply usePhase_wf | apply enterPosition_wf | apply onCrank_wf | apply changeSync_wf | apply retract_wf | dsimp only | split | intro)

theorem quickLimit_wf (s : State) (h_ : memWf s.mem = true) :
    memWf (quickLimit s).mem = true := by
  unfold quickLimit
  repeat' (with_reducible first | assumption | apply changeSync_wf | apply enterLost_wf | dsimp only | split | intro)

theorem writeRecord_wf (s : State) (h_ : memWf s.mem = true) :
    memWf (writeRecord s).mem = true := by
  unfold writeRecord
  repeat' (with_reducible first | assumption | apply caddyJob_wf | dsimp only | split | intro)

theorem stallNow_wf (s : State) (h_ : memWf s.mem = true) :
    memWf (stallNow s).mem = true := by
  unfold stallNow
  repeat' (with_reducible first | assumption | apply passTo_wf | apply raise_wf | apply stopFiring_wf | apply caddyJob_wf | apply onCrank_wf | apply writeRecord_wf | apply enterNosync_wf | dsimp only | split | intro)

theorem doStall_wf (s : State) (h_ : memWf s.mem = true) :
    memWf (doStall s).mem = true := by
  unfold doStall
  repeat' (with_reducible first | assumption | apply writeRecord_wf | apply stallNow_wf | dsimp only | split | intro)

theorem setClass_wf (n : Nat) (c : EdgeClass) (s : State) (h_ : memWf s.mem = true) :
    memWf (setClass n c s).mem = true := by
  unfold setClass
  repeat' (with_reducible first | assumption | apply State_setWheel_wf | dsimp only | split | intro)

theorem judgeCandidate_wf (T : Nat) (s : State) (h_ : memWf s.mem = true) :
    memWf (judgeCandidate T s).1.mem = true := by
  unfold judgeCandidate
  repeat' (with_reducible first | assumption | apply onCrank_wf | apply toothError_wf | apply confirmedReference_wf | apply retract_wf | apply enterLost_wf | dsimp only | split | intro)

theorem boundaryUpdate_wf (t : Tick) (j span : Nat) (err : Bool) (confirmed : Option GapCand) (s : State) (h_ : memWf s.mem = true) :
    memWf (boundaryUpdate t j span err confirmed s).mem = true := by
  unfold boundaryUpdate
  repeat' (with_reducible first | assumption | apply lensUpdate_wf | apply enterFromTooth_wf | apply quickLimit_wf | apply anchorWithoutGap_wf | apply endWaitas_wf | apply passTo_wf | dsimp only | split | intro)

theorem forwardBoundary_wf (t : Tick) (cls : Option PeriodClass) (bad : Bool) (confirmed : Option GapCand) (s : State) (h_ : memWf s.mem = true) :
    memWf (forwardBoundary t cls bad confirmed s).mem = true := by
  unfold forwardBoundary
  repeat' (with_reducible first | assumption | apply onCrank_wf | apply boundaryUpdate_wf | apply changeSync_wf | dsimp only | split | intro)

theorem forwardPeriod_wf (inp : Nat) (t : Tick) (s : State) (h_ : memWf s.mem = true) :
    memWf (forwardPeriod inp t s).mem = true := by
  unfold forwardPeriod
  repeat' (with_reducible first | assumption | apply judgeCandidate_wf | apply setClass_wf | apply toothError_wf | apply enterFromTooth_wf | apply forwardBoundary_wf | dsimp only | split | intro)

theorem reverseEdge_wf (t : Tick) (s : State) (h_ : memWf s.mem = true) :
    memWf (reverseEdge t s).mem = true := by
  unfold reverseEdge
  repeat' (with_reducible first | assumption | apply notLearned_wf | apply onCrank_wf | apply changeSync_wf | dsimp only | split | intro)

theorem forwardPassage_wf (inp : Nat) (t : Tick) (s : State) (h_ : memWf s.mem = true) :
    memWf (forwardPassage inp t s).mem = true := by
  unfold forwardPassage
  repeat' (with_reducible first | assumption | apply onCrank_wf | apply lensShow_wf | apply reverseEdge_wf | apply lensFirst_wf | apply forwardPeriod_wf | dsimp only | split | intro)

theorem stepBack_wf (s : State) (h_ : memWf s.mem = true) :
    memWf (stepBack s).mem = true := by
  unfold stepBack
  repeat' (with_reducible first | assumption | apply onCrank_wf | dsimp only | split | intro)

theorem reverseTiming_wf (t : Tick) (s : State) (h_ : memWf s.mem = true) :
    memWf (reverseTiming t s).mem = true := by
  unfold reverseTiming
  repeat' (with_reducible first | assumption | apply lensFirst_wf | apply onCrank_wf | apply changeSync_wf | apply lensUpdate_wf | dsimp only | split | intro)

theorem backPassage_wf (t : Tick) (s : State) (h_ : memWf s.mem = true) :
    memWf (backPassage t s).mem = true := by
  unfold backPassage
  repeat' (with_reducible first | assumption | apply stepBack_wf | apply lensShow_wf | apply reverseEdge_wf | apply reverseTiming_wf | dsimp only | split | intro)

theorem edgeFrame_wf (t : Tick) (s : State) (h_ : memWf s.mem = true) :
    memWf (edgeFrame t s).mem = true := by
  unfold edgeFrame
  repeat' (with_reducible first | assumption | apply mirrorAt_wf | dsimp only | split | intro)

theorem edgeAccepted_wf (t : Tick) (s : State) (h_ : memWf s.mem = true) :
    memWf (edgeAccepted t s).mem = true := by
  unfold edgeAccepted
  repeat' (with_reducible first | assumption | apply wake_wf | apply qsInvalidate_wf | dsimp only | split | intro)

theorem sourceEdge_wf (inp : Nat) (t : Tick) (s : State) (h_ : memWf s.mem = true) :
    memWf (sourceEdge inp t s).mem = true := by
  unfold sourceEdge
  repeat' (with_reducible first | assumption | apply edgeAccepted_wf | apply edgeFrame_wf | apply onCrank_wf | apply stepBack_wf | apply backPassage_wf | apply forwardPassage_wf | dsimp only | split | intro)

theorem redoStep_wf (inp : Nat) (back : Bool) (s : State) (h_ : memWf s.mem = true) :
    memWf (redoStep inp back s).mem = true := by
  unfold redoStep
  repeat' (with_reducible first | assumption | apply onCrank_wf | apply stepBack_wf | apply lensShow_wf | apply forwardPassage_wf | dsimp only | split | intro)

theorem declareReverse_wf (s : State) (h_ : memWf s.mem = true) :
    memWf (declareReverse s).mem = true := by
  unfold declareReverse
  repeat' (with_reducible first | assumption | apply stopFiring_wf | apply passTo_wf | apply onCrank_wf | apply applyPending_wf | apply changeSync_wf | apply lensReverse_wf | apply lensShow_wf | apply endWaitas_wf | dsimp only | split | intro)

theorem declareForward_wf (s : State) (h_ : memWf s.mem = true) :
    memWf (declareForward s).mem = true := by
  unfold declareForward
  repeat' (with_reducible first | assumption | apply lensResume_wf | apply onCrank_wf | dsimp only | split | intro)

theorem dirChanged_wf (old : Dir) (s : State) (h_ : memWf s.mem = true) :
    memWf (dirChanged old s).mem = true := by
  unfold dirChanged
  repeat' (with_reducible first | assumption | apply raise_wf | apply declareReverse_wf | apply dropHeld_wf | apply declareForward_wf | dsimp only | split | intro)

theorem quickCheck_wf (cls : Pulse) (s : State) (h_ : memWf s.mem = true) :
    memWf (quickCheck cls s).mem = true := by
  unfold quickCheck
  repeat' (with_reducible first | assumption | apply onCrank_wf | apply enterPosition_wf | dsimp only | split | intro)

theorem sourcePulse_wf (inp : Nat) (cls : Pulse) (s : State) (h_ : memWf s.mem = true) :
    memWf (sourcePulse inp cls s).mem = true := by
  unfold sourcePulse
  repeat' (with_reducible first | assumption | apply stepBack_wf | apply redoStep_wf | apply lensUndo_wf | apply toothError_wf | apply onCrank_wf | apply quickCheck_wf | apply dirChanged_wf | dsimp only | split | intro)

theorem State_setCam_wf (s : State) (c : Nat) (x : Cam) (h_ : memWf s.mem = true) :
    memWf (Sys2Proof.Machine.State.setCam s c x).mem = true := by
  unfold State.setCam
  repeat' (with_reducible first | assumption | dsimp only | split | intro)

theorem phaseElsewhere_wf (c x a : Nat) (s : State) (h_ : memWf s.mem = true) :
    memWf (phaseElsewhere c x a s).mem = true := by
  unfold phaseElsewhere
  repeat' (with_reducible first | assumption | apply camError_wf | apply State_setCam_wf | apply enterLost_wf | dsimp only | split | intro)

theorem camInFull_wf (c x : Nat) (phase : Bool) (s : State) (h_ : memWf s.mem = true) :
    memWf (camInFull c x phase s).mem = true := by
  unfold camInFull
  repeat' (with_reducible first | assumption | apply State_setCam_wf | apply camError_wf | apply phaseElsewhere_wf | dsimp only | split | intro)

theorem phaseMet_wf (t : Tick) (x : Option Nat) (s : State) (h_ : memWf s.mem = true) :
    memWf (phaseMet t x s).mem = true := by
  unfold phaseMet
  repeat' (with_reducible first | assumption | apply camError_wf | dsimp only | split | intro)

theorem camEdge_wf (inp c : Nat) (t : Tick) (s : State) (h_ : memWf s.mem = true) :
    memWf (camEdge inp c t s).mem = true := by
  unfold camEdge
  repeat' (with_reducible first | assumption | apply setClass_wf | apply State_setCam_wf | apply camInFull_wf | apply phaseMet_wf | dsimp only | split | intro)

theorem onSecond_wf (f : CrankDec → CrankDec) (s : State) (h_ : memWf s.mem = true) :
    memWf (onSecond f s).mem = true := by
  unfold onSecond
  repeat' (with_reducible first | assumption | dsimp only | split | intro)

theorem secondLost_wf (s : State) (h_ : memWf s.mem = true) :
    memWf (secondLost s).mem = true := by
  unfold secondLost
  repeat' (with_reducible first | assumption | apply onSecond_wf | dsimp only | split | intro)

theorem secondCheck_wf (pos : Nat) (s : State) (h_ : memWf s.mem = true) :
    memWf (secondCheck pos s).mem = true := by
  unfold secondCheck
  repeat' (with_reducible first | assumption | apply raiseIf_wf | dsimp only | split | intro)

theorem secondReference_wf (c : GapCand) (s : State) (h_ : memWf s.mem = true) :
    memWf (secondReference c s).mem = true := by
  unfold secondReference
  repeat' (with_reducible first | assumption | apply onSecond_wf | apply secondCheck_wf | dsimp only | split | intro)

theorem secondPeriod_wf (inp : Nat) (t : Tick) (s : State) (h_ : memWf s.mem = true) :
    memWf (secondPeriod inp t s).mem = true := by
  unfold secondPeriod
  repeat' (with_reducible first | assumption | apply setClass_wf | apply secondLost_wf | apply secondReference_wf | apply onSecond_wf | dsimp only | split | intro)

theorem secondEdge_wf (inp : Nat) (t : Tick) (s : State) (h_ : memWf s.mem = true) :
    memWf (secondEdge inp t s).mem = true := by
  unfold secondEdge
  repeat' (with_reducible first | assumption | apply onSecond_wf | apply stepBack_wf | apply secondPeriod_wf | dsimp only | split | intro)

theorem secondPulse_wf (cls : Pulse) (s : State) (h_ : memWf s.mem = true) :
    memWf (secondPulse cls s).mem = true := by
  unfold secondPulse
  repeat' (with_reducible first | assumption | apply onSecond_wf | apply stepBack_wf | dsimp only | split | intro)

theorem doSecondaryPromotion_wf (s : State) (h_ : memWf s.mem = true) :
    memWf (doSecondaryPromotion s).mem = true := by
  unfold doSecondaryPromotion
  repeat' (with_reducible first | assumption | apply passTo_wf | apply raise_wf | apply stepBack_wf | dsimp only | split | intro)

theorem strain_wf (n : Nat) (rising : Bool) (peakMv : Nat) (s : State) (h_ : memWf s.mem = true) :
    memWf (strain n rising peakMv s).mem = true := by
  unfold strain
  repeat' (with_reducible first | assumption | apply State_setWheel_wf | dsimp only | split | intro)

theorem doWheelCrossing_wf (n : Nat) (rising : Bool) (peakMv : Nat) (s : State) (h_ : memWf s.mem = true) :
    memWf (doWheelCrossing n rising peakMv s).mem = true := by
  unfold doWheelCrossing
  repeat' (with_reducible first | assumption | apply strain_wf | apply wake_wf | apply qsInvalidate_wf | dsimp only | split | intro)

theorem classifyPulse_wf (n : Nat) (cls : Pulse) (s : State) (h_ : memWf s.mem = true) :
    memWf (classifyPulse n cls s).mem = true := by
  unfold classifyPulse
  repeat' (with_reducible first | assumption | apply State_setWheel_wf | apply sourcePulse_wf | apply secondPulse_wf | dsimp only | split | intro)

theorem timingAccepted_wf (n : Nat) (c : Crossing) (s : State) (h_ : memWf s.mem = true) :
    memWf (timingAccepted n c s).mem = true := by
  unfold timingAccepted
  repeat' (with_reducible first | assumption | apply State_setWheel_wf | apply sourceEdge_wf | apply secondEdge_wf | apply camEdge_wf | apply raise_wf | apply setClass_wf | dsimp only | split | intro)

theorem trailingAccepted_wf (n : Nat) (c : Crossing) (s : State) (h_ : memWf s.mem = true) :
    memWf (trailingAccepted n c s).mem = true := by
  unfold trailingAccepted
  repeat' (with_reducible first | assumption | apply State_setWheel_wf | apply classifyPulse_wf | dsimp only | split | intro)

theorem doStrainerAccept_wf (n : Nat) (s : State) (h_ : memWf s.mem = true) :
    memWf (doStrainerAccept n s).mem = true := by
  unfold doStrainerAccept
  repeat' (with_reducible first | assumption | apply State_setWheel_wf | apply timingAccepted_wf | apply trailingAccepted_wf | dsimp only | split | intro)

theorem doPulseLongTimeout_wf (n : Nat) (s : State) (h_ : memWf s.mem = true) :
    memWf (doPulseLongTimeout n s).mem = true := by
  unfold doPulseLongTimeout
  repeat' (with_reducible first | assumption | apply classifyPulse_wf | dsimp only | split | intro)

theorem markDetection_wf (b n : Nat) (s : State) (h_ : memWf s.mem = true) :
    memWf (markDetection b n s).mem = true := by
  unfold markDetection
  repeat' (with_reducible first | assumption | apply State_memPatch_wf | apply State_setDgt_wf | dsimp only | split | intro)

theorem storeSample_wf (b n : Nat) (v : Int) (s : State) (h_ : memWf s.mem = true) :
    memWf (storeSample b n v s).mem = true := by
  unfold storeSample
  repeat' (with_reducible first | assumption | apply State_memPatch_wf | apply State_setDgt_wf | dsimp only | split | intro)

theorem doDigitiserSample_wf (b : Nat) (code : BitVec 12) (s : State) (h_ : memWf s.mem = true) :
    memWf (doDigitiserSample b code s).mem = true := by
  unfold doDigitiserSample
  repeat' (with_reducible first | assumption | apply storeSample_wf | apply State_setDgt_wf | apply markDetection_wf | dsimp only | split | intro)

theorem writeClosing_wf (b : Nat) (c : Capture) (d : Detection) (s : State) (h_ : memWf s.mem = true) :
    memWf (writeClosing b c d s).mem = true := by
  unfold writeClosing
  repeat' (with_reducible first | assumption | apply State_memWrite_wf | apply State_setDgt_wf | apply State_setDch_wf | apply notice_wf | apply raise_wf | apply mirrorAt_wf | dsimp only | split | intro)

theorem pendingRecord_wf (b : Nat) (s : State) (h_ : memWf s.mem = true) :
    memWf (pendingRecord b s).mem = true := by
  unfold pendingRecord
  repeat' (with_reducible first | assumption | apply writeClosing_wf | dsimp only | split | intro)

theorem doClosingRecordWritten_wf (b : Nat) (s : State) (h_ : memWf s.mem = true) :
    memWf (doClosingRecordWritten b s).mem = true := by
  unfold doClosingRecordWritten
  repeat' (with_reducible first | assumption | apply pendingRecord_wf | dsimp only | split | intro)

theorem endCapture_wf (b : Nat) (x : Tick) (s : State) (h_ : memWf s.mem = true) :
    memWf (endCapture b x s).mem = true := by
  unfold endCapture
  repeat' (with_reducible first | assumption | apply pendingRecord_wf | apply State_setDch_wf | apply State_setDgt_wf | dsimp only | split | intro)

theorem doCaptureEnd_wf (b : Nat) (s : State) (h_ : memWf s.mem = true) :
    memWf (doCaptureEnd b s).mem = true := by
  unfold doCaptureEnd
  repeat' (with_reducible first | assumption | apply endCapture_wf | dsimp only | split | intro)

theorem startEndsCapture_wf (k : Nat) (x : Tick) (s : State) (h_ : memWf s.mem = true) :
    memWf (startEndsCapture k x s).mem = true := by
  unfold startEndsCapture
  repeat' (with_reducible first | assumption | apply endCapture_wf | dsimp only | split | intro)

theorem startTest_wf (k : Nat) (s : State) (h_ : memWf s.mem = true) :
    memWf (startTest k s).mem = true := by
  unfold startTest
  repeat' (with_reducible first | assumption | apply State_setDch_wf | dsimp only | split | intro)

theorem doOffTestStart_wf (s : State) (h_ : memWf s.mem = true) :
    memWf (doOffTestStart s).mem = true := by
  unfold doOffTestStart
  repeat' (with_reducible first | assumption | apply forEach_wf | apply startTest_wf | dsimp only | split | intro)

theorem offDone_wf (k code : Nat) (last : Nat × Nat) (s : State) (h_ : memWf s.mem = true) :
    memWf (offDone k code last s).mem = true := by
  unfold offDone
  repeat' (with_reducible first | assumption | apply State_setDch_wf | apply fault_wf | dsimp only | split | intro)

theorem doOffTestComplete_wf (k : Nat) (samples : List (Nat × Nat)) (s : State) (h_ : memWf s.mem = true) :
    memWf (doOffTestComplete k samples s).mem = true := by
  unfold doOffTestComplete
  repeat' (with_reducible first | assumption | apply offDone_wf | apply State_setDch_wf | dsimp only | split | intro)

theorem doOffTestNotRun_wf (k : Nat) (s : State) (h_ : memWf s.mem = true) :
    memWf (doOffTestNotRun k s).mem = true := by
  unfold doOffTestNotRun
  repeat' (with_reducible first | assumption | apply State_setDch_wf | dsimp only | split | intro)

theorem diagOffTest_wf (m : BitVec 64) (s : State) (h_ : memWf s.mem = true) :
    memWf (diagOffTest m s).mem = true := by
  unfold diagOffTest
  repeat' (with_reducible first | assumption | apply forEach_wf | apply State_setDch_wf | apply startTest_wf | dsimp only | split | intro)

theorem diagClear_wf (m : BitVec 64) (s : State) (h_ : memWf s.mem = true) :
    memWf (diagClear m s).mem = true := by
  unfold diagClear
  repeat' (with_reducible first | assumption | apply forEach_wf | apply State_setDch_wf | dsimp only | split | intro)

theorem measure_wf (k current : Nat) (s : State) (h_ : memWf s.mem = true) :
    memWf (measure k current s).mem = true := by
  unfold measure
  repeat' (with_reducible first | assumption | apply State_setChan_wf | apply State_setBank_wf | dsimp only | split | intro)

theorem toTransition_wf (k : Nat) (x : Tick) (reached : Bool) (energyUj : Nat) (s : State) (h_ : memWf s.mem = true) :
    memWf (toTransition k x reached energyUj s).mem = true := by
  unfold toTransition
  repeat' (with_reducible first | assumption | apply peakOver_wf | apply State_setChan_wf | apply bankEdge_wf | dsimp only | split | intro)

theorem slip_wf (k : Nat) (s : State) (h_ : memWf s.mem = true) :
    memWf (slip k s).mem = true := by
  unfold slip
  repeat' (with_reducible first | assumption | apply State_setChan_wf | apply raise_wf | apply State_setBank_wf | dsimp only | split | intro)

theorem yieldStep_wf (x : Tick) (k : Nat) (s : State) (h_ : memWf s.mem = true) :
    memWf (yieldStep x k s).mem = true := by
  unfold yieldStep
  repeat' (with_reducible first | assumption | apply slip_wf | apply toTransition_wf | apply bankEdge_wf | apply State_setChan_wf | dsimp only | split | intro)

theorem arbitrate_wf (b : Nat) (x : Tick) (s : State) (h_ : memWf s.mem = true) :
    memWf (arbitrate b x s).mem = true := by
  unfold arbitrate
  repeat' (with_reducible first | assumption | apply forEach_wf | apply yieldStep_wf | dsimp only | split | intro)

theorem doOnStateFault_wf (k : Nat) (m : OnStateMeas) (s : State) (h_ : memWf s.mem = true) :
    memWf (doOnStateFault k m s).mem = true := by
  unfold doOnStateFault
  repeat' (with_reducible first | assumption | apply endBank_wf | apply endEarly_wf | apply arbitrate_wf | apply fault_wf | apply State_setDch_wf | dsimp only | split | intro)

theorem doProfileStart_wf (k : Nat) (s : State) (h_ : memWf s.mem = true) :
    memWf (doProfileStart k s).mem = true := by
  unfold doProfileStart
  repeat' (with_reducible first | assumption | apply stopTests_wf | apply fallEnds_wf | apply startEndsCapture_wf | apply State_setSlot_wf | apply State_setChan_wf | apply notice_wf | apply mirrorAt_wf | apply arbitrate_wf | apply bankEdge_wf | dsimp only | split | intro)

theorem doPeakEnd_wf (k current energyUj : Nat) (s : State) (h_ : memWf s.mem = true) :
    memWf (doPeakEnd k current energyUj s).mem = true := by
  unfold doPeakEnd
  repeat' (with_reducible first | assumption | apply arbitrate_wf | apply toTransition_wf | apply measure_wf | dsimp only | split | intro)

theorem doPeakTimeout_wf (k current energyUj : Nat) (s : State) (h_ : memWf s.mem = true) :
    memWf (doPeakTimeout k current energyUj s).mem = true := by
  unfold doPeakTimeout
  repeat' (with_reducible first | assumption | apply toTransition_wf | apply measure_wf | apply State_setChan_wf | apply arbitrate_wf | apply raise_wf | dsimp only | split | intro)

theorem toSteep_wf (k : Nat) (x : Tick) (s : State) (h_ : memWf s.mem = true) :
    memWf (toSteep k x s).mem = true := by
  unfold toSteep
  repeat' (with_reducible first | assumption | apply State_setChan_wf | apply arbitrate_wf | apply bankEdge_wf | dsimp only | split | intro)

theorem doTransitionEnd_wf (k current : Nat) (s : State) (h_ : memWf s.mem = true) :
    memWf (doTransitionEnd k current s).mem = true := by
  unfold doTransitionEnd
  repeat' (with_reducible first | assumption | apply toSteep_wf | apply measure_wf | dsimp only | split | intro)

theorem doDitherStep_wf (k : Nat) (s : State) (h_ : memWf s.mem = true) :
    memWf (doDitherStep k s).mem = true := by
  unfold doDitherStep
  repeat' (with_reducible first | assumption | apply State_setChan_wf | dsimp only | split | intro)

theorem doRegulatorSwitch_wf (k current : Nat) (s : State) (h_ : memWf s.mem = true) :
    memWf (doRegulatorSwitch k current s).mem = true := by
  unfold doRegulatorSwitch
  repeat' (with_reducible first | assumption | apply measure_wf | apply bankEdge_wf | apply State_setChan_wf | dsimp only | split | intro)

theorem doTurnOffInstant_wf (k current energyUj : Nat) (s : State) (h_ : memWf s.mem = true) :
    memWf (doTurnOffInstant k current energyUj s).mem = true := by
  unfold doTurnOffInstant
  repeat' (with_reducible first | assumption | apply measure_wf | apply turnOff_wf | apply State_setChan_wf | apply arbitrate_wf | dsimp only | split | intro)

theorem captureRecovered_wf (k : Nat) (s : State) (h_ : memWf s.mem = true) :
    memWf (captureRecovered k s).mem = true := by
  unfold captureRecovered
  repeat' (with_reducible first | assumption | apply State_setDgt_wf | dsimp only | split | intro)

theorem doTurnOffComplete_wf (k current : Nat) (s : State) (h_ : memWf s.mem = true) :
    memWf (doTurnOffComplete k current s).mem = true := by
  unfold doTurnOffComplete
  repeat' (with_reducible first | assumption | apply turnOff_wf | apply measure_wf | apply State_setChan_wf | apply freeSlot_wf | apply bankMode_wf | apply captureRecovered_wf | apply bankEdge_wf | dsimp only | split | intro)

theorem doChannelOvercurrent_wf (k current : Nat) (s : State) (h_ : memWf s.mem = true) :
    memWf (doChannelOvercurrent k current s).mem = true := by
  unfold doChannelOvercurrent
  repeat' (with_reducible first | assumption | apply fault_wf | apply arbitrate_wf | apply endEarly_wf | apply measure_wf | dsimp only | split | intro)

theorem doBankOvercurrent_wf (b sum : Nat) (s : State) (h_ : memWf s.mem = true) :
    memWf (doBankOvercurrent b sum s).mem = true := by
  unfold doBankOvercurrent
  repeat' (with_reducible first | assumption | apply State_setBank_wf | apply fault_wf | apply raise_wf | apply endBank_wf | dsimp only | split | intro)

theorem doOnMaxStop_wf (k : Nat) (s : State) (h_ : memWf s.mem = true) :
    memWf (doOnMaxStop k s).mem = true := by
  unfold doOnMaxStop
  repeat' (with_reducible first | assumption | apply fault_wf | apply arbitrate_wf | apply endAt_wf | dsimp only | split | intro)

theorem doExtensionWrite_wf (q k ext : Nat) (s : State) (h_ : memWf s.mem = true) :
    memWf (doExtensionWrite q k ext s).mem = true := by
  unfold doExtensionWrite
  repeat' (with_reducible first | assumption | apply State_setChan_wf | apply raise_wf | dsimp only | split | intro)

theorem doSetpointWrite_wf (k : Nat) (value : Word) (s : State) (h_ : memWf s.mem = true) :
    memWf (doSetpointWrite k value s).mem = true := by
  unfold doSetpointWrite
  repeat' (with_reducible first | assumption | apply State_setChan_wf | dsimp only | split | intro)

theorem kettleVolt_wf (k volt : Nat) (s : State) (h_ : memWf s.mem = true) :
    memWf (kettleVolt k volt s).mem = true := by
  unfold kettleVolt
  repeat' (with_reducible first | assumption | apply State_setKettle_wf | dsimp only | split | intro)

theorem kettleLevel_wf (k volt : Nat) (s : State) (h_ : memWf s.mem = true) :
    memWf (kettleLevel k volt s).mem = true := by
  unfold kettleLevel
  repeat' (with_reducible first | assumption | apply kettleVolt_wf | apply markFall_wf | apply ktUpdate_wf | apply ktFault_wf | dsimp only | split | intro)

theorem doKettleLevelChange_wf (k volt : Nat) (s : State) (h_ : memWf s.mem = true) :
    memWf (doKettleLevelChange k volt s).mem = true := by
  unfold doKettleLevelChange
  repeat' (with_reducible first | assumption | apply kettleLevel_wf | dsimp only | split | intro)

theorem doKettleChargeDeadline_wf (k : Nat) (s : State) (h_ : memWf s.mem = true) :
    memWf (doKettleChargeDeadline k s).mem = true := by
  unfold doKettleChargeDeadline
  repeat' (with_reducible first | assumption | apply ktFault_wf | dsimp only | split | intro)

theorem doKettleOvervoltage_wf (k volt : Nat) (s : State) (h_ : memWf s.mem = true) :
    memWf (doKettleOvervoltage k volt s).mem = true := by
  unfold doKettleOvervoltage
  repeat' (with_reducible first | assumption | apply kettleLevel_wf | dsimp only | split | intro)

theorem doKettleCapacitance_wf (k microfarad : Nat) (s : State) (h_ : memWf s.mem = true) :
    memWf (doKettleCapacitance k microfarad s).mem = true := by
  unfold doKettleCapacitance
  repeat' (with_reducible first | assumption | apply State_setKettle_wf | apply calReport_wf | dsimp only | split | intro)

theorem regLatch_wf (r : Requester) (a : Nat) (s : State) (h_ : memWf s.mem = true) :
    memWf (regLatch r a s).mem = true := by
  unfold regLatch
  repeat' (with_reducible first | assumption | dsimp only | split | intro)

theorem doSnapshotRead_wf (r : Requester) (a : Nat) (s : State) (h_ : memWf s.mem = true) :
    memWf (doSnapshotRead r a s).mem = true := by
  unfold doSnapshotRead
  repeat' (with_reducible first | assumption | apply regLatch_wf | dsimp only | split | intro)

theorem doLnsAngleRead_wf (r : Requester) (s : State) (h_ : memWf s.mem = true) :
    memWf (doLnsAngleRead r s).mem = true := by
  unfold doLnsAngleRead
  repeat' (with_reducible first | assumption | apply regLatch_wf | dsimp only | split | intro)

theorem markBad_wf (a source : Nat) (s : State) (h_ : memWf s.mem = true) :
    memWf (markBad a source s).mem = true := by
  have h : memWf { s.mem with bad := s.mem.bad.set false a true, reported := s.mem.reported.set false a true } = true := by
    unfold memWf at *
    simp only [Bool.and_eq_true] at *
    exact ⟨⟨h_.1.1, Table.wf_set _ _ h_.1.2⟩, Table.wf_set _ _ h_.2⟩
  unfold markBad
  dsimp only
  split
  · exact h
  · exact fault_wf _ _ h

theorem eccFound_wf (a : Nat) (s : State) (h_ : memWf s.mem = true) :
    memWf (eccFound a s).mem = true := by
  unfold eccFound
  repeat' (with_reducible first | assumption | apply markBad_wf | apply doEventTableEccError_wf | dsimp only | split | intro)

theorem eccFixed_wf (a : Nat) (s : State) (h_ : memWf s.mem = true) :
    memWf (eccFixed a s).mem = true := by
  unfold eccFixed
  repeat' (with_reducible first | assumption | dsimp only | split | intro)

theorem eccRead_wf (a : Nat) (e : Ecc) (s : State) (h_ : memWf s.mem = true) :
    memWf (eccRead a e s).mem = true := by
  unfold eccRead
  repeat' (with_reducible first | assumption | apply eccFixed_wf | apply eccFound_wf | dsimp only | split | intro)

theorem eccRestored_wf (a : Nat) (s : State) (h_ : memWf s.mem = true) :
    memWf (eccRestored a s).mem = true := by
  unfold eccRestored memWf at *
  simp only [Bool.and_eq_true] at *
  exact ⟨⟨h_.1.1, Table.wf_erase _ h_.1.2⟩, Table.wf_erase _ h_.2⟩

theorem countWrite_wf (p : Nat) (s : State) (h_ : memWf s.mem = true) :
    memWf (countWrite p s).mem = true := by
  unfold countWrite
  repeat' (with_reducible first | assumption | dsimp only | split | intro)

theorem blockWritten_wf (l : Nat) (s : State) (h_ : memWf s.mem = true) :
    memWf (blockWritten l s).mem = true := by
  unfold blockWritten
  repeat' (with_reducible first | assumption | apply countWrite_wf | dsimp only | split | intro)

theorem blocksWritten_wf (l : List Nat) (s : State) (h_ : memWf s.mem = true) :
    memWf (blocksWritten l s).mem = true := by
  unfold blocksWritten
  repeat' (with_reducible first | assumption | apply forEach_wf | apply blockWritten_wf | dsimp only | split | intro)

theorem turnCopy_wf (base : Nat) (s : State) (h_ : memWf s.mem = true) :
    memWf (turnCopy base s).mem = true := by
  unfold turnCopy
  repeat' (with_reducible first | assumption | dsimp only | split | intro)

theorem regionWritten_wf (base n : Nat) (s : State) (h_ : memWf s.mem = true) :
    memWf (regionWritten base n s).mem = true := by
  unfold regionWritten
  repeat' (with_reducible first | assumption | apply turnCopy_wf | apply blocksWritten_wf | dsimp only | split | intro)

theorem logCaddy_wf (block action : Nat) (s : State) (h_ : memWf s.mem = true) :
    memWf (logCaddy block action s).mem = true := by
  unfold logCaddy
  repeat' (with_reducible first | assumption | apply log_wf | dsimp only | split | intro)

theorem retireBlock_wf (s : State) (h_ : memWf s.mem = true) :
    memWf (retireBlock s).mem = true := by
  unfold retireBlock
  repeat' (with_reducible first | assumption | apply raise_wf | apply logCaddy_wf | dsimp only | split | intro)

theorem writeFailed_wf (block : Nat) (s : State) (h_ : memWf s.mem = true) :
    memWf (writeFailed block s).mem = true := by
  unfold writeFailed
  repeat' (with_reducible first | assumption | apply fault_wf | apply logCaddy_wf | apply retireBlock_wf | dsimp only | split | intro)

theorem recordWritten_wf (r : QsRecord) (s : State) (h_ : memWf s.mem = true) :
    memWf (recordWritten r s).mem = true := by
  unfold recordWritten
  repeat' (with_reducible first | assumption | apply raise_wf | apply qsInvalidate_wf | dsimp only | split | intro)

theorem tailWritten_wf (k : Nat) (s : State) (h_ : memWf s.mem = true) :
    memWf (tailWritten k s).mem = true := by
  unfold tailWritten
  repeat' (with_reducible first | assumption | dsimp only | split | intro)

theorem flushOver_wf (s : State) (h_ : memWf s.mem = true) :
    memWf (flushOver s).mem = true := by
  unfold flushOver
  repeat' (with_reducible first | assumption | apply holdupSteps_wf | apply qsInvalidate_wf | dsimp only | split | intro)

theorem wearSaved_wf (s : State) (h_ : memWf s.mem = true) :
    memWf (wearSaved s).mem = true := by
  unfold wearSaved
  repeat' (with_reducible first | assumption | apply flushOver_wf | apply raise_wf | dsimp only | split | intro)

theorem jobDone_wf (j : CaddyJob) (s : State) (h_ : memWf s.mem = true) :
    memWf (jobDone j s).mem = true := by
  unfold jobDone
  repeat' (with_reducible first | assumption | apply recordWritten_wf | apply raise_wf | apply turnCopy_wf | apply tailWritten_wf | apply wearSaved_wf | apply logCaddy_wf | dsimp only | split | intro)

theorem popJob_wf (s : State) (h_ : memWf s.mem = true) :
    memWf (popJob s).mem = true := by
  unfold popJob
  repeat' (with_reducible first | assumption | apply jobDone_wf | dsimp only | split | intro)

theorem jobStep_wf (ok : Bool) (j : CaddyJob) (s : State) (h_ : memWf s.mem = true) :
    memWf (jobStep ok j s).mem = true := by
  unfold jobStep
  repeat' (with_reducible first | assumption | apply jobDone_wf | apply blockWritten_wf | apply popJob_wf | apply flushOver_wf | apply writeFailed_wf | apply retireBlock_wf | dsimp only | split | intro)

theorem doCaddyWriteComplete_wf (ok : Bool) (s : State) (h_ : memWf s.mem = true) :
    memWf (doCaddyWriteComplete ok s).mem = true := by
  unfold doCaddyWriteComplete
  repeat' (with_reducible first | assumption | apply jobStep_wf | dsimp only | split | intro)

theorem flushLoss_wf (s : State) (h_ : memWf s.mem = true) :
    memWf (flushLoss s).mem = true := by
  unfold flushLoss
  repeat' (with_reducible first | assumption | apply logPut_wf | apply raise_wf | dsimp only | split | intro)

theorem flushHead_wf (s : State) (h_ : memWf s.mem = true) : memWf (flushHead s).mem = true := by
  unfold flushHead
  split
  · exact h_
  · generalize leBytes 4 0x484C4C4B ++ _ ++ _ ++ _ = body
    repeat' (with_reducible first | assumption | apply logPut_wf | dsimp only | split | intro)

theorem startFlush_wf (s : State) (h_ : memWf s.mem = true) :
    memWf (startFlush s).mem = true := by
  unfold startFlush
  repeat' (with_reducible first | assumption | apply flushHead_wf | apply flushLoss_wf | apply caddyJob_wf | dsimp only | split | intro)

theorem logGuard_wf (s : State) (h_ : memWf s.mem = true) :
    memWf (logGuard s).mem = true := by
  unfold logGuard
  repeat' (with_reducible first | assumption | dsimp only | split | intro)

theorem doLogbookFlush_wf (s : State) (h_ : memWf s.mem = true) :
    memWf (doLogbookFlush s).mem = true := by
  unfold doLogbookFlush
  repeat' (with_reducible first | assumption | apply startFlush_wf | apply logGuard_wf | dsimp only | split | intro)

theorem blockLost_wf (l : Nat) (s : State) (h_ : memWf s.mem = true) :
    memWf (blockLost l s).mem = true := by
  unfold blockLost
  repeat' (with_reducible first | assumption | apply raise_wf | apply logCaddy_wf | dsimp only | split | intro)

theorem blockBad_wf (l : Nat) (s : State) (h_ : memWf s.mem = true) :
    memWf (blockBad l s).mem = true := by
  unfold blockBad
  repeat' (with_reducible first | assumption | apply blockLost_wf | apply caddyJob_wf | dsimp only | split | intro)

theorem refreshRead_wf (p : Nat) (r : BlockRead) (s : State) (h_ : memWf s.mem = true) :
    memWf (refreshRead p r s).mem = true := by
  unfold refreshRead
  repeat' (with_reducible first | assumption | apply blockBad_wf | apply caddyJob_wf | dsimp only | split | intro)

theorem doRetentionRefreshStep_wf (r : BlockRead) (s : State) (h_ : memWf s.mem = true) :
    memWf (doRetentionRefreshStep r s).mem = true := by
  unfold doRetentionRefreshStep
  repeat' (with_reducible first | assumption | apply refreshRead_wf | apply raise_wf | dsimp only | split | intro)

theorem reloadCollector_wf (w : Nat) (s : State) (h_ : memWf s.mem = true) :
    memWf (reloadCollector w s).mem = true := by
  unfold reloadCollector
  repeat' (with_reducible first | assumption | dsimp only | split | intro)

theorem envCopyError_wf (s : State) (h_ : memWf s.mem = true) :
    memWf (envCopyError s).mem = true := by
  unfold envCopyError
  repeat' (with_reducible first | assumption | apply fault_wf | dsimp only | split | intro)

theorem scrubBad_wf (g : ScrubRegion) (p : Nat) (otherOk : Bool) (s : State) (h_ : memWf s.mem = true) :
    memWf (scrubBad g p otherOk s).mem = true := by
  unfold scrubBad
  repeat' (with_reducible first | assumption | apply eccFound_wf | apply raise_wf | apply eccRestored_wf | apply doEventTableEccError_wf | apply State_memWrite_wf | apply envCopyError_wf | apply fault_wf | apply reloadCollector_wf | dsimp only | split | intro)

theorem scrubFixed_wf (g : ScrubRegion) (p : Nat) (s : State) (h_ : memWf s.mem = true) :
    memWf (scrubFixed g p s).mem = true := by
  unfold scrubFixed
  repeat' (with_reducible first | assumption | apply eccFixed_wf | dsimp only | split | intro)

theorem scrubNext_wf (g : ScrubRegion) (s : State) (h_ : memWf s.mem = true) :
    memWf (scrubNext g s).mem = true := by
  unfold scrubNext
  repeat' (with_reducible first | assumption | dsimp only | split | intro)

theorem scrubGuard_wf (g : ScrubRegion) (s : State) (h_ : memWf s.mem = true) :
    memWf (scrubGuard g s).mem = true := by
  unfold scrubGuard
  repeat' (with_reducible first | assumption | dsimp only | split | intro)

theorem doScrubAccess_wf (g : ScrubRegion) (e : Ecc) (otherOk : Bool) (s : State) (h_ : memWf s.mem = true) :
    memWf (doScrubAccess g e otherOk s).mem = true := by
  unfold doScrubAccess
  repeat' (with_reducible first | assumption | apply scrubGuard_wf | apply scrubFixed_wf | apply scrubBad_wf | apply scrubNext_wf | apply State_setSlot_wf | dsimp only | split | intro)

theorem doRulerCalibration_wf (taps : BitVec 10) (halfPpm : Int) (s : State) (h_ : memWf s.mem = true) :
    memWf (doRulerCalibration taps halfPpm s).mem = true := by
  unfold doRulerCalibration
  repeat' (with_reducible first | assumption | apply calReport_wf | dsimp only | split | intro)

theorem setStale_wf (v : Bool) (i : SenseItem) (s : State) (h_ : memWf s.mem = true) :
    memWf (setStale v i s).mem = true := by
  unfold setStale
  repeat' (with_reducible first | assumption | dsimp only | split | intro)

theorem doSenseCalibration_wf (i : SenseItem) (s : State) (h_ : memWf s.mem = true) :
    memWf (doSenseCalibration i s).mem = true := by
  unfold doSenseCalibration
  repeat' (with_reducible first | assumption | apply setStale_wf | dsimp only | split | intro)

theorem doSenseStale_wf (i : SenseItem) (s : State) (h_ : memWf s.mem = true) :
    memWf (doSenseStale i s).mem = true := by
  unfold doSenseStale
  repeat' (with_reducible first | assumption | apply calReport_wf | apply setStale_wf | dsimp only | split | intro)

theorem doTelemetryBatch_wf (m : TelemetryMeas) (s : State) (h_ : memWf s.mem = true) :
    memWf (doTelemetryBatch m s).mem = true := by
  unfold doTelemetryBatch
  repeat' (with_reducible first | assumption | apply logGuard_wf | apply raise_wf | dsimp only | split | intro)

theorem doCounterFrame_wf (s : State) (h_ : memWf s.mem = true) :
    memWf (doCounterFrame s).mem = true := by
  unfold doCounterFrame
  repeat' (with_reducible first | assumption | apply mirrorAt_wf | dsimp only | split | intro)

theorem doMirrorFrameSent_wf (lane : Nat) (s : State) (h_ : memWf s.mem = true) :
    memWf (doMirrorFrameSent lane s).mem = true := by
  unfold doMirrorFrameSent
  repeat' (with_reducible first | assumption | dsimp only | split | intro)

theorem lanesResume_wf (s : State) (h_ : memWf s.mem = true) :
    memWf (lanesResume s).mem = true := by
  unfold lanesResume
  repeat' (with_reducible first | assumption | dsimp only | split | intro)

theorem signed1_wf (s : State) (h_ : memWf s.mem = true) :
    memWf (signed1 s).mem = true := by
  unfold signed1
  repeat' (with_reducible first | assumption | dsimp only | split | intro)

theorem entropyUsed_wf (n : Nat) (s : State) (h_ : memWf s.mem = true) :
    memWf (entropyUsed n s).mem = true := by
  unfold entropyUsed
  repeat' (with_reducible first | assumption | dsimp only | split | intro)

theorem newChallenge_wf (s : State) (h_ : memWf s.mem = true) :
    memWf (newChallenge s).mem = true := by
  unfold newChallenge
  repeat' (with_reducible first | assumption | apply entropyUsed_wf | dsimp only | split | intro)

theorem linkFail_wf (l : Link) (s : State) (h_ : memWf s.mem = true) :
    memWf (linkFail l s).mem = true := by
  unfold linkFail
  repeat' (with_reducible first | assumption | apply State_setLink_wf | apply raiseIf_wf | dsimp only | split | intro)

theorem linkOk_wf (l : Link) (s : State) (h_ : memWf s.mem = true) :
    memWf (linkOk l s).mem = true := by
  unfold linkOk
  repeat' (with_reducible first | assumption | apply State_setLink_wf | dsimp only | split | intro)

theorem countSecFail_wf (s : State) (h_ : memWf s.mem = true) :
    memWf (countSecFail s).mem = true := by
  unfold countSecFail
  repeat' (with_reducible first | assumption | dsimp only | split | intro)

theorem signatureFail_wf (l : Link) (s : State) (h_ : memWf s.mem = true) :
    memWf (signatureFail l s).mem = true := by
  unfold signatureFail
  repeat' (with_reducible first | assumption | apply linkFail_wf | apply log_wf | apply raise_wf | apply countSecFail_wf | dsimp only | split | intro)

theorem countedFail_wf (l : Link) (s : State) (h_ : memWf s.mem = true) :
    memWf (countedFail l s).mem = true := by
  unfold countedFail
  repeat' (with_reducible first | assumption | apply linkFail_wf | apply raise_wf | apply countSecFail_wf | dsimp only | split | intro)

theorem plainFail_wf (l : Link) (s : State) (h_ : memWf s.mem = true) :
    memWf (plainFail l s).mem = true := by
  unfold plainFail
  repeat' (with_reducible first | assumption | apply linkFail_wf | apply raise_wf | dsimp only | split | intro)

theorem doLockoutExpiry_wf (l : Link) (s : State) (h_ : memWf s.mem = true) :
    memWf (doLockoutExpiry l s).mem = true := by
  unfold doLockoutExpiry
  repeat' (with_reducible first | assumption | apply raise_wf | apply State_setLink_wf | dsimp only | split | intro)

theorem setImage_wf (x : Slot) (i : Image) (s : State) (h_ : memWf s.mem = true) :
    memWf (setImage x i s).mem = true := by
  unfold setImage
  repeat' (with_reducible first | assumption | dsimp only | split | intro)

theorem logLink_wf (l : Link) (event : Nat) (s : State) (h_ : memWf s.mem = true) :
    memWf (logLink l event s).mem = true := by
  unfold logLink
  repeat' (with_reducible first | assumption | apply log_wf | dsimp only | split | intro)

theorem dropHoldings_wf (l : Link) (s : State) (h_ : memWf s.mem = true) :
    memWf (dropHoldings l s).mem = true := by
  unfold dropHoldings
  repeat' (with_reducible first | assumption | dsimp only | split | intro)

theorem closeSession_wf (l : Link) (s : State) (h_ : memWf s.mem = true) :
    memWf (closeSession l s).mem = true := by
  unfold closeSession
  repeat' (with_reducible first | assumption | apply State_setLink_wf | apply opened_wf | apply dropHoldings_wf | apply raise_wf | apply logLink_wf | dsimp only | split | intro)

theorem closeAll_wf (s : State) (h_ : memWf s.mem = true) :
    memWf (closeAll s).mem = true := by
  unfold closeAll
  repeat' (with_reducible first | assumption | apply closeSession_wf | dsimp only | split | intro)

theorem doSessionIdleTimeout_wf (l : Link) (s : State) (h_ : memWf s.mem = true) :
    memWf (doSessionIdleTimeout l s).mem = true := by
  unfold doSessionIdleTimeout
  repeat' (with_reducible first | assumption | apply closeSession_wf | dsimp only | split | intro)

theorem doSessionOpenTimeout_wf (l : Link) (s : State) (h_ : memWf s.mem = true) :
    memWf (doSessionOpenTimeout l s).mem = true := by
  unfold doSessionOpenTimeout
  repeat' (with_reducible first | assumption | apply countedFail_wf | apply closeSession_wf | dsimp only | split | intro)

theorem logLife_wf (op : Nat) (s : State) (h_ : memWf s.mem = true) :
    memWf (logLife op s).mem = true := by
  unfold logLife
  repeat' (with_reducible first | assumption | apply log_wf | dsimp only | split | intro)

theorem writeKeys_wf (k : KeyStore) (s : State) (h_ : memWf s.mem = true) :
    memWf (writeKeys k s).mem = true := by
  unfold writeKeys
  repeat' (with_reducible first | assumption | apply regionWritten_wf | dsimp only | split | intro)

theorem decommission_wf (life : Life) (op : Nat) (forced : Bool) (s : State) (h_ : memWf s.mem = true) :
    memWf (decommission life op forced s).mem = true := by
  unfold decommission
  repeat' (with_reducible first | assumption | apply writeKeys_wf | apply qsInvalidate_wf | apply raise_wf | apply logLife_wf | apply closeAll_wf | dsimp only | split | intro)

theorem resetState_wf (cause : Nat) (s : State) (h_ : memWf s.mem = true) :
    memWf (resetState cause s).mem = true := rfl

theorem startRecord_wf (kind wakeBits : Nat) (s : State) (h_ : memWf s.mem = true) :
    memWf (startRecord kind wakeBits s).mem = true := by
  unfold startRecord
  repeat' (with_reducible first | assumption | apply log_wf | dsimp only | split | intro)

theorem stopSequence_wf (links : Bool) (s : State) (h_ : memWf s.mem = true) :
    memWf (stopSequence links s).mem = true := by
  unfold stopSequence
  repeat' (with_reducible first | assumption | apply startRecord_wf | dsimp only | split | intro)

theorem doReferenceStarted_wf (s : State) (h_ : memWf s.mem = true) :
    memWf (doReferenceStarted s).mem = true := by
  unfold doReferenceStarted
  repeat' (with_reducible first | assumption | dsimp only | split | intro)

theorem stepSelfTest_wf (r : StepResult) (s : State) (h_ : memWf s.mem = true) :
    memWf (stepSelfTest r s).mem = true := by
  unfold stepSelfTest
  repeat' (with_reducible first | assumption | apply stopSequence_wf | apply raiseIf_wf | dsimp only | split | intro)

theorem driveBoot_wf (s : State) (h_ : memWf s.mem = true) :
    memWf (driveBoot s).mem = true := by
  unfold driveBoot
  repeat' (with_reducible first | assumption | apply forEach_wf | apply State_setBank_wf | apply ktUpdate_wf | apply State_setKettle_wf | dsimp only | split | intro)

theorem bootRetention_wf (s : State) (h_ : memWf s.mem = true) :
    memWf (bootRetention s).mem = true := by
  rw [bootRetention]
  generalize s.nv.kept.stale s.etc = o
  exact h_

theorem stepCaddy_wf (r : StepResult) (s : State) (h_ : memWf s.mem = true) :
    memWf (stepCaddy r s).mem = true := by
  unfold stepCaddy
  repeat' (with_reducible first | assumption | apply newChallenge_wf | apply bootRetention_wf | apply driveBoot_wf | apply forEach_wf | apply groupReport_wf | apply fault_wf | apply vbakCheck_wf | apply stopSequence_wf | dsimp only | split | intro)

theorem bootEnvelope_wf (s : State) (h_ : memWf s.mem = true) :
    memWf (bootEnvelope s).mem = true := by
  unfold bootEnvelope
  repeat' (with_reducible first | assumption | apply raise_wf | dsimp only | split | intro)

theorem bootWear_wf (r : StepResult) (s : State) (h_ : memWf s.mem = true) :
    memWf (bootWear r s).mem = true := by
  unfold bootWear
  repeat' (with_reducible first | assumption | apply forEach_wf | apply State_setChan_wf | dsimp only | split | intro)

theorem holdRecord_wf (r : QsRecord) (s : State) (h_ : memWf s.mem = true) :
    memWf (holdRecord r s).mem = true := by
  unfold holdRecord
  repeat' (with_reducible first | assumption | dsimp only | split | intro)

theorem bootRecord_wf (s : State) (h_ : memWf s.mem = true) :
    memWf (bootRecord s).mem = true := by
  unfold bootRecord
  repeat' (with_reducible first | assumption | apply raise_wf | apply qsInvalidate_wf | apply holdRecord_wf | dsimp only | split | intro)

theorem bootMap_wf (s : State) (h_ : memWf s.mem = true) :
    memWf (bootMap s).mem = true := by
  unfold bootMap
  repeat' (with_reducible first | assumption | apply raise_wf | dsimp only | split | intro)

theorem stepEnvelope_wf (r : StepResult) (s : State) (h_ : memWf s.mem = true) :
    memWf (stepEnvelope r s).mem = true := by
  unfold stepEnvelope
  repeat' (with_reducible first | assumption | apply bootMap_wf | apply bootRecord_wf | apply bootWear_wf | apply bootEnvelope_wf | dsimp only | split | intro)

theorem logImage_wf (x : Slot) (event reason : Nat) (place : Nat × Nat) (s : State) (h_ : memWf s.mem = true) :
    memWf (logImage x event reason place s).mem = true := by
  unfold logImage
  repeat' (with_reducible first | assumption | apply log_wf | dsimp only | split | intro)

theorem refuseSlot_wf (x : Slot) (reason : Nat) (s : State) (h_ : memWf s.mem = true) :
    memWf (refuseSlot x reason s).mem = true := by
  unfold refuseSlot
  repeat' (with_reducible first | assumption | apply raise_wf | apply logImage_wf | dsimp only | split | intro)

theorem declareTasks_wf (tab : List Byte) (s : State) (h_ : memWf s.mem = true) :
    memWf (declareTasks tab s).mem = true := by
  unfold declareTasks
  repeat' (with_reducible first | assumption | apply State_setCtx_wf | apply foldl_wf | apply foldl1_wf | dsimp only | split | intro)

theorem endSequence_wf (phase : Nat) (s : State) (h_ : memWf s.mem = true) :
    memWf (endSequence phase s).mem = true := by
  unfold endSequence
  repeat' (with_reducible first | assumption | apply ktLimits_wf | dsimp only | split | intro)

theorem runImage_wf (x : Slot) (s : State) (h_ : memWf s.mem = true) :
    memWf (runImage x s).mem = true := by
  unfold runImage
  have h0 : memWf ({ s with mem := {} } : State).mem = true := rfl
  repeat' (with_reducible first | assumption | apply State_memWrite_wf | apply declareTasks_wf | apply endSequence_wf | apply forEach_wf | apply activate_wf | apply startRecord_wf | dsimp only | split | intro)

theorem runSelected_wf (s : State) (h_ : memWf s.mem = true) :
    memWf (runSelected s).mem = true := by
  unfold runSelected
  repeat' (with_reducible first | assumption | apply writeKeys_wf | apply runImage_wf | dsimp only | split | intro)

theorem runOther_wf (s : State) (h_ : memWf s.mem = true) :
    memWf (runOther s).mem = true := by
  unfold runOther
  repeat' (with_reducible first | assumption | apply runImage_wf | apply writeKeys_wf | dsimp only | split | intro)

theorem stepImage_wf (s : State) (h_ : memWf s.mem = true) :
    memWf (stepImage s).mem = true := by
  unfold stepImage
  repeat' (with_reducible first | assumption | apply runSelected_wf | apply refuseSlot_wf | apply runOther_wf | apply startRecord_wf | apply endSequence_wf | dsimp only | split | intro)

theorem dropBadImages_wf (s : State) (h_ : memWf s.mem = true) :
    memWf (dropBadImages s).mem = true := by
  unfold dropBadImages
  repeat' (with_reducible first | assumption | dsimp only | split | intro)

theorem doResetStepComplete_wf (r : StepResult) (s : State) (h_ : memWf s.mem = true) :
    memWf (doResetStepComplete r s).mem = true := by
  unfold doResetStepComplete
  repeat' (with_reducible first | assumption | apply stepSelfTest_wf | apply stepCaddy_wf | apply stepEnvelope_wf | apply stepImage_wf | apply dropBadImages_wf | dsimp only | split | intro)

theorem doResetCommandDelayExpiry_wf (s : State) (h_ : memWf s.mem = true) :
    memWf (doResetCommandDelayExpiry s).mem = true := by
  unfold doResetCommandDelayExpiry
  repeat' (with_reducible first | assumption | apply resetState_wf | dsimp only | split | intro)

theorem State_setInput_wf (s : State) (i : SupplyInput) (x : SupplyIn) (h_ : memWf s.mem = true) :
    memWf (Sys2Proof.Machine.State.setInput s i x).mem = true := by
  unfold State.setInput
  repeat' (with_reducible first | assumption | dsimp only | split | intro)

theorem logSupply_wf (old new : SupplyState) (steps us : Nat) (s : State) (h_ : memWf s.mem = true) :
    memWf (logSupply old new steps us s).mem = true := by
  unfold logSupply
  repeat' (with_reducible first | assumption | apply log_wf | dsimp only | split | intro)

theorem supplyTo_wf (new : SupplyState) (steps us : Nat) (s : State) (h_ : memWf s.mem = true) :
    memWf (supplyTo new steps us s).mem = true := by
  unfold supplyTo
  repeat' (with_reducible first | assumption | apply mirrorState_wf | apply raise_wf | apply logSupply_wf | dsimp only | split | intro)

theorem holdupSteps_wf (s : State) (h_ : memWf s.mem = true) :
    memWf (holdupSteps s).mem = true := by
  unfold holdupSteps
  repeat' (with_reducible first | assumption | apply endAll_wf | apply withdrawAll_wf | apply stopTests_wf | apply ebAllOff_wf | apply ktLimits_wf | apply startFlush_wf | apply closeAll_wf | dsimp only | split | intro)

theorem enterHoldup_wf (s : State) (h_ : memWf s.mem = true) :
    memWf (enterHoldup s).mem = true := by
  unfold enterHoldup
  repeat' (with_reducible first | assumption | apply supplyTo_wf | apply holdupSteps_wf | apply wake_wf | dsimp only | split | intro)

theorem chanDown_wf (k : Nat) (s : State) (h_ : memWf s.mem = true) :
    memWf (chanDown k s).mem = true := by
  unfold chanDown
  repeat' (with_reducible first | assumption | apply State_setChan_wf | dsimp only | split | intro)

theorem enterDown_wf (s : State) (h_ : memWf s.mem = true) :
    memWf (enterDown s).mem = true := by
  unfold enterDown
  repeat' (with_reducible first | assumption | apply forEach_wf | apply chanDown_wf | apply ebAllOff_wf | apply ktUpdate_wf | apply stopTests_wf | apply ktLimits_wf | dsimp only | split | intro)

theorem bothLost_wf (s : State) (h_ : memWf s.mem = true) :
    memWf (bothLost s).mem = true := by
  unfold bothLost
  repeat' (with_reducible first | assumption | apply enterHoldup_wf | apply enterDown_wf | dsimp only | split | intro)

theorem supplyRun_wf (new : SupplyState) (steps us : Nat) (s : State) (h_ : memWf s.mem = true) :
    memWf (supplyRun new steps us s).mem = true := by
  unfold supplyRun
  repeat' (with_reducible first | assumption | apply vbakCheck_wf | apply ktLimits_wf | apply wake_wf | apply supplyTo_wf | dsimp only | split | intro)

theorem fromMain_wf (s : State) (h_ : memWf s.mem = true) :
    memWf (fromMain s).mem = true := by
  unfold fromMain
  repeat' (with_reducible first | assumption | apply vbakCheck_wf | apply bothLost_wf | apply supplyRun_wf | dsimp only | split | intro)

theorem reselect_wf (s : State) (h_ : memWf s.mem = true) :
    memWf (reselect s).mem = true := by
  unfold reselect
  repeat' (with_reducible first | assumption | apply fromMain_wf | apply supplyRun_wf | apply bothLost_wf | apply resetState_wf | dsimp only | split | intro)

theorem overvoltCheck_wf (i : SupplyInput) (before : Bool) (s : State) (h_ : memWf s.mem = true) :
    memWf (overvoltCheck i before s).mem = true := by
  unfold overvoltCheck
  repeat' (with_reducible first | assumption | apply logSupply_wf | apply faultOnset_wf | apply raise_wf | apply faultEnd_wf | dsimp only | split | intro)

theorem doSupplyThresholdCrossing_wf (i : SupplyInput) (th : Threshold) (up : Bool) (millivolt : Nat) (s : State) (h_ : memWf s.mem = true) :
    memWf (doSupplyThresholdCrossing i th up millivolt s).mem = true := by
  unfold doSupplyThresholdCrossing
  repeat' (with_reducible first | assumption | apply State_setInput_wf | apply fromMain_wf | dsimp only | split | intro)

theorem vbakJudged_wf (s : State) (h_ : memWf s.mem = true) :
    memWf (vbakJudged s).mem = true := by
  unfold vbakJudged
  repeat' (with_reducible first | assumption | apply vbakCheck_wf | dsimp only | split | intro)

theorem doSupplyJudgement_wf (i : SupplyInput) (s : State) (h_ : memWf s.mem = true) :
    memWf (doSupplyJudgement i s).mem = true := by
  unfold doSupplyJudgement
  repeat' (with_reducible first | assumption | apply reselect_wf | apply vbakJudged_wf | apply overvoltCheck_wf | apply State_setInput_wf | dsimp only | split | intro)

theorem doSupplyDebounceExpiry_wf (s : State) (h_ : memWf s.mem = true) :
    memWf (doSupplyDebounceExpiry s).mem = true := by
  unfold doSupplyDebounceExpiry
  repeat' (with_reducible first | assumption | apply supplyRun_wf | dsimp only | split | intro)

theorem leaveHoldup_wf (new : SupplyState) (s : State) (h_ : memWf s.mem = true) :
    memWf (leaveHoldup new s).mem = true := by
  unfold leaveHoldup
  repeat' (with_reducible first | assumption | apply holdupSteps_wf | apply supplyRun_wf | dsimp only | split | intro)

theorem doHoldupRecoveryExpiry_wf (s : State) (h_ : memWf s.mem = true) :
    memWf (doHoldupRecoveryExpiry s).mem = true := by
  unfold doHoldupRecoveryExpiry
  repeat' (with_reducible first | assumption | apply leaveHoldup_wf | dsimp only | split | intro)

theorem doHoldupStoreExhausted_wf (s : State) (h_ : memWf s.mem = true) :
    memWf (doHoldupStoreExhausted s).mem = true := by
  unfold doHoldupStoreExhausted
  repeat' (with_reducible first | assumption | apply enterDown_wf | dsimp only | split | intro)

theorem doHoldupStoreCharged_wf (s : State) (h_ : memWf s.mem = true) :
    memWf (doHoldupStoreCharged s).mem = true := by
  unfold doHoldupStoreCharged
  repeat' (with_reducible first | assumption | dsimp only | split | intro)

theorem doEnableChange_wf (on : Bool) (s : State) (h_ : memWf s.mem = true) :
    memWf (doEnableChange on s).mem = true := by
  unfold doEnableChange
  repeat' (with_reducible first | assumption | apply raise_wf | apply ebAllOff_wf | apply endAll_wf | apply withdrawAll_wf | apply wake_wf | apply ktLimits_wf | dsimp only | split | intro)

theorem doClaimNChange_wf (on : Bool) (s : State) (h_ : memWf s.mem = true) :
    memWf (doClaimNChange on s).mem = true := by
  unfold doClaimNChange
  repeat' (with_reducible first | assumption | apply raise_wf | dsimp only | split | intro)

theorem thermalFault_wf (s : State) (h_ : memWf s.mem = true) :
    memWf (thermalFault s).mem = true := by
  unfold thermalFault
  repeat' (with_reducible first | assumption | apply faultOnset_wf | apply faultEnd_wf | dsimp only | split | intro)

theorem doThermalThreshold_wf (d : ThermalDomain) (celsius : Int) (s : State) (h_ : memWf s.mem = true) :
    memWf (doThermalThreshold d celsius s).mem = true := by
  unfold doThermalThreshold
  repeat' (with_reducible first | assumption | apply raiseIf_wf | apply thermalFault_wf | apply ktLimits_wf | dsimp only | split | intro)

theorem doThermalDeratingChange_wf (k : Nat) (tenths : Int) (s : State) (h_ : memWf s.mem = true) :
    memWf (doThermalDeratingChange k tenths s).mem = true := by
  unfold doThermalDeratingChange
  repeat' (with_reducible first | assumption | apply ktLimit_wf | apply raise_wf | dsimp only | split | intro)

theorem railShow_wf (v : Bool) (r : SensorRail) (s : State) (h_ : memWf s.mem = true) :
    memWf (railShow v r s).mem = true := by
  unfold railShow
  repeat' (with_reducible first | assumption | apply State_setWheel_wf | dsimp only | split | intro)

theorem doSensorSupplyFault_wf (r : SensorRail) (s : State) (h_ : memWf s.mem = true) :
    memWf (doSensorSupplyFault r s).mem = true := by
  unfold doSensorSupplyFault
  repeat' (with_reducible first | assumption | apply faultOnset_wf | apply raise_wf | apply railShow_wf | dsimp only | split | intro)

theorem doSensorSupplyRecovery_wf (r : SensorRail) (s : State) (h_ : memWf s.mem = true) :
    memWf (doSensorSupplyRecovery r s).mem = true := by
  unfold doSensorSupplyRecovery
  repeat' (with_reducible first | assumption | apply faultEnd_wf | apply raise_wf | apply railShow_wf | dsimp only | split | intro)

theorem doReferenceLoss_wf (s : State) (h_ : memWf s.mem = true) :
    memWf (doReferenceLoss s).mem = true := by
  unfold doReferenceLoss
  repeat' (with_reducible first | assumption | apply faultOnset_wf | apply raise_wf | dsimp only | split | intro)

theorem doHoldoverExpiry_wf (s : State) (h_ : memWf s.mem = true) :
    memWf (doHoldoverExpiry s).mem = true := by
  unfold doHoldoverExpiry
  repeat' (with_reducible first | assumption | apply forEach_wf | apply withdraw_wf | apply faultOnset_wf | apply raise_wf | dsimp only | split | intro)

theorem doReferenceReturn_wf (s : State) (h_ : memWf s.mem = true) :
    memWf (doReferenceReturn s).mem = true := by
  unfold doReferenceReturn
  repeat' (with_reducible first | assumption | apply faultEnd_wf | dsimp only | split | intro)

theorem relocked_wf (s : State) (h_ : memWf s.mem = true) :
    memWf (relocked s).mem = true := by
  unfold relocked
  repeat' (with_reducible first | assumption | apply faultEnd_wf | apply raise_wf | dsimp only | split | intro)

theorem doRelockComplete_wf (s : State) (h_ : memWf s.mem = true) :
    memWf (doRelockComplete s).mem = true := by
  unfold doRelockComplete
  repeat' (with_reducible first | assumption | apply relocked_wf | dsimp only | split | intro)

theorem refusePower_wf (r : Nat) (s : State) (h_ : memWf s.mem = true) :
    memWf (refusePower r s).mem = true := by
  unfold refusePower
  repeat' (with_reducible first | assumption | dsimp only | split | intro)

theorem enterStandby_wf (s : State) (h_ : memWf s.mem = true) :
    memWf (enterStandby s).mem = true := by
  unfold enterStandby
  repeat' (with_reducible first | assumption | apply stopTests_wf | apply ktLimits_wf | dsimp only | split | intro)

theorem doStandbyRequest_wf (s : State) (h_ : memWf s.mem = true) :
    memWf (doStandbyRequest s).mem = true := by
  unfold doStandbyRequest
  repeat' (with_reducible first | assumption | apply enterStandby_wf | apply refusePower_wf | dsimp only | split | intro)

theorem doAutoStandby_wf (s : State) (h_ : memWf s.mem = true) :
    memWf (doAutoStandby s).mem = true := by
  unfold doAutoStandby
  repeat' (with_reducible first | assumption | apply doStandbyRequest_wf | dsimp only | split | intro)

theorem backToRun_wf (s : State) (h_ : memWf s.mem = true) :
    memWf (backToRun s).mem = true := by
  unfold backToRun
  repeat' (with_reducible first | assumption | apply lanesResume_wf | apply ktLimits_wf | dsimp only | split | intro)

theorem watchdogWake_wf (s : State) (h_ : memWf s.mem = true) :
    memWf (watchdogWake s).mem = true := by
  unfold watchdogWake
  repeat' (with_reducible first | assumption | dsimp only | split | intro)

theorem doStandbyWake_wf (s : State) (h_ : memWf s.mem = true) :
    memWf (doStandbyWake s).mem = true := by
  unfold doStandbyWake
  repeat' (with_reducible first | assumption | apply backToRun_wf | apply watchdogWake_wf | dsimp only | split | intro)

theorem enterSleep_wf (s : State) (h_ : memWf s.mem = true) :
    memWf (enterSleep s).mem = true := by
  unfold enterSleep
  repeat' (with_reducible first | assumption | apply stopTests_wf | apply startFlush_wf | apply ktLimits_wf | apply forEach_wf | apply ktUpdate_wf | dsimp only | split | intro)

theorem doSleepRequest_wf (s : State) (h_ : memWf s.mem = true) :
    memWf (doSleepRequest s).mem = true := by
  unfold doSleepRequest
  repeat' (with_reducible first | assumption | apply enterSleep_wf | apply refusePower_wf | dsimp only | split | intro)

theorem doAutoSleep_wf (s : State) (h_ : memWf s.mem = true) :
    memWf (doAutoSleep s).mem = true := by
  unfold doAutoSleep
  repeat' (with_reducible first | assumption | apply doSleepRequest_wf | dsimp only | split | intro)

theorem doSleepEntryComplete_wf (s : State) (h_ : memWf s.mem = true) :
    memWf (doSleepEntryComplete s).mem = true := by
  unfold doSleepEntryComplete
  repeat' (with_reducible first | assumption | apply ebAllOff_wf | dsimp only | split | intro)

theorem powerSettle_wf (s : State) (h_ : memWf s.mem = true) :
    memWf (powerSettle s).mem = true := by
  unfold powerSettle
  repeat' (with_reducible first | assumption | apply lanesResume_wf | apply forEach_wf | apply ktUpdate_wf | apply ktLimits_wf | dsimp only | split | intro)

theorem makeUpOne_wf (n : Nat) (s : State) (h_ : memWf s.mem = true) :
    memWf (makeUpOne n s).mem = true := by
  unfold makeUpOne
  repeat' (with_reducible first | assumption | apply timAct_wf | apply State_setTimer_wf | dsimp only | split | intro)

theorem markMadeUp_wf (old s : State) (h_ : memWf s.mem = true) :
    memWf (markMadeUp old s).mem = true := by
  unfold markMadeUp
  repeat' (with_reducible first | assumption | apply forEach_wf | apply State_setTimer_wf | dsimp only | split | intro)

theorem makeUp_wf (n : Nat) (s : State) (h_ : memWf s.mem = true) :
    memWf (makeUp n s).mem = true := by
  unfold makeUp
  repeat' (with_reducible first | assumption | apply State_setTimer_wf | apply markMadeUp_wf | apply makeUpOne_wf | dsimp only | split | intro)

theorem makeUpAll_wf (s : State) (h_ : memWf s.mem = true) :
    memWf (makeUpAll s).mem = true := by
  unfold makeUpAll
  repeat' (with_reducible first | assumption | apply forEach_wf | apply makeUp_wf | dsimp only | split | intro)

theorem closeLapsed_wf (s : State) (h_ : memWf s.mem = true) :
    memWf (closeLapsed s).mem = true := by
  unfold closeLapsed
  repeat' (with_reducible first | assumption | apply closeSession_wf | apply foldl_wf | apply foldl1_wf | dsimp only | split | intro)

theorem wakeUp_wf (s : State) (h_ : memWf s.mem = true) :
    memWf (wakeUp s).mem = true := by
  unfold wakeUp
  repeat' (with_reducible first | assumption | apply watchdogWake_wf | apply makeUpAll_wf | apply relocked_wf | apply closeLapsed_wf | apply backToRun_wf | apply startRecord_wf | apply holdupSteps_wf | dsimp only | split | intro)

theorem doSleepWake_wf (cause : Option (Fin 4)) (s : State) (h_ : memWf s.mem = true) :
    memWf (doSleepWake cause s).mem = true := by
  unfold doSleepWake
  repeat' (with_reducible first | assumption | apply wake_wf | apply qsInvalidate_wf | apply wakeUp_wf | dsimp only | split | intro)

theorem doResetN_wf (s : State) (h_ : memWf s.mem = true) :
    memWf (doResetN s).mem = true := by
  unfold doResetN
  repeat' (with_reducible first | assumption | apply resetState_wf | dsimp only | split | intro)

theorem State_setTarget_wf (s : State) (g : IrqTarget) (x : IrcTarget) (h_ : memWf s.mem = true) :
    memWf (Sys2Proof.Machine.State.setTarget s g x).mem = true := by
  unfold State.setTarget
  repeat' (with_reducible first | assumption | dsimp only | split | intro)

theorem doIrqClaim_wf (g : IrqTarget) (src : Nat) (s : State) (h_ : memWf s.mem = true) :
    memWf (doIrqClaim g src s).mem = true := by
  unfold doIrqClaim
  repeat' (with_reducible first | assumption | apply State_setTarget_wf | dsimp only | split | intro)

theorem doIrqComplete_wf (g : IrqTarget) (src : Nat) (s : State) (h_ : memWf s.mem = true) :
    memWf (doIrqComplete g src s).mem = true := by
  unfold doIrqComplete
  repeat' (with_reducible first | assumption | apply State_setTarget_wf | dsimp only | split | intro)

theorem doModerationHoldEnd_wf (s : State) (h_ : memWf s.mem = true) :
    memWf (doModerationHoldEnd s).mem = true := by
  unfold doModerationHoldEnd
  repeat' (with_reducible first | assumption | dsimp only | split | intro)

theorem doGraceDeadline_wf (s : State) (h_ : memWf s.mem = true) :
    memWf (doGraceDeadline s).mem = true := by
  unfold doGraceDeadline
  repeat' (with_reducible first | assumption | apply graceDue_wf | dsimp only | split | intro)

theorem doFaultAcknowledge_wf (w : Nat) (mask : Word) (s : State) (h_ : memWf s.mem = true) :
    memWf (doFaultAcknowledge w mask s).mem = true := by
  unfold doFaultAcknowledge
  repeat' (with_reducible first | assumption | apply acknowledge_wf | apply graceDue_wf | dsimp only | split | intro)

theorem doWatchdogService_wf (v : BitVec 16) (s : State) (h_ : memWf s.mem = true) :
    memWf (doWatchdogService v s).mem = true := by
  unfold doWatchdogService
  repeat' (with_reducible first | assumption | apply fault_wf | dsimp only | split | intro)

theorem doWatchdogTimeout_wf (s : State) (h_ : memWf s.mem = true) :
    memWf (doWatchdogTimeout s).mem = true := by
  unfold doWatchdogTimeout
  repeat' (with_reducible first | assumption | apply fault_wf | apply wake_wf | dsimp only | split | intro)

theorem doWatchdogWarning_wf (s : State) (h_ : memWf s.mem = true) :
    memWf (doWatchdogWarning s).mem = true := by
  unfold doWatchdogWarning
  repeat' (with_reducible first | assumption | apply raise_wf | dsimp only | split | intro)

theorem writeWdtCfg_wf (v : Nat) (s : State) (h_ : memWf s.mem = true) :
    memWf (writeWdtCfg v s).mem = true := by
  unfold writeWdtCfg
  repeat' (with_reducible first | assumption | dsimp only | split | intro)

theorem doHandshakeStall_wf (s : State) (h_ : memWf s.mem = true) :
    memWf (doHandshakeStall s).mem = true := by
  unfold doHandshakeStall
  repeat' (with_reducible first | assumption | apply fault_wf | dsimp only | split | intro)

theorem doMgmtCoreStall_wf (s : State) (h_ : memWf s.mem = true) :
    memWf (doMgmtCoreStall s).mem = true := by
  unfold doMgmtCoreStall
  repeat' (with_reducible first | assumption | apply fault_wf | dsimp only | split | intro)

theorem placeFrame_wf (s : State) (h_ : memWf s.mem = true) :
    memWf (placeFrame s).mem = true := by
  unfold placeFrame
  repeat' (with_reducible first | assumption | apply raise_wf | dsimp only | split | intro)

theorem sendMsg_wf (l : Link) (mtag : Byte) (m : List Byte) (s : State) (h_ : memWf s.mem = true) :
    memWf (sendMsg l mtag m s).mem = true := by
  unfold sendMsg
  repeat' (with_reducible first | assumption | apply State_setLink_wf | apply placeFrame_wf | dsimp only | split | intro)

theorem linkError_wf (l : Link) (reason : Nat) (mtag : Byte) (s : State) (h_ : memWf s.mem = true) :
    memWf (linkError l reason mtag s).mem = true := by
  unfold linkError
  repeat' (with_reducible first | assumption | apply State_setLink_wf | apply sendMsg_wf | dsimp only | split | intro)

theorem counterUsed_wf (l : Link) (x : Session) (s : State) (h_ : memWf s.mem = true) :
    memWf (counterUsed l x s).mem = true := by
  unfold counterUsed
  repeat' (with_reducible first | assumption | apply State_setLink_wf | apply opened_wf | apply closeSession_wf | dsimp only | split | intro)

theorem sendSealed_wf (l : Link) (mtag : Byte) (x : Session) (inner : List Byte) (s : State) (h_ : memWf s.mem = true) :
    memWf (sendSealed l mtag x inner s).mem = true := by
  unfold sendSealed
  repeat' (with_reducible first | assumption | apply counterUsed_wf | apply sendMsg_wf | dsimp only | split | intro)

theorem respond_wf (l : Link) (before : State) (r : Request) (a : Reply) (h_ : memWf a.state.mem = true) :
    memWf (respond l before r a).mem = true := by
  unfold respond
  repeat' (with_reducible first | assumption | apply State_setLink_wf | apply sendMsg_wf | apply opened_wf | apply sendSealed_wf | dsimp only | split | intro)

theorem doMbxSend_wf (len : Nat) (s : State) (h_ : memWf s.mem = true) :
    memWf (doMbxSend len s).mem = true := by
  unfold doMbxSend
  repeat' (with_reducible first | assumption | apply linkError_wf | dsimp only | split | intro)

theorem doMbxRxDone_wf (s : State) (h_ : memWf s.mem = true) :
    memWf (doMbxRxDone s).mem = true := by
  unfold doMbxRxDone
  repeat' (with_reducible first | assumption | apply placeFrame_wf | dsimp only | split | intro)

theorem doMbxAbort_wf (s : State) (h_ : memWf s.mem = true) :
    memWf (doMbxAbort s).mem = true := by
  unfold doMbxAbort
  repeat' (with_reducible first | assumption | apply State_setLink_wf | dsimp only | split | intro)

theorem doCanBusOff_wf (second : Bool) (s : State) (h_ : memWf s.mem = true) :
    memWf (doCanBusOff second s).mem = true := by
  unfold doCanBusOff
  repeat' (with_reducible first | assumption | apply raise_wf | apply logLink_wf | apply State_setLink_wf | dsimp only | split | intro)

theorem doCanBusOffRecovery_wf (second : Bool) (s : State) (h_ : memWf s.mem = true) :
    memWf (doCanBusOffRecovery second s).mem = true := by
  unfold doCanBusOffRecovery
  repeat' (with_reducible first | assumption | apply raise_wf | apply State_setLink_wf | dsimp only | split | intro)

theorem doCanFrameTransmitted_wf (second : Bool) (s : State) (h_ : memWf s.mem = true) :
    memWf (doCanFrameTransmitted second s).mem = true := by
  unfold doCanFrameTransmitted
  repeat' (with_reducible first | assumption | apply State_setLink_wf | dsimp only | split | intro)

theorem answerPlain_wf (l : Link) (mtag : Byte) (code rtag status detail : Nat) (data : List Byte) (s : State) (h_ : memWf s.mem = true) :
    memWf (answerPlain l mtag code rtag status detail data s).mem = true := by
  unfold answerPlain
  repeat' (with_reducible first | assumption | apply sendMsg_wf | dsimp only | split | intro)

theorem answerSealed_wf (l : Link) (mtag : Byte) (code rtag status detail : Nat) (keep : Bool) (s : State) (h_ : memWf s.mem = true) :
    memWf (answerSealed l mtag code rtag status detail keep s).mem = true := by
  unfold answerSealed
  repeat' (with_reducible first | assumption | apply opened_wf | apply sendSealed_wf | dsimp only | split | intro)

theorem takeRequest_wf (l : Link) (mtag : Byte) (code rtag : Nat) (body : List Byte) (isSealed : Bool) (s : State) (h_ : memWf s.mem = true) :
    memWf (takeRequest l mtag code rtag body isSealed s).mem = true := by
  unfold takeRequest
  repeat' (with_reducible first | assumption | apply State_setLink_wf | dsimp only | split | intro)

theorem claimAttempt_wf (code : Nat) (s : State) (h_ : memWf s.mem = true) :
    memWf (claimAttempt code s).mem = true := by
  unfold claimAttempt
  repeat' (with_reducible first | assumption | apply newChallenge_wf | dsimp only | split | intro)

theorem plainIn_wf (l : Link) (mtag : Byte) (m : List Byte) (s : State) (h_ : memWf s.mem = true) :
    memWf (plainIn l mtag m s).mem = true := by
  unfold plainIn
  repeat' (with_reducible first | assumption | apply answerPlain_wf | apply claimAttempt_wf | apply plainFail_wf | apply takeRequest_wf | dsimp only | split | intro)

theorem innerIn_wf (l : Link) (mtag : Byte) (x : Session) (m : List Byte) (s : State) (h_ : memWf s.mem = true) :
    memWf (innerIn l mtag x m s).mem = true := by
  unfold innerIn
  repeat' (with_reducible first | assumption | apply answerSealed_wf | apply plainFail_wf | apply takeRequest_wf | dsimp only | split | intro)

theorem acceptSealed_wf (l : Link) (mtag : Byte) (x : Session) (ctr : Nat) (m : List Byte) (s : State) (h_ : memWf s.mem = true) :
    memWf (acceptSealed l mtag x ctr m s).mem = true := by
  unfold acceptSealed
  repeat' (with_reducible first | assumption | apply linkOk_wf | apply State_setLink_wf | apply opened_wf | apply closeSession_wf | apply answerSealed_wf | apply sendSealed_wf | apply innerIn_wf | dsimp only | split | intro)

theorem sealFailure_wf (l : Link) (x : Session) (s : State) (h_ : memWf s.mem = true) :
    memWf (sealFailure l x s).mem = true := by
  unfold sealFailure
  repeat' (with_reducible first | assumption | apply countedFail_wf | apply State_setLink_wf | apply opened_wf | apply closeSession_wf | dsimp only | split | intro)

theorem sealedIn_wf (l : Link) (mtag : Byte) (m : List Byte) (s : State) (h_ : memWf s.mem = true) :
    memWf (sealedIn l mtag m s).mem = true := by
  unfold sealedIn
  repeat' (with_reducible first | assumption | apply answerPlain_wf | apply opened_wf | apply sealFailure_wf | apply acceptSealed_wf | dsimp only | split | intro)

theorem messageIn_wf (l : Link) (mtag : Byte) (m : List Byte) (s : State) (h_ : memWf s.mem = true) :
    memWf (messageIn l mtag m s).mem = true := by
  unfold messageIn
  repeat' (with_reducible first | assumption | apply answerPlain_wf | apply claimAttempt_wf | apply sealedIn_wf | apply plainIn_wf | dsimp only | split | intro)

theorem extendMessage_wf (l : Link) (mtag : Byte) (seg : Nat) (last : Bool) (b : List Byte) (s : State) (h_ : memWf s.mem = true) :
    memWf (extendMessage l mtag seg last b s).mem = true := by
  unfold extendMessage
  repeat' (with_reducible first | assumption | apply linkError_wf | apply messageIn_wf | apply State_setLink_wf | dsimp only | split | intro)

theorem frameStep_wf (l : Link) (f : List Byte) (s : State) (h_ : memWf s.mem = true) :
    memWf (frameStep l f s).mem = true := by
  unfold frameStep
  repeat' (with_reducible first | assumption | apply linkError_wf | apply extendMessage_wf | dsimp only | split | intro)

theorem gapCheck_wf (l : Link) (s : State) (h_ : memWf s.mem = true) :
    memWf (gapCheck l s).mem = true := by
  unfold gapCheck
  repeat' (with_reducible first | assumption | apply linkError_wf | dsimp only | split | intro)

theorem doFrameGapTimeout_wf (l : Link) (s : State) (h_ : memWf s.mem = true) :
    memWf (doFrameGapTimeout l s).mem = true := by
  unfold doFrameGapTimeout
  repeat' (with_reducible first | assumption | apply gapCheck_wf | dsimp only | split | intro)

theorem frameIn_wf (l : Link) (f : List Byte) (s : State) (h_ : memWf s.mem = true) :
    memWf (frameIn l f s).mem = true := by
  unfold frameIn
  repeat' (with_reducible first | assumption | apply wake_wf | apply gapCheck_wf | apply doSessionOpenTimeout_wf | apply doSessionIdleTimeout_wf | apply frameStep_wf | apply linkError_wf | dsimp only | split | intro)

theorem doOhmacFrame_wf (src : FrameSource) (s : State) (h_ : memWf s.mem = true) :
    memWf (doOhmacFrame src s).mem = true := by
  unfold doOhmacFrame
  repeat' (with_reducible first | assumption | apply frameIn_wf | apply raise_wf | dsimp only | split | intro)

theorem refusal_wf (status detail : Nat) (s : State) (h_ : memWf s.mem = true) :
    memWf (refusal status detail s).state.mem = true := by
  unfold refusal
  repeat' (with_reducible first | assumption | dsimp only | split | intro)

theorem success_wf (data : List Byte) (s : State) (h_ : memWf s.mem = true) :
    memWf (success data s).state.mem = true := by
  unfold success
  repeat' (with_reducible first | assumption | dsimp only | split | intro)

theorem command_wf (l : Link) (code : Nat) (f : Request → State → Reply) (s : State) (h_f : ∀ i (s : State), memWf s.mem = true → memWf (f i s).state.mem = true) (h_ : memWf s.mem = true) :
    memWf (command l code f s).mem = true := by
  unfold command
  repeat' (with_reducible first | assumption | apply respond_wf | apply refusal_wf | apply h_f | dsimp only | split | intro)

theorem malformed_wf (l : Link) (offset : Nat) (s : State) (h_ : memWf s.mem = true) :
    memWf (malformed l offset s).state.mem = true := by
  unfold malformed
  repeat' (with_reducible first | assumption | apply refusal_wf | apply plainFail_wf | dsimp only | split | intro)

theorem sized_wf (l : Link) (n : Nat) (r : Request) (s : State) (k : Unit → Reply) (h_ : memWf s.mem = true) (h : memWf (k ()).state.mem = true) :
    memWf (sized l n r s k).state.mem = true := by
  unfold sized
  repeat' (with_reducible first | assumption | apply malformed_wf | dsimp only | split | intro)

theorem doIdentity_wf (l : Link) (s : State) (h_ : memWf s.mem = true) :
    memWf (doIdentity l s).mem = true := by
  unfold doIdentity
  repeat' (with_reducible first | assumption | apply command_wf | apply sized_wf | apply success_wf | dsimp only | split | intro)

theorem doAttest_wf (l : Link) (s : State) (h_ : memWf s.mem = true) :
    memWf (doAttest l s).mem = true := by
  unfold doAttest
  repeat' (with_reducible first | assumption | apply command_wf | apply sized_wf | apply success_wf | apply signed1_wf | dsimp only | split | intro)

theorem claimDone_wf (l : Link) (stored : Bool) (b : List Byte) (s : State) (h_ : memWf s.mem = true) :
    memWf (claimDone l stored b s).state.mem = true := by
  unfold claimDone
  repeat' (with_reducible first | assumption | apply refusal_wf | apply writeFailed_wf | apply raise_wf | apply logLife_wf | apply linkOk_wf | apply writeKeys_wf | apply success_wf | apply signed1_wf | dsimp only | split | intro)

theorem claimReply_wf (l : Link) (stored : Bool) (r : Request) (s : State) (h_ : memWf s.mem = true) :
    memWf (claimReply l stored r s).state.mem = true := by
  unfold claimReply
  repeat' (with_reducible first | assumption | apply refusal_wf | apply malformed_wf | apply plainFail_wf | apply signatureFail_wf | apply claimDone_wf | dsimp only | split | intro)

theorem doClaim_wf (l : Link) (stored : Bool) (s : State) (h_ : memWf s.mem = true) :
    memWf (doClaim l stored s).mem = true := by
  unfold doClaim
  repeat' (with_reducible first | assumption | apply claimReply_wf | apply refusal_wf | apply respond_wf | apply newChallenge_wf | dsimp only | split | intro)

theorem ownerCheck_wf (l : Link) (b : List Byte) (s : State) (h_ : memWf s.mem = true) (x_ : Reply) (hx_ : (ownerCheck l b s) = some x_) :
    memWf x_.state.mem = true := by
  unfold ownerCheck at hx_
  (try dsimp only at hx_) <;> (repeat' split at hx_) <;> first | (cases hx_; repeat' (with_reducible first | assumption | apply refusal_wf | apply malformed_wf | apply signatureFail_wf | apply countedFail_wf | dsimp only | split | intro)) | (simp at hx_; done) | (simp_all; done)

theorem ownerOp_wf (l : Link) (op : Nat) (stored : Bool) (pre : List Byte → State → Option Reply) (act : List Byte → State → State) (s : State) (h_pre : ∀ i (s : State) r, pre i s = some r → memWf s.mem = true → memWf r.state.mem = true) (h_act : ∀ i (s : State), memWf s.mem = true → memWf (act i s).mem = true) (h_ : memWf s.mem = true) :
    memWf (ownerOp l op stored pre act s).mem = true := by
  unfold ownerOp
  split
  · exact h_
  · split
    · exact h_
    · apply command_wf _ _ _ _ _ h_
      intro r s h_
      dsimp only
      split
      · rename_i x hx
        exact or_wf _ _ (fun y hy => ownerCheck_wf _ _ _ h_ _ hy) (fun y hy => h_pre _ _ _ hy h_) _ hx
      · repeat' (with_reducible first | assumption | apply command_wf | apply refusal_wf | apply writeFailed_wf | apply linkOk_wf | apply writeKeys_wf | apply success_wf | apply h_act | dsimp only | split | intro)

theorem slotRange_wf (b : List Byte) (s : State) (h_ : memWf s.mem = true) (x_ : Reply) (hx_ : (slotRange b s) = some x_) :
    memWf x_.state.mem = true := by
  unfold slotRange at hx_
  (try dsimp only at hx_) <;> (repeat' split at hx_) <;> first | (cases hx_; repeat' (with_reducible first | assumption | apply refusal_wf | dsimp only | split | intro)) | (simp at hx_; done) | (simp_all; done)

theorem setOperator_wf (i : Nat) (c : Option (List Byte)) (s : State) (h_ : memWf s.mem = true) :
    memWf (setOperator i c s).mem = true := by
  unfold setOperator
  repeat' (with_reducible first | assumption | apply writeKeys_wf | dsimp only | split | intro)

theorem closeSlot_wf (i : Nat) (s : State) (h_ : memWf s.mem = true) :
    memWf (closeSlot i s).mem = true := by
  unfold closeSlot
  repeat' (with_reducible first | assumption | apply closeSession_wf | apply foldl_wf | apply foldl1_wf | dsimp only | split | intro)

theorem doEnrol_wf (l : Link) (stored : Bool) (s : State) (h_ : memWf s.mem = true) :
    memWf (doEnrol l stored s).mem = true := by
  unfold doEnrol
  refine ownerOp_wf _ _ _ _ _ _ (fun b s x hx h_ => ?_) (fun b s h_ => ?_) h_
  · dsimp only at hx
    split at hx
    · cases hx; repeat' (with_reducible first | assumption | apply ownerOp_wf | apply malformed_wf | apply refusal_wf | apply signatureFail_wf | apply logLife_wf | apply setOperator_wf | dsimp only | split | intro)
    · refine or_wf _ _ (fun y hy => slotRange_wf _ _ h_ _ hy) (fun y hy => ?_) _ hx
      split at hy
      · cases hy
      · cases hy; repeat' (with_reducible first | assumption | apply ownerOp_wf | apply malformed_wf | apply refusal_wf | apply signatureFail_wf | apply logLife_wf | apply setOperator_wf | dsimp only | split | intro)
  · repeat' (with_reducible first | assumption | apply ownerOp_wf | apply malformed_wf | apply refusal_wf | apply signatureFail_wf | apply logLife_wf | apply setOperator_wf | dsimp only | split | intro)

theorem doRevoke_wf (l : Link) (stored : Bool) (s : State) (h_ : memWf s.mem = true) :
    memWf (doRevoke l stored s).mem = true := by
  unfold doRevoke
  refine ownerOp_wf _ _ _ _ _ _ (fun b s x hx h => slotRange_wf _ _ h _ hx) (fun b s h_ => ?_) h_
  repeat' (with_reducible first | assumption | apply ownerOp_wf | apply closeSlot_wf | apply logLife_wf | apply setOperator_wf | dsimp only | split | intro)

theorem doTransfer_wf (l : Link) (stored : Bool) (s : State) (h_ : memWf s.mem = true) :
    memWf (doTransfer l stored s).mem = true := by
  unfold doTransfer
  refine ownerOp_wf _ _ _ _ _ _ (fun b s x hx h_ => ?_) (fun b s h_ => ?_) h_
  · split at hx
    · cases hx
    · cases hx; repeat' (with_reducible first | assumption | apply ownerOp_wf | apply refusal_wf | apply plainFail_wf | apply raise_wf | apply closeAll_wf | apply logLife_wf | apply writeKeys_wf | dsimp only | split | intro)
  · repeat' (with_reducible first | assumption | apply ownerOp_wf | apply refusal_wf | apply plainFail_wf | apply raise_wf | apply closeAll_wf | apply logLife_wf | apply writeKeys_wf | dsimp only | split | intro)

theorem needNosync_wf (s : State) (h_ : memWf s.mem = true) (x_ : Reply) (hx_ : (needNosync s) = some x_) :
    memWf x_.state.mem = true := by
  unfold needNosync at hx_
  (try dsimp only at hx_) <;> (repeat' split at hx_) <;> first | (cases hx_; repeat' (with_reducible first | assumption | apply refusal_wf | dsimp only | split | intro)) | (simp at hx_; done) | (simp_all; done)

theorem doDecommission_wf (l : Link) (stored : Bool) (s : State) (h_ : memWf s.mem = true) :
    memWf (doDecommission l stored s).mem = true := by
  unfold doDecommission
  refine ownerOp_wf _ _ _ _ _ _ (fun b s x hx h => needNosync_wf _ h _ hx) (fun b s h_ => ?_) h_
  repeat' (with_reducible first | assumption | apply ownerOp_wf | apply decommission_wf | dsimp only | split | intro)

theorem doRetire_wf (l : Link) (stored : Bool) (s : State) (h_ : memWf s.mem = true) :
    memWf (doRetire l stored s).mem = true := by
  unfold doRetire
  refine ownerOp_wf _ _ _ _ _ _ (fun b s x hx h => needNosync_wf _ h _ hx) (fun b s h_ => ?_) h_
  repeat' (with_reducible first | assumption | apply ownerOp_wf | apply decommission_wf | dsimp only | split | intro)

theorem armRelease_wf (s : State) (h_ : memWf s.mem = true) :
    memWf (armRelease s).mem = true := by
  unfold armRelease
  repeat' (with_reducible first | assumption | apply raise_wf | dsimp only | split | intro)

theorem doForceRelease_wf (l : Link) (s : State) (h_ : memWf s.mem = true) :
    memWf (doForceRelease l s).mem = true := by
  unfold doForceRelease
  repeat' (with_reducible first | assumption | apply command_wf | apply sized_wf | apply refusal_wf | apply armRelease_wf | apply success_wf | dsimp only | split | intro)

theorem doReleaseReminder_wf (s : State) (h_ : memWf s.mem = true) :
    memWf (doReleaseReminder s).mem = true := by
  unfold doReleaseReminder
  repeat' (with_reducible first | assumption | apply raiseIf_wf | apply log_wf | dsimp only | split | intro)

theorem doReleaseCountdownExpiry_wf (s : State) (h_ : memWf s.mem = true) :
    memWf (doReleaseCountdownExpiry s).mem = true := by
  unfold doReleaseCountdownExpiry
  repeat' (with_reducible first | assumption | apply decommission_wf | dsimp only | split | intro)

theorem doChallengeExpiry_wf (s : State) (h_ : memWf s.mem = true) :
    memWf (doChallengeExpiry s).mem = true := by
  unfold doChallengeExpiry
  repeat' (with_reducible first | assumption | apply newChallenge_wf | dsimp only | split | intro)

theorem doEntropyHealthFailure_wf (s : State) (h_ : memWf s.mem = true) :
    memWf (doEntropyHealthFailure s).mem = true := by
  unfold doEntropyHealthFailure
  repeat' (with_reducible first | assumption | apply raise_wf | dsimp only | split | intro)

theorem doEntropyHealthRecovery_wf (s : State) (h_ : memWf s.mem = true) :
    memWf (doEntropyHealthRecovery s).mem = true := by
  unfold doEntropyHealthRecovery
  repeat' (with_reducible first | assumption | dsimp only | split | intro)

theorem envRefused_wf (l : Link) (x : Nat × Nat) (s : State) (h_ : memWf s.mem = true) :
    memWf (envRefused l x s).state.mem = true := by
  unfold envRefused
  repeat' (with_reducible first | assumption | apply malformed_wf | apply refusal_wf | apply signatureFail_wf | apply countedFail_wf | dsimp only | split | intro)

theorem doEnvInstall_wf (l : Link) (s : State) (h_ : memWf s.mem = true) :
    memWf (doEnvInstall l s).mem = true := by
  unfold doEnvInstall
  repeat' (with_reducible first | assumption | apply linkOk_wf | apply command_wf | apply refusal_wf | apply envRefused_wf | dsimp only | split | intro)

theorem storeEnvelope_wf (e : List Byte) (s : State) (h_ : memWf s.mem = true) :
    memWf (storeEnvelope e s).mem = true := by
  unfold storeEnvelope
  repeat' (with_reducible first | assumption | apply regionWritten_wf | dsimp only | split | intro)

theorem envelopeStored_wf (e : List Byte) (s : State) (h_ : memWf s.mem = true) :
    memWf (envelopeStored e s).mem = true := by
  unfold envelopeStored
  repeat' (with_reducible first | assumption | apply raise_wf | apply storeEnvelope_wf | apply envelopeBoundary_wf | dsimp only | split | intro)

theorem envAnswer_wf (l : Link) (before : State) (a : Reply) (h_ : memWf a.state.mem = true) :
    memWf (envAnswer l before a).mem = true := by
  unfold envAnswer
  repeat' (with_reducible first | assumption | apply respond_wf | dsimp only | split | intro)

theorem doEnvelopeWriteComplete_wf (ok : Bool) (s : State) (h_ : memWf s.mem = true) :
    memWf (doEnvelopeWriteComplete ok s).mem = true := by
  unfold doEnvelopeWriteComplete
  repeat' (with_reducible first | assumption | apply envAnswer_wf | apply refusal_wf | apply writeFailed_wf | apply envRefused_wf | apply envelopeStored_wf | apply success_wf | dsimp only | split | intro)

theorem doEnvelopeCopyError_wf (s : State) (h_ : memWf s.mem = true) :
    memWf (doEnvelopeCopyError s).mem = true := by
  unfold doEnvelopeCopyError
  repeat' (with_reducible first | assumption | apply envCopyError_wf | dsimp only | split | intro)

theorem doEnvelopeReloadComplete_wf (s : State) (h_ : memWf s.mem = true) :
    memWf (doEnvelopeReloadComplete s).mem = true := by
  unfold doEnvelopeReloadComplete
  repeat' (with_reducible first | assumption | apply raise_wf | dsimp only | split | intro)

theorem openWith_wf (l : Link) (b : List Byte) (d : Word × Nat) (s : State) (h_ : memWf s.mem = true) :
    memWf (openWith l b d s).state.mem = true := by
  unfold openWith
  repeat' (with_reducible first | assumption | apply success_wf | apply signed1_wf | apply State_setLink_wf | dsimp only | split | intro)

theorem openTwo_wf (l : Link) (b : List Byte) (s : State) (h_ : memWf s.mem = true) :
    memWf (openTwo l b s).state.mem = true := by
  unfold openTwo
  repeat' (with_reducible first | assumption | apply openWith_wf | apply refusal_wf | apply entropyUsed_wf | dsimp only | split | intro)

theorem doOpen1_wf (l : Link) (s : State) (h_ : memWf s.mem = true) :
    memWf (doOpen1 l s).mem = true := by
  unfold doOpen1
  repeat' (with_reducible first | assumption | apply command_wf | apply closeSession_wf | apply refusal_wf | apply malformed_wf | apply openTwo_wf | apply signatureFail_wf | dsimp only | split | intro)

theorem opened_wf (l : Link) (before : State) (r : Request) (o : Opening) (c : List Byte) (s : State) (h_ : memWf s.mem = true) :
    memWf (opened l before r o c s).mem = true := by
  unfold opened
  repeat' (with_reducible first | assumption | apply raise_wf | apply logLink_wf | apply linkOk_wf | apply State_setLink_wf | apply respond_wf | apply success_wf | dsimp only | split | intro)

theorem openFails_wf (l : Link) (status detail : Nat) (s : State) (h_ : memWf s.mem = true) :
    memWf (openFails l status detail s).state.mem = true := by
  unfold openFails
  repeat' (with_reducible first | assumption | apply State_setLink_wf | apply refusal_wf | apply plainFail_wf | apply signatureFail_wf | dsimp only | split | intro)

theorem doOpen3_wf (l : Link) (s : State) (h_ : memWf s.mem = true) :
    memWf (doOpen3 l s).mem = true := by
  unfold doOpen3
  repeat' (with_reducible first | assumption | apply respond_wf | apply openFails_wf | apply opened_wf | apply refusal_wf | dsimp only | split | intro)

theorem doClose_wf (l : Link) (s : State) (h_ : memWf s.mem = true) :
    memWf (doClose l s).mem = true := by
  unfold doClose
  repeat' (with_reducible first | assumption | apply command_wf | apply sized_wf | apply success_wf | apply closeSession_wf | dsimp only | split | intro)

theorem stageChunk_wf (l : Link) (a : Nat) (data : List Byte) (s : State) (h_ : memWf s.mem = true) :
    memWf (stageChunk l a data s).state.mem = true := by
  unfold stageChunk
  repeat' (with_reducible first | assumption | apply success_wf | dsimp only | split | intro)

theorem doCfgStage_wf (l : Link) (s : State) (h_ : memWf s.mem = true) :
    memWf (doCfgStage l s).mem = true := by
  unfold doCfgStage
  repeat' (with_reducible first | assumption | apply command_wf | apply refusal_wf | apply malformed_wf | apply stageChunk_wf | dsimp only | split | intro)

theorem doCfgDiscard_wf (l : Link) (s : State) (h_ : memWf s.mem = true) :
    memWf (doCfgDiscard l s).mem = true := by
  unfold doCfgDiscard
  repeat' (with_reducible first | assumption | apply command_wf | apply refusal_wf | apply sized_wf | apply success_wf | dsimp only | split | intro)

theorem commitDone_wf (b : Block) (s : State) (h_ : memWf s.mem = true) :
    memWf (commitDone b s).state.mem = true := by
  unfold commitDone
  repeat' (with_reducible first | assumption | apply applyPending_wf | apply success_wf | dsimp only | split | intro)

theorem doCfgCommit_wf (l : Link) (s : State) (h_ : memWf s.mem = true) :
    memWf (doCfgCommit l s).mem = true := by
  unfold doCfgCommit
  repeat' (with_reducible first | assumption | apply command_wf | apply refusal_wf | apply sized_wf | apply commitDone_wf | dsimp only | split | intro)

theorem doConfigStoreComplete_wf (ok : Bool) (s : State) (h_ : memWf s.mem = true) :
    memWf (doConfigStoreComplete ok s).mem = true := by
  unfold doConfigStoreComplete
  repeat' (with_reducible first | assumption | apply regionWritten_wf | apply writeFailed_wf | dsimp only | split | intro)

theorem doCfgRead_wf (l : Link) (s : State) (h_ : memWf s.mem = true) :
    memWf (doCfgRead l s).mem = true := by
  unfold doCfgRead
  repeat' (with_reducible first | assumption | apply command_wf | apply sized_wf | apply malformed_wf | apply refusal_wf | apply success_wf | dsimp only | split | intro)

theorem doCfgStatus_wf (l : Link) (s : State) (h_ : memWf s.mem = true) :
    memWf (doCfgStatus l s).mem = true := by
  unfold doCfgStatus
  repeat' (with_reducible first | assumption | apply command_wf | apply sized_wf | apply success_wf | dsimp only | split | intro)

theorem doPing_wf (l : Link) (s : State) (h_ : memWf s.mem = true) :
    memWf (doPing l s).mem = true := by
  unfold doPing
  repeat' (with_reducible first | assumption | apply command_wf | apply sized_wf | apply success_wf | dsimp only | split | intro)

theorem readSeq_wf (n a : Nat) (s : State) (h_ : memWf s.mem = true) : memWf (readSeq n a s).2.mem = true := by
  induction n generalizing a s with
  | zero => exact h_
  | succ n ih => exact ih _ _ (regLatch_wf _ _ _ h_)
theorem doReadRegs_wf (l : Link) (s : State) (h_ : memWf s.mem = true) :
    memWf (doReadRegs l s).mem = true := by
  unfold doReadRegs
  repeat' (with_reducible first | assumption | apply command_wf | apply sized_wf | apply malformed_wf | apply refusal_wf | apply success_wf | apply readSeq_wf | dsimp only | split | intro)

theorem doCycleRecord_wf (l : Link) (s : State) (h_ : memWf s.mem = true) :
    memWf (doCycleRecord l s).mem = true := by
  unfold doCycleRecord
  repeat' (with_reducible first | assumption | apply command_wf | apply sized_wf | apply refusal_wf | apply success_wf | apply signed1_wf | dsimp only | split | intro)

theorem doTelemetry_wf (l : Link) (s : State) (h_ : memWf s.mem = true) :
    memWf (doTelemetry l s).mem = true := by
  unfold doTelemetry
  repeat' (with_reducible first | assumption | apply command_wf | apply sized_wf | apply success_wf | dsimp only | split | intro)

theorem doLogRead_wf (l : Link) (s : State) (h_ : memWf s.mem = true) :
    memWf (doLogRead l s).mem = true := by
  unfold doLogRead
  repeat' (with_reducible first | assumption | apply command_wf | apply sized_wf | apply malformed_wf | apply refusal_wf | apply success_wf | dsimp only | split | intro)

theorem writeMailbox_wf (q first : Nat) (w : List Word) (s : State) (h_ : memWf s.mem = true) :
    memWf (writeMailbox q first w s).mem = true := by
  unfold writeMailbox
  repeat' (with_reducible first | assumption | apply latchSq_wf | apply State_setSq_wf | dsimp only | split | intro)

theorem doTargets_wf (l : Link) (s : State) (h_ : memWf s.mem = true) :
    memWf (doTargets l s).mem = true := by
  unfold doTargets
  repeat' (with_reducible first | assumption | apply command_wf | apply refusal_wf | apply malformed_wf | apply writeMailbox_wf | apply success_wf | dsimp only | split | intro)

theorem doImgBegin_wf (l : Link) (s : State) (h_ : memWf s.mem = true) :
    memWf (doImgBegin l s).mem = true := by
  unfold doImgBegin
  repeat' (with_reducible first | assumption | apply command_wf | apply refusal_wf | apply sized_wf | apply malformed_wf | apply setImage_wf | apply success_wf | dsimp only | split | intro)

theorem doImgData_wf (l : Link) (s : State) (h_ : memWf s.mem = true) :
    memWf (doImgData l s).mem = true := by
  unfold doImgData
  repeat' (with_reducible first | assumption | apply command_wf | apply refusal_wf | apply malformed_wf | apply blocksWritten_wf | apply setImage_wf | apply success_wf | dsimp only | split | intro)

theorem imageRefused_wf (l : Link) (x : Slot) (st : Nat) (s : State) (h_ : memWf s.mem = true) :
    memWf (imageRefused l x st s).mem = true := by
  unfold imageRefused
  repeat' (with_reducible first | assumption | apply raise_wf | apply logImage_wf | apply setImage_wf | apply plainFail_wf | apply signatureFail_wf | apply countedFail_wf | dsimp only | split | intro)

theorem doImgEnd_wf (l : Link) (s : State) (h_ : memWf s.mem = true) :
    memWf (doImgEnd l s).mem = true := by
  unfold doImgEnd
  repeat' (with_reducible first | assumption | apply command_wf | apply refusal_wf | apply sized_wf | apply imageRefused_wf | apply linkOk_wf | apply setImage_wf | apply success_wf | apply raise_wf | apply logImage_wf | dsimp only | split | intro)

theorem doImgSelect_wf (l : Link) (stored : Bool) (s : State) (h_ : memWf s.mem = true) :
    memWf (doImgSelect l stored s).mem = true := by
  unfold doImgSelect
  repeat' (with_reducible first | assumption | apply command_wf | apply refusal_wf | apply sized_wf | apply malformed_wf | apply writeFailed_wf | apply success_wf | apply writeKeys_wf | dsimp only | split | intro)

theorem doImgConfirm_wf (l : Link) (stored : Bool) (s : State) (h_ : memWf s.mem = true) :
    memWf (doImgConfirm l stored s).mem = true := by
  unfold doImgConfirm
  repeat' (with_reducible first | assumption | apply command_wf | apply sized_wf | apply refusal_wf | apply writeFailed_wf | apply writeKeys_wf | apply success_wf | apply raise_wf | apply logImage_wf | dsimp only | split | intro)

theorem doReset_wf (l : Link) (s : State) (h_ : memWf s.mem = true) :
    memWf (doReset l s).mem = true := by
  unfold doReset
  repeat' (with_reducible first | assumption | apply command_wf | apply refusal_wf | apply sized_wf | apply malformed_wf | apply success_wf | dsimp only | split | intro)

theorem shotReply_wf (a : Answer) (s : State) (h_ : memWf s.mem = true) :
    memWf (shotReply a s).state.mem = true := by
  unfold shotReply
  repeat' (with_reducible first | assumption | apply success_wf | apply refusal_wf | dsimp only | split | intro)

theorem doTestShot_wf (l : Link) (s : State) (h_ : memWf s.mem = true) :
    memWf (doTestShot l s).mem = true := by
  unfold doTestShot
  repeat' (with_reducible first | assumption | apply command_wf | apply refusal_wf | apply sized_wf | apply malformed_wf | apply insertEvent_wf | apply served_wf | apply shotReply_wf | dsimp only | split | intro)

theorem diagRun_wf (l : Link) (kind : Nat) (k : BitVec 64 → State → State) (s : State) (h_k : ∀ i (s : State), memWf s.mem = true → memWf (k i s).mem = true) (h_ : memWf s.mem = true) :
    memWf (diagRun l kind k s).mem = true := by
  unfold diagRun
  repeat' (with_reducible first | assumption | apply command_wf | apply refusal_wf | apply success_wf | apply h_k | dsimp only | split | intro)

theorem doDiagRunOffTest_wf (l : Link) (s : State) (h_ : memWf s.mem = true) :
    memWf (doDiagRunOffTest l s).mem = true := by
  unfold doDiagRunOffTest
  repeat' (with_reducible first | assumption | apply diagRun_wf | apply diagOffTest_wf | dsimp only | split | intro)

theorem doDiagRunClear_wf (l : Link) (s : State) (h_ : memWf s.mem = true) :
    memWf (doDiagRunClear l s).mem = true := by
  unfold doDiagRunClear
  repeat' (with_reducible first | assumption | apply diagRun_wf | apply diagClear_wf | dsimp only | split | intro)

theorem writeTimCtl_wf (n v : Nat) (s : State) (h_ : memWf s.mem = true) :
    memWf (writeTimCtl n v s).mem = true := by
  unfold writeTimCtl
  repeat' (with_reducible first | assumption | apply State_setTimer_wf | apply doTimerStop_wf | apply doTimerStart_wf | dsimp only | split | intro)

theorem writeTimCapcfg_wf (n v : Nat) (s : State) (h_ : memWf s.mem = true) :
    memWf (writeTimCapcfg n v s).mem = true := by
  unfold writeTimCapcfg
  repeat' (with_reducible first | assumption | apply State_setTimer_wf | dsimp only | split | intro)

theorem writeTimStat_wf (n v : Nat) (s : State) (h_ : memWf s.mem = true) :
    memWf (writeTimStat n v s).mem = true := by
  unfold writeTimStat
  repeat' (with_reducible first | assumption | apply State_setTimer_wf | dsimp only | split | intro)

theorem writeTimer_wf (n o : Nat) (v : Word) (s : State) (h_ : memWf s.mem = true) :
    memWf (writeTimer n o v s).mem = true := by
  unfold writeTimer
  repeat' (with_reducible first | assumption | apply writeTimCtl_wf | apply doTimerTargetWrite_wf | apply writeTimCapcfg_wf | apply writeTimStat_wf | apply State_setTimer_wf | dsimp only | split | intro)

theorem writeEbCtl_wf (n v : Nat) (s : State) (h_ : memWf s.mem = true) :
    memWf (writeEbCtl n v s).mem = true := by
  unfold writeEbCtl
  repeat' (with_reducible first | assumption | apply State_setEb_wf | apply ebSetMask_wf | apply doEbLoadArm_wf | apply doEbEnable_wf | apply doEbDisable_wf | dsimp only | split | intro)

theorem writeEbStat_wf (n v : Nat) (s : State) (h_ : memWf s.mem = true) :
    memWf (writeEbStat n v s).mem = true := by
  unfold writeEbStat
  repeat' (with_reducible first | assumption | apply State_setEb_wf | apply doEbTripClear_wf | dsimp only | split | intro)

theorem writeEb_wf (n o : Nat) (v : Word) (s : State) (h_ : memWf s.mem = true) :
    memWf (writeEb n o v s).mem = true := by
  unfold writeEb
  repeat' (with_reducible first | assumption | apply writeEbCtl_wf | apply doEbWrite_wf | apply ebShadow_wf | apply State_setEb_wf | apply writeEbStat_wf | dsimp only | split | intro)

theorem writeKc_wf (k o : Nat) (v : Word) (s : State) (h_ : memWf s.mem = true) :
    memWf (writeKc k o v s).mem = true := by
  unfold writeKc
  repeat' (with_reducible first | assumption | apply State_setKc_wf | dsimp only | split | intro)

theorem writePwm_wf (a : Nat) (v : Word) (s : State) (h_ : memWf s.mem = true) :
    memWf (writePwm a v s).mem = true := by
  unfold writePwm
  repeat' (with_reducible first | assumption | apply doPwmGlbLoad_wf | apply doPwmGlbStart_wf | apply writeEb_wf | apply writeKc_wf | dsimp only | split | intro)

theorem writeTim_wf (a : Nat) (v : Word) (s : State) (h_ : memWf s.mem = true) :
    memWf (writeTim a v s).mem = true := by
  unfold writeTim
  repeat' (with_reducible first | assumption | apply doTimGlbStart_wf | apply writeTimer_wf | dsimp only | split | intro)

theorem writeDch_wf (k o : Nat) (v : Word) (s : State) (h_ : memWf s.mem = true) :
    memWf (writeDch k o v s).mem = true := by
  unfold writeDch
  repeat' (with_reducible first | assumption | apply State_setDch_wf | dsimp only | split | intro)

theorem writePwrCtl_wf (v : Nat) (s : State) (h_ : memWf s.mem = true) :
    memWf (writePwrCtl v s).mem = true := by
  unfold writePwrCtl
  repeat' (with_reducible first | assumption | apply doStandbyRequest_wf | apply doSleepRequest_wf | dsimp only | split | intro)

theorem writeLevel_wf (w : Nat) (v : Word) (s : State) (h_ : memWf s.mem = true) :
    memWf (writeLevel w v s).mem = true := by
  unfold writeLevel
  repeat' (with_reducible first | assumption | dsimp only | split | intro)

theorem writeCc_wf (g : IrqTarget) (v : Nat) (s : State) (h_ : memWf s.mem = true) :
    memWf (writeCc g v s).mem = true := by
  unfold writeCc
  repeat' (with_reducible first | assumption | apply doIrqComplete_wf | apply doIrqClaim_wf | dsimp only | split | intro)

theorem writeMod_wf (v : Nat) (s : State) (h_ : memWf s.mem = true) :
    memWf (writeMod v s).mem = true := by
  unfold writeMod
  repeat' (with_reducible first | assumption | dsimp only | split | intro)

theorem writeTarget_wf (g : IrqTarget) (o : Nat) (v : Word) (s : State) (h_ : memWf s.mem = true) (x_ : State) (hx_ : (writeTarget g o v s) = some x_) :
    memWf x_.mem = true := by
  unfold writeTarget at hx_
  (try dsimp only at hx_) <;> (repeat' split at hx_) <;> first | (cases hx_; repeat' (with_reducible first | assumption | apply State_setTarget_wf | apply writeCc_wf | dsimp only | split | intro)) | (simp at hx_; done) | (simp_all; done)

theorem hostRefused_wf (s : State) (h_ : memWf s.mem = true) :
    memWf (hostRefused s).mem = true := by
  unfold hostRefused
  repeat' (with_reducible first | assumption | dsimp only | split | intro)

theorem writeTxBuf_wf (a : Nat) (v : Word) (s : State) (h_ : memWf s.mem = true) :
    memWf (writeTxBuf a v s).mem = true := by
  unfold writeTxBuf
  repeat' (with_reducible first | assumption | apply hostRefused_wf | dsimp only | split | intro)

theorem writeMbxCtl_wf (v : Nat) (s : State) (h_ : memWf s.mem = true) :
    memWf (writeMbxCtl v s).mem = true := by
  unfold writeMbxCtl
  repeat' (with_reducible first | assumption | apply doMbxAbort_wf | apply doMbxRxDone_wf | apply doMbxSend_wf | dsimp only | split | intro)

theorem hostWrite_wf (a : Nat) (v : Word) (s : State) (h_ : memWf s.mem = true) :
    memWf (hostWrite a v s).mem = true := by
  unfold hostWrite
  repeat' (with_reducible first | assumption | apply getD_wf | apply writeMbxCtl_wf | apply writeTxBuf_wf | apply writeMod_wf | apply hostRefused_wf | split)
  exact fun x hx => writeTarget_wf _ _ _ _ h_ _ hx

theorem codeWrite_wf (owner a : Nat) (v : Word) (s : State) (h_ : memWf s.mem = true) :
    memWf (codeWrite owner a v s).mem = true := by
  unfold codeWrite
  repeat' (with_reducible first | assumption | apply writePwrCtl_wf | apply writeLevel_wf | apply doFaultAcknowledge_wf | apply writeWdtCfg_wf | apply doWatchdogService_wf | apply writeTim_wf | apply writePwm_wf | apply doSetpointWrite_wf | apply doExtensionWrite_wf | apply writeDch_wf | dsimp only | split | intro)

theorem coreWrite_wf (a : Nat) (v : Word) (s : State) (h_ : memWf s.mem = true) :
    memWf (coreWrite a v s).mem = true := by
  unfold coreWrite
  split
  · exact h_
  · split
    · exact getD_wf _ _ (fun x hx => writeTarget_wf _ _ _ _ h_ _ hx) h_
    · exact codeWrite_wf _ _ _ _ h_

theorem doRegisterWrite_wf (r : Requester) (a : Nat) (v : Word) (s : State) (h_ : memWf s.mem = true) :
    memWf (doRegisterWrite r a v s).mem = true := by
  unfold doRegisterWrite
  repeat' (with_reducible first | assumption | apply hostWrite_wf | apply coreWrite_wf | apply codeWrite_wf | dsimp only | split | intro)

theorem setReg_wf (i d : Nat) (v : Word) (s : State) (h_ : memWf s.mem = true) :
    memWf (setReg i d v s).mem = true := by
  unfold setReg
  repeat' (with_reducible first | assumption | apply State_setCtx_wf | dsimp only | split | intro)

theorem setPc_wf (i : Nat) (p : BitVec 16) (s : State) (h_ : memWf s.mem = true) :
    memWf (setPc i p s).mem = true := by
  unfold setPc
  repeat' (with_reducible first | assumption | apply State_setCtx_wf | dsimp only | split | intro)

theorem nextPc_wf (i : Nat) (s : State) (h_ : memWf s.mem = true) :
    memWf (nextPc i s).mem = true := by
  unfold nextPc
  repeat' (with_reducible first | assumption | apply setPc_wf | dsimp only | split | intro)

theorem writeD_wf (i d : Nat) (v : Word) (s : State) (h_ : memWf s.mem = true) :
    memWf (writeD i d v s).mem = true := by
  unfold writeD
  repeat' (with_reducible first | assumption | apply nextPc_wf | apply setReg_wf | dsimp only | split | intro)

theorem setQ_wf (i : Nat) (b : Bool) (s : State) (h_ : memWf s.mem = true) :
    memWf (setQ i b s).mem = true := by
  unfold setQ
  repeat' (with_reducible first | assumption | apply State_setCtx_wf | dsimp only | split | intro)

theorem haltTask_wf (i by' : Nat) (s : State) (h_ : memWf s.mem = true) :
    memWf (haltTask i by' s).mem = true := by
  unfold haltTask
  repeat' (with_reducible first | assumption | apply fault_wf | apply State_setCtx_wf | apply haltCancel_wf | dsimp only | split | intro)

theorem logTask_wf (i cause : Nat) (pc : BitVec 16) (s : State) (h_ : memWf s.mem = true) :
    memWf (logTask i cause pc s).mem = true := by
  unfold logTask
  repeat' (with_reducible first | assumption | apply log_wf | dsimp only | split | intro)

theorem countSegFault_wf (s : State) (h_ : memWf s.mem = true) :
    memWf (countSegFault s).mem = true := by
  unfold countSegFault
  repeat' (with_reducible first | assumption | dsimp only | split | intro)

theorem takeFault_wf (i cause : Nat) (faddr : Word) (s : State) (h_ : memWf s.mem = true) :
    memWf (takeFault i cause faddr s).mem = true := by
  unfold takeFault
  repeat' (with_reducible first | assumption | apply countSegFault_wf | apply logTask_wf | apply State_setCtx_wf | apply haltTask_wf | dsimp only | split | intro)

theorem budgetFault_wf (i : Nat) (s : State) (h_ : memWf s.mem = true) :
    memWf (budgetFault i s).mem = true := by
  unfold budgetFault
  repeat' (with_reducible first | assumption | apply takeFault_wf | dsimp only | split | intro)

theorem doBudgetExhausted_wf (q p : Nat) (s : State) (h_ : memWf s.mem = true) :
    memWf (doBudgetExhausted q p s).mem = true := by
  unfold doBudgetExhausted
  repeat' (with_reducible first | assumption | apply budgetFault_wf | dsimp only | split | intro)

theorem toReady_wf (j : Nat) (s : State) (h_ : memWf s.mem = true) :
    memWf (toReady j s).mem = true := by
  unfold toReady
  repeat' (with_reducible first | assumption | apply State_setCtx_wf | dsimp only | split | intro)

theorem occupy_wf (i : Nat) (s : State) (h_ : memWf s.mem = true) :
    memWf (occupy i s).mem = true := by
  unfold occupy
  repeat' (with_reducible first | assumption | apply forEach_wf | apply toReady_wf | apply State_setCtx_wf | apply State_setSq_wf | dsimp only | split | intro)

theorem atBoundary_wf (q : Nat) (s : State) (h_ : memWf s.mem = true) :
    memWf (atBoundary q s).mem = true := by
  unfold atBoundary
  repeat' (with_reducible first | assumption | apply forEach_wf | apply budgetFault_wf | dsimp only | split | intro)

theorem Done_finish_wf (i : Nat) (d : Done) (h_ : memWf d.st.mem = true) : memWf (d.finish i).mem = true := by
  cases d <;> simp only [Done.finish, Done.st_next, Done.st_fault] at h_ ⊢ <;> repeat' (with_reducible first | assumption | apply atBoundary_wf | apply occupy_wf | apply eccRead_wf | apply takeFault_wf | apply eccFound_wf | apply h_run | dsimp only | split | intro)
theorem issueWith_wf (n : Issue) (run : Nat → Word → State → Option Done) (s0 : State) (h_run : ∀ i w (s : State) d, run i w s = some d → memWf s.mem = true → memWf d.st.mem = true) (h_ : memWf s0.mem = true) :
    memWf (issueWith n run s0).mem = true := by
  unfold issueWith
  dsimp only
  split
  · exact h_
  · split
    · exact h_
    · split
      · split
        · rename_i hd
          refine Done_finish_wf _ _ (h_run _ _ _ _ hd ?_)
          repeat' (with_reducible first | assumption | apply atBoundary_wf | apply occupy_wf | apply eccRead_wf | apply takeFault_wf | apply eccFound_wf | apply h_run | dsimp only | split | intro)
        · exact h_
      · repeat' (with_reducible first | assumption | apply atBoundary_wf | apply occupy_wf | apply eccRead_wf | apply takeFault_wf | apply eccFound_wf | apply h_run | dsimp only | split | intro)
      · repeat' (with_reducible first | assumption | apply atBoundary_wf | apply occupy_wf | apply eccRead_wf | apply takeFault_wf | apply eccFound_wf | apply h_run | dsimp only | split | intro)

theorem issueOp_wf (op : AOp) (n : Issue) (run : Nat → AInstr → State → Done) (s : State) (h_run : ∀ i w (s : State), memWf s.mem = true → memWf (run i w s).st.mem = true) (h_ : memWf s.mem = true) :
    memWf (issueOp op n run s).mem = true := by
  unfold issueOp
  apply issueWith_wf _ _ _ _ h_
  intro i w s d hd h
  (repeat' split at hd) <;> cases hd
  exact h_run _ _ _ h

theorem doIllegalInstruction_wf (n : Issue) (s : State) (h_ : memWf s.mem = true) :
    memWf (doIllegalInstruction n s).mem = true := by
  unfold doIllegalInstruction
  apply issueWith_wf _ _ _ _ h_
  intro i w s d hd h
  split at hd <;> cases hd
  exact h

theorem aluR_wf (f : Word → Word → Word) (i : Nat) (x : AInstr) (s : State) (h_ : memWf s.mem = true) :
    memWf (aluR f i x s).st.mem = true := by
  unfold aluR
  repeat' (with_reducible first | assumption | apply writeD_wf | simp only [Done.st_next, Done.st_fault] | dsimp only | split | intro)

theorem aluI_wf (f : Word → Nat → Word) (i : Nat) (x : AInstr) (s : State) (h_ : memWf s.mem = true) :
    memWf (aluI f i x s).st.mem = true := by
  unfold aluI
  repeat' (with_reducible first | assumption | apply writeD_wf | simp only [Done.st_next, Done.st_fault] | dsimp only | split | intro)

theorem additive_wf (f : Ctx → Word → SumFlags) (b : Ctx → Word) (i : Nat) (x : AInstr) (s : State) (h_ : memWf s.mem = true) :
    memWf (additive f b i x s).st.mem = true := by
  unfold additive
  repeat' (with_reducible first | assumption | apply writeD_wf | apply State_setCtx_wf | simp only [Done.st_next, Done.st_fault] | dsimp only | split | intro)

theorem effAdd_wf (i : Nat) (x : AInstr) (s : State) (h_ : memWf s.mem = true) :
    memWf (effAdd i x s).st.mem = true := by
  unfold effAdd
  repeat' (with_reducible first | assumption | apply additive_wf | simp only [Done.st_next, Done.st_fault] | dsimp only | split | intro)

theorem effSub_wf (i : Nat) (x : AInstr) (s : State) (h_ : memWf s.mem = true) :
    memWf (effSub i x s).st.mem = true := by
  unfold effSub
  repeat' (with_reducible first | assumption | apply additive_wf | simp only [Done.st_next, Done.st_fault] | dsimp only | split | intro)

theorem effAddc_wf (i : Nat) (x : AInstr) (s : State) (h_ : memWf s.mem = true) :
    memWf (effAddc i x s).st.mem = true := by
  unfold effAddc
  repeat' (with_reducible first | assumption | apply additive_wf | simp only [Done.st_next, Done.st_fault] | dsimp only | split | intro)

theorem effSubc_wf (i : Nat) (x : AInstr) (s : State) (h_ : memWf s.mem = true) :
    memWf (effSubc i x s).st.mem = true := by
  unfold effSubc
  repeat' (with_reducible first | assumption | apply additive_wf | simp only [Done.st_next, Done.st_fault] | dsimp only | split | intro)

theorem effAddi_wf (i : Nat) (x : AInstr) (s : State) (h_ : memWf s.mem = true) :
    memWf (effAddi i x s).st.mem = true := by
  unfold effAddi
  repeat' (with_reducible first | assumption | apply additive_wf | simp only [Done.st_next, Done.st_fault] | dsimp only | split | intro)

theorem effLui_wf (i : Nat) (x : AInstr) (s : State) (h_ : memWf s.mem = true) :
    memWf (effLui i x s).st.mem = true := by
  unfold effLui
  repeat' (with_reducible first | assumption | apply writeD_wf | simp only [Done.st_next, Done.st_fault] | dsimp only | split | intro)

theorem effAngle_wf (f : State → Word → Word → Option Word) (i : Nat) (x : AInstr) (s : State) (h_ : memWf s.mem = true) :
    memWf (effAngle f i x s).st.mem = true := by
  unfold effAngle
  repeat' (with_reducible first | assumption | apply writeD_wf | apply setQ_wf | simp only [Done.st_next, Done.st_fault] | dsimp only | split | intro)

theorem branchIf_wf (take : Bool) (i : Nat) (x : AInstr) (s : State) (h_ : memWf s.mem = true) :
    memWf (branchIf take i x s).st.mem = true := by
  unfold branchIf
  repeat' (with_reducible first | assumption | apply setPc_wf | apply nextPc_wf | simp only [Done.st_next, Done.st_fault] | dsimp only | split | intro)

theorem effBranch_wf (p : Word → Word → Bool) (i : Nat) (x : AInstr) (s : State) (h_ : memWf s.mem = true) :
    memWf (effBranch p i x s).st.mem = true := by
  unfold effBranch
  repeat' (with_reducible first | assumption | apply branchIf_wf | simp only [Done.st_next, Done.st_fault] | dsimp only | split | intro)

theorem effBf_wf (i : Nat) (x : AInstr) (s : State) (h_ : memWf s.mem = true) :
    memWf (effBf i x s).st.mem = true := by
  unfold effBf
  repeat' (with_reducible first | assumption | apply branchIf_wf | simp only [Done.st_next, Done.st_fault] | dsimp only | split | intro)

theorem effJmp_wf (i : Nat) (x : AInstr) (s : State) (h_ : memWf s.mem = true) :
    memWf (effJmp i x s).st.mem = true := by
  unfold effJmp
  repeat' (with_reducible first | assumption | apply setPc_wf | simp only [Done.st_next, Done.st_fault] | dsimp only | split | intro)

theorem effJal_wf (i : Nat) (x : AInstr) (s : State) (h_ : memWf s.mem = true) :
    memWf (effJal i x s).st.mem = true := by
  unfold effJal
  repeat' (with_reducible first | assumption | apply setPc_wf | apply setReg_wf | simp only [Done.st_next, Done.st_fault] | dsimp only | split | intro)

theorem effJr_wf (i : Nat) (x : AInstr) (s : State) (h_ : memWf s.mem = true) :
    memWf (effJr i x s).st.mem = true := by
  unfold effJr
  repeat' (with_reducible first | assumption | apply setPc_wf | apply State_setCtx_wf | simp only [Done.st_next, Done.st_fault] | dsimp only | split | intro)

theorem effSnap_wf (i : Nat) (_x : AInstr) (s : State) (h_ : memWf s.mem = true) :
    memWf (effSnap i _x s).st.mem = true := by
  unfold effSnap
  repeat' (with_reducible first | assumption | apply nextPc_wf | apply State_setCtx_wf | simp only [Done.st_next, Done.st_fault] | dsimp only | split | intro)

theorem wakeSnap_wf (i : Nat) (s : State) (h_ : memWf s.mem = true) :
    memWf (wakeSnap i s).mem = true := by
  unfold wakeSnap
  repeat' (with_reducible first | assumption | apply makeReady_wf | apply State_setCtx_wf | dsimp only | split | intro)

theorem stepsNow_wf (s : State) (h_ : memWf s.mem = true) :
    memWf (stepsNow s).mem = true := by
  unfold stepsNow
  repeat' (with_reducible first | assumption | apply stepsDone_wf | apply forEach_wf | apply wakeSnap_wf | dsimp only | split | intro)

theorem effRds_wf (i : Nat) (x : AInstr) (s : State) (h_ : memWf s.mem = true) :
    memWf (effRds i x s).st.mem = true := by
  unfold effRds
  repeat' (with_reducible first | assumption | apply State_setCtx_wf | apply writeD_wf | simp only [Done.st_next, Done.st_fault] | dsimp only | split | intro)

theorem effYield_wf (i : Nat) (_x : AInstr) (s : State) (h_ : memWf s.mem = true) :
    memWf (effYield i _x s).st.mem = true := by
  unfold effYield
  repeat' (with_reducible first | assumption | apply makeReady_wf | apply nextPc_wf | simp only [Done.st_next, Done.st_fault] | dsimp only | split | intro)

theorem effEnd_wf (i : Nat) (_x : AInstr) (s : State) (h_ : memWf s.mem = true) :
    memWf (effEnd i _x s).st.mem = true := by
  unfold effEnd
  repeat' (with_reducible first | assumption | apply nextPc_wf | apply State_setCtx_wf | apply startActivation_wf | simp only [Done.st_next, Done.st_fault] | dsimp only | split | intro)

theorem doAdd_wf (n : Issue) (s : State) (h_ : memWf s.mem = true) :
    memWf (doAdd n s).mem = true := by
  unfold doAdd
  repeat' (with_reducible first | assumption | apply issueOp_wf | apply effAdd_wf | dsimp only | split | intro)

theorem doSub_wf (n : Issue) (s : State) (h_ : memWf s.mem = true) :
    memWf (doSub n s).mem = true := by
  unfold doSub
  repeat' (with_reducible first | assumption | apply issueOp_wf | apply effSub_wf | dsimp only | split | intro)

theorem doAddc_wf (n : Issue) (s : State) (h_ : memWf s.mem = true) :
    memWf (doAddc n s).mem = true := by
  unfold doAddc
  repeat' (with_reducible first | assumption | apply issueOp_wf | apply effAddc_wf | dsimp only | split | intro)

theorem doSubc_wf (n : Issue) (s : State) (h_ : memWf s.mem = true) :
    memWf (doSubc n s).mem = true := by
  unfold doSubc
  repeat' (with_reducible first | assumption | apply issueOp_wf | apply effSubc_wf | dsimp only | split | intro)

theorem doAnd_wf (n : Issue) (s : State) (h_ : memWf s.mem = true) :
    memWf (doAnd n s).mem = true := by
  unfold doAnd
  repeat' (with_reducible first | assumption | apply issueOp_wf | apply aluR_wf | dsimp only | split | intro)

theorem doOr_wf (n : Issue) (s : State) (h_ : memWf s.mem = true) :
    memWf (doOr n s).mem = true := by
  unfold doOr
  repeat' (with_reducible first | assumption | apply issueOp_wf | apply aluR_wf | dsimp only | split | intro)

theorem doXor_wf (n : Issue) (s : State) (h_ : memWf s.mem = true) :
    memWf (doXor n s).mem = true := by
  unfold doXor
  repeat' (with_reducible first | assumption | apply issueOp_wf | apply aluR_wf | dsimp only | split | intro)

theorem doShl_wf (n : Issue) (s : State) (h_ : memWf s.mem = true) :
    memWf (doShl n s).mem = true := by
  unfold doShl
  repeat' (with_reducible first | assumption | apply issueOp_wf | apply aluR_wf | dsimp only | split | intro)

theorem doShr_wf (n : Issue) (s : State) (h_ : memWf s.mem = true) :
    memWf (doShr n s).mem = true := by
  unfold doShr
  repeat' (with_reducible first | assumption | apply issueOp_wf | apply aluR_wf | dsimp only | split | intro)

theorem doSar_wf (n : Issue) (s : State) (h_ : memWf s.mem = true) :
    memWf (doSar n s).mem = true := by
  unfold doSar
  repeat' (with_reducible first | assumption | apply issueOp_wf | apply aluR_wf | dsimp only | split | intro)

theorem doMul_wf (n : Issue) (s : State) (h_ : memWf s.mem = true) :
    memWf (doMul n s).mem = true := by
  unfold doMul
  repeat' (with_reducible first | assumption | apply issueOp_wf | apply aluR_wf | dsimp only | split | intro)

theorem doMulhu_wf (n : Issue) (s : State) (h_ : memWf s.mem = true) :
    memWf (doMulhu n s).mem = true := by
  unfold doMulhu
  repeat' (with_reducible first | assumption | apply issueOp_wf | apply aluR_wf | dsimp only | split | intro)

theorem doMulhs_wf (n : Issue) (s : State) (h_ : memWf s.mem = true) :
    memWf (doMulhs n s).mem = true := by
  unfold doMulhs
  repeat' (with_reducible first | assumption | apply issueOp_wf | apply aluR_wf | dsimp only | split | intro)

theorem doDivu_wf (n : Issue) (s : State) (h_ : memWf s.mem = true) :
    memWf (doDivu n s).mem = true := by
  unfold doDivu
  repeat' (with_reducible first | assumption | apply issueOp_wf | apply aluR_wf | dsimp only | split | intro)

theorem doRemu_wf (n : Issue) (s : State) (h_ : memWf s.mem = true) :
    memWf (doRemu n s).mem = true := by
  unfold doRemu
  repeat' (with_reducible first | assumption | apply issueOp_wf | apply aluR_wf | dsimp only | split | intro)

theorem doSlt_wf (n : Issue) (s : State) (h_ : memWf s.mem = true) :
    memWf (doSlt n s).mem = true := by
  unfold doSlt
  repeat' (with_reducible first | assumption | apply issueOp_wf | apply aluR_wf | dsimp only | split | intro)

theorem doSltu_wf (n : Issue) (s : State) (h_ : memWf s.mem = true) :
    memWf (doSltu n s).mem = true := by
  unfold doSltu
  repeat' (with_reducible first | assumption | apply issueOp_wf | apply aluR_wf | dsimp only | split | intro)

theorem doAdda_wf (n : Issue) (s : State) (h_ : memWf s.mem = true) :
    memWf (doAdda n s).mem = true := by
  unfold doAdda
  repeat' (with_reducible first | assumption | apply issueOp_wf | apply effAngle_wf | dsimp only | split | intro)

theorem doDista_wf (n : Issue) (s : State) (h_ : memWf s.mem = true) :
    memWf (doDista n s).mem = true := by
  unfold doDista
  repeat' (with_reducible first | assumption | apply issueOp_wf | apply effAngle_wf | dsimp only | split | intro)

theorem doAddi_wf (n : Issue) (s : State) (h_ : memWf s.mem = true) :
    memWf (doAddi n s).mem = true := by
  unfold doAddi
  repeat' (with_reducible first | assumption | apply issueOp_wf | apply effAddi_wf | dsimp only | split | intro)

theorem doAndi_wf (n : Issue) (s : State) (h_ : memWf s.mem = true) :
    memWf (doAndi n s).mem = true := by
  unfold doAndi
  repeat' (with_reducible first | assumption | apply issueOp_wf | apply aluI_wf | dsimp only | split | intro)

theorem doOri_wf (n : Issue) (s : State) (h_ : memWf s.mem = true) :
    memWf (doOri n s).mem = true := by
  unfold doOri
  repeat' (with_reducible first | assumption | apply issueOp_wf | apply aluI_wf | dsimp only | split | intro)

theorem doXori_wf (n : Issue) (s : State) (h_ : memWf s.mem = true) :
    memWf (doXori n s).mem = true := by
  unfold doXori
  repeat' (with_reducible first | assumption | apply issueOp_wf | apply aluI_wf | dsimp only | split | intro)

theorem doShli_wf (n : Issue) (s : State) (h_ : memWf s.mem = true) :
    memWf (doShli n s).mem = true := by
  unfold doShli
  repeat' (with_reducible first | assumption | apply issueOp_wf | apply aluI_wf | dsimp only | split | intro)

theorem doShri_wf (n : Issue) (s : State) (h_ : memWf s.mem = true) :
    memWf (doShri n s).mem = true := by
  unfold doShri
  repeat' (with_reducible first | assumption | apply issueOp_wf | apply aluI_wf | dsimp only | split | intro)

theorem doSari_wf (n : Issue) (s : State) (h_ : memWf s.mem = true) :
    memWf (doSari n s).mem = true := by
  unfold doSari
  repeat' (with_reducible first | assumption | apply issueOp_wf | apply aluI_wf | dsimp only | split | intro)

theorem doLui_wf (n : Issue) (s : State) (h_ : memWf s.mem = true) :
    memWf (doLui n s).mem = true := by
  unfold doLui
  repeat' (with_reducible first | assumption | apply issueOp_wf | apply effLui_wf | dsimp only | split | intro)

theorem doBeq_wf (n : Issue) (s : State) (h_ : memWf s.mem = true) :
    memWf (doBeq n s).mem = true := by
  unfold doBeq
  repeat' (with_reducible first | assumption | apply issueOp_wf | apply effBranch_wf | dsimp only | split | intro)

theorem doBne_wf (n : Issue) (s : State) (h_ : memWf s.mem = true) :
    memWf (doBne n s).mem = true := by
  unfold doBne
  repeat' (with_reducible first | assumption | apply issueOp_wf | apply effBranch_wf | dsimp only | split | intro)

theorem doBlt_wf (n : Issue) (s : State) (h_ : memWf s.mem = true) :
    memWf (doBlt n s).mem = true := by
  unfold doBlt
  repeat' (with_reducible first | assumption | apply issueOp_wf | apply effBranch_wf | dsimp only | split | intro)

theorem doBge_wf (n : Issue) (s : State) (h_ : memWf s.mem = true) :
    memWf (doBge n s).mem = true := by
  unfold doBge
  repeat' (with_reducible first | assumption | apply issueOp_wf | apply effBranch_wf | dsimp only | split | intro)

theorem doBltu_wf (n : Issue) (s : State) (h_ : memWf s.mem = true) :
    memWf (doBltu n s).mem = true := by
  unfold doBltu
  repeat' (with_reducible first | assumption | apply issueOp_wf | apply effBranch_wf | dsimp only | split | intro)

theorem doBgeu_wf (n : Issue) (s : State) (h_ : memWf s.mem = true) :
    memWf (doBgeu n s).mem = true := by
  unfold doBgeu
  repeat' (with_reducible first | assumption | apply issueOp_wf | apply effBranch_wf | dsimp only | split | intro)

theorem doBf_wf (n : Issue) (s : State) (h_ : memWf s.mem = true) :
    memWf (doBf n s).mem = true := by
  unfold doBf
  repeat' (with_reducible first | assumption | apply issueOp_wf | apply effBf_wf | dsimp only | split | intro)

theorem doJmp_wf (n : Issue) (s : State) (h_ : memWf s.mem = true) :
    memWf (doJmp n s).mem = true := by
  unfold doJmp
  repeat' (with_reducible first | assumption | apply issueOp_wf | apply effJmp_wf | dsimp only | split | intro)

theorem doJal_wf (n : Issue) (s : State) (h_ : memWf s.mem = true) :
    memWf (doJal n s).mem = true := by
  unfold doJal
  repeat' (with_reducible first | assumption | apply issueOp_wf | apply effJal_wf | dsimp only | split | intro)

theorem doJr_wf (n : Issue) (s : State) (h_ : memWf s.mem = true) :
    memWf (doJr n s).mem = true := by
  unfold doJr
  repeat' (with_reducible first | assumption | apply issueOp_wf | apply effJr_wf | dsimp only | split | intro)

theorem doSnap_wf (n : Issue) (s : State) (h_ : memWf s.mem = true) :
    memWf (doSnap n s).mem = true := by
  unfold doSnap
  repeat' (with_reducible first | assumption | apply issueOp_wf | apply effSnap_wf | dsimp only | split | intro)

theorem doRds_wf (n : Issue) (s : State) (h_ : memWf s.mem = true) :
    memWf (doRds n s).mem = true := by
  unfold doRds
  repeat' (with_reducible first | assumption | apply issueOp_wf | apply effRds_wf | dsimp only | split | intro)

theorem doYield_wf (n : Issue) (s : State) (h_ : memWf s.mem = true) :
    memWf (doYield n s).mem = true := by
  unfold doYield
  repeat' (with_reducible first | assumption | apply issueOp_wf | apply effYield_wf | dsimp only | split | intro)

theorem doEnd_wf (n : Issue) (s : State) (h_ : memWf s.mem = true) :
    memWf (doEnd n s).mem = true := by
  unfold doEnd
  repeat' (with_reducible first | assumption | apply issueOp_wf | apply effEnd_wf | dsimp only | split | intro)

theorem readLatch_wf (r : Requester) (a : Nat) (s : State) (h_ : memWf s.mem = true) :
    memWf (readLatch r a s).mem = true := by
  unfold readLatch
  repeat' (with_reducible first | assumption | apply regLatch_wf | dsimp only | split | intro)

theorem withAccess_wf (r : Right) (n : Nat) (e : Ecc) (i : Nat) (x : AInstr) (f : Nat → State → State) (s : State) (h_f : ∀ i (s : State), memWf s.mem = true → memWf (f i s).mem = true) (h_ : memWf s.mem = true) :
    memWf (withAccess r n e i x f s).st.mem = true := by
  unfold withAccess
  repeat' (with_reducible first | assumption | apply eccRead_wf | apply fault_wf | apply eccFound_wf | apply h_f | simp only [Done.st_next, Done.st_fault] | dsimp only | split | intro)

theorem effLoad_wf (n : Nat) (e : Ecc) (i : Nat) (x : AInstr) (s : State) (h_ : memWf s.mem = true) :
    memWf (effLoad n e i x s).st.mem = true := by
  unfold effLoad
  repeat' (with_reducible first | assumption | apply withAccess_wf | apply writeD_wf | apply readLatch_wf | simp only [Done.st_next, Done.st_fault] | dsimp only | split | intro)

theorem storeWord_wf (i a : Nat) (v : Word) (s : State) (h_ : memWf s.mem = true) :
    memWf (storeWord i a v s).mem = true := by
  unfold storeWord
  repeat' (with_reducible first | assumption | apply doRegisterWrite_wf | apply State_memSetWord_wf | dsimp only | split | intro)

theorem effStore_wf (i : Nat) (x : AInstr) (s : State) (h_ : memWf s.mem = true) :
    memWf (effStore i x s).st.mem = true := by
  unfold effStore
  repeat' (with_reducible first | assumption | apply withAccess_wf | apply nextPc_wf | apply storeWord_wf | simp only [Done.st_next, Done.st_fault] | dsimp only | split | intro)

theorem effPatch_wf (n : Nat) (e : Ecc) (i : Nat) (x : AInstr) (s : State) (h_ : memWf s.mem = true) :
    memWf (effPatch n e i x s).st.mem = true := by
  unfold effPatch
  repeat' (with_reducible first | assumption | apply withAccess_wf | apply nextPc_wf | apply storeWord_wf | simp only [Done.st_next, Done.st_fault] | dsimp only | split | intro)

theorem effCaprd_wf (e : Ecc) (i : Nat) (x : AInstr) (s : State) (h_ : memWf s.mem = true) :
    memWf (effCaprd e i x s).st.mem = true := by
  unfold effCaprd
  repeat' (with_reducible first | assumption | apply writeD_wf | apply setQ_wf | apply fault_wf | apply eccFound_wf | apply eccRead_wf | simp only [Done.st_next, Done.st_fault] | dsimp only | split | intro)

theorem effMbxrd_wf (i : Nat) (x : AInstr) (s : State) (h_ : memWf s.mem = true) :
    memWf (effMbxrd i x s).st.mem = true := by
  unfold effMbxrd
  repeat' (with_reducible first | assumption | apply writeD_wf | simp only [Done.st_next, Done.st_fault] | dsimp only | split | intro)

theorem effMbxcp_wf (i : Nat) (x : AInstr) (s : State) (h_ : memWf s.mem = true) :
    memWf (effMbxcp i x s).st.mem = true := by
  unfold effMbxcp
  repeat' (with_reducible first | assumption | apply nextPc_wf | apply setQ_wf | apply fault_wf | apply writeD_wf | apply State_memWrite_wf | simp only [Done.st_next, Done.st_fault] | dsimp only | split | intro)

theorem effNote_wf (i : Nat) (x : AInstr) (s : State) (h_ : memWf s.mem = true) :
    memWf (effNote i x s).st.mem = true := by
  unfold effNote
  repeat' (with_reducible first | assumption | apply nextPc_wf | apply setReg_wf | apply setQ_wf | apply State_setSq_wf | simp only [Done.st_next, Done.st_fault] | dsimp only | split | intro)

theorem dmaStart_wf (i c desc : Nat) (s : State) (h_ : memWf s.mem = true) :
    memWf (dmaStart i c desc s).mem = true := by
  unfold dmaStart
  repeat' (with_reducible first | assumption | apply State_setDma_wf | dsimp only | split | intro)

theorem effDmago_wf (i : Nat) (x : AInstr) (s : State) (h_ : memWf s.mem = true) :
    memWf (effDmago i x s).st.mem = true := by
  unfold effDmago
  repeat' (with_reducible first | assumption | apply dmaStart_wf | apply writeD_wf | simp only [Done.st_next, Done.st_fault] | dsimp only | split | intro)

theorem signalIn_wf (q j : Nat) (s : State) (h_ : memWf s.mem = true) :
    memWf (signalIn q j s).mem = true := by
  unfold signalIn
  repeat' (with_reducible first | assumption | apply State_setCtx_wf | dsimp only | split | intro)

theorem signalAll_wf (q d : Nat) (s : State) (h_ : memWf s.mem = true) :
    memWf (signalAll q d s).mem = true := by
  unfold signalAll
  repeat' (with_reducible first | assumption | apply forEach_wf | apply signalIn_wf | apply State_setSq_wf | dsimp only | split | intro)

theorem effSignal_wf (i : Nat) (x : AInstr) (s : State) (h_ : memWf s.mem = true) :
    memWf (effSignal i x s).st.mem = true := by
  unfold effSignal
  repeat' (with_reducible first | assumption | apply nextPc_wf | apply raise_wf | apply State_setSq_wf | apply latchSq_wf | apply signalAll_wf | simp only [Done.st_next, Done.st_fault] | dsimp only | split | intro)

theorem doLd_wf (n : Issue) (s : State) (h_ : memWf s.mem = true) :
    memWf (doLd n s).mem = true := by
  unfold doLd
  repeat' (with_reducible first | assumption | apply issueOp_wf | apply effLoad_wf | dsimp only | split | intro)

theorem doLdh_wf (n : Issue) (s : State) (h_ : memWf s.mem = true) :
    memWf (doLdh n s).mem = true := by
  unfold doLdh
  repeat' (with_reducible first | assumption | apply issueOp_wf | apply effLoad_wf | dsimp only | split | intro)

theorem doLdb_wf (n : Issue) (s : State) (h_ : memWf s.mem = true) :
    memWf (doLdb n s).mem = true := by
  unfold doLdb
  repeat' (with_reducible first | assumption | apply issueOp_wf | apply effLoad_wf | dsimp only | split | intro)

theorem doSt_wf (n : Issue) (s : State) (h_ : memWf s.mem = true) :
    memWf (doSt n s).mem = true := by
  unfold doSt
  repeat' (with_reducible first | assumption | apply issueOp_wf | apply effStore_wf | dsimp only | split | intro)

theorem doSth_wf (n : Issue) (s : State) (h_ : memWf s.mem = true) :
    memWf (doSth n s).mem = true := by
  unfold doSth
  repeat' (with_reducible first | assumption | apply issueOp_wf | apply effPatch_wf | dsimp only | split | intro)

theorem doStb_wf (n : Issue) (s : State) (h_ : memWf s.mem = true) :
    memWf (doStb n s).mem = true := by
  unfold doStb
  repeat' (with_reducible first | assumption | apply issueOp_wf | apply effPatch_wf | dsimp only | split | intro)

theorem doCaprd_wf (n : Issue) (s : State) (h_ : memWf s.mem = true) :
    memWf (doCaprd n s).mem = true := by
  unfold doCaprd
  repeat' (with_reducible first | assumption | apply issueOp_wf | apply effCaprd_wf | dsimp only | split | intro)

theorem doMbxrd_wf (n : Issue) (s : State) (h_ : memWf s.mem = true) :
    memWf (doMbxrd n s).mem = true := by
  unfold doMbxrd
  repeat' (with_reducible first | assumption | apply issueOp_wf | apply effMbxrd_wf | dsimp only | split | intro)

theorem doMbxcp_wf (n : Issue) (s : State) (h_ : memWf s.mem = true) :
    memWf (doMbxcp n s).mem = true := by
  unfold doMbxcp
  repeat' (with_reducible first | assumption | apply issueOp_wf | apply effMbxcp_wf | dsimp only | split | intro)

theorem doNote_wf (n : Issue) (s : State) (h_ : memWf s.mem = true) :
    memWf (doNote n s).mem = true := by
  unfold doNote
  repeat' (with_reducible first | assumption | apply issueOp_wf | apply effNote_wf | dsimp only | split | intro)

theorem doDmago_wf (n : Issue) (s : State) (h_ : memWf s.mem = true) :
    memWf (doDmago n s).mem = true := by
  unfold doDmago
  repeat' (with_reducible first | assumption | apply issueOp_wf | apply effDmago_wf | dsimp only | split | intro)

theorem doSignal_wf (n : Issue) (s : State) (h_ : memWf s.mem = true) :
    memWf (doSignal n s).mem = true := by
  unfold doSignal
  repeat' (with_reducible first | assumption | apply issueOp_wf | apply effSignal_wf | dsimp only | split | intro)

theorem park_wf (i : Nat) (w : Wait) (s : State) (h_ : memWf s.mem = true) :
    memWf (park i w s).mem = true := by
  unfold park
  repeat' (with_reducible first | assumption | apply nextPc_wf | apply State_setCtx_wf | dsimp only | split | intro)

theorem effWaita_wf (i : Nat) (x : AInstr) (s : State) (h_ : memWf s.mem = true) :
    memWf (effWaita i x s).st.mem = true := by
  unfold effWaita
  repeat' (with_reducible first | assumption | apply writeD_wf | apply park_wf | simp only [Done.st_next, Done.st_fault] | dsimp only | split | intro)

theorem effWaitt_wf (i : Nat) (x : AInstr) (s : State) (h_ : memWf s.mem = true) :
    memWf (effWaitt i x s).st.mem = true := by
  unfold effWaitt
  repeat' (with_reducible first | assumption | apply writeD_wf | apply park_wf | simp only [Done.st_next, Done.st_fault] | dsimp only | split | intro)

theorem effWaite_wf (i : Nat) (x : AInstr) (s : State) (h_ : memWf s.mem = true) :
    memWf (effWaite i x s).st.mem = true := by
  unfold effWaite
  repeat' (with_reducible first | assumption | apply writeD_wf | apply State_setCtx_wf | apply park_wf | simp only [Done.st_next, Done.st_fault] | dsimp only | split | intro)

theorem wakeWith_wf (i d : Nat) (v : Word) (s : State) (h_ : memWf s.mem = true) :
    memWf (wakeWith i d v s).mem = true := by
  unfold wakeWith
  repeat' (with_reducible first | assumption | apply makeReady_wf | apply setReg_wf | dsimp only | split | intro)

theorem doWaittReached_wf (q p : Nat) (s : State) (h_ : memWf s.mem = true) :
    memWf (doWaittReached q p s).mem = true := by
  unfold doWaittReached
  repeat' (with_reducible first | assumption | apply wakeWith_wf | dsimp only | split | intro)

theorem waitaTimeout_wf (i : Nat) (s : State) (h_ : memWf s.mem = true) :
    memWf (waitaTimeout i s).mem = true := by
  unfold waitaTimeout
  repeat' (with_reducible first | assumption | apply wakeWith_wf | dsimp only | split | intro)

theorem doWaitTimeout_wf (q p : Nat) (s : State) (h_ : memWf s.mem = true) :
    memWf (doWaitTimeout q p s).mem = true := by
  unfold doWaitTimeout
  repeat' (with_reducible first | assumption | apply waitaTimeout_wf | apply passTo_wf | apply wakeWith_wf | dsimp only | split | intro)

theorem effSched_wf (i : Nat) (x : AInstr) (s : State) (h_ : memWf s.mem = true) :
    memWf (effSched i x s).st.mem = true := by
  unfold effSched
  repeat' (with_reducible first | assumption | apply park_wf | simp only [Done.st_next, Done.st_fault] | dsimp only | split | intro)

theorem effAim_wf (i : Nat) (x : AInstr) (s : State) (h_ : memWf s.mem = true) :
    memWf (effAim i x s).st.mem = true := by
  unfold effAim
  repeat' (with_reducible first | assumption | apply park_wf | simp only [Done.st_next, Done.st_fault] | dsimp only | split | intro)

theorem effCancel_wf (i : Nat) (x : AInstr) (s : State) (h_ : memWf s.mem = true) :
    memWf (effCancel i x s).st.mem = true := by
  unfold effCancel
  repeat' (with_reducible first | assumption | apply park_wf | simp only [Done.st_next, Done.st_fault] | dsimp only | split | intro)

theorem doSchedulerResult_wf (q p : Nat) (s : State) (h_ : memWf s.mem = true) :
    memWf (doSchedulerResult q p s).mem = true := by
  unfold doSchedulerResult
  repeat' (with_reducible first | assumption | apply setReg_wf | apply makeReady_wf | apply notice_wf | dsimp only | split | intro)

theorem doTimeTrigger_wf (q p : Nat) (s : State) (h_ : memWf s.mem = true) :
    memWf (doTimeTrigger q p s).mem = true := by
  unfold doTimeTrigger
  repeat' (with_reducible first | assumption | apply activate_wf | apply State_setCtx_wf | dsimp only | split | intro)

theorem doWaita_wf (n : Issue) (s : State) (h_ : memWf s.mem = true) :
    memWf (doWaita n s).mem = true := by
  unfold doWaita
  repeat' (with_reducible first | assumption | apply issueOp_wf | apply effWaita_wf | dsimp only | split | intro)

theorem doWaitt_wf (n : Issue) (s : State) (h_ : memWf s.mem = true) :
    memWf (doWaitt n s).mem = true := by
  unfold doWaitt
  repeat' (with_reducible first | assumption | apply issueOp_wf | apply effWaitt_wf | dsimp only | split | intro)

theorem doWaite_wf (n : Issue) (s : State) (h_ : memWf s.mem = true) :
    memWf (doWaite n s).mem = true := by
  unfold doWaite
  repeat' (with_reducible first | assumption | apply issueOp_wf | apply effWaite_wf | dsimp only | split | intro)

theorem doSched_wf (n : Issue) (s : State) (h_ : memWf s.mem = true) :
    memWf (doSched n s).mem = true := by
  unfold doSched
  repeat' (with_reducible first | assumption | apply issueOp_wf | apply effSched_wf | dsimp only | split | intro)

theorem doAim_wf (n : Issue) (s : State) (h_ : memWf s.mem = true) :
    memWf (doAim n s).mem = true := by
  unfold doAim
  repeat' (with_reducible first | assumption | apply issueOp_wf | apply effAim_wf | dsimp only | split | intro)

theorem doCancel_wf (n : Issue) (s : State) (h_ : memWf s.mem = true) :
    memWf (doCancel n s).mem = true := by
  unfold doCancel
  repeat' (with_reducible first | assumption | apply issueOp_wf | apply effCancel_wf | dsimp only | split | intro)

theorem descEcc_wf (a j : Nat) (e : Ecc) (s : State) (h_ : memWf s.mem = true) :
    memWf (descEcc a j e s).mem = true := by
  unfold descEcc
  repeat' (with_reducible first | assumption | apply forEach_wf | apply eccRead_wf | dsimp only | split | intro)

theorem writeStatus_wf (a status done : Nat) (s : State) (h_ : memWf s.mem = true) :
    memWf (writeStatus a status done s).mem = true := by
  unfold writeStatus
  repeat' (with_reducible first | assumption | apply State_memWrite_wf | dsimp only | split | intro)

theorem dmaFault_wf (c cause faddr : Nat) (s : State) (h_ : memWf s.mem = true) :
    memWf (dmaFault c cause faddr s).mem = true := by
  unfold dmaFault
  repeat' (with_reducible first | assumption | apply countSegFault_wf | apply State_setDma_wf | apply fault_wf | apply raise_wf | apply setLatch_wf | dsimp only | split | intro)

theorem dmaLoad_wf (c j : Nat) (e : Ecc) (s : State) (h_ : memWf s.mem = true) :
    memWf (dmaLoad c j e s).mem = true := by
  unfold dmaLoad
  repeat' (with_reducible first | assumption | apply dmaFault_wf | apply descEcc_wf | apply State_setDma_wf | apply writeStatus_wf | dsimp only | split | intro)

theorem burstRead_wf (c j : Nat) (e : Ecc) (k : Nat) (r : State × List Byte) (h_ : memWf r.1.mem = true) :
    memWf (burstRead c j e k r).1.mem = true := by
  unfold burstRead
  repeat' (with_reducible first | assumption | apply readLatch_wf | apply eccRead_wf | dsimp only | split | intro)

theorem burstWords_wf (c j n : Nat) (e : Ecc) (s : State) (h_ : memWf s.mem = true) :
    memWf (burstWords c j n e s).1.mem = true := by
  unfold burstWords
  repeat' (with_reducible first | assumption | apply burstRead_wf | apply foldl_wf | apply foldl1_wf | dsimp only | split | intro)

theorem rewriteDesc_wf (d : DmaCh) (cause : Nat) (s : State) (h_ : memWf s.mem = true) :
    memWf (rewriteDesc d cause s).mem = true := by
  unfold rewriteDesc
  repeat' (with_reducible first | assumption | apply writeStatus_wf | apply State_memWrite_wf | dsimp only | split | intro)

theorem descDone_wf (c : Nat) (s : State) (h_ : memWf s.mem = true) :
    memWf (descDone c s).mem = true := by
  unfold descDone
  repeat' (with_reducible first | assumption | apply writeStatus_wf | apply State_setDma_wf | dsimp only | split | intro)

theorem burstWrite_wf (c : Nat) (b : List Byte) (s : State) (h_ : memWf s.mem = true) :
    memWf (burstWrite c b s).mem = true := by
  unfold burstWrite
  repeat' (with_reducible first | assumption | apply State_memWrite_wf | apply State_setDma_wf | apply descDone_wf | dsimp only | split | intro)

theorem dmaMove_wf (c j : Nat) (e : Ecc) (s : State) (h_ : memWf s.mem = true) :
    memWf (dmaMove c j e s).mem = true := by
  unfold dmaMove
  repeat' (with_reducible first | assumption | apply dmaFault_wf | apply rewriteDesc_wf | apply burstWords_wf | apply burstWrite_wf | dsimp only | split | intro)

theorem doDmaBurst_wf (c j : Nat) (e : Ecc) (s : State) (h_ : memWf s.mem = true) :
    memWf (doDmaBurst c j e s).mem = true := by
  unfold doDmaBurst
  repeat' (with_reducible first | assumption | apply dmaLoad_wf | apply dmaMove_wf | dsimp only | split | intro)

theorem doDmaTransferComplete_wf (c : Nat) (s : State) (h_ : memWf s.mem = true) :
    memWf (doDmaTransferComplete c s).mem = true := by
  unfold doDmaTransferComplete
  repeat' (with_reducible first | assumption | apply descDone_wf | apply State_setDma_wf | apply raiseIf_wf | apply setLatch_wf | dsimp only | split | intro)

theorem timeNow_wf (s : State) (h_ : memWf s.mem = true) :
    memWf (timeNow s).mem = true := by
  unfold timeNow
  repeat' (with_reducible first | assumption | apply passNow_wf | apply stepsNow_wf | apply kcNow_wf | dsimp only | split | intro)

/-- The effect of every command keeps the memory's canonical form. -/
theorem effect_wf (i : Instr) (s : State) (h_ : memWf s.mem = true) :
    memWf (effect i s).mem = true := by
  cases i with
  | wheelCrossing => exact doWheelCrossing_wf (h_ := h_) ..
  | strainerAccept => exact doStrainerAccept_wf (h_ := h_) ..
  | pulseLongTimeout => exact doPulseLongTimeout_wf (h_ := h_) ..
  | secondaryPromotion => exact doSecondaryPromotion_wf (h_ := h_) ..
  | virtualBoundary => exact doVirtualBoundary_wf (h_ := h_) ..
  | countHold => exact doCountHold_wf (h_ := h_) ..
  | toothOverdue => exact doToothOverdue_wf (h_ := h_) ..
  | speedRecompute => exact doSpeedRecompute_wf (h_ := h_) ..
  | stall => exact doStall_wf (h_ := h_) ..
  | anglePassed => exact doAnglePassed_wf (h_ := h_) ..
  | eventInsertion => exact doEventInsertion_wf (h_ := h_) ..
  | eventAimRequest => exact doEventAim_wf (h_ := h_) ..
  | eventCancelRequest => exact doEventCancel_wf (h_ := h_) ..
  | commit => exact doCommit_wf (h_ := h_) ..
  | eventTableEccError => exact doEventTableEccError_wf (h_ := h_) ..
  | profileStart => exact doProfileStart_wf (h_ := h_) ..
  | regulatorSwitch => exact doRegulatorSwitch_wf (h_ := h_) ..
  | peakEnd => exact doPeakEnd_wf (h_ := h_) ..
  | peakTimeout => exact doPeakTimeout_wf (h_ := h_) ..
  | transitionEnd => exact doTransitionEnd_wf (h_ := h_) ..
  | ditherStep => exact doDitherStep_wf (h_ := h_) ..
  | turnOffInstant => exact doTurnOffInstant_wf (h_ := h_) ..
  | turnOffComplete => exact doTurnOffComplete_wf (h_ := h_) ..
  | channelOvercurrent => exact doChannelOvercurrent_wf (h_ := h_) ..
  | bankOvercurrent => exact doBankOvercurrent_wf (h_ := h_) ..
  | onMaxStop => exact doOnMaxStop_wf (h_ := h_) ..
  | onStateFault => exact doOnStateFault_wf (h_ := h_) ..
  | extensionWrite => exact doExtensionWrite_wf (h_ := h_) ..
  | setpointWrite => exact doSetpointWrite_wf (h_ := h_) ..
  | kettleLevelChange => exact doKettleLevelChange_wf (h_ := h_) ..
  | kettleChargeDeadline => exact doKettleChargeDeadline_wf (h_ := h_) ..
  | kettleOvervoltage => exact doKettleOvervoltage_wf (h_ := h_) ..
  | kettleCapacitanceMeasure => exact doKettleCapacitance_wf (h_ := h_) ..
  | closingRecordWritten => exact doClosingRecordWritten_wf (h_ := h_) ..
  | captureEnd => exact doCaptureEnd_wf (h_ := h_) ..
  | offTestStart => exact doOffTestStart_wf (h_ := h_) ..
  | offTestComplete => exact doOffTestComplete_wf (h_ := h_) ..
  | kcPeriodBoundary => exact doKcPeriodBoundary_wf (h_ := h_) ..
  | kcTrigger => exact doKcTrigger_wf (h_ := h_) ..
  | ebPeriodBoundary => exact doEbPeriodBoundary_wf (h_ := h_) ..
  | ebPerEvent => exact doEbPerEvent_wf (h_ := h_) ..
  | ebPhaseEdge => exact doEbPhaseEdge_wf (h_ := h_) ..
  | ebDeadTimeEnd => exact doEbDeadTimeEnd_wf (h_ := h_) ..
  | tripAccept => exact doTripAccept_wf (h_ := h_) ..
  | blankingEnd => exact doBlankingEnd_wf (h_ := h_) ..
  | ebEnable => exact doEbEnable_wf (h_ := h_) ..
  | ebDisable => exact doEbDisable_wf (h_ := h_) ..
  | ebLoadArm => exact doEbLoadArm_wf (h_ := h_) ..
  | ebImmediateWrite => exact doEbWrite_wf (h_ := h_) ..
  | ebTripClear => exact doEbTripClear_wf (h_ := h_) ..
  | pwmGlbLoad => exact doPwmGlbLoad_wf (h_ := h_) ..
  | pwmGlbStart => exact doPwmGlbStart_wf (h_ := h_) ..
  | timerStart => exact doTimerStart_wf (h_ := h_) ..
  | timerStop => exact doTimerStop_wf (h_ := h_) ..
  | timerTargetWrite => exact doTimerTargetWrite_wf (h_ := h_) ..
  | timGlbStart => exact doTimGlbStart_wf (h_ := h_) ..
  | timerExpiry => exact doTimerExpiry_wf (h_ := h_) ..
  | captureEdge => exact doCaptureEdge_wf (h_ := h_) ..
  | supplyThresholdCrossing => exact doSupplyThresholdCrossing_wf (h_ := h_) ..
  | supplyJudgement => exact doSupplyJudgement_wf (h_ := h_) ..
  | supplyDebounceExpiry => exact doSupplyDebounceExpiry_wf (h_ := h_) ..
  | holdupRecoveryExpiry => exact doHoldupRecoveryExpiry_wf (h_ := h_) ..
  | holdupStoreExhausted => exact doHoldupStoreExhausted_wf (h_ := h_) ..
  | enableChange => exact doEnableChange_wf (h_ := h_) ..
  | thermalThreshold => exact doThermalThreshold_wf (h_ := h_) ..
  | sensorSupplyFault => exact doSensorSupplyFault_wf (h_ := h_) ..
  | referenceLoss => exact doReferenceLoss_wf (h_ := h_) ..
  | holdoverExpiry => exact doHoldoverExpiry_wf (h_ := h_) ..
  | referenceReturn => exact doReferenceReturn_wf (h_ := h_) ..
  | relockComplete => exact doRelockComplete_wf (h_ := h_) ..
  | referenceStarted => exact doReferenceStarted_wf (h_ := h_) ..
  | claimNChange => exact doClaimNChange_wf (h_ := h_) ..
  | challengeExpiry => exact doChallengeExpiry_wf (h_ := h_) ..
  | releaseReminder => exact doReleaseReminder_wf (h_ := h_) ..
  | releaseCountdownExpiry => exact doReleaseCountdownExpiry_wf (h_ := h_) ..
  | entropyHealthFailure => exact doEntropyHealthFailure_wf (h_ := h_) ..
  | lockoutExpiry => exact doLockoutExpiry_wf (h_ := h_) ..
  | envelopeCopyError => exact doEnvelopeCopyError_wf (h_ := h_) ..
  | envelopeReloadComplete => exact doEnvelopeReloadComplete_wf (h_ := h_) ..
  | envelopeWriteComplete => exact doEnvelopeWriteComplete_wf (h_ := h_) ..
  | configStoreComplete => exact doConfigStoreComplete_wf (h_ := h_) ..
  | caddyWriteComplete => exact doCaddyWriteComplete_wf (h_ := h_) ..
  | ohmacFrame => exact doOhmacFrame_wf (h_ := h_) ..
  | frameGapTimeout => exact doFrameGapTimeout_wf (h_ := h_) ..
  | mbxSend => exact doMbxSend_wf (h_ := h_) ..
  | mbxRxDone => exact doMbxRxDone_wf (h_ := h_) ..
  | mbxAbort => exact doMbxAbort_wf (h_ := h_) ..
  | canBusOff => exact doCanBusOff_wf (h_ := h_) ..
  | sessionOpenTimeout => exact doSessionOpenTimeout_wf (h_ := h_) ..
  | sessionIdleTimeout => exact doSessionIdleTimeout_wf (h_ := h_) ..
  | identity => exact doIdentity_wf (h_ := h_) ..
  | attest => exact doAttest_wf (h_ := h_) ..
  | claim => exact doClaim_wf (h_ := h_) ..
  | enrol => exact doEnrol_wf (h_ := h_) ..
  | revoke => exact doRevoke_wf (h_ := h_) ..
  | transfer => exact doTransfer_wf (h_ := h_) ..
  | decommission => exact doDecommission_wf (h_ := h_) ..
  | retire => exact doRetire_wf (h_ := h_) ..
  | forceRelease => exact doForceRelease_wf (h_ := h_) ..
  | envInstall => exact doEnvInstall_wf (h_ := h_) ..
  | open1 => exact doOpen1_wf (h_ := h_) ..
  | open3 => exact doOpen3_wf (h_ := h_) ..
  | close => exact doClose_wf (h_ := h_) ..
  | ping => exact doPing_wf (h_ := h_) ..
  | readRegs => exact doReadRegs_wf (h_ := h_) ..
  | cycleRecord => exact doCycleRecord_wf (h_ := h_) ..
  | telemetry => exact doTelemetry_wf (h_ := h_) ..
  | logRead => exact doLogRead_wf (h_ := h_) ..
  | targets => exact doTargets_wf (h_ := h_) ..
  | cfgStage => exact doCfgStage_wf (h_ := h_) ..
  | cfgCommit => exact doCfgCommit_wf (h_ := h_) ..
  | cfgDiscard => exact doCfgDiscard_wf (h_ := h_) ..
  | cfgRead => exact doCfgRead_wf (h_ := h_) ..
  | cfgStatus => exact doCfgStatus_wf (h_ := h_) ..
  | imgBegin => exact doImgBegin_wf (h_ := h_) ..
  | imgData => exact doImgData_wf (h_ := h_) ..
  | imgEnd => exact doImgEnd_wf (h_ := h_) ..
  | imgSelect => exact doImgSelect_wf (h_ := h_) ..
  | imgConfirm => exact doImgConfirm_wf (h_ := h_) ..
  | reset => exact doReset_wf (h_ := h_) ..
  | resetCommandDelayExpiry => exact doResetCommandDelayExpiry_wf (h_ := h_) ..
  | testShot => exact doTestShot_wf (h_ := h_) ..
  | diagRunOffTest => exact doDiagRunOffTest_wf (h_ := h_) ..
  | diagRunClear => exact doDiagRunClear_wf (h_ := h_) ..
  | add => exact doAdd_wf (h_ := h_) ..
  | sub => exact doSub_wf (h_ := h_) ..
  | addc => exact doAddc_wf (h_ := h_) ..
  | subc => exact doSubc_wf (h_ := h_) ..
  | and => exact doAnd_wf (h_ := h_) ..
  | or => exact doOr_wf (h_ := h_) ..
  | xor => exact doXor_wf (h_ := h_) ..
  | shl => exact doShl_wf (h_ := h_) ..
  | shr => exact doShr_wf (h_ := h_) ..
  | sar => exact doSar_wf (h_ := h_) ..
  | mul => exact doMul_wf (h_ := h_) ..
  | mulhu => exact doMulhu_wf (h_ := h_) ..
  | mulhs => exact doMulhs_wf (h_ := h_) ..
  | divu => exact doDivu_wf (h_ := h_) ..
  | remu => exact doRemu_wf (h_ := h_) ..
  | slt => exact doSlt_wf (h_ := h_) ..
  | sltu => exact doSltu_wf (h_ := h_) ..
  | adda => exact doAdda_wf (h_ := h_) ..
  | dista => exact doDista_wf (h_ := h_) ..
  | addi => exact doAddi_wf (h_ := h_) ..
  | andi => exact doAndi_wf (h_ := h_) ..
  | ori => exact doOri_wf (h_ := h_) ..
  | xori => exact doXori_wf (h_ := h_) ..
  | shli => exact doShli_wf (h_ := h_) ..
  | shri => exact doShri_wf (h_ := h_) ..
  | sari => exact doSari_wf (h_ := h_) ..
  | lui => exact doLui_wf (h_ := h_) ..
  | ld => exact doLd_wf (h_ := h_) ..
  | ldh => exact doLdh_wf (h_ := h_) ..
  | ldb => exact doLdb_wf (h_ := h_) ..
  | st => exact doSt_wf (h_ := h_) ..
  | sth => exact doSth_wf (h_ := h_) ..
  | stb => exact doStb_wf (h_ := h_) ..
  | beq => exact doBeq_wf (h_ := h_) ..
  | bne => exact doBne_wf (h_ := h_) ..
  | blt => exact doBlt_wf (h_ := h_) ..
  | bge => exact doBge_wf (h_ := h_) ..
  | bltu => exact doBltu_wf (h_ := h_) ..
  | bgeu => exact doBgeu_wf (h_ := h_) ..
  | bf => exact doBf_wf (h_ := h_) ..
  | jmp => exact doJmp_wf (h_ := h_) ..
  | jal => exact doJal_wf (h_ := h_) ..
  | jr => exact doJr_wf (h_ := h_) ..
  | snap => exact doSnap_wf (h_ := h_) ..
  | rds => exact doRds_wf (h_ := h_) ..
  | waita => exact doWaita_wf (h_ := h_) ..
  | waitt => exact doWaitt_wf (h_ := h_) ..
  | waite => exact doWaite_wf (h_ := h_) ..
  | waittReached => exact doWaittReached_wf (h_ := h_) ..
  | waitTimeout => exact doWaitTimeout_wf (h_ := h_) ..
  | sched => exact doSched_wf (h_ := h_) ..
  | aim => exact doAim_wf (h_ := h_) ..
  | cancel => exact doCancel_wf (h_ := h_) ..
  | schedulerResult => exact doSchedulerResult_wf (h_ := h_) ..
  | note => exact doNote_wf (h_ := h_) ..
  | caprd => exact doCaprd_wf (h_ := h_) ..
  | mbxrd => exact doMbxrd_wf (h_ := h_) ..
  | mbxcp => exact doMbxcp_wf (h_ := h_) ..
  | dmago => exact doDmago_wf (h_ := h_) ..
  | signal => exact doSignal_wf (h_ := h_) ..
  | yield => exact doYield_wf (h_ := h_) ..
  | endTask => exact doEnd_wf (h_ := h_) ..
  | timeTrigger => exact doTimeTrigger_wf (h_ := h_) ..
  | budgetExhausted => exact doBudgetExhausted_wf (h_ := h_) ..
  | dmaBurst => exact doDmaBurst_wf (h_ := h_) ..
  | dmaTransferComplete => exact doDmaTransferComplete_wf (h_ := h_) ..
  | irqClaim => exact doIrqClaim_wf (h_ := h_) ..
  | irqComplete => exact doIrqComplete_wf (h_ := h_) ..
  | moderationHoldEnd => exact doModerationHoldEnd_wf (h_ := h_) ..
  | graceDeadline => exact doGraceDeadline_wf (h_ := h_) ..
  | faultAcknowledge => exact doFaultAcknowledge_wf (h_ := h_) ..
  | watchdogService => exact doWatchdogService_wf (h_ := h_) ..
  | watchdogTimeout => exact doWatchdogTimeout_wf (h_ := h_) ..
  | watchdogWarning => exact doWatchdogWarning_wf (h_ := h_) ..
  | handshakeStall => exact doHandshakeStall_wf (h_ := h_) ..
  | mgmtCoreStall => exact doMgmtCoreStall_wf (h_ := h_) ..
  | scrubAccess => exact doScrubAccess_wf (h_ := h_) ..
  | rulerCalibration => exact doRulerCalibration_wf (h_ := h_) ..
  | senseCalibration => exact doSenseCalibration_wf (h_ := h_) ..
  | senseStale => exact doSenseStale_wf (h_ := h_) ..
  | retentionRefreshStep => exact doRetentionRefreshStep_wf (h_ := h_) ..
  | telemetryBatch => exact doTelemetryBatch_wf (h_ := h_) ..
  | logbookFlush => exact doLogbookFlush_wf (h_ := h_) ..
  | counterFrame => exact doCounterFrame_wf (h_ := h_) ..
  | mirrorFrameSent => exact doMirrorFrameSent_wf (h_ := h_) ..
  | snapshotRead => exact doSnapshotRead_wf (h_ := h_) ..
  | lnsAngleRead => exact doLnsAngleRead_wf (h_ := h_) ..
  | registerWrite => exact doRegisterWrite_wf (h_ := h_) ..
  | standbyRequest => exact doStandbyRequest_wf (h_ := h_) ..
  | sleepRequest => exact doSleepRequest_wf (h_ := h_) ..
  | autoStandby => exact doAutoStandby_wf (h_ := h_) ..
  | autoSleep => exact doAutoSleep_wf (h_ := h_) ..
  | standbyWake => exact doStandbyWake_wf (h_ := h_) ..
  | sleepWake => exact doSleepWake_wf (h_ := h_) ..
  | lossReported => exact doLossReported_wf (h_ := h_) ..
  | holdupStoreCharged => exact doHoldupStoreCharged_wf (h_ := h_) ..
  | canBusOffRecovery => exact doCanBusOffRecovery_wf (h_ := h_) ..
  | entropyHealthRecovery => exact doEntropyHealthRecovery_wf (h_ := h_) ..
  | sensorSupplyRecovery => exact doSensorSupplyRecovery_wf (h_ := h_) ..
  | tripInputRelease => exact doTripInputRelease_wf (h_ := h_) ..
  | thermalDeratingChange => exact doThermalDeratingChange_wf (h_ := h_) ..
  | digitiserSample => exact doDigitiserSample_wf (h_ := h_) ..
  | offTestNotRun => exact doOffTestNotRun_wf (h_ := h_) ..
  | illegalInstruction => exact doIllegalInstruction_wf (h_ := h_) ..
  | sleepEntryComplete => exact doSleepEntryComplete_wf (h_ := h_) ..
  | resetStepComplete => exact doResetStepComplete_wf (h_ := h_) ..
  | canFrameTransmitted => exact doCanFrameTransmitted_wf (h_ := h_) ..
  | resetNPulse t n =>
    show memWf ((if n < 2000 then id else doResetN) s).mem = true
    split
    · exact h_
    · exact doResetN_wf (h_ := h_) ..

end Sys2Proof.Machine
end

