-- ==== Sys2Proof/Laws/Pwm.lean ====
section
/-! SUPPORT. What the operations of the PWM units do to their unit, and that they leave the other units alone. -/

namespace Sys2Proof.Machine

/-- A raise after an update of one unit: the unit reads as updated. -/
@[simp] theorem raiseIf_setEb (c : Bool) (i n : Nat) (u : Eb) (s : State) : (raiseIf c i (s.setEb n u)).ebU n = u := by
  simp

/-- A raise after an update of one unit: another unit is unchanged. -/
theorem raiseIf_setEb_other (c : Bool) (i : Nat) {m n : Nat} (u : Eb) (s : State) (h : m ≠ n) :
    (raiseIf c i (s.setEb n u)).ebU m = s.ebU m := by
  simp [State.ebU_setEb_other _ _ h]

/-- What a trip leaves of its unit (R381). -/
theorem ebTrip_eb (n : Nat) (s : State) : (ebTrip n s).ebU n = { s.ebU n with
    hg := false, lg := false, pendOn := none, tripped := true, clearOk := false, heldTrip := false
    flags := (s.ebU n).flags ||| 8#5, trips := satInc 65535 (s.ebU n).trips } := raiseIf_setEb ..

/-- A trip leaves the other units alone. -/
theorem ebTrip_other {n m : Nat} (s : State) (hm : m ≠ n) : (ebTrip n s).ebU m = s.ebU m := raiseIf_setEb_other _ _ _ _ hm

/-- What the end of the blanking by a dead time leaves of its unit (R382). -/
theorem ebUnblank_keeps (n : Nat) (s : State) :
    ((ebUnblank n s).ebU n).en = (s.ebU n).en ∧ ((ebUnblank n s).ebU n).anchor = (s.ebU n).anchor ∧
    ((ebUnblank n s).ebU n).anchorCount = (s.ebU n).anchorCount ∧ ((ebUnblank n s).ebU n).down = (s.ebU n).down ∧
    ((ebUnblank n s).ebU n).updn = (s.ebU n).updn ∧ ((ebUnblank n s).ebU n).act = (s.ebU n).act ∧
    ((ebUnblank n s).ebU n).armAt = (s.ebU n).armAt ∧ ((ebUnblank n s).ebU n).boundary = (s.ebU n).boundary ∧
    ((ebUnblank n s).ebU n).high = (s.ebU n).high ∧
    (∀ i, (s.ebU n).flags.getLsbD i = true → ((ebUnblank n s).ebU n).flags.getLsbD i = true) ∧
    ((s.ebU n).hg = false → (s.ebU n).lg = false →
      ((ebUnblank n s).ebU n).hg = false ∧ ((ebUnblank n s).ebU n).lg = false) := by
  unfold ebUnblank
  dsimp only
  split
  · simp +contextual
  · split
    · rw [ebTrip_eb, State.ebU_setEb]; simp +contextual
    · rw [State.ebU_setEb]; simp +contextual

/-- The end of the blanking leaves the other units alone. -/
theorem ebUnblank_other {n m : Nat} (s : State) (hm : m ≠ n) : (ebUnblank n s).ebU m = s.ebU m := by
  unfold ebUnblank
  dsimp only
  split
  · rfl
  · split
    · rw [ebTrip_other _ hm, State.ebU_setEb_other _ _ hm]
    · exact State.ebU_setEb_other _ _ hm

/-- What the beginning of a phase leaves of its unit (R372, R375, R376). -/
theorem ebPhase_keeps (h : Bool) (x : Tick) (l n : Nat) (s : State) :
    ((ebPhase h x l n s).ebU n).en = (s.ebU n).en ∧ ((ebPhase h x l n s).ebU n).anchor = (s.ebU n).anchor ∧
    ((ebPhase h x l n s).ebU n).anchorCount = (s.ebU n).anchorCount ∧ ((ebPhase h x l n s).ebU n).down = (s.ebU n).down ∧
    ((ebPhase h x l n s).ebU n).updn = (s.ebU n).updn ∧ ((ebPhase h x l n s).ebU n).act = (s.ebU n).act ∧
    ((ebPhase h x l n s).ebU n).armAt = (s.ebU n).armAt ∧ ((ebPhase h x l n s).ebU n).boundary = (s.ebU n).boundary ∧
    ((ebPhase h x l n s).ebU n).high = h ∧
    (∀ i, (s.ebU n).flags.getLsbD i = true → ((ebPhase h x l n s).ebU n).flags.getLsbD i = true) ∧
    ((s.ebU n).hg = false → (s.ebU n).lg = false →
      ((ebPhase h x l n s).ebU n).hg = false ∧ ((ebPhase h x l n s).ebU n).lg = false) := by
  unfold ebPhase
  dsimp only
  split
  · simp
  · split
    · rw [raiseIf_setEb]; simp +contextual
    · split
      · rw [raiseIf_setEb]; simp +contextual
      · generalize hv : ({ s.ebU n with
          high := h, phDrop := false
          pendOn := if ((s.ebU n).phDrop && (if h then (s.ebU n).hg else (s.ebU n).lg)) = true then none else some (h, x)
          hg := if h then (s.ebU n).hg else false, lg := if h then false else (s.ebU n).lg } : Eb) = v
        have k := ebUnblank_keeps n (s.setEb n v)
        rw [State.ebU_setEb] at k
        subst hv
        exact ⟨k.1, k.2.1, k.2.2.1, k.2.2.2.1, k.2.2.2.2.1, k.2.2.2.2.2.1, k.2.2.2.2.2.2.1, k.2.2.2.2.2.2.2.1,
          k.2.2.2.2.2.2.2.2.1, k.2.2.2.2.2.2.2.2.2.1,
          fun a b => k.2.2.2.2.2.2.2.2.2.2 (by cases h <;> simp [a]) (by cases h <;> simp [b])⟩

/-- The beginning of a phase leaves the other units alone. -/
theorem ebPhase_other (h : Bool) (x : Tick) (l : Nat) {n m : Nat} (s : State) (hm : m ≠ n) :
    (ebPhase h x l n s).ebU m = s.ebU m := by
  unfold ebPhase
  dsimp only
  split
  · exact State.ebU_setEb_other _ _ hm
  · split
    · exact raiseIf_setEb_other _ _ _ _ hm
    · split
      · exact raiseIf_setEb_other _ _ _ _ hm
      · rw [ebUnblank_other _ hm]; exact State.ebU_setEb_other _ _ hm

theorem ebZero_eb (n : Nat) (s : State) : (ebZero n s).ebU n = { s.ebU n with
    flags := (s.ebU n).flags ||| 1#5, preZero := (prescale (s.ebU n).ips (s.ebU n).preZero).1 } := raiseIf_setEb ..
theorem ebZero_other {n m : Nat} (s : State) (hm : m ≠ n) : (ebZero n s).ebU m = s.ebU m := raiseIf_setEb_other _ _ _ _ hm
theorem ebPer_eb (n : Nat) (s : State) : (ebPer n s).ebU n = { s.ebU n with
    flags := (s.ebU n).flags ||| 2#5, prePer := (prescale (s.ebU n).ips (s.ebU n).prePer).1 } := raiseIf_setEb ..
theorem ebPer_other {n m : Nat} (s : State) (hm : m ≠ n) : (ebPer n s).ebU m = s.ebU m := raiseIf_setEb_other _ _ _ _ hm
theorem ebCmp_eb (n : Nat) (s : State) : (ebCmp n s).ebU n = { s.ebU n with
    flags := (s.ebU n).flags ||| 4#5, preCmp := (prescale (s.ebU n).ips (s.ebU n).preCmp).1 } := raiseIf_setEb ..
theorem ebCmp_other {n m : Nat} (s : State) (hm : m ≠ n) : (ebCmp n s).ebU m = s.ebU m := raiseIf_setEb_other _ _ _ _ hm

/-- What the phase at count 0 leaves of its unit (R372, R383). -/
theorem ebZeroPhase_keeps (x : Tick) (n : Nat) (s : State) :
    ((ebZeroPhase x n s).ebU n).en = (s.ebU n).en ∧ ((ebZeroPhase x n s).ebU n).anchor = (s.ebU n).anchor ∧
    ((ebZeroPhase x n s).ebU n).anchorCount = (s.ebU n).anchorCount ∧
    ((ebZeroPhase x n s).ebU n).down = (s.ebU n).down ∧ ((ebZeroPhase x n s).ebU n).act = (s.ebU n).act ∧
    ((ebZeroPhase x n s).ebU n).armAt = (s.ebU n).armAt ∧
    ((ebZeroPhase x n s).ebU n).boundary = (s.ebU n).boundary ∧
    (∀ i, (s.ebU n).flags.getLsbD i = true → ((ebZeroPhase x n s).ebU n).flags.getLsbD i = true) := by
  unfold ebZeroPhase
  dsimp only
  split
  · have h := ebPhase_keeps ((s.ebU n).act.cmp != 0) x (ebZeroLen (s.ebU n)) n (s.setEb n { s.ebU n with
      tripped := false
      clearOk := false, hg := false, lg := false, pendOn := none, phDrop := false })
    simp only [State.ebU_setEb] at h
    exact ⟨h.1, h.2.1, h.2.2.1, h.2.2.2.1, h.2.2.2.2.2.1, h.2.2.2.2.2.2.1, h.2.2.2.2.2.2.2.1, h.2.2.2.2.2.2.2.2.2.1⟩
  · split
    · exact ⟨rfl, rfl, rfl, rfl, rfl, rfl, rfl, fun _ h => h⟩
    · have h := ebPhase_keeps ((s.ebU n).act.cmp != 0) x (ebZeroLen (s.ebU n)) n s
      exact ⟨h.1, h.2.1, h.2.2.1, h.2.2.2.1, h.2.2.2.2.2.1, h.2.2.2.2.2.2.1, h.2.2.2.2.2.2.2.1, h.2.2.2.2.2.2.2.2.2.1⟩

/-- The phase at count 0 leaves the other units alone. -/
theorem ebZeroPhase_other (x : Tick) {n m : Nat} (s : State) (hm : m ≠ n) : (ebZeroPhase x n s).ebU m = s.ebU m := by
  unfold ebZeroPhase
  dsimp only
  split
  · rw [ebPhase_other _ _ _ _ hm, State.ebU_setEb_other _ _ hm]
  · split
    · rfl
    · exact ebPhase_other _ _ _ _ hm

/-- A period boundary of a running unit: the counter restarts, an armed unit loads, the events are flagged (R371,
R377). -/
theorem ebBoundary_eb (x : Tick) (n : Nat) (s : State) :
    ((ebBoundary x n s).ebU n).en = (s.ebU n).en ∧ ((ebBoundary x n s).ebU n).anchor = x ∧
    ((ebBoundary x n s).ebU n).anchorCount = 0 ∧ ((ebBoundary x n s).ebU n).down = false ∧
    ((ebBoundary x n s).ebU n).boundary = x ∧
    ((ebBoundary x n s).ebU n).act = (if ebArmedFor (s.ebU n) x then ebLoad (s.ebU n) else s.ebU n).act ∧
    ((ebBoundary x n s).ebU n).armAt = (if ebArmedFor (s.ebU n) x then ebLoad (s.ebU n) else s.ebU n).armAt ∧
    ((ebBoundary x n s).ebU n).flags.getLsbD 0 = true ∧
    ((s.ebU n).updn = false → ((ebBoundary x n s).ebU n).flags.getLsbD 1 = true) := by
  unfold ebBoundary
  dsimp only
  have hp : ∀ w : Eb, (ebLate w).act = w.act ∧ (ebLate w).armAt = w.armAt := fun _ => ⟨rfl, rfl⟩
  rw [← (hp (if ebArmedFor (s.ebU n) x then ebLoad (s.ebU n) else s.ebU n)).1,
    ← (hp (if ebArmedFor (s.ebU n) x then ebLoad (s.ebU n) else s.ebU n)).2]
  generalize hv : ebLate (if ebArmedFor (s.ebU n) x then ebLoad (s.ebU n) else s.ebU n) = v
  have hup : v.updn = (s.ebU n).updn := by subst hv; split <;> rfl
  have hen : v.en = (s.ebU n).en := by subst hv; split <;> rfl
  generalize hz : ebZero n (s.setEb n { v with anchor := x, anchorCount := 0, down := false, boundary := x }) = z
  have hze : z.ebU n = { v with
      anchor := x, anchorCount := 0, down := false, boundary := x
      flags := v.flags ||| 1#5, preZero := (prescale v.ips v.preZero).1 } := by
    subst hz
    rw [ebZero_eb, State.ebU_setEb]
  cases hud : v.updn with
  | true =>
    have h := ebZeroPhase_keeps x n z
    simp only [if_true]
    refine ⟨by rw [h.1, hze]; exact hen, by rw [h.2.1, hze], by rw [h.2.2.1, hze], by rw [h.2.2.2.1, hze],
      by rw [h.2.2.2.2.2.2.1, hze], by rw [h.2.2.2.2.1, hze], by rw [h.2.2.2.2.2.1, hze],
      h.2.2.2.2.2.2.2 0 (by rw [hze]; simp), fun hu => ?_⟩
    exact absurd (hup.symm.trans hud) (by simp [hu])
  | false =>
    have h := ebZeroPhase_keeps x n (ebPer n z)
    simp only [Bool.false_eq_true, if_false]
    refine ⟨by rw [h.1, ebPer_eb, hze]; exact hen, by rw [h.2.1, ebPer_eb, hze], by rw [h.2.2.1, ebPer_eb, hze],
      by rw [h.2.2.2.1, ebPer_eb, hze], by rw [h.2.2.2.2.2.2.1, ebPer_eb, hze], by rw [h.2.2.2.2.1, ebPer_eb, hze],
      by rw [h.2.2.2.2.2.1, ebPer_eb, hze], h.2.2.2.2.2.2.2 0 (by rw [ebPer_eb, hze]; simp),
      fun _ => h.2.2.2.2.2.2.2 1 (by rw [ebPer_eb, hze]; simp)⟩

/-- A period boundary leaves the other units alone. -/
theorem ebBoundary_other (x : Tick) {n m : Nat} (s : State) (hm : m ≠ n) : (ebBoundary x n s).ebU m = s.ebU m := by
  unfold ebBoundary
  dsimp only
  generalize ebLate (if ebArmedFor (s.ebU n) x then ebLoad (s.ebU n) else s.ebU n) = v
  rw [ebZeroPhase_other _ _ hm]
  cases v.updn <;> simp only [if_true, Bool.false_eq_true, if_false]
  on_goal 2 => rw [ebZero_other _ hm, State.ebU_setEb_other _ _ hm]
  rw [ebPer_other _ hm, ebZero_other _ hm, State.ebU_setEb_other _ _ hm]

end Sys2Proof.Machine
end

