-- ==== Sys2Proof/Laws/Safe.lean ====
section
/-! SUPPORT. SAFE, once entered, is left by no operation but a reset (R419). -/

set_option linter.all false

namespace Sys2Proof.Machine
theorem foldl_safe {α : Type} (l : List α) (f : State → α → State) (s : State) (h : ∀ (s : State) a, s.flt.safe = true → (f s a).flt.safe = true)
    (h_ : s.flt.safe = true) : (l.foldl f s).flt.safe = true := by
  induction l generalizing s with
  | nil => exact h_
  | cons a r ih => exact ih _ (h _ _ h_)
theorem foldl1_safe {α β : Type} (l : List α) (f : State × β → α → State × β) (s : State × β)
    (h : ∀ (s : State × β) a, s.1.flt.safe = true → (f s a).1.flt.safe = true) (h_ : s.1.flt.safe = true) : (l.foldl f s).1.flt.safe = true := by
  induction l generalizing s with
  | nil => exact h_
  | cons a r ih => exact ih _ (h _ _ h_)
theorem repeatN_safe (f : State → State) (n : Nat) (s : State) (h : ∀ s : State, s.flt.safe = true → (f s).flt.safe = true) (h_ : s.flt.safe = true) :
    (repeatN f n s).flt.safe = true := by
  induction n generalizing s with
  | zero => exact h_
  | succ n ih => exact ih _ (h _ h_)
theorem or_safe (a : Option Reply) (b : Unit → Option Reply) (h1 : ∀ r, a = some r → r.state.flt.safe = true)
    (h2 : ∀ r, b () = some r → r.state.flt.safe = true) (r : Reply) (h : a.orElse b = some r) : r.state.flt.safe = true := by
  cases a with
  | none => exact h2 r h
  | some x => exact h1 r h
theorem getD_safe (a : Option State) (d : State) (h1 : ∀ x, a = some x → x.flt.safe = true) (h2 : d.flt.safe = true) : (a.getD d).flt.safe = true := by
  cases a with
  | none => exact h2
  | some x => exact h1 x rfl

theorem State_advance_safe (t : Tick) (s : State) (h_ : s.flt.safe = true) :
    (Sys2Proof.Machine.State.advance t s).flt.safe = true := by
  unfold State.advance
  repeat' (with_reducible first | assumption | dsimp only | split | intro)

theorem State_setChan_safe (s : State) (k : Nat) (c : Chan) (h_ : s.flt.safe = true) :
    (Sys2Proof.Machine.State.setChan s k c).flt.safe = true := by
  unfold State.setChan
  repeat' (with_reducible first | assumption | dsimp only | split | intro)

theorem State_setBank_safe (s : State) (b : Nat) (c : BankSt) (h_ : s.flt.safe = true) :
    (Sys2Proof.Machine.State.setBank s b c).flt.safe = true := by
  unfold State.setBank
  repeat' (with_reducible first | assumption | dsimp only | split | intro)

theorem State_setKettle_safe (s : State) (k : Nat) (c : Kettle) (h_ : s.flt.safe = true) :
    (Sys2Proof.Machine.State.setKettle s k c).flt.safe = true := by
  unfold State.setKettle
  repeat' (with_reducible first | assumption | dsimp only | split | intro)

theorem State_setDch_safe (s : State) (k : Nat) (c : DiaCh) (h_ : s.flt.safe = true) :
    (Sys2Proof.Machine.State.setDch s k c).flt.safe = true := by
  unfold State.setDch
  repeat' (with_reducible first | assumption | dsimp only | split | intro)

theorem State_setDgt_safe (s : State) (b : Nat) (c : Digitiser) (h_ : s.flt.safe = true) :
    (Sys2Proof.Machine.State.setDgt s b c).flt.safe = true := by
  unfold State.setDgt
  repeat' (with_reducible first | assumption | dsimp only | split | intro)

theorem State_setSlot_safe (s : State) (i : Nat) (e : Event) (h_ : s.flt.safe = true) :
    (Sys2Proof.Machine.State.setSlot s i e).flt.safe = true := by
  unfold State.setSlot
  repeat' (with_reducible first | assumption | dsimp only | split | intro)

theorem State_setSq_safe (s : State) (q : Nat) (c : SeqSt) (h_ : s.flt.safe = true) :
    (Sys2Proof.Machine.State.setSq s q c).flt.safe = true := by
  unfold State.setSq
  repeat' (with_reducible first | assumption | dsimp only | split | intro)

theorem State_setCtx_safe (s : State) (i : Nat) (c : Ctx) (h_ : s.flt.safe = true) :
    (Sys2Proof.Machine.State.setCtx s i c).flt.safe = true := by
  unfold State.setCtx
  repeat' (with_reducible first | assumption | dsimp only | split | intro)

theorem State_setDma_safe (s : State) (c : Nat) (d : DmaCh) (h_ : s.flt.safe = true) :
    (Sys2Proof.Machine.State.setDma s c d).flt.safe = true := by
  unfold State.setDma
  repeat' (with_reducible first | assumption | dsimp only | split | intro)

theorem State_setTimer_safe (s : State) (n : Nat) (c : Timer) (h_ : s.flt.safe = true) :
    (Sys2Proof.Machine.State.setTimer s n c).flt.safe = true := by
  unfold State.setTimer
  repeat' (with_reducible first | assumption | dsimp only | split | intro)

theorem State_setEb_safe (s : State) (n : Nat) (c : Eb) (h_ : s.flt.safe = true) :
    (Sys2Proof.Machine.State.setEb s n c).flt.safe = true := by
  unfold State.setEb
  repeat' (with_reducible first | assumption | dsimp only | split | intro)

theorem State_setKc_safe (s : State) (k : Nat) (c : Kc) (h_ : s.flt.safe = true) :
    (Sys2Proof.Machine.State.setKc s k c).flt.safe = true := by
  unfold State.setKc
  repeat' (with_reducible first | assumption | dsimp only | split | intro)

theorem State_setWheel_safe (s : State) (n : Nat) (c : WheelIn) (h_ : s.flt.safe = true) :
    (Sys2Proof.Machine.State.setWheel s n c).flt.safe = true := by
  unfold State.setWheel
  repeat' (with_reducible first | assumption | dsimp only | split | intro)

theorem State_setLink_safe (s : State) (l : Link) (x : LinkSt) (h_ : s.flt.safe = true) :
    (Sys2Proof.Machine.State.setLink s l x).flt.safe = true := by
  unfold State.setLink
  repeat' (with_reducible first | assumption | dsimp only | split | intro)

theorem State_memPatch_safe (s : State) (a : Nat) (b : List Byte) (h_ : s.flt.safe = true) :
    (Sys2Proof.Machine.State.memPatch s a b).flt.safe = true := by
  unfold State.memPatch
  repeat' (with_reducible first | assumption | dsimp only | split | intro)

theorem State_memWrite_safe (s : State) (a : Nat) (b : List Byte) (h_ : s.flt.safe = true) :
    (Sys2Proof.Machine.State.memWrite s a b).flt.safe = true := by
  unfold State.memWrite
  repeat' (with_reducible first | assumption | dsimp only | split | intro)

theorem State_memSetWord_safe (s : State) (a : Nat) (w : Word) (h_ : s.flt.safe = true) :
    (Sys2Proof.Machine.State.memSetWord s a w).flt.safe = true := by
  unfold State.memSetWord
  repeat' (with_reducible first | assumption | apply State_memWrite_safe | dsimp only | split | intro)

theorem wake_safe (b : Nat) (s : State) (h_ : s.flt.safe = true) :
    (wake b s).flt.safe = true := by
  unfold wake
  repeat' (with_reducible first | assumption | dsimp only | split | intro)

theorem raise_safe (n : Nat) (s : State) (h_ : s.flt.safe = true) :
    (raise n s).flt.safe = true := by
  unfold raise
  repeat' (with_reducible first | assumption | apply wake_safe | dsimp only | split | intro)

theorem raiseIf_safe (c : Bool) (n : Nat) (s : State) (h_ : s.flt.safe = true) :
    (raiseIf c n s).flt.safe = true := by
  unfold raiseIf
  repeat' (with_reducible first | assumption | apply raise_safe | dsimp only | split | intro)

theorem settle_safe (s : State) (h_ : s.flt.safe = true) :
    (settle s).flt.safe = true := by
  unfold settle
  repeat' (with_reducible first | assumption | dsimp only | split | intro)

theorem logPut_safe (kind : Nat) (body : List Byte) (s : State) (h_ : s.flt.safe = true) :
    (logPut kind body s).flt.safe = true := by
  unfold logPut
  repeat' (with_reducible first | assumption | dsimp only | split | intro)

theorem logAppend_safe (kind : Nat) (body : List Byte) (s : State) (h_ : s.flt.safe = true) :
    (logAppend kind body s).flt.safe = true := by
  unfold logAppend
  repeat' (with_reducible first | assumption | apply logPut_safe | dsimp only | split | intro)

theorem log_safe (kind level : Nat) (body : List Byte) (s : State) (h_ : s.flt.safe = true) :
    (log kind level body s).flt.safe = true := by
  unfold log
  repeat' (with_reducible first | assumption | apply logAppend_safe | dsimp only | split | intro)

theorem mirrorAt_safe (ty : Nat) (body : List Byte) (etc : Tick) (s : State) (h_ : s.flt.safe = true) :
    (mirrorAt ty body etc s).flt.safe = true := by
  unfold mirrorAt
  repeat' (with_reducible first | assumption | apply raiseIf_safe | dsimp only | split | intro)

theorem mirror_safe (ty : Nat) (body : List Byte) (s : State) (h_ : s.flt.safe = true) :
    (mirror ty body s).flt.safe = true := by
  unfold mirror
  repeat' (with_reducible first | assumption | apply mirrorAt_safe | dsimp only | split | intro)

theorem mirrorState_safe (kind value : Nat) (s : State) (h_ : s.flt.safe = true) :
    (mirrorState kind value s).flt.safe = true := by
  unfold mirrorState
  repeat' (with_reducible first | assumption | apply mirror_safe | dsimp only | split | intro)

theorem makeReady_safe (i : Nat) (s : State) (h_ : s.flt.safe = true) :
    (makeReady i s).flt.safe = true := by
  unfold makeReady
  repeat' (with_reducible first | assumption | apply State_setCtx_safe | dsimp only | split | intro)

theorem startActivation_safe (trig i : Nat) (t : Task) (s : State) (h_ : s.flt.safe = true) :
    (startActivation trig i t s).flt.safe = true := by
  unfold startActivation
  repeat' (with_reducible first | assumption | apply makeReady_safe | apply State_setCtx_safe | dsimp only | split | intro)

theorem activate_safe (trig i : Nat) (s : State) (h_ : s.flt.safe = true) :
    (activate trig i s).flt.safe = true := by
  unfold activate
  repeat' (with_reducible first | assumption | apply startActivation_safe | apply State_setCtx_safe | dsimp only | split | intro)

theorem wakeLatch_safe (i : Nat) (s : State) (h_ : s.flt.safe = true) :
    (wakeLatch i s).flt.safe = true := by
  unfold wakeLatch
  repeat' (with_reducible first | assumption | apply makeReady_safe | apply State_setCtx_safe | apply setReg_safe | dsimp only | split | intro)

theorem setLatch_safe (b i : Nat) (s : State) (h_ : s.flt.safe = true) :
    (setLatch b i s).flt.safe = true := by
  unfold setLatch
  repeat' (with_reducible first | assumption | apply State_setCtx_safe | apply activate_safe | apply wakeLatch_safe | dsimp only | split | intro)

theorem forEach_safe (l : List Nat) (f : Nat → State → State) (s : State) (h_f : ∀ i (s : State), s.flt.safe = true → (f i s).flt.safe = true)
    (h_ : s.flt.safe = true) : (forEach l f s).flt.safe = true := foldl_safe _ _ _ (fun s i => h_f i s) h_

theorem latchSq_safe (b q : Nat) (s : State) (h_ : s.flt.safe = true) :
    (latchSq b q s).flt.safe = true := by
  unfold latchSq
  repeat' (with_reducible first | assumption | apply State_setSq_safe | apply forEach_safe | apply setLatch_safe | dsimp only | split | intro)

theorem latchAll_safe (b : Nat) (s : State) (h_ : s.flt.safe = true) :
    (latchAll b s).flt.safe = true := by
  unfold latchAll
  repeat' (with_reducible first | assumption | apply forEach_safe | apply setLatch_safe | dsimp only | split | intro)

theorem notice_safe (owner : Nat) (w0 w1 : Word) (s : State) (h_ : s.flt.safe = true) :
    (notice owner w0 w1 s).flt.safe = true := by
  unfold notice
  repeat' (with_reducible first | assumption | apply State_setSq_safe | apply latchSq_safe | dsimp only | split | intro)

theorem ebZero_safe (n : Nat) (s : State) (h_ : s.flt.safe = true) :
    (ebZero n s).flt.safe = true := by
  unfold ebZero
  repeat' (with_reducible first | assumption | apply raiseIf_safe | apply State_setEb_safe | dsimp only | split | intro)

theorem ebPer_safe (n : Nat) (s : State) (h_ : s.flt.safe = true) :
    (ebPer n s).flt.safe = true := by
  unfold ebPer
  repeat' (with_reducible first | assumption | apply raiseIf_safe | apply State_setEb_safe | dsimp only | split | intro)

theorem ebCmp_safe (n : Nat) (s : State) (h_ : s.flt.safe = true) :
    (ebCmp n s).flt.safe = true := by
  unfold ebCmp
  repeat' (with_reducible first | assumption | apply raiseIf_safe | apply State_setEb_safe | dsimp only | split | intro)

theorem ebTrip_safe (n : Nat) (s : State) (h_ : s.flt.safe = true) :
    (ebTrip n s).flt.safe = true := by
  unfold ebTrip
  repeat' (with_reducible first | assumption | apply raiseIf_safe | apply State_setEb_safe | dsimp only | split | intro)

theorem ebUnblank_safe (n : Nat) (s : State) (h_ : s.flt.safe = true) :
    (ebUnblank n s).flt.safe = true := by
  unfold ebUnblank
  repeat' (with_reducible first | assumption | apply State_setEb_safe | apply ebTrip_safe | dsimp only | split | intro)

theorem ebPhase_safe (toHigh : Bool) (x : Tick) (len : Nat) (n : Nat) (s : State) (h_ : s.flt.safe = true) :
    (ebPhase toHigh x len n s).flt.safe = true := by
  unfold ebPhase
  repeat' (with_reducible first | assumption | apply State_setEb_safe | apply raiseIf_safe | apply ebUnblank_safe | dsimp only | split | intro)

theorem ebZeroPhase_safe (x : Tick) (n : Nat) (s : State) (h_ : s.flt.safe = true) :
    (ebZeroPhase x n s).flt.safe = true := by
  unfold ebZeroPhase
  repeat' (with_reducible first | assumption | apply ebPhase_safe | apply State_setEb_safe | dsimp only | split | intro)

theorem ebBoundary_safe (x : Tick) (n : Nat) (s : State) (h_ : s.flt.safe = true) :
    (ebBoundary x n s).flt.safe = true := by
  unfold ebBoundary
  repeat' (with_reducible first | assumption | apply State_setEb_safe | apply ebZero_safe | apply ebPer_safe | apply ebZeroPhase_safe | dsimp only | split | intro)

theorem ebShadow_safe (f : EbVals → EbVals) (n : Nat) (s : State) (h_ : s.flt.safe = true) :
    (ebShadow f n s).flt.safe = true := by
  unfold ebShadow
  repeat' (with_reducible first | assumption | apply State_setEb_safe | dsimp only | split | intro)

theorem doEbPeriodBoundary_safe (n : Nat) (bootLow : Bool) (s : State) (h_ : s.flt.safe = true) :
    (doEbPeriodBoundary n bootLow s).flt.safe = true := by
  unfold doEbPeriodBoundary
  repeat' (with_reducible first | assumption | apply ebBoundary_safe | apply State_setEb_safe | dsimp only | split | intro)

theorem doEbPerEvent_safe (n : Nat) (s : State) (h_ : s.flt.safe = true) :
    (doEbPerEvent n s).flt.safe = true := by
  unfold doEbPerEvent
  repeat' (with_reducible first | assumption | apply ebPer_safe | apply State_setEb_safe | dsimp only | split | intro)

theorem doEbPhaseEdge_safe (n : Nat) (bootLow : Bool) (s : State) (h_ : s.flt.safe = true) :
    (doEbPhaseEdge n bootLow s).flt.safe = true := by
  unfold doEbPhaseEdge
  repeat' (with_reducible first | assumption | apply ebCmp_safe | apply ebPhase_safe | apply State_setEb_safe | dsimp only | split | intro)

theorem doEbDeadTimeEnd_safe (n : Nat) (swung : Bool) (s : State) (h_ : s.flt.safe = true) :
    (doEbDeadTimeEnd n swung s).flt.safe = true := by
  unfold doEbDeadTimeEnd
  repeat' (with_reducible first | assumption | apply State_setEb_safe | dsimp only | split | intro)

theorem setTrip_safe (i : Nat) (active : Bool) (s : State) (h_ : s.flt.safe = true) :
    (setTrip i active s).flt.safe = true := by
  unfold setTrip
  repeat' (with_reducible first | assumption | dsimp only | split | intro)

theorem ebTripDecide_safe (n : Nat) (s : State) (h_ : s.flt.safe = true) :
    (ebTripDecide n s).flt.safe = true := by
  unfold ebTripDecide
  repeat' (with_reducible first | assumption | apply State_setEb_safe | apply ebTrip_safe | dsimp only | split | intro)

theorem doTripAccept_safe (n i held : Nat) (s : State) (h_ : s.flt.safe = true) :
    (doTripAccept n i held s).flt.safe = true := by
  unfold doTripAccept
  repeat' (with_reducible first | assumption | apply setTrip_safe | apply State_setEb_safe | apply ebTripDecide_safe | dsimp only | split | intro)

theorem ebSetMask_safe (mask : BitVec 4) (n : Nat) (s : State) (h_ : s.flt.safe = true) :
    (ebSetMask mask n s).flt.safe = true := by
  unfold ebSetMask
  repeat' (with_reducible first | assumption | apply State_setEb_safe | apply ebTripDecide_safe | dsimp only | split | intro)

theorem doBlankingEnd_safe (n : Nat) (s : State) (h_ : s.flt.safe = true) :
    (doBlankingEnd n s).flt.safe = true := by
  unfold doBlankingEnd
  repeat' (with_reducible first | assumption | apply State_setEb_safe | apply ebTrip_safe | dsimp only | split | intro)

theorem ebRelease_safe (i n : Nat) (s : State) (h_ : s.flt.safe = true) :
    (ebRelease i n s).flt.safe = true := by
  unfold ebRelease
  repeat' (with_reducible first | assumption | apply State_setEb_safe | dsimp only | split | intro)

theorem doTripInputRelease_safe (i : Nat) (s : State) (h_ : s.flt.safe = true) :
    (doTripInputRelease i s).flt.safe = true := by
  unfold doTripInputRelease
  repeat' (with_reducible first | assumption | apply forEach_safe | apply ebRelease_safe | apply setTrip_safe | dsimp only | split | intro)

theorem tripsApplied_safe (s : State) (h_ : s.flt.safe = true) :
    (tripsApplied s).flt.safe = true := by
  unfold tripsApplied
  repeat' (with_reducible first | assumption | apply forEach_safe | apply ebRelease_safe | dsimp only | split | intro)

theorem doEbEnable_safe (n : Nat) (s : State) (h_ : s.flt.safe = true) :
    (doEbEnable n s).flt.safe = true := by
  unfold doEbEnable
  repeat' (with_reducible first | assumption | apply ebPhase_safe | apply State_setEb_safe | apply ebTrip_safe | dsimp only | split | intro)

theorem doEbDisable_safe (n : Nat) (s : State) (h_ : s.flt.safe = true) :
    (doEbDisable n s).flt.safe = true := by
  unfold doEbDisable
  repeat' (with_reducible first | assumption | apply State_setEb_safe | dsimp only | split | intro)

theorem ebAllOff_safe (s : State) (h_ : s.flt.safe = true) :
    (ebAllOff s).flt.safe = true := by
  unfold ebAllOff
  repeat' (with_reducible first | assumption | apply forEach_safe | apply doEbDisable_safe | dsimp only | split | intro)

theorem doEbLoadArm_safe (n : Nat) (s : State) (h_ : s.flt.safe = true) :
    (doEbLoadArm n s).flt.safe = true := by
  unfold doEbLoadArm
  repeat' (with_reducible first | assumption | apply State_setEb_safe | dsimp only | split | intro)

theorem doPwmGlbLoad_safe (mask : Nat) (s : State) (h_ : s.flt.safe = true) :
    (doPwmGlbLoad mask s).flt.safe = true := by
  unfold doPwmGlbLoad
  repeat' (with_reducible first | assumption | apply forEach_safe | apply doEbLoadArm_safe | dsimp only | split | intro)

theorem doPwmGlbStart_safe (mask : Nat) (s : State) (h_ : s.flt.safe = true) :
    (doPwmGlbStart mask s).flt.safe = true := by
  unfold doPwmGlbStart
  repeat' (with_reducible first | assumption | apply forEach_safe | apply doEbEnable_safe | dsimp only | split | intro)

theorem bootstrapFree_safe (n : Nat) (s : State) (h_ : s.flt.safe = true) :
    (bootstrapFree n s).flt.safe = true := by
  unfold bootstrapFree
  repeat' (with_reducible first | assumption | apply State_setEb_safe | dsimp only | split | intro)

theorem ebRecross_safe (n : Nat) (s : State) (h_ : s.flt.safe = true) :
    (ebRecross n s).flt.safe = true := by
  unfold ebRecross
  repeat' (with_reducible first | assumption | apply ebPhase_safe | apply bootstrapFree_safe | dsimp only | split | intro)

theorem ebImmPer_safe (v n : Nat) (s : State) (h_ : s.flt.safe = true) :
    (ebImmPer v n s).flt.safe = true := by
  unfold ebImmPer
  repeat' (with_reducible first | assumption | apply State_setEb_safe | apply ebBoundary_safe | apply bootstrapFree_safe | apply ebRecross_safe | apply ebPer_safe | dsimp only | split | intro)

theorem ebImmCmp_safe (v n : Nat) (s : State) (h_ : s.flt.safe = true) :
    (ebImmCmp v n s).flt.safe = true := by
  unfold ebImmCmp
  repeat' (with_reducible first | assumption | apply ebRecross_safe | apply State_setEb_safe | dsimp only | split | intro)

theorem doEbWrite_safe (n : Nat) (which : EbValue) (value : Word) (s : State) (h_ : s.flt.safe = true) :
    (doEbWrite n which value s).flt.safe = true := by
  unfold doEbWrite
  repeat' (with_reducible first | assumption | apply ebImmPer_safe | apply ebShadow_safe | apply ebImmCmp_safe | dsimp only | split | intro)

theorem doEbTripClear_safe (n : Nat) (s : State) (h_ : s.flt.safe = true) :
    (doEbTripClear n s).flt.safe = true := by
  unfold doEbTripClear
  repeat' (with_reducible first | assumption | apply State_setEb_safe | dsimp only | split | intro)

theorem kcStop_safe (k : Nat) (s : State) (h_ : s.flt.safe = true) :
    (kcStop k s).flt.safe = true := by
  unfold kcStop
  repeat' (with_reducible first | assumption | apply State_setKc_safe | dsimp only | split | intro)

theorem kcZero_safe (k : Nat) (s : State) (h_ : s.flt.safe = true) :
    (kcZero k s).flt.safe = true := by
  unfold kcZero
  repeat' (with_reducible first | assumption | apply raiseIf_safe | apply State_setKc_safe | dsimp only | split | intro)

theorem kcPer_safe (k : Nat) (s : State) (h_ : s.flt.safe = true) :
    (kcPer k s).flt.safe = true := by
  unfold kcPer
  repeat' (with_reducible first | assumption | apply raiseIf_safe | apply State_setKc_safe | dsimp only | split | intro)

theorem kcCmp_safe (k : Nat) (s : State) (h_ : s.flt.safe = true) :
    (kcCmp k s).flt.safe = true := by
  unfold kcCmp
  repeat' (with_reducible first | assumption | apply raiseIf_safe | apply State_setKc_safe | dsimp only | split | intro)

theorem kcReached_safe (k : Nat) (s : State) (h_ : s.flt.safe = true) :
    (kcReached k s).flt.safe = true := by
  unfold kcReached
  repeat' (with_reducible first | assumption | apply kcCmp_safe | dsimp only | split | intro)

theorem kcNow_safe (s : State) (h_ : s.flt.safe = true) :
    (kcNow s).flt.safe = true := by
  unfold kcNow
  repeat' (with_reducible first | assumption | apply forEach_safe | apply kcReached_safe | dsimp only | split | intro)

theorem doKcPeriodBoundary_safe (k per cmp : Nat) (s : State) (h_ : s.flt.safe = true) :
    (doKcPeriodBoundary k per cmp s).flt.safe = true := by
  unfold doKcPeriodBoundary
  repeat' (with_reducible first | assumption | apply kcStop_safe | apply kcPer_safe | apply kcZero_safe | apply State_setKc_safe | dsimp only | split | intro)

theorem doKcTrigger_safe (k j : Nat) (code : BitVec 12) (s : State) (h_ : s.flt.safe = true) :
    (doKcTrigger k j code s).flt.safe = true := by
  unfold doKcTrigger
  repeat' (with_reducible first | assumption | apply State_setKc_safe | apply State_setDgt_safe | apply raiseIf_safe | dsimp only | split | intro)

theorem timFollow_safe (rec : TimOp → Nat → Tick → State → State) (op : TimOp) (n : Nat) (x : Tick) (m : Nat) (s : State)
    (h_r : ∀ o n x (s : State), s.flt.safe = true → (rec o n x s).flt.safe = true) (h_ : s.flt.safe = true) : (timFollow rec op n x m s).flt.safe = true := by
  unfold timFollow
  repeat' (with_reducible first | assumption | apply State_setTimer_safe | apply h_r | dsimp only | split | intro)
theorem timAct_safe (k : Nat) (op : TimOp) (n : Nat) (x : Tick) (s : State) (h_ : s.flt.safe = true) : (timAct k op n x s).flt.safe = true := by
  induction k generalizing op n x s with
  | zero => cases op <;> exact h_
  | succ k ih =>
    cases op <;> simp only [timAct]
    all_goals
      refine foldl_safe _ _ _ (fun s a h => timFollow_safe _ _ _ _ _ _ ih h) ?_
      repeat' (with_reducible first | assumption | apply ih | apply State_setTimer_safe | apply raiseIf_safe | apply wake_safe | dsimp only | split)

theorem timBefore_safe (n : Nat) (x : Tick) (s : State) (h_ : s.flt.safe = true) :
    (timBefore n x s).flt.safe = true := by
  unfold timBefore
  repeat' (with_reducible first | assumption | apply timAct_safe | dsimp only | split | intro)

theorem doTimerStart_safe (n : Nat) (s : State) (h_ : s.flt.safe = true) :
    (doTimerStart n s).flt.safe = true := by
  unfold doTimerStart
  repeat' (with_reducible first | assumption | apply timBefore_safe | apply State_setTimer_safe | apply timAct_safe | dsimp only | split | intro)

theorem doTimerStop_safe (n : Nat) (s : State) (h_ : s.flt.safe = true) :
    (doTimerStop n s).flt.safe = true := by
  unfold doTimerStop
  repeat' (with_reducible first | assumption | apply timBefore_safe | apply State_setTimer_safe | dsimp only | split | intro)

theorem doTimerTargetWrite_safe (n : Nat) (target : Word) (s : State) (h_ : s.flt.safe = true) :
    (doTimerTargetWrite n target s).flt.safe = true := by
  unfold doTimerTargetWrite
  repeat' (with_reducible first | assumption | apply timBefore_safe | apply State_setTimer_safe | apply timAct_safe | dsimp only | split | intro)

theorem doTimGlbStart_safe (mask : Nat) (s : State) (h_ : s.flt.safe = true) :
    (doTimGlbStart mask s).flt.safe = true := by
  unfold doTimGlbStart
  repeat' (with_reducible first | assumption | apply forEach_safe | apply doTimerStart_safe | dsimp only | split | intro)

theorem doTimerExpiry_safe (n : Nat) (s : State) (h_ : s.flt.safe = true) :
    (doTimerExpiry n s).flt.safe = true := by
  unfold doTimerExpiry
  repeat' (with_reducible first | assumption | apply timAct_safe | dsimp only | split | intro)

theorem captureAt_safe (alive : Bool) (n : Nat) (stamp : Tick) (s : State) (h_ : s.flt.safe = true) :
    (captureAt alive n stamp s).flt.safe = true := by
  unfold captureAt
  repeat' (with_reducible first | assumption | apply State_setTimer_safe | apply raiseIf_safe | dsimp only | split | intro)

theorem doCaptureEdge_safe (n : Nat) (stamp : Tick) (rising : Bool) (s : State) (h_ : s.flt.safe = true) :
    (doCaptureEdge n stamp rising s).flt.safe = true := by
  unfold doCaptureEdge
  repeat' (with_reducible first | assumption | apply State_setTimer_safe | apply captureAt_safe | apply timAct_safe | dsimp only | split | intro)

theorem ktEnter_safe (k : Nat) (st : KtState) (s : State) (h_ : s.flt.safe = true) :
    (ktEnter k st s).flt.safe = true := by
  unfold ktEnter
  repeat' (with_reducible first | assumption | apply State_setKettle_safe | apply fault_safe | apply kcStop_safe | apply raise_safe | dsimp only | split | intro)

theorem ktUpdate_safe (k : Nat) (s : State) (h_ : s.flt.safe = true) :
    (ktUpdate k s).flt.safe = true := by
  unfold ktUpdate
  repeat' (with_reducible first | assumption | apply ktEnter_safe | dsimp only | split | intro)

theorem ktLimit_safe (k : Nat) (s : State) (h_ : s.flt.safe = true) :
    (ktLimit k s).flt.safe = true := by
  unfold ktLimit
  repeat' (with_reducible first | assumption | apply State_setKettle_safe | apply kcStop_safe | dsimp only | split | intro)

theorem markFall_safe (k : Nat) (s : State) (h_ : s.flt.safe = true) :
    (markFall k s).flt.safe = true := by
  unfold markFall
  repeat' (with_reducible first | assumption | apply State_setKettle_safe | dsimp only | split | intro)

theorem fallEnds_safe (k : Nat) (s : State) (h_ : s.flt.safe = true) :
    (fallEnds k s).flt.safe = true := by
  unfold fallEnds
  repeat' (with_reducible first | assumption | apply State_setKettle_safe | dsimp only | split | intro)

theorem ktLimits_safe (s : State) (h_ : s.flt.safe = true) :
    (ktLimits s).flt.safe = true := by
  unfold ktLimits
  repeat' (with_reducible first | assumption | apply forEach_safe | apply ktLimit_safe | dsimp only | split | intro)

theorem ktTargetNow_safe (k : Nat) (s : State) (h_ : s.flt.safe = true) :
    (ktTargetNow k s).flt.safe = true := by
  unfold ktTargetNow
  repeat' (with_reducible first | assumption | apply ktUpdate_safe | apply State_setKettle_safe | dsimp only | split | intro)

theorem ktPassed_safe (k i : Nat) (s : State) (h_ : s.flt.safe = true) :
    (ktPassed k i s).flt.safe = true := by
  unfold ktPassed
  repeat' (with_reducible first | assumption | apply ktTargetNow_safe | apply State_setKettle_safe | dsimp only | split | intro)

theorem ktRelease_safe (k amount : Nat) (s : State) (h_ : s.flt.safe = true) :
    (ktRelease k amount s).flt.safe = true := by
  unfold ktRelease
  repeat' (with_reducible first | assumption | apply State_setKettle_safe | dsimp only | split | intro)

theorem digitiserBusy_safe (k : Nat) (s : State) (h_ : s.flt.safe = true) :
    (digitiserBusy k s).flt.safe = true := by
  unfold digitiserBusy
  repeat' (with_reducible first | assumption | apply State_setDch_safe | apply State_setDgt_safe | dsimp only | split | intro)

theorem takeCapture_safe (k : Nat) (off : Tick) (c : Capture) (s : State) (h_ : s.flt.safe = true) :
    (takeCapture k off c s).flt.safe = true := by
  unfold takeCapture
  repeat' (with_reducible first | assumption | apply State_setDgt_safe | dsimp only | split | intro)

theorem beginCapture_safe (k : Nat) (off : Tick) (s : State) (h_ : s.flt.safe = true) :
    (beginCapture k off s).flt.safe = true := by
  unfold beginCapture
  repeat' (with_reducible first | assumption | apply digitiserBusy_safe | apply takeCapture_safe | apply State_setDgt_safe | dsimp only | split | intro)

theorem peakOver_safe (k energyUj : Nat) (s : State) (h_ : s.flt.safe = true) :
    (peakOver k energyUj s).flt.safe = true := by
  unfold peakOver
  repeat' (with_reducible first | assumption | apply ktRelease_safe | apply State_setChan_safe | apply ktPassed_safe | dsimp only | split | intro)

theorem bankEdge_safe (b : Nat) (x : Tick) (s : State) (h_ : s.flt.safe = true) :
    (bankEdge b x s).flt.safe = true := by
  unfold bankEdge
  repeat' (with_reducible first | assumption | apply State_setBank_safe | dsimp only | split | intro)

theorem turnOff_safe (k : Nat) (off : Tick) (lastEnd energyUj : Nat) (s : State) (h_ : s.flt.safe = true) :
    (turnOff k off lastEnd energyUj s).flt.safe = true := by
  unfold turnOff
  repeat' (with_reducible first | assumption | apply peakOver_safe | apply State_setChan_safe | apply beginCapture_safe | apply bankEdge_safe | dsimp only | split | intro)

theorem endAt_safe (cause : Nat) (off : Tick) (k : Nat) (s : State) (h_ : s.flt.safe = true) :
    (endAt cause off k s).flt.safe = true := by
  unfold endAt
  repeat' (with_reducible first | assumption | apply turnOff_safe | apply raise_safe | apply State_setChan_safe | dsimp only | split | intro)

theorem endEarly_safe (cause k : Nat) (s : State) (h_ : s.flt.safe = true) :
    (endEarly cause k s).flt.safe = true := by
  unfold endEarly
  repeat' (with_reducible first | assumption | apply endAt_safe | dsimp only | split | intro)

theorem endAll_safe (cause : Nat) (s : State) (h_ : s.flt.safe = true) :
    (endAll cause s).flt.safe = true := by
  unfold endAll
  repeat' (with_reducible first | assumption | apply forEach_safe | apply endEarly_safe | dsimp only | split | intro)

theorem endBank_safe (cause b : Nat) (s : State) (h_ : s.flt.safe = true) :
    (endBank cause b s).flt.safe = true := by
  unfold endBank
  repeat' (with_reducible first | assumption | apply forEach_safe | apply endEarly_safe | dsimp only | split | intro)

theorem stopTests_safe (p : Nat → Bool) (s : State) (h_ : s.flt.safe = true) :
    (stopTests p s).flt.safe = true := by
  unfold stopTests
  repeat' (with_reducible first | assumption | apply forEach_safe | apply State_setDch_safe | dsimp only | split | intro)

theorem recordDrop_safe (i : Nat) (e : Event) (ch reason detail : Nat) (s : State) (h_ : s.flt.safe = true) :
    (recordDrop i e ch reason detail s).flt.safe = true := by
  unfold recordDrop
  repeat' (with_reducible first | assumption | apply State_memWrite_safe | apply raiseIf_safe | apply raise_safe | apply State_setBank_safe | apply mirror_safe | dsimp only | split | intro)

theorem freeSlot_safe (i : Nat) (s : State) (h_ : s.flt.safe = true) :
    (freeSlot i s).flt.safe = true := by
  unfold freeSlot
  repeat' (with_reducible first | assumption | apply State_setSlot_safe | apply ktPassed_safe | apply ktRelease_safe | dsimp only | split | intro)

theorem dropEvent_safe (reason detail i : Nat) (s : State) (h_ : s.flt.safe = true) :
    (dropEvent reason detail i s).flt.safe = true := by
  unfold dropEvent
  repeat' (with_reducible first | assumption | apply notice_safe | apply freeSlot_safe | apply recordDrop_safe | dsimp only | split | intro)

theorem withdraw_safe (reason i : Nat) (s : State) (h_ : s.flt.safe = true) :
    (withdraw reason i s).flt.safe = true := by
  unfold withdraw
  repeat' (with_reducible first | assumption | apply dropEvent_safe | dsimp only | split | intro)

theorem withdrawAll_safe (reason : Nat) (s : State) (h_ : s.flt.safe = true) :
    (withdrawAll reason s).flt.safe = true := by
  unfold withdrawAll
  repeat' (with_reducible first | assumption | apply forEach_safe | apply dropEvent_safe | dsimp only | split | intro)

theorem dropPending_safe (reason : Nat) (s : State) (h_ : s.flt.safe = true) :
    (dropPending reason s).flt.safe = true := by
  unfold dropPending
  repeat' (with_reducible first | assumption | apply forEach_safe | apply withdraw_safe | apply dropEvent_safe | dsimp only | split | intro)

theorem safeEntry_safe (src : Nat) (byGrace : Bool) (s : State) (h_ : s.flt.safe = true) :
    (safeEntry src byGrace s).flt.safe = true := by
  unfold safeEntry
  repeat' (with_reducible first | assumption | apply forEach_safe | apply dropEvent_safe | apply endAll_safe | apply ktUpdate_safe | apply ebAllOff_safe | apply stopTests_safe | apply raise_safe | apply mirrorState_safe | apply log_safe | dsimp only | split | intro)

theorem faultRecord_safe (n c : Nat) (s : State) (h_ : s.flt.safe = true) :
    (faultRecord n c s).flt.safe = true := by
  unfold faultRecord
  repeat' (with_reducible first | assumption | dsimp only | split | intro)

theorem graceReaction_safe (n : Nat) (s : State) (h_ : s.flt.safe = true) :
    (graceReaction n s).flt.safe = true := by
  unfold graceReaction
  repeat' (with_reducible first | assumption | apply raise_safe | dsimp only | split | intro)

theorem reaction_safe (n c : Nat) (s : State) (h_ : s.flt.safe = true) :
    (reaction n c s).flt.safe = true := by
  unfold reaction
  repeat' (with_reducible first | assumption | apply graceReaction_safe | apply safeEntry_safe | dsimp only | split | intro)

theorem fault_safe (n : Nat) (s : State) (h_ : s.flt.safe = true) :
    (fault n s).flt.safe = true := by
  unfold fault
  repeat' (with_reducible first | assumption | apply raise_safe | apply faultRecord_safe | apply mirror_safe | apply reaction_safe | apply wake_safe | apply log_safe | dsimp only | split | intro)

theorem faultOnset_safe (n : Nat) (s : State) (h_ : s.flt.safe = true) :
    (faultOnset n s).flt.safe = true := by
  unfold faultOnset
  repeat' (with_reducible first | assumption | apply fault_safe | dsimp only | split | intro)

theorem faultEnd_safe (n : Nat) (s : State) (h_ : s.flt.safe = true) :
    (faultEnd n s).flt.safe = true := by
  unfold faultEnd
  repeat' (with_reducible first | assumption | dsimp only | split | intro)

theorem calReport_safe (c : Bool) (item source : Nat) (s : State) (h_ : s.flt.safe = true) :
    (calReport c item source s).flt.safe = true := by
  unfold calReport
  repeat' (with_reducible first | assumption | apply raise_safe | apply log_safe | dsimp only | split | intro)

theorem ktFault_safe (k : Nat) (s : State) (h_ : s.flt.safe = true) :
    (ktFault k s).flt.safe = true := by
  unfold ktFault
  repeat' (with_reducible first | assumption | apply fault_safe | apply ktUpdate_safe | apply State_setKettle_safe | dsimp only | split | intro)

theorem acknowledge_safe (w : Nat) (mask : Word) (s : State) (h_ : s.flt.safe = true) :
    (acknowledge w mask s).flt.safe = true := by
  unfold acknowledge
  repeat' (with_reducible first | assumption | apply raise_safe | dsimp only | split | intro)

theorem graceDue_safe (s : State) (h_ : s.flt.safe = true) :
    (graceDue s).flt.safe = true := by
  unfold graceDue
  repeat' (with_reducible first | assumption | apply safeEntry_safe | dsimp only | split | intro)

theorem setSpeed_safe (v : Nat) (s : State) (h_ : s.flt.safe = true) :
    (setSpeed v s).flt.safe = true := by
  unfold setSpeed
  repeat' (with_reducible first | assumption | apply raiseIf_safe | dsimp only | split | intro)

theorem speedNow_safe (s : State) (h_ : s.flt.safe = true) :
    (speedNow s).flt.safe = true := by
  unfold speedNow
  repeat' (with_reducible first | assumption | apply setSpeed_safe | dsimp only | split | intro)

theorem doSpeedRecompute_safe (s : State) (h_ : s.flt.safe = true) :
    (doSpeedRecompute s).flt.safe = true := by
  unfold doSpeedRecompute
  repeat' (with_reducible first | assumption | apply speedNow_safe | dsimp only | split | intro)

theorem endWaita_safe (code i : Nat) (s : State) (h_ : s.flt.safe = true) :
    (endWaita code i s).flt.safe = true := by
  unfold endWaita
  repeat' (with_reducible first | assumption | apply makeReady_safe | apply State_setCtx_safe | apply setReg_safe | dsimp only | split | intro)

theorem endWaitas_safe (code : Nat) (s : State) (h_ : s.flt.safe = true) :
    (endWaitas code s).flt.safe = true := by
  unfold endWaitas
  repeat' (with_reducible first | assumption | apply forEach_safe | apply endWaita_safe | dsimp only | split | intro)

theorem passContext_safe (swept : Bool) (len lo hi i : Nat) (s : State) (h_ : s.flt.safe = true) :
    (passContext swept len lo hi i s).flt.safe = true := by
  unfold passContext
  repeat' (with_reducible first | assumption | apply endWaita_safe | apply repeatN_safe | apply activate_safe | dsimp only | split | intro)

theorem passRange_safe (swept : Bool) (lo hi : Nat) (s : State) (h_ : s.flt.safe = true) :
    (passRange swept lo hi s).flt.safe = true := by
  unfold passRange
  repeat' (with_reducible first | assumption | apply forEach_safe | apply passContext_safe | dsimp only | split | intro)

theorem passTo_safe (x : Tick) (s : State) (h_ : s.flt.safe = true) :
    (passTo x s).flt.safe = true := by
  unfold passTo
  repeat' (with_reducible first | assumption | apply passRange_safe | dsimp only | split | intro)

theorem watchHere_safe (s : State) (h_ : s.flt.safe = true) :
    (watchHere s).flt.safe = true := by
  unfold watchHere
  repeat' (with_reducible first | assumption | dsimp only | split | intro)

theorem doAnglePassed_safe (angle : Word) (s : State) (h_ : s.flt.safe = true) :
    (doAnglePassed angle s).flt.safe = true := by
  unfold doAnglePassed
  repeat' (with_reducible first | assumption | apply passRange_safe | dsimp only | split | intro)

theorem joinNear_safe (i : Nat) (s : State) (h_ : s.flt.safe = true) :
    (joinNear i s).flt.safe = true := by
  unfold joinNear
  repeat' (with_reducible first | assumption | apply State_setSlot_safe | dsimp only | split | intro)

theorem nearFill_safe (s : State) (h_ : s.flt.safe = true) :
    (nearFill s).flt.safe = true := by
  unfold nearFill
  repeat' (with_reducible first | assumption | apply forEach_safe | apply joinNear_safe | dsimp only | split | intro)

theorem dropPassedWaiting_safe (s : State) (h_ : s.flt.safe = true) :
    (dropPassedWaiting s).flt.safe = true := by
  unfold dropPassedWaiting
  repeat' (with_reducible first | assumption | apply forEach_safe | apply dropEvent_safe | dsimp only | split | intro)

theorem nearOverflow_safe (s : State) (h_ : s.flt.safe = true) :
    (nearOverflow s).flt.safe = true := by
  unfold nearOverflow
  repeat' (with_reducible first | assumption | apply raise_safe | dsimp only | split | intro)

theorem joinPass_safe (i : Nat) (s : State) (h_ : s.flt.safe = true) :
    (joinPass i s).flt.safe = true := by
  unfold joinPass
  repeat' (with_reducible first | assumption | apply State_setSlot_safe | dsimp only | split | intro)

theorem startPass_safe (admitted : List Nat) (s : State) (h_ : s.flt.safe = true) :
    (startPass admitted s).flt.safe = true := by
  unfold startPass
  repeat' (with_reducible first | assumption | dsimp only | split | intro)

theorem predictionChanged_safe (s : State) (h_ : s.flt.safe = true) :
    (predictionChanged s).flt.safe = true := by
  unfold predictionChanged
  repeat' (with_reducible first | assumption | apply nearOverflow_safe | apply dropPassedWaiting_safe | apply startPass_safe | apply forEach_safe | apply joinPass_safe | dsimp only | split | intro)

theorem leavePass_safe (i : Nat) (s : State) (h_ : s.flt.safe = true) :
    (leavePass i s).flt.safe = true := by
  unfold leavePass
  repeat' (with_reducible first | assumption | dsimp only | split | intro)

theorem refuseInsertion_safe (res : Nat) (s : State) (h_ : s.flt.safe = true) :
    (refuseInsertion res s).1.flt.safe = true := by
  unfold refuseInsertion
  repeat' (with_reducible first | assumption | dsimp only | split | intro)

theorem dropAtInsertion_safe (res reason detail i : Nat) (e : Event) (s : State) (h_ : s.flt.safe = true) :
    (dropAtInsertion res reason detail i e s).1.flt.safe = true := by
  unfold dropAtInsertion
  repeat' (with_reducible first | assumption | apply recordDrop_safe | apply State_setSlot_safe | apply notice_safe | dsimp only | split | intro)

theorem placeEvent_safe (i : Nat) (e : Event) (s : State) (h_ : s.flt.safe = true) :
    (placeEvent i e s).1.flt.safe = true := by
  unfold placeEvent
  repeat' (with_reducible first | assumption | apply leavePass_safe | apply dropAtInsertion_safe | apply State_setSlot_safe | dsimp only | split | intro)

theorem insertEvent_safe (owner : Nat) (w0 w1 w2 : Word) (s : State) (h_ : s.flt.safe = true) :
    (insertEvent owner w0 w1 w2 s).1.flt.safe = true := by
  unfold insertEvent
  repeat' (with_reducible first | assumption | apply refuseInsertion_safe | apply raise_safe | apply placeEvent_safe | dsimp only | split | intro)

theorem aimPlace_safe (i : Nat) (e : Event) (wasNear near : Bool) (s : State) (h_ : s.flt.safe = true) :
    (aimPlace i e wasNear near s).flt.safe = true := by
  unfold aimPlace
  repeat' (with_reducible first | assumption | apply State_setSlot_safe | apply nearFill_safe | dsimp only | split | intro)

theorem aimLive_safe (i : Nat) (target w2 : Word) (s : State) (h_ : s.flt.safe = true) :
    (aimLive i target w2 s).1.flt.safe = true := by
  unfold aimLive
  repeat' (with_reducible first | assumption | apply leavePass_safe | apply State_setSlot_safe | apply nearFill_safe | apply dropEvent_safe | apply aimPlace_safe | dsimp only | split | intro)

theorem aimEvent_safe (owner : Nat) (h target w2 : Word) (s : State) (h_ : s.flt.safe = true) :
    (aimEvent owner h target w2 s).1.flt.safe = true := by
  unfold aimEvent
  repeat' (with_reducible first | assumption | apply aimLive_safe | dsimp only | split | intro)

theorem cancelSlot_safe (i : Nat) (s : State) (h_ : s.flt.safe = true) :
    (cancelSlot i s).flt.safe = true := by
  unfold cancelSlot
  repeat' (with_reducible first | assumption | apply freeSlot_safe | dsimp only | split | intro)

theorem cancelEvent_safe (owner : Nat) (h : Word) (s : State) (h_ : s.flt.safe = true) :
    (cancelEvent owner h s).1.flt.safe = true := by
  unfold cancelEvent
  repeat' (with_reducible first | assumption | apply cancelSlot_safe | apply nearFill_safe | dsimp only | split | intro)

theorem haltCancel_safe (q : Nat) (s : State) (h_ : s.flt.safe = true) :
    (haltCancel q s).flt.safe = true := by
  unfold haltCancel
  repeat' (with_reducible first | assumption | apply nearFill_safe | apply forEach_safe | apply cancelSlot_safe | dsimp only | split | intro)

theorem answer_safe (i d b : Nat) (isInsertion : Bool) (r : State × Answer) (h_ : r.1.flt.safe = true) :
    (answer i d b isInsertion r).flt.safe = true := by
  unfold answer
  repeat' (with_reducible first | assumption | apply State_setCtx_safe | apply notice_safe | dsimp only | split | intro)

theorem served_safe (q : Nat) (s : State) (h_ : s.flt.safe = true) :
    (served q s).flt.safe = true := by
  unfold served
  repeat' (with_reducible first | assumption | dsimp only | split | intro)

theorem doEventInsertion_safe (q p : Nat) (s : State) (h_ : s.flt.safe = true) :
    (doEventInsertion q p s).flt.safe = true := by
  unfold doEventInsertion
  repeat' (with_reducible first | assumption | apply answer_safe | apply insertEvent_safe | apply served_safe | dsimp only | split | intro)

theorem doEventAim_safe (q p : Nat) (s : State) (h_ : s.flt.safe = true) :
    (doEventAim q p s).flt.safe = true := by
  unfold doEventAim
  repeat' (with_reducible first | assumption | apply answer_safe | apply aimEvent_safe | apply served_safe | dsimp only | split | intro)

theorem doEventCancel_safe (q p : Nat) (s : State) (h_ : s.flt.safe = true) :
    (doEventCancel q p s).flt.safe = true := by
  unfold doEventCancel
  repeat' (with_reducible first | assumption | apply answer_safe | apply cancelEvent_safe | apply served_safe | dsimp only | split | intro)

theorem abortTests_safe (ch : Nat) (s : State) (h_ : s.flt.safe = true) :
    (abortTests ch s).flt.safe = true := by
  unfold abortTests
  repeat' (with_reducible first | assumption | apply stopTests_safe | dsimp only | split | intro)

theorem arm_safe (i : Nat) (e : Event) (s : State) (h_ : s.flt.safe = true) :
    (arm i e s).flt.safe = true := by
  unfold arm
  repeat' (with_reducible first | assumption | apply State_setKettle_safe | apply State_setSlot_safe | dsimp only | split | intro)

theorem doCommit_safe (i : Nat) (armAt : Tick) (s : State) (h_ : s.flt.safe = true) :
    (doCommit i armAt s).flt.safe = true := by
  unfold doCommit
  repeat' (with_reducible first | assumption | apply abortTests_safe | apply nearFill_safe | apply arm_safe | apply dropEvent_safe | apply State_setSlot_safe | dsimp only | split | intro)

theorem commitInPass_safe (i : Nat) (s : State) (h_ : s.flt.safe = true) :
    (commitInPass i s).flt.safe = true := by
  unfold commitInPass
  repeat' (with_reducible first | assumption | apply doCommit_safe | dsimp only | split | intro)

theorem reaimOne_safe (i : Nat) (s : State) (h_ : s.flt.safe = true) :
    (reaimOne i s).flt.safe = true := by
  unfold reaimOne
  repeat' (with_reducible first | assumption | apply leavePass_safe | apply nearFill_safe | apply dropEvent_safe | apply commitInPass_safe | apply State_setSlot_safe | dsimp only | split | intro)

theorem passStep_safe (i : Nat) (s : State) (h_ : s.flt.safe = true) :
    (passStep i s).flt.safe = true := by
  unfold passStep
  repeat' (with_reducible first | assumption | apply reaimOne_safe | dsimp only | split | intro)

theorem passRun_safe (l : List Nat) (s : State) (h_ : s.flt.safe = true) : (passRun l s).flt.safe = true := by
  induction l generalizing s with
  | nil => exact h_
  | cons i r ih =>
    unfold passRun
    split
    · exact ih _ (passStep_safe _ _ h_)
    · exact h_
theorem passNow_safe (s : State) (h_ : s.flt.safe = true) :
    (passNow s).flt.safe = true := by
  unfold passNow
  exact passRun_safe _ _ h_

theorem quarantine_safe (i : Nat) (s : State) (h_ : s.flt.safe = true) :
    (quarantine i s).flt.safe = true := by
  unfold quarantine
  repeat' (with_reducible first | assumption | apply State_setSlot_safe | apply fault_safe | apply raise_safe | dsimp only | split | intro)

theorem quarantineLate_safe (i : Nat) (s : State) (h_ : s.flt.safe = true) :
    (quarantineLate i s).flt.safe = true := by
  unfold quarantineLate
  repeat' (with_reducible first | assumption | apply State_setSlot_safe | apply fault_safe | apply raise_safe | dsimp only | split | intro)

theorem doEventTableEccError_safe (i : Nat) (part : EccPart) (s : State) (h_ : s.flt.safe = true) :
    (doEventTableEccError i part s).flt.safe = true := by
  unfold doEventTableEccError
  repeat' (with_reducible first | assumption | apply quarantine_safe | apply quarantineLate_safe | apply recordDrop_safe | apply notice_safe | apply freeSlot_safe | apply nearFill_safe | dsimp only | split | intro)

theorem caddyJob_safe (j : CaddyJob) (s : State) (h_ : s.flt.safe = true) :
    (caddyJob j s).flt.safe = true := by
  unfold caddyJob
  repeat' (with_reducible first | assumption | dsimp only | split | intro)

theorem spoilRecords_safe (reason : Nat) (s : State) (h_ : s.flt.safe = true) :
    (spoilRecords reason s).flt.safe = true := by
  unfold spoilRecords
  repeat' (with_reducible first | assumption | apply raise_safe | dsimp only | split | intro)

theorem qsInvalidate_safe (reason : Nat) (s : State) (h_ : s.flt.safe = true) :
    (qsInvalidate reason s).flt.safe = true := by
  unfold qsInvalidate
  repeat' (with_reducible first | assumption | apply raise_safe | apply caddyJob_safe | dsimp only | split | intro)

theorem dropHeld_safe (reason : Nat) (s : State) (h_ : s.flt.safe = true) :
    (dropHeld reason s).flt.safe = true := by
  unfold dropHeld
  repeat' (with_reducible first | assumption | apply qsInvalidate_safe | dsimp only | split | intro)

theorem clearMap_safe (s : State) (h_ : s.flt.safe = true) :
    (clearMap s).flt.safe = true := by
  unfold clearMap
  repeat' (with_reducible first | assumption | apply raise_safe | dsimp only | split | intro)

theorem offInputs_safe (s : State) (h_ : s.flt.safe = true) :
    (offInputs s).flt.safe = true := by
  unfold offInputs
  repeat' (with_reducible first | assumption | apply forEach_safe | apply State_setWheel_safe | dsimp only | split | intro)

theorem wheelApplied_safe (old : Block) (s : State) (h_ : s.flt.safe = true) :
    (wheelApplied old s).flt.safe = true := by
  unfold wheelApplied
  repeat' (with_reducible first | assumption | apply offInputs_safe | apply qsInvalidate_safe | apply spoilRecords_safe | apply clearMap_safe | dsimp only | split | intro)

theorem bankMode_safe (b : Nat) (s : State) (h_ : s.flt.safe = true) :
    (bankMode b s).flt.safe = true := by
  unfold bankMode
  repeat' (with_reducible first | assumption | apply State_setBank_safe | apply raise_safe | dsimp only | split | intro)

theorem kettleTarget_safe (k : Nat) (s : State) (h_ : s.flt.safe = true) :
    (kettleTarget k s).flt.safe = true := by
  unfold kettleTarget
  repeat' (with_reducible first | assumption | apply State_setKettle_safe | apply ktTargetNow_safe | dsimp only | split | intro)

theorem driveApplied_safe (s : State) (h_ : s.flt.safe = true) :
    (driveApplied s).flt.safe = true := by
  unfold driveApplied
  repeat' (with_reducible first | assumption | apply forEach_safe | apply bankMode_safe | apply ktLimits_safe | apply kettleTarget_safe | dsimp only | split | intro)

theorem mirrorApplied_safe (old : Nat) (s : State) (h_ : s.flt.safe = true) :
    (mirrorApplied old s).flt.safe = true := by
  unfold mirrorApplied
  repeat' (with_reducible first | assumption | apply raiseIf_safe | dsimp only | split | intro)

theorem vbakCheck_safe (s : State) (h_ : s.flt.safe = true) :
    (vbakCheck s).flt.safe = true := by
  unfold vbakCheck
  repeat' (with_reducible first | assumption | apply faultOnset_safe | apply faultEnd_safe | dsimp only | split | intro)

theorem groupEffect_safe (old : Block) (g : Nat) (s : State) (h_ : s.flt.safe = true) :
    (groupEffect old g s).flt.safe = true := by
  unfold groupEffect
  repeat' (with_reducible first | assumption | apply vbakCheck_safe | apply ktLimits_safe | apply wheelApplied_safe | apply driveApplied_safe | apply tripsApplied_safe | apply mirrorApplied_safe | dsimp only | split | intro)

theorem groupReport_safe (g : Nat) (s : State) (h_ : s.flt.safe = true) :
    (groupReport g s).flt.safe = true := by
  unfold groupReport
  repeat' (with_reducible first | assumption | apply log_safe | apply raise_safe | dsimp only | split | intro)

theorem applyGroups_safe (m : Nat) (s : State) (h_ : s.flt.safe = true) :
    (applyGroups m s).flt.safe = true := by
  unfold applyGroups
  repeat' (with_reducible first | assumption | apply forEach_safe | apply groupEffect_safe | apply groupReport_safe | apply foldl_safe | apply foldl1_safe | dsimp only | split | intro)

theorem applyPending_safe (m : Nat) (s : State) (h_ : s.flt.safe = true) :
    (applyPending m s).flt.safe = true := by
  unfold applyPending
  repeat' (with_reducible first | assumption | apply applyGroups_safe | dsimp only | split | intro)

theorem envelopeBoundary_safe (s : State) (h_ : s.flt.safe = true) :
    (envelopeBoundary s).flt.safe = true := by
  unfold envelopeBoundary
  repeat' (with_reducible first | assumption | apply raise_safe | dsimp only | split | intro)

theorem logCycle_safe (r : CycleRec) (s : State) (h_ : s.flt.safe = true) :
    (logCycle r s).flt.safe = true := by
  unfold logCycle
  repeat' (with_reducible first | assumption | apply logAppend_safe | dsimp only | split | intro)

theorem camError_safe (s : State) (h_ : s.flt.safe = true) :
    (camError s).flt.safe = true := by
  unfold camError
  repeat' (with_reducible first | assumption | apply raise_safe | dsimp only | split | intro)

theorem camLearned_safe (s : State) (h_ : s.flt.safe = true) :
    (camLearned s).flt.safe = true := by
  unfold camLearned
  repeat' (with_reducible first | assumption | dsimp only | split | intro)

theorem camCycleCheck_safe (s : State) (h_ : s.flt.safe = true) :
    (camCycleCheck s).flt.safe = true := by
  unfold camCycleCheck
  repeat' (with_reducible first | assumption | apply repeatN_safe | apply camError_safe | apply raiseIf_safe | apply foldl_safe | apply foldl1_safe | dsimp only | split | intro)

theorem camCycle_safe (s : State) (h_ : s.flt.safe = true) :
    (camCycle s).flt.safe = true := by
  unfold camCycle
  repeat' (with_reducible first | assumption | apply camLearned_safe | apply camCycleCheck_safe | dsimp only | split | intro)

theorem purge_safe (tag : Nat) (s : State) (h_ : s.flt.safe = true) :
    (purge tag s).flt.safe = true := by
  unfold purge
  repeat' (with_reducible first | assumption | apply forEach_safe | apply dropEvent_safe | apply withdraw_safe | apply raiseIf_safe | dsimp only | split | intro)

theorem cycleBoundary_safe (x : Tick) (s : State) (h_ : s.flt.safe = true) :
    (cycleBoundary x s).flt.safe = true := by
  unfold cycleBoundary
  repeat' (with_reducible first | assumption | apply camCycle_safe | apply purge_safe | apply logCycle_safe | apply envelopeBoundary_safe | apply applyPending_safe | dsimp only | split | intro)

theorem stepsDone_safe (s : State) (h_ : s.flt.safe = true) :
    (stepsDone s).flt.safe = true := by
  unfold stepsDone
  repeat' (with_reducible first | assumption | apply latchAll_safe | apply mirrorState_safe | apply raise_safe | dsimp only | split | intro)

theorem crossForward_safe (x : Tick) (s : State) (h_ : s.flt.safe = true) :
    (crossForward x s).flt.safe = true := by
  unfold crossForward
  repeat' (with_reducible first | assumption | apply cycleBoundary_safe | dsimp only | split | intro)

theorem learnEntry_safe (eps : Int) (gain : Nat) (i : Nat) (s : State) (h_ : s.flt.safe = true) :
    (learnEntry eps gain i s).flt.safe = true := by
  unfold learnEntry
  repeat' (with_reducible first | assumption | dsimp only | split | intro)

theorem learnStep_safe (pRaw j n rc : Nat) (s : State) (h_ : s.flt.safe = true) :
    (learnStep pRaw j n rc s).flt.safe = true := by
  unfold learnStep
  repeat' (with_reducible first | assumption | apply raise_safe | apply forEach_safe | apply learnEntry_safe | dsimp only | split | intro)

theorem lensLearn_safe (t : Tick) (j n pRaw : Nat) (s : State) (h_ : s.flt.safe = true) :
    (lensLearn t j n pRaw s).flt.safe = true := by
  unfold lensLearn
  repeat' (with_reducible first | assumption | apply learnStep_safe | dsimp only | split | intro)

theorem notLearned_safe (s : State) (h_ : s.flt.safe = true) :
    (notLearned s).flt.safe = true := by
  unfold notLearned
  repeat' (with_reducible first | assumption | dsimp only | split | intro)

theorem sweepEvents_safe (lo hi : Nat) (s : State) (h_ : s.flt.safe = true) :
    (sweepEvents lo hi s).flt.safe = true := by
  unfold sweepEvents
  repeat' (with_reducible first | assumption | apply forEach_safe | apply dropEvent_safe | apply withdraw_safe | apply raiseIf_safe | dsimp only | split | intro)

theorem sweep_safe (lo hi : Nat) (s : State) (h_ : s.flt.safe = true) :
    (sweep lo hi s).flt.safe = true := by
  unfold sweep
  repeat' (with_reducible first | assumption | apply passRange_safe | apply sweepEvents_safe | dsimp only | split | intro)

theorem lensMove_safe (old : Nat) (t : Tick) (s : State) (h_ : s.flt.safe = true) :
    (lensMove old t s).flt.safe = true := by
  unfold lensMove
  repeat' (with_reducible first | assumption | apply watchHere_safe | apply sweep_safe | apply passRange_safe | apply crossForward_safe | dsimp only | split | intro)

theorem newPrediction_safe (s : State) (h_ : s.flt.safe = true) :
    (newPrediction s).flt.safe = true := by
  unfold newPrediction
  repeat' (with_reducible first | assumption | dsimp only | split | intro)

theorem lensUpdate_safe (t : Tick) (j n : Nat) (err : Bool) (s : State) (h_ : s.flt.safe = true) :
    (lensUpdate t j n err s).flt.safe = true := by
  unfold lensUpdate
  repeat' (with_reducible first | assumption | apply passTo_safe | apply speedNow_safe | apply newPrediction_safe | apply lensLearn_safe | apply notLearned_safe | apply lensMove_safe | apply predictionChanged_safe | dsimp only | split | intro)

theorem lensUndo_safe (t : Tick) (s : State) (h_ : s.flt.safe = true) :
    (lensUndo t s).flt.safe = true := by
  unfold lensUndo
  repeat' (with_reducible first | assumption | apply predictionChanged_safe | apply speedNow_safe | dsimp only | split | intro)

theorem lensFirst_safe (t : Tick) (s : State) (h_ : s.flt.safe = true) :
    (lensFirst t s).flt.safe = true := by
  unfold lensFirst
  repeat' (with_reducible first | assumption | dsimp only | split | intro)

theorem lensEnter_safe (j : Nat) (s : State) (h_ : s.flt.safe = true) :
    (lensEnter j s).flt.safe = true := by
  unfold lensEnter
  repeat' (with_reducible first | assumption | apply predictionChanged_safe | apply speedNow_safe | apply watchHere_safe | apply newPrediction_safe | dsimp only | split | intro)

theorem lensRenumber_safe (s : State) (h_ : s.flt.safe = true) :
    (lensRenumber s).flt.safe = true := by
  unfold lensRenumber
  repeat' (with_reducible first | assumption | apply predictionChanged_safe | apply watchHere_safe | apply newPrediction_safe | dsimp only | split | intro)

theorem lensClear_safe (s : State) (h_ : s.flt.safe = true) :
    (lensClear s).flt.safe = true := by
  unfold lensClear
  repeat' (with_reducible first | assumption | apply setSpeed_safe | apply notLearned_safe | dsimp only | split | intro)

theorem doVirtualBoundary_safe (s : State) (h_ : s.flt.safe = true) :
    (doVirtualBoundary s).flt.safe = true := by
  unfold doVirtualBoundary
  repeat' (with_reducible first | assumption | apply passTo_safe | apply passRange_safe | apply dropPassedWaiting_safe | apply cycleBoundary_safe | apply startPass_safe | apply nearFill_safe | apply crossForward_safe | dsimp only | split | intro)

theorem doCountHold_safe (s : State) (h_ : s.flt.safe = true) :
    (doCountHold s).flt.safe = true := by
  unfold doCountHold
  repeat' (with_reducible first | assumption | apply passTo_safe | dsimp only | split | intro)

theorem doToothOverdue_safe (s : State) (h_ : s.flt.safe = true) :
    (doToothOverdue s).flt.safe = true := by
  unfold doToothOverdue
  repeat' (with_reducible first | assumption | apply passTo_safe | apply raise_safe | apply forEach_safe | apply withdraw_safe | apply speedNow_safe | dsimp only | split | intro)

theorem lensReverse_safe (s : State) (h_ : s.flt.safe = true) :
    (lensReverse s).flt.safe = true := by
  unfold lensReverse
  repeat' (with_reducible first | assumption | apply raise_safe | dsimp only | split | intro)

theorem lensShow_safe (j : Nat) (back : Bool) (x : Tick) (s : State) (h_ : s.flt.safe = true) :
    (lensShow j back x s).flt.safe = true := by
  unfold lensShow
  repeat' (with_reducible first | assumption | apply notLearned_safe | apply crossForward_safe | dsimp only | split | intro)

theorem lensResume_safe (t : Tick) (j : Nat) (period : Nat) (s : State) (h_ : s.flt.safe = true) :
    (lensResume t j period s).flt.safe = true := by
  unfold lensResume
  repeat' (with_reducible first | assumption | apply speedNow_safe | apply newPrediction_safe | apply raise_safe | apply sweep_safe | apply predictionChanged_safe | apply crossForward_safe | dsimp only | split | intro)

theorem onCrank_safe (f : CrankDec → CrankDec) (s : State) (h_ : s.flt.safe = true) :
    (onCrank f s).flt.safe = true := by
  unfold onCrank
  repeat' (with_reducible first | assumption | dsimp only | split | intro)

theorem changeSync_safe (st : Sync) (cause : Nat) (s : State) (h_ : s.flt.safe = true) :
    (changeSync st cause s).flt.safe = true := by
  unfold changeSync
  repeat' (with_reducible first | assumption | apply mirrorState_safe | apply raise_safe | apply log_safe | apply endWaitas_safe | apply latchAll_safe | dsimp only | split | intro)

theorem stopFiring_safe (reason : Nat) (s : State) (h_ : s.flt.safe = true) :
    (stopFiring reason s).flt.safe = true := by
  unfold stopFiring
  repeat' (with_reducible first | assumption | apply endAll_safe | apply dropPending_safe | dsimp only | split | intro)

theorem enterPosition_safe (st : Sync) (cause : Nat) (s : State) (h_ : s.flt.safe = true) :
    (enterPosition st cause s).flt.safe = true := by
  unfold enterPosition
  repeat' (with_reducible first | assumption | apply changeSync_safe | apply lensEnter_safe | dsimp only | split | intro)

theorem enterNosync_safe (cause : Nat) (s : State) (h_ : s.flt.safe = true) :
    (enterNosync cause s).flt.safe = true := by
  unfold enterNosync
  repeat' (with_reducible first | assumption | apply lensClear_safe | apply changeSync_safe | apply applyPending_safe | apply envelopeBoundary_safe | dsimp only | split | intro)

theorem enterLost_safe (cause : Nat) (s : State) (h_ : s.flt.safe = true) :
    (enterLost cause s).flt.safe = true := by
  unfold enterLost
  repeat' (with_reducible first | assumption | apply passTo_safe | apply stopFiring_safe | apply changeSync_safe | apply qsInvalidate_safe | apply raiseIf_safe | apply stepBack_safe | dsimp only | split | intro)

theorem retract_safe (s : State) (h_ : s.flt.safe = true) :
    (retract s).flt.safe = true := by
  unfold retract
  repeat' (with_reducible first | assumption | apply enterLost_safe | apply raise_safe | dsimp only | split | intro)

theorem doLossReported_safe (s : State) (h_ : s.flt.safe = true) :
    (doLossReported s).flt.safe = true := by
  unfold doLossReported
  repeat' (with_reducible first | assumption | apply enterNosync_safe | dsimp only | split | intro)

theorem toothError_safe (s : State) (h_ : s.flt.safe = true) :
    (toothError s).flt.safe = true := by
  unfold toothError
  repeat' (with_reducible first | assumption | apply dropHeld_safe | apply onCrank_safe | apply raise_safe | apply retract_safe | apply enterLost_safe | dsimp only | split | intro)

theorem frameCorrect_safe (s : State) (h_ : s.flt.safe = true) :
    (frameCorrect s).flt.safe = true := by
  unfold frameCorrect
  repeat' (with_reducible first | assumption | apply passTo_safe | apply onCrank_safe | apply raise_safe | apply forEach_safe | apply dropEvent_safe | apply lensRenumber_safe | apply endWaitas_safe | dsimp only | split | intro)

theorem usePhase_safe (t : Tick) (s : State) (h_ : s.flt.safe = true) :
    (usePhase t s).1.flt.safe = true := by
  unfold usePhase
  repeat' (with_reducible first | assumption | apply camError_safe | dsimp only | split | intro)

theorem confirmedReference_safe (c : GapCand) (s : State) (h_ : s.flt.safe = true) :
    (confirmedReference c s).flt.safe = true := by
  unfold confirmedReference
  repeat' (with_reducible first | assumption | apply usePhase_safe | apply changeSync_safe | apply retract_safe | apply frameCorrect_safe | dsimp only | split | intro)

theorem enterFromTooth_safe (extra : Bool) (c : GapCand) (s : State) (h_ : s.flt.safe = true) :
    (enterFromTooth extra c s).flt.safe = true := by
  unfold enterFromTooth
  repeat' (with_reducible first | assumption | apply usePhase_safe | apply onCrank_safe | apply enterPosition_safe | dsimp only | split | intro)

theorem anchorWithoutGap_safe (t : Tick) (s : State) (h_ : s.flt.safe = true) :
    (anchorWithoutGap t s).flt.safe = true := by
  unfold anchorWithoutGap
  repeat' (with_reducible first | assumption | apply usePhase_safe | apply enterPosition_safe | apply onCrank_safe | apply changeSync_safe | apply retract_safe | dsimp only | split | intro)

theorem quickLimit_safe (s : State) (h_ : s.flt.safe = true) :
    (quickLimit s).flt.safe = true := by
  unfold quickLimit
  repeat' (with_reducible first | assumption | apply changeSync_safe | apply enterLost_safe | dsimp only | split | intro)

theorem writeRecord_safe (s : State) (h_ : s.flt.safe = true) :
    (writeRecord s).flt.safe = true := by
  unfold writeRecord
  repeat' (with_reducible first | assumption | apply caddyJob_safe | dsimp only | split | intro)

theorem stallNow_safe (s : State) (h_ : s.flt.safe = true) :
    (stallNow s).flt.safe = true := by
  unfold stallNow
  repeat' (with_reducible first | assumption | apply passTo_safe | apply raise_safe | apply stopFiring_safe | apply caddyJob_safe | apply onCrank_safe | apply writeRecord_safe | apply enterNosync_safe | dsimp only | split | intro)

theorem doStall_safe (s : State) (h_ : s.flt.safe = true) :
    (doStall s).flt.safe = true := by
  unfold doStall
  repeat' (with_reducible first | assumption | apply writeRecord_safe | apply stallNow_safe | dsimp only | split | intro)

theorem setClass_safe (n : Nat) (c : EdgeClass) (s : State) (h_ : s.flt.safe = true) :
    (setClass n c s).flt.safe = true := by
  unfold setClass
  repeat' (with_reducible first | assumption | apply State_setWheel_safe | dsimp only | split | intro)

theorem judgeCandidate_safe (T : Nat) (s : State) (h_ : s.flt.safe = true) :
    (judgeCandidate T s).1.flt.safe = true := by
  unfold judgeCandidate
  repeat' (with_reducible first | assumption | apply onCrank_safe | apply toothError_safe | apply confirmedReference_safe | apply retract_safe | apply enterLost_safe | dsimp only | split | intro)

theorem boundaryUpdate_safe (t : Tick) (j span : Nat) (err : Bool) (confirmed : Option GapCand) (s : State) (h_ : s.flt.safe = true) :
    (boundaryUpdate t j span err confirmed s).flt.safe = true := by
  unfold boundaryUpdate
  repeat' (with_reducible first | assumption | apply lensUpdate_safe | apply enterFromTooth_safe | apply quickLimit_safe | apply anchorWithoutGap_safe | apply endWaitas_safe | apply passTo_safe | dsimp only | split | intro)

theorem forwardBoundary_safe (t : Tick) (cls : Option PeriodClass) (bad : Bool) (confirmed : Option GapCand) (s : State) (h_ : s.flt.safe = true) :
    (forwardBoundary t cls bad confirmed s).flt.safe = true := by
  unfold forwardBoundary
  repeat' (with_reducible first | assumption | apply onCrank_safe | apply boundaryUpdate_safe | apply changeSync_safe | dsimp only | split | intro)

theorem forwardPeriod_safe (inp : Nat) (t : Tick) (s : State) (h_ : s.flt.safe = true) :
    (forwardPeriod inp t s).flt.safe = true := by
  unfold forwardPeriod
  repeat' (with_reducible first | assumption | apply judgeCandidate_safe | apply setClass_safe | apply toothError_safe | apply enterFromTooth_safe | apply forwardBoundary_safe | dsimp only | split | intro)

theorem reverseEdge_safe (t : Tick) (s : State) (h_ : s.flt.safe = true) :
    (reverseEdge t s).flt.safe = true := by
  unfold reverseEdge
  repeat' (with_reducible first | assumption | apply notLearned_safe | apply onCrank_safe | apply changeSync_safe | dsimp only | split | intro)

theorem forwardPassage_safe (inp : Nat) (t : Tick) (s : State) (h_ : s.flt.safe = true) :
    (forwardPassage inp t s).flt.safe = true := by
  unfold forwardPassage
  repeat' (with_reducible first | assumption | apply onCrank_safe | apply lensShow_safe | apply reverseEdge_safe | apply lensFirst_safe | apply forwardPeriod_safe | dsimp only | split | intro)

theorem stepBack_safe (s : State) (h_ : s.flt.safe = true) :
    (stepBack s).flt.safe = true := by
  unfold stepBack
  repeat' (with_reducible first | assumption | apply onCrank_safe | dsimp only | split | intro)

theorem reverseTiming_safe (t : Tick) (s : State) (h_ : s.flt.safe = true) :
    (reverseTiming t s).flt.safe = true := by
  unfold reverseTiming
  repeat' (with_reducible first | assumption | apply lensFirst_safe | apply onCrank_safe | apply changeSync_safe | apply lensUpdate_safe | dsimp only | split | intro)

theorem backPassage_safe (t : Tick) (s : State) (h_ : s.flt.safe = true) :
    (backPassage t s).flt.safe = true := by
  unfold backPassage
  repeat' (with_reducible first | assumption | apply stepBack_safe | apply lensShow_safe | apply reverseEdge_safe | apply reverseTiming_safe | dsimp only | split | intro)

theorem edgeFrame_safe (t : Tick) (s : State) (h_ : s.flt.safe = true) :
    (edgeFrame t s).flt.safe = true := by
  unfold edgeFrame
  repeat' (with_reducible first | assumption | apply mirrorAt_safe | dsimp only | split | intro)

theorem edgeAccepted_safe (t : Tick) (s : State) (h_ : s.flt.safe = true) :
    (edgeAccepted t s).flt.safe = true := by
  unfold edgeAccepted
  repeat' (with_reducible first | assumption | apply wake_safe | apply qsInvalidate_safe | dsimp only | split | intro)

theorem sourceEdge_safe (inp : Nat) (t : Tick) (s : State) (h_ : s.flt.safe = true) :
    (sourceEdge inp t s).flt.safe = true := by
  unfold sourceEdge
  repeat' (with_reducible first | assumption | apply edgeAccepted_safe | apply edgeFrame_safe | apply onCrank_safe | apply stepBack_safe | apply backPassage_safe | apply forwardPassage_safe | dsimp only | split | intro)

theorem redoStep_safe (inp : Nat) (back : Bool) (s : State) (h_ : s.flt.safe = true) :
    (redoStep inp back s).flt.safe = true := by
  unfold redoStep
  repeat' (with_reducible first | assumption | apply onCrank_safe | apply stepBack_safe | apply lensShow_safe | apply forwardPassage_safe | dsimp only | split | intro)

theorem declareReverse_safe (s : State) (h_ : s.flt.safe = true) :
    (declareReverse s).flt.safe = true := by
  unfold declareReverse
  repeat' (with_reducible first | assumption | apply stopFiring_safe | apply passTo_safe | apply onCrank_safe | apply applyPending_safe | apply changeSync_safe | apply lensReverse_safe | apply lensShow_safe | apply endWaitas_safe | dsimp only | split | intro)

theorem declareForward_safe (s : State) (h_ : s.flt.safe = true) :
    (declareForward s).flt.safe = true := by
  unfold declareForward
  repeat' (with_reducible first | assumption | apply lensResume_safe | apply onCrank_safe | dsimp only | split | intro)

theorem dirChanged_safe (old : Dir) (s : State) (h_ : s.flt.safe = true) :
    (dirChanged old s).flt.safe = true := by
  unfold dirChanged
  repeat' (with_reducible first | assumption | apply raise_safe | apply declareReverse_safe | apply dropHeld_safe | apply declareForward_safe | dsimp only | split | intro)

theorem quickCheck_safe (cls : Pulse) (s : State) (h_ : s.flt.safe = true) :
    (quickCheck cls s).flt.safe = true := by
  unfold quickCheck
  repeat' (with_reducible first | assumption | apply onCrank_safe | apply enterPosition_safe | dsimp only | split | intro)

theorem sourcePulse_safe (inp : Nat) (cls : Pulse) (s : State) (h_ : s.flt.safe = true) :
    (sourcePulse inp cls s).flt.safe = true := by
  unfold sourcePulse
  repeat' (with_reducible first | assumption | apply stepBack_safe | apply redoStep_safe | apply lensUndo_safe | apply toothError_safe | apply onCrank_safe | apply quickCheck_safe | apply dirChanged_safe | dsimp only | split | intro)

theorem State_setCam_safe (s : State) (c : Nat) (x : Cam) (h_ : s.flt.safe = true) :
    (Sys2Proof.Machine.State.setCam s c x).flt.safe = true := by
  unfold State.setCam
  repeat' (with_reducible first | assumption | dsimp only | split | intro)

theorem phaseElsewhere_safe (c x a : Nat) (s : State) (h_ : s.flt.safe = true) :
    (phaseElsewhere c x a s).flt.safe = true := by
  unfold phaseElsewhere
  repeat' (with_reducible first | assumption | apply camError_safe | apply State_setCam_safe | apply enterLost_safe | dsimp only | split | intro)

theorem camInFull_safe (c x : Nat) (phase : Bool) (s : State) (h_ : s.flt.safe = true) :
    (camInFull c x phase s).flt.safe = true := by
  unfold camInFull
  repeat' (with_reducible first | assumption | apply State_setCam_safe | apply camError_safe | apply phaseElsewhere_safe | dsimp only | split | intro)

theorem phaseMet_safe (t : Tick) (x : Option Nat) (s : State) (h_ : s.flt.safe = true) :
    (phaseMet t x s).flt.safe = true := by
  unfold phaseMet
  repeat' (with_reducible first | assumption | apply camError_safe | dsimp only | split | intro)

theorem camEdge_safe (inp c : Nat) (t : Tick) (s : State) (h_ : s.flt.safe = true) :
    (camEdge inp c t s).flt.safe = true := by
  unfold camEdge
  repeat' (with_reducible first | assumption | apply setClass_safe | apply State_setCam_safe | apply camInFull_safe | apply phaseMet_safe | dsimp only | split | intro)

theorem onSecond_safe (f : CrankDec → CrankDec) (s : State) (h_ : s.flt.safe = true) :
    (onSecond f s).flt.safe = true := by
  unfold onSecond
  repeat' (with_reducible first | assumption | dsimp only | split | intro)

theorem secondLost_safe (s : State) (h_ : s.flt.safe = true) :
    (secondLost s).flt.safe = true := by
  unfold secondLost
  repeat' (with_reducible first | assumption | apply onSecond_safe | dsimp only | split | intro)

theorem secondCheck_safe (pos : Nat) (s : State) (h_ : s.flt.safe = true) :
    (secondCheck pos s).flt.safe = true := by
  unfold secondCheck
  repeat' (with_reducible first | assumption | apply raiseIf_safe | dsimp only | split | intro)

theorem secondReference_safe (c : GapCand) (s : State) (h_ : s.flt.safe = true) :
    (secondReference c s).flt.safe = true := by
  unfold secondReference
  repeat' (with_reducible first | assumption | apply onSecond_safe | apply secondCheck_safe | dsimp only | split | intro)

theorem secondPeriod_safe (inp : Nat) (t : Tick) (s : State) (h_ : s.flt.safe = true) :
    (secondPeriod inp t s).flt.safe = true := by
  unfold secondPeriod
  repeat' (with_reducible first | assumption | apply setClass_safe | apply secondLost_safe | apply secondReference_safe | apply onSecond_safe | dsimp only | split | intro)

theorem secondEdge_safe (inp : Nat) (t : Tick) (s : State) (h_ : s.flt.safe = true) :
    (secondEdge inp t s).flt.safe = true := by
  unfold secondEdge
  repeat' (with_reducible first | assumption | apply onSecond_safe | apply stepBack_safe | apply secondPeriod_safe | dsimp only | split | intro)

theorem secondPulse_safe (cls : Pulse) (s : State) (h_ : s.flt.safe = true) :
    (secondPulse cls s).flt.safe = true := by
  unfold secondPulse
  repeat' (with_reducible first | assumption | apply onSecond_safe | apply stepBack_safe | dsimp only | split | intro)

theorem doSecondaryPromotion_safe (s : State) (h_ : s.flt.safe = true) :
    (doSecondaryPromotion s).flt.safe = true := by
  unfold doSecondaryPromotion
  repeat' (with_reducible first | assumption | apply passTo_safe | apply raise_safe | apply stepBack_safe | dsimp only | split | intro)

theorem strain_safe (n : Nat) (rising : Bool) (peakMv : Nat) (s : State) (h_ : s.flt.safe = true) :
    (strain n rising peakMv s).flt.safe = true := by
  unfold strain
  repeat' (with_reducible first | assumption | apply State_setWheel_safe | dsimp only | split | intro)

theorem doWheelCrossing_safe (n : Nat) (rising : Bool) (peakMv : Nat) (s : State) (h_ : s.flt.safe = true) :
    (doWheelCrossing n rising peakMv s).flt.safe = true := by
  unfold doWheelCrossing
  repeat' (with_reducible first | assumption | apply strain_safe | apply wake_safe | apply qsInvalidate_safe | dsimp only | split | intro)

theorem classifyPulse_safe (n : Nat) (cls : Pulse) (s : State) (h_ : s.flt.safe = true) :
    (classifyPulse n cls s).flt.safe = true := by
  unfold classifyPulse
  repeat' (with_reducible first | assumption | apply State_setWheel_safe | apply sourcePulse_safe | apply secondPulse_safe | dsimp only | split | intro)

theorem timingAccepted_safe (n : Nat) (c : Crossing) (s : State) (h_ : s.flt.safe = true) :
    (timingAccepted n c s).flt.safe = true := by
  unfold timingAccepted
  repeat' (with_reducible first | assumption | apply State_setWheel_safe | apply sourceEdge_safe | apply secondEdge_safe | apply camEdge_safe | apply raise_safe | apply setClass_safe | dsimp only | split | intro)

theorem trailingAccepted_safe (n : Nat) (c : Crossing) (s : State) (h_ : s.flt.safe = true) :
    (trailingAccepted n c s).flt.safe = true := by
  unfold trailingAccepted
  repeat' (with_reducible first | assumption | apply State_setWheel_safe | apply classifyPulse_safe | dsimp only | split | intro)

theorem doStrainerAccept_safe (n : Nat) (s : State) (h_ : s.flt.safe = true) :
    (doStrainerAccept n s).flt.safe = true := by
  unfold doStrainerAccept
  repeat' (with_reducible first | assumption | apply State_setWheel_safe | apply timingAccepted_safe | apply trailingAccepted_safe | dsimp only | split | intro)

theorem doPulseLongTimeout_safe (n : Nat) (s : State) (h_ : s.flt.safe = true) :
    (doPulseLongTimeout n s).flt.safe = true := by
  unfold doPulseLongTimeout
  repeat' (with_reducible first | assumption | apply classifyPulse_safe | dsimp only | split | intro)

theorem markDetection_safe (b n : Nat) (s : State) (h_ : s.flt.safe = true) :
    (markDetection b n s).flt.safe = true := by
  unfold markDetection
  repeat' (with_reducible first | assumption | apply State_memPatch_safe | apply State_setDgt_safe | dsimp only | split | intro)

theorem storeSample_safe (b n : Nat) (v : Int) (s : State) (h_ : s.flt.safe = true) :
    (storeSample b n v s).flt.safe = true := by
  unfold storeSample
  repeat' (with_reducible first | assumption | apply State_memPatch_safe | apply State_setDgt_safe | dsimp only | split | intro)

theorem doDigitiserSample_safe (b : Nat) (code : BitVec 12) (s : State) (h_ : s.flt.safe = true) :
    (doDigitiserSample b code s).flt.safe = true := by
  unfold doDigitiserSample
  repeat' (with_reducible first | assumption | apply storeSample_safe | apply State_setDgt_safe | apply markDetection_safe | dsimp only | split | intro)

theorem writeClosing_safe (b : Nat) (c : Capture) (d : Detection) (s : State) (h_ : s.flt.safe = true) :
    (writeClosing b c d s).flt.safe = true := by
  unfold writeClosing
  repeat' (with_reducible first | assumption | apply State_memWrite_safe | apply State_setDgt_safe | apply State_setDch_safe | apply notice_safe | apply raise_safe | apply mirrorAt_safe | dsimp only | split | intro)

theorem pendingRecord_safe (b : Nat) (s : State) (h_ : s.flt.safe = true) :
    (pendingRecord b s).flt.safe = true := by
  unfold pendingRecord
  repeat' (with_reducible first | assumption | apply writeClosing_safe | dsimp only | split | intro)

theorem doClosingRecordWritten_safe (b : Nat) (s : State) (h_ : s.flt.safe = true) :
    (doClosingRecordWritten b s).flt.safe = true := by
  unfold doClosingRecordWritten
  repeat' (with_reducible first | assumption | apply pendingRecord_safe | dsimp only | split | intro)

theorem endCapture_safe (b : Nat) (x : Tick) (s : State) (h_ : s.flt.safe = true) :
    (endCapture b x s).flt.safe = true := by
  unfold endCapture
  repeat' (with_reducible first | assumption | apply pendingRecord_safe | apply State_setDch_safe | apply State_setDgt_safe | dsimp only | split | intro)

theorem doCaptureEnd_safe (b : Nat) (s : State) (h_ : s.flt.safe = true) :
    (doCaptureEnd b s).flt.safe = true := by
  unfold doCaptureEnd
  repeat' (with_reducible first | assumption | apply endCapture_safe | dsimp only | split | intro)

theorem startEndsCapture_safe (k : Nat) (x : Tick) (s : State) (h_ : s.flt.safe = true) :
    (startEndsCapture k x s).flt.safe = true := by
  unfold startEndsCapture
  repeat' (with_reducible first | assumption | apply endCapture_safe | dsimp only | split | intro)

theorem startTest_safe (k : Nat) (s : State) (h_ : s.flt.safe = true) :
    (startTest k s).flt.safe = true := by
  unfold startTest
  repeat' (with_reducible first | assumption | apply State_setDch_safe | dsimp only | split | intro)

theorem doOffTestStart_safe (s : State) (h_ : s.flt.safe = true) :
    (doOffTestStart s).flt.safe = true := by
  unfold doOffTestStart
  repeat' (with_reducible first | assumption | apply forEach_safe | apply startTest_safe | dsimp only | split | intro)

theorem offDone_safe (k code : Nat) (last : Nat × Nat) (s : State) (h_ : s.flt.safe = true) :
    (offDone k code last s).flt.safe = true := by
  unfold offDone
  repeat' (with_reducible first | assumption | apply State_setDch_safe | apply fault_safe | dsimp only | split | intro)

theorem doOffTestComplete_safe (k : Nat) (samples : List (Nat × Nat)) (s : State) (h_ : s.flt.safe = true) :
    (doOffTestComplete k samples s).flt.safe = true := by
  unfold doOffTestComplete
  repeat' (with_reducible first | assumption | apply offDone_safe | apply State_setDch_safe | dsimp only | split | intro)

theorem doOffTestNotRun_safe (k : Nat) (s : State) (h_ : s.flt.safe = true) :
    (doOffTestNotRun k s).flt.safe = true := by
  unfold doOffTestNotRun
  repeat' (with_reducible first | assumption | apply State_setDch_safe | dsimp only | split | intro)

theorem diagOffTest_safe (m : BitVec 64) (s : State) (h_ : s.flt.safe = true) :
    (diagOffTest m s).flt.safe = true := by
  unfold diagOffTest
  repeat' (with_reducible first | assumption | apply forEach_safe | apply State_setDch_safe | apply startTest_safe | dsimp only | split | intro)

theorem diagClear_safe (m : BitVec 64) (s : State) (h_ : s.flt.safe = true) :
    (diagClear m s).flt.safe = true := by
  unfold diagClear
  repeat' (with_reducible first | assumption | apply forEach_safe | apply State_setDch_safe | dsimp only | split | intro)

theorem measure_safe (k current : Nat) (s : State) (h_ : s.flt.safe = true) :
    (measure k current s).flt.safe = true := by
  unfold measure
  repeat' (with_reducible first | assumption | apply State_setChan_safe | apply State_setBank_safe | dsimp only | split | intro)

theorem toTransition_safe (k : Nat) (x : Tick) (reached : Bool) (energyUj : Nat) (s : State) (h_ : s.flt.safe = true) :
    (toTransition k x reached energyUj s).flt.safe = true := by
  unfold toTransition
  repeat' (with_reducible first | assumption | apply peakOver_safe | apply State_setChan_safe | apply bankEdge_safe | dsimp only | split | intro)

theorem slip_safe (k : Nat) (s : State) (h_ : s.flt.safe = true) :
    (slip k s).flt.safe = true := by
  unfold slip
  repeat' (with_reducible first | assumption | apply State_setChan_safe | apply raise_safe | apply State_setBank_safe | dsimp only | split | intro)

theorem yieldStep_safe (x : Tick) (k : Nat) (s : State) (h_ : s.flt.safe = true) :
    (yieldStep x k s).flt.safe = true := by
  unfold yieldStep
  repeat' (with_reducible first | assumption | apply slip_safe | apply toTransition_safe | apply bankEdge_safe | apply State_setChan_safe | dsimp only | split | intro)

theorem arbitrate_safe (b : Nat) (x : Tick) (s : State) (h_ : s.flt.safe = true) :
    (arbitrate b x s).flt.safe = true := by
  unfold arbitrate
  repeat' (with_reducible first | assumption | apply forEach_safe | apply yieldStep_safe | dsimp only | split | intro)

theorem doOnStateFault_safe (k : Nat) (m : OnStateMeas) (s : State) (h_ : s.flt.safe = true) :
    (doOnStateFault k m s).flt.safe = true := by
  unfold doOnStateFault
  repeat' (with_reducible first | assumption | apply endBank_safe | apply endEarly_safe | apply arbitrate_safe | apply fault_safe | apply State_setDch_safe | dsimp only | split | intro)

theorem doProfileStart_safe (k : Nat) (s : State) (h_ : s.flt.safe = true) :
    (doProfileStart k s).flt.safe = true := by
  unfold doProfileStart
  repeat' (with_reducible first | assumption | apply stopTests_safe | apply fallEnds_safe | apply startEndsCapture_safe | apply State_setSlot_safe | apply State_setChan_safe | apply notice_safe | apply mirrorAt_safe | apply arbitrate_safe | apply bankEdge_safe | dsimp only | split | intro)

theorem doPeakEnd_safe (k current energyUj : Nat) (s : State) (h_ : s.flt.safe = true) :
    (doPeakEnd k current energyUj s).flt.safe = true := by
  unfold doPeakEnd
  repeat' (with_reducible first | assumption | apply arbitrate_safe | apply toTransition_safe | apply measure_safe | dsimp only | split | intro)

theorem doPeakTimeout_safe (k current energyUj : Nat) (s : State) (h_ : s.flt.safe = true) :
    (doPeakTimeout k current energyUj s).flt.safe = true := by
  unfold doPeakTimeout
  repeat' (with_reducible first | assumption | apply toTransition_safe | apply measure_safe | apply State_setChan_safe | apply arbitrate_safe | apply raise_safe | dsimp only | split | intro)

theorem toSteep_safe (k : Nat) (x : Tick) (s : State) (h_ : s.flt.safe = true) :
    (toSteep k x s).flt.safe = true := by
  unfold toSteep
  repeat' (with_reducible first | assumption | apply State_setChan_safe | apply arbitrate_safe | apply bankEdge_safe | dsimp only | split | intro)

theorem doTransitionEnd_safe (k current : Nat) (s : State) (h_ : s.flt.safe = true) :
    (doTransitionEnd k current s).flt.safe = true := by
  unfold doTransitionEnd
  repeat' (with_reducible first | assumption | apply toSteep_safe | apply measure_safe | dsimp only | split | intro)

theorem doDitherStep_safe (k : Nat) (s : State) (h_ : s.flt.safe = true) :
    (doDitherStep k s).flt.safe = true := by
  unfold doDitherStep
  repeat' (with_reducible first | assumption | apply State_setChan_safe | dsimp only | split | intro)

theorem doRegulatorSwitch_safe (k current : Nat) (s : State) (h_ : s.flt.safe = true) :
    (doRegulatorSwitch k current s).flt.safe = true := by
  unfold doRegulatorSwitch
  repeat' (with_reducible first | assumption | apply measure_safe | apply bankEdge_safe | apply State_setChan_safe | dsimp only | split | intro)

theorem doTurnOffInstant_safe (k current energyUj : Nat) (s : State) (h_ : s.flt.safe = true) :
    (doTurnOffInstant k current energyUj s).flt.safe = true := by
  unfold doTurnOffInstant
  repeat' (with_reducible first | assumption | apply measure_safe | apply turnOff_safe | apply State_setChan_safe | apply arbitrate_safe | dsimp only | split | intro)

theorem captureRecovered_safe (k : Nat) (s : State) (h_ : s.flt.safe = true) :
    (captureRecovered k s).flt.safe = true := by
  unfold captureRecovered
  repeat' (with_reducible first | assumption | apply State_setDgt_safe | dsimp only | split | intro)

theorem doTurnOffComplete_safe (k current : Nat) (s : State) (h_ : s.flt.safe = true) :
    (doTurnOffComplete k current s).flt.safe = true := by
  unfold doTurnOffComplete
  repeat' (with_reducible first | assumption | apply turnOff_safe | apply measure_safe | apply State_setChan_safe | apply freeSlot_safe | apply bankMode_safe | apply captureRecovered_safe | apply bankEdge_safe | dsimp only | split | intro)

theorem doChannelOvercurrent_safe (k current : Nat) (s : State) (h_ : s.flt.safe = true) :
    (doChannelOvercurrent k current s).flt.safe = true := by
  unfold doChannelOvercurrent
  repeat' (with_reducible first | assumption | apply fault_safe | apply arbitrate_safe | apply endEarly_safe | apply measure_safe | dsimp only | split | intro)

theorem doBankOvercurrent_safe (b sum : Nat) (s : State) (h_ : s.flt.safe = true) :
    (doBankOvercurrent b sum s).flt.safe = true := by
  unfold doBankOvercurrent
  repeat' (with_reducible first | assumption | apply State_setBank_safe | apply fault_safe | apply raise_safe | apply endBank_safe | dsimp only | split | intro)

theorem doOnMaxStop_safe (k : Nat) (s : State) (h_ : s.flt.safe = true) :
    (doOnMaxStop k s).flt.safe = true := by
  unfold doOnMaxStop
  repeat' (with_reducible first | assumption | apply fault_safe | apply arbitrate_safe | apply endAt_safe | dsimp only | split | intro)

theorem doExtensionWrite_safe (q k ext : Nat) (s : State) (h_ : s.flt.safe = true) :
    (doExtensionWrite q k ext s).flt.safe = true := by
  unfold doExtensionWrite
  repeat' (with_reducible first | assumption | apply State_setChan_safe | apply raise_safe | dsimp only | split | intro)

theorem doSetpointWrite_safe (k : Nat) (value : Word) (s : State) (h_ : s.flt.safe = true) :
    (doSetpointWrite k value s).flt.safe = true := by
  unfold doSetpointWrite
  repeat' (with_reducible first | assumption | apply State_setChan_safe | dsimp only | split | intro)

theorem kettleVolt_safe (k volt : Nat) (s : State) (h_ : s.flt.safe = true) :
    (kettleVolt k volt s).flt.safe = true := by
  unfold kettleVolt
  repeat' (with_reducible first | assumption | apply State_setKettle_safe | dsimp only | split | intro)

theorem kettleLevel_safe (k volt : Nat) (s : State) (h_ : s.flt.safe = true) :
    (kettleLevel k volt s).flt.safe = true := by
  unfold kettleLevel
  repeat' (with_reducible first | assumption | apply kettleVolt_safe | apply markFall_safe | apply ktUpdate_safe | apply ktFault_safe | dsimp only | split | intro)

theorem doKettleLevelChange_safe (k volt : Nat) (s : State) (h_ : s.flt.safe = true) :
    (doKettleLevelChange k volt s).flt.safe = true := by
  unfold doKettleLevelChange
  repeat' (with_reducible first | assumption | apply kettleLevel_safe | dsimp only | split | intro)

theorem doKettleChargeDeadline_safe (k : Nat) (s : State) (h_ : s.flt.safe = true) :
    (doKettleChargeDeadline k s).flt.safe = true := by
  unfold doKettleChargeDeadline
  repeat' (with_reducible first | assumption | apply ktFault_safe | dsimp only | split | intro)

theorem doKettleOvervoltage_safe (k volt : Nat) (s : State) (h_ : s.flt.safe = true) :
    (doKettleOvervoltage k volt s).flt.safe = true := by
  unfold doKettleOvervoltage
  repeat' (with_reducible first | assumption | apply kettleLevel_safe | dsimp only | split | intro)

theorem doKettleCapacitance_safe (k microfarad : Nat) (s : State) (h_ : s.flt.safe = true) :
    (doKettleCapacitance k microfarad s).flt.safe = true := by
  unfold doKettleCapacitance
  repeat' (with_reducible first | assumption | apply State_setKettle_safe | apply calReport_safe | dsimp only | split | intro)

theorem regLatch_safe (r : Requester) (a : Nat) (s : State) (h_ : s.flt.safe = true) :
    (regLatch r a s).flt.safe = true := by
  unfold regLatch
  repeat' (with_reducible first | assumption | dsimp only | split | intro)

theorem doSnapshotRead_safe (r : Requester) (a : Nat) (s : State) (h_ : s.flt.safe = true) :
    (doSnapshotRead r a s).flt.safe = true := by
  unfold doSnapshotRead
  repeat' (with_reducible first | assumption | apply regLatch_safe | dsimp only | split | intro)

theorem doLnsAngleRead_safe (r : Requester) (s : State) (h_ : s.flt.safe = true) :
    (doLnsAngleRead r s).flt.safe = true := by
  unfold doLnsAngleRead
  repeat' (with_reducible first | assumption | apply regLatch_safe | dsimp only | split | intro)

theorem markBad_safe (a source : Nat) (s : State) (h_ : s.flt.safe = true) :
    (markBad a source s).flt.safe = true := by
  unfold markBad
  repeat' (with_reducible first | assumption | apply fault_safe | dsimp only | split | intro)

theorem eccFound_safe (a : Nat) (s : State) (h_ : s.flt.safe = true) :
    (eccFound a s).flt.safe = true := by
  unfold eccFound
  repeat' (with_reducible first | assumption | apply markBad_safe | apply doEventTableEccError_safe | dsimp only | split | intro)

theorem eccFixed_safe (a : Nat) (s : State) (h_ : s.flt.safe = true) :
    (eccFixed a s).flt.safe = true := by
  unfold eccFixed
  repeat' (with_reducible first | assumption | dsimp only | split | intro)

theorem eccRead_safe (a : Nat) (e : Ecc) (s : State) (h_ : s.flt.safe = true) :
    (eccRead a e s).flt.safe = true := by
  unfold eccRead
  repeat' (with_reducible first | assumption | apply eccFixed_safe | apply eccFound_safe | dsimp only | split | intro)

theorem eccRestored_safe (a : Nat) (s : State) (h_ : s.flt.safe = true) :
    (eccRestored a s).flt.safe = true := by
  unfold eccRestored
  repeat' (with_reducible first | assumption | dsimp only | split | intro)

theorem countWrite_safe (p : Nat) (s : State) (h_ : s.flt.safe = true) :
    (countWrite p s).flt.safe = true := by
  unfold countWrite
  repeat' (with_reducible first | assumption | dsimp only | split | intro)

theorem blockWritten_safe (l : Nat) (s : State) (h_ : s.flt.safe = true) :
    (blockWritten l s).flt.safe = true := by
  unfold blockWritten
  repeat' (with_reducible first | assumption | apply countWrite_safe | dsimp only | split | intro)

theorem blocksWritten_safe (l : List Nat) (s : State) (h_ : s.flt.safe = true) :
    (blocksWritten l s).flt.safe = true := by
  unfold blocksWritten
  repeat' (with_reducible first | assumption | apply forEach_safe | apply blockWritten_safe | dsimp only | split | intro)

theorem turnCopy_safe (base : Nat) (s : State) (h_ : s.flt.safe = true) :
    (turnCopy base s).flt.safe = true := by
  unfold turnCopy
  repeat' (with_reducible first | assumption | dsimp only | split | intro)

theorem regionWritten_safe (base n : Nat) (s : State) (h_ : s.flt.safe = true) :
    (regionWritten base n s).flt.safe = true := by
  unfold regionWritten
  repeat' (with_reducible first | assumption | apply turnCopy_safe | apply blocksWritten_safe | dsimp only | split | intro)

theorem logCaddy_safe (block action : Nat) (s : State) (h_ : s.flt.safe = true) :
    (logCaddy block action s).flt.safe = true := by
  unfold logCaddy
  repeat' (with_reducible first | assumption | apply log_safe | dsimp only | split | intro)

theorem retireBlock_safe (s : State) (h_ : s.flt.safe = true) :
    (retireBlock s).flt.safe = true := by
  unfold retireBlock
  repeat' (with_reducible first | assumption | apply raise_safe | apply logCaddy_safe | dsimp only | split | intro)

theorem writeFailed_safe (block : Nat) (s : State) (h_ : s.flt.safe = true) :
    (writeFailed block s).flt.safe = true := by
  unfold writeFailed
  repeat' (with_reducible first | assumption | apply fault_safe | apply logCaddy_safe | apply retireBlock_safe | dsimp only | split | intro)

theorem recordWritten_safe (r : QsRecord) (s : State) (h_ : s.flt.safe = true) :
    (recordWritten r s).flt.safe = true := by
  unfold recordWritten
  repeat' (with_reducible first | assumption | apply raise_safe | apply qsInvalidate_safe | dsimp only | split | intro)

theorem tailWritten_safe (k : Nat) (s : State) (h_ : s.flt.safe = true) :
    (tailWritten k s).flt.safe = true := by
  unfold tailWritten
  repeat' (with_reducible first | assumption | dsimp only | split | intro)

theorem flushOver_safe (s : State) (h_ : s.flt.safe = true) :
    (flushOver s).flt.safe = true := by
  unfold flushOver
  repeat' (with_reducible first | assumption | apply holdupSteps_safe | apply qsInvalidate_safe | dsimp only | split | intro)

theorem wearSaved_safe (s : State) (h_ : s.flt.safe = true) :
    (wearSaved s).flt.safe = true := by
  unfold wearSaved
  repeat' (with_reducible first | assumption | apply flushOver_safe | apply raise_safe | dsimp only | split | intro)

theorem jobDone_safe (j : CaddyJob) (s : State) (h_ : s.flt.safe = true) :
    (jobDone j s).flt.safe = true := by
  unfold jobDone
  repeat' (with_reducible first | assumption | apply recordWritten_safe | apply raise_safe | apply turnCopy_safe | apply tailWritten_safe | apply wearSaved_safe | apply logCaddy_safe | dsimp only | split | intro)

theorem popJob_safe (s : State) (h_ : s.flt.safe = true) :
    (popJob s).flt.safe = true := by
  unfold popJob
  repeat' (with_reducible first | assumption | apply jobDone_safe | dsimp only | split | intro)

theorem jobStep_safe (ok : Bool) (j : CaddyJob) (s : State) (h_ : s.flt.safe = true) :
    (jobStep ok j s).flt.safe = true := by
  unfold jobStep
  repeat' (with_reducible first | assumption | apply jobDone_safe | apply blockWritten_safe | apply popJob_safe | apply flushOver_safe | apply writeFailed_safe | apply retireBlock_safe | dsimp only | split | intro)

theorem doCaddyWriteComplete_safe (ok : Bool) (s : State) (h_ : s.flt.safe = true) :
    (doCaddyWriteComplete ok s).flt.safe = true := by
  unfold doCaddyWriteComplete
  repeat' (with_reducible first | assumption | apply jobStep_safe | dsimp only | split | intro)

theorem flushLoss_safe (s : State) (h_ : s.flt.safe = true) :
    (flushLoss s).flt.safe = true := by
  unfold flushLoss
  repeat' (with_reducible first | assumption | apply logPut_safe | apply raise_safe | dsimp only | split | intro)

theorem flushHead_safe (s : State) (h_ : s.flt.safe = true) : (flushHead s).flt.safe = true := by
  unfold flushHead
  split
  · exact h_
  · generalize leBytes 4 0x484C4C4B ++ _ ++ _ ++ _ = body
    repeat' (with_reducible first | assumption | apply logPut_safe | dsimp only | split | intro)

theorem startFlush_safe (s : State) (h_ : s.flt.safe = true) :
    (startFlush s).flt.safe = true := by
  unfold startFlush
  repeat' (with_reducible first | assumption | apply flushHead_safe | apply flushLoss_safe | apply caddyJob_safe | dsimp only | split | intro)

theorem logGuard_safe (s : State) (h_ : s.flt.safe = true) :
    (logGuard s).flt.safe = true := by
  unfold logGuard
  repeat' (with_reducible first | assumption | dsimp only | split | intro)

theorem doLogbookFlush_safe (s : State) (h_ : s.flt.safe = true) :
    (doLogbookFlush s).flt.safe = true := by
  unfold doLogbookFlush
  repeat' (with_reducible first | assumption | apply startFlush_safe | apply logGuard_safe | dsimp only | split | intro)

theorem blockLost_safe (l : Nat) (s : State) (h_ : s.flt.safe = true) :
    (blockLost l s).flt.safe = true := by
  unfold blockLost
  repeat' (with_reducible first | assumption | apply raise_safe | apply logCaddy_safe | dsimp only | split | intro)

theorem blockBad_safe (l : Nat) (s : State) (h_ : s.flt.safe = true) :
    (blockBad l s).flt.safe = true := by
  unfold blockBad
  repeat' (with_reducible first | assumption | apply blockLost_safe | apply caddyJob_safe | dsimp only | split | intro)

theorem refreshRead_safe (p : Nat) (r : BlockRead) (s : State) (h_ : s.flt.safe = true) :
    (refreshRead p r s).flt.safe = true := by
  unfold refreshRead
  repeat' (with_reducible first | assumption | apply blockBad_safe | apply caddyJob_safe | dsimp only | split | intro)

theorem doRetentionRefreshStep_safe (r : BlockRead) (s : State) (h_ : s.flt.safe = true) :
    (doRetentionRefreshStep r s).flt.safe = true := by
  unfold doRetentionRefreshStep
  repeat' (with_reducible first | assumption | apply refreshRead_safe | apply raise_safe | dsimp only | split | intro)

theorem reloadCollector_safe (w : Nat) (s : State) (h_ : s.flt.safe = true) :
    (reloadCollector w s).flt.safe = true := by
  unfold reloadCollector
  repeat' (with_reducible first | assumption | dsimp only | split | intro)

theorem envCopyError_safe (s : State) (h_ : s.flt.safe = true) :
    (envCopyError s).flt.safe = true := by
  unfold envCopyError
  repeat' (with_reducible first | assumption | apply fault_safe | dsimp only | split | intro)

theorem scrubBad_safe (g : ScrubRegion) (p : Nat) (otherOk : Bool) (s : State) (h_ : s.flt.safe = true) :
    (scrubBad g p otherOk s).flt.safe = true := by
  unfold scrubBad
  repeat' (with_reducible first | assumption | apply eccFound_safe | apply raise_safe | apply eccRestored_safe | apply doEventTableEccError_safe | apply State_memWrite_safe | apply envCopyError_safe | apply fault_safe | apply reloadCollector_safe | dsimp only | split | intro)

theorem scrubFixed_safe (g : ScrubRegion) (p : Nat) (s : State) (h_ : s.flt.safe = true) :
    (scrubFixed g p s).flt.safe = true := by
  unfold scrubFixed
  repeat' (with_reducible first | assumption | apply eccFixed_safe | dsimp only | split | intro)

theorem scrubNext_safe (g : ScrubRegion) (s : State) (h_ : s.flt.safe = true) :
    (scrubNext g s).flt.safe = true := by
  unfold scrubNext
  repeat' (with_reducible first | assumption | dsimp only | split | intro)

theorem scrubGuard_safe (g : ScrubRegion) (s : State) (h_ : s.flt.safe = true) :
    (scrubGuard g s).flt.safe = true := by
  unfold scrubGuard
  repeat' (with_reducible first | assumption | dsimp only | split | intro)

theorem doScrubAccess_safe (g : ScrubRegion) (e : Ecc) (otherOk : Bool) (s : State) (h_ : s.flt.safe = true) :
    (doScrubAccess g e otherOk s).flt.safe = true := by
  unfold doScrubAccess
  repeat' (with_reducible first | assumption | apply scrubGuard_safe | apply scrubFixed_safe | apply scrubBad_safe | apply scrubNext_safe | apply State_setSlot_safe | dsimp only | split | intro)

theorem doRulerCalibration_safe (taps : BitVec 10) (halfPpm : Int) (s : State) (h_ : s.flt.safe = true) :
    (doRulerCalibration taps halfPpm s).flt.safe = true := by
  unfold doRulerCalibration
  repeat' (with_reducible first | assumption | apply calReport_safe | dsimp only | split | intro)

theorem setStale_safe (v : Bool) (i : SenseItem) (s : State) (h_ : s.flt.safe = true) :
    (setStale v i s).flt.safe = true := by
  unfold setStale
  repeat' (with_reducible first | assumption | dsimp only | split | intro)

theorem doSenseCalibration_safe (i : SenseItem) (s : State) (h_ : s.flt.safe = true) :
    (doSenseCalibration i s).flt.safe = true := by
  unfold doSenseCalibration
  repeat' (with_reducible first | assumption | apply setStale_safe | dsimp only | split | intro)

theorem doSenseStale_safe (i : SenseItem) (s : State) (h_ : s.flt.safe = true) :
    (doSenseStale i s).flt.safe = true := by
  unfold doSenseStale
  repeat' (with_reducible first | assumption | apply calReport_safe | apply setStale_safe | dsimp only | split | intro)

theorem doTelemetryBatch_safe (m : TelemetryMeas) (s : State) (h_ : s.flt.safe = true) :
    (doTelemetryBatch m s).flt.safe = true := by
  unfold doTelemetryBatch
  repeat' (with_reducible first | assumption | apply logGuard_safe | apply raise_safe | dsimp only | split | intro)

theorem doCounterFrame_safe (s : State) (h_ : s.flt.safe = true) :
    (doCounterFrame s).flt.safe = true := by
  unfold doCounterFrame
  repeat' (with_reducible first | assumption | apply mirrorAt_safe | dsimp only | split | intro)

theorem doMirrorFrameSent_safe (lane : Nat) (s : State) (h_ : s.flt.safe = true) :
    (doMirrorFrameSent lane s).flt.safe = true := by
  unfold doMirrorFrameSent
  repeat' (with_reducible first | assumption | dsimp only | split | intro)

theorem lanesResume_safe (s : State) (h_ : s.flt.safe = true) :
    (lanesResume s).flt.safe = true := by
  unfold lanesResume
  repeat' (with_reducible first | assumption | dsimp only | split | intro)

theorem signed1_safe (s : State) (h_ : s.flt.safe = true) :
    (signed1 s).flt.safe = true := by
  unfold signed1
  repeat' (with_reducible first | assumption | dsimp only | split | intro)

theorem entropyUsed_safe (n : Nat) (s : State) (h_ : s.flt.safe = true) :
    (entropyUsed n s).flt.safe = true := by
  unfold entropyUsed
  repeat' (with_reducible first | assumption | dsimp only | split | intro)

theorem newChallenge_safe (s : State) (h_ : s.flt.safe = true) :
    (newChallenge s).flt.safe = true := by
  unfold newChallenge
  repeat' (with_reducible first | assumption | apply entropyUsed_safe | dsimp only | split | intro)

theorem linkFail_safe (l : Link) (s : State) (h_ : s.flt.safe = true) :
    (linkFail l s).flt.safe = true := by
  unfold linkFail
  repeat' (with_reducible first | assumption | apply State_setLink_safe | apply raiseIf_safe | dsimp only | split | intro)

theorem linkOk_safe (l : Link) (s : State) (h_ : s.flt.safe = true) :
    (linkOk l s).flt.safe = true := by
  unfold linkOk
  repeat' (with_reducible first | assumption | apply State_setLink_safe | dsimp only | split | intro)

theorem countSecFail_safe (s : State) (h_ : s.flt.safe = true) :
    (countSecFail s).flt.safe = true := by
  unfold countSecFail
  repeat' (with_reducible first | assumption | dsimp only | split | intro)

theorem signatureFail_safe (l : Link) (s : State) (h_ : s.flt.safe = true) :
    (signatureFail l s).flt.safe = true := by
  unfold signatureFail
  repeat' (with_reducible first | assumption | apply linkFail_safe | apply log_safe | apply raise_safe | apply countSecFail_safe | dsimp only | split | intro)

theorem countedFail_safe (l : Link) (s : State) (h_ : s.flt.safe = true) :
    (countedFail l s).flt.safe = true := by
  unfold countedFail
  repeat' (with_reducible first | assumption | apply linkFail_safe | apply raise_safe | apply countSecFail_safe | dsimp only | split | intro)

theorem plainFail_safe (l : Link) (s : State) (h_ : s.flt.safe = true) :
    (plainFail l s).flt.safe = true := by
  unfold plainFail
  repeat' (with_reducible first | assumption | apply linkFail_safe | apply raise_safe | dsimp only | split | intro)

theorem doLockoutExpiry_safe (l : Link) (s : State) (h_ : s.flt.safe = true) :
    (doLockoutExpiry l s).flt.safe = true := by
  unfold doLockoutExpiry
  repeat' (with_reducible first | assumption | apply raise_safe | apply State_setLink_safe | dsimp only | split | intro)

theorem setImage_safe (x : Slot) (i : Image) (s : State) (h_ : s.flt.safe = true) :
    (setImage x i s).flt.safe = true := by
  unfold setImage
  repeat' (with_reducible first | assumption | dsimp only | split | intro)

theorem logLink_safe (l : Link) (event : Nat) (s : State) (h_ : s.flt.safe = true) :
    (logLink l event s).flt.safe = true := by
  unfold logLink
  repeat' (with_reducible first | assumption | apply log_safe | dsimp only | split | intro)

theorem dropHoldings_safe (l : Link) (s : State) (h_ : s.flt.safe = true) :
    (dropHoldings l s).flt.safe = true := by
  unfold dropHoldings
  repeat' (with_reducible first | assumption | dsimp only | split | intro)

theorem closeSession_safe (l : Link) (s : State) (h_ : s.flt.safe = true) :
    (closeSession l s).flt.safe = true := by
  unfold closeSession
  repeat' (with_reducible first | assumption | apply State_setLink_safe | apply opened_safe | apply dropHoldings_safe | apply raise_safe | apply logLink_safe | dsimp only | split | intro)

theorem closeAll_safe (s : State) (h_ : s.flt.safe = true) :
    (closeAll s).flt.safe = true := by
  unfold closeAll
  repeat' (with_reducible first | assumption | apply closeSession_safe | dsimp only | split | intro)

theorem doSessionIdleTimeout_safe (l : Link) (s : State) (h_ : s.flt.safe = true) :
    (doSessionIdleTimeout l s).flt.safe = true := by
  unfold doSessionIdleTimeout
  repeat' (with_reducible first | assumption | apply closeSession_safe | dsimp only | split | intro)

theorem doSessionOpenTimeout_safe (l : Link) (s : State) (h_ : s.flt.safe = true) :
    (doSessionOpenTimeout l s).flt.safe = true := by
  unfold doSessionOpenTimeout
  repeat' (with_reducible first | assumption | apply countedFail_safe | apply closeSession_safe | dsimp only | split | intro)

theorem logLife_safe (op : Nat) (s : State) (h_ : s.flt.safe = true) :
    (logLife op s).flt.safe = true := by
  unfold logLife
  repeat' (with_reducible first | assumption | apply log_safe | dsimp only | split | intro)

theorem writeKeys_safe (k : KeyStore) (s : State) (h_ : s.flt.safe = true) :
    (writeKeys k s).flt.safe = true := by
  unfold writeKeys
  repeat' (with_reducible first | assumption | apply regionWritten_safe | dsimp only | split | intro)

theorem decommission_safe (life : Life) (op : Nat) (forced : Bool) (s : State) (h_ : s.flt.safe = true) :
    (decommission life op forced s).flt.safe = true := by
  unfold decommission
  repeat' (with_reducible first | assumption | apply writeKeys_safe | apply qsInvalidate_safe | apply raise_safe | apply logLife_safe | apply closeAll_safe | dsimp only | split | intro)

theorem startRecord_safe (kind wakeBits : Nat) (s : State) (h_ : s.flt.safe = true) :
    (startRecord kind wakeBits s).flt.safe = true := by
  unfold startRecord
  repeat' (with_reducible first | assumption | apply log_safe | dsimp only | split | intro)

theorem stopSequence_safe (links : Bool) (s : State) (h_ : s.flt.safe = true) :
    (stopSequence links s).flt.safe = true := by
  unfold stopSequence
  repeat' (with_reducible first | assumption | apply startRecord_safe | dsimp only | split | intro)

theorem doReferenceStarted_safe (s : State) (h_ : s.flt.safe = true) :
    (doReferenceStarted s).flt.safe = true := by
  unfold doReferenceStarted
  repeat' (with_reducible first | assumption | dsimp only | split | intro)

theorem stepSelfTest_safe (r : StepResult) (s : State) (h_ : s.flt.safe = true) :
    (stepSelfTest r s).flt.safe = true := by
  unfold stepSelfTest
  repeat' (with_reducible first | assumption | apply stopSequence_safe | apply raiseIf_safe | dsimp only | split | intro)

theorem driveBoot_safe (s : State) (h_ : s.flt.safe = true) :
    (driveBoot s).flt.safe = true := by
  unfold driveBoot
  repeat' (with_reducible first | assumption | apply forEach_safe | apply State_setBank_safe | apply ktUpdate_safe | apply State_setKettle_safe | dsimp only | split | intro)

theorem bootRetention_safe (s : State) (h_ : s.flt.safe = true) :
    (bootRetention s).flt.safe = true := by
  rw [bootRetention]
  generalize s.nv.kept.stale s.etc = o
  exact h_

theorem stepCaddy_safe (r : StepResult) (s : State) (h_ : s.flt.safe = true) :
    (stepCaddy r s).flt.safe = true := by
  unfold stepCaddy
  repeat' (with_reducible first | assumption | apply newChallenge_safe | apply bootRetention_safe | apply driveBoot_safe | apply forEach_safe | apply groupReport_safe | apply fault_safe | apply vbakCheck_safe | apply stopSequence_safe | dsimp only | split | intro)

theorem bootEnvelope_safe (s : State) (h_ : s.flt.safe = true) :
    (bootEnvelope s).flt.safe = true := by
  unfold bootEnvelope
  repeat' (with_reducible first | assumption | apply raise_safe | dsimp only | split | intro)

theorem bootWear_safe (r : StepResult) (s : State) (h_ : s.flt.safe = true) :
    (bootWear r s).flt.safe = true := by
  unfold bootWear
  repeat' (with_reducible first | assumption | apply forEach_safe | apply State_setChan_safe | dsimp only | split | intro)

theorem holdRecord_safe (r : QsRecord) (s : State) (h_ : s.flt.safe = true) :
    (holdRecord r s).flt.safe = true := by
  unfold holdRecord
  repeat' (with_reducible first | assumption | dsimp only | split | intro)

theorem bootRecord_safe (s : State) (h_ : s.flt.safe = true) :
    (bootRecord s).flt.safe = true := by
  unfold bootRecord
  repeat' (with_reducible first | assumption | apply raise_safe | apply qsInvalidate_safe | apply holdRecord_safe | dsimp only | split | intro)

theorem bootMap_safe (s : State) (h_ : s.flt.safe = true) :
    (bootMap s).flt.safe = true := by
  unfold bootMap
  repeat' (with_reducible first | assumption | apply raise_safe | dsimp only | split | intro)

theorem stepEnvelope_safe (r : StepResult) (s : State) (h_ : s.flt.safe = true) :
    (stepEnvelope r s).flt.safe = true := by
  unfold stepEnvelope
  repeat' (with_reducible first | assumption | apply bootMap_safe | apply bootRecord_safe | apply bootWear_safe | apply bootEnvelope_safe | dsimp only | split | intro)

theorem logImage_safe (x : Slot) (event reason : Nat) (place : Nat × Nat) (s : State) (h_ : s.flt.safe = true) :
    (logImage x event reason place s).flt.safe = true := by
  unfold logImage
  repeat' (with_reducible first | assumption | apply log_safe | dsimp only | split | intro)

theorem refuseSlot_safe (x : Slot) (reason : Nat) (s : State) (h_ : s.flt.safe = true) :
    (refuseSlot x reason s).flt.safe = true := by
  unfold refuseSlot
  repeat' (with_reducible first | assumption | apply raise_safe | apply logImage_safe | dsimp only | split | intro)

theorem declareTasks_safe (tab : List Byte) (s : State) (h_ : s.flt.safe = true) :
    (declareTasks tab s).flt.safe = true := by
  unfold declareTasks
  repeat' (with_reducible first | assumption | apply State_setCtx_safe | apply foldl_safe | apply foldl1_safe | dsimp only | split | intro)

theorem endSequence_safe (phase : Nat) (s : State) (h_ : s.flt.safe = true) :
    (endSequence phase s).flt.safe = true := by
  unfold endSequence
  repeat' (with_reducible first | assumption | apply ktLimits_safe | dsimp only | split | intro)

theorem runImage_safe (x : Slot) (s : State) (h_ : s.flt.safe = true) :
    (runImage x s).flt.safe = true := by
  unfold runImage
  repeat' (with_reducible first | assumption | apply State_memWrite_safe | apply declareTasks_safe | apply endSequence_safe | apply forEach_safe | apply activate_safe | apply startRecord_safe | dsimp only | split | intro)

theorem runSelected_safe (s : State) (h_ : s.flt.safe = true) :
    (runSelected s).flt.safe = true := by
  unfold runSelected
  repeat' (with_reducible first | assumption | apply writeKeys_safe | apply runImage_safe | dsimp only | split | intro)

theorem runOther_safe (s : State) (h_ : s.flt.safe = true) :
    (runOther s).flt.safe = true := by
  unfold runOther
  repeat' (with_reducible first | assumption | apply runImage_safe | apply writeKeys_safe | dsimp only | split | intro)

theorem stepImage_safe (s : State) (h_ : s.flt.safe = true) :
    (stepImage s).flt.safe = true := by
  unfold stepImage
  repeat' (with_reducible first | assumption | apply runSelected_safe | apply refuseSlot_safe | apply runOther_safe | apply startRecord_safe | apply endSequence_safe | dsimp only | split | intro)

theorem dropBadImages_safe (s : State) (h_ : s.flt.safe = true) :
    (dropBadImages s).flt.safe = true := by
  unfold dropBadImages
  repeat' (with_reducible first | assumption | dsimp only | split | intro)

theorem doResetStepComplete_safe (r : StepResult) (s : State) (h_ : s.flt.safe = true) :
    (doResetStepComplete r s).flt.safe = true := by
  unfold doResetStepComplete
  repeat' (with_reducible first | assumption | apply stepSelfTest_safe | apply stepCaddy_safe | apply stepEnvelope_safe | apply stepImage_safe | apply dropBadImages_safe | dsimp only | split | intro)

theorem State_setInput_safe (s : State) (i : SupplyInput) (x : SupplyIn) (h_ : s.flt.safe = true) :
    (Sys2Proof.Machine.State.setInput s i x).flt.safe = true := by
  unfold State.setInput
  repeat' (with_reducible first | assumption | dsimp only | split | intro)

theorem logSupply_safe (old new : SupplyState) (steps us : Nat) (s : State) (h_ : s.flt.safe = true) :
    (logSupply old new steps us s).flt.safe = true := by
  unfold logSupply
  repeat' (with_reducible first | assumption | apply log_safe | dsimp only | split | intro)

theorem supplyTo_safe (new : SupplyState) (steps us : Nat) (s : State) (h_ : s.flt.safe = true) :
    (supplyTo new steps us s).flt.safe = true := by
  unfold supplyTo
  repeat' (with_reducible first | assumption | apply mirrorState_safe | apply raise_safe | apply logSupply_safe | dsimp only | split | intro)

theorem holdupSteps_safe (s : State) (h_ : s.flt.safe = true) :
    (holdupSteps s).flt.safe = true := by
  unfold holdupSteps
  repeat' (with_reducible first | assumption | apply endAll_safe | apply withdrawAll_safe | apply stopTests_safe | apply ebAllOff_safe | apply ktLimits_safe | apply startFlush_safe | apply closeAll_safe | dsimp only | split | intro)

theorem enterHoldup_safe (s : State) (h_ : s.flt.safe = true) :
    (enterHoldup s).flt.safe = true := by
  unfold enterHoldup
  repeat' (with_reducible first | assumption | apply supplyTo_safe | apply holdupSteps_safe | apply wake_safe | dsimp only | split | intro)

theorem chanDown_safe (k : Nat) (s : State) (h_ : s.flt.safe = true) :
    (chanDown k s).flt.safe = true := by
  unfold chanDown
  repeat' (with_reducible first | assumption | apply State_setChan_safe | dsimp only | split | intro)

theorem enterDown_safe (s : State) (h_ : s.flt.safe = true) :
    (enterDown s).flt.safe = true := by
  unfold enterDown
  repeat' (with_reducible first | assumption | apply forEach_safe | apply chanDown_safe | apply ebAllOff_safe | apply ktUpdate_safe | apply stopTests_safe | apply ktLimits_safe | dsimp only | split | intro)

theorem bothLost_safe (s : State) (h_ : s.flt.safe = true) :
    (bothLost s).flt.safe = true := by
  unfold bothLost
  repeat' (with_reducible first | assumption | apply enterHoldup_safe | apply enterDown_safe | dsimp only | split | intro)

theorem supplyRun_safe (new : SupplyState) (steps us : Nat) (s : State) (h_ : s.flt.safe = true) :
    (supplyRun new steps us s).flt.safe = true := by
  unfold supplyRun
  repeat' (with_reducible first | assumption | apply vbakCheck_safe | apply ktLimits_safe | apply wake_safe | apply supplyTo_safe | dsimp only | split | intro)

theorem fromMain_safe (s : State) (h_ : s.flt.safe = true) :
    (fromMain s).flt.safe = true := by
  unfold fromMain
  repeat' (with_reducible first | assumption | apply vbakCheck_safe | apply bothLost_safe | apply supplyRun_safe | dsimp only | split | intro)

theorem overvoltCheck_safe (i : SupplyInput) (before : Bool) (s : State) (h_ : s.flt.safe = true) :
    (overvoltCheck i before s).flt.safe = true := by
  unfold overvoltCheck
  repeat' (with_reducible first | assumption | apply logSupply_safe | apply faultOnset_safe | apply raise_safe | apply faultEnd_safe | dsimp only | split | intro)

theorem doSupplyThresholdCrossing_safe (i : SupplyInput) (th : Threshold) (up : Bool) (millivolt : Nat) (s : State) (h_ : s.flt.safe = true) :
    (doSupplyThresholdCrossing i th up millivolt s).flt.safe = true := by
  unfold doSupplyThresholdCrossing
  repeat' (with_reducible first | assumption | apply State_setInput_safe | apply fromMain_safe | dsimp only | split | intro)

theorem vbakJudged_safe (s : State) (h_ : s.flt.safe = true) :
    (vbakJudged s).flt.safe = true := by
  unfold vbakJudged
  repeat' (with_reducible first | assumption | apply vbakCheck_safe | dsimp only | split | intro)

theorem doSupplyDebounceExpiry_safe (s : State) (h_ : s.flt.safe = true) :
    (doSupplyDebounceExpiry s).flt.safe = true := by
  unfold doSupplyDebounceExpiry
  repeat' (with_reducible first | assumption | apply supplyRun_safe | dsimp only | split | intro)

theorem leaveHoldup_safe (new : SupplyState) (s : State) (h_ : s.flt.safe = true) :
    (leaveHoldup new s).flt.safe = true := by
  unfold leaveHoldup
  repeat' (with_reducible first | assumption | apply holdupSteps_safe | apply supplyRun_safe | dsimp only | split | intro)

theorem doHoldupRecoveryExpiry_safe (s : State) (h_ : s.flt.safe = true) :
    (doHoldupRecoveryExpiry s).flt.safe = true := by
  unfold doHoldupRecoveryExpiry
  repeat' (with_reducible first | assumption | apply leaveHoldup_safe | dsimp only | split | intro)

theorem doHoldupStoreExhausted_safe (s : State) (h_ : s.flt.safe = true) :
    (doHoldupStoreExhausted s).flt.safe = true := by
  unfold doHoldupStoreExhausted
  repeat' (with_reducible first | assumption | apply enterDown_safe | dsimp only | split | intro)

theorem doHoldupStoreCharged_safe (s : State) (h_ : s.flt.safe = true) :
    (doHoldupStoreCharged s).flt.safe = true := by
  unfold doHoldupStoreCharged
  repeat' (with_reducible first | assumption | dsimp only | split | intro)

theorem doEnableChange_safe (on : Bool) (s : State) (h_ : s.flt.safe = true) :
    (doEnableChange on s).flt.safe = true := by
  unfold doEnableChange
  repeat' (with_reducible first | assumption | apply raise_safe | apply ebAllOff_safe | apply endAll_safe | apply withdrawAll_safe | apply wake_safe | apply ktLimits_safe | dsimp only | split | intro)

theorem doClaimNChange_safe (on : Bool) (s : State) (h_ : s.flt.safe = true) :
    (doClaimNChange on s).flt.safe = true := by
  unfold doClaimNChange
  repeat' (with_reducible first | assumption | apply raise_safe | dsimp only | split | intro)

theorem thermalFault_safe (s : State) (h_ : s.flt.safe = true) :
    (thermalFault s).flt.safe = true := by
  unfold thermalFault
  repeat' (with_reducible first | assumption | apply faultOnset_safe | apply faultEnd_safe | dsimp only | split | intro)

theorem doThermalThreshold_safe (d : ThermalDomain) (celsius : Int) (s : State) (h_ : s.flt.safe = true) :
    (doThermalThreshold d celsius s).flt.safe = true := by
  unfold doThermalThreshold
  repeat' (with_reducible first | assumption | apply raiseIf_safe | apply thermalFault_safe | apply ktLimits_safe | dsimp only | split | intro)

theorem doThermalDeratingChange_safe (k : Nat) (tenths : Int) (s : State) (h_ : s.flt.safe = true) :
    (doThermalDeratingChange k tenths s).flt.safe = true := by
  unfold doThermalDeratingChange
  repeat' (with_reducible first | assumption | apply ktLimit_safe | apply raise_safe | dsimp only | split | intro)

theorem railShow_safe (v : Bool) (r : SensorRail) (s : State) (h_ : s.flt.safe = true) :
    (railShow v r s).flt.safe = true := by
  unfold railShow
  repeat' (with_reducible first | assumption | apply State_setWheel_safe | dsimp only | split | intro)

theorem doSensorSupplyFault_safe (r : SensorRail) (s : State) (h_ : s.flt.safe = true) :
    (doSensorSupplyFault r s).flt.safe = true := by
  unfold doSensorSupplyFault
  repeat' (with_reducible first | assumption | apply faultOnset_safe | apply raise_safe | apply railShow_safe | dsimp only | split | intro)

theorem doSensorSupplyRecovery_safe (r : SensorRail) (s : State) (h_ : s.flt.safe = true) :
    (doSensorSupplyRecovery r s).flt.safe = true := by
  unfold doSensorSupplyRecovery
  repeat' (with_reducible first | assumption | apply faultEnd_safe | apply raise_safe | apply railShow_safe | dsimp only | split | intro)

theorem doReferenceLoss_safe (s : State) (h_ : s.flt.safe = true) :
    (doReferenceLoss s).flt.safe = true := by
  unfold doReferenceLoss
  repeat' (with_reducible first | assumption | apply faultOnset_safe | apply raise_safe | dsimp only | split | intro)

theorem doHoldoverExpiry_safe (s : State) (h_ : s.flt.safe = true) :
    (doHoldoverExpiry s).flt.safe = true := by
  unfold doHoldoverExpiry
  repeat' (with_reducible first | assumption | apply forEach_safe | apply withdraw_safe | apply faultOnset_safe | apply raise_safe | dsimp only | split | intro)

theorem doReferenceReturn_safe (s : State) (h_ : s.flt.safe = true) :
    (doReferenceReturn s).flt.safe = true := by
  unfold doReferenceReturn
  repeat' (with_reducible first | assumption | apply faultEnd_safe | dsimp only | split | intro)

theorem relocked_safe (s : State) (h_ : s.flt.safe = true) :
    (relocked s).flt.safe = true := by
  unfold relocked
  repeat' (with_reducible first | assumption | apply faultEnd_safe | apply raise_safe | dsimp only | split | intro)

theorem doRelockComplete_safe (s : State) (h_ : s.flt.safe = true) :
    (doRelockComplete s).flt.safe = true := by
  unfold doRelockComplete
  repeat' (with_reducible first | assumption | apply relocked_safe | dsimp only | split | intro)

theorem refusePower_safe (r : Nat) (s : State) (h_ : s.flt.safe = true) :
    (refusePower r s).flt.safe = true := by
  unfold refusePower
  repeat' (with_reducible first | assumption | dsimp only | split | intro)

theorem enterStandby_safe (s : State) (h_ : s.flt.safe = true) :
    (enterStandby s).flt.safe = true := by
  unfold enterStandby
  repeat' (with_reducible first | assumption | apply stopTests_safe | apply ktLimits_safe | dsimp only | split | intro)

theorem doStandbyRequest_safe (s : State) (h_ : s.flt.safe = true) :
    (doStandbyRequest s).flt.safe = true := by
  unfold doStandbyRequest
  repeat' (with_reducible first | assumption | apply enterStandby_safe | apply refusePower_safe | dsimp only | split | intro)

theorem doAutoStandby_safe (s : State) (h_ : s.flt.safe = true) :
    (doAutoStandby s).flt.safe = true := by
  unfold doAutoStandby
  repeat' (with_reducible first | assumption | apply doStandbyRequest_safe | dsimp only | split | intro)

theorem backToRun_safe (s : State) (h_ : s.flt.safe = true) :
    (backToRun s).flt.safe = true := by
  unfold backToRun
  repeat' (with_reducible first | assumption | apply lanesResume_safe | apply ktLimits_safe | dsimp only | split | intro)

theorem watchdogWake_safe (s : State) (h_ : s.flt.safe = true) :
    (watchdogWake s).flt.safe = true := by
  unfold watchdogWake
  repeat' (with_reducible first | assumption | dsimp only | split | intro)

theorem doStandbyWake_safe (s : State) (h_ : s.flt.safe = true) :
    (doStandbyWake s).flt.safe = true := by
  unfold doStandbyWake
  repeat' (with_reducible first | assumption | apply backToRun_safe | apply watchdogWake_safe | dsimp only | split | intro)

theorem enterSleep_safe (s : State) (h_ : s.flt.safe = true) :
    (enterSleep s).flt.safe = true := by
  unfold enterSleep
  repeat' (with_reducible first | assumption | apply stopTests_safe | apply startFlush_safe | apply ktLimits_safe | apply forEach_safe | apply ktUpdate_safe | dsimp only | split | intro)

theorem doSleepRequest_safe (s : State) (h_ : s.flt.safe = true) :
    (doSleepRequest s).flt.safe = true := by
  unfold doSleepRequest
  repeat' (with_reducible first | assumption | apply enterSleep_safe | apply refusePower_safe | dsimp only | split | intro)

theorem doAutoSleep_safe (s : State) (h_ : s.flt.safe = true) :
    (doAutoSleep s).flt.safe = true := by
  unfold doAutoSleep
  repeat' (with_reducible first | assumption | apply doSleepRequest_safe | dsimp only | split | intro)

theorem doSleepEntryComplete_safe (s : State) (h_ : s.flt.safe = true) :
    (doSleepEntryComplete s).flt.safe = true := by
  unfold doSleepEntryComplete
  repeat' (with_reducible first | assumption | apply ebAllOff_safe | dsimp only | split | intro)

theorem powerSettle_safe (s : State) (h_ : s.flt.safe = true) :
    (powerSettle s).flt.safe = true := by
  unfold powerSettle
  repeat' (with_reducible first | assumption | apply lanesResume_safe | apply forEach_safe | apply ktUpdate_safe | apply ktLimits_safe | dsimp only | split | intro)

theorem makeUpOne_safe (n : Nat) (s : State) (h_ : s.flt.safe = true) :
    (makeUpOne n s).flt.safe = true := by
  unfold makeUpOne
  repeat' (with_reducible first | assumption | apply timAct_safe | apply State_setTimer_safe | dsimp only | split | intro)

theorem markMadeUp_safe (old s : State) (h_ : s.flt.safe = true) :
    (markMadeUp old s).flt.safe = true := by
  unfold markMadeUp
  repeat' (with_reducible first | assumption | apply forEach_safe | apply State_setTimer_safe | dsimp only | split | intro)

theorem makeUp_safe (n : Nat) (s : State) (h_ : s.flt.safe = true) :
    (makeUp n s).flt.safe = true := by
  unfold makeUp
  repeat' (with_reducible first | assumption | apply State_setTimer_safe | apply markMadeUp_safe | apply makeUpOne_safe | dsimp only | split | intro)

theorem makeUpAll_safe (s : State) (h_ : s.flt.safe = true) :
    (makeUpAll s).flt.safe = true := by
  unfold makeUpAll
  repeat' (with_reducible first | assumption | apply forEach_safe | apply makeUp_safe | dsimp only | split | intro)

theorem closeLapsed_safe (s : State) (h_ : s.flt.safe = true) :
    (closeLapsed s).flt.safe = true := by
  unfold closeLapsed
  repeat' (with_reducible first | assumption | apply closeSession_safe | apply foldl_safe | apply foldl1_safe | dsimp only | split | intro)

theorem wakeUp_safe (s : State) (h_ : s.flt.safe = true) :
    (wakeUp s).flt.safe = true := by
  unfold wakeUp
  repeat' (with_reducible first | assumption | apply watchdogWake_safe | apply makeUpAll_safe | apply relocked_safe | apply closeLapsed_safe | apply backToRun_safe | apply startRecord_safe | apply holdupSteps_safe | dsimp only | split | intro)

theorem doSleepWake_safe (cause : Option (Fin 4)) (s : State) (h_ : s.flt.safe = true) :
    (doSleepWake cause s).flt.safe = true := by
  unfold doSleepWake
  repeat' (with_reducible first | assumption | apply wake_safe | apply qsInvalidate_safe | apply wakeUp_safe | dsimp only | split | intro)

theorem State_setTarget_safe (s : State) (g : IrqTarget) (x : IrcTarget) (h_ : s.flt.safe = true) :
    (Sys2Proof.Machine.State.setTarget s g x).flt.safe = true := by
  unfold State.setTarget
  repeat' (with_reducible first | assumption | dsimp only | split | intro)

theorem doIrqClaim_safe (g : IrqTarget) (src : Nat) (s : State) (h_ : s.flt.safe = true) :
    (doIrqClaim g src s).flt.safe = true := by
  unfold doIrqClaim
  repeat' (with_reducible first | assumption | apply State_setTarget_safe | dsimp only | split | intro)

theorem doIrqComplete_safe (g : IrqTarget) (src : Nat) (s : State) (h_ : s.flt.safe = true) :
    (doIrqComplete g src s).flt.safe = true := by
  unfold doIrqComplete
  repeat' (with_reducible first | assumption | apply State_setTarget_safe | dsimp only | split | intro)

theorem doModerationHoldEnd_safe (s : State) (h_ : s.flt.safe = true) :
    (doModerationHoldEnd s).flt.safe = true := by
  unfold doModerationHoldEnd
  repeat' (with_reducible first | assumption | dsimp only | split | intro)

theorem doGraceDeadline_safe (s : State) (h_ : s.flt.safe = true) :
    (doGraceDeadline s).flt.safe = true := by
  unfold doGraceDeadline
  repeat' (with_reducible first | assumption | apply graceDue_safe | dsimp only | split | intro)

theorem doFaultAcknowledge_safe (w : Nat) (mask : Word) (s : State) (h_ : s.flt.safe = true) :
    (doFaultAcknowledge w mask s).flt.safe = true := by
  unfold doFaultAcknowledge
  repeat' (with_reducible first | assumption | apply acknowledge_safe | apply graceDue_safe | dsimp only | split | intro)

theorem doWatchdogService_safe (v : BitVec 16) (s : State) (h_ : s.flt.safe = true) :
    (doWatchdogService v s).flt.safe = true := by
  unfold doWatchdogService
  repeat' (with_reducible first | assumption | apply fault_safe | dsimp only | split | intro)

theorem doWatchdogTimeout_safe (s : State) (h_ : s.flt.safe = true) :
    (doWatchdogTimeout s).flt.safe = true := by
  unfold doWatchdogTimeout
  repeat' (with_reducible first | assumption | apply fault_safe | apply wake_safe | dsimp only | split | intro)

theorem doWatchdogWarning_safe (s : State) (h_ : s.flt.safe = true) :
    (doWatchdogWarning s).flt.safe = true := by
  unfold doWatchdogWarning
  repeat' (with_reducible first | assumption | apply raise_safe | dsimp only | split | intro)

theorem writeWdtCfg_safe (v : Nat) (s : State) (h_ : s.flt.safe = true) :
    (writeWdtCfg v s).flt.safe = true := by
  unfold writeWdtCfg
  repeat' (with_reducible first | assumption | dsimp only | split | intro)

theorem doHandshakeStall_safe (s : State) (h_ : s.flt.safe = true) :
    (doHandshakeStall s).flt.safe = true := by
  unfold doHandshakeStall
  repeat' (with_reducible first | assumption | apply fault_safe | dsimp only | split | intro)

theorem doMgmtCoreStall_safe (s : State) (h_ : s.flt.safe = true) :
    (doMgmtCoreStall s).flt.safe = true := by
  unfold doMgmtCoreStall
  repeat' (with_reducible first | assumption | apply fault_safe | dsimp only | split | intro)

theorem placeFrame_safe (s : State) (h_ : s.flt.safe = true) :
    (placeFrame s).flt.safe = true := by
  unfold placeFrame
  repeat' (with_reducible first | assumption | apply raise_safe | dsimp only | split | intro)

theorem sendMsg_safe (l : Link) (mtag : Byte) (m : List Byte) (s : State) (h_ : s.flt.safe = true) :
    (sendMsg l mtag m s).flt.safe = true := by
  unfold sendMsg
  repeat' (with_reducible first | assumption | apply State_setLink_safe | apply placeFrame_safe | dsimp only | split | intro)

theorem linkError_safe (l : Link) (reason : Nat) (mtag : Byte) (s : State) (h_ : s.flt.safe = true) :
    (linkError l reason mtag s).flt.safe = true := by
  unfold linkError
  repeat' (with_reducible first | assumption | apply State_setLink_safe | apply sendMsg_safe | dsimp only | split | intro)

theorem counterUsed_safe (l : Link) (x : Session) (s : State) (h_ : s.flt.safe = true) :
    (counterUsed l x s).flt.safe = true := by
  unfold counterUsed
  repeat' (with_reducible first | assumption | apply State_setLink_safe | apply opened_safe | apply closeSession_safe | dsimp only | split | intro)

theorem sendSealed_safe (l : Link) (mtag : Byte) (x : Session) (inner : List Byte) (s : State) (h_ : s.flt.safe = true) :
    (sendSealed l mtag x inner s).flt.safe = true := by
  unfold sendSealed
  repeat' (with_reducible first | assumption | apply counterUsed_safe | apply sendMsg_safe | dsimp only | split | intro)

theorem respond_safe (l : Link) (before : State) (r : Request) (a : Reply) (h_ : a.state.flt.safe = true) :
    (respond l before r a).flt.safe = true := by
  unfold respond
  repeat' (with_reducible first | assumption | apply State_setLink_safe | apply sendMsg_safe | apply opened_safe | apply sendSealed_safe | dsimp only | split | intro)

theorem doMbxSend_safe (len : Nat) (s : State) (h_ : s.flt.safe = true) :
    (doMbxSend len s).flt.safe = true := by
  unfold doMbxSend
  repeat' (with_reducible first | assumption | apply linkError_safe | dsimp only | split | intro)

theorem doMbxRxDone_safe (s : State) (h_ : s.flt.safe = true) :
    (doMbxRxDone s).flt.safe = true := by
  unfold doMbxRxDone
  repeat' (with_reducible first | assumption | apply placeFrame_safe | dsimp only | split | intro)

theorem doMbxAbort_safe (s : State) (h_ : s.flt.safe = true) :
    (doMbxAbort s).flt.safe = true := by
  unfold doMbxAbort
  repeat' (with_reducible first | assumption | apply State_setLink_safe | dsimp only | split | intro)

theorem doCanBusOff_safe (second : Bool) (s : State) (h_ : s.flt.safe = true) :
    (doCanBusOff second s).flt.safe = true := by
  unfold doCanBusOff
  repeat' (with_reducible first | assumption | apply raise_safe | apply logLink_safe | apply State_setLink_safe | dsimp only | split | intro)

theorem doCanBusOffRecovery_safe (second : Bool) (s : State) (h_ : s.flt.safe = true) :
    (doCanBusOffRecovery second s).flt.safe = true := by
  unfold doCanBusOffRecovery
  repeat' (with_reducible first | assumption | apply raise_safe | apply State_setLink_safe | dsimp only | split | intro)

theorem doCanFrameTransmitted_safe (second : Bool) (s : State) (h_ : s.flt.safe = true) :
    (doCanFrameTransmitted second s).flt.safe = true := by
  unfold doCanFrameTransmitted
  repeat' (with_reducible first | assumption | apply State_setLink_safe | dsimp only | split | intro)

theorem answerPlain_safe (l : Link) (mtag : Byte) (code rtag status detail : Nat) (data : List Byte) (s : State) (h_ : s.flt.safe = true) :
    (answerPlain l mtag code rtag status detail data s).flt.safe = true := by
  unfold answerPlain
  repeat' (with_reducible first | assumption | apply sendMsg_safe | dsimp only | split | intro)

theorem answerSealed_safe (l : Link) (mtag : Byte) (code rtag status detail : Nat) (keep : Bool) (s : State) (h_ : s.flt.safe = true) :
    (answerSealed l mtag code rtag status detail keep s).flt.safe = true := by
  unfold answerSealed
  repeat' (with_reducible first | assumption | apply opened_safe | apply sendSealed_safe | dsimp only | split | intro)

theorem takeRequest_safe (l : Link) (mtag : Byte) (code rtag : Nat) (body : List Byte) (isSealed : Bool) (s : State) (h_ : s.flt.safe = true) :
    (takeRequest l mtag code rtag body isSealed s).flt.safe = true := by
  unfold takeRequest
  repeat' (with_reducible first | assumption | apply State_setLink_safe | dsimp only | split | intro)

theorem claimAttempt_safe (code : Nat) (s : State) (h_ : s.flt.safe = true) :
    (claimAttempt code s).flt.safe = true := by
  unfold claimAttempt
  repeat' (with_reducible first | assumption | apply newChallenge_safe | dsimp only | split | intro)

theorem plainIn_safe (l : Link) (mtag : Byte) (m : List Byte) (s : State) (h_ : s.flt.safe = true) :
    (plainIn l mtag m s).flt.safe = true := by
  unfold plainIn
  repeat' (with_reducible first | assumption | apply answerPlain_safe | apply claimAttempt_safe | apply plainFail_safe | apply takeRequest_safe | dsimp only | split | intro)

theorem innerIn_safe (l : Link) (mtag : Byte) (x : Session) (m : List Byte) (s : State) (h_ : s.flt.safe = true) :
    (innerIn l mtag x m s).flt.safe = true := by
  unfold innerIn
  repeat' (with_reducible first | assumption | apply answerSealed_safe | apply plainFail_safe | apply takeRequest_safe | dsimp only | split | intro)

theorem acceptSealed_safe (l : Link) (mtag : Byte) (x : Session) (ctr : Nat) (m : List Byte) (s : State) (h_ : s.flt.safe = true) :
    (acceptSealed l mtag x ctr m s).flt.safe = true := by
  unfold acceptSealed
  repeat' (with_reducible first | assumption | apply linkOk_safe | apply State_setLink_safe | apply opened_safe | apply closeSession_safe | apply answerSealed_safe | apply sendSealed_safe | apply innerIn_safe | dsimp only | split | intro)

theorem sealFailure_safe (l : Link) (x : Session) (s : State) (h_ : s.flt.safe = true) :
    (sealFailure l x s).flt.safe = true := by
  unfold sealFailure
  repeat' (with_reducible first | assumption | apply countedFail_safe | apply State_setLink_safe | apply opened_safe | apply closeSession_safe | dsimp only | split | intro)

theorem sealedIn_safe (l : Link) (mtag : Byte) (m : List Byte) (s : State) (h_ : s.flt.safe = true) :
    (sealedIn l mtag m s).flt.safe = true := by
  unfold sealedIn
  repeat' (with_reducible first | assumption | apply answerPlain_safe | apply opened_safe | apply sealFailure_safe | apply acceptSealed_safe | dsimp only | split | intro)

theorem messageIn_safe (l : Link) (mtag : Byte) (m : List Byte) (s : State) (h_ : s.flt.safe = true) :
    (messageIn l mtag m s).flt.safe = true := by
  unfold messageIn
  repeat' (with_reducible first | assumption | apply answerPlain_safe | apply claimAttempt_safe | apply sealedIn_safe | apply plainIn_safe | dsimp only | split | intro)

theorem extendMessage_safe (l : Link) (mtag : Byte) (seg : Nat) (last : Bool) (b : List Byte) (s : State) (h_ : s.flt.safe = true) :
    (extendMessage l mtag seg last b s).flt.safe = true := by
  unfold extendMessage
  repeat' (with_reducible first | assumption | apply linkError_safe | apply messageIn_safe | apply State_setLink_safe | dsimp only | split | intro)

theorem frameStep_safe (l : Link) (f : List Byte) (s : State) (h_ : s.flt.safe = true) :
    (frameStep l f s).flt.safe = true := by
  unfold frameStep
  repeat' (with_reducible first | assumption | apply linkError_safe | apply extendMessage_safe | dsimp only | split | intro)

theorem gapCheck_safe (l : Link) (s : State) (h_ : s.flt.safe = true) :
    (gapCheck l s).flt.safe = true := by
  unfold gapCheck
  repeat' (with_reducible first | assumption | apply linkError_safe | dsimp only | split | intro)

theorem doFrameGapTimeout_safe (l : Link) (s : State) (h_ : s.flt.safe = true) :
    (doFrameGapTimeout l s).flt.safe = true := by
  unfold doFrameGapTimeout
  repeat' (with_reducible first | assumption | apply gapCheck_safe | dsimp only | split | intro)

theorem frameIn_safe (l : Link) (f : List Byte) (s : State) (h_ : s.flt.safe = true) :
    (frameIn l f s).flt.safe = true := by
  unfold frameIn
  repeat' (with_reducible first | assumption | apply wake_safe | apply gapCheck_safe | apply doSessionOpenTimeout_safe | apply doSessionIdleTimeout_safe | apply frameStep_safe | apply linkError_safe | dsimp only | split | intro)

theorem doOhmacFrame_safe (src : FrameSource) (s : State) (h_ : s.flt.safe = true) :
    (doOhmacFrame src s).flt.safe = true := by
  unfold doOhmacFrame
  repeat' (with_reducible first | assumption | apply frameIn_safe | apply raise_safe | dsimp only | split | intro)

theorem refusal_safe (status detail : Nat) (s : State) (h_ : s.flt.safe = true) :
    (refusal status detail s).state.flt.safe = true := by
  unfold refusal
  repeat' (with_reducible first | assumption | dsimp only | split | intro)

theorem success_safe (data : List Byte) (s : State) (h_ : s.flt.safe = true) :
    (success data s).state.flt.safe = true := by
  unfold success
  repeat' (with_reducible first | assumption | dsimp only | split | intro)

theorem command_safe (l : Link) (code : Nat) (f : Request → State → Reply) (s : State) (h_f : ∀ i (s : State), s.flt.safe = true → (f i s).state.flt.safe = true) (h_ : s.flt.safe = true) :
    (command l code f s).flt.safe = true := by
  unfold command
  repeat' (with_reducible first | assumption | apply respond_safe | apply refusal_safe | apply h_f | dsimp only | split | intro)

theorem malformed_safe (l : Link) (offset : Nat) (s : State) (h_ : s.flt.safe = true) :
    (malformed l offset s).state.flt.safe = true := by
  unfold malformed
  repeat' (with_reducible first | assumption | apply refusal_safe | apply plainFail_safe | dsimp only | split | intro)

theorem sized_safe (l : Link) (n : Nat) (r : Request) (s : State) (k : Unit → Reply) (h_ : s.flt.safe = true) (h : (k ()).state.flt.safe = true) :
    (sized l n r s k).state.flt.safe = true := by
  unfold sized
  repeat' (with_reducible first | assumption | apply malformed_safe | dsimp only | split | intro)

theorem doIdentity_safe (l : Link) (s : State) (h_ : s.flt.safe = true) :
    (doIdentity l s).flt.safe = true := by
  unfold doIdentity
  repeat' (with_reducible first | assumption | apply command_safe | apply sized_safe | apply success_safe | dsimp only | split | intro)

theorem doAttest_safe (l : Link) (s : State) (h_ : s.flt.safe = true) :
    (doAttest l s).flt.safe = true := by
  unfold doAttest
  repeat' (with_reducible first | assumption | apply command_safe | apply sized_safe | apply success_safe | apply signed1_safe | dsimp only | split | intro)

theorem claimDone_safe (l : Link) (stored : Bool) (b : List Byte) (s : State) (h_ : s.flt.safe = true) :
    (claimDone l stored b s).state.flt.safe = true := by
  unfold claimDone
  repeat' (with_reducible first | assumption | apply refusal_safe | apply writeFailed_safe | apply raise_safe | apply logLife_safe | apply linkOk_safe | apply writeKeys_safe | apply success_safe | apply signed1_safe | dsimp only | split | intro)

theorem claimReply_safe (l : Link) (stored : Bool) (r : Request) (s : State) (h_ : s.flt.safe = true) :
    (claimReply l stored r s).state.flt.safe = true := by
  unfold claimReply
  repeat' (with_reducible first | assumption | apply refusal_safe | apply malformed_safe | apply plainFail_safe | apply signatureFail_safe | apply claimDone_safe | dsimp only | split | intro)

theorem doClaim_safe (l : Link) (stored : Bool) (s : State) (h_ : s.flt.safe = true) :
    (doClaim l stored s).flt.safe = true := by
  unfold doClaim
  repeat' (with_reducible first | assumption | apply claimReply_safe | apply refusal_safe | apply respond_safe | apply newChallenge_safe | dsimp only | split | intro)

theorem ownerCheck_safe (l : Link) (b : List Byte) (s : State) (h_ : s.flt.safe = true) (x_ : Reply) (hx_ : (ownerCheck l b s) = some x_) :
    x_.state.flt.safe = true := by
  unfold ownerCheck at hx_
  (try dsimp only at hx_) <;> (repeat' split at hx_) <;> first | (cases hx_; repeat' (with_reducible first | assumption | apply refusal_safe | apply malformed_safe | apply signatureFail_safe | apply countedFail_safe | dsimp only | split | intro)) | (simp at hx_; done) | (simp_all; done)

theorem ownerOp_safe (l : Link) (op : Nat) (stored : Bool) (pre : List Byte → State → Option Reply) (act : List Byte → State → State) (s : State) (h_pre : ∀ i (s : State) r, pre i s = some r → s.flt.safe = true → r.state.flt.safe = true) (h_act : ∀ i (s : State), s.flt.safe = true → (act i s).flt.safe = true) (h_ : s.flt.safe = true) :
    (ownerOp l op stored pre act s).flt.safe = true := by
  unfold ownerOp
  split
  · exact h_
  · split
    · exact h_
    · apply command_safe _ _ _ _ _ h_
      intro r s h_
      dsimp only
      split
      · rename_i x hx
        exact or_safe _ _ (fun y hy => ownerCheck_safe _ _ _ h_ _ hy) (fun y hy => h_pre _ _ _ hy h_) _ hx
      · repeat' (with_reducible first | assumption | apply command_safe | apply refusal_safe | apply writeFailed_safe | apply linkOk_safe | apply writeKeys_safe | apply success_safe | apply h_act | dsimp only | split | intro)

theorem slotRange_safe (b : List Byte) (s : State) (h_ : s.flt.safe = true) (x_ : Reply) (hx_ : (slotRange b s) = some x_) :
    x_.state.flt.safe = true := by
  unfold slotRange at hx_
  (try dsimp only at hx_) <;> (repeat' split at hx_) <;> first | (cases hx_; repeat' (with_reducible first | assumption | apply refusal_safe | dsimp only | split | intro)) | (simp at hx_; done) | (simp_all; done)

theorem setOperator_safe (i : Nat) (c : Option (List Byte)) (s : State) (h_ : s.flt.safe = true) :
    (setOperator i c s).flt.safe = true := by
  unfold setOperator
  repeat' (with_reducible first | assumption | apply writeKeys_safe | dsimp only | split | intro)

theorem closeSlot_safe (i : Nat) (s : State) (h_ : s.flt.safe = true) :
    (closeSlot i s).flt.safe = true := by
  unfold closeSlot
  repeat' (with_reducible first | assumption | apply closeSession_safe | apply foldl_safe | apply foldl1_safe | dsimp only | split | intro)

theorem doEnrol_safe (l : Link) (stored : Bool) (s : State) (h_ : s.flt.safe = true) :
    (doEnrol l stored s).flt.safe = true := by
  unfold doEnrol
  refine ownerOp_safe _ _ _ _ _ _ (fun b s x hx h_ => ?_) (fun b s h_ => ?_) h_
  · dsimp only at hx
    split at hx
    · cases hx; repeat' (with_reducible first | assumption | apply ownerOp_safe | apply malformed_safe | apply refusal_safe | apply signatureFail_safe | apply logLife_safe | apply setOperator_safe | dsimp only | split | intro)
    · refine or_safe _ _ (fun y hy => slotRange_safe _ _ h_ _ hy) (fun y hy => ?_) _ hx
      split at hy
      · cases hy
      · cases hy; repeat' (with_reducible first | assumption | apply ownerOp_safe | apply malformed_safe | apply refusal_safe | apply signatureFail_safe | apply logLife_safe | apply setOperator_safe | dsimp only | split | intro)
  · repeat' (with_reducible first | assumption | apply ownerOp_safe | apply malformed_safe | apply refusal_safe | apply signatureFail_safe | apply logLife_safe | apply setOperator_safe | dsimp only | split | intro)

theorem doRevoke_safe (l : Link) (stored : Bool) (s : State) (h_ : s.flt.safe = true) :
    (doRevoke l stored s).flt.safe = true := by
  unfold doRevoke
  refine ownerOp_safe _ _ _ _ _ _ (fun b s x hx h => slotRange_safe _ _ h _ hx) (fun b s h_ => ?_) h_
  repeat' (with_reducible first | assumption | apply ownerOp_safe | apply closeSlot_safe | apply logLife_safe | apply setOperator_safe | dsimp only | split | intro)

theorem doTransfer_safe (l : Link) (stored : Bool) (s : State) (h_ : s.flt.safe = true) :
    (doTransfer l stored s).flt.safe = true := by
  unfold doTransfer
  refine ownerOp_safe _ _ _ _ _ _ (fun b s x hx h_ => ?_) (fun b s h_ => ?_) h_
  · split at hx
    · cases hx
    · cases hx; repeat' (with_reducible first | assumption | apply ownerOp_safe | apply refusal_safe | apply plainFail_safe | apply raise_safe | apply closeAll_safe | apply logLife_safe | apply writeKeys_safe | dsimp only | split | intro)
  · repeat' (with_reducible first | assumption | apply ownerOp_safe | apply refusal_safe | apply plainFail_safe | apply raise_safe | apply closeAll_safe | apply logLife_safe | apply writeKeys_safe | dsimp only | split | intro)

theorem needNosync_safe (s : State) (h_ : s.flt.safe = true) (x_ : Reply) (hx_ : (needNosync s) = some x_) :
    x_.state.flt.safe = true := by
  unfold needNosync at hx_
  (try dsimp only at hx_) <;> (repeat' split at hx_) <;> first | (cases hx_; repeat' (with_reducible first | assumption | apply refusal_safe | dsimp only | split | intro)) | (simp at hx_; done) | (simp_all; done)

theorem doDecommission_safe (l : Link) (stored : Bool) (s : State) (h_ : s.flt.safe = true) :
    (doDecommission l stored s).flt.safe = true := by
  unfold doDecommission
  refine ownerOp_safe _ _ _ _ _ _ (fun b s x hx h => needNosync_safe _ h _ hx) (fun b s h_ => ?_) h_
  repeat' (with_reducible first | assumption | apply ownerOp_safe | apply decommission_safe | dsimp only | split | intro)

theorem doRetire_safe (l : Link) (stored : Bool) (s : State) (h_ : s.flt.safe = true) :
    (doRetire l stored s).flt.safe = true := by
  unfold doRetire
  refine ownerOp_safe _ _ _ _ _ _ (fun b s x hx h => needNosync_safe _ h _ hx) (fun b s h_ => ?_) h_
  repeat' (with_reducible first | assumption | apply ownerOp_safe | apply decommission_safe | dsimp only | split | intro)

theorem armRelease_safe (s : State) (h_ : s.flt.safe = true) :
    (armRelease s).flt.safe = true := by
  unfold armRelease
  repeat' (with_reducible first | assumption | apply raise_safe | dsimp only | split | intro)

theorem doForceRelease_safe (l : Link) (s : State) (h_ : s.flt.safe = true) :
    (doForceRelease l s).flt.safe = true := by
  unfold doForceRelease
  repeat' (with_reducible first | assumption | apply command_safe | apply sized_safe | apply refusal_safe | apply armRelease_safe | apply success_safe | dsimp only | split | intro)

theorem doReleaseReminder_safe (s : State) (h_ : s.flt.safe = true) :
    (doReleaseReminder s).flt.safe = true := by
  unfold doReleaseReminder
  repeat' (with_reducible first | assumption | apply raiseIf_safe | apply log_safe | dsimp only | split | intro)

theorem doReleaseCountdownExpiry_safe (s : State) (h_ : s.flt.safe = true) :
    (doReleaseCountdownExpiry s).flt.safe = true := by
  unfold doReleaseCountdownExpiry
  repeat' (with_reducible first | assumption | apply decommission_safe | dsimp only | split | intro)

theorem doChallengeExpiry_safe (s : State) (h_ : s.flt.safe = true) :
    (doChallengeExpiry s).flt.safe = true := by
  unfold doChallengeExpiry
  repeat' (with_reducible first | assumption | apply newChallenge_safe | dsimp only | split | intro)

theorem doEntropyHealthFailure_safe (s : State) (h_ : s.flt.safe = true) :
    (doEntropyHealthFailure s).flt.safe = true := by
  unfold doEntropyHealthFailure
  repeat' (with_reducible first | assumption | apply raise_safe | dsimp only | split | intro)

theorem doEntropyHealthRecovery_safe (s : State) (h_ : s.flt.safe = true) :
    (doEntropyHealthRecovery s).flt.safe = true := by
  unfold doEntropyHealthRecovery
  repeat' (with_reducible first | assumption | dsimp only | split | intro)

theorem envRefused_safe (l : Link) (x : Nat × Nat) (s : State) (h_ : s.flt.safe = true) :
    (envRefused l x s).state.flt.safe = true := by
  unfold envRefused
  repeat' (with_reducible first | assumption | apply malformed_safe | apply refusal_safe | apply signatureFail_safe | apply countedFail_safe | dsimp only | split | intro)

theorem doEnvInstall_safe (l : Link) (s : State) (h_ : s.flt.safe = true) :
    (doEnvInstall l s).flt.safe = true := by
  unfold doEnvInstall
  repeat' (with_reducible first | assumption | apply linkOk_safe | apply command_safe | apply refusal_safe | apply envRefused_safe | dsimp only | split | intro)

theorem storeEnvelope_safe (e : List Byte) (s : State) (h_ : s.flt.safe = true) :
    (storeEnvelope e s).flt.safe = true := by
  unfold storeEnvelope
  repeat' (with_reducible first | assumption | apply regionWritten_safe | dsimp only | split | intro)

theorem envelopeStored_safe (e : List Byte) (s : State) (h_ : s.flt.safe = true) :
    (envelopeStored e s).flt.safe = true := by
  unfold envelopeStored
  repeat' (with_reducible first | assumption | apply raise_safe | apply storeEnvelope_safe | apply envelopeBoundary_safe | dsimp only | split | intro)

theorem envAnswer_safe (l : Link) (before : State) (a : Reply) (h_ : a.state.flt.safe = true) :
    (envAnswer l before a).flt.safe = true := by
  unfold envAnswer
  repeat' (with_reducible first | assumption | apply respond_safe | dsimp only | split | intro)

theorem doEnvelopeWriteComplete_safe (ok : Bool) (s : State) (h_ : s.flt.safe = true) :
    (doEnvelopeWriteComplete ok s).flt.safe = true := by
  unfold doEnvelopeWriteComplete
  repeat' (with_reducible first | assumption | apply envAnswer_safe | apply refusal_safe | apply writeFailed_safe | apply envRefused_safe | apply envelopeStored_safe | apply success_safe | dsimp only | split | intro)

theorem doEnvelopeCopyError_safe (s : State) (h_ : s.flt.safe = true) :
    (doEnvelopeCopyError s).flt.safe = true := by
  unfold doEnvelopeCopyError
  repeat' (with_reducible first | assumption | apply envCopyError_safe | dsimp only | split | intro)

theorem doEnvelopeReloadComplete_safe (s : State) (h_ : s.flt.safe = true) :
    (doEnvelopeReloadComplete s).flt.safe = true := by
  unfold doEnvelopeReloadComplete
  repeat' (with_reducible first | assumption | apply raise_safe | dsimp only | split | intro)

theorem openWith_safe (l : Link) (b : List Byte) (d : Word × Nat) (s : State) (h_ : s.flt.safe = true) :
    (openWith l b d s).state.flt.safe = true := by
  unfold openWith
  repeat' (with_reducible first | assumption | apply success_safe | apply signed1_safe | apply State_setLink_safe | dsimp only | split | intro)

theorem openTwo_safe (l : Link) (b : List Byte) (s : State) (h_ : s.flt.safe = true) :
    (openTwo l b s).state.flt.safe = true := by
  unfold openTwo
  repeat' (with_reducible first | assumption | apply openWith_safe | apply refusal_safe | apply entropyUsed_safe | dsimp only | split | intro)

theorem doOpen1_safe (l : Link) (s : State) (h_ : s.flt.safe = true) :
    (doOpen1 l s).flt.safe = true := by
  unfold doOpen1
  repeat' (with_reducible first | assumption | apply command_safe | apply closeSession_safe | apply refusal_safe | apply malformed_safe | apply openTwo_safe | apply signatureFail_safe | dsimp only | split | intro)

theorem opened_safe (l : Link) (before : State) (r : Request) (o : Opening) (c : List Byte) (s : State) (h_ : s.flt.safe = true) :
    (opened l before r o c s).flt.safe = true := by
  unfold opened
  repeat' (with_reducible first | assumption | apply raise_safe | apply logLink_safe | apply linkOk_safe | apply State_setLink_safe | apply respond_safe | apply success_safe | dsimp only | split | intro)

theorem openFails_safe (l : Link) (status detail : Nat) (s : State) (h_ : s.flt.safe = true) :
    (openFails l status detail s).state.flt.safe = true := by
  unfold openFails
  repeat' (with_reducible first | assumption | apply State_setLink_safe | apply refusal_safe | apply plainFail_safe | apply signatureFail_safe | dsimp only | split | intro)

theorem doOpen3_safe (l : Link) (s : State) (h_ : s.flt.safe = true) :
    (doOpen3 l s).flt.safe = true := by
  unfold doOpen3
  repeat' (with_reducible first | assumption | apply respond_safe | apply openFails_safe | apply opened_safe | apply refusal_safe | dsimp only | split | intro)

theorem doClose_safe (l : Link) (s : State) (h_ : s.flt.safe = true) :
    (doClose l s).flt.safe = true := by
  unfold doClose
  repeat' (with_reducible first | assumption | apply command_safe | apply sized_safe | apply success_safe | apply closeSession_safe | dsimp only | split | intro)

theorem stageChunk_safe (l : Link) (a : Nat) (data : List Byte) (s : State) (h_ : s.flt.safe = true) :
    (stageChunk l a data s).state.flt.safe = true := by
  unfold stageChunk
  repeat' (with_reducible first | assumption | apply success_safe | dsimp only | split | intro)

theorem doCfgStage_safe (l : Link) (s : State) (h_ : s.flt.safe = true) :
    (doCfgStage l s).flt.safe = true := by
  unfold doCfgStage
  repeat' (with_reducible first | assumption | apply command_safe | apply refusal_safe | apply malformed_safe | apply stageChunk_safe | dsimp only | split | intro)

theorem doCfgDiscard_safe (l : Link) (s : State) (h_ : s.flt.safe = true) :
    (doCfgDiscard l s).flt.safe = true := by
  unfold doCfgDiscard
  repeat' (with_reducible first | assumption | apply command_safe | apply refusal_safe | apply sized_safe | apply success_safe | dsimp only | split | intro)

theorem commitDone_safe (b : Block) (s : State) (h_ : s.flt.safe = true) :
    (commitDone b s).state.flt.safe = true := by
  unfold commitDone
  repeat' (with_reducible first | assumption | apply applyPending_safe | apply success_safe | dsimp only | split | intro)

theorem doCfgCommit_safe (l : Link) (s : State) (h_ : s.flt.safe = true) :
    (doCfgCommit l s).flt.safe = true := by
  unfold doCfgCommit
  repeat' (with_reducible first | assumption | apply command_safe | apply refusal_safe | apply sized_safe | apply commitDone_safe | dsimp only | split | intro)

theorem doConfigStoreComplete_safe (ok : Bool) (s : State) (h_ : s.flt.safe = true) :
    (doConfigStoreComplete ok s).flt.safe = true := by
  unfold doConfigStoreComplete
  repeat' (with_reducible first | assumption | apply regionWritten_safe | apply writeFailed_safe | dsimp only | split | intro)

theorem doCfgRead_safe (l : Link) (s : State) (h_ : s.flt.safe = true) :
    (doCfgRead l s).flt.safe = true := by
  unfold doCfgRead
  repeat' (with_reducible first | assumption | apply command_safe | apply sized_safe | apply malformed_safe | apply refusal_safe | apply success_safe | dsimp only | split | intro)

theorem doCfgStatus_safe (l : Link) (s : State) (h_ : s.flt.safe = true) :
    (doCfgStatus l s).flt.safe = true := by
  unfold doCfgStatus
  repeat' (with_reducible first | assumption | apply command_safe | apply sized_safe | apply success_safe | dsimp only | split | intro)

theorem doPing_safe (l : Link) (s : State) (h_ : s.flt.safe = true) :
    (doPing l s).flt.safe = true := by
  unfold doPing
  repeat' (with_reducible first | assumption | apply command_safe | apply sized_safe | apply success_safe | dsimp only | split | intro)

theorem readSeq_safe (n a : Nat) (s : State) (h_ : s.flt.safe = true) : (readSeq n a s).2.flt.safe = true := by
  induction n generalizing a s with
  | zero => exact h_
  | succ n ih => exact ih _ _ (regLatch_safe _ _ _ h_)
theorem doReadRegs_safe (l : Link) (s : State) (h_ : s.flt.safe = true) :
    (doReadRegs l s).flt.safe = true := by
  unfold doReadRegs
  repeat' (with_reducible first | assumption | apply command_safe | apply sized_safe | apply malformed_safe | apply refusal_safe | apply success_safe | apply readSeq_safe | dsimp only | split | intro)

theorem doCycleRecord_safe (l : Link) (s : State) (h_ : s.flt.safe = true) :
    (doCycleRecord l s).flt.safe = true := by
  unfold doCycleRecord
  repeat' (with_reducible first | assumption | apply command_safe | apply sized_safe | apply refusal_safe | apply success_safe | apply signed1_safe | dsimp only | split | intro)

theorem doTelemetry_safe (l : Link) (s : State) (h_ : s.flt.safe = true) :
    (doTelemetry l s).flt.safe = true := by
  unfold doTelemetry
  repeat' (with_reducible first | assumption | apply command_safe | apply sized_safe | apply success_safe | dsimp only | split | intro)

theorem doLogRead_safe (l : Link) (s : State) (h_ : s.flt.safe = true) :
    (doLogRead l s).flt.safe = true := by
  unfold doLogRead
  repeat' (with_reducible first | assumption | apply command_safe | apply sized_safe | apply malformed_safe | apply refusal_safe | apply success_safe | dsimp only | split | intro)

theorem writeMailbox_safe (q first : Nat) (w : List Word) (s : State) (h_ : s.flt.safe = true) :
    (writeMailbox q first w s).flt.safe = true := by
  unfold writeMailbox
  repeat' (with_reducible first | assumption | apply latchSq_safe | apply State_setSq_safe | dsimp only | split | intro)

theorem doTargets_safe (l : Link) (s : State) (h_ : s.flt.safe = true) :
    (doTargets l s).flt.safe = true := by
  unfold doTargets
  repeat' (with_reducible first | assumption | apply command_safe | apply refusal_safe | apply malformed_safe | apply writeMailbox_safe | apply success_safe | dsimp only | split | intro)

theorem doImgBegin_safe (l : Link) (s : State) (h_ : s.flt.safe = true) :
    (doImgBegin l s).flt.safe = true := by
  unfold doImgBegin
  repeat' (with_reducible first | assumption | apply command_safe | apply refusal_safe | apply sized_safe | apply malformed_safe | apply setImage_safe | apply success_safe | dsimp only | split | intro)

theorem doImgData_safe (l : Link) (s : State) (h_ : s.flt.safe = true) :
    (doImgData l s).flt.safe = true := by
  unfold doImgData
  repeat' (with_reducible first | assumption | apply command_safe | apply refusal_safe | apply malformed_safe | apply blocksWritten_safe | apply setImage_safe | apply success_safe | dsimp only | split | intro)

theorem imageRefused_safe (l : Link) (x : Slot) (st : Nat) (s : State) (h_ : s.flt.safe = true) :
    (imageRefused l x st s).flt.safe = true := by
  unfold imageRefused
  repeat' (with_reducible first | assumption | apply raise_safe | apply logImage_safe | apply setImage_safe | apply plainFail_safe | apply signatureFail_safe | apply countedFail_safe | dsimp only | split | intro)

theorem doImgEnd_safe (l : Link) (s : State) (h_ : s.flt.safe = true) :
    (doImgEnd l s).flt.safe = true := by
  unfold doImgEnd
  repeat' (with_reducible first | assumption | apply command_safe | apply refusal_safe | apply sized_safe | apply imageRefused_safe | apply linkOk_safe | apply setImage_safe | apply success_safe | apply raise_safe | apply logImage_safe | dsimp only | split | intro)

theorem doImgSelect_safe (l : Link) (stored : Bool) (s : State) (h_ : s.flt.safe = true) :
    (doImgSelect l stored s).flt.safe = true := by
  unfold doImgSelect
  repeat' (with_reducible first | assumption | apply command_safe | apply refusal_safe | apply sized_safe | apply malformed_safe | apply writeFailed_safe | apply success_safe | apply writeKeys_safe | dsimp only | split | intro)

theorem doImgConfirm_safe (l : Link) (stored : Bool) (s : State) (h_ : s.flt.safe = true) :
    (doImgConfirm l stored s).flt.safe = true := by
  unfold doImgConfirm
  repeat' (with_reducible first | assumption | apply command_safe | apply sized_safe | apply refusal_safe | apply writeFailed_safe | apply writeKeys_safe | apply success_safe | apply raise_safe | apply logImage_safe | dsimp only | split | intro)

theorem doReset_safe (l : Link) (s : State) (h_ : s.flt.safe = true) :
    (doReset l s).flt.safe = true := by
  unfold doReset
  repeat' (with_reducible first | assumption | apply command_safe | apply refusal_safe | apply sized_safe | apply malformed_safe | apply success_safe | dsimp only | split | intro)

theorem shotReply_safe (a : Answer) (s : State) (h_ : s.flt.safe = true) :
    (shotReply a s).state.flt.safe = true := by
  unfold shotReply
  repeat' (with_reducible first | assumption | apply success_safe | apply refusal_safe | dsimp only | split | intro)

theorem doTestShot_safe (l : Link) (s : State) (h_ : s.flt.safe = true) :
    (doTestShot l s).flt.safe = true := by
  unfold doTestShot
  repeat' (with_reducible first | assumption | apply command_safe | apply refusal_safe | apply sized_safe | apply malformed_safe | apply insertEvent_safe | apply served_safe | apply shotReply_safe | dsimp only | split | intro)

theorem diagRun_safe (l : Link) (kind : Nat) (k : BitVec 64 → State → State) (s : State) (h_k : ∀ i (s : State), s.flt.safe = true → (k i s).flt.safe = true) (h_ : s.flt.safe = true) :
    (diagRun l kind k s).flt.safe = true := by
  unfold diagRun
  repeat' (with_reducible first | assumption | apply command_safe | apply refusal_safe | apply success_safe | apply h_k | dsimp only | split | intro)

theorem doDiagRunOffTest_safe (l : Link) (s : State) (h_ : s.flt.safe = true) :
    (doDiagRunOffTest l s).flt.safe = true := by
  unfold doDiagRunOffTest
  repeat' (with_reducible first | assumption | apply diagRun_safe | apply diagOffTest_safe | dsimp only | split | intro)

theorem doDiagRunClear_safe (l : Link) (s : State) (h_ : s.flt.safe = true) :
    (doDiagRunClear l s).flt.safe = true := by
  unfold doDiagRunClear
  repeat' (with_reducible first | assumption | apply diagRun_safe | apply diagClear_safe | dsimp only | split | intro)

theorem writeTimCtl_safe (n v : Nat) (s : State) (h_ : s.flt.safe = true) :
    (writeTimCtl n v s).flt.safe = true := by
  unfold writeTimCtl
  repeat' (with_reducible first | assumption | apply State_setTimer_safe | apply doTimerStop_safe | apply doTimerStart_safe | dsimp only | split | intro)

theorem writeTimCapcfg_safe (n v : Nat) (s : State) (h_ : s.flt.safe = true) :
    (writeTimCapcfg n v s).flt.safe = true := by
  unfold writeTimCapcfg
  repeat' (with_reducible first | assumption | apply State_setTimer_safe | dsimp only | split | intro)

theorem writeTimStat_safe (n v : Nat) (s : State) (h_ : s.flt.safe = true) :
    (writeTimStat n v s).flt.safe = true := by
  unfold writeTimStat
  repeat' (with_reducible first | assumption | apply State_setTimer_safe | dsimp only | split | intro)

theorem writeTimer_safe (n o : Nat) (v : Word) (s : State) (h_ : s.flt.safe = true) :
    (writeTimer n o v s).flt.safe = true := by
  unfold writeTimer
  repeat' (with_reducible first | assumption | apply writeTimCtl_safe | apply doTimerTargetWrite_safe | apply writeTimCapcfg_safe | apply writeTimStat_safe | apply State_setTimer_safe | dsimp only | split | intro)

theorem writeEbCtl_safe (n v : Nat) (s : State) (h_ : s.flt.safe = true) :
    (writeEbCtl n v s).flt.safe = true := by
  unfold writeEbCtl
  repeat' (with_reducible first | assumption | apply State_setEb_safe | apply ebSetMask_safe | apply doEbLoadArm_safe | apply doEbEnable_safe | apply doEbDisable_safe | dsimp only | split | intro)

theorem writeEbStat_safe (n v : Nat) (s : State) (h_ : s.flt.safe = true) :
    (writeEbStat n v s).flt.safe = true := by
  unfold writeEbStat
  repeat' (with_reducible first | assumption | apply State_setEb_safe | apply doEbTripClear_safe | dsimp only | split | intro)

theorem writeEb_safe (n o : Nat) (v : Word) (s : State) (h_ : s.flt.safe = true) :
    (writeEb n o v s).flt.safe = true := by
  unfold writeEb
  repeat' (with_reducible first | assumption | apply writeEbCtl_safe | apply doEbWrite_safe | apply ebShadow_safe | apply State_setEb_safe | apply writeEbStat_safe | dsimp only | split | intro)

theorem writeKc_safe (k o : Nat) (v : Word) (s : State) (h_ : s.flt.safe = true) :
    (writeKc k o v s).flt.safe = true := by
  unfold writeKc
  repeat' (with_reducible first | assumption | apply State_setKc_safe | dsimp only | split | intro)

theorem writePwm_safe (a : Nat) (v : Word) (s : State) (h_ : s.flt.safe = true) :
    (writePwm a v s).flt.safe = true := by
  unfold writePwm
  repeat' (with_reducible first | assumption | apply doPwmGlbLoad_safe | apply doPwmGlbStart_safe | apply writeEb_safe | apply writeKc_safe | dsimp only | split | intro)

theorem writeTim_safe (a : Nat) (v : Word) (s : State) (h_ : s.flt.safe = true) :
    (writeTim a v s).flt.safe = true := by
  unfold writeTim
  repeat' (with_reducible first | assumption | apply doTimGlbStart_safe | apply writeTimer_safe | dsimp only | split | intro)

theorem writeDch_safe (k o : Nat) (v : Word) (s : State) (h_ : s.flt.safe = true) :
    (writeDch k o v s).flt.safe = true := by
  unfold writeDch
  repeat' (with_reducible first | assumption | apply State_setDch_safe | dsimp only | split | intro)

theorem writePwrCtl_safe (v : Nat) (s : State) (h_ : s.flt.safe = true) :
    (writePwrCtl v s).flt.safe = true := by
  unfold writePwrCtl
  repeat' (with_reducible first | assumption | apply doStandbyRequest_safe | apply doSleepRequest_safe | dsimp only | split | intro)

theorem writeLevel_safe (w : Nat) (v : Word) (s : State) (h_ : s.flt.safe = true) :
    (writeLevel w v s).flt.safe = true := by
  unfold writeLevel
  repeat' (with_reducible first | assumption | dsimp only | split | intro)

theorem writeCc_safe (g : IrqTarget) (v : Nat) (s : State) (h_ : s.flt.safe = true) :
    (writeCc g v s).flt.safe = true := by
  unfold writeCc
  repeat' (with_reducible first | assumption | apply doIrqComplete_safe | apply doIrqClaim_safe | dsimp only | split | intro)

theorem writeMod_safe (v : Nat) (s : State) (h_ : s.flt.safe = true) :
    (writeMod v s).flt.safe = true := by
  unfold writeMod
  repeat' (with_reducible first | assumption | dsimp only | split | intro)

theorem writeTarget_safe (g : IrqTarget) (o : Nat) (v : Word) (s : State) (h_ : s.flt.safe = true) (x_ : State) (hx_ : (writeTarget g o v s) = some x_) :
    x_.flt.safe = true := by
  unfold writeTarget at hx_
  (try dsimp only at hx_) <;> (repeat' split at hx_) <;> first | (cases hx_; repeat' (with_reducible first | assumption | apply State_setTarget_safe | apply writeCc_safe | dsimp only | split | intro)) | (simp at hx_; done) | (simp_all; done)

theorem hostRefused_safe (s : State) (h_ : s.flt.safe = true) :
    (hostRefused s).flt.safe = true := by
  unfold hostRefused
  repeat' (with_reducible first | assumption | dsimp only | split | intro)

theorem writeTxBuf_safe (a : Nat) (v : Word) (s : State) (h_ : s.flt.safe = true) :
    (writeTxBuf a v s).flt.safe = true := by
  unfold writeTxBuf
  repeat' (with_reducible first | assumption | apply hostRefused_safe | dsimp only | split | intro)

theorem writeMbxCtl_safe (v : Nat) (s : State) (h_ : s.flt.safe = true) :
    (writeMbxCtl v s).flt.safe = true := by
  unfold writeMbxCtl
  repeat' (with_reducible first | assumption | apply doMbxAbort_safe | apply doMbxRxDone_safe | apply doMbxSend_safe | dsimp only | split | intro)

theorem hostWrite_safe (a : Nat) (v : Word) (s : State) (h_ : s.flt.safe = true) :
    (hostWrite a v s).flt.safe = true := by
  unfold hostWrite
  repeat' (with_reducible first | assumption | apply getD_safe | apply writeMbxCtl_safe | apply writeTxBuf_safe | apply writeMod_safe | apply hostRefused_safe | split)
  exact fun x hx => writeTarget_safe _ _ _ _ h_ _ hx

theorem codeWrite_safe (owner a : Nat) (v : Word) (s : State) (h_ : s.flt.safe = true) :
    (codeWrite owner a v s).flt.safe = true := by
  unfold codeWrite
  repeat' (with_reducible first | assumption | apply writePwrCtl_safe | apply writeLevel_safe | apply doFaultAcknowledge_safe | apply writeWdtCfg_safe | apply doWatchdogService_safe | apply writeTim_safe | apply writePwm_safe | apply doSetpointWrite_safe | apply doExtensionWrite_safe | apply writeDch_safe | dsimp only | split | intro)

theorem coreWrite_safe (a : Nat) (v : Word) (s : State) (h_ : s.flt.safe = true) :
    (coreWrite a v s).flt.safe = true := by
  unfold coreWrite
  split
  · exact h_
  · split
    · exact getD_safe _ _ (fun x hx => writeTarget_safe _ _ _ _ h_ _ hx) h_
    · exact codeWrite_safe _ _ _ _ h_

theorem doRegisterWrite_safe (r : Requester) (a : Nat) (v : Word) (s : State) (h_ : s.flt.safe = true) :
    (doRegisterWrite r a v s).flt.safe = true := by
  unfold doRegisterWrite
  repeat' (with_reducible first | assumption | apply hostWrite_safe | apply coreWrite_safe | apply codeWrite_safe | dsimp only | split | intro)

theorem setReg_safe (i d : Nat) (v : Word) (s : State) (h_ : s.flt.safe = true) :
    (setReg i d v s).flt.safe = true := by
  unfold setReg
  repeat' (with_reducible first | assumption | apply State_setCtx_safe | dsimp only | split | intro)

theorem setPc_safe (i : Nat) (p : BitVec 16) (s : State) (h_ : s.flt.safe = true) :
    (setPc i p s).flt.safe = true := by
  unfold setPc
  repeat' (with_reducible first | assumption | apply State_setCtx_safe | dsimp only | split | intro)

theorem nextPc_safe (i : Nat) (s : State) (h_ : s.flt.safe = true) :
    (nextPc i s).flt.safe = true := by
  unfold nextPc
  repeat' (with_reducible first | assumption | apply setPc_safe | dsimp only | split | intro)

theorem writeD_safe (i d : Nat) (v : Word) (s : State) (h_ : s.flt.safe = true) :
    (writeD i d v s).flt.safe = true := by
  unfold writeD
  repeat' (with_reducible first | assumption | apply nextPc_safe | apply setReg_safe | dsimp only | split | intro)

theorem setQ_safe (i : Nat) (b : Bool) (s : State) (h_ : s.flt.safe = true) :
    (setQ i b s).flt.safe = true := by
  unfold setQ
  repeat' (with_reducible first | assumption | apply State_setCtx_safe | dsimp only | split | intro)

theorem haltTask_safe (i by' : Nat) (s : State) (h_ : s.flt.safe = true) :
    (haltTask i by' s).flt.safe = true := by
  unfold haltTask
  repeat' (with_reducible first | assumption | apply fault_safe | apply State_setCtx_safe | apply haltCancel_safe | dsimp only | split | intro)

theorem logTask_safe (i cause : Nat) (pc : BitVec 16) (s : State) (h_ : s.flt.safe = true) :
    (logTask i cause pc s).flt.safe = true := by
  unfold logTask
  repeat' (with_reducible first | assumption | apply log_safe | dsimp only | split | intro)

theorem countSegFault_safe (s : State) (h_ : s.flt.safe = true) :
    (countSegFault s).flt.safe = true := by
  unfold countSegFault
  repeat' (with_reducible first | assumption | dsimp only | split | intro)

theorem takeFault_safe (i cause : Nat) (faddr : Word) (s : State) (h_ : s.flt.safe = true) :
    (takeFault i cause faddr s).flt.safe = true := by
  unfold takeFault
  repeat' (with_reducible first | assumption | apply countSegFault_safe | apply logTask_safe | apply State_setCtx_safe | apply haltTask_safe | dsimp only | split | intro)

theorem budgetFault_safe (i : Nat) (s : State) (h_ : s.flt.safe = true) :
    (budgetFault i s).flt.safe = true := by
  unfold budgetFault
  repeat' (with_reducible first | assumption | apply takeFault_safe | dsimp only | split | intro)

theorem doBudgetExhausted_safe (q p : Nat) (s : State) (h_ : s.flt.safe = true) :
    (doBudgetExhausted q p s).flt.safe = true := by
  unfold doBudgetExhausted
  repeat' (with_reducible first | assumption | apply budgetFault_safe | dsimp only | split | intro)

theorem toReady_safe (j : Nat) (s : State) (h_ : s.flt.safe = true) :
    (toReady j s).flt.safe = true := by
  unfold toReady
  repeat' (with_reducible first | assumption | apply State_setCtx_safe | dsimp only | split | intro)

theorem occupy_safe (i : Nat) (s : State) (h_ : s.flt.safe = true) :
    (occupy i s).flt.safe = true := by
  unfold occupy
  repeat' (with_reducible first | assumption | apply forEach_safe | apply toReady_safe | apply State_setCtx_safe | apply State_setSq_safe | dsimp only | split | intro)

theorem atBoundary_safe (q : Nat) (s : State) (h_ : s.flt.safe = true) :
    (atBoundary q s).flt.safe = true := by
  unfold atBoundary
  repeat' (with_reducible first | assumption | apply forEach_safe | apply budgetFault_safe | dsimp only | split | intro)

theorem Done_finish_safe (i : Nat) (d : Done) (h_ : d.st.flt.safe = true) : (d.finish i).flt.safe = true := by
  cases d <;> simp only [Done.finish, Done.st_next, Done.st_fault] at h_ ⊢ <;> repeat' (with_reducible first | assumption | apply atBoundary_safe | apply occupy_safe | apply eccRead_safe | apply takeFault_safe | apply eccFound_safe | apply h_run | dsimp only | split | intro)
theorem issueWith_safe (n : Issue) (run : Nat → Word → State → Option Done) (s0 : State) (h_run : ∀ i w (s : State) d, run i w s = some d → s.flt.safe = true → d.st.flt.safe = true) (h_ : s0.flt.safe = true) :
    (issueWith n run s0).flt.safe = true := by
  unfold issueWith
  dsimp only
  split
  · exact h_
  · split
    · exact h_
    · split
      · split
        · rename_i hd
          refine Done_finish_safe _ _ (h_run _ _ _ _ hd ?_)
          repeat' (with_reducible first | assumption | apply atBoundary_safe | apply occupy_safe | apply eccRead_safe | apply takeFault_safe | apply eccFound_safe | apply h_run | dsimp only | split | intro)
        · exact h_
      · repeat' (with_reducible first | assumption | apply atBoundary_safe | apply occupy_safe | apply eccRead_safe | apply takeFault_safe | apply eccFound_safe | apply h_run | dsimp only | split | intro)
      · repeat' (with_reducible first | assumption | apply atBoundary_safe | apply occupy_safe | apply eccRead_safe | apply takeFault_safe | apply eccFound_safe | apply h_run | dsimp only | split | intro)

theorem issueOp_safe (op : AOp) (n : Issue) (run : Nat → AInstr → State → Done) (s : State) (h_run : ∀ i w (s : State), s.flt.safe = true → (run i w s).st.flt.safe = true) (h_ : s.flt.safe = true) :
    (issueOp op n run s).flt.safe = true := by
  unfold issueOp
  apply issueWith_safe _ _ _ _ h_
  intro i w s d hd h
  (repeat' split at hd) <;> cases hd
  exact h_run _ _ _ h

theorem doIllegalInstruction_safe (n : Issue) (s : State) (h_ : s.flt.safe = true) :
    (doIllegalInstruction n s).flt.safe = true := by
  unfold doIllegalInstruction
  apply issueWith_safe _ _ _ _ h_
  intro i w s d hd h
  split at hd <;> cases hd
  exact h

theorem aluR_safe (f : Word → Word → Word) (i : Nat) (x : AInstr) (s : State) (h_ : s.flt.safe = true) :
    (aluR f i x s).st.flt.safe = true := by
  unfold aluR
  repeat' (with_reducible first | assumption | apply writeD_safe | simp only [Done.st_next, Done.st_fault] | dsimp only | split | intro)

theorem aluI_safe (f : Word → Nat → Word) (i : Nat) (x : AInstr) (s : State) (h_ : s.flt.safe = true) :
    (aluI f i x s).st.flt.safe = true := by
  unfold aluI
  repeat' (with_reducible first | assumption | apply writeD_safe | simp only [Done.st_next, Done.st_fault] | dsimp only | split | intro)

theorem additive_safe (f : Ctx → Word → SumFlags) (b : Ctx → Word) (i : Nat) (x : AInstr) (s : State) (h_ : s.flt.safe = true) :
    (additive f b i x s).st.flt.safe = true := by
  unfold additive
  repeat' (with_reducible first | assumption | apply writeD_safe | apply State_setCtx_safe | simp only [Done.st_next, Done.st_fault] | dsimp only | split | intro)

theorem effAdd_safe (i : Nat) (x : AInstr) (s : State) (h_ : s.flt.safe = true) :
    (effAdd i x s).st.flt.safe = true := by
  unfold effAdd
  repeat' (with_reducible first | assumption | apply additive_safe | simp only [Done.st_next, Done.st_fault] | dsimp only | split | intro)

theorem effSub_safe (i : Nat) (x : AInstr) (s : State) (h_ : s.flt.safe = true) :
    (effSub i x s).st.flt.safe = true := by
  unfold effSub
  repeat' (with_reducible first | assumption | apply additive_safe | simp only [Done.st_next, Done.st_fault] | dsimp only | split | intro)

theorem effAddc_safe (i : Nat) (x : AInstr) (s : State) (h_ : s.flt.safe = true) :
    (effAddc i x s).st.flt.safe = true := by
  unfold effAddc
  repeat' (with_reducible first | assumption | apply additive_safe | simp only [Done.st_next, Done.st_fault] | dsimp only | split | intro)

theorem effSubc_safe (i : Nat) (x : AInstr) (s : State) (h_ : s.flt.safe = true) :
    (effSubc i x s).st.flt.safe = true := by
  unfold effSubc
  repeat' (with_reducible first | assumption | apply additive_safe | simp only [Done.st_next, Done.st_fault] | dsimp only | split | intro)

theorem effAddi_safe (i : Nat) (x : AInstr) (s : State) (h_ : s.flt.safe = true) :
    (effAddi i x s).st.flt.safe = true := by
  unfold effAddi
  repeat' (with_reducible first | assumption | apply additive_safe | simp only [Done.st_next, Done.st_fault] | dsimp only | split | intro)

theorem effLui_safe (i : Nat) (x : AInstr) (s : State) (h_ : s.flt.safe = true) :
    (effLui i x s).st.flt.safe = true := by
  unfold effLui
  repeat' (with_reducible first | assumption | apply writeD_safe | simp only [Done.st_next, Done.st_fault] | dsimp only | split | intro)

theorem effAngle_safe (f : State → Word → Word → Option Word) (i : Nat) (x : AInstr) (s : State) (h_ : s.flt.safe = true) :
    (effAngle f i x s).st.flt.safe = true := by
  unfold effAngle
  repeat' (with_reducible first | assumption | apply writeD_safe | apply setQ_safe | simp only [Done.st_next, Done.st_fault] | dsimp only | split | intro)

theorem branchIf_safe (take : Bool) (i : Nat) (x : AInstr) (s : State) (h_ : s.flt.safe = true) :
    (branchIf take i x s).st.flt.safe = true := by
  unfold branchIf
  repeat' (with_reducible first | assumption | apply setPc_safe | apply nextPc_safe | simp only [Done.st_next, Done.st_fault] | dsimp only | split | intro)

theorem effBranch_safe (p : Word → Word → Bool) (i : Nat) (x : AInstr) (s : State) (h_ : s.flt.safe = true) :
    (effBranch p i x s).st.flt.safe = true := by
  unfold effBranch
  repeat' (with_reducible first | assumption | apply branchIf_safe | simp only [Done.st_next, Done.st_fault] | dsimp only | split | intro)

theorem effBf_safe (i : Nat) (x : AInstr) (s : State) (h_ : s.flt.safe = true) :
    (effBf i x s).st.flt.safe = true := by
  unfold effBf
  repeat' (with_reducible first | assumption | apply branchIf_safe | simp only [Done.st_next, Done.st_fault] | dsimp only | split | intro)

theorem effJmp_safe (i : Nat) (x : AInstr) (s : State) (h_ : s.flt.safe = true) :
    (effJmp i x s).st.flt.safe = true := by
  unfold effJmp
  repeat' (with_reducible first | assumption | apply setPc_safe | simp only [Done.st_next, Done.st_fault] | dsimp only | split | intro)

theorem effJal_safe (i : Nat) (x : AInstr) (s : State) (h_ : s.flt.safe = true) :
    (effJal i x s).st.flt.safe = true := by
  unfold effJal
  repeat' (with_reducible first | assumption | apply setPc_safe | apply setReg_safe | simp only [Done.st_next, Done.st_fault] | dsimp only | split | intro)

theorem effJr_safe (i : Nat) (x : AInstr) (s : State) (h_ : s.flt.safe = true) :
    (effJr i x s).st.flt.safe = true := by
  unfold effJr
  repeat' (with_reducible first | assumption | apply setPc_safe | apply State_setCtx_safe | simp only [Done.st_next, Done.st_fault] | dsimp only | split | intro)

theorem effSnap_safe (i : Nat) (_x : AInstr) (s : State) (h_ : s.flt.safe = true) :
    (effSnap i _x s).st.flt.safe = true := by
  unfold effSnap
  repeat' (with_reducible first | assumption | apply nextPc_safe | apply State_setCtx_safe | simp only [Done.st_next, Done.st_fault] | dsimp only | split | intro)

theorem wakeSnap_safe (i : Nat) (s : State) (h_ : s.flt.safe = true) :
    (wakeSnap i s).flt.safe = true := by
  unfold wakeSnap
  repeat' (with_reducible first | assumption | apply makeReady_safe | apply State_setCtx_safe | dsimp only | split | intro)

theorem stepsNow_safe (s : State) (h_ : s.flt.safe = true) :
    (stepsNow s).flt.safe = true := by
  unfold stepsNow
  repeat' (with_reducible first | assumption | apply stepsDone_safe | apply forEach_safe | apply wakeSnap_safe | dsimp only | split | intro)

theorem effRds_safe (i : Nat) (x : AInstr) (s : State) (h_ : s.flt.safe = true) :
    (effRds i x s).st.flt.safe = true := by
  unfold effRds
  repeat' (with_reducible first | assumption | apply State_setCtx_safe | apply writeD_safe | simp only [Done.st_next, Done.st_fault] | dsimp only | split | intro)

theorem effYield_safe (i : Nat) (_x : AInstr) (s : State) (h_ : s.flt.safe = true) :
    (effYield i _x s).st.flt.safe = true := by
  unfold effYield
  repeat' (with_reducible first | assumption | apply makeReady_safe | apply nextPc_safe | simp only [Done.st_next, Done.st_fault] | dsimp only | split | intro)

theorem effEnd_safe (i : Nat) (_x : AInstr) (s : State) (h_ : s.flt.safe = true) :
    (effEnd i _x s).st.flt.safe = true := by
  unfold effEnd
  repeat' (with_reducible first | assumption | apply nextPc_safe | apply State_setCtx_safe | apply startActivation_safe | simp only [Done.st_next, Done.st_fault] | dsimp only | split | intro)

theorem doAdd_safe (n : Issue) (s : State) (h_ : s.flt.safe = true) :
    (doAdd n s).flt.safe = true := by
  unfold doAdd
  repeat' (with_reducible first | assumption | apply issueOp_safe | apply effAdd_safe | dsimp only | split | intro)

theorem doSub_safe (n : Issue) (s : State) (h_ : s.flt.safe = true) :
    (doSub n s).flt.safe = true := by
  unfold doSub
  repeat' (with_reducible first | assumption | apply issueOp_safe | apply effSub_safe | dsimp only | split | intro)

theorem doAddc_safe (n : Issue) (s : State) (h_ : s.flt.safe = true) :
    (doAddc n s).flt.safe = true := by
  unfold doAddc
  repeat' (with_reducible first | assumption | apply issueOp_safe | apply effAddc_safe | dsimp only | split | intro)

theorem doSubc_safe (n : Issue) (s : State) (h_ : s.flt.safe = true) :
    (doSubc n s).flt.safe = true := by
  unfold doSubc
  repeat' (with_reducible first | assumption | apply issueOp_safe | apply effSubc_safe | dsimp only | split | intro)

theorem doAnd_safe (n : Issue) (s : State) (h_ : s.flt.safe = true) :
    (doAnd n s).flt.safe = true := by
  unfold doAnd
  repeat' (with_reducible first | assumption | apply issueOp_safe | apply aluR_safe | dsimp only | split | intro)

theorem doOr_safe (n : Issue) (s : State) (h_ : s.flt.safe = true) :
    (doOr n s).flt.safe = true := by
  unfold doOr
  repeat' (with_reducible first | assumption | apply issueOp_safe | apply aluR_safe | dsimp only | split | intro)

theorem doXor_safe (n : Issue) (s : State) (h_ : s.flt.safe = true) :
    (doXor n s).flt.safe = true := by
  unfold doXor
  repeat' (with_reducible first | assumption | apply issueOp_safe | apply aluR_safe | dsimp only | split | intro)

theorem doShl_safe (n : Issue) (s : State) (h_ : s.flt.safe = true) :
    (doShl n s).flt.safe = true := by
  unfold doShl
  repeat' (with_reducible first | assumption | apply issueOp_safe | apply aluR_safe | dsimp only | split | intro)

theorem doShr_safe (n : Issue) (s : State) (h_ : s.flt.safe = true) :
    (doShr n s).flt.safe = true := by
  unfold doShr
  repeat' (with_reducible first | assumption | apply issueOp_safe | apply aluR_safe | dsimp only | split | intro)

theorem doSar_safe (n : Issue) (s : State) (h_ : s.flt.safe = true) :
    (doSar n s).flt.safe = true := by
  unfold doSar
  repeat' (with_reducible first | assumption | apply issueOp_safe | apply aluR_safe | dsimp only | split | intro)

theorem doMul_safe (n : Issue) (s : State) (h_ : s.flt.safe = true) :
    (doMul n s).flt.safe = true := by
  unfold doMul
  repeat' (with_reducible first | assumption | apply issueOp_safe | apply aluR_safe | dsimp only | split | intro)

theorem doMulhu_safe (n : Issue) (s : State) (h_ : s.flt.safe = true) :
    (doMulhu n s).flt.safe = true := by
  unfold doMulhu
  repeat' (with_reducible first | assumption | apply issueOp_safe | apply aluR_safe | dsimp only | split | intro)

theorem doMulhs_safe (n : Issue) (s : State) (h_ : s.flt.safe = true) :
    (doMulhs n s).flt.safe = true := by
  unfold doMulhs
  repeat' (with_reducible first | assumption | apply issueOp_safe | apply aluR_safe | dsimp only | split | intro)

theorem doDivu_safe (n : Issue) (s : State) (h_ : s.flt.safe = true) :
    (doDivu n s).flt.safe = true := by
  unfold doDivu
  repeat' (with_reducible first | assumption | apply issueOp_safe | apply aluR_safe | dsimp only | split | intro)

theorem doRemu_safe (n : Issue) (s : State) (h_ : s.flt.safe = true) :
    (doRemu n s).flt.safe = true := by
  unfold doRemu
  repeat' (with_reducible first | assumption | apply issueOp_safe | apply aluR_safe | dsimp only | split | intro)

theorem doSlt_safe (n : Issue) (s : State) (h_ : s.flt.safe = true) :
    (doSlt n s).flt.safe = true := by
  unfold doSlt
  repeat' (with_reducible first | assumption | apply issueOp_safe | apply aluR_safe | dsimp only | split | intro)

theorem doSltu_safe (n : Issue) (s : State) (h_ : s.flt.safe = true) :
    (doSltu n s).flt.safe = true := by
  unfold doSltu
  repeat' (with_reducible first | assumption | apply issueOp_safe | apply aluR_safe | dsimp only | split | intro)

theorem doAdda_safe (n : Issue) (s : State) (h_ : s.flt.safe = true) :
    (doAdda n s).flt.safe = true := by
  unfold doAdda
  repeat' (with_reducible first | assumption | apply issueOp_safe | apply effAngle_safe | dsimp only | split | intro)

theorem doDista_safe (n : Issue) (s : State) (h_ : s.flt.safe = true) :
    (doDista n s).flt.safe = true := by
  unfold doDista
  repeat' (with_reducible first | assumption | apply issueOp_safe | apply effAngle_safe | dsimp only | split | intro)

theorem doAddi_safe (n : Issue) (s : State) (h_ : s.flt.safe = true) :
    (doAddi n s).flt.safe = true := by
  unfold doAddi
  repeat' (with_reducible first | assumption | apply issueOp_safe | apply effAddi_safe | dsimp only | split | intro)

theorem doAndi_safe (n : Issue) (s : State) (h_ : s.flt.safe = true) :
    (doAndi n s).flt.safe = true := by
  unfold doAndi
  repeat' (with_reducible first | assumption | apply issueOp_safe | apply aluI_safe | dsimp only | split | intro)

theorem doOri_safe (n : Issue) (s : State) (h_ : s.flt.safe = true) :
    (doOri n s).flt.safe = true := by
  unfold doOri
  repeat' (with_reducible first | assumption | apply issueOp_safe | apply aluI_safe | dsimp only | split | intro)

theorem doXori_safe (n : Issue) (s : State) (h_ : s.flt.safe = true) :
    (doXori n s).flt.safe = true := by
  unfold doXori
  repeat' (with_reducible first | assumption | apply issueOp_safe | apply aluI_safe | dsimp only | split | intro)

theorem doShli_safe (n : Issue) (s : State) (h_ : s.flt.safe = true) :
    (doShli n s).flt.safe = true := by
  unfold doShli
  repeat' (with_reducible first | assumption | apply issueOp_safe | apply aluI_safe | dsimp only | split | intro)

theorem doShri_safe (n : Issue) (s : State) (h_ : s.flt.safe = true) :
    (doShri n s).flt.safe = true := by
  unfold doShri
  repeat' (with_reducible first | assumption | apply issueOp_safe | apply aluI_safe | dsimp only | split | intro)

theorem doSari_safe (n : Issue) (s : State) (h_ : s.flt.safe = true) :
    (doSari n s).flt.safe = true := by
  unfold doSari
  repeat' (with_reducible first | assumption | apply issueOp_safe | apply aluI_safe | dsimp only | split | intro)

theorem doLui_safe (n : Issue) (s : State) (h_ : s.flt.safe = true) :
    (doLui n s).flt.safe = true := by
  unfold doLui
  repeat' (with_reducible first | assumption | apply issueOp_safe | apply effLui_safe | dsimp only | split | intro)

theorem doBeq_safe (n : Issue) (s : State) (h_ : s.flt.safe = true) :
    (doBeq n s).flt.safe = true := by
  unfold doBeq
  repeat' (with_reducible first | assumption | apply issueOp_safe | apply effBranch_safe | dsimp only | split | intro)

theorem doBne_safe (n : Issue) (s : State) (h_ : s.flt.safe = true) :
    (doBne n s).flt.safe = true := by
  unfold doBne
  repeat' (with_reducible first | assumption | apply issueOp_safe | apply effBranch_safe | dsimp only | split | intro)

theorem doBlt_safe (n : Issue) (s : State) (h_ : s.flt.safe = true) :
    (doBlt n s).flt.safe = true := by
  unfold doBlt
  repeat' (with_reducible first | assumption | apply issueOp_safe | apply effBranch_safe | dsimp only | split | intro)

theorem doBge_safe (n : Issue) (s : State) (h_ : s.flt.safe = true) :
    (doBge n s).flt.safe = true := by
  unfold doBge
  repeat' (with_reducible first | assumption | apply issueOp_safe | apply effBranch_safe | dsimp only | split | intro)

theorem doBltu_safe (n : Issue) (s : State) (h_ : s.flt.safe = true) :
    (doBltu n s).flt.safe = true := by
  unfold doBltu
  repeat' (with_reducible first | assumption | apply issueOp_safe | apply effBranch_safe | dsimp only | split | intro)

theorem doBgeu_safe (n : Issue) (s : State) (h_ : s.flt.safe = true) :
    (doBgeu n s).flt.safe = true := by
  unfold doBgeu
  repeat' (with_reducible first | assumption | apply issueOp_safe | apply effBranch_safe | dsimp only | split | intro)

theorem doBf_safe (n : Issue) (s : State) (h_ : s.flt.safe = true) :
    (doBf n s).flt.safe = true := by
  unfold doBf
  repeat' (with_reducible first | assumption | apply issueOp_safe | apply effBf_safe | dsimp only | split | intro)

theorem doJmp_safe (n : Issue) (s : State) (h_ : s.flt.safe = true) :
    (doJmp n s).flt.safe = true := by
  unfold doJmp
  repeat' (with_reducible first | assumption | apply issueOp_safe | apply effJmp_safe | dsimp only | split | intro)

theorem doJal_safe (n : Issue) (s : State) (h_ : s.flt.safe = true) :
    (doJal n s).flt.safe = true := by
  unfold doJal
  repeat' (with_reducible first | assumption | apply issueOp_safe | apply effJal_safe | dsimp only | split | intro)

theorem doJr_safe (n : Issue) (s : State) (h_ : s.flt.safe = true) :
    (doJr n s).flt.safe = true := by
  unfold doJr
  repeat' (with_reducible first | assumption | apply issueOp_safe | apply effJr_safe | dsimp only | split | intro)

theorem doSnap_safe (n : Issue) (s : State) (h_ : s.flt.safe = true) :
    (doSnap n s).flt.safe = true := by
  unfold doSnap
  repeat' (with_reducible first | assumption | apply issueOp_safe | apply effSnap_safe | dsimp only | split | intro)

theorem doRds_safe (n : Issue) (s : State) (h_ : s.flt.safe = true) :
    (doRds n s).flt.safe = true := by
  unfold doRds
  repeat' (with_reducible first | assumption | apply issueOp_safe | apply effRds_safe | dsimp only | split | intro)

theorem doYield_safe (n : Issue) (s : State) (h_ : s.flt.safe = true) :
    (doYield n s).flt.safe = true := by
  unfold doYield
  repeat' (with_reducible first | assumption | apply issueOp_safe | apply effYield_safe | dsimp only | split | intro)

theorem doEnd_safe (n : Issue) (s : State) (h_ : s.flt.safe = true) :
    (doEnd n s).flt.safe = true := by
  unfold doEnd
  repeat' (with_reducible first | assumption | apply issueOp_safe | apply effEnd_safe | dsimp only | split | intro)

theorem readLatch_safe (r : Requester) (a : Nat) (s : State) (h_ : s.flt.safe = true) :
    (readLatch r a s).flt.safe = true := by
  unfold readLatch
  repeat' (with_reducible first | assumption | apply regLatch_safe | dsimp only | split | intro)

theorem withAccess_safe (r : Right) (n : Nat) (e : Ecc) (i : Nat) (x : AInstr) (f : Nat → State → State) (s : State) (h_f : ∀ i (s : State), s.flt.safe = true → (f i s).flt.safe = true) (h_ : s.flt.safe = true) :
    (withAccess r n e i x f s).st.flt.safe = true := by
  unfold withAccess
  repeat' (with_reducible first | assumption | apply eccRead_safe | apply fault_safe | apply eccFound_safe | apply h_f | simp only [Done.st_next, Done.st_fault] | dsimp only | split | intro)

theorem effLoad_safe (n : Nat) (e : Ecc) (i : Nat) (x : AInstr) (s : State) (h_ : s.flt.safe = true) :
    (effLoad n e i x s).st.flt.safe = true := by
  unfold effLoad
  repeat' (with_reducible first | assumption | apply withAccess_safe | apply writeD_safe | apply readLatch_safe | simp only [Done.st_next, Done.st_fault] | dsimp only | split | intro)

theorem storeWord_safe (i a : Nat) (v : Word) (s : State) (h_ : s.flt.safe = true) :
    (storeWord i a v s).flt.safe = true := by
  unfold storeWord
  repeat' (with_reducible first | assumption | apply doRegisterWrite_safe | apply State_memSetWord_safe | dsimp only | split | intro)

theorem effStore_safe (i : Nat) (x : AInstr) (s : State) (h_ : s.flt.safe = true) :
    (effStore i x s).st.flt.safe = true := by
  unfold effStore
  repeat' (with_reducible first | assumption | apply withAccess_safe | apply nextPc_safe | apply storeWord_safe | simp only [Done.st_next, Done.st_fault] | dsimp only | split | intro)

theorem effPatch_safe (n : Nat) (e : Ecc) (i : Nat) (x : AInstr) (s : State) (h_ : s.flt.safe = true) :
    (effPatch n e i x s).st.flt.safe = true := by
  unfold effPatch
  repeat' (with_reducible first | assumption | apply withAccess_safe | apply nextPc_safe | apply storeWord_safe | simp only [Done.st_next, Done.st_fault] | dsimp only | split | intro)

theorem effCaprd_safe (e : Ecc) (i : Nat) (x : AInstr) (s : State) (h_ : s.flt.safe = true) :
    (effCaprd e i x s).st.flt.safe = true := by
  unfold effCaprd
  repeat' (with_reducible first | assumption | apply writeD_safe | apply setQ_safe | apply fault_safe | apply eccFound_safe | apply eccRead_safe | simp only [Done.st_next, Done.st_fault] | dsimp only | split | intro)

theorem effMbxrd_safe (i : Nat) (x : AInstr) (s : State) (h_ : s.flt.safe = true) :
    (effMbxrd i x s).st.flt.safe = true := by
  unfold effMbxrd
  repeat' (with_reducible first | assumption | apply writeD_safe | simp only [Done.st_next, Done.st_fault] | dsimp only | split | intro)

theorem effMbxcp_safe (i : Nat) (x : AInstr) (s : State) (h_ : s.flt.safe = true) :
    (effMbxcp i x s).st.flt.safe = true := by
  unfold effMbxcp
  repeat' (with_reducible first | assumption | apply nextPc_safe | apply setQ_safe | apply fault_safe | apply writeD_safe | apply State_memWrite_safe | simp only [Done.st_next, Done.st_fault] | dsimp only | split | intro)

theorem effNote_safe (i : Nat) (x : AInstr) (s : State) (h_ : s.flt.safe = true) :
    (effNote i x s).st.flt.safe = true := by
  unfold effNote
  repeat' (with_reducible first | assumption | apply nextPc_safe | apply setReg_safe | apply setQ_safe | apply State_setSq_safe | simp only [Done.st_next, Done.st_fault] | dsimp only | split | intro)

theorem dmaStart_safe (i c desc : Nat) (s : State) (h_ : s.flt.safe = true) :
    (dmaStart i c desc s).flt.safe = true := by
  unfold dmaStart
  repeat' (with_reducible first | assumption | apply State_setDma_safe | dsimp only | split | intro)

theorem effDmago_safe (i : Nat) (x : AInstr) (s : State) (h_ : s.flt.safe = true) :
    (effDmago i x s).st.flt.safe = true := by
  unfold effDmago
  repeat' (with_reducible first | assumption | apply dmaStart_safe | apply writeD_safe | simp only [Done.st_next, Done.st_fault] | dsimp only | split | intro)

theorem signalIn_safe (q j : Nat) (s : State) (h_ : s.flt.safe = true) :
    (signalIn q j s).flt.safe = true := by
  unfold signalIn
  repeat' (with_reducible first | assumption | apply State_setCtx_safe | dsimp only | split | intro)

theorem signalAll_safe (q d : Nat) (s : State) (h_ : s.flt.safe = true) :
    (signalAll q d s).flt.safe = true := by
  unfold signalAll
  repeat' (with_reducible first | assumption | apply forEach_safe | apply signalIn_safe | apply State_setSq_safe | dsimp only | split | intro)

theorem effSignal_safe (i : Nat) (x : AInstr) (s : State) (h_ : s.flt.safe = true) :
    (effSignal i x s).st.flt.safe = true := by
  unfold effSignal
  repeat' (with_reducible first | assumption | apply nextPc_safe | apply raise_safe | apply State_setSq_safe | apply latchSq_safe | apply signalAll_safe | simp only [Done.st_next, Done.st_fault] | dsimp only | split | intro)

theorem doLd_safe (n : Issue) (s : State) (h_ : s.flt.safe = true) :
    (doLd n s).flt.safe = true := by
  unfold doLd
  repeat' (with_reducible first | assumption | apply issueOp_safe | apply effLoad_safe | dsimp only | split | intro)

theorem doLdh_safe (n : Issue) (s : State) (h_ : s.flt.safe = true) :
    (doLdh n s).flt.safe = true := by
  unfold doLdh
  repeat' (with_reducible first | assumption | apply issueOp_safe | apply effLoad_safe | dsimp only | split | intro)

theorem doLdb_safe (n : Issue) (s : State) (h_ : s.flt.safe = true) :
    (doLdb n s).flt.safe = true := by
  unfold doLdb
  repeat' (with_reducible first | assumption | apply issueOp_safe | apply effLoad_safe | dsimp only | split | intro)

theorem doSt_safe (n : Issue) (s : State) (h_ : s.flt.safe = true) :
    (doSt n s).flt.safe = true := by
  unfold doSt
  repeat' (with_reducible first | assumption | apply issueOp_safe | apply effStore_safe | dsimp only | split | intro)

theorem doSth_safe (n : Issue) (s : State) (h_ : s.flt.safe = true) :
    (doSth n s).flt.safe = true := by
  unfold doSth
  repeat' (with_reducible first | assumption | apply issueOp_safe | apply effPatch_safe | dsimp only | split | intro)

theorem doStb_safe (n : Issue) (s : State) (h_ : s.flt.safe = true) :
    (doStb n s).flt.safe = true := by
  unfold doStb
  repeat' (with_reducible first | assumption | apply issueOp_safe | apply effPatch_safe | dsimp only | split | intro)

theorem doCaprd_safe (n : Issue) (s : State) (h_ : s.flt.safe = true) :
    (doCaprd n s).flt.safe = true := by
  unfold doCaprd
  repeat' (with_reducible first | assumption | apply issueOp_safe | apply effCaprd_safe | dsimp only | split | intro)

theorem doMbxrd_safe (n : Issue) (s : State) (h_ : s.flt.safe = true) :
    (doMbxrd n s).flt.safe = true := by
  unfold doMbxrd
  repeat' (with_reducible first | assumption | apply issueOp_safe | apply effMbxrd_safe | dsimp only | split | intro)

theorem doMbxcp_safe (n : Issue) (s : State) (h_ : s.flt.safe = true) :
    (doMbxcp n s).flt.safe = true := by
  unfold doMbxcp
  repeat' (with_reducible first | assumption | apply issueOp_safe | apply effMbxcp_safe | dsimp only | split | intro)

theorem doNote_safe (n : Issue) (s : State) (h_ : s.flt.safe = true) :
    (doNote n s).flt.safe = true := by
  unfold doNote
  repeat' (with_reducible first | assumption | apply issueOp_safe | apply effNote_safe | dsimp only | split | intro)

theorem doDmago_safe (n : Issue) (s : State) (h_ : s.flt.safe = true) :
    (doDmago n s).flt.safe = true := by
  unfold doDmago
  repeat' (with_reducible first | assumption | apply issueOp_safe | apply effDmago_safe | dsimp only | split | intro)

theorem doSignal_safe (n : Issue) (s : State) (h_ : s.flt.safe = true) :
    (doSignal n s).flt.safe = true := by
  unfold doSignal
  repeat' (with_reducible first | assumption | apply issueOp_safe | apply effSignal_safe | dsimp only | split | intro)

theorem park_safe (i : Nat) (w : Wait) (s : State) (h_ : s.flt.safe = true) :
    (park i w s).flt.safe = true := by
  unfold park
  repeat' (with_reducible first | assumption | apply nextPc_safe | apply State_setCtx_safe | dsimp only | split | intro)

theorem effWaita_safe (i : Nat) (x : AInstr) (s : State) (h_ : s.flt.safe = true) :
    (effWaita i x s).st.flt.safe = true := by
  unfold effWaita
  repeat' (with_reducible first | assumption | apply writeD_safe | apply park_safe | simp only [Done.st_next, Done.st_fault] | dsimp only | split | intro)

theorem effWaitt_safe (i : Nat) (x : AInstr) (s : State) (h_ : s.flt.safe = true) :
    (effWaitt i x s).st.flt.safe = true := by
  unfold effWaitt
  repeat' (with_reducible first | assumption | apply writeD_safe | apply park_safe | simp only [Done.st_next, Done.st_fault] | dsimp only | split | intro)

theorem effWaite_safe (i : Nat) (x : AInstr) (s : State) (h_ : s.flt.safe = true) :
    (effWaite i x s).st.flt.safe = true := by
  unfold effWaite
  repeat' (with_reducible first | assumption | apply writeD_safe | apply State_setCtx_safe | apply park_safe | simp only [Done.st_next, Done.st_fault] | dsimp only | split | intro)

theorem wakeWith_safe (i d : Nat) (v : Word) (s : State) (h_ : s.flt.safe = true) :
    (wakeWith i d v s).flt.safe = true := by
  unfold wakeWith
  repeat' (with_reducible first | assumption | apply makeReady_safe | apply setReg_safe | dsimp only | split | intro)

theorem doWaittReached_safe (q p : Nat) (s : State) (h_ : s.flt.safe = true) :
    (doWaittReached q p s).flt.safe = true := by
  unfold doWaittReached
  repeat' (with_reducible first | assumption | apply wakeWith_safe | dsimp only | split | intro)

theorem waitaTimeout_safe (i : Nat) (s : State) (h_ : s.flt.safe = true) :
    (waitaTimeout i s).flt.safe = true := by
  unfold waitaTimeout
  repeat' (with_reducible first | assumption | apply wakeWith_safe | dsimp only | split | intro)

theorem doWaitTimeout_safe (q p : Nat) (s : State) (h_ : s.flt.safe = true) :
    (doWaitTimeout q p s).flt.safe = true := by
  unfold doWaitTimeout
  repeat' (with_reducible first | assumption | apply waitaTimeout_safe | apply passTo_safe | apply wakeWith_safe | dsimp only | split | intro)

theorem effSched_safe (i : Nat) (x : AInstr) (s : State) (h_ : s.flt.safe = true) :
    (effSched i x s).st.flt.safe = true := by
  unfold effSched
  repeat' (with_reducible first | assumption | apply park_safe | simp only [Done.st_next, Done.st_fault] | dsimp only | split | intro)

theorem effAim_safe (i : Nat) (x : AInstr) (s : State) (h_ : s.flt.safe = true) :
    (effAim i x s).st.flt.safe = true := by
  unfold effAim
  repeat' (with_reducible first | assumption | apply park_safe | simp only [Done.st_next, Done.st_fault] | dsimp only | split | intro)

theorem effCancel_safe (i : Nat) (x : AInstr) (s : State) (h_ : s.flt.safe = true) :
    (effCancel i x s).st.flt.safe = true := by
  unfold effCancel
  repeat' (with_reducible first | assumption | apply park_safe | simp only [Done.st_next, Done.st_fault] | dsimp only | split | intro)

theorem doSchedulerResult_safe (q p : Nat) (s : State) (h_ : s.flt.safe = true) :
    (doSchedulerResult q p s).flt.safe = true := by
  unfold doSchedulerResult
  repeat' (with_reducible first | assumption | apply setReg_safe | apply makeReady_safe | apply notice_safe | dsimp only | split | intro)

theorem doTimeTrigger_safe (q p : Nat) (s : State) (h_ : s.flt.safe = true) :
    (doTimeTrigger q p s).flt.safe = true := by
  unfold doTimeTrigger
  repeat' (with_reducible first | assumption | apply activate_safe | apply State_setCtx_safe | dsimp only | split | intro)

theorem doWaita_safe (n : Issue) (s : State) (h_ : s.flt.safe = true) :
    (doWaita n s).flt.safe = true := by
  unfold doWaita
  repeat' (with_reducible first | assumption | apply issueOp_safe | apply effWaita_safe | dsimp only | split | intro)

theorem doWaitt_safe (n : Issue) (s : State) (h_ : s.flt.safe = true) :
    (doWaitt n s).flt.safe = true := by
  unfold doWaitt
  repeat' (with_reducible first | assumption | apply issueOp_safe | apply effWaitt_safe | dsimp only | split | intro)

theorem doWaite_safe (n : Issue) (s : State) (h_ : s.flt.safe = true) :
    (doWaite n s).flt.safe = true := by
  unfold doWaite
  repeat' (with_reducible first | assumption | apply issueOp_safe | apply effWaite_safe | dsimp only | split | intro)

theorem doSched_safe (n : Issue) (s : State) (h_ : s.flt.safe = true) :
    (doSched n s).flt.safe = true := by
  unfold doSched
  repeat' (with_reducible first | assumption | apply issueOp_safe | apply effSched_safe | dsimp only | split | intro)

theorem doAim_safe (n : Issue) (s : State) (h_ : s.flt.safe = true) :
    (doAim n s).flt.safe = true := by
  unfold doAim
  repeat' (with_reducible first | assumption | apply issueOp_safe | apply effAim_safe | dsimp only | split | intro)

theorem doCancel_safe (n : Issue) (s : State) (h_ : s.flt.safe = true) :
    (doCancel n s).flt.safe = true := by
  unfold doCancel
  repeat' (with_reducible first | assumption | apply issueOp_safe | apply effCancel_safe | dsimp only | split | intro)

theorem descEcc_safe (a j : Nat) (e : Ecc) (s : State) (h_ : s.flt.safe = true) :
    (descEcc a j e s).flt.safe = true := by
  unfold descEcc
  repeat' (with_reducible first | assumption | apply forEach_safe | apply eccRead_safe | dsimp only | split | intro)

theorem writeStatus_safe (a status done : Nat) (s : State) (h_ : s.flt.safe = true) :
    (writeStatus a status done s).flt.safe = true := by
  unfold writeStatus
  repeat' (with_reducible first | assumption | apply State_memWrite_safe | dsimp only | split | intro)

theorem dmaFault_safe (c cause faddr : Nat) (s : State) (h_ : s.flt.safe = true) :
    (dmaFault c cause faddr s).flt.safe = true := by
  unfold dmaFault
  repeat' (with_reducible first | assumption | apply countSegFault_safe | apply State_setDma_safe | apply fault_safe | apply raise_safe | apply setLatch_safe | dsimp only | split | intro)

theorem dmaLoad_safe (c j : Nat) (e : Ecc) (s : State) (h_ : s.flt.safe = true) :
    (dmaLoad c j e s).flt.safe = true := by
  unfold dmaLoad
  repeat' (with_reducible first | assumption | apply dmaFault_safe | apply descEcc_safe | apply State_setDma_safe | apply writeStatus_safe | dsimp only | split | intro)

theorem burstRead_safe (c j : Nat) (e : Ecc) (k : Nat) (r : State × List Byte) (h_ : r.1.flt.safe = true) :
    (burstRead c j e k r).1.flt.safe = true := by
  unfold burstRead
  repeat' (with_reducible first | assumption | apply readLatch_safe | apply eccRead_safe | dsimp only | split | intro)

theorem burstWords_safe (c j n : Nat) (e : Ecc) (s : State) (h_ : s.flt.safe = true) :
    (burstWords c j n e s).1.flt.safe = true := by
  unfold burstWords
  repeat' (with_reducible first | assumption | apply burstRead_safe | apply foldl_safe | apply foldl1_safe | dsimp only | split | intro)

theorem rewriteDesc_safe (d : DmaCh) (cause : Nat) (s : State) (h_ : s.flt.safe = true) :
    (rewriteDesc d cause s).flt.safe = true := by
  unfold rewriteDesc
  repeat' (with_reducible first | assumption | apply writeStatus_safe | apply State_memWrite_safe | dsimp only | split | intro)

theorem descDone_safe (c : Nat) (s : State) (h_ : s.flt.safe = true) :
    (descDone c s).flt.safe = true := by
  unfold descDone
  repeat' (with_reducible first | assumption | apply writeStatus_safe | apply State_setDma_safe | dsimp only | split | intro)

theorem burstWrite_safe (c : Nat) (b : List Byte) (s : State) (h_ : s.flt.safe = true) :
    (burstWrite c b s).flt.safe = true := by
  unfold burstWrite
  repeat' (with_reducible first | assumption | apply State_memWrite_safe | apply State_setDma_safe | apply descDone_safe | dsimp only | split | intro)

theorem dmaMove_safe (c j : Nat) (e : Ecc) (s : State) (h_ : s.flt.safe = true) :
    (dmaMove c j e s).flt.safe = true := by
  unfold dmaMove
  repeat' (with_reducible first | assumption | apply dmaFault_safe | apply rewriteDesc_safe | apply burstWords_safe | apply burstWrite_safe | dsimp only | split | intro)

theorem doDmaBurst_safe (c j : Nat) (e : Ecc) (s : State) (h_ : s.flt.safe = true) :
    (doDmaBurst c j e s).flt.safe = true := by
  unfold doDmaBurst
  repeat' (with_reducible first | assumption | apply dmaLoad_safe | apply dmaMove_safe | dsimp only | split | intro)

theorem doDmaTransferComplete_safe (c : Nat) (s : State) (h_ : s.flt.safe = true) :
    (doDmaTransferComplete c s).flt.safe = true := by
  unfold doDmaTransferComplete
  repeat' (with_reducible first | assumption | apply descDone_safe | apply State_setDma_safe | apply raiseIf_safe | apply setLatch_safe | dsimp only | split | intro)

theorem timeNow_safe (s : State) (h_ : s.flt.safe = true) :
    (timeNow s).flt.safe = true := by
  unfold timeNow
  repeat' (with_reducible first | assumption | apply passNow_safe | apply stepsNow_safe | apply kcNow_safe | dsimp only | split | intro)

/-- The commands this family of lemmas leaves out. -/
def leaves_safe : Instr → Bool
  | .supplyJudgement _ _ | .resetCommandDelayExpiry _ | .resetNPulse _ _ => true
  | _ => false

/-- The effect of every command but those that can reset the module keeps SAFE. -/
theorem effect_safe (i : Instr) (s : State) (h_l : leaves_safe i = false) (h_ : s.flt.safe = true) :
    (effect i s).flt.safe = true := by
  cases i with
  | wheelCrossing => exact doWheelCrossing_safe (h_ := h_) ..
  | strainerAccept => exact doStrainerAccept_safe (h_ := h_) ..
  | pulseLongTimeout => exact doPulseLongTimeout_safe (h_ := h_) ..
  | secondaryPromotion => exact doSecondaryPromotion_safe (h_ := h_) ..
  | virtualBoundary => exact doVirtualBoundary_safe (h_ := h_) ..
  | countHold => exact doCountHold_safe (h_ := h_) ..
  | toothOverdue => exact doToothOverdue_safe (h_ := h_) ..
  | speedRecompute => exact doSpeedRecompute_safe (h_ := h_) ..
  | stall => exact doStall_safe (h_ := h_) ..
  | anglePassed => exact doAnglePassed_safe (h_ := h_) ..
  | eventInsertion => exact doEventInsertion_safe (h_ := h_) ..
  | eventAimRequest => exact doEventAim_safe (h_ := h_) ..
  | eventCancelRequest => exact doEventCancel_safe (h_ := h_) ..
  | commit => exact doCommit_safe (h_ := h_) ..
  | eventTableEccError => exact doEventTableEccError_safe (h_ := h_) ..
  | profileStart => exact doProfileStart_safe (h_ := h_) ..
  | regulatorSwitch => exact doRegulatorSwitch_safe (h_ := h_) ..
  | peakEnd => exact doPeakEnd_safe (h_ := h_) ..
  | peakTimeout => exact doPeakTimeout_safe (h_ := h_) ..
  | transitionEnd => exact doTransitionEnd_safe (h_ := h_) ..
  | ditherStep => exact doDitherStep_safe (h_ := h_) ..
  | turnOffInstant => exact doTurnOffInstant_safe (h_ := h_) ..
  | turnOffComplete => exact doTurnOffComplete_safe (h_ := h_) ..
  | channelOvercurrent => exact doChannelOvercurrent_safe (h_ := h_) ..
  | bankOvercurrent => exact doBankOvercurrent_safe (h_ := h_) ..
  | onMaxStop => exact doOnMaxStop_safe (h_ := h_) ..
  | onStateFault => exact doOnStateFault_safe (h_ := h_) ..
  | extensionWrite => exact doExtensionWrite_safe (h_ := h_) ..
  | setpointWrite => exact doSetpointWrite_safe (h_ := h_) ..
  | kettleLevelChange => exact doKettleLevelChange_safe (h_ := h_) ..
  | kettleChargeDeadline => exact doKettleChargeDeadline_safe (h_ := h_) ..
  | kettleOvervoltage => exact doKettleOvervoltage_safe (h_ := h_) ..
  | kettleCapacitanceMeasure => exact doKettleCapacitance_safe (h_ := h_) ..
  | closingRecordWritten => exact doClosingRecordWritten_safe (h_ := h_) ..
  | captureEnd => exact doCaptureEnd_safe (h_ := h_) ..
  | offTestStart => exact doOffTestStart_safe (h_ := h_) ..
  | offTestComplete => exact doOffTestComplete_safe (h_ := h_) ..
  | kcPeriodBoundary => exact doKcPeriodBoundary_safe (h_ := h_) ..
  | kcTrigger => exact doKcTrigger_safe (h_ := h_) ..
  | ebPeriodBoundary => exact doEbPeriodBoundary_safe (h_ := h_) ..
  | ebPerEvent => exact doEbPerEvent_safe (h_ := h_) ..
  | ebPhaseEdge => exact doEbPhaseEdge_safe (h_ := h_) ..
  | ebDeadTimeEnd => exact doEbDeadTimeEnd_safe (h_ := h_) ..
  | tripAccept => exact doTripAccept_safe (h_ := h_) ..
  | blankingEnd => exact doBlankingEnd_safe (h_ := h_) ..
  | ebEnable => exact doEbEnable_safe (h_ := h_) ..
  | ebDisable => exact doEbDisable_safe (h_ := h_) ..
  | ebLoadArm => exact doEbLoadArm_safe (h_ := h_) ..
  | ebImmediateWrite => exact doEbWrite_safe (h_ := h_) ..
  | ebTripClear => exact doEbTripClear_safe (h_ := h_) ..
  | pwmGlbLoad => exact doPwmGlbLoad_safe (h_ := h_) ..
  | pwmGlbStart => exact doPwmGlbStart_safe (h_ := h_) ..
  | timerStart => exact doTimerStart_safe (h_ := h_) ..
  | timerStop => exact doTimerStop_safe (h_ := h_) ..
  | timerTargetWrite => exact doTimerTargetWrite_safe (h_ := h_) ..
  | timGlbStart => exact doTimGlbStart_safe (h_ := h_) ..
  | timerExpiry => exact doTimerExpiry_safe (h_ := h_) ..
  | captureEdge => exact doCaptureEdge_safe (h_ := h_) ..
  | supplyThresholdCrossing => exact doSupplyThresholdCrossing_safe (h_ := h_) ..
  | supplyJudgement => cases h_l
  | supplyDebounceExpiry => exact doSupplyDebounceExpiry_safe (h_ := h_) ..
  | holdupRecoveryExpiry => exact doHoldupRecoveryExpiry_safe (h_ := h_) ..
  | holdupStoreExhausted => exact doHoldupStoreExhausted_safe (h_ := h_) ..
  | enableChange => exact doEnableChange_safe (h_ := h_) ..
  | thermalThreshold => exact doThermalThreshold_safe (h_ := h_) ..
  | sensorSupplyFault => exact doSensorSupplyFault_safe (h_ := h_) ..
  | referenceLoss => exact doReferenceLoss_safe (h_ := h_) ..
  | holdoverExpiry => exact doHoldoverExpiry_safe (h_ := h_) ..
  | referenceReturn => exact doReferenceReturn_safe (h_ := h_) ..
  | relockComplete => exact doRelockComplete_safe (h_ := h_) ..
  | referenceStarted => exact doReferenceStarted_safe (h_ := h_) ..
  | claimNChange => exact doClaimNChange_safe (h_ := h_) ..
  | challengeExpiry => exact doChallengeExpiry_safe (h_ := h_) ..
  | releaseReminder => exact doReleaseReminder_safe (h_ := h_) ..
  | releaseCountdownExpiry => exact doReleaseCountdownExpiry_safe (h_ := h_) ..
  | entropyHealthFailure => exact doEntropyHealthFailure_safe (h_ := h_) ..
  | lockoutExpiry => exact doLockoutExpiry_safe (h_ := h_) ..
  | envelopeCopyError => exact doEnvelopeCopyError_safe (h_ := h_) ..
  | envelopeReloadComplete => exact doEnvelopeReloadComplete_safe (h_ := h_) ..
  | envelopeWriteComplete => exact doEnvelopeWriteComplete_safe (h_ := h_) ..
  | configStoreComplete => exact doConfigStoreComplete_safe (h_ := h_) ..
  | caddyWriteComplete => exact doCaddyWriteComplete_safe (h_ := h_) ..
  | ohmacFrame => exact doOhmacFrame_safe (h_ := h_) ..
  | frameGapTimeout => exact doFrameGapTimeout_safe (h_ := h_) ..
  | mbxSend => exact doMbxSend_safe (h_ := h_) ..
  | mbxRxDone => exact doMbxRxDone_safe (h_ := h_) ..
  | mbxAbort => exact doMbxAbort_safe (h_ := h_) ..
  | canBusOff => exact doCanBusOff_safe (h_ := h_) ..
  | sessionOpenTimeout => exact doSessionOpenTimeout_safe (h_ := h_) ..
  | sessionIdleTimeout => exact doSessionIdleTimeout_safe (h_ := h_) ..
  | identity => exact doIdentity_safe (h_ := h_) ..
  | attest => exact doAttest_safe (h_ := h_) ..
  | claim => exact doClaim_safe (h_ := h_) ..
  | enrol => exact doEnrol_safe (h_ := h_) ..
  | revoke => exact doRevoke_safe (h_ := h_) ..
  | transfer => exact doTransfer_safe (h_ := h_) ..
  | decommission => exact doDecommission_safe (h_ := h_) ..
  | retire => exact doRetire_safe (h_ := h_) ..
  | forceRelease => exact doForceRelease_safe (h_ := h_) ..
  | envInstall => exact doEnvInstall_safe (h_ := h_) ..
  | open1 => exact doOpen1_safe (h_ := h_) ..
  | open3 => exact doOpen3_safe (h_ := h_) ..
  | close => exact doClose_safe (h_ := h_) ..
  | ping => exact doPing_safe (h_ := h_) ..
  | readRegs => exact doReadRegs_safe (h_ := h_) ..
  | cycleRecord => exact doCycleRecord_safe (h_ := h_) ..
  | telemetry => exact doTelemetry_safe (h_ := h_) ..
  | logRead => exact doLogRead_safe (h_ := h_) ..
  | targets => exact doTargets_safe (h_ := h_) ..
  | cfgStage => exact doCfgStage_safe (h_ := h_) ..
  | cfgCommit => exact doCfgCommit_safe (h_ := h_) ..
  | cfgDiscard => exact doCfgDiscard_safe (h_ := h_) ..
  | cfgRead => exact doCfgRead_safe (h_ := h_) ..
  | cfgStatus => exact doCfgStatus_safe (h_ := h_) ..
  | imgBegin => exact doImgBegin_safe (h_ := h_) ..
  | imgData => exact doImgData_safe (h_ := h_) ..
  | imgEnd => exact doImgEnd_safe (h_ := h_) ..
  | imgSelect => exact doImgSelect_safe (h_ := h_) ..
  | imgConfirm => exact doImgConfirm_safe (h_ := h_) ..
  | reset => exact doReset_safe (h_ := h_) ..
  | resetCommandDelayExpiry => cases h_l
  | testShot => exact doTestShot_safe (h_ := h_) ..
  | diagRunOffTest => exact doDiagRunOffTest_safe (h_ := h_) ..
  | diagRunClear => exact doDiagRunClear_safe (h_ := h_) ..
  | add => exact doAdd_safe (h_ := h_) ..
  | sub => exact doSub_safe (h_ := h_) ..
  | addc => exact doAddc_safe (h_ := h_) ..
  | subc => exact doSubc_safe (h_ := h_) ..
  | and => exact doAnd_safe (h_ := h_) ..
  | or => exact doOr_safe (h_ := h_) ..
  | xor => exact doXor_safe (h_ := h_) ..
  | shl => exact doShl_safe (h_ := h_) ..
  | shr => exact doShr_safe (h_ := h_) ..
  | sar => exact doSar_safe (h_ := h_) ..
  | mul => exact doMul_safe (h_ := h_) ..
  | mulhu => exact doMulhu_safe (h_ := h_) ..
  | mulhs => exact doMulhs_safe (h_ := h_) ..
  | divu => exact doDivu_safe (h_ := h_) ..
  | remu => exact doRemu_safe (h_ := h_) ..
  | slt => exact doSlt_safe (h_ := h_) ..
  | sltu => exact doSltu_safe (h_ := h_) ..
  | adda => exact doAdda_safe (h_ := h_) ..
  | dista => exact doDista_safe (h_ := h_) ..
  | addi => exact doAddi_safe (h_ := h_) ..
  | andi => exact doAndi_safe (h_ := h_) ..
  | ori => exact doOri_safe (h_ := h_) ..
  | xori => exact doXori_safe (h_ := h_) ..
  | shli => exact doShli_safe (h_ := h_) ..
  | shri => exact doShri_safe (h_ := h_) ..
  | sari => exact doSari_safe (h_ := h_) ..
  | lui => exact doLui_safe (h_ := h_) ..
  | ld => exact doLd_safe (h_ := h_) ..
  | ldh => exact doLdh_safe (h_ := h_) ..
  | ldb => exact doLdb_safe (h_ := h_) ..
  | st => exact doSt_safe (h_ := h_) ..
  | sth => exact doSth_safe (h_ := h_) ..
  | stb => exact doStb_safe (h_ := h_) ..
  | beq => exact doBeq_safe (h_ := h_) ..
  | bne => exact doBne_safe (h_ := h_) ..
  | blt => exact doBlt_safe (h_ := h_) ..
  | bge => exact doBge_safe (h_ := h_) ..
  | bltu => exact doBltu_safe (h_ := h_) ..
  | bgeu => exact doBgeu_safe (h_ := h_) ..
  | bf => exact doBf_safe (h_ := h_) ..
  | jmp => exact doJmp_safe (h_ := h_) ..
  | jal => exact doJal_safe (h_ := h_) ..
  | jr => exact doJr_safe (h_ := h_) ..
  | snap => exact doSnap_safe (h_ := h_) ..
  | rds => exact doRds_safe (h_ := h_) ..
  | waita => exact doWaita_safe (h_ := h_) ..
  | waitt => exact doWaitt_safe (h_ := h_) ..
  | waite => exact doWaite_safe (h_ := h_) ..
  | waittReached => exact doWaittReached_safe (h_ := h_) ..
  | waitTimeout => exact doWaitTimeout_safe (h_ := h_) ..
  | sched => exact doSched_safe (h_ := h_) ..
  | aim => exact doAim_safe (h_ := h_) ..
  | cancel => exact doCancel_safe (h_ := h_) ..
  | schedulerResult => exact doSchedulerResult_safe (h_ := h_) ..
  | note => exact doNote_safe (h_ := h_) ..
  | caprd => exact doCaprd_safe (h_ := h_) ..
  | mbxrd => exact doMbxrd_safe (h_ := h_) ..
  | mbxcp => exact doMbxcp_safe (h_ := h_) ..
  | dmago => exact doDmago_safe (h_ := h_) ..
  | signal => exact doSignal_safe (h_ := h_) ..
  | yield => exact doYield_safe (h_ := h_) ..
  | endTask => exact doEnd_safe (h_ := h_) ..
  | timeTrigger => exact doTimeTrigger_safe (h_ := h_) ..
  | budgetExhausted => exact doBudgetExhausted_safe (h_ := h_) ..
  | dmaBurst => exact doDmaBurst_safe (h_ := h_) ..
  | dmaTransferComplete => exact doDmaTransferComplete_safe (h_ := h_) ..
  | irqClaim => exact doIrqClaim_safe (h_ := h_) ..
  | irqComplete => exact doIrqComplete_safe (h_ := h_) ..
  | moderationHoldEnd => exact doModerationHoldEnd_safe (h_ := h_) ..
  | graceDeadline => exact doGraceDeadline_safe (h_ := h_) ..
  | faultAcknowledge => exact doFaultAcknowledge_safe (h_ := h_) ..
  | watchdogService => exact doWatchdogService_safe (h_ := h_) ..
  | watchdogTimeout => exact doWatchdogTimeout_safe (h_ := h_) ..
  | watchdogWarning => exact doWatchdogWarning_safe (h_ := h_) ..
  | handshakeStall => exact doHandshakeStall_safe (h_ := h_) ..
  | mgmtCoreStall => exact doMgmtCoreStall_safe (h_ := h_) ..
  | scrubAccess => exact doScrubAccess_safe (h_ := h_) ..
  | rulerCalibration => exact doRulerCalibration_safe (h_ := h_) ..
  | senseCalibration => exact doSenseCalibration_safe (h_ := h_) ..
  | senseStale => exact doSenseStale_safe (h_ := h_) ..
  | retentionRefreshStep => exact doRetentionRefreshStep_safe (h_ := h_) ..
  | telemetryBatch => exact doTelemetryBatch_safe (h_ := h_) ..
  | logbookFlush => exact doLogbookFlush_safe (h_ := h_) ..
  | counterFrame => exact doCounterFrame_safe (h_ := h_) ..
  | mirrorFrameSent => exact doMirrorFrameSent_safe (h_ := h_) ..
  | snapshotRead => exact doSnapshotRead_safe (h_ := h_) ..
  | lnsAngleRead => exact doLnsAngleRead_safe (h_ := h_) ..
  | registerWrite => exact doRegisterWrite_safe (h_ := h_) ..
  | standbyRequest => exact doStandbyRequest_safe (h_ := h_) ..
  | sleepRequest => exact doSleepRequest_safe (h_ := h_) ..
  | autoStandby => exact doAutoStandby_safe (h_ := h_) ..
  | autoSleep => exact doAutoSleep_safe (h_ := h_) ..
  | standbyWake => exact doStandbyWake_safe (h_ := h_) ..
  | sleepWake => exact doSleepWake_safe (h_ := h_) ..
  | lossReported => exact doLossReported_safe (h_ := h_) ..
  | holdupStoreCharged => exact doHoldupStoreCharged_safe (h_ := h_) ..
  | canBusOffRecovery => exact doCanBusOffRecovery_safe (h_ := h_) ..
  | entropyHealthRecovery => exact doEntropyHealthRecovery_safe (h_ := h_) ..
  | sensorSupplyRecovery => exact doSensorSupplyRecovery_safe (h_ := h_) ..
  | tripInputRelease => exact doTripInputRelease_safe (h_ := h_) ..
  | thermalDeratingChange => exact doThermalDeratingChange_safe (h_ := h_) ..
  | digitiserSample => exact doDigitiserSample_safe (h_ := h_) ..
  | offTestNotRun => exact doOffTestNotRun_safe (h_ := h_) ..
  | illegalInstruction => exact doIllegalInstruction_safe (h_ := h_) ..
  | sleepEntryComplete => exact doSleepEntryComplete_safe (h_ := h_) ..
  | resetStepComplete => exact doResetStepComplete_safe (h_ := h_) ..
  | canFrameTransmitted => exact doCanFrameTransmitted_safe (h_ := h_) ..
  | resetNPulse => cases h_l

end Sys2Proof.Machine
end

