-- ==== Sys2Proof/Laws/Sync.lean ====
section
/-! SUPPORT. The operations that keep the synchronisation state (R168). -/

set_option linter.all false

namespace Sys2Proof.Machine
theorem foldl_sync {c_ : Sync} {α : Type} (l : List α) (f : State → α → State) (s : State) (h : ∀ (s : State) a, s.whl.sync = c_ → (f s a).whl.sync = c_)
    (h_ : s.whl.sync = c_) : (l.foldl f s).whl.sync = c_ := by
  induction l generalizing s with
  | nil => exact h_
  | cons a r ih => exact ih _ (h _ _ h_)
theorem foldl1_sync {c_ : Sync} {α β : Type} (l : List α) (f : State × β → α → State × β) (s : State × β)
    (h : ∀ (s : State × β) a, s.1.whl.sync = c_ → (f s a).1.whl.sync = c_) (h_ : s.1.whl.sync = c_) : (l.foldl f s).1.whl.sync = c_ := by
  induction l generalizing s with
  | nil => exact h_
  | cons a r ih => exact ih _ (h _ _ h_)
theorem repeatN_sync {c_ : Sync} (f : State → State) (n : Nat) (s : State) (h : ∀ s : State, s.whl.sync = c_ → (f s).whl.sync = c_) (h_ : s.whl.sync = c_) :
    (repeatN f n s).whl.sync = c_ := by
  induction n generalizing s with
  | zero => exact h_
  | succ n ih => exact ih _ (h _ h_)
theorem or_sync {c_ : Sync} (a : Option Reply) (b : Unit → Option Reply) (h1 : ∀ r, a = some r → r.state.whl.sync = c_)
    (h2 : ∀ r, b () = some r → r.state.whl.sync = c_) (r : Reply) (h : a.orElse b = some r) : r.state.whl.sync = c_ := by
  cases a with
  | none => exact h2 r h
  | some x => exact h1 r h
theorem getD_sync {c_ : Sync} (a : Option State) (d : State) (h1 : ∀ x, a = some x → x.whl.sync = c_) (h2 : d.whl.sync = c_) : (a.getD d).whl.sync = c_ := by
  cases a with
  | none => exact h2
  | some x => exact h1 x rfl

theorem State_advance_sync {c_ : Sync} (t : Tick) (s : State) (h_ : s.whl.sync = c_) :
    (Sys2Proof.Machine.State.advance t s).whl.sync = c_ := by
  unfold State.advance
  repeat' (with_reducible first | assumption | rfl | dsimp only | split | intro)

theorem State_setChan_sync {c_ : Sync} (s : State) (k : Nat) (c : Chan) (h_ : s.whl.sync = c_) :
    (Sys2Proof.Machine.State.setChan s k c).whl.sync = c_ := by
  unfold State.setChan
  repeat' (with_reducible first | assumption | rfl | dsimp only | split | intro)

theorem State_setBank_sync {c_ : Sync} (s : State) (b : Nat) (c : BankSt) (h_ : s.whl.sync = c_) :
    (Sys2Proof.Machine.State.setBank s b c).whl.sync = c_ := by
  unfold State.setBank
  repeat' (with_reducible first | assumption | rfl | dsimp only | split | intro)

theorem State_setKettle_sync {c_ : Sync} (s : State) (k : Nat) (c : Kettle) (h_ : s.whl.sync = c_) :
    (Sys2Proof.Machine.State.setKettle s k c).whl.sync = c_ := by
  unfold State.setKettle
  repeat' (with_reducible first | assumption | rfl | dsimp only | split | intro)

theorem State_setDch_sync {c_ : Sync} (s : State) (k : Nat) (c : DiaCh) (h_ : s.whl.sync = c_) :
    (Sys2Proof.Machine.State.setDch s k c).whl.sync = c_ := by
  unfold State.setDch
  repeat' (with_reducible first | assumption | rfl | dsimp only | split | intro)

theorem State_setDgt_sync {c_ : Sync} (s : State) (b : Nat) (c : Digitiser) (h_ : s.whl.sync = c_) :
    (Sys2Proof.Machine.State.setDgt s b c).whl.sync = c_ := by
  unfold State.setDgt
  repeat' (with_reducible first | assumption | rfl | dsimp only | split | intro)

theorem State_setSlot_sync {c_ : Sync} (s : State) (i : Nat) (e : Event) (h_ : s.whl.sync = c_) :
    (Sys2Proof.Machine.State.setSlot s i e).whl.sync = c_ := by
  unfold State.setSlot
  repeat' (with_reducible first | assumption | rfl | dsimp only | split | intro)

theorem State_setSq_sync {c_ : Sync} (s : State) (q : Nat) (c : SeqSt) (h_ : s.whl.sync = c_) :
    (Sys2Proof.Machine.State.setSq s q c).whl.sync = c_ := by
  unfold State.setSq
  repeat' (with_reducible first | assumption | rfl | dsimp only | split | intro)

theorem State_setCtx_sync {c_ : Sync} (s : State) (i : Nat) (c : Ctx) (h_ : s.whl.sync = c_) :
    (Sys2Proof.Machine.State.setCtx s i c).whl.sync = c_ := by
  unfold State.setCtx
  repeat' (with_reducible first | assumption | rfl | dsimp only | split | intro)

theorem State_setDma_sync {c_ : Sync} (s : State) (c : Nat) (d : DmaCh) (h_ : s.whl.sync = c_) :
    (Sys2Proof.Machine.State.setDma s c d).whl.sync = c_ := by
  unfold State.setDma
  repeat' (with_reducible first | assumption | rfl | dsimp only | split | intro)

theorem State_setTimer_sync {c_ : Sync} (s : State) (n : Nat) (c : Timer) (h_ : s.whl.sync = c_) :
    (Sys2Proof.Machine.State.setTimer s n c).whl.sync = c_ := by
  unfold State.setTimer
  repeat' (with_reducible first | assumption | rfl | dsimp only | split | intro)

theorem State_setEb_sync {c_ : Sync} (s : State) (n : Nat) (c : Eb) (h_ : s.whl.sync = c_) :
    (Sys2Proof.Machine.State.setEb s n c).whl.sync = c_ := by
  unfold State.setEb
  repeat' (with_reducible first | assumption | rfl | dsimp only | split | intro)

theorem State_setKc_sync {c_ : Sync} (s : State) (k : Nat) (c : Kc) (h_ : s.whl.sync = c_) :
    (Sys2Proof.Machine.State.setKc s k c).whl.sync = c_ := by
  unfold State.setKc
  repeat' (with_reducible first | assumption | rfl | dsimp only | split | intro)

theorem State_setWheel_sync {c_ : Sync} (s : State) (n : Nat) (c : WheelIn) (h_ : s.whl.sync = c_) :
    (Sys2Proof.Machine.State.setWheel s n c).whl.sync = c_ := by
  unfold State.setWheel
  repeat' (with_reducible first | assumption | rfl | dsimp only | split | intro)

theorem State_setLink_sync {c_ : Sync} (s : State) (l : Link) (x : LinkSt) (h_ : s.whl.sync = c_) :
    (Sys2Proof.Machine.State.setLink s l x).whl.sync = c_ := by
  unfold State.setLink
  repeat' (with_reducible first | assumption | rfl | dsimp only | split | intro)

theorem State_memPatch_sync {c_ : Sync} (s : State) (a : Nat) (b : List Byte) (h_ : s.whl.sync = c_) :
    (Sys2Proof.Machine.State.memPatch s a b).whl.sync = c_ := by
  unfold State.memPatch
  repeat' (with_reducible first | assumption | rfl | dsimp only | split | intro)

theorem State_memWrite_sync {c_ : Sync} (s : State) (a : Nat) (b : List Byte) (h_ : s.whl.sync = c_) :
    (Sys2Proof.Machine.State.memWrite s a b).whl.sync = c_ := by
  unfold State.memWrite
  repeat' (with_reducible first | assumption | rfl | dsimp only | split | intro)

theorem State_memSetWord_sync {c_ : Sync} (s : State) (a : Nat) (w : Word) (h_ : s.whl.sync = c_) :
    (Sys2Proof.Machine.State.memSetWord s a w).whl.sync = c_ := by
  unfold State.memSetWord
  repeat' (with_reducible first | assumption | rfl | apply State_memWrite_sync | dsimp only | split | intro)

theorem wake_sync {c_ : Sync} (b : Nat) (s : State) (h_ : s.whl.sync = c_) :
    (wake b s).whl.sync = c_ := by
  unfold wake
  repeat' (with_reducible first | assumption | rfl | dsimp only | split | intro)

theorem raise_sync {c_ : Sync} (n : Nat) (s : State) (h_ : s.whl.sync = c_) :
    (raise n s).whl.sync = c_ := by
  unfold raise
  repeat' (with_reducible first | assumption | rfl | apply wake_sync | dsimp only | split | intro)

theorem raiseIf_sync {c_ : Sync} (c : Bool) (n : Nat) (s : State) (h_ : s.whl.sync = c_) :
    (raiseIf c n s).whl.sync = c_ := by
  unfold raiseIf
  repeat' (with_reducible first | assumption | rfl | apply raise_sync | dsimp only | split | intro)

theorem settle_sync {c_ : Sync} (s : State) (h_ : s.whl.sync = c_) :
    (settle s).whl.sync = c_ := by
  unfold settle
  repeat' (with_reducible first | assumption | rfl | dsimp only | split | intro)

theorem logPut_sync {c_ : Sync} (kind : Nat) (body : List Byte) (s : State) (h_ : s.whl.sync = c_) :
    (logPut kind body s).whl.sync = c_ := by
  unfold logPut
  repeat' (with_reducible first | assumption | rfl | dsimp only | split | intro)

theorem logAppend_sync {c_ : Sync} (kind : Nat) (body : List Byte) (s : State) (h_ : s.whl.sync = c_) :
    (logAppend kind body s).whl.sync = c_ := by
  unfold logAppend
  repeat' (with_reducible first | assumption | rfl | apply logPut_sync | dsimp only | split | intro)

theorem log_sync {c_ : Sync} (kind level : Nat) (body : List Byte) (s : State) (h_ : s.whl.sync = c_) :
    (log kind level body s).whl.sync = c_ := by
  unfold log
  repeat' (with_reducible first | assumption | rfl | apply logAppend_sync | dsimp only | split | intro)

theorem mirrorAt_sync {c_ : Sync} (ty : Nat) (body : List Byte) (etc : Tick) (s : State) (h_ : s.whl.sync = c_) :
    (mirrorAt ty body etc s).whl.sync = c_ := by
  unfold mirrorAt
  repeat' (with_reducible first | assumption | rfl | apply raiseIf_sync | dsimp only | split | intro)

theorem mirror_sync {c_ : Sync} (ty : Nat) (body : List Byte) (s : State) (h_ : s.whl.sync = c_) :
    (mirror ty body s).whl.sync = c_ := by
  unfold mirror
  repeat' (with_reducible first | assumption | rfl | apply mirrorAt_sync | dsimp only | split | intro)

theorem mirrorState_sync {c_ : Sync} (kind value : Nat) (s : State) (h_ : s.whl.sync = c_) :
    (mirrorState kind value s).whl.sync = c_ := by
  unfold mirrorState
  repeat' (with_reducible first | assumption | rfl | apply mirror_sync | dsimp only | split | intro)

theorem makeReady_sync {c_ : Sync} (i : Nat) (s : State) (h_ : s.whl.sync = c_) :
    (makeReady i s).whl.sync = c_ := by
  unfold makeReady
  repeat' (with_reducible first | assumption | rfl | apply State_setCtx_sync | dsimp only | split | intro)

theorem startActivation_sync {c_ : Sync} (trig i : Nat) (t : Task) (s : State) (h_ : s.whl.sync = c_) :
    (startActivation trig i t s).whl.sync = c_ := by
  unfold startActivation
  repeat' (with_reducible first | assumption | rfl | apply makeReady_sync | apply State_setCtx_sync | dsimp only | split | intro)

theorem activate_sync {c_ : Sync} (trig i : Nat) (s : State) (h_ : s.whl.sync = c_) :
    (activate trig i s).whl.sync = c_ := by
  unfold activate
  repeat' (with_reducible first | assumption | rfl | apply startActivation_sync | apply State_setCtx_sync | dsimp only | split | intro)

theorem wakeLatch_sync {c_ : Sync} (i : Nat) (s : State) (h_ : s.whl.sync = c_) :
    (wakeLatch i s).whl.sync = c_ := by
  unfold wakeLatch
  repeat' (with_reducible first | assumption | rfl | apply makeReady_sync | apply State_setCtx_sync | apply setReg_sync | dsimp only | split | intro)

theorem setLatch_sync {c_ : Sync} (b i : Nat) (s : State) (h_ : s.whl.sync = c_) :
    (setLatch b i s).whl.sync = c_ := by
  unfold setLatch
  repeat' (with_reducible first | assumption | rfl | apply State_setCtx_sync | apply activate_sync | apply wakeLatch_sync | dsimp only | split | intro)

theorem forEach_sync {c_ : Sync} (l : List Nat) (f : Nat → State → State) (s : State) (h_f : ∀ i (s : State), s.whl.sync = c_ → (f i s).whl.sync = c_)
    (h_ : s.whl.sync = c_) : (forEach l f s).whl.sync = c_ := foldl_sync _ _ _ (fun s i => h_f i s) h_

theorem latchSq_sync {c_ : Sync} (b q : Nat) (s : State) (h_ : s.whl.sync = c_) :
    (latchSq b q s).whl.sync = c_ := by
  unfold latchSq
  repeat' (with_reducible first | assumption | rfl | apply State_setSq_sync | apply forEach_sync | apply setLatch_sync | dsimp only | split | intro)

theorem latchAll_sync {c_ : Sync} (b : Nat) (s : State) (h_ : s.whl.sync = c_) :
    (latchAll b s).whl.sync = c_ := by
  unfold latchAll
  repeat' (with_reducible first | assumption | rfl | apply forEach_sync | apply setLatch_sync | dsimp only | split | intro)

theorem notice_sync {c_ : Sync} (owner : Nat) (w0 w1 : Word) (s : State) (h_ : s.whl.sync = c_) :
    (notice owner w0 w1 s).whl.sync = c_ := by
  unfold notice
  repeat' (with_reducible first | assumption | rfl | apply State_setSq_sync | apply latchSq_sync | dsimp only | split | intro)

theorem ebZero_sync {c_ : Sync} (n : Nat) (s : State) (h_ : s.whl.sync = c_) :
    (ebZero n s).whl.sync = c_ := by
  unfold ebZero
  repeat' (with_reducible first | assumption | rfl | apply raiseIf_sync | apply State_setEb_sync | dsimp only | split | intro)

theorem ebPer_sync {c_ : Sync} (n : Nat) (s : State) (h_ : s.whl.sync = c_) :
    (ebPer n s).whl.sync = c_ := by
  unfold ebPer
  repeat' (with_reducible first | assumption | rfl | apply raiseIf_sync | apply State_setEb_sync | dsimp only | split | intro)

theorem ebCmp_sync {c_ : Sync} (n : Nat) (s : State) (h_ : s.whl.sync = c_) :
    (ebCmp n s).whl.sync = c_ := by
  unfold ebCmp
  repeat' (with_reducible first | assumption | rfl | apply raiseIf_sync | apply State_setEb_sync | dsimp only | split | intro)

theorem ebTrip_sync {c_ : Sync} (n : Nat) (s : State) (h_ : s.whl.sync = c_) :
    (ebTrip n s).whl.sync = c_ := by
  unfold ebTrip
  repeat' (with_reducible first | assumption | rfl | apply raiseIf_sync | apply State_setEb_sync | dsimp only | split | intro)

theorem ebUnblank_sync {c_ : Sync} (n : Nat) (s : State) (h_ : s.whl.sync = c_) :
    (ebUnblank n s).whl.sync = c_ := by
  unfold ebUnblank
  repeat' (with_reducible first | assumption | rfl | apply State_setEb_sync | apply ebTrip_sync | dsimp only | split | intro)

theorem ebPhase_sync {c_ : Sync} (toHigh : Bool) (x : Tick) (len : Nat) (n : Nat) (s : State) (h_ : s.whl.sync = c_) :
    (ebPhase toHigh x len n s).whl.sync = c_ := by
  unfold ebPhase
  repeat' (with_reducible first | assumption | rfl | apply State_setEb_sync | apply raiseIf_sync | apply ebUnblank_sync | dsimp only | split | intro)

theorem ebZeroPhase_sync {c_ : Sync} (x : Tick) (n : Nat) (s : State) (h_ : s.whl.sync = c_) :
    (ebZeroPhase x n s).whl.sync = c_ := by
  unfold ebZeroPhase
  repeat' (with_reducible first | assumption | rfl | apply ebPhase_sync | apply State_setEb_sync | dsimp only | split | intro)

theorem ebBoundary_sync {c_ : Sync} (x : Tick) (n : Nat) (s : State) (h_ : s.whl.sync = c_) :
    (ebBoundary x n s).whl.sync = c_ := by
  unfold ebBoundary
  repeat' (with_reducible first | assumption | rfl | apply State_setEb_sync | apply ebZero_sync | apply ebPer_sync | apply ebZeroPhase_sync | dsimp only | split | intro)

theorem ebShadow_sync {c_ : Sync} (f : EbVals → EbVals) (n : Nat) (s : State) (h_ : s.whl.sync = c_) :
    (ebShadow f n s).whl.sync = c_ := by
  unfold ebShadow
  repeat' (with_reducible first | assumption | rfl | apply State_setEb_sync | dsimp only | split | intro)

theorem doEbPeriodBoundary_sync {c_ : Sync} (n : Nat) (bootLow : Bool) (s : State) (h_ : s.whl.sync = c_) :
    (doEbPeriodBoundary n bootLow s).whl.sync = c_ := by
  unfold doEbPeriodBoundary
  repeat' (with_reducible first | assumption | rfl | apply ebBoundary_sync | apply State_setEb_sync | dsimp only | split | intro)

theorem doEbPerEvent_sync {c_ : Sync} (n : Nat) (s : State) (h_ : s.whl.sync = c_) :
    (doEbPerEvent n s).whl.sync = c_ := by
  unfold doEbPerEvent
  repeat' (with_reducible first | assumption | rfl | apply ebPer_sync | apply State_setEb_sync | dsimp only | split | intro)

theorem doEbPhaseEdge_sync {c_ : Sync} (n : Nat) (bootLow : Bool) (s : State) (h_ : s.whl.sync = c_) :
    (doEbPhaseEdge n bootLow s).whl.sync = c_ := by
  unfold doEbPhaseEdge
  repeat' (with_reducible first | assumption | rfl | apply ebCmp_sync | apply ebPhase_sync | apply State_setEb_sync | dsimp only | split | intro)

theorem doEbDeadTimeEnd_sync {c_ : Sync} (n : Nat) (swung : Bool) (s : State) (h_ : s.whl.sync = c_) :
    (doEbDeadTimeEnd n swung s).whl.sync = c_ := by
  unfold doEbDeadTimeEnd
  repeat' (with_reducible first | assumption | rfl | apply State_setEb_sync | dsimp only | split | intro)

theorem setTrip_sync {c_ : Sync} (i : Nat) (active : Bool) (s : State) (h_ : s.whl.sync = c_) :
    (setTrip i active s).whl.sync = c_ := by
  unfold setTrip
  repeat' (with_reducible first | assumption | rfl | dsimp only | split | intro)

theorem ebTripDecide_sync {c_ : Sync} (n : Nat) (s : State) (h_ : s.whl.sync = c_) :
    (ebTripDecide n s).whl.sync = c_ := by
  unfold ebTripDecide
  repeat' (with_reducible first | assumption | rfl | apply State_setEb_sync | apply ebTrip_sync | dsimp only | split | intro)

theorem doTripAccept_sync {c_ : Sync} (n i held : Nat) (s : State) (h_ : s.whl.sync = c_) :
    (doTripAccept n i held s).whl.sync = c_ := by
  unfold doTripAccept
  repeat' (with_reducible first | assumption | rfl | apply setTrip_sync | apply State_setEb_sync | apply ebTripDecide_sync | dsimp only | split | intro)

theorem ebSetMask_sync {c_ : Sync} (mask : BitVec 4) (n : Nat) (s : State) (h_ : s.whl.sync = c_) :
    (ebSetMask mask n s).whl.sync = c_ := by
  unfold ebSetMask
  repeat' (with_reducible first | assumption | rfl | apply State_setEb_sync | apply ebTripDecide_sync | dsimp only | split | intro)

theorem doBlankingEnd_sync {c_ : Sync} (n : Nat) (s : State) (h_ : s.whl.sync = c_) :
    (doBlankingEnd n s).whl.sync = c_ := by
  unfold doBlankingEnd
  repeat' (with_reducible first | assumption | rfl | apply State_setEb_sync | apply ebTrip_sync | dsimp only | split | intro)

theorem ebRelease_sync {c_ : Sync} (i n : Nat) (s : State) (h_ : s.whl.sync = c_) :
    (ebRelease i n s).whl.sync = c_ := by
  unfold ebRelease
  repeat' (with_reducible first | assumption | rfl | apply State_setEb_sync | dsimp only | split | intro)

theorem doTripInputRelease_sync {c_ : Sync} (i : Nat) (s : State) (h_ : s.whl.sync = c_) :
    (doTripInputRelease i s).whl.sync = c_ := by
  unfold doTripInputRelease
  repeat' (with_reducible first | assumption | rfl | apply forEach_sync | apply ebRelease_sync | apply setTrip_sync | dsimp only | split | intro)

theorem tripsApplied_sync {c_ : Sync} (s : State) (h_ : s.whl.sync = c_) :
    (tripsApplied s).whl.sync = c_ := by
  unfold tripsApplied
  repeat' (with_reducible first | assumption | rfl | apply forEach_sync | apply ebRelease_sync | dsimp only | split | intro)

theorem doEbEnable_sync {c_ : Sync} (n : Nat) (s : State) (h_ : s.whl.sync = c_) :
    (doEbEnable n s).whl.sync = c_ := by
  unfold doEbEnable
  repeat' (with_reducible first | assumption | rfl | apply ebPhase_sync | apply State_setEb_sync | apply ebTrip_sync | dsimp only | split | intro)

theorem doEbDisable_sync {c_ : Sync} (n : Nat) (s : State) (h_ : s.whl.sync = c_) :
    (doEbDisable n s).whl.sync = c_ := by
  unfold doEbDisable
  repeat' (with_reducible first | assumption | rfl | apply State_setEb_sync | dsimp only | split | intro)

theorem ebAllOff_sync {c_ : Sync} (s : State) (h_ : s.whl.sync = c_) :
    (ebAllOff s).whl.sync = c_ := by
  unfold ebAllOff
  repeat' (with_reducible first | assumption | rfl | apply forEach_sync | apply doEbDisable_sync | dsimp only | split | intro)

theorem doEbLoadArm_sync {c_ : Sync} (n : Nat) (s : State) (h_ : s.whl.sync = c_) :
    (doEbLoadArm n s).whl.sync = c_ := by
  unfold doEbLoadArm
  repeat' (with_reducible first | assumption | rfl | apply State_setEb_sync | dsimp only | split | intro)

theorem doPwmGlbLoad_sync {c_ : Sync} (mask : Nat) (s : State) (h_ : s.whl.sync = c_) :
    (doPwmGlbLoad mask s).whl.sync = c_ := by
  unfold doPwmGlbLoad
  repeat' (with_reducible first | assumption | rfl | apply forEach_sync | apply doEbLoadArm_sync | dsimp only | split | intro)

theorem doPwmGlbStart_sync {c_ : Sync} (mask : Nat) (s : State) (h_ : s.whl.sync = c_) :
    (doPwmGlbStart mask s).whl.sync = c_ := by
  unfold doPwmGlbStart
  repeat' (with_reducible first | assumption | rfl | apply forEach_sync | apply doEbEnable_sync | dsimp only | split | intro)

theorem bootstrapFree_sync {c_ : Sync} (n : Nat) (s : State) (h_ : s.whl.sync = c_) :
    (bootstrapFree n s).whl.sync = c_ := by
  unfold bootstrapFree
  repeat' (with_reducible first | assumption | rfl | apply State_setEb_sync | dsimp only | split | intro)

theorem ebRecross_sync {c_ : Sync} (n : Nat) (s : State) (h_ : s.whl.sync = c_) :
    (ebRecross n s).whl.sync = c_ := by
  unfold ebRecross
  repeat' (with_reducible first | assumption | rfl | apply ebPhase_sync | apply bootstrapFree_sync | dsimp only | split | intro)

theorem ebImmPer_sync {c_ : Sync} (v n : Nat) (s : State) (h_ : s.whl.sync = c_) :
    (ebImmPer v n s).whl.sync = c_ := by
  unfold ebImmPer
  repeat' (with_reducible first | assumption | rfl | apply State_setEb_sync | apply ebBoundary_sync | apply bootstrapFree_sync | apply ebRecross_sync | apply ebPer_sync | dsimp only | split | intro)

theorem ebImmCmp_sync {c_ : Sync} (v n : Nat) (s : State) (h_ : s.whl.sync = c_) :
    (ebImmCmp v n s).whl.sync = c_ := by
  unfold ebImmCmp
  repeat' (with_reducible first | assumption | rfl | apply ebRecross_sync | apply State_setEb_sync | dsimp only | split | intro)

theorem doEbWrite_sync {c_ : Sync} (n : Nat) (which : EbValue) (value : Word) (s : State) (h_ : s.whl.sync = c_) :
    (doEbWrite n which value s).whl.sync = c_ := by
  unfold doEbWrite
  repeat' (with_reducible first | assumption | rfl | apply ebImmPer_sync | apply ebShadow_sync | apply ebImmCmp_sync | dsimp only | split | intro)

theorem doEbTripClear_sync {c_ : Sync} (n : Nat) (s : State) (h_ : s.whl.sync = c_) :
    (doEbTripClear n s).whl.sync = c_ := by
  unfold doEbTripClear
  repeat' (with_reducible first | assumption | rfl | apply State_setEb_sync | dsimp only | split | intro)

theorem kcStop_sync {c_ : Sync} (k : Nat) (s : State) (h_ : s.whl.sync = c_) :
    (kcStop k s).whl.sync = c_ := by
  unfold kcStop
  repeat' (with_reducible first | assumption | rfl | apply State_setKc_sync | dsimp only | split | intro)

theorem kcZero_sync {c_ : Sync} (k : Nat) (s : State) (h_ : s.whl.sync = c_) :
    (kcZero k s).whl.sync = c_ := by
  unfold kcZero
  repeat' (with_reducible first | assumption | rfl | apply raiseIf_sync | apply State_setKc_sync | dsimp only | split | intro)

theorem kcPer_sync {c_ : Sync} (k : Nat) (s : State) (h_ : s.whl.sync = c_) :
    (kcPer k s).whl.sync = c_ := by
  unfold kcPer
  repeat' (with_reducible first | assumption | rfl | apply raiseIf_sync | apply State_setKc_sync | dsimp only | split | intro)

theorem kcCmp_sync {c_ : Sync} (k : Nat) (s : State) (h_ : s.whl.sync = c_) :
    (kcCmp k s).whl.sync = c_ := by
  unfold kcCmp
  repeat' (with_reducible first | assumption | rfl | apply raiseIf_sync | apply State_setKc_sync | dsimp only | split | intro)

theorem kcReached_sync {c_ : Sync} (k : Nat) (s : State) (h_ : s.whl.sync = c_) :
    (kcReached k s).whl.sync = c_ := by
  unfold kcReached
  repeat' (with_reducible first | assumption | rfl | apply kcCmp_sync | dsimp only | split | intro)

theorem kcNow_sync {c_ : Sync} (s : State) (h_ : s.whl.sync = c_) :
    (kcNow s).whl.sync = c_ := by
  unfold kcNow
  repeat' (with_reducible first | assumption | rfl | apply forEach_sync | apply kcReached_sync | dsimp only | split | intro)

theorem doKcPeriodBoundary_sync {c_ : Sync} (k per cmp : Nat) (s : State) (h_ : s.whl.sync = c_) :
    (doKcPeriodBoundary k per cmp s).whl.sync = c_ := by
  unfold doKcPeriodBoundary
  repeat' (with_reducible first | assumption | rfl | apply kcStop_sync | apply kcPer_sync | apply kcZero_sync | apply State_setKc_sync | dsimp only | split | intro)

theorem doKcTrigger_sync {c_ : Sync} (k j : Nat) (code : BitVec 12) (s : State) (h_ : s.whl.sync = c_) :
    (doKcTrigger k j code s).whl.sync = c_ := by
  unfold doKcTrigger
  repeat' (with_reducible first | assumption | rfl | apply State_setKc_sync | apply State_setDgt_sync | apply raiseIf_sync | dsimp only | split | intro)

theorem timFollow_sync {c_ : Sync} (rec : TimOp → Nat → Tick → State → State) (op : TimOp) (n : Nat) (x : Tick) (m : Nat) (s : State)
    (h_r : ∀ o n x (s : State), s.whl.sync = c_ → (rec o n x s).whl.sync = c_) (h_ : s.whl.sync = c_) : (timFollow rec op n x m s).whl.sync = c_ := by
  unfold timFollow
  repeat' (with_reducible first | assumption | rfl | apply State_setTimer_sync | apply h_r | dsimp only | split | intro)
theorem timAct_sync {c_ : Sync} (k : Nat) (op : TimOp) (n : Nat) (x : Tick) (s : State) (h_ : s.whl.sync = c_) : (timAct k op n x s).whl.sync = c_ := by
  induction k generalizing op n x s with
  | zero => cases op <;> exact h_
  | succ k ih =>
    cases op <;> simp only [timAct]
    all_goals
      refine foldl_sync _ _ _ (fun s a h => timFollow_sync _ _ _ _ _ _ ih h) ?_
      repeat' (with_reducible first | assumption | apply ih | apply State_setTimer_sync | apply raiseIf_sync | apply wake_sync | dsimp only | split)

theorem timBefore_sync {c_ : Sync} (n : Nat) (x : Tick) (s : State) (h_ : s.whl.sync = c_) :
    (timBefore n x s).whl.sync = c_ := by
  unfold timBefore
  repeat' (with_reducible first | assumption | rfl | apply timAct_sync | dsimp only | split | intro)

theorem doTimerStart_sync {c_ : Sync} (n : Nat) (s : State) (h_ : s.whl.sync = c_) :
    (doTimerStart n s).whl.sync = c_ := by
  unfold doTimerStart
  repeat' (with_reducible first | assumption | rfl | apply timBefore_sync | apply State_setTimer_sync | apply timAct_sync | dsimp only | split | intro)

theorem doTimerStop_sync {c_ : Sync} (n : Nat) (s : State) (h_ : s.whl.sync = c_) :
    (doTimerStop n s).whl.sync = c_ := by
  unfold doTimerStop
  repeat' (with_reducible first | assumption | rfl | apply timBefore_sync | apply State_setTimer_sync | dsimp only | split | intro)

theorem doTimerTargetWrite_sync {c_ : Sync} (n : Nat) (target : Word) (s : State) (h_ : s.whl.sync = c_) :
    (doTimerTargetWrite n target s).whl.sync = c_ := by
  unfold doTimerTargetWrite
  repeat' (with_reducible first | assumption | rfl | apply timBefore_sync | apply State_setTimer_sync | apply timAct_sync | dsimp only | split | intro)

theorem doTimGlbStart_sync {c_ : Sync} (mask : Nat) (s : State) (h_ : s.whl.sync = c_) :
    (doTimGlbStart mask s).whl.sync = c_ := by
  unfold doTimGlbStart
  repeat' (with_reducible first | assumption | rfl | apply forEach_sync | apply doTimerStart_sync | dsimp only | split | intro)

theorem doTimerExpiry_sync {c_ : Sync} (n : Nat) (s : State) (h_ : s.whl.sync = c_) :
    (doTimerExpiry n s).whl.sync = c_ := by
  unfold doTimerExpiry
  repeat' (with_reducible first | assumption | rfl | apply timAct_sync | dsimp only | split | intro)

theorem captureAt_sync {c_ : Sync} (alive : Bool) (n : Nat) (stamp : Tick) (s : State) (h_ : s.whl.sync = c_) :
    (captureAt alive n stamp s).whl.sync = c_ := by
  unfold captureAt
  repeat' (with_reducible first | assumption | rfl | apply State_setTimer_sync | apply raiseIf_sync | dsimp only | split | intro)

theorem doCaptureEdge_sync {c_ : Sync} (n : Nat) (stamp : Tick) (rising : Bool) (s : State) (h_ : s.whl.sync = c_) :
    (doCaptureEdge n stamp rising s).whl.sync = c_ := by
  unfold doCaptureEdge
  repeat' (with_reducible first | assumption | rfl | apply State_setTimer_sync | apply captureAt_sync | apply timAct_sync | dsimp only | split | intro)

theorem ktEnter_sync {c_ : Sync} (k : Nat) (st : KtState) (s : State) (h_ : s.whl.sync = c_) :
    (ktEnter k st s).whl.sync = c_ := by
  unfold ktEnter
  repeat' (with_reducible first | assumption | rfl | apply State_setKettle_sync | apply fault_sync | apply kcStop_sync | apply raise_sync | dsimp only | split | intro)

theorem ktUpdate_sync {c_ : Sync} (k : Nat) (s : State) (h_ : s.whl.sync = c_) :
    (ktUpdate k s).whl.sync = c_ := by
  unfold ktUpdate
  repeat' (with_reducible first | assumption | rfl | apply ktEnter_sync | dsimp only | split | intro)

theorem ktLimit_sync {c_ : Sync} (k : Nat) (s : State) (h_ : s.whl.sync = c_) :
    (ktLimit k s).whl.sync = c_ := by
  unfold ktLimit
  repeat' (with_reducible first | assumption | rfl | apply State_setKettle_sync | apply kcStop_sync | dsimp only | split | intro)

theorem markFall_sync {c_ : Sync} (k : Nat) (s : State) (h_ : s.whl.sync = c_) :
    (markFall k s).whl.sync = c_ := by
  unfold markFall
  repeat' (with_reducible first | assumption | rfl | apply State_setKettle_sync | dsimp only | split | intro)

theorem fallEnds_sync {c_ : Sync} (k : Nat) (s : State) (h_ : s.whl.sync = c_) :
    (fallEnds k s).whl.sync = c_ := by
  unfold fallEnds
  repeat' (with_reducible first | assumption | rfl | apply State_setKettle_sync | dsimp only | split | intro)

theorem ktLimits_sync {c_ : Sync} (s : State) (h_ : s.whl.sync = c_) :
    (ktLimits s).whl.sync = c_ := by
  unfold ktLimits
  repeat' (with_reducible first | assumption | rfl | apply forEach_sync | apply ktLimit_sync | dsimp only | split | intro)

theorem ktTargetNow_sync {c_ : Sync} (k : Nat) (s : State) (h_ : s.whl.sync = c_) :
    (ktTargetNow k s).whl.sync = c_ := by
  unfold ktTargetNow
  repeat' (with_reducible first | assumption | rfl | apply ktUpdate_sync | apply State_setKettle_sync | dsimp only | split | intro)

theorem ktPassed_sync {c_ : Sync} (k i : Nat) (s : State) (h_ : s.whl.sync = c_) :
    (ktPassed k i s).whl.sync = c_ := by
  unfold ktPassed
  repeat' (with_reducible first | assumption | rfl | apply ktTargetNow_sync | apply State_setKettle_sync | dsimp only | split | intro)

theorem ktRelease_sync {c_ : Sync} (k amount : Nat) (s : State) (h_ : s.whl.sync = c_) :
    (ktRelease k amount s).whl.sync = c_ := by
  unfold ktRelease
  repeat' (with_reducible first | assumption | rfl | apply State_setKettle_sync | dsimp only | split | intro)

theorem digitiserBusy_sync {c_ : Sync} (k : Nat) (s : State) (h_ : s.whl.sync = c_) :
    (digitiserBusy k s).whl.sync = c_ := by
  unfold digitiserBusy
  repeat' (with_reducible first | assumption | rfl | apply State_setDch_sync | apply State_setDgt_sync | dsimp only | split | intro)

theorem takeCapture_sync {c_ : Sync} (k : Nat) (off : Tick) (c : Capture) (s : State) (h_ : s.whl.sync = c_) :
    (takeCapture k off c s).whl.sync = c_ := by
  unfold takeCapture
  repeat' (with_reducible first | assumption | rfl | apply State_setDgt_sync | dsimp only | split | intro)

theorem beginCapture_sync {c_ : Sync} (k : Nat) (off : Tick) (s : State) (h_ : s.whl.sync = c_) :
    (beginCapture k off s).whl.sync = c_ := by
  unfold beginCapture
  repeat' (with_reducible first | assumption | rfl | apply digitiserBusy_sync | apply takeCapture_sync | apply State_setDgt_sync | dsimp only | split | intro)

theorem peakOver_sync {c_ : Sync} (k energyUj : Nat) (s : State) (h_ : s.whl.sync = c_) :
    (peakOver k energyUj s).whl.sync = c_ := by
  unfold peakOver
  repeat' (with_reducible first | assumption | rfl | apply ktRelease_sync | apply State_setChan_sync | apply ktPassed_sync | dsimp only | split | intro)

theorem bankEdge_sync {c_ : Sync} (b : Nat) (x : Tick) (s : State) (h_ : s.whl.sync = c_) :
    (bankEdge b x s).whl.sync = c_ := by
  unfold bankEdge
  repeat' (with_reducible first | assumption | rfl | apply State_setBank_sync | dsimp only | split | intro)

theorem turnOff_sync {c_ : Sync} (k : Nat) (off : Tick) (lastEnd energyUj : Nat) (s : State) (h_ : s.whl.sync = c_) :
    (turnOff k off lastEnd energyUj s).whl.sync = c_ := by
  unfold turnOff
  repeat' (with_reducible first | assumption | rfl | apply peakOver_sync | apply State_setChan_sync | apply beginCapture_sync | apply bankEdge_sync | dsimp only | split | intro)

theorem endAt_sync {c_ : Sync} (cause : Nat) (off : Tick) (k : Nat) (s : State) (h_ : s.whl.sync = c_) :
    (endAt cause off k s).whl.sync = c_ := by
  unfold endAt
  repeat' (with_reducible first | assumption | rfl | apply turnOff_sync | apply raise_sync | apply State_setChan_sync | dsimp only | split | intro)

theorem endEarly_sync {c_ : Sync} (cause k : Nat) (s : State) (h_ : s.whl.sync = c_) :
    (endEarly cause k s).whl.sync = c_ := by
  unfold endEarly
  repeat' (with_reducible first | assumption | rfl | apply endAt_sync | dsimp only | split | intro)

theorem endAll_sync {c_ : Sync} (cause : Nat) (s : State) (h_ : s.whl.sync = c_) :
    (endAll cause s).whl.sync = c_ := by
  unfold endAll
  repeat' (with_reducible first | assumption | rfl | apply forEach_sync | apply endEarly_sync | dsimp only | split | intro)

theorem endBank_sync {c_ : Sync} (cause b : Nat) (s : State) (h_ : s.whl.sync = c_) :
    (endBank cause b s).whl.sync = c_ := by
  unfold endBank
  repeat' (with_reducible first | assumption | rfl | apply forEach_sync | apply endEarly_sync | dsimp only | split | intro)

theorem stopTests_sync {c_ : Sync} (p : Nat → Bool) (s : State) (h_ : s.whl.sync = c_) :
    (stopTests p s).whl.sync = c_ := by
  unfold stopTests
  repeat' (with_reducible first | assumption | rfl | apply forEach_sync | apply State_setDch_sync | dsimp only | split | intro)

theorem recordDrop_sync {c_ : Sync} (i : Nat) (e : Event) (ch reason detail : Nat) (s : State) (h_ : s.whl.sync = c_) :
    (recordDrop i e ch reason detail s).whl.sync = c_ := by
  unfold recordDrop
  repeat' (with_reducible first | assumption | rfl | apply State_memWrite_sync | apply raiseIf_sync | apply raise_sync | apply State_setBank_sync | apply mirror_sync | dsimp only | split | intro)

theorem freeSlot_sync {c_ : Sync} (i : Nat) (s : State) (h_ : s.whl.sync = c_) :
    (freeSlot i s).whl.sync = c_ := by
  unfold freeSlot
  repeat' (with_reducible first | assumption | rfl | apply State_setSlot_sync | apply ktPassed_sync | apply ktRelease_sync | dsimp only | split | intro)

theorem dropEvent_sync {c_ : Sync} (reason detail i : Nat) (s : State) (h_ : s.whl.sync = c_) :
    (dropEvent reason detail i s).whl.sync = c_ := by
  unfold dropEvent
  repeat' (with_reducible first | assumption | rfl | apply notice_sync | apply freeSlot_sync | apply recordDrop_sync | dsimp only | split | intro)

theorem withdraw_sync {c_ : Sync} (reason i : Nat) (s : State) (h_ : s.whl.sync = c_) :
    (withdraw reason i s).whl.sync = c_ := by
  unfold withdraw
  repeat' (with_reducible first | assumption | rfl | apply dropEvent_sync | dsimp only | split | intro)

theorem withdrawAll_sync {c_ : Sync} (reason : Nat) (s : State) (h_ : s.whl.sync = c_) :
    (withdrawAll reason s).whl.sync = c_ := by
  unfold withdrawAll
  repeat' (with_reducible first | assumption | rfl | apply forEach_sync | apply dropEvent_sync | dsimp only | split | intro)

theorem dropPending_sync {c_ : Sync} (reason : Nat) (s : State) (h_ : s.whl.sync = c_) :
    (dropPending reason s).whl.sync = c_ := by
  unfold dropPending
  repeat' (with_reducible first | assumption | rfl | apply forEach_sync | apply withdraw_sync | apply dropEvent_sync | dsimp only | split | intro)

theorem safeEntry_sync {c_ : Sync} (src : Nat) (byGrace : Bool) (s : State) (h_ : s.whl.sync = c_) :
    (safeEntry src byGrace s).whl.sync = c_ := by
  unfold safeEntry
  repeat' (with_reducible first | assumption | rfl | apply forEach_sync | apply dropEvent_sync | apply endAll_sync | apply ktUpdate_sync | apply ebAllOff_sync | apply stopTests_sync | apply raise_sync | apply mirrorState_sync | apply log_sync | dsimp only | split | intro)

theorem faultRecord_sync {c_ : Sync} (n c : Nat) (s : State) (h_ : s.whl.sync = c_) :
    (faultRecord n c s).whl.sync = c_ := by
  unfold faultRecord
  repeat' (with_reducible first | assumption | rfl | dsimp only | split | intro)

theorem graceReaction_sync {c_ : Sync} (n : Nat) (s : State) (h_ : s.whl.sync = c_) :
    (graceReaction n s).whl.sync = c_ := by
  unfold graceReaction
  repeat' (with_reducible first | assumption | rfl | apply raise_sync | dsimp only | split | intro)

theorem reaction_sync {c_ : Sync} (n c : Nat) (s : State) (h_ : s.whl.sync = c_) :
    (reaction n c s).whl.sync = c_ := by
  unfold reaction
  repeat' (with_reducible first | assumption | rfl | apply graceReaction_sync | apply safeEntry_sync | dsimp only | split | intro)

theorem fault_sync {c_ : Sync} (n : Nat) (s : State) (h_ : s.whl.sync = c_) :
    (fault n s).whl.sync = c_ := by
  unfold fault
  repeat' (with_reducible first | assumption | rfl | apply raise_sync | apply faultRecord_sync | apply mirror_sync | apply reaction_sync | apply wake_sync | apply log_sync | dsimp only | split | intro)

theorem faultOnset_sync {c_ : Sync} (n : Nat) (s : State) (h_ : s.whl.sync = c_) :
    (faultOnset n s).whl.sync = c_ := by
  unfold faultOnset
  repeat' (with_reducible first | assumption | rfl | apply fault_sync | dsimp only | split | intro)

theorem faultEnd_sync {c_ : Sync} (n : Nat) (s : State) (h_ : s.whl.sync = c_) :
    (faultEnd n s).whl.sync = c_ := by
  unfold faultEnd
  repeat' (with_reducible first | assumption | rfl | dsimp only | split | intro)

theorem calReport_sync {c_ : Sync} (c : Bool) (item source : Nat) (s : State) (h_ : s.whl.sync = c_) :
    (calReport c item source s).whl.sync = c_ := by
  unfold calReport
  repeat' (with_reducible first | assumption | rfl | apply raise_sync | apply log_sync | dsimp only | split | intro)

theorem ktFault_sync {c_ : Sync} (k : Nat) (s : State) (h_ : s.whl.sync = c_) :
    (ktFault k s).whl.sync = c_ := by
  unfold ktFault
  repeat' (with_reducible first | assumption | rfl | apply fault_sync | apply ktUpdate_sync | apply State_setKettle_sync | dsimp only | split | intro)

theorem acknowledge_sync {c_ : Sync} (w : Nat) (mask : Word) (s : State) (h_ : s.whl.sync = c_) :
    (acknowledge w mask s).whl.sync = c_ := by
  unfold acknowledge
  repeat' (with_reducible first | assumption | rfl | apply raise_sync | dsimp only | split | intro)

theorem graceDue_sync {c_ : Sync} (s : State) (h_ : s.whl.sync = c_) :
    (graceDue s).whl.sync = c_ := by
  unfold graceDue
  repeat' (with_reducible first | assumption | rfl | apply safeEntry_sync | dsimp only | split | intro)

theorem setSpeed_sync {c_ : Sync} (v : Nat) (s : State) (h_ : s.whl.sync = c_) :
    (setSpeed v s).whl.sync = c_ := by
  unfold setSpeed
  repeat' (with_reducible first | assumption | rfl | apply raiseIf_sync | dsimp only | split | intro)

theorem speedNow_sync {c_ : Sync} (s : State) (h_ : s.whl.sync = c_) :
    (speedNow s).whl.sync = c_ := by
  unfold speedNow
  repeat' (with_reducible first | assumption | rfl | apply setSpeed_sync | dsimp only | split | intro)

theorem doSpeedRecompute_sync {c_ : Sync} (s : State) (h_ : s.whl.sync = c_) :
    (doSpeedRecompute s).whl.sync = c_ := by
  unfold doSpeedRecompute
  repeat' (with_reducible first | assumption | rfl | apply speedNow_sync | dsimp only | split | intro)

theorem endWaita_sync {c_ : Sync} (code i : Nat) (s : State) (h_ : s.whl.sync = c_) :
    (endWaita code i s).whl.sync = c_ := by
  unfold endWaita
  repeat' (with_reducible first | assumption | rfl | apply makeReady_sync | apply State_setCtx_sync | apply setReg_sync | dsimp only | split | intro)

theorem endWaitas_sync {c_ : Sync} (code : Nat) (s : State) (h_ : s.whl.sync = c_) :
    (endWaitas code s).whl.sync = c_ := by
  unfold endWaitas
  repeat' (with_reducible first | assumption | rfl | apply forEach_sync | apply endWaita_sync | dsimp only | split | intro)

theorem passContext_sync {c_ : Sync} (swept : Bool) (len lo hi i : Nat) (s : State) (h_ : s.whl.sync = c_) :
    (passContext swept len lo hi i s).whl.sync = c_ := by
  unfold passContext
  repeat' (with_reducible first | assumption | rfl | apply endWaita_sync | apply repeatN_sync | apply activate_sync | dsimp only | split | intro)

theorem passRange_sync {c_ : Sync} (swept : Bool) (lo hi : Nat) (s : State) (h_ : s.whl.sync = c_) :
    (passRange swept lo hi s).whl.sync = c_ := by
  unfold passRange
  repeat' (with_reducible first | assumption | rfl | apply forEach_sync | apply passContext_sync | dsimp only | split | intro)

theorem passTo_sync {c_ : Sync} (x : Tick) (s : State) (h_ : s.whl.sync = c_) :
    (passTo x s).whl.sync = c_ := by
  unfold passTo
  repeat' (with_reducible first | assumption | rfl | apply passRange_sync | dsimp only | split | intro)

theorem watchHere_sync {c_ : Sync} (s : State) (h_ : s.whl.sync = c_) :
    (watchHere s).whl.sync = c_ := by
  unfold watchHere
  repeat' (with_reducible first | assumption | rfl | dsimp only | split | intro)

theorem doAnglePassed_sync {c_ : Sync} (angle : Word) (s : State) (h_ : s.whl.sync = c_) :
    (doAnglePassed angle s).whl.sync = c_ := by
  unfold doAnglePassed
  repeat' (with_reducible first | assumption | rfl | apply passRange_sync | dsimp only | split | intro)

theorem joinNear_sync {c_ : Sync} (i : Nat) (s : State) (h_ : s.whl.sync = c_) :
    (joinNear i s).whl.sync = c_ := by
  unfold joinNear
  repeat' (with_reducible first | assumption | rfl | apply State_setSlot_sync | dsimp only | split | intro)

theorem nearFill_sync {c_ : Sync} (s : State) (h_ : s.whl.sync = c_) :
    (nearFill s).whl.sync = c_ := by
  unfold nearFill
  repeat' (with_reducible first | assumption | rfl | apply forEach_sync | apply joinNear_sync | dsimp only | split | intro)

theorem dropPassedWaiting_sync {c_ : Sync} (s : State) (h_ : s.whl.sync = c_) :
    (dropPassedWaiting s).whl.sync = c_ := by
  unfold dropPassedWaiting
  repeat' (with_reducible first | assumption | rfl | apply forEach_sync | apply dropEvent_sync | dsimp only | split | intro)

theorem nearOverflow_sync {c_ : Sync} (s : State) (h_ : s.whl.sync = c_) :
    (nearOverflow s).whl.sync = c_ := by
  unfold nearOverflow
  repeat' (with_reducible first | assumption | rfl | apply raise_sync | dsimp only | split | intro)

theorem joinPass_sync {c_ : Sync} (i : Nat) (s : State) (h_ : s.whl.sync = c_) :
    (joinPass i s).whl.sync = c_ := by
  unfold joinPass
  repeat' (with_reducible first | assumption | rfl | apply State_setSlot_sync | dsimp only | split | intro)

theorem startPass_sync {c_ : Sync} (admitted : List Nat) (s : State) (h_ : s.whl.sync = c_) :
    (startPass admitted s).whl.sync = c_ := by
  unfold startPass
  repeat' (with_reducible first | assumption | rfl | dsimp only | split | intro)

theorem predictionChanged_sync {c_ : Sync} (s : State) (h_ : s.whl.sync = c_) :
    (predictionChanged s).whl.sync = c_ := by
  unfold predictionChanged
  repeat' (with_reducible first | assumption | rfl | apply nearOverflow_sync | apply dropPassedWaiting_sync | apply startPass_sync | apply forEach_sync | apply joinPass_sync | dsimp only | split | intro)

theorem leavePass_sync {c_ : Sync} (i : Nat) (s : State) (h_ : s.whl.sync = c_) :
    (leavePass i s).whl.sync = c_ := by
  unfold leavePass
  repeat' (with_reducible first | assumption | rfl | dsimp only | split | intro)

theorem refuseInsertion_sync {c_ : Sync} (res : Nat) (s : State) (h_ : s.whl.sync = c_) :
    (refuseInsertion res s).1.whl.sync = c_ := by
  unfold refuseInsertion
  repeat' (with_reducible first | assumption | rfl | dsimp only | split | intro)

theorem dropAtInsertion_sync {c_ : Sync} (res reason detail i : Nat) (e : Event) (s : State) (h_ : s.whl.sync = c_) :
    (dropAtInsertion res reason detail i e s).1.whl.sync = c_ := by
  unfold dropAtInsertion
  repeat' (with_reducible first | assumption | rfl | apply recordDrop_sync | apply State_setSlot_sync | apply notice_sync | dsimp only | split | intro)

theorem placeEvent_sync {c_ : Sync} (i : Nat) (e : Event) (s : State) (h_ : s.whl.sync = c_) :
    (placeEvent i e s).1.whl.sync = c_ := by
  unfold placeEvent
  repeat' (with_reducible first | assumption | rfl | apply leavePass_sync | apply dropAtInsertion_sync | apply State_setSlot_sync | dsimp only | split | intro)

theorem insertEvent_sync {c_ : Sync} (owner : Nat) (w0 w1 w2 : Word) (s : State) (h_ : s.whl.sync = c_) :
    (insertEvent owner w0 w1 w2 s).1.whl.sync = c_ := by
  unfold insertEvent
  repeat' (with_reducible first | assumption | rfl | apply refuseInsertion_sync | apply raise_sync | apply placeEvent_sync | dsimp only | split | intro)

theorem aimPlace_sync {c_ : Sync} (i : Nat) (e : Event) (wasNear near : Bool) (s : State) (h_ : s.whl.sync = c_) :
    (aimPlace i e wasNear near s).whl.sync = c_ := by
  unfold aimPlace
  repeat' (with_reducible first | assumption | rfl | apply State_setSlot_sync | apply nearFill_sync | dsimp only | split | intro)

theorem aimLive_sync {c_ : Sync} (i : Nat) (target w2 : Word) (s : State) (h_ : s.whl.sync = c_) :
    (aimLive i target w2 s).1.whl.sync = c_ := by
  unfold aimLive
  repeat' (with_reducible first | assumption | rfl | apply leavePass_sync | apply State_setSlot_sync | apply nearFill_sync | apply dropEvent_sync | apply aimPlace_sync | dsimp only | split | intro)

theorem aimEvent_sync {c_ : Sync} (owner : Nat) (h target w2 : Word) (s : State) (h_ : s.whl.sync = c_) :
    (aimEvent owner h target w2 s).1.whl.sync = c_ := by
  unfold aimEvent
  repeat' (with_reducible first | assumption | rfl | apply aimLive_sync | dsimp only | split | intro)

theorem cancelSlot_sync {c_ : Sync} (i : Nat) (s : State) (h_ : s.whl.sync = c_) :
    (cancelSlot i s).whl.sync = c_ := by
  unfold cancelSlot
  repeat' (with_reducible first | assumption | rfl | apply freeSlot_sync | dsimp only | split | intro)

theorem cancelEvent_sync {c_ : Sync} (owner : Nat) (h : Word) (s : State) (h_ : s.whl.sync = c_) :
    (cancelEvent owner h s).1.whl.sync = c_ := by
  unfold cancelEvent
  repeat' (with_reducible first | assumption | rfl | apply cancelSlot_sync | apply nearFill_sync | dsimp only | split | intro)

theorem haltCancel_sync {c_ : Sync} (q : Nat) (s : State) (h_ : s.whl.sync = c_) :
    (haltCancel q s).whl.sync = c_ := by
  unfold haltCancel
  repeat' (with_reducible first | assumption | rfl | apply nearFill_sync | apply forEach_sync | apply cancelSlot_sync | dsimp only | split | intro)

theorem answer_sync {c_ : Sync} (i d b : Nat) (isInsertion : Bool) (r : State × Answer) (h_ : r.1.whl.sync = c_) :
    (answer i d b isInsertion r).whl.sync = c_ := by
  unfold answer
  repeat' (with_reducible first | assumption | rfl | apply State_setCtx_sync | apply notice_sync | dsimp only | split | intro)

theorem served_sync {c_ : Sync} (q : Nat) (s : State) (h_ : s.whl.sync = c_) :
    (served q s).whl.sync = c_ := by
  unfold served
  repeat' (with_reducible first | assumption | rfl | dsimp only | split | intro)

theorem doEventInsertion_sync {c_ : Sync} (q p : Nat) (s : State) (h_ : s.whl.sync = c_) :
    (doEventInsertion q p s).whl.sync = c_ := by
  unfold doEventInsertion
  repeat' (with_reducible first | assumption | rfl | apply answer_sync | apply insertEvent_sync | apply served_sync | dsimp only | split | intro)

theorem doEventAim_sync {c_ : Sync} (q p : Nat) (s : State) (h_ : s.whl.sync = c_) :
    (doEventAim q p s).whl.sync = c_ := by
  unfold doEventAim
  repeat' (with_reducible first | assumption | rfl | apply answer_sync | apply aimEvent_sync | apply served_sync | dsimp only | split | intro)

theorem doEventCancel_sync {c_ : Sync} (q p : Nat) (s : State) (h_ : s.whl.sync = c_) :
    (doEventCancel q p s).whl.sync = c_ := by
  unfold doEventCancel
  repeat' (with_reducible first | assumption | rfl | apply answer_sync | apply cancelEvent_sync | apply served_sync | dsimp only | split | intro)

theorem abortTests_sync {c_ : Sync} (ch : Nat) (s : State) (h_ : s.whl.sync = c_) :
    (abortTests ch s).whl.sync = c_ := by
  unfold abortTests
  repeat' (with_reducible first | assumption | rfl | apply stopTests_sync | dsimp only | split | intro)

theorem arm_sync {c_ : Sync} (i : Nat) (e : Event) (s : State) (h_ : s.whl.sync = c_) :
    (arm i e s).whl.sync = c_ := by
  unfold arm
  repeat' (with_reducible first | assumption | rfl | apply State_setKettle_sync | apply State_setSlot_sync | dsimp only | split | intro)

theorem doCommit_sync {c_ : Sync} (i : Nat) (armAt : Tick) (s : State) (h_ : s.whl.sync = c_) :
    (doCommit i armAt s).whl.sync = c_ := by
  unfold doCommit
  repeat' (with_reducible first | assumption | rfl | apply abortTests_sync | apply nearFill_sync | apply arm_sync | apply dropEvent_sync | apply State_setSlot_sync | dsimp only | split | intro)

theorem commitInPass_sync {c_ : Sync} (i : Nat) (s : State) (h_ : s.whl.sync = c_) :
    (commitInPass i s).whl.sync = c_ := by
  unfold commitInPass
  repeat' (with_reducible first | assumption | rfl | apply doCommit_sync | dsimp only | split | intro)

theorem reaimOne_sync {c_ : Sync} (i : Nat) (s : State) (h_ : s.whl.sync = c_) :
    (reaimOne i s).whl.sync = c_ := by
  unfold reaimOne
  repeat' (with_reducible first | assumption | rfl | apply leavePass_sync | apply nearFill_sync | apply dropEvent_sync | apply commitInPass_sync | apply State_setSlot_sync | dsimp only | split | intro)

theorem passStep_sync {c_ : Sync} (i : Nat) (s : State) (h_ : s.whl.sync = c_) :
    (passStep i s).whl.sync = c_ := by
  unfold passStep
  repeat' (with_reducible first | assumption | rfl | apply reaimOne_sync | dsimp only | split | intro)

theorem passRun_sync {c_ : Sync} (l : List Nat) (s : State) (h_ : s.whl.sync = c_) : (passRun l s).whl.sync = c_ := by
  induction l generalizing s with
  | nil => exact h_
  | cons i r ih =>
    unfold passRun
    split
    · exact ih _ (passStep_sync _ _ h_)
    · exact h_
theorem passNow_sync {c_ : Sync} (s : State) (h_ : s.whl.sync = c_) :
    (passNow s).whl.sync = c_ := by
  unfold passNow
  exact passRun_sync _ _ h_

theorem quarantine_sync {c_ : Sync} (i : Nat) (s : State) (h_ : s.whl.sync = c_) :
    (quarantine i s).whl.sync = c_ := by
  unfold quarantine
  repeat' (with_reducible first | assumption | rfl | apply State_setSlot_sync | apply fault_sync | apply raise_sync | dsimp only | split | intro)

theorem quarantineLate_sync {c_ : Sync} (i : Nat) (s : State) (h_ : s.whl.sync = c_) :
    (quarantineLate i s).whl.sync = c_ := by
  unfold quarantineLate
  repeat' (with_reducible first | assumption | rfl | apply State_setSlot_sync | apply fault_sync | apply raise_sync | dsimp only | split | intro)

theorem doEventTableEccError_sync {c_ : Sync} (i : Nat) (part : EccPart) (s : State) (h_ : s.whl.sync = c_) :
    (doEventTableEccError i part s).whl.sync = c_ := by
  unfold doEventTableEccError
  repeat' (with_reducible first | assumption | rfl | apply quarantine_sync | apply quarantineLate_sync | apply recordDrop_sync | apply notice_sync | apply freeSlot_sync | apply nearFill_sync | dsimp only | split | intro)

theorem caddyJob_sync {c_ : Sync} (j : CaddyJob) (s : State) (h_ : s.whl.sync = c_) :
    (caddyJob j s).whl.sync = c_ := by
  unfold caddyJob
  repeat' (with_reducible first | assumption | rfl | dsimp only | split | intro)

theorem spoilRecords_sync {c_ : Sync} (reason : Nat) (s : State) (h_ : s.whl.sync = c_) :
    (spoilRecords reason s).whl.sync = c_ := by
  unfold spoilRecords
  repeat' (with_reducible first | assumption | rfl | apply raise_sync | dsimp only | split | intro)

theorem qsInvalidate_sync {c_ : Sync} (reason : Nat) (s : State) (h_ : s.whl.sync = c_) :
    (qsInvalidate reason s).whl.sync = c_ := by
  unfold qsInvalidate
  repeat' (with_reducible first | assumption | rfl | apply raise_sync | apply caddyJob_sync | dsimp only | split | intro)

theorem dropHeld_sync {c_ : Sync} (reason : Nat) (s : State) (h_ : s.whl.sync = c_) :
    (dropHeld reason s).whl.sync = c_ := by
  unfold dropHeld
  repeat' (with_reducible first | assumption | rfl | apply qsInvalidate_sync | dsimp only | split | intro)

theorem clearMap_sync {c_ : Sync} (s : State) (h_ : s.whl.sync = c_) :
    (clearMap s).whl.sync = c_ := by
  unfold clearMap
  repeat' (with_reducible first | assumption | rfl | apply raise_sync | dsimp only | split | intro)

theorem offInputs_sync {c_ : Sync} (s : State) (h_ : s.whl.sync = c_) :
    (offInputs s).whl.sync = c_ := by
  unfold offInputs
  repeat' (with_reducible first | assumption | rfl | apply forEach_sync | apply State_setWheel_sync | dsimp only | split | intro)

theorem wheelApplied_sync {c_ : Sync} (old : Block) (s : State) (h_ : s.whl.sync = c_) :
    (wheelApplied old s).whl.sync = c_ := by
  unfold wheelApplied
  repeat' (with_reducible first | assumption | rfl | apply offInputs_sync | apply qsInvalidate_sync | apply spoilRecords_sync | apply clearMap_sync | dsimp only | split | intro)

theorem bankMode_sync {c_ : Sync} (b : Nat) (s : State) (h_ : s.whl.sync = c_) :
    (bankMode b s).whl.sync = c_ := by
  unfold bankMode
  repeat' (with_reducible first | assumption | rfl | apply State_setBank_sync | apply raise_sync | dsimp only | split | intro)

theorem kettleTarget_sync {c_ : Sync} (k : Nat) (s : State) (h_ : s.whl.sync = c_) :
    (kettleTarget k s).whl.sync = c_ := by
  unfold kettleTarget
  repeat' (with_reducible first | assumption | rfl | apply State_setKettle_sync | apply ktTargetNow_sync | dsimp only | split | intro)

theorem driveApplied_sync {c_ : Sync} (s : State) (h_ : s.whl.sync = c_) :
    (driveApplied s).whl.sync = c_ := by
  unfold driveApplied
  repeat' (with_reducible first | assumption | rfl | apply forEach_sync | apply bankMode_sync | apply ktLimits_sync | apply kettleTarget_sync | dsimp only | split | intro)

theorem mirrorApplied_sync {c_ : Sync} (old : Nat) (s : State) (h_ : s.whl.sync = c_) :
    (mirrorApplied old s).whl.sync = c_ := by
  unfold mirrorApplied
  repeat' (with_reducible first | assumption | rfl | apply raiseIf_sync | dsimp only | split | intro)

theorem vbakCheck_sync {c_ : Sync} (s : State) (h_ : s.whl.sync = c_) :
    (vbakCheck s).whl.sync = c_ := by
  unfold vbakCheck
  repeat' (with_reducible first | assumption | rfl | apply faultOnset_sync | apply faultEnd_sync | dsimp only | split | intro)

theorem groupEffect_sync {c_ : Sync} (old : Block) (g : Nat) (s : State) (h_ : s.whl.sync = c_) :
    (groupEffect old g s).whl.sync = c_ := by
  unfold groupEffect
  repeat' (with_reducible first | assumption | rfl | apply vbakCheck_sync | apply ktLimits_sync | apply wheelApplied_sync | apply driveApplied_sync | apply tripsApplied_sync | apply mirrorApplied_sync | dsimp only | split | intro)

theorem groupReport_sync {c_ : Sync} (g : Nat) (s : State) (h_ : s.whl.sync = c_) :
    (groupReport g s).whl.sync = c_ := by
  unfold groupReport
  repeat' (with_reducible first | assumption | rfl | apply log_sync | apply raise_sync | dsimp only | split | intro)

theorem applyGroups_sync {c_ : Sync} (m : Nat) (s : State) (h_ : s.whl.sync = c_) :
    (applyGroups m s).whl.sync = c_ := by
  unfold applyGroups
  repeat' (with_reducible first | assumption | rfl | apply forEach_sync | apply groupEffect_sync | apply groupReport_sync | apply foldl_sync | apply foldl1_sync | dsimp only | split | intro)

theorem applyPending_sync {c_ : Sync} (m : Nat) (s : State) (h_ : s.whl.sync = c_) :
    (applyPending m s).whl.sync = c_ := by
  unfold applyPending
  repeat' (with_reducible first | assumption | rfl | apply applyGroups_sync | dsimp only | split | intro)

theorem envelopeBoundary_sync {c_ : Sync} (s : State) (h_ : s.whl.sync = c_) :
    (envelopeBoundary s).whl.sync = c_ := by
  unfold envelopeBoundary
  repeat' (with_reducible first | assumption | rfl | apply raise_sync | dsimp only | split | intro)

theorem logCycle_sync {c_ : Sync} (r : CycleRec) (s : State) (h_ : s.whl.sync = c_) :
    (logCycle r s).whl.sync = c_ := by
  unfold logCycle
  repeat' (with_reducible first | assumption | rfl | apply logAppend_sync | dsimp only | split | intro)

theorem camError_sync {c_ : Sync} (s : State) (h_ : s.whl.sync = c_) :
    (camError s).whl.sync = c_ := by
  unfold camError
  repeat' (with_reducible first | assumption | rfl | apply raise_sync | dsimp only | split | intro)

theorem camLearned_sync {c_ : Sync} (s : State) (h_ : s.whl.sync = c_) :
    (camLearned s).whl.sync = c_ := by
  unfold camLearned
  repeat' (with_reducible first | assumption | rfl | dsimp only | split | intro)

theorem camCycleCheck_sync {c_ : Sync} (s : State) (h_ : s.whl.sync = c_) :
    (camCycleCheck s).whl.sync = c_ := by
  unfold camCycleCheck
  repeat' (with_reducible first | assumption | rfl | apply repeatN_sync | apply camError_sync | apply raiseIf_sync | apply foldl_sync | apply foldl1_sync | dsimp only | split | intro)

theorem camCycle_sync {c_ : Sync} (s : State) (h_ : s.whl.sync = c_) :
    (camCycle s).whl.sync = c_ := by
  unfold camCycle
  repeat' (with_reducible first | assumption | rfl | apply camLearned_sync | apply camCycleCheck_sync | dsimp only | split | intro)

theorem purge_sync {c_ : Sync} (tag : Nat) (s : State) (h_ : s.whl.sync = c_) :
    (purge tag s).whl.sync = c_ := by
  unfold purge
  repeat' (with_reducible first | assumption | rfl | apply forEach_sync | apply dropEvent_sync | apply withdraw_sync | apply raiseIf_sync | dsimp only | split | intro)

theorem cycleBoundary_sync {c_ : Sync} (x : Tick) (s : State) (h_ : s.whl.sync = c_) :
    (cycleBoundary x s).whl.sync = c_ := by
  unfold cycleBoundary
  repeat' (with_reducible first | assumption | rfl | apply camCycle_sync | apply purge_sync | apply logCycle_sync | apply envelopeBoundary_sync | apply applyPending_sync | dsimp only | split | intro)

theorem stepsDone_sync {c_ : Sync} (s : State) (h_ : s.whl.sync = c_) :
    (stepsDone s).whl.sync = c_ := by
  unfold stepsDone
  repeat' (with_reducible first | assumption | rfl | apply latchAll_sync | apply mirrorState_sync | apply raise_sync | dsimp only | split | intro)

theorem crossForward_sync {c_ : Sync} (x : Tick) (s : State) (h_ : s.whl.sync = c_) :
    (crossForward x s).whl.sync = c_ := by
  unfold crossForward
  repeat' (with_reducible first | assumption | rfl | apply cycleBoundary_sync | dsimp only | split | intro)

theorem learnEntry_sync {c_ : Sync} (eps : Int) (gain : Nat) (i : Nat) (s : State) (h_ : s.whl.sync = c_) :
    (learnEntry eps gain i s).whl.sync = c_ := by
  unfold learnEntry
  repeat' (with_reducible first | assumption | rfl | dsimp only | split | intro)

theorem learnStep_sync {c_ : Sync} (pRaw j n rc : Nat) (s : State) (h_ : s.whl.sync = c_) :
    (learnStep pRaw j n rc s).whl.sync = c_ := by
  unfold learnStep
  repeat' (with_reducible first | assumption | rfl | apply raise_sync | apply forEach_sync | apply learnEntry_sync | dsimp only | split | intro)

theorem lensLearn_sync {c_ : Sync} (t : Tick) (j n pRaw : Nat) (s : State) (h_ : s.whl.sync = c_) :
    (lensLearn t j n pRaw s).whl.sync = c_ := by
  unfold lensLearn
  repeat' (with_reducible first | assumption | rfl | apply learnStep_sync | dsimp only | split | intro)

theorem notLearned_sync {c_ : Sync} (s : State) (h_ : s.whl.sync = c_) :
    (notLearned s).whl.sync = c_ := by
  unfold notLearned
  repeat' (with_reducible first | assumption | rfl | dsimp only | split | intro)

theorem sweepEvents_sync {c_ : Sync} (lo hi : Nat) (s : State) (h_ : s.whl.sync = c_) :
    (sweepEvents lo hi s).whl.sync = c_ := by
  unfold sweepEvents
  repeat' (with_reducible first | assumption | rfl | apply forEach_sync | apply dropEvent_sync | apply withdraw_sync | apply raiseIf_sync | dsimp only | split | intro)

theorem sweep_sync {c_ : Sync} (lo hi : Nat) (s : State) (h_ : s.whl.sync = c_) :
    (sweep lo hi s).whl.sync = c_ := by
  unfold sweep
  repeat' (with_reducible first | assumption | rfl | apply passRange_sync | apply sweepEvents_sync | dsimp only | split | intro)

theorem lensMove_sync {c_ : Sync} (old : Nat) (t : Tick) (s : State) (h_ : s.whl.sync = c_) :
    (lensMove old t s).whl.sync = c_ := by
  unfold lensMove
  repeat' (with_reducible first | assumption | rfl | apply watchHere_sync | apply sweep_sync | apply passRange_sync | apply crossForward_sync | dsimp only | split | intro)

theorem newPrediction_sync {c_ : Sync} (s : State) (h_ : s.whl.sync = c_) :
    (newPrediction s).whl.sync = c_ := by
  unfold newPrediction
  repeat' (with_reducible first | assumption | rfl | dsimp only | split | intro)

theorem lensUpdate_sync {c_ : Sync} (t : Tick) (j n : Nat) (err : Bool) (s : State) (h_ : s.whl.sync = c_) :
    (lensUpdate t j n err s).whl.sync = c_ := by
  unfold lensUpdate
  repeat' (with_reducible first | assumption | rfl | apply passTo_sync | apply speedNow_sync | apply newPrediction_sync | apply lensLearn_sync | apply notLearned_sync | apply lensMove_sync | apply predictionChanged_sync | dsimp only | split | intro)

theorem lensUndo_sync {c_ : Sync} (t : Tick) (s : State) (h_ : s.whl.sync = c_) :
    (lensUndo t s).whl.sync = c_ := by
  unfold lensUndo
  repeat' (with_reducible first | assumption | rfl | apply predictionChanged_sync | apply speedNow_sync | dsimp only | split | intro)

theorem lensFirst_sync {c_ : Sync} (t : Tick) (s : State) (h_ : s.whl.sync = c_) :
    (lensFirst t s).whl.sync = c_ := by
  unfold lensFirst
  repeat' (with_reducible first | assumption | rfl | dsimp only | split | intro)

theorem lensEnter_sync {c_ : Sync} (j : Nat) (s : State) (h_ : s.whl.sync = c_) :
    (lensEnter j s).whl.sync = c_ := by
  unfold lensEnter
  repeat' (with_reducible first | assumption | rfl | apply predictionChanged_sync | apply speedNow_sync | apply watchHere_sync | apply newPrediction_sync | dsimp only | split | intro)

theorem lensRenumber_sync {c_ : Sync} (s : State) (h_ : s.whl.sync = c_) :
    (lensRenumber s).whl.sync = c_ := by
  unfold lensRenumber
  repeat' (with_reducible first | assumption | rfl | apply predictionChanged_sync | apply watchHere_sync | apply newPrediction_sync | dsimp only | split | intro)

theorem lensClear_sync {c_ : Sync} (s : State) (h_ : s.whl.sync = c_) :
    (lensClear s).whl.sync = c_ := by
  unfold lensClear
  repeat' (with_reducible first | assumption | rfl | apply setSpeed_sync | apply notLearned_sync | dsimp only | split | intro)

theorem doVirtualBoundary_sync {c_ : Sync} (s : State) (h_ : s.whl.sync = c_) :
    (doVirtualBoundary s).whl.sync = c_ := by
  unfold doVirtualBoundary
  repeat' (with_reducible first | assumption | rfl | apply passTo_sync | apply passRange_sync | apply dropPassedWaiting_sync | apply cycleBoundary_sync | apply startPass_sync | apply nearFill_sync | apply crossForward_sync | dsimp only | split | intro)

theorem doCountHold_sync {c_ : Sync} (s : State) (h_ : s.whl.sync = c_) :
    (doCountHold s).whl.sync = c_ := by
  unfold doCountHold
  repeat' (with_reducible first | assumption | rfl | apply passTo_sync | dsimp only | split | intro)

theorem doToothOverdue_sync {c_ : Sync} (s : State) (h_ : s.whl.sync = c_) :
    (doToothOverdue s).whl.sync = c_ := by
  unfold doToothOverdue
  repeat' (with_reducible first | assumption | rfl | apply passTo_sync | apply raise_sync | apply forEach_sync | apply withdraw_sync | apply speedNow_sync | dsimp only | split | intro)

theorem lensReverse_sync {c_ : Sync} (s : State) (h_ : s.whl.sync = c_) :
    (lensReverse s).whl.sync = c_ := by
  unfold lensReverse
  repeat' (with_reducible first | assumption | rfl | apply raise_sync | dsimp only | split | intro)

theorem lensShow_sync {c_ : Sync} (j : Nat) (back : Bool) (x : Tick) (s : State) (h_ : s.whl.sync = c_) :
    (lensShow j back x s).whl.sync = c_ := by
  unfold lensShow
  repeat' (with_reducible first | assumption | rfl | apply notLearned_sync | apply crossForward_sync | dsimp only | split | intro)

theorem lensResume_sync {c_ : Sync} (t : Tick) (j : Nat) (period : Nat) (s : State) (h_ : s.whl.sync = c_) :
    (lensResume t j period s).whl.sync = c_ := by
  unfold lensResume
  repeat' (with_reducible first | assumption | rfl | apply speedNow_sync | apply newPrediction_sync | apply raise_sync | apply sweep_sync | apply predictionChanged_sync | apply crossForward_sync | dsimp only | split | intro)

theorem onCrank_sync {c_ : Sync} (f : CrankDec → CrankDec) (s : State) (h_ : s.whl.sync = c_) :
    (onCrank f s).whl.sync = c_ := by
  unfold onCrank
  repeat' (with_reducible first | assumption | rfl | dsimp only | split | intro)

theorem stopFiring_sync {c_ : Sync} (reason : Nat) (s : State) (h_ : s.whl.sync = c_) :
    (stopFiring reason s).whl.sync = c_ := by
  unfold stopFiring
  repeat' (with_reducible first | assumption | rfl | apply endAll_sync | apply dropPending_sync | dsimp only | split | intro)

theorem frameCorrect_sync {c_ : Sync} (s : State) (h_ : s.whl.sync = c_) :
    (frameCorrect s).whl.sync = c_ := by
  unfold frameCorrect
  repeat' (with_reducible first | assumption | rfl | apply passTo_sync | apply onCrank_sync | apply raise_sync | apply forEach_sync | apply dropEvent_sync | apply lensRenumber_sync | apply endWaitas_sync | dsimp only | split | intro)

theorem usePhase_sync {c_ : Sync} (t : Tick) (s : State) (h_ : s.whl.sync = c_) :
    (usePhase t s).1.whl.sync = c_ := by
  unfold usePhase
  repeat' (with_reducible first | assumption | rfl | apply camError_sync | dsimp only | split | intro)

theorem writeRecord_sync {c_ : Sync} (s : State) (h_ : s.whl.sync = c_) :
    (writeRecord s).whl.sync = c_ := by
  unfold writeRecord
  repeat' (with_reducible first | assumption | rfl | apply caddyJob_sync | dsimp only | split | intro)

theorem setClass_sync {c_ : Sync} (n : Nat) (c : EdgeClass) (s : State) (h_ : s.whl.sync = c_) :
    (setClass n c s).whl.sync = c_ := by
  unfold setClass
  repeat' (with_reducible first | assumption | rfl | apply State_setWheel_sync | dsimp only | split | intro)

theorem stepBack_sync {c_ : Sync} (s : State) (h_ : s.whl.sync = c_) :
    (stepBack s).whl.sync = c_ := by
  unfold stepBack
  repeat' (with_reducible first | assumption | rfl | apply onCrank_sync | dsimp only | split | intro)

theorem edgeFrame_sync {c_ : Sync} (t : Tick) (s : State) (h_ : s.whl.sync = c_) :
    (edgeFrame t s).whl.sync = c_ := by
  unfold edgeFrame
  repeat' (with_reducible first | assumption | rfl | apply mirrorAt_sync | dsimp only | split | intro)

theorem edgeAccepted_sync {c_ : Sync} (t : Tick) (s : State) (h_ : s.whl.sync = c_) :
    (edgeAccepted t s).whl.sync = c_ := by
  unfold edgeAccepted
  repeat' (with_reducible first | assumption | rfl | apply wake_sync | apply qsInvalidate_sync | dsimp only | split | intro)

theorem declareForward_sync {c_ : Sync} (s : State) (h_ : s.whl.sync = c_) :
    (declareForward s).whl.sync = c_ := by
  unfold declareForward
  repeat' (with_reducible first | assumption | rfl | apply lensResume_sync | apply onCrank_sync | dsimp only | split | intro)

theorem State_setCam_sync {c_ : Sync} (s : State) (c : Nat) (x : Cam) (h_ : s.whl.sync = c_) :
    (Sys2Proof.Machine.State.setCam s c x).whl.sync = c_ := by
  unfold State.setCam
  repeat' (with_reducible first | assumption | rfl | dsimp only | split | intro)

theorem phaseMet_sync {c_ : Sync} (t : Tick) (x : Option Nat) (s : State) (h_ : s.whl.sync = c_) :
    (phaseMet t x s).whl.sync = c_ := by
  unfold phaseMet
  repeat' (with_reducible first | assumption | rfl | apply camError_sync | dsimp only | split | intro)

theorem onSecond_sync {c_ : Sync} (f : CrankDec → CrankDec) (s : State) (h_ : s.whl.sync = c_) :
    (onSecond f s).whl.sync = c_ := by
  unfold onSecond
  repeat' (with_reducible first | assumption | rfl | dsimp only | split | intro)

theorem secondLost_sync {c_ : Sync} (s : State) (h_ : s.whl.sync = c_) :
    (secondLost s).whl.sync = c_ := by
  unfold secondLost
  repeat' (with_reducible first | assumption | rfl | apply onSecond_sync | dsimp only | split | intro)

theorem secondCheck_sync {c_ : Sync} (pos : Nat) (s : State) (h_ : s.whl.sync = c_) :
    (secondCheck pos s).whl.sync = c_ := by
  unfold secondCheck
  repeat' (with_reducible first | assumption | rfl | apply raiseIf_sync | dsimp only | split | intro)

theorem secondReference_sync {c_ : Sync} (c : GapCand) (s : State) (h_ : s.whl.sync = c_) :
    (secondReference c s).whl.sync = c_ := by
  unfold secondReference
  repeat' (with_reducible first | assumption | rfl | apply onSecond_sync | apply secondCheck_sync | dsimp only | split | intro)

theorem secondPeriod_sync {c_ : Sync} (inp : Nat) (t : Tick) (s : State) (h_ : s.whl.sync = c_) :
    (secondPeriod inp t s).whl.sync = c_ := by
  unfold secondPeriod
  repeat' (with_reducible first | assumption | rfl | apply setClass_sync | apply secondLost_sync | apply secondReference_sync | apply onSecond_sync | dsimp only | split | intro)

theorem secondEdge_sync {c_ : Sync} (inp : Nat) (t : Tick) (s : State) (h_ : s.whl.sync = c_) :
    (secondEdge inp t s).whl.sync = c_ := by
  unfold secondEdge
  repeat' (with_reducible first | assumption | rfl | apply onSecond_sync | apply stepBack_sync | apply secondPeriod_sync | dsimp only | split | intro)

theorem secondPulse_sync {c_ : Sync} (cls : Pulse) (s : State) (h_ : s.whl.sync = c_) :
    (secondPulse cls s).whl.sync = c_ := by
  unfold secondPulse
  repeat' (with_reducible first | assumption | rfl | apply onSecond_sync | apply stepBack_sync | dsimp only | split | intro)

theorem doSecondaryPromotion_sync {c_ : Sync} (s : State) (h_ : s.whl.sync = c_) :
    (doSecondaryPromotion s).whl.sync = c_ := by
  unfold doSecondaryPromotion
  repeat' (with_reducible first | assumption | rfl | apply passTo_sync | apply raise_sync | apply stepBack_sync | dsimp only | split | intro)

theorem strain_sync {c_ : Sync} (n : Nat) (rising : Bool) (peakMv : Nat) (s : State) (h_ : s.whl.sync = c_) :
    (strain n rising peakMv s).whl.sync = c_ := by
  unfold strain
  repeat' (with_reducible first | assumption | rfl | apply State_setWheel_sync | dsimp only | split | intro)

theorem doWheelCrossing_sync {c_ : Sync} (n : Nat) (rising : Bool) (peakMv : Nat) (s : State) (h_ : s.whl.sync = c_) :
    (doWheelCrossing n rising peakMv s).whl.sync = c_ := by
  unfold doWheelCrossing
  repeat' (with_reducible first | assumption | rfl | apply strain_sync | apply wake_sync | apply qsInvalidate_sync | dsimp only | split | intro)

theorem markDetection_sync {c_ : Sync} (b n : Nat) (s : State) (h_ : s.whl.sync = c_) :
    (markDetection b n s).whl.sync = c_ := by
  unfold markDetection
  repeat' (with_reducible first | assumption | rfl | apply State_memPatch_sync | apply State_setDgt_sync | dsimp only | split | intro)

theorem storeSample_sync {c_ : Sync} (b n : Nat) (v : Int) (s : State) (h_ : s.whl.sync = c_) :
    (storeSample b n v s).whl.sync = c_ := by
  unfold storeSample
  repeat' (with_reducible first | assumption | rfl | apply State_memPatch_sync | apply State_setDgt_sync | dsimp only | split | intro)

theorem doDigitiserSample_sync {c_ : Sync} (b : Nat) (code : BitVec 12) (s : State) (h_ : s.whl.sync = c_) :
    (doDigitiserSample b code s).whl.sync = c_ := by
  unfold doDigitiserSample
  repeat' (with_reducible first | assumption | rfl | apply storeSample_sync | apply State_setDgt_sync | apply markDetection_sync | dsimp only | split | intro)

theorem writeClosing_sync {c_ : Sync} (b : Nat) (c : Capture) (d : Detection) (s : State) (h_ : s.whl.sync = c_) :
    (writeClosing b c d s).whl.sync = c_ := by
  unfold writeClosing
  repeat' (with_reducible first | assumption | rfl | apply State_memWrite_sync | apply State_setDgt_sync | apply State_setDch_sync | apply notice_sync | apply raise_sync | apply mirrorAt_sync | dsimp only | split | intro)

theorem pendingRecord_sync {c_ : Sync} (b : Nat) (s : State) (h_ : s.whl.sync = c_) :
    (pendingRecord b s).whl.sync = c_ := by
  unfold pendingRecord
  repeat' (with_reducible first | assumption | rfl | apply writeClosing_sync | dsimp only | split | intro)

theorem doClosingRecordWritten_sync {c_ : Sync} (b : Nat) (s : State) (h_ : s.whl.sync = c_) :
    (doClosingRecordWritten b s).whl.sync = c_ := by
  unfold doClosingRecordWritten
  repeat' (with_reducible first | assumption | rfl | apply pendingRecord_sync | dsimp only | split | intro)

theorem endCapture_sync {c_ : Sync} (b : Nat) (x : Tick) (s : State) (h_ : s.whl.sync = c_) :
    (endCapture b x s).whl.sync = c_ := by
  unfold endCapture
  repeat' (with_reducible first | assumption | rfl | apply pendingRecord_sync | apply State_setDch_sync | apply State_setDgt_sync | dsimp only | split | intro)

theorem doCaptureEnd_sync {c_ : Sync} (b : Nat) (s : State) (h_ : s.whl.sync = c_) :
    (doCaptureEnd b s).whl.sync = c_ := by
  unfold doCaptureEnd
  repeat' (with_reducible first | assumption | rfl | apply endCapture_sync | dsimp only | split | intro)

theorem startEndsCapture_sync {c_ : Sync} (k : Nat) (x : Tick) (s : State) (h_ : s.whl.sync = c_) :
    (startEndsCapture k x s).whl.sync = c_ := by
  unfold startEndsCapture
  repeat' (with_reducible first | assumption | rfl | apply endCapture_sync | dsimp only | split | intro)

theorem startTest_sync {c_ : Sync} (k : Nat) (s : State) (h_ : s.whl.sync = c_) :
    (startTest k s).whl.sync = c_ := by
  unfold startTest
  repeat' (with_reducible first | assumption | rfl | apply State_setDch_sync | dsimp only | split | intro)

theorem doOffTestStart_sync {c_ : Sync} (s : State) (h_ : s.whl.sync = c_) :
    (doOffTestStart s).whl.sync = c_ := by
  unfold doOffTestStart
  repeat' (with_reducible first | assumption | rfl | apply forEach_sync | apply startTest_sync | dsimp only | split | intro)

theorem offDone_sync {c_ : Sync} (k code : Nat) (last : Nat × Nat) (s : State) (h_ : s.whl.sync = c_) :
    (offDone k code last s).whl.sync = c_ := by
  unfold offDone
  repeat' (with_reducible first | assumption | rfl | apply State_setDch_sync | apply fault_sync | dsimp only | split | intro)

theorem doOffTestComplete_sync {c_ : Sync} (k : Nat) (samples : List (Nat × Nat)) (s : State) (h_ : s.whl.sync = c_) :
    (doOffTestComplete k samples s).whl.sync = c_ := by
  unfold doOffTestComplete
  repeat' (with_reducible first | assumption | rfl | apply offDone_sync | apply State_setDch_sync | dsimp only | split | intro)

theorem doOffTestNotRun_sync {c_ : Sync} (k : Nat) (s : State) (h_ : s.whl.sync = c_) :
    (doOffTestNotRun k s).whl.sync = c_ := by
  unfold doOffTestNotRun
  repeat' (with_reducible first | assumption | rfl | apply State_setDch_sync | dsimp only | split | intro)

theorem diagOffTest_sync {c_ : Sync} (m : BitVec 64) (s : State) (h_ : s.whl.sync = c_) :
    (diagOffTest m s).whl.sync = c_ := by
  unfold diagOffTest
  repeat' (with_reducible first | assumption | rfl | apply forEach_sync | apply State_setDch_sync | apply startTest_sync | dsimp only | split | intro)

theorem diagClear_sync {c_ : Sync} (m : BitVec 64) (s : State) (h_ : s.whl.sync = c_) :
    (diagClear m s).whl.sync = c_ := by
  unfold diagClear
  repeat' (with_reducible first | assumption | rfl | apply forEach_sync | apply State_setDch_sync | dsimp only | split | intro)

theorem measure_sync {c_ : Sync} (k current : Nat) (s : State) (h_ : s.whl.sync = c_) :
    (measure k current s).whl.sync = c_ := by
  unfold measure
  repeat' (with_reducible first | assumption | rfl | apply State_setChan_sync | apply State_setBank_sync | dsimp only | split | intro)

theorem toTransition_sync {c_ : Sync} (k : Nat) (x : Tick) (reached : Bool) (energyUj : Nat) (s : State) (h_ : s.whl.sync = c_) :
    (toTransition k x reached energyUj s).whl.sync = c_ := by
  unfold toTransition
  repeat' (with_reducible first | assumption | rfl | apply peakOver_sync | apply State_setChan_sync | apply bankEdge_sync | dsimp only | split | intro)

theorem slip_sync {c_ : Sync} (k : Nat) (s : State) (h_ : s.whl.sync = c_) :
    (slip k s).whl.sync = c_ := by
  unfold slip
  repeat' (with_reducible first | assumption | rfl | apply State_setChan_sync | apply raise_sync | apply State_setBank_sync | dsimp only | split | intro)

theorem yieldStep_sync {c_ : Sync} (x : Tick) (k : Nat) (s : State) (h_ : s.whl.sync = c_) :
    (yieldStep x k s).whl.sync = c_ := by
  unfold yieldStep
  repeat' (with_reducible first | assumption | rfl | apply slip_sync | apply toTransition_sync | apply bankEdge_sync | apply State_setChan_sync | dsimp only | split | intro)

theorem arbitrate_sync {c_ : Sync} (b : Nat) (x : Tick) (s : State) (h_ : s.whl.sync = c_) :
    (arbitrate b x s).whl.sync = c_ := by
  unfold arbitrate
  repeat' (with_reducible first | assumption | rfl | apply forEach_sync | apply yieldStep_sync | dsimp only | split | intro)

theorem doOnStateFault_sync {c_ : Sync} (k : Nat) (m : OnStateMeas) (s : State) (h_ : s.whl.sync = c_) :
    (doOnStateFault k m s).whl.sync = c_ := by
  unfold doOnStateFault
  repeat' (with_reducible first | assumption | rfl | apply endBank_sync | apply endEarly_sync | apply arbitrate_sync | apply fault_sync | apply State_setDch_sync | dsimp only | split | intro)

theorem doProfileStart_sync {c_ : Sync} (k : Nat) (s : State) (h_ : s.whl.sync = c_) :
    (doProfileStart k s).whl.sync = c_ := by
  unfold doProfileStart
  repeat' (with_reducible first | assumption | rfl | apply stopTests_sync | apply fallEnds_sync | apply startEndsCapture_sync | apply State_setSlot_sync | apply State_setChan_sync | apply notice_sync | apply mirrorAt_sync | apply arbitrate_sync | apply bankEdge_sync | dsimp only | split | intro)

theorem doPeakEnd_sync {c_ : Sync} (k current energyUj : Nat) (s : State) (h_ : s.whl.sync = c_) :
    (doPeakEnd k current energyUj s).whl.sync = c_ := by
  unfold doPeakEnd
  repeat' (with_reducible first | assumption | rfl | apply arbitrate_sync | apply toTransition_sync | apply measure_sync | dsimp only | split | intro)

theorem doPeakTimeout_sync {c_ : Sync} (k current energyUj : Nat) (s : State) (h_ : s.whl.sync = c_) :
    (doPeakTimeout k current energyUj s).whl.sync = c_ := by
  unfold doPeakTimeout
  repeat' (with_reducible first | assumption | rfl | apply toTransition_sync | apply measure_sync | apply State_setChan_sync | apply arbitrate_sync | apply raise_sync | dsimp only | split | intro)

theorem toSteep_sync {c_ : Sync} (k : Nat) (x : Tick) (s : State) (h_ : s.whl.sync = c_) :
    (toSteep k x s).whl.sync = c_ := by
  unfold toSteep
  repeat' (with_reducible first | assumption | rfl | apply State_setChan_sync | apply arbitrate_sync | apply bankEdge_sync | dsimp only | split | intro)

theorem doTransitionEnd_sync {c_ : Sync} (k current : Nat) (s : State) (h_ : s.whl.sync = c_) :
    (doTransitionEnd k current s).whl.sync = c_ := by
  unfold doTransitionEnd
  repeat' (with_reducible first | assumption | rfl | apply toSteep_sync | apply measure_sync | dsimp only | split | intro)

theorem doDitherStep_sync {c_ : Sync} (k : Nat) (s : State) (h_ : s.whl.sync = c_) :
    (doDitherStep k s).whl.sync = c_ := by
  unfold doDitherStep
  repeat' (with_reducible first | assumption | rfl | apply State_setChan_sync | dsimp only | split | intro)

theorem doRegulatorSwitch_sync {c_ : Sync} (k current : Nat) (s : State) (h_ : s.whl.sync = c_) :
    (doRegulatorSwitch k current s).whl.sync = c_ := by
  unfold doRegulatorSwitch
  repeat' (with_reducible first | assumption | rfl | apply measure_sync | apply bankEdge_sync | apply State_setChan_sync | dsimp only | split | intro)

theorem doTurnOffInstant_sync {c_ : Sync} (k current energyUj : Nat) (s : State) (h_ : s.whl.sync = c_) :
    (doTurnOffInstant k current energyUj s).whl.sync = c_ := by
  unfold doTurnOffInstant
  repeat' (with_reducible first | assumption | rfl | apply measure_sync | apply turnOff_sync | apply State_setChan_sync | apply arbitrate_sync | dsimp only | split | intro)

theorem captureRecovered_sync {c_ : Sync} (k : Nat) (s : State) (h_ : s.whl.sync = c_) :
    (captureRecovered k s).whl.sync = c_ := by
  unfold captureRecovered
  repeat' (with_reducible first | assumption | rfl | apply State_setDgt_sync | dsimp only | split | intro)

theorem doTurnOffComplete_sync {c_ : Sync} (k current : Nat) (s : State) (h_ : s.whl.sync = c_) :
    (doTurnOffComplete k current s).whl.sync = c_ := by
  unfold doTurnOffComplete
  repeat' (with_reducible first | assumption | rfl | apply turnOff_sync | apply measure_sync | apply State_setChan_sync | apply freeSlot_sync | apply bankMode_sync | apply captureRecovered_sync | apply bankEdge_sync | dsimp only | split | intro)

theorem doChannelOvercurrent_sync {c_ : Sync} (k current : Nat) (s : State) (h_ : s.whl.sync = c_) :
    (doChannelOvercurrent k current s).whl.sync = c_ := by
  unfold doChannelOvercurrent
  repeat' (with_reducible first | assumption | rfl | apply fault_sync | apply arbitrate_sync | apply endEarly_sync | apply measure_sync | dsimp only | split | intro)

theorem doBankOvercurrent_sync {c_ : Sync} (b sum : Nat) (s : State) (h_ : s.whl.sync = c_) :
    (doBankOvercurrent b sum s).whl.sync = c_ := by
  unfold doBankOvercurrent
  repeat' (with_reducible first | assumption | rfl | apply State_setBank_sync | apply fault_sync | apply raise_sync | apply endBank_sync | dsimp only | split | intro)

theorem doOnMaxStop_sync {c_ : Sync} (k : Nat) (s : State) (h_ : s.whl.sync = c_) :
    (doOnMaxStop k s).whl.sync = c_ := by
  unfold doOnMaxStop
  repeat' (with_reducible first | assumption | rfl | apply fault_sync | apply arbitrate_sync | apply endAt_sync | dsimp only | split | intro)

theorem doExtensionWrite_sync {c_ : Sync} (q k ext : Nat) (s : State) (h_ : s.whl.sync = c_) :
    (doExtensionWrite q k ext s).whl.sync = c_ := by
  unfold doExtensionWrite
  repeat' (with_reducible first | assumption | rfl | apply State_setChan_sync | apply raise_sync | dsimp only | split | intro)

theorem doSetpointWrite_sync {c_ : Sync} (k : Nat) (value : Word) (s : State) (h_ : s.whl.sync = c_) :
    (doSetpointWrite k value s).whl.sync = c_ := by
  unfold doSetpointWrite
  repeat' (with_reducible first | assumption | rfl | apply State_setChan_sync | dsimp only | split | intro)

theorem kettleVolt_sync {c_ : Sync} (k volt : Nat) (s : State) (h_ : s.whl.sync = c_) :
    (kettleVolt k volt s).whl.sync = c_ := by
  unfold kettleVolt
  repeat' (with_reducible first | assumption | rfl | apply State_setKettle_sync | dsimp only | split | intro)

theorem kettleLevel_sync {c_ : Sync} (k volt : Nat) (s : State) (h_ : s.whl.sync = c_) :
    (kettleLevel k volt s).whl.sync = c_ := by
  unfold kettleLevel
  repeat' (with_reducible first | assumption | rfl | apply kettleVolt_sync | apply markFall_sync | apply ktUpdate_sync | apply ktFault_sync | dsimp only | split | intro)

theorem doKettleLevelChange_sync {c_ : Sync} (k volt : Nat) (s : State) (h_ : s.whl.sync = c_) :
    (doKettleLevelChange k volt s).whl.sync = c_ := by
  unfold doKettleLevelChange
  repeat' (with_reducible first | assumption | rfl | apply kettleLevel_sync | dsimp only | split | intro)

theorem doKettleChargeDeadline_sync {c_ : Sync} (k : Nat) (s : State) (h_ : s.whl.sync = c_) :
    (doKettleChargeDeadline k s).whl.sync = c_ := by
  unfold doKettleChargeDeadline
  repeat' (with_reducible first | assumption | rfl | apply ktFault_sync | dsimp only | split | intro)

theorem doKettleOvervoltage_sync {c_ : Sync} (k volt : Nat) (s : State) (h_ : s.whl.sync = c_) :
    (doKettleOvervoltage k volt s).whl.sync = c_ := by
  unfold doKettleOvervoltage
  repeat' (with_reducible first | assumption | rfl | apply kettleLevel_sync | dsimp only | split | intro)

theorem doKettleCapacitance_sync {c_ : Sync} (k microfarad : Nat) (s : State) (h_ : s.whl.sync = c_) :
    (doKettleCapacitance k microfarad s).whl.sync = c_ := by
  unfold doKettleCapacitance
  repeat' (with_reducible first | assumption | rfl | apply State_setKettle_sync | apply calReport_sync | dsimp only | split | intro)

theorem regLatch_sync {c_ : Sync} (r : Requester) (a : Nat) (s : State) (h_ : s.whl.sync = c_) :
    (regLatch r a s).whl.sync = c_ := by
  unfold regLatch
  repeat' (with_reducible first | assumption | rfl | dsimp only | split | intro)

theorem doSnapshotRead_sync {c_ : Sync} (r : Requester) (a : Nat) (s : State) (h_ : s.whl.sync = c_) :
    (doSnapshotRead r a s).whl.sync = c_ := by
  unfold doSnapshotRead
  repeat' (with_reducible first | assumption | rfl | apply regLatch_sync | dsimp only | split | intro)

theorem doLnsAngleRead_sync {c_ : Sync} (r : Requester) (s : State) (h_ : s.whl.sync = c_) :
    (doLnsAngleRead r s).whl.sync = c_ := by
  unfold doLnsAngleRead
  repeat' (with_reducible first | assumption | rfl | apply regLatch_sync | dsimp only | split | intro)

theorem markBad_sync {c_ : Sync} (a source : Nat) (s : State) (h_ : s.whl.sync = c_) :
    (markBad a source s).whl.sync = c_ := by
  unfold markBad
  repeat' (with_reducible first | assumption | rfl | apply fault_sync | dsimp only | split | intro)

theorem eccFound_sync {c_ : Sync} (a : Nat) (s : State) (h_ : s.whl.sync = c_) :
    (eccFound a s).whl.sync = c_ := by
  unfold eccFound
  repeat' (with_reducible first | assumption | rfl | apply markBad_sync | apply doEventTableEccError_sync | dsimp only | split | intro)

theorem eccFixed_sync {c_ : Sync} (a : Nat) (s : State) (h_ : s.whl.sync = c_) :
    (eccFixed a s).whl.sync = c_ := by
  unfold eccFixed
  repeat' (with_reducible first | assumption | rfl | dsimp only | split | intro)

theorem eccRead_sync {c_ : Sync} (a : Nat) (e : Ecc) (s : State) (h_ : s.whl.sync = c_) :
    (eccRead a e s).whl.sync = c_ := by
  unfold eccRead
  repeat' (with_reducible first | assumption | rfl | apply eccFixed_sync | apply eccFound_sync | dsimp only | split | intro)

theorem eccRestored_sync {c_ : Sync} (a : Nat) (s : State) (h_ : s.whl.sync = c_) :
    (eccRestored a s).whl.sync = c_ := by
  unfold eccRestored
  repeat' (with_reducible first | assumption | rfl | dsimp only | split | intro)

theorem countWrite_sync {c_ : Sync} (p : Nat) (s : State) (h_ : s.whl.sync = c_) :
    (countWrite p s).whl.sync = c_ := by
  unfold countWrite
  repeat' (with_reducible first | assumption | rfl | dsimp only | split | intro)

theorem blockWritten_sync {c_ : Sync} (l : Nat) (s : State) (h_ : s.whl.sync = c_) :
    (blockWritten l s).whl.sync = c_ := by
  unfold blockWritten
  repeat' (with_reducible first | assumption | rfl | apply countWrite_sync | dsimp only | split | intro)

theorem blocksWritten_sync {c_ : Sync} (l : List Nat) (s : State) (h_ : s.whl.sync = c_) :
    (blocksWritten l s).whl.sync = c_ := by
  unfold blocksWritten
  repeat' (with_reducible first | assumption | rfl | apply forEach_sync | apply blockWritten_sync | dsimp only | split | intro)

theorem turnCopy_sync {c_ : Sync} (base : Nat) (s : State) (h_ : s.whl.sync = c_) :
    (turnCopy base s).whl.sync = c_ := by
  unfold turnCopy
  repeat' (with_reducible first | assumption | rfl | dsimp only | split | intro)

theorem regionWritten_sync {c_ : Sync} (base n : Nat) (s : State) (h_ : s.whl.sync = c_) :
    (regionWritten base n s).whl.sync = c_ := by
  unfold regionWritten
  repeat' (with_reducible first | assumption | rfl | apply turnCopy_sync | apply blocksWritten_sync | dsimp only | split | intro)

theorem logCaddy_sync {c_ : Sync} (block action : Nat) (s : State) (h_ : s.whl.sync = c_) :
    (logCaddy block action s).whl.sync = c_ := by
  unfold logCaddy
  repeat' (with_reducible first | assumption | rfl | apply log_sync | dsimp only | split | intro)

theorem retireBlock_sync {c_ : Sync} (s : State) (h_ : s.whl.sync = c_) :
    (retireBlock s).whl.sync = c_ := by
  unfold retireBlock
  repeat' (with_reducible first | assumption | rfl | apply raise_sync | apply logCaddy_sync | dsimp only | split | intro)

theorem writeFailed_sync {c_ : Sync} (block : Nat) (s : State) (h_ : s.whl.sync = c_) :
    (writeFailed block s).whl.sync = c_ := by
  unfold writeFailed
  repeat' (with_reducible first | assumption | rfl | apply fault_sync | apply logCaddy_sync | apply retireBlock_sync | dsimp only | split | intro)

theorem recordWritten_sync {c_ : Sync} (r : QsRecord) (s : State) (h_ : s.whl.sync = c_) :
    (recordWritten r s).whl.sync = c_ := by
  unfold recordWritten
  repeat' (with_reducible first | assumption | rfl | apply raise_sync | apply qsInvalidate_sync | dsimp only | split | intro)

theorem tailWritten_sync {c_ : Sync} (k : Nat) (s : State) (h_ : s.whl.sync = c_) :
    (tailWritten k s).whl.sync = c_ := by
  unfold tailWritten
  repeat' (with_reducible first | assumption | rfl | dsimp only | split | intro)

theorem flushOver_sync {c_ : Sync} (s : State) (h_ : s.whl.sync = c_) :
    (flushOver s).whl.sync = c_ := by
  unfold flushOver
  repeat' (with_reducible first | assumption | rfl | apply holdupSteps_sync | apply qsInvalidate_sync | dsimp only | split | intro)

theorem wearSaved_sync {c_ : Sync} (s : State) (h_ : s.whl.sync = c_) :
    (wearSaved s).whl.sync = c_ := by
  unfold wearSaved
  repeat' (with_reducible first | assumption | rfl | apply flushOver_sync | apply raise_sync | dsimp only | split | intro)

theorem jobDone_sync {c_ : Sync} (j : CaddyJob) (s : State) (h_ : s.whl.sync = c_) :
    (jobDone j s).whl.sync = c_ := by
  unfold jobDone
  repeat' (with_reducible first | assumption | rfl | apply recordWritten_sync | apply raise_sync | apply turnCopy_sync | apply tailWritten_sync | apply wearSaved_sync | apply logCaddy_sync | dsimp only | split | intro)

theorem popJob_sync {c_ : Sync} (s : State) (h_ : s.whl.sync = c_) :
    (popJob s).whl.sync = c_ := by
  unfold popJob
  repeat' (with_reducible first | assumption | rfl | apply jobDone_sync | dsimp only | split | intro)

theorem jobStep_sync {c_ : Sync} (ok : Bool) (j : CaddyJob) (s : State) (h_ : s.whl.sync = c_) :
    (jobStep ok j s).whl.sync = c_ := by
  unfold jobStep
  repeat' (with_reducible first | assumption | rfl | apply jobDone_sync | apply blockWritten_sync | apply popJob_sync | apply flushOver_sync | apply writeFailed_sync | apply retireBlock_sync | dsimp only | split | intro)

theorem doCaddyWriteComplete_sync {c_ : Sync} (ok : Bool) (s : State) (h_ : s.whl.sync = c_) :
    (doCaddyWriteComplete ok s).whl.sync = c_ := by
  unfold doCaddyWriteComplete
  repeat' (with_reducible first | assumption | rfl | apply jobStep_sync | dsimp only | split | intro)

theorem flushLoss_sync {c_ : Sync} (s : State) (h_ : s.whl.sync = c_) :
    (flushLoss s).whl.sync = c_ := by
  unfold flushLoss
  repeat' (with_reducible first | assumption | rfl | apply logPut_sync | apply raise_sync | dsimp only | split | intro)

theorem flushHead_sync {c_ : Sync} (s : State) (h_ : s.whl.sync = c_) : (flushHead s).whl.sync = c_ := by
  unfold flushHead
  split
  · exact h_
  · generalize leBytes 4 0x484C4C4B ++ _ ++ _ ++ _ = body
    repeat' (with_reducible first | assumption | rfl | apply logPut_sync | dsimp only | split | intro)

theorem startFlush_sync {c_ : Sync} (s : State) (h_ : s.whl.sync = c_) :
    (startFlush s).whl.sync = c_ := by
  unfold startFlush
  repeat' (with_reducible first | assumption | rfl | apply flushHead_sync | apply flushLoss_sync | apply caddyJob_sync | dsimp only | split | intro)

theorem logGuard_sync {c_ : Sync} (s : State) (h_ : s.whl.sync = c_) :
    (logGuard s).whl.sync = c_ := by
  unfold logGuard
  repeat' (with_reducible first | assumption | rfl | dsimp only | split | intro)

theorem doLogbookFlush_sync {c_ : Sync} (s : State) (h_ : s.whl.sync = c_) :
    (doLogbookFlush s).whl.sync = c_ := by
  unfold doLogbookFlush
  repeat' (with_reducible first | assumption | rfl | apply startFlush_sync | apply logGuard_sync | dsimp only | split | intro)

theorem blockLost_sync {c_ : Sync} (l : Nat) (s : State) (h_ : s.whl.sync = c_) :
    (blockLost l s).whl.sync = c_ := by
  unfold blockLost
  repeat' (with_reducible first | assumption | rfl | apply raise_sync | apply logCaddy_sync | dsimp only | split | intro)

theorem blockBad_sync {c_ : Sync} (l : Nat) (s : State) (h_ : s.whl.sync = c_) :
    (blockBad l s).whl.sync = c_ := by
  unfold blockBad
  repeat' (with_reducible first | assumption | rfl | apply blockLost_sync | apply caddyJob_sync | dsimp only | split | intro)

theorem refreshRead_sync {c_ : Sync} (p : Nat) (r : BlockRead) (s : State) (h_ : s.whl.sync = c_) :
    (refreshRead p r s).whl.sync = c_ := by
  unfold refreshRead
  repeat' (with_reducible first | assumption | rfl | apply blockBad_sync | apply caddyJob_sync | dsimp only | split | intro)

theorem doRetentionRefreshStep_sync {c_ : Sync} (r : BlockRead) (s : State) (h_ : s.whl.sync = c_) :
    (doRetentionRefreshStep r s).whl.sync = c_ := by
  unfold doRetentionRefreshStep
  repeat' (with_reducible first | assumption | rfl | apply refreshRead_sync | apply raise_sync | dsimp only | split | intro)

theorem reloadCollector_sync {c_ : Sync} (w : Nat) (s : State) (h_ : s.whl.sync = c_) :
    (reloadCollector w s).whl.sync = c_ := by
  unfold reloadCollector
  repeat' (with_reducible first | assumption | rfl | dsimp only | split | intro)

theorem envCopyError_sync {c_ : Sync} (s : State) (h_ : s.whl.sync = c_) :
    (envCopyError s).whl.sync = c_ := by
  unfold envCopyError
  repeat' (with_reducible first | assumption | rfl | apply fault_sync | dsimp only | split | intro)

theorem scrubBad_sync {c_ : Sync} (g : ScrubRegion) (p : Nat) (otherOk : Bool) (s : State) (h_ : s.whl.sync = c_) :
    (scrubBad g p otherOk s).whl.sync = c_ := by
  unfold scrubBad
  repeat' (with_reducible first | assumption | rfl | apply eccFound_sync | apply raise_sync | apply eccRestored_sync | apply doEventTableEccError_sync | apply State_memWrite_sync | apply envCopyError_sync | apply fault_sync | apply reloadCollector_sync | dsimp only | split | intro)

theorem scrubFixed_sync {c_ : Sync} (g : ScrubRegion) (p : Nat) (s : State) (h_ : s.whl.sync = c_) :
    (scrubFixed g p s).whl.sync = c_ := by
  unfold scrubFixed
  repeat' (with_reducible first | assumption | rfl | apply eccFixed_sync | dsimp only | split | intro)

theorem scrubNext_sync {c_ : Sync} (g : ScrubRegion) (s : State) (h_ : s.whl.sync = c_) :
    (scrubNext g s).whl.sync = c_ := by
  unfold scrubNext
  repeat' (with_reducible first | assumption | rfl | dsimp only | split | intro)

theorem scrubGuard_sync {c_ : Sync} (g : ScrubRegion) (s : State) (h_ : s.whl.sync = c_) :
    (scrubGuard g s).whl.sync = c_ := by
  unfold scrubGuard
  repeat' (with_reducible first | assumption | rfl | dsimp only | split | intro)

theorem doScrubAccess_sync {c_ : Sync} (g : ScrubRegion) (e : Ecc) (otherOk : Bool) (s : State) (h_ : s.whl.sync = c_) :
    (doScrubAccess g e otherOk s).whl.sync = c_ := by
  unfold doScrubAccess
  repeat' (with_reducible first | assumption | rfl | apply scrubGuard_sync | apply scrubFixed_sync | apply scrubBad_sync | apply scrubNext_sync | apply State_setSlot_sync | dsimp only | split | intro)

theorem doRulerCalibration_sync {c_ : Sync} (taps : BitVec 10) (halfPpm : Int) (s : State) (h_ : s.whl.sync = c_) :
    (doRulerCalibration taps halfPpm s).whl.sync = c_ := by
  unfold doRulerCalibration
  repeat' (with_reducible first | assumption | rfl | apply calReport_sync | dsimp only | split | intro)

theorem setStale_sync {c_ : Sync} (v : Bool) (i : SenseItem) (s : State) (h_ : s.whl.sync = c_) :
    (setStale v i s).whl.sync = c_ := by
  unfold setStale
  repeat' (with_reducible first | assumption | rfl | dsimp only | split | intro)

theorem doSenseCalibration_sync {c_ : Sync} (i : SenseItem) (s : State) (h_ : s.whl.sync = c_) :
    (doSenseCalibration i s).whl.sync = c_ := by
  unfold doSenseCalibration
  repeat' (with_reducible first | assumption | rfl | apply setStale_sync | dsimp only | split | intro)

theorem doSenseStale_sync {c_ : Sync} (i : SenseItem) (s : State) (h_ : s.whl.sync = c_) :
    (doSenseStale i s).whl.sync = c_ := by
  unfold doSenseStale
  repeat' (with_reducible first | assumption | rfl | apply calReport_sync | apply setStale_sync | dsimp only | split | intro)

theorem doTelemetryBatch_sync {c_ : Sync} (m : TelemetryMeas) (s : State) (h_ : s.whl.sync = c_) :
    (doTelemetryBatch m s).whl.sync = c_ := by
  unfold doTelemetryBatch
  repeat' (with_reducible first | assumption | rfl | apply logGuard_sync | apply raise_sync | dsimp only | split | intro)

theorem doCounterFrame_sync {c_ : Sync} (s : State) (h_ : s.whl.sync = c_) :
    (doCounterFrame s).whl.sync = c_ := by
  unfold doCounterFrame
  repeat' (with_reducible first | assumption | rfl | apply mirrorAt_sync | dsimp only | split | intro)

theorem doMirrorFrameSent_sync {c_ : Sync} (lane : Nat) (s : State) (h_ : s.whl.sync = c_) :
    (doMirrorFrameSent lane s).whl.sync = c_ := by
  unfold doMirrorFrameSent
  repeat' (with_reducible first | assumption | rfl | dsimp only | split | intro)

theorem lanesResume_sync {c_ : Sync} (s : State) (h_ : s.whl.sync = c_) :
    (lanesResume s).whl.sync = c_ := by
  unfold lanesResume
  repeat' (with_reducible first | assumption | rfl | dsimp only | split | intro)

theorem signed1_sync {c_ : Sync} (s : State) (h_ : s.whl.sync = c_) :
    (signed1 s).whl.sync = c_ := by
  unfold signed1
  repeat' (with_reducible first | assumption | rfl | dsimp only | split | intro)

theorem entropyUsed_sync {c_ : Sync} (n : Nat) (s : State) (h_ : s.whl.sync = c_) :
    (entropyUsed n s).whl.sync = c_ := by
  unfold entropyUsed
  repeat' (with_reducible first | assumption | rfl | dsimp only | split | intro)

theorem newChallenge_sync {c_ : Sync} (s : State) (h_ : s.whl.sync = c_) :
    (newChallenge s).whl.sync = c_ := by
  unfold newChallenge
  repeat' (with_reducible first | assumption | rfl | apply entropyUsed_sync | dsimp only | split | intro)

theorem linkFail_sync {c_ : Sync} (l : Link) (s : State) (h_ : s.whl.sync = c_) :
    (linkFail l s).whl.sync = c_ := by
  unfold linkFail
  repeat' (with_reducible first | assumption | rfl | apply State_setLink_sync | apply raiseIf_sync | dsimp only | split | intro)

theorem linkOk_sync {c_ : Sync} (l : Link) (s : State) (h_ : s.whl.sync = c_) :
    (linkOk l s).whl.sync = c_ := by
  unfold linkOk
  repeat' (with_reducible first | assumption | rfl | apply State_setLink_sync | dsimp only | split | intro)

theorem countSecFail_sync {c_ : Sync} (s : State) (h_ : s.whl.sync = c_) :
    (countSecFail s).whl.sync = c_ := by
  unfold countSecFail
  repeat' (with_reducible first | assumption | rfl | dsimp only | split | intro)

theorem signatureFail_sync {c_ : Sync} (l : Link) (s : State) (h_ : s.whl.sync = c_) :
    (signatureFail l s).whl.sync = c_ := by
  unfold signatureFail
  repeat' (with_reducible first | assumption | rfl | apply linkFail_sync | apply log_sync | apply raise_sync | apply countSecFail_sync | dsimp only | split | intro)

theorem countedFail_sync {c_ : Sync} (l : Link) (s : State) (h_ : s.whl.sync = c_) :
    (countedFail l s).whl.sync = c_ := by
  unfold countedFail
  repeat' (with_reducible first | assumption | rfl | apply linkFail_sync | apply raise_sync | apply countSecFail_sync | dsimp only | split | intro)

theorem plainFail_sync {c_ : Sync} (l : Link) (s : State) (h_ : s.whl.sync = c_) :
    (plainFail l s).whl.sync = c_ := by
  unfold plainFail
  repeat' (with_reducible first | assumption | rfl | apply linkFail_sync | apply raise_sync | dsimp only | split | intro)

theorem doLockoutExpiry_sync {c_ : Sync} (l : Link) (s : State) (h_ : s.whl.sync = c_) :
    (doLockoutExpiry l s).whl.sync = c_ := by
  unfold doLockoutExpiry
  repeat' (with_reducible first | assumption | rfl | apply raise_sync | apply State_setLink_sync | dsimp only | split | intro)

theorem setImage_sync {c_ : Sync} (x : Slot) (i : Image) (s : State) (h_ : s.whl.sync = c_) :
    (setImage x i s).whl.sync = c_ := by
  unfold setImage
  repeat' (with_reducible first | assumption | rfl | dsimp only | split | intro)

theorem logLink_sync {c_ : Sync} (l : Link) (event : Nat) (s : State) (h_ : s.whl.sync = c_) :
    (logLink l event s).whl.sync = c_ := by
  unfold logLink
  repeat' (with_reducible first | assumption | rfl | apply log_sync | dsimp only | split | intro)

theorem dropHoldings_sync {c_ : Sync} (l : Link) (s : State) (h_ : s.whl.sync = c_) :
    (dropHoldings l s).whl.sync = c_ := by
  unfold dropHoldings
  repeat' (with_reducible first | assumption | rfl | dsimp only | split | intro)

theorem closeSession_sync {c_ : Sync} (l : Link) (s : State) (h_ : s.whl.sync = c_) :
    (closeSession l s).whl.sync = c_ := by
  unfold closeSession
  repeat' (with_reducible first | assumption | rfl | apply State_setLink_sync | apply opened_sync | apply dropHoldings_sync | apply raise_sync | apply logLink_sync | dsimp only | split | intro)

theorem closeAll_sync {c_ : Sync} (s : State) (h_ : s.whl.sync = c_) :
    (closeAll s).whl.sync = c_ := by
  unfold closeAll
  repeat' (with_reducible first | assumption | rfl | apply closeSession_sync | dsimp only | split | intro)

theorem doSessionIdleTimeout_sync {c_ : Sync} (l : Link) (s : State) (h_ : s.whl.sync = c_) :
    (doSessionIdleTimeout l s).whl.sync = c_ := by
  unfold doSessionIdleTimeout
  repeat' (with_reducible first | assumption | rfl | apply closeSession_sync | dsimp only | split | intro)

theorem doSessionOpenTimeout_sync {c_ : Sync} (l : Link) (s : State) (h_ : s.whl.sync = c_) :
    (doSessionOpenTimeout l s).whl.sync = c_ := by
  unfold doSessionOpenTimeout
  repeat' (with_reducible first | assumption | rfl | apply countedFail_sync | apply closeSession_sync | dsimp only | split | intro)

theorem logLife_sync {c_ : Sync} (op : Nat) (s : State) (h_ : s.whl.sync = c_) :
    (logLife op s).whl.sync = c_ := by
  unfold logLife
  repeat' (with_reducible first | assumption | rfl | apply log_sync | dsimp only | split | intro)

theorem writeKeys_sync {c_ : Sync} (k : KeyStore) (s : State) (h_ : s.whl.sync = c_) :
    (writeKeys k s).whl.sync = c_ := by
  unfold writeKeys
  repeat' (with_reducible first | assumption | rfl | apply regionWritten_sync | dsimp only | split | intro)

theorem decommission_sync {c_ : Sync} (life : Life) (op : Nat) (forced : Bool) (s : State) (h_ : s.whl.sync = c_) :
    (decommission life op forced s).whl.sync = c_ := by
  unfold decommission
  repeat' (with_reducible first | assumption | rfl | apply writeKeys_sync | apply qsInvalidate_sync | apply raise_sync | apply logLife_sync | apply closeAll_sync | dsimp only | split | intro)

theorem startRecord_sync {c_ : Sync} (kind wakeBits : Nat) (s : State) (h_ : s.whl.sync = c_) :
    (startRecord kind wakeBits s).whl.sync = c_ := by
  unfold startRecord
  repeat' (with_reducible first | assumption | rfl | apply log_sync | dsimp only | split | intro)

theorem stopSequence_sync {c_ : Sync} (links : Bool) (s : State) (h_ : s.whl.sync = c_) :
    (stopSequence links s).whl.sync = c_ := by
  unfold stopSequence
  repeat' (with_reducible first | assumption | rfl | apply startRecord_sync | dsimp only | split | intro)

theorem doReferenceStarted_sync {c_ : Sync} (s : State) (h_ : s.whl.sync = c_) :
    (doReferenceStarted s).whl.sync = c_ := by
  unfold doReferenceStarted
  repeat' (with_reducible first | assumption | rfl | dsimp only | split | intro)

theorem stepSelfTest_sync {c_ : Sync} (r : StepResult) (s : State) (h_ : s.whl.sync = c_) :
    (stepSelfTest r s).whl.sync = c_ := by
  unfold stepSelfTest
  repeat' (with_reducible first | assumption | rfl | apply stopSequence_sync | apply raiseIf_sync | dsimp only | split | intro)

theorem driveBoot_sync {c_ : Sync} (s : State) (h_ : s.whl.sync = c_) :
    (driveBoot s).whl.sync = c_ := by
  unfold driveBoot
  repeat' (with_reducible first | assumption | rfl | apply forEach_sync | apply State_setBank_sync | apply ktUpdate_sync | apply State_setKettle_sync | dsimp only | split | intro)

theorem bootRetention_sync {c_ : Sync} (s : State) (h_ : s.whl.sync = c_) :
    (bootRetention s).whl.sync = c_ := by
  rw [bootRetention]
  generalize s.nv.kept.stale s.etc = o
  exact h_

theorem stepCaddy_sync {c_ : Sync} (r : StepResult) (s : State) (h_ : s.whl.sync = c_) :
    (stepCaddy r s).whl.sync = c_ := by
  unfold stepCaddy
  repeat' (with_reducible first | assumption | rfl | apply newChallenge_sync | apply bootRetention_sync | apply driveBoot_sync | apply forEach_sync | apply groupReport_sync | apply fault_sync | apply vbakCheck_sync | apply stopSequence_sync | dsimp only | split | intro)

theorem bootEnvelope_sync {c_ : Sync} (s : State) (h_ : s.whl.sync = c_) :
    (bootEnvelope s).whl.sync = c_ := by
  unfold bootEnvelope
  repeat' (with_reducible first | assumption | rfl | apply raise_sync | dsimp only | split | intro)

theorem bootWear_sync {c_ : Sync} (r : StepResult) (s : State) (h_ : s.whl.sync = c_) :
    (bootWear r s).whl.sync = c_ := by
  unfold bootWear
  repeat' (with_reducible first | assumption | rfl | apply forEach_sync | apply State_setChan_sync | dsimp only | split | intro)

theorem holdRecord_sync {c_ : Sync} (r : QsRecord) (s : State) (h_ : s.whl.sync = c_) :
    (holdRecord r s).whl.sync = c_ := by
  unfold holdRecord
  repeat' (with_reducible first | assumption | rfl | dsimp only | split | intro)

theorem bootRecord_sync {c_ : Sync} (s : State) (h_ : s.whl.sync = c_) :
    (bootRecord s).whl.sync = c_ := by
  unfold bootRecord
  repeat' (with_reducible first | assumption | rfl | apply raise_sync | apply qsInvalidate_sync | apply holdRecord_sync | dsimp only | split | intro)

theorem bootMap_sync {c_ : Sync} (s : State) (h_ : s.whl.sync = c_) :
    (bootMap s).whl.sync = c_ := by
  unfold bootMap
  repeat' (with_reducible first | assumption | rfl | apply raise_sync | dsimp only | split | intro)

theorem stepEnvelope_sync {c_ : Sync} (r : StepResult) (s : State) (h_ : s.whl.sync = c_) :
    (stepEnvelope r s).whl.sync = c_ := by
  unfold stepEnvelope
  repeat' (with_reducible first | assumption | rfl | apply bootMap_sync | apply bootRecord_sync | apply bootWear_sync | apply bootEnvelope_sync | dsimp only | split | intro)

theorem logImage_sync {c_ : Sync} (x : Slot) (event reason : Nat) (place : Nat × Nat) (s : State) (h_ : s.whl.sync = c_) :
    (logImage x event reason place s).whl.sync = c_ := by
  unfold logImage
  repeat' (with_reducible first | assumption | rfl | apply log_sync | dsimp only | split | intro)

theorem refuseSlot_sync {c_ : Sync} (x : Slot) (reason : Nat) (s : State) (h_ : s.whl.sync = c_) :
    (refuseSlot x reason s).whl.sync = c_ := by
  unfold refuseSlot
  repeat' (with_reducible first | assumption | rfl | apply raise_sync | apply logImage_sync | dsimp only | split | intro)

theorem declareTasks_sync {c_ : Sync} (tab : List Byte) (s : State) (h_ : s.whl.sync = c_) :
    (declareTasks tab s).whl.sync = c_ := by
  unfold declareTasks
  repeat' (with_reducible first | assumption | rfl | apply State_setCtx_sync | apply foldl_sync | apply foldl1_sync | dsimp only | split | intro)

theorem endSequence_sync {c_ : Sync} (phase : Nat) (s : State) (h_ : s.whl.sync = c_) :
    (endSequence phase s).whl.sync = c_ := by
  unfold endSequence
  repeat' (with_reducible first | assumption | rfl | apply ktLimits_sync | dsimp only | split | intro)

theorem runImage_sync {c_ : Sync} (x : Slot) (s : State) (h_ : s.whl.sync = c_) :
    (runImage x s).whl.sync = c_ := by
  unfold runImage
  repeat' (with_reducible first | assumption | rfl | apply State_memWrite_sync | apply declareTasks_sync | apply endSequence_sync | apply forEach_sync | apply activate_sync | apply startRecord_sync | dsimp only | split | intro)

theorem runSelected_sync {c_ : Sync} (s : State) (h_ : s.whl.sync = c_) :
    (runSelected s).whl.sync = c_ := by
  unfold runSelected
  repeat' (with_reducible first | assumption | rfl | apply writeKeys_sync | apply runImage_sync | dsimp only | split | intro)

theorem runOther_sync {c_ : Sync} (s : State) (h_ : s.whl.sync = c_) :
    (runOther s).whl.sync = c_ := by
  unfold runOther
  repeat' (with_reducible first | assumption | rfl | apply runImage_sync | apply writeKeys_sync | dsimp only | split | intro)

theorem stepImage_sync {c_ : Sync} (s : State) (h_ : s.whl.sync = c_) :
    (stepImage s).whl.sync = c_ := by
  unfold stepImage
  repeat' (with_reducible first | assumption | rfl | apply runSelected_sync | apply refuseSlot_sync | apply runOther_sync | apply startRecord_sync | apply endSequence_sync | dsimp only | split | intro)

theorem dropBadImages_sync {c_ : Sync} (s : State) (h_ : s.whl.sync = c_) :
    (dropBadImages s).whl.sync = c_ := by
  unfold dropBadImages
  repeat' (with_reducible first | assumption | rfl | dsimp only | split | intro)

theorem doResetStepComplete_sync {c_ : Sync} (r : StepResult) (s : State) (h_ : s.whl.sync = c_) :
    (doResetStepComplete r s).whl.sync = c_ := by
  unfold doResetStepComplete
  repeat' (with_reducible first | assumption | rfl | apply stepSelfTest_sync | apply stepCaddy_sync | apply stepEnvelope_sync | apply stepImage_sync | apply dropBadImages_sync | dsimp only | split | intro)

theorem State_setInput_sync {c_ : Sync} (s : State) (i : SupplyInput) (x : SupplyIn) (h_ : s.whl.sync = c_) :
    (Sys2Proof.Machine.State.setInput s i x).whl.sync = c_ := by
  unfold State.setInput
  repeat' (with_reducible first | assumption | rfl | dsimp only | split | intro)

theorem logSupply_sync {c_ : Sync} (old new : SupplyState) (steps us : Nat) (s : State) (h_ : s.whl.sync = c_) :
    (logSupply old new steps us s).whl.sync = c_ := by
  unfold logSupply
  repeat' (with_reducible first | assumption | rfl | apply log_sync | dsimp only | split | intro)

theorem supplyTo_sync {c_ : Sync} (new : SupplyState) (steps us : Nat) (s : State) (h_ : s.whl.sync = c_) :
    (supplyTo new steps us s).whl.sync = c_ := by
  unfold supplyTo
  repeat' (with_reducible first | assumption | rfl | apply mirrorState_sync | apply raise_sync | apply logSupply_sync | dsimp only | split | intro)

theorem holdupSteps_sync {c_ : Sync} (s : State) (h_ : s.whl.sync = c_) :
    (holdupSteps s).whl.sync = c_ := by
  unfold holdupSteps
  repeat' (with_reducible first | assumption | rfl | apply endAll_sync | apply withdrawAll_sync | apply stopTests_sync | apply ebAllOff_sync | apply ktLimits_sync | apply startFlush_sync | apply closeAll_sync | dsimp only | split | intro)

theorem enterHoldup_sync {c_ : Sync} (s : State) (h_ : s.whl.sync = c_) :
    (enterHoldup s).whl.sync = c_ := by
  unfold enterHoldup
  repeat' (with_reducible first | assumption | rfl | apply supplyTo_sync | apply holdupSteps_sync | apply wake_sync | dsimp only | split | intro)

theorem chanDown_sync {c_ : Sync} (k : Nat) (s : State) (h_ : s.whl.sync = c_) :
    (chanDown k s).whl.sync = c_ := by
  unfold chanDown
  repeat' (with_reducible first | assumption | rfl | apply State_setChan_sync | dsimp only | split | intro)

theorem enterDown_sync {c_ : Sync} (s : State) (h_ : s.whl.sync = c_) :
    (enterDown s).whl.sync = c_ := by
  unfold enterDown
  repeat' (with_reducible first | assumption | rfl | apply forEach_sync | apply chanDown_sync | apply ebAllOff_sync | apply ktUpdate_sync | apply stopTests_sync | apply ktLimits_sync | dsimp only | split | intro)

theorem bothLost_sync {c_ : Sync} (s : State) (h_ : s.whl.sync = c_) :
    (bothLost s).whl.sync = c_ := by
  unfold bothLost
  repeat' (with_reducible first | assumption | rfl | apply enterHoldup_sync | apply enterDown_sync | dsimp only | split | intro)

theorem supplyRun_sync {c_ : Sync} (new : SupplyState) (steps us : Nat) (s : State) (h_ : s.whl.sync = c_) :
    (supplyRun new steps us s).whl.sync = c_ := by
  unfold supplyRun
  repeat' (with_reducible first | assumption | rfl | apply vbakCheck_sync | apply ktLimits_sync | apply wake_sync | apply supplyTo_sync | dsimp only | split | intro)

theorem fromMain_sync {c_ : Sync} (s : State) (h_ : s.whl.sync = c_) :
    (fromMain s).whl.sync = c_ := by
  unfold fromMain
  repeat' (with_reducible first | assumption | rfl | apply vbakCheck_sync | apply bothLost_sync | apply supplyRun_sync | dsimp only | split | intro)

theorem overvoltCheck_sync {c_ : Sync} (i : SupplyInput) (before : Bool) (s : State) (h_ : s.whl.sync = c_) :
    (overvoltCheck i before s).whl.sync = c_ := by
  unfold overvoltCheck
  repeat' (with_reducible first | assumption | rfl | apply logSupply_sync | apply faultOnset_sync | apply raise_sync | apply faultEnd_sync | dsimp only | split | intro)

theorem doSupplyThresholdCrossing_sync {c_ : Sync} (i : SupplyInput) (th : Threshold) (up : Bool) (millivolt : Nat) (s : State) (h_ : s.whl.sync = c_) :
    (doSupplyThresholdCrossing i th up millivolt s).whl.sync = c_ := by
  unfold doSupplyThresholdCrossing
  repeat' (with_reducible first | assumption | rfl | apply State_setInput_sync | apply fromMain_sync | dsimp only | split | intro)

theorem vbakJudged_sync {c_ : Sync} (s : State) (h_ : s.whl.sync = c_) :
    (vbakJudged s).whl.sync = c_ := by
  unfold vbakJudged
  repeat' (with_reducible first | assumption | rfl | apply vbakCheck_sync | dsimp only | split | intro)

theorem doSupplyDebounceExpiry_sync {c_ : Sync} (s : State) (h_ : s.whl.sync = c_) :
    (doSupplyDebounceExpiry s).whl.sync = c_ := by
  unfold doSupplyDebounceExpiry
  repeat' (with_reducible first | assumption | rfl | apply supplyRun_sync | dsimp only | split | intro)

theorem leaveHoldup_sync {c_ : Sync} (new : SupplyState) (s : State) (h_ : s.whl.sync = c_) :
    (leaveHoldup new s).whl.sync = c_ := by
  unfold leaveHoldup
  repeat' (with_reducible first | assumption | rfl | apply holdupSteps_sync | apply supplyRun_sync | dsimp only | split | intro)

theorem doHoldupRecoveryExpiry_sync {c_ : Sync} (s : State) (h_ : s.whl.sync = c_) :
    (doHoldupRecoveryExpiry s).whl.sync = c_ := by
  unfold doHoldupRecoveryExpiry
  repeat' (with_reducible first | assumption | rfl | apply leaveHoldup_sync | dsimp only | split | intro)

theorem doHoldupStoreExhausted_sync {c_ : Sync} (s : State) (h_ : s.whl.sync = c_) :
    (doHoldupStoreExhausted s).whl.sync = c_ := by
  unfold doHoldupStoreExhausted
  repeat' (with_reducible first | assumption | rfl | apply enterDown_sync | dsimp only | split | intro)

theorem doHoldupStoreCharged_sync {c_ : Sync} (s : State) (h_ : s.whl.sync = c_) :
    (doHoldupStoreCharged s).whl.sync = c_ := by
  unfold doHoldupStoreCharged
  repeat' (with_reducible first | assumption | rfl | dsimp only | split | intro)

theorem doEnableChange_sync {c_ : Sync} (on : Bool) (s : State) (h_ : s.whl.sync = c_) :
    (doEnableChange on s).whl.sync = c_ := by
  unfold doEnableChange
  repeat' (with_reducible first | assumption | rfl | apply raise_sync | apply ebAllOff_sync | apply endAll_sync | apply withdrawAll_sync | apply wake_sync | apply ktLimits_sync | dsimp only | split | intro)

theorem doClaimNChange_sync {c_ : Sync} (on : Bool) (s : State) (h_ : s.whl.sync = c_) :
    (doClaimNChange on s).whl.sync = c_ := by
  unfold doClaimNChange
  repeat' (with_reducible first | assumption | rfl | apply raise_sync | dsimp only | split | intro)

theorem thermalFault_sync {c_ : Sync} (s : State) (h_ : s.whl.sync = c_) :
    (thermalFault s).whl.sync = c_ := by
  unfold thermalFault
  repeat' (with_reducible first | assumption | rfl | apply faultOnset_sync | apply faultEnd_sync | dsimp only | split | intro)

theorem doThermalThreshold_sync {c_ : Sync} (d : ThermalDomain) (celsius : Int) (s : State) (h_ : s.whl.sync = c_) :
    (doThermalThreshold d celsius s).whl.sync = c_ := by
  unfold doThermalThreshold
  repeat' (with_reducible first | assumption | rfl | apply raiseIf_sync | apply thermalFault_sync | apply ktLimits_sync | dsimp only | split | intro)

theorem doThermalDeratingChange_sync {c_ : Sync} (k : Nat) (tenths : Int) (s : State) (h_ : s.whl.sync = c_) :
    (doThermalDeratingChange k tenths s).whl.sync = c_ := by
  unfold doThermalDeratingChange
  repeat' (with_reducible first | assumption | rfl | apply ktLimit_sync | apply raise_sync | dsimp only | split | intro)

theorem railShow_sync {c_ : Sync} (v : Bool) (r : SensorRail) (s : State) (h_ : s.whl.sync = c_) :
    (railShow v r s).whl.sync = c_ := by
  unfold railShow
  repeat' (with_reducible first | assumption | rfl | apply State_setWheel_sync | dsimp only | split | intro)

theorem doSensorSupplyFault_sync {c_ : Sync} (r : SensorRail) (s : State) (h_ : s.whl.sync = c_) :
    (doSensorSupplyFault r s).whl.sync = c_ := by
  unfold doSensorSupplyFault
  repeat' (with_reducible first | assumption | rfl | apply faultOnset_sync | apply raise_sync | apply railShow_sync | dsimp only | split | intro)

theorem doSensorSupplyRecovery_sync {c_ : Sync} (r : SensorRail) (s : State) (h_ : s.whl.sync = c_) :
    (doSensorSupplyRecovery r s).whl.sync = c_ := by
  unfold doSensorSupplyRecovery
  repeat' (with_reducible first | assumption | rfl | apply faultEnd_sync | apply raise_sync | apply railShow_sync | dsimp only | split | intro)

theorem doReferenceLoss_sync {c_ : Sync} (s : State) (h_ : s.whl.sync = c_) :
    (doReferenceLoss s).whl.sync = c_ := by
  unfold doReferenceLoss
  repeat' (with_reducible first | assumption | rfl | apply faultOnset_sync | apply raise_sync | dsimp only | split | intro)

theorem doHoldoverExpiry_sync {c_ : Sync} (s : State) (h_ : s.whl.sync = c_) :
    (doHoldoverExpiry s).whl.sync = c_ := by
  unfold doHoldoverExpiry
  repeat' (with_reducible first | assumption | rfl | apply forEach_sync | apply withdraw_sync | apply faultOnset_sync | apply raise_sync | dsimp only | split | intro)

theorem doReferenceReturn_sync {c_ : Sync} (s : State) (h_ : s.whl.sync = c_) :
    (doReferenceReturn s).whl.sync = c_ := by
  unfold doReferenceReturn
  repeat' (with_reducible first | assumption | rfl | apply faultEnd_sync | dsimp only | split | intro)

theorem relocked_sync {c_ : Sync} (s : State) (h_ : s.whl.sync = c_) :
    (relocked s).whl.sync = c_ := by
  unfold relocked
  repeat' (with_reducible first | assumption | rfl | apply faultEnd_sync | apply raise_sync | dsimp only | split | intro)

theorem doRelockComplete_sync {c_ : Sync} (s : State) (h_ : s.whl.sync = c_) :
    (doRelockComplete s).whl.sync = c_ := by
  unfold doRelockComplete
  repeat' (with_reducible first | assumption | rfl | apply relocked_sync | dsimp only | split | intro)

theorem refusePower_sync {c_ : Sync} (r : Nat) (s : State) (h_ : s.whl.sync = c_) :
    (refusePower r s).whl.sync = c_ := by
  unfold refusePower
  repeat' (with_reducible first | assumption | rfl | dsimp only | split | intro)

theorem enterStandby_sync {c_ : Sync} (s : State) (h_ : s.whl.sync = c_) :
    (enterStandby s).whl.sync = c_ := by
  unfold enterStandby
  repeat' (with_reducible first | assumption | rfl | apply stopTests_sync | apply ktLimits_sync | dsimp only | split | intro)

theorem doStandbyRequest_sync {c_ : Sync} (s : State) (h_ : s.whl.sync = c_) :
    (doStandbyRequest s).whl.sync = c_ := by
  unfold doStandbyRequest
  repeat' (with_reducible first | assumption | rfl | apply enterStandby_sync | apply refusePower_sync | dsimp only | split | intro)

theorem doAutoStandby_sync {c_ : Sync} (s : State) (h_ : s.whl.sync = c_) :
    (doAutoStandby s).whl.sync = c_ := by
  unfold doAutoStandby
  repeat' (with_reducible first | assumption | rfl | apply doStandbyRequest_sync | dsimp only | split | intro)

theorem backToRun_sync {c_ : Sync} (s : State) (h_ : s.whl.sync = c_) :
    (backToRun s).whl.sync = c_ := by
  unfold backToRun
  repeat' (with_reducible first | assumption | rfl | apply lanesResume_sync | apply ktLimits_sync | dsimp only | split | intro)

theorem watchdogWake_sync {c_ : Sync} (s : State) (h_ : s.whl.sync = c_) :
    (watchdogWake s).whl.sync = c_ := by
  unfold watchdogWake
  repeat' (with_reducible first | assumption | rfl | dsimp only | split | intro)

theorem doStandbyWake_sync {c_ : Sync} (s : State) (h_ : s.whl.sync = c_) :
    (doStandbyWake s).whl.sync = c_ := by
  unfold doStandbyWake
  repeat' (with_reducible first | assumption | rfl | apply backToRun_sync | apply watchdogWake_sync | dsimp only | split | intro)

theorem enterSleep_sync {c_ : Sync} (s : State) (h_ : s.whl.sync = c_) :
    (enterSleep s).whl.sync = c_ := by
  unfold enterSleep
  repeat' (with_reducible first | assumption | rfl | apply stopTests_sync | apply startFlush_sync | apply ktLimits_sync | apply forEach_sync | apply ktUpdate_sync | dsimp only | split | intro)

theorem doSleepRequest_sync {c_ : Sync} (s : State) (h_ : s.whl.sync = c_) :
    (doSleepRequest s).whl.sync = c_ := by
  unfold doSleepRequest
  repeat' (with_reducible first | assumption | rfl | apply enterSleep_sync | apply refusePower_sync | dsimp only | split | intro)

theorem doAutoSleep_sync {c_ : Sync} (s : State) (h_ : s.whl.sync = c_) :
    (doAutoSleep s).whl.sync = c_ := by
  unfold doAutoSleep
  repeat' (with_reducible first | assumption | rfl | apply doSleepRequest_sync | dsimp only | split | intro)

theorem doSleepEntryComplete_sync {c_ : Sync} (s : State) (h_ : s.whl.sync = c_) :
    (doSleepEntryComplete s).whl.sync = c_ := by
  unfold doSleepEntryComplete
  repeat' (with_reducible first | assumption | rfl | apply ebAllOff_sync | dsimp only | split | intro)

theorem powerSettle_sync {c_ : Sync} (s : State) (h_ : s.whl.sync = c_) :
    (powerSettle s).whl.sync = c_ := by
  unfold powerSettle
  repeat' (with_reducible first | assumption | rfl | apply lanesResume_sync | apply forEach_sync | apply ktUpdate_sync | apply ktLimits_sync | dsimp only | split | intro)

theorem makeUpOne_sync {c_ : Sync} (n : Nat) (s : State) (h_ : s.whl.sync = c_) :
    (makeUpOne n s).whl.sync = c_ := by
  unfold makeUpOne
  repeat' (with_reducible first | assumption | rfl | apply timAct_sync | apply State_setTimer_sync | dsimp only | split | intro)

theorem markMadeUp_sync {c_ : Sync} (old s : State) (h_ : s.whl.sync = c_) :
    (markMadeUp old s).whl.sync = c_ := by
  unfold markMadeUp
  repeat' (with_reducible first | assumption | rfl | apply forEach_sync | apply State_setTimer_sync | dsimp only | split | intro)

theorem makeUp_sync {c_ : Sync} (n : Nat) (s : State) (h_ : s.whl.sync = c_) :
    (makeUp n s).whl.sync = c_ := by
  unfold makeUp
  repeat' (with_reducible first | assumption | rfl | apply State_setTimer_sync | apply markMadeUp_sync | apply makeUpOne_sync | dsimp only | split | intro)

theorem makeUpAll_sync {c_ : Sync} (s : State) (h_ : s.whl.sync = c_) :
    (makeUpAll s).whl.sync = c_ := by
  unfold makeUpAll
  repeat' (with_reducible first | assumption | rfl | apply forEach_sync | apply makeUp_sync | dsimp only | split | intro)

theorem closeLapsed_sync {c_ : Sync} (s : State) (h_ : s.whl.sync = c_) :
    (closeLapsed s).whl.sync = c_ := by
  unfold closeLapsed
  repeat' (with_reducible first | assumption | rfl | apply closeSession_sync | apply foldl_sync | apply foldl1_sync | dsimp only | split | intro)

theorem wakeUp_sync {c_ : Sync} (s : State) (h_ : s.whl.sync = c_) :
    (wakeUp s).whl.sync = c_ := by
  unfold wakeUp
  repeat' (with_reducible first | assumption | rfl | apply watchdogWake_sync | apply makeUpAll_sync | apply relocked_sync | apply closeLapsed_sync | apply backToRun_sync | apply startRecord_sync | apply holdupSteps_sync | dsimp only | split | intro)

theorem doSleepWake_sync {c_ : Sync} (cause : Option (Fin 4)) (s : State) (h_ : s.whl.sync = c_) :
    (doSleepWake cause s).whl.sync = c_ := by
  unfold doSleepWake
  repeat' (with_reducible first | assumption | rfl | apply wake_sync | apply qsInvalidate_sync | apply wakeUp_sync | dsimp only | split | intro)

theorem State_setTarget_sync {c_ : Sync} (s : State) (g : IrqTarget) (x : IrcTarget) (h_ : s.whl.sync = c_) :
    (Sys2Proof.Machine.State.setTarget s g x).whl.sync = c_ := by
  unfold State.setTarget
  repeat' (with_reducible first | assumption | rfl | dsimp only | split | intro)

theorem doIrqClaim_sync {c_ : Sync} (g : IrqTarget) (src : Nat) (s : State) (h_ : s.whl.sync = c_) :
    (doIrqClaim g src s).whl.sync = c_ := by
  unfold doIrqClaim
  repeat' (with_reducible first | assumption | rfl | apply State_setTarget_sync | dsimp only | split | intro)

theorem doIrqComplete_sync {c_ : Sync} (g : IrqTarget) (src : Nat) (s : State) (h_ : s.whl.sync = c_) :
    (doIrqComplete g src s).whl.sync = c_ := by
  unfold doIrqComplete
  repeat' (with_reducible first | assumption | rfl | apply State_setTarget_sync | dsimp only | split | intro)

theorem doModerationHoldEnd_sync {c_ : Sync} (s : State) (h_ : s.whl.sync = c_) :
    (doModerationHoldEnd s).whl.sync = c_ := by
  unfold doModerationHoldEnd
  repeat' (with_reducible first | assumption | rfl | dsimp only | split | intro)

theorem doGraceDeadline_sync {c_ : Sync} (s : State) (h_ : s.whl.sync = c_) :
    (doGraceDeadline s).whl.sync = c_ := by
  unfold doGraceDeadline
  repeat' (with_reducible first | assumption | rfl | apply graceDue_sync | dsimp only | split | intro)

theorem doFaultAcknowledge_sync {c_ : Sync} (w : Nat) (mask : Word) (s : State) (h_ : s.whl.sync = c_) :
    (doFaultAcknowledge w mask s).whl.sync = c_ := by
  unfold doFaultAcknowledge
  repeat' (with_reducible first | assumption | rfl | apply acknowledge_sync | apply graceDue_sync | dsimp only | split | intro)

theorem doWatchdogService_sync {c_ : Sync} (v : BitVec 16) (s : State) (h_ : s.whl.sync = c_) :
    (doWatchdogService v s).whl.sync = c_ := by
  unfold doWatchdogService
  repeat' (with_reducible first | assumption | rfl | apply fault_sync | dsimp only | split | intro)

theorem doWatchdogTimeout_sync {c_ : Sync} (s : State) (h_ : s.whl.sync = c_) :
    (doWatchdogTimeout s).whl.sync = c_ := by
  unfold doWatchdogTimeout
  repeat' (with_reducible first | assumption | rfl | apply fault_sync | apply wake_sync | dsimp only | split | intro)

theorem doWatchdogWarning_sync {c_ : Sync} (s : State) (h_ : s.whl.sync = c_) :
    (doWatchdogWarning s).whl.sync = c_ := by
  unfold doWatchdogWarning
  repeat' (with_reducible first | assumption | rfl | apply raise_sync | dsimp only | split | intro)

theorem writeWdtCfg_sync {c_ : Sync} (v : Nat) (s : State) (h_ : s.whl.sync = c_) :
    (writeWdtCfg v s).whl.sync = c_ := by
  unfold writeWdtCfg
  repeat' (with_reducible first | assumption | rfl | dsimp only | split | intro)

theorem doHandshakeStall_sync {c_ : Sync} (s : State) (h_ : s.whl.sync = c_) :
    (doHandshakeStall s).whl.sync = c_ := by
  unfold doHandshakeStall
  repeat' (with_reducible first | assumption | rfl | apply fault_sync | dsimp only | split | intro)

theorem doMgmtCoreStall_sync {c_ : Sync} (s : State) (h_ : s.whl.sync = c_) :
    (doMgmtCoreStall s).whl.sync = c_ := by
  unfold doMgmtCoreStall
  repeat' (with_reducible first | assumption | rfl | apply fault_sync | dsimp only | split | intro)

theorem placeFrame_sync {c_ : Sync} (s : State) (h_ : s.whl.sync = c_) :
    (placeFrame s).whl.sync = c_ := by
  unfold placeFrame
  repeat' (with_reducible first | assumption | rfl | apply raise_sync | dsimp only | split | intro)

theorem sendMsg_sync {c_ : Sync} (l : Link) (mtag : Byte) (m : List Byte) (s : State) (h_ : s.whl.sync = c_) :
    (sendMsg l mtag m s).whl.sync = c_ := by
  unfold sendMsg
  repeat' (with_reducible first | assumption | rfl | apply State_setLink_sync | apply placeFrame_sync | dsimp only | split | intro)

theorem linkError_sync {c_ : Sync} (l : Link) (reason : Nat) (mtag : Byte) (s : State) (h_ : s.whl.sync = c_) :
    (linkError l reason mtag s).whl.sync = c_ := by
  unfold linkError
  repeat' (with_reducible first | assumption | rfl | apply State_setLink_sync | apply sendMsg_sync | dsimp only | split | intro)

theorem counterUsed_sync {c_ : Sync} (l : Link) (x : Session) (s : State) (h_ : s.whl.sync = c_) :
    (counterUsed l x s).whl.sync = c_ := by
  unfold counterUsed
  repeat' (with_reducible first | assumption | rfl | apply State_setLink_sync | apply opened_sync | apply closeSession_sync | dsimp only | split | intro)

theorem sendSealed_sync {c_ : Sync} (l : Link) (mtag : Byte) (x : Session) (inner : List Byte) (s : State) (h_ : s.whl.sync = c_) :
    (sendSealed l mtag x inner s).whl.sync = c_ := by
  unfold sendSealed
  repeat' (with_reducible first | assumption | rfl | apply counterUsed_sync | apply sendMsg_sync | dsimp only | split | intro)

theorem respond_sync {c_ : Sync} (l : Link) (before : State) (r : Request) (a : Reply) (h_ : a.state.whl.sync = c_) :
    (respond l before r a).whl.sync = c_ := by
  unfold respond
  repeat' (with_reducible first | assumption | rfl | apply State_setLink_sync | apply sendMsg_sync | apply opened_sync | apply sendSealed_sync | dsimp only | split | intro)

theorem doMbxSend_sync {c_ : Sync} (len : Nat) (s : State) (h_ : s.whl.sync = c_) :
    (doMbxSend len s).whl.sync = c_ := by
  unfold doMbxSend
  repeat' (with_reducible first | assumption | rfl | apply linkError_sync | dsimp only | split | intro)

theorem doMbxRxDone_sync {c_ : Sync} (s : State) (h_ : s.whl.sync = c_) :
    (doMbxRxDone s).whl.sync = c_ := by
  unfold doMbxRxDone
  repeat' (with_reducible first | assumption | rfl | apply placeFrame_sync | dsimp only | split | intro)

theorem doMbxAbort_sync {c_ : Sync} (s : State) (h_ : s.whl.sync = c_) :
    (doMbxAbort s).whl.sync = c_ := by
  unfold doMbxAbort
  repeat' (with_reducible first | assumption | rfl | apply State_setLink_sync | dsimp only | split | intro)

theorem doCanBusOff_sync {c_ : Sync} (second : Bool) (s : State) (h_ : s.whl.sync = c_) :
    (doCanBusOff second s).whl.sync = c_ := by
  unfold doCanBusOff
  repeat' (with_reducible first | assumption | rfl | apply raise_sync | apply logLink_sync | apply State_setLink_sync | dsimp only | split | intro)

theorem doCanBusOffRecovery_sync {c_ : Sync} (second : Bool) (s : State) (h_ : s.whl.sync = c_) :
    (doCanBusOffRecovery second s).whl.sync = c_ := by
  unfold doCanBusOffRecovery
  repeat' (with_reducible first | assumption | rfl | apply raise_sync | apply State_setLink_sync | dsimp only | split | intro)

theorem doCanFrameTransmitted_sync {c_ : Sync} (second : Bool) (s : State) (h_ : s.whl.sync = c_) :
    (doCanFrameTransmitted second s).whl.sync = c_ := by
  unfold doCanFrameTransmitted
  repeat' (with_reducible first | assumption | rfl | apply State_setLink_sync | dsimp only | split | intro)

theorem answerPlain_sync {c_ : Sync} (l : Link) (mtag : Byte) (code rtag status detail : Nat) (data : List Byte) (s : State) (h_ : s.whl.sync = c_) :
    (answerPlain l mtag code rtag status detail data s).whl.sync = c_ := by
  unfold answerPlain
  repeat' (with_reducible first | assumption | rfl | apply sendMsg_sync | dsimp only | split | intro)

theorem answerSealed_sync {c_ : Sync} (l : Link) (mtag : Byte) (code rtag status detail : Nat) (keep : Bool) (s : State) (h_ : s.whl.sync = c_) :
    (answerSealed l mtag code rtag status detail keep s).whl.sync = c_ := by
  unfold answerSealed
  repeat' (with_reducible first | assumption | rfl | apply opened_sync | apply sendSealed_sync | dsimp only | split | intro)

theorem takeRequest_sync {c_ : Sync} (l : Link) (mtag : Byte) (code rtag : Nat) (body : List Byte) (isSealed : Bool) (s : State) (h_ : s.whl.sync = c_) :
    (takeRequest l mtag code rtag body isSealed s).whl.sync = c_ := by
  unfold takeRequest
  repeat' (with_reducible first | assumption | rfl | apply State_setLink_sync | dsimp only | split | intro)

theorem claimAttempt_sync {c_ : Sync} (code : Nat) (s : State) (h_ : s.whl.sync = c_) :
    (claimAttempt code s).whl.sync = c_ := by
  unfold claimAttempt
  repeat' (with_reducible first | assumption | rfl | apply newChallenge_sync | dsimp only | split | intro)

theorem plainIn_sync {c_ : Sync} (l : Link) (mtag : Byte) (m : List Byte) (s : State) (h_ : s.whl.sync = c_) :
    (plainIn l mtag m s).whl.sync = c_ := by
  unfold plainIn
  repeat' (with_reducible first | assumption | rfl | apply answerPlain_sync | apply claimAttempt_sync | apply plainFail_sync | apply takeRequest_sync | dsimp only | split | intro)

theorem innerIn_sync {c_ : Sync} (l : Link) (mtag : Byte) (x : Session) (m : List Byte) (s : State) (h_ : s.whl.sync = c_) :
    (innerIn l mtag x m s).whl.sync = c_ := by
  unfold innerIn
  repeat' (with_reducible first | assumption | rfl | apply answerSealed_sync | apply plainFail_sync | apply takeRequest_sync | dsimp only | split | intro)

theorem acceptSealed_sync {c_ : Sync} (l : Link) (mtag : Byte) (x : Session) (ctr : Nat) (m : List Byte) (s : State) (h_ : s.whl.sync = c_) :
    (acceptSealed l mtag x ctr m s).whl.sync = c_ := by
  unfold acceptSealed
  repeat' (with_reducible first | assumption | rfl | apply linkOk_sync | apply State_setLink_sync | apply opened_sync | apply closeSession_sync | apply answerSealed_sync | apply sendSealed_sync | apply innerIn_sync | dsimp only | split | intro)

theorem sealFailure_sync {c_ : Sync} (l : Link) (x : Session) (s : State) (h_ : s.whl.sync = c_) :
    (sealFailure l x s).whl.sync = c_ := by
  unfold sealFailure
  repeat' (with_reducible first | assumption | rfl | apply countedFail_sync | apply State_setLink_sync | apply opened_sync | apply closeSession_sync | dsimp only | split | intro)

theorem sealedIn_sync {c_ : Sync} (l : Link) (mtag : Byte) (m : List Byte) (s : State) (h_ : s.whl.sync = c_) :
    (sealedIn l mtag m s).whl.sync = c_ := by
  unfold sealedIn
  repeat' (with_reducible first | assumption | rfl | apply answerPlain_sync | apply opened_sync | apply sealFailure_sync | apply acceptSealed_sync | dsimp only | split | intro)

theorem messageIn_sync {c_ : Sync} (l : Link) (mtag : Byte) (m : List Byte) (s : State) (h_ : s.whl.sync = c_) :
    (messageIn l mtag m s).whl.sync = c_ := by
  unfold messageIn
  repeat' (with_reducible first | assumption | rfl | apply answerPlain_sync | apply claimAttempt_sync | apply sealedIn_sync | apply plainIn_sync | dsimp only | split | intro)

theorem extendMessage_sync {c_ : Sync} (l : Link) (mtag : Byte) (seg : Nat) (last : Bool) (b : List Byte) (s : State) (h_ : s.whl.sync = c_) :
    (extendMessage l mtag seg last b s).whl.sync = c_ := by
  unfold extendMessage
  repeat' (with_reducible first | assumption | rfl | apply linkError_sync | apply messageIn_sync | apply State_setLink_sync | dsimp only | split | intro)

theorem frameStep_sync {c_ : Sync} (l : Link) (f : List Byte) (s : State) (h_ : s.whl.sync = c_) :
    (frameStep l f s).whl.sync = c_ := by
  unfold frameStep
  repeat' (with_reducible first | assumption | rfl | apply linkError_sync | apply extendMessage_sync | dsimp only | split | intro)

theorem gapCheck_sync {c_ : Sync} (l : Link) (s : State) (h_ : s.whl.sync = c_) :
    (gapCheck l s).whl.sync = c_ := by
  unfold gapCheck
  repeat' (with_reducible first | assumption | rfl | apply linkError_sync | dsimp only | split | intro)

theorem doFrameGapTimeout_sync {c_ : Sync} (l : Link) (s : State) (h_ : s.whl.sync = c_) :
    (doFrameGapTimeout l s).whl.sync = c_ := by
  unfold doFrameGapTimeout
  repeat' (with_reducible first | assumption | rfl | apply gapCheck_sync | dsimp only | split | intro)

theorem frameIn_sync {c_ : Sync} (l : Link) (f : List Byte) (s : State) (h_ : s.whl.sync = c_) :
    (frameIn l f s).whl.sync = c_ := by
  unfold frameIn
  repeat' (with_reducible first | assumption | rfl | apply wake_sync | apply gapCheck_sync | apply doSessionOpenTimeout_sync | apply doSessionIdleTimeout_sync | apply frameStep_sync | apply linkError_sync | dsimp only | split | intro)

theorem doOhmacFrame_sync {c_ : Sync} (src : FrameSource) (s : State) (h_ : s.whl.sync = c_) :
    (doOhmacFrame src s).whl.sync = c_ := by
  unfold doOhmacFrame
  repeat' (with_reducible first | assumption | rfl | apply frameIn_sync | apply raise_sync | dsimp only | split | intro)

theorem refusal_sync {c_ : Sync} (status detail : Nat) (s : State) (h_ : s.whl.sync = c_) :
    (refusal status detail s).state.whl.sync = c_ := by
  unfold refusal
  repeat' (with_reducible first | assumption | rfl | dsimp only | split | intro)

theorem success_sync {c_ : Sync} (data : List Byte) (s : State) (h_ : s.whl.sync = c_) :
    (success data s).state.whl.sync = c_ := by
  unfold success
  repeat' (with_reducible first | assumption | rfl | dsimp only | split | intro)

theorem command_sync {c_ : Sync} (l : Link) (code : Nat) (f : Request → State → Reply) (s : State) (h_f : ∀ i (s : State), s.whl.sync = c_ → (f i s).state.whl.sync = c_) (h_ : s.whl.sync = c_) :
    (command l code f s).whl.sync = c_ := by
  unfold command
  repeat' (with_reducible first | assumption | rfl | apply respond_sync | apply refusal_sync | apply h_f | dsimp only | split | intro)

theorem malformed_sync {c_ : Sync} (l : Link) (offset : Nat) (s : State) (h_ : s.whl.sync = c_) :
    (malformed l offset s).state.whl.sync = c_ := by
  unfold malformed
  repeat' (with_reducible first | assumption | rfl | apply refusal_sync | apply plainFail_sync | dsimp only | split | intro)

theorem sized_sync {c_ : Sync} (l : Link) (n : Nat) (r : Request) (s : State) (k : Unit → Reply) (h_ : s.whl.sync = c_) (h : (k ()).state.whl.sync = c_) :
    (sized l n r s k).state.whl.sync = c_ := by
  unfold sized
  repeat' (with_reducible first | assumption | rfl | apply malformed_sync | dsimp only | split | intro)

theorem doIdentity_sync {c_ : Sync} (l : Link) (s : State) (h_ : s.whl.sync = c_) :
    (doIdentity l s).whl.sync = c_ := by
  unfold doIdentity
  repeat' (with_reducible first | assumption | rfl | apply command_sync | apply sized_sync | apply success_sync | dsimp only | split | intro)

theorem doAttest_sync {c_ : Sync} (l : Link) (s : State) (h_ : s.whl.sync = c_) :
    (doAttest l s).whl.sync = c_ := by
  unfold doAttest
  repeat' (with_reducible first | assumption | rfl | apply command_sync | apply sized_sync | apply success_sync | apply signed1_sync | dsimp only | split | intro)

theorem claimDone_sync {c_ : Sync} (l : Link) (stored : Bool) (b : List Byte) (s : State) (h_ : s.whl.sync = c_) :
    (claimDone l stored b s).state.whl.sync = c_ := by
  unfold claimDone
  repeat' (with_reducible first | assumption | rfl | apply refusal_sync | apply writeFailed_sync | apply raise_sync | apply logLife_sync | apply linkOk_sync | apply writeKeys_sync | apply success_sync | apply signed1_sync | dsimp only | split | intro)

theorem claimReply_sync {c_ : Sync} (l : Link) (stored : Bool) (r : Request) (s : State) (h_ : s.whl.sync = c_) :
    (claimReply l stored r s).state.whl.sync = c_ := by
  unfold claimReply
  repeat' (with_reducible first | assumption | rfl | apply refusal_sync | apply malformed_sync | apply plainFail_sync | apply signatureFail_sync | apply claimDone_sync | dsimp only | split | intro)

theorem doClaim_sync {c_ : Sync} (l : Link) (stored : Bool) (s : State) (h_ : s.whl.sync = c_) :
    (doClaim l stored s).whl.sync = c_ := by
  unfold doClaim
  repeat' (with_reducible first | assumption | rfl | apply claimReply_sync | apply refusal_sync | apply respond_sync | apply newChallenge_sync | dsimp only | split | intro)

theorem ownerCheck_sync {c_ : Sync} (l : Link) (b : List Byte) (s : State) (h_ : s.whl.sync = c_) (x_ : Reply) (hx_ : (ownerCheck l b s) = some x_) :
    x_.state.whl.sync = c_ := by
  unfold ownerCheck at hx_
  (try dsimp only at hx_) <;> (repeat' split at hx_) <;> first | (cases hx_; repeat' (with_reducible first | assumption | rfl | apply refusal_sync | apply malformed_sync | apply signatureFail_sync | apply countedFail_sync | dsimp only | split | intro)) | (simp at hx_; done) | (simp_all; done)

theorem ownerOp_sync {c_ : Sync} (l : Link) (op : Nat) (stored : Bool) (pre : List Byte → State → Option Reply) (act : List Byte → State → State) (s : State) (h_pre : ∀ i (s : State) r, pre i s = some r → s.whl.sync = c_ → r.state.whl.sync = c_) (h_act : ∀ i (s : State), s.whl.sync = c_ → (act i s).whl.sync = c_) (h_ : s.whl.sync = c_) :
    (ownerOp l op stored pre act s).whl.sync = c_ := by
  unfold ownerOp
  split
  · exact h_
  · split
    · exact h_
    · apply command_sync _ _ _ _ _ h_
      intro r s h_
      dsimp only
      split
      · rename_i x hx
        exact or_sync _ _ (fun y hy => ownerCheck_sync _ _ _ h_ _ hy) (fun y hy => h_pre _ _ _ hy h_) _ hx
      · repeat' (with_reducible first | assumption | rfl | apply command_sync | apply refusal_sync | apply writeFailed_sync | apply linkOk_sync | apply writeKeys_sync | apply success_sync | apply h_act | dsimp only | split | intro)

theorem slotRange_sync {c_ : Sync} (b : List Byte) (s : State) (h_ : s.whl.sync = c_) (x_ : Reply) (hx_ : (slotRange b s) = some x_) :
    x_.state.whl.sync = c_ := by
  unfold slotRange at hx_
  (try dsimp only at hx_) <;> (repeat' split at hx_) <;> first | (cases hx_; repeat' (with_reducible first | assumption | rfl | apply refusal_sync | dsimp only | split | intro)) | (simp at hx_; done) | (simp_all; done)

theorem setOperator_sync {c_ : Sync} (i : Nat) (c : Option (List Byte)) (s : State) (h_ : s.whl.sync = c_) :
    (setOperator i c s).whl.sync = c_ := by
  unfold setOperator
  repeat' (with_reducible first | assumption | rfl | apply writeKeys_sync | dsimp only | split | intro)

theorem closeSlot_sync {c_ : Sync} (i : Nat) (s : State) (h_ : s.whl.sync = c_) :
    (closeSlot i s).whl.sync = c_ := by
  unfold closeSlot
  repeat' (with_reducible first | assumption | rfl | apply closeSession_sync | apply foldl_sync | apply foldl1_sync | dsimp only | split | intro)

theorem doEnrol_sync {c_ : Sync} (l : Link) (stored : Bool) (s : State) (h_ : s.whl.sync = c_) :
    (doEnrol l stored s).whl.sync = c_ := by
  unfold doEnrol
  refine ownerOp_sync _ _ _ _ _ _ (fun b s x hx h_ => ?_) (fun b s h_ => ?_) h_
  · dsimp only at hx
    split at hx
    · cases hx; repeat' (with_reducible first | assumption | rfl | apply ownerOp_sync | apply malformed_sync | apply refusal_sync | apply signatureFail_sync | apply logLife_sync | apply setOperator_sync | dsimp only | split | intro)
    · refine or_sync _ _ (fun y hy => slotRange_sync _ _ h_ _ hy) (fun y hy => ?_) _ hx
      split at hy
      · cases hy
      · cases hy; repeat' (with_reducible first | assumption | rfl | apply ownerOp_sync | apply malformed_sync | apply refusal_sync | apply signatureFail_sync | apply logLife_sync | apply setOperator_sync | dsimp only | split | intro)
  · repeat' (with_reducible first | assumption | rfl | apply ownerOp_sync | apply malformed_sync | apply refusal_sync | apply signatureFail_sync | apply logLife_sync | apply setOperator_sync | dsimp only | split | intro)

theorem doRevoke_sync {c_ : Sync} (l : Link) (stored : Bool) (s : State) (h_ : s.whl.sync = c_) :
    (doRevoke l stored s).whl.sync = c_ := by
  unfold doRevoke
  refine ownerOp_sync _ _ _ _ _ _ (fun b s x hx h => slotRange_sync _ _ h _ hx) (fun b s h_ => ?_) h_
  repeat' (with_reducible first | assumption | rfl | apply ownerOp_sync | apply closeSlot_sync | apply logLife_sync | apply setOperator_sync | dsimp only | split | intro)

theorem doTransfer_sync {c_ : Sync} (l : Link) (stored : Bool) (s : State) (h_ : s.whl.sync = c_) :
    (doTransfer l stored s).whl.sync = c_ := by
  unfold doTransfer
  refine ownerOp_sync _ _ _ _ _ _ (fun b s x hx h_ => ?_) (fun b s h_ => ?_) h_
  · split at hx
    · cases hx
    · cases hx; repeat' (with_reducible first | assumption | rfl | apply ownerOp_sync | apply refusal_sync | apply plainFail_sync | apply raise_sync | apply closeAll_sync | apply logLife_sync | apply writeKeys_sync | dsimp only | split | intro)
  · repeat' (with_reducible first | assumption | rfl | apply ownerOp_sync | apply refusal_sync | apply plainFail_sync | apply raise_sync | apply closeAll_sync | apply logLife_sync | apply writeKeys_sync | dsimp only | split | intro)

theorem needNosync_sync {c_ : Sync} (s : State) (h_ : s.whl.sync = c_) (x_ : Reply) (hx_ : (needNosync s) = some x_) :
    x_.state.whl.sync = c_ := by
  unfold needNosync at hx_
  (try dsimp only at hx_) <;> (repeat' split at hx_) <;> first | (cases hx_; repeat' (with_reducible first | assumption | rfl | apply refusal_sync | dsimp only | split | intro)) | (simp at hx_; done) | (simp_all; done)

theorem doDecommission_sync {c_ : Sync} (l : Link) (stored : Bool) (s : State) (h_ : s.whl.sync = c_) :
    (doDecommission l stored s).whl.sync = c_ := by
  unfold doDecommission
  refine ownerOp_sync _ _ _ _ _ _ (fun b s x hx h => needNosync_sync _ h _ hx) (fun b s h_ => ?_) h_
  repeat' (with_reducible first | assumption | rfl | apply ownerOp_sync | apply decommission_sync | dsimp only | split | intro)

theorem doRetire_sync {c_ : Sync} (l : Link) (stored : Bool) (s : State) (h_ : s.whl.sync = c_) :
    (doRetire l stored s).whl.sync = c_ := by
  unfold doRetire
  refine ownerOp_sync _ _ _ _ _ _ (fun b s x hx h => needNosync_sync _ h _ hx) (fun b s h_ => ?_) h_
  repeat' (with_reducible first | assumption | rfl | apply ownerOp_sync | apply decommission_sync | dsimp only | split | intro)

theorem armRelease_sync {c_ : Sync} (s : State) (h_ : s.whl.sync = c_) :
    (armRelease s).whl.sync = c_ := by
  unfold armRelease
  repeat' (with_reducible first | assumption | rfl | apply raise_sync | dsimp only | split | intro)

theorem doForceRelease_sync {c_ : Sync} (l : Link) (s : State) (h_ : s.whl.sync = c_) :
    (doForceRelease l s).whl.sync = c_ := by
  unfold doForceRelease
  repeat' (with_reducible first | assumption | rfl | apply command_sync | apply sized_sync | apply refusal_sync | apply armRelease_sync | apply success_sync | dsimp only | split | intro)

theorem doReleaseReminder_sync {c_ : Sync} (s : State) (h_ : s.whl.sync = c_) :
    (doReleaseReminder s).whl.sync = c_ := by
  unfold doReleaseReminder
  repeat' (with_reducible first | assumption | rfl | apply raiseIf_sync | apply log_sync | dsimp only | split | intro)

theorem doReleaseCountdownExpiry_sync {c_ : Sync} (s : State) (h_ : s.whl.sync = c_) :
    (doReleaseCountdownExpiry s).whl.sync = c_ := by
  unfold doReleaseCountdownExpiry
  repeat' (with_reducible first | assumption | rfl | apply decommission_sync | dsimp only | split | intro)

theorem doChallengeExpiry_sync {c_ : Sync} (s : State) (h_ : s.whl.sync = c_) :
    (doChallengeExpiry s).whl.sync = c_ := by
  unfold doChallengeExpiry
  repeat' (with_reducible first | assumption | rfl | apply newChallenge_sync | dsimp only | split | intro)

theorem doEntropyHealthFailure_sync {c_ : Sync} (s : State) (h_ : s.whl.sync = c_) :
    (doEntropyHealthFailure s).whl.sync = c_ := by
  unfold doEntropyHealthFailure
  repeat' (with_reducible first | assumption | rfl | apply raise_sync | dsimp only | split | intro)

theorem doEntropyHealthRecovery_sync {c_ : Sync} (s : State) (h_ : s.whl.sync = c_) :
    (doEntropyHealthRecovery s).whl.sync = c_ := by
  unfold doEntropyHealthRecovery
  repeat' (with_reducible first | assumption | rfl | dsimp only | split | intro)

theorem envRefused_sync {c_ : Sync} (l : Link) (x : Nat × Nat) (s : State) (h_ : s.whl.sync = c_) :
    (envRefused l x s).state.whl.sync = c_ := by
  unfold envRefused
  repeat' (with_reducible first | assumption | rfl | apply malformed_sync | apply refusal_sync | apply signatureFail_sync | apply countedFail_sync | dsimp only | split | intro)

theorem doEnvInstall_sync {c_ : Sync} (l : Link) (s : State) (h_ : s.whl.sync = c_) :
    (doEnvInstall l s).whl.sync = c_ := by
  unfold doEnvInstall
  repeat' (with_reducible first | assumption | rfl | apply linkOk_sync | apply command_sync | apply refusal_sync | apply envRefused_sync | dsimp only | split | intro)

theorem storeEnvelope_sync {c_ : Sync} (e : List Byte) (s : State) (h_ : s.whl.sync = c_) :
    (storeEnvelope e s).whl.sync = c_ := by
  unfold storeEnvelope
  repeat' (with_reducible first | assumption | rfl | apply regionWritten_sync | dsimp only | split | intro)

theorem envelopeStored_sync {c_ : Sync} (e : List Byte) (s : State) (h_ : s.whl.sync = c_) :
    (envelopeStored e s).whl.sync = c_ := by
  unfold envelopeStored
  repeat' (with_reducible first | assumption | rfl | apply raise_sync | apply storeEnvelope_sync | apply envelopeBoundary_sync | dsimp only | split | intro)

theorem envAnswer_sync {c_ : Sync} (l : Link) (before : State) (a : Reply) (h_ : a.state.whl.sync = c_) :
    (envAnswer l before a).whl.sync = c_ := by
  unfold envAnswer
  repeat' (with_reducible first | assumption | rfl | apply respond_sync | dsimp only | split | intro)

theorem doEnvelopeWriteComplete_sync {c_ : Sync} (ok : Bool) (s : State) (h_ : s.whl.sync = c_) :
    (doEnvelopeWriteComplete ok s).whl.sync = c_ := by
  unfold doEnvelopeWriteComplete
  repeat' (with_reducible first | assumption | rfl | apply envAnswer_sync | apply refusal_sync | apply writeFailed_sync | apply envRefused_sync | apply envelopeStored_sync | apply success_sync | dsimp only | split | intro)

theorem doEnvelopeCopyError_sync {c_ : Sync} (s : State) (h_ : s.whl.sync = c_) :
    (doEnvelopeCopyError s).whl.sync = c_ := by
  unfold doEnvelopeCopyError
  repeat' (with_reducible first | assumption | rfl | apply envCopyError_sync | dsimp only | split | intro)

theorem doEnvelopeReloadComplete_sync {c_ : Sync} (s : State) (h_ : s.whl.sync = c_) :
    (doEnvelopeReloadComplete s).whl.sync = c_ := by
  unfold doEnvelopeReloadComplete
  repeat' (with_reducible first | assumption | rfl | apply raise_sync | dsimp only | split | intro)

theorem openWith_sync {c_ : Sync} (l : Link) (b : List Byte) (d : Word × Nat) (s : State) (h_ : s.whl.sync = c_) :
    (openWith l b d s).state.whl.sync = c_ := by
  unfold openWith
  repeat' (with_reducible first | assumption | rfl | apply success_sync | apply signed1_sync | apply State_setLink_sync | dsimp only | split | intro)

theorem openTwo_sync {c_ : Sync} (l : Link) (b : List Byte) (s : State) (h_ : s.whl.sync = c_) :
    (openTwo l b s).state.whl.sync = c_ := by
  unfold openTwo
  repeat' (with_reducible first | assumption | rfl | apply openWith_sync | apply refusal_sync | apply entropyUsed_sync | dsimp only | split | intro)

theorem doOpen1_sync {c_ : Sync} (l : Link) (s : State) (h_ : s.whl.sync = c_) :
    (doOpen1 l s).whl.sync = c_ := by
  unfold doOpen1
  repeat' (with_reducible first | assumption | rfl | apply command_sync | apply closeSession_sync | apply refusal_sync | apply malformed_sync | apply openTwo_sync | apply signatureFail_sync | dsimp only | split | intro)

theorem opened_sync {c_ : Sync} (l : Link) (before : State) (r : Request) (o : Opening) (c : List Byte) (s : State) (h_ : s.whl.sync = c_) :
    (opened l before r o c s).whl.sync = c_ := by
  unfold opened
  repeat' (with_reducible first | assumption | rfl | apply raise_sync | apply logLink_sync | apply linkOk_sync | apply State_setLink_sync | apply respond_sync | apply success_sync | dsimp only | split | intro)

theorem openFails_sync {c_ : Sync} (l : Link) (status detail : Nat) (s : State) (h_ : s.whl.sync = c_) :
    (openFails l status detail s).state.whl.sync = c_ := by
  unfold openFails
  repeat' (with_reducible first | assumption | rfl | apply State_setLink_sync | apply refusal_sync | apply plainFail_sync | apply signatureFail_sync | dsimp only | split | intro)

theorem doOpen3_sync {c_ : Sync} (l : Link) (s : State) (h_ : s.whl.sync = c_) :
    (doOpen3 l s).whl.sync = c_ := by
  unfold doOpen3
  repeat' (with_reducible first | assumption | rfl | apply respond_sync | apply openFails_sync | apply opened_sync | apply refusal_sync | dsimp only | split | intro)

theorem doClose_sync {c_ : Sync} (l : Link) (s : State) (h_ : s.whl.sync = c_) :
    (doClose l s).whl.sync = c_ := by
  unfold doClose
  repeat' (with_reducible first | assumption | rfl | apply command_sync | apply sized_sync | apply success_sync | apply closeSession_sync | dsimp only | split | intro)

theorem stageChunk_sync {c_ : Sync} (l : Link) (a : Nat) (data : List Byte) (s : State) (h_ : s.whl.sync = c_) :
    (stageChunk l a data s).state.whl.sync = c_ := by
  unfold stageChunk
  repeat' (with_reducible first | assumption | rfl | apply success_sync | dsimp only | split | intro)

theorem doCfgStage_sync {c_ : Sync} (l : Link) (s : State) (h_ : s.whl.sync = c_) :
    (doCfgStage l s).whl.sync = c_ := by
  unfold doCfgStage
  repeat' (with_reducible first | assumption | rfl | apply command_sync | apply refusal_sync | apply malformed_sync | apply stageChunk_sync | dsimp only | split | intro)

theorem doCfgDiscard_sync {c_ : Sync} (l : Link) (s : State) (h_ : s.whl.sync = c_) :
    (doCfgDiscard l s).whl.sync = c_ := by
  unfold doCfgDiscard
  repeat' (with_reducible first | assumption | rfl | apply command_sync | apply refusal_sync | apply sized_sync | apply success_sync | dsimp only | split | intro)

theorem commitDone_sync {c_ : Sync} (b : Block) (s : State) (h_ : s.whl.sync = c_) :
    (commitDone b s).state.whl.sync = c_ := by
  unfold commitDone
  repeat' (with_reducible first | assumption | rfl | apply applyPending_sync | apply success_sync | dsimp only | split | intro)

theorem doCfgCommit_sync {c_ : Sync} (l : Link) (s : State) (h_ : s.whl.sync = c_) :
    (doCfgCommit l s).whl.sync = c_ := by
  unfold doCfgCommit
  repeat' (with_reducible first | assumption | rfl | apply command_sync | apply refusal_sync | apply sized_sync | apply commitDone_sync | dsimp only | split | intro)

theorem doConfigStoreComplete_sync {c_ : Sync} (ok : Bool) (s : State) (h_ : s.whl.sync = c_) :
    (doConfigStoreComplete ok s).whl.sync = c_ := by
  unfold doConfigStoreComplete
  repeat' (with_reducible first | assumption | rfl | apply regionWritten_sync | apply writeFailed_sync | dsimp only | split | intro)

theorem doCfgRead_sync {c_ : Sync} (l : Link) (s : State) (h_ : s.whl.sync = c_) :
    (doCfgRead l s).whl.sync = c_ := by
  unfold doCfgRead
  repeat' (with_reducible first | assumption | rfl | apply command_sync | apply sized_sync | apply malformed_sync | apply refusal_sync | apply success_sync | dsimp only | split | intro)

theorem doCfgStatus_sync {c_ : Sync} (l : Link) (s : State) (h_ : s.whl.sync = c_) :
    (doCfgStatus l s).whl.sync = c_ := by
  unfold doCfgStatus
  repeat' (with_reducible first | assumption | rfl | apply command_sync | apply sized_sync | apply success_sync | dsimp only | split | intro)

theorem doPing_sync {c_ : Sync} (l : Link) (s : State) (h_ : s.whl.sync = c_) :
    (doPing l s).whl.sync = c_ := by
  unfold doPing
  repeat' (with_reducible first | assumption | rfl | apply command_sync | apply sized_sync | apply success_sync | dsimp only | split | intro)

theorem readSeq_sync {c_ : Sync} (n a : Nat) (s : State) (h_ : s.whl.sync = c_) : (readSeq n a s).2.whl.sync = c_ := by
  induction n generalizing a s with
  | zero => exact h_
  | succ n ih => exact ih _ _ (regLatch_sync _ _ _ h_)
theorem doReadRegs_sync {c_ : Sync} (l : Link) (s : State) (h_ : s.whl.sync = c_) :
    (doReadRegs l s).whl.sync = c_ := by
  unfold doReadRegs
  repeat' (with_reducible first | assumption | rfl | apply command_sync | apply sized_sync | apply malformed_sync | apply refusal_sync | apply success_sync | apply readSeq_sync | dsimp only | split | intro)

theorem doCycleRecord_sync {c_ : Sync} (l : Link) (s : State) (h_ : s.whl.sync = c_) :
    (doCycleRecord l s).whl.sync = c_ := by
  unfold doCycleRecord
  repeat' (with_reducible first | assumption | rfl | apply command_sync | apply sized_sync | apply refusal_sync | apply success_sync | apply signed1_sync | dsimp only | split | intro)

theorem doTelemetry_sync {c_ : Sync} (l : Link) (s : State) (h_ : s.whl.sync = c_) :
    (doTelemetry l s).whl.sync = c_ := by
  unfold doTelemetry
  repeat' (with_reducible first | assumption | rfl | apply command_sync | apply sized_sync | apply success_sync | dsimp only | split | intro)

theorem doLogRead_sync {c_ : Sync} (l : Link) (s : State) (h_ : s.whl.sync = c_) :
    (doLogRead l s).whl.sync = c_ := by
  unfold doLogRead
  repeat' (with_reducible first | assumption | rfl | apply command_sync | apply sized_sync | apply malformed_sync | apply refusal_sync | apply success_sync | dsimp only | split | intro)

theorem writeMailbox_sync {c_ : Sync} (q first : Nat) (w : List Word) (s : State) (h_ : s.whl.sync = c_) :
    (writeMailbox q first w s).whl.sync = c_ := by
  unfold writeMailbox
  repeat' (with_reducible first | assumption | rfl | apply latchSq_sync | apply State_setSq_sync | dsimp only | split | intro)

theorem doTargets_sync {c_ : Sync} (l : Link) (s : State) (h_ : s.whl.sync = c_) :
    (doTargets l s).whl.sync = c_ := by
  unfold doTargets
  repeat' (with_reducible first | assumption | rfl | apply command_sync | apply refusal_sync | apply malformed_sync | apply writeMailbox_sync | apply success_sync | dsimp only | split | intro)

theorem doImgBegin_sync {c_ : Sync} (l : Link) (s : State) (h_ : s.whl.sync = c_) :
    (doImgBegin l s).whl.sync = c_ := by
  unfold doImgBegin
  repeat' (with_reducible first | assumption | rfl | apply command_sync | apply refusal_sync | apply sized_sync | apply malformed_sync | apply setImage_sync | apply success_sync | dsimp only | split | intro)

theorem doImgData_sync {c_ : Sync} (l : Link) (s : State) (h_ : s.whl.sync = c_) :
    (doImgData l s).whl.sync = c_ := by
  unfold doImgData
  repeat' (with_reducible first | assumption | rfl | apply command_sync | apply refusal_sync | apply malformed_sync | apply blocksWritten_sync | apply setImage_sync | apply success_sync | dsimp only | split | intro)

theorem imageRefused_sync {c_ : Sync} (l : Link) (x : Slot) (st : Nat) (s : State) (h_ : s.whl.sync = c_) :
    (imageRefused l x st s).whl.sync = c_ := by
  unfold imageRefused
  repeat' (with_reducible first | assumption | rfl | apply raise_sync | apply logImage_sync | apply setImage_sync | apply plainFail_sync | apply signatureFail_sync | apply countedFail_sync | dsimp only | split | intro)

theorem doImgEnd_sync {c_ : Sync} (l : Link) (s : State) (h_ : s.whl.sync = c_) :
    (doImgEnd l s).whl.sync = c_ := by
  unfold doImgEnd
  repeat' (with_reducible first | assumption | rfl | apply command_sync | apply refusal_sync | apply sized_sync | apply imageRefused_sync | apply linkOk_sync | apply setImage_sync | apply success_sync | apply raise_sync | apply logImage_sync | dsimp only | split | intro)

theorem doImgSelect_sync {c_ : Sync} (l : Link) (stored : Bool) (s : State) (h_ : s.whl.sync = c_) :
    (doImgSelect l stored s).whl.sync = c_ := by
  unfold doImgSelect
  repeat' (with_reducible first | assumption | rfl | apply command_sync | apply refusal_sync | apply sized_sync | apply malformed_sync | apply writeFailed_sync | apply success_sync | apply writeKeys_sync | dsimp only | split | intro)

theorem doImgConfirm_sync {c_ : Sync} (l : Link) (stored : Bool) (s : State) (h_ : s.whl.sync = c_) :
    (doImgConfirm l stored s).whl.sync = c_ := by
  unfold doImgConfirm
  repeat' (with_reducible first | assumption | rfl | apply command_sync | apply sized_sync | apply refusal_sync | apply writeFailed_sync | apply writeKeys_sync | apply success_sync | apply raise_sync | apply logImage_sync | dsimp only | split | intro)

theorem doReset_sync {c_ : Sync} (l : Link) (s : State) (h_ : s.whl.sync = c_) :
    (doReset l s).whl.sync = c_ := by
  unfold doReset
  repeat' (with_reducible first | assumption | rfl | apply command_sync | apply refusal_sync | apply sized_sync | apply malformed_sync | apply success_sync | dsimp only | split | intro)

theorem shotReply_sync {c_ : Sync} (a : Answer) (s : State) (h_ : s.whl.sync = c_) :
    (shotReply a s).state.whl.sync = c_ := by
  unfold shotReply
  repeat' (with_reducible first | assumption | rfl | apply success_sync | apply refusal_sync | dsimp only | split | intro)

theorem doTestShot_sync {c_ : Sync} (l : Link) (s : State) (h_ : s.whl.sync = c_) :
    (doTestShot l s).whl.sync = c_ := by
  unfold doTestShot
  repeat' (with_reducible first | assumption | rfl | apply command_sync | apply refusal_sync | apply sized_sync | apply malformed_sync | apply insertEvent_sync | apply served_sync | apply shotReply_sync | dsimp only | split | intro)

theorem diagRun_sync {c_ : Sync} (l : Link) (kind : Nat) (k : BitVec 64 → State → State) (s : State) (h_k : ∀ i (s : State), s.whl.sync = c_ → (k i s).whl.sync = c_) (h_ : s.whl.sync = c_) :
    (diagRun l kind k s).whl.sync = c_ := by
  unfold diagRun
  repeat' (with_reducible first | assumption | rfl | apply command_sync | apply refusal_sync | apply success_sync | apply h_k | dsimp only | split | intro)

theorem doDiagRunOffTest_sync {c_ : Sync} (l : Link) (s : State) (h_ : s.whl.sync = c_) :
    (doDiagRunOffTest l s).whl.sync = c_ := by
  unfold doDiagRunOffTest
  repeat' (with_reducible first | assumption | rfl | apply diagRun_sync | apply diagOffTest_sync | dsimp only | split | intro)

theorem doDiagRunClear_sync {c_ : Sync} (l : Link) (s : State) (h_ : s.whl.sync = c_) :
    (doDiagRunClear l s).whl.sync = c_ := by
  unfold doDiagRunClear
  repeat' (with_reducible first | assumption | rfl | apply diagRun_sync | apply diagClear_sync | dsimp only | split | intro)

theorem writeTimCtl_sync {c_ : Sync} (n v : Nat) (s : State) (h_ : s.whl.sync = c_) :
    (writeTimCtl n v s).whl.sync = c_ := by
  unfold writeTimCtl
  repeat' (with_reducible first | assumption | rfl | apply State_setTimer_sync | apply doTimerStop_sync | apply doTimerStart_sync | dsimp only | split | intro)

theorem writeTimCapcfg_sync {c_ : Sync} (n v : Nat) (s : State) (h_ : s.whl.sync = c_) :
    (writeTimCapcfg n v s).whl.sync = c_ := by
  unfold writeTimCapcfg
  repeat' (with_reducible first | assumption | rfl | apply State_setTimer_sync | dsimp only | split | intro)

theorem writeTimStat_sync {c_ : Sync} (n v : Nat) (s : State) (h_ : s.whl.sync = c_) :
    (writeTimStat n v s).whl.sync = c_ := by
  unfold writeTimStat
  repeat' (with_reducible first | assumption | rfl | apply State_setTimer_sync | dsimp only | split | intro)

theorem writeTimer_sync {c_ : Sync} (n o : Nat) (v : Word) (s : State) (h_ : s.whl.sync = c_) :
    (writeTimer n o v s).whl.sync = c_ := by
  unfold writeTimer
  repeat' (with_reducible first | assumption | rfl | apply writeTimCtl_sync | apply doTimerTargetWrite_sync | apply writeTimCapcfg_sync | apply writeTimStat_sync | apply State_setTimer_sync | dsimp only | split | intro)

theorem writeEbCtl_sync {c_ : Sync} (n v : Nat) (s : State) (h_ : s.whl.sync = c_) :
    (writeEbCtl n v s).whl.sync = c_ := by
  unfold writeEbCtl
  repeat' (with_reducible first | assumption | rfl | apply State_setEb_sync | apply ebSetMask_sync | apply doEbLoadArm_sync | apply doEbEnable_sync | apply doEbDisable_sync | dsimp only | split | intro)

theorem writeEbStat_sync {c_ : Sync} (n v : Nat) (s : State) (h_ : s.whl.sync = c_) :
    (writeEbStat n v s).whl.sync = c_ := by
  unfold writeEbStat
  repeat' (with_reducible first | assumption | rfl | apply State_setEb_sync | apply doEbTripClear_sync | dsimp only | split | intro)

theorem writeEb_sync {c_ : Sync} (n o : Nat) (v : Word) (s : State) (h_ : s.whl.sync = c_) :
    (writeEb n o v s).whl.sync = c_ := by
  unfold writeEb
  repeat' (with_reducible first | assumption | rfl | apply writeEbCtl_sync | apply doEbWrite_sync | apply ebShadow_sync | apply State_setEb_sync | apply writeEbStat_sync | dsimp only | split | intro)

theorem writeKc_sync {c_ : Sync} (k o : Nat) (v : Word) (s : State) (h_ : s.whl.sync = c_) :
    (writeKc k o v s).whl.sync = c_ := by
  unfold writeKc
  repeat' (with_reducible first | assumption | rfl | apply State_setKc_sync | dsimp only | split | intro)

theorem writePwm_sync {c_ : Sync} (a : Nat) (v : Word) (s : State) (h_ : s.whl.sync = c_) :
    (writePwm a v s).whl.sync = c_ := by
  unfold writePwm
  repeat' (with_reducible first | assumption | rfl | apply doPwmGlbLoad_sync | apply doPwmGlbStart_sync | apply writeEb_sync | apply writeKc_sync | dsimp only | split | intro)

theorem writeTim_sync {c_ : Sync} (a : Nat) (v : Word) (s : State) (h_ : s.whl.sync = c_) :
    (writeTim a v s).whl.sync = c_ := by
  unfold writeTim
  repeat' (with_reducible first | assumption | rfl | apply doTimGlbStart_sync | apply writeTimer_sync | dsimp only | split | intro)

theorem writeDch_sync {c_ : Sync} (k o : Nat) (v : Word) (s : State) (h_ : s.whl.sync = c_) :
    (writeDch k o v s).whl.sync = c_ := by
  unfold writeDch
  repeat' (with_reducible first | assumption | rfl | apply State_setDch_sync | dsimp only | split | intro)

theorem writePwrCtl_sync {c_ : Sync} (v : Nat) (s : State) (h_ : s.whl.sync = c_) :
    (writePwrCtl v s).whl.sync = c_ := by
  unfold writePwrCtl
  repeat' (with_reducible first | assumption | rfl | apply doStandbyRequest_sync | apply doSleepRequest_sync | dsimp only | split | intro)

theorem writeLevel_sync {c_ : Sync} (w : Nat) (v : Word) (s : State) (h_ : s.whl.sync = c_) :
    (writeLevel w v s).whl.sync = c_ := by
  unfold writeLevel
  repeat' (with_reducible first | assumption | rfl | dsimp only | split | intro)

theorem writeCc_sync {c_ : Sync} (g : IrqTarget) (v : Nat) (s : State) (h_ : s.whl.sync = c_) :
    (writeCc g v s).whl.sync = c_ := by
  unfold writeCc
  repeat' (with_reducible first | assumption | rfl | apply doIrqComplete_sync | apply doIrqClaim_sync | dsimp only | split | intro)

theorem writeMod_sync {c_ : Sync} (v : Nat) (s : State) (h_ : s.whl.sync = c_) :
    (writeMod v s).whl.sync = c_ := by
  unfold writeMod
  repeat' (with_reducible first | assumption | rfl | dsimp only | split | intro)

theorem writeTarget_sync {c_ : Sync} (g : IrqTarget) (o : Nat) (v : Word) (s : State) (h_ : s.whl.sync = c_) (x_ : State) (hx_ : (writeTarget g o v s) = some x_) :
    x_.whl.sync = c_ := by
  unfold writeTarget at hx_
  (try dsimp only at hx_) <;> (repeat' split at hx_) <;> first | (cases hx_; repeat' (with_reducible first | assumption | rfl | apply State_setTarget_sync | apply writeCc_sync | dsimp only | split | intro)) | (simp at hx_; done) | (simp_all; done)

theorem hostRefused_sync {c_ : Sync} (s : State) (h_ : s.whl.sync = c_) :
    (hostRefused s).whl.sync = c_ := by
  unfold hostRefused
  repeat' (with_reducible first | assumption | rfl | dsimp only | split | intro)

theorem writeTxBuf_sync {c_ : Sync} (a : Nat) (v : Word) (s : State) (h_ : s.whl.sync = c_) :
    (writeTxBuf a v s).whl.sync = c_ := by
  unfold writeTxBuf
  repeat' (with_reducible first | assumption | rfl | apply hostRefused_sync | dsimp only | split | intro)

theorem writeMbxCtl_sync {c_ : Sync} (v : Nat) (s : State) (h_ : s.whl.sync = c_) :
    (writeMbxCtl v s).whl.sync = c_ := by
  unfold writeMbxCtl
  repeat' (with_reducible first | assumption | rfl | apply doMbxAbort_sync | apply doMbxRxDone_sync | apply doMbxSend_sync | dsimp only | split | intro)

theorem hostWrite_sync {c_ : Sync} (a : Nat) (v : Word) (s : State) (h_ : s.whl.sync = c_) :
    (hostWrite a v s).whl.sync = c_ := by
  unfold hostWrite
  repeat' (with_reducible first | assumption | apply getD_sync | apply writeMbxCtl_sync | apply writeTxBuf_sync | apply writeMod_sync | apply hostRefused_sync | split)
  exact fun x hx => writeTarget_sync _ _ _ _ h_ _ hx

theorem codeWrite_sync {c_ : Sync} (owner a : Nat) (v : Word) (s : State) (h_ : s.whl.sync = c_) :
    (codeWrite owner a v s).whl.sync = c_ := by
  unfold codeWrite
  repeat' (with_reducible first | assumption | rfl | apply writePwrCtl_sync | apply writeLevel_sync | apply doFaultAcknowledge_sync | apply writeWdtCfg_sync | apply doWatchdogService_sync | apply writeTim_sync | apply writePwm_sync | apply doSetpointWrite_sync | apply doExtensionWrite_sync | apply writeDch_sync | dsimp only | split | intro)

theorem coreWrite_sync {c_ : Sync} (a : Nat) (v : Word) (s : State) (h_ : s.whl.sync = c_) :
    (coreWrite a v s).whl.sync = c_ := by
  unfold coreWrite
  split
  · exact h_
  · split
    · exact getD_sync _ _ (fun x hx => writeTarget_sync _ _ _ _ h_ _ hx) h_
    · exact codeWrite_sync _ _ _ _ h_

theorem doRegisterWrite_sync {c_ : Sync} (r : Requester) (a : Nat) (v : Word) (s : State) (h_ : s.whl.sync = c_) :
    (doRegisterWrite r a v s).whl.sync = c_ := by
  unfold doRegisterWrite
  repeat' (with_reducible first | assumption | rfl | apply hostWrite_sync | apply coreWrite_sync | apply codeWrite_sync | dsimp only | split | intro)

theorem setReg_sync {c_ : Sync} (i d : Nat) (v : Word) (s : State) (h_ : s.whl.sync = c_) :
    (setReg i d v s).whl.sync = c_ := by
  unfold setReg
  repeat' (with_reducible first | assumption | rfl | apply State_setCtx_sync | dsimp only | split | intro)

theorem setPc_sync {c_ : Sync} (i : Nat) (p : BitVec 16) (s : State) (h_ : s.whl.sync = c_) :
    (setPc i p s).whl.sync = c_ := by
  unfold setPc
  repeat' (with_reducible first | assumption | rfl | apply State_setCtx_sync | dsimp only | split | intro)

theorem nextPc_sync {c_ : Sync} (i : Nat) (s : State) (h_ : s.whl.sync = c_) :
    (nextPc i s).whl.sync = c_ := by
  unfold nextPc
  repeat' (with_reducible first | assumption | rfl | apply setPc_sync | dsimp only | split | intro)

theorem writeD_sync {c_ : Sync} (i d : Nat) (v : Word) (s : State) (h_ : s.whl.sync = c_) :
    (writeD i d v s).whl.sync = c_ := by
  unfold writeD
  repeat' (with_reducible first | assumption | rfl | apply nextPc_sync | apply setReg_sync | dsimp only | split | intro)

theorem setQ_sync {c_ : Sync} (i : Nat) (b : Bool) (s : State) (h_ : s.whl.sync = c_) :
    (setQ i b s).whl.sync = c_ := by
  unfold setQ
  repeat' (with_reducible first | assumption | rfl | apply State_setCtx_sync | dsimp only | split | intro)

theorem haltTask_sync {c_ : Sync} (i by' : Nat) (s : State) (h_ : s.whl.sync = c_) :
    (haltTask i by' s).whl.sync = c_ := by
  unfold haltTask
  repeat' (with_reducible first | assumption | rfl | apply fault_sync | apply State_setCtx_sync | apply haltCancel_sync | dsimp only | split | intro)

theorem logTask_sync {c_ : Sync} (i cause : Nat) (pc : BitVec 16) (s : State) (h_ : s.whl.sync = c_) :
    (logTask i cause pc s).whl.sync = c_ := by
  unfold logTask
  repeat' (with_reducible first | assumption | rfl | apply log_sync | dsimp only | split | intro)

theorem countSegFault_sync {c_ : Sync} (s : State) (h_ : s.whl.sync = c_) :
    (countSegFault s).whl.sync = c_ := by
  unfold countSegFault
  repeat' (with_reducible first | assumption | rfl | dsimp only | split | intro)

theorem takeFault_sync {c_ : Sync} (i cause : Nat) (faddr : Word) (s : State) (h_ : s.whl.sync = c_) :
    (takeFault i cause faddr s).whl.sync = c_ := by
  unfold takeFault
  repeat' (with_reducible first | assumption | rfl | apply countSegFault_sync | apply logTask_sync | apply State_setCtx_sync | apply haltTask_sync | dsimp only | split | intro)

theorem budgetFault_sync {c_ : Sync} (i : Nat) (s : State) (h_ : s.whl.sync = c_) :
    (budgetFault i s).whl.sync = c_ := by
  unfold budgetFault
  repeat' (with_reducible first | assumption | rfl | apply takeFault_sync | dsimp only | split | intro)

theorem doBudgetExhausted_sync {c_ : Sync} (q p : Nat) (s : State) (h_ : s.whl.sync = c_) :
    (doBudgetExhausted q p s).whl.sync = c_ := by
  unfold doBudgetExhausted
  repeat' (with_reducible first | assumption | rfl | apply budgetFault_sync | dsimp only | split | intro)

theorem toReady_sync {c_ : Sync} (j : Nat) (s : State) (h_ : s.whl.sync = c_) :
    (toReady j s).whl.sync = c_ := by
  unfold toReady
  repeat' (with_reducible first | assumption | rfl | apply State_setCtx_sync | dsimp only | split | intro)

theorem occupy_sync {c_ : Sync} (i : Nat) (s : State) (h_ : s.whl.sync = c_) :
    (occupy i s).whl.sync = c_ := by
  unfold occupy
  repeat' (with_reducible first | assumption | rfl | apply forEach_sync | apply toReady_sync | apply State_setCtx_sync | apply State_setSq_sync | dsimp only | split | intro)

theorem atBoundary_sync {c_ : Sync} (q : Nat) (s : State) (h_ : s.whl.sync = c_) :
    (atBoundary q s).whl.sync = c_ := by
  unfold atBoundary
  repeat' (with_reducible first | assumption | rfl | apply forEach_sync | apply budgetFault_sync | dsimp only | split | intro)

theorem Done_finish_sync {c_ : Sync} (i : Nat) (d : Done) (h_ : d.st.whl.sync = c_) : (d.finish i).whl.sync = c_ := by
  cases d <;> simp only [Done.finish, Done.st_next, Done.st_fault] at h_ ⊢ <;> repeat' (with_reducible first | assumption | rfl | apply atBoundary_sync | apply occupy_sync | apply eccRead_sync | apply takeFault_sync | apply eccFound_sync | apply h_run | dsimp only | split | intro)
theorem issueWith_sync {c_ : Sync} (n : Issue) (run : Nat → Word → State → Option Done) (s0 : State) (h_run : ∀ i w (s : State) d, run i w s = some d → s.whl.sync = c_ → d.st.whl.sync = c_) (h_ : s0.whl.sync = c_) :
    (issueWith n run s0).whl.sync = c_ := by
  unfold issueWith
  dsimp only
  split
  · exact h_
  · split
    · exact h_
    · split
      · split
        · rename_i hd
          refine Done_finish_sync _ _ (h_run _ _ _ _ hd ?_)
          repeat' (with_reducible first | assumption | rfl | apply atBoundary_sync | apply occupy_sync | apply eccRead_sync | apply takeFault_sync | apply eccFound_sync | apply h_run | dsimp only | split | intro)
        · exact h_
      · repeat' (with_reducible first | assumption | rfl | apply atBoundary_sync | apply occupy_sync | apply eccRead_sync | apply takeFault_sync | apply eccFound_sync | apply h_run | dsimp only | split | intro)
      · repeat' (with_reducible first | assumption | rfl | apply atBoundary_sync | apply occupy_sync | apply eccRead_sync | apply takeFault_sync | apply eccFound_sync | apply h_run | dsimp only | split | intro)

theorem issueOp_sync {c_ : Sync} (op : AOp) (n : Issue) (run : Nat → AInstr → State → Done) (s : State) (h_run : ∀ i w (s : State), s.whl.sync = c_ → (run i w s).st.whl.sync = c_) (h_ : s.whl.sync = c_) :
    (issueOp op n run s).whl.sync = c_ := by
  unfold issueOp
  apply issueWith_sync _ _ _ _ h_
  intro i w s d hd h
  (repeat' split at hd) <;> cases hd
  exact h_run _ _ _ h

theorem doIllegalInstruction_sync {c_ : Sync} (n : Issue) (s : State) (h_ : s.whl.sync = c_) :
    (doIllegalInstruction n s).whl.sync = c_ := by
  unfold doIllegalInstruction
  apply issueWith_sync _ _ _ _ h_
  intro i w s d hd h
  split at hd <;> cases hd
  exact h

theorem aluR_sync {c_ : Sync} (f : Word → Word → Word) (i : Nat) (x : AInstr) (s : State) (h_ : s.whl.sync = c_) :
    (aluR f i x s).st.whl.sync = c_ := by
  unfold aluR
  repeat' (with_reducible first | assumption | rfl | apply writeD_sync | simp only [Done.st_next, Done.st_fault] | dsimp only | split | intro)

theorem aluI_sync {c_ : Sync} (f : Word → Nat → Word) (i : Nat) (x : AInstr) (s : State) (h_ : s.whl.sync = c_) :
    (aluI f i x s).st.whl.sync = c_ := by
  unfold aluI
  repeat' (with_reducible first | assumption | rfl | apply writeD_sync | simp only [Done.st_next, Done.st_fault] | dsimp only | split | intro)

theorem additive_sync {c_ : Sync} (f : Ctx → Word → SumFlags) (b : Ctx → Word) (i : Nat) (x : AInstr) (s : State) (h_ : s.whl.sync = c_) :
    (additive f b i x s).st.whl.sync = c_ := by
  unfold additive
  repeat' (with_reducible first | assumption | rfl | apply writeD_sync | apply State_setCtx_sync | simp only [Done.st_next, Done.st_fault] | dsimp only | split | intro)

theorem effAdd_sync {c_ : Sync} (i : Nat) (x : AInstr) (s : State) (h_ : s.whl.sync = c_) :
    (effAdd i x s).st.whl.sync = c_ := by
  unfold effAdd
  repeat' (with_reducible first | assumption | rfl | apply additive_sync | simp only [Done.st_next, Done.st_fault] | dsimp only | split | intro)

theorem effSub_sync {c_ : Sync} (i : Nat) (x : AInstr) (s : State) (h_ : s.whl.sync = c_) :
    (effSub i x s).st.whl.sync = c_ := by
  unfold effSub
  repeat' (with_reducible first | assumption | rfl | apply additive_sync | simp only [Done.st_next, Done.st_fault] | dsimp only | split | intro)

theorem effAddc_sync {c_ : Sync} (i : Nat) (x : AInstr) (s : State) (h_ : s.whl.sync = c_) :
    (effAddc i x s).st.whl.sync = c_ := by
  unfold effAddc
  repeat' (with_reducible first | assumption | rfl | apply additive_sync | simp only [Done.st_next, Done.st_fault] | dsimp only | split | intro)

theorem effSubc_sync {c_ : Sync} (i : Nat) (x : AInstr) (s : State) (h_ : s.whl.sync = c_) :
    (effSubc i x s).st.whl.sync = c_ := by
  unfold effSubc
  repeat' (with_reducible first | assumption | rfl | apply additive_sync | simp only [Done.st_next, Done.st_fault] | dsimp only | split | intro)

theorem effAddi_sync {c_ : Sync} (i : Nat) (x : AInstr) (s : State) (h_ : s.whl.sync = c_) :
    (effAddi i x s).st.whl.sync = c_ := by
  unfold effAddi
  repeat' (with_reducible first | assumption | rfl | apply additive_sync | simp only [Done.st_next, Done.st_fault] | dsimp only | split | intro)

theorem effLui_sync {c_ : Sync} (i : Nat) (x : AInstr) (s : State) (h_ : s.whl.sync = c_) :
    (effLui i x s).st.whl.sync = c_ := by
  unfold effLui
  repeat' (with_reducible first | assumption | rfl | apply writeD_sync | simp only [Done.st_next, Done.st_fault] | dsimp only | split | intro)

theorem effAngle_sync {c_ : Sync} (f : State → Word → Word → Option Word) (i : Nat) (x : AInstr) (s : State) (h_ : s.whl.sync = c_) :
    (effAngle f i x s).st.whl.sync = c_ := by
  unfold effAngle
  repeat' (with_reducible first | assumption | rfl | apply writeD_sync | apply setQ_sync | simp only [Done.st_next, Done.st_fault] | dsimp only | split | intro)

theorem branchIf_sync {c_ : Sync} (take : Bool) (i : Nat) (x : AInstr) (s : State) (h_ : s.whl.sync = c_) :
    (branchIf take i x s).st.whl.sync = c_ := by
  unfold branchIf
  repeat' (with_reducible first | assumption | rfl | apply setPc_sync | apply nextPc_sync | simp only [Done.st_next, Done.st_fault] | dsimp only | split | intro)

theorem effBranch_sync {c_ : Sync} (p : Word → Word → Bool) (i : Nat) (x : AInstr) (s : State) (h_ : s.whl.sync = c_) :
    (effBranch p i x s).st.whl.sync = c_ := by
  unfold effBranch
  repeat' (with_reducible first | assumption | rfl | apply branchIf_sync | simp only [Done.st_next, Done.st_fault] | dsimp only | split | intro)

theorem effBf_sync {c_ : Sync} (i : Nat) (x : AInstr) (s : State) (h_ : s.whl.sync = c_) :
    (effBf i x s).st.whl.sync = c_ := by
  unfold effBf
  repeat' (with_reducible first | assumption | rfl | apply branchIf_sync | simp only [Done.st_next, Done.st_fault] | dsimp only | split | intro)

theorem effJmp_sync {c_ : Sync} (i : Nat) (x : AInstr) (s : State) (h_ : s.whl.sync = c_) :
    (effJmp i x s).st.whl.sync = c_ := by
  unfold effJmp
  repeat' (with_reducible first | assumption | rfl | apply setPc_sync | simp only [Done.st_next, Done.st_fault] | dsimp only | split | intro)

theorem effJal_sync {c_ : Sync} (i : Nat) (x : AInstr) (s : State) (h_ : s.whl.sync = c_) :
    (effJal i x s).st.whl.sync = c_ := by
  unfold effJal
  repeat' (with_reducible first | assumption | rfl | apply setPc_sync | apply setReg_sync | simp only [Done.st_next, Done.st_fault] | dsimp only | split | intro)

theorem effJr_sync {c_ : Sync} (i : Nat) (x : AInstr) (s : State) (h_ : s.whl.sync = c_) :
    (effJr i x s).st.whl.sync = c_ := by
  unfold effJr
  repeat' (with_reducible first | assumption | rfl | apply setPc_sync | apply State_setCtx_sync | simp only [Done.st_next, Done.st_fault] | dsimp only | split | intro)

theorem effSnap_sync {c_ : Sync} (i : Nat) (_x : AInstr) (s : State) (h_ : s.whl.sync = c_) :
    (effSnap i _x s).st.whl.sync = c_ := by
  unfold effSnap
  repeat' (with_reducible first | assumption | rfl | apply nextPc_sync | apply State_setCtx_sync | simp only [Done.st_next, Done.st_fault] | dsimp only | split | intro)

theorem wakeSnap_sync {c_ : Sync} (i : Nat) (s : State) (h_ : s.whl.sync = c_) :
    (wakeSnap i s).whl.sync = c_ := by
  unfold wakeSnap
  repeat' (with_reducible first | assumption | rfl | apply makeReady_sync | apply State_setCtx_sync | dsimp only | split | intro)

theorem stepsNow_sync {c_ : Sync} (s : State) (h_ : s.whl.sync = c_) :
    (stepsNow s).whl.sync = c_ := by
  unfold stepsNow
  repeat' (with_reducible first | assumption | rfl | apply stepsDone_sync | apply forEach_sync | apply wakeSnap_sync | dsimp only | split | intro)

theorem effRds_sync {c_ : Sync} (i : Nat) (x : AInstr) (s : State) (h_ : s.whl.sync = c_) :
    (effRds i x s).st.whl.sync = c_ := by
  unfold effRds
  repeat' (with_reducible first | assumption | rfl | apply State_setCtx_sync | apply writeD_sync | simp only [Done.st_next, Done.st_fault] | dsimp only | split | intro)

theorem effYield_sync {c_ : Sync} (i : Nat) (_x : AInstr) (s : State) (h_ : s.whl.sync = c_) :
    (effYield i _x s).st.whl.sync = c_ := by
  unfold effYield
  repeat' (with_reducible first | assumption | rfl | apply makeReady_sync | apply nextPc_sync | simp only [Done.st_next, Done.st_fault] | dsimp only | split | intro)

theorem effEnd_sync {c_ : Sync} (i : Nat) (_x : AInstr) (s : State) (h_ : s.whl.sync = c_) :
    (effEnd i _x s).st.whl.sync = c_ := by
  unfold effEnd
  repeat' (with_reducible first | assumption | rfl | apply nextPc_sync | apply State_setCtx_sync | apply startActivation_sync | simp only [Done.st_next, Done.st_fault] | dsimp only | split | intro)

theorem doAdd_sync {c_ : Sync} (n : Issue) (s : State) (h_ : s.whl.sync = c_) :
    (doAdd n s).whl.sync = c_ := by
  unfold doAdd
  repeat' (with_reducible first | assumption | rfl | apply issueOp_sync | apply effAdd_sync | dsimp only | split | intro)

theorem doSub_sync {c_ : Sync} (n : Issue) (s : State) (h_ : s.whl.sync = c_) :
    (doSub n s).whl.sync = c_ := by
  unfold doSub
  repeat' (with_reducible first | assumption | rfl | apply issueOp_sync | apply effSub_sync | dsimp only | split | intro)

theorem doAddc_sync {c_ : Sync} (n : Issue) (s : State) (h_ : s.whl.sync = c_) :
    (doAddc n s).whl.sync = c_ := by
  unfold doAddc
  repeat' (with_reducible first | assumption | rfl | apply issueOp_sync | apply effAddc_sync | dsimp only | split | intro)

theorem doSubc_sync {c_ : Sync} (n : Issue) (s : State) (h_ : s.whl.sync = c_) :
    (doSubc n s).whl.sync = c_ := by
  unfold doSubc
  repeat' (with_reducible first | assumption | rfl | apply issueOp_sync | apply effSubc_sync | dsimp only | split | intro)

theorem doAnd_sync {c_ : Sync} (n : Issue) (s : State) (h_ : s.whl.sync = c_) :
    (doAnd n s).whl.sync = c_ := by
  unfold doAnd
  repeat' (with_reducible first | assumption | rfl | apply issueOp_sync | apply aluR_sync | dsimp only | split | intro)

theorem doOr_sync {c_ : Sync} (n : Issue) (s : State) (h_ : s.whl.sync = c_) :
    (doOr n s).whl.sync = c_ := by
  unfold doOr
  repeat' (with_reducible first | assumption | rfl | apply issueOp_sync | apply aluR_sync | dsimp only | split | intro)

theorem doXor_sync {c_ : Sync} (n : Issue) (s : State) (h_ : s.whl.sync = c_) :
    (doXor n s).whl.sync = c_ := by
  unfold doXor
  repeat' (with_reducible first | assumption | rfl | apply issueOp_sync | apply aluR_sync | dsimp only | split | intro)

theorem doShl_sync {c_ : Sync} (n : Issue) (s : State) (h_ : s.whl.sync = c_) :
    (doShl n s).whl.sync = c_ := by
  unfold doShl
  repeat' (with_reducible first | assumption | rfl | apply issueOp_sync | apply aluR_sync | dsimp only | split | intro)

theorem doShr_sync {c_ : Sync} (n : Issue) (s : State) (h_ : s.whl.sync = c_) :
    (doShr n s).whl.sync = c_ := by
  unfold doShr
  repeat' (with_reducible first | assumption | rfl | apply issueOp_sync | apply aluR_sync | dsimp only | split | intro)

theorem doSar_sync {c_ : Sync} (n : Issue) (s : State) (h_ : s.whl.sync = c_) :
    (doSar n s).whl.sync = c_ := by
  unfold doSar
  repeat' (with_reducible first | assumption | rfl | apply issueOp_sync | apply aluR_sync | dsimp only | split | intro)

theorem doMul_sync {c_ : Sync} (n : Issue) (s : State) (h_ : s.whl.sync = c_) :
    (doMul n s).whl.sync = c_ := by
  unfold doMul
  repeat' (with_reducible first | assumption | rfl | apply issueOp_sync | apply aluR_sync | dsimp only | split | intro)

theorem doMulhu_sync {c_ : Sync} (n : Issue) (s : State) (h_ : s.whl.sync = c_) :
    (doMulhu n s).whl.sync = c_ := by
  unfold doMulhu
  repeat' (with_reducible first | assumption | rfl | apply issueOp_sync | apply aluR_sync | dsimp only | split | intro)

theorem doMulhs_sync {c_ : Sync} (n : Issue) (s : State) (h_ : s.whl.sync = c_) :
    (doMulhs n s).whl.sync = c_ := by
  unfold doMulhs
  repeat' (with_reducible first | assumption | rfl | apply issueOp_sync | apply aluR_sync | dsimp only | split | intro)

theorem doDivu_sync {c_ : Sync} (n : Issue) (s : State) (h_ : s.whl.sync = c_) :
    (doDivu n s).whl.sync = c_ := by
  unfold doDivu
  repeat' (with_reducible first | assumption | rfl | apply issueOp_sync | apply aluR_sync | dsimp only | split | intro)

theorem doRemu_sync {c_ : Sync} (n : Issue) (s : State) (h_ : s.whl.sync = c_) :
    (doRemu n s).whl.sync = c_ := by
  unfold doRemu
  repeat' (with_reducible first | assumption | rfl | apply issueOp_sync | apply aluR_sync | dsimp only | split | intro)

theorem doSlt_sync {c_ : Sync} (n : Issue) (s : State) (h_ : s.whl.sync = c_) :
    (doSlt n s).whl.sync = c_ := by
  unfold doSlt
  repeat' (with_reducible first | assumption | rfl | apply issueOp_sync | apply aluR_sync | dsimp only | split | intro)

theorem doSltu_sync {c_ : Sync} (n : Issue) (s : State) (h_ : s.whl.sync = c_) :
    (doSltu n s).whl.sync = c_ := by
  unfold doSltu
  repeat' (with_reducible first | assumption | rfl | apply issueOp_sync | apply aluR_sync | dsimp only | split | intro)

theorem doAdda_sync {c_ : Sync} (n : Issue) (s : State) (h_ : s.whl.sync = c_) :
    (doAdda n s).whl.sync = c_ := by
  unfold doAdda
  repeat' (with_reducible first | assumption | rfl | apply issueOp_sync | apply effAngle_sync | dsimp only | split | intro)

theorem doDista_sync {c_ : Sync} (n : Issue) (s : State) (h_ : s.whl.sync = c_) :
    (doDista n s).whl.sync = c_ := by
  unfold doDista
  repeat' (with_reducible first | assumption | rfl | apply issueOp_sync | apply effAngle_sync | dsimp only | split | intro)

theorem doAddi_sync {c_ : Sync} (n : Issue) (s : State) (h_ : s.whl.sync = c_) :
    (doAddi n s).whl.sync = c_ := by
  unfold doAddi
  repeat' (with_reducible first | assumption | rfl | apply issueOp_sync | apply effAddi_sync | dsimp only | split | intro)

theorem doAndi_sync {c_ : Sync} (n : Issue) (s : State) (h_ : s.whl.sync = c_) :
    (doAndi n s).whl.sync = c_ := by
  unfold doAndi
  repeat' (with_reducible first | assumption | rfl | apply issueOp_sync | apply aluI_sync | dsimp only | split | intro)

theorem doOri_sync {c_ : Sync} (n : Issue) (s : State) (h_ : s.whl.sync = c_) :
    (doOri n s).whl.sync = c_ := by
  unfold doOri
  repeat' (with_reducible first | assumption | rfl | apply issueOp_sync | apply aluI_sync | dsimp only | split | intro)

theorem doXori_sync {c_ : Sync} (n : Issue) (s : State) (h_ : s.whl.sync = c_) :
    (doXori n s).whl.sync = c_ := by
  unfold doXori
  repeat' (with_reducible first | assumption | rfl | apply issueOp_sync | apply aluI_sync | dsimp only | split | intro)

theorem doShli_sync {c_ : Sync} (n : Issue) (s : State) (h_ : s.whl.sync = c_) :
    (doShli n s).whl.sync = c_ := by
  unfold doShli
  repeat' (with_reducible first | assumption | rfl | apply issueOp_sync | apply aluI_sync | dsimp only | split | intro)

theorem doShri_sync {c_ : Sync} (n : Issue) (s : State) (h_ : s.whl.sync = c_) :
    (doShri n s).whl.sync = c_ := by
  unfold doShri
  repeat' (with_reducible first | assumption | rfl | apply issueOp_sync | apply aluI_sync | dsimp only | split | intro)

theorem doSari_sync {c_ : Sync} (n : Issue) (s : State) (h_ : s.whl.sync = c_) :
    (doSari n s).whl.sync = c_ := by
  unfold doSari
  repeat' (with_reducible first | assumption | rfl | apply issueOp_sync | apply aluI_sync | dsimp only | split | intro)

theorem doLui_sync {c_ : Sync} (n : Issue) (s : State) (h_ : s.whl.sync = c_) :
    (doLui n s).whl.sync = c_ := by
  unfold doLui
  repeat' (with_reducible first | assumption | rfl | apply issueOp_sync | apply effLui_sync | dsimp only | split | intro)

theorem doBeq_sync {c_ : Sync} (n : Issue) (s : State) (h_ : s.whl.sync = c_) :
    (doBeq n s).whl.sync = c_ := by
  unfold doBeq
  repeat' (with_reducible first | assumption | rfl | apply issueOp_sync | apply effBranch_sync | dsimp only | split | intro)

theorem doBne_sync {c_ : Sync} (n : Issue) (s : State) (h_ : s.whl.sync = c_) :
    (doBne n s).whl.sync = c_ := by
  unfold doBne
  repeat' (with_reducible first | assumption | rfl | apply issueOp_sync | apply effBranch_sync | dsimp only | split | intro)

theorem doBlt_sync {c_ : Sync} (n : Issue) (s : State) (h_ : s.whl.sync = c_) :
    (doBlt n s).whl.sync = c_ := by
  unfold doBlt
  repeat' (with_reducible first | assumption | rfl | apply issueOp_sync | apply effBranch_sync | dsimp only | split | intro)

theorem doBge_sync {c_ : Sync} (n : Issue) (s : State) (h_ : s.whl.sync = c_) :
    (doBge n s).whl.sync = c_ := by
  unfold doBge
  repeat' (with_reducible first | assumption | rfl | apply issueOp_sync | apply effBranch_sync | dsimp only | split | intro)

theorem doBltu_sync {c_ : Sync} (n : Issue) (s : State) (h_ : s.whl.sync = c_) :
    (doBltu n s).whl.sync = c_ := by
  unfold doBltu
  repeat' (with_reducible first | assumption | rfl | apply issueOp_sync | apply effBranch_sync | dsimp only | split | intro)

theorem doBgeu_sync {c_ : Sync} (n : Issue) (s : State) (h_ : s.whl.sync = c_) :
    (doBgeu n s).whl.sync = c_ := by
  unfold doBgeu
  repeat' (with_reducible first | assumption | rfl | apply issueOp_sync | apply effBranch_sync | dsimp only | split | intro)

theorem doBf_sync {c_ : Sync} (n : Issue) (s : State) (h_ : s.whl.sync = c_) :
    (doBf n s).whl.sync = c_ := by
  unfold doBf
  repeat' (with_reducible first | assumption | rfl | apply issueOp_sync | apply effBf_sync | dsimp only | split | intro)

theorem doJmp_sync {c_ : Sync} (n : Issue) (s : State) (h_ : s.whl.sync = c_) :
    (doJmp n s).whl.sync = c_ := by
  unfold doJmp
  repeat' (with_reducible first | assumption | rfl | apply issueOp_sync | apply effJmp_sync | dsimp only | split | intro)

theorem doJal_sync {c_ : Sync} (n : Issue) (s : State) (h_ : s.whl.sync = c_) :
    (doJal n s).whl.sync = c_ := by
  unfold doJal
  repeat' (with_reducible first | assumption | rfl | apply issueOp_sync | apply effJal_sync | dsimp only | split | intro)

theorem doJr_sync {c_ : Sync} (n : Issue) (s : State) (h_ : s.whl.sync = c_) :
    (doJr n s).whl.sync = c_ := by
  unfold doJr
  repeat' (with_reducible first | assumption | rfl | apply issueOp_sync | apply effJr_sync | dsimp only | split | intro)

theorem doSnap_sync {c_ : Sync} (n : Issue) (s : State) (h_ : s.whl.sync = c_) :
    (doSnap n s).whl.sync = c_ := by
  unfold doSnap
  repeat' (with_reducible first | assumption | rfl | apply issueOp_sync | apply effSnap_sync | dsimp only | split | intro)

theorem doRds_sync {c_ : Sync} (n : Issue) (s : State) (h_ : s.whl.sync = c_) :
    (doRds n s).whl.sync = c_ := by
  unfold doRds
  repeat' (with_reducible first | assumption | rfl | apply issueOp_sync | apply effRds_sync | dsimp only | split | intro)

theorem doYield_sync {c_ : Sync} (n : Issue) (s : State) (h_ : s.whl.sync = c_) :
    (doYield n s).whl.sync = c_ := by
  unfold doYield
  repeat' (with_reducible first | assumption | rfl | apply issueOp_sync | apply effYield_sync | dsimp only | split | intro)

theorem doEnd_sync {c_ : Sync} (n : Issue) (s : State) (h_ : s.whl.sync = c_) :
    (doEnd n s).whl.sync = c_ := by
  unfold doEnd
  repeat' (with_reducible first | assumption | rfl | apply issueOp_sync | apply effEnd_sync | dsimp only | split | intro)

theorem readLatch_sync {c_ : Sync} (r : Requester) (a : Nat) (s : State) (h_ : s.whl.sync = c_) :
    (readLatch r a s).whl.sync = c_ := by
  unfold readLatch
  repeat' (with_reducible first | assumption | rfl | apply regLatch_sync | dsimp only | split | intro)

theorem withAccess_sync {c_ : Sync} (r : Right) (n : Nat) (e : Ecc) (i : Nat) (x : AInstr) (f : Nat → State → State) (s : State) (h_f : ∀ i (s : State), s.whl.sync = c_ → (f i s).whl.sync = c_) (h_ : s.whl.sync = c_) :
    (withAccess r n e i x f s).st.whl.sync = c_ := by
  unfold withAccess
  repeat' (with_reducible first | assumption | rfl | apply eccRead_sync | apply fault_sync | apply eccFound_sync | apply h_f | simp only [Done.st_next, Done.st_fault] | dsimp only | split | intro)

theorem effLoad_sync {c_ : Sync} (n : Nat) (e : Ecc) (i : Nat) (x : AInstr) (s : State) (h_ : s.whl.sync = c_) :
    (effLoad n e i x s).st.whl.sync = c_ := by
  unfold effLoad
  repeat' (with_reducible first | assumption | rfl | apply withAccess_sync | apply writeD_sync | apply readLatch_sync | simp only [Done.st_next, Done.st_fault] | dsimp only | split | intro)

theorem storeWord_sync {c_ : Sync} (i a : Nat) (v : Word) (s : State) (h_ : s.whl.sync = c_) :
    (storeWord i a v s).whl.sync = c_ := by
  unfold storeWord
  repeat' (with_reducible first | assumption | rfl | apply doRegisterWrite_sync | apply State_memSetWord_sync | dsimp only | split | intro)

theorem effStore_sync {c_ : Sync} (i : Nat) (x : AInstr) (s : State) (h_ : s.whl.sync = c_) :
    (effStore i x s).st.whl.sync = c_ := by
  unfold effStore
  repeat' (with_reducible first | assumption | rfl | apply withAccess_sync | apply nextPc_sync | apply storeWord_sync | simp only [Done.st_next, Done.st_fault] | dsimp only | split | intro)

theorem effPatch_sync {c_ : Sync} (n : Nat) (e : Ecc) (i : Nat) (x : AInstr) (s : State) (h_ : s.whl.sync = c_) :
    (effPatch n e i x s).st.whl.sync = c_ := by
  unfold effPatch
  repeat' (with_reducible first | assumption | rfl | apply withAccess_sync | apply nextPc_sync | apply storeWord_sync | simp only [Done.st_next, Done.st_fault] | dsimp only | split | intro)

theorem effCaprd_sync {c_ : Sync} (e : Ecc) (i : Nat) (x : AInstr) (s : State) (h_ : s.whl.sync = c_) :
    (effCaprd e i x s).st.whl.sync = c_ := by
  unfold effCaprd
  repeat' (with_reducible first | assumption | rfl | apply writeD_sync | apply setQ_sync | apply fault_sync | apply eccFound_sync | apply eccRead_sync | simp only [Done.st_next, Done.st_fault] | dsimp only | split | intro)

theorem effMbxrd_sync {c_ : Sync} (i : Nat) (x : AInstr) (s : State) (h_ : s.whl.sync = c_) :
    (effMbxrd i x s).st.whl.sync = c_ := by
  unfold effMbxrd
  repeat' (with_reducible first | assumption | rfl | apply writeD_sync | simp only [Done.st_next, Done.st_fault] | dsimp only | split | intro)

theorem effMbxcp_sync {c_ : Sync} (i : Nat) (x : AInstr) (s : State) (h_ : s.whl.sync = c_) :
    (effMbxcp i x s).st.whl.sync = c_ := by
  unfold effMbxcp
  repeat' (with_reducible first | assumption | rfl | apply nextPc_sync | apply setQ_sync | apply fault_sync | apply writeD_sync | apply State_memWrite_sync | simp only [Done.st_next, Done.st_fault] | dsimp only | split | intro)

theorem effNote_sync {c_ : Sync} (i : Nat) (x : AInstr) (s : State) (h_ : s.whl.sync = c_) :
    (effNote i x s).st.whl.sync = c_ := by
  unfold effNote
  repeat' (with_reducible first | assumption | rfl | apply nextPc_sync | apply setReg_sync | apply setQ_sync | apply State_setSq_sync | simp only [Done.st_next, Done.st_fault] | dsimp only | split | intro)

theorem dmaStart_sync {c_ : Sync} (i c desc : Nat) (s : State) (h_ : s.whl.sync = c_) :
    (dmaStart i c desc s).whl.sync = c_ := by
  unfold dmaStart
  repeat' (with_reducible first | assumption | rfl | apply State_setDma_sync | dsimp only | split | intro)

theorem effDmago_sync {c_ : Sync} (i : Nat) (x : AInstr) (s : State) (h_ : s.whl.sync = c_) :
    (effDmago i x s).st.whl.sync = c_ := by
  unfold effDmago
  repeat' (with_reducible first | assumption | rfl | apply dmaStart_sync | apply writeD_sync | simp only [Done.st_next, Done.st_fault] | dsimp only | split | intro)

theorem signalIn_sync {c_ : Sync} (q j : Nat) (s : State) (h_ : s.whl.sync = c_) :
    (signalIn q j s).whl.sync = c_ := by
  unfold signalIn
  repeat' (with_reducible first | assumption | rfl | apply State_setCtx_sync | dsimp only | split | intro)

theorem signalAll_sync {c_ : Sync} (q d : Nat) (s : State) (h_ : s.whl.sync = c_) :
    (signalAll q d s).whl.sync = c_ := by
  unfold signalAll
  repeat' (with_reducible first | assumption | rfl | apply forEach_sync | apply signalIn_sync | apply State_setSq_sync | dsimp only | split | intro)

theorem effSignal_sync {c_ : Sync} (i : Nat) (x : AInstr) (s : State) (h_ : s.whl.sync = c_) :
    (effSignal i x s).st.whl.sync = c_ := by
  unfold effSignal
  repeat' (with_reducible first | assumption | rfl | apply nextPc_sync | apply raise_sync | apply State_setSq_sync | apply latchSq_sync | apply signalAll_sync | simp only [Done.st_next, Done.st_fault] | dsimp only | split | intro)

theorem doLd_sync {c_ : Sync} (n : Issue) (s : State) (h_ : s.whl.sync = c_) :
    (doLd n s).whl.sync = c_ := by
  unfold doLd
  repeat' (with_reducible first | assumption | rfl | apply issueOp_sync | apply effLoad_sync | dsimp only | split | intro)

theorem doLdh_sync {c_ : Sync} (n : Issue) (s : State) (h_ : s.whl.sync = c_) :
    (doLdh n s).whl.sync = c_ := by
  unfold doLdh
  repeat' (with_reducible first | assumption | rfl | apply issueOp_sync | apply effLoad_sync | dsimp only | split | intro)

theorem doLdb_sync {c_ : Sync} (n : Issue) (s : State) (h_ : s.whl.sync = c_) :
    (doLdb n s).whl.sync = c_ := by
  unfold doLdb
  repeat' (with_reducible first | assumption | rfl | apply issueOp_sync | apply effLoad_sync | dsimp only | split | intro)

theorem doSt_sync {c_ : Sync} (n : Issue) (s : State) (h_ : s.whl.sync = c_) :
    (doSt n s).whl.sync = c_ := by
  unfold doSt
  repeat' (with_reducible first | assumption | rfl | apply issueOp_sync | apply effStore_sync | dsimp only | split | intro)

theorem doSth_sync {c_ : Sync} (n : Issue) (s : State) (h_ : s.whl.sync = c_) :
    (doSth n s).whl.sync = c_ := by
  unfold doSth
  repeat' (with_reducible first | assumption | rfl | apply issueOp_sync | apply effPatch_sync | dsimp only | split | intro)

theorem doStb_sync {c_ : Sync} (n : Issue) (s : State) (h_ : s.whl.sync = c_) :
    (doStb n s).whl.sync = c_ := by
  unfold doStb
  repeat' (with_reducible first | assumption | rfl | apply issueOp_sync | apply effPatch_sync | dsimp only | split | intro)

theorem doCaprd_sync {c_ : Sync} (n : Issue) (s : State) (h_ : s.whl.sync = c_) :
    (doCaprd n s).whl.sync = c_ := by
  unfold doCaprd
  repeat' (with_reducible first | assumption | rfl | apply issueOp_sync | apply effCaprd_sync | dsimp only | split | intro)

theorem doMbxrd_sync {c_ : Sync} (n : Issue) (s : State) (h_ : s.whl.sync = c_) :
    (doMbxrd n s).whl.sync = c_ := by
  unfold doMbxrd
  repeat' (with_reducible first | assumption | rfl | apply issueOp_sync | apply effMbxrd_sync | dsimp only | split | intro)

theorem doMbxcp_sync {c_ : Sync} (n : Issue) (s : State) (h_ : s.whl.sync = c_) :
    (doMbxcp n s).whl.sync = c_ := by
  unfold doMbxcp
  repeat' (with_reducible first | assumption | rfl | apply issueOp_sync | apply effMbxcp_sync | dsimp only | split | intro)

theorem doNote_sync {c_ : Sync} (n : Issue) (s : State) (h_ : s.whl.sync = c_) :
    (doNote n s).whl.sync = c_ := by
  unfold doNote
  repeat' (with_reducible first | assumption | rfl | apply issueOp_sync | apply effNote_sync | dsimp only | split | intro)

theorem doDmago_sync {c_ : Sync} (n : Issue) (s : State) (h_ : s.whl.sync = c_) :
    (doDmago n s).whl.sync = c_ := by
  unfold doDmago
  repeat' (with_reducible first | assumption | rfl | apply issueOp_sync | apply effDmago_sync | dsimp only | split | intro)

theorem doSignal_sync {c_ : Sync} (n : Issue) (s : State) (h_ : s.whl.sync = c_) :
    (doSignal n s).whl.sync = c_ := by
  unfold doSignal
  repeat' (with_reducible first | assumption | rfl | apply issueOp_sync | apply effSignal_sync | dsimp only | split | intro)

theorem park_sync {c_ : Sync} (i : Nat) (w : Wait) (s : State) (h_ : s.whl.sync = c_) :
    (park i w s).whl.sync = c_ := by
  unfold park
  repeat' (with_reducible first | assumption | rfl | apply nextPc_sync | apply State_setCtx_sync | dsimp only | split | intro)

theorem effWaita_sync {c_ : Sync} (i : Nat) (x : AInstr) (s : State) (h_ : s.whl.sync = c_) :
    (effWaita i x s).st.whl.sync = c_ := by
  unfold effWaita
  repeat' (with_reducible first | assumption | rfl | apply writeD_sync | apply park_sync | simp only [Done.st_next, Done.st_fault] | dsimp only | split | intro)

theorem effWaitt_sync {c_ : Sync} (i : Nat) (x : AInstr) (s : State) (h_ : s.whl.sync = c_) :
    (effWaitt i x s).st.whl.sync = c_ := by
  unfold effWaitt
  repeat' (with_reducible first | assumption | rfl | apply writeD_sync | apply park_sync | simp only [Done.st_next, Done.st_fault] | dsimp only | split | intro)

theorem effWaite_sync {c_ : Sync} (i : Nat) (x : AInstr) (s : State) (h_ : s.whl.sync = c_) :
    (effWaite i x s).st.whl.sync = c_ := by
  unfold effWaite
  repeat' (with_reducible first | assumption | rfl | apply writeD_sync | apply State_setCtx_sync | apply park_sync | simp only [Done.st_next, Done.st_fault] | dsimp only | split | intro)

theorem wakeWith_sync {c_ : Sync} (i d : Nat) (v : Word) (s : State) (h_ : s.whl.sync = c_) :
    (wakeWith i d v s).whl.sync = c_ := by
  unfold wakeWith
  repeat' (with_reducible first | assumption | rfl | apply makeReady_sync | apply setReg_sync | dsimp only | split | intro)

theorem doWaittReached_sync {c_ : Sync} (q p : Nat) (s : State) (h_ : s.whl.sync = c_) :
    (doWaittReached q p s).whl.sync = c_ := by
  unfold doWaittReached
  repeat' (with_reducible first | assumption | rfl | apply wakeWith_sync | dsimp only | split | intro)

theorem waitaTimeout_sync {c_ : Sync} (i : Nat) (s : State) (h_ : s.whl.sync = c_) :
    (waitaTimeout i s).whl.sync = c_ := by
  unfold waitaTimeout
  repeat' (with_reducible first | assumption | rfl | apply wakeWith_sync | dsimp only | split | intro)

theorem doWaitTimeout_sync {c_ : Sync} (q p : Nat) (s : State) (h_ : s.whl.sync = c_) :
    (doWaitTimeout q p s).whl.sync = c_ := by
  unfold doWaitTimeout
  repeat' (with_reducible first | assumption | rfl | apply waitaTimeout_sync | apply passTo_sync | apply wakeWith_sync | dsimp only | split | intro)

theorem effSched_sync {c_ : Sync} (i : Nat) (x : AInstr) (s : State) (h_ : s.whl.sync = c_) :
    (effSched i x s).st.whl.sync = c_ := by
  unfold effSched
  repeat' (with_reducible first | assumption | rfl | apply park_sync | simp only [Done.st_next, Done.st_fault] | dsimp only | split | intro)

theorem effAim_sync {c_ : Sync} (i : Nat) (x : AInstr) (s : State) (h_ : s.whl.sync = c_) :
    (effAim i x s).st.whl.sync = c_ := by
  unfold effAim
  repeat' (with_reducible first | assumption | rfl | apply park_sync | simp only [Done.st_next, Done.st_fault] | dsimp only | split | intro)

theorem effCancel_sync {c_ : Sync} (i : Nat) (x : AInstr) (s : State) (h_ : s.whl.sync = c_) :
    (effCancel i x s).st.whl.sync = c_ := by
  unfold effCancel
  repeat' (with_reducible first | assumption | rfl | apply park_sync | simp only [Done.st_next, Done.st_fault] | dsimp only | split | intro)

theorem doSchedulerResult_sync {c_ : Sync} (q p : Nat) (s : State) (h_ : s.whl.sync = c_) :
    (doSchedulerResult q p s).whl.sync = c_ := by
  unfold doSchedulerResult
  repeat' (with_reducible first | assumption | rfl | apply setReg_sync | apply makeReady_sync | apply notice_sync | dsimp only | split | intro)

theorem doTimeTrigger_sync {c_ : Sync} (q p : Nat) (s : State) (h_ : s.whl.sync = c_) :
    (doTimeTrigger q p s).whl.sync = c_ := by
  unfold doTimeTrigger
  repeat' (with_reducible first | assumption | rfl | apply activate_sync | apply State_setCtx_sync | dsimp only | split | intro)

theorem doWaita_sync {c_ : Sync} (n : Issue) (s : State) (h_ : s.whl.sync = c_) :
    (doWaita n s).whl.sync = c_ := by
  unfold doWaita
  repeat' (with_reducible first | assumption | rfl | apply issueOp_sync | apply effWaita_sync | dsimp only | split | intro)

theorem doWaitt_sync {c_ : Sync} (n : Issue) (s : State) (h_ : s.whl.sync = c_) :
    (doWaitt n s).whl.sync = c_ := by
  unfold doWaitt
  repeat' (with_reducible first | assumption | rfl | apply issueOp_sync | apply effWaitt_sync | dsimp only | split | intro)

theorem doWaite_sync {c_ : Sync} (n : Issue) (s : State) (h_ : s.whl.sync = c_) :
    (doWaite n s).whl.sync = c_ := by
  unfold doWaite
  repeat' (with_reducible first | assumption | rfl | apply issueOp_sync | apply effWaite_sync | dsimp only | split | intro)

theorem doSched_sync {c_ : Sync} (n : Issue) (s : State) (h_ : s.whl.sync = c_) :
    (doSched n s).whl.sync = c_ := by
  unfold doSched
  repeat' (with_reducible first | assumption | rfl | apply issueOp_sync | apply effSched_sync | dsimp only | split | intro)

theorem doAim_sync {c_ : Sync} (n : Issue) (s : State) (h_ : s.whl.sync = c_) :
    (doAim n s).whl.sync = c_ := by
  unfold doAim
  repeat' (with_reducible first | assumption | rfl | apply issueOp_sync | apply effAim_sync | dsimp only | split | intro)

theorem doCancel_sync {c_ : Sync} (n : Issue) (s : State) (h_ : s.whl.sync = c_) :
    (doCancel n s).whl.sync = c_ := by
  unfold doCancel
  repeat' (with_reducible first | assumption | rfl | apply issueOp_sync | apply effCancel_sync | dsimp only | split | intro)

theorem descEcc_sync {c_ : Sync} (a j : Nat) (e : Ecc) (s : State) (h_ : s.whl.sync = c_) :
    (descEcc a j e s).whl.sync = c_ := by
  unfold descEcc
  repeat' (with_reducible first | assumption | rfl | apply forEach_sync | apply eccRead_sync | dsimp only | split | intro)

theorem writeStatus_sync {c_ : Sync} (a status done : Nat) (s : State) (h_ : s.whl.sync = c_) :
    (writeStatus a status done s).whl.sync = c_ := by
  unfold writeStatus
  repeat' (with_reducible first | assumption | rfl | apply State_memWrite_sync | dsimp only | split | intro)

theorem dmaFault_sync {c_ : Sync} (c cause faddr : Nat) (s : State) (h_ : s.whl.sync = c_) :
    (dmaFault c cause faddr s).whl.sync = c_ := by
  unfold dmaFault
  repeat' (with_reducible first | assumption | rfl | apply countSegFault_sync | apply State_setDma_sync | apply fault_sync | apply raise_sync | apply setLatch_sync | dsimp only | split | intro)

theorem dmaLoad_sync {c_ : Sync} (c j : Nat) (e : Ecc) (s : State) (h_ : s.whl.sync = c_) :
    (dmaLoad c j e s).whl.sync = c_ := by
  unfold dmaLoad
  repeat' (with_reducible first | assumption | rfl | apply dmaFault_sync | apply descEcc_sync | apply State_setDma_sync | apply writeStatus_sync | dsimp only | split | intro)

theorem burstRead_sync {c_ : Sync} (c j : Nat) (e : Ecc) (k : Nat) (r : State × List Byte) (h_ : r.1.whl.sync = c_) :
    (burstRead c j e k r).1.whl.sync = c_ := by
  unfold burstRead
  repeat' (with_reducible first | assumption | rfl | apply readLatch_sync | apply eccRead_sync | dsimp only | split | intro)

theorem burstWords_sync {c_ : Sync} (c j n : Nat) (e : Ecc) (s : State) (h_ : s.whl.sync = c_) :
    (burstWords c j n e s).1.whl.sync = c_ := by
  unfold burstWords
  repeat' (with_reducible first | assumption | rfl | apply burstRead_sync | apply foldl_sync | apply foldl1_sync | dsimp only | split | intro)

theorem rewriteDesc_sync {c_ : Sync} (d : DmaCh) (cause : Nat) (s : State) (h_ : s.whl.sync = c_) :
    (rewriteDesc d cause s).whl.sync = c_ := by
  unfold rewriteDesc
  repeat' (with_reducible first | assumption | rfl | apply writeStatus_sync | apply State_memWrite_sync | dsimp only | split | intro)

theorem descDone_sync {c_ : Sync} (c : Nat) (s : State) (h_ : s.whl.sync = c_) :
    (descDone c s).whl.sync = c_ := by
  unfold descDone
  repeat' (with_reducible first | assumption | rfl | apply writeStatus_sync | apply State_setDma_sync | dsimp only | split | intro)

theorem burstWrite_sync {c_ : Sync} (c : Nat) (b : List Byte) (s : State) (h_ : s.whl.sync = c_) :
    (burstWrite c b s).whl.sync = c_ := by
  unfold burstWrite
  repeat' (with_reducible first | assumption | rfl | apply State_memWrite_sync | apply State_setDma_sync | apply descDone_sync | dsimp only | split | intro)

theorem dmaMove_sync {c_ : Sync} (c j : Nat) (e : Ecc) (s : State) (h_ : s.whl.sync = c_) :
    (dmaMove c j e s).whl.sync = c_ := by
  unfold dmaMove
  repeat' (with_reducible first | assumption | rfl | apply dmaFault_sync | apply rewriteDesc_sync | apply burstWords_sync | apply burstWrite_sync | dsimp only | split | intro)

theorem doDmaBurst_sync {c_ : Sync} (c j : Nat) (e : Ecc) (s : State) (h_ : s.whl.sync = c_) :
    (doDmaBurst c j e s).whl.sync = c_ := by
  unfold doDmaBurst
  repeat' (with_reducible first | assumption | rfl | apply dmaLoad_sync | apply dmaMove_sync | dsimp only | split | intro)

theorem doDmaTransferComplete_sync {c_ : Sync} (c : Nat) (s : State) (h_ : s.whl.sync = c_) :
    (doDmaTransferComplete c s).whl.sync = c_ := by
  unfold doDmaTransferComplete
  repeat' (with_reducible first | assumption | rfl | apply descDone_sync | apply State_setDma_sync | apply raiseIf_sync | apply setLatch_sync | dsimp only | split | intro)

theorem timeNow_sync {c_ : Sync} (s : State) (h_ : s.whl.sync = c_) :
    (timeNow s).whl.sync = c_ := by
  unfold timeNow
  repeat' (with_reducible first | assumption | rfl | apply passNow_sync | apply stepsNow_sync | apply kcNow_sync | dsimp only | split | intro)

/-- The commands this family of lemmas leaves out. -/
def leaves_sync : Instr → Bool
  | .strainerAccept _ _ | .pulseLongTimeout _ _ | .stall _ | .supplyJudgement _ _ | .resetCommandDelayExpiry _ | .lossReported _ | .resetNPulse _ _ => true
  | _ => false

/-- The effect of every command but those named keeps the synchronisation state. -/
theorem effect_sync {c_ : Sync} (i : Instr) (s : State) (h_l : leaves_sync i = false) (h_ : s.whl.sync = c_) :
    (effect i s).whl.sync = c_ := by
  cases i with
  | wheelCrossing => exact doWheelCrossing_sync (h_ := h_) ..
  | strainerAccept => cases h_l
  | pulseLongTimeout => cases h_l
  | secondaryPromotion => exact doSecondaryPromotion_sync (h_ := h_) ..
  | virtualBoundary => exact doVirtualBoundary_sync (h_ := h_) ..
  | countHold => exact doCountHold_sync (h_ := h_) ..
  | toothOverdue => exact doToothOverdue_sync (h_ := h_) ..
  | speedRecompute => exact doSpeedRecompute_sync (h_ := h_) ..
  | stall => cases h_l
  | anglePassed => exact doAnglePassed_sync (h_ := h_) ..
  | eventInsertion => exact doEventInsertion_sync (h_ := h_) ..
  | eventAimRequest => exact doEventAim_sync (h_ := h_) ..
  | eventCancelRequest => exact doEventCancel_sync (h_ := h_) ..
  | commit => exact doCommit_sync (h_ := h_) ..
  | eventTableEccError => exact doEventTableEccError_sync (h_ := h_) ..
  | profileStart => exact doProfileStart_sync (h_ := h_) ..
  | regulatorSwitch => exact doRegulatorSwitch_sync (h_ := h_) ..
  | peakEnd => exact doPeakEnd_sync (h_ := h_) ..
  | peakTimeout => exact doPeakTimeout_sync (h_ := h_) ..
  | transitionEnd => exact doTransitionEnd_sync (h_ := h_) ..
  | ditherStep => exact doDitherStep_sync (h_ := h_) ..
  | turnOffInstant => exact doTurnOffInstant_sync (h_ := h_) ..
  | turnOffComplete => exact doTurnOffComplete_sync (h_ := h_) ..
  | channelOvercurrent => exact doChannelOvercurrent_sync (h_ := h_) ..
  | bankOvercurrent => exact doBankOvercurrent_sync (h_ := h_) ..
  | onMaxStop => exact doOnMaxStop_sync (h_ := h_) ..
  | onStateFault => exact doOnStateFault_sync (h_ := h_) ..
  | extensionWrite => exact doExtensionWrite_sync (h_ := h_) ..
  | setpointWrite => exact doSetpointWrite_sync (h_ := h_) ..
  | kettleLevelChange => exact doKettleLevelChange_sync (h_ := h_) ..
  | kettleChargeDeadline => exact doKettleChargeDeadline_sync (h_ := h_) ..
  | kettleOvervoltage => exact doKettleOvervoltage_sync (h_ := h_) ..
  | kettleCapacitanceMeasure => exact doKettleCapacitance_sync (h_ := h_) ..
  | closingRecordWritten => exact doClosingRecordWritten_sync (h_ := h_) ..
  | captureEnd => exact doCaptureEnd_sync (h_ := h_) ..
  | offTestStart => exact doOffTestStart_sync (h_ := h_) ..
  | offTestComplete => exact doOffTestComplete_sync (h_ := h_) ..
  | kcPeriodBoundary => exact doKcPeriodBoundary_sync (h_ := h_) ..
  | kcTrigger => exact doKcTrigger_sync (h_ := h_) ..
  | ebPeriodBoundary => exact doEbPeriodBoundary_sync (h_ := h_) ..
  | ebPerEvent => exact doEbPerEvent_sync (h_ := h_) ..
  | ebPhaseEdge => exact doEbPhaseEdge_sync (h_ := h_) ..
  | ebDeadTimeEnd => exact doEbDeadTimeEnd_sync (h_ := h_) ..
  | tripAccept => exact doTripAccept_sync (h_ := h_) ..
  | blankingEnd => exact doBlankingEnd_sync (h_ := h_) ..
  | ebEnable => exact doEbEnable_sync (h_ := h_) ..
  | ebDisable => exact doEbDisable_sync (h_ := h_) ..
  | ebLoadArm => exact doEbLoadArm_sync (h_ := h_) ..
  | ebImmediateWrite => exact doEbWrite_sync (h_ := h_) ..
  | ebTripClear => exact doEbTripClear_sync (h_ := h_) ..
  | pwmGlbLoad => exact doPwmGlbLoad_sync (h_ := h_) ..
  | pwmGlbStart => exact doPwmGlbStart_sync (h_ := h_) ..
  | timerStart => exact doTimerStart_sync (h_ := h_) ..
  | timerStop => exact doTimerStop_sync (h_ := h_) ..
  | timerTargetWrite => exact doTimerTargetWrite_sync (h_ := h_) ..
  | timGlbStart => exact doTimGlbStart_sync (h_ := h_) ..
  | timerExpiry => exact doTimerExpiry_sync (h_ := h_) ..
  | captureEdge => exact doCaptureEdge_sync (h_ := h_) ..
  | supplyThresholdCrossing => exact doSupplyThresholdCrossing_sync (h_ := h_) ..
  | supplyJudgement => cases h_l
  | supplyDebounceExpiry => exact doSupplyDebounceExpiry_sync (h_ := h_) ..
  | holdupRecoveryExpiry => exact doHoldupRecoveryExpiry_sync (h_ := h_) ..
  | holdupStoreExhausted => exact doHoldupStoreExhausted_sync (h_ := h_) ..
  | enableChange => exact doEnableChange_sync (h_ := h_) ..
  | thermalThreshold => exact doThermalThreshold_sync (h_ := h_) ..
  | sensorSupplyFault => exact doSensorSupplyFault_sync (h_ := h_) ..
  | referenceLoss => exact doReferenceLoss_sync (h_ := h_) ..
  | holdoverExpiry => exact doHoldoverExpiry_sync (h_ := h_) ..
  | referenceReturn => exact doReferenceReturn_sync (h_ := h_) ..
  | relockComplete => exact doRelockComplete_sync (h_ := h_) ..
  | referenceStarted => exact doReferenceStarted_sync (h_ := h_) ..
  | claimNChange => exact doClaimNChange_sync (h_ := h_) ..
  | challengeExpiry => exact doChallengeExpiry_sync (h_ := h_) ..
  | releaseReminder => exact doReleaseReminder_sync (h_ := h_) ..
  | releaseCountdownExpiry => exact doReleaseCountdownExpiry_sync (h_ := h_) ..
  | entropyHealthFailure => exact doEntropyHealthFailure_sync (h_ := h_) ..
  | lockoutExpiry => exact doLockoutExpiry_sync (h_ := h_) ..
  | envelopeCopyError => exact doEnvelopeCopyError_sync (h_ := h_) ..
  | envelopeReloadComplete => exact doEnvelopeReloadComplete_sync (h_ := h_) ..
  | envelopeWriteComplete => exact doEnvelopeWriteComplete_sync (h_ := h_) ..
  | configStoreComplete => exact doConfigStoreComplete_sync (h_ := h_) ..
  | caddyWriteComplete => exact doCaddyWriteComplete_sync (h_ := h_) ..
  | ohmacFrame => exact doOhmacFrame_sync (h_ := h_) ..
  | frameGapTimeout => exact doFrameGapTimeout_sync (h_ := h_) ..
  | mbxSend => exact doMbxSend_sync (h_ := h_) ..
  | mbxRxDone => exact doMbxRxDone_sync (h_ := h_) ..
  | mbxAbort => exact doMbxAbort_sync (h_ := h_) ..
  | canBusOff => exact doCanBusOff_sync (h_ := h_) ..
  | sessionOpenTimeout => exact doSessionOpenTimeout_sync (h_ := h_) ..
  | sessionIdleTimeout => exact doSessionIdleTimeout_sync (h_ := h_) ..
  | identity => exact doIdentity_sync (h_ := h_) ..
  | attest => exact doAttest_sync (h_ := h_) ..
  | claim => exact doClaim_sync (h_ := h_) ..
  | enrol => exact doEnrol_sync (h_ := h_) ..
  | revoke => exact doRevoke_sync (h_ := h_) ..
  | transfer => exact doTransfer_sync (h_ := h_) ..
  | decommission => exact doDecommission_sync (h_ := h_) ..
  | retire => exact doRetire_sync (h_ := h_) ..
  | forceRelease => exact doForceRelease_sync (h_ := h_) ..
  | envInstall => exact doEnvInstall_sync (h_ := h_) ..
  | open1 => exact doOpen1_sync (h_ := h_) ..
  | open3 => exact doOpen3_sync (h_ := h_) ..
  | close => exact doClose_sync (h_ := h_) ..
  | ping => exact doPing_sync (h_ := h_) ..
  | readRegs => exact doReadRegs_sync (h_ := h_) ..
  | cycleRecord => exact doCycleRecord_sync (h_ := h_) ..
  | telemetry => exact doTelemetry_sync (h_ := h_) ..
  | logRead => exact doLogRead_sync (h_ := h_) ..
  | targets => exact doTargets_sync (h_ := h_) ..
  | cfgStage => exact doCfgStage_sync (h_ := h_) ..
  | cfgCommit => exact doCfgCommit_sync (h_ := h_) ..
  | cfgDiscard => exact doCfgDiscard_sync (h_ := h_) ..
  | cfgRead => exact doCfgRead_sync (h_ := h_) ..
  | cfgStatus => exact doCfgStatus_sync (h_ := h_) ..
  | imgBegin => exact doImgBegin_sync (h_ := h_) ..
  | imgData => exact doImgData_sync (h_ := h_) ..
  | imgEnd => exact doImgEnd_sync (h_ := h_) ..
  | imgSelect => exact doImgSelect_sync (h_ := h_) ..
  | imgConfirm => exact doImgConfirm_sync (h_ := h_) ..
  | reset => exact doReset_sync (h_ := h_) ..
  | resetCommandDelayExpiry => cases h_l
  | testShot => exact doTestShot_sync (h_ := h_) ..
  | diagRunOffTest => exact doDiagRunOffTest_sync (h_ := h_) ..
  | diagRunClear => exact doDiagRunClear_sync (h_ := h_) ..
  | add => exact doAdd_sync (h_ := h_) ..
  | sub => exact doSub_sync (h_ := h_) ..
  | addc => exact doAddc_sync (h_ := h_) ..
  | subc => exact doSubc_sync (h_ := h_) ..
  | and => exact doAnd_sync (h_ := h_) ..
  | or => exact doOr_sync (h_ := h_) ..
  | xor => exact doXor_sync (h_ := h_) ..
  | shl => exact doShl_sync (h_ := h_) ..
  | shr => exact doShr_sync (h_ := h_) ..
  | sar => exact doSar_sync (h_ := h_) ..
  | mul => exact doMul_sync (h_ := h_) ..
  | mulhu => exact doMulhu_sync (h_ := h_) ..
  | mulhs => exact doMulhs_sync (h_ := h_) ..
  | divu => exact doDivu_sync (h_ := h_) ..
  | remu => exact doRemu_sync (h_ := h_) ..
  | slt => exact doSlt_sync (h_ := h_) ..
  | sltu => exact doSltu_sync (h_ := h_) ..
  | adda => exact doAdda_sync (h_ := h_) ..
  | dista => exact doDista_sync (h_ := h_) ..
  | addi => exact doAddi_sync (h_ := h_) ..
  | andi => exact doAndi_sync (h_ := h_) ..
  | ori => exact doOri_sync (h_ := h_) ..
  | xori => exact doXori_sync (h_ := h_) ..
  | shli => exact doShli_sync (h_ := h_) ..
  | shri => exact doShri_sync (h_ := h_) ..
  | sari => exact doSari_sync (h_ := h_) ..
  | lui => exact doLui_sync (h_ := h_) ..
  | ld => exact doLd_sync (h_ := h_) ..
  | ldh => exact doLdh_sync (h_ := h_) ..
  | ldb => exact doLdb_sync (h_ := h_) ..
  | st => exact doSt_sync (h_ := h_) ..
  | sth => exact doSth_sync (h_ := h_) ..
  | stb => exact doStb_sync (h_ := h_) ..
  | beq => exact doBeq_sync (h_ := h_) ..
  | bne => exact doBne_sync (h_ := h_) ..
  | blt => exact doBlt_sync (h_ := h_) ..
  | bge => exact doBge_sync (h_ := h_) ..
  | bltu => exact doBltu_sync (h_ := h_) ..
  | bgeu => exact doBgeu_sync (h_ := h_) ..
  | bf => exact doBf_sync (h_ := h_) ..
  | jmp => exact doJmp_sync (h_ := h_) ..
  | jal => exact doJal_sync (h_ := h_) ..
  | jr => exact doJr_sync (h_ := h_) ..
  | snap => exact doSnap_sync (h_ := h_) ..
  | rds => exact doRds_sync (h_ := h_) ..
  | waita => exact doWaita_sync (h_ := h_) ..
  | waitt => exact doWaitt_sync (h_ := h_) ..
  | waite => exact doWaite_sync (h_ := h_) ..
  | waittReached => exact doWaittReached_sync (h_ := h_) ..
  | waitTimeout => exact doWaitTimeout_sync (h_ := h_) ..
  | sched => exact doSched_sync (h_ := h_) ..
  | aim => exact doAim_sync (h_ := h_) ..
  | cancel => exact doCancel_sync (h_ := h_) ..
  | schedulerResult => exact doSchedulerResult_sync (h_ := h_) ..
  | note => exact doNote_sync (h_ := h_) ..
  | caprd => exact doCaprd_sync (h_ := h_) ..
  | mbxrd => exact doMbxrd_sync (h_ := h_) ..
  | mbxcp => exact doMbxcp_sync (h_ := h_) ..
  | dmago => exact doDmago_sync (h_ := h_) ..
  | signal => exact doSignal_sync (h_ := h_) ..
  | yield => exact doYield_sync (h_ := h_) ..
  | endTask => exact doEnd_sync (h_ := h_) ..
  | timeTrigger => exact doTimeTrigger_sync (h_ := h_) ..
  | budgetExhausted => exact doBudgetExhausted_sync (h_ := h_) ..
  | dmaBurst => exact doDmaBurst_sync (h_ := h_) ..
  | dmaTransferComplete => exact doDmaTransferComplete_sync (h_ := h_) ..
  | irqClaim => exact doIrqClaim_sync (h_ := h_) ..
  | irqComplete => exact doIrqComplete_sync (h_ := h_) ..
  | moderationHoldEnd => exact doModerationHoldEnd_sync (h_ := h_) ..
  | graceDeadline => exact doGraceDeadline_sync (h_ := h_) ..
  | faultAcknowledge => exact doFaultAcknowledge_sync (h_ := h_) ..
  | watchdogService => exact doWatchdogService_sync (h_ := h_) ..
  | watchdogTimeout => exact doWatchdogTimeout_sync (h_ := h_) ..
  | watchdogWarning => exact doWatchdogWarning_sync (h_ := h_) ..
  | handshakeStall => exact doHandshakeStall_sync (h_ := h_) ..
  | mgmtCoreStall => exact doMgmtCoreStall_sync (h_ := h_) ..
  | scrubAccess => exact doScrubAccess_sync (h_ := h_) ..
  | rulerCalibration => exact doRulerCalibration_sync (h_ := h_) ..
  | senseCalibration => exact doSenseCalibration_sync (h_ := h_) ..
  | senseStale => exact doSenseStale_sync (h_ := h_) ..
  | retentionRefreshStep => exact doRetentionRefreshStep_sync (h_ := h_) ..
  | telemetryBatch => exact doTelemetryBatch_sync (h_ := h_) ..
  | logbookFlush => exact doLogbookFlush_sync (h_ := h_) ..
  | counterFrame => exact doCounterFrame_sync (h_ := h_) ..
  | mirrorFrameSent => exact doMirrorFrameSent_sync (h_ := h_) ..
  | snapshotRead => exact doSnapshotRead_sync (h_ := h_) ..
  | lnsAngleRead => exact doLnsAngleRead_sync (h_ := h_) ..
  | registerWrite => exact doRegisterWrite_sync (h_ := h_) ..
  | standbyRequest => exact doStandbyRequest_sync (h_ := h_) ..
  | sleepRequest => exact doSleepRequest_sync (h_ := h_) ..
  | autoStandby => exact doAutoStandby_sync (h_ := h_) ..
  | autoSleep => exact doAutoSleep_sync (h_ := h_) ..
  | standbyWake => exact doStandbyWake_sync (h_ := h_) ..
  | sleepWake => exact doSleepWake_sync (h_ := h_) ..
  | lossReported => cases h_l
  | holdupStoreCharged => exact doHoldupStoreCharged_sync (h_ := h_) ..
  | canBusOffRecovery => exact doCanBusOffRecovery_sync (h_ := h_) ..
  | entropyHealthRecovery => exact doEntropyHealthRecovery_sync (h_ := h_) ..
  | sensorSupplyRecovery => exact doSensorSupplyRecovery_sync (h_ := h_) ..
  | tripInputRelease => exact doTripInputRelease_sync (h_ := h_) ..
  | thermalDeratingChange => exact doThermalDeratingChange_sync (h_ := h_) ..
  | digitiserSample => exact doDigitiserSample_sync (h_ := h_) ..
  | offTestNotRun => exact doOffTestNotRun_sync (h_ := h_) ..
  | illegalInstruction => exact doIllegalInstruction_sync (h_ := h_) ..
  | sleepEntryComplete => exact doSleepEntryComplete_sync (h_ := h_) ..
  | resetStepComplete => exact doResetStepComplete_sync (h_ := h_) ..
  | canFrameTransmitted => exact doCanFrameTransmitted_sync (h_ := h_) ..
  | resetNPulse => cases h_l

end Sys2Proof.Machine
end

