-- ==== Sys2Proof/Tests/Slice0.lean ====
section
/-! SUPPORT. Tests: the checks of a well-formed command refuse, words of the encoding tables decode, a few figures of
the spec's worked examples, and for each statement with hypotheses a state and operands that meet them. -/

namespace Sys2Proof
open Machine

set_option maxRecDepth 10000

/-! ## The checks of WellFormed refuse -/

theorem test_wf_instant : (Instr.stall (2 ^ 64)).wf = false ∧ (Instr.stall (2 ^ 64 - 1)).wf = true := by decide
theorem test_wf_peak : (Instr.wheelCrossing 5 3 true 65536).wf = false := by decide
theorem test_wf_current : (Instr.transitionEnd 5 3 8192).wf = false := by decide
theorem test_wf_energy : (Instr.peakEnd 5 3 100 (2 ^ 32)).wf = false := by decide
theorem test_wf_sum : (Instr.bankOvercurrent 5 3 65536).wf = false := by decide
theorem test_wf_pin : (Instr.offTestComplete 5 3 [(0, 4096)]).wf = false := by decide
theorem test_wf_extension : (Instr.extensionWrite 5 3 2 (2 ^ 24)).wf = false := by decide
theorem test_wf_kettle : (Instr.kettleOvervoltage 5 3 1024).wf = false := by decide
theorem test_wf_capacitance : (Instr.kettleCapacitanceMeasure 5 3 65536).wf = false := by decide
theorem test_wf_period : (Instr.kcPeriodBoundary 5 3 (2 ^ 24) 0).wf = false := by decide
theorem test_wf_capture : (Instr.captureEdge 5 3 6 true).wf = false := by decide
theorem test_wf_threshold : (Instr.supplyThresholdCrossing 5 .vmain .uvRising true 65536).wf = false := by decide
theorem test_wf_celsius : (Instr.thermalThreshold 5 (.bank 0) 256).wf = false := by decide
theorem test_wf_derating : (Instr.thermalDeratingChange 5 2 2560).wf = false := by decide
theorem test_wf_frame : (Instr.ohmacFrame 5 (.can false false false 2048 [])).wf = false := by decide
theorem test_wf_mailbox : (Instr.mbxSend 5 1024).wf = false := by decide
theorem test_wf_calibration : (Instr.rulerCalibration 5 0 128).wf = false := by decide
theorem test_wf_block : (Instr.retentionRefreshStep 5 (.bits 513)).wf = false := by decide
theorem test_wf_telemetry : (Instr.telemetryBatch 5 ⟨0, 0, 0, [], [], List.replicate 9 0, 5000⟩).wf = false := by decide
theorem test_wf_sensor : (Instr.telemetryBatch 5 ⟨0, 0, 0, [], [], [], 36001⟩).wf = false := by decide
theorem test_wf_input : (Instr.telemetryBatch 5 ⟨0, 0, 0, [], [], [36001], 5000⟩).wf = false := by decide
theorem test_wf_read : (Instr.snapshotRead 5 .core 0x2002).wf = false := by decide
theorem test_wf_write : (Instr.registerWrite 5 .core 0x10000 0).wf = false := by decide

/-! ## Words of the encoding tables -/

/-- The worked encodings of "Angle Code: Instruction Set". -/
theorem test_decode_worked : decodeAngle 0x50CFFFFB = some { op := .addi, d := 3, a := 3, imm := 0x3FFFB } ∧
    decodeAngle 0x728C0040 = some { op := .ld, d := 10, a := 3, imm := 0x40 } ∧
    decodeAngle 0xD5D28000 = some { op := .sched, d := 7, a := 4, b := 10 } ∧
    decodeAngle 0x9A37FFF0 = some { op := .blt, a := 8, b := 13, imm := 0x3FFF0 } := by decide

/-- No row of the table gives its command bits. -/
theorem test_table_word : decodeTableWord 32 0x50CFFFFB = none := rfl

/-! ## Figures of the worked examples -/

/-- The check value of the CRC of R112. -/
theorem test_crc32 : crc32 [0x31, 0x32, 0x33, 0x34, 0x35, 0x36, 0x37, 0x38, 0x39] = 0xCBF43926 := by decide

/-- "A pilot closing on CH03": CLOSE is 579.300 µs after the profile start. -/
theorem test_close_worked : closeAt { f := 3, d := 20, kth := 12 }
    { n := 0, etc := 0x12000000 + 580 * ticksPerUs, k := 105, kPrev := 95, y := 0, disturbed := false } = 0x1246B720 := by
  decide

/-! ## States of the tests -/

/-- A module in RUN, every register at its reset value. -/
def live : State := { State.reset with sys.mode := .run, etc := 1000 }
/-- `live` with wheel input `n` in a role and mode. -/
def liveWheel (n role mode : Nat) : State :=
  { live with cfg.active := (live.cfg.active.set 0 (0xA0 + 16 * n) (BitVec.ofNat 8 role)).set 0 (0xA1 + 16 * n) (BitVec.ofNat 8 mode) }
/-- A crank source that has accepted a first edge. -/
def liveCrank (w : Whl) : State := { liveWheel 0 1 1 with whl := w }
def heldEdge : WheelIn := { held := [{ stamp := 100, rising := true, peakMv := 0 }] }
/-- A position with a full period measured. -/
def liveLens (cur k : Nat) : State :=
  { liveWheel 0 1 1 with
    whl := { sync := .full, crank := { hasPos := true, f := 5, last := some 0, dir := .forward } }
    lns := { pn := 256 * 8000, started := true, havePn := true, mode := .run, cur := cur, k := k }
    etc := 8500 }
/-- `live` with context 0 parked on a request. -/
def liveWait (w : Wait) : State := { live with seq.ctx := [(0, { state := .parked, wait := w })] }
/-- An envelope that admits channel 0, and an engine in FULL with it and a profile 0 of kind 2. -/
def sampleEnv : List Byte := zeros 56 ++ leBytes 2 60 ++ zeros 6 ++ leBytes 4 0 ++ leBytes 4 0x77FFF ++ leBytes 4 1000000 ++ leBytes 2 0 ++ [4, 3] ++ leBytes 2 3000 ++ leBytes 2 300 ++ leBytes 2 2000 ++ leBytes 2 0 ++ leBytes 2 0xFFFF ++ zeros 6
def liveEngine : State := { liveLens 3 0 with
  sec.envelope := some sampleEnv
  cfg.active := (liveLens 3 0).cfg.active ++ [(0x400, 2), (0x402, 1), (0x40C, 100), (0x411, 2)] }
def slotW : Event := { state := .waiting, target := 0x30000, seq := 7, owner := 0, prof := 0 }
def liveCommit : State := { liveEngine with
  ruler.phase := .locked, supply.enable := true, cfg.active := (liveEngine.cfg.active.set 0 0x408 10), lns.speed := 20000, evs.slots := [(5, { slotW with state := .near, target := 0x4100, proj := 48000 })] }
def liveRun (c : Chan) : State := { live with act.ch := [(2, c)], act.bank := [(0, { banked := false })], etc := 90000 }
def copy1 : Profile := { kind := 1, banks := 1, iPeak := 2000, tPeakMax := 10, iHold := 500, tTrMax := 5, tOn := 1000, hyst := 50, extMax := 10 }
def runEv : Event := { state := .running, ch := 2, copy := copy1, frozen := 80000, onMax := 5000, peakMax := 2200 }
def runChan : Chan := { phase := .peak, start := 80000, offAt := 160000, evSlot := 9, ev := runEv, feedOn := true, peakSel := 1, phaseAt := 80000 }
def livePeak : State := liveRun runChan
def liveSteep : State := liveRun { runChan with phase := .steep, ext := 5, ev := { runEv with owner := 3 } }
def liveCharging : State := { live with act.kt := [(1, { state := .charging, target := 130, deadline := some 5000 })], supply.enable := true, cfg.active := live.cfg.active.set 0 0x17A 130 }
def capA : Capture := { ch := 2, off := 80000, cfg := { en := true }, seq := 1 }
def liveCap (c : Capture) : State := { live with dia.dg := [(0, { capture := some c, dec := 0 })], etc := 80000 }
def liveDia (h : DiaCh) : State := { live with dia.ch := [(2, h)], etc := 9000000 }
def liveEb (e : Eb) : State := { live with pwm.eb := [(1, e)] }
def liveKc (q : Kc) (z : Kettle) : State := { live with pwm.kc := [(1, q)], act.kt := [(1, z)], etc := 90000 }
def ktOn : Kettle := { state := .ready, chgW := 100, capUf := 200 }
def kcTr : Kc := { running := true, cmpDone := true, per := 5000, boundary := 80000, trig := [(2, { frac := 1000, en := true, ch := 3 })] }
def liveTim (c : Timer) : State := { live with tim.tm := [(3, c)], etc := 90000 }
def liveOn : State := { live with
  supply.enable := true, act.ch := [(2, { phase := .peak, ev := { state := .running, ch := 2 } })], pwm.eb := [(1, { en := true, hg := true })]
  evs.slots := [(4, { state := .armed, ch := 3 })] }
def bootAt (n : Nat) : State := { State.reset with ruler.refPresent := true, sys.step := n }
def liveIrq : State := { live with irc.host.en := 0x30, irc.host.pend := 0x20 }
def liveSafe : State := { live with
  supply.enable := true, act.ch := [(2, { phase := .peak, ev := { state := .running, ch := 2 } })], pwm.eb := [(1, { en := true, hg := true })]
  evs.slots := [(4, { state := .armed, ch := 3 }), (6, { state := .waiting, ch := 3 })], flt.wdt.timeout := 1 }
def liveBridge (e : Eb) : State := { live with pwm.eb := [(1, e)], supply.enable := true }
def codeSegs : List Seg := [{ base := 0x200000, limit := 0x23FFFF, x := true }, { base := 0x400000, limit := 0x47FFFF, r := true, w := true }]
def liveCode (x : AInstr) (c : Ctx) : State :=
  { live.memWrite 0x200000 (leBytes 4 (encodeAngle x).toNat) with
    seq := { live.seq with
      ctx := [(0, { c with state := .ready })]
      task := [(0, some { prio := 3, fprio := 5, faultPc := 0x20, dmaGrant := 2, segs := codeSegs })] } }
def iss : Issue := { sq := 0, fetch := .clean, data := .clean }
/-- One instruction of a task whose context is `c`, on top of state `b`. -/
def liveOp (b : State) (x : AInstr) (c : Ctx) : State :=
  let s := liveCode x c
  { s with cfg := b.cfg, whl := b.whl, lns := b.lns, evs := b.evs, etc := b.etc }
def liveTask (k : Task) (c : Ctx) : State := { live with seq := { live.seq with ctx := [(10, c)], task := [(10, some k)] } }
def liveDma (d : DmaCh) : State := { (live.memWrite 0x400200 (leBytes 4 0x11223344 ++ leBytes 4 0x55667788)) with
  dma.ch := [(2, d)], seq.ctx := [(0, { state := .halted })] }
def hostFrame (flags mtag : Byte) (seg : Nat) (p : List Byte) : List Byte :=
      let h := [flags, mtag] ++ leBytes 2 seg ++ leBytes 2 p.length ++ p
      h ++ leBytes 4 (crc32 h)
def linkUp : State := { live with sys.linksUp := true }
def liveUp : State := { live with sys.linksUp := true, sys.seqDone := true, sys.running := some .a }
def rq (code : Nat) (b : List Byte) : Request := { code := code, rtag := 5, body := b, sealed := false, mtag := 3 }
def asks (s : State) (code : Nat) (b : List Byte) : State := { s with links.can0.req := some (rq code b) }
def openSes : Session := ⟨2, 9, 0, 0x3F, [], [], 4, 4, 0, 0, none, none⟩
def shotBytes : List Byte := [0, 0, 0, 0] ++ leBytes 4 0x30000
def liveShot : State :=
  let s := asks liveUp 0x60 shotBytes
  { s with cfg := liveEngine.cfg, whl := liveEngine.whl, lns := liveEngine.lns, sec.envelope := some sampleEnv, etc := 8500 }

/-- An owned module, answering on CAN0 the request of `asks`. -/
def ownedMod : State :=
  { liveUp with sec.regsUp := true, nv.keys.life := .owned, nv.keys.ogen := 3, nv.keys.oseq := 5, nv.keys.forced := 2 }
/-- An owner command of R92 with OSEQ 9. -/
def ownerCommand (op : Nat) (body : List Byte) : List Byte :=
  leBytes 4 0x574F4C4B ++ leBytes 2 op ++ leBytes 2 body.length ++ leBytes 8 9 ++ devBind ++ body ++ zeros 64
def openedSession : SessionSt := .opened ⟨2, 9, 0, 0x3F, [], [], 4, 4, 0, 0, none, none⟩
/-- An operator certificate of the owner of `ownedMod`. -/
def certificate : List Byte :=
  leBytes 4 0x504F4C4B ++ [1, 0, 0x3F, 0] ++ leBytes 4 77 ++ leBytes 4 3 ++ zeros 32 ++ ownerId ownedMod ++ zeros 8 ++ zeros 128
def claimBody : List Byte :=
  leBytes 4 0x4C434C4B ++ leBytes 4 1 ++ devBind ++ zeros 32 ++ zeros 64 ++ leBytes 8 4 ++ zeros 64
def channelRecord : List Byte :=
  zeros 8 ++ leBytes 4 1000 ++ zeros 10 ++ leBytes 2 200 ++ leBytes 2 9000 ++ zeros 6
def envelopeHead : List Byte :=
  leBytes 4 0x56454C4B ++ [1, 0, 64, 0] ++ leBytes 8 3 ++ zeros 32 ++ ownerId ownedMod ++ leBytes 2 60 ++ zeros 6
/-- An envelope of the owner of `ownedMod` for all 64 channels. -/
def envelopeBytes : List Byte := envelopeHead ++ (List.replicate 64 channelRecord).flatten ++ zeros 64
def imageBytes : List Byte :=
  leBytes 4 0x4D494C4B ++ [1, 0, 0, 0] ++ leBytes 8 6 ++ zeros 32 ++ ownerId ownedMod ++ keyId (owkPub ownedMod) ++
    leBytes 4 8 ++ zeros 8 ++ [0, 3, 0, 0] ++ sha (zeros 8) ++ zeros 16 ++ zeros 8 ++ zeros 64

/-- The worked sums of ADDA on E16: 350 and 710 degrees and 20 more. -/
theorem test_adda_worked :
    (match exec (.adda 9000 iss) (liveOp { liveLens 3 0 with cfg.active := blkWrite (liveLens 3 0).cfg.active 0x80 (leBytes 2 240) }
      { op := .adda, d := 3, a := 1, b := 2 } { g := [(1, 0x000E9555), (2, 54613)] }) with
    | .next u => (u.ctx 0).reg 3
    | _ => 0) = 0x000F6AAA := by decide

/-! ## The hypotheses of the statements are met -/

theorem meets_StepRunsTheFrontCommand :
    { live with pending := [.stall 5] }.pending = .stall 5 :: [] ∧ State.reset.pending = [] := ⟨rfl, rfl⟩

theorem meets_EncodedInstructionsDecode :
    ({ op := .addi, d := 15, a := 15, imm := 0x3FFFF } : AInstr).wf = true ∧
      ({ op := .sched, d := 7, a := 4, b := 10 } : AInstr).wf = true := by decide

/-- A byte store at the front of the queue. -/
def storing : State :=
  { liveOp live { op := .stb, d := 1, a := 2 } { g := [(1, 0x55), (2, 0x400103)] } with pending := [.stb 9000 iss] }

theorem meets_MemoryStaysCanonical : memWf storing.mem = true ∧ ∃ u, step storing = .next u :=
  ⟨by decide, _, rfl⟩

theorem meets_OnlyResetLeavesSafe :
    ∃ u, step { live with flt.safe := true, pending := [.resetNPulse 5 20000] } = .next u ∧ u.flt.safe = false :=
  ⟨_, rfl, by decide⟩

theorem meets_SynchronisationChangesOnlyByItsCauses :
    ∃ u, exec (.lossReported 2000) { live with whl.sync := .lost } = .next u ∧ u.whl.sync ≠ .lost := ⟨_, rfl, by decide⟩

theorem meets_RunIsLeftOnlyOnRequest : ∃ u, exec (.standbyRequest 2000) live = .next u ∧ u.sys.mode ≠ .run :=
  ⟨_, rfl, by decide⟩

theorem meets_HostLineFollowsSources :
    live.supply.state ≠ .down ∧ (∃ u, exec (.relockComplete 2000) live = .next u ∧ u.irc.hold = none) ∧
      ∃ u, exec (.relockComplete 2000) { live with irc.hold := some { release := 1000 } } = .next u ∧ u.irc.hold ≠ none :=
  ⟨by decide, ⟨_, rfl, by decide⟩, ⟨_, rfl, by decide⟩⟩

theorem meets_CrossingsEnterTheStrainer :
    let s := liveWheel 3 5 1
    let v := { liveWheel 3 5 2 with whl := { inp := [(3, heldEdge)] } }
    let w := liveWheel 3 5 0
    (Alive s ∧ s.role 3 ≠ 0 ∧ false = comparator (s.wheel 3)) ∧
      (Alive v ∧ v.role 3 ≠ 0 ∧ false ≠ comparator (v.wheel 3) ∧
        (v.wheel 3).held.getLast? = some { stamp := 100, rising := true, peakMv := 0 } ∧
        max v.etc 500 < 100 + v.filtNs 3 * ticksPerNs) ∧
      (Alive w ∧ w.role 3 ≠ 0 ∧ true ≠ comparator (w.wheel 3) ∧ (w.wheel 3).held.getLast? = none ∧
        isVr w 3 = true ∧ isTiming w 3 true = true ∧ 0 ≤ armThreshold w 3) ∧
      true ≠ comparator (s.wheel 3) ∧ (s.wheel 3).held.getLast? = none ∧ isVr s 3 = false := by decide

theorem meets_EdgesAndLongPulses_other :
    let s := { liveWheel 3 5 1 with whl := { inp := [(3, { level := true, held := [{ stamp := 100, rising := false, peakMv := 0 }] })] } }
    Alive s ∧ s.role 3 ≠ 0 ∧ (s.wheel 3).held = [{ stamp := 100, rising := false, peakMv := 0 }] ∧
      100 + s.filtNs 3 * ticksPerNs ≤ max s.etc 20000 ∧ decodes s 3 = false ∧ isTiming s 3 false = false := by decide

theorem meets_PwmAndTimerFrames :
    (Alive live ∧ (∃ u, exec (.ebEnable 2000 3) live = .next u) ∧ ∃ u, exec (.kcTrigger 2000 1 2 5) live = .next u) ∧
      ∃ u, exec (.timerStart 2000 4) live = .next u := ⟨⟨by decide, ⟨_, rfl⟩, ⟨_, rfl⟩⟩, ⟨_, rfl⟩⟩

/-- Every integer instruction issues, here with register 15 as its destination. -/
theorem meets_AngleIntegerResults :
    (∀ op ∈ [AOp.add, .sub, .addc, .subc, .and, .or, .xor, .shl, .shr, .sar, .mul, .mulhu, .mulhs, .divu, .remu, .slt, .sltu],
      let x : AInstr := { op := op, d := 15, a := 14, b := 13 }
      Issues (liveCode x { g := [(14, 0xFFFFFFFF), (13, 0x80000000)], c := true }) iss 0 x) ∧
    (∀ op ∈ [AOp.addi, .andi, .ori, .xori, .shli, .shri, .sari],
      let x : AInstr := { op := op, d := 15, a := 14, imm := 31 }
      Issues (liveCode x { g := [(14, 0xFFFFFFFF)] }) iss 0 x) ∧
    (let x : AInstr := { op := .lui, d := 15, imm := 0x3FFFFF }
     Issues (liveCode x {}) iss 0 x) := by decide

theorem meets_AngleBranchesAndJumps_other :
    (∀ op ∈ [AOp.beq, .bne, .blt, .bge, .bltu, .bgeu, .bf],
      let x : AInstr := { op := op, a := 3, b := if op = .bf then 0 else 2, imm := 0x3FFFF }
      Issues (liveCode x { g := [(3, 0x7FFFFFFF), (2, 0x80000000)] }) iss 0 x) ∧
    (let x : AInstr := { op := .jmp, imm := 0xFFFF }
     Issues (liveCode x {}) iss 0 x) ∧
    (let x : AInstr := { op := .jal, d := 15, imm := 0xFFFF }
     Issues (liveCode x {}) iss 0 x) := by decide

/-- The last word of data memory, and its last halfword and byte. -/
theorem meets_AngleLoadsAndStores :
    ∀ p ∈ [(AOp.ld, 4, 0x47FFFC), (.ldh, 2, 0x47FFFE), (.ldb, 1, 0x47FFFF), (.st, 4, 0x47FFFC), (.sth, 2, 0x47FFFE), (.stb, 1, 0x47FFFF)],
      let x : AInstr := { op := p.1, d := 1, a := 2, imm := 0x3FFFF }
      let s := liveCode x { g := [(1, 0x12345678), (2, BitVec.ofNat 32 (p.2.2 + 1))] }
      let a := ((s.ctx 0).reg x.a + (BitVec.ofNat 18 x.imm).signExtend 32).toNat
      Issues s iss 0 x ∧ iss.data = .clean ∧ a = p.2.2 ∧ a < 0x1000000 ∧
        admitted (s.taskOf 0).segs (if p.1 ∈ [.ld, .ldh, .ldb] then .load else if p.1 = .st then .store else .patch) a p.2.1 = true ∧
        a % p.2.1 = 0 ∧ 0x10000 ≤ a ∧ regionOf a = .data ∧ isBad s (a / 4 * 4) = false := by decide

theorem meets_ProfilePhasesAndRegulator_setpoint : Alive live ∧ 0 < live.channels := by decide

theorem meets_TimeNeverGoesBack :
    (∀ t n, Instr.resetNPulse 5 1999 = .resetNPulse t n → n < 2000 ∨ 10000 ≤ n) ∧ live.sys.mode = .run := by
  refine ⟨fun t n h => ?_, rfl⟩
  cases h
  exact .inl (by decide)

theorem meets_AuxiliaryEdgesOnlyStamp :
    (let s := { liveWheel 3 5 1 with whl := { inp := [(3, heldEdge)] } }
     (Alive s) ∧ (s.role 3 = 5) ∧ ((s.wheel 3).held = [{ stamp := (100 : Tick), rising := true, peakMv := 0 }])
       ∧ ((100 : Tick) + s.filtNs 3 * ticksPerNs ≤ max s.etc (20000 : Tick)) ∧ (isTiming s 3 true = true) ∧
       (s.sys.order64 = true ∨ 3 < 4)) :=
  by decide

theorem meets_JrAndEndEndTheHandler :
    (let x : AInstr := { op := AOp.jr, a := 1 }
     let s := liveOp live x
       { g := [(1, (20480 : Word))], fh := true, fpc := (9 : BitVec 16), saveG14 := (7 : Word) }
     ((s.ctx 0).fh = true) ∧ (Issues s iss 0 x) ∧ (x.op = AOp.jr)) ∧
    (let x : AInstr := { op := AOp.jr, a := 1 }
     let t := liveOp live x
       { g := [(1, (9 : Word))], fh := true, fpc := (9 : BitVec 16), saveG14 := (7 : Word) }
     let s := t.ctx 0
     (s.fh = true) ∧ (Issues t iss 0 x) ∧ (x.op = AOp.jr) ∧ (s.reg x.a = BitVec.setWidth 32 (issued t (9000 :
       Tick) 0).fpc)) ∧
    (let x : AInstr := { op := AOp.jr, a := 1 }
     let t := liveOp live x
       { g := [(1, (10 : Word))], fh := true, fpc := (9 : BitVec 16), saveG14 := (7 : Word) }
     let s := t.ctx 0
     (s.fh = true) ∧ (Issues t iss 0 x) ∧ (x.op = AOp.jr) ∧ (s.reg x.a = BitVec.setWidth 32 (issued t (9000 :
       Tick) 0).fpc + (1 : Word))) ∧
    (let x : AInstr := { op := AOp.endTask }
     let s := liveOp live x
       { c := true, snap := { ang := (5 : Word) }, sigIn := (77 : BitVec 16), fh := true, prioNow := 5, saveG14 := (99 : Word) }
     ((s.ctx 0).fh = true) ∧ (Issues s iss 0 x) ∧ (x.op = AOp.endTask) ∧ ((issued s (9000 : Tick) 0).pending =
       false)) ∧
    (let x : AInstr := { op := AOp.endTask }
     let s := liveOp live x
       { c := true, snap := { ang := (5 : Word) }, sigIn := (77 : BitVec 16), fh := true, prioNow := 5, pending := true, saveG14 := (99 : Word) }
     ((s.ctx 0).fh = true) ∧ (Issues s iss 0 x) ∧ (x.op = AOp.endTask) ∧ ((issued s (9000 : Tick) 0).pending =
       true)) :=
  ⟨by decide, by decide, by decide, by decide, by decide⟩

theorem meets_OneGraceTimer :
    (let s := { live with cfg.active := (live.cfg.active.set 0 0x50 0).set 0 0x55 0x40 }
     (Alive s) ∧ (s.flt.safe = false) ∧ (s.faultClass 23 = 1) ∧ (Instr.handshakeStall (9000000 : Tick) =
       Instr.handshakeStall (9000000 : Tick) ∧ 23 = 23 ∨ Instr.handshakeStall (9000000 : Tick) =
       Instr.mgmtCoreStall (9000000 : Tick) ∧ 23 = 22 ∨ Instr.handshakeStall (9000000 : Tick) =
       Instr.watchdogTimeout (9000000 : Tick) ∧ 23 = 0 ∧ s.flt.wdt.timeout ≠ 0 ∧ s.flt.wdt.since +
       s.flt.wdt.timeout * ticksPerMs ≤ max s.etc (9000000 : Tick)) ∧ (s.flt.grace = none)) ∧
    (let s := { live with cfg.active := (live.cfg.active.set 0 0x50 0).set 0 0x55 0x40, flt.grace := some 77 }
     (Alive s) ∧ (s.flt.safe = false) ∧ (s.faultClass 23 = 1) ∧ (Instr.handshakeStall (9000000 : Tick) =
       Instr.handshakeStall (9000000 : Tick) ∧ 23 = 23 ∨ Instr.handshakeStall (9000000 : Tick) =
       Instr.mgmtCoreStall (9000000 : Tick) ∧ 23 = 22 ∨ Instr.handshakeStall (9000000 : Tick) =
       Instr.watchdogTimeout (9000000 : Tick) ∧ 23 = 0 ∧ s.flt.wdt.timeout ≠ 0 ∧ s.flt.wdt.since +
       s.flt.wdt.timeout * ticksPerMs ≤ max s.etc (9000000 : Tick)) ∧ (s.flt.grace = some (77 : Tick))) ∧
    (let s := { live with flt.grace := some 77, flt.pend := 8 }
     (Alive s) ∧ (s.flt.safe = false) ∧ (s.flt.grace = some (77 : Tick)) ∧ ((77 : Tick) ≤ max s.etc (9000000 :
       Tick)) ∧ (s.flt.pend ≠ (0 : BitVec 96))) :=
  ⟨by decide, by decide, by decide⟩

theorem meets_LowBootstrapDropsHighPhases :
    (let t :=
       { live with pwm.eb := [(1, { en := true, updn := true, down := true, anchor := 2000, anchorCount := 800, act := { per := 1000, cmp := 500 }, lg := true })] }
     let s := t.ebU 1
     (Alive t) ∧ (s.en = true) ∧ (s.tripped = false) ∧ (s.clearOk = false) ∧ (s.high = false) ∧ (ebCrossing s =
       some (4400 : Tick)) ∧ ((4400 : Tick) ≤ max t.etc (900000 : Tick))) ∧
    (let t :=
       { live with pwm.eb := [(1, { en := true, anchor := 2000, act := { per := 1000, cmp := 500 }, lg := true })] }
     let s := t.ebU 1
     (Alive t) ∧ (s.en = true) ∧ (s.tripped = false) ∧ (s.clearOk = false) ∧ (s.high = false) ∧ (s.updn = false
       ∨ s.down = true) ∧ (ebBoundaryDue s ≤ max t.etc (900000 : Tick)) ∧ (s.armAt = none) ∧ (s.act.cmp ≠ 0)) :=
  ⟨by decide, by decide⟩

theorem meets_HostWritesReachTheirOwn :
    (let s := { live with sys.linksUp := true }
     (Alive s) ∧ (s.sys.linksUp = true) ∧ (BitVec.toNat (256 : BitVec 24) % 4 = 0)) :=
  by decide

theorem meets_EdgesAndLongPulses :
    (let s := { liveWheel 3 5 1 with whl := { inp := [(3, heldEdge)] } }
     (Alive s) ∧ (s.role 3 ≠ 0) ∧ (decodes s 3 = false) ∧ ((100 : Tick) + s.filtNs 3 * ticksPerNs ≤ max s.etc
       (20000 : Tick)) ∧ ((s.wheel 3).held = [{ stamp := (100 : Tick), rising := true, peakMv := 0 }]) ∧
       (isTiming s 3 true = true) ∧ (s.role 3 = 5)) ∧
    (let s := liveCrank { sync := .lost, inp := [(0, heldEdge)] }
     (Alive s) ∧ (s.role 0 ≠ 0) ∧ (decodes s 0 = false) ∧ ((100 : Tick) + s.filtNs 0 * ticksPerNs ≤ max s.etc
       (20000 : Tick)) ∧ ((s.wheel 0).held = [{ stamp := (100 : Tick), rising := true, peakMv := 0 }]) ∧
       (isTiming s 0 true = true) ∧ (crankInput s = some 0) ∧ (s.whl.sync = Sync.lost)) ∧
    (let s := liveCrank { sync := .nosync, inp := [(0, heldEdge)] }
     (Alive s) ∧ (s.role 0 ≠ 0) ∧ (decodes s 0 = false) ∧ ((100 : Tick) + s.filtNs 0 * ticksPerNs ≤ max s.etc
       (20000 : Tick)) ∧ ((s.wheel 0).held = [{ stamp := (100 : Tick), rising := true, peakMv := 0 }]) ∧
       (isTiming s 0 true = true) ∧ (crankInput s = some 0) ∧ (s.whl.sync = Sync.nosync) ∧ (s.lns.rev = false) ∧
       (s.whl.crank.last = none)) ∧
    (let s := liveCrank { sync := .nosync, crank := {last := some 50}, inp := [(0, heldEdge)] }
     (Alive s) ∧ (s.role 0 ≠ 0) ∧ (decodes s 0 = false) ∧ ((100 : Tick) + s.filtNs 0 * ticksPerNs ≤ max s.etc
       (20000 : Tick)) ∧ ((s.wheel 0).held = [{ stamp := (100 : Tick), rising := true, peakMv := 0 }]) ∧
       (isTiming s 0 true = true) ∧ (crankInput s = some 0) ∧ (s.whl.sync = Sync.nosync) ∧ (s.lns.rev = false) ∧
       (s.whl.crank.last = some 50) ∧ (s.whl.crank.prevN = 0) ∧ (s.whl.crank.cand = none) ∧ (s.gapCount ≠ 0)) ∧
    (let t := { liveWheel 0 1 0x11 with whl := { sync := .lost, inp := [(0, {lead := some 100})] } }
     let s := t.wheel 0
     (Alive t) ∧ (s.lead = some 100) ∧ (s.pulse = Pulse.none) ∧ (s.lostEdge = false) ∧ (s.held = []) ∧ (crankInput t = some 0) ∧ (100 +
       t.dirLim1 0 * ticksPerUs + t.filtNs 0 * ticksPerNs ≤ max t.etc (2000000 : Tick)) ∧ (t.whl.sync =
       Sync.lost)) ∧
    (let t :=
       { liveWheel 0 1 0x11 with whl := { sync := .nosync, crank := {stepBack := some false, before := 7, f := 8}, inp := [(0, {lead := some 100})] } }
     let s := t.wheel 0
     (Alive t) ∧ (s.lead = some 100) ∧ (s.pulse = Pulse.none) ∧ (s.lostEdge = false) ∧ (s.held = []) ∧ (crankInput t = some 0) ∧ (100 +
       t.dirLim1 0 * ticksPerUs + t.filtNs 0 * ticksPerNs ≤ max t.etc (2000000 : Tick)) ∧ (t.whl.sync =
       Sync.nosync) ∧ (t.whl.crank.stepBack = some false) ∧ (t.whl.crank.dir = Dir.unknown) ∧
       (t.whl.crank.runClass ≠ Pulse.long) ∧ (t.lns.rev = false)) :=
  ⟨by decide, by decide, by decide, by decide, by decide, by decide⟩

theorem meets_PromotionStallAndLoss :
    (let s :=
       { liveLens 3 0 with cfg.active := ((live.cfg.active.set 0 0xA0 1).set 0 0xB0 2).set 0 0xB1 1, whl := { sync := .full, secOfs := some 4, secAgree := true, crank := { f := 3, hasPos := true}, second := { f := 9, hasPos := true }, inp := [(0, {vswFault := true})] } }
     (Alive s) ∧ (inputOf s 1 = some 0) ∧ (inputOf s 2 = some 1) ∧ (s.whl.secOfs = some 4) ∧ (s.whl.promoted =
       false) ∧ (positioned s.whl.sync = true) ∧ (s.whl.secAgree = true) ∧
       (primaryGone (State.advance (8600 : Tick) s) 0 = true)) ∧
    ((Alive (liveLens 57 0)) ∧ (stallAt (liveLens 57 0) ≤ max (liveLens 57 0).etc (8000000000 : Tick)) ∧
       (heldBefore (liveLens 57 0) (stallAt (liveLens 57 0)) = false) ∧ ((liveLens 57 0).whl.sync ≠ Sync.nosync)) ∧
    (let s :=
       { liveWheel 0 1 0x11 with whl := { qsTrack := true, qsMoved := true, crank := {hasPos := true, f:= 3}} }
     (Alive s) ∧ (stallAt s ≤ max s.etc (8000000000 : Tick)) ∧ (heldBefore s (stallAt s) = false) ∧ (s.whl.sync
       = Sync.nosync) ∧ (s.whl.qsTrack = true) ∧ (s.whl.qsMoved = true) ∧ (s.whl.crank.hasPos = true) ∧
       (sourceDecodes s = true) ∧ (s.supply.state ≠ SupplyState.holdup)) ∧
    (let s := {live with whl.sync := .lost}
     (Alive s) ∧ (s.whl.sync = Sync.lost)) :=
  ⟨by decide, by decide, by decide, by decide⟩

theorem meets_LensBetweenTeeth :
    ((Alive (liveLens 57 0)) ∧ (counting (liveLens 57 0) = true) ∧ (closesOnTooth (liveLens 57 0) = false) ∧
       (virtualAt (liveLens 57 0) ≤ max (liveLens 57 0).etc (8600 : Tick)) ∧ (((liveLens 57 0).lns.cur + 1) % (2
       * (liveLens 57 0).nTeeth) ≠ 0)) ∧
    ((Alive (liveLens 3 0)) ∧ (counting (liveLens 3 0) = true) ∧ (closesOnTooth (liveLens 3 0) = true) ∧
       ((liveLens 3 0).lns.mode = LensMode.run) ∧ (holdAt (liveLens 3 0) ≤ max (liveLens 3 0).etc (8600 : Tick))) ∧
    ((Alive (liveLens 3 0)) ∧ (counting (liveLens 3 0) = true) ∧ (closesOnTooth (liveLens 3 0) = true) ∧
       ((liveLens 3 0).lns.mode ≠ LensMode.overdue) ∧ (overdueAt (liveLens 3 0) ≤ max (liveLens 3 0).etc (8600 :
       Tick)) ∧ (heldBefore (liveLens 3 0) (overdueAt (liveLens 3 0)) = false)) ∧
    ((Alive (liveLens 3 0)) ∧ ((liveLens 3 0).lns.havePn = true) ∧ ((liveLens 3 0).whl.sync ≠ Sync.nosync) ∧
       ((liveLens 3 0).lns.sixteenths < (max (liveLens 3 0).etc (8600 : Tick) - (liveLens 3 0).lns.tLast) / max
       1 ((liveLens 3 0).lns.pn / 4096))) ∧
    (let t := { liveLens 3 0 with lns.seen := 3*4096+1}
     let s := (3 : Word) * (4096 : Word) + (1900 : Word)
     (Alive t) ∧ (counting t = true) ∧ (lensLinAt t (max t.etc (8600 : Tick)) = some (3 * 4096 + 4095)) ∧
       (angValid t s = true) ∧ (inRange t.cycleLen t.lns.seen (3 * 4096 + 4095) (BitVec.toNat s) = true) ∧
       (fwdDist t.cycleLen t.lns.seen (3 * 4096 + 4095) < t.cycleLen / 2)) :=
  ⟨by decide, by decide, by decide, by decide, by decide⟩

theorem meets_SchedulerAnswers :
    (let t := liveWait (.insertion 1 2 0x3000 0x02000000 0)
     let s := requestEvent 0 (12288 : Word) (33554432 : Word) (0 : Word)
     (Alive t) ∧ (hasTurn t 0 0 = true) ∧ ((t.ctx 0).wait = Wait.insertion 1 2 (12288 : Word) (33554432 : Word) (0 : Word)) ∧ ((if
       t.flt.safe = true then 6 else if (33554432 : Word) &&& (4227858624 : Word) ≠ (0 : Word) ∨ (0 : Word) &&&
       (4278190080 : Word) ≠ (0 : Word) ∨ 2 * t.nTeeth ≤ BitVec.toNat (12288 : Word) / 4096 ∨ s.next = false ∧
       s.ctag ≠ t.evs.cycle % 256 ∧ s.ctag ≠ (t.evs.cycle + 1) % 256 then 2 else if positioned t.whl.sync =
       false then 3 else if t.channels ≤ s.ch then 4 else if profileOk (t.profile s.prof) s.ch s.ont = false
       then 5 else if freeAfter t 8192 t.evs.lastSlot = none then 1 else 0) ≠ 0)) ∧
    (let t := requestEvent 0 (196608 : Word) (0 : Word) (0 : Word)
     let s := { liveEngine with seq.ctx := [(0, { state := .parked, wait := .insertion 1 2 0x30000 0x0 0 })] }
     (Alive s) ∧ (hasTurn s 0 0 = true) ∧ ((s.ctx 0).wait = Wait.insertion 1 2 (196608 : Word) (0 : Word) (0 : Word)) ∧ ((if s.flt.safe =
       true then 6 else if (0 : Word) &&& (4227858624 : Word) ≠ (0 : Word) ∨ (0 : Word) &&& (4278190080 : Word)
       ≠ (0 : Word) ∨ 2 * s.nTeeth ≤ BitVec.toNat (196608 : Word) / 4096 ∨ t.next = false ∧ t.ctag ≠ s.evs.cycle
       % 256 ∧ t.ctag ≠ (s.evs.cycle + 1) % 256 then 2 else if positioned s.whl.sync = false then 3 else if
       s.channels ≤ t.ch then 4 else if profileOk (s.profile t.prof) t.ch t.ont = false then 5 else if freeAfter
       s 8192 s.evs.lastSlot = none then 1 else 0) = 0) ∧ (freeAfter s 8192 s.evs.lastSlot = some 0) ∧ (t.next =
       false) ∧ (inWindow s t = false) ∧ (evPassed (State.advance (8600 : Tick) s) t = false) ∧ (gateEvent s t =
       0)) ∧
    (let s := { liveWait (.aim 3 0x50007 0x31000 0) with flt.safe := true }
     (Alive s) ∧ (hasTurn s 0 0 = true) ∧ ((s.ctx 0).wait = Wait.aim 3 (327687 : Word) (200704 : Word) (0 : Word)) ∧ (s.flt.safe = true)) ∧
    (let s := liveWait (.aim 3 0x50007 0x31000 0)
     (Alive s) ∧ (hasTurn s 0 0 = true) ∧ ((s.ctx 0).wait = Wait.aim 3 (327687 : Word) (200704 : Word) (0 : Word)) ∧ (s.flt.safe = false)
       ∧ (lookup 0 (327687 : Word) s = none)) ∧
    (let t := { liveWait (.aim 3 0x50007 0x31000 0) with evs.slots := [(5, { slotW with state := .running })] }
     let s := t.slot 5
     (Alive t) ∧ (hasTurn t 0 0 = true) ∧ ((t.ctx 0).wait = Wait.aim 3 (327687 : Word) (200704 : Word) (0 : Word)) ∧ (t.flt.safe = false)
       ∧ (lookup 0 (327687 : Word) t = some 5) ∧ (s.state ≠ EvState.waiting) ∧ (s.state ≠ EvState.near)) ∧
    (let a := BitVec.toNat (5 : Word) % 65536
     let t :=
       { liveEngine with evs.slots := [(5, slotW)], seq.ctx := [(0, { state := .parked, wait := .aim 3 0x50007 0x31000 5 })] }
     let s := t.slot 5
     (Alive t) ∧ (hasTurn t 0 0 = true) ∧ ((t.ctx 0).wait = Wait.aim 3 (327687 : Word) (200704 : Word) (5 : Word)) ∧ (t.flt.safe = false)
       ∧ (lookup 0 (327687 : Word) t = some 5) ∧ (s.state = EvState.waiting) ∧ ((5 : Word) &&& (4294901760 :
       Word) = (0 : Word)) ∧ (BitVec.toNat (200704 : Word) / 4096 < 2 * t.nTeeth) ∧ (onTimeOk (t.profile s.prof)
       (signed 16 a) = true) ∧ (inWindow t
       { state := s.state, target := (200704 : Word), ch := s.ch, prof := s.prof, ctag := s.ctag, next := s.next, sigStart := s.sigStart, ont := s.ont, user := s.user, seq := s.seq, owner := s.owner, proj := s.proj, frozen := s.frozen, armAt := s.armAt, copy := s.copy, peakMax := s.peakMax, onMax := s.onMax, banked := s.banked, reserve := s.reserve }
       = false) ∧ (evPassed (State.advance (8600 : Tick) t)
       { state := s.state, target := (200704 : Word), ch := s.ch, prof := s.prof, ctag := s.ctag, next := s.next, sigStart := s.sigStart, ont := s.ont, user := s.user, seq := s.seq, owner := s.owner, proj := s.proj, frozen := s.frozen, armAt := s.armAt, copy := s.copy, peakMax := s.peakMax, onMax := s.onMax, banked := s.banked, reserve := s.reserve }
       = false) ∧ (gateEvent t
       { state := s.state, target := (200704 : Word), ch := s.ch, prof := s.prof, ctag := s.ctag, next := s.next, sigStart := s.sigStart, ont := signed 16 a, user := s.user, seq := s.seq, owner := s.owner, proj := s.proj, frozen := s.frozen, armAt := s.armAt, copy := s.copy, peakMax := s.peakMax, onMax := s.onMax, banked := s.banked, reserve := s.reserve }
       = 0)) ∧
    (let s := { liveWait (.cancel 3 0x50007) with flt.safe := true }
     (Alive s) ∧ (hasTurn s 0 0 = true) ∧ ((s.ctx 0).wait = Wait.cancel 3 (327687 : Word)) ∧ (s.flt.safe = true)) ∧
    (let s := liveWait (.cancel 3 0x50007)
     (Alive s) ∧ (hasTurn s 0 0 = true) ∧ ((s.ctx 0).wait = Wait.cancel 3 (327687 : Word)) ∧ (s.flt.safe = false) ∧ (lookup 0 (327687 :
       Word) s = none)) ∧
    (let s := { liveWait (.cancel 3 0x50007) with evs.slots := [(5, { slotW with state := .running })] }
     (Alive s) ∧ (hasTurn s 0 0 = true) ∧ ((s.ctx 0).wait = Wait.cancel 3 (327687 : Word)) ∧ (s.flt.safe = false) ∧ (lookup 0 (327687 :
       Word) s = some 5) ∧ ((s.slot 5).state = EvState.running)) ∧
    (let s := { liveWait (.cancel 3 0x50007) with evs.slots := [(5, slotW)] }
     (Alive s) ∧ (hasTurn s 0 0 = true) ∧ ((s.ctx 0).wait = Wait.cancel 3 (327687 : Word)) ∧ (s.flt.safe = false) ∧ (lookup 0 (327687 :
       Word) s = some 5) ∧ ((s.slot 5).state = EvState.waiting) ∧ ((s.slot 5).bad = false)) :=
  ⟨by decide, by decide, by decide, by decide, by decide, by decide, by decide, by decide, by decide, by
  decide⟩

theorem meets_CommitStartAndTableErrors :
    (let t := State.advance (9000 : Tick) liveCommit
     let s := commitCopy liveCommit (liveCommit.slot 5) (10000 : Tick)
     (Alive liveCommit) ∧ (commitDue t 5 = true) ∧ (commitStages (abortTests s.ch t) (5) s (10000 : Tick) = (0, 0))) ∧
    (let t := State.advance (9000 : Tick) { liveCommit with supply.enable := false }
     let s := commitCopy { liveCommit with supply.enable := false } ({ liveCommit with supply.enable := false }.slot 5)
       (10000 : Tick)
     (Alive { liveCommit with supply.enable := false }) ∧ (commitDue t 5 = true) ∧ (10 ≠ 0) ∧ (commitStages
       (abortTests s.ch t) (5) s (10000 : Tick) = (10, 3)) ∧ (({ liveCommit with supply.enable := false }.slot 5).bad = false)) ∧
    (let t := { live with flt.safe := true, evs.slots := [(5, { state := .running })] }
     let s := t.slot 5
     (Alive t) ∧ (t.flt.safe = true) ∧ (s.state = EvState.free ∨ s.state = EvState.running) ∧ (s.bad = false)) ∧
    (let s := { live with evs.slots := [(9, { runEv with state := .armed, seq := 4, prof := 3 })] }
     (Alive s) ∧ (Unshared s 2) ∧ (armedOn s 2 = some (9,
       { state := EvState.armed, target := runEv.target, ch := runEv.ch, prof := 3, ctag := runEv.ctag, next := runEv.next, sigStart := runEv.sigStart, ont := runEv.ont, user := runEv.user, seq := 4, owner := runEv.owner, proj := runEv.proj, frozen := runEv.frozen, armAt := runEv.armAt, copy := runEv.copy, peakMax := runEv.peakMax, onMax := runEv.onMax, banked := runEv.banked, reserve := runEv.reserve }))
       ∧ (runEv.frozen ≤ max s.etc (90000 : Tick)) ∧ ((s.chan 2).phase = Phase.idle)) :=
  ⟨by decide, by decide, by decide, by decide⟩

theorem meets_ProfilePhasesAndRegulator :
    ((Alive livePeak) ∧ (Unshared livePeak 2) ∧ ((livePeak.chan 2).phase = Phase.peak) ∧ ((livePeak.chan 2).ev.copy.iPeak ≤
       2100)) ∧
    (let t := liveRun { runChan with phase := .transition }
     let s := t.chan 2
     (Alive t) ∧ (Unshared t 2) ∧ (s.phase = Phase.transition) ∧ (s.phaseAt + s.ev.copy.tTrMax * ticksPerUs ≤
       max t.etc (100000 : Tick) ∨ 400 ≤ s.ev.copy.iHold)) ∧
    ((Alive livePeak) ∧ (Unshared livePeak 2) ∧ (running livePeak 2 = true) ∧ ((livePeak.chan 2).offAt ≤ max livePeak.etc (260000 :
       Tick)) ∧ ((livePeak.chan 2).offAt ≤ (livePeak.chan 2).start + (livePeak.chan 2).ev.onMax * (80 : Tick))) ∧
    (let s := { liveRun { runChan with phase := .turnOff } with evs.slots := [(9, runEv)] }
     (Alive s) ∧ (Unshared s 2) ∧ ((s.chan 2).phase = Phase.turnOff) ∧ (4 < 10)) ∧
    (let t := liveRun { runChan with offAt := 260000 }
     let s := t.chan 2
     (Alive t) ∧ (Unshared t 2) ∧ (s.phase = Phase.peak) ∧ (s.start + s.ev.copy.tPeakMax * ticksPerUs ≤ max
       t.etc (160000 : Tick)) ∧ (s.start + s.ev.copy.tPeakMax * ticksPerUs < s.offAt) ∧ (1900 < s.ev.copy.iPeak)) ∧
    ((Alive liveSteep) ∧ ((liveSteep.chan 2).phase = Phase.steep)) ∧
    ((Alive liveSteep) ∧ ((liveSteep.chan 2).phase = Phase.steep)) ∧
    ((Alive liveSteep) ∧ (2 < liveSteep.channels) ∧ (0 < 500) ∧ (500 < 2 ^ 24) ∧ (extRefusal (State.advance (95000 : Tick)
       liveSteep) 3 2 500 = 0)) ∧
    ((Alive liveSteep) ∧ (2 < liveSteep.channels) ∧ (0 < 600000) ∧ (600000 < 2 ^ 24) ∧ (extRefusal (State.advance (95000 :
       Tick) liveSteep) 3 2 600000 ≠ 0)) :=
  ⟨by decide, by decide, by decide, by decide, by decide, by decide, by decide, by decide, by decide⟩

theorem meets_DriveLimitsAndKettles :
    ((Alive livePeak) ∧ (running livePeak 2 = true) ∧ (min ((livePeak.chan 2).ev.peakMax + 100) 3400 ≤ 2300)) ∧
    ((Alive livePeak) ∧ (4200 ≤ 4200) ∧ (0 < livePeak.banks)) ∧
    (let t := liveRun { runChan with offAt := 600000 }
     let s := t.chan 2
     (Alive t) ∧ (running t 2 = true) ∧ (s.start + s.ev.onMax * (80 : Tick) ≤ max t.etc (495000 : Tick)) ∧
       (s.start + s.ev.onMax * (80 : Tick) < s.offAt)) ∧
    ((Alive livePeak) ∧ (running livePeak 2 = true) ∧ (2 < livePeak.channels) ∧ (onCodeOf (State.advance (95000 : Tick)
       livePeak) 2
       { current := 100, rise500 := 501, mismatch := 0, heldNs := 0, vh := 1200, vl := 0, vhNs := 0, vlNs := 0 } ≠
       0)) ∧
    ((Alive liveCharging) ∧ (1 < liveCharging.kettles) ∧ (260 < 616) ∧
       (fallAllows (State.advance (7000 : Tick) liveCharging) 1 260 = true)) ∧
    ((Alive liveCharging) ∧ (1 < liveCharging.kettles) ∧ (616 ≤ 620) ∧ (fallAllows (State.advance (7000 : Tick) liveCharging) 1
       620 = true) ∧ ((liveCharging.kettle 1).faulted = false)) ∧
    ((Alive liveCharging) ∧ (1 < liveCharging.kettles) ∧ ((liveCharging.kettle 1).state = KtState.charging) ∧ ((liveCharging.kettle 1).faulted = false) ∧ ((liveCharging.kettle 1).deadline
       = some (5000 : Tick)) ∧ ((5000 : Tick) ≤ max liveCharging.etc (7000 : Tick))) ∧
    ((Alive liveCharging) ∧ (1 < liveCharging.kettles) ∧ (capDue (State.advance (7000 : Tick) liveCharging) 1 = true)) :=
  ⟨by decide, by decide, by decide, by decide, by decide, by decide, by decide, by decide⟩

theorem meets_DiagnosticsCaptureAndTest :
    ((Alive (liveCap capA)) ∧ (((liveCap capA).dgt 0).capture = some capA) ∧ (sampleDue (State.advance (80100 :
       Tick) (liveCap capA)) (0) capA = true) ∧ (((liveCap capA).dgt 0).count < 1024)) ∧
    (let s := liveCap
       { capA with det := some { n := 30, etc := 92000, k := 900, kPrev := 100, y := 50, disturbed := false } }
     (Alive s) ∧ ((s.dgt 0).capture = some
       { capA with det := some { n := 30, etc := 92000, k := 900, kPrev := 100, y := 50, disturbed := false } })
       ∧ (capA.written = false)) ∧
    ((Alive (liveCap capA)) ∧ (((liveCap capA).dgt 0).capture = some capA) ∧ (capA.off + (capA.cfg.winStart +
       capA.cfg.winLen) * ticksPerUs ≤ max (liveCap capA).etc ((80000 : Tick) + (550 : Tick) * (8000 : Tick))) ∧
       (capA.det = none)) ∧
    (let t := liveDia { offEn := true }
     let s := t.dch 2
     (Alive t) ∧ (s.test = none) ∧ (s.offEn = true) ∧ (testEligible (State.advance (9000001 : Tick) t) 2 = true)) ∧
    (let t := liveDia { test := some (80000 : Tick) }
     let s := t.dch 2
     (Alive t) ∧ (s.test = some (80000 : Tick)) ∧ ((80000 : Tick) + (150 : Tick) * ticksPerUs ≤ max t.etc
       (9000001 : Tick)) ∧ (offResult [(400, 100)] = some 2) ∧ (¬(((2 = 2 ∨ 2 = 3 ∨ 2 = 4) ∧ (s.testSingle = true
       ∨ s.prevOff = 2)) ∧ s.confirmed ≠ 2))) ∧
    (let t := liveDia { test := some (80000 : Tick), testSingle := true }
     let s := t.dch 2
     (Alive t) ∧ (s.test = some (80000 : Tick)) ∧ ((80000 : Tick) + (150 : Tick) * ticksPerUs ≤ max t.etc
       (9000001 : Tick)) ∧ (offResult [(400, 100)] = some 2) ∧ (((2 = 2 ∨ 2 = 3 ∨ 2 = 4) ∧ (s.testSingle = true ∨
       s.prevOff = 2)) ∧ s.confirmed ≠ 2) ∧ (2 < t.channels)) ∧
    (let s := liveDia { single := some (80000 : Tick) }
     (Alive s) ∧ ((s.dch 2).single = some (80000 : Tick)) ∧ ((80000 : Tick) ≤ max s.etc (9000001 : Tick))) :=
  ⟨by decide, by decide, by decide, by decide, by decide, by decide, by decide⟩

theorem meets_EbStartsStopsAndLoads :
    (let s := liveBridge { shadow := { dtMin := 500, dtMax := 200 } }
     (Alive s) ∧ ((s.ebU 1).en = false) ∧ (hizCause s = false)) ∧
    ((Alive live) ∧ ((live.ebU 1).imm = false) ∧ ((live.ebU 1).en = false ∨ max live.etc (9000 : Tick) < ebBoundaryDue
       (live.ebU 1))) ∧
    (let t := liveBridge { en := true, anchor := (2000 : Tick) }
     let s := t.ebU 1
     (Alive t) ∧ (s.imm = false) ∧ (s.en = true) ∧ (ebBoundaryDue s ≤ max t.etc (900000 : Tick)) ∧ (s.late = none)) ∧
    (let t := liveBridge { imm := true }
     (Alive t) ∧ ((t.ebU 1).imm = true) ∧ ((t.ebU 1).en = false)) ∧
    (let t := liveBridge { en := true, imm := true, anchor := (2000 : Tick) }
     let s := t.ebU 1
     (Alive t) ∧ (s.imm = true) ∧ (s.en = true) ∧ (s.updn = false) ∧ (clampNat 100 16777215 (BitVec.toNat (150 :
       Word) % 16777216) ≤ ebCount s (max t.etc (900000 : Tick)))) ∧
    ((Alive (liveBridge { })) ∧ (hizCause (liveBridge { }) = false) ∧ (∀ (n : Fin 8), ((liveBridge { }).ebU ↑n).en =
       false)) :=
  ⟨by decide, by decide, by decide, by decide, by decide, by decide⟩

theorem meets_EbEventsAndTrips :
    (let t := liveEb { en := true, tripMask := (4 : BitVec 4) }
     let s := t.ebU 1
     (Alive t) ∧ (tripEnabled t 2 = true) ∧ (s.tripMask.getLsbD 2 = true) ∧ (s.en = true) ∧ (s.act.tripFilt * 10 ≤
       1000) ∧ (s.blankEnd = none)) ∧
    (let t := liveEb { act := { tripFilt := 5 } }
     (Alive t) ∧ (49 < (t.ebU 1).act.tripFilt * 10)) ∧
    (let t := liveEb { en := true, tripMask := (4 : BitVec 4), blankEnd := some (20000 : Tick) }
     let s := t.ebU 1
     (Alive t) ∧ (tripEnabled t 2 = true) ∧ (s.tripMask.getLsbD 2 = true) ∧ (s.en = true) ∧ (s.act.tripFilt * 10 ≤
       1000) ∧ (s.blankEnd = some (20000 : Tick)) ∧ (max t.etc (9000 : Tick) < (20000 : Tick)) ∧ (s.pendOn = none)) ∧
    (let t := liveEb
       { en := true, tripMask := (4 : BitVec 4), blankEnd := some (8000 : Tick), heldTrip := true, filtered := (4 : BitVec 4) }
     let s := t.ebU 1
     (Alive t) ∧ (s.blankEnd = some (8000 : Tick)) ∧ ((8000 : Tick) ≤ max t.etc (9000 : Tick)) ∧ (s.heldTrip =
       true) ∧ (s.en = true) ∧ (s.filtered &&& s.tripMask ≠ (0 : BitVec 4))) ∧
    (let t := liveEb { en := true, blankEnd := some (8000 : Tick) }
     let s := t.ebU 1
     (Alive t) ∧ (s.blankEnd = some (8000 : Tick)) ∧ ((8000 : Tick) ≤ max t.etc (9000 : Tick)) ∧ (s.heldTrip =
       false)) ∧
    (let s := (liveEb
       { en := true, tripMask := (4 : BitVec 4), tripped := true, filtered := (4 : BitVec 4) }).ebU 1
     (Alive (liveEb { en := true, tripMask := (4 : BitVec 4), tripped := true, filtered := (4 : BitVec 4) })) ∧
       (s.tripped = true) ∧ (s.filtered &&& s.tripMask ≠ (0 : BitVec 4))) ∧
    (let s := (liveEb { en := true, tripMask := (4 : BitVec 4), tripped := true }).ebU 1
     (Alive (liveEb { en := true, tripMask := (4 : BitVec 4), tripped := true })) ∧ (s.tripped = true) ∧
       (s.filtered &&& s.tripMask = (0 : BitVec 4))) ∧
    (let t := liveBridge { en := true, armAt := some (2000 : Tick), anchor := (2000 : Tick) }
     let s := t.ebU 1
     (Alive t) ∧ (s.en = true) ∧ (s.updn = false ∨ s.down = true) ∧ (ebBoundaryDue s ≤ max t.etc (900000 :
       Tick))) ∧
    (let t := liveBridge { en := true, updn := true, anchor := (2000 : Tick) }
     let s := t.ebU 1
     (Alive t) ∧ (s.en = true) ∧ (s.updn = true) ∧ (s.down = false) ∧ (s.anchor + (s.act.per - s.anchorCount) *
       ticksPerNs ≤ max t.etc (900000 : Tick))) ∧
    (let t := liveBridge { en := true, act := { per := 1000, cmp := 500 }, anchor := (2000 : Tick), high := true }
     let s := t.ebU 1
     (Alive t) ∧ (s.en = true) ∧ (ebCrossing s = some (6000 : Tick)) ∧ ((6000 : Tick) ≤ max t.etc (900000 :
       Tick))) ∧
    (let t := liveBridge { en := true, anchor := (2000 : Tick), pendOn := some (true, (3000 : Tick)) }
     let s := t.ebU 1
     (Alive t) ∧ (s.en = true) ∧ (s.pendOn = some (true, (3000 : Tick))) ∧ (s.act.adapt = false) ∧ ((3000 :
       Tick) + s.act.dtMax * ticksPerNs ≤ max t.etc (900000 : Tick))) :=
  ⟨by decide, by decide, by decide, by decide, by decide, by decide, by decide, by decide, by decide, by
  decide, by decide⟩

theorem meets_KcPeriodsAndTriggers :
    ((Alive (liveKc kcTr { })) ∧ (kcMayRun (liveKc kcTr { }) 1 = false)) ∧
    (let t := liveKc
       { running := kcTr.running, cmpDone := true, per := 1000, cmp := kcTr.cmp, boundary := kcTr.boundary, ie := kcTr.ie, ips := kcTr.ips, preZero := kcTr.preZero, prePer := kcTr.prePer, preCmp := kcTr.preCmp, flags := kcTr.flags, trig := kcTr.trig }
       ktOn
     let s := t.kcU 1
     (Alive t) ∧ (kcMayRun t 1 = true) ∧ (4000 < 2 ^ 24) ∧ (1000 < 2 ^
       24) ∧ (s.running = false ∨ s.boundary + s.per * ticksPerNs ≤ max t.etc (100000 : Tick))) ∧
    (let t := (liveKc kcTr ktOn).kcU 1
     let s := Table.get { } t.trig 2
     (Alive (liveKc kcTr ktOn)) ∧ (t.running = true) ∧ (s.en = true) ∧ (s.fired = false) ∧ (t.boundary + t.per *
       s.frac / (65536 : Tick) * ticksPerNs ≤ max (liveKc kcTr ktOn).etc (100000 : Tick)) ∧ (t.boundary + t.per
       * s.frac / (65536 : Tick) * ticksPerNs < t.boundary + t.per * ticksPerNs) ∧ (((liveKc kcTr ktOn).dgt (2 *
       1 + s.bsel.toNat)).capture = none)) ∧
    (let a :=
       { liveKc kcTr ktOn with dia.dg := [(2, { capture := some { ch := 17, off := 80000, cfg := {}, seq := 1 } })] }
     let t := a.kcU 1
     let s := Table.get { } (a.kcU 1).trig 2
     (Alive a) ∧ (t.running = true) ∧ (s.en = true) ∧ (s.fired = false) ∧ (t.boundary + t.per * s.frac / (65536
       : Tick) * ticksPerNs ≤ max a.etc (100000 : Tick)) ∧ (t.boundary + t.per * s.frac / (65536 : Tick) *
       ticksPerNs < t.boundary + t.per * ticksPerNs) ∧ ((a.dgt (2 * 1 + s.bsel.toNat)).capture ≠ none)) ∧
    (let t := liveKc { running := true, per := 1000, cmp := 500, boundary := (80000 : Tick) } ktOn
     let s := t.kcU 1
     (t.sys.mode = PowerMode.run) ∧ (t.supply.state ≠ SupplyState.down) ∧ (t.evs.pass = []) ∧ (t.evs.steps = none) ∧
       (kcMayRun t 1 = true) ∧ (s.running = true) ∧ (s.cmpDone = false) ∧ (0 < s.cmp) ∧ (s.cmp < s.per) ∧
       (s.boundary + s.per * ticksPerNs ≤ max t.etc (100000 : Tick))) :=
  ⟨by decide, by decide, by decide, by decide, by decide⟩

def timRun (run : TimerCfg) (target : Word) : Timer :=
  { run := run, target := target, state := .running, start := 80000, ieExp := true }
def timIdle (link master : Nat) : Timer := { ctl := { link := link, master := master }, target := 50, count := 7 }

theorem meets_TimersRunExpireAndCapture :
    (let t := liveTim (timIdle 2 1)
     let s := t.timer 3
     Alive t ∧ s.state ≠ .running ∧ (s.ctl.link = 0 ∨ s.ctl.link = 2 ∧ s.ctl.master < 3) ∧ s.target ≠ 0 ∧
       ∀ m : Fin 24, ¬((t.timer m).ctl.link = 2 ∧ (t.timer m).ctl.master = 3)) ∧
    (let t := liveTim (timRun {} 6000)
     let s := t.timer 3
     Alive t ∧ s.state = .running ∧ tbNs s.run.tb ≠ 0 ∧ max t.etc 90000 ≤ s.start + s.target.toNat * tbNs s.run.tb * ticksPerNs ∧
       s.ctl.link = 0 ∧ s.target ≠ 0 ∧ ∀ m : Fin 24, ¬((t.timer m).ctl.link = 2 ∧ (t.timer m).ctl.master = 3)) ∧
    (let t := liveTim (timIdle 1 1)
     Alive t ∧ (t.timer 3).state ≠ .running ∧ (t.timer 3).ctl.link = 1 ∧ (t.timer 3).ctl.master < 3) ∧
    (let t := liveTim (timIdle 1 3)
     Alive t ∧ (t.timer 3).state ≠ .running ∧ (t.timer 3).ctl.link ≠ 0 ∧ 3 ≤ (t.timer 3).ctl.master) ∧
    (let t := liveTim (timRun {} 6000)
     let s := t.timer 3
     Alive t ∧ s.state = .running ∧ max t.etc 90000 < s.start + s.target.toNat * tbNs s.run.tb * ticksPerNs) ∧
    (Alive (liveTim { state := .armed }) ∧ ((liveTim { state := .armed }).timer 3).state = .armed) ∧
    (Alive (liveTim {}) ∧ ((liveTim {}).timer 3).state ≠ .running ∧ ((liveTim {}).timer 3).state ≠ .armed) ∧
    (let t := liveTim (timIdle 0 0)
     Alive t ∧ ∀ m : Fin 24, (t.timer m).state ≠ .running ∧ (t.timer m).ctl.link = 0 ∧ (t.timer m).target ≠ 0) ∧
    (let t := liveTim (timRun {} 50)
     let s := t.timer 3
     Alive t ∧ s.state = .running ∧ tbNs s.run.tb ≠ 0 ∧
       s.start + s.target.toNat * tbNs s.run.tb * ticksPerNs ≤ max t.etc 100000 ∧
       ∀ m : Fin 24, (t.timer m).run.link ≠ 1 ∧ (t.timer m).run.tb ≠ 6) ∧
    (let t := liveTim (timRun {} 6000)
     let s := t.timer 3
     Alive t ∧ s.state = .running ∧ max t.etc 100000 ≤ s.start + s.target.toNat * tbNs s.run.tb * ticksPerNs ∧
       timCount s (max t.etc 100000) < 9000) ∧
    (let t := liveTim (timRun {} 6000)
     let s := t.timer 3
     Alive t ∧ s.state = .running ∧ max t.etc 100000 ≤ s.start + s.target.toNat * tbNs s.run.tb * ticksPerNs ∧
       60 ≤ timCount s (max t.etc 100000) ∧ ∀ m : Fin 24, (t.timer m).run.link ≠ 1 ∧ (t.timer m).run.tb ≠ 6) ∧
    (let t := liveTim (timRun { capture := true, restart := true } 50000)
     let s := t.timer 3
     Alive t ∧ capSelected t s.run.cap true = true ∧ 90000 + s.run.filt * ticksPerNs ≤ max t.etc 100000 ∧
       s.lastEdge = none ∧ s.state = .running ∧ tbNs s.run.tb ≠ 0 ∧
       90000 < s.start + s.target.toNat * tbNs s.run.tb * ticksPerNs ∧ s.run.capture = true) ∧
    (let t := liveTim { timRun { tb := 5 } 50000 with lastEdge := some 8000 }
     let s := t.timer 3
     Alive t ∧ capSelected t s.run.cap true = true ∧ 90000 + s.run.filt * ticksPerNs ≤ max t.etc 100000 ∧
       s.lastEdge = some 8000 ∧ 8000 + s.run.filt * ticksPerNs ≤ 90000 ∧ s.state = .running ∧ s.run.tb = 5 ∧
       s.run.capture = false ∧ s.count + 1 < s.target.toNat) ∧
    (let t := liveTim { timRun { tb := 5, filt := 500 } 50000 with lastEdge := some 89000 }
     let s := t.timer 3
     Alive t ∧ s.lastEdge = some 89000 ∧ 90000 < 89000 + s.run.filt * ticksPerNs) :=
  ⟨by decide, by decide, by decide, by decide, by decide, by decide, by decide, by decide, by decide, by decide,
    by decide, by decide, by decide, by decide⟩

theorem meets_SupplyStates :
    (let s :=
       { live with supply.vmain := { good := true, crossing := some (5000, .uvFalling) }, supply.storeCharged := true }
     Alive s ∧ (s.input .vmain).crossing = some (5000, .uvFalling) ∧ 5000 + 200 * ticksPerNs ≤ max s.now 100000000 ∧
       s.supply.state = .main ∧ failing s.supply.vbak = false) ∧
    (let s :=
       { live with supply.vmain.good := false, supply.vbak := { good := true, crossing := some (5000, .uvFalling) } }
     Alive s ∧ (s.input .vbak).crossing = some (5000, .uvFalling) ∧ 5000 + 200 * ticksPerNs ≤ max s.now 100000000 ∧
       s.supply.state = .main ∧ s.supply.vmain.good = false ∧ failing s.supply.vbak = true ∧
       ∃ u, exec (.supplyThresholdCrossing 5001 .vbak .uvFalling true 16000) s = .next u ∧ failing u.supply.vbak = false) ∧
    (let s := { live with supply.state := .holdup }
     Alive s ∧ s.supply.state = .holdup ∧ s.supply.vmain.good = true ∧
       s.supply.vmain.goodSince + ticksPerMs ≤ max s.now 100000000) ∧
    (let s := { live with supply.state := .holdup, supply.vmain.good := false, supply.vbak.good := true }
     Alive s ∧ s.supply.state = .holdup ∧ s.supply.vmain.good = false ∧ s.supply.vbak.good = true ∧
       s.supply.vbak.goodSince + ticksPerMs ≤ max s.now 100000000) ∧
    (let s := { live with supply.state := .backup, supply.vmain.good := true }
     Alive s ∧ s.supply.state = .backup ∧ s.supply.vmain.good = true ∧
       s.supply.vmain.goodSince + 100 * ticksPerMs ≤ max s.now 1000000000) :=
  ⟨by decide, ⟨by decide, by decide, by decide, by decide, by decide, by decide, _, rfl, by decide⟩, by decide,
    by decide, by decide⟩

theorem meets_EnableThermalAndReference :
    ((Alive liveOn) ∧ (liveOn.supply.enable = true)) ∧
    ((Alive live) ∧ (live.supply.enable = false)) ∧
    (let s := ThermalDomain.charger (1 : Fin 4)
     (Alive live) ∧ (domainIdx s < 8 + live.kettles) ∧ (domainIdx s < 8 → domainIdx s < live.banks) ∧ (heatLevel
       (170 : ℤ) ≠ Table.get 0 live.supply.heat (domainIdx s))) ∧
    ((Alive live) ∧ (2 < live.kettles) ∧ (derated (850 : ℤ) ≠ derate live 2)) ∧
    (let s := SensorRail.vsw (3 : Fin 8)
     (Alive live) ∧ (live.supply.sensorsOff = false) ∧ (railBad live s = false) ∧ (live.flt.cond.getLsbD
       (railFault s) = false)) ∧
    (let s := { live with supply.va5Fault := true, flt.cond := 0xFFF }
     (Alive s) ∧ (railBad s SensorRail.va5 = true)) ∧
    (let s := { live with ruler.phase := .locked, ruler.refPresent := true }
     (Alive s) ∧ (s.ruler.phase = RulerPhase.locked ∨ s.ruler.phase = RulerPhase.relocking) ∧
       (s.flt.cond.getLsbD 1 = false)) ∧
    (let s := { live with ruler.phase := .holdover, ruler.refPresent := true }
     (Alive s) ∧ (s.ruler.phase = RulerPhase.holdover) ∧ (s.ruler.tooLong = false) ∧ (s.ruler.lossAt + (10 :
       Tick) * ticksPerMs ≤ max s.etc (100000000 : Tick)) ∧ (s.flt.cond.getLsbD 2 = false)) ∧
    (let s := { live with ruler.phase := .holdover, ruler.refPresent := true }
     (Alive s) ∧ (s.ruler.phase = RulerPhase.holdover)) ∧
    (let s := { live with ruler.phase := .relocking, ruler.refPresent := true }
     (Alive s) ∧ (s.ruler.phase = RulerPhase.relocking)) :=
  ⟨by decide, by decide, by decide, by decide, by decide, by decide, by decide, by decide, by decide, by
  decide⟩

theorem meets_ResetsAndPowerRequests :
    ((State.reset.supply.state ≠ SupplyState.down) ∧ (State.reset.sys.mode = PowerMode.reset) ∧
       (State.reset.sys.seqDone = false) ∧ (State.reset.ruler.refPresent = false)) ∧
    (((bootAt 2).supply.state ≠ SupplyState.down) ∧ ((bootAt 2).sys.mode = PowerMode.reset) ∧ ((bootAt
       2).sys.seqDone = false) ∧ ((bootAt 2).ruler.refPresent = true) ∧ ((bootAt 2).sys.step = 2) ∧ ((128 :
       Byte) &&& (127 : Byte) = (0 : Byte))) ∧
    (((bootAt 2).supply.state ≠ SupplyState.down) ∧ ((bootAt 2).sys.mode = PowerMode.reset) ∧ ((bootAt
       2).sys.seqDone = false) ∧ ((bootAt 2).ruler.refPresent = true) ∧ ((bootAt 2).sys.step = 2) ∧
       (BitVec.getLsbD (1 : Byte) 0 = true)) ∧
    ((live.supply.state ≠ SupplyState.down) ∧ (1999 < 2000) ∧ (Alive live)) ∧
    ((liveOn.supply.state ≠ SupplyState.down) ∧ (10000 ≤ 10000)) ∧
    ((liveOn.supply.state ≠ SupplyState.down) ∧ (2000 ≤ 9999) ∧ (9999 < 10000)) ∧
    (let s := { liveOn with sys.resetDue := some 100000000 }
     (s.supply.state ≠ SupplyState.down) ∧ (s.sys.mode = PowerMode.run) ∧ (s.sys.resetDue = some (100000000 :
       Tick)) ∧ ((100000000 : Tick) ≤ max s.etc (100000000 : Tick))) ∧
    (let s := { live with whl.sync := .tooth }
     (Alive s) ∧ (s.sys.wakePending = (0 : BitVec 13)) ∧ (standbyRefusal s ≠ 0)) ∧
    ((Alive live) ∧ (live.sys.wakePending = (0 : BitVec 13)) ∧ (standbyRefusal live = 0)) ∧
    (let s := { live with nv.wearSeq := 0, bgs.jobs := [.wearSave] }
     (Alive s) ∧ (s.sys.wakePending = (0 : BitVec 13)) ∧ (sleepRefusal s ≠ 0)) ∧
    ((Alive live) ∧ (live.sys.wakePending = (0 : BitVec 13)) ∧ (sleepRefusal live = 0) ∧
       (live.sys.wakeEn.getLsbD 6 = false)) ∧
    (let s := { live with sys.stallAt := some 1000, sys.autoStby := 1 }
     (Alive s) ∧ (s.sys.wakePending = (0 : BitVec 13)) ∧ (s.sys.stallAt = some (1000 : Tick)) ∧ (s.sys.autoStby
       ≠ 0) ∧ ((1000 : Tick) + s.sys.autoStby * ticksPerS ≤ max s.etc (20000000000 : Tick)) ∧ (standbyRefusal s
       = 0)) :=
  ⟨by decide, by decide, by decide, by decide, by decide, by decide, by decide, by decide, by decide, by
  decide, by decide, by decide⟩

theorem meets_SleepAndWake :
    (let s := { live with sys.mode := .standby, sys.standbyAt := some 1000, sys.autoSlp := 1 }
     (s.supply.state ≠ SupplyState.down) ∧ (timeIdle s = true) ∧ (s.sys.mode = PowerMode.standby) ∧ (s.sys.standbyAt = some (1000 :
       Tick)) ∧ (s.sys.autoSlp ≠ 0) ∧ (s.sys.wakePending = (0 : BitVec 13)) ∧ ((1000 : Tick) + s.sys.autoSlp *
       ticksPerS ≤ max s.etc (20000000000 : Tick)) ∧ (sleepRefusal s = 0) ∧ (s.sys.wakeEn.getLsbD 6 = false)) ∧
    (let s := { live with sys.mode := .entering }
     (s.supply.state ≠ SupplyState.down) ∧ (timeIdle s = true) ∧ (s.sys.mode = PowerMode.entering) ∧ (s.sys.wakePending = (0 : BitVec
       13)) ∧ (sleepReady s = true)) ∧
    (let s := { live with sys.mode := .standby, sys.wakePending := 0x200 }
     (s.supply.state ≠ SupplyState.down) ∧ (timeIdle s = true) ∧ (s.sys.mode = PowerMode.standby) ∧ (s.sys.wakePending ≠ (0 : BitVec
       13))) ∧
    (let s := { live with sys.mode := .waking, sys.wakePending := 0x4 }
     (s.supply.state ≠ SupplyState.down) ∧ (timeIdle s = true) ∧ (s.sys.mode = PowerMode.waking) ∧ (s.sys.wakePending ≠ (0 : BitVec
       13))) :=
  ⟨by decide, by decide, by decide, by decide⟩

theorem meets_InterruptClaims :
    (let s := liveIrq.target IrqTarget.host
     (Alive liveIrq) ∧ ((if (0 : Byte) = (0 : Byte) then best liveIrq s else if deliverable liveIrq s
       (BitVec.toNat (0 : Byte)) = true then BitVec.toNat (0 : Byte) else 0) ≠ 0)) ∧
    (let s := liveIrq.target IrqTarget.host
     (Alive liveIrq) ∧ ((if (7 : Byte) = (0 : Byte) then best liveIrq s else if deliverable liveIrq s
       (BitVec.toNat (7 : Byte)) = true then BitVec.toNat (7 : Byte) else 0) = 0)) ∧
    (let s := { liveIrq with irc.host.act := 0x80 }
     (Alive s) ∧ ((7 : Byte) ≠ (0 : Byte)) ∧ ((s.target IrqTarget.host).act.getLsbD (BitVec.toNat (7 : Byte)) =
       true)) ∧
    ((Alive liveIrq) ∧ ((7 : Byte) = (0 : Byte) ∨ (liveIrq.target IrqTarget.host).act.getLsbD (BitVec.toNat (7 :
       Byte)) = false)) ∧
    (let s := { liveIrq with irc.hold := some { release := 1000 } }
     (Alive s) ∧ (s.irc.hold = some { release := (1000 : Tick) }) ∧ (s.irc.line = false) ∧ ((1000 : Tick) +
       s.irc.modUs * ticksPerUs ≤ max s.etc (5000 : Tick))) :=
  ⟨by decide, by decide, by decide, by decide, by decide⟩

theorem meets_FaultReactions :
    Alive liveSafe ∧ liveSafe.flt.wdt.timeout ≠ 0 ∧
      liveSafe.flt.wdt.since + liveSafe.flt.wdt.timeout * ticksPerMs ≤ max liveSafe.etc 9000000 := by decide

theorem meets_AcknowledgementAndWatchdog :
    (let s := { liveSafe with flt.grace := some 9000000, flt.pend := 0x24 }
     (Alive s) ∧ (s.flt.safe = false) ∧ (s.flt.grace = some (9000000 : Tick)) ∧ ((9000000 : Tick) ≤ max s.etc
       (9000000 : Tick)) ∧ (s.flt.pend ≠ (0 : BitVec 96))) ∧
    (let s := { liveSafe with flt.grace := some 9000001, flt.pend := 0x24, flt.sticky := 0x1124 }
     (Alive s) ∧ (∀ (d : Tick), s.flt.grace = some d → max s.etc (9000000 : Tick) < d)) ∧
    ((Alive liveSafe) ∧ (liveSafe.flt.wdt.timeout ≠ 0) ∧ ((65534 : BitVec 16) = ~~~liveSafe.flt.wdt.token) ∧ (∀
       (y : Tick), liveSafe.flt.wdt.service = some y → liveSafe.flt.wdt.window * (liveSafe.flt.wdt.timeout *
       ticksPerMs) ≤ 256 * (max liveSafe.etc (7000000 : Tick) - y))) ∧
    ((Alive liveSafe) ∧ (liveSafe.flt.wdt.timeout ≠ 0) ∧ ((65535 : BitVec 16) ≠ ~~~liveSafe.flt.wdt.token)) ∧
    ((Alive liveSafe) ∧ (liveSafe.flt.wdt.timeout ≠ 0) ∧ (liveSafe.flt.wdt.warned = false) ∧ (3 *
       (liveSafe.flt.wdt.timeout * ticksPerMs) ≤ 4 * (max liveSafe.etc (7000000 : Tick) -
       liveSafe.flt.wdt.since))) :=
  ⟨by decide, by decide, by decide, by decide, by decide⟩

theorem meets_AngleBranchesAndJumps :
    (let x : AInstr := { op := AOp.bf, a := 4, imm := 262128 }
     (Issues (liveOp live x
       { g := [(1, (20480 : Word))], latches := (3 : BitVec 6), fh := true, saveG14 := (7 : Word) }) iss 0 x) ∧
       (x.op = AOp.bf)) ∧
    (let x : AInstr := { op := AOp.jr, a := 1 }
     let s := liveOp live x { g := [(1, (20480 : Word))], latches := (3 : BitVec 6) }
     (Issues s iss 0 x) ∧ (x.op = AOp.jr) ∧ ((s.ctx 0).fh = false)) :=
  ⟨by decide, by decide⟩

theorem meets_AngleRequestsPark :
    (let x : AInstr := { op := AOp.sched, d := 4, a := 1, b := 5 }
     (Issues (liveOp (liveLens 3 0) x { }) iss 0 x) ∧ (x.op = AOp.sched)) ∧
    (let x : AInstr := { op := AOp.aim, d := 4, a := 1 }
     (Issues (liveOp (liveLens 3 0) x { }) iss 0 x) ∧ (x.op = AOp.aim)) ∧
    (let x : AInstr := { op := AOp.cancel, d := 4, a := 1 }
     (Issues (liveOp (liveLens 3 0) x { }) iss 0 x) ∧ (x.op = AOp.cancel)) ∧
    (let x : AInstr := { op := AOp.waitt, d := 4, a := 1, b := 2 }
     let t := liveOp (liveLens 3 0) x { g := [(2, (1 : Word))] }
     let s := t.ctx 0
     (Issues t iss 0 x) ∧ (x.op = AOp.waitt) ∧ (max t.etc (9000 : Tick) < BitVec.toNat (s.reg x.a) +
       BitVec.toNat (s.reg x.b) * (4294967296 : Tick))) ∧
    (let x : AInstr := { op := AOp.waitt, d := 4, a := 1, b := 2 }
     let t := liveOp (liveLens 3 0) x { g := [(1, (1 : Word))] }
     let s := t.ctx 0
     (Issues t iss 0 x) ∧ (x.op = AOp.waitt) ∧ (BitVec.toNat (s.reg x.a) + BitVec.toNat (s.reg x.b) * 4294967296
       ≤ max t.etc (9000 : Tick))) ∧
    (let x : AInstr := { op := AOp.waite, d := 4, a := 1, b := 2 }
     let t := liveOp (liveLens 3 0) x { g := [(1, (1 : Word))] }
     let s := (t.ctx 0).reg x.a
     (Issues t iss 0 x) ∧ (x.op = AOp.waite) ∧ (t.latchBits 0 &&& BitVec.setWidth 6 s = BitVec.ofNat 6 0) ∧
       (¬(BitVec.setWidth 6 s = BitVec.ofNat 6 0 ∧ (t.ctx 0).reg x.b = (0 : Word)))) ∧
    (let x : AInstr := { op := AOp.waite, d := 4, a := 1, b := 2 }
     let s := liveOp (liveLens 3 0) x { g := [(1, (1 : Word))], latches := (3 : BitVec 6) }
     (Issues s iss 0 x) ∧ (x.op = AOp.waite) ∧ (s.latchBits 0 &&& BitVec.setWidth 6 ((s.ctx 0).reg x.a) ≠
       BitVec.ofNat 6 0)) ∧
    (let x : AInstr := { op := AOp.waita, d := 4, a := 1, b := 2 }
     let s := liveOp (liveLens 3 0) x { g := [(1, (4294967295 : Word))], latches := (3 : BitVec 6) }
     (Issues s iss 0 x) ∧ (x.op = AOp.waita) ∧ (2 * s.nTeeth ≤ ((s.ctx 0).reg x.a).toNat / 4096)) ∧
    (let x : AInstr := { op := AOp.waita, d := 4, a := 1, b := 2 }
     let a := liveOp (liveLens 3 0) x { g := [(1, (20480 : Word))], latches := (3 : BitVec 6) }
     let t := 2 * a.nTeeth * 4096
     let s := ((a.ctx 0).reg x.a).toNat
     (Issues a iss 0 x) ∧ (x.op = AOp.waita) ∧ (((a.ctx 0).reg x.a).toNat / 4096 < 2 * a.nTeeth) ∧ (positioned
       a.whl.sync = true) ∧ (lensLin (State.advance (9000 : Tick) a) = some 16383) ∧ (0 < fwdDist t 16383 s) ∧
       (2 * fwdDist t 16383 s < 2 * a.nTeeth * 4096)) ∧
    (let x : AInstr := { op := AOp.waita, d := 4, a := 1, b := 2 }
     let s := liveOp live x { g := [(1, (20480 : Word))], latches := (3 : BitVec 6) }
     (Issues s iss 0 x) ∧ (x.op = AOp.waita) ∧ (((s.ctx 0).reg x.a).toNat / 4096 < 2 * s.nTeeth) ∧ (positioned
       s.whl.sync = false)) :=
  ⟨by decide, by decide, by decide, by decide, by decide, by decide, by decide, by decide, by decide, by
  decide⟩

theorem meets_AngleStateInstructions :
    (let x : AInstr := { op := AOp.adda, d := 3, a := 1, b := 2 }
     let s := liveOp (liveLens 3 0) x { g := [(1, (20480 : Word)), (2, (4294963200 : Word))] }
     (Issues s iss 0 x) ∧ (x.op = AOp.adda) ∧ (((s.ctx 0).reg x.a).toNat / 4096 < 2 * s.nTeeth)) ∧
    (let x : AInstr := { op := AOp.adda, d := 3, a := 1, b := 2 }
     let s := liveOp (liveLens 3 0) x { g := [(1, (4294967295 : Word)), (2, (4294963200 : Word))] }
     (Issues s iss 0 x) ∧ (x.op = AOp.adda) ∧ (2 * s.nTeeth ≤ ((s.ctx 0).reg x.a).toNat / 4096)) ∧
    (let x : AInstr := { op := AOp.dista, d := 3, a := 1, b := 2 }
     let t := liveOp (liveLens 3 0) x { g := [(1, (20480 : Word)), (2, (16384 : Word))] }
     let s := t.ctx 0
     (Issues t iss 0 x) ∧ (x.op = AOp.dista) ∧ (BitVec.toNat (s.reg x.a) / 4096 < 2 * t.nTeeth) ∧ (BitVec.toNat
       (s.reg x.b) / 4096 < 2 * t.nTeeth)) ∧
    (let x : AInstr := { op := AOp.dista, d := 3, a := 1, b := 2 }
     let t := liveOp (liveLens 3 0) x { g := [(1, (4294967295 : Word)), (2, (16384 : Word))] }
     let s := t.ctx 0
     (Issues t iss 0 x) ∧ (x.op = AOp.dista) ∧ (2 * t.nTeeth ≤ BitVec.toNat (s.reg x.a) / 4096 ∨ 2 * t.nTeeth ≤
       BitVec.toNat (s.reg x.b) / 4096)) ∧
    (let x : AInstr := { op := AOp.snap }
     (Issues (liveOp (liveLens 3 0) x { g := [(1, (4294967295 : Word)), (2, (16384 : Word))] }) iss 0 x) ∧ (x.op
       = AOp.snap)) ∧
    (let x : AInstr := { op := AOp.rds, d := 3, imm := 5 }
     (Issues (liveOp (liveLens 3 0) x
       { g := [(1, (4294967295 : Word)), (2, (16384 : Word))], sigIn := (77 : BitVec 16) }) iss 0 x) ∧ (x.op =
       AOp.rds) ∧ (x.imm = 5)) ∧
    (let x : AInstr := { op := AOp.rds, d := 3, imm := 7 }
     (Issues (liveOp (liveLens 3 0) x
       { c := true, snap := { ang := (5 : Word) }, sigIn := (77 : BitVec 16), prioNow := 3 }) iss 0 x) ∧ (x.op =
       AOp.rds) ∧ (x.imm ≠ 5)) ∧
    (let x : AInstr := { op := AOp.mbxrd, d := 3, imm := 7 }
     (Issues (liveOp (liveLens 3 0) x
       { c := true, snap := { ang := (5 : Word) }, sigIn := (77 : BitVec 16), prioNow := 3 }) iss 0 x) ∧ (x.op =
       AOp.mbxrd)) ∧
    (let x : AInstr := { op := AOp.note, d := 3, b := 7 }
     let s := liveOp (liveLens 3 0) x
       { c := true, snap := { ang := (5 : Word) }, sigIn := (77 : BitVec 16), prioNow := 3 }
     (Issues s iss 0 x) ∧ (x.op = AOp.note) ∧ ((s.sq 0).notices = [])) ∧
    (let x : AInstr := { op := AOp.caprd, d := 3, a := 7 }
     let s := liveOp (liveLens 3 0) x
       { c := true, snap := { ang := (5 : Word) }, sigIn := (77 : BitVec 16), prioNow := 3 }
     (Issues s iss 0 x) ∧ (x.op = AOp.caprd) ∧ (recordReadable s ((s.ctx 0).reg x.a) = false)) ∧
    (let x : AInstr := { op := AOp.yield }
     (Issues (liveOp (liveLens 3 0) x
       { c := true, snap := { ang := (5 : Word) }, sigIn := (77 : BitVec 16), prioNow := 3 }) iss 0 x) ∧ (x.op =
       AOp.yield)) ∧
    (let x : AInstr := { op := AOp.endTask }
     let s := issued (liveOp (liveLens 3 0) x
       { c := true, snap := { ang := (5 : Word) }, sigIn := (77 : BitVec 16), prioNow := 5 }) (9000 : Tick) 0
     (Issues (liveOp (liveLens 3 0) x
       { c := true, snap := { ang := (5 : Word) }, sigIn := (77 : BitVec 16), prioNow := 5 }) iss 0 x) ∧ (x.op =
       AOp.endTask) ∧ (s.fh = false) ∧ (s.pending = false)) ∧
    (let x : AInstr := { op := AOp.endTask }
     let s := issued (liveOp (liveLens 3 0) x
       { c := true, snap := { ang := (5 : Word) }, sigIn := (77 : BitVec 16), prioNow := 5, pending := true })
       (9000 : Tick) 0
     (Issues (liveOp (liveLens 3 0) x
       { c := true, snap := { ang := (5 : Word) }, sigIn := (77 : BitVec 16), prioNow := 5, pending := true })
       iss 0 x) ∧ (x.op = AOp.endTask) ∧ (s.fh = false) ∧ (s.pending = true)) :=
  ⟨by decide, by decide, by decide, by decide, by decide, by decide, by decide, by decide, by decide, by
  decide, by decide, by decide, by decide⟩

theorem meets_AngleReachesOut :
    (let x : AInstr := { op := AOp.mbxcp, d := 3, a := 1, b := 2 }
     let s := ((liveOp (liveLens 3 0) x { g := [(1, (4194560 : Word)), (2, (0 : Word))] }).ctx 0).reg x.b
     (Issues (liveOp (liveLens 3 0) x { g := [(1, (4194560 : Word)), (2, (0 : Word))] }) iss 0 x) ∧ (x.op =
       AOp.mbxcp) ∧ (BitVec.toNat s / 256 % 256 = 0 ∨ 64 < BitVec.toNat s % 256 + BitVec.toNat s / 256 % 256 ∨
       65536 ≤ BitVec.toNat s)) ∧
    (let x : AInstr := { op := AOp.mbxcp, d := 3, a := 1, b := 2 }
     let a :=
       { liveOp (liveLens 3 0) { op := .mbxcp, d := 3, a := 1, b := 2 } {g := [(1, 0x400100), (2, 0x00000301)]} with seq.sq := [(0, {mailbox := [(1, 0x12345678), (3, 0xABCDEF01)], mbxSeq := 5})] }
     let t := (a.ctx 0).reg x.b
     let s := ((a.ctx 0).reg x.a).toNat
     (Issues a iss 0 x) ∧ (x.op = AOp.mbxcp) ∧ (0 < BitVec.toNat t / 256 % 256) ∧ (BitVec.toNat t % 256 +
       BitVec.toNat t / 256 % 256 ≤ 64) ∧ (BitVec.toNat t < 65536) ∧ (admitted (a.taskOf 0).segs Right.store s
       (4 * (BitVec.toNat t / 256 % 256)) = true) ∧ (regionOf s = Region.data) ∧ (((a.ctx 0).reg x.a).toNat % 4
       = 0)) ∧
    (let x : AInstr := { op := AOp.dmago, d := 3, a := 1, imm := 2 }
     let s := liveOp (liveLens 3 0) x { g := [(1, (4194560 : Word)), (2, (769 : Word))] }
     (Issues s iss 0 x) ∧ (x.op = AOp.dmago) ∧ (dmaAnswer s 0 x.imm ≠ 0)) ∧
    (let x : AInstr := { op := AOp.dmago, d := 3, a := 1, imm := 1 }
     let t := liveOp (liveLens 3 0) x { g := [(1, (4194560 : Word)), (2, (769 : Word))] }
     let s := t.dmaCh x.imm
     (Issues t iss 0 x) ∧ (x.op = AOp.dmago) ∧ ((t.taskOf 0).dmaGrant.getLsbD x.imm = true) ∧ (s.phase ≠
       DmaPhase.load) ∧ (s.phase ≠ DmaPhase.move)) ∧
    (let x : AInstr := { op := AOp.signal, a := 1 }
     (Issues (liveOp (liveLens 3 0) x { g := [(1, (4194560 : Word)), (2, (769 : Word))] }) iss 0 x) ∧ (x.op =
       AOp.signal) ∧ (x.imm = 0)) ∧
    (let x : AInstr := { op := AOp.signal, a := 1, imm := 1 }
     (Issues (liveOp (liveLens 3 0) x { g := [(1, (4194560 : Word)), (2, (769 : Word))] }) iss 0 x) ∧ (x.op =
       AOp.signal) ∧ (x.imm ≠ 0)) :=
  ⟨by decide, by decide, by decide, by decide, by decide, by decide⟩

theorem meets_ParkedContextsWake :
    (let s := liveTask { prio := 3, entry := (64 : BitVec 16), trig := 2 }
       { state := CtxState.parked, wait := Wait.instant 4 5000 }
     (Alive s) ∧ ((s.ctx 10).wait = Wait.instant 4 5000) ∧ (5000 ≤ max s.etc (9000 : Tick))) ∧
    (let s := liveTask { prio := 3, entry := (64 : BitVec 16), trig := 2 }
       { state := CtxState.parked, wait := Wait.latch 4 (3 : BitVec 6) (5000 : Tick) 50 }
     (Alive s) ∧ ((s.ctx 10).wait = Wait.latch 4 (3 : BitVec 6) (5000 : Tick) 50) ∧ (50 ≠ 0) ∧ ((5000 : Tick) +
       (8 : Tick) * 50 ≤ max s.etc (9000 : Tick))) ∧
    (let s :=
       { liveTask {} { state := .parked, wait := .angle 4 3 5000 50 } with cfg := (liveLens 3 0).cfg, whl.sync := .full, lns := { cur := 3, seen := 15053 } }
     (Alive s) ∧ ((s.ctx 10).wait = Wait.angle 4 (3 : Word) (5000 : Tick) 50) ∧ (50 ≠ 0) ∧ ((5000 : Tick) + (8 :
       Tick) * 50 ≤ max s.etc (9000 : Tick)) ∧ (lensLinAt s ((5000 : Tick) + (8 : Tick) * 50) = some s.lns.seen)) ∧
    (let s := liveTask { prio := 3, entry := (64 : BitVec 16), trig := 2 }
       { state := CtxState.parked, wait := Wait.answered 4 5 true (7 : Word) (9 : Word) none }
     (Alive s) ∧ ((s.ctx 10).wait = Wait.answered 4 5 true (7 : Word) (9 : Word) none)) ∧
    (let s := liveTask { prio := 3, entry := (64 : BitVec 16), trig := 2 }
       { state := CtxState.parked, wait := Wait.answered 4 5 false (7 : Word) (9 : Word) none }
     (Alive s) ∧ ((s.ctx 10).wait = Wait.answered 4 5 false (7 : Word) (9 : Word) none)) ∧
    (let s := liveTask { prio := 3, entry := (64 : BitVec 16), trig := 2 } { state := CtxState.idle }
     (Alive s) ∧ (s.task 10 = some { prio := 3, entry := (64 : BitVec 16), trig := 2 }) ∧ (timeTriggerAt s 10 ≤
       max s.etc (9000 : Tick)) ∧ ((s.ctx 10).state = CtxState.idle)) ∧
    (let t := liveTask { prio := 3, entry := (64 : BitVec 16), trig := 2 }
       { state := CtxState.parked, wait := Wait.latch 4 (3 : BitVec 6) (5000 : Tick) 0 }
     let s := t.ctx 10
     (Alive t) ∧ (t.task 10 = some { prio := 3, entry := (64 : BitVec 16), trig := 2 }) ∧ (timeTriggerAt t 10 ≤
       max t.etc (9000 : Tick)) ∧ (s.state = CtxState.parked) ∧ (s.pending = false)) :=
  ⟨by decide, by decide, by decide, by decide, by decide, by decide, by decide⟩

theorem meets_TaskFaults :
    (let s := liveOp live { op := AOp.add } { g := [(13, (8 : Word))], pc := (1 : BitVec 16), c := true }
     (iss.fetch = Ecc.clean) ∧ (Alive s) ∧ (∀ k ∈ ctxsOf ↑iss.sq, mayIssue s k = true → overBudget s k = false)
       ∧ (fetchFault s 0 Ecc.clean = 0) ∧ (decodeAngle (fetchWord s 0) = none) ∧ (bestCtx s ↑iss.sq = some 0) ∧
       ((s.ctx 0).fh = false) ∧ ((s.taskOf 0).faultPc ≠ (65535 : BitVec 16))) ∧
    (let t :=
       { liveOp live {op := .add} {pc := 1, g := [(13, 8)], c := true} with seq.task := [(0, some { segs := codeSegs})] }
     let s := t.ctx 0
     (iss.fetch = Ecc.clean) ∧ (Alive t) ∧ (∀ k ∈ ctxsOf ↑iss.sq, mayIssue t k = true → overBudget t k = false)
       ∧ (fetchFault t 0 Ecc.clean = 0) ∧ (decodeAngle (fetchWord t 0) = none) ∧ (bestCtx t ↑iss.sq = some 0) ∧
       (s.wait = Wait.none) ∧ (s.fh = false) ∧ ((t.taskOf 0).faultPc = (65535 : BitVec 16))) ∧
    (let t := liveOp live { op := AOp.add }
       { g := [(13, (8 : Word))], pc := (1 : BitVec 16), c := true, fh := true }
     let s := t.ctx 0
     (iss.fetch = Ecc.clean) ∧ (Alive t) ∧ (∀ k ∈ ctxsOf ↑iss.sq, mayIssue t k = true → overBudget t k = false)
       ∧ (fetchFault t 0 Ecc.clean = 0) ∧ (decodeAngle (fetchWord t 0) = none) ∧ (bestCtx t ↑iss.sq = some 0) ∧
       (s.wait = Wait.none) ∧ (s.fh = true)) ∧
    (let t := liveTask { faultPc := (153 : BitVec 16), budget := 3 }
       { g := [(14, (8 : Word))], state := CtxState.ready, used := 5000000 }
     let s := t.ctx 10
     (Alive t) ∧ (mayIssue t 10 = true) ∧ (overBudget t 10 = true) ∧ (s.secondBudget = false) ∧ (s.fh = false) ∧
       ((t.taskOf 10).faultPc ≠ (65535 : BitVec 16))) ∧
    (let t := liveTask { faultPc := (153 : BitVec 16), budget := 3 }
       { g := [(14, (8 : Word))], state := CtxState.ready, fh := true, used := 5000000, secondBudget := true }
     let s := t.ctx 10
     (Alive t) ∧ (mayIssue t 10 = true) ∧ (overBudget t 10 = true) ∧ (s.wait = Wait.none) ∧ (s.secondBudget =
       true)) :=
  ⟨by decide, by decide, by decide, by decide, by decide⟩

theorem meets_DmaMovesBytes :
    (let b := liveDma
       { phase := .move, src := 0x400200, dst := 0x400300, len := 40, desc := 0x400000, segs := codeSegs, ctl := 1 }
     let a := b.dmaCh 2
     let t := (b.dmaCh 2).len - (b.dmaCh 2).bytes
     let s := min 64 (t)
     (Alive b) ∧ (a.phase = DmaPhase.move) ∧ (dmaTurn b 2 = true) ∧ (a.bytes < a.len) ∧ (a.fixed = false) ∧ (a.len % 4 = 0) ∧ (a.bytes
       % 4 = 0) ∧ (b.mem.bad = []) ∧ (admitted a.segs Right.load (a.src + a.bytes) s = true) ∧ (admitted a.segs
       Right.store (a.dst + a.bytes) s = true) ∧ (4194304 ≤ a.src + a.bytes) ∧ (a.src + a.bytes + min 64 t ≤
       4718592) ∧ (a.linked = false ∨ a.bytes + min 64 t < a.len)) ∧
    (let s := (liveDma
       { phase := .move, src := 0x400200, dst := 0x400300, len := 40, bytes := 40, desc := 0x400000, segs := codeSegs, ctl := 1 }).dmaCh
       2
     (Alive (liveDma
       { phase := .move, src := 0x400200, dst := 0x400300, len := 40, bytes := 40, desc := 0x400000, segs := codeSegs, ctl := 1 }))
       ∧ (s.phase = DmaPhase.move) ∧ (s.bytes = s.len) ∧ (s.linked = false)) :=
  ⟨by decide, by decide⟩

theorem meets_OwnerTimersAndStrap :
    (let s := { live with sec.release := some ⟨5, 6, 7⟩, supply.claimStrap := true }
     (Alive s) ∧ (false ≠ s.supply.claimStrap)) ∧
    (let s := { live with sec.regsUp := true }
     (Alive s) ∧ (s.sec.regsUp = true) ∧ (s.sec.challengeAt + (600 : Tick) * ticksPerS ≤ max s.etc ((90000 :
       Tick) * ticksPerS))) ∧
    (let s := { live with sec.release := some ⟨5, 6, 7⟩, supply.claimStrap := true }
     (Alive s) ∧ (s.sec.release = some { since := (5 : Tick), nextRemind := (6 : Tick), nextLog := (7 : Tick) })) ∧
    (let s :=
       { live with sec.release := some ⟨5, 6, 7⟩, sec.regsUp := true, nv.keys.life := .owned, nv.keys.ogen := 5, links.can0.session := .opening ⟨0, 0, [], [], [], 0⟩, nv.env0 := [5], sys.running := some .a, seq.ctx := [(3, {state := .parked})] }
     (Alive s) ∧ (s.sec.release = some { since := (5 : Tick), nextRemind := (6 : Tick), nextLog := (7 : Tick) })
       ∧ ((5 : Tick) + (86400 : Tick) * ticksPerS ≤ max s.etc ((90000 : Tick) * ticksPerS))) ∧
    ((Alive live) ∧ (live.sec.entropyFail = false)) ∧
    (let s := { live with links.can0.lockUntil := some 9000 }
     (Alive s) ∧ ((s.link Link.can0).lockUntil = some (9000 : Tick)) ∧ ((9000 : Tick) ≤ max s.etc ((90000 :
       Tick) * ticksPerS))) :=
  ⟨by decide, by decide, by decide, by decide, by decide, by decide⟩

theorem meets_CaddyWritesComplete :
    (let s := { live with sec.envelope := some [1] }
     (Alive s) ∧ (s.sec.envelope.isSome = true) ∧ (s.sec.envBad = false)) ∧
    (let s := { live with sec.envBad := true}
     (Alive s) ∧ (s.sec.envBad = true) ∧ (storedEnvelope s = none)) ∧
    (let s := { live with cfg.storing := some live.cfg.active }
     (Alive s) ∧ (s.cfg.storing = some live.cfg.active)) ∧
    (let s := { live with cfg.storing := some live.cfg.active }
     (Alive s) ∧ (s.cfg.storing = some live.cfg.active)) ∧
    (let s := { live with bgs.jobs := [.refresh 7, .wearSave], nv.badBlocks := [(7, true)] }
     (Alive s) ∧ (s.bgs.jobs = [CaddyJob.refresh 7, CaddyJob.wearSave]) ∧ (s.bgs.jobDone = 0)) ∧
    (let s := { live with bgs.jobs := [.logFlush 2, .wearSave], nv.badBlocks := [(7, true)] }
     (Alive s) ∧ (s.bgs.jobs = [CaddyJob.logFlush 2, CaddyJob.wearSave]) ∧ ((ringBlocks s.nv.ringPos (tailBytes
       s 2)).length ≤ s.bgs.jobDone + 1)) ∧
    (let s := { live with bgs.jobs := [.logFlush 2, .wearSave], bgs.retried := true }
     (Alive s) ∧ (s.bgs.jobs = [CaddyJob.logFlush 2, CaddyJob.wearSave]) ∧ (s.bgs.retried = true)) :=
  ⟨by decide, by decide, by decide, by decide, by decide, by decide, by decide⟩

theorem meets_MailboxAndCanPorts :
    ((Alive linkUp) ∧ (linkUp.sys.linksUp = true) ∧ (linkUp.links.txFrame = none) ∧ (11 ≤ 12) ∧ (12 ≤ 512)) ∧
    (let s := { linkUp with links.txFrame := some [] }
     (Alive s) ∧ (s.sys.linksUp = true) ∧ (s.links.txFrame.isSome = true)) ∧
    ((Alive linkUp) ∧ (linkUp.sys.linksUp = true) ∧ (linkUp.links.txFrame = none) ∧ (10 < 11 ∨ 512 < 10)) ∧
    (let s := { linkUp with links.rxReady := true }
     (Alive s) ∧ (s.sys.linksUp = true) ∧ (s.links.rxReady = true) ∧ (s.links.spi.out = [])) ∧
    (let s := { linkUp with links.rxReady := true, links.spi.out := [[1], [2]] }
     (Alive s) ∧ (s.sys.linksUp = true) ∧ (s.links.rxReady = true) ∧ (s.links.spi.out = [[(1 : Byte)], [(2 :
       Byte)]])) ∧
    (let s := { linkUp with links.can1.out := [[1], [0x20], [3]] }
     (Alive s) ∧ (s.sys.linksUp = true) ∧ ((s.link (if true = true then Link.can1 else Link.can0)).busOff =
       false)) ∧
    (let s := { linkUp with links.can1.busOff := true }
     (Alive s) ∧ (s.sys.linksUp = true) ∧ ((s.link (if true = true then Link.can1 else Link.can0)).busOff =
       true)) ∧
    (let s := { linkUp with links.can1.out := [[1], [0x20], [3]] }
     (Alive s) ∧ (s.sys.linksUp = true) ∧ ((s.link (if true = true then Link.can1 else Link.can0)).busOff =
       false)) :=
  ⟨by decide, by decide, by decide, by decide, by decide, by decide, by decide, by decide⟩

theorem meets_FramesMessagesAndSessions :
    (let t := { linkUp with links.txFrame := some (hostFrame 0x11 7 0 [3, 2]) }
     let s := t.link Link.spi
     (Alive t) ∧ (t.sys.linksUp = true) ∧ (t.links.txFrame = some ([(17 : Byte), (7 : Byte)] ++ leBytes 2 0 ++
       leBytes 2 [(3 : Byte), (2 : Byte)].length ++ [(3 : Byte), (2 : Byte)] ++ leBytes 4 (crc32 ([(17 : Byte),
       (7 : Byte)] ++ leBytes 2 0 ++ leBytes 2 [(3 : Byte), (2 : Byte)].length ++ [(3 : Byte), (2 : Byte)])))) ∧
       (0 < [(3 : Byte), (2 : Byte)].length) ∧ ([(3 : Byte), (2 : Byte)].length ≤ 502) ∧ (s.asm = none) ∧
       (s.session = SessionSt.none)) ∧
    (let a := [(1 : Byte), (0 : Byte), (52 : Byte), (18 : Byte), (0 : Byte), (0 : Byte)]
     let t :=
       { linkUp with links.txFrame := some (hostFrame 0x21 7 1 [0, 0]), links.spi.asm := some { mtag := 7, next := 1, bytes := [1, 0, 0x34, 0x12, 0, 0], last := 90000 * ticksPerS - 5 } }
     let s := t.link Link.spi
     (Alive t) ∧ (t.sys.linksUp = true) ∧ (t.links.txFrame = some ([(33 : Byte), (7 : Byte)] ++ leBytes 2 1 ++
       leBytes 2 [(0 : Byte), (0 : Byte)].length ++ [(0 : Byte), (0 : Byte)] ++ leBytes 4 (crc32 ([(33 : Byte),
       (7 : Byte)] ++ leBytes 2 1 ++ leBytes 2 [(0 : Byte), (0 : Byte)].length ++ [(0 : Byte), (0 : Byte)])))) ∧
       (s.asm = some
       { mtag := (7 : Byte), next := 1, bytes := a, last := (90000 : Tick) * ticksPerS - (5 : Tick) }) ∧ (1 <
       65536) ∧ (max t.etc ((90000 : Tick) * ticksPerS) ≤ (90000 : Tick) * ticksPerS - (5 : Tick) + (100 : Tick)
       * ticksPerMs) ∧ ([(0 : Byte), (0 : Byte)].length ≤ 502) ∧ (a ++ [(0 : Byte), (0 : Byte)] = [(1 : Byte),
       (0 : Byte), (52 : Byte), (18 : Byte), (0 : Byte), (0 : Byte), (0 : Byte), (0 : Byte)]) ∧ ([(0 : Byte), (0
       : Byte)] ≠ []) ∧ (s.session = SessionSt.none) ∧ (s.req = none) ∧ (t.supply.state ≠ SupplyState.holdup)) ∧
    (let s :=
       { linkUp with links.can0.asm := some { mtag := 7, next := 1, bytes := [1, 0, 0x34, 0x12, 0, 0], last := 5 } }
     (Alive s) ∧ (s.sys.linksUp = true) ∧ ((s.link Link.can0).asm = some
       { mtag := (7 : Byte), next := 1, bytes := [(1 : Byte), (0 : Byte), (52 : Byte), (18 : Byte), (0 : Byte), (0 : Byte)], last := (5 : Tick) })
       ∧ ((5 : Tick) + (100 : Tick) * ticksPerMs < max s.etc ((90000 : Tick) * ticksPerS))) ∧
    (let t := { linkUp with links.can0.session := .opening ⟨0, 0, [], [], [], 0⟩ }
     let s := t.link Link.can0
     (Alive t) ∧ (t.sys.linksUp = true) ∧ (s.session = SessionSt.opening
       { slot := 0, sid := (0 : Word), transcript := [], keyHM := [], keyMH := [], since := (0 : Tick) }) ∧ ((0
       : Tick) + (5 : Tick) * ticksPerS ≤ max t.etc ((90000 : Tick) * ticksPerS)) ∧ (s.fails < 7)) ∧
    (let s :=
       { linkUp with links.can0.session := .opened ⟨0, 0, 0, 0, [], [], 0, 0, 0, 0, none, none⟩, cfg.staging := some (.can0, live.cfg.active) }
     (Alive s) ∧ (s.sys.linksUp = true) ∧ ((s.link Link.can0).session = SessionSt.opened
       { slot := 0, sid := (0 : Word), serial := (0 : Word), roles := (0 : BitVec 16), keyHM := [], keyMH := [], lastAt := (0 : Tick) })
       ∧ ((0 : Tick) + sessIdle s * ticksPerS ≤ max s.etc ((90000 : Tick) * ticksPerS))) :=
  ⟨by decide, by decide, by decide, by decide, by decide⟩

theorem meets_ReadingCommandsAnswer :
    ((Asked (asks liveUp 1 []) Link.can0 (rq 1 []) 1) ∧ ((rq 1 []).body.length = 0)) ∧
    ((Asked (asks liveUp 2 (zeros 16)) Link.can0 (rq 2 (zeros 16)) 2) ∧ ((rq 2 (zeros 16)).body.length = 16)) ∧
    ((Asked (asks liveUp 20 []) Link.can0 (rq 20 []) 20) ∧ ((rq 20 []).body.length = 0)) ∧
    (let s := rq 32 (leBytes 4 28704 ++ leBytes 2 3 ++ [(0 : Byte), (0 : Byte)])
     (Asked (asks liveUp 32 (leBytes 4 28704 ++ leBytes 2 3 ++ [(0 : Byte), (0 : Byte)])) Link.can0 s 32) ∧
       (s.body = leBytes 4 28704 ++ leBytes 2 3 ++ [(0 : Byte), (0 : Byte)]) ∧ (28704 % 4 = 0) ∧ (1 ≤ 3) ∧ (3 ≤
       1023) ∧ (28704 + 4 * 3 ≤ 65536)) ∧
    (let s := { asks liveUp 0x21 (zeros 20) with evs.records := [{ cycle := 0 }] }
     (Asked s Link.can0 (rq 33 (zeros 20)) 33) ∧ ((rq 33 (zeros 20)).body.length = 20) ∧ (List.find? (fun c ↦
       c.cycle == leAt (rq 33 (zeros 20)).body 0 4) s.evs.records = some { })) ∧
    (let s := asks liveUp 33 (zeros 20)
     (Asked s Link.can0 (rq 33 (zeros 20)) 33) ∧ ((rq 33 (zeros 20)).body.length = 20) ∧ (List.find? (fun c ↦
       c.cycle == leAt (rq 33 (zeros 20)).body 0 4) s.evs.records = none)) ∧
    ((Asked { asks liveUp 0x22 [] with bgs.batch := [3, 4] } Link.can0 (rq 34 []) 34) ∧ ((rq 34 []).body.length
       = 0)) ∧
    (let s := rq 35 (leBytes 4 0 ++ leBytes 2 4 ++ [(0 : Byte), (0 : Byte)])
     (Asked
       { asks liveUp 0x23 (leBytes 4 0 ++ leBytes 2 4 ++ [0, 0]) with bgs.tail := [{index := 0, kind := 4, etc := 5, prev := 0, body := zeros 16}], bgs.logNext := 1 }
       Link.can0 s 35) ∧ (s.body = leBytes 4 0 ++ leBytes 2 4 ++ [(0 : Byte), (0 : Byte)]) ∧ (1 ≤ 4) ∧ (4 ≤ 64)
       ∧ (0 < 2 ^ 32)) ∧
    (let s := rq 67 ([(0 : Byte), (0 : Byte)] ++ leBytes 2 32 ++ leBytes 2 8 ++ [(0 : Byte), (0 : Byte)])
     (Asked (asks liveUp 67 ([(0 : Byte), (0 : Byte)] ++ leBytes 2 32 ++ leBytes 2 8 ++ [(0 : Byte), (0 :
       Byte)])) Link.can0 s 67) ∧ (s.body = [BitVec.ofNat 8 0, (0 : BitVec 8)] ++ leBytes 2 32 ++ leBytes 2 8 ++
       [(0 : BitVec 8), (0 : BitVec 8)]) ∧ (0 ≤ 2) ∧ (4 ≤ 8) ∧ (8 ≤ 4092) ∧ (32 + 8 ≤ 9216)) ∧
    ((Asked (asks liveUp 68 []) Link.can0 (rq 68 []) 68) ∧ ((rq 68 []).body.length = 0)) ∧
    (((68, 0, Instr.cfgStatus (90000 : Tick) Link.can0) ∈ [(1, 0, Instr.identity (90000 : Tick) Link.can0), (2,
       16, Instr.attest (90000 : Tick) Link.can0), (5, 0, Instr.forceRelease (90000 : Tick) Link.can0), (19, 0,
       Instr.close (90000 : Tick) Link.can0), (20, 0, Instr.ping (90000 : Tick) Link.can0), (32, 8,
       Instr.readRegs (90000 : Tick) Link.can0), (33, 20, Instr.cycleRecord (90000 : Tick) Link.can0), (34, 0,
       Instr.telemetry (90000 : Tick) Link.can0), (35, 8, Instr.logRead (90000 : Tick) Link.can0), (67, 8,
       Instr.cfgRead (90000 : Tick) Link.can0), (68, 0, Instr.cfgStatus (90000 : Tick) Link.can0)]) ∧ (Asked
       (asks liveUp 68 [(1 : Byte)]) Link.can0 (rq 68 [(1 : Byte)]) 68) ∧ ((rq 68 [(1 : Byte)]).body.length ≠ 0)) :=
  ⟨by decide, by decide, by decide, by decide, by decide, by decide, by decide, by decide, by decide, by
  decide, by decide⟩

theorem meets_OwnershipCommands :
    (let s := { asks liveUp 3 (zeros 16) with sec.regsUp := true, nv.keys.life := .owned }
     (Asked s Link.can0 (rq 3 (zeros 16)) 3) ∧ ((rq 3 (zeros 16)).sealed = false) ∧ (s.keys.life ≠
       Life.unclaimed)) ∧
    (let s := { asks liveUp 5 [] with supply.claimStrap := true }
     (Asked s Link.can0 (rq 5 []) 5) ∧ ((rq 5 []).body = []) ∧ (s.supply.claimStrap = true) ∧ (s.sec.release =
       none)) ∧
    ((Asked (asks liveUp 5 []) Link.can0 (rq 5 []) 5) ∧ ((rq 5 []).body = []) ∧ ((asks liveUp 5
       []).supply.claimStrap = false)) ∧
    ((Asked (asks liveUp 6 []) Link.can0 (rq 6 []) 6) ∧ ((asks liveUp 6 []).sec.envWrite = none) ∧ ((asks liveUp
       6 []).keys.life ≠ Life.owned)) :=
  ⟨by decide, by decide, by decide, by decide⟩

theorem meets_SessionsOpenAndClose :
    (let s := { asks liveUp 0x10 (zeros 84) with sec.regsUp := true, nv.keys.life := .owned }
     (Asked s Link.can0 (rq 16 (zeros 84)) 16) ∧ ((rq 16 (zeros 84)).sealed = false) ∧ (s.keys.life =
       Life.owned) ∧ (s.sec.entropyFail = false) ∧ (openFormFault (rq 16 (zeros 84)).body = none) ∧ (leAt (rq 16
       (zeros 84)).body 0 1 ≤ 15) ∧ (Table.get none s.keys.slots (leAt (rq 16 (zeros 84)).body 0 1) = none)) ∧
    (let s := asks liveUp 18 (zeros 8)
     (Asked s Link.can0 (rq 18 (zeros 8)) 18) ∧ ((rq 18 (zeros 8)).sealed = false) ∧ ((s.link Link.can0).session
       = SessionSt.none)) ∧
    ((Asked
       { liveUp with links.can0 := { req := some { rq 0x13 [] with sealed := true }, session := .opened openSes } }
       Link.can0
       { code := (rq 19 []).code, rtag := (rq 19 []).rtag, body := (rq 19 []).body, sealed := true, mtag := (rq 19 []).mtag }
       19) ∧ ((rq 19 []).body = [])) :=
  ⟨by decide, by decide, by decide⟩

theorem meets_TargetsAndConfigurationCommands :
    (let a :=
       { asks liveUp 0x30 [2, 3, 2, 0, 0x11, 0x22, 0x33, 0x44, 5, 0, 0, 1] with seq.ctx := [(17, {state := .halted})] }
     let t := rq 48 [(2 : Byte), (3 : Byte), (2 : Byte), (0 : Byte), (17 : Byte), (34 : Byte), (51 : Byte), (68
       : Byte), (5 : Byte), (0 : Byte), (0 : Byte), (1 : Byte)]
     let s := List.drop 4 t.body
     (Asked a Link.can0 t 48) ∧ (a.sys.running.isSome = true) ∧ (List.take 4 t.body = [BitVec.ofNat 8 2,
       BitVec.ofNat 8 3, BitVec.ofNat 8 (s.length / 4), (0 : BitVec 8)]) ∧ (s.length % 4 = 0) ∧ (2 ≤ 15) ∧
       (List.drop 4 t.body ≠ []) ∧ (3 + s.length / 4 ≤ 64)) ∧
    (let s := { asks liveUp 0x30 [] with sys.running := none }
     (Asked s Link.can0 (rq 48 []) 48) ∧ (s.sys.running = none)) ∧
    (let a := rq 64 [(32 : Byte), (0 : Byte), (4 : Byte), (0 : Byte), (1 : Byte), (0 : Byte), (0 : Byte), (0 :
       Byte)]
     let t := asks liveUp 64 [(32 : Byte), (0 : Byte), (4 : Byte), (0 : Byte), (1 : Byte), (0 : Byte), (0 :
       Byte), (0 : Byte)]
     let s := List.drop 4 a.body
     (Asked t Link.can0 a 64) ∧ (heldElsewhere t Link.can0 = false) ∧ (List.take 4 a.body = leBytes 2 32 ++
       leBytes 2 s.length) ∧ (32 % 4 = 0) ∧ (32 ≤ 32) ∧ (32 + s.length ≤ 9216) ∧ (s.length % 4 = 0) ∧ (4 ≤
       s.length) ∧ (s.length ≤ 4088) ∧ (stageEntries t.sys.order64 (blkWrite (stagingCopy t) 32 s) 32 s.length =
       [])) ∧
    (let s := { asks liveUp 0x40 [0x20, 0, 4, 0, 1, 0, 0, 0] with cfg.staging := some (.spi, live.cfg.active) }
     (Asked s Link.can0 (rq 64 [(32 : Byte), (0 : Byte), (4 : Byte), (0 : Byte), (1 : Byte), (0 : Byte), (0 :
       Byte), (0 : Byte)]) 64) ∧ (s.cfg.staging = some (Link.spi, live.cfg.active)) ∧ (Link.spi ≠ Link.can0)) ∧
    (let s := { asks liveUp 0x42 [] with cfg.staging := some (.can0, live.cfg.active) }
     (Asked s Link.can0 (rq 66 []) 66) ∧ (s.cfg.staging = some (Link.can0, live.cfg.active)) ∧ ((rq 66 []).body
       = [])) ∧
    (((66, Instr.cfgDiscard (90000 : Tick) Link.can0) ∈ [(65, Instr.cfgCommit (90000 : Tick) Link.can0), (66,
       Instr.cfgDiscard (90000 : Tick) Link.can0)]) ∧ (Asked (asks liveUp 66 []) Link.can0 (rq 66 []) 66) ∧
       (holdsStaging (asks liveUp 66 []) Link.can0 = false)) :=
  ⟨by decide, by decide, by decide, by decide, by decide, by decide⟩

theorem meets_ImageAndResetCommands :
    (let t := rq 80 ([(1 : Byte), (0 : Byte), (0 : Byte), (0 : Byte)] ++ leBytes 4 1000)
     let s := { asks liveUp 0x50 ([1, 0, 0, 0] ++ leBytes 4 1000) with nv.imgB.bytes := [1, 2] }
     (Asked s Link.can0 t 80) ∧ (sequenceEnded s = true) ∧ (t.body = [BitVec.ofNat 8 1, (0 : BitVec 8), (0 :
       BitVec 8), (0 : BitVec 8)] ++ leBytes 4 1000) ∧ (slotOf 1 = some Slot.b) ∧ (s.sys.running ≠ some Slot.b)
       ∧ (192 ≤ 1000) ∧ (1000 ≤ 262144)) ∧
    (let t := rq 81 [(8 : Byte), (0 : Byte), (0 : Byte), (0 : Byte), (7 : Byte), (8 : Byte)]
     let s :=
       { asks liveUp 0x51 [8, 0, 0, 0, 7, 8] with nv.imgB.bytes := [1, 2], sec.transfer := some { slot := .b, total := 1000, next := 8, link := .can0 } }
     (Asked s Link.can0 t 81) ∧ (s.sec.transfer = some
       { slot := Slot.b, total := 1000, next := 8, link := Link.can0 }) ∧ (leAt t.body 0 4 = 8) ∧ (5 ≤
       t.body.length) ∧ (t.body.length ≤ 4092) ∧ (8 + (t.body.length - 4) ≤ 1000)) ∧
    (let t := rq 81 [(8 : Byte), (0 : Byte), (0 : Byte), (0 : Byte), (7 : Byte), (8 : Byte)]
     let s :=
       { asks liveUp 0x51 [8, 0, 0, 0, 7, 8] with nv.imgB.bytes := [1, 2], sec.transfer := some { slot := .b, total := 1000, next := 9, link := .can0 } }
     (Asked s Link.can0 t 81) ∧ (s.sec.transfer = some
       { slot := Slot.b, total := 1000, next := 9, link := Link.can0 }) ∧ (leAt t.body 0 4 ≠ 9) ∧ (5 ≤
       t.body.length) ∧ (t.body.length ≤ 4092)) ∧
    (let s :=
       { asks liveUp 0x52 [] with nv.imgB.bytes := [1, 2], sec.transfer := some { slot := .b, total := 1000, next := 9, link := .can0 } }
     (Asked s Link.can0 (rq 82 []) 82) ∧ (s.sec.transfer = some
       { slot := Slot.b, total := 1000, next := 9, link := Link.can0 }) ∧ ((rq 82 []).body = []) ∧ (9 ≠ 1000)) ∧
    (let a := rq 83 [(1 : Byte), (0 : Byte), (0 : Byte), (0 : Byte)]
     let t :=
       { asks liveUp 0x53 [1, 0, 0, 0] with nv.imgB := { bytes := [1, 0, 0, 0, 0, 0, 0, 0, 9, 0, 0, 0], full := true, verified := true } }
     let s := imageOf t Slot.b
     (Asked t Link.can0 a 83) ∧ (sequenceEnded t = true) ∧ (a.body = [BitVec.ofNat 8 1, (0 : BitVec 8), (0 :
       BitVec 8), (0 : BitVec 8)]) ∧ (slotOf 1 = some Slot.b) ∧ (s.full = true) ∧ (s.verified = true)) ∧
    (let s :=
       { asks liveUp 0x54 [] with nv.imgA := { bytes := [1, 0, 0, 0, 0, 0, 0, 0, 9, 0, 0, 0], full := true, verified := true } }
     (Asked s Link.can0 (rq 84 []) 84) ∧ (sequenceEnded s = true) ∧ (s.sys.running = some Slot.a) ∧ ((rq 84
       []).body = [])) ∧
    (let t := rq 85 [(0 : Byte), (0 : Byte), (0 : Byte), (0 : Byte)]
     let s := asks liveUp 85 [(0 : Byte), (0 : Byte), (0 : Byte), (0 : Byte)]
     (Asked s Link.can0 t 85) ∧ (sequenceEnded s = true) ∧ (s.whl.sync = Sync.nosync) ∧ (t.body = [(0 : Byte),
       (0 : Byte), (0 : Byte), (0 : Byte)])) ∧
    (let s := { asks liveUp 0x55 [0, 0, 0, 0] with whl.sync := .full }
     (Asked s Link.can0 (rq 85 [(0 : Byte), (0 : Byte), (0 : Byte), (0 : Byte)]) 85) ∧ (sequenceEnded s = true)
       ∧ (s.whl.sync ≠ Sync.nosync)) :=
  ⟨by decide, by decide, by decide, by decide, by decide, by decide, by decide, by decide⟩

theorem meets_ServiceCommands :
    (let t := State.advance (8600 : Tick) liveShot
     let s := requestEvent 16 (BitVec.ofNat 32 196608) (BitVec.ofNat 32 (0 + 0 * 256 + 2 ^ 24)) (0 : Word)
     let e := { s with
       ctag := if (match lensLin t with | some a => decide (a < 196608) | none => false) then liveShot.evs.cycle % 256
         else (liveShot.evs.cycle + 1) % 256 }
     (Asked liveShot Link.can0 (rq 96 shotBytes) 96) ∧ (liveShot.sys.running.isSome = true) ∧ (0 ≤ 63) ∧ (0 ≤ 255) ∧
       ((rq 96 shotBytes).body = [BitVec.ofNat 8 0, (0 : BitVec 8)] ++ leBytes 2 0 ++ leBytes 4 196608) ∧
       (196608 < 2 ^ 32) ∧ (liveShot.flt.safe = false) ∧ ((196608 / 4096 : ℕ) < 2 * liveShot.nTeeth) ∧ (positioned
       liveShot.whl.sync = true) ∧ (0 < liveShot.channels) ∧ (profileOk (liveShot.profile 0) 0 e.ont
       = true) ∧ (freeAfter liveShot 8192 liveShot.evs.lastSlot = some 0) ∧ (inWindow liveShot e
       = false) ∧ (evPassed t e
       = false) ∧ (gateEvent liveShot e
       = 0)) ∧
    (let t := rq 96 ([(64 : Byte), (0 : Byte), (2 : Byte), (0 : Byte)] ++ leBytes 4 32768)
     let s := asks liveUp 96 ([(64 : Byte), (0 : Byte), (2 : Byte), (0 : Byte)] ++ leBytes 4 32768)
     (Asked s Link.can0 t 96) ∧ (s.sys.running.isSome = true) ∧ (t.body = [BitVec.ofNat 8 64, (0 : BitVec 8)] ++
       leBytes 2 2 ++ leBytes 4 32768) ∧ (64 ≤ 255) ∧ (2 ≤ 65535) ∧ (63 < 64 ∨ 255 < 2)) ∧
    (let t := rq 96 ([(6 : Byte), (0 : Byte), (2 : Byte), (0 : Byte)] ++ leBytes 4 32768)
     let s := { asks liveUp 0x60 ([6, 0, 2, 0] ++ leBytes 4 0x8000) with flt.safe := true }
     (Asked s Link.can0 t 96) ∧ (s.sys.running.isSome = true) ∧ (t.body.length = 8) ∧ (leAt t.body 1 1 = 0) ∧
       (leAt t.body 0 1 ≤ 63) ∧ (leAt t.body 2 2 ≤ 255) ∧ (s.flt.safe = true)) ∧
    (let t := rq 97 (leBytes 8 5 ++ [(1 : Byte), (0 : Byte), (0 : Byte), (0 : Byte)])
     let s := { asks liveUp 0x61 (leBytes 8 5 ++ [1, 0, 0, 0]) with dia.ch := [(3, {offFlt := true})] }
     (Asked s Link.can0 t 97) ∧ (t.body = leBytes 8 (BitVec.toNat (5 : BitVec 64)) ++ [(1 : Byte), (0 : Byte),
       (0 : Byte), (0 : Byte)]) ∧ (BitVec.toNat (5 : BitVec 64) < 2 ^ s.channels) ∧ (s.flt.safe = false)) ∧
    (let t := rq 97 (leBytes 8 8 ++ [(2 : Byte), (0 : Byte), (0 : Byte), (0 : Byte)])
     let s := { asks liveUp 0x61 (leBytes 8 8 ++ [2, 0, 0, 0]) with dia.ch := [(3, {offFlt := true})] }
     (Asked s Link.can0 t 97) ∧ (t.body = leBytes 8 (BitVec.toNat (8 : BitVec 64)) ++ [(2 : Byte), (0 : Byte),
       (0 : Byte), (0 : Byte)]) ∧ (BitVec.toNat (8 : BitVec 64) < 2 ^ s.channels)) ∧
    (let t := { asks liveUp 0x61 (leBytes 8 8 ++ [1, 0, 0, 0]) with flt.safe := true }
     let s := rq 97 (leBytes 8 8 ++ [(1 : Byte), (0 : Byte), (0 : Byte), (0 : Byte)])
     (Asked t Link.can0 s 97) ∧ (s.body = leBytes 8 (BitVec.toNat (8 : BitVec 64)) ++ [(1 : Byte), (0 : Byte),
       (0 : Byte), (0 : Byte)]) ∧ (t.flt.safe = true)) :=
  ⟨by decide, by decide, by decide, by decide, by decide, by decide⟩

theorem meets_ScrubbingAndCalibration :
    (let s := { live with bgs.scrubPos := [(1, 7), (3, 5)] }
     (Alive s) ∧ (s.mem.bad = []) ∧ (Table.get 0 s.bgs.scrubPos (regionIdx ScrubRegion.data) + 1 < scrubWords
       ScrubRegion.data)) ∧
    (let s := { live with bgs.scrubPos := [(1, 7), (5, 511)] }
     (Alive s) ∧ (s.mem.bad = []) ∧ (scrubWords ScrubRegion.nearStore ≤ Table.get 0 s.bgs.scrubPos (regionIdx
       ScrubRegion.nearStore) + 1)) ∧
    (let s := { live with bgs.scrubPos := [(0, 7)], sys.running := some .a }
     (Alive s) ∧ (s.sys.running.isSome = true)) ∧
    (let s := { live with bgs.scrubPos := [(3, 12)], evs.slots := [(3, {state := .quarantined})] }
     (Alive s) ∧ (Table.get 0 s.bgs.scrubPos 3 = 4 * 3) ∧ ((s.slot 3).state = EvState.quarantined) ∧ (s.mem.bad
       = [])) ∧
    (let s := { live with ruler.phase := .locked }
     (Alive s) ∧ (s.ruler.phase = RulerPhase.locked)) ∧
    (let s := { live with ruler.phase := .holdover }
     (Alive s) ∧ (s.ruler.phase ≠ RulerPhase.locked)) ∧
    (let t := { live with cfg := live.cfg }
     let s := SenseItem.kettle (0 : Fin 4)
     (Alive t) ∧ (itemPresent t s = true) ∧ (itemReady (State.advance ((90000 : Tick) * ticksPerS) t) s = true)) ∧
    (let s := SenseItem.current (3 : Fin 64)
     (Alive live) ∧ (itemPresent live s = true) ∧ (isStale live s = false) ∧ (Table.get (0 : Tick)
       live.bgs.calAt (itemIdx s) + (60 : Tick) * ticksPerS ≤ max live.etc ((90000 : Tick) * ticksPerS))) :=
  ⟨by decide, by decide, by decide, by decide, by decide, by decide, by decide, by decide⟩

theorem meets_RefreshTelemetryAndFlush :
    ((Alive live) ∧ (live.supply.state ≠ SupplyState.holdup) ∧ (refreshDue (State.advance ((90000 : Tick) *
       ticksPerS) live) = true) ∧ (logicalOf live live.bgs.refreshPos = some (1023 - 1023))) ∧
    (let s := { live with bgs.refreshPos := 129 }
     (Alive s) ∧ (s.supply.state ≠ SupplyState.holdup) ∧ (refreshDue (State.advance ((90000 : Tick) * ticksPerS)
       s) = true) ∧ (logicalOf s s.bgs.refreshPos = some 129) ∧ (otherCopy 129 = some 130) ∧ (Table.get false
       s.nv.badBlocks 130 = false)) ∧
    ((Alive live) ∧ (live.bgs.telemSec < max live.etc ((90000 : Tick) * ticksPerS) / ticksPerS)) ∧
    (let s :=
       { live with bgs.tail := [{index := 0, kind := 4, etc := 5, prev := 0, body := zeros 16}], bgs.logNext := 1 }
     (Alive s) ∧ (s.bgs.flushSlot < max s.etc ((90000 : Tick) * ticksPerS) / (10 * ticksPerS)) ∧ (flushing s =
       false) ∧ (s.bgs.lostRun = 0) ∧ (s.bgs.logNext ≠ s.bgs.headAt)) ∧
    (let s := { live with bgs.jobs := [.wearSave] }
     (Alive s) ∧ (s.bgs.flushSlot < max s.etc ((90000 : Tick) * ticksPerS) / (10 * ticksPerS)) ∧ (flushing s =
       true)) :=
  ⟨by decide, by decide, by decide, by decide, by decide⟩

theorem meets_MirrorAndRegisterAccess :
    (let s := { live with cfg.active := live.cfg.active.set 0 0x204 2 }
     (Alive s) ∧ (s.obs.counterMs < max s.etc ((90000 : Tick) * ticksPerS) / ticksPerMs) ∧ (s.mirrorEn % 4 = 2)
       ∧ (s.obs.lane1.sending = none) ∧ (s.obs.lane1.queue = []) ∧ (s.obs.lane1.lossRun = 0)) ∧
    (let s := { live with obs.lane0 := { sending := some ⟨1, [5]⟩, queue := [⟨2, []⟩, ⟨7, [8]⟩] } }
     (Alive s) ∧ (s.obs.lane0.sending = some { type := 1, data := [(5 : Byte)] }) ∧ (nextFrame s.obs.lane0.queue
       = some { type := 7, data := [(8 : Byte)] })) ∧
    ((Alive live) ∧ (BitVec.toNat (40 : BitVec 24) < 65536) ∧ (BitVec.toNat (40 : BitVec 24) % 4 = 0) ∧
       (BitVec.toNat (40 : BitVec 24) ≠ 24576) ∧ (pairAt (State.advance ((90000 : Tick) * ticksPerS) live)
       (BitVec.toNat (40 : BitVec 24)) = some (90000 * ticksPerS))) ∧
    ((Alive live) ∧ (31 < 32)) ∧
    (let s := { live with sys.linksUp := true }
     (Alive s) ∧ (s.sys.linksUp = true) ∧ (BitVec.toNat (4348 : BitVec 24) % 4 = 0) ∧ (BitVec.toNat (4348 :
       BitVec 24) ≠ 256) ∧ (BitVec.toNat (4348 : BitVec 24) < 512 ∨ 1024 ≤ BitVec.toNat (4348 : BitVec 24)) ∧
       (BitVec.toNat (4348 : BitVec 24) < 4352 ∨ 4472 ≤ BitVec.toNat (4348 : BitVec 24))) ∧
    ((Alive live) ∧ ((0x1161 : BitVec 24).toNat % 4 ≠ 0)) ∧
    ((Alive live) ∧ ((0x5030 : BitVec 24).toNat % 4 = 0) ∧ ([7, 8, 9] : List Byte).length < 4) ∧
    ((Alive live) ∧ (spiAddr [2, 0, 0, 1] % 4 ≠ 0)) :=
  ⟨by decide, by decide, by decide, by decide, by decide, by decide, by decide, by decide⟩

/-- R124: a read transaction of three words reads ascending addresses; `LNS_ANGLE` latches by its own row. -/
theorem test_spi_read : spiCommands 5 3 [0x0B, 0, 0x5F, 0xFC] =
    [.snapshotRead 5 .host 0x5FFC, .lnsAngleRead 5 .host, .snapshotRead 5 .host 0x6004] := by decide

/-- R124: an unknown instruction byte is ignored. -/
theorem test_spi_unknown : spiCommands 5 3 [0x03, 0, 0x10, 0] = [] := by decide

/-! The witnesses that need a signature accepted take its acceptance as a hypothesis: the check of a signature is an
opaque constant of the model (DESIGN CHOICE, log 3). -/

theorem meets_OwnershipCommands_claim (h : ∀ k m z, Config.ecdsaVerify k m z = true) :
    let s := { asks liveUp 3 claimBody with supply.claimStrap := true }
    let r := rq 3 claimBody
    Asked s .can0 r 3 ∧ r.sealed = false ∧ s.keys.life = .unclaimed ∧ s.sec.entropyFail = false ∧
      claimFormFault r.body = none ∧ (s.supply.claimStrap = true ∧ s.supply.claimSince + ticksPerS ≤ max s.etc (2000 * ticksPerS)) ∧
      beNat (slice r.body 40 32) = s.sec.challenge.toNat ∧ slice r.body 8 32 = devBind ∧
      verifies (slice r.body 72 64) (slice r.body 0 144) (slice r.body 144 64) = true :=
  ⟨⟨by decide, by decide, rfl, rfl, by decide, by decide⟩, by decide, by decide, by decide, by decide, by decide, by decide, by rfl, h _ _ _⟩

/-- What the owner's commands ask of their wrapper. -/
theorem meets_owned (h : ∀ k m z, Config.ecdsaVerify k m z = true) (op : Nat) (body : List Byte)
    (hb : (op, body) ∈ [(1, [2, 0, 0, 0] ++ certificate), (2, [2, 0, 0, 0]), (3, zeros 72), (4, zeros 4), (5, zeros 4)]) :
    let b := ownerCommand op body
    let s := asks ownedMod 4 b
    Asked s .can0 (rq 4 b) 4 ∧ leAt b 4 2 = op ∧ s.keys.life = .owned ∧ ownerFormFault b = none ∧
      owkVerifies s (slice b 0 (48 + leAt b 6 2)) (slice b (48 + leAt b 6 2) 64) = true ∧ slice b 16 32 = devBind ∧
      s.keys.oseq < leAt b 8 8 := by
  simp only [List.mem_cons, Prod.mk.injEq, List.not_mem_nil, or_false] at hb
  obtain ⟨rfl, rfl⟩ | ⟨rfl, rfl⟩ | ⟨rfl, rfl⟩ | ⟨rfl, rfl⟩ | ⟨rfl, rfl⟩ := hb <;>
    exact ⟨⟨by decide, by decide, rfl, rfl, by decide, by decide⟩, by decide, by decide, by decide,
      by simp [owkVerifies, verifies, h]; rfl, by rfl, by decide⟩

theorem meets_certValid (h : ∀ k m z, Config.ecdsaVerify k m z = true) : certValid ownedMod certificate = true := by
  have h1 : owkVerifies ownedMod (slice certificate 0 128) (slice certificate 128 64) = true := by
    simp [owkVerifies, verifies, h]; rfl
  have h2 : slice certificate 48 8 = ownerId ownedMod := by rfl
  simp only [certValid, h1, h2, beq_self_eq_true, Bool.and_true]
  decide

theorem meets_OwnershipCommands_owned (h : ∀ k m z, Config.ecdsaVerify k m z = true) :
    (let body := [2, 0, 0, 0] ++ certificate
     certFormFault (slice body 4 192) = none ∧ leAt body 0 1 ≤ 15 ∧
       certValid (asks ownedMod 4 (ownerCommand 1 body)) (slice body 4 192) = true) ∧
    (let s := { asks ownedMod 4 (ownerCommand 3 (zeros 72)) with supply.claimStrap := true }
     s.supply.claimStrap = true ∧ s.supply.claimSince + ticksPerS ≤ max s.etc (2000 * ticksPerS)) ∧
    (asks ownedMod 4 (ownerCommand 4 (zeros 4))).whl.sync = .nosync ∧
    { asks ownedMod 4 (ownerCommand 5 (zeros 4)) with whl.sync := .full }.whl.sync ≠ .nosync :=
  ⟨⟨by decide, by decide, meets_certValid h⟩, by decide, by decide, by decide⟩

theorem envelopeBytes_drop (k : Nat) (h : k < 64) :
    envelopeBytes.drop (64 + 32 * k) = channelRecord ++ ((List.replicate (63 - k) channelRecord).flatten ++ zeros 64) := by
  have h1 : envelopeHead.length = 64 := by decide
  have h2 : channelRecord.length = 32 := by decide
  have h3 : ((List.replicate k channelRecord).flatten).length = 32 * k := by simp [h2, Nat.mul_comm]
  have h4 : List.replicate 64 channelRecord =
      List.replicate k channelRecord ++ (channelRecord :: List.replicate (63 - k) channelRecord) := by
    rw [← List.replicate_succ, ← List.replicate_add]; congr 1; omega
  rw [envelopeBytes, h4, List.flatten_append, List.append_assoc, List.append_assoc, ← List.drop_drop, ← h1,
    List.drop_left, ← h3, List.drop_left, List.flatten_cons, List.append_assoc]

theorem envField_envelopeBytes (k o n : Nat) (h : k < 64) (hn : o + n ≤ 32) :
    envField envelopeBytes k o n = leAt channelRecord o n := by
  have h2 : channelRecord.length = 32 := by decide
  simp only [envField, leAt, slice]
  rw [← List.drop_drop, envelopeBytes_drop k h, List.drop_append_of_le_length (by omega),
    List.take_append_of_le_length (by rw [List.length_drop]; omega)]

theorem envRefusal_eq_none {s : State} {e : List Byte} (h1 : envFormFault e = none) (h2 : envSigned s e = true)
    (h3 : bindOk (slice e 16 32) = true) (h4 : envBaseline s < envSeq e) (h5 : envRangeFault s e = none) :
    envRefusal s e = none := by
  simp only [envRefusal, h1, h2, h3, h5, Nat.not_le.mpr h4, Bool.not_true, Bool.false_eq_true, if_false, Option.map_none]

theorem envFormFault_eq_none {e : List Byte} (h1 : e.length = 2176)
    (h4 : leAt e 0 4 = 0x56454C4B ∧ leAt e 4 2 = 1 ∧ leAt e 6 2 = 64) (h5 : firstNonZero e 58 6 = none)
    (h6 : ∀ k, k < 64 → recordFormFault e k = none) : envFormFault e = none := by
  simp only [envFormFault, h1, h4, h5, ne_eq, not_true_eq_false, if_false, Option.orElse_none,
    List.findSome?_eq_none_iff, List.mem_range]
  exact h6

theorem envFormFault_envelopeBytes : envFormFault envelopeBytes = none := by
  have h1 : envelopeBytes.length = 2176 := by
    have h2 : envelopeHead.length = 64 := by decide
    have h3 : channelRecord.length = 32 := by decide
    simp [envelopeBytes, h2, h3, zeros]
  have h4 : leAt envelopeBytes 0 4 = 0x56454C4B ∧ leAt envelopeBytes 4 2 = 1 ∧ leAt envelopeBytes 6 2 = 64 := by decide
  have h5 : firstNonZero envelopeBytes 58 6 = none := by decide
  have h6 : ∀ k, k < 64 → recordFormFault envelopeBytes k = none := by
    intro k hk
    have h7 : envField envelopeBytes k 15 1 = 0 := by rw [envField_envelopeBytes k 15 1 hk (by omega)]; decide
    have h8 : ∀ m, m < 6 → envelopeBytes.getD (64 + 32 * k + 26 + m) 0 = 0 := by
      intro m hm
      have h9 : channelRecord.length = 32 := by decide
      have h10 : envelopeBytes.getD (64 + 32 * k + 26 + m) 0 = channelRecord.getD (26 + m) 0 := by
        rw [List.getD_eq_getElem?_getD, List.getD_eq_getElem?_getD, Nat.add_assoc, ← List.getElem?_drop,
          envelopeBytes_drop k hk, List.getElem?_append_left (by omega)]
      rw [h10]; clear h10; revert m; decide
    simp only [recordFormFault, h7]
    rw [if_neg (by omega)]
    simp only [firstNonZero, Option.map_eq_none_iff, List.find?_eq_none, List.mem_range]
    intro m hm
    rw [h8 m hm]; decide
  exact envFormFault_eq_none h1 h4 h5 h6

theorem envRangeFault_envelopeBytes (s : State) : envRangeFault s envelopeBytes = none := by
  have h1 : envTeeth envelopeBytes = 60 := by decide
  have h2 : leAt channelRecord 0 4 = 0 ∧ leAt channelRecord 4 4 = 0 ∧ leAt channelRecord 8 4 = 1000 ∧
      leAt channelRecord 14 1 = 0 ∧ leAt channelRecord 16 2 = 0 ∧ leAt channelRecord 18 2 = 0 ∧
      leAt channelRecord 20 2 = 0 ∧ leAt channelRecord 22 2 = 200 ∧ leAt channelRecord 24 2 = 9000 := by decide
  simp only [envRangeFault, h1]
  rw [if_neg (by omega), List.findSome?_eq_none_iff]
  intro k hk
  have hf : ∀ o n, o + n ≤ 32 → envField envelopeBytes k o n = leAt channelRecord o n :=
    fun o n => envField_envelopeBytes k o n (List.mem_range.mp hk)
  simp [recordRange, h1, envEarly, envLate, envOnMax, envEvMax, envPeakMax, envBoostMax, envHoldMax, envRpmMin, envRpmMax,
    hf, h2]

theorem envSigned_of {s : State} {e : List Byte} (h1 : slice e 48 8 = ownerId s)
    (h2 : owkVerifies s (slice e 0 2112) (slice e 2112 64) = true) : envSigned s e = true := by
  simp only [envSigned, h1, h2, beq_self_eq_true, Bool.and_true]

theorem envSigned_envelopeBytes (h : ∀ k m z, Config.ecdsaVerify k m z = true) (s : State)
    (hk : s.keys = ownedMod.keys) : envSigned s envelopeBytes = true := by
  have h1 : ownerId s = ownerId ownedMod := by simp only [ownerId, hk]
  have h2 : s.keys.life = .owned := by rw [hk]; rfl
  refine envSigned_of (by rw [h1]; rfl) ?_
  simp [owkVerifies, verifies, h, h2]

theorem envRefusal_envelopeBytes (h : ∀ k m z, Config.ecdsaVerify k m z = true) (s : State)
    (hk : s.keys = ownedMod.keys) (hb : envBaseline s = 0) : envRefusal s envelopeBytes = none :=
  envRefusal_eq_none envFormFault_envelopeBytes (envSigned_envelopeBytes h s hk) (by decide) (by rw [hb]; decide)
    (envRangeFault_envelopeBytes s)

theorem meets_OwnershipCommands_envInstall (h : ∀ k m z, Config.ecdsaVerify k m z = true) :
    let s := asks ownedMod 6 envelopeBytes
    Asked s .can0 (rq 6 envelopeBytes) 6 ∧ s.sec.envWrite = none ∧ s.keys.life = .owned ∧
      envRefusal s envelopeBytes = none :=
  ⟨⟨by decide, by decide, rfl, rfl, by decide, by decide⟩, by decide, by decide, envRefusal_envelopeBytes h _ rfl rfl⟩

theorem meets_CaddyWritesComplete_envelope (h : ∀ k m z, Config.ecdsaVerify k m z = true) :
    (let s := { ownedMod with sec.envBad := true, nv.env1 := envelopeBytes }
     Alive s ∧ s.sec.envBad = true ∧ storedEnvelope s = some envelopeBytes) ∧
    ∀ y : Sync,
      let s := { asks ownedMod 6 envelopeBytes with sec.envWrite := some (.can0, envelopeBytes), whl.sync := y }
      Alive s ∧ s.sec.envWrite = some (.can0, envelopeBytes) ∧ (s.link .can0).req = some (rq 6 envelopeBytes) ∧
        s.sys.linksUp = true ∧ s.keys.life = .owned ∧ envRefusal s envelopeBytes = none ∧ (rq 6 []).sealed = false := by
  refine ⟨⟨by decide, by decide, ?_⟩, fun y => ⟨by cases y <;> decide, rfl, rfl, rfl, rfl, envRefusal_envelopeBytes h _ rfl rfl, by decide⟩⟩
  have h1 : envVerifies { ownedMod with sec.envBad := true, nv.env1 := envelopeBytes } envelopeBytes = true := by
    have h2 : bindOk (slice envelopeBytes 16 32) = true := by decide
    simp only [envVerifies, envFormFault_envelopeBytes, envRangeFault_envelopeBytes, h2,
      envSigned_envelopeBytes h { ownedMod with sec.envBad := true, nv.env1 := envelopeBytes } rfl, Option.isNone_none, Bool.and_true]
  have h3 : (envSeq [] < envSeq envelopeBytes) = True := by simp only [eq_iff_iff, iff_true]; decide
  show (let a := if envSeq [] < envSeq envelopeBytes then (envelopeBytes, ([] : List Byte)) else ([], envelopeBytes)
    if envVerifies { ownedMod with sec.envBad := true, nv.env1 := envelopeBytes } a.1 then some a.1
    else if envVerifies { ownedMod with sec.envBad := true, nv.env1 := envelopeBytes } a.2 then some a.2 else none) = some envelopeBytes
  simp only [h3, if_true, h1]

theorem meets_SessionsOpenAndClose_signed (h : ∀ k m z, Config.ecdsaVerify k m z = true) :
    (let b := [2, 0, 0, 0] ++ zeros 80
     let s := { asks ownedMod 0x10 b with nv.keys.slots := [(2, some certificate)] }
     Asked s .can0 (rq 0x10 b) 0x10 ∧ s.keys.life = .owned ∧ s.sec.entropyFail = false ∧ openFormFault b = none ∧
       leAt b 0 1 ≤ 15 ∧ s.keys.slots.get none (leAt b 0 1) = some certificate ∧ certValid s certificate = true) ∧
    (let b := leBytes 4 9 ++ zeros 64
     let o : Opening := ⟨2, 9, [], [1], [2], 5⟩
     let s := { asks ownedMod 0x12 b with nv.keys.slots := [(2, some certificate)], links.can0.session := .opening o }
     Asked s .can0 (rq 0x12 b) 0x12 ∧ (s.link .can0).session = .opening o ∧ s.keys.slots.get none o.slot = some certificate ∧
       b.length = 68 ∧ leAt b 0 4 = o.sid.toNat ∧ certValid s certificate = true ∧
       verifies (certPub certificate) (openSigned o) (slice b 4 64) = true) :=
  ⟨⟨⟨by decide, by decide, rfl, rfl, by decide, by decide⟩, by decide, by decide, by decide, by decide, rfl, meets_certValid h⟩,
    ⟨⟨by decide, by decide, rfl, rfl, by decide, by decide⟩, rfl, rfl, by decide, by decide, meets_certValid h, h _ _ _⟩⟩

theorem meets_TargetsAndConfigurationCommands_commit :
    (let c := live.cfg.active
     let b := sha (blockAll c)
     let s := { asks liveUp 0x41 b with cfg.staging := some (.can0, c) }
     Asked s .can0 (rq 0x41 b) 0x41 ∧ s.cfg.staging = some (.can0, c) ∧ sha (blockAll c) = b ∧ b.length = 32 ∧
       conflictsOf s c = []) ∧
    (let c := live.cfg.active
     let b := (sha (blockAll c)).map (fun v => ~~~v)
     let s := { asks liveUp 0x41 b with cfg.staging := some (.can0, c) }
     Asked s .can0 (rq 0x41 b) 0x41 ∧ s.cfg.staging = some (.can0, c) ∧ sha (blockAll c) ≠ b ∧ b.length = 32) := by
  have h32 : ∀ m, (sha m).length = 32 := fun m => by simp [sha, beBytes, leBytes]
  refine ⟨⟨⟨by decide, by decide, rfl, rfl, by decide, by decide⟩, rfl, rfl, h32 _, by decide⟩,
    ⟨⟨by decide, by decide, rfl, rfl, by decide, by decide⟩, rfl, fun hc => ?_, by rw [List.length_map, h32]⟩⟩
  have hl := h32 (blockAll live.cfg.active)
  generalize sha (blockAll live.cfg.active) = l at hc hl
  cases l with
  | nil => exact absurd hl (by decide)
  | cons v t => injection hc with hc _; clear hl; revert hc; revert v; decide

theorem imageRefusal_eq_none {s : State} {x : Slot} {b : List Byte} (h1 : imgFormFault b = none)
    (h2 : s.sys.running ≠ some x) (h3 : imgOwned s b = true) (h4 : imgSignerOk s b = true) (h5 : imgSigOk s b = true)
    (h6 : imgHashOk s b = true) (h7 : s.keys.floor ≤ imgSeq b) (h8 : leAt b 76 2 ≤ Config.romVersion)
    (h9 : imgLensOk s b = true) : imageRefusal s x b = none := by
  simp only [imageRefusal, h1, h2, h3, h4, h5, h6, h9, Nat.not_lt.mpr h7, Nat.not_lt.mpr h8, Bool.not_true, Bool.or_self,
    Bool.false_eq_true, if_false]

theorem meets_ImageAndResetCommands_end (h : ∀ k m z, Config.ecdsaVerify k m z = true) :
    let s := { asks ownedMod 0x52 [] with
      nv.imgB.bytes := imageBytes, sec.transfer := some { slot := .b, total := 200, next := 200, link := .can0 } }
    Asked s .can0 (rq 0x52 []) 0x52 ∧ imageRefusal s .b (imageOf s .b).bytes = none := by
  refine ⟨⟨by decide, by decide, rfl, rfl, by decide, by decide⟩, ?_⟩
  show imageRefusal _ .b imageBytes = none
  generalize hs : { asks ownedMod 0x52 [] with
      nv.imgB.bytes := imageBytes, sec.transfer := some { slot := .b, total := 200, next := 200, link := .can0 } } = s
  have hk : s.keys = ownedMod.keys := by rw [← hs]; rfl
  have hi : ownerId s = ownerId ownedMod := by simp only [ownerId, hk]
  have hl : s.keys.life = .owned := by rw [hk]; rfl
  have ho : owkPub s = owkPub ownedMod := by simp only [owkPub, hk]
  have h3 : slice imageBytes 48 8 = ownerId s := by rw [hi]; rfl
  have h4 : slice imageBytes 56 8 = keyId (owkPub s) := by rw [ho]; rfl
  have hn : imgBodyLen s imageBytes = 8 := by
    simp only [imgBodyLen, imgByOwner, h4, beq_self_eq_true, if_true]; decide
  have h6 : slice imageBytes 80 32 = sha (slice imageBytes 128 8) := by rfl
  have hb : bindOk (slice imageBytes 16 32) = true := by decide
  have hz : imgCode imageBytes = 8 ∧ imgData imageBytes = 0 ∧ imgTable imageBytes = 0 := by decide
  exact imageRefusal_eq_none (by decide) (by rw [← hs]; decide)
    (by simp only [imgOwned, hl, h3, hb, beq_self_eq_true, Bool.and_self])
    (by simp only [imgSignerOk, imgByOwner, h4, beq_self_eq_true, Bool.true_or])
    (by simp only [imgSigOk, verifies, h]) (by simp only [imgHashOk, hn, h6, beq_self_eq_true]) (by rw [hk]; decide) (by decide)
    (by simp only [imgLensOk, hn, hz]; decide)

end Sys2Proof
end

section
/-! What a write by the host reaches (00_scope.md R16): one frame, which every piece of a host write keeps, and the
count a write to any other register leaves. -/

namespace Sys2Proof.Machine

/-! ## The host's reach -/

/-- Nothing but the links and the interrupt controller has changed, and of the interrupt controller neither a level nor
the management core's enables, threshold or active sources. -/
structure HostReach (s u : State) : Prop where
  frame : u = { s with irc := u.irc, links := u.links }
  levels : u.irc.levels = s.irc.levels
  mgmtEn : u.irc.mgmt.en = s.irc.mgmt.en
  mgmtThr : u.irc.mgmt.thr = s.irc.mgmt.thr
  mgmtAct : u.irc.mgmt.act = s.irc.mgmt.act

theorem HostReach.refl (s : State) : HostReach s s := ⟨rfl, rfl, rfl, rfl, rfl⟩

theorem HostReach.trans {s t u : State} (h : HostReach s t) (k : HostReach t u) : HostReach s u where
  frame := by rw [k.frame, h.frame]
  levels := k.levels.trans h.levels
  mgmtEn := k.mgmtEn.trans h.mgmtEn
  mgmtThr := k.mgmtThr.trans h.mgmtThr
  mgmtAct := k.mgmtAct.trans h.mgmtAct

theorem HostReach.mode_run {s u : State} (h : HostReach s u) (hs : s.sys.mode = .run) : u.sys.mode = .run := by
  rw [h.frame]; exact hs

theorem hostReach_links (s : State) (x : Links) : HostReach s { s with links := x } := ⟨rfl, rfl, rfl, rfl, rfl⟩

theorem hostReach_setLink (s : State) (l : Link) (x : LinkSt) : HostReach s (s.setLink l x) := by
  cases l <;> exact hostReach_links ..

theorem hostReach_setTarget_host (s : State) (x : IrcTarget) : HostReach s (s.setTarget .host x) :=
  ⟨rfl, rfl, rfl, rfl, rfl⟩

theorem hostReach_settle (s : State) : HostReach s (settle s) := ⟨rfl, rfl, rfl, rfl, rfl⟩

/-! ## Raises in RUN -/

/-- A raise at a target sets a pending bit or counts a coalesced raise, nothing else (R402). -/
theorem IrcTarget.raise_keeps (n : Nat) (g : IrcTarget) :
    (g.raise n).en = g.en ∧ (g.raise n).thr = g.thr ∧ (g.raise n).act = g.act := by
  unfold IrcTarget.raise
  split <;> exact ⟨rfl, rfl, rfl⟩

theorem hostReach_raise (n : Nat) {s : State} (h : s.sys.mode = .run) : HostReach s (raise n s) := by
  rw [raise_run n s h]
  split
  · exact .refl s
  · obtain ⟨en, thr, act⟩ := IrcTarget.raise_keeps n s.irc.mgmt
    exact ⟨rfl, rfl, en, thr, act⟩

/-! ## The mailbox and its buffer (R125, R126) -/

theorem hostReach_placeFrame {s : State} (h : s.sys.mode = .run) : HostReach s (placeFrame s) := by
  unfold placeFrame
  dsimp only
  split
  · exact (hostReach_links s _).trans (hostReach_raise 8 h)
  · exact .refl s

theorem hostReach_sendMsg (l : Link) (g : Byte) (m : List Byte) {s : State} (h : s.sys.mode = .run) :
    HostReach s (sendMsg l g m s) := by
  have hq (x : LinkSt) := hostReach_setLink s l x
  cases l with
  | spi => exact (hq _).trans (hostReach_placeFrame h)
  | can0 | can1 => exact hq _

theorem hostReach_linkError (l : Link) (reason : Nat) (g : Byte) {s : State} (h : s.sys.mode = .run) :
    HostReach s (linkError l reason g s) :=
  have hl := hostReach_setLink s l { s.link l with asm := none, frameErr := satInc 255 (s.link l).frameErr }
  hl.trans (hostReach_sendMsg _ _ _ (hl.mode_run h))

theorem hostReach_hostRefused (s : State) : HostReach s (hostRefused s) := hostReach_links ..

theorem hostReach_doMbxSend (n : Nat) {s : State} (h : s.sys.mode = .run) : HostReach s (doMbxSend n s) := by
  unfold doMbxSend
  split
  · exact .refl s
  split
  · exact hostReach_links ..
  split
  · exact hostReach_linkError _ _ _ h
  · exact hostReach_links ..

theorem hostReach_doMbxRxDone {s : State} (h : s.sys.mode = .run) : HostReach s (doMbxRxDone s) := by
  unfold doMbxRxDone
  split
  · exact (hostReach_links s _).trans (hostReach_placeFrame h)
  · exact .refl s

theorem hostReach_doMbxAbort (s : State) : HostReach s (doMbxAbort s) := by
  unfold doMbxAbort
  split
  · exact hostReach_setLink ..
  · exact .refl s

/-- A part of a write that its bit asks for keeps the reach of what came before it. -/
theorem HostReach.ite {s u : State} {f : State → State} (b : Bool) (h : HostReach s u) (hf : HostReach u (f u)) :
    HostReach s (if b then f u else u) := by
  cases b
  · exact h
  · exact h.trans hf

theorem hostReach_writeMbxCtl (v : Nat) {s : State} (h : s.sys.mode = .run) : HostReach s (writeMbxCtl v s) := by
  have ha := HostReach.ite (bitAt v 18) (.refl s) (hostReach_doMbxAbort s)
  have hr := HostReach.ite (bitAt v 17) ha (hostReach_doMbxRxDone (ha.mode_run h))
  exact HostReach.ite (bitAt v 16) hr (hostReach_doMbxSend (bits v 0 10) (hr.mode_run h))

theorem hostReach_writeTxBuf (a : Nat) (v : Word) (s : State) : HostReach s (writeTxBuf a v s) := by
  unfold writeTxBuf
  split
  · exact hostReach_hostRefused s
  · exact hostReach_links ..

/-! ## The host's interrupt registers (R407, R423) -/

theorem hostReach_writeMod (v : Nat) (s : State) : HostReach s (writeMod v s) := ⟨rfl, rfl, rfl, rfl, rfl⟩

theorem hostReach_writeCc_host (v : Nat) (s : State) : HostReach s (writeCc .host v s) := by
  unfold writeCc
  split <;> exact hostReach_setTarget_host ..

theorem hostReach_writeTarget_host (o : Nat) (v : Word) (s : State) :
    HostReach s ((writeTarget .host o v s).getD (hostRefused s)) := by
  unfold writeTarget
  dsimp only
  split
  · exact hostReach_setTarget_host ..
  split
  · exact hostReach_setTarget_host ..
  · exact hostReach_writeCc_host ..
  · exact hostReach_hostRefused s

/-- A target has no other registers a write changes than its enables, its threshold and claim-complete. -/
theorem writeTarget_other (g : IrqTarget) {o : Nat} (v : Word) (s : State) (hen : 0x20 ≤ o) (hthr : o ≠ 0x60)
    (hcc : o ≠ 0x6C) : writeTarget g o v s = none := by
  unfold writeTarget
  dsimp only
  rw [if_neg (Nat.not_lt.mpr hen)]
  split
  · exact absurd rfl hthr
  · exact absurd rfl hcc
  · rfl

/-! ## A host write (R16) -/

theorem hostReach_hostWrite (a : Nat) (v : Word) {s : State} (h : s.sys.mode = .run) : HostReach s (hostWrite a v s) := by
  unfold hostWrite
  split
  · exact .refl s
  split
  · exact hostReach_writeMbxCtl _ h
  split
  · exact hostReach_writeTxBuf ..
  split
  · exact hostReach_writeMod ..
  split
  · exact hostReach_writeTarget_host ..
  · exact hostReach_hostRefused s

/-- A register that is none of the host's own: not the mailbox or its buffer, not the enables, the threshold, the
moderation or claim-complete. -/
structure NotHosts (a : Nat) : Prop where
  mbx : a ≠ 0x100
  buf : a < 0x200 ∨ 0x400 ≤ a
  en : a < 0x1100 ∨ 0x1120 ≤ a
  thr : a ≠ 0x1160
  mod : a ≠ 0x1164
  cc : a ≠ 0x116C

theorem hostWrite_notHosts {a : Nat} (h : NotHosts a) (v : Word) {s : State} (hl : linksOn s = true) :
    hostWrite a v s = hostRefused s := by
  obtain ⟨mbx, buf, en, thr, mod, cc⟩ := h
  unfold hostWrite
  rw [hl, if_neg (by decide), if_neg mbx, if_neg (by omega), if_neg mod]
  split
  · rw [writeTarget_other .host v s (by omega) (by omega) (by omega)]
    rfl
  · rfl

theorem linksOn_run {s : State} (hm : s.sys.mode = .run) (hd : s.supply.state ≠ .down) (hl : s.sys.linksUp = true) :
    linksOn s = true := by
  simp [linksOn, hm, hd, hl]

/-- A host write of an aligned word in RUN: the write at its instant, then HOST_INT_N. -/
theorem exec_registerWrite_host {s : State} (t : Tick) {a : BitVec 24} (v : Word) (h : Alive s) (ha : a.toNat % 4 = 0) :
    exec (.registerWrite t .host a v) s = .next (settle (hostWrite a.toNat v (s.advance t))) := by
  have he : effect (.registerWrite t .host a v) = hostWrite a.toNat v := by
    funext u
    show doRegisterWrite .host a.toNat v u = _
    unfold doRegisterWrite
    rw [if_neg (by simp [ha])]
  have hm : (s.advance t).sys.mode = .run := h.1
  rw [exec_run _ s h rfl (by rw [he]; exact (hostReach_hostWrite _ v hm).mode_run hm), he]
  rfl

/-- Settles O17: every piece of a host write stays within the host's reach, and a write to a register that is none of
the host's own is counted, with HOST_INT_N following as after every command. -/
theorem hostWritesReachTheirOwn : Obligations.HostWritesReachTheirOwn := by
  unfold Obligations.HostWritesReachTheirOwn
  intro s t a v hs hl ha
  refine ⟨_, exec_registerWrite_host t v hs ha, ?_⟩
  obtain ⟨hm, hd, -⟩ := hs
  have hx : (s.advance t).sys.mode = .run := hm
  have reach := (hostReach_hostWrite a.toNat v hx).trans (hostReach_settle _)
  have counted (h : NotHosts a.toNat) := hostWrite_notHosts h v (linksOn_run hx hd hl)
  rw [advance_run t s hm] at reach counted ⊢
  obtain ⟨frame, levels, en, thr, act⟩ := reach
  refine ⟨levels, en, thr, act, frame, fun mbx buf notEn notThr mod cc => ?_⟩
  rw [counted ⟨mbx, buf, notEn, notThr, mod, cc⟩]
  rfl

end Sys2Proof.Machine
end

section
/-! An edge accepted on an auxiliary input (05_wheel_inputs_synchronisation.md R185): the input's own registers, one
raise, and the snapshot pair its stamp reads as. -/

namespace Sys2Proof.Machine

/-! ## A raise at a target (R402) -/

/-- After a raise the source is pending, whether it was before or not. -/
theorem IrcTarget.raise_pend (n : Nat) (g : IrcTarget) : (g.raise n).pend = g.pend ||| BitVec.twoPow 256 n := by
  unfold IrcTarget.raise
  split
  next h =>
    apply BitVec.eq_of_getLsbD_eq
    intro i hi
    by_cases e : i = n
    · subst e; simp [h]
    · simp [BitVec.getLsbD_twoPow, Ne.symm e]
  · rfl

theorem IrcTarget.raise_frame (n : Nat) (g : IrcTarget) :
    g.raise n = { g with pend := (g.raise n).pend, coalesced := (g.raise n).coalesced } := by
  unfold IrcTarget.raise
  split <;> rfl

/-- A raise at the interrupt controller: pending bits and coalesced counts of both targets, and the count of a hold
(R402, R410). -/
theorem ircRaise_frame (n : Nat) (c : Irc) :
    ircRaise n c = { c with
      host := { c.host with pend := (ircRaise n c).host.pend, coalesced := (ircRaise n c).host.coalesced }
      mgmt := { c.mgmt with pend := (ircRaise n c).mgmt.pend, coalesced := (ircRaise n c).mgmt.coalesced }
      hold := (ircRaise n c).hold } := by
  unfold ircRaise
  dsimp only
  rw [← IrcTarget.raise_frame, ← IrcTarget.raise_frame]

/-- The sources of the wheel inputs are those of no absent resource (R5), so a raise in RUN always takes place. -/
theorem raise_wheelSource {n : Nat} (hn : n < 8) {s : State} (h : s.sys.mode = .run) :
    raise (24 + n) s = { s with irc := ircRaise (24 + n) s.irc } := by
  have present : absentSource (24 + n) = false := by
    unfold absentSource
    simp only [Bool.or_eq_false_iff, decide_eq_false_iff_not, beq_eq_false_iff_ne]
    omega
  rw [raise_run _ s h, present, Bool.and_false]
  rfl

/-! ## The edge on an auxiliary input -/

/-- The crank source is an input of role 1 or 2 (R155, R183). -/
theorem role_of_crankInput {s : State} {n : Nat} (h : crankInput s = some n) : s.role n = 1 ∨ s.role n = 2 := by
  have hr := List.find?_some h
  rw [beq_iff_eq] at hr
  cases hp : s.whl.promoted <;> simp [hp] at hr <;> omega

/-- Direction decoding is for crank and secondary inputs only (R158, R165). -/
theorem decodesHere_auxiliary {s : State} {n : Nat} (h : s.role n = 5) : decodesHere s n = false := by
  simp [decodesHere, h]

/-- An auxiliary input after its accepted timing crossing `c`, `rest` still held by its Strainer (R185, R188, R192). -/
def auxiliaryEdge (s : State) (n : Nat) (c : Crossing) (rest : List Crossing) : WheelIn :=
  { s.wheel n with
    held := rest, level := c.rising, stamp := c.stamp, edges := wrapInc 32 (s.wheel n).edges
    peak := if isVr s n then sat 65535 (c.peakMv / 10) else (s.wheel n).peak, adaptPeak := c.peakMv
    lead := none, lostEdge := s.whl.sync == .lost, lastClass := .auxiliary }

theorem timingAccepted_auxiliary {s : State} {n : Nat} (c : Crossing) (h : s.role n = 5) :
    timingAccepted n c s = raise (24 + n) (s.setWheel n (auxiliaryEdge s n c (s.wheel n).held)) := by
  have role (w : WheelIn) : (s.setWheel n w).role n = 5 := h
  have notCrank (w : WheelIn) : crankInput (s.setWheel n w) ≠ some n := fun e => by
    have crank := role_of_crankInput e
    rw [role w] at crank
    omega
  unfold timingAccepted
  simp only [decodesHere_auxiliary h, notCrank, role, if_false, setClass, Bool.false_eq_true]
  rw [State.setWheel_setWheel, State.wheel_setWheel]
  rfl

/-- A crossing that has stayed for FILT_NS on an auxiliary input in RUN, its direction the timing one, is taken from
the Strainer and accepted (R156, R158). -/
theorem doStrainerAccept_auxiliary {s : State} {n : Nat} {c : Crossing} {rest : List Crossing} (hm : s.sys.mode = .run)
    (hd : s.supply.state ≠ .down) (hr : s.role n = 5) (hh : (s.wheel n).held = c :: rest)
    (hs : c.stamp + filtTicks s n ≤ s.etc) (ht : isTiming s n c.rising = true) :
    doStrainerAccept n s = raise (24 + n) (s.setWheel n (auxiliaryEdge s n c rest)) := by
  have on : wheelOn s = true := by simp [wheelOn, hm, hd]
  have awake : inputAwake s n = true := by simp [inputAwake, hm, hr]
  have timing (w : WheelIn) : isTiming (s.setWheel n w) n c.rising = true := ht
  have role (w : WheelIn) : (s.setWheel n w).role n = 5 := hr
  unfold doStrainerAccept
  simp only [hh, hs, on, awake, timing, decide_true, Bool.and_self, if_true]
  rw [timingAccepted_auxiliary c (role _), State.setWheel_setWheel]
  simp only [auxiliaryEdge, State.wheel_setWheel]
  rfl

/-- The state the edge leaves, HOST_INT_N apart: the input's registers and the raise of its source. -/
def afterAuxiliaryEdge (s : State) (t : Tick) (n : Nat) (c : Crossing) (rest : List Crossing) : State :=
  { s with
    now := max s.now t, etc := max s.etc t
    whl := { s.whl with inp := s.whl.inp.set {} n (auxiliaryEdge s n c rest) }
    irc := ircRaise (24 + n) s.irc }

theorem exec_strainerAccept_auxiliary {s : State} {n : Fin 8} {c : Crossing} {rest : List Crossing} (t : Tick)
    (h : Alive s) (hr : s.role n = 5) (hh : (s.wheel n).held = c :: rest)
    (hs : c.stamp + s.filtNs n * ticksPerNs ≤ max s.etc t) (ht : isTiming s n c.rising = true) :
    exec (.strainerAccept t n) s = .next (settle (afterAuxiliaryEdge s t n c rest)) := by
  have hm : (s.advance t).sys.mode = .run := h.1
  have stayed : c.stamp + filtTicks (s.advance t) n ≤ (s.advance t).etc := by
    rw [advance_run t s h.1]
    exact hs
  have he : effect (.strainerAccept t n) (s.advance t) = afterAuxiliaryEdge s t n c rest :=
    calc effect (.strainerAccept t n) (s.advance t)
      _ = raise (24 + n.val) ((s.advance t).setWheel n (auxiliaryEdge (s.advance t) n c rest)) :=
          doStrainerAccept_auxiliary hm h.2.1 hr hh stayed ht
      _ = afterAuxiliaryEdge s t n c rest := by
          rw [raise_wheelSource n.isLt (by exact hm), advance_run t s h.1]
          rfl
  have run : (afterAuxiliaryEdge s t n c rest).sys.mode = .run := h.1
  rw [exec_run _ s h rfl (by rw [instant, he]; exact run), instant, he]

/-- Outside the input's registers and its source nothing has changed but time and HOST_INT_N with its hold. -/
theorem settle_afterAuxiliaryEdge (s : State) (t : Tick) (n : Nat) (c : Crossing) (rest : List Crossing) :
    let u := settle (afterAuxiliaryEdge s t n c rest)
    u = { s with
      now := max s.now t, etc := max s.etc t, whl := { s.whl with inp := u.whl.inp }
      irc := { s.irc with
        host := { s.irc.host with pend := u.irc.host.pend, coalesced := u.irc.host.coalesced }
        mgmt := { s.irc.mgmt with pend := u.irc.mgmt.pend, coalesced := u.irc.mgmt.coalesced }
        line := u.irc.line, hold := u.irc.hold, quiet := u.irc.quiet } } := by
  intro u
  have irc : u.irc = { ircRaise (24 + n) s.irc with line := u.irc.line, hold := u.irc.hold, quiet := u.irc.quiet } := rfl
  rw [ircRaise_frame] at irc
  calc u
    _ = { afterAuxiliaryEdge s t n c rest with irc := u.irc } := settle_frame _
    _ = _ := by
      rw [irc]
      rfl

/-! ## The stamp's snapshot pair (R9, R185) -/

theorem pairAt_wheelStamp {n : Nat} (hn : n < 8) (s : State) : pairAt s (0x5040 + 32 * n) = some (s.wheel n).stamp := by
  interval_cases n <;> rfl

theorem pairAt_wheelStamp_high {n : Nat} (hn : n < 8) (s : State) : pairAt s (0x5040 + 32 * n + 4) = none := by
  interval_cases n <;> rfl

/-- The low word of a snapshot pair reads from the counter itself. -/
theorem regWord_low {s : State} {a v : Nat} (r : Requester) (ha : a ≠ 0x6000 ∧ a ≠ 0x6008 ∧ a ≠ 0x600C)
    (h : pairAt s a = some v) : regWord r a s = BitVec.ofNat 32 v := by
  obtain ⟨h0, h8, hc⟩ := ha
  unfold regWord
  rw [if_neg h0, if_neg h8, if_neg hc, h]

/-- A read by snapshot leaves every counter as it was. -/
theorem pairAt_regLatch (r : Requester) (a b : Nat) (s : State) : pairAt (regLatch r a s) b = pairAt s b := by
  unfold regLatch
  split
  · rfl
  split <;> rfl

/-- The high word of a snapshot pair reads what the requester's read of the low word latched. -/
theorem regWord_high {s : State} {a v : Nat} (r : Requester) (h0 : a ≠ 0x6000)
    (ha : a + 4 ≠ 0x6000 ∧ a + 4 ≠ 0x6008 ∧ a + 4 ≠ 0x600C) (low : pairAt s a = some v)
    (high : pairAt s (a + 4) = none) : regWord r (a + 4) (regLatch r a s) = BitVec.ofNat 32 (v / 2 ^ 32) := by
  obtain ⟨h1, h8, hc⟩ := ha
  unfold regWord
  rw [if_neg h1, if_neg h8, if_neg hc, if_pos (Nat.le_add_left ..), Nat.add_sub_cancel, pairAt_regLatch,
    pairAt_regLatch, low, high]
  unfold regLatch
  rw [if_neg h0, low]
  exact Table.get_set_same ..

/-- `WHL_INn_STAMP_LO` and `WHL_INn_STAMP_HI_SNAP` read the stamp of the input (R185). -/
theorem regWord_wheelStamp {n : Nat} (hn : n < 8) (r : Requester) (s : State) :
    regWord r (0x5040 + 32 * n) s = BitVec.ofNat 32 (s.wheel n).stamp ∧
      regWord r (0x5040 + 32 * n + 4) (regLatch r (0x5040 + 32 * n) s) =
        BitVec.ofNat 32 ((s.wheel n).stamp / 2 ^ 32) :=
  ⟨regWord_low r (by omega) (pairAt_wheelStamp hn s),
    regWord_high r (by omega) (by omega) (pairAt_wheelStamp hn s) (pairAt_wheelStamp_high hn s)⟩

/-! ## R185 -/

/-- Settles O12: the edge's state is computed once, and the pair, the raise and the frame are read off it; the raise
takes place on both order codes. -/
theorem auxiliaryEdgesOnlyStamp : Obligations.AuxiliaryEdgesOnlyStamp := by
  unfold Obligations.AuxiliaryEdgesOnlyStamp
  intro s t n c rest hs hr hh hf ht _
  have host := IrcTarget.raise_pend (24 + n.val) s.irc.host
  have mgmt := IrcTarget.raise_pend (24 + n.val) s.irc.mgmt
  refine ⟨_, exec_strainerAccept_auxiliary t hs hr hh hf ht, fun r => ?pair, host, mgmt, fun m hm => ?inputs, ?frame⟩
  case pair =>
    have stamp : ((settle (afterAuxiliaryEdge s t n c rest)).wheel n).stamp = c.stamp :=
      congrArg WheelIn.stamp (Table.get_set_same ..)
    rw [← stamp]
    exact regWord_wheelStamp n.isLt r _
  case inputs => exact Table.get_set_other _ _ _ hm
  case frame => exact settle_afterAuxiliaryEdge s t n c rest

end Sys2Proof.Machine
end

section
/-! The end of a fault handler (09_tasks_memory_dma_faults.md R298, R304; 08_angle_code_isa.md R284): JR and END as
updates of their context, and the activation a trigger that waits for END starts. -/

namespace Sys2Proof.Machine

/-! ## Registers of a context (R257) -/

/-- A register read after a write: the register written reads the value, every other as before. -/
theorem Ctx.reg_setReg (c : Ctx) {d : Nat} (hd : d ≠ 0) (v : Word) (r : Nat) :
    (c.setReg d v).reg r = if r = d then v else c.reg r := by
  unfold Ctx.setReg Ctx.reg
  rw [if_neg hd]
  by_cases h : r = d
  · subst h
    simp only [hd, if_true, if_false, Table.get_set_same]
  · simp only [h, if_false, Table.get_set_other _ _ _ h]

/-- The end of the handler brings g13 to g15 back and leaves every other register as the handler left it (R304). -/
theorem leaveHandler_reg (t : Task) (c : Ctx) (r : Nat) : (leaveHandler t c).reg r =
    if r = 13 then c.saveG13 else if r = 14 then c.saveG14 else if r = 15 then c.saveG15 else c.reg r := by
  have saved : (leaveHandler t c).reg r =
      (((c.setReg 13 c.saveG13).setReg 14 c.saveG14).setReg 15 c.saveG15).reg r := rfl
  rw [saved, Ctx.reg_setReg _ (by decide), Ctx.reg_setReg _ (by decide), Ctx.reg_setReg _ (by decide)]
  by_cases h13 : r = 13
  · subst h13; rfl
  by_cases h14 : r = 14
  · subst h14; rfl
  · simp only [if_neg h13, if_neg h14]

/-! ## JR and END while the handler runs (R284, R304) -/

theorem effJr_handler {s : State} {i : Nat} (x : AInstr) (h : (s.ctx i).fh = true) : effJr i x s =
    .next (s.setCtx i { leaveHandler (s.taskOf i) (s.ctx i) with pc := ((s.ctx i).reg x.a).setWidth 16 }) := by
  unfold effJr
  simp only [h, if_true, setPc_eq, State.ctx_setCtx, State.setCtx_setCtx]

/-- Context `c` of task `t` after an END in its handler: back from the handler, and idle. -/
def endedHandler (t : Task) (c : Ctx) : Ctx := { leaveHandler t c with pc := c.pc + 1, state := .idle }

theorem effEnd_handler {s : State} {i : Nat} (x : AInstr) (h : (s.ctx i).fh = true) : effEnd i x s =
    let u := s.setCtx i (endedHandler (s.taskOf i) (s.ctx i))
    .next (if (s.ctx i).pending then startActivation (s.ctx i).pendTrig i (s.taskOf i) u else u) := by
  unfold effEnd nextPc
  simp only [setPc_eq, State.ctx_setCtx, State.setCtx_setCtx, h, if_true]
  rfl

/-! ## A context becomes ready (R298, R299) -/

/-- Context `c` of task `t` started at ENTRY by trigger `trig`, ready at `x` in place `order`. -/
def Ctx.started (t : Task) (trig order : Nat) (x : Tick) (c : Ctx) : Ctx :=
  { c with
    pc := t.entry, acts := wrapInc 16 c.acts, lastTrig := trig, prioNow := t.prio, used := 0, secondBudget := false
    pending := false, state := .ready, order := order, readyAt := x, wait := .none }

theorem startActivation_setCtx (trig i : Nat) (t : Task) (c : Ctx) (s : State) :
    startActivation trig i t (s.setCtx i c) =
      { s.setCtx i (c.started t trig s.seq.orderNext s.etc) with seq.orderNext := s.seq.orderNext + 1 } := by
  unfold startActivation makeReady
  simp only [State.ctx_setCtx, State.setCtx_setCtx]
  rfl

/-- The next place among the ready contexts is nothing HOST_INT_N follows. -/
theorem settle_orderNext (s : State) (n : Nat) :
    settle { s with seq.orderNext := n } = { settle s with seq.orderNext := n } := rfl

/-- The next place among the ready contexts is nothing an instruction's frame speaks of. -/
theorem Leaves.orderNext {s u : State} {t : Tick} {i : Nat} {c : Ctx} (h : Leaves s t i c u) (n : Nat) :
    Leaves s t i c { u with seq.orderNext := n } := by
  obtain ⟨own, others, sqs, tasks, time, frame⟩ := h
  have placed := congrArg (fun w : State => { w with seq.orderNext := n }) frame
  exact ⟨own, others, sqs, tasks, time, placed⟩

/-! ## The rows -/

/-- A row of angle code whose operation ends without a fault yields what holds once HOST_INT_N has followed. -/
theorem yields_next (k : Instr) {s u : State} {t : Tick} {j : Issue} {i : Nat} {x : AInstr} {op : AOp}
    {run : Nat → AInstr → State → Done} {p : State → Prop} (h : Issues s j i x)
    (he : effect k (s.advance (instant k)) = issueOp op j run (s.advance t)) (hl : leaves_mode k = false)
    (ho : x.op = op) (hr : run i x (occupy i (s.advance t)) = .next u) (hp : p (settle u)) : Yields k s p := by
  refine yields_alive k h.1 hl ?_
  rw [he, ← ho, issueOp_issues t h, hr]
  exact hp

theorem taskOf_occupy (s : State) (t : Tick) (i : Nat) : (occupy i (s.advance t)).taskOf i = s.taskOf i := by
  obtain ⟨tasks, -⟩ := occupy_rest i (s.advance t)
  unfold State.taskOf State.task
  rw [tasks]
  rfl

theorem effect_jr (t : Tick) (j : Issue) : effect (.jr t j) = issueOp .jr j effJr := rfl

theorem effect_endTask (t : Tick) (j : Issue) : effect (.endTask t j) = issueOp .endTask j effEnd := rfl

/-- An issue leaves FH, and so whether the handler runs, as it was. -/
theorem issued_fh (s : State) (t : Tick) (i : Nat) : (issued s t i).fh = (s.ctx i).fh := rfl

section
variable {s : State} {j : Issue} {i : Nat} {x : AInstr} (t : Tick) (h : Issues s j i x) (fh : (s.ctx i).fh = true)
include h fh

theorem occupy_fh : ((occupy i (s.advance t)).ctx i).fh = true := by
  rw [occupy_issued t i h.1, issued_fh, fh]

/-- JR in the handler: the target is gA as the handler left it, read before g13 to g15 come back (R304). -/
theorem yields_jr_handler (ho : x.op = .jr) : Yields (.jr t j) s (Leaves s t i
    { leaveHandler (s.taskOf i) (issued s t i) with pc := ((issued s t i).reg x.a).setWidth 16 }) := by
  refine yields_run (.jr t j) _ h (congrFun (effect_jr t j) _) rfl ho ?_
  rw [effJr_handler x (occupy_fh t h fh), occupy_issued t i h.1, taskOf_occupy]

/-- END in the handler on the occupied sequencer. -/
theorem effEnd_issued : effEnd i x (occupy i (s.advance t)) =
    let u := (occupy i (s.advance t)).setCtx i (endedHandler (s.taskOf i) (issued s t i))
    .next (if (issued s t i).pending then startActivation (issued s t i).pendTrig i (s.taskOf i) u else u) := by
  rw [effEnd_handler x (occupy_fh t h fh), occupy_issued t i h.1, taskOf_occupy]

/-- END in the handler with no trigger waiting: back from the handler, and IDLE (R284, R304). -/
theorem yields_end_idle (ho : x.op = .endTask) (hp : (issued s t i).pending = false) :
    Yields (.endTask t j) s (Leaves s t i (endedHandler (s.taskOf i) (issued s t i))) := by
  refine yields_run (.endTask t j) _ h (congrFun (effect_endTask t j) _) rfl ho ?_
  rw [effEnd_issued t h fh, hp]
  rfl

/-- END in the handler with a trigger waiting: the next activation starts at once (R298, R304). -/
theorem yields_end_pending (ho : x.op = .endTask) (hp : (issued s t i).pending = true) :
    Yields (.endTask t j) s (Leaves s t i ((endedHandler (s.taskOf i) (issued s t i)).started (s.taskOf i)
      (issued s t i).pendTrig s.seq.orderNext (max s.etc t))) := by
  have time : (occupy i (s.advance t)).etc = max s.etc t := by
    rw [occupy_seqOnly i (s.advance t), ← etc_alive t h.1]
  have place : (occupy i (s.advance t)).seq.orderNext = s.seq.orderNext := by
    obtain ⟨-, place, -⟩ := occupy_rest i (s.advance t)
    exact place
  refine yields_next (.endTask t j) h (congrFun (effect_endTask t j) _) rfl ho (effEnd_issued t h fh) ?_
  rw [hp, if_pos rfl, startActivation_setCtx, time, place, settle_orderNext]
  exact (leaves_setCtx t i _ h.1).orderNext _

end

/-! ## R304 -/

theorem Yields.imp {c : Instr} {s : State} {p r : State → Prop} (h : Yields c s p) (hp : ∀ u, p u → r u) :
    Yields c s r := by
  obtain ⟨u, he, hu⟩ := h
  exact ⟨u, he, hp u hu⟩

/-- Settles O13: `back` is what `leaveHandler` makes of the issued context, and each clause is a row's law at it; JR to
the faulting pc or the next one is JR to the register it reads. -/
theorem jrAndEndEndTheHandler : Obligations.JrAndEndEndTheHandler := by
  unfold Obligations.JrAndEndEndTheHandler
  intro s t j i x h fh c A back
  have jr (ho : x.op = .jr) := yields_jr_handler t h fh ho
  have jrTo (ho : x.op = .jr) (p : BitVec 16) (hA : A.setWidth 16 = p) :
      Yields (.jr t j) s (fun u => (u.ctx i).pc = p) :=
    (jr ho).imp (fun u hu => (congrArg Ctx.pc hu.1).trans hA)
  refine ⟨leaveHandler_reg (s.taskOf i) c, jr, fun ho hA => jrTo ho _ ?retry, fun ho hA => jrTo ho _ ?skip,
    yields_end_idle t h fh, yields_end_pending t h fh⟩
  case retry => rw [hA]; simp
  case skip => rw [hA]; bv_omega

end Sys2Proof.Machine
end

section
/-! The read of `IRC_HOST_CLAIM` (13_interrupts_fault_collection.md R406): the fold of `best` finds the source that R403
puts first, and the register is a plain word, outside the snapshot pairs. -/

namespace Sys2Proof.Machine

/-! ## The best deliverable source (R403) -/

/-- Of the best source so far and the next one in the order of the numbers, the one R403 puts first. -/
def betterOf (s : State) (g : IrcTarget) (a n : Nat) : Nat :=
  if deliverable s g n && (a == 0 || decide (s.level a < s.level n)) then n else a

theorem best_eq (s : State) (g : IrcTarget) :
    best s g = if g.pend &&& g.en = 0#256 then 0 else (List.range 256).foldl (betterOf s g) 0 := rfl

/-- `n` is the best deliverable source with a number below `k`, or 0 where none of these is deliverable (R403, R406). -/
structure BestBelow (s : State) (g : IrcTarget) (k n : Nat) : Prop where
  inRange : n ≠ 0 → n < k
  isDeliverable : n ≠ 0 → deliverable s g n = true
  beats : ∀ m, 0 < m → m < k → deliverable s g m = true →
    n ≠ 0 ∧ s.level m ≤ s.level n ∧ (s.level m = s.level n → n ≤ m)

theorem bestBelow_zero (s : State) (g : IrcTarget) : BestBelow s g 0 0 :=
  ⟨fun h => absurd rfl h, fun h => absurd rfl h, fun _ _ h => absurd h (Nat.not_lt_zero _)⟩

/-- The numbers come in rising order, so a source takes the place only with a higher level: a tie stays with the lower
number. -/
theorem BestBelow.succ {s : State} {g : IrcTarget} {k a : Nat} (h : BestBelow s g k a) :
    BestBelow s g (k + 1) (betterOf s g a k) := by
  unfold betterOf
  split
  next taken =>
    simp only [Bool.and_eq_true, Bool.or_eq_true, beq_iff_eq, decide_eq_true_eq] at taken
    obtain ⟨hk, higher⟩ := taken
    refine ⟨fun _ => Nat.lt_succ_self k, fun _ => hk, fun m pos hm hd => ?_⟩
    obtain hm | rfl := Nat.lt_succ_iff_lt_or_eq.mp hm
    · obtain ⟨a0, le, -⟩ := h.beats m pos hm hd
      have up := higher.resolve_left a0
      omega
    · exact ⟨by omega, le_rfl, fun _ => le_rfl⟩
  next kept =>
    refine ⟨fun a0 => Nat.lt_succ_of_lt (h.inRange a0), h.isDeliverable, fun m pos hm hd => ?_⟩
    obtain hm | rfl := Nat.lt_succ_iff_lt_or_eq.mp hm
    · exact h.beats m pos hm hd
    · simp only [hd, Bool.true_and, Bool.or_eq_true, beq_iff_eq, decide_eq_true_eq, not_or, not_lt] at kept
      obtain ⟨a0, le⟩ := kept
      exact ⟨a0, le, fun _ => (h.inRange a0).le⟩

theorem bestBelow_foldl (s : State) (g : IrcTarget) (k : Nat) :
    BestBelow s g k ((List.range k).foldl (betterOf s g) 0) := by
  induction k with
  | zero => exact bestBelow_zero s g
  | succ k ih =>
    rw [List.range_succ, List.foldl_concat]
    exact ih.succ

/-- Where no pending source is enabled, none is deliverable (R403). -/
theorem deliverable_idle {s : State} {g : IrcTarget} (h : g.pend &&& g.en = 0#256) (n : Nat) :
    deliverable s g n = false := by
  have bit : (g.pend.getLsbD n && g.en.getLsbD n) = false := by
    rw [← BitVec.getLsbD_and, h, BitVec.getLsbD_zero]
  unfold deliverable
  rw [bit]
  rfl

theorem bestBelow_best (s : State) (g : IrcTarget) : BestBelow s g 256 (best s g) := by
  rw [best_eq]
  split
  next idle =>
    refine ⟨fun h => absurd rfl h, fun h => absurd rfl h, fun m _ _ hd => ?_⟩
    rw [deliverable_idle idle] at hd
    cases hd
  next => exact bestBelow_foldl s g 256

theorem best_lt (s : State) (g : IrcTarget) : best s g < 256 := by
  by_cases h : best s g = 0
  · omega
  · exact (bestBelow_best s g).inRange h

/-! ## A read outside the snapshot pairs (R9, R477) -/

/-- A word that is neither the low nor the high word of a pair reads as its block gives it. -/
theorem regWord_plain {s : State} {a : Nat} (r : Requester) (ha : a ≠ 0x6000 ∧ a ≠ 0x6008 ∧ a ≠ 0x600C)
    (low : pairAt s a = none) (high : pairAt s (a - 4) = none) :
    regWord r a s = BitVec.ofNat 32 (plainWord s a) := by
  obtain ⟨h0, h8, hc⟩ := ha
  unfold regWord
  rw [if_neg h0, if_neg h8, if_neg hc, low, high, ite_self]

/-- A read that is not of a pair's low word latches nothing. -/
theorem regLatch_plain {s : State} {a : Nat} (r : Requester) (ha : a ≠ 0x6000) (low : pairAt s a = none) :
    regLatch r a s = s := by
  unfold regLatch
  rw [if_neg ha, low]

/-! ## R406 -/

theorem plainWord_hostClaim (s : State) : plainWord s 0x1168 = best s s.irc.host := rfl

/-- `IRC_HOST_CLAIM` reads as the best source deliverable to HOST, and the read latches nothing. -/
theorem regWord_hostClaim (r : Requester) (s : State) :
    regWord r 0x1168 s = BitVec.ofNat 32 (best s s.irc.host) ∧ regLatch r 0x1168 s = s := by
  have claim : pairAt s 0x1168 = none := rfl
  have before : pairAt s 0x1164 = none := rfl
  rw [regWord_plain r (by decide) claim before, plainWord_hostClaim]
  exact ⟨rfl, regLatch_plain r (by decide) claim⟩

/-- Settles O14: the register is no part of a pair, so it reads as `best` and latches nothing, and the fold of `best`
keeps the best of the sources it has met. -/
theorem claimReadShowsTheBest : Obligations.ClaimReadShowsTheBest := by
  unfold Obligations.ClaimReadShowsTheBest
  intro s r
  obtain ⟨word, same⟩ := regWord_hostClaim r s
  have found := bestBelow_best s s.irc.host
  exact ⟨best s s.irc.host, best_lt s s.irc.host, word, same, found.isDeliverable, found.beats⟩

end Sys2Proof.Machine
end

section
/-! The codec of angle code (08_angle_code_isa.md R261): the opcode and the fields, read back from the places the
encoder puts them. -/

namespace Sys2Proof

theorem opOfCode_code (op : AOp) : opOfCode op.code = some op := by cases op <;> rfl

theorem AOp.code_lt (op : AOp) : op.code < 64 := by cases op <;> decide

/-- A word below `2 ^ 26` under an opcode: the opcode's bits and the rest of the word. -/
theorem bits_opcode {w : Nat} (op : AOp) (hw : w < 2 ^ 26) : Machine.bits (op.code * 2 ^ 26 + w) 26 6 = op.code := by
  have := op.code_lt
  unfold Machine.bits
  omega

theorem toNat_encode {w : Nat} (op : AOp) (hw : w < 2 ^ 26) :
    (BitVec.ofNat 32 (op.code * 2 ^ 26 + w)).toNat = op.code * 2 ^ 26 + w := by
  have := op.code_lt
  rw [BitVec.toNat_ofNat]
  omega

/-- The part of an instruction's word below its opcode (R261). -/
def payload (x : AInstr) : Nat :=
  match x.op.format with
  | .r => x.d * 2 ^ 22 + x.a * 2 ^ 18 + x.b * 2 ^ 14
  | .i => x.d * 2 ^ 22 + x.a * 2 ^ 18 + x.imm
  | .j => x.a * 2 ^ 22 + x.b * 2 ^ 18 + x.imm
  | .w => x.d * 2 ^ 22 + x.imm

theorem encodeAngle_eq (x : AInstr) : encodeAngle x = BitVec.ofNat 32 (x.op.code * 2 ^ 26 + payload x) := by
  unfold encodeAngle payload
  cases x.op.format <;> simp only [Nat.add_assoc]

/-- The fields of a well-formed instruction lie below its opcode and are read back from there, in each format. -/
theorem fields_payload {x : AInstr} (h : x.wf = true) :
    payload x < 2 ^ 26 ∧ fieldsOf x.op (x.op.code * 2 ^ 26 + payload x) = some x := by
  obtain ⟨op, d, a, b, imm⟩ := x
  unfold AInstr.wf at h
  unfold payload fieldsOf Machine.bits
  cases hf : op.format
  all_goals
    simp only [hf, Bool.and_eq_true, decide_eq_true_eq, beq_iff_eq] at h
    obtain ⟨-, h⟩ := h
    refine ⟨by dsimp only; omega, ?_⟩
  case r =>
    rw [if_pos (by dsimp only; omega), Option.some_inj, AInstr.mk.injEq]
    dsimp only
    refine ⟨rfl, ?_, ?_, ?_, ?_⟩ <;> omega
  all_goals
    simp only [Option.some_inj, AInstr.mk.injEq]
    refine ⟨trivial, ?_, ?_, ?_, ?_⟩ <;> omega

/-- Settles O5: the opcode and, format by format, the fields are read back from the places the encoder puts them. -/
theorem encodedInstructionsDecode : Obligations.EncodedInstructionsDecode := by
  unfold Obligations.EncodedInstructionsDecode
  intro x h
  obtain ⟨low, fields⟩ := fields_payload h
  have row : x.rowOk = true := by
    unfold AInstr.wf at h
    exact (Bool.and_eq_true_iff.mp h).1
  unfold decodeAngle
  simp only [encodeAngle_eq, toNat_encode x.op low, bits_opcode x.op low, opOfCode_code, fields, row, if_true]

end Sys2Proof
end

section
/-! The front of the queue, the registers at reset, and the invariants every step keeps: the canonical memory, the
synchronisation state with its causes, ETC, the queue and HOST_INT_N. -/

namespace Sys2Proof.Machine

/-- Settles O1: `step` is defined by the two cases of the queue. -/
theorem stepRunsTheFrontCommand : Obligations.StepRunsTheFrontCommand := by
  unfold Obligations.StepRunsTheFrontCommand step
  refine ⟨fun c q s h => ?front, fun s h => ?idle⟩
  all_goals rw [h]

/-- Settles O4: register 0 is no entry of the register table, every other register is one. -/
theorem registerZeroReadsZero : Obligations.RegisterZeroReadsZero := by
  unfold Obligations.RegisterZeroReadsZero
  intro c v r
  refine ⟨rfl, rfl, fun hr => ?same, fun m hm => ?other⟩
  case same => rw [Ctx.reg_setReg c hr, if_pos rfl]
  case other =>
    by_cases hr : r = 0
    · subst hr; rfl
    · rw [Ctx.reg_setReg c hr, if_neg hm]

/-- Settles O3: the words are closed, so the decoder runs on them. -/
theorem sampleWordsDecode : Obligations.SampleWordsDecode := by
  unfold Obligations.SampleWordsDecode
  decide

/-! ## The canonical memory -/

theorem memWf_after (i : Instr) {s : State} (h : memWf s.mem = true) : memWf (after i s).mem = true := by
  have hx : memWf (s.advance (instant i)).mem = true := h
  have hu := settle_wf _ (powerSettle_wf _ (effect_wf i _ (timeNow_wf _ hx)))
  unfold after
  dsimp only
  split
  · exact hu
  · split
    · exact hx
    · exact hu

/-- A next state is the state after the command. -/
theorem eq_after_of_exec {i : Instr} {s u : State} (h : exec i s = .next u) : u = after i s := by
  rw [exec_eq] at h
  split at h
  · cases h
  · injection h with e
    exact e.symm

/-- Settles O6: every command's effect keeps the canonical form, and so do the passage of time and HOST_INT_N. -/
theorem memoryStaysCanonical : Obligations.MemoryStaysCanonical := by
  unfold Obligations.MemoryStaysCanonical
  intro s u h hu
  unfold step at hu
  split at hu
  · injection hu with e
    exact e ▸ h
  next i r _ =>
    rw [eq_after_of_exec hu]
    exact memWf_after i h

/-! ## ETC, the queue and the order code -/

theorem instant_eq (i : Instr) : instant i = i.time := by cases i <;> rfl

theorem le_advance_etc (t : Tick) (s : State) : s.etc ≤ (s.advance t).etc := by
  have reach (x : Tick) : s.etc ≤ if s.etc < x then x else s.etc := by
    split
    · exact Nat.le_of_lt ‹_›
    · exact le_rfl
  unfold State.advance
  dsimp only
  split <;> exact reach _

theorem advance_now (t : Tick) (s : State) : (s.advance t).now = max s.now t := by
  show (if s.now < t then t else s.now) = max s.now t
  split
  next h => exact (max_eq_right (Nat.le_of_lt h)).symm
  next h => exact (max_eq_left (Nat.not_lt.mp h)).symm

theorem undefinedPulse_of_width {s : State} {c : Instr} (h : ∀ t n, c = .resetNPulse t n → n < 2000 ∨ 10000 ≤ n) :
    undefinedPulse s c = false := by
  unfold undefinedPulse
  split
  next t n =>
    have := h t n rfl
    by_cases h2 : n < 2000
    · simp [h2]
    · simp [show ¬ n < 10000 by omega]
  · rfl

/-- Settles O9: what `after_base` says no command touches, at the instant the command happens at. -/
theorem timeNeverGoesBack : Obligations.TimeNeverGoesBack := by
  unfold Obligations.TimeNeverGoesBack
  intro c s hw
  have base := after_base c s
  simp only [State.base, Prod.mk.injEq] at base
  obtain ⟨queue, etc, now, order⟩ := base
  rw [instant_eq] at queue etc now order
  refine ⟨after c s, by rw [exec_eq, undefinedPulse_of_width hw]; rfl, ?_⟩
  rw [queue, etc, now, order, advance_now]
  refine ⟨le_advance_etc _ s, le_max_left .., le_max_right .., fun hm => ?_, rfl, rfl⟩
  rw [advance_run _ s hm]
  exact le_max_right ..

/-! ## HOST_INT_N -/

/-- The sources deliverable to HOST are what they were before the line followed them. -/
theorem best_settle (s : State) : best (settle s) (settle s).irc.host = best s s.irc.host := rfl

/-- R405, R410: the line is released while a hold runs, and else asserted where a source is deliverable. -/
theorem settle_line (s : State) :
    ((settle s).irc.hold ≠ none → (settle s).irc.line = false) ∧
    ((settle s).irc.hold = none → (settle s).irc.line = decide (best s s.irc.host ≠ 0)) := by
  have asserted : (settle s).irc.line =
      (best s s.irc.host != 0 && (s.irc.hold.filter (holdStays s (best s s.irc.host))).isNone) := rfl
  have hold : (settle s).irc.hold =
      if s.irc.line && !(settle s).irc.line && s.irc.modUs != 0 then some { release := s.etc }
      else s.irc.hold.filter (holdStays s (best s s.irc.host)) := rfl
  rw [hold]
  generalize s.irc.hold.filter (holdStays s (best s s.irc.host)) = h at *
  cases h with
  | none =>
    rw [asserted]
    by_cases hb : best s s.irc.host = 0 <;> simp [hb]
  | some q =>
    have released : (settle s).irc.line = false := by simp [asserted]
    refine ⟨fun _ => released, fun none => ?_⟩
    split at none <;> cases none

/-- Settles O11: a powered command ends with HOST_INT_N following the sources and the hold. -/
theorem hostLineFollowsSources : Obligations.HostLineFollowsSources := by
  unfold Obligations.HostLineFollowsSources
  intro c s u hd hu
  rw [eq_after_of_exec hu, after_powered c s hd, best_settle]
  exact settle_line _

/-! ## The synchronisation state -/

theorem changeSync_sync (st : Sync) (cause : Nat) (s : State) : (changeSync st cause s).whl.sync = st := by
  unfold changeSync
  dsimp only
  refine latchAll_sync _ _ ?_
  split
  · exact endWaitas_sync _ _ (log_sync _ _ _ _ (mirrorState_sync _ _ _ (raise_sync _ _ rfl)))
  · exact log_sync _ _ _ _ (mirrorState_sync _ _ _ (raise_sync _ _ rfl))

theorem enterNosync_sync (cause : Nat) (s : State) : (enterNosync cause s).whl.sync = .nosync := by
  unfold enterNosync
  exact applyPending_sync _ _ (envelopeBoundary_sync _ (changeSync_sync ..))

theorem resetState_sync (cause : Nat) (s : State) : (resetState cause s).whl.sync = .nosync := rfl

/-- Either the synchronisation state is as in `s`, or it is NOSYNC. -/
def SyncKeptOrLost (s u : State) : Prop := u.whl.sync = s.whl.sync ∨ u.whl.sync = .nosync

theorem doStall_syncKeptOrLost (s : State) : SyncKeptOrLost s (doStall s) := by
  unfold doStall
  split
  · exact .inl rfl
  split
  next h =>
    split
    · exact .inl (writeRecord_sync s rfl)
    · exact .inl rfl
  · exact .inr (enterNosync_sync ..)

theorem doLossReported_syncKeptOrLost (s : State) : SyncKeptOrLost s (doLossReported s) := by
  unfold doLossReported
  split
  · exact .inr (enterNosync_sync ..)
  · exact .inl rfl

theorem doResetCommandDelayExpiry_syncKeptOrLost (s : State) : SyncKeptOrLost s (doResetCommandDelayExpiry s) := by
  unfold doResetCommandDelayExpiry
  split
  · split
    · exact .inr (resetState_sync ..)
    · exact .inl rfl
  · exact .inl rfl

theorem doResetN_syncKeptOrLost (s : State) : SyncKeptOrLost s (doResetN s) := by
  unfold doResetN
  split
  · exact .inl rfl
  · exact .inr (resetState_sync ..)

theorem reselect_syncKeptOrLost (s : State) : SyncKeptOrLost s (reselect s) := by
  unfold reselect
  split
  · exact .inl (fromMain_sync s rfl)
  · split
    · exact .inl rfl
    split
    · exact .inl (supplyRun_sync _ _ _ s rfl)
    · exact .inl (bothLost_sync s rfl)
  · exact .inl rfl
  · split
    · exact .inr (resetState_sync ..)
    · exact .inl rfl

theorem doSupplyJudgement_syncKeptOrLost (j : SupplyInput) (s : State) : SyncKeptOrLost s (doSupplyJudgement j s) := by
  unfold doSupplyJudgement
  dsimp only
  split
  · split
    · exact .inl rfl
    · have kept {u : State} (h : u.whl.sync = s.whl.sync) : SyncKeptOrLost s (reselect u) := by
        unfold SyncKeptOrLost
        rw [← h]
        exact reselect_syncKeptOrLost u
      exact kept (vbakJudged_sync _ (overvoltCheck_sync _ _ _ (State_setInput_sync _ _ _ rfl)))
  · exact .inl rfl

/-- The commands that lose the synchronisation: each leaves it as it was or NOSYNC. -/
theorem effect_syncKeptOrLost {c : Instr} (h : leaves_sync c = true) (hs : ∀ t n, c ≠ .strainerAccept t n)
    (hp : ∀ t n, c ≠ .pulseLongTimeout t n) (s : State) : SyncKeptOrLost s (effect c s) := by
  cases c with
  | strainerAccept t n => exact absurd rfl (hs t n)
  | pulseLongTimeout t n => exact absurd rfl (hp t n)
  | stall => exact doStall_syncKeptOrLost s
  | lossReported => exact doLossReported_syncKeptOrLost s
  | supplyJudgement t j => exact doSupplyJudgement_syncKeptOrLost j s
  | resetCommandDelayExpiry => exact doResetCommandDelayExpiry_syncKeptOrLost s
  | resetNPulse t n =>
    show SyncKeptOrLost s ((if n < 2000 then id else doResetN) s)
    split
    · exact .inl rfl
    · exact doResetN_syncKeptOrLost s
  | _ => cases h

/-- The synchronisation state after a command is what the effect leaves, or, in DOWN, as it was. -/
theorem after_sync (c : Instr) (s : State) : (after c s).whl.sync = s.whl.sync ∨
    ∃ v : State, v.whl.sync = s.whl.sync ∧ (after c s).whl.sync = (effect c v).whl.sync := by
  have time : (timeNow (s.advance (instant c))).whl.sync = s.whl.sync := timeNow_sync _ rfl
  have done : (settle (powerSettle (effect c (timeNow (s.advance (instant c)))))).whl.sync = _ :=
    settle_sync _ (powerSettle_sync _ rfl)
  unfold after
  dsimp only
  split
  · exact .inr ⟨_, time, done⟩
  · split
    · exact .inl rfl
    · exact .inr ⟨_, time, done⟩

/-- Settles O8: `effect_sync` names the commands that can change the state, and those that lose it leave NOSYNC. -/
theorem synchronisationChangesOnlyByItsCauses : Obligations.SynchronisationChangesOnlyByItsCauses := by
  unfold Obligations.SynchronisationChangesOnlyByItsCauses
  intro c s u hu changed
  rw [eq_after_of_exec hu] at changed ⊢
  obtain ⟨v, hv, he⟩ := (after_sync c s).resolve_left changed
  rw [he] at changed ⊢
  have leaves : leaves_sync c = true := by
    by_contra keeps
    exact changed (effect_sync c v (by simpa using keeps) hv)
  have lost (hs : ∀ t n, c ≠ .strainerAccept t n) (hp : ∀ t n, c ≠ .pulseLongTimeout t n) :
      (effect c v).whl.sync = .nosync :=
    (effect_syncKeptOrLost leaves hs hp v).resolve_left (fun e => changed (e.trans hv))
  cases c with
  | strainerAccept t n => exact .inl ⟨t, n, rfl⟩
  | pulseLongTimeout t n => exact .inr (.inl ⟨t, n, rfl⟩)
  | stall t => exact .inr (.inr ⟨.inl ⟨t, rfl⟩, lost (by simp) (by simp)⟩)
  | lossReported t => exact .inr (.inr ⟨.inr (.inl ⟨t, rfl⟩), lost (by simp) (by simp)⟩)
  | resetCommandDelayExpiry t => exact .inr (.inr ⟨.inr (.inr (.inl ⟨t, rfl⟩)), lost (by simp) (by simp)⟩)
  | resetNPulse t n => exact .inr (.inr ⟨.inr (.inr (.inr (.inl ⟨t, n, rfl⟩))), lost (by simp) (by simp)⟩)
  | supplyJudgement t j => exact .inr (.inr ⟨.inr (.inr (.inr (.inr ⟨t, j, rfl⟩))), lost (by simp) (by simp)⟩)
  | _ => cases leaves

/-! ## The registers at reset -/

set_option maxRecDepth 20000 in
/-- Settles O2: the reset state is closed, so its registers are computed. -/
theorem registersAtReset : Obligations.RegistersAtReset := by
  unfold Obligations.RegistersAtReset
  refine ⟨⟨by decide, by decide⟩, rfl, rfl, rfl, fun _ => rfl, fun _ => rfl, rfl, rfl, fun _ _ => rfl⟩

end Sys2Proof.Machine
end

section
/-! Integer instructions, branches and jumps of angle code (08_angle_code_isa.md R264, R267). -/

namespace Sys2Proof.Machine

/-! ## Flags (R264) -/

theorem fits32_not (r : Int) : (!fits32 r) = decide (r < -2147483648 ∨ 2147483648 ≤ r) := by
  simp only [fits32, Bool.not_and, ← decide_not, ← Bool.decide_or, Int.not_le, Int.not_lt]

theorem addFlags_eq (a b : Word) (cin : Bool) : addFlags a b cin =
    { value := a + b + BitVec.ofNat 32 cin.toNat
      c := decide (4294967296 ≤ a.toNat + b.toNat + cin.toNat)
      v := decide (a.toInt + b.toInt + cin.toNat < -2147483648 ∨ 2147483648 ≤ a.toInt + b.toInt + cin.toNat) } := by
  simp only [addFlags, fits32_not, BitVec.ofNat_add, BitVec.ofNat_toNat, BitVec.setWidth_eq]

theorem subFlags_eq (a b : Word) (bin : Bool) : subFlags a b bin =
    { value := a - b - BitVec.ofNat 32 bin.toNat
      c := decide (b.toNat + bin.toNat ≤ a.toNat)
      v := decide (a.toInt - b.toInt - bin.toNat < -2147483648 ∨ 2147483648 ≤ a.toInt - b.toInt - bin.toNat) } := by
  simp only [subFlags, fits32_not]

theorem addFlags_noCarry (a b : Word) : addFlags a b false =
    { value := a + b
      c := decide (4294967296 ≤ a.toNat + b.toNat)
      v := decide (a.toInt + b.toInt < -2147483648 ∨ 2147483648 ≤ a.toInt + b.toInt) } := by
  simp [addFlags_eq]

theorem subFlags_noBorrow (a b : Word) : subFlags a b false =
    { value := a - b
      c := decide (b.toNat ≤ a.toNat)
      v := decide (a.toInt - b.toInt < -2147483648 ∨ 2147483648 ≤ a.toInt - b.toInt) } := by
  simp [subFlags_eq]

/-! ## Shift counts (R262) -/

theorem shiftCount_mod {x : AInstr} (h : x.rowOk = true) (ho : x.op = .shli ∨ x.op = .shri ∨ x.op = .sari) :
    x.imm % 32 = x.imm := by
  unfold AInstr.rowOk at h
  obtain ho | ho | ho := ho
  all_goals
    rw [ho] at h
    exact Nat.mod_eq_of_lt (of_decide_eq_true h)

/-! ## The rows of integer instructions -/

section
variable {s : State} {j : Issue} {i : Nat} {x : AInstr} {t : Tick} (k : Instr) {op : AOp} (h : Issues s j i x)
  (hl : leaves_mode k = false) (ho : x.op = op)
include h hl ho

theorem yields_aluR (f : Word → Word → Word)
    (he : effect k (s.advance (instant k)) = issueOp op j (aluR f) (s.advance t)) :
    Yields k s (Leaves s t i ((issued s t i).wrote x.d (f ((s.ctx i).reg x.a) ((s.ctx i).reg x.b)))) :=
  yields_writeD k _ h he hl ho (by unfold aluR; rw [occupy_issued t i h.1]; rfl)

theorem yields_aluI (f : Word → Nat → Word)
    (he : effect k (s.advance (instant k)) = issueOp op j (aluI f) (s.advance t)) :
    Yields k s (Leaves s t i ((issued s t i).wrote x.d (f ((s.ctx i).reg x.a) x.imm))) :=
  yields_writeD k _ h he hl ho (by unfold aluI; rw [occupy_issued t i h.1]; rfl)

/-- A sum or difference: C and V, then the result and the next word. -/
theorem yields_additive {run : Nat → AInstr → State → Done} {f : Ctx → Word → SumFlags} {b : Ctx → Word}
    {r : SumFlags} (he : effect k (s.advance (instant k)) = issueOp op j run (s.advance t))
    (hf : run i x = additive f b i x)
    (hr : f (issued s t i) (b (issued s t i)) = r) :
    Yields k s (Leaves s t i ({ issued s t i with c := r.c, v := r.v }.wrote x.d r.value)) := by
  refine yields_run k _ h he hl ho ?_
  rw [hf]
  unfold additive
  simp only [occupy_issued t i h.1, hr, writeD_eq, State.ctx_setCtx, State.setCtx_setCtx]

/-- A branch on a condition of the issued context (R267). -/
theorem yields_branchIf {run : Nat → AInstr → State → Done} (take : Ctx → Bool)
    (he : effect k (s.advance (instant k)) = issueOp op j run (s.advance t))
    (hf : ∀ u, run i x u = branchIf (take (u.ctx i)) i x u) (p : Prop) [Decidable p]
    (hp : take (issued s t i) = decide p) :
    Yields k s (Leaves s t i { issued s t i with
      pc := if p then branchPc (issued s t i).pc x.imm else (issued s t i).pc + 1 }) := by
  refine yields_run k _ h he hl ho ?_
  rw [hf, occupy_issued t i h.1, hp]
  unfold branchIf nextPc
  rw [setPc_eq, setPc_eq, occupy_issued t i h.1]
  by_cases hp : p <;> simp [hp]

/-- A branch on a relation of registers A and B (R267). -/
theorem yields_branch (rel : Word → Word → Bool)
    (he : effect k (s.advance (instant k)) = issueOp op j (effBranch rel) (s.advance t)) (p : Prop) [Decidable p]
    (hp : rel ((s.ctx i).reg x.a) ((s.ctx i).reg x.b) = decide p) :
    Yields k s (Leaves s t i { issued s t i with
      pc := if p then branchPc (issued s t i).pc x.imm else (issued s t i).pc + 1 }) :=
  yields_branchIf k h hl ho (fun c => rel (c.reg x.a) (c.reg x.b)) he (fun _ => rfl) p hp

end

/-- The issue of an instruction counts its time and writes no register (R301). -/
theorem issued_reg (s : State) (t : Tick) (i r : Nat) : (issued s t i).reg r = (s.ctx i).reg r := rfl

/-- Settles O39: each row is a result of two registers, of a register and the immediate, or a sum with its flags. -/
theorem angleIntegerResults : Obligations.AngleIntegerResults := by
  unfold Obligations.AngleIntegerResults
  intro s t j i x h c A B I S gives sums
  have row := decodeAngle_rowOk h.2.2.2.2.2
  refine ⟨fun ho => ?add, fun ho => ?sub, fun ho => ?addc, fun ho => ?subc, fun ho => ?addi, fun ho => ?and,
    fun ho => ?or, fun ho => ?xor, fun ho => ?shl, fun ho => ?shr, fun ho => ?sar, fun ho => ?mul, fun ho => ?mulhu,
    fun ho => ?mulhs, fun ho => ?divu, fun ho => ?remu, fun ho => ?slt, fun ho => ?sltu, fun ho => ?andi,
    fun ho => ?ori, fun ho => ?xori, fun ho => ?shli, fun ho => ?shri, fun ho => ?sari, fun ho => ?lui⟩
  case and => exact yields_aluR (.and t j) h rfl ho opAnd rfl
  case or => exact yields_aluR (.or t j) h rfl ho opOr rfl
  case xor => exact yields_aluR (.xor t j) h rfl ho opXor rfl
  case shl => exact yields_aluR (.shl t j) h rfl ho opShl rfl
  case shr => exact yields_aluR (.shr t j) h rfl ho opShr rfl
  case sar => exact yields_aluR (.sar t j) h rfl ho opSar rfl
  case mul => exact yields_aluR (.mul t j) h rfl ho opMul rfl
  case mulhu => exact yields_aluR (.mulhu t j) h rfl ho opMulhu rfl
  case mulhs => exact yields_aluR (.mulhs t j) h rfl ho opMulhs rfl
  case divu => exact yields_aluR (.divu t j) h rfl ho opDivu rfl
  case remu => exact yields_aluR (.remu t j) h rfl ho opRemu rfl
  case slt => exact yields_aluR (.slt t j) h rfl ho opSlt rfl
  case sltu => exact yields_aluR (.sltu t j) h rfl ho opSltu rfl
  case andi => exact yields_aluI (.andi t j) h rfl ho opAndi rfl
  case ori => exact yields_aluI (.ori t j) h rfl ho opOri rfl
  case xori => exact yields_aluI (.xori t j) h rfl ho opXori rfl
  case lui =>
    exact yields_writeD (t := t) (op := .lui) (run := effLui) (.lui t j) (BitVec.ofNat 32 (x.imm * 1024)) h rfl rfl ho
      rfl
  case add =>
    have sum := yields_additive (t := t) (.add t j) h rfl ho (run := effAdd) (r := addFlags A B false) rfl rfl rfl
    rwa [addFlags_noCarry A B] at sum
  case sub =>
    have sum := yields_additive (t := t) (.sub t j) h rfl ho (run := effSub) (r := subFlags A B false) rfl rfl rfl
    rwa [subFlags_noBorrow A B] at sum
  case addc =>
    have sum := yields_additive (t := t) (.addc t j) h rfl ho (run := effAddc) (r := addFlags A B (s.ctx i).c) rfl rfl
      rfl
    rwa [addFlags_eq A B (s.ctx i).c] at sum
  case subc =>
    have sum := yields_additive (t := t) (.subc t j) h rfl ho (run := effSubc) (r := subFlags A B (!(s.ctx i).c)) rfl
      rfl rfl
    rwa [subFlags_eq A B (!(s.ctx i).c)] at sum
  case addi =>
    have sum := yields_additive (t := t) (.addi t j) h rfl ho (run := effAddi) (r := addFlags A S false) rfl rfl rfl
    rwa [addFlags_noCarry A S] at sum
  case shli =>
    have shifted := yields_aluI (t := t) (.shli t j) h rfl ho opShli rfl
    unfold opShli at shifted
    rwa [shiftCount_mod row (.inl ho)] at shifted
  case shri =>
    have shifted := yields_aluI (t := t) (.shri t j) h rfl ho opShri rfl
    unfold opShri at shifted
    rwa [shiftCount_mod row (.inr (.inl ho))] at shifted
  case sari =>
    have shifted := yields_aluI (t := t) (.sari t j) h rfl ho opSari rfl
    unfold opSari at shifted
    rwa [shiftCount_mod row (.inr (.inr ho))] at shifted

/-! ## Branches and jumps (R267) -/

/-- The condition of BF: the flag that COND's upper bits name, set where its low bit is 0. -/
theorem condHolds_eq (c : Ctx) {n : Nat} (h : n < 6) : condHolds c n =
    decide ((if n / 2 = 0 then c.c else if n / 2 = 1 then c.v else c.q) = decide (n % 2 = 0)) := by
  have flag (b : Bool) : b = decide (b = true) ∧ (!b) = decide (b = false) := by cases b <;> decide
  obtain ⟨c1, c0⟩ := flag c.c
  obtain ⟨v1, v0⟩ := flag c.v
  obtain ⟨q1, q0⟩ := flag c.q
  interval_cases n
  exacts [c1, c0, v1, v0, q1, q0]

theorem rowOk_bf {x : AInstr} (h : x.rowOk = true) (ho : x.op = .bf) : x.a < 6 := by
  unfold AInstr.rowOk at h
  rw [ho] at h
  have := of_decide_eq_true (Bool.and_eq_true_iff.mp h).1
  omega

/-- Settles O40: each branch is a condition of the issued context, each jump one update of it. -/
theorem angleBranchesAndJumps : Obligations.AngleBranchesAndJumps := by
  unfold Obligations.AngleBranchesAndJumps
  intro s t j i x h c A B target branches
  refine ⟨fun ho => ?beq, fun ho => ?bne, fun ho => ?blt, fun ho => ?bge, fun ho => ?bltu, fun ho => ?bgeu,
    fun ho => ?bf, fun ho => ?jmp, fun ho => ?jal, fun ho fh => ?jr⟩
  case beq => exact yields_branch (t := t) (.beq t j) h rfl ho (fun a b => a == b) rfl (A = B) (beq_eq_decide A B)
  case bne =>
    exact yields_branch (t := t) (.bne t j) h rfl ho (fun a b => a != b) rfl (A ≠ B) (decide_not (p := A = B)).symm
  case blt =>
    exact yields_branch (t := t) (.blt t j) h rfl ho (fun a b => decide (a.toInt < b.toInt)) rfl (A.toInt < B.toInt) rfl
  case bge =>
    exact yields_branch (t := t) (.bge t j) h rfl ho (fun a b => decide (b.toInt ≤ a.toInt)) rfl (B.toInt ≤ A.toInt) rfl
  case bltu =>
    exact yields_branch (t := t) (.bltu t j) h rfl ho (fun a b => decide (a.toNat < b.toNat)) rfl (A.toNat < B.toNat)
      rfl
  case bgeu =>
    exact yields_branch (t := t) (.bgeu t j) h rfl ho (fun a b => decide (b.toNat ≤ a.toNat)) rfl (B.toNat ≤ A.toNat)
      rfl
  case bf =>
    have cond := rowOk_bf (decodeAngle_rowOk h.2.2.2.2.2) ho
    exact ⟨cond, yields_branchIf (t := t) (.bf t j) h rfl ho (run := effBf) (fun c => condHolds c x.a) rfl (fun _ =>
      rfl) _
      (condHolds_eq c cond)⟩
  case jmp =>
    refine yields_run (op := .jmp) (run := effJmp) (.jmp t j) _ h rfl rfl ho ?_
    unfold effJmp
    rw [setPc_eq, occupy_issued t i h.1]
  case jal =>
    refine yields_run (op := .jal) (run := effJal) (.jal t j) _ h rfl rfl ho ?_
    unfold effJal setReg
    simp only [setPc_eq, occupy_issued t i h.1, State.ctx_setCtx, State.setCtx_setCtx, c]
  case jr =>
    refine yields_run (op := .jr) (run := effJr) (.jr t j) _ h rfl rfl ho ?_
    unfold effJr
    simp only [setPc_eq, occupy_issued t i h.1, issued_fh, fh, Bool.false_eq_true, if_false, issued_reg, A, c]

end Sys2Proof.Machine
end

section
/-! Loads of angle code (08_angle_code_isa.md R266): a load from the event table reads the slot's state at the instant
of the load, and an armed slot shows COMMITTING until its edge unit is armed (07_event_scheduler.md R219, R220). -/

namespace Sys2Proof.Machine

/-- A module in RUN at 1000, sequencer 0 about to issue LD g3, [g1]. The task may read the event table, and register 1
holds the address of word 3 of slot 0, whose event is committed and armed at 1500. -/
def loadWhileArming : State :=
  { State.reset.memWrite 0x200000 (leBytes 4 (encodeAngle { op := .ld, d := 3, a := 1 }).toNat) with
    sys.mode := .run
    etc := 1000
    seq.ctx := [(0, { g := [(1, 0x10000C)], state := .ready })]
    seq.task := [(0, some { prio := 3, segs :=
      [{ base := 0x100000, limit := 0x11FFFF, r := true }, { base := 0x200000, limit := 0x23FFFF, x := true }] })]
    evs.slots := [(0, { state := .armed, armAt := 1500 })] }

def cleanIssue : Issue := { sq := 0, fetch := .clean, data := .clean }

theorem issues_loadWhileArming : Issues loadWhileArming cleanIssue 0 { op := .ld, d := 3, a := 1 } := by decide

theorem regWord_loadWhileArming :
    (match exec (.ld 2000 cleanIssue) loadWhileArming with
      | .next u => (u.ctx 0).reg 3
      | _ => 0) = 0x40000 ∧
    BitVec.ofNat 32 ((readWord loadWhileArming 0x10000C).toNat / 2 ^ (8 * (0x10000C % 4)) % 2 ^ (8 * 4)) = 0x30000#32 :=
        by
  decide

/-- Refutes O41: a load of word 3 of slot 0 at 2000 reads ARMED (4), where the statement has it read what the word read
as at ETC 1000, COMMITTING (3). -/
theorem not_angleLoadsAndStores : ¬ Obligations.AngleLoadsAndStores := by
  unfold Obligations.AngleLoadsAndStores
  intro h
  obtain ⟨ld, -⟩ := h loadWhileArming 2000 cleanIssue 0 _ issues_loadWhileArming rfl
  obtain ⟨u, hu, own, -⟩ := ld rfl (by decide)
  obtain ⟨armed, committing⟩ := regWord_loadWhileArming
  rw [hu] at armed
  have claimed := congrArg (fun c => c.reg 3) own
  have read : (u.ctx 0).reg 3 = 0x30000#32 := claimed.trans (by decide)
  exact absurd (armed.symm.trans read) (by decide)

end Sys2Proof.Machine
end

section
/-! Waits, requests, angles, snapshots and the flow of tasks in angle code (08_angle_code_isa.md R265, R268 to R277,
R280,
R281, R284; 09_tasks_memory_dma_faults.md R298): what an instruction reads on the occupied sequencer is what stood there
at its instant. -/

namespace Sys2Proof.Machine

/-! ## What stands on the occupied sequencer -/

section
variable (i : Nat) (s : State) (t : Tick)

theorem occupy_time (h : Alive s) : (occupy i (s.advance t)).etc = max s.etc t := by
  rw [occupy_seqOnly i (s.advance t), ← etc_alive t h]

theorem nTeeth_seq (q : Seq) : { s with seq := q }.nTeeth = s.nTeeth := rfl

theorem nTeeth_occupy : (occupy i (s.advance t)).nTeeth = s.nTeeth := by
  rw [occupy_seqOnly i (s.advance t), nTeeth_seq]
  rfl

theorem angValid_occupy (w : Word) : angValid (occupy i (s.advance t)) w = decide (w.toNat / 4096 < 2 * s.nTeeth) := by
  unfold angValid angInterval
  rw [nTeeth_occupy]

theorem cycleLen_occupy : (occupy i (s.advance t)).cycleLen = 2 * s.nTeeth * 4096 := by
  unfold State.cycleLen
  rw [nTeeth_occupy]

theorem whl_occupy : (occupy i (s.advance t)).whl = s.whl := by rw [occupy_seqOnly i (s.advance t)]; rfl

theorem lensLin_seq (q : Seq) : lensLin { s with seq := q } = lensLin s := rfl

theorem lensLin_occupy : lensLin (occupy i (s.advance t)) = lensLin (s.advance t) := by
  rw [occupy_seqOnly i (s.advance t), lensLin_seq]

end

theorem park_eq (i : Nat) (w : Wait) (s : State) :
    park i w s = s.setCtx i { s.ctx i with pc := (s.ctx i).pc + 1, state := .parked, wait := w } := by
  unfold park nextPc
  rw [setPc_eq, State.ctx_setCtx, State.setCtx_setCtx]

/-- The context a sequencer issues for is READY or ISSUING (R299). -/
theorem mayIssue_of_bestCtx {s : State} {q i : Nat} (h : bestCtx s q = some i) : mayIssue s i = true := by
  have found (l : List Nat) (a : Option Nat) (ha : ∀ j, a = some j → mayIssue s j = true) :
      ∀ i, l.foldl (fun a i =>
        if !mayIssue s i || decide (issuedAt s q < (s.ctx i).readyAt) then a
        else match a with
          | none => some i
          | some j => if issuesBefore s i j then some i else a) a = some i → mayIssue s i = true := by
    induction l generalizing a with
    | nil => exact ha
    | cons b r ih =>
      refine ih _ (fun j hj => ?_)
      dsimp only at hj
      split at hj
      · exact ha j hj
      next may =>
        have hb : mayIssue s b = true := by
          simp only [Bool.or_eq_true, not_or, Bool.not_eq_true, Bool.not_eq_false'] at may
          exact may.1
        cases a with
        | none => cases hj; exact hb
        | some c =>
          dsimp only at hj
          split at hj
          · cases hj; exact hb
          · exact ha j hj
  exact found (ctxsOf q) none (fun _ h => nomatch h) i h

section
variable {s : State} {j : Issue} {i : Nat} {x : AInstr} (h : Issues s j i x)
include h

theorem Issues.alive : Alive s := h.1

theorem Issues.rowOk : x.rowOk = true := decodeAngle_rowOk h.2.2.2.2.2

theorem Issues.state_ne_empty : (s.ctx i).state ≠ .empty := by
  have may := mayIssue_of_bestCtx h.2.2.1
  intro e
  simp [mayIssue, e] at may

omit h in
theorem notices_occupy (t : Tick) (q : Nat) : ((occupy i (s.advance t)).sq q).notices = (s.sq q).notices := by
  rw [occupy_sq]
  split <;> rfl

/-- The wake latches read as at the issue: a context that issues holds its own (R273). -/
theorem latchBits_occupy (t : Tick) : (occupy i (s.advance t)).latchBits i = s.latchBits i := by
  have own : (issued s t i).state ≠ .empty := by simp [issued]
  unfold State.latchBits State.latchesOf
  rw [occupy_issued t i h.1, notices_occupy, if_neg own, if_neg h.state_ne_empty]
  rfl

/-- A row whose operation parks its context (R259). -/
theorem yields_park (k : Instr) {op : AOp} {run : Nat → AInstr → State → Done} {t : Tick} (w : Wait)
    (hl : leaves_mode k = false) (ho : x.op = op)
    (he : effect k (s.advance (instant k)) = issueOp op j run (s.advance t))
    (hr : run i x (occupy i (s.advance t)) = .next (park i w (occupy i (s.advance t)))) :
    Yields k s (Leaves s t i { issued s t i with pc := (issued s t i).pc + 1, state := .parked, wait := w }) :=
  yields_run k _ h he hl ho (by rw [hr, park_eq, occupy_issued t i h.1])

end

/-! ## Requests and waits (R271 to R277) -/

/-- Settles O42: each row parks its context or writes its result, as the condition read at the issue has it. -/
theorem angleRequestsPark : Obligations.AngleRequestsPark := by
  unfold Obligations.AngleRequestsPark
  intro s t j i x h c A B parks
  have ctx : (occupy i (s.advance t)).ctx i = c := occupy_issued t i h.1
  have time := occupy_time i s t h.1
  refine ⟨fun ho => ?sched, fun ho => ?aim, fun ho => ?cancel, fun ho later => ?waitt, fun ho now => ?waittNow,
    fun ho none may => ?waite, fun ho some => ?waiteNow, fun ho bad => ?invalid, fun ho ok lost => ?nosync,
    fun l ho ok pos hl ahead near => ?waita⟩
  case sched => exact yields_park h (run := effSched) (.sched t j) _ rfl ho rfl (by unfold effSched; rw [ctx]; rfl)
  case aim => exact yields_park h (run := effAim) (.aim t j) _ rfl ho rfl (by unfold effAim; rw [ctx]; rfl)
  case cancel => exact yields_park h (run := effCancel) (.cancel t j) _ rfl ho rfl (by unfold effCancel; rw [ctx]; rfl)
  case waitt =>
    refine yields_park h (run := effWaitt) (.waitt t j) _ rfl ho rfl ?_
    unfold effWaitt
    simp only [ctx, time]
    exact if_neg (Nat.not_le.mpr later)
  case waittNow =>
    refine yields_writeD (t := t) (op := .waitt) (run := effWaitt) (.waitt t j) 0 h rfl rfl ho ?_
    unfold effWaitt
    simp only [ctx, time]
    exact if_pos now
  case waite =>
    refine yields_park h (run := effWaite) (.waite t j) _ rfl ho rfl ?_
    unfold effWaite
    simp only [ctx, latchBits_occupy h, time]
    exact (if_neg (not_not.mpr none)).trans (if_neg (fun idle => may ⟨idle.1, BitVec.eq_of_toNat_eq idle.2⟩))
  case waiteNow =>
    refine yields_run (t := t) (op := .waite) (run := effWaite) (.waite t j) _ h rfl rfl ho ?_
    unfold effWaite
    simp only [ctx, latchBits_occupy h, writeD_eq, State.ctx_setCtx, State.setCtx_setCtx]
    exact if_pos some
  case invalid =>
    refine yields_writeD (t := t) (op := .waita) (run := effWaita) (.waita t j) 5 h rfl rfl ho ?_
    have result : waitaResult (occupy i (s.advance t)) ((s.ctx i).reg x.a) = .some 5 := by
      unfold waitaResult
      rw [angValid_occupy, decide_eq_false (Nat.not_lt.mpr bad)]
      rfl
    unfold effWaita
    simp only [ctx, c, issued_reg, result]
    rfl
  case nosync =>
    refine yields_writeD (t := t) (op := .waita) (run := effWaita) (.waita t j) 3 h rfl rfl ho ?_
    have result : waitaResult (occupy i (s.advance t)) ((s.ctx i).reg x.a) = .some 3 := by
      unfold waitaResult
      rw [angValid_occupy, decide_eq_true ok, whl_occupy, lost]
      rfl
    unfold effWaita
    simp only [ctx, c, issued_reg, result]
    rfl
  case waita =>
    refine yields_park h (run := effWaita) (.waita t j) _ rfl ho rfl ?_
    have result : waitaResult (occupy i (s.advance t)) ((s.ctx i).reg x.a) = .none := by
      unfold waitaResult
      rw [angValid_occupy, decide_eq_true ok, whl_occupy, pos, lensLin_occupy, hl, cycleLen_occupy]
      exact (if_neg (Nat.pos_iff_ne_zero.mp ahead)).trans (if_neg (Nat.not_le.mpr near))
    unfold effWaita
    simp only [ctx, c, issued_reg, result, time]
    rfl

end Sys2Proof.Machine
end

section
/-! Angles, snapshots, the mailbox, notices, closing records and the flow of tasks in angle code (08_angle_code_isa.md
R265,
R268, R269, R279 to R281, R284; 09_tasks_memory_dma_faults.md R298). -/

namespace Sys2Proof.Machine

theorem wrote_setCtx (i d : Nat) (v : Word) (c : Ctx) (s : State) :
    writeD i d v (s.setCtx i c) = s.setCtx i (c.wrote d v) := by
  rw [writeD_eq, State.ctx_setCtx, State.setCtx_setCtx]

theorem setQ_eq (i : Nat) (b : Bool) (s : State) : setQ i b s = s.setCtx i { s.ctx i with q := b } := rfl

section
variable {s : State} {j : Issue} {i : Nat} {x : AInstr} {t : Tick} (h : Issues s j i x)
include h

/-! ## Angles (R265) -/

omit h in
theorem ofInt_of_nonneg {z : Int} (hz : 0 ≤ z) : BitVec.ofInt 32 z = BitVec.ofNat 32 z.toNat := by
  conv_lhs => rw [← Int.toNat_of_nonneg hz]
  exact BitVec.ofInt_natCast ..

omit h in
/-- The forward distance between two angles of the cycle is their difference modulo its length (R214). -/
theorem fwdDist_eq_mod {len a b : Nat} (ha : a < len) (hb : b < len) : fwdDist len a b = (b + len - a) % len := by
  unfold fwdDist
  split
  · rw [show b + len - a = b - a + len by omega, Nat.add_mod_right, Nat.mod_eq_of_lt (by omega)]
  · rw [Nat.mod_eq_of_lt (by omega)]

/-- ADDA and DISTA: the angle with Q clear, or 0xFFFF_FFFF with Q set where there is none. -/
theorem yields_angle (k : Instr) {op : AOp} (f : State → Word → Word → Option Word) (r : Option Word)
    (hl : leaves_mode k = false) (ho : x.op = op)
    (he : effect k (s.advance (instant k)) = issueOp op j (effAngle f) (s.advance t))
    (hr : f (occupy i (s.advance t)) ((s.ctx i).reg x.a) ((s.ctx i).reg x.b) = r) :
    Yields k s (Leaves s t i ({ issued s t i with q := r.isNone }.wrote x.d (r.getD 0xFFFFFFFF))) := by
  refine yields_run k _ h he hl ho ?_
  unfold effAngle
  simp only [occupy_issued t i h.1, issued_reg, hr, setQ_eq]
  cases r <;> exact congrArg Done.next (wrote_setCtx ..)

/-! ## Snapshots (R268, R269) -/

omit h in
theorem snapshotOf_seq (s : State) (q : Seq) : snapshotOf { s with seq := q } = snapshotOf s := rfl

theorem snapshotOf_occupy : snapshotOf (occupy i (s.advance t)) = {
    ang := lensWord (s.advance t), etcLo := BitVec.ofNat 32 (max s.etc t)
    etcHi := BitVec.ofNat 32 (max s.etc t / 2 ^ 32)
    stat := BitVec.ofNat 32 (syncCode s.whl.sync + dirCode (dirOf s) * 16 + s.evs.cycle % 256 * 256 +
      s.lns.speed * 65536)
    cycle := BitVec.ofNat 32 s.evs.cycle } := by
  rw [occupy_seqOnly i (s.advance t), snapshotOf_seq, ← etc_alive t h.1]
  rfl

theorem stepsIdle : (occupy i (s.advance t)).evs.steps = none := by
  obtain ⟨-, -, idle⟩ := h.1
  unfold timeIdle at idle
  simp only [Bool.and_eq_true, Option.isNone_iff_eq_none] at idle
  rw [occupy_seqOnly i (s.advance t)]
  exact idle.1.2

theorem rowOk_rds (ho : x.op = .rds) : x.imm ≤ 10 := by
  have row := h.rowOk
  unfold AInstr.rowOk at row
  rw [ho] at row
  exact of_decide_eq_true (Bool.and_eq_true_iff.mp row).2

theorem rdsValue_occupy (hx : x.imm ≤ 10) (h5 : x.imm ≠ 5) : rdsValue (occupy i (s.advance t)) i x.imm =
    let c := issued s t i
    [c.snap.ang, c.snap.etcLo, c.snap.etcHi, c.snap.stat, c.snap.cycle, 0, (s.sq (i / 8)).mbxSeq,
      BitVec.ofNat 32 (i / 8 + i % 8 * 16 + c.prioNow * 256), BitVec.ofNat 32 (s.sq (i / 8)).notices.length,
      BitVec.ofNat 32 (c.c.toNat + c.v.toNat * 2 + c.q.toNat * 4), BitVec.ofNat 32 s.nTeeth].getD x.imm 0 := by
  have flags (b : Bool) (k : Nat) : flagAt b k = b.toNat * 2 ^ k := by cases b <;> simp [flagAt]
  have box : ((occupy i (s.advance t)).sq (i / 8)).mbxSeq = (s.sq (i / 8)).mbxSeq := by rw [occupy_sq, if_pos rfl]; rfl
  generalize x.imm = n at hx h5 ⊢
  unfold rdsValue
  rw [occupy_issued t i h.1]
  interval_cases n
  iterate 5 rfl
  · exact absurd rfl h5
  · exact box
  · rfl
  · exact congrArg (fun l => BitVec.ofNat 32 (List.length l)) (notices_occupy t _)
  · dsimp only
    rw [flags, flags, flags, pow_zero, Nat.mul_one]
    rfl
  · exact congrArg (BitVec.ofNat 32) (nTeeth_occupy i s t)

/-! ## Closing records (R280) -/

omit h in
theorem recordReadable_occupy (w : Word) : recordReadable (occupy i (s.advance t)) w = recordReadable s w := by
  rw [occupy_seqOnly i (s.advance t)]
  rfl

omit h in
theorem memWord_occupy (a : Nat) : (occupy i (s.advance t)).memWord a = s.memWord a := by
  have same : (occupy i (s.advance t)).mem = s.mem := by rw [occupy_seqOnly i (s.advance t)]; rfl
  unfold State.memWord
  rw [same]

omit h in
theorem isBad_occupy (a : Nat) : isBad (occupy i (s.advance t)) a = isBad s a := by
  have same : (occupy i (s.advance t)).mem = s.mem := by rw [occupy_seqOnly i (s.advance t)]; rfl
  unfold isBad
  rw [same]

/-! ## Task flow (R284, R298) -/

/-- END outside a handler: on to the next word, and IDLE. -/
def endedTask (k : Task) (c : Ctx) : Ctx := { c with pc := c.pc + 1, state := .idle, prioNow := k.prio }

theorem effEnd_noHandler (fh : (s.ctx i).fh = false) : effEnd i x (occupy i (s.advance t)) =
    let u := (occupy i (s.advance t)).setCtx i (endedTask (s.taskOf i) (issued s t i))
    .next (if (issued s t i).pending then startActivation (issued s t i).pendTrig i (s.taskOf i) u else u) := by
  have out : (issued s t i).fh = false := fh
  unfold effEnd nextPc
  simp only [setPc_eq, occupy_issued t i h.1, State.ctx_setCtx, out, Bool.false_eq_true, if_false, State.setCtx_setCtx,
    taskOf_occupy, endedTask]

end

theorem effYield_eq (i : Nat) (x : AInstr) (s : State) : effYield i x s =
    .next { s.setCtx i { s.ctx i with
      pc := (s.ctx i).pc + 1, state := .ready, order := s.seq.orderNext, readyAt := s.etc, wait := .none } with
      seq.orderNext := s.seq.orderNext + 1 } := by
  unfold effYield makeReady nextPc
  simp only [setPc_eq, State.ctx_setCtx, State.setCtx_setCtx]
  rfl

/-! ## Notices (R279) -/

/-- Nothing but time, the sequencers and HOST_INT_N changes where only the sequencers' block does. -/
theorem seqFrame_settle (s : State) (t : Tick) (q : Seq) : SeqFrame s (settle { s.advance t with seq := q }) := rfl

theorem notices_setSq_setCtx (s : State) (q i : Nat) (l : List (Word × Word)) (c : Ctx) :
    ((settle ((s.setSq q { s.sq q with notices := l }).setCtx i c)).sq q).notices = l :=
  congrArg SeqSt.notices (State.sq_setSq s q _)

theorem effNote_empty {s : State} {i : Nat} (x : AInstr) (hn : (s.sq (i / 8)).notices = []) : effNote i x s =
    .next (s.setCtx i { ({ s.ctx i with q := true }.setReg x.d 0).setReg x.b 0 with
      pc := (({ s.ctx i with q := true }.setReg x.d 0).setReg x.b 0).pc + 1 }) := by
  unfold effNote nextPc setReg
  simp only [hn, setPc_eq, setQ_eq, State.ctx_setCtx, State.setCtx_setCtx]

theorem effNote_cons {s : State} {i : Nat} (x : AInstr) {w0 w1 : Word} {r : List (Word × Word)}
    (hn : (s.sq (i / 8)).notices = (w0, w1) :: r) : effNote i x s =
    .next ((s.setSq (i / 8) { s.sq (i / 8) with notices := r }).setCtx i
      { ({ s.ctx i with q := false }.setReg x.d w0).setReg x.b w1 with
        pc := (({ s.ctx i with q := false }.setReg x.d w0).setReg x.b w1).pc + 1 }) := by
  unfold effNote nextPc setReg
  simp only [hn, setPc_eq, setQ_eq, State.ctx_setCtx, State.setCtx_setCtx]
  rfl

theorem Ctx.setReg_pc (c : Ctx) (d : Nat) (v : Word) : (c.setReg d v).pc = c.pc := by
  unfold Ctx.setReg
  split <;> rfl

/-! ## R265, R268, R269, R279 to R281, R284, R298 -/

/-- Settles O43: each row's operation is computed on the occupied sequencer, where everything it reads stands as at the
issue. -/
theorem angleStateInstructions : Obligations.AngleStateInstructions := by
  unfold Obligations.AngleStateInstructions
  intro s t j i x h c A B now len gives
  have ctx : (occupy i (s.advance t)).ctx i = c := occupy_issued t i h.1
  have angle (w : Word) := angValid_occupy i s t w
  have cycle := cycleLen_occupy i s t
  refine ⟨fun ho ok => ?adda, fun ho bad => ?addaBad, fun ho okA okB => ?dista, fun ho bad => ?distaBad, fun ho =>
      ?snap,
    fun ho sel => ?sigIn, fun ho sel => ?rds, fun ho => ?mbxrd, fun ho none => ?noteNone, fun w0 w1 r ho some => ?note,
    fun ho old => ?unreadable, fun ho readable clean good => ?caprd, fun ho => ?yield, fun ho fh idle => ?endIdle,
    fun ho fh next => ?endPending⟩
  case adda =>
    refine yields_angle (t := t) h (.adda t j) addaOf (some (BitVec.ofInt 32 ((A.toNat + B.toInt) % len))) rfl ho rfl ?_
    unfold addaOf angWord
    have pos : 0 < len := by omega
    rw [angle, decide_eq_true ok, cycle, ofInt_of_nonneg (Int.emod_nonneg _ (by omega))]
    rfl
  case addaBad =>
    refine yields_angle (t := t) h (.adda t j) addaOf none rfl ho rfl ?_
    unfold addaOf
    rw [angle, decide_eq_false (Nat.not_lt.mpr bad)]
    rfl
  case dista =>
    refine yields_angle (t := t) h (.dista t j) distaOf (some (BitVec.ofNat 32 ((B.toNat + len - A.toNat) % len))) rfl
        ho
      rfl ?_
    unfold distaOf
    have inA : A.toNat < len := by omega
    have inB : B.toNat < len := by omega
    rw [angle, angle, decide_eq_true okA, decide_eq_true okB, cycle, fwdDist_eq_mod inA inB]
    rfl
  case distaBad =>
    refine yields_angle (t := t) h (.dista t j) distaOf none rfl ho rfl ?_
    unfold distaOf
    rw [angle, angle, ← Bool.decide_and, decide_eq_false fun ok => bad.elim (Nat.not_le.mpr ok.1) (Nat.not_le.mpr ok.2)]
    rfl
  case snap =>
    refine yields_run (t := t) (op := .snap) (run := effSnap) (.snap t j) _ h rfl rfl ho ?_
    unfold effSnap nextPc
    simp only [stepsIdle h, snapshotOf_occupy h, Option.isSome_none, Bool.false_eq_true, if_false, setPc_eq, ctx,
      State.ctx_setCtx, State.setCtx_setCtx]
    rfl
  case sigIn =>
    refine yields_run (t := t) (op := .rds) (run := effRds) (.rds t j) _ h rfl rfl ho ?_
    unfold effRds
    have read : rdsValue (occupy i (s.advance t)) i x.imm = c.sigIn.setWidth 32 := by
      unfold rdsValue
      rw [sel, ctx]
      rfl
    simp only [read, if_pos sel, ctx, wrote_setCtx]
  case rds =>
    refine ⟨rowOk_rds h ho, yields_writeD (t := t) (op := .rds) (run := effRds) (.rds t j) _ h rfl rfl ho ?_⟩
    unfold effRds
    simp only [if_neg sel, rdsValue_occupy h (rowOk_rds h ho) sel]
    rfl
  case mbxrd =>
    refine yields_writeD (t := t) (op := .mbxrd) (run := effMbxrd) (.mbxrd t j) _ h rfl rfl ho ?_
    have box : ((occupy i (s.advance t)).sq (i / 8)).mailbox = (s.sq (i / 8)).mailbox := by
      rw [occupy_sq, if_pos rfl]
      rfl
    unfold effMbxrd
    rw [box]
  case noteNone =>
    refine yields_run (t := t) (op := .note) (run := effNote) (.note t j) _ h rfl rfl ho ?_
    rw [effNote_empty x ((notices_occupy t _).trans none), ctx, Ctx.setReg_pc, Ctx.setReg_pc]
  case note =>
    have waiting := (notices_occupy (s := s) (i := i) t (i / 8)).trans some
    refine yields_next (.note t j) (op := .note) (run := effNote) (t := t) h rfl rfl ho (effNote_cons x waiting)
      ⟨?own, ?rest, ?frame⟩
    case own =>
      rw [(settle_pieces ..).2.2.2.2.2.2.2.1, State.ctx_setCtx, ctx, Ctx.setReg_pc, Ctx.setReg_pc]
    case rest =>
      exact notices_setSq_setCtx ..
    case frame =>
      have seqOnly := occupy_seqOnly i (s.advance t)
      generalize occupy i (s.advance t) = o at seqOnly ⊢
      rw [seqOnly]
      exact seqFrame_settle s t _
  case unreadable =>
    refine yields_run (t := t) (op := .caprd) (run := effCaprd j.data) (.caprd t j) _ h rfl rfl ho ?_
    have unreadable : recordReadable s ((s.ctx i).reg x.a) = false := old
    unfold effCaprd
    simp only [ctx, c, issued_reg, recordReadable_occupy, unreadable, setQ_eq, wrote_setCtx]
    rfl
  case caprd =>
    refine yields_run (t := t) (op := .caprd) (run := effCaprd j.data) (.caprd t j) _ h rfl rfl ho ?_
    have fine : eccAt (occupy i (s.advance t)) (recordAddr ((s.ctx i).reg x.a) x.imm) j.data = .clean := by
      unfold eccAt
      rw [isBad_occupy, good, clean]
      rfl
    have known : recordReadable s ((s.ctx i).reg x.a) = true := readable
    unfold effCaprd eccRead
    simp only [ctx, c, issued_reg, recordReadable_occupy, known, fine, memWord_occupy, setQ_eq, wrote_setCtx]
    rfl
  case yield =>
    have place : (occupy i (s.advance t)).seq.orderNext = s.seq.orderNext := (occupy_rest i (s.advance t)).2.1
    refine yields_next (.yield t j) (op := .yield) (run := effYield) (t := t) h rfl rfl ho (effYield_eq ..) ?_
    rw [ctx, occupy_time i s t h.1, place, settle_orderNext]
    exact ⟨rfl, (leaves_setCtx t i _ h.1).orderNext _⟩
  case endIdle =>
    refine yields_run (t := t) (op := .endTask) (run := effEnd) (.endTask t j) _ h rfl rfl ho ?_
    rw [effEnd_noHandler h fh]
    exact congrArg Done.next (if_neg (Bool.eq_false_iff.mp idle))
  case endPending =>
    have time := occupy_time i s t h.1
    have place : (occupy i (s.advance t)).seq.orderNext = s.seq.orderNext := (occupy_rest i (s.advance t)).2.1
    refine yields_next (.endTask t j) (op := .endTask) (run := effEnd) (t := t) h rfl rfl ho (effEnd_noHandler h fh) ?_
    rw [next, if_pos rfl, startActivation_setCtx, time, place, settle_orderNext]
    exact (leaves_setCtx t i _ h.1).orderNext _

end Sys2Proof.Machine
end

section
/-! What a latch or a signal leaves of a context (08_angle_code_isa.md R273, R283), and the instructions that reach data
memory, a DMA channel and other sequencers (R281 to R283; 09_tasks_memory_dma_faults.md R309). -/

namespace Sys2Proof.Machine

/-! ## Latches (R273) -/

theorem State.ctx_setCtx_eq (s : State) (i k : Nat) (c : Ctx) :
    (s.setCtx i c).ctx k = if k = i then c else s.ctx k := Table.get_set ..

/-- A property of a context that no happening of R273 ends: not its latches, an activation that waits or is counted, an
activation that starts where it is IDLE, nor a WAITE that returns. -/
structure LatchStable (p : Ctx → Prop) : Prop where
  latches : ∀ c l, p c → p { c with latches := l }
  overruns : ∀ c n, p c → p { c with overruns := n }
  pending : ∀ c g, p c → p { c with pending := true, pendTrig := g }
  start : ∀ c t g o x, c.state = .idle → p c → p (c.started t g o x)
  wakes : ∀ c d v l o x, c.wait ≠ .none → p c →
    p { c.setReg d v with latches := l, state := .ready, order := o, readyAt := x, wait := .none }

section
variable {p : Ctx → Prop} (hp : LatchStable p) {s : State} {k : Nat} (h : p (s.ctx k))
include hp h

omit hp in
theorem setCtx_keeps {i : Nat} {c : Ctx} (hc : k = i → p c) : p ((s.setCtx i c).ctx k) := by
  rw [State.ctx_setCtx_eq]
  split
  next e => exact hc e
  next => exact h

theorem activate_keeps (g i : Nat) : p ((activate g i s).ctx k) := by
  unfold activate
  split
  · exact h
  next t _ =>
    dsimp only
    split
    · exact h
    next idle =>
      have start : (startActivation g i t s).ctx k =
          (s.setCtx i ((s.ctx i).started t g s.seq.orderNext s.etc)).ctx k := by
        unfold startActivation makeReady
        rw [State.ctx_setCtx, State.setCtx_setCtx]
        rfl
      rw [start]
      exact setCtx_keeps h fun e => hp.start _ _ _ _ _ idle (e ▸ h)
    · exact setCtx_keeps h fun e => hp.overruns _ _ (e ▸ h)
    · split
      · exact setCtx_keeps h fun e => hp.overruns _ _ (e ▸ h)
      · exact setCtx_keeps h fun e => hp.pending _ _ (e ▸ h)

theorem wakeLatch_keeps (i : Nat) : p ((wakeLatch i s).ctx k) := by
  unfold wakeLatch
  split
  next hw =>
    dsimp only
    split
    · exact h
    · unfold makeReady
      rw [State.ctx_setCtx, State.setCtx_setCtx]
      exact setCtx_keeps h fun e => hp.wakes _ _ _ _ _ _ (by simp [hw]) (e ▸ h)
  · exact h

theorem setLatch_keeps (b i : Nat) : p ((setLatch b i s).ctx k) := by
  unfold setLatch
  split
  · exact h
  · refine wakeLatch_keeps hp ?_ i
    have latched : p ((if b = 1 then s else s.setCtx i { s.ctx i with
        latches := (s.ctx i).latches ||| BitVec.twoPow 6 b }).ctx k) := by
      split
      · exact h
      · exact setCtx_keeps h fun e => hp.latches _ _ (e ▸ h)
    split
    · split
      · exact activate_keeps hp latched 4 i
      · exact latched
    · exact latched

theorem forEach_setLatch_keeps (b : Nat) (l : List Nat) : p ((forEach l (setLatch b) s).ctx k) := by
  unfold forEach
  induction l generalizing s with
  | nil => exact h
  | cons a r ih => exact ih (setLatch_keeps hp h b a)

theorem latchSq_keeps (b q : Nat) : p ((latchSq b q s).ctx k) := by
  unfold latchSq
  refine forEach_setLatch_keeps hp ?_ b _
  split
  · exact h
  · exact h

end

theorem Ctx.setReg_sigIn (c : Ctx) (d : Nat) (v : Word) : (c.setReg d v).sigIn = c.sigIn := by
  unfold Ctx.setReg
  split <;> rfl

theorem latchStable_sigIn (n : BitVec 16) : LatchStable (fun c => c.sigIn = n) :=
  ⟨fun _ _ h => h, fun _ _ h => h, fun _ _ h => h, fun _ _ _ _ _ _ h => h, fun _ _ _ _ _ _ _ h =>
    (Ctx.setReg_sigIn ..).trans h⟩

/-- A context that its sequencer may issue for keeps its place in its program. -/
theorem latchStable_pc (a : BitVec 16) : LatchStable (fun c => c.state ≠ .idle ∧ c.pc = a) :=
  ⟨fun _ _ h => h, fun _ _ h => h, fun _ _ h => h, fun _ _ _ _ _ idle h => absurd idle h.1,
    fun _ _ _ _ _ _ _ h => ⟨by simp, (Ctx.setReg_pc ..).trans h.2⟩⟩

/-! ## Signals (R283) -/

theorem signalIn_ctx (q a k : Nat) (s : State) : (signalIn q a s).ctx k =
    if k = a ∧ (s.ctx k).state ≠ .empty then { s.ctx k with sigIn := (s.ctx k).sigIn ||| BitVec.twoPow 16 q }
    else s.ctx k := by
  unfold signalIn
  split
  next e =>
    split
    next hk => exact absurd (hk.1 ▸ e) hk.2
    next => rfl
  next ne =>
    rw [State.ctx_setCtx_eq]
    by_cases hk : k = a
    · subst hk
      rw [if_pos rfl, if_pos ⟨rfl, ne⟩]
    · rw [if_neg hk, if_neg (fun e => hk e.1)]

/-- After a signal the bit stands in every context of the sequencer that holds a task; no context's state or place in
its program changes. -/
theorem forEach_signalIn (q : Nat) (hq : q < 16) (l : List Nat) (s : State) (k : Nat) :
    let u := forEach l (signalIn q) s
    (u.ctx k).state = (s.ctx k).state ∧ (u.ctx k).pc = (s.ctx k).pc ∧
      ((s.ctx k).sigIn.getLsbD q = true ∨ (k ∈ l ∧ (s.ctx k).state ≠ .empty) → (u.ctx k).sigIn.getLsbD q = true) := by
  unfold forEach
  induction l generalizing s with
  | nil => exact ⟨rfl, rfl, fun h => h.resolve_right (fun m => nomatch m.1)⟩
  | cons a r ih =>
    obtain ⟨state, pc, sig⟩ := ih (signalIn q a s)
    have same : ((signalIn q a s).ctx k).state = (s.ctx k).state ∧ ((signalIn q a s).ctx k).pc = (s.ctx k).pc := by
      rw [signalIn_ctx]
      split <;> exact ⟨rfl, rfl⟩
    refine ⟨state.trans same.1, pc.trans same.2, fun h => sig ?_⟩
    rw [same.1, signalIn_ctx]
    by_cases here : k = a ∧ (s.ctx k).state ≠ .empty
    · rw [if_pos here]
      exact .inl (by simp [hq])
    · rw [if_neg here]
      refine h.imp id fun m => ⟨(List.mem_cons.mp m.1).resolve_left (fun e => here ⟨e, m.2⟩), m.2⟩

theorem signalAll_seqOnly (q d : Nat) (s : State) : SeqOnly s (signalAll q d s) := by
  unfold signalAll
  refine SeqOnly.trans (Eq.refl _ : SeqOnly s (s.setSq d _)) (SeqOnly.foldl _ _ (fun s a => ?_) _)
  unfold signalIn
  split
  · exact SeqOnly.rfl
  · exact Eq.refl _

/-- A signal to sequencer `d`: the bit of its sender in every context that holds a task, and no context that runs moves
in its program. -/
theorem signal_leaves {s : State} {q i : Nat} (hq : q < 16) (d : Nat) (busy : (s.ctx i).state ≠ .idle) :
    let u := latchSq 2 d (signalAll q d s)
    (u.ctx i).pc = (s.ctx i).pc ∧ SeqOnly s u ∧
      ∀ k, k / 8 = d → (s.ctx k).state ≠ .empty → (u.ctx k).sigIn.getLsbD q = true := by
  have signalled (k : Nat) := forEach_signalIn q hq (ctxsOf d)
    (s.setSq d { s.sq d with sigIn := (s.sq d).sigIn ||| BitVec.twoPow 16 q }) k
  refine ⟨?pc, (signalAll_seqOnly q d s).trans (latchSq_frame ..), fun k hk held => ?sig⟩
  case pc =>
    obtain ⟨state, pc, -⟩ := signalled i
    have runs : ((signalAll q d s).ctx i).state ≠ .idle ∧ ((signalAll q d s).ctx i).pc = (s.ctx i).pc :=
      ⟨ne_of_eq_of_ne state busy, pc⟩
    exact (latchSq_keeps (latchStable_pc _) runs 2 d).2
  case sig =>
    obtain ⟨-, -, sig⟩ := signalled k
    rw [latchSq_keeps (latchStable_sigIn ((signalAll q d s).ctx k).sigIn) rfl 2 d]
    exact sig (.inr ⟨mem_ctxsOf.mpr hk, held⟩)

/-! ## Mailbox words in memory (R281) -/

theorem getElem_getList {α : Type} (d : α) (m : Table α) (a n k : Nat) (h : k < (Table.getList d m a n).length) :
    (Table.getList d m a n)[k] = m.get d (a + k) := by
  induction n generalizing a k with
  | zero => cases h
  | succ n ih =>
    cases k with
    | zero => rfl
    | succ k => simp only [Table.getList, List.getElem_cons_succ, ih, Nat.add_assoc, Nat.add_comm 1]

theorem length_getList {α : Type} (d : α) (m : Table α) (a n : Nat) : (Table.getList d m a n).length = n := by
  induction n generalizing a with
  | zero => rfl
  | succ n ih => rw [Table.getList, List.length_cons, ih]

theorem length_leBytes (n v : Nat) : (leBytes n v).length = n := by
  induction n generalizing v with
  | zero => rfl
  | succ n ih => rw [leBytes, List.length_cons, ih]

theorem getElem_leBytes (n v k : Nat) (h : k < (leBytes n v).length) :
    (leBytes n v)[k] = BitVec.ofNat 8 (v / 2 ^ (8 * k)) := by
  induction n generalizing v k with
  | zero => cases h
  | succ n ih =>
    cases k with
    | zero => simp [leBytes]
    | succ k =>
      have shift : (2 : Nat) ^ (8 * (k + 1)) = 256 * 2 ^ (8 * k) := by rw [Nat.mul_succ, pow_add]; omega
      simp only [leBytes, List.getElem_cons_succ, ih, shift, Nat.div_div_eq_div_mul]

/-- The bytes of words, one word after the other, each little-endian (R8). -/
theorem getElem_wordBytes (l : List Word) (k b : Nat) (hk : k < l.length) (hb : b < 4)
    (h : 4 * k + b < (l.flatMap (fun w => leBytes 4 w.toNat)).length) :
    (l.flatMap (fun w => leBytes 4 w.toNat))[4 * k + b] = BitVec.ofNat 8 (l[k].toNat / 2 ^ (8 * b)) := by
  induction l generalizing k with
  | nil => cases hk
  | cons w r ih =>
    simp only [List.flatMap_cons]
    cases k with
    | zero =>
      rw [List.getElem_append_left (by rw [length_leBytes]; omega)]
      simp only [Nat.mul_zero, Nat.zero_add, List.getElem_cons_zero, getElem_leBytes]
    | succ k =>
      rw [List.getElem_append_right (by rw [length_leBytes]; omega)]
      simp only [length_leBytes, List.getElem_cons_succ]
      have e : 4 * (k + 1) + b - 4 = 4 * k + b := by omega
      have hk' : k < r.length := Nat.lt_of_succ_lt_succ hk
      simp only [e]
      exact ih k hk' _

theorem length_wordBytes (l : List Word) : (l.flatMap (fun w => leBytes 4 w.toNat)).length = 4 * l.length := by
  induction l with
  | nil => rfl
  | cons w r ih => rw [List.flatMap_cons, List.length_append, length_leBytes, ih, List.length_cons]; omega

theorem length_mailboxBytes (c : SeqSt) (k n : Nat) : (mailboxBytes c k n).length = 4 * n := by
  unfold mailboxBytes
  rw [length_wordBytes, length_getList]

theorem getElem_mailboxBytes (c : SeqSt) (first n : Nat) {k b : Nat} (hk : k < n) (hb : b < 4)
    (h : 4 * k + b < (mailboxBytes c first n).length) :
    (mailboxBytes c first n)[4 * k + b] = BitVec.ofNat 8 ((c.mailbox.get 0 (first + k)).toNat / 2 ^ (8 * b)) := by
  have words : k < (Table.getList 0 c.mailbox first n).length := by rw [length_getList]; exact hk
  unfold mailboxBytes
  exact (getElem_wordBytes _ k b words hb h).trans (by rw [getElem_getList])

/-! ## The rows (R281 to R283) -/

section
variable {s : State} {j : Issue} {i : Nat} {x : AInstr} {t : Tick}

theorem dmaAnswer_occupy (c : Nat) : dmaAnswer (occupy i (s.advance t)) i c = dmaAnswer s i c := by
  have same : (occupy i (s.advance t)).dmaCh c = s.dmaCh c := by rw [occupy_seqOnly i (s.advance t)]; rfl
  unfold dmaAnswer
  rw [taskOf_occupy, same]

/-- An answer other than STARTED changes nothing but the context (R282). -/
theorem effDmago_refused (hr : dmaAnswer s i x.imm ≠ 0) : effDmago i x (occupy i (s.advance t)) =
    .next (writeD i x.d (BitVec.ofNat 32 (dmaAnswer s i x.imm)) (occupy i (s.advance t))) := by
  unfold effDmago
  rw [dmaAnswer_occupy]
  exact congrArg (fun u => Done.next (writeD i x.d _ u)) (if_neg hr)

theorem dmaAnswer_started {c : Nat} (grant : (s.taskOf i).dmaGrant.getLsbD c = true) (idle : (s.dmaCh c).phase ≠ .load)
    (still : (s.dmaCh c).phase ≠ .move) : dmaAnswer s i c = 0 := by
  unfold dmaAnswer
  rw [if_neg (by simp [grant])]
  split
  next e => exact absurd e idle
  next e => exact absurd e still
  next => rfl

theorem effDmago_started (hr : dmaAnswer s i x.imm = 0) (h : Alive s) : effDmago i x (occupy i (s.advance t)) =
    .next (writeD i x.d 0 (dmaStart i x.imm ((s.ctx i).reg x.a).toNat (occupy i (s.advance t)))) := by
  unfold effDmago
  rw [dmaAnswer_occupy, hr, occupy_issued t i h]
  rfl

theorem writeD_dmaStart (i d c a : Nat) (v : Word) (s : State) : let u := settle (writeD i d v (dmaStart i c a s))
    u.ctx i = (s.ctx i).wrote d v ∧
      u.dmaCh c = { s.dmaCh c with
        phase := .load, cause := 0, chain := 0, runs := wrapInc 16 (s.dmaCh c).runs, desc := a, bytes := 0
        ownQ := i / 8, ownS := i % 8, segs := (s.taskOf i).segs } ∧
      (∀ m, m ≠ c → u.dmaCh m = s.dmaCh m) ∧ u.mem = s.mem := by
  rw [writeD_eq]
  refine ⟨State.ctx_setCtx .., State.dmaCh_setDma s c _, fun m hm => State.dmaCh_setDma_other s _ hm, rfl⟩

theorem bits_low (b : Nat) : bits b 0 8 = b % 256 := by
  show b / 1 % 256 = b % 256
  rw [Nat.div_one]

theorem effMbxcp_bad {u : State} {b : Nat} (hb : ((u.ctx i).reg x.b).toNat = b)
    (bad : b / 256 % 256 = 0 ∨ 64 < b % 256 + b / 256 % 256 ∨ 65536 ≤ b) :
    effMbxcp i x u = .next (u.setCtx i { u.ctx i with q := true, pc := (u.ctx i).pc + 1 }) := by
  have wide : b < 4294967296 := hb ▸ ((u.ctx i).reg x.b).isLt
  have refused : bits b 8 8 = 0 ∨ 64 < bits b 0 8 + bits b 8 8 ∨ bits b 16 16 ≠ 0 := by
    rw [bits_low]
    exact bad.imp id (Or.imp id fun high => by unfold bits; omega)
  unfold effMbxcp nextPc
  simp only [hb, if_pos refused, setQ_eq, setPc_eq, State.ctx_setCtx, State.setCtx_setCtx]

/-- The copy takes place where the whole destination is admitted, aligned data memory (R281). -/
theorem effMbxcp_copies {u : State} {a : Word} {b : Nat} (ha : (u.ctx i).reg x.a = a)
    (hb : ((u.ctx i).reg x.b).toNat = b) (pos : 0 < b / 256 % 256) (fits : b % 256 + b / 256 % 256 ≤ 64)
    (small : b < 65536) (segs : admitted (u.taskOf i).segs .store a.toNat (4 * (b / 256 % 256)) = true)
    (data : regionOf a.toNat = .data) (aligned : a.toNat % 4 = 0) :
    effMbxcp i x u = .next (writeD i x.d (u.sq (i / 8)).mbxSeq
      (setQ i false (u.memWrite a.toNat (mailboxBytes (u.sq (i / 8)) (b % 256) (b / 256 % 256))))) := by
  have count : bits b 8 8 = b / 256 % 256 := rfl
  have high : bits b 16 16 = 0 := by unfold bits; omega
  have inSpace : ¬ 0x1000000 ≤ a.toNat := by
    intro out
    unfold regionOf at data
    simp only [show ¬ a.toNat < 0x10000 by omega, show ¬ a.toNat < 0x120000 by omega, show ¬ a.toNat < 0x128000 by
        omega,
      show ¬ a.toNat < 0x240000 by omega, show ¬ a.toNat < 0x480000 by omega, and_false, if_false] at data
    split_ifs at data
  have admits : (accessRefused u i .store a.toNat (4 * (b / 256 % 256)) || regionOf a.toNat != .data) = false := by
    simp [accessRefused, inSpace, segs, data]
  unfold effMbxcp
  simp only [ha, hb, count, bits_low, high, admits, aligned]
  rw [if_neg (by omega)]
  rfl

theorem writeD_memWrite (i d a : Nat) (v : Word) (l : List Byte) (s : State) :
    let u := settle (writeD i d v (setQ i false (s.memWrite a l)))
    u.ctx i = { s.ctx i with q := false }.wrote d v ∧
      (∀ k (h : k < l.length), u.memByte (a + k) = l[k]) ∧
      ∀ k, k < a ∨ a + l.length ≤ k → u.memByte k = s.memByte k := by
  rw [setQ_eq, wrote_setCtx]
  exact ⟨State.ctx_setCtx .., fun k h => State.memByte_memWrite s a k l h,
    fun k h => State.memByte_memWrite_other s a k l h⟩

theorem raise_present {n : Nat} (present : absentSource n = false) {s : State} (h : s.sys.mode = .run) :
    raise n s = { s with irc := ircRaise n s.irc } := by
  rw [raise_run _ s h, present, Bool.and_false]
  rfl

/-- A raise of a source of a present resource leaves it pending at HOST (R402). -/
theorem raise_hostPend {n : Nat} (hn : n < 256) (present : absentSource n = false) {s : State} (h : s.sys.mode = .run) :
    (raise n s).irc.host.pend.getLsbD n = true := by
  rw [raise_present present h]
  show (s.irc.host.raise n).pend.getLsbD n = true
  rw [IrcTarget.raise_pend]
  simp [hn]

theorem ctx_nextPc (i : Nat) (s : State) : (nextPc i s).ctx i = { s.ctx i with pc := (s.ctx i).pc + 1 } :=
  State.ctx_setCtx ..

theorem nextPc_seqOnly (i : Nat) (s : State) : SeqOnly s (nextPc i s) := Eq.refl _

theorem effSignal_host (u : State) (hx : x.imm = 0) : ∃ w : State, effSignal i x u = .next (raise (168 + i / 8) w) ∧
    w.ctx i = { u.ctx i with pc := (u.ctx i).pc + 1 } ∧ (w.sq (i / 8)).sigVal = (u.ctx i).reg x.a ∧ w.mem = u.mem ∧
    w.sys = u.sys := by
  refine ⟨_, congrArg Done.next (if_pos hx), ?_, ?_, rfl, rfl⟩
  · exact State.ctx_setCtx ..
  · exact congrArg SeqSt.sigVal (State.sq_setSq ..)

/-- Settles O44: the words go to memory from the mailbox as it stands; DMAGO is its answer; a signal sets its bit before
the latches it wakes are looked at. -/
theorem angleReachesOut : Obligations.AngleReachesOut := by
  unfold Obligations.AngleReachesOut
  intro s t j i x h c A B first n
  have ctx : (occupy i (s.advance t)).ctx i = c := occupy_issued t i h.1
  refine ⟨fun ho bad => ?mbxcpBad, fun ho pos fits small segs data aligned => ?mbxcp, fun ho refused => ?dmagoNot,
    fun ho grant load move => ?dmago, fun ho host => ?signalHost, fun ho other => ?signal⟩
  case mbxcpBad =>
    refine yields_run (t := t) (op := .mbxcp) (run := effMbxcp) (.mbxcp t j) _ h rfl rfl ho ?_
    rw [effMbxcp_bad (b := B.toNat) (by rw [ctx]; rfl) bad, ctx]
  case mbxcp =>
    have box : ((occupy i (s.advance t)).sq (i / 8)).mailbox = (s.sq (i / 8)).mailbox ∧
        ((occupy i (s.advance t)).sq (i / 8)).mbxSeq = (s.sq (i / 8)).mbxSeq := by
      rw [occupy_sq, if_pos rfl]
      exact ⟨rfl, rfl⟩
    have mem (a : Nat) : (occupy i (s.advance t)).memByte a = s.memByte a := by
      rw [occupy_seqOnly i (s.advance t)]
      rfl
    have copies := effMbxcp_copies (i := i) (x := x) (u := occupy i (s.advance t)) (a := A) (b := B.toNat)
      (by rw [ctx]; rfl) (by rw [ctx]; rfl) pos fits small (by rw [taskOf_occupy]; exact segs) data aligned
    have done := writeD_memWrite i x.d A.toNat ((occupy i (s.advance t)).sq (i / 8)).mbxSeq
      (mailboxBytes ((occupy i (s.advance t)).sq (i / 8)) first n) (occupy i (s.advance t))
    rw [ctx] at done
    obtain ⟨own, bytes, others⟩ := done
    rw [length_mailboxBytes] at others
    refine yields_next (t := t) (op := .mbxcp) (run := effMbxcp) (.mbxcp t j) h rfl rfl ho copies
      ⟨?own, fun k hk b hb => ?bytes, fun a ha => ?others⟩
    case own => rw [← box.2]; exact own
    case bytes =>
      have inside : 4 * k + b < (mailboxBytes ((occupy i (s.advance t)).sq (i / 8)) first n).length := by
        rw [length_mailboxBytes]
        omega
      rw [Nat.add_assoc, ← box.1, ← getElem_mailboxBytes _ first n hk hb inside]
      exact bytes _ inside
    case others => exact (others a ha).trans (mem a)
  case dmagoNot =>
    exact yields_writeD (t := t) (op := .dmago) (run := effDmago) (.dmago t j) _ h rfl rfl ho (effDmago_refused refused)
  case dmago =>
    have same (m : Nat) : (occupy i (s.advance t)).dmaCh m = s.dmaCh m := by rw [occupy_seqOnly i (s.advance t)]; rfl
    have mem : (occupy i (s.advance t)).mem = s.mem := by rw [occupy_seqOnly i (s.advance t)]; rfl
    obtain ⟨own, channel, others, kept⟩ := writeD_dmaStart i x.d x.imm A.toNat 0 (occupy i (s.advance t))
    rw [ctx] at own
    rw [same, taskOf_occupy] at channel
    exact yields_next (t := t) (op := .dmago) (run := effDmago) (.dmago t j) h rfl rfl ho
      (effDmago_started (dmaAnswer_started grant load move) h.1)
      ⟨own, channel, fun m hm => (others m hm).trans (same m), kept.trans mem⟩
  case signalHost =>
    have sq : i / 8 = j.sq.val := bestCtx_sq h.2.2.1
    have inRange := j.sq.isLt
    have present : absentSource (168 + i / 8) = false := by
      unfold absentSource
      simp only [Bool.or_eq_false_iff, decide_eq_false_iff_not, beq_eq_false_iff_ne]
      omega
    have seqOnly : (occupy i (s.advance t)).sys = s.sys ∧ (occupy i (s.advance t)).mem = s.mem := by
      rw [occupy_seqOnly i (s.advance t)]
      exact ⟨rfl, rfl⟩
    obtain ⟨w, hw, own, val, mem, sys⟩ := effSignal_host (i := i) (x := x) (occupy i (s.advance t)) host
    rw [ctx] at own val
    have mode : w.sys.mode = .run := by rw [sys, seqOnly.1]; exact h.1.1
    refine yields_next (t := t) (op := .signal) (run := effSignal) (.signal t j) h rfl rfl ho hw
      ⟨?own, ?val, raise_hostPend (by omega) present mode, ?mem⟩
    case own => rw [(settle_pieces ..).2.2.2.2.2.2.2.1, (raise_pieces ..).2.2.2.2.2.2.2.1, own]
    case val => rw [(settle_pieces ..).2.2.2.2.2.2.1, (raise_pieces ..).2.2.2.2.2.2.1, val]; rfl
    case mem =>
      rw [raise_present present mode]
      exact mem.trans seqOnly.2
  case signal =>
    obtain ⟨w, hw⟩ : ∃ w, w = nextPc i (occupy i (s.advance t)) := ⟨_, rfl⟩
    have row : effSignal i x (occupy i (s.advance t)) =
        .next (latchSq 2 (A.toNat % 16) (signalAll (i / 8) (A.toNat % 16) w)) := by
      unfold effSignal
      rw [ctx, hw]
      exact congrArg Done.next (if_neg other)
    have sq : i / 8 < 16 := bestCtx_sq h.2.2.1 ▸ j.sq.isLt
    have own : w.ctx i = { c with pc := c.pc + 1 } := by rw [hw, ctx_nextPc, ctx]
    obtain ⟨pc, seqOnly, sig⟩ := signal_leaves (s := w) (i := i) sq (A.toNat % 16) (by rw [own]; simp [c, issued])
    refine yields_next (t := t) (op := .signal) (run := effSignal) (.signal t j) h rfl rfl ho row
      ⟨?pc, ?frame, fun k hk busy => ?sig⟩
    case pc => rw [(settle_pieces ..).2.2.2.2.2.2.2.1, pc, own]
    case frame =>
      have all : SeqOnly (s.advance t) (latchSq 2 (A.toNat % 16) (signalAll (i / 8) (A.toNat % 16) w)) :=
        (occupy_seqOnly i (s.advance t)).trans (SeqOnly.trans (b := w) (hw ▸ nextPc_seqOnly ..) seqOnly)
      generalize latchSq 2 (A.toNat % 16) (signalAll (i / 8) (A.toNat % 16) w) = o at all ⊢
      rw [all]
      exact seqFrame_settle s t _
    case sig =>
      rw [(settle_pieces ..).2.2.2.2.2.2.2.1]
      refine sig k hk ?_
      by_cases e : k = i
      · rw [e, own]
        simp [c, issued]
      · have kept : w.ctx k = (occupy i (s.advance t)).ctx k := by
          rw [hw]
          exact State.ctx_setCtx_other _ _ e
        rw [kept, occupy_ctx, if_neg e]
        split
        · simp
        · exact busy

end

end Sys2Proof.Machine
end

section
/-! What ends the park of a context, and what a TIME trigger does (08_angle_code_isa.md R271 to R273, R275;
09_tasks_memory_dma_faults.md R297). -/

namespace Sys2Proof.Machine

theorem makeReady_setCtx (i : Nat) (c : Ctx) (s : State) : makeReady i (s.setCtx i c) =
    { s.setCtx i { c with state := .ready, order := s.seq.orderNext, readyAt := s.etc, wait := .none } with
      seq.orderNext := s.seq.orderNext + 1 } := by
  unfold makeReady
  simp only [State.ctx_setCtx, State.setCtx_setCtx]
  rfl

/-- A command that changes context `i` alone to `c` and lines it up as ready. -/
theorem yields_ready (k : Instr) {s : State} {t : Tick} {i : Nat} (c : Ctx) (h : Alive s)
    (hl : leaves_mode k = false)
    (he : effect k (s.advance (instant k)) = makeReady i ((s.advance t).setCtx i c)) :
    Yields k s (fun u =>
      u.ctx i = { c with state := .ready, order := s.seq.orderNext, readyAt := max s.etc t, wait := .none } ∧
      (∀ m, m ≠ i → u.ctx m = s.ctx m) ∧ u.seq.sq = s.seq.sq ∧ SeqFrame s { u with lns := s.lns }) := by
  refine yields_alive k h hl ?_
  rw [he, makeReady_setCtx, etc_alive t h]
  exact ⟨Table.get_set_same .., fun m hm => Table.get_set_other _ _ _ hm, rfl, seqFrame_settle s t _⟩

/-- Nothing is passed by counting up to an instant where the Lens stands at the angle last passed. -/
theorem passTo_of_seen {s : State} {x : Tick} (h : lensLinAt s x = some s.lns.seen) : passTo x s = s := by
  unfold passTo
  rw [h]
  split
  next e =>
    cases e
    split
    · exact if_pos rfl
    · rfl
  · rfl

theorem waitaTimeout_of_angle {s : State} {i d n : Nat} {w : Word} {t0 : Tick} (h : (s.ctx i).wait = .angle d w t0 n) :
    waitaTimeout i s = makeReady i (s.setCtx i ((s.ctx i).setReg d 2)) := by
  unfold waitaTimeout
  rw [h]
  rfl

section
variable {s : State} {i : Nat} {k : Task} (hk : s.task i = some k)
include hk

theorem activate_of_idle {g : Nat} (idle : (s.ctx i).state = .idle) : activate g i s = startActivation g i k s := by
  unfold activate
  simp only [hk, idle]

theorem activate_of_parked {g : Nat} (parked : (s.ctx i).state = .parked) (free : (s.ctx i).pending = false) :
    activate g i s = s.setCtx i { s.ctx i with pending := true, pendTrig := g } := by
  unfold activate
  simp only [hk, parked, free, Bool.false_eq_true, if_false]

theorem doTimeTrigger_due {q p : Nat} (hi : 8 * q + p = i) (trig : k.trig = 2) (due : timeTriggerAt s i ≤ s.etc)
    (awake : asleep s = false) :
    doTimeTrigger q p s = activate 3 i (s.setCtx i { s.ctx i with nextTime := (s.ctx i).nextTime + 1 }) := by
  subst hi
  unfold doTimeTrigger
  dsimp only
  rw [hk]
  exact if_pos ⟨trig, due, awake⟩

end

/-- Settles O45: each row is the write of one context's registers and its place among the ready ones. -/
theorem parkedContextsWake : Obligations.ParkedContextsWake := by
  unfold Obligations.ParkedContextsWake
  intro s t q p h i c x wakes
  have time : (s.advance t).etc = x := etc_alive t h
  have awake : asleep (s.advance t) = false := by unfold asleep; rw [show (s.advance t).sys.mode = .run from h.1]; rfl
  refine ⟨fun d target hw due => ?reached, fun d mask t0 n hw hn due => ?latch, fun d w t0 n hw hn due seen => ?angle,
    fun d b r a hw => ?inserted, fun d b r a hw => ?answered, fun k hk trig due idle => ?starts,
    fun k hk trig due parked free => ?waits⟩
  case reached =>
    refine yields_ready (t := t) _ _ h rfl ?_
    show doWaittReached q.val p.val (s.advance t) = _
    unfold doWaittReached
    rw [show ((s.advance t).ctx (8 * q.val + p.val)).wait = .instant d target from hw]
    exact if_pos (time ▸ due)
  case latch =>
    refine yields_ready (t := t) _ _ h rfl ?_
    show doWaitTimeout q.val p.val (s.advance t) = _
    unfold doWaitTimeout
    dsimp only
    rw [show ((s.advance t).ctx (8 * q.val + p.val)).wait = .latch d mask t0 n from hw]
    exact if_pos ⟨hn, time ▸ due⟩
  case angle =>
    refine yields_ready (t := t) _ _ h rfl ?_
    show doWaitTimeout q.val p.val (s.advance t) = _
    have parked : ((s.advance t).ctx (8 * q.val + p.val)).wait = .angle d w t0 n := hw
    have still : passTo (t0 + 8 * n) (s.advance t) = s.advance t := passTo_of_seen seen
    unfold doWaitTimeout
    dsimp only
    rw [parked]
    dsimp only
    rw [if_pos ⟨hn, time ▸ due⟩, still, waitaTimeout_of_angle parked]
    rfl
  case inserted =>
    refine yields_ready (t := t) _ _ h rfl ?_
    show doSchedulerResult q.val p.val (s.advance t) = _
    unfold doSchedulerResult
    dsimp only
    rw [show ((s.advance t).ctx (8 * q.val + p.val)).wait = .answered d b true r a none from hw]
    dsimp only
    unfold setReg
    rw [if_pos rfl, State.ctx_setCtx, State.setCtx_setCtx]
    rfl
  case answered =>
    refine yields_ready (t := t) _ _ h rfl ?_
    show doSchedulerResult q.val p.val (s.advance t) = _
    unfold doSchedulerResult
    dsimp only
    rw [show ((s.advance t).ctx (8 * q.val + p.val)).wait = .answered d b false r a none from hw]
    rfl
  case starts =>
    refine yields_ready (t := t) (i := i) _ _ h rfl ?_
    refine (doTimeTrigger_due (s := s.advance t) (i := i) hk rfl trig (time ▸ due) awake).trans ?_
    rw [activate_of_idle (s := (s.advance t).setCtx i _) hk (by rw [State.ctx_setCtx]; exact idle)]
    unfold startActivation
    simp only [State.ctx_setCtx, State.setCtx_setCtx]
    rfl
  case waits =>
    refine yields_alive _ h rfl ?_
    have effected : effect (.timeTrigger t q p) (s.advance (instant (.timeTrigger t q p))) = (s.advance t).setCtx i
        { c with pending := true, pendTrig := 3, nextTime := c.nextTime + 1 } := by
      refine (doTimeTrigger_due (s := s.advance t) (i := i) hk rfl trig (time ▸ due) awake).trans ?_
      rw [activate_of_parked (s := (s.advance t).setCtx i _) hk (by rw [State.ctx_setCtx]; exact parked)
        (by rw [State.ctx_setCtx]; exact free), State.ctx_setCtx, State.setCtx_setCtx]
      rfl
    rw [effected]
    exact ⟨State.ctx_setCtx .., seqFrame_settle s t _⟩

end Sys2Proof.Machine
end

section
/-! What a reaction to a fault does (13_interrupts_fault_collection.md R412 to R418): each operation of the drive and of
the fault collector is a run of few kinds of writes, and what no such kind touches stays as it was. -/

namespace Sys2Proof.Machine

/-- A kind of write, with the index of the piece it goes to. -/
inductive Move where
  | chan (k : Nat) | bank (k : Nat) | kettle (k : Nat) | eb (n : Nat) | kc (k : Nat) | dch (k : Nat) | dgt (k : Nat)
  | slot (i : Nat) | near (i : Nat) | counts | memory | raise | wake | log | mirror | notice | fresh | reaction

/-- A channel that runs no profile only counts; one that runs goes on or turns off. -/
def ChanStep (c d : Chan) : Prop :=
  ((c.phase = .peak ∨ c.phase = .transition ∨ c.phase = .steep) ∨ d = { c with terms := d.terms }) ∧
    (d.phase = c.phase ∨ d.phase = .turnOff)

/-- A Kettle keeps what is measured of it, and one at fault is shown at fault or bleeding. -/
def KettleStep (q r : Kettle) : Prop :=
  r.volt = q.volt ∧ r.dump = q.dump ∧ r.faulted = q.faulted ∧ r.capUf = q.capUf ∧ r.measuredAt = q.measuredAt ∧
    (q.faulted = true → r.state = q.state ∨ r.state = .fault ∨ r.state = .bleed)

/-- A channel's diagnostics lose a test or count a capture missed. -/
def DiaStep (h g : DiaCh) : Prop :=
  g = { h with last := g.last, busy := g.busy, test := g.test, testSingle := g.testSingle } ∧
    (h.test = none → g.test = none)

/-- The fault collector reacts: what it has recorded stays. -/
def FltStep (f g : Flt) : Prop :=
  g = { f with
    pend := g.pend, grace := g.grace, safe := g.safe, safeGrace := g.safeGrace, safeSrc := g.safeSrc
    safeEtc := g.safeEtc }

/-- One write of a kind. -/
inductive Makes : Move → State → State → Prop where
  | chan (k : Nat) (c : Chan) (s : State) (h : ChanStep (s.chan k) c) : Makes (.chan k) s (s.setChan k c)
  | bank (b : Nat) (c : BankSt) (s : State) : Makes (.bank b) s (s.setBank b c)
  | kettle (k : Nat) (q : Kettle) (s : State) (h : KettleStep (s.kettle k) q) : Makes (.kettle k) s (s.setKettle k q)
  | eb (n : Nat) (s : State) : Makes (.eb n) s (s.setEb n (ebStop (s.ebU n)))
  | kc (k : Nat) (s : State) : Makes (.kc k) s (kcStop k s)
  | dch (k : Nat) (g : DiaCh) (s : State) (h : DiaStep (s.dch k) g) : Makes (.dch k) s (s.setDch k g)
  | dgt (b : Nat) (d : Digitiser) (s : State) : Makes (.dgt b) s (s.setDgt b d)
  | slot (i : Nat) (e : Event) (s : State) (h : e.state = .free ∨ e.state = .quarantined) :
      Makes (.slot i) s (s.setSlot i e)
  | near (i : Nat) (x : Tick) (s : State) :
      Makes (.near i) s (s.setSlot i { s.slot i with state := .near, proj := x })
  | counts (e : Evs) (s : State) (h : e.slots = s.evs.slots ∧ e.hold = s.evs.hold) : Makes .counts s { s with evs := e }
  | memory (a : Nat) (l : List Byte) (s : State) (h : 0x120000 ≤ a ∧ a + l.length ≤ 0x128000) :
      Makes .memory s (s.memWrite a l)
  | raise (n : Nat) (s : State) : Makes .raise s (Machine.raise n s)
  | wake (b : Nat) (s : State) : Makes .wake s (Machine.wake b s)
  | log (b : Bgs) (s : State) : Makes .log s { s with bgs := b }
  | mirror (o : Obs) (s : State) : Makes .mirror s { s with obs := o }
  | notice (o : Nat) (a b : Word) (s : State) : Makes .notice s (Machine.notice o a b s)
  | fresh (n : Nat) (s : State) : Makes .fresh s { s with fresh := n }
  | reaction (f : Flt) (s : State) (h : FltStep s.flt f) : Makes .reaction s { s with flt := f }

/-- The state is reached by writes of the given kinds alone. -/
def Within (A : Move → Prop) : State → State → Prop := Relation.ReflTransGen (fun s u => ∃ m, A m ∧ Makes m s u)

theorem Within.refl {A : Move → Prop} (s : State) : Within A s s := Relation.ReflTransGen.refl

theorem Within.trans {A : Move → Prop} {s u v : State} (h : Within A s u) (g : Within A u v) : Within A s v :=
  Relation.ReflTransGen.trans h g

theorem Makes.within {A : Move → Prop} {m : Move} {s u : State} (h : Makes m s u) (ha : A m) : Within A s u :=
  Relation.ReflTransGen.single ⟨m, ha, h⟩

theorem Within.mono {A B : Move → Prop} {s u : State} (h : Within A s u) (hAB : ∀ m, A m → B m) : Within B s u :=
  Relation.ReflTransGen.mono (fun _ _ ⟨m, ha, hm⟩ => ⟨m, hAB m ha, hm⟩) _ _ h

/-- What every write of the kinds keeps is kept. -/
theorem Within.keeps {A : Move → Prop} {P : State → Prop} (hP : ∀ m s u, A m → Makes m s u → P s → P u) {s u : State}
    (h : Within A s u) (hs : P s) : P u := by
  induction h with
  | refl => exact hs
  | tail _ step ih =>
    obtain ⟨m, ha, hm⟩ := step
    exact hP m _ _ ha hm ih

/-- What no write of the kinds changes is as before. -/
theorem Within.same {A : Move → Prop} {α : Type} {f : State → α} (hf : ∀ m s u, A m → Makes m s u → f u = f s)
    {s u : State} (h : Within A s u) : f u = f s :=
  Within.keeps (P := fun v => f v = f s) (fun m v w ha hm e => (hf m v w ha hm).trans e) h (Eq.refl (f s))

theorem Within.forEach {A : Move → Prop} {f : Nat → State → State} (l : List Nat) (hf : ∀ i ∈ l, ∀ s, Within A s (f i
    s))
    (s : State) : Within A s (Machine.forEach l f s) := by
  unfold Machine.forEach
  induction l generalizing s with
  | nil => exact .refl s
  | cons a r ih =>
    exact (hf a List.mem_cons_self s).trans (ih (fun i hi => hf i (List.mem_cons_of_mem a hi)) (f a s))

/-! ## What stays -/

/-- What no kind of write touches: time, the supplies, the wheel, the Lens, the links and the rest. -/
def Rest (s u : State) : Prop :=
  u = { s with
    fresh := u.fresh, sys.wakePending := u.sys.wakePending, irc := u.irc, flt := u.flt, pwm := u.pwm, evs := u.evs
    act := u.act, dia := u.dia, seq := u.seq, mem := u.mem, bgs := u.bgs, obs := u.obs }

theorem Rest.trans {s u v : State} (h : Rest s u) (g : Rest u v) : Rest s v := by
  unfold Rest at *
  rw [g, h]

theorem Rest.of_raise {s u : State} {i : Irc} {w : BitVec 13} (h : u = { s with irc := i, sys.wakePending := w }) :
    Rest s u := by
  subst h
  rfl

theorem Rest.of_seq {s u : State} (h : SeqOnly s u) : Rest s u := by
  unfold SeqOnly at h
  rw [h]
  rfl

theorem Makes.rest {m : Move} {s u : State} (h : Makes m s u) : Rest s u := by
  cases h with
  | raise n s => exact Rest.of_raise (raise_frame n s)
  | wake b s => exact Rest.of_raise (wake_frame b s)
  | notice o a b s => exact Rest.of_seq (notice_frame o a b s)
  | _ => rfl

theorem Within.rest {A : Move → Prop} {s u : State} (h : Within A s u) : Rest s u :=
  Within.keeps (fun _ _ _ _ hm hr => Rest.trans hr hm.rest) h (by rfl)

theorem Makes.ctx {m : Move} {s u : State} (h : Makes m s u) {p : Ctx → Prop} (hp : LatchStable p) {k : Nat}
    (hk : p (s.ctx k)) : p (u.ctx k) := by
  cases h with
  | raise n s => rwa [(raise_pieces k n s).2.2.2.2.2.2.2.1]
  | wake b s => rw [wake_frame]; exact hk
  | notice o a b s =>
    unfold Machine.notice
    split
    · exact hk
    · dsimp only
      split
      · exact latchSq_keeps hp (s := s.setSq o _) hk 1 o
      · exact hk
  | _ => exact hk

theorem Within.ctx {A : Move → Prop} {s u : State} (h : Within A s u) {p : Ctx → Prop} (hp : LatchStable p) {k : Nat}
    (hk : p (s.ctx k)) : p (u.ctx k) :=
  Within.keeps (P := fun v => p (v.ctx k)) (fun _ _ _ _ hm hv => hm.ctx hp hv) h hk

section
variable {m : Move} {s u : State} (h : Makes m s u)
include h

theorem Makes.chan_eq {k : Nat} (hm : m ≠ .chan k) : u.chan k = s.chan k := by
  cases h with
  | chan j c s => exact Table.get_set_other _ _ _ (fun e => hm (congrArg Move.chan e.symm))
  | raise n s => exact (raise_pieces k n s).1
  | wake b s => rw [wake_frame]; rfl
  | notice o a b s => exact (notice_pieces k o a b s).1
  | _ => rfl

theorem Makes.bank_eq {k : Nat} (hm : m ≠ .bank k) : u.bank k = s.bank k := by
  cases h with
  | bank j c s => exact Table.get_set_other _ _ _ (fun e => hm (congrArg Move.bank e.symm))
  | raise n s => exact (raise_pieces k n s).2.1
  | wake b s => rw [wake_frame]; rfl
  | notice o a b s => exact (notice_pieces k o a b s).2.1
  | _ => rfl

theorem Makes.kettle_eq {k : Nat} (hm : m ≠ .kettle k) : u.kettle k = s.kettle k := by
  cases h with
  | kettle j c s => exact Table.get_set_other _ _ _ (fun e => hm (congrArg Move.kettle e.symm))
  | raise n s => exact (raise_pieces k n s).2.2.1
  | wake b s => rw [wake_frame]; rfl
  | notice o a b s => exact (notice_pieces k o a b s).2.2.1
  | _ => rfl

theorem Makes.dch_eq {k : Nat} (hm : m ≠ .dch k) : u.dch k = s.dch k := by
  cases h with
  | dch j c s => exact Table.get_set_other _ _ _ (fun e => hm (congrArg Move.dch e.symm))
  | raise n s => exact (raise_pieces k n s).2.2.2.1
  | wake b s => rw [wake_frame]; rfl
  | notice o a b s => exact (notice_pieces k o a b s).2.2.2.1
  | _ => rfl

theorem Makes.slot_eq {k : Nat} (hm : m ≠ .slot k) (hn : m ≠ .near k) : u.slot k = s.slot k := by
  cases h with
  | near j x s => exact State.slot_setSlot_other s _ (fun e => hn (congrArg Move.near e.symm))
  | slot j c s => exact Table.get_set_other _ _ _ (fun e => hm (congrArg Move.slot e.symm))
  | counts e s hs => exact congrArg (fun t => Table.get {} t k) hs.1
  | raise n s => exact (raise_pieces k n s).2.2.2.2.2.1
  | wake b s => rw [wake_frame]; rfl
  | notice o a b s => exact (notice_pieces k o a b s).2.2.2.2.2.1
  | _ => rfl

theorem Makes.hold_eq : u.evs.hold = s.evs.hold := by
  cases h with
  | counts e s hs => exact hs.2
  | raise n s => rw [raise_frame]
  | wake b s => rw [wake_frame]
  | notice o a b s => exact (notice_frame o a b s) ▸ rfl
  | _ => rfl

theorem Makes.eb_eq {k : Nat} (hm : m ≠ .eb k) : u.ebU k = s.ebU k := by
  cases h with
  | eb j s => exact Table.get_set_other _ _ _ (fun e => hm (congrArg Move.eb e.symm))
  | raise n s => exact (raise_pieces k n s).2.2.2.2.2.2.2.2.2.2.1
  | wake b s => rw [wake_frame]; rfl
  | notice o a b s => exact (notice_pieces k o a b s).2.2.2.2.2.2.2.2.1
  | _ => rfl

theorem Makes.flt_eq (hm : m ≠ .reaction) : u.flt = s.flt := by
  cases h with
  | reaction f s hf => exact absurd rfl hm
  | raise n s => rw [raise_frame]
  | wake b s => rw [wake_frame]
  | notice o a b s => exact (notice_frame o a b s) ▸ rfl
  | _ => rfl

end

section
variable {A : Move → Prop} {s u : State} (h : Within A s u)
include h

theorem Within.chan_eq {k : Nat} (hA : ¬ A (.chan k)) : u.chan k = s.chan k :=
  h.same (f := fun s => s.chan k) fun _ _ _ ha hm => hm.chan_eq fun e => hA (e ▸ ha)

theorem Within.bank_eq {k : Nat} (hA : ¬ A (.bank k)) : u.bank k = s.bank k :=
  h.same (f := fun s => s.bank k) fun _ _ _ ha hm => hm.bank_eq fun e => hA (e ▸ ha)

theorem Within.kettle_eq {k : Nat} (hA : ¬ A (.kettle k)) : u.kettle k = s.kettle k :=
  h.same (f := fun s => s.kettle k) fun _ _ _ ha hm => hm.kettle_eq fun e => hA (e ▸ ha)

theorem Within.dch_eq {k : Nat} (hA : ¬ A (.dch k)) : u.dch k = s.dch k :=
  h.same (f := fun s => s.dch k) fun _ _ _ ha hm => hm.dch_eq fun e => hA (e ▸ ha)

theorem Within.slot_eq {k : Nat} (hA : ¬ A (.slot k)) (hN : ¬ A (.near k)) : u.slot k = s.slot k :=
  h.same (f := fun s => s.slot k) fun _ _ _ ha hm => hm.slot_eq (fun e => hA (e ▸ ha)) fun e => hN (e ▸ ha)

theorem Within.hold_eq : u.evs.hold = s.evs.hold := h.same (f := fun s => s.evs.hold) fun _ _ _ _ hm => hm.hold_eq

theorem Within.eb_eq {k : Nat} (hA : ¬ A (.eb k)) : u.ebU k = s.ebU k :=
  h.same (f := fun s => s.ebU k) fun _ _ _ ha hm => hm.eb_eq fun e => hA (e ▸ ha)

theorem Within.flt_eq (hA : ¬ A .reaction) : u.flt = s.flt :=
  h.same (f := State.flt) fun _ _ _ ha hm => hm.flt_eq fun e => hA (e ▸ ha)

end

/-! ## The operations -/

/-- The kinds of write that move a Kettle. -/
def Move.ofKettle : Move → Prop
  | .kettle _ | .kc _ | .raise => True
  | _ => False

/-- The kinds of write that take an event out of its slot `i`. -/
def Move.ofDrop (i : Nat) : Move → Prop
  | .slot j => j = i
  | .counts | .memory | .bank _ | .mirror | .notice => True
  | m => m.ofKettle

/-- The kinds of write that end a profile of channel `k`. -/
def Move.ofEnd (k : Nat) : Move → Prop
  | .chan j => j = k
  | .bank _ | .dch _ | .dgt _ | .fresh => True
  | m => m.ofKettle

section
variable {A : Move → Prop} {s u : State} (h : Within A s u)
include h

theorem Within.chan {k : Nat} {c : Chan} (ha : A (.chan k)) (hc : ChanStep (u.chan k) c) : Within A s (u.setChan k c) :=
  h.trans ((Makes.chan k c u hc).within ha)

theorem Within.bank {b : Nat} {c : BankSt} (ha : A (.bank b)) : Within A s (u.setBank b c) :=
  h.trans ((Makes.bank b c u).within ha)

theorem Within.kettle {k : Nat} {q : Kettle} (ha : A (.kettle k)) (hq : KettleStep (u.kettle k) q) :
    Within A s (u.setKettle k q) :=
  h.trans ((Makes.kettle k q u hq).within ha)

theorem Within.dch {k : Nat} {g : DiaCh} (ha : A (.dch k)) (hg : DiaStep (u.dch k) g) : Within A s (u.setDch k g) :=
  h.trans ((Makes.dch k g u hg).within ha)

theorem Within.dgt {b : Nat} {d : Digitiser} (ha : A (.dgt b)) : Within A s (u.setDgt b d) :=
  h.trans ((Makes.dgt b d u).within ha)

theorem Within.slot {i : Nat} {e : Event} (ha : A (.slot i)) (he : e.state = .free ∨ e.state = .quarantined) :
    Within A s (u.setSlot i e) :=
  h.trans ((Makes.slot i e u he).within ha)

theorem Within.counts {e : Evs} (ha : A .counts) (he : e.slots = u.evs.slots ∧ e.hold = u.evs.hold) :
    Within A s { u with evs := e } :=
  h.trans ((Makes.counts e u he).within ha)

theorem Within.raise {n : Nat} (ha : A .raise) : Within A s (Machine.raise n u) :=
  h.trans ((Makes.raise n u).within ha)

theorem Within.notice {o : Nat} {a b : Word} (ha : A .notice) : Within A s (Machine.notice o a b u) :=
  h.trans ((Makes.notice o a b u).within ha)

theorem Within.reaction {f : Flt} (ha : A .reaction) (hf : FltStep u.flt f) : Within A s { u with flt := f } :=
  h.trans ((Makes.reaction f u hf).within ha)

theorem Within.raiseIf {c : Bool} {n : Nat} (ha : A .raise) : Within A s (Machine.raiseIf c n u) := by
  unfold Machine.raiseIf
  split
  · exact h.raise ha
  · exact h

theorem Within.mirror {y : Nat} {b : List Byte} (ha : A .raise) (hm : A .mirror) : Within A s (Machine.mirror y b u) :=
    by
  unfold Machine.mirror mirrorAt
  split
  · exact h
  · exact Within.raiseIf (h.trans ((Makes.mirror _ u).within hm)) ha
  · exact Within.raiseIf (h.trans ((Makes.mirror _ u).within hm)) ha

theorem Within.log {k l : Nat} {b : List Byte} (ha : A .log) : Within A s (Machine.log k l b u) := by
  rw [log_frame]
  exact h.trans ((Makes.log _ u).within ha)

theorem Within.ite {c : Prop} [Decidable c] {v : State} (g : Within A s v) : Within A s (if c then u else v) := by
  split
  · exact h
  · exact g

/-- An operation that consists of writes of the kinds, after others. -/
theorem Within.next {B : Move → Prop} {f : State → State} (hf : ∀ v, Within B v (f v)) (hB : ∀ m, B m → A m) :
    Within A s (f u) :=
  h.trans ((hf u).mono hB)

end

theorem ktNext_of_faulted {s : State} {k : Nat} (h : (s.kettle k).faulted = true) :
    ktNext s k = .fault ∨ ktNext s k = .bleed := by
  unfold ktNext
  rw [h]
  split
  · exact .inr (Eq.refl _)
  · exact .inl (Eq.refl _)

theorem KettleStep.of_state {q r : Kettle} (h : r.volt = q.volt ∧ r.dump = q.dump ∧ r.faulted = q.faulted ∧
    r.capUf = q.capUf ∧ r.measuredAt = q.measuredAt ∧ r.state = q.state) : KettleStep q r := by
  obtain ⟨volt, dump, faulted, cap, measured, state⟩ := h
  exact ⟨volt, dump, faulted, cap, measured, fun _ => .inl state⟩

theorem ktEnter_within (k : Nat) (st : KtState) (s : State)
    (h : (s.kettle k).faulted = true → st = .fault ∨ st = .bleed) : Within Move.ofKettle s (ktEnter k st s) := by
  unfold ktEnter
  dsimp only
  split
  · exact (Within.refl s).kettle trivial (.of_state ⟨rfl, rfl, rfl, rfl, rfl, rfl⟩)
  · have entered : Within Move.ofKettle s (s.setKettle k { s.kettle k with
        chgOn := ktCharges st (s.kettle k).target (s.kettle k).volt (s.kettle k).chgOn
        bleedOn := ktBleed st (s.kettle k).target (s.kettle k).volt (s.kettle k).bleedOn ||
          (s.sys.mode == .entering && decide (168 < (s.kettle k).volt))
        fall := if (ktBleed st (s.kettle k).target (s.kettle k).volt (s.kettle k).bleedOn ||
          (s.sys.mode == .entering && decide (168 < (s.kettle k).volt))) = true then (s.kettle k).fall else none
        state := st
        deadline := if st = .charging then chgDeadline s k else none }) :=
      (Within.refl s).kettle trivial ⟨rfl, rfl, rfl, rfl, rfl, fun f => .inr (h f)⟩
    refine Within.raise ?_ trivial
    split
    · exact entered.trans ((Makes.kc k _).within trivial)
    · exact entered.trans ((Makes.kc k _).within trivial)
    · exact entered.trans ((Makes.kc k _).within trivial)
    · exact entered

theorem ktUpdate_within (k : Nat) (s : State) : Within Move.ofKettle s (ktUpdate k s) :=
  ktEnter_within k _ s ktNext_of_faulted

theorem ktRelease_within (k n : Nat) (s : State) : Within Move.ofKettle s (ktRelease k n s) :=
  (Within.refl s).kettle trivial (.of_state ⟨rfl, rfl, rfl, rfl, rfl, rfl⟩)

theorem ktTargetNow_within (k : Nat) (s : State) : Within Move.ofKettle s (ktTargetNow k s) := by
  unfold ktTargetNow
  dsimp only
  split
  · refine .next ?_ (ktUpdate_within k) fun _ h => h
    exact (Within.refl s).kettle trivial (.of_state ⟨rfl, rfl, rfl, rfl, rfl, rfl⟩)
  · exact .refl s

theorem ktPassed_within (k i : Nat) (s : State) : Within Move.ofKettle s (ktPassed k i s) := by
  unfold ktPassed
  dsimp only
  split
  · exact .refl s
  · refine .next ?_ (ktTargetNow_within k) fun _ h => h
    exact (Within.refl s).kettle trivial (.of_state ⟨rfl, rfl, rfl, rfl, rfl, rfl⟩)

/-! ## Events taken out of their slots -/

theorem Move.ofKettle_ofDrop {i : Nat} (m : Move) (h : m.ofKettle) : m.ofDrop i := by
  cases m <;> trivial

theorem freeSlot_within (i : Nat) (s : State) : Within (Move.ofDrop i) s (freeSlot i s) := by
  have emptied : Within (Move.ofDrop i) s
      (s.setSlot i (if (s.slot i).bad = true then { state := .quarantined } else {})) := by
    refine (Within.refl s).slot rfl ?_
    split
    · exact .inr rfl
    · exact .inl rfl
  have given (x : State) : Within Move.ofKettle x
      (ktPassed (ktOf (bankOf (s.slot i).ch)) i (ktRelease (ktOf (bankOf (s.slot i).ch)) (s.slot i).reserve x)) :=
    (ktRelease_within ..).trans (ktPassed_within ..)
  unfold freeSlot
  dsimp only
  split
  · exact emptied.trans ((given _).mono Move.ofKettle_ofDrop)
  · exact emptied.trans ((given _).mono Move.ofKettle_ofDrop)
  · exact emptied

theorem length_dropBytes (s : State) (i : Nat) (e : Event) (ch reason detail : Nat) :
    (dropBytes s i e ch reason detail).length = 32 := by
  unfold dropBytes
  simp [length_leBytes, zeros]

theorem recordDrop_within (i : Nat) (e : Event) (ch reason detail : Nat) (s : State) :
    Within (Move.ofDrop i) s (recordDrop i e ch reason detail s) := by
  unfold recordDrop
  dsimp only
  refine Within.mirror ?_ trivial trivial
  have counted : Within (Move.ofDrop i) s (if e.ctag = s.evs.cycle % 256
      then { s with evs := { s.evs with cur := countDrop reason s.evs.cur } }
      else { s with evs := { s.evs with next := countDrop reason s.evs.next } }) :=
    Within.ite ((Within.refl s).counts trivial (by exact ⟨rfl, rfl⟩)) ((Within.refl s).counts trivial (by exact ⟨rfl,
        rfl⟩))
  generalize (if e.ctag = s.evs.cycle % 256 then _ else _ : State) = u at counted ⊢
  have dropped : Within (Move.ofDrop i) s { u with evs := { u.evs with drops := wrapInc 32 u.evs.drops } } :=
    counted.counts trivial (by exact ⟨rfl, rfl⟩)
  have written (v : State) (h : Within (Move.ofDrop i) s v) : Within (Move.ofDrop i) s
      (let v := v.memWrite (0x120000 + 32 * (v.evs.dropWr % 1024)) (dropBytes s i e ch reason detail)
       { v with evs := { v.evs with dropWr := wrapInc 32 v.evs.dropWr } }) := by
    refine Within.counts (h.trans ((Makes.memory _ _ v ?_).within trivial)) trivial (by exact ⟨rfl, rfl⟩)
    rw [length_dropBytes]
    omega
  have recorded (c : Prop) [Decidable c] (b : Bool) := Within.raiseIf (c := b) (n := 200)
    (Within.ite (c := c) (written _ dropped) dropped) trivial
  refine Within.ite ?_ (recorded ..)
  exact Within.raise (Within.bank (recorded ..) trivial) trivial

theorem dropEvent_within (reason detail i : Nat) (s : State) : Within (Move.ofDrop i) s (dropEvent reason detail i s) :=
    by
  unfold dropEvent
  dsimp only
  refine Within.notice (.next ?_ (freeSlot_within i) fun _ h => h) trivial
  exact recordDrop_within ..

theorem cancelSlot_within (i : Nat) (s : State) : Within (Move.ofDrop i) s (cancelSlot i s) := by
  unfold cancelSlot
  refine .next ?_ (freeSlot_within i) fun _ h => h
  exact (Within.refl s).counts trivial (by exact ⟨rfl, rfl⟩)

theorem nearFill_within (s : State) : Within (fun m => ∃ i, m = .near i) s (nearFill s) :=
  .forEach _ (fun i _ s => (Makes.near i _ s).within ⟨i, rfl⟩) s

theorem haltCancel_within (q : Nat) (s : State) : Within (fun m => ∃ i, m.ofDrop i ∨ m = .near i) s (haltCancel q s) :=
    by
  unfold haltCancel
  refine .next ?_ nearFill_within fun _ ⟨i, h⟩ => ⟨i, .inr h⟩
  exact .forEach _ (fun i _ s => (cancelSlot_within i s).mono fun _ h => ⟨i, .inl h⟩) s

/-! ## Profiles ended -/

theorem Move.ofKettle_ofEnd {k : Nat} (m : Move) (h : m.ofKettle) : m.ofEnd k := by
  cases m <;> trivial

theorem digitiserBusy_within {A : Move → Prop} (hc : ∀ k, A (.dch k)) (hg : ∀ b, A (.dgt b)) (k : Nat) (s : State) :
    Within A s (digitiserBusy k s) := by
  unfold digitiserBusy
  refine Within.dgt (Within.dch (.refl s) (hc _) ?_) (hg _)
  exact ⟨rfl, fun h => h⟩

theorem beginCapture_within (k : Nat) (off : Tick) (s : State) : Within (Move.ofEnd k) s (beginCapture k off s) := by
  have busy (j : Nat) (u : State) : Within (Move.ofEnd k) u (digitiserBusy j u) :=
    digitiserBusy_within (fun _ => trivial) (fun _ => trivial) j u
  unfold beginCapture
  dsimp only
  split
  · exact .refl s
  · split
    · refine .ite ?_ (busy k s)
      refine .next ?_ (busy _) fun _ h => h
      exact Within.dgt (.refl s) trivial
    · exact Within.dgt (.refl s) trivial

theorem ChanStep.running {c d : Chan} (h : c.phase = .peak ∨ c.phase = .transition ∨ c.phase = .steep)
    (hd : d.phase = c.phase ∨ d.phase = .turnOff) : ChanStep c d := ⟨.inl h, hd⟩

theorem running_iff {s : State} {k : Nat} :
    running s k = true ↔ (s.chan k).phase = .peak ∨ (s.chan k).phase = .transition ∨ (s.chan k).phase = .steep := by
  unfold running
  cases (s.chan k).phase <;> simp

theorem peakOver_within {k : Nat} (n : Nat) {s : State} (h : (s.chan k).phase = .peak) :
    Within (Move.ofEnd k) s (peakOver k n s) := by
  have released := ktRelease_within (ktOf (bankOf k)) (s.chan k).ev.reserve s
  have same := released.chan_eq (k := k) (fun h => h)
  unfold peakOver
  dsimp only
  refine .next ?_ (ktPassed_within _ _) Move.ofKettle_ofEnd
  refine Within.chan (released.mono Move.ofKettle_ofEnd) rfl ?_
  rw [same]
  exact .running (.inl h) (.inl rfl)

theorem peakOver_phase {k : Nat} (n : Nat) (s : State) : ((peakOver k n s).chan k).phase = (s.chan k).phase := by
  unfold peakOver
  dsimp only
  rw [(ktPassed_within _ _ _).chan_eq (fun h => h), State.chan_setChan]

/-- A running profile ends: its channel is in TURN-OFF, with the cause and the instant (R319, R333). -/
theorem turnOff_within {k : Nat} (off : Tick) (cause n : Nat) {s : State} (h : running s k = true) :
    Within (Move.ofEnd k) s (turnOff k off cause n s) := by
  have drawn : Within (Move.ofEnd k) s (if (s.chan k).phase = .peak then
        (peakOver k n s).setChan k { (peakOver k n s).chan k with peakOk := false }
      else s) := by
    split
    next peak =>
      refine (peakOver_within n peak).chan rfl (.running (.inl ?_) (.inl rfl))
      rw [peakOver_phase, peak]
    next => exact .refl s
  have phase : ((if (s.chan k).phase = .peak then
        (peakOver k n s).setChan k { (peakOver k n s).chan k with peakOk := false }
      else s).chan k).phase = (s.chan k).phase := by
    split
    · rw [State.chan_setChan]
      exact peakOver_phase n s
    · rfl
  unfold turnOff
  dsimp only
  generalize (if (s.chan k).phase = .peak then _ else s : State) = u at drawn phase ⊢
  refine .next ?_ (beginCapture_within k off) fun _ h => h
  refine Within.bank (Within.chan drawn rfl (.running ?_ (.inr rfl))) trivial
  rw [phase]
  exact running_iff.mp h

theorem endAt_within (cause : Nat) (off : Tick) (k : Nat) (s : State) : Within (Move.ofEnd k) s (endAt cause off k s) :=
    by
  unfold endAt
  dsimp only
  split
  · exact .refl s
  next runs =>
    have fresh : Within (Move.ofEnd k) s { s with fresh := s.fresh + 1 } := (Makes.fresh _ s).within trivial
    have ended := fresh.trans (turnOff_within (k := k) off cause (freePeakEnergy s) 
      (show running s k = true by simpa using runs))
    refine Within.raise (Within.chan ended rfl ?_) trivial
    exact ⟨.inr rfl, .inl rfl⟩

theorem endAll_within (cause : Nat) (s : State) : Within (fun m => ∃ k < 64, m.ofEnd k) s (endAll cause s) :=
  .forEach _ (fun k hk s => (endAt_within cause s.etc k s).mono fun _ h => ⟨k, List.mem_range.mp hk, h⟩) s

theorem endBank_within (cause b : Nat) (s : State) : Within (fun m => ∃ k, k / 8 = b ∧ m.ofEnd k) s (endBank cause b s)
    :=
  .forEach _ (fun k hk s => (endAt_within cause s.etc k s).mono fun _ h => ⟨k, by
    obtain ⟨i, hi, rfl⟩ := List.mem_map.mp hk
    have := List.mem_range.mp hi
    omega, h⟩) s

/-! ## The entry to SAFE -/

theorem ebAllOff_within (s : State) : Within (fun m => ∃ n, m = .eb n) s (ebAllOff s) :=
  .forEach _ (fun n _ s => (Makes.eb n s).within ⟨n, rfl⟩) s

theorem stopTests_within (p : Nat → Bool) (s : State) : Within (fun m => ∃ k, m = .dch k) s (stopTests p s) := by
  unfold stopTests
  refine .forEach _ (fun k _ s => ?_) s
  exact (Within.refl s).dch ⟨k, rfl⟩ ⟨rfl, fun _ => rfl⟩

/-- Any kind of write. -/
def Move.any : Move → Prop := fun _ => True

theorem safeEntry_within (src : Nat) (byGrace : Bool) (s : State) : Within Move.any s (safeEntry src byGrace s) := by
  unfold safeEntry
  dsimp only
  split
  · exact .refl s
  · refine Within.log (Within.mirror (Within.raise ?_ trivial) trivial trivial) trivial
    refine .next ?_ (stopTests_within _) fun _ _ => trivial
    refine .next ?_ ebAllOff_within fun _ _ => trivial
    refine .next ?_ (Within.forEach _ fun k _ => ktUpdate_within k) fun _ _ => trivial
    refine .next ?_ (endAll_within 6) fun _ _ => trivial
    refine .next ?_ (Within.forEach (A := Move.any) _ fun i _ s => (dropEvent_within 21 0 i s).mono fun _ _ => trivial)
      fun _ _ => trivial
    exact (Within.refl s).reaction trivial (by exact Eq.refl _)

theorem graceReaction_within (n : Nat) (s : State) : Within Move.any s (graceReaction n s) := by
  unfold graceReaction
  dsimp only
  split
  · exact (Within.refl s).reaction trivial (by exact Eq.refl _)
  · exact Within.raise ((Within.refl s).reaction trivial (by exact Eq.refl _)) trivial

theorem reaction_within (n c : Nat) (s : State) : Within Move.any s (reaction n c s) := by
  unfold reaction
  split
  · exact .refl s
  · exact graceReaction_within n s
  · exact safeEntry_within n false s

/-- After a fault is recorded, its reaction follows (R412). -/
theorem fault_within {n : Nat} {s : State} (present : (!s.sys.order64 && absentFault n) = false) :
    Within Move.any (faultRecord n (classApplied s n) s) (fault n s) := by
  unfold fault
  rw [present]
  dsimp only
  refine Within.trans ?_ ((Makes.wake 11 _).within trivial)
  refine Within.log (.next ?_ (reaction_within n _) fun _ h => h) trivial
  exact Within.mirror (Within.raise (.refl _) trivial) trivial trivial

/-! ## What a fault leaves (R412) -/

theorem Within.flt {A : Move → Prop} {s u : State} (h : Within A s u) : FltStep s.flt u.flt := by
  refine Within.keeps (P := fun v => FltStep s.flt v.flt) (fun m v w _ hm hv => ?_) h (Eq.refl _)
  have step : FltStep v.flt w.flt := by
    cases hm with
    | reaction f s hf => exact hf
    | raise n v => rw [raise_frame]; exact Eq.refl _
    | wake b v => rw [wake_frame]; exact Eq.refl _
    | notice o a b v => rw [notice_frame]; exact Eq.refl _
    | _ => exact Eq.refl _
  unfold FltStep at *
  rw [step, hv]

section
variable {n : Nat} {s : State} (present : (!s.sys.order64 && absentFault n) = false)
include present

theorem fault_flt : FltStep (faultRecord n (classApplied s n) s).flt (fault n s).flt := (fault_within present).flt

theorem fault_occurred (hn : n < 96) : Occurred s (fault n s) n := by
  have kept := fault_flt present
  unfold FltStep at kept
  rw [Occurred, kept]
  refine ⟨?_, rfl, rfl⟩
  show (s.flt.sticky ||| BitVec.twoPow 96 n).getLsbD n = true
  simp [hn]

theorem fault_rest : Rest s (fault n s) := Rest.trans (by rfl) (fault_within present).rest

theorem fault_ctx {p : Ctx → Prop} (hp : LatchStable p) {k : Nat} (hk : p (s.ctx k)) : p ((fault n s).ctx k) :=
  (fault_within present).ctx hp hk

end

end Sys2Proof.Machine
end

section
/-! Task faults of angle code (08_angle_code_isa.md R262, R263, R301 to R305). -/

namespace Sys2Proof.Machine

/-- A task halted by a fault, with what the fault recorded. -/
def Ctx.HaltedBy (h cause : Nat) (faddr : Word) (pc : BitVec 16) (c : Ctx) : Prop :=
  c.wait = .none ∧ c.state = .halted ∧ c.haltBy = h ∧ c.cause = cause ∧ c.faddr = faddr ∧ c.fpc = pc

theorem latchStable_halted (h cause : Nat) (faddr : Word) (pc : BitVec 16) :
    LatchStable (Ctx.HaltedBy h cause faddr pc) where
  latches _ _ h := h
  overruns _ _ h := h
  pending _ _ h := h
  start _ _ _ _ _ idle h := by rw [h.2.1] at idle; cases idle
  wakes _ _ _ _ _ _ waits h := absurd h.1 waits

theorem absentFault_halt {q : Nat} (hq : q < 16) : absentFault (40 + q) = false := by
  unfold absentFault
  simp only [Bool.or_eq_false_iff, decide_eq_false_iff_not, beq_eq_false_iff_ne]
  omega

/-- A task halts with what its fault recorded, and the halt is a fault of its sequencer (R305). -/
theorem haltTask_leaves {s : State} {i : Nat} (h : Nat) (hi : i / 8 < 16) (wait : (s.ctx i).wait = .none) :
    ((haltTask i h s).ctx i).HaltedBy h (s.ctx i).cause (s.ctx i).faddr (s.ctx i).fpc ∧
      Occurred s (haltTask i h s) (40 + i / 8) := by
  have present (u : State) : (!u.sys.order64 && absentFault (40 + i / 8)) = false := by
    rw [absentFault_halt hi, Bool.and_false]
  have stable := latchStable_halted h (s.ctx i).cause (s.ctx i).faddr (s.ctx i).fpc
  have begun : ((s.setCtx i { s.ctx i with state := .halted, haltBy := h }).ctx i).HaltedBy h (s.ctx i).cause
      (s.ctx i).faddr (s.ctx i).fpc := by
    rw [State.ctx_setCtx]
    exact ⟨wait, rfl, rfl, rfl, rfl, rfl⟩
  have halted := fault_ctx (present _) stable begun
  have occurred : Occurred s (fault (40 + i / 8) (s.setCtx i { s.ctx i with state := .halted, haltBy := h }))
    (40 + i / 8) := fault_occurred (present _) (by omega)
  unfold haltTask
  dsimp only
  split
  · have cancelled := haltCancel_within (i / 8) (fault (40 + i / 8) (s.setCtx i { s.ctx i with
      state := .halted, haltBy := h }))
    refine ⟨cancelled.ctx stable halted, ?_⟩
    rw [Occurred, cancelled.flt_eq fun ⟨_, h⟩ => h.elim id nofun]
    exact occurred
  · exact ⟨halted, occurred⟩

/-! ## Where a fault goes (R303, R305) -/

section
variable {i cause : Nat} {faddr : Word} {s : State}

/-- A handler takes the fault: its context, and an entry in the logbook. -/
theorem takeFault_handled (hc : cause ≠ 2 ∧ cause ≠ 4)
    (h : haltCase (s.taskOf i) (faulted cause faddr (s.ctx i)) = 0) :
    let c := if cause = 7 then { faulted cause faddr (s.ctx i) with secondBudget := true, used := 0 }
      else faulted cause faddr (s.ctx i)
    takeFault i cause faddr s = logTask i cause c.fpc (s.setCtx i (enterHandler (s.taskOf i) c)) := by
  unfold takeFault
  rw [if_neg (not_or.mpr hc)]
  dsimp only
  split
  · rfl
  next other => exact absurd h other

theorem takeFault_halted (hc : cause ≠ 2 ∧ cause ≠ 4) {n : Nat} (hn : n ≠ 0)
    (h : haltCase (s.taskOf i) (faulted cause faddr (s.ctx i)) = n) :
    takeFault i cause faddr s = haltTask i n (s.setCtx i (faulted cause faddr (s.ctx i))) := by
  unfold takeFault
  rw [if_neg (not_or.mpr hc)]
  dsimp only
  split
  next none => exact absurd (h.symm.trans none) hn
  next => rw [h]

theorem logTask_leaves (i cause : Nat) (pc : BitVec 16) (s : State) (k : Nat) :
    (logTask i cause pc s).ctx k = s.ctx k ∧ (logTask i cause pc s).mem = s.mem := by
  unfold logTask
  exact ⟨(log_pieces ..).2.2.2.2.2.2.2.1, (log_frame ..) ▸ rfl⟩

/-- A fault whose task has no handler to take it halts the task (R305). -/
theorem takeFault_halts (hc : cause ≠ 2 ∧ cause ≠ 4) (hi : i / 8 < 16) (wait : (s.ctx i).wait = .none) {n : Nat}
    (hn : n ≠ 0) (h : haltCase (s.taskOf i) (faulted cause faddr (s.ctx i)) = n) :
    ((takeFault i cause faddr s).ctx i).HaltedBy n cause faddr (s.ctx i).pc ∧
      Occurred s (takeFault i cause faddr s) (40 + i / 8) := by
  have left := haltTask_leaves (s := s.setCtx i (faulted cause faddr (s.ctx i))) n hi (by rw [State.ctx_setCtx]; exact
      wait)
  rw [takeFault_halted hc hn h]
  rw [State.ctx_setCtx] at left
  exact left

/-- A fault that the task's handler takes (R303). -/
theorem takeFault_handles (hc : cause ≠ 2 ∧ cause ≠ 4)
    (h : haltCase (s.taskOf i) (faulted cause faddr (s.ctx i)) = 0) :
    (takeFault i cause faddr s).ctx i = enterHandler (s.taskOf i)
      (if cause = 7 then { faulted cause faddr (s.ctx i) with secondBudget := true, used := 0 }
        else faulted cause faddr (s.ctx i)) ∧ (takeFault i cause faddr s).mem = s.mem := by
  rw [takeFault_handled hc h]
  obtain ⟨ctx, mem⟩ := logTask_leaves i cause (if cause = 7 then
      { faulted cause faddr (s.ctx i) with secondBudget := true, used := 0 }
    else faulted cause faddr (s.ctx i)).fpc (s.setCtx i (enterHandler (s.taskOf i) (if cause = 7 then
      { faulted cause faddr (s.ctx i) with secondBudget := true, used := 0 }
    else faulted cause faddr (s.ctx i)))) i
  exact ⟨ctx.trans (State.ctx_setCtx ..), mem⟩

theorem haltCase_handler {k : Task} {c : Ctx} (first : c.cause ≠ 7 ∨ c.secondBudget = false) (out : c.fh = false)
    (has : k.faultPc ≠ 0xFFFF) : haltCase k c = 0 := by
  unfold haltCase
  rw [if_neg (by simpa [imp_iff_not_or] using first), out, if_neg Bool.false_ne_true, if_neg has]

end

/-- The illegal word of the context that its sequencer issues for is a fault of that context (R262). -/
theorem doIllegalInstruction_issues {s : State} {j : Issue} {i : Nat} (t : Tick) (h : Alive s)
    (within : ∀ k ∈ ctxsOf j.sq.val, mayIssue s k = true → overBudget s k = false)
    (best : bestCtx s j.sq.val = some i) (clean : j.fetch = .clean) (admits : fetchFault s i .clean = 0)
    (illegal : decodeAngle (fetchWord s i) = none) :
    doIllegalInstruction j (s.advance t) = takeFault i 1 (fetchWord s i) (occupy i (s.advance t)) := by
  have boundary : atBoundary j.sq.val (s.advance t) = s.advance t := by
    refine forEach_id _ _ _ fun k hk => if_neg fun due => ?_
    obtain ⟨may, over'⟩ := Bool.and_eq_true_iff.mp due
    exact absurd over' (by rw [show overBudget (s.advance t) k = overBudget s k from rfl, within k hk may]; simp)
  have runs : issuing (s.advance t) = true := by
    unfold issuing
    rw [show (s.advance t).sys.mode = .run from h.1]
    rfl
  have good : eccAt (s.advance t) (fetchAddr ((s.advance t).ctx i).pc) .clean = .clean := by
    have fine : fetchFault (s.advance t) i .clean = 0 := admits
    unfold fetchFault at fine
    unfold eccAt at fine ⊢
    cases bad : isBad (s.advance t) (fetchAddr ((s.advance t).ctx i).pc)
    · rfl
    · dsimp only at fine
      rw [bad] at fine
      split at fine <;> cases fine
  unfold doIllegalInstruction issueWith eccRead
  simp only [runs, Bool.not_true, Bool.false_eq_true, if_false, boundary]
  rw [show bestCtx (s.advance t) j.sq.val = some i from best]
  dsimp only
  rw [clean, show fetchFault (s.advance t) i .clean = 0 from admits, good]
  dsimp only
  rw [show fetchWord (s.advance t) i = fetchWord s i from rfl, illegal]
  rfl

/-- The context in its task's handler (R303). -/
def Ctx.handled (k : Task) (cause : Nat) (faddr : Word) (c : Ctx) : Ctx :=
  { ((c.setReg 13 faddr).setReg 14 (c.pc.setWidth 32)).setReg 15 (BitVec.ofNat 32 cause) with
    cause := cause, fpc := c.pc, faddr := faddr, faults := satInc 255 c.faults
    saveG13 := c.reg 13, saveG14 := c.reg 14, saveG15 := c.reg 15, saveC := c.c, saveV := c.v, saveQ := c.q
    fh := true, prioNow := k.fprio, pc := k.faultPc }

theorem enterHandler_faulted (k : Task) (cause : Nat) (faddr : Word) (c : Ctx) :
    enterHandler k (faulted cause faddr c) = c.handled k cause faddr := rfl

theorem enterHandler_budget (k : Task) (cause : Nat) (faddr : Word) (c : Ctx) :
    enterHandler k { faulted cause faddr c with secondBudget := true, used := 0 } =
      { c.handled k cause faddr with secondBudget := true, used := 0 } := rfl

theorem occurred_settle {s u : State} {n : Nat} (h : Occurred s u n) : Occurred s (settle u) n := h

section
variable {s u : State} {i : Nat} {c : Ctx} (h : Alive s) {k : Instr} (hl : leaves_mode k = false)
  {cause : Nat} {faddr : Word} (he : effect k (s.advance (instant k)) = takeFault i cause faddr u)
  (hu : SeqOnly (s.advance (instant k)) u) (own : u.ctx i = c) (task : u.taskOf i = s.taskOf i)
  (hc : cause ≠ 2 ∧ cause ≠ 4)
include h hl he hu own task hc

theorem yields_halt (hi : i / 8 < 16) (wait : c.wait = .none) {n : Nat} (hn : n ≠ 0)
    (hcase : haltCase (s.taskOf i) (faulted cause faddr c) = n) :
    Yields k s (fun v => (v.ctx i).HaltedBy n cause faddr c.pc ∧ Occurred s v (40 + i / 8)) := by
  refine yields_alive _ h hl ?_
  rw [← own, ← task] at hcase
  obtain ⟨halted, occurred⟩ := takeFault_halts hc hi (own ▸ wait) hn hcase
  have flt : u.flt = s.flt := by rw [hu]; rfl
  rw [Occurred, flt] at occurred
  rw [he]
  generalize takeFault i cause faddr u = v at halted occurred ⊢
  exact ⟨own ▸ halted, occurred_settle occurred⟩

theorem yields_handler (hcase : haltCase (s.taskOf i) (faulted cause faddr c) = 0) :
    Yields k s (fun v => v.ctx i = enterHandler (s.taskOf i)
      (if cause = 7 then { faulted cause faddr c with secondBudget := true, used := 0 } else faulted cause faddr c) ∧
      v.mem = s.mem) := by
  refine yields_alive _ h hl ?_
  rw [← own, ← task] at hcase
  obtain ⟨ctx, mem⟩ := takeFault_handles hc hcase
  have kept : u.mem = s.mem := by rw [hu]; rfl
  rw [he]
  generalize takeFault i cause faddr u = v at ctx mem ⊢
  rw [own, task] at ctx
  exact ⟨ctx, mem.trans kept⟩

end

theorem doBudgetExhausted_due {s : State} {q p : Nat} (t : Tick) (h : Alive s) (may : mayIssue s (8 * q + p) = true)
    (due : overBudget s (8 * q + p) = true) : doBudgetExhausted q p (s.advance t) =
      takeFault (8 * q + p) 7 (BitVec.ofNat 32 (s.taskOf (8 * q + p)).budget) (s.advance t) := by
  have runs : issuing (s.advance t) = true := by
    unfold issuing
    rw [show (s.advance t).sys.mode = .run from h.1]
    rfl
  unfold doBudgetExhausted budgetFault
  rw [if_pos runs]
  exact if_pos (Bool.and_eq_true_iff.mpr ⟨may, due⟩)

/-- Settles O46: `haltCase` sends each fault to the handler or to a halt. -/
theorem taskFaults : Obligations.TaskFaults := by
  unfold Obligations.TaskFaults
  intro s t i h handled halted
  have haltedBy {k : Instr} {n cause : Nat} {faddr : Word} {pc : BitVec 16}
      (y : Yields k s (fun u => (u.ctx i).HaltedBy n cause faddr pc ∧ Occurred s u (40 + i / 8))) :
      Yields k s (fun u => halted u n cause faddr pc) :=
    y.imp fun _ ⟨⟨_, state, by', cause, faddr, pc⟩, occurred⟩ => ⟨state, by', cause, faddr, pc, occurred⟩
  refine ⟨fun j inBudget best clean admits illegal => ?_, fun q p hi may due => ?_⟩
  · have row : effect (.illegalInstruction t j) (s.advance (instant (.illegalInstruction t j))) =
        takeFault i 1 (fetchWord s i) (occupy i (s.advance t)) :=
      doIllegalInstruction_issues t h inBudget best clean admits illegal
    have own : (occupy i (s.advance t)).ctx i = issued s t i := occupy_issued t i h
    have task := taskOf_occupy s t i
    have hq : i / 8 < 16 := bestCtx_sq best ▸ j.sq.isLt
    have seqOnly := occupy_seqOnly i (s.advance t)
    refine ⟨fun out has => ?handler, fun wait out none => haltedBy ?none, fun wait inside => haltedBy ?inside⟩
    case handler =>
      refine (yields_handler (k := .illegalInstruction t j) h rfl row seqOnly own task (by decide)
        (haltCase_handler (.inl (by simp [faulted])) out has)).imp fun u ⟨ctx, mem⟩ => ⟨ctx.trans ?_, mem⟩
      exact enterHandler_faulted ..
    case none =>
      refine yields_halt (k := .illegalInstruction t j) h rfl row seqOnly own task (by decide) hq wait (by decide) ?_
      unfold haltCase
      rw [if_neg (by simp [faulted]), if_neg (by simpa [faulted, issued] using out), if_pos none]
    case inside =>
      refine yields_halt (k := .illegalInstruction t j) h rfl row seqOnly own task (by decide) hq wait (by decide) ?_
      unfold haltCase
      rw [if_neg (by simp [faulted])]
      exact if_pos inside
  · subst hi
    have row : effect (.budgetExhausted t q p) (s.advance (instant (.budgetExhausted t q p))) =
        takeFault (8 * q.val + p.val) 7 (BitVec.ofNat 32 (s.taskOf (8 * q.val + p.val)).budget) (s.advance t) :=
      doBudgetExhausted_due t h may due
    refine ⟨fun first out has => ?handler, fun wait second => haltedBy ?second⟩
    case handler =>
      refine (yields_handler (k := .budgetExhausted t q p) h rfl row .rfl rfl rfl (by decide)
        (haltCase_handler (.inr first) out has)).imp fun u ⟨ctx, _⟩ => ctx.trans ?_
      exact enterHandler_budget ..
    case second =>
      refine yields_halt (k := .budgetExhausted t q p) h rfl row .rfl rfl rfl (by decide) (by omega) wait (by decide) ?_
      unfold haltCase
      rw [if_pos ⟨rfl, second⟩]

end Sys2Proof.Machine
end

section
/-! Interrupt claims and completions, fault reactions, acknowledgement and the watchdog
(13_interrupts_fault_collection.md R403 to R420). -/

namespace Sys2Proof.Machine

/-! ## Claims and completions (R403, R406, R407) -/

theorem advance_alive {s : State} (t : Tick) (h : Alive s) :
    s.advance t = { s with now := max s.now t, etc := max s.etc t } := by
  rw [advance_run t s h.1]

/-- Nothing but time and the interrupt controller has changed. -/
def IrcFrame (s u : State) (t : Tick) : Prop := u = { s with now := max s.now t, etc := max s.etc t, irc := u.irc }

theorem target_setTarget (s : State) (g : IrqTarget) (x : IrcTarget) : (settle (s.setTarget g x)).target g = x := by
  cases g <;> rfl

theorem target_setTarget_other (s : State) {g h : IrqTarget} (x : IrcTarget) (hn : h ≠ g) :
    (settle (s.setTarget g x)).target h = s.target h := by
  cases g with
  | host =>
    cases h with
    | host => exact absurd rfl hn
    | mgmt => rfl
  | mgmt =>
    cases h with
    | host => rfl
    | mgmt => exact absurd rfl hn

theorem ircFrame_setTarget {s : State} (t : Tick) (h : Alive s) (g : IrqTarget) (x : IrcTarget) :
    IrcFrame s (settle ((s.advance t).setTarget g x)) t := by
  rw [advance_alive t h]
  cases g <;> exact Eq.refl _

/-- A command that writes the state of one interrupt target alone. -/
theorem yields_setTarget (k : Instr) {s : State} {t : Tick} (h : Alive s) (hl : leaves_mode k = false) (g : IrqTarget)
    (x : IrcTarget) (he : effect k (s.advance (instant k)) = (s.advance t).setTarget g x) :
    Yields k s (fun u => ((∀ h, h ≠ g → u.target h = s.target h) ∧
      u = { s with now := max s.now t, etc := max s.etc t, irc := u.irc }) ∧ u.target g = x) := by
  refine yields_alive k h hl ?_
  rw [he]
  exact ⟨⟨fun h' hn => (target_setTarget_other _ x hn).trans (by cases h' <;> rfl), ircFrame_setTarget t h g x⟩,
    target_setTarget ..⟩

theorem target_advance (s : State) (t : Tick) (g : IrqTarget) : (s.advance t).target g = s.target g := by
  cases g <;> rfl

theorem byte_eq_zero {b : Byte} : b.toNat = 0 ↔ b = 0 := by
  rw [← BitVec.toNat_inj]
  rfl

section
variable {s : State} {g : IrqTarget} {src n : Nat}

theorem doIrqClaim_some (hc : claimable s (s.target g) src = n) (hn : n ≠ 0) :
    doIrqClaim g src s = s.setTarget g ((s.target g).claim n (s.level n)) := by
  unfold doIrqClaim
  simp only [hc, hn, if_false]

theorem doIrqClaim_none (hc : claimable s (s.target g) src = 0) :
    doIrqClaim g src s = s.setTarget g { (s.target g).refuse with claimed := 0 } := by
  unfold doIrqClaim
  simp only [hc, if_true]

end

/-- The line follows the best source where no hold runs and none begins (R405). -/
theorem settle_noHold {s : State} (hold : s.irc.hold = none) (low : s.irc.line = false) :
    (settle s).irc.hold = none ∧ (settle s).irc.line = decide (best s s.irc.host ≠ 0) := by
  unfold settle
  simp only [hold, low, Option.filter_none, Bool.false_and, Bool.false_eq_true, if_false, Option.isNone_none,
    Bool.and_true, true_and]
  rw [Bool.eq_iff_iff, bne_iff_ne, decide_eq_true_iff]

/-- Settles O36: each row writes its target, and HOST_INT_N follows. -/
theorem interruptClaims : Obligations.InterruptClaims := by
  unfold Obligations.InterruptClaims
  intro s t g src h x n only refused
  have target : (s.advance t).target g = x := target_advance s t g
  have claims : claimable (s.advance t) ((s.advance t).target g) src.toNat = n := by
    rw [target]
    unfold claimable
    simp only [byte_eq_zero]
    rfl
  refine ⟨fun some => ?claim, fun none => ?refused, fun real act => ?complete, fun idle => ?idle, fun m hm low due =>
      ?hold⟩
  case claim =>
    refine yields_setTarget (t := t) (.irqClaim t g src) h rfl g _ ((doIrqClaim_some claims some).trans ?_)
    rw [target]
    rfl
  case refused =>
    refine yields_setTarget (t := t) (.irqClaim t g src) h rfl g _ ((doIrqClaim_none (claims.trans none)).trans ?_)
    rw [target]
    rfl
  case complete =>
    refine yields_setTarget (t := t) (.irqComplete t g src) h rfl g (x.complete src.toNat) ?_
    show doIrqComplete g src.toNat (s.advance t) = _
    unfold doIrqComplete
    simp only [target, byte_eq_zero]
    rw [if_neg (not_or.mpr ⟨real, Bool.not_eq_false _ ▸ act⟩)]
  case idle =>
    refine yields_setTarget (t := t) (.irqComplete t g src) h rfl g x.refuse ?_
    show doIrqComplete g src.toNat (s.advance t) = _
    unfold doIrqComplete
    simp only [target, byte_eq_zero]
    rw [if_pos idle]
  case hold =>
    refine yields_alive _ h rfl ?_
    have ended : effect (.moderationHoldEnd t) (s.advance (instant (.moderationHoldEnd t))) =
        { s with now := max s.now t, etc := max s.etc t, irc := { s.irc with hold := none } } := by
      show doModerationHoldEnd (s.advance t) = _
      rw [advance_alive t h]
      unfold doModerationHoldEnd
      dsimp only
      rw [hm]
      exact if_pos due
    rw [ended]
    obtain ⟨hold, line⟩ := settle_noHold (s := { s with
      now := max s.now t, etc := max s.etc t, irc := { s.irc with hold := none } }) rfl low
    exact ⟨hold, line, rfl, rfl, rfl⟩

end Sys2Proof.Machine
end

section
/-! What the end of a profile and the entry to SAFE leave (10_actuator_drive.md R319, R333;
13_interrupts_fault_collection.md R418). -/

namespace Sys2Proof.Machine

/-- What an operation establishes for each index of a list, and keeps for the others, holds for all of them after. -/
theorem forEach_all {I : State → Prop} {Q : Nat → State → Prop} {f : Nat → State → State} (l : List Nat)
    (inv : ∀ j ∈ l, ∀ s, I s → I (f j s)) (here : ∀ k ∈ l, ∀ s, I s → Q k (f k s))
    (kept : ∀ k j, ∀ s, I s → Q k s → Q k (f j s)) {s : State} (hs : I s) : ∀ k ∈ l, Q k (forEach l f s) := by
  have later (r : List Nat) (hr : ∀ j ∈ r, j ∈ l) (k : Nat) {s : State} (hs : I s) (hk : Q k s) :
      Q k (forEach r f s) := by
    unfold forEach
    induction r generalizing s with
    | nil => exact hk
    | cons a r ih =>
      exact ih (fun j hj => hr j (List.mem_cons_of_mem a hj)) (inv a (hr a List.mem_cons_self) s hs) (kept k a s hs hk)
  have all (r : List Nat) (hr : ∀ j ∈ r, j ∈ l) {s : State} (hs : I s) : ∀ k ∈ r, Q k (forEach r f s) := by
    induction r generalizing s with
    | nil => exact fun _ h => nomatch h
    | cons a r ih =>
      have rest (j : Nat) (hj : j ∈ r) : j ∈ l := hr j (List.mem_cons_of_mem a hj)
      have next := inv a (hr a List.mem_cons_self) s hs
      intro k hk
      rcases List.mem_cons.mp hk with rfl | hk
      · exact later r rest k next (here k (hr k List.mem_cons_self) s hs)
      · exact ih rest next k hk
  exact all l (fun _ h => h) hs

/-! ## Sources pending at HOST (R402) -/

theorem raise_irc {n : Nat} (present : absentSource n = false) (s : State) : (raise n s).irc = ircRaise n s.irc := by
  unfold raise
  rw [present, Bool.and_false, if_neg Bool.false_ne_true]
  dsimp only
  split
  · rw [wake_frame]
  · rfl

theorem raise_pends {n : Nat} (hn : n < 256) (present : absentSource n = false) (s : State) :
    (raise n s).irc.host.pend.getLsbD n = true := by
  rw [raise_irc present]
  show (s.irc.host.raise n).pend.getLsbD n = true
  rw [IrcTarget.raise_pend]
  simp [hn]

theorem raise_keepsPend (n m : Nat) {s : State} (h : s.irc.host.pend.getLsbD m = true) :
    (raise n s).irc.host.pend.getLsbD m = true := by
  have raised : ∀ u : State, u.irc = ircRaise n s.irc → u.irc.host.pend.getLsbD m = true := fun u hu => by
    rw [hu]
    show (s.irc.host.raise n).pend.getLsbD m = true
    rw [IrcTarget.raise_pend, BitVec.getLsbD_or, h, Bool.true_or]
  unfold raise
  split
  · exact h
  · dsimp only
    split
    · exact raised _ (by rw [wake_frame])
    · exact raised _ rfl

/-- No write takes a pending source back. -/
theorem Within.pend {A : Move → Prop} {s u : State} (h : Within A s u) {n : Nat}
    (hn : s.irc.host.pend.getLsbD n = true) : u.irc.host.pend.getLsbD n = true := by
  refine Within.keeps (P := fun v => v.irc.host.pend.getLsbD n = true) (fun m v w _ hm hv => ?_) h hn
  cases hm with
  | raise j v => exact raise_keepsPend j n hv
  | wake b v => rw [wake_frame]; exact hv
  | notice o a b v => rw [notice_frame]; exact hv
  | _ => exact hv

/-! ## The end of a profile (R319, R333) -/

section
variable (k : Nat) (off : Tick) (cause : Nat) (s : State)

theorem beginCapture_chan (j : Nat) : (beginCapture k off s).chan j = s.chan j := by
  have busy (i : Nat) (u : State) : (digitiserBusy i u).chan j = u.chan j := rfl
  unfold beginCapture
  dsimp only
  split
  · rfl
  · split
    · split
      · rfl
      · rfl
    · rfl

theorem turnOff_chan (n : Nat) : let c := (turnOff k off cause n s).chan k
    c.phase = .turnOff ∧ c.lastEnd = cause ∧ c.feedOn = false ∧ c.lastOff = some off := by
  unfold turnOff
  dsimp only
  rw [beginCapture_chan]
  generalize (if (s.chan k).phase = .peak then _ else s : State) = u
  have written (c : Chan) : (bankEdge (bankOf k) off (u.setChan k c)).chan k = c := State.chan_setChan u k c
  rw [written]
  exact ⟨rfl, rfl, rfl, rfl⟩

/-- A profile that ends early leaves its channel in TURN-OFF with the cause and the instant. -/
theorem endAt_chan (h : running s k = true) : let c := (endAt cause off k s).chan k
    c.phase = .turnOff ∧ c.lastEnd = cause ∧ c.feedOn = false ∧ c.lastOff = some off := by
  have ended := turnOff_chan k off cause { s with fresh := s.fresh + 1 } (freePeakEnergy s)
  unfold endAt
  dsimp only
  rw [if_neg (by simp [h]), (raise_pieces ..).1, State.chan_setChan]
  exact ended

theorem endAt_idle (h : running s k = false) : endAt cause off k s = s := by
  unfold endAt
  rw [h]
  rfl

end

theorem running_of_chan {s u : State} {k : Nat} (h : u.chan k = s.chan k) : running u k = running s k := by
  unfold running
  rw [h]

theorem running_of_turnOff {s : State} {k : Nat} (h : (s.chan k).phase = .turnOff) : running s k = false := by
  unfold running
  rw [h]

/-- No profile runs on channel `k`, and one that ran in `s` has ended with the cause. -/
def Ended (s : State) (cause k : Nat) (u : State) : Prop :=
  running u k = false ∧ (running s k = true → (u.chan k).phase = .turnOff ∧ (u.chan k).lastEnd = cause)

theorem Ended.of_chan {s u v : State} {cause k : Nat} (h : Ended s cause k u) (hc : v.chan k = u.chan k) :
    Ended s cause k v := by
  unfold Ended at *
  rw [running_of_chan hc, hc]
  exact h

/-- The list's running profiles end, each with the cause (R333). -/
theorem forEach_endEarly (cause : Nat) (l : List Nat) (s : State) :
    ∀ k ∈ l, Ended s cause k (forEach l (endEarly cause) s) := by
  have other {j k : Nat} (h : k ≠ j) (v : State) : (endEarly cause j v).chan k = v.chan k :=
    (endAt_within cause v.etc j v).chan_eq fun e => h e
  have own (k : Nat) (v : State) (hv : v.chan k = s.chan k ∨ Ended s cause k v) : Ended s cause k (endEarly cause k v)
      := by
    cases runs : running v k with
    | true =>
      obtain ⟨phase, last, -, -⟩ := endAt_chan k v.etc cause v runs
      exact ⟨running_of_turnOff phase, fun _ => ⟨phase, last⟩⟩
    | false =>
      rw [endEarly, endAt_idle _ _ _ _ runs]
      exact hv.elim (fun e => ⟨runs, fun hs => by rw [running_of_chan e, hs] at runs; cases runs⟩) id
  refine forEach_all (I := fun v => ∀ k, v.chan k = s.chan k ∨ Ended s cause k v) l ?_
    (fun k _ v hv => own k v (hv k)) ?_ fun k => .inl rfl
  · intro j _ v hv k
    by_cases e : k = j
    · subst e
      exact .inr (own k v (hv k))
    · exact (hv k).imp (other e v).trans fun h => h.of_chan (other e v)
  · intro k j v _ h
    by_cases e : k = j
    · subst e
      exact own k v (.inr h)
    · exact h.of_chan (other e v)

theorem endAll_ended (cause : Nat) (s : State) {k : Nat} (hk : k < 64) : Ended s cause k (endAll cause s) :=
  forEach_endEarly cause _ s k (List.mem_range.mpr hk)

/-! ## Bridge gates, Kettles and slots -/

theorem ebAllOff_off (s : State) {n : Nat} (hn : n < 8) : let u := (ebAllOff s).ebU n
    u.en = false ∧ u.hg = false ∧ u.lg = false := by
  refine forEach_all (I := fun _ => True) (Q := fun n v => (v.ebU n).en = false ∧ (v.ebU n).hg = false ∧
    (v.ebU n).lg = false) _ (fun _ _ _ _ => trivial) (fun n _ v _ => ?_) (fun n j v _ h => ?_) trivial n
    (List.mem_range.mpr hn)
  · unfold doEbDisable
    rw [State.ebU_setEb]
    exact ⟨rfl, rfl, rfl⟩
  · by_cases e : n = j
    · subst e
      unfold doEbDisable
      rw [State.ebU_setEb]
      exact ⟨rfl, rfl, rfl⟩
    · unfold doEbDisable
      rw [State.ebU_setEb_other _ _ e]
      exact h

theorem kcStop_kettle (k j : Nat) (s : State) : (kcStop k s).kettle j = s.kettle j := rfl

/-- A Kettle takes the state it is brought to (R334). -/
theorem ktEnter_kettle (k : Nat) (st : KtState) (s : State) : ((ktEnter k st s).kettle k).state = st := by
  unfold ktEnter
  dsimp only
  split
  next same => rw [State.kettle_setKettle]; exact same
  next =>
    rw [(raise_pieces ..).2.2.1]
    split
    all_goals simp only [kcStop_kettle, State.kettle_setKettle]

theorem ktEnter_kettle_other {j k : Nat} (h : j ≠ k) (st : KtState) (s : State) :
    (ktEnter k st s).kettle j = s.kettle j := by
  unfold ktEnter
  dsimp only
  split
  · exact State.kettle_setKettle_other _ _ h
  · rw [(raise_pieces ..).2.2.1]
    split
    all_goals simp only [kcStop_kettle, State.kettle_setKettle_other _ _ h]

/-- In SAFE every Kettle bleeds (R334, R418). -/
theorem forEach_ktUpdate_safe {s : State} (hs : s.flt.safe = true) (n : Nat) :
    ∀ k, k < n → ((forEach (List.range n) ktUpdate s).kettle k).state = .bleed := by
  have bleeds (k : Nat) {v : State} (hv : v.flt.safe = true) : ((ktUpdate k v).kettle k).state = .bleed := by
    unfold ktUpdate
    rw [ktEnter_kettle]
    unfold ktNext
    rw [hv]
    rfl
  intro k hk
  refine forEach_all (I := fun v => v.flt.safe = true) (Q := fun k v => (v.kettle k).state = .bleed) _
    (fun j _ v hv => ktUpdate_safe j v hv) (fun k _ v hv => bleeds k hv) (fun k j v hv h => ?_) hs k (List.mem_range.mpr
        hk)
  by_cases e : k = j
  · subst e
    exact bleeds k hv
  · exact (congrArg Kettle.state (ktEnter_kettle_other e _ v)).trans h

theorem mem_slotsWhere {s : State} {p : Event → Bool} {i : Nat} (hp : p {} = false) (h : p (s.slot i) = true) :
    i ∈ slotsWhere s p := by
  have found (m : Table Event) (hm : p (m.get {} i) = true) : i ∈ (m.filter (fun e => p e.2)).map (·.1) := by
    induction m with
    | nil => rw [Table.get_nil, hp] at hm; cases hm
    | cons e r ih =>
      obtain ⟨k, v⟩ := e
      unfold Table.get at hm
      split at hm
      next same =>
        subst same
        exact List.mem_map.mpr ⟨(k, v), List.mem_filter.mpr ⟨List.mem_cons_self, hm⟩, rfl⟩
      next =>
        rw [List.filter_cons]
        split
        · exact List.mem_cons_of_mem _ (ih hm)
        · exact ih hm
  exact found s.evs.slots h

/-- An event taken out of its slot does not wait to start, and no other begins to. -/
theorem dropEvent_slot (reason detail i : Nat) (s : State) : unstarted ((dropEvent reason detail i s).slot i) = false :=
    by
  have freed (v : State) : unstarted ((freeSlot i v).slot i) = false := by
    have gone : unstarted ((v.setSlot i (if (v.slot i).bad then { state := .quarantined } else {})).slot i) = false :=
        by
      rw [State.slot_setSlot]
      split <;> rfl
    have kept (k n : Nat) (w : State) : (ktPassed k i (ktRelease k n w)).slot i = w.slot i :=
      ((ktRelease_within ..).trans (ktPassed_within ..)).slot_eq id id
    unfold freeSlot
    dsimp only
    split
    · rw [kept]; exact gone
    · rw [kept]; exact gone
    · exact gone
  unfold dropEvent
  dsimp only
  rw [(notice_pieces ..).2.2.2.2.2.1]
  exact freed _

theorem dropEvent_slot_other {i j : Nat} (reason detail : Nat) (s : State) (h : j ≠ i) :
    (dropEvent reason detail i s).slot j = s.slot j :=
  (dropEvent_within reason detail i s).slot_eq (fun e => h e) id

/-- Once every event not started is dropped, none waits to start (R418). -/
theorem forEach_dropEvent (reason detail : Nat) (s : State) (j : Nat) :
    unstarted ((forEach (slotsWhere s unstarted) (dropEvent reason detail) s).slot j) = false := by
  have kept (i j : Nat) (v : State) (h : unstarted (v.slot j) = false) :
      unstarted ((dropEvent reason detail i v).slot j) = false := by
    by_cases e : j = i
    · subst e
      exact dropEvent_slot ..
    · rw [dropEvent_slot_other _ _ _ e]
      exact h
  cases waits : unstarted (s.slot j) with
  | true =>
    exact forEach_all (I := fun _ => True) (Q := fun j v => unstarted (v.slot j) = false) _ (fun _ _ _ _ => trivial)
      (fun i _ v _ => dropEvent_slot ..) (fun j i v _ h => kept i j v h) trivial j (mem_slotsWhere rfl waits)
  | false =>
    unfold forEach
    generalize slotsWhere s unstarted = l
    induction l generalizing s with
    | nil => exact waits
    | cons a r ih => exact ih _ (kept a j s waits)

/-! ## The entry to SAFE (R418) -/

theorem Rest.kettles {s u : State} (h : Rest s u) : u.kettles = s.kettles := by
  unfold Rest at h
  unfold State.kettles
  rw [h]

/-- What SAFE leaves, the collector's record of it and source 251. -/
theorem safeEntry_leaves (src : Nat) (byGrace : Bool) {s : State} (h : s.flt.safe = false) :
    let u := safeEntry src byGrace s
    SafeLeaves s u ∧ u.irc.host.pend.getLsbD 251 = true ∧ u.flt = { s.flt with
      safe := true, safeGrace := byGrace, safeSrc := src, safeEtc := s.etc, grace := none } := by
  unfold safeEntry
  rw [h]
  dsimp only
  rw [if_neg Bool.false_ne_true]
  obtain ⟨s1, hs1⟩ : ∃ v : State, v = { s with flt := { s.flt with
    safe := true, safeGrace := byGrace, safeSrc := src, safeEtc := s.etc, grace := none } } := ⟨_, rfl⟩
  rw [← hs1]
  obtain ⟨s2, hs2⟩ : ∃ v, v = forEach (slotsWhere s1 unstarted) (dropEvent 21 0) s1 := ⟨_, rfl⟩
  obtain ⟨s3, hs3⟩ : ∃ v, v = endAll 6 s2 := ⟨_, rfl⟩
  obtain ⟨s4, hs4⟩ : ∃ v, v = forEach (List.range s3.kettles) ktUpdate s3 := ⟨_, rfl⟩
  obtain ⟨s5, hs5⟩ : ∃ v, v = ebAllOff s4 := ⟨_, rfl⟩
  obtain ⟨s6, hs6⟩ : ∃ v, v = stopTests (fun _ => true) s5 := ⟨_, rfl⟩
  rw [← hs2, ← hs3, ← hs4, ← hs5, ← hs6]
  have w2 : Within (fun m => ∃ i, m.ofDrop i) s1 s2 := hs2 ▸ .forEach _ (fun i _ v =>
    (dropEvent_within 21 0 i v).mono fun _ h => ⟨i, h⟩) s1
  have w3 : Within (fun m => ∃ k < 64, m.ofEnd k) s2 s3 := hs3 ▸ endAll_within 6 s2
  have w4 : Within Move.ofKettle s3 s4 := hs4 ▸ .forEach _ (fun k _ v => ktUpdate_within k v) s3
  have w5 : Within (fun m => ∃ n, m = .eb n) s4 s5 := hs5 ▸ ebAllOff_within s4
  have w6 : Within (fun m => ∃ k, m = .dch k) s5 s6 := hs6 ▸ stopTests_within _ s5
  obtain ⟨u, hu⟩ : ∃ v, v = log 3 0 (leBytes 4 (fltSafeWord (mirrorState 3 (src + flagAt byGrace 7) (raise 251 s6))))
    (mirrorState 3 (src + flagAt byGrace 7) (raise 251 s6)) := ⟨_, rfl⟩
  have w7 : Within (fun m => m = .mirror ∨ m = .raise ∨ m = .log) (raise 251 s6) u :=
    hu ▸ Within.log (Within.mirror (.refl _) (.inr (.inl rfl)) (.inl rfl)) (.inr (.inr rfl))
  rw [← hu]
  have w67 : Within (fun m => m = .mirror ∨ m = .raise ∨ m = .log) s6 u :=
    ((Makes.raise 251 s6).within (.inr (.inl rfl))).trans w7
  have chan (k : Nat) : u.chan k = s3.chan k := by
    rw [w67.chan_eq (by simp), w6.chan_eq (by simp), w5.chan_eq (by simp), w4.chan_eq id]
  have ran (k : Nat) : s2.chan k = s.chan k := by
    rw [w2.chan_eq (fun ⟨_, h⟩ => h), hs1]
    rfl
  have same : s3.kettles = s.kettles := by
    rw [w3.rest.kettles, w2.rest.kettles, hs1]
    rfl
  have ended (k : Nat) (hk : k < 64) : Ended s2 6 k u := (hs3 ▸ endAll_ended 6 s2 hk : Ended s2 6 k s3).of_chan (chan k)
  refine ⟨⟨fun i => ?slots, fun k hk => (ended k hk).1, fun k hk runs => ?last, fun n hn => ?bridges, fun k hk =>
      ?kettles⟩,
    w7.pend (raise_pends (by decide) (by decide) s6), ?flt⟩
  case slots =>
    rw [w67.slot_eq (by simp) (by simp), w6.slot_eq (by simp) (by simp), w5.slot_eq (by simp) (by simp),
      w4.slot_eq id id, w3.slot_eq (fun ⟨_, _, h⟩ => h) (fun ⟨_, _, h⟩ => h), hs2]
    exact forEach_dropEvent 21 0 s1 i
  case last => exact ((ended k hk).2 ((running_of_chan (ran k)).trans runs)).2
  case bridges =>
    rw [w67.eb_eq (by simp), w6.eb_eq (by simp), hs5]
    exact ebAllOff_off s4 hn
  case kettles =>
    rw [w67.kettle_eq (by simp), w6.kettle_eq (by simp), w5.kettle_eq (by simp), hs4]
    refine forEach_ktUpdate_safe ?_ _ k (same ▸ hk)
    rw [w3.flt_eq (fun ⟨_, _, h⟩ => h), w2.flt_eq (fun ⟨_, h⟩ => h), hs1]
  case flt =>
    rw [w67.flt_eq (by simp), w6.flt_eq (by simp), w5.flt_eq (by simp), w4.flt_eq id, w3.flt_eq (fun ⟨_, _, h⟩ => h),
      w2.flt_eq (fun ⟨_, h⟩ => h), hs1]

end Sys2Proof.Machine
end

section
/-! Fault reactions, the grace timer, acknowledgement and the watchdog (13_interrupts_fault_collection.md R412 to
R420). -/

namespace Sys2Proof.Machine

/-- The kinds of write that tell of a fault and move nothing. -/
def Move.tells : Move → Prop
  | .raise | .wake | .log | .mirror | .reaction => True
  | _ => False

/-- What a fault that moves nothing leaves. -/
def Told (s u : State) : Prop :=
  u = { s with irc := u.irc, sys.wakePending := u.sys.wakePending, obs := u.obs, bgs := u.bgs, flt := u.flt }

theorem Told.trans {s u v : State} (h : Told s u) (g : Told u v) : Told s v := by
  unfold Told at *
  rw [g, h]

theorem Told.of_raise {s u : State} {i : Irc} {w : BitVec 13} (h : u = { s with irc := i, sys.wakePending := w }) :
    Told s u := by
  subst h
  exact Eq.refl _

theorem Within.told {s u : State} (h : Within Move.tells s u) : Told s u := by
  refine Within.keeps (fun m v w hm hv ht => ht.trans ?_) h (Eq.refl _)
  cases hv with
  | raise n v => exact .of_raise (raise_frame n v)
  | wake b v => exact .of_raise (wake_frame b v)
  | log b v => exact Eq.refl _
  | mirror o v => exact Eq.refl _
  | reaction f v => exact Eq.refl _
  | _ => exact hm.elim

/-! ## Reactions (R412 to R414) -/

theorem graceReaction_leaves (n : Nat) (s : State) : (graceReaction n s).flt = { s.flt with
      pend := s.flt.pend ||| BitVec.twoPow 96 n
      grace := some (s.flt.grace.getD (s.etc + s.graceUs * ticksPerUs)) } ∧
    Within Move.tells s (graceReaction n s) := by
  unfold graceReaction
  dsimp only
  split
  next d running =>
    refine ⟨?_, (Within.refl s).reaction trivial (by exact Eq.refl _)⟩
    have due : s.flt.grace = some d := running
    rw [due, Option.getD_some, ← due]
  next stopped =>
    refine ⟨?_, Within.raise ((Within.refl s).reaction trivial (by exact Eq.refl _)) trivial⟩
    rw [raise_frame, stopped]
    rfl

theorem SafeLeaves.of_act {s v u : State} (h : SafeLeaves v u) (ha : v.act = s.act) (hk : v.kettles = s.kettles) :
    SafeLeaves s u := by
  unfold SafeLeaves running State.chan at *
  rw [← ha, ← hk]
  exact h

/-- What tells of SAFE moves nothing. -/
theorem SafeLeaves.within {s u v : State} (h : SafeLeaves s u) (w : Within (fun m => m = .wake ∨ m = .log) u v) :
    SafeLeaves s v := by
  obtain ⟨slots, stopped, last, bridges, kettles⟩ := h
  have chan (k : Nat) : v.chan k = u.chan k := w.chan_eq (by simp)
  refine ⟨fun i => ?_, fun k hk => ?_, fun k hk runs => ?_, fun n hn => ?_, fun k hk => ?_⟩
  · rw [w.slot_eq (by simp) (by simp)]; exact slots i
  · rw [running_of_chan (chan k)]; exact stopped k hk
  · rw [chan]; exact last k hk runs
  · rw [w.eb_eq (by simp)]; exact bridges n hn
  · rw [w.kettle_eq (by simp)]; exact kettles k hk

section
variable {n : Nat} {s : State} (present : (!s.sys.order64 && absentFault n) = false)
include present

/-- A fault is recorded and told of, its reaction follows, and it is logged. -/
theorem fault_pieces (c : Nat) (hc : classApplied s n = c) : ∃ v w, fault n s = w ∧
    Within Move.tells (faultRecord n c s) v ∧ v.flt = (faultRecord n c s).flt ∧
    v.irc.host.pend.getLsbD 248 = true ∧ Within (fun m => m = .wake ∨ m = .log) (reaction n c v) w := by
  subst hc
  unfold fault
  rw [present]
  dsimp only
  rw [if_neg Bool.false_ne_true]
  refine ⟨mirror 6 ([BitVec.ofNat 8 n, BitVec.ofNat 8 (classApplied s n), 0] ++
    leBytes 4 (raise 248 (faultRecord n (classApplied s n) s)).flt.total)
    (raise 248 (faultRecord n (classApplied s n) s)), _, rfl, ?_, ?_, ?_, ?_⟩
  · exact Within.mirror (Within.raise (.refl _) trivial) trivial trivial
  · refine ((Within.mirror (A := fun m => m = .raise ∨ m = .mirror) (.refl _) (.inl rfl) (.inr rfl)).flt_eq (by
      simp)).trans ?_
    rw [raise_frame]
  · exact (Within.mirror (A := Move.any) (.refl _) trivial trivial).pend (raise_pends (by decide) (by decide) _)
  · exact (Within.log (.refl _) (.inr rfl)).trans ((Makes.wake 11 _).within (.inl rfl))

theorem fault_log (h : s.flt.safe = true ∨ s.faultClass n = 0) :
    (fault n s).flt = (faultRecord n 0 s).flt ∧ (fault n s).evs = s.evs ∧ (fault n s).act = s.act := by
  have class0 : classApplied s n = 0 := by
    unfold classApplied
    split
    · rfl
    next h' => exact h.resolve_left h'
  obtain ⟨v, w, hw, told, flt, -, after⟩ := fault_pieces present 0 class0
  rw [hw, after.flt_eq (by simp)]
  have quiet : Told s w := by
    refine Told.trans (u := v) ?_ ((after.mono fun m hm => by rcases hm with rfl | rfl <;> trivial).told)
    exact Told.trans (u := faultRecord n 0 s) (Eq.refl _) told.told
  refine ⟨flt, ?_, ?_⟩
  · rw [quiet]
  · rw [quiet]

theorem fault_grace (h : s.flt.safe = false) (hc : s.faultClass n = 1) :
    (fault n s).flt = { (faultRecord n 1 s).flt with
      pend := s.flt.pend ||| BitVec.twoPow 96 n
      grace := some (s.flt.grace.getD (s.etc + s.graceUs * ticksPerUs)) } ∧
    (fault n s).evs = s.evs ∧ (fault n s).act = s.act := by
  have class1 : classApplied s n = 1 := by
    unfold classApplied
    rw [h]
    exact hc
  obtain ⟨v, w, hw, told, flt, -, after⟩ := fault_pieces present 1 class1
  obtain ⟨graced, same⟩ : (graceReaction n v).flt = { v.flt with
      pend := v.flt.pend ||| BitVec.twoPow 96 n
      grace := some (v.flt.grace.getD (v.etc + v.graceUs * ticksPerUs)) } ∧
      Within Move.tells v (graceReaction n v) := graceReaction_leaves n v
  have quiet : Told s v := Told.trans (u := faultRecord n 1 s) (Eq.refl _) told.told
  have quiet' : Told s w :=
    (quiet.trans same.told).trans (after.mono fun m hm => by rcases hm with rfl | rfl <;> trivial).told
  have time : v.etc + v.graceUs * ticksPerUs = s.etc + s.graceUs * ticksPerUs := by rw [quiet]; rfl
  rw [hw, after.flt_eq (by simp)]
  refine ⟨?_, ?_, ?_⟩
  · refine graced.trans ?_
    rw [flt, time]
    rfl
  · rw [quiet']
  · rw [quiet']

theorem fault_safeEntry (h : s.flt.safe = false) (hc : 2 ≤ s.faultClass n) :
    SafeLeaves s (fault n s) ∧ (fault n s).irc.host.pend.getLsbD 251 = true ∧
    (fault n s).flt = { (faultRecord n (s.faultClass n) s).flt with
      safe := true, safeGrace := false, safeSrc := n, safeEtc := s.etc, grace := none } := by
  have class2 : classApplied s n = s.faultClass n := by
    unfold classApplied
    rw [h]
    rfl
  obtain ⟨v, w, hw, told, flt, -, after⟩ := fault_pieces present _ class2
  have entry : reaction n (s.faultClass n) v = safeEntry n false v := by
    unfold reaction
    split
    · omega
    · omega
    · rfl
  have quiet : Told s v := Told.trans (u := faultRecord n (s.faultClass n) s) (Eq.refl _) told.told
  have time : v.etc = s.etc := by rw [quiet]
  have act : v.act = s.act := by rw [quiet]
  have kettles : v.kettles = s.kettles := by rw [quiet]; rfl
  have notSafe : v.flt.safe = false := by rw [flt]; exact h
  obtain ⟨leaves, pend, record⟩ := safeEntry_leaves n false notSafe
  rw [entry] at after
  rw [hw, after.flt_eq (by simp), record, time, flt]
  exact ⟨(leaves.of_act act kettles).within after, after.pend pend, rfl⟩

end

/-- A fault of a present source, in the words of R412 to R418. -/
theorem fault_reacts {n : Nat} {s : State} {x : Tick} (time : s.etc = x) (present : absentFault n = false) (hn : n < 96)
    : let u := fault n s
    Occurred s u n ∧ u.flt.last.etc = x ∧ u.irc.host.pend.getLsbD 248 = true ∧
    u.flt.first = (if s.flt.first.valid then s.flt.first else u.flt.last) ∧
    (s.flt.safe = true ∨ s.faultClass n = 0 →
      u.flt.safe = s.flt.safe ∧ u.flt.pend = s.flt.pend ∧ u.flt.grace = s.flt.grace ∧ u.evs = s.evs ∧ u.act = s.act) ∧
    (s.flt.safe = false → s.faultClass n = 1 →
      u.flt.safe = false ∧ u.flt.pend = s.flt.pend ||| BitVec.twoPow 96 n ∧
      u.flt.grace = some (s.flt.grace.getD (x + s.graceUs * ticksPerUs)) ∧ u.evs = s.evs ∧ u.act = s.act) ∧
    (s.flt.safe = false → 2 ≤ s.faultClass n →
      u.flt.safe = true ∧ u.flt.safeSrc = n ∧ u.flt.safeGrace = false ∧ u.flt.safeEtc = x ∧ u.flt.grace = none ∧
      u.irc.host.pend.getLsbD 251 = true ∧ SafeLeaves s u) := by
  subst time
  have here : (!s.sys.order64 && absentFault n) = false := by rw [present, Bool.and_false]
  have record := fault_flt here
  unfold FltStep at record
  obtain ⟨v, w, hw, told, flt, pend, after⟩ := fault_pieces here _ rfl
  refine ⟨fault_occurred here hn, by rw [record]; rfl, ?pend, by rw [record]; rfl, fun h => ?log, fun h hc => ?grace,
    fun h hc => ?safe⟩
  case pend =>
    rw [hw]
    exact after.pend ((reaction_within n _ v).pend pend)
  case log =>
    obtain ⟨flt, evs, act⟩ := fault_log here h
    rw [flt]
    exact ⟨rfl, rfl, rfl, evs, act⟩
  case grace =>
    obtain ⟨flt, evs, act⟩ := fault_grace here h hc
    rw [flt]
    exact ⟨h, rfl, rfl, evs, act⟩
  case safe =>
    obtain ⟨leaves, pend, flt⟩ := fault_safeEntry here h hc
    rw [flt]
    exact ⟨rfl, rfl, rfl, rfl, rfl, pend, leaves⟩

/-- Settles O37: each of the three rows is a fault of its source, the watchdog's with the count restarted. -/
theorem faultReactions : Obligations.FaultReactions := by
  unfold Obligations.FaultReactions
  intro s t h x reacts
  have settled {k : Instr} {n : Nat} (v : State) (hl : leaves_mode k = false)
      (he : effect k (s.advance (instant k)) = fault n v) (hv : reacts n (fault n v)) : Yields k s (reacts n) := by
    refine yields_alive k h hl ?_
    rw [he]
    generalize fault n v = w at hv ⊢
    exact hv
  have time : (s.advance t).etc = x := etc_alive t h
  refine ⟨settled (s.advance t) rfl rfl (fault_reacts time (by decide) (by decide)),
    settled (s.advance t) rfl rfl (fault_reacts time (by decide) (by decide)), fun on due => ?_⟩
  refine settled { s.advance t with flt.wdt := (s.advance t).flt.wdt.restart (s.advance t).etc } rfl ?_
    (fault_reacts time (by decide) (by decide))
  have late : ¬((s.advance t).flt.wdt.timeout = 0 ∨
      (s.advance t).etc < (s.advance t).flt.wdt.since + (s.advance t).flt.wdt.period) :=
    not_or.mpr ⟨on, Nat.not_lt.mpr (time ▸ due)⟩
  show doWatchdogTimeout (s.advance t) = _
  unfold doWatchdogTimeout
  dsimp only
  rw [if_neg late, show (s.advance t).sys.mode = .run from h.1]

/-! ## The grace timer (R415) -/

theorem graceDue_due {s : State} {d : Tick} (hd : s.flt.grace = some d) (due : d ≤ s.etc) (pend : s.flt.pend ≠ 0#96) :
    graceDue s = safeEntry (lowestPend s.flt.pend) true s := by
  unfold graceDue
  rw [hd]
  dsimp only
  rw [if_pos due, if_neg pend]

theorem graceDue_early {s : State} (early : ∀ d, s.flt.grace = some d → s.etc < d) : graceDue s = s := by
  unfold graceDue
  split
  next d hd => exact if_neg (Nat.not_le.mpr (early d hd))
  next => rfl

/-- A pending word's lowest source is pending, and none below it is. -/
theorem lowestPend_lowest {p : BitVec 96} (h : p ≠ 0) :
    p.getLsbD (lowestPend p) = true ∧ ∀ m, m < lowestPend p → p.getLsbD m = false := by
  obtain ⟨n, hn, bit⟩ : ∃ n, n < 96 ∧ p.getLsbD n = true := by
    by_contra none
    refine h (BitVec.eq_of_getLsbD_eq fun i hi => ?_)
    rw [Bool.eq_false_iff.mpr fun e => none ⟨i, hi, e⟩]
    simp
  unfold lowestPend
  cases found : (List.range 96).find? (fun n => p.getLsbD n) with
  | none => exact absurd bit (by simpa using List.find?_eq_none.mp found n (List.mem_range.mpr hn))
  | some k =>
    obtain ⟨here, -, none⟩ := List.find?_range_eq_some.mp found
    exact ⟨here, fun m hm => by simpa using none m hm⟩

/-! ## Acknowledgement and the watchdog (R415, R420) -/

theorem acknowledge_leaves (w : Nat) (mask : Word) (s : State) : let m : BitVec 96 := mask.setWidth 96 <<< (32 * w)
    (acknowledge w mask s).flt = { s.flt with
      sticky := s.flt.sticky &&& ~~~m, pend := s.flt.pend &&& ~~~m
      grace := if s.flt.pend &&& ~~~m = 0 then none else s.flt.grace } ∧
    (s.flt.grace ≠ none → s.flt.pend &&& ~~~m = 0 → (acknowledge w mask s).irc.host.pend.getLsbD 250 = true) ∧
    (acknowledge w mask s).evs = s.evs ∧ (acknowledge w mask s).act = s.act := by
  unfold acknowledge
  dsimp only
  split
  next last =>
    obtain ⟨-, none⟩ := Bool.and_eq_true_iff.mp last
    refine ⟨?_, fun _ _ => raise_pends (by decide) (by decide) _, ?_, ?_⟩
    · rw [raise_frame]
      exact congrArg (fun g => { s.flt with
        sticky := s.flt.sticky &&& ~~~(mask.setWidth 96 <<< (32 * w))
        pend := s.flt.pend &&& ~~~(mask.setWidth 96 <<< (32 * w)), grace := g }) (if_pos (eq_of_beq none)).symm
    · rw [raise_frame]
    · rw [raise_frame]
  next more =>
    refine ⟨?_, fun some none => absurd (Bool.and_eq_true_iff.mpr ⟨?_, ?_⟩) more, rfl, rfl⟩
    · split
      next none =>
        cases hg : s.flt.grace with
        | none => rfl
        | some d => exact absurd (Bool.and_eq_true_iff.mpr ⟨by rw [hg]; rfl, beq_iff_eq.mpr none⟩) more
      next => rfl
    · exact Option.isSome_iff_ne_none.mpr some
    · exact beq_iff_eq.mpr none

theorem effect_of_advance {k : Instr} {s v : State} (h : effect k (s.advance (instant k)) = v) {p : State → Prop}
    (ha : Alive s) (hl : leaves_mode k = false) (hp : p (settle v)) : Yields k s p :=
  yields_alive k ha hl (h ▸ hp)

/-- Settles O38: the rows of the grace timer and of the watchdog, by what each writes of the collector. -/
theorem acknowledgementAndWatchdog : Obligations.AcknowledgementAndWatchdog := by
  unfold Obligations.AcknowledgementAndWatchdog
  refine ⟨fun s t h => ⟨fun d notSafe hd due pend => ?deadline, fun w mask early => ?acknowledge⟩, ?_⟩
  case deadline =>
    have time := etc_alive t h
    have row : effect (.graceDeadline t) (s.advance (instant (.graceDeadline t))) =
        safeEntry (lowestPend s.flt.pend) true (s.advance t) :=
      graceDue_due (s := s.advance t) hd (time ▸ due) pend
    obtain ⟨leaves, -, flt⟩ := safeEntry_leaves (lowestPend s.flt.pend) true (s := s.advance t) notSafe
    obtain ⟨lowest, below⟩ := lowestPend_lowest pend
    refine effect_of_advance row h rfl ?_
    generalize safeEntry (lowestPend s.flt.pend) true (s.advance t) = u at leaves flt ⊢
    have same : (settle u).flt = u.flt := rfl
    rw [same, flt]
    exact ⟨rfl, rfl, time, rfl, lowest, below, leaves⟩
  case acknowledge =>
    have time := etc_alive t h
    have row : effect (.faultAcknowledge t w mask) (s.advance (instant (.faultAcknowledge t w mask))) =
        acknowledge w.val mask (s.advance t) := by
      show acknowledge w.val mask (graceDue (s.advance t)) = _
      rw [graceDue_early fun d hd => time ▸ early d hd]
    refine effect_of_advance row h rfl ?_
    have left := acknowledge_leaves w.val mask (s.advance t)
    generalize acknowledge w.val mask (s.advance t) = u at left ⊢
    exact left
  · intro s t h on w x
    refine ⟨fun v right inTime => ?service, fun v wrong => ?bad, fun quiet late => ?warning⟩
    case service =>
      have time := etc_alive t h
      have accepted : w.early x = false := by
        unfold Watchdog.early
        split
        next y hy => exact decide_eq_false (Nat.not_lt.mpr (inTime y hy))
        next => rfl
      have row : effect (.watchdogService t v) (s.advance (instant (.watchdogService t v))) =
          { s.advance t with flt.wdt := w.accept x s.fresh, fresh := s.fresh + 1 } := by
        show doWatchdogService v (s.advance t) = _
        unfold doWatchdogService
        simp only [time]
        rw [if_neg (show ¬(s.advance t).flt.wdt.timeout = 0 from on)]
        exact if_pos ⟨right, accepted⟩
      exact effect_of_advance row h rfl ⟨rfl, rfl⟩
    case bad =>
      have time := etc_alive t h
      have row : effect (.watchdogService t v) (s.advance (instant (.watchdogService t v))) =
          fault 0 { s.advance t with flt.wdt := { w.restart x with bad := true } } := by
        show doWatchdogService v (s.advance t) = _
        unfold doWatchdogService
        simp only [time]
        rw [if_neg (show ¬(s.advance t).flt.wdt.timeout = 0 from on)]
        exact if_neg fun e => wrong e.1
      have here (u : State) : (!u.sys.order64 && absentFault 0) = false := Bool.and_false _
      have record := fault_flt (here { s.advance t with flt.wdt := { w.restart x with bad := true } })
      have occurred := fault_occurred (here { s.advance t with flt.wdt := { w.restart x with bad := true } }) (by
          decide)
      refine effect_of_advance row h rfl ?_
      generalize fault 0 { s.advance t with flt.wdt := { w.restart x with bad := true } } = u at record occurred ⊢
      unfold FltStep at record
      exact ⟨congrArg Flt.wdt record, occurred⟩
    case warning =>
      have time := etc_alive t h
      have row : effect (.watchdogWarning t) (s.advance (instant (.watchdogWarning t))) =
          raise 252 { s.advance t with flt.wdt := { w with warned := true } } := by
        have warns : ¬(w.timeout = 0 ∨ w.warned = true ∨ 4 * (x - w.since) < 3 * w.period) := by
          rw [quiet]
          exact not_or.mpr ⟨on, not_or.mpr ⟨Bool.false_ne_true, Nat.not_lt.mpr late⟩⟩
        show doWatchdogWarning (s.advance t) = _
        unfold doWatchdogWarning
        simp only [time]
        exact if_neg warns
      refine effect_of_advance row h rfl ⟨?_, raise_pends (by decide) (by decide) _⟩
      rw [raise_frame]
      rfl

end Sys2Proof.Machine
end

section
/-! Wheel inputs: crossings, the Strainer, accepted edges and long pulses (05_wheel_inputs_synchronisation.md R155 to
R171). -/

namespace Sys2Proof.Machine

/-! ## Crossings (R156, R157) -/

section
variable {s : State} {t : Tick} (h : Alive s)
include h

theorem wheelOn_alive : wheelOn (s.advance t) = true := by
  obtain ⟨run, up, -⟩ := h
  unfold wheelOn
  rw [show (s.advance t).sys.mode = .run from run, show (s.advance t).supply.state = s.supply.state from rfl]
  simp [up]

theorem inputAwake_alive {n : Nat} (used : s.role n ≠ 0) : inputAwake (s.advance t) n = true := by
  unfold inputAwake
  rw [show (s.advance t).sys.mode = .run from h.1, show (s.advance t).role n = s.role n from rfl]
  simp [used]

/-- Nothing but time, one wheel input and HOST_INT_N with its hold has changed. -/
theorem inputFrame (i : Table WheelIn) : let u := settle { s.advance t with whl := { (s.advance t).whl with inp := i } }
    u = { s with
      now := max s.now t, etc := max s.etc t, whl := { s.whl with inp := u.whl.inp }
      irc := { s.irc with line := u.irc.line, hold := u.irc.hold, quiet := u.irc.quiet } } := by
  rw [advance_alive t h]
  exact Eq.refl _

/-- A crossing of an input in use reaches its Strainer. -/
theorem effect_wheelCrossing {n : Fin 8} (used : s.role n ≠ 0) (rising : Bool) (pk : Nat) :
    effect (.wheelCrossing t n rising pk) (s.advance (instant (.wheelCrossing t n rising pk))) =
      strain n.val rising pk (s.advance t) := by
  show doWheelCrossing n.val rising pk (s.advance t) = _
  unfold doWheelCrossing
  rw [wheelOn_alive h, inputAwake_alive h used]
  rfl

end

section
variable {s : State} {n pk : Nat} {rising : Bool}

theorem strain_same (e : rising = comparator (s.wheel n)) : strain n rising pk s = s := if_pos e

theorem strain_strained (e : rising ≠ comparator (s.wheel n)) (hs : strained s n = true) : strain n rising pk s =
    s.setWheel n { s.wheel n with held := (s.wheel n).held.dropLast, rej := satInc 0xFFFFFFFF (s.wheel n).rej } := by
  unfold strain
  rw [if_neg e, if_pos hs]

theorem strain_unarmed (e : rising ≠ comparator (s.wheel n)) (hs : strained s n = false)
    (hu : unarmed s n rising pk = true) : strain n rising pk s = s := by
  unfold strain
  rw [if_neg e, if_neg (by simp [hs]), if_pos hu]

theorem strain_held (e : rising ≠ comparator (s.wheel n)) (hs : strained s n = false)
    (hu : unarmed s n rising pk = false) : strain n rising pk s = s.setWheel n { s.wheel n with
      held := (s.wheel n).held ++ [{ stamp := s.etc, rising := rising, peakMv := pk }] } := by
  unfold strain
  rw [if_neg e, if_neg (by simp [hs]), if_neg (by simp [hu])]

theorem strained_iff : strained s n = true ↔
    ∃ h, (s.wheel n).held.getLast? = some h ∧ s.etc < h.stamp + s.filtNs n * ticksPerNs := by
  unfold strained filtTicks
  cases (s.wheel n).held.getLast? <;> simp

theorem unarmed_iff : unarmed s n rising pk = true ↔
    isVr s n = true ∧ isTiming s n rising = true ∧ pk ≤ armThreshold s n := by
  unfold unarmed
  simp [and_assoc]

end

/-- Settles O18: the branches of `strain`. -/
theorem crossingsEnterTheStrainer : Obligations.CrossingsEnterTheStrainer := by
  unfold Obligations.CrossingsEnterTheStrainer
  intro s t n rising pk h used w x strained' unarmed' others
  have time : (s.advance t).etc = x := etc_alive t h
  have row := effect_wheelCrossing (t := t) h used rising pk
  have strained_eq : strained (s.advance t) n.val = true ↔ strained' := by
    rw [strained_iff, time]
    exact Iff.rfl
  have unarmed_eq : unarmed (s.advance t) n.val rising pk = true ↔ unarmed' := unarmed_iff
  have untouched (e : strain n.val rising pk (s.advance t) = s.advance t) :
      Yields (.wheelCrossing t n rising pk) s (fun u => u.wheel n = w ∧ others u) :=
    effect_of_advance (row.trans e) h rfl ⟨rfl, fun m _ => rfl, inputFrame h s.whl.inp⟩
  have written (w' : WheelIn) (e : strain n.val rising pk (s.advance t) = (s.advance t).setWheel n.val w') :
      Yields (.wheelCrossing t n rising pk) s (fun u => u.wheel n = w' ∧ others u) :=
    effect_of_advance (row.trans e) h rfl ⟨State.wheel_setWheel .., fun m hm => State.wheel_setWheel_other _ _ hm,
      inputFrame h _⟩
  have free (st : ¬ strained') : strained (s.advance t) n.val = false :=
    Bool.eq_false_iff.mpr fun c => st (strained_eq.mp c)
  have armed (un : ¬ unarmed') : unarmed (s.advance t) n.val rising pk = false :=
    Bool.eq_false_iff.mpr fun c => un (unarmed_eq.mp c)
  refine ⟨fun e => untouched (strain_same e), fun e st => written _ (strain_strained e (strained_eq.mpr st)),
    fun e st un => untouched (strain_unarmed e (free st) (unarmed_eq.mpr un)), fun e st un => written _ ?_⟩
  rw [strain_held (s := s.advance t) e (free st) (armed un), time]
  rfl

/-! ## The crank source's edges (R165, R166, R168, R171) -/

theorem qsInvalidate_frame (r : Nat) (s : State) : qsInvalidate r s = { s with
    irc := (qsInvalidate r s).irc, sys.wakePending := (qsInvalidate r s).sys.wakePending, bgs := (qsInvalidate r s).bgs
    whl := { s.whl with qs := (qsInvalidate r s).whl.qs, qsInval := (qsInvalidate r s).whl.qsInval } } := by
  unfold qsInvalidate
  split
  · dsimp only
    rw [raise_frame]
    rfl
  · rfl

/-- What an accepted edge of the crank source does before its passage: the record of the stop loses its use. -/
theorem edgeAccepted_leaves (t : Tick) (s : State) : ∃ qs inv bgs irc wp, edgeAccepted t s = { s with
    irc := irc, bgs := bgs, sys := { s.sys with stallAt := none, wakePending := wp }
    whl := { s.whl with lastEdge := t, secEdges := 0, qsMoved := true, qs := qs, qsInval := inv } } := by
  unfold edgeAccepted
  rw [wake_frame, qsInvalidate_frame]
  exact ⟨_, _, _, _, _, rfl⟩

theorem edgeFrame_frame (t : Tick) (s : State) : edgeFrame t s = { s with
    irc := (edgeFrame t s).irc, obs := (edgeFrame t s).obs, sys.wakePending := (edgeFrame t s).sys.wakePending } :=
  mirrorAt_frame ..

section
variable {s : State} {n : Nat} {t : Tick}

theorem sourceEdge_lost (lost : s.whl.sync = .lost) : sourceEdge n t s = edgeFrame t (edgeAccepted t s) := by
  unfold sourceEdge
  dsimp only
  rw [if_pos (edgeAccepted_sync t s lost)]

/-- The decoder at an edge of the crank source without direction decoding (R166). -/
def CrankDec.atEdge (t : Tick) (d : CrankDec) : CrankDec :=
  { d with prevLead := if d.lead = 0 then none else some d.lead, lead := t, before := d.f, stepBack := some false }

theorem sourceEdge_forward (sync : s.whl.sync ≠ .lost) (plain : decodes s n = false) : sourceEdge n t s =
    edgeFrame t (forwardPassage n t (onCrank (CrankDec.atEdge t) (edgeAccepted t s))) := by
  have here : (edgeAccepted t s).whl.sync ≠ .lost := ne_of_eq_of_ne (edgeAccepted_sync t s rfl) sync
  have forward : decodes (edgeAccepted t s) n = false := by
    obtain ⟨_, _, _, _, _, e⟩ := edgeAccepted_leaves t s
    rw [e]
    exact plain
  unfold sourceEdge
  dsimp only
  rw [if_neg here, forward]
  rfl

/-- The first edge after NOSYNC gives the stamp that the first period is measured from (R166, R194). -/
theorem forwardPassage_first (rev : s.lns.rev = false) (first : s.whl.crank.last = none) : forwardPassage n t s =
    lensFirst t (onCrank (fun d => { d with last := some t, agree := true, f := nextTooth s s.whl.shift d.f }) s) := by
  unfold forwardPassage
  dsimp only
  rw [if_neg (by simp [rev]), first]

/-- Writes that tell of a new prediction: of the scheduler, and of what a drop moves. -/
theorem predictionChanged_within (s : State) :
    Within (fun m => ∃ i, m.ofDrop i ∨ m = .near i) s (predictionChanged s) := by
  have counted : Within (fun m => ∃ i, m.ofDrop i ∨ m = .near i) s
      (if s.evs.pass = [] then s else { s with evs := { s.evs with restarts := wrapInc 16 s.evs.restarts } }) :=
    .ite (.refl s) (Within.counts (.refl s) ⟨0, .inl trivial⟩ (by exact ⟨rfl, rfl⟩))
  have dropped (v : State) : Within (fun m => ∃ i, m.ofDrop i ∨ m = .near i) v (dropPassedWaiting v) :=
    .forEach _ (fun i _ w => (dropEvent_within 19 0 i w).mono fun _ h => ⟨i, .inl h⟩) v
  have overflow (v : State) : Within (fun m => ∃ i, m.ofDrop i ∨ m = .near i) v (nearOverflow v) := by
    unfold nearOverflow
    exact .ite (Within.raise (Within.counts (.refl v) ⟨0, .inl trivial⟩ (by exact ⟨rfl, rfl⟩)) ⟨0, .inl trivial⟩) (.refl
        v)
  have joined (l : List Nat) (v : State) : Within (fun m => ∃ i, m.ofDrop i ∨ m = .near i) v (forEach l joinPass v) :=
    .forEach _ (fun i _ w => (Makes.near i _ w).within ⟨i, .inr rfl⟩) v
  have started (l : List Nat) (v : State) : Within (fun m => ∃ i, m.ofDrop i ∨ m = .near i) v (startPass l v) := by
    unfold startPass
    exact Within.counts (.refl v) ⟨0, .inl trivial⟩ (by exact ⟨rfl, rfl⟩)
  unfold predictionChanged
  dsimp only
  generalize (if s.evs.pass = [] then s else _ : State) = u at counted ⊢
  exact ((counted.trans (dropped u)).trans ((overflow _).trans (joined _ _))).trans (started _ _)

theorem speedNow_blocks (s : State) : (speedNow s).cfg = s.cfg ∧ (speedNow s).whl = s.whl ∧ (speedNow s).evs = s.evs :=
    by
  unfold speedNow setSpeed
  dsimp only
  rw [raiseIf_frame, raiseIf_frame]
  exact ⟨rfl, rfl, rfl⟩

/-- A Lens update without a position passes no cycle boundary, so the configuration stays (R151, R194). -/
theorem lensUpdate_cfg (j k : Nat) (err : Bool) (h : positioned s.whl.sync = false) :
    (lensUpdate t j k err s).cfg = s.cfg := by
  have still : counting s = false := by
    unfold counting
    rw [h]
    rfl
  have unmoved : passTo s.etc s = s := by
    unfold passTo
    rw [still]
  unfold lensUpdate
  simp only [unmoved, still, Bool.false_eq_true, if_false]
  have updated (l : Lns) : (speedNow (newPrediction { s with lns := l })).cfg = s.cfg ∧
      (speedNow (newPrediction { s with lns := l })).whl = s.whl := by
    obtain ⟨cfg, whl, -⟩ := speedNow_blocks (newPrediction { s with lns := l })
    exact ⟨cfg, whl⟩
  have changed (u : State) : (predictionChanged u).cfg = u.cfg := by rw [(predictionChanged_within u).rest]
  rw [changed]
  generalize hu : speedNow (newPrediction _) = u
  obtain ⟨cfg, whl⟩ : u.cfg = s.cfg ∧ u.whl = s.whl := hu ▸ updated _
  rw [if_neg (by rw [whl, h]; exact Bool.false_ne_true)]
  exact cfg

theorem changeSync_cfg (st : Sync) (cause : Nat) (h : positioned s.whl.sync = false) :
    (changeSync st cause s).cfg = s.cfg := by
  unfold changeSync
  simp only [h, Bool.false_and, Bool.false_eq_true, if_false, latchAll_blocks, log_blocks, mirrorState_blocks,
      raise_blocks]

theorem boundaryUpdate_tooth (j k : Nat) (err : Bool) (sync : s.whl.sync = .tooth) (gaps : s.gapCount ≠ 0) :
    (boundaryUpdate t j k err none s).whl.sync = .tooth := by
  have updated : (lensUpdate t j k err s).whl.sync = .tooth := lensUpdate_sync t j k err s sync
  have gaps' : (lensUpdate t j k err s).gapCount ≠ 0 := by
    unfold State.gapCount
    rw [lensUpdate_cfg j k err (by rw [sync]; rfl)]
    exact gaps
  have unlimited : quickLimit (lensUpdate t j k err s) = lensUpdate t j k err s := by
    unfold quickLimit
    rw [updated]
    exact if_neg fun e => nomatch e.1
  unfold boundaryUpdate anchorWithoutGap
  simp only [if_pos gaps', unlimited, updated, reduceCtorEq, if_false]

/-- The second edge after NOSYNC, its period the first measured, leads to TOOTH (R168). -/
theorem forwardPassage_second {l : Tick} (rev : s.lns.rev = false) (last : s.whl.crank.last = some l)
    (fresh : s.whl.crank.prevN = 0) (cand : s.whl.crank.cand = none) (sync : s.whl.sync = .nosync)
    (gaps : s.gapCount ≠ 0) : (forwardPassage n t s).whl.sync = .tooth := by
  have unclassed : periodClass s s.whl.crank t = none := by
    unfold periodClass
    rw [last, fresh]
  have unjudged (T : Nat) : judgeCandidate T s = (s, none) := by
    unfold judgeCandidate
    rw [cand]
  have unplaced : positioned s.whl.sync = false := by rw [sync]; rfl
  unfold forwardPassage
  dsimp only
  rw [if_neg (by simp [rev]), last]
  unfold forwardPeriod
  simp only [unclassed, unplaced, unjudged, Bool.false_eq_true, if_false]
  have awake (v : State) (hv : v.whl.sync = .nosync) : v.whl.sync ≠ .lost ∧ positioned v.whl.sync = false := by
    rw [hv]
    exact ⟨by decide, rfl⟩
  have classed : (setClass n (edgeClassOf none) s).whl.sync = .nosync := setClass_sync n _ s sync
  simp only [if_neg (awake s sync).1, (awake _ classed).2, if_neg (awake _ classed).1, reduceCtorEq, if_false,
      decide_false,
    Bool.false_and, Bool.or_self, Bool.false_eq_true]
  unfold forwardBoundary
  dsimp only
  generalize hv : onCrank (passForward _ t none _) _ = v
  have sync' : v.whl.sync = .nosync := hv ▸ classed
  have cfg : v.cfg = s.cfg := hv ▸ rfl
  rw [if_pos sync']
  refine boundaryUpdate_tooth _ _ _ (changeSync_sync ..) ?_
  unfold State.gapCount
  rw [changeSync_cfg _ _ (by rw [sync']; rfl), cfg]
  exact gaps

end

/-! ## Long pulses (R165 to R167) -/

/-- The crank source's decoder after its first long pulse in a state without a position: the step is undone and redone
backwards (R166, R167). -/
def CrankDec.longPulse (f : Nat) (d : CrankDec) : CrankDec :=
  { d with f := f, stepBack := none, runClass := .long, run := 1, back := true, quickRun := 0 }

theorem sourcePulse_long {s : State} (n : Nat) (sync : s.whl.sync = .nosync)
    (stepped : s.whl.crank.stepBack = some false) (dir : s.whl.crank.dir = .unknown)
    (first : s.whl.crank.runClass ≠ .long) (rev : s.lns.rev = false) : sourcePulse n .long s = { s with
      whl := { s.whl with
        crank := s.whl.crank.longPulse (prevTooth s s.whl.shift s.whl.crank.before)
        revTeeth := satInc 65535 s.whl.revTeeth, revSeen := true } } := by
  have redone : redoStep n true s = { s with whl := { s.whl with
      crank := { s.whl.crank with f := prevTooth s s.whl.shift s.whl.crank.before, stepBack := none }
      revTeeth := satInc 65535 s.whl.revTeeth } } := by
    unfold redoStep
    dsimp only
    rw [if_pos rfl, if_neg]
    · rfl
    · exact fun e => Bool.false_ne_true (rev.symm.trans (Bool.and_eq_true_iff.mp e).1)
  have kept : nextDir .long 1 false .unknown = .unknown := by decide
  unfold sourcePulse
  dsimp only
  rw [if_neg (by rw [sync]; decide), stepped]
  rw [redone]
  simp only [if_true, reduceCtorEq, if_false, onCrank, runDec, first, dir, sync]
  unfold dirChanged quickCheck
  simp [onCrank, kept, positioned, CrankDec.longPulse, dir]

/-! ## Accepted crossings (R155 to R158) -/

/-- An input after an accepted timing crossing, without direction decoding. -/
def timingEdge (s : State) (n : Nat) (c : Crossing) (rest : List Crossing) : WheelIn :=
  { s.wheel n with
    held := rest, level := c.rising, stamp := c.stamp, edges := wrapInc 32 (s.wheel n).edges, adaptPeak := c.peakMv
    peak := if isVr s n then sat 65535 (c.peakMv / 10) else (s.wheel n).peak, lead := none
    lostEdge := s.whl.sync == .lost }

theorem decodesHere_plain {s u : State} {n : Nat} (plain : decodes s n = false) (hu : u.cfg = s.cfg) :
    decodesHere u n = false := by
  unfold decodesHere decodes State.whMode
  rw [hu]
  exact Bool.and_eq_false_iff.mpr (.inl plain)

section
variable {s : State} {t : Tick} {n : Fin 8} {c : Crossing} {rest : List Crossing} (h : Alive s) (used : s.role n ≠ 0)
  (held : (s.wheel n).held = c :: rest) (stayed : c.stamp + s.filtNs n * ticksPerNs ≤ max s.etc t)
  (plain : decodes s n = false)
include h used held stayed

theorem effect_strainerAccept : effect (.strainerAccept t n) (s.advance (instant (.strainerAccept t n))) =
    let u := (s.advance t).setWheel n { s.wheel n with held := rest }
    if isTiming s n c.rising then timingAccepted n c u else trailingAccepted n c u := by
  have time := etc_alive t h
  have taken : (decide (c.stamp + filtTicks (s.advance t) n ≤ (s.advance t).etc) && wheelOn (s.advance t) &&
      inputAwake (s.advance t) n) = true := by
    rw [wheelOn_alive h, inputAwake_alive h used, time]
    exact Bool.and_eq_true_iff.mpr ⟨Bool.and_eq_true_iff.mpr ⟨decide_eq_true stayed, rfl⟩, rfl⟩
  show doStrainerAccept n.val (s.advance t) = _
  unfold doStrainerAccept
  rw [show ((s.advance t).wheel n.val).held = c :: rest from held]
  exact if_pos taken

include plain

/-- An accepted opposite crossing re-arms the input (R158). -/
theorem effect_trailing (opposite : isTiming s n c.rising = false) :
    effect (.strainerAccept t n) (s.advance (instant (.strainerAccept t n))) =
      (s.advance t).setWheel n { s.wheel n with held := rest, level := c.rising } := by
  rw [effect_strainerAccept h used held stayed]
  dsimp only
  rw [opposite, if_neg Bool.false_ne_true]
  unfold trailingAccepted
  dsimp only
  rw [State.wheel_setWheel, State.setWheel_setWheel, decodesHere_plain (s := s)
    (u := (s.advance t).setWheel n { s.wheel n with held := rest, level := c.rising }) plain rfl]

/-- An accepted timing crossing of the crank source (R155). -/
theorem effect_timing (timing : isTiming s n c.rising = true) (crank : crankInput s = some n.val) :
    effect (.strainerAccept t n) (s.advance (instant (.strainerAccept t n))) =
      sourceEdge n c.stamp ((s.advance t).setWheel n (timingEdge s n c rest)) := by
  rw [effect_strainerAccept h used held stayed]
  dsimp only
  rw [if_pos timing]
  unfold timingAccepted
  dsimp only
  rw [State.setWheel_setWheel]
  refine (if_pos crank).trans (congrArg (fun w => sourceEdge n.val c.stamp ((s.advance t).setWheel n.val w)) ?_)
  rw [State.wheel_setWheel, decodesHere_plain (s := s)
    (u := (s.advance t).setWheel n { s.wheel n with held := rest }) plain rfl]
  rfl

end

theorem wheel_edgeFrame (t : Tick) (s : State) : (edgeFrame t s).whl = s.whl ∧ (edgeFrame t s).lns = s.lns := by
  rw [edgeFrame_frame]
  exact ⟨rfl, rfl⟩

/-- Settles O19: the rows by the role of the input, and the pulse that is long by time. -/
theorem edgesAndLongPulses : Obligations.EdgesAndLongPulses := by
  unfold Obligations.EdgesAndLongPulses
  refine ⟨?accepted, ?long⟩
  case accepted =>
    intro s t n c rest h used held stayed plain yields edge
    have time := etc_alive t h
    refine ⟨fun opposite => ?opposite, fun timing role => ?auxiliary, fun timing crank lost => ?lost,
      fun timing crank sync rev first => ?first, fun l timing crank sync rev last fresh cand gaps => ?second⟩
    case opposite =>
      exact effect_of_advance (effect_trailing h used held stayed plain opposite) h rfl
        ⟨State.wheel_setWheel .., fun m hm => State.wheel_setWheel_other _ _ hm, inputFrame h _⟩
    case auxiliary =>
      refine ⟨_, exec_strainerAccept_auxiliary t h role held stayed timing, ?_, fun m hm => Table.get_set_other _ _ _
          hm,
        fun _ => ?_, rfl⟩
      · exact Table.get_set_same ..
      · show (s.irc.host.raise (24 + n.val)).pend.getLsbD (24 + n.val) = true
        rw [IrcTarget.raise_pend]
        have : 24 + n.val < 256 := by omega
        simp [this]
    all_goals
      have row := effect_timing h used held stayed plain timing crank
      obtain ⟨qs, inv, bgs, irc, wp, taken⟩ := edgeAccepted_leaves c.stamp
        ((s.advance t).setWheel n (timingEdge s n c rest))
      refine effect_of_advance row h rfl ?_
    case lost =>
      rw [sourceEdge_lost (by exact lost), taken]
      generalize hu : edgeFrame c.stamp _ = u
      obtain ⟨whl, lns⟩ := hu ▸ wheel_edgeFrame c.stamp _
      refine ⟨?_, ?_, ?_, ?_, lns⟩
      · exact (congrArg (fun w : Whl => w.inp.get {} n.val) whl).trans (Table.get_set_same ..)
      · exact congrArg Whl.lastEdge whl
      · exact (congrArg Whl.sync whl).trans lost
      · exact (congrArg Whl.crank whl).trans rfl
    case first =>
      rw [sourceEdge_forward (by rw [show ((s.advance t).setWheel _ _).whl.sync = .nosync from sync]; decide) (by exact
          plain),
        taken, forwardPassage_first (by exact rev) (by exact first)]
      generalize hu : edgeFrame c.stamp _ = u
      obtain ⟨whl, lns⟩ := hu ▸ wheel_edgeFrame c.stamp _
      refine ⟨?_, ?_, ?_, ?_, ?_, ?_, ?_⟩
      · exact (congrArg (fun w : Whl => w.inp.get {} n.val) whl).trans (Table.get_set_same ..)
      · exact (congrArg Whl.sync whl).trans sync
      · exact congrArg Whl.lastEdge whl
      · exact congrArg (fun w : Whl => w.crank.last) whl
      · exact congrArg Lns.tLast lns
      · exact congrArg Lns.started lns
      · exact congrArg Lns.havePn lns
    case second =>
      rw [sourceEdge_forward (by rw [show ((s.advance t).setWheel _ _).whl.sync = .nosync from sync]; decide) (by exact
          plain),
        taken]
      refine (congrArg Whl.sync (wheel_edgeFrame ..).1).trans ?_
      exact forwardPassage_second rev last fresh cand sync gaps
  case long =>
    intro s t n l h lead pulse edge due held crank
    have time := etc_alive t h
    have row : effect (.pulseLongTimeout t n) (s.advance (instant (.pulseLongTimeout t n))) =
        sourcePulse n .long ((s.advance t).setWheel n { s.wheel n with pulse := .long }) := by
      show doPulseLongTimeout n.val (s.advance t) = _
      unfold doPulseLongTimeout
      rw [show ((s.advance t).wheel n.val).lead = some l from lead]
      dsimp only
      rw [show ((s.advance t).wheel n.val).pulse = .none from pulse,
        show ((s.advance t).wheel n.val).lostEdge = false from edge, show ((s.advance t).wheel n.val).held = [] from
            held, time,
        if_pos]
      · exact if_pos crank
      · simp only [decide_true, Bool.not_false, Bool.true_and, List.any_nil, Bool.and_true]
        exact decide_eq_true due
    refine ⟨fun lost => ?_, fun sync step dir runs rev => ?_⟩
    · refine effect_of_advance row h rfl ?_
      rw [show sourcePulse n.val .long _ = _ from if_pos (by exact lost)]
      exact ⟨State.wheel_setWheel .., rfl⟩
    · refine effect_of_advance row h rfl ?_
      rw [sourcePulse_long n.val (by exact sync) (by exact step) (by exact dir) (by exact runs) (by exact rev)]
      exact ⟨State.wheel_setWheel .., sync, rfl, dir, rfl, rfl, rfl, rfl, rfl⟩

end Sys2Proof.Machine
end

section
/-! Promotion, stall and loss of synchronisation, and the Lens between boundary teeth
(05_wheel_inputs_synchronisation.md R168 to R183; 06_lens_interpolation.md R197 to R214). -/

namespace Sys2Proof.Machine

/-! ## Angles passed (R214) -/

/-- Angles passed by counting move the sequencers and the angle last passed, nothing else. -/
def Passed (s u : State) : Prop := u = { s with seq := u.seq, lns := { s.lns with seen := u.lns.seen } }

theorem Passed.of_seqOnly {s u : State} (h : SeqOnly s u) (a : Nat) : Passed s { u with lns.seen := a } := by
  unfold SeqOnly at h
  rw [h]
  exact Eq.refl _

theorem Passed.refl (s : State) : Passed s s := Eq.refl _

theorem Passed.trans {s u v : State} (h : Passed s u) (g : Passed u v) : Passed s v := by
  unfold Passed at *
  rw [g, h]

theorem endWaita_frame (code i : Nat) (s : State) : SeqOnly s (endWaita code i s) := by
  unfold endWaita
  split
  · exact Eq.refl _
  · exact .rfl

theorem repeatN_frame {f : State → State} (h : ∀ s, SeqOnly s (f s)) (n : Nat) (s : State) : SeqOnly s (repeatN f n s)
    := by
  induction n generalizing s with
  | zero => exact .rfl
  | succ n ih => exact (h s).trans (ih (f s))

theorem passContext_frame (swept : Bool) (len lo hi i : Nat) (s : State) :
    SeqOnly s (passContext swept len lo hi i s) := by
  have activated (u : State) (hu : SeqOnly s u) : SeqOnly s (match u.task i with
      | some t =>
        if t.trig = 1 then repeatN (activate 2 i) (min (marksIn len lo hi t) (if swept then 1 else 300)) u else u
      | none => u) := by
    split
    · split
      · exact hu.trans (repeatN_frame (fun v => activate_frame 2 i v) _ u)
      · exact hu
    · exact hu
  unfold passContext
  refine activated _ ?_
  split
  · split
    · exact endWaita_frame ..
    · exact .rfl
  · exact .rfl

theorem passRange_frame (swept : Bool) (lo hi : Nat) (s : State) : Passed s (passRange swept lo hi s) := by
  unfold passRange
  split
  · exact .refl s
  · exact .of_seqOnly (SeqOnly.foldl _ _ (fun v i => passContext_frame swept s.cycleLen lo hi i v) s) hi

theorem passRange_seen (swept : Bool) {lo hi : Nat} (h : lo ≠ hi) (s : State) :
    (passRange swept lo hi s).lns.seen = hi := by
  unfold passRange
  rw [if_neg h]

theorem passTo_frame (x : Tick) (s : State) : Passed s (passTo x s) := by
  unfold passTo
  split
  · split
    · exact passRange_frame ..
    · exact .refl s
  · exact .refl s

/-! ## Promotion, stall and loss (R168, R170, R175, R183) -/

theorem teethOn_advance (s : State) (t : Tick) (shift k f : Nat) : teethOn (s.advance t) shift k f = teethOn s shift k f
    := by
  induction k generalizing f with
  | zero => rfl
  | succ k ih => exact ih _

theorem promotedF_advance (s : State) (t : Tick) (ofs : Nat) : promotedF (s.advance t) ofs = promotedF s ofs := by
  unfold promotedF
  dsimp only
  rw [teethOn_advance]
  rfl

theorem not_early {s : State} {t : Tick} (h : Alive s) (due : stallAt s ≤ max s.etc t)
    (held : heldBefore s (stallAt s) = false) :
    ¬((s.advance t).etc < stallAt (s.advance t) ∨ heldBefore (s.advance t) (stallAt (s.advance t)) = true) :=
  not_or.mpr ⟨Nat.not_lt.mpr (etc_alive t h ▸ due), Bool.eq_false_iff.mp held⟩

/-- Settles O20: the rows of promotion, stall and loss. -/
theorem promotionStallAndLoss : Obligations.PromotionStallAndLoss := by
  unfold Obligations.PromotionStallAndLoss
  refine ⟨fun s t p q ofs h primary secondary known fresh placed agree gone => ?promotion, fun s t h =>
    ⟨fun due held moving => ?stall, fun due held sync track moved place source up => ?record, fun lost => ?loss⟩⟩
  case promotion =>
    have row : effect (.secondaryPromotion t) (s.advance (instant (.secondaryPromotion t))) =
        let u := passTo (s.advance t).etc (s.advance t)
        raise 22 { u with
          whl := { u.whl with
            promoted := true, promoFirst := true, shift := secondShift s ofs
            lastEdge := u.whl.second.last.getD u.whl.lastEdge
            crank := { u.whl.second with f := promotedF s ofs, hasPos := true, cand := none, stepBack := none } }
          lns.pauseCross := 2 } := by
      show doSecondaryPromotion (s.advance t) = _
      unfold doSecondaryPromotion
      rw [show inputOf (s.advance t) 1 = some p from primary, show inputOf (s.advance t) 2 = some q from secondary,
        show (s.advance t).whl.secOfs = some ofs from known]
      dsimp only
      rw [gone, show (s.advance t).whl.promoted = false from fresh, show (s.advance t).whl.secAgree = true from agree,
        show positioned (s.advance t).whl.sync = true from placed]
      rw [promotedF_advance]
      simp only [Bool.not_false, Bool.and_self, if_true]
      rfl
    have passed := passTo_frame (s.advance t).etc (s.advance t)
    refine effect_of_advance row h rfl ?_
    generalize passTo (s.advance t).etc (s.advance t) = u at passed ⊢
    unfold Passed at passed
    have whl : u.whl = s.whl := by rw [passed]; rfl
    have pend := raise_pends (n := 22) (by decide) (by decide) { u with
      whl := { u.whl with
        promoted := true, promoFirst := true, shift := secondShift s ofs
        lastEdge := u.whl.second.last.getD u.whl.lastEdge
        crank := { u.whl.second with f := promotedF s ofs, hasPos := true, cand := none, stepBack := none } }
      lns.pauseCross := 2 }
    dsimp only
    rw [whl] at pend ⊢
    refine ⟨?_, ?_, ?_, ?_, pend, ?_, ?_⟩
    all_goals rw [settle_frame, raise_frame]
  case stall =>
    have row : effect (.stall t) (s.advance (instant (.stall t))) = stallNow (s.advance t) := by
      show doStall (s.advance t) = _
      unfold doStall
      rw [if_neg (not_early h due held)]
      split
      next still => exact absurd still moving
      next => rfl
    exact effect_of_advance row h rfl (enterNosync_sync ..)
  case record =>
    have writes : ((s.advance t).whl.qsTrack && (s.advance t).whl.qsMoved && (s.advance t).whl.crank.hasPos &&
        sourceDecodes (s.advance t) && (s.advance t).supply.state != .holdup) = true := by
      rw [show (s.advance t).whl.qsTrack = true from track, show (s.advance t).whl.qsMoved = true from moved,
        show (s.advance t).whl.crank.hasPos = true from place, show sourceDecodes (s.advance t) = true from source]
      exact bne_iff_ne.mpr up
    have row : effect (.stall t) (s.advance (instant (.stall t))) = writeRecord (s.advance t) := by
      show doStall (s.advance t) = _
      unfold doStall
      rw [if_neg (not_early h due held), show (s.advance t).whl.sync = .nosync from sync]
      exact if_pos writes
    refine effect_of_advance row h rfl ⟨rfl, ?_, rfl⟩
    show { s.whl with qsMoved := false, qsTrack := true } = _
    rw [← track]
  case loss =>
    have row : effect (.lossReported t) (s.advance (instant (.lossReported t))) = enterNosync 12 (s.advance t) := by
      show doLossReported (s.advance t) = _
      unfold doLossReported
      rw [show (s.advance t).whl.sync = .lost from lost]
    exact effect_of_advance row h rfl (enterNosync_sync ..)

/-! ## The Lens between boundary teeth -/

section
variable {s u : State} (h : Passed s u)
include h

theorem Passed.lns : u.lns = { s.lns with seen := u.lns.seen } := by
  unfold Passed at h
  rw [h]

theorem Passed.whl : u.whl = s.whl := by
  unfold Passed at h
  rw [h]

theorem Passed.evs : u.evs = s.evs := by
  unfold Passed at h
  rw [h]

theorem Passed.cfg : u.cfg = s.cfg := by
  unfold Passed at h
  rw [h]

theorem Passed.etc : u.etc = s.etc := by
  unfold Passed at h
  rw [h]

end

theorem speedNow_lns (s : State) : (speedNow s).lns = { s.lns with
    speed := speedAt s s.etc, sixteenths := (s.etc - s.lns.tLast) / max 1 (s.lns.pn / 4096) } := by
  unfold speedNow setSpeed
  dsimp only
  rw [raiseIf_frame, raiseIf_frame]

theorem speedNow_pend (s : State) {n : Nat} (h : s.irc.host.pend.getLsbD n = true) :
    (speedNow s).irc.host.pend.getLsbD n = true := by
  have raised (c : Bool) (m : Nat) {u : State} (hu : u.irc.host.pend.getLsbD n = true) :
      (raiseIf c m u).irc.host.pend.getLsbD n = true := by
    unfold raiseIf
    split
    · exact raise_keepsPend m n hu
    · exact hu
  exact raised _ 38 (raised _ 37 h)

theorem withdraw_within (reason i : Nat) (s : State) : Within (Move.ofDrop i) s (withdraw reason i s) := by
  unfold withdraw
  split
  · exact .ite (dropEvent_within ..) (.refl s)
  · exact .ite (dropEvent_within ..) (.refl s)
  · exact .refl s

/-- Settles O21: the rows of the Lens. -/
theorem lensBetweenTeeth : Obligations.LensBetweenTeeth := by
  unfold Obligations.LensBetweenTeeth
  intro s t h
  have time := etc_alive t h
  refine ⟨fun counts open' due inside => ?virtual, fun counts closes running due => ?hold,
    fun counts closes mode due held => ?overdue, fun pn sync later => ?speed, fun angle a counts here valid ahead near
        => ?angle⟩
  case virtual =>
    obtain ⟨u, hu⟩ : ∃ u, u = passTo (virtualAt s) (s.advance t) := ⟨_, rfl⟩
    have passed : Passed (s.advance t) u := hu ▸ passTo_frame ..
    have cur : (u.lns.cur + 1) % (2 * u.nTeeth) = (s.lns.cur + 1) % (2 * s.nTeeth) := by
      unfold State.nTeeth
      rw [passed.lns, passed.cfg]
      rfl
    obtain ⟨v, hv⟩ : ∃ v : State, v = { u with lns := { u.lns with
      tOpen := virtualAt s, cur := (s.lns.cur + 1) % (2 * s.nTeeth), k := (u.lns.k + 1) % 4, mode := .run } } := ⟨_,
          rfl⟩
    obtain ⟨w, hw⟩ : ∃ w, w = passRange false (s.lns.cur * 4096 + 4095) ((s.lns.cur + 1) % (2 * s.nTeeth) * 4096) v :=
        ⟨_, rfl⟩
    have crossed : Passed v w := hw ▸ passRange_frame ..
    have row : effect (.virtualBoundary t) (s.advance (instant (.virtualBoundary t))) = nearFill (dropPassedWaiting w)
        := by
      show doVirtualBoundary (s.advance t) = _
      unfold doVirtualBoundary
      rw [show counting (s.advance t) = true from counts, show closesOnTooth (s.advance t) = false from open',
        show virtualAt (s.advance t) = virtualAt s from rfl, if_pos (by simpa using time ▸ due)]
      dsimp only
      rw [← hu, cur, ← hv]
      simp only [inside, decide_false, Bool.false_and, Bool.false_eq_true, if_false]
      rw [show (s.advance t).lns.cur = s.lns.cur from rfl, ← hw]
    have dropped : Within (fun m => ∃ i, m.ofDrop i) w (dropPassedWaiting w) :=
      .forEach _ (fun i _ v => (dropEvent_within 19 0 i v).mono fun _ h => ⟨i, h⟩) w
    have lns : (nearFill (dropPassedWaiting w)).lns = w.lns := by
      rw [(nearFill_within _).rest]
      show (dropPassedWaiting w).lns = w.lns
      rw [dropped.rest]
    refine effect_of_advance row h rfl ?_
    generalize nearFill (dropPassedWaiting w) = z at lns ⊢
    rw [show (settle z).lns = z.lns from rfl, lns, crossed.lns, hv]
    dsimp only
    rw [passed.lns]
    exact ⟨rfl, rfl, rfl, rfl, rfl, rfl, rfl⟩
  case hold =>
    have row : effect (.countHold t) (s.advance (instant (.countHold t))) =
        passTo (s.advance t).etc { s.advance t with lns.mode := .hold } := by
      show doCountHold (s.advance t) = _
      unfold doCountHold
      rw [show counting (s.advance t) = true from counts, show closesOnTooth (s.advance t) = true from closes,
        show (s.advance t).lns.mode = .run from running, if_pos]
      exact decide_eq_true (time ▸ due)
    have passed := passTo_frame (s.advance t).etc { s.advance t with lns.mode := .hold }
    refine effect_of_advance row h rfl ?_
    generalize passTo (s.advance t).etc { s.advance t with lns.mode := .hold } = u at passed ⊢
    exact ⟨passed.lns, passed.whl, passed.evs⟩
  case overdue =>
    obtain ⟨u, hu⟩ : ∃ u, u = passTo (s.advance t).etc (s.advance t) := ⟨_, rfl⟩
    have passed : Passed (s.advance t) u := hu ▸ passTo_frame ..
    obtain ⟨v, hv⟩ : ∃ v, v = raise 32 { u with
      lns := { u.lns with mode := .overdue, overdues := satInc 65535 u.lns.overdues }, evs.hold := true } := ⟨_, rfl⟩
    obtain ⟨w, hw⟩ : ∃ w, w = forEach (slotsWhere v (fun e => committed e && decide (v.lns.cur < angInterval e.target)))
      (withdraw 14) v := ⟨_, rfl⟩
    have withdrawn : Within (fun m => ∃ i, m.ofDrop i) v w :=
      hw ▸ .forEach _ (fun i _ x => (withdraw_within 14 i x).mono fun _ h => ⟨i, h⟩) v
    have row : effect (.toothOverdue t) (s.advance (instant (.toothOverdue t))) = speedNow w := by
      show doToothOverdue (s.advance t) = _
      have overdue : (counting (s.advance t) && closesOnTooth (s.advance t) && (s.advance t).lns.mode != .overdue &&
          decide (overdueAt (s.advance t) ≤ (s.advance t).etc) && !heldBefore (s.advance t) (overdueAt (s.advance t))) =
          true := by
        rw [show counting (s.advance t) = true from counts, show closesOnTooth (s.advance t) = true from closes,
          show overdueAt (s.advance t) = overdueAt s from rfl, show heldBefore (s.advance t) (overdueAt s) = false from
              held,
          time]
        simpa using ⟨mode, le_max_iff.mp due⟩
      unfold doToothOverdue
      rw [if_pos overdue]
      dsimp only
      rw [← hu, ← hv, ← hw]
    have lns : w.lns = v.lns := by rw [withdrawn.rest]
    have raised : v.lns = { u.lns with mode := .overdue, overdues := satInc 65535 u.lns.overdues } := by rw [hv,
        raise_frame]
    refine effect_of_advance row h rfl ⟨?_, ?_, ?_, ?_⟩
    · show (speedNow w).lns.mode = .overdue
      rw [speedNow_lns, lns, raised]
    · show (speedNow w).lns.overdues = _
      rw [speedNow_lns, lns, raised, passed.lns]
      rfl
    · show (speedNow w).evs.hold = true
      rw [(speedNow_blocks w).2.2, withdrawn.hold_eq, hv, raise_frame]
    · refine speedNow_pend w (withdrawn.pend ?_)
      rw [hv]
      exact raise_pends (by decide) (by decide) _
  case speed => 
    have row : effect (.speedRecompute t) (s.advance (instant (.speedRecompute t))) = speedNow (s.advance t) := by
      show doSpeedRecompute (s.advance t) = _
      unfold doSpeedRecompute
      exact if_pos ⟨pn, sync, time ▸ later⟩
    refine effect_of_advance row h rfl ?_
    have lns := speedNow_lns (s.advance t)
    rw [time] at lns
    exact lns
  case angle =>
    have row : effect (.anglePassed t angle) (s.advance (instant (.anglePassed t angle))) =
        passRange false s.lns.seen angle.toNat (s.advance t) := by
      show doAnglePassed angle (s.advance t) = _
      unfold doAnglePassed lensLin
      rw [show counting (s.advance t) = true from counts, time, show lensLinAt (s.advance t) (max s.etc t) = some a from
          here]
      dsimp only
      exact if_pos (Bool.and_eq_true_iff.mpr ⟨Bool.and_eq_true_iff.mpr ⟨valid, ahead⟩, decide_eq_true near⟩)
    have moves : s.lns.seen ≠ angle.toNat := by
      intro e
      simp [inRange, fwdDist, ← e] at ahead
    have passed := passRange_frame false s.lns.seen angle.toNat (s.advance t)
    have seen := passRange_seen false moves (s.advance t)
    refine effect_of_advance row h rfl ?_
    generalize passRange false s.lns.seen angle.toNat (s.advance t) = u at passed seen ⊢
    exact ⟨passed.lns.trans (by rw [seen]; rfl), passed.whl, passed.evs⟩

end Sys2Proof.Machine
end

section
/-! The EB units: starts, stops, loads, phases, events and trips (12_pwm_timers.md R371 to R384). -/

namespace Sys2Proof.Machine

/-! ## What a phase, an event and a load leave of their unit -/

/-- A kept high phase that begins with a low bootstrap is dropped (R376). -/
theorem ebPhase_low {s : State} {n : Nat} (x len : Nat) (free : ebHeld (s.ebU n) = false)
    (low : (s.ebU n).bstLow = true) :
    (ebPhase true x len n s).ebU n = { s.ebU n with
      high := true, phDrop := true, bstUv := satInc 255 (s.ebU n).bstUv, flags := (s.ebU n).flags ||| 16#5 } := by
  unfold ebPhase
  dsimp only
  rw [if_neg (by simp [free]), if_pos (by simp [low]), raiseIf_setEb]

/-- The phase at count 0 of a unit whose outputs are free begins where the phase changes (R372). -/
theorem ebZeroPhase_change {s : State} {n : Nat} (x : Tick) (free : ebHeld (s.ebU n) = false)
    (low : (s.ebU n).high = false) (cmp : (s.ebU n).act.cmp ≠ 0) :
    ebZeroPhase x n s = ebPhase true x (ebZeroLen (s.ebU n)) n s := by
  have high : ((s.ebU n).act.cmp != 0) = true := bne_iff_ne.mpr cmp
  unfold ebZeroPhase
  dsimp only
  rw [free, Bool.false_and, if_neg Bool.false_ne_true, high, low, if_neg (by decide)]

/-- The unit at a boundary, when its phase at count 0 begins (R371, R377, R387). -/
def ebAtZero (x : Tick) (n : Nat) (s : State) : State :=
  let u := ebLate (if ebArmedFor (s.ebU n) x then ebLoad (s.ebU n) else s.ebU n)
  let z := ebZero n (s.setEb n { u with anchor := x, anchorCount := 0, down := false, boundary := x })
  if u.updn then z else ebPer n z

theorem ebBoundary_eq (x : Tick) (n : Nat) (s : State) : ebBoundary x n s = ebZeroPhase x n (ebAtZero x n s) := rfl

/-- Where no arm waits, count 0 changes no output, no counter of dropped phases and no loaded value. -/
theorem ebAtZero_unarmed {s : State} {n : Nat} (x : Tick) (h : (s.ebU n).armAt = none) :
    let z := (ebAtZero x n s).ebU n
    z.tripped = (s.ebU n).tripped ∧ z.clearOk = (s.ebU n).clearOk ∧ z.high = (s.ebU n).high ∧ z.act = (s.ebU n).act ∧
    z.bstLow = (s.ebU n).bstLow ∧ z.bstUv = (s.ebU n).bstUv ∧ z.hg = (s.ebU n).hg ∧ z.lg = (s.ebU n).lg ∧
    z.pendOn = (s.ebU n).pendOn ∧ z.dropH = (s.ebU n).dropH ∧ z.dropL = (s.ebU n).dropL := by
  have unarmed : ebArmedFor (s.ebU n) x = false := by unfold ebArmedFor; rw [h]
  unfold ebAtZero
  simp only [unarmed, Bool.false_eq_true, if_false]
  split
  · rw [ebZero_eb, State.ebU_setEb]
    exact ⟨rfl, rfl, rfl, rfl, rfl, rfl, rfl, rfl, rfl, rfl, rfl⟩
  · rw [ebPer_eb, ebZero_eb, State.ebU_setEb]
    exact ⟨rfl, rfl, rfl, rfl, rfl, rfl, rfl, rfl, rfl, rfl, rfl⟩

theorem ebHeld_free {u : Eb} (trip : u.tripped = false) (clear : u.clearOk = false) : ebHeld u = false := by
  unfold ebHeld
  rw [trip, clear]
  rfl

/-- The row of a crossing that is due (R372). -/
theorem doEbPhaseEdge_due {s : State} {n : Nat} {x : Tick} (b : Bool) (en : (s.ebU n).en = true)
    (hx : ebCrossing (s.ebU n) = some x) (due : x ≤ s.etc) :
    doEbPhaseEdge n b s = ebCmp n (ebPhase (!(s.ebU n).high) x (ebPhaseLen (s.ebU n) (!(s.ebU n).high)) n
      (s.setEb n { s.ebU n with bstLow := b })) := by
  unfold doEbPhaseEdge
  dsimp only
  rw [en, hx]
  exact if_pos due

/-- The row of a boundary that is due (R371). -/
theorem doEbPeriodBoundary_due {s : State} {n : Nat} (b : Bool) (en : (s.ebU n).en = true)
    (run : (s.ebU n).updn = false ∨ (s.ebU n).down = true) (due : ebBoundaryDue (s.ebU n) ≤ s.etc) :
    doEbPeriodBoundary n b s = ebBoundary (ebBoundaryDue (s.ebU n)) n (s.setEb n { s.ebU n with bstLow := b }) := by
  unfold doEbPeriodBoundary
  dsimp only
  refine if_pos ?_
  simp only [en, due, Bool.and_eq_true, Bool.or_eq_true, Bool.not_eq_true', decide_eq_true_iff, true_and, and_true]
  exact run

/-- Settles O16: the crossing and the boundary with a low bootstrap end in the same dropped phase. -/
theorem lowBootstrapDropsHighPhases : Obligations.LowBootstrapDropsHighPhases := by
  unfold Obligations.LowBootstrapDropsHighPhases
  intro s t n h en trip clear high dropped
  have time := etc_alive t h
  generalize hv : ({ s.ebU n with bstLow := true } : Eb) = v
  have held : ebHeld v = false := by subst hv; exact ebHeld_free trip clear
  have low : v.bstLow = true := by subst hv; rfl
  refine ⟨fun x hx due => ?crossing, fun run due arm cmp => ?boundary⟩
  case crossing =>
    have row : effect (.ebPhaseEdge t n true) (s.advance (instant (.ebPhaseEdge t n true))) =
        ebCmp n (ebPhase true x (ebPhaseLen (s.ebU n) true) n ((s.advance t).setEb n v)) := by
      have := doEbPhaseEdge_due (s := s.advance t) true en hx (time ▸ due)
      rw [show (((s.advance t).ebU n).high) = false from high] at this
      rw [← hv]
      exact this
    refine effect_of_advance row h rfl ?_
    generalize hw : ebCmp n (ebPhase true x (ebPhaseLen (s.ebU n) true) n ((s.advance t).setEb n v)) = w
    have unit : (settle w).ebU n = { v with
        high := true, phDrop := true, bstUv := satInc 255 v.bstUv, flags := v.flags ||| 16#5 ||| 4#5
        preCmp := (prescale v.ips v.preCmp).1 } := by
      show w.ebU n = _
      rw [← hw, ebCmp_eb, ebPhase_low x _ (by rw [State.ebU_setEb]; exact held) (by rw [State.ebU_setEb]; exact low),
        State.ebU_setEb]
    simp [dropped, unit, ← hv]
  case boundary =>
    have row : effect (.ebPeriodBoundary t n true) (s.advance (instant (.ebPeriodBoundary t n true))) = _ :=
      doEbPeriodBoundary_due (s := s.advance t) true en run (time ▸ due)
    refine effect_of_advance row h rfl ?_
    rw [show ({ (s.advance t).ebU n with bstLow := true } : Eb) = v from hv, ebBoundary_eq]
    generalize hz : ebAtZero (ebBoundaryDue ((s.advance t).ebU n)) n ((s.advance t).setEb n v) = z
    have unit := ebAtZero_unarmed (s := (s.advance t).setEb n v) (n := n) (ebBoundaryDue ((s.advance t).ebU n))
      (by rw [State.ebU_setEb, ← hv]; exact arm)
    rw [hz, State.ebU_setEb, ← hv] at unit
    obtain ⟨trip', clear', high', act', low', bst, hg, lg, pend, dropH, dropL⟩ := unit
    have held' : ebHeld (z.ebU n) = false := ebHeld_free (trip'.trans trip) (clear'.trans clear)
    rw [ebZeroPhase_change _ held' (high'.trans high) (by rw [act']; exact cmp)]
    have unit := ebPhase_low (s := z) (ebBoundaryDue ((s.advance t).ebU n)) (ebZeroLen (z.ebU n)) held' low'
    generalize ebPhase true (ebBoundaryDue ((s.advance t).ebU n)) (ebZeroLen (z.ebU n)) n z = w at unit
    have unit : (settle w).ebU n = _ := unit
    simp [dropped, unit, hg, lg, pend, bst, dropH, dropL]

end Sys2Proof.Machine
end

section
/-! What the operations of the EB units leave unchanged (12_pwm_timers.md R371 to R384). -/

namespace Sys2Proof.Machine

/-- In RUN nothing but the PWM units, the interrupt controller and the draws of free values has changed. -/
structure PwmFrame (s u : State) : Prop where
  eq : s.sys.mode = .run → u = { s with pwm := u.pwm, irc := u.irc, fresh := u.fresh }

namespace PwmFrame
variable {s u : State}

theorem refl (s : State) : PwmFrame s s := ⟨fun _ => rfl⟩

theorem trans {v : State} (h : PwmFrame s u) (g : PwmFrame u v) : PwmFrame s v := by
  refine ⟨fun run => ?_⟩
  have hu := h.eq run
  have hv := g.eq (by rw [hu]; exact run)
  rw [hv, hu]

theorem setEb (h : PwmFrame s u) (n : Nat) (c : Eb) : PwmFrame s (u.setEb n c) := h.trans ⟨fun _ => rfl⟩
theorem setKc (h : PwmFrame s u) (n : Nat) (c : Kc) : PwmFrame s (u.setKc n c) := h.trans ⟨fun _ => rfl⟩
theorem draw (h : PwmFrame s u) (f : Nat) : PwmFrame s { u with fresh := f } := h.trans ⟨fun _ => rfl⟩

theorem raiseIf (h : PwmFrame s u) (c : Bool) (n : Nat) : PwmFrame s (raiseIf c n u) := by
  refine h.trans ⟨fun run => ?_⟩
  unfold Machine.raiseIf
  split
  · rw [raise_run n u run]
    split <;> rfl
  · rfl

theorem forEach {f : Nat → State → State} (hf : ∀ n u, PwmFrame u (f n u)) (h : PwmFrame s u) (l : List Nat) :
    PwmFrame s (forEach l f u) := by
  unfold Machine.forEach
  induction l generalizing u with
  | nil => exact h
  | cons n l ih => exact ih (h.trans (hf n u))

end PwmFrame

section
variable (n : Nat) (x : Tick) (s : State)

theorem ebTrip_frame : PwmFrame s (ebTrip n s) := ((PwmFrame.refl s).setEb _ _).raiseIf _ _
theorem ebZero_frame : PwmFrame s (ebZero n s) := ((PwmFrame.refl s).setEb _ _).raiseIf _ _
theorem ebPer_frame : PwmFrame s (ebPer n s) := ((PwmFrame.refl s).setEb _ _).raiseIf _ _
theorem ebCmp_frame : PwmFrame s (ebCmp n s) := ((PwmFrame.refl s).setEb _ _).raiseIf _ _

theorem ebUnblank_frame : PwmFrame s (ebUnblank n s) := by
  unfold ebUnblank
  dsimp only
  split
  · exact .refl s
  · split
    · exact ((PwmFrame.refl s).setEb _ _).trans (ebTrip_frame ..)
    · exact (PwmFrame.refl s).setEb _ _

theorem ebPhase_frame (toHigh : Bool) (len : Nat) : PwmFrame s (ebPhase toHigh x len n s) := by
  unfold ebPhase
  dsimp only
  split
  · exact (PwmFrame.refl s).setEb _ _
  · split
    · exact ((PwmFrame.refl s).setEb _ _).raiseIf _ _
    · split
      · exact ((PwmFrame.refl s).setEb _ _).raiseIf _ _
      · exact ((PwmFrame.refl s).setEb _ _).trans (ebUnblank_frame ..)

theorem ebZeroPhase_frame : PwmFrame s (ebZeroPhase x n s) := by
  unfold ebZeroPhase
  dsimp only
  split
  · exact ((PwmFrame.refl s).setEb _ _).trans (ebPhase_frame ..)
  · split
    · exact .refl s
    · exact ebPhase_frame ..

theorem ebBoundary_frame : PwmFrame s (ebBoundary x n s) := by
  rw [ebBoundary_eq]
  refine PwmFrame.trans (u := ebAtZero x n s) ?_ (ebZeroPhase_frame ..)
  unfold ebAtZero
  dsimp only
  generalize ebLate (if ebArmedFor (s.ebU n) x = true then ebLoad (s.ebU n) else s.ebU n) = c
  have zero := ((PwmFrame.refl s).setEb n { c with anchor := x, anchorCount := 0, down := false, boundary := x }).trans
    (ebZero_frame n _)
  split
  · exact zero
  · exact zero.trans (ebPer_frame ..)

theorem ebShadow_frame (f : EbVals → EbVals) : PwmFrame s (ebShadow f n s) := by
  unfold ebShadow
  dsimp only
  split <;> exact (PwmFrame.refl s).setEb _ _

theorem doEbPeriodBoundary_frame (b : Bool) : PwmFrame s (doEbPeriodBoundary n b s) := by
  unfold doEbPeriodBoundary
  dsimp only
  split
  · exact ((PwmFrame.refl s).setEb _ _).trans (ebBoundary_frame ..)
  · exact .refl s

theorem doEbPerEvent_frame : PwmFrame s (doEbPerEvent n s) := by
  unfold doEbPerEvent
  dsimp only
  split
  · exact ((PwmFrame.refl s).setEb _ _).trans (ebPer_frame ..)
  · exact .refl s

theorem doEbPhaseEdge_frame (b : Bool) : PwmFrame s (doEbPhaseEdge n b s) := by
  unfold doEbPhaseEdge
  dsimp only
  split
  · split
    · exact (((PwmFrame.refl s).setEb _ _).trans (ebPhase_frame ..)).trans (ebCmp_frame ..)
    · exact .refl s
  · exact .refl s

theorem doEbDeadTimeEnd_frame (b : Bool) : PwmFrame s (doEbDeadTimeEnd n b s) := by
  unfold doEbDeadTimeEnd
  dsimp only
  split
  · exact .refl s
  · split
    · exact .refl s
    · exact (PwmFrame.refl s).setEb _ _

theorem setTrip_frame (i : Nat) (active : Bool) : PwmFrame s (setTrip i active s) := ⟨fun _ => rfl⟩

theorem ebTripDecide_frame : PwmFrame s (ebTripDecide n s) := by
  unfold ebTripDecide
  dsimp only
  split
  · exact .refl s
  · split
    · exact (PwmFrame.refl s).setEb _ _
    · exact ebTrip_frame ..

theorem doTripAccept_frame (i held : Nat) : PwmFrame s (doTripAccept n i held s) := by
  unfold doTripAccept
  dsimp only
  refine (setTrip_frame s i true).trans ?_
  split
  · exact .refl _
  · split
    · exact ((PwmFrame.refl _).setEb _ _).trans (ebTripDecide_frame ..)
    · exact (PwmFrame.refl _).setEb _ _

theorem doBlankingEnd_frame : PwmFrame s (doBlankingEnd n s) := by
  unfold doBlankingEnd
  dsimp only
  split
  · exact .refl s
  · split
    · exact .refl s
    · split
      · exact ((PwmFrame.refl s).setEb _ _).trans (ebTrip_frame ..)
      · exact (PwmFrame.refl s).setEb _ _

theorem doTripInputRelease_frame (i : Nat) : PwmFrame s (doTripInputRelease i s) :=
  (setTrip_frame s i false).forEach (fun _ u => (PwmFrame.refl u).setEb _ _) _

/-- The unit as a write of EN = 1 sets it, its first phase not yet begun (R377, R379). -/
def ebEnabled : Eb :=
  ebLoad { s.ebU n with
    en := true, hiz := false, updn := (s.ebU n).updnCtl, anchor := s.etc, anchorCount := 0, down := false
    hg := false, lg := false, pendOn := none, phDrop := false, blankEnd := none, heldTrip := false
    clearOk := false, late := none, bstLow := Config.bootstrapLow s.fresh, boundary := s.etc }

/-- The first phase of a unit that is enabled (R372, R379). -/
def ebFirstPhase : State :=
  ebPhase ((ebEnabled n s).act.cmp != 0) s.etc (ebZeroLen (ebEnabled n s)) n
    ({ s with fresh := s.fresh + 1 }.setEb n (ebEnabled n s))

/-- A write of EN = 1 to a unit that is off, while no cause of high impedance lasts (R379, R381). -/
theorem doEbEnable_off {n : Nat} {s : State} (off : (s.ebU n).en = false) (free : hizCause s = false) :
    doEbEnable n s = if ((s.ebU n).filtered &&& (s.ebU n).tripMask) != 0#4 then ebTrip n (ebFirstPhase n s)
      else ebFirstPhase n s := by
  unfold doEbEnable
  dsimp only
  rw [if_neg (by simp [off, free])]
  rfl

theorem ebFirstPhase_frame : PwmFrame s (ebFirstPhase n s) :=
  (((PwmFrame.refl s).draw (s.fresh + 1)).setEb n (ebEnabled n s)).trans (ebPhase_frame ..)

theorem doEbEnable_frame : PwmFrame s (doEbEnable n s) := by
  by_cases h : ((s.ebU n).en || hizCause s) = true
  · unfold doEbEnable
    dsimp only
    rw [if_pos h]
    exact .refl s
  · obtain ⟨off, free⟩ := Bool.or_eq_false_iff.mp (Bool.not_eq_true _ ▸ h)
    rw [doEbEnable_off off free]
    split
    · exact (ebFirstPhase_frame n s).trans (ebTrip_frame ..)
    · exact ebFirstPhase_frame n s

theorem doEbDisable_frame : PwmFrame s (doEbDisable n s) := (PwmFrame.refl s).setEb _ _

theorem doEbLoadArm_frame : PwmFrame s (doEbLoadArm n s) := (PwmFrame.refl s).setEb _ _

theorem doPwmGlbLoad_frame (mask : Nat) : PwmFrame s (doPwmGlbLoad mask s) :=
  (PwmFrame.refl s).forEach (fun n u => doEbLoadArm_frame n u) _

theorem doPwmGlbStart_frame (mask : Nat) : PwmFrame s (doPwmGlbStart mask s) :=
  (PwmFrame.refl s).forEach (fun n u => doEbEnable_frame n u) _

theorem bootstrapFree_frame : PwmFrame s (bootstrapFree n s) := ⟨fun _ => rfl⟩

theorem ebRecross_frame : PwmFrame s (ebRecross n s) := by
  unfold ebRecross
  dsimp only
  split
  · exact (bootstrapFree_frame n s).trans (ebPhase_frame ..)
  · exact .refl s

theorem ebImmPer_frame (v : Nat) : PwmFrame s (ebImmPer v n s) := by
  unfold ebImmPer
  dsimp only
  have set := (PwmFrame.refl s).setEb n { s.ebU n with act.per := v }
  split
  · exact set
  split
  · split
    · exact (set.trans (bootstrapFree_frame ..)).trans (ebBoundary_frame ..)
    · exact set
  split
  · split
    · exact (set.setEb _ _).trans (ebRecross_frame ..)
    · exact set
  split
  · exact ((set.setEb _ _).trans (ebPer_frame ..)).trans (ebRecross_frame ..)
  · exact set

theorem doEbWrite_frame (w : EbValue) (v : Word) : PwmFrame s (doEbWrite n w v s) := by
  unfold doEbWrite
  dsimp only
  cases w with
  | per =>
    dsimp only
    split
    · exact ebImmPer_frame ..
    · exact ebShadow_frame ..
  | cmp =>
    dsimp only
    split
    · exact ((PwmFrame.refl s).setEb _ _).trans (ebRecross_frame ..)
    · exact ebShadow_frame ..

theorem doEbTripClear_frame : PwmFrame s (doEbTripClear n s) := by
  unfold doEbTripClear
  dsimp only
  split
  · exact .refl s
  · split <;> exact (PwmFrame.refl s).setEb _ _

theorem kcStop_frame : PwmFrame s (kcStop n s) := (PwmFrame.refl s).setKc _ _
theorem kcZero_frame : PwmFrame s (kcZero n s) := ((PwmFrame.refl s).setKc _ _).raiseIf _ _
theorem kcPer_frame : PwmFrame s (kcPer n s) := ((PwmFrame.refl s).setKc _ _).raiseIf _ _
theorem kcCmp_frame : PwmFrame s (kcCmp n s) := ((PwmFrame.refl s).setKc _ _).raiseIf _ _

theorem doKcPeriodBoundary_frame (per cmp : Nat) : PwmFrame s (doKcPeriodBoundary n per cmp s) := by
  unfold doKcPeriodBoundary
  dsimp only
  split
  · exact kcStop_frame ..
  · cases (s.kcU n).running with
    | true =>
      simp only [if_true]
      split
      · exact .refl s
      · exact ((kcZero_frame n s).trans (kcPer_frame ..)).setKc _ _
    | false =>
      simp only [Bool.false_eq_true, if_false]
      split
      · exact .refl s
      · exact (PwmFrame.refl s).setKc _ _

end

/-- What no operation of the PWM units changes is unchanged. -/
theorem PwmFrame.hizCause {s u : State} (h : PwmFrame s u) (run : s.sys.mode = .run) : hizCause u = hizCause s := by
  rw [h.eq run]
  rfl

end Sys2Proof.Machine
end

section
/-! EB units start, stop and load (12_pwm_timers.md R371 to R379, R384). -/

namespace Sys2Proof.Machine

/-! ## One unit and several units -/

theorem mem_filter_bitAt {n m : Nat} {mask : Nat} : n ∈ (List.range m).filter (fun n => bitAt mask n) ↔
    n < m ∧ bitAt mask n = true := by
  rw [List.mem_filter, List.mem_range]

theorem bitAt_toNat {w : Nat} (v : BitVec w) (n : Nat) : bitAt v.toNat n = v.getLsbD n := by
  unfold bitAt BitVec.getLsbD
  rw [Nat.testBit_eq_decide_div_mod_eq]
  rfl

section
variable {α : Type} (get : State → Nat → α) {f : Nat → State → State} (other : ∀ n m s, m ≠ n → get (f n s) m = get s m)
include other

/-- An operation on each of a list of units leaves a unit outside the list alone. -/
theorem forEach_outside {l : List Nat} {m : Nat} (hm : m ∉ l) (s : State) : get (forEach l f s) m = get s m := by
  unfold forEach
  induction l generalizing s with
  | nil => rfl
  | cons a l ih =>
    obtain ⟨ha, hl⟩ := not_or.mp (List.mem_cons.not.mp hm)
    exact (ih hl (f a s)).trans (other a m s ha)

/-- An operation on each of a list of distinct units acts on a unit of the list as it does alone, on a state that the
operation on the units before it has left. -/
theorem forEach_inside {I : State → Prop} {Q : Nat → α → α → Prop} (inv : ∀ n s, I s → I (f n s))
    (here : ∀ n s, I s → Q n (get s n) (get (f n s) n)) {l : List Nat} (distinct : l.Nodup) {m : Nat} (hm : m ∈ l)
    {s : State} (hs : I s) : Q m (get s m) (get (forEach l f s) m) := by
  unfold forEach
  induction l generalizing s with
  | nil => exact nomatch hm
  | cons a l ih =>
    obtain ⟨fresh, rest⟩ := List.nodup_cons.mp distinct
    rcases List.mem_cons.mp hm with rfl | hm
    · have := forEach_outside get other fresh (f m s)
      unfold forEach at this
      rw [List.foldl_cons, this]
      exact here m s hs
    · have ne : m ≠ a := fun e => fresh (e ▸ hm)
      rw [List.foldl_cons, ← other a m s ne]
      exact ih rest hm (inv a s hs)

end

/-! ## Enabling (R377, R379) -/

/-- A unit as a write of EN = 1 at `x` leaves it, where its shadows were `v` and its control bit for up-down `updn`. -/
structure EbStarted (v : EbVals) (updn : Bool) (x : Tick) (u : Eb) : Prop where
  en : u.en = true
  anchor : u.anchor = x
  count : u.anchorCount = 0
  down : u.down = false
  hg : u.hg = false
  lg : u.lg = false
  updn : u.updn = updn
  act : u.act = { v with dtMin := min v.dtMin v.dtMax }
  armAt : u.armAt = none

/-- The unit whose EN is written. -/
abbrev EbStartedFrom (x : Tick) (c u : Eb) : Prop := EbStarted c.shadow c.updnCtl x u

theorem ebFirstPhase_started (n : Nat) (s : State) : EbStartedFrom s.etc (s.ebU n) ((ebFirstPhase n s).ebU n) := by
  obtain ⟨en, anchor, count, down, updn, act, arm, -, -, -, gates⟩ :=
    ebPhase_keeps ((ebEnabled n s).act.cmp != 0) s.etc (ebZeroLen (ebEnabled n s)) n
      ({ s with fresh := s.fresh + 1 }.setEb n (ebEnabled n s))
  rw [State.ebU_setEb] at en anchor count down updn act arm gates
  obtain ⟨hg, lg⟩ := gates rfl rfl
  exact ⟨en, anchor, count, down, hg, lg, updn, act, arm⟩

theorem ebFirstPhase_other {n m : Nat} (s : State) (hm : m ≠ n) : (ebFirstPhase n s).ebU m = s.ebU m :=
  (ebPhase_other _ _ _ _ hm).trans (State.ebU_setEb_other _ _ hm)

theorem doEbEnable_started {n : Nat} {s : State} (off : (s.ebU n).en = false) (free : hizCause s = false) :
    EbStartedFrom s.etc (s.ebU n) ((doEbEnable n s).ebU n) := by
  rw [doEbEnable_off off free]
  have first := ebFirstPhase_started n s
  split
  · rw [ebTrip_eb]
    exact { first with hg := rfl, lg := rfl }
  · exact first

theorem doEbEnable_other {n m : Nat} (s : State) (hm : m ≠ n) : (doEbEnable n s).ebU m = s.ebU m := by
  by_cases h : ((s.ebU n).en || hizCause s) = true
  · unfold doEbEnable
    dsimp only
    rw [if_pos h]
  · obtain ⟨off, free⟩ := Bool.or_eq_false_iff.mp (Bool.not_eq_true _ ▸ h)
    rw [doEbEnable_off off free]
    split
    · exact (ebTrip_other _ hm).trans (ebFirstPhase_other s hm)
    · exact ebFirstPhase_other s hm

/-! ## Loading (R377) -/

theorem doEbLoadArm_eb (n : Nat) (s : State) : (doEbLoadArm n s).ebU n =
    { s.ebU n with armAt := some ((s.ebU n).armAt.getD s.etc) } := by
  unfold doEbLoadArm
  rw [State.ebU_setEb]
  cases (s.ebU n).armAt <;> rfl

theorem doEbLoadArm_other {n m : Nat} (s : State) (hm : m ≠ n) : (doEbLoadArm n s).ebU m = s.ebU m :=
  State.ebU_setEb_other _ _ hm

/-- A shadow write before the boundary instant, or to a unit that is off (R377). -/
theorem ebShadow_early {n : Nat} {s : State} (f : EbVals → EbVals)
    (early : (s.ebU n).en = false ∨ s.etc < ebBoundaryDue (s.ebU n)) :
    (ebShadow f n s).ebU n = { s.ebU n with shadow := f (s.ebU n).shadow } := by
  unfold ebShadow
  dsimp only
  rw [if_neg, State.ebU_setEb]
  rw [Bool.and_eq_true, decide_eq_true_iff]
  rintro ⟨en, due⟩
  rcases early with off | early
  · rw [off] at en
    cases en
  · exact Nat.not_le.mpr early due

/-- A shadow write at or after the boundary instant, the first one of that kind (R377). -/
theorem ebShadow_late {n : Nat} {s : State} (f : EbVals → EbVals) (en : (s.ebU n).en = true)
    (due : ebBoundaryDue (s.ebU n) ≤ s.etc) (first : (s.ebU n).late = none) :
    (ebShadow f n s).ebU n = { s.ebU n with late := some (f (s.ebU n).shadow) } := by
  unfold ebShadow
  dsimp only
  rw [if_pos (by simp [en, due]), State.ebU_setEb, first]
  rfl

/-- An immediate PER write at or below the count of a unit that counts up begins a period at once (R378). -/
theorem ebImmPer_below {n : Nat} {s : State} {v : Nat} (en : (s.ebU n).en = true) (up : (s.ebU n).updn = false)
    (below : v ≤ ebCount (s.ebU n) s.etc) :
    ebImmPer v n s = ebBoundary s.etc n (bootstrapFree n (s.setEb n { s.ebU n with act.per := v })) := by
  unfold ebImmPer
  dsimp only
  rw [if_neg (by simp [en]), if_pos (by simp [up]), if_pos below]

theorem bootstrapFree_updn (n : Nat) (s : State) : ((bootstrapFree n s).ebU n).updn = (s.ebU n).updn := by
  unfold bootstrapFree
  show ((s.setEb n _).ebU n).updn = _
  rw [State.ebU_setEb]

theorem ebImmPer_off {n : Nat} {s : State} (v : Nat) (off : (s.ebU n).en = false) :
    ebImmPer v n s = s.setEb n { s.ebU n with act.per := v } := by
  unfold ebImmPer
  dsimp only
  rw [if_pos (by simp [off])]

theorem ebImmCmp_off {n : Nat} {s : State} (v : Nat) (off : (s.ebU n).en = false) :
    ebImmCmp v n s = s.setEb n { s.ebU n with act.cmp := v } := by
  unfold ebImmCmp ebRecross
  dsimp only
  rw [if_neg (by simp [off])]

section
variable {n : Nat} {s : State} (v : Word)

theorem doEbWrite_shadowPer (h : (s.ebU n).imm = false) : doEbWrite n .per v s =
    ebShadow (fun x => { x with per := clampPer (v.toNat % 16777216) }) n s := by
  unfold doEbWrite
  dsimp only
  rw [if_neg (by simp [h])]

theorem doEbWrite_shadowCmp (h : (s.ebU n).imm = false) : doEbWrite n .cmp v s =
    ebShadow (fun x => { x with cmp := v.toNat % 16777216 }) n s := by
  unfold doEbWrite
  dsimp only
  rw [if_neg (by simp [h])]

theorem doEbWrite_immPer (h : (s.ebU n).imm = true) : doEbWrite n .per v s =
    ebImmPer (clampPer (v.toNat % 16777216)) n s := by
  unfold doEbWrite
  dsimp only
  rw [if_pos h]

theorem doEbWrite_immCmp (h : (s.ebU n).imm = true) : doEbWrite n .cmp v s = ebImmCmp (v.toNat % 16777216) n s := by
  unfold doEbWrite
  dsimp only
  rw [if_pos h]

end

/-- The row of a write to PER or CMP that leaves its unit as `c`. -/
theorem yields_ebWrite {s : State} {t : Tick} {n : Fin 8} {w : EbValue} {v : Word} {c : Eb} (h : Alive s)
    (unit : (doEbWrite n w v (s.advance t)).ebU n = c) : Yields (.ebImmediateWrite t n w v) s (fun u => u.ebU n = c) :=
        by
  have row : effect (.ebImmediateWrite t n w v) (s.advance (instant (.ebImmediateWrite t n w v))) =
      doEbWrite n w v (s.advance t) := rfl
  exact effect_of_advance row h rfl unit

/-- Settles O27: the row of each command, by what it does to its unit and that it leaves the others alone. -/
theorem ebStartsStopsAndLoads : Obligations.EbStartsStopsAndLoads := by
  unfold Obligations.EbStartsStopsAndLoads
  refine ⟨fun s t n h => ⟨fun off free => ?enable, ?disable⟩, fun s t h => ?_⟩
  case enable =>
    have row : effect (.ebEnable t n) (s.advance (instant (.ebEnable t n))) = doEbEnable n (s.advance t) := rfl
    have u := doEbEnable_started (s := s.advance t) off free
    rw [etc_alive t h] at u
    exact effect_of_advance row h rfl ⟨u.en, u.anchor, u.count, u.down, u.hg, u.lg, u.updn, u.act, u.armAt,
      fun m hm => doEbEnable_other _ hm⟩
  case disable =>
    have row : effect (.ebDisable t n) (s.advance (instant (.ebDisable t n))) = doEbDisable n (s.advance t) := rfl
    have unit : (doEbDisable n (s.advance t)).ebU n = ebStop (s.ebU n) := State.ebU_setEb ..
    exact effect_of_advance row h rfl ⟨congrArg Eb.en unit, congrArg Eb.hg unit, congrArg Eb.lg unit,
      congrArg Eb.pendOn unit, fun m hm => State.ebU_setEb_other _ _ hm⟩
  have time := etc_alive t h
  refine ⟨fun n => ?arm, fun mask => ?load, fun mask free off => ?start, fun n v shadow => ⟨fun early => ?early,
    fun en due first => ?late⟩, fun n v imm en up below => ?below, fun n v imm off => ?off⟩
  case arm =>
    have row : effect (.ebLoadArm t n) (s.advance (instant (.ebLoadArm t n))) = doEbLoadArm n (s.advance t) := rfl
    have unit := doEbLoadArm_eb n (s.advance t)
    rw [time] at unit
    exact effect_of_advance row h rfl ⟨unit, fun m hm => doEbLoadArm_other _ hm⟩
  case load =>
    have row : effect (.pwmGlbLoad t mask) (s.advance (instant (.pwmGlbLoad t mask))) =
        doPwmGlbLoad mask.toNat (s.advance t) := rfl
    refine effect_of_advance row h rfl fun n => ?_
    show (doPwmGlbLoad mask.toNat (s.advance t)).ebU n = _
    unfold doPwmGlbLoad
    split
    case isTrue named =>
      have := forEach_inside State.ebU (f := doEbLoadArm) (fun _ _ u hm => doEbLoadArm_other u hm) (I := fun u => u.etc
          = max s.etc t)
        (Q := fun _ c u => u = { c with armAt := some (c.armAt.getD (max s.etc t)) }) (fun _ _ h => h)
        (fun n u hu => by rw [doEbLoadArm_eb, hu])
        (List.nodup_range.filter (fun n => bitAt mask.toNat n))
        (mem_filter_bitAt.mpr ⟨n.isLt, (bitAt_toNat mask n).trans named⟩) time
      exact this
    case isFalse other =>
      refine forEach_outside State.ebU (fun _ _ u hm => doEbLoadArm_other u hm) (fun mem => other ?_) _
      exact (bitAt_toNat mask n).symm.trans (mem_filter_bitAt.mp mem).2
  case start =>
    have row : effect (.pwmGlbStart t mask) (s.advance (instant (.pwmGlbStart t mask))) =
        doPwmGlbStart mask.toNat (s.advance t) := rfl
    refine effect_of_advance row h rfl fun n => ?_
    split
    case isTrue named =>
      have frame (n : Nat) (u : State) (hu : u.sys.mode = .run ∧ u.etc = max s.etc t ∧ hizCause u = false) :
          (doEbEnable n u).sys.mode = .run ∧ (doEbEnable n u).etc = max s.etc t ∧ hizCause (doEbEnable n u) = false :=
              by
        obtain ⟨run, etc, hiz⟩ := hu
        have keeps := doEbEnable_frame n u
        refine ⟨?_, ?_, (keeps.hizCause run).trans hiz⟩
        · rw [keeps.eq run]; exact run
        · rw [keeps.eq run]; exact etc
      have started := forEach_inside State.ebU (f := doEbEnable) (fun _ _ u hm => doEbEnable_other u hm)
        (I := fun u => u.sys.mode = .run ∧ u.etc = max s.etc t ∧ hizCause u = false)
        (Q := fun _ c u => c.en = false → EbStartedFrom (max s.etc t) c u) frame
        (fun n u hu off => hu.2.1 ▸ doEbEnable_started off hu.2.2)
        (List.nodup_range.filter (fun n => bitAt mask.toNat n))
        (mem_filter_bitAt.mpr ⟨n.isLt, (bitAt_toNat mask n).trans named⟩) (s := s.advance t) ⟨h.1, time, free⟩ (off n)
      exact ⟨started.en, started.anchor, started.count⟩
    case isFalse other =>
      refine forEach_outside State.ebU (fun _ _ u hm => doEbEnable_other u hm) (fun mem => other ?_) _
      exact (bitAt_toNat mask n).symm.trans (mem_filter_bitAt.mp mem).2
  case early =>
    have early' : ((s.advance t).ebU n).en = false ∨ (s.advance t).etc < ebBoundaryDue ((s.advance t).ebU n) :=
      time ▸ early
    have per := doEbWrite_shadowPer (s := s.advance t) v shadow
    have cmp := doEbWrite_shadowCmp (s := s.advance t) v shadow
    exact ⟨yields_ebWrite h ((congrArg (·.ebU n) per).trans (ebShadow_early _ early')),
      yields_ebWrite h ((congrArg (·.ebU n) cmp).trans (ebShadow_early _ early'))⟩
  case late =>
    have late := fun f => ebShadow_late (s := s.advance t) f en (time ▸ due) first
    have per := doEbWrite_shadowPer (s := s.advance t) v shadow
    have cmp := doEbWrite_shadowCmp (s := s.advance t) v shadow
    exact ⟨yields_ebWrite h ((congrArg (·.ebU n) per).trans (late _)),
      yields_ebWrite h ((congrArg (·.ebU n) cmp).trans (late _))⟩
  case below =>
    have row : effect (.ebImmediateWrite t n .per v) (s.advance (instant (.ebImmediateWrite t n .per v))) = _ :=
      (doEbWrite_immPer (s := s.advance t) v imm).trans (ebImmPer_below en up (time.symm ▸ below))
    refine effect_of_advance row h rfl ?_
    rw [time]
    generalize hz : bootstrapFree n _ = z
    have same : (z.ebU n).updn = false := by
      rw [← hz, bootstrapFree_updn, State.ebU_setEb]
      exact up
    obtain ⟨-, anchor, count, -, boundary, -, -, zero, per⟩ := ebBoundary_eb (max s.etc t) n z
    generalize ebBoundary (max s.etc t) n z = w at anchor count boundary zero per
    exact ⟨boundary, anchor, count, zero, per same⟩
  case off =>
    have per := (doEbWrite_immPer (s := s.advance t) v imm).trans (ebImmPer_off _ off)
    have cmp := (doEbWrite_immCmp (s := s.advance t) v imm).trans (ebImmCmp_off _ off)
    exact ⟨yields_ebWrite h ((congrArg (·.ebU n) per).trans (State.ebU_setEb ..)),
      yields_ebWrite h ((congrArg (·.ebU n) cmp).trans (State.ebU_setEb ..))⟩

end Sys2Proof.Machine
end

section
/-! Events and trips of the EB units (12_pwm_timers.md R371 to R374, R381 to R383). -/

namespace Sys2Proof.Machine

/-! ## Trip inputs (R381, R383) -/

theorem tripActive_setEb (i n : Nat) (c : Eb) (s : State) : tripActive (s.setEb n c) i = tripActive s i := rfl

theorem tripActive_raiseIf (i : Nat) (b : Bool) (n : Nat) (s : State) : tripActive (raiseIf b n s) i = tripActive s i :=
    by
  rw [raiseIf_frame]
  rfl

theorem tripActive_ebTrip (i n : Nat) (s : State) : tripActive (ebTrip n s) i = tripActive s i :=
  (tripActive_raiseIf ..).trans (tripActive_setEb ..)

theorem tripActive_setTrip {i : Nat} (hi : i < 4) (active : Bool) (s : State) :
    tripActive (setTrip i active s) i = active := by
  have bit : (if active != tripInverted s i then s.pwm.tripOn ||| BitVec.twoPow 4 i
      else s.pwm.tripOn &&& ~~~(BitVec.twoPow 4 i)).getLsbD i = (active != tripInverted s i) := by
    split
    case isTrue on => simp [on, hi]
    case isFalse off => simp [Bool.not_eq_true _ ▸ off]
  show ((if active != tripInverted s i then s.pwm.tripOn ||| BitVec.twoPow 4 i
      else s.pwm.tripOn &&& ~~~(BitVec.twoPow 4 i)).getLsbD i != tripInverted s i) = active
  rw [bit]
  cases active <;> cases tripInverted s i <;> rfl

theorem tripActive_forEach (i : Nat) {f : Nat → State → State} (hf : ∀ n s, tripActive (f n s) i = tripActive s i)
    (l : List Nat) (s : State) : tripActive (forEach l f s) i = tripActive s i := by
  unfold forEach
  induction l generalizing s with
  | nil => rfl
  | cons n l ih => exact (ih (f n s)).trans (hf n s)

theorem tripActive_release {i : Nat} (hi : i < 4) (s : State) : tripActive (doTripInputRelease i s) i = false := by
  unfold doTripInputRelease
  rw [tripActive_forEach i (f := ebRelease i) (fun n s => tripActive_setEb i n _ s), tripActive_setTrip hi]

/-- A trip decision outside blanking is taken at once (R381, R382). -/
theorem ebTripDecide_taken {n : Nat} {s : State} (en : (s.ebU n).en = true) (open_ : ebBlanked (s.ebU n) s.etc = false)
    :
    ebTripDecide n s = ebTrip n s := by
  unfold ebTripDecide
  dsimp only
  rw [if_neg (by simp [en]), if_neg (by simp [open_])]

/-- A trip decision during blanking is held (R382). -/
theorem ebTripDecide_held {n : Nat} {s : State} (en : (s.ebU n).en = true) (blank : ebBlanked (s.ebU n) s.etc = true) :
    ebTripDecide n s = s.setEb n { s.ebU n with heldTrip := true } := by
  unfold ebTripDecide
  dsimp only
  rw [if_neg (by simp [en]), if_pos blank]

/-- The unit of an input that is filtered active (R381). -/
def Eb.filter (u : Eb) (i : Nat) : Eb := { u with filtered := u.filtered ||| BitVec.twoPow 4 i }

section
variable {n i held : Nat} {s : State}

/-- An input accepted for its TRIP_FILT and selected by the unit: the unit decides (R381). -/
theorem doTripAccept_selected (on : tripEnabled s i = true) (long : (s.ebU n).act.tripFilt * 10 ≤ held)
    (sel : (s.ebU n).tripMask.getLsbD i = true) :
    doTripAccept n i held s = ebTripDecide n ((setTrip i true s).setEb n ((s.ebU n).filter i)) := by
  have off : ¬ (!tripEnabled (setTrip i true s) i || decide (held < ((setTrip i true s).ebU n).act.tripFilt * 10)) =
      true := by
    rw [Bool.or_eq_true, decide_eq_true_iff, not_or]
    exact ⟨by rw [show tripEnabled (setTrip i true s) i = true from on]; decide, Nat.not_lt.mpr long⟩
  unfold doTripAccept
  dsimp only
  rw [if_neg off]
  exact if_pos sel

/-- An input that is not enabled, or was active for less than TRIP_FILT, trips nothing (R143, R381). -/
theorem doTripAccept_short (h : tripEnabled s i = false ∨ held < (s.ebU n).act.tripFilt * 10) :
    doTripAccept n i held s = setTrip i true s := by
  unfold doTripAccept
  dsimp only
  refine if_pos ?_
  rw [Bool.or_eq_true, decide_eq_true_iff]
  exact h.imp (fun h => by rw [show tripEnabled (setTrip i true s) i = false from h]; rfl) id

theorem filter_bit (hi : i < 4) (u : Eb) : (u.filter i).filtered.getLsbD i = true := by
  simp [Eb.filter, hi]

/-- The end of blanking with a held trip whose input is still active (R382). -/
theorem doBlankingEnd_held {b : Tick} (blank : (s.ebU n).blankEnd = some b) (due : b ≤ s.etc)
    (held : (s.ebU n).heldTrip = true) (en : (s.ebU n).en = true)
    (active : (s.ebU n).filtered &&& (s.ebU n).tripMask ≠ 0#4) :
    doBlankingEnd n s = ebTrip n (s.setEb n { s.ebU n with blankEnd := none, heldTrip := false }) := by
  unfold doBlankingEnd
  dsimp only
  rw [blank]
  dsimp only
  rw [if_neg (Nat.not_lt.mpr due), if_pos]
  simp only [held, en, Bool.and_true, Bool.true_and, bne_iff_ne]
  exact active

/-- The end of blanking where no trip is held (R382). -/
theorem doBlankingEnd_free {b : Tick} (blank : (s.ebU n).blankEnd = some b) (due : b ≤ s.etc)
    (free : (s.ebU n).heldTrip = false) :
    doBlankingEnd n s = s.setEb n { s.ebU n with blankEnd := none } := by
  unfold doBlankingEnd
  dsimp only
  rw [blank]
  dsimp only
  rw [if_neg (Nat.not_lt.mpr due), if_neg (by simp [free])]
  rw [← free]

/-- A clear of TRIPPED while a selected trip is active is refused and counted (R383). -/
theorem doEbTripClear_refused (trip : (s.ebU n).tripped = true) (active : (s.ebU n).filtered &&& (s.ebU n).tripMask ≠
    0#4) :
    doEbTripClear n s = s.setEb n { s.ebU n with clrRef := satInc 255 (s.ebU n).clrRef } := by
  unfold doEbTripClear
  dsimp only
  rw [if_neg (by simp [trip]), if_pos (bne_iff_ne.mpr active)]

/-- A clear of TRIPPED is accepted (R383). -/
theorem doEbTripClear_accepted (trip : (s.ebU n).tripped = true)
    (idle : (s.ebU n).filtered &&& (s.ebU n).tripMask = 0#4) :
    doEbTripClear n s = s.setEb n { s.ebU n with tripped := false, clearOk := (s.ebU n).en } := by
  unfold doEbTripClear
  dsimp only
  rw [if_neg (by simp [trip]), if_neg (by rw [bne_iff_ne, not_not]; exact idle)]

/-- Every unit after the release of an input: its filtered trip of that input is gone, nothing else (R383). -/
theorem doTripInputRelease_eb (i : Nat) {m : Nat} (hm : m < 8) (s : State) : (doTripInputRelease i s).ebU m =
    { s.ebU m with filtered := (s.ebU m).filtered &&& ~~~(BitVec.twoPow 4 i) } := by
  have := forEach_inside State.ebU (f := ebRelease i) (fun _ _ _ hm => State.ebU_setEb_other _ _ hm)
    (I := fun _ => True) (Q := fun _ c u => u = { c with filtered := c.filtered &&& ~~~(BitVec.twoPow 4 i) }) (fun _ _ h
        => h)
    (fun n u _ => State.ebU_setEb ..) List.nodup_range
    (List.mem_range.mpr hm) (s := setTrip i false s) trivial
  exact this

end

/-! ## Events and dead times (R371, R372, R374) -/

section
variable {n : Nat} {s : State}

theorem doEbPerEvent_due (en : (s.ebU n).en = true) (updn : (s.ebU n).updn = true) (up : (s.ebU n).down = false)
    (due : (s.ebU n).anchor + ((s.ebU n).act.per - (s.ebU n).anchorCount) * ticksPerNs ≤ s.etc) :
    doEbPerEvent n s = ebPer n (s.setEb n { s.ebU n with
      anchor := (s.ebU n).anchor + ((s.ebU n).act.per - (s.ebU n).anchorCount) * ticksPerNs
      anchorCount := (s.ebU n).act.per, down := true }) := by
  unfold doEbPerEvent
  dsimp only
  exact if_pos (by simp [en, updn, up, due])

/-- A dead time without ADAPT ends at DT_MAX (R374). -/
theorem doEbDeadTimeEnd_fixed {g : Bool} {e : Tick} (b : Bool) (pend : (s.ebU n).pendOn = some (g, e))
    (fixed : (s.ebU n).act.adapt = false) (due : e + (s.ebU n).act.dtMax * ticksPerNs ≤ s.etc) :
    let u := (doEbDeadTimeEnd n b s).ebU n
    u.pendOn = none ∧ u.hg = (g || (s.ebU n).hg) ∧ u.lg = (!g || (s.ebU n).lg) ∧
      (if g then u.dtRise else u.dtFall) = (s.ebU n).act.dtMax := by
  unfold doEbDeadTimeEnd
  simp only [pend, fixed, due, Bool.false_and, Bool.not_false, Bool.true_and, decide_true, Bool.not_true,
    Bool.false_eq_true, if_false, State.ebU_setEb]
  cases g <;> simp

theorem ebArmedFor_some {u : Eb} {a x : Tick} (arm : u.armAt = some a) (early : a < x) : ebArmedFor u x = true := by
  unfold ebArmedFor
  rw [arm]
  exact decide_eq_true early

theorem ebArmedFor_late {u : Eb} {x : Tick} (late : ∀ a, u.armAt = some a → x ≤ a) : ebArmedFor u x = false := by
  unfold ebArmedFor
  cases arm : u.armAt with
  | none => rfl
  | some a => exact decide_eq_false (Nat.not_lt.mpr (late a arm))

end

/-- Outside its blanking interval, or in a dead time, a unit's trip decision is not blanked (R382). -/
theorem ebBlanked_open {u : Eb} {x : Tick} (h : ∀ b, u.blankEnd = some b → b ≤ x ∨ u.pendOn.isSome = true) :
    ebBlanked u x = false := by
  unfold ebBlanked
  cases blank : u.blankEnd with
  | none => rfl
  | some b =>
    rcases h b blank with early | dead
    · simp [Nat.not_lt.mpr early]
    · obtain ⟨p, hp⟩ := Option.isSome_iff_exists.mp dead
      simp [hp]

theorem ebBlanked_in {u : Eb} {x b : Tick} (blank : u.blankEnd = some b) (inside : x < b) (pend : u.pendOn = none) :
    ebBlanked u x = true := by
  unfold ebBlanked
  rw [blank, pend]
  exact Bool.and_eq_true_iff.mpr ⟨decide_eq_true inside, rfl⟩

/-- A row that writes one EB unit. -/
theorem yields_setEb {k : Instr} {s : State} {t : Tick} {n : Nat} {c : Eb} (h : Alive s) (hl : leaves_mode k = false)
    (row : effect k (s.advance (instant k)) = (s.advance t).setEb n c) : Yields k s (fun u => u.ebU n = c) :=
  effect_of_advance row h hl (State.ebU_setEb ..)

/-- Settles O28: each row is one operation on its unit; a boundary and a trip are the ones the shared rules describe. -/
theorem ebEventsAndTrips : Obligations.EbEventsAndTrips := by
  unfold Obligations.EbEventsAndTrips
  refine ⟨fun s t n b h en => ?_, ?_⟩
  · have time := etc_alive t h
    refine ⟨fun run due => ?boundary, fun updn up due => ?per, fun x hx due => ?crossing,
      fun g e pend fixed due => ?dead⟩
    case boundary =>
      have row : effect (.ebPeriodBoundary t n b) (s.advance (instant (.ebPeriodBoundary t n b))) =
          ebBoundary (ebBoundaryDue (s.ebU n)) n ((s.advance t).setEb n { s.ebU n with bstLow := b }) :=
        doEbPeriodBoundary_due (s := s.advance t) b en run (time ▸ due)
      refine effect_of_advance row h rfl ?_
      generalize hz : (s.advance t).setEb n { s.ebU n with bstLow := b } = z
      have unit : z.ebU n = { s.ebU n with bstLow := b } := by rw [← hz]; exact State.ebU_setEb ..
      obtain ⟨-, anchor, count, down, boundary, act, arm, zero, per⟩ := ebBoundary_eb (ebBoundaryDue (s.ebU n)) n z
      rw [unit] at act arm per
      generalize ebBoundary (ebBoundaryDue (s.ebU n)) n z = w at anchor count down boundary act arm zero per ⊢
      refine ⟨boundary, anchor, count, down, zero, per, fun a ha early => ?_, fun late => ?_⟩
      · have armed : ebArmedFor { s.ebU n with bstLow := b } (ebBoundaryDue (s.ebU n)) = true := ebArmedFor_some ha
          early
        rw [if_pos armed] at act arm
        exact ⟨arm, act⟩
      · have waits : ebArmedFor { s.ebU n with bstLow := b } (ebBoundaryDue (s.ebU n)) = false := ebArmedFor_late late
        rw [waits, if_neg Bool.false_ne_true] at act arm
        exact ⟨arm, act⟩
    case per =>
      have row : effect (.ebPerEvent t n) (s.advance (instant (.ebPerEvent t n))) = _ :=
        doEbPerEvent_due (s := s.advance t) en updn up (time ▸ due)
      refine effect_of_advance row h rfl ?_
      generalize hw : ebPer n _ = w
      have unit : (settle w).ebU n = _ := (congrArg (·.ebU n) hw.symm).trans (ebPer_eb ..)
      rw [State.ebU_setEb] at unit
      simp [unit]
    case crossing =>
      have row : effect (.ebPhaseEdge t n b) (s.advance (instant (.ebPhaseEdge t n b))) = _ :=
        doEbPhaseEdge_due (s := s.advance t) b en hx (time ▸ due)
      refine effect_of_advance row h rfl ?_
      generalize hw : ebCmp n _ = w
      have unit : (settle w).ebU n = _ := (congrArg (·.ebU n) hw.symm).trans (ebCmp_eb ..)
      simp only [unit]
      obtain ⟨-, -, -, -, -, -, -, -, high, -⟩ := ebPhase_keeps (!((s.advance t).ebU n).high) x
        (ebPhaseLen ((s.advance t).ebU n) (!((s.advance t).ebU n).high)) n
        ((s.advance t).setEb n { (s.advance t).ebU n with bstLow := b })
      exact ⟨high, by simp⟩
    case dead =>
      have row : effect (.ebDeadTimeEnd t n b) (s.advance (instant (.ebDeadTimeEnd t n b))) =
          doEbDeadTimeEnd n b (s.advance t) := rfl
      exact effect_of_advance row h rfl (doEbDeadTimeEnd_fixed (s := s.advance t) b pend fixed (time ▸ due))
  · intro s t n j h v x tripped
    have time : (s.advance t).etc = x := etc_alive t h
    refine ⟨fun held on sel en long free => ?taken, fun held off => ?short,
      fun held b on sel en long blank inside pend => ?held, fun b blank due held en active => ?blankHeld,
      fun b blank due free => ?blankFree, fun trip active => ?refused, fun trip idle => ?accepted, ?release⟩
    case taken =>
      have row : effect (.tripAccept t n ⟨j, held⟩) (s.advance (instant (.tripAccept t n ⟨j, held⟩))) =
          ebTrip n ((setTrip j true (s.advance t)).setEb n (v.filter j)) := by
        have selected := doTripAccept_selected (s := s.advance t) (n := n) (i := j) on long sel
        refine selected.trans (ebTripDecide_taken ?_ ?_)
        · rw [State.ebU_setEb]; exact en
        · rw [State.ebU_setEb]
          exact ebBlanked_open (u := v.filter j) (fun b hb => time ▸ free b hb)
      refine effect_of_advance row h rfl ?_
      have active : tripActive (ebTrip n ((setTrip j true (s.advance t)).setEb n (v.filter j))) j = true :=
        (tripActive_ebTrip ..).trans ((tripActive_setEb ..).trans (tripActive_setTrip j.isLt ..))
      generalize hw : ebTrip n ((setTrip j true (s.advance t)).setEb n (v.filter j)) = w at active
      have unit : (settle w).ebU n = _ := (congrArg (·.ebU n) hw.symm).trans (ebTrip_eb ..)
      rw [State.ebU_setEb] at unit
      refine ⟨?_, by rw [unit]; exact filter_bit j.isLt v, active⟩
      simp only [tripped, unit]
      simp [Eb.filter, v]
    case short =>
      have row : effect (.tripAccept t n ⟨j, held⟩) (s.advance (instant (.tripAccept t n ⟨j, held⟩))) =
          setTrip j true (s.advance t) := doTripAccept_short (s := s.advance t) (n := n) (i := j) off
      exact effect_of_advance row h rfl ⟨rfl, tripActive_setTrip j.isLt true (s.advance t)⟩
    case held =>
      have row : effect (.tripAccept t n ⟨j, held⟩) (s.advance (instant (.tripAccept t n ⟨j, held⟩))) =
          ((setTrip j true (s.advance t)).setEb n (v.filter j)).setEb n { v.filter j with heldTrip := true } := by
        have selected := doTripAccept_selected (s := s.advance t) (n := n) (i := j) on long sel
        refine selected.trans ((ebTripDecide_held ?_ ?_).trans ?_)
        · rw [State.ebU_setEb]; exact en
        · rw [State.ebU_setEb]
          exact ebBlanked_in (u := v.filter j) blank (time.symm ▸ inside) pend
        · rw [State.ebU_setEb]
          rfl
      refine effect_of_advance row h rfl ?_
      rw [State.setEb_setEb]
      simp [Eb.filter, v]
    case blankHeld =>
      have row : effect (.blankingEnd t n) (s.advance (instant (.blankingEnd t n))) = _ :=
        doBlankingEnd_held (s := s.advance t) blank (time.symm ▸ due) held en active
      refine effect_of_advance row h rfl ?_
      generalize hw : ebTrip n _ = w
      have unit : (settle w).ebU n = _ := (congrArg (·.ebU n) hw.symm).trans (ebTrip_eb ..)
      rw [State.ebU_setEb] at unit
      simp only [tripped, unit]
      simp [v]
    case blankFree => exact yields_setEb (t := t) h rfl (doBlankingEnd_free (s := s.advance t) blank (time.symm ▸ due)
        free)
    case refused => exact yields_setEb (t := t) h rfl (doEbTripClear_refused (s := s.advance t) trip active)
    case accepted => exact yields_setEb (t := t) h rfl (doEbTripClear_accepted (s := s.advance t) trip idle)
    case release =>
      have row : effect (.tripInputRelease t j) (s.advance (instant (.tripInputRelease t j))) =
          doTripInputRelease j (s.advance t) := rfl
      have unit := fun m (hm : m < 8) => doTripInputRelease_eb j hm (s.advance t)
      have active := tripActive_release j.isLt (s.advance t)
      refine effect_of_advance row h rfl ?_
      generalize doTripInputRelease j (s.advance t) = w at unit active
      refine ⟨active, fun m hm => ?_, fun m hm => ?_⟩
      · rw [show (settle w).ebU m = _ from unit m hm]
        simp
      · rw [show (settle w).ebU m = _ from unit m hm]
        exact ⟨rfl, rfl⟩

end Sys2Proof.Machine
end

section
/-! The KC units: periods, events and triggers (12_pwm_timers.md R385 to R387, R398). -/

namespace Sys2Proof.Machine

/-! ## Events -/

section
variable (c : Bool) (i k : Nat) (u : Kc) (s : State)

theorem kcU_raiseIf (m : Nat) : (raiseIf c i s).kcU m = s.kcU m := by
  rw [raiseIf_frame]
  rfl

theorem raiseIf_setKc : (raiseIf c i (s.setKc k u)).kcU k = u := by rw [kcU_raiseIf, State.kcU_setKc]

theorem kcZero_kc : (kcZero k s).kcU k = { s.kcU k with
    flags := (s.kcU k).flags ||| 1#7, preZero := (prescale (s.kcU k).ips (s.kcU k).preZero).1 } := raiseIf_setKc ..

theorem kcPer_kc : (kcPer k s).kcU k = { s.kcU k with
    flags := (s.kcU k).flags ||| 2#7, prePer := (prescale (s.kcU k).ips (s.kcU k).prePer).1 } := raiseIf_setKc ..

theorem kcCmp_kc : (kcCmp k s).kcU k = { s.kcU k with
    flags := (s.kcU k).flags ||| 4#7, preCmp := (prescale (s.kcU k).ips (s.kcU k).preCmp).1, cmpDone := true } :=
  raiseIf_setKc ..

end

/-! ## Periods (R385) -/

theorem kettle_kcPer_kcZero (k j : Nat) (s : State) : (kcPer k (kcZero k s)).kettle j = s.kettle j := by
  simp [kcPer, kcZero]

section
variable {k : Nat} {s : State} (per cmp : Nat)

theorem doKcPeriodBoundary_stop (no : kcMayRun s k = false) : doKcPeriodBoundary k per cmp s = kcStop k s := by
  unfold doKcPeriodBoundary
  dsimp only
  exact if_pos (by simp [no])

/-- The unit as a period that begins at `x` loads it (R385). -/
def Kc.load (u : Kc) (charging : Bool) (per cmp : Nat) (x : Tick) : Kc :=
  { u with
    running := true, per := per % 16777216, cmp := if charging then cmp % 16777216 else 0, boundary := x
    cmpDone := false, trig := Table.mapAll {} (fun g => { g with fired := false }) u.trig }

theorem Kc.load_cmp (u : Kc) (charging : Bool) (x : Tick) {cmp : Nat} (h : cmp < 2 ^ 24) :
    (u.load charging per cmp x).cmp = if charging then cmp else 0 :=
  if_congr Iff.rfl (Nat.mod_eq_of_lt h) rfl

/-- A unit that does not run starts at once (R385). -/
theorem doKcPeriodBoundary_start (may : kcMayRun s k = true) (off : (s.kcU k).running = false) :
    (doKcPeriodBoundary k per cmp s).kcU k = (s.kcU k).load (s.kettle k).chgOn per cmp s.etc := by
  unfold doKcPeriodBoundary
  simp only [may, off, Bool.not_true, Bool.false_eq_true, if_false, lt_irrefl, State.kcU_setKc]
  rfl

/-- A unit that runs begins its next period when its present one ends, with its ZERO and PER events (R385, R387). -/
theorem doKcPeriodBoundary_next (may : kcMayRun s k = true) (on : (s.kcU k).running = true)
    (due : (s.kcU k).boundary + (s.kcU k).per * ticksPerNs ≤ s.etc) :
    (doKcPeriodBoundary k per cmp s).kcU k = ((kcPer k (kcZero k s)).kcU k).load (s.kettle k).chgOn per cmp
      ((s.kcU k).boundary + (s.kcU k).per * ticksPerNs) := by
  unfold doKcPeriodBoundary
  simp only [may, on, Bool.not_true, Bool.false_eq_true, if_false, if_true, Nat.not_lt.mpr due, State.kcU_setKc,
    kettle_kcPer_kcZero]
  rfl

/-- The flags of a unit that runs on into its next period (R387). -/
theorem flags_next (i : Nat) : ((kcPer k (kcZero k s)).kcU k).flags.getLsbD i =
    ((s.kcU k).flags ||| 1#7 ||| 2#7).getLsbD i := by
  rw [kcPer_kc, kcZero_kc]

end

/-! ## The CMP events that time has brought (R387) -/

theorem kcReached_other {n m : Nat} (s : State) (hm : m ≠ n) : (kcReached n s).kcU m = s.kcU m := by
  unfold kcReached
  dsimp only
  split
  · exact (kcU_raiseIf ..).trans (State.kcU_setKc_other _ _ hm)
  · rfl

theorem kcReached_frame (n : Nat) (s : State) : PwmFrame s (kcReached n s) := by
  unfold kcReached
  dsimp only
  split
  · exact kcCmp_frame ..
  · exact .refl s

theorem kcNow_frame (s : State) : PwmFrame s (kcNow s) := (PwmFrame.refl s).forEach kcReached_frame _

/-- The unit whose CMP event has come (R387). -/
def Kc.reached (u : Kc) : Kc :=
  { u with flags := u.flags ||| 4#7, preCmp := (prescale u.ips u.preCmp).1, cmpDone := true }

theorem kcReached_kc {n : Nat} {s : State} (on : (s.kcU n).running = true) (first : (s.kcU n).cmpDone = false)
    (pos : 0 < (s.kcU n).cmp) (inside : (s.kcU n).cmp < (s.kcU n).per)
    (due : (s.kcU n).boundary + (s.kcU n).per * ticksPerNs ≤ s.etc) :
    (kcReached n s).kcU n = (s.kcU n).reached := by
  have early : (s.kcU n).boundary + (s.kcU n).cmp * ticksPerNs ≤ s.etc :=
    le_trans (Nat.add_le_add_left (Nat.mul_le_mul_right _ (Nat.le_of_lt inside)) _) due
  unfold kcReached
  dsimp only
  rw [if_pos (by simp [on, first, inside, early, Nat.pos_iff_ne_zero.mp pos]), kcCmp_kc]
  rfl

/-- The CMP event of a unit whose period has ended (R387). -/
theorem kcNow_kc {n : Nat} (hn : n < 4) {s : State} (on : (s.kcU n).running = true)
    (first : (s.kcU n).cmpDone = false) (pos : 0 < (s.kcU n).cmp) (inside : (s.kcU n).cmp < (s.kcU n).per)
    (due : (s.kcU n).boundary + (s.kcU n).per * ticksPerNs ≤ s.etc) (run : s.sys.mode = .run) :
    (kcNow s).kcU n = (s.kcU n).reached := by
  have time (m : Nat) (u : State) (hu : u.sys.mode = .run ∧ u.etc = s.etc) :
      (kcReached m u).sys.mode = .run ∧ (kcReached m u).etc = s.etc := by
    rw [(kcReached_frame m u).eq hu.1]
    exact hu
  have := forEach_inside State.kcU (f := kcReached) (fun _ _ u hm => kcReached_other u hm)
    (I := fun u => u.sys.mode = .run ∧ u.etc = s.etc)
    (Q := fun _ c u => c.running = true → c.cmpDone = false → 0 < c.cmp → c.cmp < c.per →
      c.boundary + c.per * ticksPerNs ≤ s.etc → u = c.reached) time
    (fun m u hu on first pos inside due => kcReached_kc on first pos inside (hu.2.symm ▸ due)) List.nodup_range
    (List.mem_range.mpr hn) (s := s) ⟨run, rfl⟩
  exact this on first pos inside due

theorem PwmFrame.kcMayRun {s u : State} (h : PwmFrame s u) (run : s.sys.mode = .run) (k : Nat) :
    kcMayRun u k = kcMayRun s k := by
  rw [h.eq run]
  rfl

/-- What time alone brings where no re-aim pass and no boundary steps run: the CMP events (R22, R242, R387). -/
theorem timeNow_kc {s : State} (run : s.sys.mode = .run) (pass : s.evs.pass = []) (steps : s.evs.steps = none) :
    timeNow s = kcNow s := by
  have evs : (kcNow s).evs = s.evs := by rw [(kcNow_frame s).eq run]
  unfold timeNow stepsNow
  rw [evs, steps]
  unfold passNow
  dsimp only
  rw [evs, pass]
  rfl

/-! ## Triggers (R386) -/

section
variable {k j : Nat} {code : BitVec 12} {s : State}

/-- A trigger compare is reached in the period in force, for the first time (R386). -/
def kcFires (k j : Nat) (s : State) : Bool :=
  let u := s.kcU k
  let g := u.trig.get {} j
  u.running && g.en && !g.fired && decide (kcTrigAt u g ≤ s.etc) &&
    decide (kcTrigAt u g < u.boundary + u.per * ticksPerNs)

/-- The digitiser that trigger `j` of unit `k` uses (R386). -/
def kcDigitiser (k j : Nat) (s : State) : Nat := 2 * k + ((s.kcU k).trig.get {} j).bsel.toNat

/-- A trigger that is missed: its digitiser captures (R386). -/
def KcTrig.miss (g : KcTrig) : KcTrig := { g with fired := true, missed := true, misses := satInc 255 g.misses }

theorem doKcTrigger_missed (fires : kcFires k j s = true) (busy : (s.dgt (kcDigitiser k j s)).capture ≠ none) :
    ((doKcTrigger k j code s).kcU k).trig.get {} j = ((s.kcU k).trig.get {} j).miss ∧
      (doKcTrigger k j code s).dgt (kcDigitiser k j s) = s.dgt (kcDigitiser k j s) := by
  obtain ⟨c, hc⟩ := Option.ne_none_iff_exists'.mp busy
  unfold kcDigitiser at hc
  unfold doKcTrigger
  dsimp only
  rw [if_neg (by rw [show (_ && _) = true from fires]; decide), hc]
  dsimp only
  rw [State.kcU_setKc, Table.get_set_same]
  exact ⟨rfl, rfl⟩

/-- A trigger that fires takes its sample, and its digitiser turns to its channel (R386). -/
theorem doKcTrigger_taken (fires : kcFires k j s = true) (idle : (s.dgt (kcDigitiser k j s)).capture = none) :
    let u := doKcTrigger k j code s
    let g := (s.kcU k).trig.get {} j
    ((u.kcU k).trig.get {} j).code = code ∧ ((u.kcU k).trig.get {} j).fired = true ∧
      ((u.kcU k).trig.get {} j).missed = false ∧ ((u.kcU k).trig.get {} j).tseq = wrapInc 16 g.tseq ∧
      (u.kcU k).flags = (s.kcU k).flags ||| BitVec.twoPow 7 (3 + j) ∧ (u.dgt (kcDigitiser k j s)).mux = g.ch := by
  unfold kcDigitiser at *
  unfold doKcTrigger
  dsimp only
  rw [if_neg (by rw [show (_ && _) = true from fires]; decide), idle]
  dsimp only
  simp [Table.get_set_same]

end

/-- Settles O29: time alone brings the CMP event of the period that ends; each row is one operation on its unit. -/
theorem kcPeriodsAndTriggers : Obligations.KcPeriodsAndTriggers := by
  unfold Obligations.KcPeriodsAndTriggers
  refine ⟨?_, ?_⟩
  · intro s t k per cmp run up pass steps may q on first pos inside due
    have time : (s.advance t).etc = max s.etc t := by rw [advance_run t s run]
    have run' : (s.advance t).sys.mode = .run := run
    have keeps := kcNow_frame (s.advance t)
    have unit : (kcNow (s.advance t)).kcU k = q.reached :=
      kcNow_kc (s := s.advance t) k.isLt on first pos inside (time ▸ due) run
    have may' : kcMayRun (kcNow (s.advance t)) k = true := (keeps.kcMayRun run' k).trans may
    have etc : (kcNow (s.advance t)).etc = max s.etc t := by rw [keeps.eq run']; exact time
    have mode : (kcNow (s.advance t)).sys.mode = .run := by rw [keeps.eq run']; exact run
    have answer := exec_powered (.kcPeriodBoundary t k per cmp) s up rfl
    rw [show instant (.kcPeriodBoundary t k per cmp) = t from rfl,
      timeNow_kc (s := s.advance t) run pass steps] at answer
    generalize kcNow (s.advance t) = v at unit may' etc mode answer
    have stays := doKcPeriodBoundary_frame k v per cmp
    rw [powerSettle_run _ (by
      show (doKcPeriodBoundary k per cmp v).sys.mode = .run
      rw [stays.eq mode]
      exact mode)] at answer
    refine ⟨_, answer, ?_⟩
    have next := doKcPeriodBoundary_next (s := v) per cmp may' (by rw [unit]; exact on)
      (by rw [unit, etc]; exact due)
    have flags (i : Nat) : ((doKcPeriodBoundary k per cmp v).kcU k).flags.getLsbD i =
        (q.flags ||| 4#7 ||| 1#7 ||| 2#7).getLsbD i := by
      rw [next]
      exact (flags_next i).trans (by rw [unit]; rfl)
    exact ⟨(flags 0).trans (by simp), (flags 1).trans (by simp), (flags 2).trans (by simp)⟩
  · intro s t k h q x
    have time : (s.advance t).etc = x := etc_alive t h
    refine ⟨fun per cmp no => ?stop, fun per cmp may hper hcmp begins => ?period, ?trigger⟩
    case stop =>
      have row : effect (.kcPeriodBoundary t k per cmp) (s.advance (instant (.kcPeriodBoundary t k per cmp))) =
          kcStop k (s.advance t) := doKcPeriodBoundary_stop (s := s.advance t) per cmp no
      exact effect_of_advance row h rfl (State.kcU_setKc ..)
    case period =>
      have row : effect (.kcPeriodBoundary t k per cmp) (s.advance (instant (.kcPeriodBoundary t k per cmp))) =
          doKcPeriodBoundary k per cmp (s.advance t) := rfl
      refine effect_of_advance row h rfl ?_
      have may' : kcMayRun (s.advance t) k = true := may
      have flags := flags_next (k := k) (s := s.advance t)
      cases on : q.running with
      | false =>
        have start := doKcPeriodBoundary_start (s := s.advance t) per cmp may' on
        rw [time] at start
        generalize doKcPeriodBoundary k per cmp (s.advance t) = w at start ⊢
        show (w.kcU k).running = true ∧ (w.kcU k).per = per ∧ (w.kcU k).cmp = _ ∧ (w.kcU k).boundary = _ ∧ _
        rw [start]
        exact ⟨rfl, Nat.mod_eq_of_lt hper, Kc.load_cmp _ _ _ _ hcmp, rfl, fun h => nomatch h⟩
      | true =>
        have due := begins.resolve_left (by rw [on]; decide)
        have next := doKcPeriodBoundary_next (s := s.advance t) per cmp may' on (time.symm ▸ due)
        generalize doKcPeriodBoundary k per cmp (s.advance t) = w at next ⊢
        show (w.kcU k).running = true ∧ (w.kcU k).per = per ∧ (w.kcU k).cmp = _ ∧ (w.kcU k).boundary = _ ∧
          (_ → (w.kcU k).flags.getLsbD 0 = true ∧ (w.kcU k).flags.getLsbD 1 = true)
        rw [next]
        exact ⟨rfl, Nat.mod_eq_of_lt hper, Kc.load_cmp _ _ _ _ hcmp, rfl, fun _ =>
          ⟨(flags 0).trans (by simp), (flags 1).trans (by simp)⟩⟩
    case trigger =>
      intro j code g b at_ on en fresh reached inside
      have fires : kcFires k j (s.advance t) = true := by
        unfold kcFires kcTrigAt
        rw [time]
        simp only [Bool.and_eq_true, Bool.not_eq_true', decide_eq_true_iff]
        exact ⟨⟨⟨⟨on, en⟩, fresh⟩, reached⟩, inside⟩
      have row : effect (.kcTrigger t k j code) (s.advance (instant (.kcTrigger t k j code))) =
          doKcTrigger k j code (s.advance t) := rfl
      refine ⟨fun idle => ?_, fun busy => ?_⟩
      · refine effect_of_advance row h rfl ?_
        obtain ⟨code', fired, missed, tseq, flags, mux⟩ := doKcTrigger_taken (code := code) fires idle
        refine ⟨code', fired, missed, tseq, ?_, mux⟩
        refine (congrArg (·.getLsbD (3 + j.val)) flags).trans ?_
        simp
        omega
      · refine effect_of_advance row h rfl ?_
        obtain ⟨trig, same⟩ := doKcTrigger_missed (code := code) fires busy
        generalize doKcTrigger k j code (s.advance t) = w at trig same
        have trig : ((settle w).kcU k).trig.get {} j = _ := trig
        rw [trig]
        exact ⟨rfl, rfl, rfl, rfl, same⟩

end Sys2Proof.Machine
end

section
/-! Timers (12_pwm_timers.md R389 to R395), and what the commands of PWM units and timers leave alone. -/

namespace Sys2Proof.Machine

/-! ## Chains (R389, R392) -/

/-- A timer as its start at `x` leaves it (R390). -/
def Timer.started (c : Timer) (x : Tick) : Timer :=
  { c with
    run := c.ctl, state := .running, start := x, count := 0, edges := 0, madeUp := false, unseen := false
    linkErr := false, lastEdge := none }

/-- A timer as its expiry at `x` leaves it (R389). -/
def Timer.expired (c : Timer) (x : Tick) : Timer :=
  { c with state := .expired, exp := true, count := c.target.toNat, expAt := x }

/-- No timer starts with timer `n` (R392). -/
def NoSlave (s : State) (n : Nat) : Prop := ∀ m, m < 24 → ¬ ((s.timer m).ctl.link = 2 ∧ (s.timer m).ctl.master = n)

/-- No timer follows the expiry of another (R389, R392). -/
def NoFollower (s : State) : Prop := ∀ m, m < 24 → (s.timer m).run.link ≠ 1 ∧ (s.timer m).run.tb ≠ 6

section
variable {s : State} {n m : Nat} {x : Tick}

theorem timFollow_start (rec : TimOp → Nat → Tick → State → State)
    (h : ¬ ((s.timer m).ctl.link = 2 ∧ (s.timer m).ctl.master = n)) : timFollow rec .start n x m s = s := by
  unfold timFollow
  dsimp only
  exact if_neg h

theorem timFollow_expire (rec : TimOp → Nat → Tick → State → State) (link : (s.timer m).run.link ≠ 1)
    (tb : (s.timer m).run.tb ≠ 6) : timFollow rec .expire n x m s = s := by
  unfold timFollow
  dsimp only
  rw [if_neg (fun h => link h.2.1), if_neg (fun h => tb h.2.1)]

/-- A timer read after a write of one timer, where the value has a property the old one had too. -/
theorem timer_setTimer_of {p : Timer → Prop} {c : Timer} (old : p (s.timer m)) (new : m = n → p c) :
    p ((s.setTimer n c).timer m) := by
  by_cases e : m = n
  · subst e
    rw [State.timer_setTimer]
    exact new rfl
  · rw [State.timer_setTimer_other _ _ e]
    exact old

/-- A timer that nothing starts with starts alone (R390, R392). -/
theorem timAct_start (f : Nat) (hn : n < 24) (target : (s.timer n).target ≠ 0) (alone : NoSlave s n) :
    timAct (f + 1) .start n x s = s.setTimer n ((s.timer n).started x) := by
  unfold timAct
  dsimp only
  rw [if_neg target]
  refine forEach_id (List.range 24) (timFollow (timAct f) .start n x) _ fun m hm => timFollow_start _ ?_
  exact timer_setTimer_of (p := fun c => ¬ (c.ctl.link = 2 ∧ c.ctl.master = n)) (alone m (List.mem_range.mp hm))
    (fun _ => alone n hn)

/-- In RUN a timer that nothing follows expires alone (R389). -/
theorem timAct_expire (f : Nat) (run : s.sys.mode = .run) (free : NoFollower s) (hn : n < 24) :
    timAct (f + 1) .expire n x s = raiseIf (s.timer n).ieExp (144 + n) (s.setTimer n ((s.timer n).expired x)) := by
  have mode : (raiseIf (s.timer n).ieExp (144 + n) (s.setTimer n ((s.timer n).expired x))).sys.mode = .run :=
    raiseIf_mode _ _ _ run
  have timers (m : Nat) : (raiseIf (s.timer n).ieExp (144 + n) (s.setTimer n ((s.timer n).expired x))).timer m =
      (s.setTimer n ((s.timer n).expired x)).timer m := by
    rw [raiseIf_frame]
    rfl
  unfold timAct
  dsimp only
  rw [show ({ s.timer n with state := .expired, exp := true, count := (s.timer n).target.toNat, expAt := x } : Timer) =
    (s.timer n).expired x from rfl]
  generalize raiseIf (s.timer n).ieExp (144 + n) (s.setTimer n ((s.timer n).expired x)) = v at mode timers ⊢
  rw [wake_run _ v mode, wake_run _ v mode, ite_self, ite_self]
  refine forEach_id (List.range 24) (timFollow (timAct f) .expire n x) v fun m hm => ?_
  obtain ⟨link, tb⟩ : (v.timer m).run.link ≠ 1 ∧ (v.timer m).run.tb ≠ 6 := by
    rw [timers]
    exact timer_setTimer_of (p := fun c => c.run.link ≠ 1 ∧ c.run.tb ≠ 6) (free m (List.mem_range.mp hm))
      (fun _ => free n hn)
  exact timFollow_expire _ link tb

end

/-! ## Rows (R389 to R391, R395) -/

/-- A timer reads after a raise as before it. -/
theorem timer_raiseIf (b : Bool) (i : Nat) (s : State) (m : Nat) : (raiseIf b i s).timer m = s.timer m := by
  rw [raiseIf_frame]
  rfl

section
variable {s : State} {n : Nat} {x : Tick}

/-- No expiry comes before an instant that the due instant of a running timer does not precede (R395). -/
theorem timBefore_early (h : (s.timer n).state = .running → tbNs (s.timer n).run.tb ≠ 0 → x ≤ timDue (s.timer n)) :
    timBefore n x s = s := by
  unfold timBefore
  refine if_neg fun overdue => ?_
  unfold timOverdue at overdue
  simp only [Bool.and_eq_true, beq_iff_eq, bne_iff_ne, decide_eq_true_iff] at overdue
  obtain ⟨⟨⟨running, timed⟩, late⟩, -⟩ := overdue
  exact Nat.not_lt.mpr (h running timed) late

theorem timBefore_due (run : s.sys.mode = .run) (running : (s.timer n).state = .running)
    (timed : tbNs (s.timer n).run.tb ≠ 0) (late : timDue (s.timer n) < x) :
    timBefore n x s = timAct timFuel .expire n (timDue (s.timer n)) s := by
  unfold timBefore timOverdue timRuns asleep
  dsimp only
  exact if_pos (by simp [running, timed, late, run])

/-- A start that is not refused and needs no master (R390, R392). -/
theorem doTimerStart_free (early : timBefore n s.etc s = s)
    (link : (s.timer n).ctl.link = 0 ∨ ((s.timer n).ctl.link = 2 ∧ (s.timer n).ctl.master < n)) (hn : n < 24)
    (target : (s.timer n).target ≠ 0) (alone : NoSlave s n) :
    doTimerStart n s = s.setTimer n ((s.timer n).started s.etc) := by
  unfold doTimerStart
  rw [early]
  dsimp only
  rw [if_neg (by omega), if_neg (by omega)]
  exact timAct_start 49 hn target alone

theorem doTimerStart_armed (early : timBefore n s.etc s = s) (link : (s.timer n).ctl.link = 1)
    (master : (s.timer n).ctl.master < n) : doTimerStart n s =
      s.setTimer n { (s.timer n).started s.etc with state := .armed, start := (s.timer n).start } := by
  unfold doTimerStart
  rw [early]
  dsimp only
  rw [if_neg (by omega), if_pos link]
  rfl

theorem doTimerStart_refused (early : timBefore n s.etc s = s) (link : (s.timer n).ctl.link ≠ 0)
    (master : n ≤ (s.timer n).ctl.master) :
    doTimerStart n s = s.setTimer n { s.timer n with linkErr := true, state := .stopped } := by
  unfold doTimerStart
  rw [early]
  dsimp only
  rw [if_pos ⟨link, master⟩]

theorem doTimerStop_running (early : timBefore n (s.etc + 1) s = s) (running : (s.timer n).state = .running) :
    doTimerStop n s = s.setTimer n { s.timer n with count := timCount (s.timer n) s.etc, state := .stopped } := by
  unfold doTimerStop
  rw [early]
  dsimp only
  rw [running]

theorem doTimerStop_armed (early : timBefore n (s.etc + 1) s = s) (armed : (s.timer n).state = .armed) :
    doTimerStop n s = s.setTimer n { s.timer n with state := .stopped } := by
  unfold doTimerStop
  rw [early]
  dsimp only
  rw [armed]

/-- A stop of a timer that, its due expiry taken, neither runs nor is armed changes nothing more (R390, R395). -/
theorem doTimerStop_idle {v : State} (before : timBefore n (s.etc + 1) s = v) (running : (v.timer n).state ≠ .running)
    (armed : (v.timer n).state ≠ .armed) : doTimerStop n s = v := by
  unfold doTimerStop
  rw [before]
  dsimp only
  split
  · exact absurd (by assumption) running
  · exact absurd (by assumption) armed
  · rfl

theorem doTimerTargetWrite_above {v : Word} (early : timBefore n s.etc s = s)
    (above : (s.timer n).state ≠ .running ∨ timCount (s.timer n) s.etc < v.toNat) :
    doTimerTargetWrite n v s = s.setTimer n { s.timer n with target := v } := by
  unfold doTimerTargetWrite
  rw [early]
  dsimp only
  rw [if_neg]
  rintro ⟨running, below⟩
  exact above.elim (fun h => h running) (fun h => Nat.not_lt.mpr below h)

/-- A TARGET at or below the count expires a timer that nothing follows, at once (R390). -/
theorem doTimerTargetWrite_reached {v : Word} (early : timBefore n s.etc s = s) (run : s.sys.mode = .run)
    (running : (s.timer n).state = .running) (below : v.toNat ≤ timCount (s.timer n) s.etc) (free : NoFollower s)
    (hn : n < 24) : doTimerTargetWrite n v s = raiseIf (s.timer n).ieExp (144 + n)
      (s.setTimer n (({ s.timer n with target := v } : Timer).expired s.etc)) := by
  have free' : NoFollower (s.setTimer n { s.timer n with target := v }) := fun m hm =>
    timer_setTimer_of (p := fun c => c.run.link ≠ 1 ∧ c.run.tb ≠ 6) (free m hm) (fun _ => free n hn)
  have expire := timAct_expire (s := s.setTimer n { s.timer n with target := v }) (x := s.etc) 49 run free' hn
  rw [State.timer_setTimer, State.setTimer_setTimer] at expire
  unfold doTimerTargetWrite
  rw [early]
  dsimp only
  rw [if_pos ⟨running, below⟩]
  exact expire

theorem doTimerExpiry_due (run : s.sys.mode = .run) (running : (s.timer n).state = .running)
    (timed : tbNs (s.timer n).run.tb ≠ 0) (due : timDue (s.timer n) ≤ s.etc) :
    doTimerExpiry n s = timAct timFuel .expire n (timDue (s.timer n)) s := by
  unfold doTimerExpiry timRuns asleep
  dsimp only
  exact if_pos ⟨running, timed, due, by simp [run]⟩

end

/-! ## Several starts at one instant (R390) -/

/-- Every timer may start at `x` with none before it, alone and without a master (R390, R392). -/
def StartsAlone (s : State) (x : Tick) : Prop :=
  ∀ m, m < 24 → ((s.timer m).state = .running → tbNs (s.timer m).run.tb ≠ 0 → x ≤ timDue (s.timer m)) ∧
    (s.timer m).ctl.link = 0 ∧ (s.timer m).target ≠ 0

section
variable {s : State} {n : Nat}

theorem StartsAlone.noSlave {x : Tick} (h : StartsAlone s x) (n : Nat) : NoSlave s n := fun m hm both => by
  obtain ⟨-, link, -⟩ := h m hm
  omega

theorem StartsAlone.start (h : StartsAlone s s.etc) (hn : n < 24) :
    doTimerStart n s = s.setTimer n ((s.timer n).started s.etc) := by
  obtain ⟨early, link, target⟩ := h n hn
  exact doTimerStart_free (timBefore_early early) (.inl link) hn target (h.noSlave n)

theorem StartsAlone.after (h : StartsAlone s s.etc) (hn : n < 24) :
    StartsAlone (s.setTimer n ((s.timer n).started s.etc)) s.etc := by
  intro m hm
  obtain ⟨-, link, target⟩ := h n hn
  exact timer_setTimer_of (p := fun c => (c.state = .running → tbNs c.run.tb ≠ 0 → s.etc ≤ timDue c) ∧ c.ctl.link = 0 ∧
    c.target ≠ 0) (h m hm) (fun _ => ⟨fun _ _ => Nat.le_add_right .., link, target⟩)

theorem forEach_doTimerStart {l : List Nat} (hl : ∀ n ∈ l, n < 24) (h : StartsAlone s s.etc) (m : Nat) :
    (forEach l doTimerStart s).timer m = if m ∈ l then (s.timer m).started s.etc else s.timer m := by
  unfold forEach
  induction l generalizing s with
  | nil => rfl
  | cons a l ih =>
    have ha := hl a List.mem_cons_self
    rw [List.foldl_cons, h.start ha, ih (fun n hn => hl n (List.mem_cons_of_mem a hn)) (h.after ha)]
    by_cases e : m = a
    · subst e
      rw [State.timer_setTimer, if_pos (List.mem_cons_self ..)]
      exact ite_self _
    · rw [State.timer_setTimer_other _ _ e]
      simp only [List.mem_cons, e, false_or]
      rfl

end

/-! ## Captures (R391) -/

section
variable {s : State} {n : Nat} {y : Tick} {r : Bool}

/-- An accepted edge of a running timer that does not make it expire (R391, R395). -/
theorem doCaptureEdge_accepted (run : s.sys.mode = .run) (sel : capSelected s (s.timer n).run.cap r = true)
    (quiet : y + (s.timer n).run.filt * ticksPerNs ≤ s.etc)
    (apart : ∀ e, (s.timer n).lastEdge = some e → e + (s.timer n).run.filt * ticksPerNs ≤ y)
    (running : (s.timer n).state = .running) (early : tbNs (s.timer n).run.tb ≠ 0 → y < timDue (s.timer n))
    (below : (s.timer n).run.tb = 5 → (s.timer n).count + 1 < (s.timer n).target.toNat) :
    doCaptureEdge n y r s = captureAt true n y (s.setTimer n { s.timer n with
      lastEdge := some y, count := if (s.timer n).run.tb = 5 then (s.timer n).count + 1 else (s.timer n).count }) := by
  have awake : asleep s = false := by unfold asleep; rw [run]; rfl
  have alive : (s.timer n).state = .running ∧ asleep s = false ∧ (tbNs (s.timer n).run.tb ≠ 0 → y ≤ timDue (s.timer n))
      :=
    ⟨running, awake, fun h => Nat.le_of_lt (early h)⟩
  unfold doCaptureEdge
  dsimp only
  refine (if_neg ?accepted).trans ((if_neg (by simp [sel])).trans ?_)
  case accepted =>
    rintro (wait | near | dead)
    · exact Nat.not_lt.mpr quiet wait
    · split at near
      case h_1 e he => exact Nat.not_lt.mpr (apart e he) (of_decide_eq_true near)
      case h_2 => cases near
    · exact dead (.inl alive)
  rw [show decide ((s.timer n).state = .running ∧ asleep s = false ∧
    (tbNs (s.timer n).run.tb ≠ 0 → y ≤ timDue (s.timer n))) = true from decide_eq_true alive]
  generalize hc : (if ((s.timer n).state = .running ∧ asleep s = false ∧
    (tbNs (s.timer n).run.tb ≠ 0 → y ≤ timDue (s.timer n))) ∧ (s.timer n).run.tb = 5 then _ else _ : Timer) = c
  have counted : c = { s.timer n with
      lastEdge := some y, count := if (s.timer n).run.tb = 5 then (s.timer n).count + 1 else (s.timer n).count } := by
    rw [← hc]
    by_cases tb : (s.timer n).run.tb = 5
    · rw [if_pos ⟨alive, tb⟩, if_pos tb]
    · rw [if_neg (fun h => tb h.2), if_neg tb]
  have bound : c.run.tb = 5 → c.count < c.target.toNat := by
    intro tb
    rw [counted] at tb ⊢
    show (if (s.timer n).run.tb = 5 then _ else _) < _
    rw [if_pos tb]
    exact below tb
  rw [counted] at bound ⊢
  refine if_neg ?_
  rintro ⟨-, ⟨tb, reached⟩ | ⟨timed, now⟩⟩
  · exact Nat.not_le.mpr (bound tb) reached
  · exact Nat.ne_of_lt (early timed) now

theorem captureAt_off {b : Bool} (off : (s.timer n).run.capture = false) : captureAt b n y s = s := by
  unfold captureAt
  dsimp only
  exact if_pos (by rw [off]; rfl)

section
variable (run : s.sys.mode = .run) (sel : capSelected s (s.timer n).run.cap r = true)
  (quiet : y + (s.timer n).run.filt * ticksPerNs ≤ s.etc)
  (apart : ∀ e, (s.timer n).lastEdge = some e → e + (s.timer n).run.filt * ticksPerNs ≤ y)
  (running : (s.timer n).state = .running)
include run sel quiet apart running

theorem doCaptureEdge_timed (timed : tbNs (s.timer n).run.tb ≠ 0) (early : y < timDue (s.timer n)) :
    doCaptureEdge n y r s = captureAt true n y (s.setTimer n { s.timer n with lastEdge := some y }) := by
  have tb : (s.timer n).run.tb ≠ 5 := fun e => timed (by rw [e]; rfl)
  rw [doCaptureEdge_accepted run sel quiet apart running (fun _ => early) (fun e => absurd e tb), if_neg tb]

theorem doCaptureEdge_counted (tb : (s.timer n).run.tb = 5) (off : (s.timer n).run.capture = false)
    (below : (s.timer n).count + 1 < (s.timer n).target.toNat) :
    doCaptureEdge n y r s = s.setTimer n { s.timer n with count := (s.timer n).count + 1, lastEdge := some y } := by
  rw [doCaptureEdge_accepted run sel quiet apart running (fun timed => absurd (by rw [tb]; rfl) timed) (fun _ => below),
    if_pos tb]
  exact captureAt_off (by rw [State.timer_setTimer]; exact off)

end

/-- A timer with a time timebase, as a capture edge at `y` that it takes or skips leaves it (R391). -/
def Timer.captured (c : Timer) (y : Tick) : Timer :=
  if (c.edges + 1) % c.run.ps ≠ 0 then { c with edges := c.edges + 1 }
  else { c with
    edges := c.edges + 1, capt := BitVec.ofNat 32 ((y - c.start) / (tbNs c.run.tb * ticksPerNs)), captEtc := y
    new := true, ovr := c.ovr || c.new, start := if c.run.restart then y else c.start
    count := if c.run.restart then 0 else c.count }

theorem captureAt_timer (on : (s.timer n).run.capture = true) (timed : tbNs (s.timer n).run.tb ≠ 0) :
    (captureAt true n y s).timer n = (s.timer n).captured y ∧
      ∀ m, m ≠ n → (captureAt true n y s).timer m = s.timer m := by
  unfold captureAt Timer.captured
  dsimp only
  rw [if_neg (by simp [on])]
  split
  · exact ⟨State.timer_setTimer .., fun m hm => State.timer_setTimer_other _ _ hm⟩
  · refine ⟨?_, fun m hm => (timer_raiseIf ..).trans (State.timer_setTimer_other _ _ hm)⟩
    rw [timer_raiseIf, State.timer_setTimer]
    unfold timCountAt
    simp only [Bool.and_true, if_neg timed]

theorem doCaptureEdge_near {e : Tick} (last : (s.timer n).lastEdge = some e)
    (near : y < e + (s.timer n).run.filt * ticksPerNs) : doCaptureEdge n y r s = s := by
  unfold doCaptureEdge
  dsimp only
  refine if_pos (.inr (.inl ?_))
  rw [last]
  exact decide_eq_true near

end

/-! ## O30 -/

section
variable {k : Instr} {s : State} {t : Tick} {n : Nat} {c : Timer} (h : Alive s) (hl : leaves_mode k = false)
include h hl

/-- A row that writes one timer. -/
theorem yields_setTimer (row : effect k (s.advance (instant k)) = (s.advance t).setTimer n c) :
    Yields k s (fun u => u.timer n = c ∧ ∀ m, m ≠ n → u.timer m = s.timer m) :=
  effect_of_advance row h hl ⟨State.timer_setTimer .., fun _ hm => State.timer_setTimer_other _ _ hm⟩

/-- A row that writes one timer and raises its source. -/
theorem yields_setTimer_raise {b : Bool} (hn : n < 24) (row : effect k (s.advance (instant k)) =
    raiseIf b (144 + n) ((s.advance t).setTimer n c)) :
    Yields k s (fun u => u.timer n = c ∧ (∀ m, m ≠ n → u.timer m = s.timer m) ∧
      (b = true → u.irc.host.pend.getLsbD (144 + n) = true)) := by
  refine effect_of_advance row h hl ⟨?_, fun m hm => ?_, fun hb => ?_⟩
  · exact (timer_raiseIf ..).trans (State.timer_setTimer ..)
  · exact (timer_raiseIf ..).trans (State.timer_setTimer_other _ _ hm)
  · have present : absentSource (144 + n) = false := by unfold absentSource; simp; omega
    subst hb
    exact raise_pends (by omega) present _

end

/-- Settles O30: each row writes its timer, once no other timer follows and the expiries before it are told apart. -/
theorem timersRunExpireAndCapture : Obligations.TimersRunExpireAndCapture := by
  unfold Obligations.TimersRunExpireAndCapture
  refine ⟨?_, ?_⟩
  · intro s t n h c x started due early others
    have time : (s.advance t).etc = x := etc_alive t h
    have before (ok : early n) : timBefore n (s.advance t).etc (s.advance t) = s.advance t :=
      timBefore_early (s := s.advance t) (fun run timed => time.symm ▸ ok run timed)
    refine ⟨fun ok link target alone => ?start, fun ok link master => ?armed, fun ok link master => ?refused,
      fun running early' => ?stop, fun armed => ?stopArmed, fun running armed => ?stopIdle, fun mask all => ?global⟩
    case start =>
      have row : effect (.timerStart t n) (s.advance (instant (.timerStart t n))) =
          (s.advance t).setTimer n (c.started x) := time ▸ doTimerStart_free (s := s.advance t) (before ok) link n.isLt
            target (fun m hm => alone ⟨m, hm⟩)
      exact yields_setTimer h rfl row
    case armed =>
      have row : effect (.timerStart t n) (s.advance (instant (.timerStart t n))) =
          (s.advance t).setTimer n { c.started x with state := .armed, start := c.start } :=
        time ▸ doTimerStart_armed (s := s.advance t) (before ok) link master
      exact yields_setTimer h rfl row
    case refused =>
      have row : effect (.timerStart t n) (s.advance (instant (.timerStart t n))) =
          (s.advance t).setTimer n { c with linkErr := true, state := .stopped } :=
        doTimerStart_refused (s := s.advance t) (before ok) link master
      exact yields_setTimer h rfl row
    case stop =>
      have ok : timBefore n ((s.advance t).etc + 1) (s.advance t) = s.advance t :=
        timBefore_early (s := s.advance t) (fun _ timed => time.symm ▸ early'.resolve_left timed)
      have row : effect (.timerStop t n) (s.advance (instant (.timerStop t n))) =
          (s.advance t).setTimer n { c with count := timCount c x, state := .stopped } :=
        time ▸ doTimerStop_running (s := s.advance t) ok running
      exact yields_setTimer h rfl row
    case stopArmed =>
      have ok : timBefore n ((s.advance t).etc + 1) (s.advance t) = s.advance t :=
        timBefore_early (s := s.advance t) (fun running _ => absurd (running.symm.trans armed) (by decide))
      have row : effect (.timerStop t n) (s.advance (instant (.timerStop t n))) =
          (s.advance t).setTimer n { c with state := .stopped } := doTimerStop_armed (s := s.advance t) ok armed
      exact yields_setTimer h rfl row
    case stopIdle =>
      have ok : timBefore n ((s.advance t).etc + 1) (s.advance t) = s.advance t :=
        timBefore_early (s := s.advance t) (fun run _ => absurd run running)
      have row : effect (.timerStop t n) (s.advance (instant (.timerStop t n))) = s.advance t :=
        doTimerStop_idle (s := s.advance t) ok running armed
      exact effect_of_advance row h rfl ⟨rfl, fun _ _ => rfl⟩
    case global =>
      have row : effect (.timGlbStart t mask) (s.advance (instant (.timGlbStart t mask))) =
          doTimGlbStart mask.toNat (s.advance t) := rfl
      refine effect_of_advance row h rfl fun m => ?_
      have alone : StartsAlone (s.advance t) (s.advance t).etc := fun m hm => by
        obtain ⟨ok, link, target⟩ := all ⟨m, hm⟩
        exact ⟨time.symm ▸ ok, link, target⟩
      have starts := forEach_doTimerStart (l := (List.range 24).filter (fun n => bitAt mask.toNat n))
        (fun n hn => (mem_filter_bitAt.mp hn).1) alone m
      rw [time] at starts
      refine starts.trans (if_congr ?_ rfl rfl)
      rw [mem_filter_bitAt, bitAt_toNat]
      exact and_iff_right m.isLt
  · intro s t n h c x due others
    have time : (s.advance t).etc = x := etc_alive t h
    have run : (s.advance t).sys.mode = .run := h.1
    refine ⟨fun running timed reached free => ?expiry, fun v early => ?target, fun v running early below free => ?below,
      fun y r sel quiet apart running timed early capture => ?capture,
      fun y r sel quiet apart running tb capture below => ?count, fun y e r last near => ?near⟩
    case expiry =>
      have free' : NoFollower (s.advance t) := fun m hm => free ⟨m, hm⟩
      have expire : timAct timFuel .expire n due (s.advance t) =
          raiseIf c.ieExp (144 + n) ((s.advance t).setTimer n (c.expired due)) := timAct_expire 49 run free' n.isLt
      have row : effect (.timerExpiry t n) (s.advance (instant (.timerExpiry t n))) = _ :=
        (doTimerExpiry_due (s := s.advance t) run running timed (time.symm ▸ reached)).trans expire
      refine ⟨yields_setTimer_raise h rfl n.isLt row, ?_⟩
      have before : timBefore n ((s.advance t).etc + 1) (s.advance t) = _ :=
        (timBefore_due (s := s.advance t) run running timed (time.symm ▸ Nat.lt_succ_of_le reached)).trans expire
      have unit : (raiseIf c.ieExp (144 + n) ((s.advance t).setTimer n (c.expired due))).timer n = c.expired due :=
        (timer_raiseIf ..).trans (State.timer_setTimer ..)
      have row : effect (.timerStop t n) (s.advance (instant (.timerStop t n))) = _ :=
        doTimerStop_idle (s := s.advance t) before (by rw [unit]; exact nofun) (by rw [unit]; exact nofun)
      exact (yields_setTimer_raise h rfl n.isLt row).imp fun _ ⟨a, b, _⟩ => ⟨a, b⟩
    case target =>
      have row : effect (.timerTargetWrite t n v) (s.advance (instant (.timerTargetWrite t n v))) =
          (s.advance t).setTimer n { c with target := v } := by
        refine doTimerTargetWrite_above (s := s.advance t) (timBefore_early ?_) ?_
        · intro running timed
          obtain ⟨early, -⟩ := early.resolve_left (fun h => h running)
          exact time.symm ▸ early.resolve_left timed
        · exact early.imp id (fun h => time.symm ▸ h.2)
      exact yields_setTimer h rfl row
    case below =>
      have row : effect (.timerTargetWrite t n v) (s.advance (instant (.timerTargetWrite t n v))) =
          raiseIf c.ieExp (144 + n) ((s.advance t).setTimer n (({ c with target := v } : Timer).expired x)) := by
        have free' : NoFollower (s.advance t) := fun m hm => free ⟨m, hm⟩
        have before : timBefore n (s.advance t).etc (s.advance t) = s.advance t :=
          timBefore_early (s := s.advance t) fun _ timed => time.symm ▸ early.resolve_left timed
        exact time ▸ doTimerTargetWrite_reached before run running (time.symm ▸ below) free' n.isLt
      exact (yields_setTimer_raise h rfl n.isLt row).imp fun _ ⟨a, b, _⟩ => ⟨a, b⟩
    case capture =>
      have row : effect (.captureEdge t n y r) (s.advance (instant (.captureEdge t n y r))) =
          captureAt true n y ((s.advance t).setTimer n { c with lastEdge := some y }) :=
        doCaptureEdge_timed (s := s.advance t) run sel (time.symm ▸ quiet) apart running timed early
      refine effect_of_advance row h rfl ?_
      obtain ⟨here, rest⟩ := captureAt_timer (s := (s.advance t).setTimer n { c with lastEdge := some y }) (n := n) (y
          := y)
        (by rw [State.timer_setTimer]; exact capture) (by rw [State.timer_setTimer]; exact timed)
      rw [State.timer_setTimer] at here
      generalize captureAt true n y ((s.advance t).setTimer n { c with lastEdge := some y }) = w at here rest
      exact ⟨fun m hm => (rest m hm).trans (State.timer_setTimer_other _ _ hm), here⟩
    case count =>
      have row : effect (.captureEdge t n y r) (s.advance (instant (.captureEdge t n y r))) =
          (s.advance t).setTimer n { c with count := c.count + 1, lastEdge := some y } :=
        doCaptureEdge_counted (s := s.advance t) run sel (time.symm ▸ quiet) apart running tb capture below
      exact yields_setTimer h rfl row
    case near =>
      have row : effect (.captureEdge t n y r) (s.advance (instant (.captureEdge t n y r))) = s.advance t :=
        doCaptureEdge_near (s := s.advance t) last near
      exact effect_of_advance row h rfl rfl

end Sys2Proof.Machine
end

section
/-! What the commands of the PWM units and of the timers leave alone (12_pwm_timers.md R371 to R395). -/

namespace Sys2Proof.Machine

/-- In RUN nothing but the timers and the interrupt controller has changed. -/
structure TimFrame (s u : State) : Prop where
  eq : s.sys.mode = .run → u = { s with tim := u.tim, irc := u.irc }

namespace TimFrame
variable {s u : State}

theorem refl (s : State) : TimFrame s s := ⟨fun _ => rfl⟩

theorem trans {v : State} (h : TimFrame s u) (g : TimFrame u v) : TimFrame s v := by
  refine ⟨fun run => ?_⟩
  have hu := h.eq run
  have hv := g.eq (by rw [hu]; exact run)
  rw [hv, hu]

theorem setTimer (h : TimFrame s u) (n : Nat) (c : Timer) : TimFrame s (u.setTimer n c) := h.trans ⟨fun _ => rfl⟩

theorem raiseIf (h : TimFrame s u) (c : Bool) (n : Nat) : TimFrame s (raiseIf c n u) := by
  refine h.trans ⟨fun run => ?_⟩
  unfold Machine.raiseIf
  split
  · rw [raise_run n u run]
    split <;> rfl
  · rfl

theorem wake (h : TimFrame s u) (b : Nat) : TimFrame s (wake b u) := h.trans ⟨fun run => by rw [wake_run b u run]⟩

theorem ite {p : Prop} [Decidable p] {v : State} (a : TimFrame s u) (b : TimFrame s v) : TimFrame s (if p then u else v)
    := by
  split
  · exact a
  · exact b

theorem foldl {f : State → Nat → State} (hf : ∀ u n, TimFrame u (f u n)) (h : TimFrame s u) (l : List Nat) :
    TimFrame s (l.foldl f u) := by
  induction l generalizing u with
  | nil => exact h
  | cons n l ih => exact ih (h.trans (hf u n))

end TimFrame

section
variable (n : Nat) (x : Tick) (s : State)

theorem timFollow_frame {rec : TimOp → Nat → Tick → State → State} (hr : ∀ op n x s, TimFrame s (rec op n x s))
    (op : TimOp) (m : Nat) : TimFrame s (timFollow rec op n x m s) := by
  unfold timFollow
  dsimp only
  cases op with
  | start =>
    dsimp only
    split
    · split
      · exact hr ..
      · split
        · exact .refl s
        · exact (TimFrame.refl s).setTimer _ _
    · exact .refl s
  | expire =>
    dsimp only
    split
    · exact hr ..
    · split
      · split
        · exact ((TimFrame.refl s).setTimer _ _).trans (hr ..)
        · exact (TimFrame.refl s).setTimer _ _
      · exact .refl s

theorem timAct_frame (f : Nat) (op : TimOp) : TimFrame s (timAct f op n x s) := by
  induction f generalizing op n x s with
  | zero => exact .refl s
  | succ f ih =>
    have acts (op : TimOp) (n : Nat) (x : Tick) (s : State) : TimFrame s (timAct f op n x s) := ih n x s op
    cases op with
    | start =>
      unfold timAct
      refine TimFrame.foldl (fun u m => timFollow_frame n x u acts .start m) ?_ _
      split
      · exact ((TimFrame.refl s).setTimer _ _).trans (acts ..)
      · exact (TimFrame.refl s).setTimer _ _
    | expire =>
      unfold timAct
      refine TimFrame.foldl (fun u m => timFollow_frame n x u acts .expire m) ?_ _
      have expired (c : Timer) := ((TimFrame.refl s).setTimer n c).raiseIf (s.timer n).ieExp (144 + n)
      split
      · exact (expired _).wake 4
      · split
        · exact (expired _).wake 5
        · exact expired _

theorem timBefore_frame : TimFrame s (timBefore n x s) := by
  unfold timBefore
  split
  · exact timAct_frame ..
  · exact .refl s

theorem doTimerStart_frame : TimFrame s (doTimerStart n s) := by
  unfold doTimerStart
  refine (timBefore_frame n s.etc s).trans ?_
  dsimp only
  split
  · exact (TimFrame.refl _).setTimer _ _
  · split
    · exact (TimFrame.refl _).setTimer _ _
    · exact timAct_frame ..

theorem doTimerStop_frame : TimFrame s (doTimerStop n s) := by
  unfold doTimerStop
  refine (timBefore_frame n (s.etc + 1) s).trans ?_
  dsimp only
  split
  · exact (TimFrame.refl _).setTimer _ _
  · exact (TimFrame.refl _).setTimer _ _
  · exact .refl _

theorem doTimerTargetWrite_frame (v : Word) : TimFrame s (doTimerTargetWrite n v s) := by
  unfold doTimerTargetWrite
  refine (timBefore_frame n s.etc s).trans ?_
  dsimp only
  split
  · exact ((TimFrame.refl _).setTimer _ _).trans (timAct_frame ..)
  · exact (TimFrame.refl _).setTimer _ _

theorem doTimGlbStart_frame (mask : Nat) : TimFrame s (doTimGlbStart mask s) :=
  (TimFrame.refl s).foldl (fun u n => doTimerStart_frame n u) _

theorem doTimerExpiry_frame : TimFrame s (doTimerExpiry n s) := by
  unfold doTimerExpiry
  dsimp only
  split
  · exact timAct_frame ..
  · exact .refl s

theorem captureAt_frame (b : Bool) : TimFrame s (captureAt b n x s) := by
  unfold captureAt
  dsimp only
  split
  · exact .refl s
  · split
    · exact (TimFrame.refl s).setTimer _ _
    · exact ((TimFrame.refl s).setTimer _ _).raiseIf _ _

theorem doCaptureEdge_frame (r : Bool) : TimFrame s (doCaptureEdge n x r s) := by
  unfold doCaptureEdge
  dsimp only
  have captured (c : Timer) (b : Bool) : TimFrame s (captureAt b n x (s.setTimer n c)) :=
    ((TimFrame.refl s).setTimer n c).trans (captureAt_frame n x _ b)
  exact .ite (.refl s) (.ite ((TimFrame.refl s).setTimer _ _)
    (.ite ((captured _ _).trans (timAct_frame ..)) (captured _ _)))

end

/-! ## O31 -/

section
variable {k : Instr} {s u : State} {t : Tick} (h : Alive s) (hl : leaves_mode k = false) (he : exec k s = .next u)
include h hl he

theorem next_of_pwmFrame (frame : PwmFrame (s.advance t) (effect k (s.advance (instant k)))) :
    u = { s with now := max s.now t, etc := max s.etc t, pwm := u.pwm, irc := u.irc, fresh := u.fresh } := by
  rw [exec_alive k s h hl] at he
  injection he with e
  subst e
  have w := frame.eq h.1
  generalize effect k (s.advance (instant k)) = w' at w
  rw [advance_alive t h] at w
  rw [w]
  rfl

theorem next_of_timFrame (frame : TimFrame (s.advance t) (effect k (s.advance (instant k)))) :
    u = { s with now := max s.now t, etc := max s.etc t, tim := u.tim, irc := u.irc } := by
  rw [exec_alive k s h hl] at he
  injection he with e
  subst e
  have w := frame.eq h.1
  generalize effect k (s.advance (instant k)) = w' at w
  rw [advance_alive t h] at w
  rw [w]
  rfl

end

/-- In RUN a raise changes the interrupt controller alone (R402). -/
theorem raiseIf_irc (c : Bool) (n : Nat) {s : State} (run : s.sys.mode = .run) :
    raiseIf c n s = { s with irc := (raiseIf c n s).irc } := by
  unfold raiseIf
  split
  · rw [raise_run n s run]
    split <;> rfl
  · rfl

/-- A KC trigger changes its unit, its digitiser and the interrupt controller (R386). -/
theorem doKcTrigger_frame (k j : Nat) (code : BitVec 12) {s : State} (run : s.sys.mode = .run) :
    let u := doKcTrigger k j code s
    u = { s with pwm := u.pwm, irc := u.irc, dia := { s.dia with dg := u.dia.dg } } := by
  have written (b : Nat) (d : Digitiser) (c : Kc) (e : Bool) (i : Nat) :
      let u := raiseIf e i ((s.setDgt b d).setKc k c)
      u = { s with pwm := u.pwm, irc := u.irc, dia := { s.dia with dg := u.dia.dg } } := by
    dsimp only
    rw [raiseIf_irc e i (s := (s.setDgt b d).setKc k c) run]
    rfl
  unfold doKcTrigger
  dsimp only
  split
  · rfl
  · split
    · rfl
    · exact written ..

/-- Settles O31: every command of the PWM units keeps their frame, every command of the timers theirs. -/
theorem pwmAndTimerFrames : Obligations.PwmAndTimerFrames := by
  unfold Obligations.PwmAndTimerFrames
  refine ⟨fun s u t n k j b w v mask per cmp held code h => ⟨fun c hc he => ?pwm, fun he => ?trigger⟩,
    fun s u t n v mask y r h c hc he => ?timers⟩
  case pwm =>
    simp only [List.mem_cons, List.not_mem_nil, or_false] at hc
    rcases hc with rfl | rfl | rfl | rfl | rfl | rfl | rfl | rfl | rfl | rfl | rfl | rfl | rfl | rfl | rfl
    · exact next_of_pwmFrame h rfl he (doEbPeriodBoundary_frame ..)
    · exact next_of_pwmFrame h rfl he (doEbPerEvent_frame ..)
    · exact next_of_pwmFrame h rfl he (doEbPhaseEdge_frame ..)
    · exact next_of_pwmFrame h rfl he (doEbDeadTimeEnd_frame ..)
    · exact next_of_pwmFrame h rfl he (doTripAccept_frame ..)
    · exact next_of_pwmFrame h rfl he (doBlankingEnd_frame ..)
    · exact next_of_pwmFrame h rfl he (doEbEnable_frame ..)
    · exact next_of_pwmFrame h rfl he (doEbDisable_frame ..)
    · exact next_of_pwmFrame h rfl he (doEbLoadArm_frame ..)
    · exact next_of_pwmFrame h rfl he (doEbWrite_frame ..)
    · exact next_of_pwmFrame h rfl he (doEbTripClear_frame ..)
    · exact next_of_pwmFrame h rfl he (doPwmGlbLoad_frame ..)
    · exact next_of_pwmFrame h rfl he (doPwmGlbStart_frame ..)
    · exact next_of_pwmFrame h rfl he (doKcPeriodBoundary_frame ..)
    · exact next_of_pwmFrame h rfl he (doTripInputRelease_frame ..)
  case trigger =>
    rw [exec_alive _ s h rfl] at he
    injection he with e
    subst e
    have w := doKcTrigger_frame k j code (s := s.advance t) h.1
    rw [show effect (.kcTrigger t k j code) (s.advance (instant (.kcTrigger t k j code))) =
      doKcTrigger k j code (s.advance t) from rfl]
    generalize doKcTrigger k j code (s.advance t) = w' at w
    dsimp only at w
    rw [advance_alive t h] at w
    rw [w]
    rfl
  case timers =>
    simp only [List.mem_cons, List.not_mem_nil, or_false] at hc
    rcases hc with rfl | rfl | rfl | rfl | rfl | rfl
    · exact next_of_timFrame h rfl he (doTimerStart_frame ..)
    · exact next_of_timFrame h rfl he (doTimerStop_frame ..)
    · exact next_of_timFrame h rfl he (doTimerTargetWrite_frame ..)
    · exact next_of_timFrame h rfl he (doTimGlbStart_frame ..)
    · exact next_of_timFrame h rfl he (doTimerExpiry_frame ..)
    · exact next_of_timFrame h rfl he (doCaptureEdge_frame ..)

end Sys2Proof.Machine
end

section
/-! Supply judgements and supply states (02_connectors_supplies_ratings.md R42 to R54). -/

namespace Sys2Proof.Machine

/-! ## Chargers (R335) -/

theorem ktLimit_within (k : Nat) (s : State) : Within Move.ofKettle s (ktLimit k s) := by
  unfold ktLimit
  dsimp only
  split
  · exact .refl s
  · have limited : Within Move.ofKettle s (s.setKettle k { s.kettle k with chgW := chgLimit s k }) :=
      (Within.refl s).kettle trivial (.of_state ⟨rfl, rfl, rfl, rfl, rfl, rfl⟩)
    have stopped : Within Move.ofKettle s (if chgLimit s k = 0 then
        kcStop k (s.setKettle k { s.kettle k with chgW := chgLimit s k })
        else s.setKettle k { s.kettle k with chgW := chgLimit s k }) :=
      Within.ite (limited.trans ((Makes.kc k _).within trivial)) limited
    split
    · exact Within.kettle stopped trivial (.of_state ⟨rfl, rfl, rfl, rfl, rfl, rfl⟩)
    · exact stopped

theorem ktLimits_within (s : State) : Within Move.ofKettle s (ktLimits s) :=
  Within.forEach _ (fun i _ u => ktLimit_within i u) s

/-! ## What leaves the supplies alone -/

/-- What the drive and the fault collector do changes nothing of the supplies. -/
theorem Rest.supply {s u : State} (h : Rest s u) : u.supply = s.supply := by rw [h]

theorem supply_forEach {f : Nat → State → State} (hf : ∀ n s, (f n s).supply = s.supply) (l : List Nat) (s : State) :
    (forEach l f s).supply = s.supply := by
  unfold forEach
  induction l generalizing s with
  | nil => rfl
  | cons n l ih => exact (ih (f n s)).trans (hf n s)

/-- A source that is there on every order code. -/
theorem faultOnset_supply {n : Nat} (present : absentFault n = false) (s : State) : (faultOnset n s).supply = s.supply := by
  unfold faultOnset
  split
  · rfl
  · exact (Rest.supply (fault_rest (by rw [present, Bool.and_false])))

theorem vbakCheck_supply (s : State) : (vbakCheck s).supply = s.supply := by
  unfold vbakCheck
  split
  · exact faultOnset_supply rfl s
  · rfl

theorem supplyTo_supply (new : SupplyState) (steps us : Nat) (s : State) :
    (supplyTo new steps us s).supply = { s.supply with state := new, before := s.supply.state } := by
  simp [supplyTo, mirrorState, logSupply]

theorem supplyRun_supply (new : SupplyState) (steps us : Nat) (s : State) :
    (supplyRun new steps us s).supply = { s.supply with state := new, before := s.supply.state } := by
  unfold supplyRun
  rw [vbakCheck_supply, (ktLimits_within _).rest.supply, wake_frame]
  exact supplyTo_supply ..

theorem dropHoldings_supply (l : Link) (s : State) : (dropHoldings l s).supply = s.supply := by
  have staged : (match s.cfg.staging with
      | some (h, _) => if h = l then { s with cfg.staging := none } else s
      | none => s).supply = s.supply := by
    split
    · split <;> rfl
    · rfl
  unfold dropHoldings
  dsimp only
  split
  · split
    · exact staged
    · exact staged
  · exact staged

theorem closeSession_supply (l : Link) (s : State) : (closeSession l s).supply = s.supply := by
  unfold closeSession
  split
  · rfl
  · simp
  · rw [dropHoldings_supply]
    simp [logLink]

theorem closeAll_supply (s : State) : (closeAll s).supply = s.supply := by
  unfold closeAll
  simp only [closeSession_supply]

theorem flushHead_supply (s : State) : (flushHead s).supply = s.supply := by
  unfold flushHead
  split <;> rfl

theorem flushLoss_supply (s : State) : (flushLoss s).supply = s.supply := by
  unfold flushLoss
  split
  · rfl
  · simp [logPut]

theorem startFlush_supply (s : State) : (startFlush s).supply = s.supply := by
  unfold startFlush
  dsimp only
  split
  · rfl
  · show (if _ then _ else _ : State).supply = _
    split <;> exact (flushHead_supply _).trans (flushLoss_supply s)

theorem withdrawAll_within (reason : Nat) (s : State) : Within Move.any s (withdrawAll reason s) :=
  Within.forEach _ (fun i _ u => (dropEvent_within reason (withdrawDetail reason) i u).mono fun _ _ => trivial) s

/-- Steps 1 to 4 of R50 begin with what ends every profile, withdraws every event and stops every output. -/
theorem holdupOff_within (s : State) :
    Within Move.any s (stopTests (fun _ => true) (ebAllOff (ktLimits (endAll 7 (withdrawAll 9 s))))) := by
  have all {m : Move} (_ : True) : m.any := trivial
  refine (withdrawAll_within 9 s).trans (Within.trans ((endAll_within 7 _).mono fun _ _ => trivial) ?_)
  refine Within.trans ((ktLimits_within _).mono fun _ _ => trivial) (Within.trans ((ebAllOff_within _).mono ?_) ?_)
  · exact fun _ _ => trivial
  · exact (stopTests_within _ _).mono fun _ _ => trivial

theorem holdupSteps_supply (s : State) :
    (holdupSteps s).supply = { s.supply with sensorsOff := true, holdupSteps := 4 } := by
  unfold holdupSteps
  rw [startFlush_supply, closeAll_supply]
  show ({ (stopTests (fun _ => true) (ebAllOff (ktLimits (endAll 7 (withdrawAll 9 s))))).supply with
    sensorsOff := true, holdupSteps := 4 } : Supply) = _
  rw [(holdupOff_within s).rest.supply]

/-- In RUN the entry to HOLDUP takes its steps at once (R50). -/
theorem enterHoldup_supply {s : State} (run : s.sys.mode = .run) : (enterHoldup s).supply = { s.supply with
    state := .holdup, before := s.supply.state, holdupAt := (supplyTo .holdup 0 0 s).etc, holdupSteps := 4
    storeFull := none, sensorsOff := true } := by
  have mode : (supplyTo .holdup 0 0 s).sys.mode = .run := supplyTo_mode _ _ _ _ run
  have kept := supplyTo_supply .holdup 0 0 s
  unfold enterHoldup
  dsimp only
  generalize supplyTo .holdup 0 0 s = v at mode kept ⊢
  rw [mode]
  dsimp only
  rw [holdupSteps_supply, wake_frame]
  dsimp only
  rw [kept]

theorem enterDown_supply (s : State) : (enterDown s).supply = { s.supply with
    state := .down, before := s.supply.state, storeCharged := false, storeFull := none } := by
  have kettles (k : Nat) (u : State) : (ktUpdate k u).supply = u.supply := (ktUpdate_within k u).rest.supply
  unfold enterDown
  dsimp only
  rw [supply_forEach kettles, (stopTests_within _ _).rest.supply, (ktLimits_within _).rest.supply,
    supply_forEach (f := chanDown) (fun _ _ => rfl), (ebAllOff_within _).rest.supply]

/-- Where neither input is good, the state is HOLDUP or DOWN (R42, R54). -/
theorem bothLost_supply {s : State} (run : s.sys.mode = .run) : let u := (bothLost s).supply
    u.state = (if s.supply.storeCharged then .holdup else .down) ∧ u.before = s.supply.state ∧
      u.vmain = s.supply.vmain ∧ u.vbak = s.supply.vbak := by
  unfold bothLost
  dsimp only
  split
  · rw [enterHoldup_supply run]
    exact ⟨rfl, rfl, rfl, rfl⟩
  · rw [enterDown_supply]
    exact ⟨rfl, rfl, rfl, rfl⟩

theorem fromMain_inputs {s : State} (run : s.sys.mode = .run) :
    (fromMain s).supply.vmain = s.supply.vmain ∧ (fromMain s).supply.vbak = s.supply.vbak := by
  unfold fromMain
  split
  · rw [vbakCheck_supply]
    exact ⟨rfl, rfl⟩
  · split
    · obtain ⟨-, -, vmain, vbak⟩ := bothLost_supply run
      exact ⟨vmain, vbak⟩
    · split
      · exact ⟨rfl, rfl⟩
      · rw [supplyRun_supply]
        exact ⟨rfl, rfl⟩

theorem fromMain_lost {s : State} (vmain : s.supply.vmain.good = false) (vbak : s.supply.vbak.good = false) :
    fromMain s = bothLost s := by
  unfold fromMain
  rw [if_neg (by simp [vmain]), if_pos (by simp [vbak])]

theorem fromMain_backup {s : State} (vmain : s.supply.vmain.good = false) (vbak : s.supply.vbak.good = true)
    (stays : failing s.supply.vbak = false) : fromMain s = supplyRun .backup 0 0 s := by
  unfold fromMain
  rw [if_neg (by simp [vmain]), if_neg (by simp [vbak]), if_neg (by simp [stays])]

/-! ## Judgements (R42, R43, R44) -/

section
variable {s : State} (run : s.sys.mode = .run) (up : s.supply.state ≠ .down)
include run up

theorem reselect_inputs :
    (reselect s).supply.vmain = s.supply.vmain ∧ (reselect s).supply.vbak = s.supply.vbak := by
  unfold reselect
  split
  · exact fromMain_inputs run
  · split
    · exact ⟨rfl, rfl⟩
    · split
      · rw [supplyRun_supply]
        exact ⟨rfl, rfl⟩
      · obtain ⟨-, -, vmain, vbak⟩ := bothLost_supply run
        exact ⟨vmain, vbak⟩
  · exact ⟨rfl, rfl⟩
  · exact absurd (by assumption) up

theorem reselect_run : (reselect s).sys.mode = .run := by
  unfold reselect
  split
  · exact fromMain_mode _ run
  · split
    · exact run
    · split
      · exact supplyRun_mode _ _ _ _ run
      · exact bothLost_mode _ run
  · exact run
  · exact absurd (by assumption) up

end

theorem reselect_main {s : State} (main : s.supply.state = .main) : reselect s = fromMain s := by
  unfold reselect
  rw [main]

theorem overvoltCheck_supply (i : SupplyInput) (before : Bool) (s : State) :
    (overvoltCheck i before s).supply = s.supply := by
  unfold overvoltCheck
  split
  · rfl
  · split
    · have onset := faultOnset_supply (n := 4) rfl (raise 5 s)
      simp [logSupply, onset]
    · split <;> rfl

theorem vbakJudged_supply (s : State) : (vbakJudged s).supply = s.supply := by
  unfold vbakJudged
  split
  · rfl
  · exact vbakCheck_supply s

theorem judged_fields (th : Threshold) (now : Tick) (x : SupplyIn) : (judged th now x).crossing = none ∧
    (judged th now x).good = decide (th = .uvRising ∨ th = .ovFalling) ∧
    (judged th now x).overvolt = decide (th = .ovRising) := by
  cases th <;> exact ⟨rfl, rfl, rfl⟩

theorem failing_judged (th : Threshold) (now : Tick) (x : SupplyIn) : failing (judged th now x) = false := by
  cases th <;> rfl

/-- What a judgement acts on: the inputs judged, the overvoltage and VBAK faults following (R43). -/
def judgedState (i : SupplyInput) (th : Threshold) (s : State) : State :=
  vbakJudged (overvoltCheck i (s.input i).overvolt (s.setInput i (judged th s.now (s.input i))))

theorem judgedState_supply (i : SupplyInput) (th : Threshold) (s : State) :
    (judgedState i th s).supply = (s.setInput i (judged th s.now (s.input i))).supply :=
  (vbakJudged_supply _).trans (overvoltCheck_supply ..)

theorem setInput_mode (i : SupplyInput) (x : SupplyIn) (s : State) : (s.setInput i x).sys.mode = s.sys.mode := by
  cases i <;> rfl

theorem judgedState_mode (i : SupplyInput) (th : Threshold) {s : State} (run : s.sys.mode = .run) :
    (judgedState i th s).sys.mode = .run :=
  vbakJudged_mode _ (overvoltCheck_mode _ _ _ ((setInput_mode ..).trans run))

theorem doSupplyJudgement_held {i : SupplyInput} {s : State} {t0 : Tick} {th : Threshold}
    (cross : (s.input i).crossing = some (t0, th)) (held : t0 + 200 * ticksPerNs ≤ s.now) :
    doSupplyJudgement i s = reselect (judgedState i th s) := by
  unfold doSupplyJudgement
  dsimp only
  rw [cross]
  exact if_neg (Nat.not_lt.mpr held)

theorem input_setInput (s : State) (i : SupplyInput) (x : SupplyIn) : (s.setInput i x).input i = x := by
  cases i <;> rfl

theorem input_setInput_other (s : State) {i j : SupplyInput} (x : SupplyIn) (h : j ≠ i) :
    (s.setInput i x).input j = s.input j := by
  cases i <;> cases j <;> simp [State.setInput, State.input] at h ⊢

theorem setInput_state (s : State) (i : SupplyInput) (x : SupplyIn) :
    (s.setInput i x).supply.state = s.supply.state := by
  cases i <;> rfl

/-- The inputs of a state are those of its supplies. -/
theorem input_of_supply {s u : State} (vmain : u.supply.vmain = s.supply.vmain) (vbak : u.supply.vbak = s.supply.vbak)
    (i : SupplyInput) : u.input i = s.input i := by
  cases i
  · exact vmain
  · exact vbak

/-- The answer of a command that may leave RUN, where its effect does not. -/
theorem yields_stays {k : Instr} {s v : State} {p : State → Prop} (h : Alive s) (hp : undefinedPulse s k = false)
    (row : effect k (s.advance (instant k)) = v) (run : v.sys.mode = .run) (hv : p (settle v)) : Yields k s p := by
  subst row
  exact ⟨_, exec_run k s h hp run, hv⟩

/-! ## Back from HOLDUP, and into DOWN (R51, R52, R54) -/

theorem leaveHoldup_supply (new : SupplyState) {s : State} (run : s.sys.mode = .run) :
    (leaveHoldup new s).supply = { s.supply with
      state := new, before := s.supply.state, sensorsOff := false, holdupSteps := 0 } := by
  unfold leaveHoldup
  dsimp only
  rw [supplyRun_supply]
  unfold asleep
  rw [run]
  rfl

theorem goodMs_true {s : State} {x : SupplyIn} (good : x.good = true) (since : x.goodSince + ticksPerMs ≤ s.now) :
    goodMs s x = true := by
  unfold goodMs
  rw [good, decide_eq_true since]
  rfl

theorem chanDown_other {j k : Nat} (h : j ≠ k) (s : State) : (chanDown k s).chan j = s.chan j :=
  Table.get_set_other _ _ _ h

theorem chanDown_phase (k : Nat) (s : State) : ((chanDown k s).chan k).phase = .idle := by
  unfold chanDown
  rw [State.chan_setChan]

theorem get_unlisted {α : Type} {d : α} {m : Table α} {i : Nat} (h : i ∉ m.map (·.1)) : m.get d i = d := by
  induction m with
  | nil => rfl
  | cons e r ih =>
    obtain ⟨k, v⟩ := e
    obtain ⟨hk, hr⟩ := not_or.mp (List.mem_cons.not.mp h)
    unfold Table.get
    rw [if_neg (fun e => hk e.symm)]
    exact ih hr

/-- Every channel is idle once those that are listed are (R46, R52). -/
theorem forEach_chanDown {s : State} (k : Nat) :
    ((forEach (s.act.ch.map (·.1)) chanDown s).chan k).phase = .idle := by
  by_cases hk : k ∈ s.act.ch.map (·.1)
  · refine forEach_all (I := fun _ => True) (Q := fun k u => (u.chan k).phase = .idle) _ (fun _ _ _ h => h)
      (fun k _ u _ => chanDown_phase k u) (fun k j u _ hu => ?_) trivial k hk
    by_cases e : k = j
    · rw [e]
      exact chanDown_phase j u
    · rw [chanDown_other e]
      exact hu
  · rw [forEach_outside State.chan (f := chanDown) (fun _ _ u h => chanDown_other h u) hk]
    exact congrArg Chan.phase (get_unlisted hk)

theorem ktEnter_chgW (j k : Nat) (st : KtState) (s : State) : ((ktEnter k st s).kettle j).chgW = (s.kettle j).chgW := by
  by_cases e : j = k
  · subst e
    unfold ktEnter
    dsimp only
    split
    · rw [State.kettle_setKettle]
    · rw [(raise_pieces ..).2.2.1]
      split
      all_goals simp only [kcStop_kettle, State.kettle_setKettle]
  · rw [ktEnter_kettle_other e]

theorem ktLimit_chgW (k : Nat) (s : State) : ((ktLimit k s).kettle k).chgW = chgLimit s k := by
  unfold ktLimit
  dsimp only
  split
  case isTrue same => exact same.symm
  case isFalse =>
    have stopped : ((if chgLimit s k = 0 then kcStop k (s.setKettle k { s.kettle k with chgW := chgLimit s k })
        else s.setKettle k { s.kettle k with chgW := chgLimit s k }).kettle k).chgW = chgLimit s k := by
      split
      · rw [kcStop_kettle, State.kettle_setKettle]
      · rw [State.kettle_setKettle]
    split
    · rw [State.kettle_setKettle]
      exact stopped
    · exact stopped

theorem ktLimit_other {j k : Nat} (h : j ≠ k) (s : State) : (ktLimit k s).kettle j = s.kettle j := by
  unfold ktLimit
  dsimp only
  split
  · rfl
  · have stopped : ((if chgLimit s k = 0 then kcStop k (s.setKettle k { s.kettle k with chgW := chgLimit s k })
        else s.setKettle k { s.kettle k with chgW := chgLimit s k }).kettle j) = s.kettle j := by
      split
      · rw [kcStop_kettle, State.kettle_setKettle_other _ _ h]
      · rw [State.kettle_setKettle_other _ _ h]
    split
    · rw [State.kettle_setKettle_other _ _ h]
      exact stopped
    · exact stopped

/-- In DOWN and HOLDUP every charger is off (R335). -/
theorem ktLimits_off {s : State} (off : s.supply.state = .holdup ∨ s.supply.state = .down) {k : Nat} (hk : k < s.kettles) :
    ((ktLimits s).kettle k).chgW = 0 := by
  have here (j : Nat) (u : State) (hu : u.supply = s.supply) : ((ktLimit j u).kettle j).chgW = 0 := by
    rw [ktLimit_chgW]
    unfold chgLimit
    rw [hu]
    exact if_pos (off.elim (fun h => .inl h) (fun h => .inr (.inl h)))
  refine forEach_all (I := fun u => u.supply = s.supply) (Q := fun k u => (u.kettle k).chgW = 0) (List.range s.kettles)
    (fun j _ u hu => ((ktLimit_within j u).rest.supply).trans hu) (fun k _ u hu => here k u hu)
    (fun k j u hu h => ?_) (s := s) (by rfl) k (List.mem_range.mpr hk)
  by_cases e : k = j
  · rw [e]
    exact here j u hu
  · rw [ktLimit_other e]
    exact h

/-- In DOWN every Kettle bleeds, and keeps its charger's limit (R334). -/
theorem forEach_ktUpdate_down {s : State} (down : s.supply.state = .down) (n : Nat) : ∀ k, k < n →
    ((forEach (List.range n) ktUpdate s).kettle k).state = .bleed ∧
      ((forEach (List.range n) ktUpdate s).kettle k).chgW = (s.kettle k).chgW := by
  have bleeds (k : Nat) {v : State} (hv : v.supply.state = .down) : ((ktUpdate k v).kettle k).state = .bleed := by
    unfold ktUpdate
    rw [ktEnter_kettle]
    unfold ktNext
    rw [hv]
    simp
  intro k hk
  refine forEach_all (I := fun v => v.supply.state = .down ∧ ∀ j, (v.kettle j).chgW = (s.kettle j).chgW)
    (Q := fun k v => (v.kettle k).state = .bleed ∧ (v.kettle k).chgW = (s.kettle k).chgW) (List.range n)
    (fun j _ v hv => ⟨?_, fun i => (ktEnter_chgW ..).trans (hv.2 i)⟩)
    (fun k _ v hv => ⟨bleeds k hv.1, (ktEnter_chgW ..).trans (hv.2 k)⟩) (fun k j v hv h => ⟨?_, ?_⟩)
    (s := s) ⟨down, fun _ => rfl⟩ k (List.mem_range.mpr hk)
  · exact (congrArg Supply.state (ktUpdate_within j v).rest.supply).trans hv.1
  · by_cases e : k = j
    · rw [e]
      exact bleeds j hv.1
    · exact (congrArg Kettle.state (ktEnter_kettle_other e _ v)).trans h.1
  · exact (ktEnter_chgW ..).trans h.2

theorem forEach_chanDown_frame (l : List Nat) (s : State) :
    forEach l chanDown s = { s with act := { s.act with ch := (forEach l chanDown s).act.ch } } := by
  unfold forEach
  induction l generalizing s with
  | nil => rfl
  | cons k l ih => exact (ih (chanDown k s)).trans rfl

/-- The kinds of write that stop the chargers and the off-state tests. -/
def Move.ofStop : Move → Prop
  | .dch _ => True
  | m => m.ofKettle

theorem stopTests_kettle (p : Nat → Bool) (s : State) (k : Nat) : (stopTests p s).kettle k = s.kettle k :=
  (stopTests_within p s).kettle_eq (fun ⟨_, h⟩ => nomatch h)

/-- What the end of the entry to DOWN does (R46, R52): the chargers stop, off-state tests stop, the Kettles bleed. -/
theorem bleedAll_leaves {w : State} (down : w.supply.state = .down) :
    let u := forEach (List.range w.kettles) ktUpdate (stopTests (fun _ => true) (ktLimits w))
    Within Move.ofStop w u ∧ ∀ k, k < w.kettles → (u.kettle k).state = .bleed ∧ (u.kettle k).chgW = 0 := by
  have toStop (m : Move) (h : m.ofKettle) : m.ofStop := by
    cases m with
    | dch => trivial
    | _ => exact h
  have limits := ktLimits_within w
  have stops := stopTests_within (fun _ => true) (ktLimits w)
  have down' : (stopTests (fun _ => true) (ktLimits w)).supply.state = .down := by
    rw [stops.rest.supply, limits.rest.supply]
    exact down
  refine ⟨(limits.mono toStop).trans ((stops.mono ?_).trans
    (Within.forEach _ (fun i _ u => (ktUpdate_within i u).mono toStop) _)), fun k hk => ?_⟩
  · rintro m ⟨k, rfl⟩
    exact trivial
  · obtain ⟨bleeds, chgW⟩ := forEach_ktUpdate_down down' w.kettles k hk
    refine ⟨bleeds, chgW.trans ?_⟩
    rw [stopTests_kettle]
    exact ktLimits_off (.inr down) hk

/-- What the entry to DOWN leaves (R46, R52): every gate is off, no profile runs, every Kettle bleeds uncharged. -/
theorem enterDown_leaves (s : State) : let u := enterDown s
    (∀ n, n < 8 → (u.ebU n).en = false ∧ (u.ebU n).hg = false ∧ (u.ebU n).lg = false) ∧
      (∀ k, k < 64 → running u k = false) ∧
      ∀ k, k < s.kettles → (u.kettle k).state = .bleed ∧ (u.kettle k).chgW = 0 := by
  unfold enterDown
  dsimp only
  generalize hv : ({ s with supply := { s.supply with
    state := .down, before := s.supply.state, storeCharged := false, storeFull := none } } : State) = v
  have kettles : s.kettles = v.kettles := by rw [← hv]; rfl
  have down : v.supply.state = .down := by rw [← hv]
  have act : v.act = s.act := by rw [← hv]
  have off := ebAllOff_within v
  have gates (n : Nat) (hn : n < 8) := ebAllOff_off v hn
  have chans : (ebAllOff v).act.ch = v.act.ch := off.same (f := fun u => u.act.ch) fun m x y ha hm => by
    obtain ⟨n, rfl⟩ := ha
    cases hm
    rfl
  have idle := fun k => forEach_chanDown (s := ebAllOff v) k
  have frame := forEach_chanDown_frame (s.act.ch.map (·.1)) (ebAllOff v)
  rw [chans, act] at idle
  generalize forEach (s.act.ch.map (·.1)) chanDown (ebAllOff v) = w at idle frame ⊢
  have down' : w.supply.state = .down := by
    rw [frame]
    exact (congrArg Supply.state off.rest.supply).trans down
  have sys : w.sys = (ebAllOff v).sys := by rw [frame]
  have kettles' : s.kettles = w.kettles := by
    rw [kettles, ← off.rest.kettles]
    unfold State.kettles
    rw [sys]
  have pwm : w.pwm = (ebAllOff v).pwm := by rw [frame]
  have ebs (n : Nat) : w.ebU n = (ebAllOff v).ebU n := by
    unfold State.ebU
    rw [pwm]
  obtain ⟨stops, bleeds⟩ := bleedAll_leaves down'
  refine ⟨fun n hn => ?_, fun k _ => ?_, fun k hk => bleeds k (kettles' ▸ hk)⟩
  · rw [stops.eb_eq (k := n) (fun h => h), ebs]
    exact gates n hn
  · rw [running_of_chan (stops.chan_eq (k := k) (fun h => h))]
    rw [Bool.eq_false_iff]
    intro h
    rcases running_iff.mp h with h | h | h <;> rw [idle k] at h <;> cases h

/-- An input as a crossing leaves it (R43). -/
def SupplyIn.crossed (x : SupplyIn) (now : Tick) (th : Threshold) (up : Bool) (mv : Nat) : SupplyIn :=
  { x with crossing := if decides th up then some (now, th) else none, millivolt := mv }

theorem decides_iff (th : Threshold) (up : Bool) :
    decides th up = true ↔ ((th = .uvRising ∨ th = .ovRising) ↔ up = true) := by
  cases th <;> cases up <;> simp [decides]

section
variable {s : State} {j : SupplyInput} {th : Threshold} {up : Bool} {mv : Nat}

/-- The state a crossing leaves before the end of a switch-over gap (R43). -/
def crossed (j : SupplyInput) (th : Threshold) (up : Bool) (mv : Nat) (s : State) : State :=
  s.setInput j ((s.input j).crossed s.now th up mv)

theorem doSupplyThresholdCrossing_eq : doSupplyThresholdCrossing j th up mv s =
    if (crossed j th up mv s).supply.state = .main ∧ (crossed j th up mv s).supply.vmain.good = false ∧
      failing s.supply.vbak = true ∧ failing (crossed j th up mv s).supply.vbak = false
    then fromMain (crossed j th up mv s) else crossed j th up mv s := rfl

theorem doSupplyThresholdCrossing_inputs (run : s.sys.mode = .run) (i : SupplyInput) :
    (doSupplyThresholdCrossing j th up mv s).input i = (crossed j th up mv s).input i := by
  rw [doSupplyThresholdCrossing_eq]
  split
  · obtain ⟨vmain, vbak⟩ := fromMain_inputs (s := crossed j th up mv s) ((setInput_mode ..).trans run)
    exact input_of_supply vmain vbak i
  · rfl

/-- A crossing back of VBAK ends a switch-over gap that waited for it (R43, R48). -/
theorem doSupplyThresholdCrossing_gap (main : s.supply.state = .main) (lost : s.supply.vmain.good = false)
    (waited : failing s.supply.vbak = true) (past : failing ((s.supply.vbak).crossed s.now th up mv) = false) :
    (doSupplyThresholdCrossing .vbak th up mv s).supply.state = .backup := by
  have good : s.supply.vbak.good = true := by
    unfold failing at waited
    split at waited
    · exact waited
    · exact waited
    · cases waited
  rw [doSupplyThresholdCrossing_eq, if_pos ⟨main, lost, waited, past⟩, fromMain_backup (s := crossed .vbak th up mv s) lost good past,
    supplyRun_supply]

/-- Elsewhere a crossing does not move the supply state (R42). -/
theorem doSupplyThresholdCrossing_stays
    (h : s.supply.state ≠ .main ∨ s.supply.vmain.good = true ∨ failing s.supply.vbak = false ∨ j = .vmain) :
    (doSupplyThresholdCrossing j th up mv s).supply.state = s.supply.state := by
  rw [doSupplyThresholdCrossing_eq]
  rw [if_neg]
  · exact setInput_state ..
  rintro ⟨main, lost, waited, past⟩
  rw [crossed, setInput_state] at main
  rcases h with h | h | h | rfl
  · exact h main
  · cases j with
    | vmain => exact Bool.eq_false_iff.mp lost h
    | vbak => exact Bool.eq_false_iff.mp lost h
  · exact Bool.eq_false_iff.mp h waited
  · exact Bool.eq_false_iff.mp past waited

end

/-- Settles O32: the row of each event of the supplies, by what it does to the supply state. -/
theorem supplyStates : Obligations.SupplyStates := by
  unfold Obligations.SupplyStates
  intro s t h x
  have now : (s.advance t).now = x := advance_now t s
  have run : (s.advance t).sys.mode = .run := h.1
  refine ⟨fun j th up mv => ?crossing, fun j t0 th cross held => ?judgement, fun backup good since => ?debounce,
    fun holdup good since => ?recoverMain, fun holdup lost good since => ?recoverBackup, fun holdup => ?exhausted,
    ?charged⟩
  case crossing =>
    have row : effect (.supplyThresholdCrossing t j th up mv) (s.advance (instant (.supplyThresholdCrossing t j th up mv))) =
        doSupplyThresholdCrossing j th up mv (s.advance t) := rfl
    have inputs := doSupplyThresholdCrossing_inputs (j := j) (th := th) (up := up) (mv := mv) run
    have stays := doSupplyThresholdCrossing_stays (s := s.advance t) (j := j) (th := th) (up := up) (mv := mv)
    have gap := doSupplyThresholdCrossing_gap (s := s.advance t) (th := th) (up := up) (mv := mv)
    have vbak := inputs .vbak
    refine effect_of_advance row h rfl ⟨?_, fun k hk => ?_, ?_, stays⟩
    · refine (inputs j).trans ((input_setInput ..).trans ?_)
      unfold SupplyIn.crossed
      rw [now, if_congr (decides_iff th up) rfl rfl]
      cases j <;> rfl
    · exact (inputs k).trans (input_setInput_other _ _ hk)
    · rintro main lost waited rfl past
      exact gap main lost waited ((congrArg failing vbak).symm.trans past)
  case judgement =>
    have cross' : ((s.advance t).input j).crossing = some (t0, th) := by cases j <;> exact cross
    have row : effect (.supplyJudgement t j) (s.advance (instant (.supplyJudgement t j))) =
        reselect (judgedState j th (s.advance t)) := doSupplyJudgement_held cross' (now.symm ▸ held)
    have supply := judgedState_supply j th (s.advance t)
    have mode := judgedState_mode j th run
    generalize judgedState j th (s.advance t) = w at row supply mode
    have state : w.supply.state = s.supply.state := by rw [supply, setInput_state]; rfl
    have up : w.supply.state ≠ .down := by rw [state]; exact h.2.1
    have same (i : SupplyInput) : (reselect w).input i =
        ((s.advance t).setInput j (judged th (s.advance t).now ((s.advance t).input j))).input i := by
      obtain ⟨vmain, vbak⟩ := reselect_inputs mode up
      exact (input_of_supply vmain vbak i).trans (input_of_supply (by rw [supply]) (by rw [supply]) i)
    obtain ⟨crossing, good, overvolt⟩ := judged_fields th (s.advance t).now ((s.advance t).input j)
    have here := (same j).trans (input_setInput ..)
    refine yields_stays h rfl row (reselect_run mode up) ⟨?_, ?_, ?_, fun k hk => ?_, ?_, ?_⟩
    · exact (congrArg SupplyIn.crossing here).trans crossing
    · exact (congrArg SupplyIn.good here).trans good
    · exact (congrArg SupplyIn.overvolt here).trans overvolt
    · refine (same k).trans ((input_setInput_other _ _ hk).trans ?_)
      cases k <;> rfl
    · rintro main rfl rfl stays
      have vmain : w.supply.vmain.good = false := by rw [supply]; rfl
      have vbak : w.supply.vbak = s.supply.vbak := by rw [supply]; rfl
      show (reselect w).supply.state = _
      rw [reselect_main (state.trans main)]
      cases good : s.supply.vbak.good with
      | true =>
        rw [fromMain_backup vmain (by rw [vbak]; exact good) (by rw [vbak]; exact stays), supplyRun_supply]
        rfl
      | false =>
        rw [fromMain_lost vmain (by rw [vbak]; exact good)]
        obtain ⟨to_, -⟩ := bothLost_supply mode
        refine to_.trans ?_
        rw [supply]
        rfl
    · rintro main lost rfl rfl
      have vmain : w.supply.vmain.good = false := by rw [supply]; exact lost
      have vbak : w.supply.vbak.good = false := by rw [supply]; rfl
      show (reselect w).supply.before = _ ∧ (reselect w).supply.state = _
      rw [reselect_main (state.trans main), fromMain_lost vmain vbak]
      obtain ⟨to_, before, -⟩ := bothLost_supply mode
      refine ⟨before.trans (state.trans main), to_.trans ?_⟩
      rw [supply]
      rfl
  case debounce =>
    have row : effect (.supplyDebounceExpiry t) (s.advance (instant (.supplyDebounceExpiry t))) =
        supplyRun .main 0 0 (s.advance t) := if_pos ⟨backup, good, now.symm ▸ since⟩
    refine effect_of_advance row h rfl ?_
    have supply := supplyRun_supply .main 0 0 (s.advance t)
    generalize supplyRun .main 0 0 (s.advance t) = w at supply
    exact ⟨congrArg Supply.state supply, (congrArg Supply.before supply).trans backup⟩
  case recoverMain =>
    have row : effect (.holdupRecoveryExpiry t) (s.advance (instant (.holdupRecoveryExpiry t))) =
        leaveHoldup .main (s.advance t) := by
      show doHoldupRecoveryExpiry (s.advance t) = _
      unfold doHoldupRecoveryExpiry
      rw [show (s.advance t).supply.state = .holdup from holdup]
      exact if_pos (goodMs_true good (now.symm ▸ since))
    refine effect_of_advance row h rfl ?_
    have supply := leaveHoldup_supply .main run
    generalize leaveHoldup .main (s.advance t) = w at supply
    exact ⟨congrArg Supply.state supply, congrArg Supply.sensorsOff supply, congrArg Supply.holdupSteps supply⟩
  case recoverBackup =>
    have row : effect (.holdupRecoveryExpiry t) (s.advance (instant (.holdupRecoveryExpiry t))) =
        leaveHoldup .backup (s.advance t) := by
      show doHoldupRecoveryExpiry (s.advance t) = _
      unfold doHoldupRecoveryExpiry
      rw [show (s.advance t).supply.state = .holdup from holdup]
      have no : goodMs (s.advance t) (s.advance t).supply.vmain = false := by
        unfold goodMs
        rw [show (s.advance t).supply.vmain.good = false from lost]
        rfl
      dsimp only
      rw [if_neg (by rw [no]; decide)]
      exact if_pos (goodMs_true good (now.symm ▸ since))
    refine effect_of_advance row h rfl ?_
    have supply := leaveHoldup_supply .backup run
    generalize leaveHoldup .backup (s.advance t) = w at supply
    exact ⟨congrArg Supply.state supply, congrArg Supply.sensorsOff supply, congrArg Supply.holdupSteps supply⟩
  case exhausted =>
    have row : effect (.holdupStoreExhausted t) (s.advance (instant (.holdupStoreExhausted t))) =
        enterDown { s.advance t with supply := { s.supply with storeMv := 12000 } } := by
      show doHoldupStoreExhausted (s.advance t) = _
      unfold doHoldupStoreExhausted
      rw [show (s.advance t).supply.state = .holdup from holdup]
      rfl
    refine effect_of_advance row h rfl ?_
    have supply := enterDown_supply { s.advance t with supply := { s.supply with storeMv := 12000 } }
    obtain ⟨gates, idle, bleeds⟩ := enterDown_leaves { s.advance t with supply := { s.supply with storeMv := 12000 } }
    generalize enterDown { s.advance t with supply := { s.supply with storeMv := 12000 } } = w at supply gates idle bleeds
    exact ⟨congrArg Supply.state supply, gates, idle, bleeds⟩
  case charged =>
    have row : effect (.holdupStoreCharged t) (s.advance (instant (.holdupStoreCharged t))) =
        { s.advance t with supply := { s.supply with
          storeCharged := true, storeMv := 36000
          storeFull := some ((s.advance t).now + ((s.advance t).now - s.supply.storeFrom) / 9) } } := by
      show doHoldupStoreCharged (s.advance t) = _
      unfold doHoldupStoreCharged
      split
      case h_1 down => exact absurd down h.2.1
      case h_2 => rfl
    exact effect_of_advance row h rfl rfl

end Sys2Proof.Machine
end

section
/-! ENABLE, measured temperatures, sensor supplies and the reference (01_event_road.md R33;
02_connectors_supplies_ratings.md R57 to R73). -/

namespace Sys2Proof.Machine

/-! ## Lasting conditions (R412) -/

section
variable {n : Nat} {s v : State}

/-- The onset of a condition that does not last yet is an occurrence of its source (R412). -/
theorem faultOnset_occurred (present : absentFault n = false) (hn : n < 96) (fresh : v.flt.cond.getLsbD n = false)
    (total : v.flt.total = s.flt.total) : Occurred s (faultOnset n v) n := by
  obtain ⟨sticky, last, count⟩ := fault_occurred (s := { v with flt.cond := v.flt.cond ||| BitVec.twoPow 96 n })
    (by rw [present, Bool.and_false]) hn
  unfold faultOnset
  rw [if_neg (by simp [fresh])]
  exact ⟨sticky, last, count.trans (congrArg (wrapInc 32) total)⟩

theorem faultOnset_rest (present : absentFault n = false) : Rest v (faultOnset n v) := by
  unfold faultOnset
  split
  · rfl
  · exact Rest.trans (by rfl) (fault_rest (by rw [present, Bool.and_false]))

theorem faultEnd_cond : (faultEnd n v).flt.cond.getLsbD n = false := by
  unfold faultEnd
  simp [BitVec.getLsbD_twoPow]

end

/-! ## ENABLE (R69) -/

/-- ENABLE goes off: every profile ends, every committed event is withdrawn, every gate goes off (R69). -/
def enableOff (s : State) : State := wake 12 (ktLimits (ebAllOff (endAll 8 (withdrawAll 10 s))))

theorem doEnableChange_off {s : State} (on : s.supply.enable = true) (up : s.supply.state ≠ .down) :
    doEnableChange false s = enableOff (raise 2 { s with supply.enable := false }) := by
  unfold doEnableChange enableOff
  rw [on, if_neg (by decide)]
  exact (if_neg up).trans rfl

theorem doEnableChange_on {s : State} (off : s.supply.enable = false) (up : s.supply.state ≠ .down) :
    doEnableChange true s = wake 12 (ktLimits (raise 2 { s with supply.enable := true })) := by
  unfold doEnableChange
  rw [off, if_neg (by decide)]
  exact (if_neg up).trans rfl

theorem enableOff_within (s : State) : Within Move.any s (enableOff s) := by
  have any (m : Move) : m.any := trivial
  refine (withdrawAll_within 10 s).trans (Within.trans ((endAll_within 8 _).mono fun _ _ => any _) ?_)
  refine Within.trans ((ebAllOff_within _).mono fun _ _ => any _) (Within.trans ((ktLimits_within _).mono fun _ _ => any _) ?_)
  exact (Makes.wake 12 _).within (any _)

theorem enableOff_leaves (s : State) : let u := enableOff s
    (∀ k, k < 64 → Ended s 8 k u) ∧
      ∀ n, n < 8 → (u.ebU n).en = false ∧ (u.ebU n).hg = false ∧ (u.ebU n).lg = false := by
  have withdrawn : Within (fun m => ∃ i, m.ofDrop i) s (withdrawAll 10 s) :=
    Within.forEach _ (fun i _ u => (dropEvent_within 10 (withdrawDetail 10) i u).mono fun _ h => ⟨i, h⟩) s
  have chans (k : Nat) : (withdrawAll 10 s).chan k = s.chan k := withdrawn.chan_eq fun ⟨_, h⟩ => h
  have ended (k : Nat) (hk : k < 64) := endAll_ended 8 (withdrawAll 10 s) hk
  unfold enableOff
  dsimp only
  generalize withdrawAll 10 s = a at chans ended ⊢
  generalize endAll 8 a = b at ended ⊢
  have gates (n : Nat) (hn : n < 8) := ebAllOff_off b hn
  have off := ebAllOff_within b
  generalize ebAllOff b = c at gates off ⊢
  have limits : Within (fun m => m.ofKettle ∨ m = .wake) c (wake 12 (ktLimits c)) :=
    ((ktLimits_within c).mono fun _ h => .inl h).trans ((Makes.wake 12 _).within (.inr (by rfl)))
  refine ⟨fun k hk => ?_, fun n hn => ?_⟩
  · have same : (wake 12 (ktLimits c)).chan k = b.chan k :=
      (limits.chan_eq (fun h => h.elim (fun h => h) (fun h => nomatch h))).trans
        (off.chan_eq (fun ⟨_, h⟩ => nomatch h))
    have := (ended k hk).of_chan same
    unfold Ended at this ⊢
    rw [running_of_chan (chans k)] at this
    exact this
  · rw [limits.eb_eq (fun h => h.elim (fun h => h) (fun h => nomatch h))]
    exact gates n hn

/-- Chargers and wakes leave channels and events alone. -/
theorem ktLimits_wake_keeps (b : Nat) (s : State) :
    (wake b (ktLimits s)).act.ch = s.act.ch ∧ (wake b (ktLimits s)).evs = s.evs ∧
      (wake b (ktLimits s)).supply = s.supply := by
  have w := ktLimits_within s
  rw [wake_frame]
  have same : (ktLimits s).act.ch = s.act.ch ∧ (ktLimits s).evs = s.evs := by
    constructor
    · refine w.same (f := fun u => u.act.ch) fun m x y ha hm => ?_
      cases hm with
      | raise n => rw [raise_frame]
      | kettle => rfl
      | kc => rfl
      | _ => exact ha.elim
    · refine w.same (f := fun u => u.evs) fun m x y ha hm => ?_
      cases hm with
      | raise n => rw [raise_frame]
      | kettle => rfl
      | kc => rfl
      | _ => exact ha.elim
  exact ⟨same.1, same.2, w.rest.supply⟩

/-! ## Temperatures (R72, R73) -/

theorem mem_of_get {α : Type} {d : α} {m : Table α} {i : Nat} (h : m.get d i ≠ d) : (i, m.get d i) ∈ m := by
  induction m with
  | nil => exact absurd rfl h
  | cons e r ih =>
    obtain ⟨k, v⟩ := e
    unfold Table.get at h ⊢
    split at h
    next same => rw [if_pos same, same]; exact List.mem_cons_self
    next other => rw [if_neg other]; exact List.mem_cons_of_mem _ (ih h)

/-- The state in which a new level of a domain is judged (R73). -/
def heated (i new : Nat) (s : State) : State :=
  ktLimits (raiseIf ((decide (s.supply.heat.get 0 i < new) && decide (s.supply.heat.get 0 i < 2)) ||
    (decide (2 ≤ s.supply.heat.get 0 i) && decide (new < 2))) 4 { s with supply.heat := s.supply.heat.set 0 i new })

theorem heated_keeps (i new : Nat) (s : State) : (heated i new s).flt = s.flt ∧
    (heated i new s).supply.heat = s.supply.heat.set 0 i new := by
  unfold heated
  rw [(ktLimits_within _).flt_eq (fun h => h), (ktLimits_within _).rest.supply, raiseIf_frame]
  exact ⟨rfl, rfl⟩

theorem doThermalThreshold_new {d : ThermalDomain} {c : Int} {s : State} (present : domainIdx d < 8 + s.kettles)
    (bank : domainIdx d < 8 → domainIdx d < s.banks) (new : heatLevel c ≠ s.supply.heat.get 0 (domainIdx d)) :
    doThermalThreshold d c s = thermalFault (heated (domainIdx d) (heatLevel c) s) := by
  unfold doThermalThreshold
  dsimp only
  refine if_neg ?_
  rintro (⟨low, absent⟩ | absent | same)
  · exact Nat.not_lt.mpr absent (bank low)
  · exact Nat.not_lt.mpr absent present
  · exact new same

theorem thermalFault_supply (s : State) : (thermalFault s).supply = s.supply := by
  unfold thermalFault
  split
  · exact faultOnset_supply rfl s
  · rfl

/-- Level 3 anywhere is a thermal fault (R73). -/
theorem thermalFault_onset {s : State} {i : Nat} (hot : s.supply.heat.get 0 i = 3) : thermalFault s = faultOnset 5 s := by
  have mem := mem_of_get (m := s.supply.heat) (d := 0) (i := i) (by rw [hot]; decide)
  rw [hot] at mem
  unfold thermalFault
  exact if_pos (List.any_eq_true.mpr ⟨_, mem, rfl⟩)

theorem heatLevel_hot {c : Int} (h : 165 ≤ c) : heatLevel c = 3 := if_pos h

/-! ## Sensor supplies (R57, R63) -/

theorem railBad_of_rest {s u : State} (h : Rest s u) (r : SensorRail) : railBad u r = railBad s r := by
  unfold Rest at h
  rw [h]
  cases r <;> rfl

theorem railBad_railShow (v : Bool) (r : SensorRail) (s : State) : railBad (railShow v r s) r = v := by
  cases r with
  | vsw n =>
    show ((s.setWheel n.val _).wheel n.val).vswFault = v
    rw [State.wheel_setWheel]
  | va5 => rfl

theorem railShow_flt (v : Bool) (r : SensorRail) (s : State) : (railShow v r s).flt = s.flt := by
  cases r <;> rfl

theorem railFault_present (r : SensorRail) : absentFault (railFault r) = false ∧ railFault r < 96 := by
  cases r with
  | va5 => exact ⟨rfl, by decide⟩
  | vsw n =>
    have := n.isLt
    refine ⟨?_, ?_⟩
    · unfold absentFault railFault
      simp
      omega
    · show 8 + n.val < 96
      omega

/-! ## O33 -/

/-- Settles O33: the row of each event, by what it writes and the fault it raises or ends. -/
theorem enableThermalAndReference : Obligations.EnableThermalAndReference := by
  unfold Obligations.EnableThermalAndReference
  refine ⟨fun s t h => ⟨fun on => ?off, fun off => ?on⟩, fun s t h => ⟨fun d c present bank new => ?heat,
    fun k tenths hk new => ?derate, fun r powered good fresh => ?short, fun r bad => ?recovery⟩, ?_⟩
  case off =>
    have row : effect (.enableChange t false) (s.advance (instant (.enableChange t false))) = _ :=
      doEnableChange_off (s := s.advance t) on h.2.1
    refine effect_of_advance row h rfl ?_
    generalize hr : raise 2 { s.advance t with supply.enable := false } = r
    have pend : r.irc.host.pend.getLsbD 2 = true := hr ▸ raise_pends (by decide) rfl _
    have enable : r.supply.enable = false := by rw [← hr]; simp
    have chans (k : Nat) : r.chan k = s.chan k := by rw [← hr, raise_frame]; rfl
    obtain ⟨ended, gates⟩ := enableOff_leaves r
    have w := enableOff_within r
    generalize enableOff r = u at ended gates w
    refine ⟨?_, fun k hk runs => (ended k hk).2 ?_, fun k hk => (ended k hk).1, gates, w.pend pend⟩
    · exact (congrArg Supply.enable w.rest.supply).trans enable
    · rw [running_of_chan (chans k)]
      exact runs
  case on =>
    have row : effect (.enableChange t true) (s.advance (instant (.enableChange t true))) = _ :=
      doEnableChange_on (s := s.advance t) off h.2.1
    refine effect_of_advance row h rfl ?_
    generalize hr : raise 2 { s.advance t with supply.enable := true } = r
    have pend : r.irc.host.pend.getLsbD 2 = true := hr ▸ raise_pends (by decide) rfl _
    obtain ⟨ch, evs, supply⟩ := ktLimits_wake_keeps 12 r
    have w : Within Move.any r (wake 12 (ktLimits r)) :=
      ((ktLimits_within r).mono fun _ _ => trivial).trans ((Makes.wake 12 _).within trivial)
    generalize wake 12 (ktLimits r) = u at ch evs supply w
    refine ⟨supply.trans ?_, ch.trans ?_, evs.trans ?_, w.pend pend⟩
    all_goals
      rw [← hr, raise_frame]
      rfl
  case heat =>
    have row : effect (.thermalThreshold t d c) (s.advance (instant (.thermalThreshold t d c))) = _ :=
      doThermalThreshold_new (s := s.advance t) present bank new
    refine effect_of_advance row h rfl ?_
    obtain ⟨flt, heat⟩ := heated_keeps (domainIdx d) (heatLevel c) (s.advance t)
    generalize heated (domainIdx d) (heatLevel c) (s.advance t) = v at flt heat
    have level : v.supply.heat.get 0 (domainIdx d) = heatLevel c := by rw [heat, Table.get_set_same]
    refine ⟨?_, fun hot fresh => ?_⟩
    · refine (congrArg (fun x => Table.get 0 x.heat (domainIdx d)) (thermalFault_supply v)).trans level
    · rw [thermalFault_onset (level.trans (heatLevel_hot hot))]
      exact faultOnset_occurred (n := 5) rfl (by decide) (by rw [flt]; exact fresh) (by rw [flt]; rfl)
  case derate =>
    have row : effect (.thermalDeratingChange t k tenths) (s.advance (instant (.thermalDeratingChange t k tenths))) =
        ktLimit k (raise 4 { s.advance t with supply.derateW := s.supply.derateW.set 150 k (derated tenths) }) :=
      if_neg (not_or.mpr ⟨Nat.not_le.mpr hk, new⟩)
    refine effect_of_advance row h rfl ?_
    generalize hr : raise 4 { s.advance t with supply.derateW := s.supply.derateW.set 150 k (derated tenths) } = r
    have pend : r.irc.host.pend.getLsbD 4 = true := hr ▸ raise_pends (by decide) rfl _
    have supply : r.supply.derateW = s.supply.derateW.set 150 k (derated tenths) := by rw [← hr, raise_frame]
    have w := ktLimit_within k r
    generalize ktLimit k r = u at w
    refine ⟨?_, w.pend pend⟩
    refine (congrArg (fun x => Table.get 150 x.derateW k.val) w.rest.supply).trans ?_
    show Table.get 150 r.supply.derateW k.val = _
    rw [supply, Table.get_set_same]
  case short =>
    obtain ⟨present, hn⟩ := railFault_present r
    have powered' : (s.advance t).supply.sensorsOff = false := powered
    have good' : railBad (s.advance t) r = false := by cases r <;> exact good
    have row : effect (.sensorSupplyFault t r) (s.advance (instant (.sensorSupplyFault t r))) =
        faultOnset (railFault r) (raise 6 (railShow true r (s.advance t))) :=
      if_neg (not_or.mpr ⟨Bool.eq_false_iff.mp powered', Bool.eq_false_iff.mp good'⟩ ∘ (Bool.or_eq_true ..).mp)
    refine effect_of_advance row h rfl ?_
    generalize hr : raise 6 (railShow true r (s.advance t)) = v
    have flt : v.flt = s.flt := by
      rw [← hr, raise_frame]
      exact railShow_flt ..
    have bad : railBad v r = true := by
      rw [← hr, railBad_of_rest (Rest.of_raise (raise_frame 6 _))]
      exact railBad_railShow ..
    have occurred : Occurred s (faultOnset (railFault r) v) (railFault r) :=
      faultOnset_occurred present hn (by rw [flt]; exact fresh) (by rw [flt])
    have keeps := railBad_of_rest (faultOnset_rest (v := v) present) r
    generalize faultOnset (railFault r) v = u at occurred keeps
    refine ⟨?_, occurred⟩
    exact (railBad_of_rest (s := u) (by rfl) r).trans (keeps.trans bad)
  case recovery =>
    have bad' : railBad (s.advance t) r = true := by cases r <;> exact bad
    have row : effect (.sensorSupplyRecovery t r) (s.advance (instant (.sensorSupplyRecovery t r))) =
        faultEnd (railFault r) (raise 6 (railShow false r (s.advance t))) := if_pos bad'
    refine effect_of_advance row h rfl ?_
    generalize hr : raise 6 (railShow false r (s.advance t)) = v
    have flt : v.flt = s.flt := by
      rw [← hr, raise_frame]
      exact railShow_flt ..
    have good : railBad v r = false := by
      rw [← hr, railBad_of_rest (Rest.of_raise (raise_frame 6 _))]
      exact railBad_railShow ..
    refine ⟨?_, faultEnd_cond, ?_⟩
    · exact (railBad_of_rest (s := v) (by rfl) r).trans good
    · show v.flt.sticky = s.flt.sticky
      rw [flt]
  · intro s t h x
    have time : (s.advance t).etc = x := etc_alive t h
    refine ⟨fun phase fresh => ?loss, fun phase first due fresh => ?expiry, fun phase => ?return_, fun phase => ?relock⟩
    case loss =>
      have row : effect (.referenceLoss t) (s.advance (instant (.referenceLoss t))) =
          faultOnset 1 (raise 3 { s.advance t with
            ruler := { s.ruler with phase := .holdover, lossAt := (s.advance t).etc, refPresent := false } }) := by
        show doReferenceLoss (s.advance t) = _
        unfold doReferenceLoss
        rcases phase with phase | phase
        · rw [show (s.advance t).ruler.phase = .locked from phase]
          rfl
        · rw [show (s.advance t).ruler.phase = .relocking from phase]
          rfl
      refine effect_of_advance row h rfl ?_
      generalize hr : raise 3 { s.advance t with
        ruler := { s.ruler with phase := .holdover, lossAt := (s.advance t).etc, refPresent := false } } = v
      have flt : v.flt = s.flt := by rw [← hr, raise_frame]; rfl
      have ruler : v.ruler = { s.ruler with phase := .holdover, lossAt := x, refPresent := false } := by
        rw [← hr, raise_frame, ← time]
      have occurred : Occurred s (faultOnset 1 v) 1 :=
        faultOnset_occurred (n := 1) rfl (by decide) (by rw [flt]; exact fresh) (by rw [flt])
      have rest := faultOnset_rest (n := 1) (v := v) rfl
      generalize faultOnset 1 v = u at occurred rest
      exact ⟨(congrArg State.ruler rest).trans ruler, occurred⟩
    case expiry =>
      have row : effect (.holdoverExpiry t) (s.advance (instant (.holdoverExpiry t))) =
          faultOnset 2 (raise 3 (forEach (slotsWhere { s.advance t with ruler.tooLong := true } committed) (withdraw 4)
            { s.advance t with ruler.tooLong := true })) := by
        show doHoldoverExpiry (s.advance t) = _
        unfold doHoldoverExpiry
        rw [show (s.advance t).ruler.phase = .holdover from phase]
        dsimp only
        refine (if_neg ?_).trans rfl
        rintro (long | early)
        · exact Bool.false_ne_true (first.symm.trans long)
        · exact Nat.not_lt.mpr due (time ▸ early)
      refine effect_of_advance row h rfl ?_
      generalize hw : forEach (slotsWhere { s.advance t with ruler.tooLong := true } committed) (withdraw 4)
        { s.advance t with ruler.tooLong := true } = w
      have withdrawn : Within (fun m => ∃ i, m.ofDrop i) { s.advance t with ruler.tooLong := true } w :=
        hw ▸ Within.forEach _ (fun i _ u => (withdraw_within 4 i u).mono fun _ h => ⟨i, h⟩) _
      have flt : (raise 3 w).flt = s.flt := by
        rw [raise_frame]
        exact (withdrawn.flt_eq fun ⟨_, h⟩ => h).trans rfl
      have ruler : (raise 3 w).ruler = { s.ruler with tooLong := true } := by
        rw [raise_frame]
        exact (congrArg State.ruler withdrawn.rest).trans rfl
      generalize raise 3 w = v at flt ruler
      have occurred : Occurred s (faultOnset 2 v) 2 :=
        faultOnset_occurred (n := 2) rfl (by decide) (by rw [flt]; exact fresh) (by rw [flt])
      have rest := faultOnset_rest (n := 2) (v := v) rfl
      generalize faultOnset 2 v = u at occurred rest
      exact ⟨(congrArg State.ruler rest).trans ruler, occurred⟩
    case return_ =>
      have row : effect (.referenceReturn t) (s.advance (instant (.referenceReturn t))) =
          faultEnd 1 { s.advance t with ruler := { s.ruler with
            phase := .relocking, refPresent := true, lastHoldoverUs := ((s.advance t).etc - s.ruler.lossAt) / ticksPerUs } } := by
        show doReferenceReturn (s.advance t) = _
        unfold doReferenceReturn
        rw [show (s.advance t).ruler.phase = .holdover from phase]
        rfl
      exact effect_of_advance row h rfl ⟨by rw [← time]; rfl, faultEnd_cond⟩
    case relock =>
      have row : effect (.relockComplete t) (s.advance (instant (.relockComplete t))) = relocked (s.advance t) := by
        show doRelockComplete (s.advance t) = _
        unfold doRelockComplete
        rw [show (s.advance t).ruler.phase = .relocking from phase]
      refine effect_of_advance row h rfl ⟨?_, faultEnd_cond⟩
      show (raise 3 _).ruler = _
      rw [raise_frame]
      rfl

end Sys2Proof.Machine
end

section
/-! What time alone brings leaves the supplies, the reference and the channels alone (01_event_road.md R22;
07_event_scheduler.md R242). -/

namespace Sys2Proof.Machine

/-- Nothing of the channels, the fault collector, time, the supplies, the wheel, the Lens, the links and the rest has
changed. -/
structure Aside (s u : State) : Prop where
  rest : Rest s u
  ch : u.act.ch = s.act.ch
  flt : u.flt = s.flt

namespace Aside
variable {s u : State}

theorem refl (s : State) : Aside s s := ⟨by rfl, rfl, rfl⟩

theorem trans {v : State} (h : Aside s u) (g : Aside u v) : Aside s v :=
  ⟨h.rest.trans g.rest, g.ch.trans h.ch, g.flt.trans h.flt⟩

theorem ite {p : Prop} [Decidable p] {v : State} (a : Aside s u) (b : Aside s v) : Aside s (if p then u else v) := by
  split
  · exact a
  · exact b

theorem forEach {f : Nat → State → State} (hf : ∀ n u, Aside u (f n u)) (l : List Nat) (s : State) :
    Aside s (forEach l f s) := by
  unfold Machine.forEach
  induction l generalizing s with
  | nil => exact .refl s
  | cons n l ih => exact (hf n s).trans (ih (f n s))

theorem raise (n : Nat) (s : State) : Aside s (raise n s) :=
  ⟨Rest.of_raise (raise_frame n s), by rw [raise_frame], by rw [raise_frame]⟩

theorem raiseIf (c : Bool) (n : Nat) (s : State) : Aside s (raiseIf c n s) := .ite (.raise n s) (.refl s)

theorem of_seq (h : SeqOnly s u) : Aside s u := by
  refine ⟨Rest.of_seq h, ?_, ?_⟩ <;> (unfold SeqOnly at h; rw [h])

/-- Writes that touch neither a channel nor the fault collector. -/
theorem of_within {A : Move → Prop} (h : Within A s u) (hc : ∀ k, ¬ A (.chan k)) (hr : ¬ A .reaction) : Aside s u := by
  refine ⟨h.rest, ?_, h.flt_eq hr⟩
  refine h.same (f := fun v => v.act.ch) fun m x y ha hm => ?_
  cases hm with
  | chan k => exact absurd ha (hc k)
  | raise n => rw [raise_frame]
  | wake b => rw [wake_frame]
  | notice o a b => rw [notice_frame]
  | _ => rfl

/-- What is done at another instant than the present one (R22). -/
theorem at_etc {e x : Nat} {evs : Evs} (h : Aside { s with etc := x, evs := evs } u) (he : s.etc = e) :
    Aside s { u with etc := e } := by
  obtain ⟨rest, ch, flt⟩ := h
  subst he
  refine ⟨?_, ch, flt⟩
  unfold Rest at *
  rw [rest]

end Aside

theorem dropEvent_aside (reason detail i : Nat) (s : State) : Aside s (dropEvent reason detail i s) :=
  .of_within (dropEvent_within reason detail i s) (fun _ h => h) (fun h => h)

theorem nearFill_aside (s : State) : Aside s (nearFill s) :=
  .of_within (nearFill_within s) (fun _ ⟨_, h⟩ => nomatch h) (fun ⟨_, h⟩ => nomatch h)

theorem setSlot_aside (i : Nat) (e : Event) (s : State) : Aside s (s.setSlot i e) := ⟨by rfl, rfl, rfl⟩

theorem leavePass_aside (i : Nat) (s : State) : Aside s (leavePass i s) := ⟨by rfl, rfl, rfl⟩

theorem abortTests_aside (ch : Nat) (s : State) : Aside s (abortTests ch s) :=
  .of_within (stopTests_within _ s) (fun _ ⟨_, h⟩ => nomatch h) (fun ⟨_, h⟩ => nomatch h)

theorem arm_aside (i : Nat) (e : Event) (s : State) : Aside s (arm i e s) := ⟨by rfl, rfl, rfl⟩

theorem doCommit_aside (i : Nat) (armAt : Tick) (s : State) : Aside s (doCommit i armAt s) := by
  unfold doCommit
  dsimp only
  refine .ite (.refl s) ((abortTests_aside (commitCopy s (s.slot i) armAt).ch s).trans ?_)
  split
  · exact (arm_aside ..).trans (nearFill_aside _)
  · exact ((setSlot_aside ..).trans (dropEvent_aside ..)).trans (nearFill_aside _)

theorem commitInPass_aside (i : Nat) (s : State) : Aside s (commitInPass i s) := by
  unfold commitInPass
  refine .ite (Aside.trans (u := { s with fresh := s.fresh + 1 }) ⟨by rfl, rfl, rfl⟩ (doCommit_aside ..)) (.refl s)

theorem reaimOne_aside (i : Nat) (s : State) : Aside s (reaimOne i s) := by
  unfold reaimOne
  dsimp only
  refine (leavePass_aside i s).trans (.ite (.refl _) (.ite ((dropEvent_aside ..).trans (nearFill_aside _)) ?_))
  split
  · exact (setSlot_aside ..).trans (commitInPass_aside ..)
  · exact (dropEvent_aside ..).trans (nearFill_aside _)

theorem passStep_aside (i : Nat) (s : State) : Aside s (passStep i s) :=
  Aside.at_etc (reaimOne_aside i _) rfl

theorem passRun_aside (l : List Nat) (s : State) : Aside s (passRun l s) := by
  induction l generalizing s with
  | nil => exact .refl s
  | cons i l ih =>
    unfold passRun
    exact .ite ((passStep_aside i s).trans (ih _)) (.refl s)

theorem wakeSnap_aside (i : Nat) (s : State) : Aside s (wakeSnap i s) := by
  unfold wakeSnap
  split
  · exact ⟨by rfl, rfl, rfl⟩
  · exact .refl s

theorem mirror_aside (y : Nat) (b : List Byte) (s : State) : Aside s (mirror y b s) :=
  .of_within (A := fun m => m = .raise ∨ m = .mirror) (Within.mirror (.refl s) (.inl (by rfl)) (.inr (by rfl)))
    (fun _ h => h.elim (fun h => nomatch h) (fun h => nomatch h)) (fun h => h.elim (fun h => nomatch h) (fun h => nomatch h))

theorem stepsDone_aside (s : State) : Aside s (stepsDone s) := by
  unfold stepsDone mirrorState
  refine Aside.trans (u := { s with evs.steps := none }) ⟨by rfl, rfl, rfl⟩ ?_
  exact ((Aside.raise 204 _).trans (mirror_aside ..)).trans (.of_seq (latchAll_frame ..))

theorem stepsNow_aside (s : State) : Aside s (stepsNow s) := by
  unfold stepsNow
  split
  · refine .ite ?_ (.refl s)
    exact Aside.at_etc (evs := s.evs) ((stepsDone_aside _).trans (Aside.forEach wakeSnap_aside _ _)) rfl
  · exact .refl s

theorem kcNow_aside (s : State) : Aside s (kcNow s) := by
  refine Aside.forEach (fun n u => ?_) _ s
  unfold kcReached
  exact .ite (Aside.trans (u := u.setKc n _) ⟨by rfl, rfl, rfl⟩ (.raiseIf ..)) (.refl u)

/-- What time alone brings. -/
theorem timeNow_aside (s : State) : Aside s (timeNow s) :=
  ((kcNow_aside s).trans (stepsNow_aside _)).trans (passRun_aside _ _)

end Sys2Proof.Machine
end

section
/-! Reset causes, the requests for STANDBY and SLEEP, and the returns to RUN (15_startup_sleep_power.md R457 to R469). -/

namespace Sys2Proof.Machine

/-! ## What keeps the mode and its timers -/

theorem Rest.ruler {s u : State} (h : Rest s u) : u.ruler = s.ruler := by rw [h]

/-- Where nothing is raised and no wake cause arises, the power control is as before. -/
theorem Within.sys {A : Move → Prop} {s u : State} (h : Within A s u) (hr : ¬ A .raise) (hw : ¬ A .wake) :
    u.sys = s.sys := by
  refine h.same (f := fun v => v.sys) fun m x y ha hm => ?_
  cases hm with
  | raise n => exact absurd ha hr
  | wake b => exact absurd ha hw
  | notice o a b => rw [notice_frame]
  | _ => rfl

/-- In RUN no wake cause is taken, so the power control is as before (R467, R469). -/
theorem Within.sys_run {A : Move → Prop} {s u : State} (h : Within A s u) (run : s.sys.mode = .run) : u.sys = s.sys := by
  refine h.keeps (P := fun v => v.sys = s.sys) (fun m x y ha hm same => ?_) rfl
  cases hm with
  | raise n =>
    rw [raise_run n x (same ▸ run)]
    split <;> exact same
  | wake b => rw [wake_run b x (same ▸ run)]; exact same
  | notice o a b => rw [notice_frame]; exact same
  | _ => exact same

theorem ktLimit_sys (k : Nat) (s : State) : (ktLimit k s).sys = s.sys := by
  unfold ktLimit
  dsimp only
  split
  · rfl
  · split <;> split <;> rfl

theorem forEach_keeps {α : Type} (g : State → α) {f : Nat → State → State} (hf : ∀ n s, g (f n s) = g s) (l : List Nat)
    (s : State) : g (forEach l f s) = g s := by
  unfold forEach
  induction l generalizing s with
  | nil => rfl
  | cons n l ih => exact (ih (f n s)).trans (hf n s)

theorem ktLimits_sys (s : State) : (ktLimits s).sys = s.sys := forEach_keeps (·.sys) ktLimit_sys _ s

theorem stopTests_sys (p : Nat → Bool) (s : State) : (stopTests p s).sys = s.sys :=
  (stopTests_within p s).sys (fun ⟨_, h⟩ => nomatch h) (fun ⟨_, h⟩ => nomatch h)

/-- What time alone brings changes of the power control only the wake causes. -/
theorem timeNow_sys (s : State) (t : Tick) :
    (timeNow (s.advance t)).sys = { s.sys with wakePending := (timeNow (s.advance t)).sys.wakePending } := by
  have rest := (timeNow_aside (s.advance t)).rest
  unfold Rest at rest
  generalize timeNow (s.advance t) = w at rest ⊢
  rw [rest]
  rfl

/-- Outside a passage to SLEEP no wake cause does anything by itself. -/
theorem powerSettle_still {s : State} (h : s.sys.wakePending = 0 ∨ s.sys.mode ≠ .entering ∧ s.sys.mode ≠ .sleep) :
    powerSettle s = s := by
  unfold powerSettle
  split
  · rfl
  case isFalse pending =>
    obtain ⟨entering, sleep⟩ := h.resolve_left pending
    split
    · exact absurd (by assumption) entering
    · exact absurd (by assumption) sleep
    · rfl

/-- The answer of a powered command, where time alone may bring something before it. -/
theorem yields_powered {k : Instr} {s v : State} {p : State → Prop} (up : s.supply.state ≠ .down)
    (hp : undefinedPulse s k = false) (row : effect k (timeNow (s.advance (instant k))) = v)
    (still : v.sys.wakePending = 0 ∨ v.sys.mode ≠ .entering ∧ v.sys.mode ≠ .sleep) (hv : p (settle v)) :
    Yields k s p := by
  refine ⟨_, exec_powered k s up hp, ?_⟩
  rw [row, powerSettle_still still]
  exact hv

/-- The answer of a powered command where nothing waits for time alone to bring it. -/
theorem yields_idle {k : Instr} {s v : State} {p : State → Prop} (up : s.supply.state ≠ .down) (idle : timeIdle s = true)
    (hp : undefinedPulse s k = false) (row : effect k (s.advance (instant k)) = v)
    (still : v.sys.wakePending = 0 ∨ v.sys.mode ≠ .entering ∧ v.sys.mode ≠ .sleep) (hv : p (settle v)) :
    Yields k s p := by
  refine yields_powered up hp ?_ still hv
  rw [timeNow_idle _ _ idle]
  exact row

/-- ETC at an instant, outside SLEEP and the return from it. -/
theorem etc_awake {s : State} (t : Tick) (h : s.sys.mode ≠ .sleep ∧ s.sys.mode ≠ .waking) :
    (s.advance t).etc = max s.etc t := by
  unfold State.advance
  dsimp only
  split
  · exact absurd (by assumption) h.1
  · exact absurd (by assumption) h.2
  · unfold Tick at *
    split <;> omega

/-! ## The reset sequence (R458, R459) -/

theorem startRecord_sys (kind bits : Nat) (s : State) : (startRecord kind bits s).sys = s.sys := by
  unfold startRecord
  rw [log_frame]

theorem raiseIf_reset (c : Bool) (n : Nat) (s : State) :
    (raiseIf c n s).ruler = s.ruler ∧ (raiseIf c n s).sys = { s.sys with wakePending := (raiseIf c n s).sys.wakePending } := by
  unfold raiseIf
  split
  · rw [raise_frame]
    exact ⟨rfl, rfl⟩
  · exact ⟨rfl, rfl⟩

/-- A self-test with no finding of steps 3 and 4 (R459). -/
theorem selfTest_clean : ∀ f : Byte, f &&& 0x7F = 0 →
    (bitAt f.toNat 0 || bitAt f.toNat 1 || bitAt f.toNat 6) = false ∧ bits f.toNat 2 4 = 0 := by
  decide

/-- The power control and the reference as the self-test leaves them, when nothing failed that stops the sequence. -/
theorem stepSelfTest_passed {r : StepResult} (clean : r.failed &&& 0x7F = 0) (s : State) : ∃ w,
    (stepSelfTest r s).sys = { s.sys with selftest := r.failed, step := 4, phase := 1, wakePending := w } ∧
      (stepSelfTest r s).ruler.phase = .locked := by
  obtain ⟨stops, regs⟩ := selfTest_clean r.failed clean
  unfold stepSelfTest
  dsimp only
  rw [stops, if_neg Bool.false_ne_true, if_neg (not_not.mpr regs)]
  obtain ⟨ruler, sys⟩ := raiseIf_reset (bitAt r.failed.toNat 7) 239 { s with
    ruler.phase := .locked, sys := { s.sys with selftest := r.failed, step := 4, phase := 1 }
    sec.entropyFail := bitAt r.failed.toNat 7 }
  exact ⟨_, sys, by rw [ruler]⟩

theorem stepSelfTest_stopped {r : StepResult} (failed : r.failed.getLsbD 0 = true) (s : State) :
    (stepSelfTest r s).sys = { s.sys with selftest := r.failed, phase := 5, seqDone := true, linksUp := false } := by
  unfold stepSelfTest stopSequence
  dsimp only
  rw [bitAt_toNat, failed, Bool.true_or, Bool.true_or, if_pos rfl, startRecord_sys]

theorem doResetStepComplete_selfTest {r : StepResult} {s : State} (mode : s.sys.mode = .reset)
    (going : s.sys.seqDone = false) (up : s.supply.state ≠ .down) (ref : s.ruler.refPresent = true)
    (step : s.sys.step = 2) : doResetStepComplete r s = stepSelfTest r s := by
  unfold doResetStepComplete
  rw [mode, going]
  dsimp only
  rw [if_neg (by rw [ref]; simp [up]), step]
  rfl

theorem doReferenceStarted_reset {s : State} (mode : s.sys.mode = .reset) (going : s.sys.seqDone = false)
    (up : s.supply.state ≠ .down) (ref : s.ruler.refPresent = false) : doReferenceStarted s = { s with
      ruler := { s.ruler with refPresent := true, phase := .locking }, sys := { s.sys with step := max 2 s.sys.step } } := by
  unfold doReferenceStarted
  rw [mode, going]
  dsimp only
  rw [if_neg (by rw [ref]; simp [up])]

/-! ## What a reset keeps (R458) -/

/-- A table filled over an initial range holds the values it was filled with. -/
theorem get_foldl_set {α : Type} [DecidableEq α] (d : α) (f : Nat → α) (n k : Nat) (hk : k < n) :
    ((List.range n).foldl (fun m k => Table.set d m k (f k)) []).get d k = f k := by
  induction n with
  | zero => omega
  | succ n ih =>
    rw [List.range_succ, List.foldl_append, List.foldl_cons, List.foldl_nil, Table.get_set]
    split
    case isTrue same => rw [same]
    case isFalse other => exact ih (by omega)

/-- What a channel keeps of its wear (R437). -/
def wearKept (s : State) (k : Nat) : Chan := { shots := (s.chan k).shots, eboost := (s.chan k).eboost }

theorem resetState_chan {cause : Nat} (kept : cause ≠ 1) (s : State) {k : Nat} (hk : k < 64) :
    (resetState cause s).chan k = wearKept s k := by
  show Table.get {} (if cause = 1 then [] else wearOnly s) k = _
  rw [if_neg kept]
  exact get_foldl_set {} (wearKept s) 64 k hk

theorem doResetN_powered {s : State} (up : s.supply.state ≠ .down) : doResetN s = resetState 2 s := by
  unfold doResetN
  split
  · exact absurd (by assumption) up
  · rfl

/-! ## STANDBY (R465, R467) -/

theorem enterStandby_sys (s : State) : (enterStandby s).sys =
    { s.sys with mode := .standby, standbyAt := some s.etc, wakePending := 0 } := by
  unfold enterStandby
  dsimp only
  rw [stopTests_sys, ktLimits_sys]

/-- Outside RUN every charger is stopped (R335, R457). -/
theorem ktLimits_stopped {s : State} (mode : s.sys.mode ≠ .run) {k : Nat} (hk : k < s.kettles) :
    ((ktLimits s).kettle k).chgW = 0 := by
  have here (k : Nat) (u : State) (hu : u.sys.mode ≠ .run) : ((ktLimit k u).kettle k).chgW = 0 := by
    rw [ktLimit_chgW]
    unfold chgLimit
    exact if_pos (.inr (.inr (.inr hu)))
  refine forEach_all (I := fun u => u.sys.mode ≠ .run) (Q := fun k u => (u.kettle k).chgW = 0) (List.range s.kettles)
    (fun j _ u hu => by rw [ktLimit_sys]; exact hu) (fun k _ u hu => here k u hu) (fun k j u hu h => ?_) (s := s) mode k
    (List.mem_range.mpr hk)
  by_cases e : k = j
  · exact e ▸ here k u hu
  · rw [ktLimit_other e]
    exact h

theorem enterStandby_chargers (s : State) {k : Nat} (hk : k < s.kettles) : ((enterStandby s).kettle k).chgW = 0 := by
  unfold enterStandby
  dsimp only
  rw [stopTests_kettle]
  exact ktLimits_stopped (by simp) hk

theorem doStandbyRequest_granted {s : State} (run : s.sys.mode = .run) (free : standbyRefusal s = 0) :
    doStandbyRequest s = enterStandby s := by
  unfold doStandbyRequest
  rw [run]
  exact if_pos free

theorem doStandbyRequest_refused {s : State} (run : s.sys.mode = .run) (refusal : standbyRefusal s ≠ 0) :
    doStandbyRequest s = { s with sys.refuse := standbyRefusal s } := by
  unfold doStandbyRequest
  rw [run]
  exact if_neg refusal

/-! ## Into SLEEP (R468) -/

/-- On the way to SLEEP with no wake cause taken, and none that a raised source would take. -/
def Entering (before : PowerMode) (s : State) : Prop :=
  s.sys.mode = .entering ∧ s.sys.before = before ∧ s.sys.wakePending = 0 ∧ s.sys.wakeEn.getLsbD 6 = false

theorem Entering.of_sys {before : PowerMode} {s u : State} (h : Entering before s) (same : u.sys = s.sys) :
    Entering before u := by
  unfold Entering at *
  rwa [same]

theorem Entering.raise {before : PowerMode} {s : State} (h : Entering before s) (n : Nat) : Entering before (raise n s) := by
  have ⟨mode, _, _, off⟩ := h
  have shut (i : Irc) : wake 6 { s with irc := i } = { s with irc := i } := by
    unfold wake wakeAllowed
    dsimp only
    rw [mode]
    dsimp only
    rw [off]
    rfl
  unfold Machine.raise
  split
  · exact h
  · dsimp only
    split
    · rw [shut]; exact h
    · exact h

theorem Entering.within {before : PowerMode} {s u : State} {A : Move → Prop} (h : Entering before s) (w : Within A s u)
    (hw : ¬ A .wake) : Entering before u := by
  refine w.keeps (fun m x y ha hm hx => ?_) h
  cases hm with
  | raise n => exact hx.raise n
  | wake b => exact absurd ha hw
  | notice o a b => exact hx.of_sys (by rw [notice_frame])
  | _ => exact hx.of_sys rfl

theorem flushHead_sys (s : State) : (flushHead s).sys = s.sys := by
  unfold flushHead
  split <;> rfl

theorem Entering.startFlush {before : PowerMode} {s : State} (h : Entering before s) : Entering before (startFlush s) := by
  have loss : Entering before (flushLoss s) := by
    unfold flushLoss
    split
    · exact h
    · exact Entering.raise (h.of_sys (by rfl)) 227
  unfold Machine.startFlush
  split
  · exact h
  · refine loss.of_sys ?_
    show (if _ then _ else _ : State).sys = _
    split <;> exact flushHead_sys _

theorem enterSleep_entering {s : State} (off : s.sys.wakeEn.getLsbD 6 = false) : Entering s.sys.mode (enterSleep s) := by
  unfold enterSleep
  dsimp only
  have begun : Entering s.sys.mode { s with sys := { s.sys with
    mode := .entering, before := s.sys.mode, wakePending := 0 } } := ⟨rfl, rfl, rfl, off⟩
  refine Entering.within ?_ (Within.forEach _ (fun k _ u => ktUpdate_within k u) _) (fun h => h)
  exact ((begun.of_sys (ktLimits_sys _)).startFlush).of_sys (stopTests_sys ..)

theorem doSleepRequest_granted {s : State} (mode : s.sys.mode = .run ∨ s.sys.mode = .standby)
    (free : sleepRefusal s = 0) : doSleepRequest s = enterSleep s := by
  unfold doSleepRequest
  rcases mode with mode | mode <;>
  · rw [mode]
    exact if_pos free

/-- Settles O34: each row acts on the power control alone, or is the reset state written out. -/
theorem resetsAndPowerRequests : Obligations.ResetsAndPowerRequests := by
  unfold Obligations.ResetsAndPowerRequests
  refine ⟨fun s t up => ?_, fun s t h quiet => ?_⟩
  · obtain ⟨rest, ch, -⟩ := timeNow_aside (s.advance t)
    have sys := timeNow_sys s t
    have kept : (timeNow (s.advance t)).supply = s.supply ∧ (timeNow (s.advance t)).ruler = s.ruler ∧
        (timeNow (s.advance t)).nv = s.nv ∧ (timeNow (s.advance t)).pending = s.pending ∧
        (timeNow (s.advance t)).etc = (s.advance t).etc := by
      unfold Rest at rest
      rw [rest]
      exact ⟨rfl, rfl, rfl, rfl, rfl⟩
    generalize hw : timeNow (s.advance t) = w at sys kept ch
    obtain ⟨supply, ruler, nv, pending, etc⟩ := kept
    have step : w.sys.step = s.sys.step := by rw [sys]
    have mode : w.sys.mode = s.sys.mode := by rw [sys]
    have done : w.sys.seqDone = s.sys.seqDone := by rw [sys]
    have powered : w.supply.state ≠ .down := by rw [supply]; exact up
    refine ⟨fun reset going ref => ?reference, fun r reset going ref at2 clean => ?passed,
      fun r reset going ref at2 failed => ?stopped, fun ns short alive => ?short, fun ns long => ?long,
      fun ns two ten => ?undefined, fun d run due late => ?command⟩
    case reference =>
      have row := doReferenceStarted_reset (mode.trans reset) (done.trans going) powered (by rw [ruler]; exact ref)
      refine yields_powered up rfl ((congrArg doReferenceStarted hw).trans row) (.inr ?_) ⟨?_, ?_, mode.trans reset⟩
      · simp [mode, reset]
      · show ({ w.ruler with refPresent := true, phase := .locking } : Ruler) = _
        rw [ruler]
      · exact congrArg (max 2) step
    case passed =>
      have row := doResetStepComplete_selfTest (r := r) (mode.trans reset) (done.trans going) powered
        (by rw [ruler]; exact ref) (step.trans at2)
      obtain ⟨x, here, locked⟩ := stepSelfTest_passed clean w
      refine yields_powered up rfl ((congrArg (doResetStepComplete r) hw).trans row) (.inr ?_) ?_
      · rw [here]; simp [mode, reset]
      generalize stepSelfTest r w = v at here locked
      have same : (settle v).sys = v.sys := rfl
      rw [same, here]
      exact ⟨rfl, rfl, rfl, locked⟩
    case stopped =>
      have row := doResetStepComplete_selfTest (r := r) (mode.trans reset) (done.trans going) powered
        (by rw [ruler]; exact ref) (step.trans at2)
      have here := stepSelfTest_stopped failed w
      refine yields_powered up rfl ((congrArg (doResetStepComplete r) hw).trans row) (.inr ?_) ?_
      · rw [here]; simp [mode, reset]
      generalize stepSelfTest r w = v at here
      have same : (settle v).sys = v.sys := rfl
      rw [same, here]
      exact ⟨rfl, rfl, rfl, mode.trans reset⟩
    case short =>
      have time := etc_alive t alive
      have row : effect (.resetNPulse t ns) (s.advance (instant (.resetNPulse t ns))) = s.advance t := by
        show (if ns < 2000 then id else doResetN) (s.advance t) = _
        rw [if_pos short]
        rfl
      have defined : undefinedPulse s (.resetNPulse t ns) = false := by simp [undefinedPulse, short]
      refine yields_stays alive defined row alive.1 ?_
      rw [advance_run t s alive.1]
      rfl
    case long =>
      have defined : undefinedPulse s (.resetNPulse t ns) = false := by simp [undefinedPulse, Nat.not_lt.mpr long]
      have row : effect (.resetNPulse t ns) (timeNow (s.advance (instant (.resetNPulse t ns)))) = resetState 2 w := by
        show (if ns < 2000 then id else doResetN) (timeNow (s.advance t)) = _
        rw [if_neg (by omega), hw]
        exact doResetN_powered powered
      refine yields_powered up defined row (.inl rfl) ⟨rfl, rfl, rfl, rfl, rfl, rfl, rfl, rfl, rfl, pending, fun k hk => ?_⟩
      have here : (settle (resetState 2 w)).chan k = wearKept w k := resetState_chan (by decide) w hk
      have same : w.chan k = s.chan k := by
        unfold State.chan
        rw [ch]
        rfl
      rw [here, ← same]
      exact ⟨rfl, rfl⟩
    case undefined =>
      rw [exec_eq, if_pos]
      have lo : decide (ns < 2000) = false := decide_eq_false (by omega)
      have hi : decide (ns < 10000) = true := decide_eq_true ten
      unfold undefinedPulse
      dsimp only
      rw [lo, hi]
      simp [up]
    case command =>
      have time : (s.advance t).etc = max s.etc t := etc_awake t (by simp [run])
      have row : doResetCommandDelayExpiry w = resetState 3 w := by
        have due' : w.sys.resetDue = some d := by rw [sys]; exact due
        unfold doResetCommandDelayExpiry
        rw [due']
        exact if_pos (by rw [etc, time]; exact late)
      refine yields_powered up rfl ((congrArg doResetCommandDelayExpiry hw).trans row) (.inl rfl)
        ⟨rfl, rfl, rfl, ?_, etc.trans time⟩
      show wrapInc 32 w.nv.starts = _
      rw [nv]
  · have time := etc_alive t h
    have ⟨run, up, _⟩ := h
    refine ⟨fun refusal => ?refused, fun free => ?granted, fun refusal => ?sleepRefused, fun free off => ?sleep,
      fun x stalled on late free => ?auto⟩
    case refused =>
      exact yields_stays h rfl (doStandbyRequest_refused (s := s.advance t) run refusal) run ⟨rfl, rfl, rfl⟩
    case granted =>
      have row := doStandbyRequest_granted (s := s.advance t) run free
      have here := enterStandby_sys (s.advance t)
      rw [time] at here
      refine yields_idle up h.2.2 rfl row (.inl ?_) ⟨here, fun k hk => ?_⟩
      · rw [here]
      · exact enterStandby_chargers (s.advance t) hk
    case sleepRefused =>
      have row : doSleepRequest (s.advance t) = refusePower (sleepRefusal s) (s.advance t) := by
        unfold doSleepRequest
        rw [show (s.advance t).sys.mode = .run from run]
        exact if_neg refusal
      exact yields_stays h rfl row run rfl
    case sleep =>
      have row := doSleepRequest_granted (s := s.advance t) (.inl run) free
      obtain ⟨mode, before, none, -⟩ := enterSleep_entering (s := s.advance t) off
      exact yields_idle up h.2.2 rfl row (.inl none) ⟨mode, before.trans run⟩
    case auto =>
      have row : doAutoStandby (s.advance t) = enterStandby { s.advance t with sys.stallAt := none } := by
        unfold doAutoStandby
        rw [show (s.advance t).sys.stallAt = some x from stalled]
        dsimp only
        rw [if_neg, doStandbyRequest_granted (by exact run) (by exact free)]
        rintro (off | early | other)
        · exact on off
        · rw [time] at early
          exact absurd early (Nat.not_lt.mpr late)
        · exact other run
      have here := enterStandby_sys { s.advance t with sys.stallAt := none }
      rw [show State.etc { s.advance t with sys.stallAt := none } = max s.etc t from time] at here
      refine yields_idle up h.2.2 rfl row (.inl ?_) here
      rw [here]

/-! ## Back to RUN (R393, R467, R469) -/

theorem doAutoSleep_granted {s : State} {x : Tick} (standby : s.sys.mode = .standby) (entered : s.sys.standbyAt = some x)
    (on : s.sys.autoSlp ≠ 0) (late : x + s.sys.autoSlp * ticksPerS ≤ s.etc) (free : sleepRefusal s = 0) :
    doAutoSleep s = enterSleep { s with sys.standbyAt := none } := by
  unfold doAutoSleep
  rw [standby, entered]
  dsimp only
  rw [if_neg (not_or.mpr ⟨on, Nat.not_lt.mpr late⟩)]
  exact doSleepRequest_granted (.inr standby) free

theorem doSleepEntryComplete_ready {s : State} (mode : s.sys.mode = .entering) (ready : sleepReady s = true) :
    let u := doSleepEntryComplete s
    u.sys = { s.sys with mode := .sleep, sleeps := wrapInc 16 s.sys.sleeps, sleptAt := s.etc, standbyAt := none } ∧
      u.sleepBase = s.etc ∧ u.supply = { s.supply with sensorsOff := true } ∧ u.ruler.refPresent = false := by
  have off := ebAllOff_within s
  have sys := off.sys (fun ⟨_, h⟩ => nomatch h) (fun ⟨_, h⟩ => nomatch h)
  have supply := off.rest.supply
  have etc : (ebAllOff s).etc = s.etc := off.rest ▸ rfl
  unfold doSleepEntryComplete
  rw [mode]
  dsimp only
  rw [if_pos ready, sys, supply, etc]
  exact ⟨rfl, rfl, rfl, rfl⟩

/-- What RUN shows of a wake: the causes that waited, none of them waiting any longer. -/
theorem backToRun_sys (s : State) : (backToRun s).sys = { s.sys with
    mode := .run, wakeSrc := s.sys.wakePending, wakePending := 0, standbyAt := none } := by
  unfold backToRun
  exact ktLimits_sys _

theorem backToRun_rest (s : State) : (backToRun s).seq.runSince = s.etc ∧ (backToRun s).ruler = s.ruler := by
  have limits := ktLimits_within { s with
    sys := { s.sys with mode := .run, wakeSrc := s.sys.wakePending, wakePending := 0, standbyAt := none }
    seq.runSince := s.etc }
  refine ⟨?_, limits.rest.ruler⟩
  refine limits.same (f := fun u => u.seq.runSince) fun m x y ha hm => ?_
  cases hm with
  | raise n => rw [raise_frame]
  | kettle => rfl
  | kc => rfl
  | _ => exact ha.elim

/-- Nothing of the power control and of the reference has changed, in RUN. -/
structure RunFrame (s u : State) : Prop where
  eq : s.sys.mode = .run → u.sys = s.sys ∧ u.ruler = s.ruler

namespace RunFrame
variable {s u : State}

theorem refl (s : State) : RunFrame s s := ⟨fun _ => ⟨rfl, rfl⟩⟩

theorem trans {v : State} (h : RunFrame s u) (g : RunFrame u v) : RunFrame s v := by
  refine ⟨fun run => ?_⟩
  obtain ⟨sys, ruler⟩ := h.eq run
  obtain ⟨sys', ruler'⟩ := g.eq (sys ▸ run)
  exact ⟨sys'.trans sys, ruler'.trans ruler⟩

theorem ite {p : Prop} [Decidable p] {v : State} (a : RunFrame s u) (b : RunFrame s v) :
    RunFrame s (if p then u else v) := by
  split
  · exact a
  · exact b

theorem of_within {A : Move → Prop} (h : Within A s u) : RunFrame s u := ⟨fun run => ⟨h.sys_run run, h.rest.ruler⟩⟩

theorem of_tim (h : TimFrame s u) : RunFrame s u := ⟨fun run => by rw [h.eq run]; exact ⟨rfl, rfl⟩⟩

theorem of_eq (sys : u.sys = s.sys) (ruler : u.ruler = s.ruler) : RunFrame s u := ⟨fun _ => ⟨sys, ruler⟩⟩

theorem raise (n : Nat) (s : State) : RunFrame s (raise n s) := of_within ((Makes.raise n s).within (A := Move.any) trivial)

end RunFrame

theorem markMadeUp_frame (old s : State) : TimFrame s (markMadeUp old s) :=
  .foldl (fun u _ => (TimFrame.refl u).setTimer ..) (.refl s) _

theorem makeUpOne_frame (n : Nat) (s : State) : TimFrame s (makeUpOne n s) := by
  unfold makeUpOne
  dsimp only
  refine .ite (timAct_frame ..) (.ite (.ite (((TimFrame.refl s).setTimer ..).trans (timAct_frame ..)) ?_) (.refl s))
  exact (TimFrame.refl s).setTimer ..

theorem makeUp_frame (n : Nat) (s : State) : TimFrame s (makeUp n s) := by
  unfold makeUp
  dsimp only
  refine .ite (.refl s) ?_
  exact (TimFrame.ite ((TimFrame.refl s).setTimer ..) (.refl s)).trans ((makeUpOne_frame ..).trans (markMadeUp_frame ..))

theorem makeUpAll_frame (s : State) : RunFrame s (makeUpAll s) := by
  have timed : TimFrame s { s with tim := { s.tim with
    makeupUs := sat 0xFFFFFFFF ((s.etc - s.sys.sleptAt) / ticksPerUs) } } := ⟨fun _ => rfl⟩
  exact .of_tim (.foldl (fun u n => makeUp_frame n u) timed _)

theorem dropHoldings_frame (l : Link) (s : State) : RunFrame s (dropHoldings l s) := by
  have staged : RunFrame s (match s.cfg.staging with
      | some (h, _) => if h = l then { s with cfg.staging := none } else s
      | none => s) := by
    split
    · exact .ite (.of_eq (by rfl) rfl) (.refl s)
    · exact .refl s
  unfold dropHoldings
  dsimp only
  split
  · exact .ite (staged.trans (.of_eq (by rfl) rfl)) staged
  · exact staged

theorem closeSession_frame (l : Link) (s : State) : RunFrame s (closeSession l s) := by
  unfold closeSession
  split
  · exact .refl s
  · exact .of_eq (by simp) (by simp)
  · refine RunFrame.trans (.of_eq (u := logLink l 2 _) ?_ ?_) ((RunFrame.raise 238 _).trans (dropHoldings_frame ..))
    all_goals simp [logLink]

theorem closeLapsed_frame (s : State) : RunFrame s (closeLapsed s) := by
  have one (l : Link) (u : State) : RunFrame u (if lapsed u l then closeSession l u else u) :=
    .ite (closeSession_frame l u) (.refl u)
  exact (one .spi s).trans ((one .can0 _).trans (one .can1 _))

theorem startRecord_frame (kind bits : Nat) (s : State) : RunFrame s (startRecord kind bits s) := by
  unfold startRecord
  rw [log_frame]
  exact .of_eq (by rfl) rfl

theorem startFlush_frame (s : State) : RunFrame s (startFlush s) := by
  have loss : RunFrame s (flushLoss s) := by
    unfold flushLoss
    dsimp only
    refine .ite (.refl s) (RunFrame.trans ?_ (.raise 227 _))
    exact .of_eq (by rfl) rfl
  have head (u : State) : RunFrame u (flushHead u) := by
    unfold flushHead
    exact .ite (.refl u) (.of_eq (by rfl) rfl)
  unfold startFlush
  refine .ite (.refl s) ((loss.trans (head _)).trans (RunFrame.trans (.ite (.refl _) ?_) (.of_eq (by rfl) rfl)))
  exact .of_eq (by rfl) rfl

theorem closeAll_frame (s : State) : RunFrame s (closeAll s) :=
  (closeSession_frame .spi s).trans ((closeSession_frame .can0 _).trans (closeSession_frame .can1 _))

theorem holdupSteps_frame (s : State) : RunFrame s (holdupSteps s) := by
  have off := RunFrame.of_within (holdupOff_within s)
  unfold holdupSteps
  dsimp only
  generalize stopTests (fun _ => true) (ebAllOff (ktLimits (endAll 7 (withdrawAll 9 s)))) = u at off ⊢
  refine RunFrame.trans ?_ ((closeAll_frame _).trans (startFlush_frame _))
  exact off.trans (.of_eq (by rfl) rfl)

/-- A raise only adds to the wake causes that wait (R467, R469). -/
theorem wakePending_raise {n i : Nat} {s : State} (h : s.sys.wakePending.getLsbD i = true) :
    (raise n s).sys.wakePending.getLsbD i = true := by
  unfold raise
  split
  · exact h
  · dsimp only
    split
    · unfold wake
      split
      · simp [BitVec.getLsbD_or, h]
      · exact h
    · exact h

theorem relocked_keeps (s : State) : (relocked s).ruler.phase = .locked ∧
    ∀ i, s.sys.wakePending.getLsbD i = true → (relocked s).sys.wakePending.getLsbD i = true := by
  refine ⟨?_, fun i h => wakePending_raise h⟩
  show (raise 3 _).ruler.phase = _
  rw [raise_frame]

/-- A return from SLEEP ends in RUN, with every cause that waited shown (R469). -/
theorem wakeUp_run (s : State) : let u := wakeUp s
    u.sys.mode = .run ∧ (∀ i, s.sys.wakePending.getLsbD i = true → u.sys.wakeSrc.getLsbD i = true) ∧
      u.sys.wakePending = 0 ∧ u.ruler.phase = .locked := by
  unfold wakeUp
  dsimp only
  generalize ha : relocked { watchdogWake s with supply.sensorsOff := false } = a
  obtain ⟨locked, causes⟩ := relocked_keeps { watchdogWake s with supply.sensorsOff := false }
  rw [ha] at locked causes
  obtain ⟨sysB, rulerB⟩ := (makeUpAll_frame { a with sys.mode := .run }).eq rfl
  generalize makeUpAll { a with sys.mode := .run } = b at sysB rulerB
  have sysC := backToRun_sys b
  have rulerC := (backToRun_rest b).2
  generalize backToRun b = c at sysC rulerC
  have run : c.sys.mode = .run := by rw [sysC]
  have reached (v : State) (h : RunFrame c v) : v.sys.mode = .run ∧
      (∀ i, s.sys.wakePending.getLsbD i = true → v.sys.wakeSrc.getLsbD i = true) ∧ v.sys.wakePending = 0 ∧
      v.ruler.phase = .locked := by
    obtain ⟨sys, ruler⟩ := h.eq run
    rw [sys, ruler, sysC, rulerC, rulerB, sysB]
    exact ⟨rfl, causes, rfl, locked⟩
  have record := (closeLapsed_frame c).trans (startRecord_frame 1 (watchdogWake s).sys.wakePending.toNat _)
  split
  · exact reached _ (record.trans (holdupSteps_frame _))
  · exact reached _ record

theorem and_not_eq_zero {w : Nat} {x y : BitVec w} (h : ∀ i, x.getLsbD i = true → y.getLsbD i = true) :
    x &&& ~~~y = 0 := by
  refine BitVec.eq_of_getLsbD_eq fun i hi => ?_
  have := h i
  cases hx : x.getLsbD i <;> simp_all

/-- Settles O35: the return from SLEEP by what each of its stages keeps in RUN. -/
theorem sleepAndWake : Obligations.SleepAndWake := by
  unfold Obligations.SleepAndWake
  intro s t up idle
  refine ⟨fun x standby entered on none late free off => ?auto, fun entering none ready => ?complete,
    fun standby some' => ?standby, fun waking pending => ?wake⟩
  case auto =>
    have time : (s.advance t).etc = max s.etc t := etc_awake t (by simp [standby])
    have row := doAutoSleep_granted (s := s.advance t) standby entered on (by rw [time]; exact late) free
    obtain ⟨mode, before, quiet, -⟩ := enterSleep_entering (s := { s.advance t with sys.standbyAt := Option.none }) off
    exact yields_idle up idle rfl row (.inl quiet) ⟨mode, before.trans standby⟩
  case complete =>
    have time : (s.advance t).etc = max s.etc t := etc_awake t (by simp [entering])
    obtain ⟨sys, base, supply, ref⟩ := doSleepEntryComplete_ready (s := s.advance t) entering ready
    rw [time] at sys base
    refine yields_idle (v := doSleepEntryComplete (s.advance t)) up idle rfl rfl (.inl ?_) ?_
    · rw [sys]; exact none
    generalize doSleepEntryComplete (s.advance t) = u at sys base supply ref
    have same : (settle u).sys = u.sys := rfl
    rw [same, sys]
    refine ⟨rfl, rfl, rfl, base, ?_, ref⟩
    show u.supply.sensorsOff = true
    rw [supply]
  case standby =>
    have time : (s.advance t).etc = max s.etc t := etc_awake t (by simp [standby])
    have row : doStandbyWake (s.advance t) = backToRun (watchdogWake (s.advance t)) := by
      unfold doStandbyWake
      rw [show (s.advance t).sys.mode = .standby from standby]
      exact if_neg some'
    have sys := backToRun_sys (watchdogWake (s.advance t))
    have since := (backToRun_rest (watchdogWake (s.advance t))).1
    refine yields_idle up idle rfl row (.inl ?_) ?_
    · rw [sys]
    generalize backToRun (watchdogWake (s.advance t)) = u at sys since
    have same : (settle u).sys = u.sys := rfl
    rw [same, sys]
    exact ⟨rfl, rfl, rfl, since.trans time⟩
  case wake =>
    have row : doSleepWake none (s.advance t) = wakeUp (s.advance t) := by
      unfold doSleepWake asleep
      rw [show (s.advance t).sys.mode = .waking from waking]
      exact if_neg pending
    obtain ⟨run, causes, quiet, locked⟩ := wakeUp_run (s.advance t)
    refine yields_idle up idle rfl row (.inl quiet) ?_
    generalize wakeUp (s.advance t) = u at run causes quiet locked
    exact ⟨run, and_not_eq_zero causes, quiet, locked⟩

end Sys2Proof.Machine
end

section
/-! What insertions, aims and cancellations answer and change (07_event_scheduler.md R226 to R237). -/

namespace Sys2Proof.Machine

/-! ## Insertion (R226) -/

section
variable (q : Nat) (w0 w1 w2 : Word) (s : State)

/-- The result of the first of steps 1 to 6 of R226 that refuses a request, 0 if none does. -/
def insertionCode : Nat :=
  let r := requestEvent q w0 w1 w2
  if s.flt.safe then 6
  else if w1 &&& 0xFC0000C0 ≠ 0 ∨ w2 &&& 0xFF000000 ≠ 0 ∨ 2 * s.nTeeth ≤ w0.toNat / 4096 ∨
    (r.next = false ∧ r.ctag ≠ s.evs.cycle % 256 ∧ r.ctag ≠ (s.evs.cycle + 1) % 256) then 2
  else if positioned s.whl.sync = false then 3
  else if s.channels ≤ r.ch then 4
  else if profileOk (s.profile r.prof) r.ch r.ont = false then 5
  else if freeAfter s 8192 s.evs.lastSlot = none then 1
  else 0

/-- Step 2 of R226, as the scheduler tests it. -/
theorem rangeRefused_iff :
    (reservedSet w1 w2 || !angValid s w0 || (!(requestEvent q w0 w1 w2).next &&
      (requestEvent q w0 w1 w2).ctag != curTag s && (requestEvent q w0 w1 w2).ctag != nextTag s)) = true ↔
    w1 &&& 0xFC0000C0 ≠ 0 ∨ w2 &&& 0xFF000000 ≠ 0 ∨ 2 * s.nTeeth ≤ w0.toNat / 4096 ∨
      ((requestEvent q w0 w1 w2).next = false ∧ (requestEvent q w0 w1 w2).ctag ≠ s.evs.cycle % 256 ∧
        (requestEvent q w0 w1 w2).ctag ≠ (s.evs.cycle + 1) % 256) := by
  unfold reservedSet angValid angInterval curTag nextTag
  simp only [Bool.or_eq_true, Bool.and_eq_true, Bool.not_eq_true', bne_iff_ne, decide_eq_false_iff_not, Nat.not_lt,
    ne_eq, or_assoc, and_assoc]
  rfl

/-- An examined insertion, step by step (R226). -/
theorem insertEvent_steps : insertEvent q w0 w1 w2 s =
    let r := requestEvent q w0 w1 w2
    if s.flt.safe then refuseInsertion 6 s
    else if w1 &&& 0xFC0000C0 ≠ 0 ∨ w2 &&& 0xFF000000 ≠ 0 ∨ 2 * s.nTeeth ≤ w0.toNat / 4096 ∨
      (r.next = false ∧ r.ctag ≠ s.evs.cycle % 256 ∧ r.ctag ≠ (s.evs.cycle + 1) % 256) then refuseInsertion 2 s
    else if positioned s.whl.sync = false then refuseInsertion 3 s
    else if s.channels ≤ r.ch then refuseInsertion 4 s
    else if profileOk (s.profile r.prof) r.ch r.ont = false then refuseInsertion 5 s
    else match freeAfter s 8192 s.evs.lastSlot with
      | none => refuseInsertion 1 (raise 201 { s with evs.tblFull := satInc 65535 s.evs.tblFull })
      | some i => placeEvent i r s := by
  unfold insertEvent
  simp only [rangeRefused_iff, Bool.not_eq_true'] <;> rfl

/-- A refused insertion (R226). -/
theorem insertEvent_refused (h : insertionCode q w0 w1 w2 s ≠ 0) : insertEvent q w0 w1 w2 s =
    refuseInsertion (insertionCode q w0 w1 w2 s) (if insertionCode q w0 w1 w2 s = 1 then
      raise 201 { s with evs.tblFull := satInc 65535 s.evs.tblFull } else s) := by
  rw [insertEvent_steps]
  unfold insertionCode at h ⊢
  dsimp only at h ⊢
  by_cases safe : s.flt.safe = true
  · simp only [if_pos safe]
    rfl
  simp only [if_neg safe] at h ⊢
  split at h
  case isTrue range =>
    simp only [if_pos range]
    rfl
  case isFalse range =>
  simp only [if_neg range] at h ⊢
  split at h
  case isTrue place =>
    simp only [if_pos place]
    rfl
  case isFalse place =>
  simp only [if_neg place] at h ⊢
  split at h
  case isTrue absent =>
    simp only [if_pos absent]
    rfl
  case isFalse absent =>
  simp only [if_neg absent] at h ⊢
  split at h
  case isTrue profile =>
    simp only [if_pos profile]
    rfl
  case isFalse profile =>
  simp only [if_neg profile] at h ⊢
  split at h
  case isTrue full =>
    simp only [full, if_true]
  case isFalse => exact absurd rfl h

/-- An insertion that no step refuses is placed (R226). -/
theorem insertEvent_placed (h : insertionCode q w0 w1 w2 s = 0) {k : Nat}
    (free : freeAfter s 8192 s.evs.lastSlot = some k) :
    insertEvent q w0 w1 w2 s = placeEvent k (requestEvent q w0 w1 w2) s := by
  rw [insertEvent_steps]
  unfold insertionCode at h
  dsimp only at h ⊢
  by_cases safe : s.flt.safe = true
  · rw [if_pos safe] at h
    cases h
  rw [if_neg safe] at h ⊢
  split at h
  · cases h
  case isFalse range =>
  rw [if_neg range]
  split at h
  · cases h
  case isFalse place =>
  rw [if_neg place]
  split at h
  · cases h
  case isFalse absent =>
  rw [if_neg absent]
  split at h
  · cases h
  case isFalse profile =>
  rw [if_neg profile, free]

end

/-- What the scheduler keeps of its events when a request outside the aim window takes slot `k` (R223, R226). -/
def Evs.placed (e : Evs) (k : Nat) (r : Event) : Evs :=
  { e with
    slots := e.slots.set {} k { r with seq := e.seq, state := .waiting }
    lastSlot := k, seq := wrapInc 16 e.seq, ins := wrapInc 32 e.ins
    pass := e.pass.filter (fun j => j != k), heldOver := e.heldOver.filter (fun j => j != k) }

theorem Evs.placed_slots (e : Evs) (k : Nat) (r : Event) :
    (e.placed k r).slots = e.slots.set {} k { r with seq := e.seq, state := .waiting } := rfl

/-- Steps 7 to 9 of R226 for an event with its tag and its slot's sequence number. -/
def placeTagged (i : Nat) (e : Event) (s : State) : State × Answer :=
  let near := inWindow s e && decide ((nearSlots s).length < 512)
  let e := if near then { e with proj := projectWord s e.target } else e
  if (if near then evLate s e else evPassed s e) then dropAtInsertion 7 1 0 i e s
  else match gateEvent s e with
    | 0 => (s.setSlot i { e with state := if near then .near else .waiting }, { res := 0, handle := handleOf i e.seq })
    | n => dropAtInsertion 8 7 n i e s

theorem placeTagged_waiting {i : Nat} {e : Event} {s : State} (out : inWindow s e = false) (early : evPassed s e = false)
    (gate : gateEvent s e = 0) : placeTagged i e s =
      (s.setSlot i { e with state := .waiting }, { res := 0, handle := handleOf i e.seq }) := by
  unfold placeTagged
  simp only [out, early, gate, Bool.false_and, Bool.false_eq_true, if_false]

theorem placeEvent_waiting {k : Nat} {e : Event} {s : State} (named : e.next = false) (out : inWindow s e = false)
    (early : evPassed s e = false) (gate : gateEvent s e = 0) :
    placeEvent k e s = ({ s with evs := s.evs.placed k e }, { res := 0, handle := handleOf k s.evs.seq }) := by
  have tagged : placeEvent k e s = placeTagged k { e with ctag := e.ctag, seq := s.evs.seq }
      (leavePass k { s with evs := { s.evs with
        lastSlot := k, seq := wrapInc 16 s.evs.seq, ins := wrapInc 32 s.evs.ins } }) := by
    unfold placeEvent
    dsimp only
    rw [if_neg (show ¬ e.next = true by rw [named]; decide)]
    rfl
  rw [tagged]
  refine (placeTagged_waiting ?_ ?_ ?_).trans rfl
  · exact out
  · exact early
  · exact gate

/-! ## Answers (R228) -/

/-- A request is examined: its context is answered, and the events are as the examination leaves them. -/
theorem answer_leaves {i : Nat} {r : State × Answer} {c : Ctx} {e : Evs} {res : Nat} {hd : Word} (ctx : r.1.ctx i = c)
    (evs : r.1.evs = e) (given : r.2 = { res := res, handle := hd }) (d b : Nat) (ins : Bool) :
    (settle (answer i d b ins r)).ctx i = { c with wait := .answered d b ins (BitVec.ofNat 32 res) hd none } ∧
      (settle (answer i d b ins r)).evs = e := by
  obtain ⟨v, a⟩ := r
  subst ctx evs given
  refine ⟨?_, rfl⟩
  have word : (Answer.mk res 0 hd none).word = BitVec.ofNat 32 res := by
    unfold Answer.word
    rw [Nat.zero_mul, Nat.add_zero]
  rw [← word]
  exact State.ctx_setCtx ..

theorem refused_leaves (c : Nat) (s : State) (i : Nat) :
    let r := refuseInsertion c (if c = 1 then raise 201 { s with evs.tblFull := satInc 65535 s.evs.tblFull } else s)
    r.1.evs = { s.evs with
        refuse := wrapInc 32 s.evs.refuse
        tblFull := if c = 1 then satInc 65535 s.evs.tblFull else s.evs.tblFull } ∧
      r.1.ctx i = s.ctx i ∧ r.2 = { res := c } := by
  unfold refuseInsertion
  split
  · rw [raise_frame]
    exact ⟨rfl, rfl, rfl⟩
  · exact ⟨rfl, rfl, rfl⟩

theorem pass_idle {s : State} (h : timeIdle s = true) : s.evs.pass = [] := by
  unfold timeIdle at h
  simp only [Bool.and_eq_true, List.isEmpty_iff] at h
  exact h.1.1

theorem freeAfter_of_slots {s u : State} (h : u.evs.slots = s.evs.slots) (n i : Nat) : freeAfter u n i = freeAfter s n i := by
  induction n generalizing i with
  | zero => rfl
  | succ n ih =>
    unfold freeAfter
    dsimp only
    rw [show u.slot ((i + 1) % 8192) = s.slot ((i + 1) % 8192) from by unfold State.slot; rw [h],
      ih]

/-- Neither time nor the turn changes what a request is refused for. -/
theorem insertionCode_served (q q' : Nat) (w0 w1 w2 : Word) (t : Tick) (s : State) :
    insertionCode q w0 w1 w2 (served q' (s.advance t)) = insertionCode q w0 w1 w2 s := by
  have slots : freeAfter (served q' (s.advance t)) 8192 s.evs.lastSlot = freeAfter s 8192 s.evs.lastSlot :=
    freeAfter_of_slots (by rfl) ..
  unfold insertionCode
  rw [show (served q' (s.advance t)).evs.lastSlot = s.evs.lastSlot from rfl, slots]
  rfl

/-- An insertion request is examined with the turn taken, and its context answered (R226, R228). -/
theorem insertion_answers {s : State} {q : Fin 16} {p : Fin 8} {d b : Nat} {w0 w1 w2 : Word} (h : Alive s)
    (wait : (s.ctx (8 * q.val + p.val)).wait = .insertion d b w0 w1 w2) (turn : hasTurn s q p = true) (t : Tick) :
    let i := 8 * q.val + p.val
    let r := requestEvent q w0 w1 w2
    let code := insertionCode q w0 w1 w2 s
    (code ≠ 0 → Yields (.eventInsertion t q p) s (fun u =>
      u.ctx i = { s.ctx i with wait := .answered d b true (BitVec.ofNat 32 code) 0 none } ∧
      u.evs = { s.evs with
        turn := q.val, refuse := wrapInc 32 s.evs.refuse
        tblFull := if code = 1 then satInc 65535 s.evs.tblFull else s.evs.tblFull })) ∧
    (∀ k, code = 0 → freeAfter s 8192 s.evs.lastSlot = some k → r.next = false → inWindow s r = false →
      evPassed (s.advance t) r = false → gateEvent s r = 0 →
      Yields (.eventInsertion t q p) s (fun u =>
        u.ctx i = { s.ctx i with wait := .answered d b true 0 (handleOf k s.evs.seq) none } ∧
        u.slot k = { r with seq := s.evs.seq, state := .waiting } ∧ (∀ m, m ≠ k → u.slot m = s.slot m) ∧
        u.evs = { s.evs with
          slots := u.evs.slots, turn := q.val, lastSlot := k, seq := wrapInc 16 s.evs.seq
          ins := wrapInc 32 s.evs.ins, heldOver := s.evs.heldOver.filter (fun m => m != k) })) := by
  have row : effect (.eventInsertion t q p) (s.advance (instant (.eventInsertion t q p))) =
      answer (8 * q.val + p.val) d b true (insertEvent q.val w0 w1 w2 (served q.val (s.advance t))) := by
    show doEventInsertion q.val p.val (s.advance t) = _
    have turn' : hasTurn (s.advance t) q.val p.val = true := turn
    unfold doEventInsertion
    rw [show ((s.advance t).ctx (8 * q.val + p.val)).wait = .insertion d b w0 w1 w2 from wait, turn']
  have same : insertionCode q.val w0 w1 w2 (served q.val (s.advance t)) = insertionCode q.val w0 w1 w2 s :=
    insertionCode_served ..
  have slots : freeAfter (served q.val (s.advance t)) 8192 s.evs.lastSlot = freeAfter s 8192 s.evs.lastSlot :=
    freeAfter_of_slots (by rfl) ..
  dsimp only
  generalize insertionCode q.val w0 w1 w2 s = code at same ⊢
  refine ⟨fun refused => ?_, fun k placed free named out early gate => ?_⟩
  · refine effect_of_advance row h rfl ?_
    have answer' := insertEvent_refused q.val w0 w1 w2 (served q.val (s.advance t)) (same.trans_ne refused)
    rw [same] at answer'
    obtain ⟨evs, ctx, given⟩ := refused_leaves code (served q.val (s.advance t)) (8 * q.val + p.val)
    rw [← answer'] at evs ctx given
    generalize insertEvent q.val w0 w1 w2 (served q.val (s.advance t)) = r at evs ctx given ⊢
    exact answer_leaves ctx evs given d b true
  · refine effect_of_advance row h rfl ?_
    have answer' := insertEvent_placed q.val w0 w1 w2 (served q.val (s.advance t)) (same.trans placed)
      (slots.trans free)
    rw [placeEvent_waiting named (by exact out) (by exact early) (by exact gate)] at answer'
    generalize insertEvent q.val w0 w1 w2 (served q.val (s.advance t)) = r at answer' ⊢
    have ctx : r.1.ctx (8 * q.val + p.val) = s.ctx (8 * q.val + p.val) := by rw [answer']; rfl
    have evs : r.1.evs = (served q.val (s.advance t)).evs.placed k (requestEvent q.val w0 w1 w2) := by rw [answer']
    have given : r.2 = { res := 0, handle := handleOf k s.evs.seq } := by rw [answer']; rfl
    obtain ⟨ctx, evs⟩ := answer_leaves ctx evs given d b true
    generalize settle (answer (8 * q.val + p.val) d b true r) = u at ctx evs ⊢
    refine ⟨ctx, ?_, fun m other => ?_, ?_⟩
    · unfold State.slot
      rw [evs, Evs.placed_slots]
      exact Table.get_set_same ..
    · unfold State.slot
      rw [evs, Evs.placed_slots]
      exact Table.get_set_other _ _ _ other
    · have idle := pass_idle h.2.2
      have kept : (served q.val (s.advance t)).evs.pass.filter (fun j => j != k) = s.evs.pass := by
        show s.evs.pass.filter _ = s.evs.pass
        rw [idle]
        rfl
      rw [evs]
      unfold Evs.placed
      rw [kept]
      rfl

/-! ## AIM and CANCEL (R235 to R237) -/

section
variable {q : Nat} {h w1 w2 : Word} {s : State}

theorem aimEvent_inSafe (safe : s.flt.safe = true) : aimEvent q h w1 w2 s = (s, { res := 6 }) := if_pos safe

theorem aimEvent_unknown (safe : s.flt.safe = false) (none : lookup q h s = none) :
    aimEvent q h w1 w2 s = (s, { res := 9 }) := by
  unfold aimEvent
  rw [safe, none]
  rfl

theorem aimEvent_late {k : Nat} (safe : s.flt.safe = false) (found : lookup q h s = some k)
    (waiting : (s.slot k).state ≠ .waiting) (near : (s.slot k).state ≠ .near) :
    aimEvent q h w1 w2 s = (s, { res := 10, handle := h }) := by
  unfold aimEvent
  rw [safe, found]
  simp only [Bool.false_eq_true, if_false]

theorem Event.with_state {e : Event} {x : EvState} (h : e.state = x) : { e with state := x } = e := by
  subst h
  rfl

/-- What an AIM with valid words does with the changed event (R235). -/
def aimChanged (i : Nat) (e : Event) (wasNear : Bool) (hd : Word) (s : State) : State × Answer :=
  let near := inWindow s e && (wasNear || decide ((nearSlots s).length < 512))
  let e := if near then { e with proj := projectWord s e.target } else e
  let s := leavePass i (s.setSlot i e)
  if (if near then evLate s e else evPassed s e) then (nearFill (dropEvent 2 0 i s), { res := 7, handle := hd })
  else match gateEvent s e with
    | 0 => (aimPlace i e wasNear near s, { res := 0, handle := hd })
    | n => (nearFill (dropEvent 7 n i s), { res := 8, detail := n, handle := hd })

theorem aimChanged_waiting {i : Nat} {e : Event} {hd : Word} (out : inWindow s e = false) (early : evPassed s e = false)
    (gate : gateEvent s e = 0) : aimChanged i e false hd s =
      ((leavePass i (s.setSlot i e)).setSlot i { e with state := .waiting }, { res := 0, handle := hd }) := by
  have early' : evPassed (leavePass i (s.setSlot i e)) e = false := early
  have gate' : gateEvent (leavePass i (s.setSlot i e)) e = 0 := gate
  unfold aimChanged
  simp only [out, Bool.false_and, Bool.false_eq_true, if_false, early', gate']
  rfl

theorem aimLive_valid {k : Nat} (plain : w2 &&& 0xFFFF0000 = 0) (valid : w1.toNat / 4096 < 2 * s.nTeeth)
    (onTime : onTimeOk (s.profile (s.slot k).prof) (signed 16 (w2.toNat % 65536)) = true) :
    aimLive k w1 w2 s = aimChanged k { s.slot k with target := w1, ont := signed 16 (w2.toNat % 65536) }
      ((s.slot k).state == .near) (handleOf k (s.slot k).seq) s := by
  have ont : bits w2.toNat 0 16 = w2.toNat % 65536 := by
    unfold bits
    rw [Nat.pow_zero, Nat.div_one, show 2 ^ 16 = 65536 from rfl]
  have range : ((w2 &&& 0xFFFF0000#32) != 0#32 || !angValid s w1) = false := by
    unfold angValid angInterval
    simp [valid, show w2 &&& 0xFFFF0000#32 = 0#32 from plain]
  unfold aimLive
  dsimp only
  rw [ont, range, onTime]
  rfl

theorem aimEvent_waiting {k : Nat} (safe : s.flt.safe = false) (found : lookup q h s = some k)
    (waiting : (s.slot k).state = .waiting) : aimEvent q h w1 w2 s = aimLive k w1 w2 s := by
  unfold aimEvent
  rw [safe, found]
  simp only [Bool.false_eq_true, if_false, waiting]

theorem cancelEvent_inSafe (safe : s.flt.safe = true) : cancelEvent q h s = (s, { res := 6 }) := if_pos safe

theorem cancelEvent_unknown (safe : s.flt.safe = false) (none : lookup q h s = none) :
    cancelEvent q h s = (s, { res := 9 }) := by
  unfold cancelEvent
  rw [safe, none]
  rfl

theorem cancelEvent_running {k : Nat} (safe : s.flt.safe = false) (found : lookup q h s = some k)
    (running : (s.slot k).state = .running) : cancelEvent q h s = (s, { res := 11, handle := h }) := by
  unfold cancelEvent
  rw [safe, found]
  simp only [Bool.false_eq_true, if_false, running]

theorem cancelEvent_waiting {k : Nat} (safe : s.flt.safe = false) (found : lookup q h s = some k)
    (waiting : (s.slot k).state = .waiting) : cancelEvent q h s = (cancelSlot k s, { res := 0, handle := h }) := by
  unfold cancelEvent
  rw [safe, found]
  simp only [Bool.false_eq_true, if_false, waiting]

end

theorem cancelSlot_waiting {k : Nat} {s : State} (waiting : (s.slot k).state = .waiting)
    (sound : (s.slot k).bad = false) : cancelSlot k s =
      { s with evs := { s.evs with slots := s.evs.slots.set {} k {}, cancels := wrapInc 32 s.evs.cancels } } := by
  unfold cancelSlot freeSlot
  dsimp only
  rw [show State.slot { s with evs.cancels := wrapInc 32 s.evs.cancels } k = s.slot k from rfl, waiting, sound]
  rfl

/-- Settles O22: each request is examined with the turn taken, and its context answered. -/
theorem schedulerAnswers : Obligations.SchedulerAnswers := by
  unfold Obligations.SchedulerAnswers
  refine ⟨fun s t q p d b w0 w1 w2 h wait turn => insertion_answers h wait turn t, fun s t q p d h w1 w2 alive turn => ?_⟩
  have turn' : hasTurn (s.advance t) q.val p.val = true := turn
  refine ⟨fun wait => ?aim, fun wait => ?cancel⟩
  case aim =>
    have row : effect (.eventAimRequest t q p) (s.advance (instant (.eventAimRequest t q p))) =
        answer (8 * q.val + p.val) d 0 false (aimEvent q.val h w1 w2 (served q.val (s.advance t))) := by
      show doEventAim q.val p.val (s.advance t) = _
      unfold doEventAim
      rw [show ((s.advance t).ctx (8 * q.val + p.val)).wait = .aim d h w1 w2 from wait, turn']
    refine ⟨fun safe => ?_, fun safe none => ?_, fun k safe found waiting near => ?_,
      fun k safe found waiting plain valid onTime out early gate => ?_⟩
    · rw [aimEvent_inSafe (by exact safe)] at row
      exact effect_of_advance row alive rfl (answer_leaves rfl rfl rfl d 0 false)
    · rw [aimEvent_unknown (by exact safe) (by exact none)] at row
      exact effect_of_advance row alive rfl (answer_leaves rfl rfl rfl d 0 false)
    · rw [aimEvent_late (by exact safe) (by exact found) (by exact waiting) (by exact near)] at row
      exact effect_of_advance row alive rfl (answer_leaves rfl rfl rfl d 0 false)
    · rw [aimEvent_waiting (by exact safe) (by exact found) (by exact waiting),
        aimLive_valid plain (by exact valid) (by exact onTime)] at row
      have still : (((served q.val (s.advance t)).slot k).state == EvState.near) = false := by
        rw [show (served q.val (s.advance t)).slot k = s.slot k from rfl, waiting]
        rfl
      rw [still, aimChanged_waiting (by exact out) (by exact early) (by exact gate)] at row
      refine effect_of_advance row alive rfl ⟨(answer_leaves rfl rfl rfl d 0 false).1, ?_, fun m other => ?_⟩
      · exact (State.slot_setSlot ..).trans (Event.with_state (e := { s.slot k with
          target := w1, ont := signed 16 (w2.toNat % 65536) }) waiting)
      · exact (State.slot_setSlot_other _ _ other).trans (State.slot_setSlot_other _ _ other)
  case cancel =>
    have row : effect (.eventCancelRequest t q p) (s.advance (instant (.eventCancelRequest t q p))) =
        answer (8 * q.val + p.val) d 0 false (cancelEvent q.val h (served q.val (s.advance t))) := by
      show doEventCancel q.val p.val (s.advance t) = _
      unfold doEventCancel
      rw [show ((s.advance t).ctx (8 * q.val + p.val)).wait = .cancel d h from wait, turn']
    refine ⟨fun safe => ?_, fun safe none => ?_, fun k safe found running => ?_, fun k safe found waiting sound => ?_⟩
    · rw [cancelEvent_inSafe (by exact safe)] at row
      exact effect_of_advance row alive rfl (answer_leaves rfl rfl rfl d 0 false)
    · rw [cancelEvent_unknown (by exact safe) (by exact none)] at row
      exact effect_of_advance row alive rfl (answer_leaves rfl rfl rfl d 0 false)
    · rw [cancelEvent_running (by exact safe) (by exact found) (by exact running)] at row
      exact effect_of_advance row alive rfl (answer_leaves rfl rfl rfl d 0 false)
    · rw [cancelEvent_waiting (by exact safe) (by exact found) (by exact waiting),
        cancelSlot_waiting (by exact waiting) (by exact sound)] at row
      exact effect_of_advance row alive rfl (answer_leaves rfl rfl rfl d 0 false)

end Sys2Proof.Machine
end

section
/-! Starts of profiles whose slot is lost (07_event_scheduler.md R247, R248; 10_actuator_drive.md R324): an event whose
withdrawal after a table error came too late starts from the edge unit's copy, and its slot is quarantined. -/

namespace Sys2Proof.Machine

/-- A module in RUN in which channel 0 holds an armed event at its frozen time; a word of its slot 0 is lost (R247). -/
def startFromLostSlot : State :=
  { State.reset with
    sys.mode := .run
    supply.state := .main
    evs.slots := [(0, { state := .armed, bad := true })] }

set_option maxRecDepth 20000 in
theorem slot_startFromLostSlot :
    (match exec (.profileStart 0 0) startFromLostSlot with
      | .next u => (u.slot 0).state
      | _ => .free) = .quarantined := by
  rfl

/-- Refutes O23: the start of an event with a lost word leaves its slot QUARANTINED (R248), where the statement has it
RUNNING whatever the slot has lost. -/
theorem not_commitStartAndTableErrors : ¬ Obligations.CommitStartAndTableErrors := by
  unfold Obligations.CommitStartAndTableErrors
  rintro ⟨-, start, -⟩
  have alive : Alive startFromLostSlot := by decide
  have alone : Unshared startFromLostSlot 0 := by decide
  obtain ⟨u, hu, -, -, -, -, -, -, -, -, -, -, slot, -⟩ :=
    start startFromLostSlot 0 0 0 { state := .armed, bad := true } alive alone (by decide) (by decide) (by decide)
  have quarantined := slot_startFromLostSlot
  rw [hu] at quarantined
  have running : (u.slot 0).state = .running := congrArg Event.state slot
  exact absurd (running.symm.trans quarantined) (by decide)

end Sys2Proof.Machine
end

section
/-! The phases of a profile and the sharing of a bank's rails (10_actuator_drive.md R319, R325 to R330, R340 to R343). -/

namespace Sys2Proof.Machine

/-! ## Kettles keep what is reserved (R338) -/

theorem ktEnter_res (k : Nat) (st : KtState) (s : State) (j : Nat) :
    ((ktEnter k st s).kettle j).res = (s.kettle j).res := by
  by_cases e : j = k
  · subst e
    unfold ktEnter
    dsimp only
    split
    · rw [State.kettle_setKettle]
    · rw [(raise_pieces ..).2.2.1]
      split <;> simp [kcStop_kettle]
  · rw [ktEnter_kettle_other e]

theorem ktPassed_res (k i : Nat) (s : State) (j : Nat) : ((ktPassed k i s).kettle j).res = (s.kettle j).res := by
  have set (q : Kettle) (h : q.res = (s.kettle k).res) : ((s.setKettle k q).kettle j).res = (s.kettle j).res := by
    by_cases e : j = k
    · subst e
      rw [State.kettle_setKettle, h]
    · rw [State.kettle_setKettle_other _ _ e]
  unfold ktPassed
  dsimp only
  split
  · rfl
  · have waits := set { s.kettle k with waitFor := (s.kettle k).waitFor.filter (fun j => j != i) } rfl
    generalize hu : s.setKettle k _ = u at waits ⊢
    have own : (u.kettle k).res = (s.kettle k).res := by rw [← hu, State.kettle_setKettle]
    unfold ktTargetNow
    dsimp only
    split
    · rw [ktUpdate, ktEnter_res, ← waits]
      by_cases e : j = k
      · subst e
        rw [State.kettle_setKettle]
      · rw [State.kettle_setKettle_other _ _ e]
    · exact waits

/-! ## One channel is written -/

/-- Outside channel `k` no channel has changed, nor how a bank's rails are shared. -/
structure Sole (k : Nat) (s u : State) : Prop where
  others : ∀ j, j ≠ k → u.chan j = s.chan j
  banked : ∀ b, (u.bank b).banked = (s.bank b).banked

namespace Sole
variable {k : Nat} {s u : State}

theorem refl (s : State) : Sole k s s := ⟨fun _ _ => rfl, fun _ => rfl⟩

theorem trans {v : State} (h : Sole k s u) (g : Sole k u v) : Sole k s v :=
  ⟨fun j e => (g.others j e).trans (h.others j e), fun b => (g.banked b).trans (h.banked b)⟩

theorem setChan (h : Sole k s u) (c : Chan) : Sole k s (u.setChan k c) :=
  h.trans ⟨fun _ e => State.chan_setChan_other _ _ e, fun _ => rfl⟩

theorem setBank (h : Sole k s u) {b : Nat} {c : BankSt} (same : c.banked = (u.bank b).banked) :
    Sole k s (u.setBank b c) := by
  refine h.trans ⟨fun _ _ => rfl, fun a => ?_⟩
  by_cases e : a = b
  · subst e
    rw [State.bank_setBank, same]
  · rw [State.bank_setBank_other _ _ e]

theorem bankEdge (h : Sole k s u) (b : Nat) (x : Tick) : Sole k s (bankEdge b x u) := h.setBank rfl

theorem raise (h : Sole k s u) (n : Nat) : Sole k s (raise n u) :=
  h.trans ⟨fun _ _ => (raise_pieces ..).1, fun _ => by rw [(raise_pieces ..).2.1]⟩

theorem of_within {A : Move → Prop} (h : Within A s u) (hc : ∀ j, ¬ A (.chan j)) (hb : ∀ b, ¬ A (.bank b)) : Sole k s u :=
  ⟨fun j _ => h.chan_eq (hc j), fun b => by rw [h.bank_eq (hb b)]⟩

theorem unshared (h : Sole k s u) (alone : Unshared s k) : Unshared u k := by
  refine alone.imp (fun off => (h.banked _).trans off) fun idle j e => ?_
  rw [running_of_chan (h.others _ e)]
  exact idle j e

end Sole

theorem bankEdge_chan (b : Nat) (x : Tick) (s : State) (j : Nat) : (bankEdge b x s).chan j = s.chan j := rfl

section
variable (k n : Nat) (s : State)

theorem measure_chan : (measure k n s).chan k =
    { s.chan k with current := sat 8191 n, lastPeak := max (s.chan k).lastPeak (sat 8191 n) } :=
  State.chan_setChan s k _

theorem measure_sole : Sole k s (measure k n s) := ((Sole.refl s).setChan _).setBank rfl

/-- What a channel keeps of its PEAK when it is over (R326, R338, R345). -/
def Chan.drawn (c : Chan) (n : Nat) : Chan :=
  { c with ev := { c.ev with reserve := 0 }, eboost := if c.peakSel = 1 then (c.eboost + n) % 2 ^ 64 else c.eboost }

theorem peakOver_chan : (peakOver k n s).chan k = (s.chan k).drawn n := by
  unfold peakOver
  dsimp only
  rw [(ktPassed_within _ _ _).chan_eq (fun h => h), State.chan_setChan]
  rfl

theorem peakOver_sole : Sole k s (peakOver k n s) := by
  have released : Sole k s (ktRelease (ktOf (bankOf k)) (s.chan k).ev.reserve s) :=
    .of_within (ktRelease_within ..) (fun _ h => h) (fun _ h => h)
  exact (released.setChan _).trans (.of_within (ktPassed_within ..) (fun _ h => h) (fun _ h => h))

theorem peakOver_res : ((peakOver k n s).kettle (k / 16)).res = (s.kettle (k / 16)).res - (s.chan k).ev.reserve := by
  have place : ktOf (bankOf k) = k / 16 := Nat.div_div_eq_div_mul k 8 2
  unfold peakOver
  dsimp only
  rw [ktPassed_res, ← place]
  exact congrArg Kettle.res (State.kettle_setKettle ..)

theorem toTransition_chan (x : Tick) (reached : Bool) : (toTransition k x reached n s).chan k =
    { (s.chan k).drawn n with
      phase := .transition, phaseAt := x, switchAt := x, feedOn := false, peakOk := reached } := by
  unfold toTransition
  dsimp only
  rw [peakOver_chan, bankEdge_chan, State.chan_setChan]

theorem toTransition_sole (x : Tick) (reached : Bool) : Sole k s (toTransition k x reached n s) :=
  ((peakOver_sole k n s).setChan _).bankEdge ..

theorem toTransition_res (x : Tick) (reached : Bool) : ((toTransition k x reached n s).kettle (k / 16)).res =
    (s.kettle (k / 16)).res - (s.chan k).ev.reserve := peakOver_res k n s

end

/-! ## Rails no other profile claims (R340, R342) -/

theorem bankOf_place {b i : Nat} (h : i < 8) : bankOf (8 * b + i) = b := by
  unfold bankOf
  omega

/-- Where no other profile shares the rails, no channel of the bank yields. -/
theorem yields_of_unshared {s : State} {k i : Nat} (alone : Unshared s k) (hi : i < 8) :
    yields s (8 * bankOf k + i) = false := by
  unfold yields
  rw [bankOf_place hi]
  rcases alone with off | idle
  · rw [show (s.bank (bankOf k)).banked = false from off]
    rfl
  · by_cases e : 8 * bankOf k + i = k
    · have none : (List.range 8).any (fun j => running s (8 * bankOf k + j) &&
          yieldsTo s (8 * bankOf k + i) (8 * bankOf k + j)) = false := by
        rw [List.any_eq_false]
        intro j hj
        by_cases same : 8 * bankOf k + j = k
        · unfold yieldsTo
          simp [e, same]
        · rw [show running s (8 * bankOf k + j) = false from idle ⟨j, List.mem_range.mp hj⟩ same,
            Bool.false_and]
          exact Bool.false_ne_true
      rw [none, Bool.and_false]
    · rw [show running s (8 * bankOf k + i) = false from idle ⟨i, hi⟩ e, Bool.and_false, Bool.false_and]

/-- Channels have their rail back, and nothing else has changed. -/
structure Eased (s u : State) : Prop where
  chans : ∀ j, ∃ w x, u.chan j = { s.chan j with withheld := w, switchAt := x }
  rest : u = { s with act := { s.act with ch := u.act.ch } }

theorem Eased.refl (s : State) : Eased s s := ⟨fun _ => ⟨_, _, rfl⟩, rfl⟩

theorem Eased.trans {s u v : State} (h : Eased s u) (g : Eased u v) : Eased s v := by
  refine ⟨fun j => ?_, ?_⟩
  · obtain ⟨w, x, hu⟩ := h.chans j
    obtain ⟨w', x', hv⟩ := g.chans j
    exact ⟨w', x', by rw [hv, hu]⟩
  · rw [g.rest, h.rest]

theorem Eased.unshared {s u : State} {k : Nat} (h : Eased s u) (alone : Unshared s k) : Unshared u k := by
  refine alone.imp (fun off => ?_) fun idle j e => ?_
  · rw [h.rest]
    exact off
  · obtain ⟨w, x, hu⟩ := h.chans (8 * (k / 8) + j.val)
    have same := idle j e
    unfold running at *
    rw [hu]
    exact same

theorem yieldStep_eased {s : State} {j : Nat} (x : Tick) (h : yields s j = false) : Eased s (yieldStep x j s) := by
  unfold yieldStep
  dsimp only
  rw [if_neg (by rw [h]; decide)]
  split
  · refine ⟨fun i => ?_, rfl⟩
    by_cases e : i = j
    · subst e
      exact ⟨_, _, State.chan_setChan ..⟩
    · exact ⟨_, _, State.chan_setChan_other _ _ e⟩
  · exact .refl s

theorem arbitrate_eased {s : State} {k : Nat} (x : Tick) (alone : Unshared s k) : Eased s (arbitrate (bankOf k) x s) := by
  have all (l : List Nat) (hl : ∀ a ∈ l, ∃ i < 8, a = 8 * bankOf k + i) (u : State) (h : Unshared u k) :
      Eased u (forEach l (yieldStep x) u) := by
    induction l generalizing u with
    | nil => exact .refl u
    | cons a l ih =>
      obtain ⟨i, hi, rfl⟩ := hl a List.mem_cons_self
      have first := yieldStep_eased x (yields_of_unshared h hi)
      exact first.trans (ih (fun b hb => hl b (List.mem_cons_of_mem _ hb)) _ (first.unshared h))
  refine all _ (fun a ha => ?_) s alone
  obtain ⟨i, hi, rfl⟩ := List.mem_map.mp ha
  exact ⟨i, List.mem_range.mp hi, rfl⟩

/-! ## The turn-off (R319, R329) -/

theorem beginCapture_rest (k : Nat) (off : Tick) (s : State) : (beginCapture k off s).act = s.act := by
  have busy (i : Nat) (u : State) : (digitiserBusy i u).act = u.act := rfl
  unfold beginCapture
  dsimp only
  split
  · rfl
  · split
    · split
      · rw [busy]; rfl
      · rfl
    · rfl

theorem turnOff_sole {k : Nat} (off : Tick) (cause n : Nat) (s : State) : Sole k s (turnOff k off cause n s) := by
  have drawn : Sole k s (if (s.chan k).phase = .peak then
      (peakOver k n s).setChan k { (peakOver k n s).chan k with peakOk := false } else s) := by
    split
    · exact (peakOver_sole k n s).setChan _
    · exact .refl s
  unfold turnOff
  dsimp only
  generalize (if (s.chan k).phase = .peak then _ else s : State) = u at drawn ⊢
  refine ((drawn.setChan _).bankEdge (bankOf k) off).trans ⟨fun j _ => beginCapture_chan .., fun b => ?_⟩
  show (Table.get {} (beginCapture k off _).act.bank b).banked = _
  rw [beginCapture_rest]
  rfl

theorem turnOff_peakOk {k : Nat} (off : Tick) (cause n : Nat) {s : State} (peak : (s.chan k).phase = .peak) :
    ((turnOff k off cause n s).chan k).peakOk = false := by
  unfold turnOff
  dsimp only
  rw [beginCapture_chan, if_pos peak, bankEdge_chan, State.chan_setChan, State.chan_setChan]

section
variable {s : State} {k : Nat}

theorem doPeakEnd_reached {cur uj : Nat} (peak : (s.chan k).phase = .peak) (enough : (s.chan k).ev.copy.iPeak ≤ cur) :
    doPeakEnd k cur uj s = arbitrate (bankOf k) s.etc (toTransition k s.etc true uj (measure k cur s)) :=
  if_pos ⟨peak, enough⟩

theorem doPeakTimeout_late {cur uj : Nat} (peak : (s.chan k).phase = .peak)
    (late : (s.chan k).start + (s.chan k).ev.copy.tPeakMax * ticksPerUs ≤ s.etc)
    (before : (s.chan k).start + (s.chan k).ev.copy.tPeakMax * ticksPerUs < (s.chan k).offAt)
    (below : cur < (s.chan k).ev.copy.iPeak) :
    let x := (s.chan k).start + (s.chan k).ev.copy.tPeakMax * ticksPerUs
    let v := toTransition k x false uj (measure k cur s)
    doPeakTimeout k cur uj s = arbitrate (bankOf k) x (raise (48 + k) (v.setChan k { v.chan k with
      peakTmo := satInc 255 (v.chan k).peakTmo })) := if_pos ⟨peak, late, before, below⟩

/-- TRANSITION ends at its longest, or where the current has fallen (R327). -/
theorem doTransitionEnd_ends {cur : Nat} (phase : (s.chan k).phase = .transition)
    (ends : (s.chan k).phaseAt + (s.chan k).ev.copy.tTrMax * ticksPerUs ≤ s.etc ∨ cur ≤ (s.chan k).ev.copy.iHold) :
    doTransitionEnd k cur s = toSteep k
      (if (s.chan k).phaseAt + (s.chan k).ev.copy.tTrMax * ticksPerUs ≤ s.etc then
        (s.chan k).phaseAt + (s.chan k).ev.copy.tTrMax * ticksPerUs else s.etc) (measure k cur s) := by
  unfold doTransitionEnd
  dsimp only
  rw [if_neg (not_not.mpr phase)]
  split
  case isTrue late => rfl
  case isFalse early => exact if_pos (ends.resolve_left early)

end

/-- The channel in STEEP, but for what its bank makes of the rail (R327). -/
theorem toSteep_chan {k : Nat} {s : State} (x : Tick) (alone : Unshared s k) : let c := (toSteep k x s).chan k
    c.phase = .steep ∧ c.feedOn = true ∧ c.dither = 0 ∧ c.phaseAt = x := by
  have begun := Sole.bankEdge (k := k) ((Sole.refl s).setChan { s.chan k with
    phase := .steep, phaseAt := x, switchAt := x, feedOn := true, dither := 0 }) (bankOf k) x
  obtain ⟨w, y, here⟩ := (arbitrate_eased x (begun.unshared alone)).chans k
  unfold toSteep
  dsimp only
  rw [here]
  rw [bankEdge_chan, State.chan_setChan]
  exact ⟨rfl, rfl, rfl, rfl⟩

theorem sat_eq_min (m n : Nat) : sat m n = min n m := by
  unfold sat
  split <;> omega

/-- PEAK ends and TRANSITION begins, where no other profile shares the rails (R326, R327). -/
theorem peak_ends {k cur uj : Nat} {s : State} (x : Tick) (reached : Bool) {v : State} (alone : Unshared s k)
    (sole : Sole k (toTransition k x reached uj (measure k cur s)) v)
    (kettle : v.act.kt = (toTransition k x reached uj (measure k cur s)).act.kt) :
    let c := (arbitrate (bankOf k) x v).chan k
    c.phase = (v.chan k).phase ∧ c.feedOn = (v.chan k).feedOn ∧ c.phaseAt = (v.chan k).phaseAt ∧
      c.peakOk = (v.chan k).peakOk ∧ c.current = (v.chan k).current ∧ c.eboost = (v.chan k).eboost ∧
      c.peakTmo = (v.chan k).peakTmo ∧
      ((arbitrate (bankOf k) x v).kettle (k / 16)).res = (s.kettle (k / 16)).res - (s.chan k).ev.reserve := by
  have all := ((measure_sole k cur s).trans (toTransition_sole k uj _ x reached)).trans sole
  obtain ⟨chans, rest⟩ := arbitrate_eased x (all.unshared alone)
  obtain ⟨w, y, after⟩ := chans k
  have res := toTransition_res k uj (measure k cur s) x reached
  have reserve : ((measure k cur s).chan k).ev = (s.chan k).ev := by rw [measure_chan]
  rw [reserve] at res
  have kettle' : (arbitrate (bankOf k) x v).kettle (k / 16) =
      (toTransition k x reached uj (measure k cur s)).kettle (k / 16) := by
    unfold State.kettle
    rw [rest, ← kettle]
  rw [kettle', res, after]
  exact ⟨rfl, rfl, rfl, rfl, rfl, rfl, rfl, rfl⟩

/-- The channel as the end of its PEAK leaves it. -/
theorem toTransition_measured (k cur uj : Nat) (s : State) (x : Tick) (reached : Bool) :
    let c := (toTransition k x reached uj (measure k cur s)).chan k
    c.phase = .transition ∧ c.feedOn = false ∧ c.phaseAt = x ∧ c.peakOk = reached ∧ c.current = min cur 8191 ∧
      c.eboost = (if (s.chan k).peakSel = 1 then ((s.chan k).eboost + uj) % 2 ^ 64 else (s.chan k).eboost) ∧
      c.peakTmo = (s.chan k).peakTmo := by
  rw [toTransition_chan, measure_chan]
  exact ⟨rfl, rfl, rfl, rfl, sat_eq_min .., rfl, rfl⟩

/-- The channel as its turn-off leaves it, where no other profile shares the rails (R319, R329). -/
theorem doTurnOffInstant_ends {k cur uj : Nat} {s : State} (alone : Unshared s k) (runs : running s k = true)
    (due : (s.chan k).offAt ≤ s.etc) (within : (s.chan k).offAt ≤ (s.chan k).start + (s.chan k).ev.onMax * 80) :
    let c := (doTurnOffInstant k cur uj s).chan k
    c.phase = .turnOff ∧ c.lastEnd = 1 ∧ c.feedOn = false ∧ c.lastOff = some (s.chan k).offAt ∧
      ((s.chan k).phase = .peak → c.peakOk = decide ((s.chan k).ev.copy.iPeak ≤ cur)) := by
  have measured : ((measure k cur s).chan k).phase = (s.chan k).phase := by rw [measure_chan]
  obtain ⟨phase, last, feed, off⟩ := turnOff_chan k (s.chan k).offAt 1 (measure k cur s) uj
  have ok (peak : (s.chan k).phase = .peak) :=
    turnOff_peakOk (k := k) (s.chan k).offAt 1 uj (s := measure k cur s) (measured.trans peak)
  have sole := (measure_sole k cur s).trans (turnOff_sole (s.chan k).offAt 1 uj (measure k cur s))
  unfold doTurnOffInstant
  dsimp only
  rw [runs, decide_eq_true due, decide_eq_true within, if_pos (by rfl)]
  generalize turnOff k (s.chan k).offAt 1 uj (measure k cur s) = w at phase last feed off ok sole ⊢
  generalize hv : (if (s.chan k).phase = .peak ∧ (_ || _) = true then _ else w : State) = v
  have after : Sole k s v ∧ (v.chan k).phase = .turnOff ∧ (v.chan k).lastEnd = 1 ∧ (v.chan k).feedOn = false ∧
      (v.chan k).lastOff = some (s.chan k).offAt ∧
      ((s.chan k).phase = .peak → (v.chan k).peakOk = decide ((s.chan k).ev.copy.iPeak ≤ cur)) := by
    subst hv
    split
    case isTrue reached =>
      obtain ⟨peak, enough⟩ := reached
      rw [State.chan_setChan]
      refine ⟨sole.setChan _, phase, last, feed, off, fun _ => ?_⟩
      rw [peak] at enough
      exact (enough.symm : _)
    case isFalse missed =>
      refine ⟨sole, phase, last, feed, off, fun peak => ?_⟩
      rw [ok peak]
      refine (decide_eq_false fun enough => missed ⟨peak, ?_⟩).symm
      rw [decide_eq_true enough, Bool.or_true]
  clear hv
  obtain ⟨sole, phase, last, feed, off, ok⟩ := after
  obtain ⟨y, x, here⟩ := (arbitrate_eased (s.chan k).offAt (sole.unshared alone)).chans k
  rw [here]
  exact ⟨phase, last, feed, off, ok⟩

theorem bankMode_keeps (b : Nat) (s : State) : (∀ k, (bankMode b s).chan k = s.chan k) ∧ (bankMode b s).evs = s.evs := by
  unfold bankMode
  dsimp only
  split
  · exact ⟨fun _ => rfl, rfl⟩
  · split
    · exact ⟨fun _ => rfl, rfl⟩
    · exact ⟨fun _ => (raise_pieces ..).1, by rw [raise_frame]; rfl⟩

theorem captureRecovered_keeps (k : Nat) (s : State) :
    (∀ j, (captureRecovered k s).chan j = s.chan j) ∧ (captureRecovered k s).evs = s.evs := by
  unfold captureRecovered
  dsimp only
  split
  · split
    · exact ⟨fun _ => rfl, rfl⟩
    · exact ⟨fun _ => rfl, rfl⟩
  · exact ⟨fun _ => rfl, rfl⟩

/-- A started event leaves its slot (R220, R248). -/
theorem freeSlot_running {i : Nat} {s : State} (h : (s.slot i).state = .running) :
    freeSlot i s = s.setSlot i (if (s.slot i).bad then { state := .quarantined } else {}) := by
  unfold freeSlot
  dsimp only
  rw [h]

/-- The end of TURN-OFF: the channel is idle, and the slot FREE unless it is lost (R220, R248, R329). -/
theorem doTurnOffComplete_ends {k cur : Nat} {s : State} (phase : (s.chan k).phase = .turnOff) (low : cur < 10) :
    let u := doTurnOffComplete k cur s
    let i := (s.chan k).evSlot
    (u.chan k).phase = .idle ∧ (u.chan k).idleAt = s.etc ∧
      ((s.slot i).state = .running → (s.slot i).seq = (s.chan k).ev.seq → (s.slot i).ch = k →
        u.slot i = if (s.slot i).bad then { state := .quarantined } else {}) ∧
      ((s.slot i).state = .quarantined → u.slot i = s.slot i) := by
  have tail (v : State) (x : Tick) (j : Nat) : let u := bankMode (bankOf k) (captureRecovered k (bankEdge (bankOf k) x v))
      u.chan j = v.chan j ∧ u.evs = v.evs := by
    obtain ⟨chan, evs⟩ := bankMode_keeps (bankOf k) (captureRecovered k (bankEdge (bankOf k) x v))
    obtain ⟨chan', evs'⟩ := captureRecovered_keeps k (bankEdge (bankOf k) x v)
    exact ⟨(chan j).trans (chan' j), evs.trans evs'⟩
  unfold doTurnOffComplete
  dsimp only
  rw [if_pos ⟨phase, low⟩]
  generalize hw : (measure k cur s).setChan k _ = w
  have slot (i : Nat) : w.slot i = s.slot i := by rw [← hw]; rfl
  have chan : (w.chan k).phase = .idle ∧ (w.chan k).idleAt = s.etc := by
    rw [← hw, State.chan_setChan]
    exact ⟨rfl, rfl⟩
  rw [slot]
  split
  case isTrue own =>
    obtain ⟨runs, -, -⟩ := own
    obtain ⟨same, evs⟩ := tail (freeSlot (s.chan k).evSlot w) (freeSlot (s.chan k).evSlot w).etc k
    rw [freeSlot_running ((congrArg Event.state (slot _)).trans runs), slot] at same evs ⊢
    refine ⟨by rw [same]; exact chan.1, by rw [same]; exact chan.2, fun _ _ _ => ?_, fun lost => ?_⟩
    · show Table.get {} (State.evs _).slots _ = _
      rw [evs]
      exact State.slot_setSlot ..
    · rw [runs] at lost
      cases lost
  case isFalse other =>
    obtain ⟨same, evs⟩ := tail w w.etc k
    refine ⟨by rw [same]; exact chan.1, by rw [same]; exact chan.2, fun runs seq ch => ?_, fun _ => ?_⟩
    · exact absurd ⟨runs, seq, ch⟩ other
    · refine Eq.trans ?_ (slot _)
      unfold State.slot
      rw [evs]

section
variable {s : State} {k : Fin 64} {t : Tick} {cur uj : Nat} (h : Alive s)
include h

theorem peakEnd_answers (alone : Unshared s k) (peak : (s.chan k).phase = .peak)
    (enough : (s.chan k).ev.copy.iPeak ≤ cur) : Yields (.peakEnd t k cur uj) s (fun u =>
      (u.chan k).phase = .transition ∧ (u.chan k).feedOn = false ∧ (u.chan k).phaseAt = max s.etc t ∧
      (u.chan k).peakOk = true ∧ (u.chan k).current = min cur 8191 ∧
      (u.chan k).eboost = (if (s.chan k).peakSel = 1 then ((s.chan k).eboost + uj) % 2 ^ 64 else (s.chan k).eboost) ∧
      (u.kettle (k.val / 16)).res = (s.kettle (k.val / 16)).res - (s.chan k).ev.reserve) := by
  have time := etc_alive t h
  have alone' : Unshared (s.advance t) k := alone
  have row : effect (.peakEnd t k cur uj) (s.advance (instant (.peakEnd t k cur uj))) = _ :=
    doPeakEnd_reached (s := s.advance t) (k := k.val) (uj := uj) peak enough
  refine effect_of_advance row h rfl ?_
  obtain ⟨phase', feed', at', ok', current', boost', -, res⟩ :=
    peak_ends (uj := uj) (cur := cur) (s.advance t).etc true alone' (.refl _) rfl
  obtain ⟨phase, feed, at_, ok, current, boost, -⟩ :=
    toTransition_measured k.val cur uj (s.advance t) (s.advance t).etc true
  generalize toTransition k.val (s.advance t).etc true uj (measure k.val cur (s.advance t)) = v at *
  generalize arbitrate (bankOf k) (s.advance t).etc v = u at *
  exact ⟨phase'.trans phase, feed'.trans feed, (at'.trans at_).trans time, ok'.trans ok, current'.trans current,
    boost'.trans boost, res⟩

theorem peakTimeout_answers (alone : Unshared s k) (peak : (s.chan k).phase = .peak)
    (late : (s.chan k).start + (s.chan k).ev.copy.tPeakMax * ticksPerUs ≤ max s.etc t)
    (before : (s.chan k).start + (s.chan k).ev.copy.tPeakMax * ticksPerUs < (s.chan k).offAt)
    (below : cur < (s.chan k).ev.copy.iPeak) : Yields (.peakTimeout t k cur uj) s (fun u =>
      (u.chan k).phase = .transition ∧ (u.chan k).feedOn = false ∧
      (u.chan k).phaseAt = (s.chan k).start + (s.chan k).ev.copy.tPeakMax * ticksPerUs ∧ (u.chan k).peakOk = false ∧
      (u.chan k).peakTmo = satInc 255 (s.chan k).peakTmo) := by
  have time := etc_alive t h
  have alone' : Unshared (s.advance t) k := alone
  have row : effect (.peakTimeout t k cur uj) (s.advance (instant (.peakTimeout t k cur uj))) = _ :=
    doPeakTimeout_late (s := s.advance t) (k := k.val) (uj := uj) peak (by rw [time]; exact late) before below
  refine effect_of_advance row h rfl ?_
  have keep : (s.advance t).chan k.val = s.chan k.val := rfl
  rw [keep]
  obtain ⟨phase, feed, at_, ok, -, -, tmo⟩ := toTransition_measured k.val cur uj (s.advance t)
    ((s.chan k.val).start + (s.chan k.val).ev.copy.tPeakMax * ticksPerUs) false
  generalize hx : (s.chan k.val).start + (s.chan k.val).ev.copy.tPeakMax * ticksPerUs = x at *
  have sole (v : State) (c : Chan) : Sole k.val v (raise (48 + k.val) (v.setChan k.val c)) :=
    ((Sole.refl v).setChan c).raise _
  obtain ⟨phase', feed', at', ok', -, -, tmo', -⟩ := peak_ends (uj := uj) (cur := cur) x false alone' (sole _ {
    (toTransition k.val x false uj (measure k.val cur (s.advance t))).chan k.val with
    peakTmo := satInc 255 ((toTransition k.val x false uj (measure k.val cur (s.advance t))).chan k.val).peakTmo })
    (by rw [(raise_blocks ..).2.2.2.2.2.2.2.2.2.2.2.2.2.1]; rfl)
  rw [(raise_pieces ..).1, State.chan_setChan] at phase' feed' at' ok' tmo'
  generalize toTransition k.val x false uj (measure k.val cur (s.advance t)) = v at *
  generalize arbitrate (bankOf k) x _ = u at *
  exact ⟨phase'.trans phase, feed'.trans feed, at'.trans at_, ok'.trans ok, tmo'.trans (congrArg (satInc 255) tmo)⟩

theorem transitionEnd_answers (alone : Unshared s k) (phase : (s.chan k).phase = .transition)
    (ends : (s.chan k).phaseAt + (s.chan k).ev.copy.tTrMax * ticksPerUs ≤ max s.etc t ∨
      cur ≤ (s.chan k).ev.copy.iHold) : Yields (.transitionEnd t k cur) s (fun u =>
      (u.chan k).phase = .steep ∧ (u.chan k).feedOn = true ∧ (u.chan k).dither = 0 ∧
      (u.chan k).phaseAt = (if (s.chan k).phaseAt + (s.chan k).ev.copy.tTrMax * ticksPerUs ≤ max s.etc t then
        (s.chan k).phaseAt + (s.chan k).ev.copy.tTrMax * ticksPerUs else max s.etc t)) := by
  have time := etc_alive t h
  have measured := (measure_sole k.val cur (s.advance t)).unshared (k := k.val) (by exact alone)
  have row : doTransitionEnd k.val cur (s.advance t) = _ :=
    doTransitionEnd_ends (s := s.advance t) (k := k.val) phase (by rw [time]; exact ends)
  have keep : (s.advance t).chan k.val = s.chan k.val := rfl
  rw [time, keep] at row
  generalize (if (s.chan k.val).phaseAt + (s.chan k.val).ev.copy.tTrMax * ticksPerUs ≤ max s.etc t then
    (s.chan k.val).phaseAt + (s.chan k.val).ev.copy.tTrMax * ticksPerUs else max s.etc t) = x at row ⊢
  generalize measure k.val cur (s.advance t) = m at row measured
  obtain ⟨steep, feed, dither, at_⟩ := toSteep_chan x measured
  generalize toSteep k.val x m = v at row steep feed dither at_
  exact effect_of_advance (k := .transitionEnd t k cur) row h rfl ⟨steep, feed, dither, at_⟩

theorem turnOffInstant_answers (alone : Unshared s k) (runs : running s k = true)
    (due : (s.chan k).offAt ≤ max s.etc t) (within : (s.chan k).offAt ≤ (s.chan k).start + (s.chan k).ev.onMax * 80) :
    Yields (.turnOffInstant t k cur uj) s (fun u =>
      (u.chan k).phase = .turnOff ∧ (u.chan k).lastEnd = 1 ∧ (u.chan k).feedOn = false ∧
      (u.chan k).lastOff = some (s.chan k).offAt ∧
      ((s.chan k).phase = .peak → (u.chan k).peakOk = decide ((s.chan k).ev.copy.iPeak ≤ cur))) := by
  have time := etc_alive t h
  have alone' : Unshared (s.advance t) k := alone
  obtain ⟨phase, last, feed, off, ok⟩ := doTurnOffInstant_ends (s := s.advance t) (cur := cur) (uj := uj) alone' runs
    (by rw [time]; exact due) within
  have row : effect (.turnOffInstant t k cur uj) (s.advance (instant (.turnOffInstant t k cur uj))) =
    doTurnOffInstant k.val cur uj (s.advance t) := rfl
  refine effect_of_advance row h rfl ?_
  generalize doTurnOffInstant k.val cur uj (s.advance t) = u at *
  exact ⟨phase, last, feed, off, ok⟩

theorem turnOffComplete_answers (phase : (s.chan k).phase = .turnOff) (low : cur < 10) :
    Yields (.turnOffComplete t k cur) s (fun u =>
      (u.chan k).phase = .idle ∧ (u.chan k).idleAt = max s.etc t ∧
      ((s.slot (s.chan k).evSlot).state = .running → (s.slot (s.chan k).evSlot).seq = (s.chan k).ev.seq →
        (s.slot (s.chan k).evSlot).ch = k.val → u.slot (s.chan k).evSlot =
          if (s.slot (s.chan k).evSlot).bad then { state := .quarantined } else {}) ∧
      ((s.slot (s.chan k).evSlot).state = .quarantined →
        u.slot (s.chan k).evSlot = s.slot (s.chan k).evSlot)) := by
  have time := etc_alive t h
  obtain ⟨idle, at_, free, lost⟩ := doTurnOffComplete_ends (s := s.advance t) (k := k.val) phase low
  have row : effect (.turnOffComplete t k cur) (s.advance (instant (.turnOffComplete t k cur))) =
    doTurnOffComplete k.val cur (s.advance t) := rfl
  refine effect_of_advance row h rfl ?_
  generalize doTurnOffComplete k.val cur (s.advance t) = u at *
  exact ⟨idle, at_.trans time, free, lost⟩

end

/-! ## The regulator, its setpoint and extensions (R325, R328, R330, R343) -/

/-- A command that acts on the drive alone. -/
theorem settle_driveOnly {s v : State} {t : Tick} (h : Alive s) (only : v = { s.advance t with act := v.act }) :
    settle v = { s with
      now := max s.now t, etc := max s.etc t, act := (settle v).act
      irc := { s.irc with line := (settle v).irc.line, hold := (settle v).irc.hold, quiet := (settle v).irc.quiet } } := by
  rw [only, advance_run t s h.1]
  rfl

theorem doRegulatorSwitch_steep {k cur : Nat} {s : State} (steep : (s.chan k).phase = .steep) :
    doRegulatorSwitch k cur s =
      if (s.chan k).switchAt + 250 * ticksPerNs ≤ s.etc ∧
          (((s.chan k).feedOn = true ∧ setpointOf (s.chan k) + (s.chan k).ev.copy.hyst < cur) ∨
            ((s.chan k).feedOn = false ∧ (cur : Int) < setpointOf (s.chan k) - (s.chan k).ev.copy.hyst)) then
        bankEdge (bankOf k) s.etc ((measure k cur s).setChan k { (measure k cur s).chan k with
          feedOn := !(s.chan k).feedOn, switchAt := s.etc })
      else measure k cur s := by
  unfold doRegulatorSwitch
  dsimp only
  rw [if_neg (not_not.mpr steep)]
  simp only [decide_eq_true_eq]
  rfl

/-- A raise of a source that the order code has leaves it pending at HOST (R5, R402). -/
theorem raise_pendsAt {n : Nat} {s : State} (hn : n < 256) (present : (!s.sys.order64 && absentSource n) = false) :
    (raise n s).irc.host.pend.getLsbD n = true := by
  have raised : (raise n s).irc = ircRaise n s.irc := by
    unfold raise
    rw [present, if_neg Bool.false_ne_true]
    dsimp only
    split
    · rw [wake_frame]
    · rfl
  rw [raised]
  show (s.irc.host.raise n).pend.getLsbD n = true
  rw [IrcTarget.raise_pend]
  simp [hn]

/-- The source of a channel that the order code has (R5). -/
theorem channelSource_present {s : State} {k : Nat} (present : k < s.channels) :
    (!s.sys.order64 && absentSource (48 + k)) = false := by
  unfold State.channels at present
  cases order : s.sys.order64 with
  | true => rfl
  | false =>
    rw [order, if_neg Bool.false_ne_true] at present
    unfold absentSource
    simp only [Bool.not_false, Bool.true_and, Bool.or_eq_false_iff, decide_eq_false_iff_not, beq_eq_false_iff_ne]
    omega

section
variable {s : State} {k : Fin 64} {t : Tick} (h : Alive s)
include h

theorem regulatorSwitch_answers (cur : Nat) (steep : (s.chan k).phase = .steep) :
    Yields (.regulatorSwitch t k cur) s (fun u => u = { s with
        now := max s.now t, etc := max s.etc t, act := u.act
        irc := { s.irc with line := u.irc.line, hold := u.irc.hold, quiet := u.irc.quiet } } ∧
      (u.chan k).current = min cur 8191 ∧
      (if (s.chan k).switchAt + 250 * ticksPerNs ≤ max s.etc t ∧
          (((s.chan k).feedOn = true ∧ setpointOf (s.chan k) + (s.chan k).ev.copy.hyst < cur) ∨
            ((s.chan k).feedOn = false ∧ (cur : Int) < setpointOf (s.chan k) - (s.chan k).ev.copy.hyst))
        then (u.chan k).feedOn = !(s.chan k).feedOn ∧ (u.chan k).switchAt = max s.etc t
        else (u.chan k).feedOn = (s.chan k).feedOn ∧ (u.chan k).switchAt = (s.chan k).switchAt)) := by
  have time := etc_alive t h
  have keep : (s.advance t).chan k.val = s.chan k.val := rfl
  have row : doRegulatorSwitch k.val cur (s.advance t) = _ := doRegulatorSwitch_steep (s := s.advance t) steep
  rw [time, keep] at row
  have chan := measure_chan k.val cur (s.advance t)
  rw [keep] at chan
  have only : measure k.val cur (s.advance t) = { s.advance t with act := (measure k.val cur (s.advance t)).act } := rfl
  generalize measure k.val cur (s.advance t) = m at row chan only
  split
  case isTrue on =>
    rw [if_pos on] at row
    refine effect_of_advance (k := .regulatorSwitch t k cur) row h rfl ⟨settle_driveOnly h ?_, ?_⟩
    · rw [only]
      rfl
    have same (v : State) : (settle v).chan k.val = v.chan k.val := rfl
    rw [same, bankEdge_chan, State.chan_setChan, chan]
    exact ⟨sat_eq_min .., rfl, rfl⟩
  case isFalse off =>
    rw [if_neg off] at row
    refine effect_of_advance (k := .regulatorSwitch t k cur) row h rfl ⟨settle_driveOnly h only, ?_⟩
    have same : (settle m).chan k.val = m.chan k.val := rfl
    rw [same, chan]
    exact ⟨sat_eq_min .., rfl, rfl⟩

/-- One channel is written. -/
theorem setChan_answers {i : Instr} {c : Chan} (leaves : leaves_mode i = false) (at_ : instant i = t)
    (row : effect i (s.advance t) = (s.advance t).setChan k c) : Yields i s (fun u => u = { s with
        now := max s.now t, etc := max s.etc t, act := u.act
        irc := { s.irc with line := u.irc.line, hold := u.irc.hold, quiet := u.irc.quiet } } ∧
      u.chan k = c ∧ ∀ m, m ≠ k.val → u.chan m = s.chan m) := by
  refine effect_of_advance (v := (s.advance t).setChan k.val c) (by rw [at_, row]) h leaves
    ⟨settle_driveOnly h rfl, ?_, fun m other => ?_⟩
  · exact State.chan_setChan (s.advance t) k.val c
  · exact State.chan_setChan_other (s.advance t) c other

theorem extensionWrite_answers {q : Fin 16} {ext : Nat} (some' : 0 < ext) (small : ext < 2 ^ 24)
    (present : k.val < s.channels) :
    (extRefusal (s.advance t) q k ext = 0 → Yields (.extensionWrite t q k ext) s (fun u => u = { s with
        now := max s.now t, etc := max s.etc t, act := u.act
        irc := { s.irc with line := u.irc.line, hold := u.irc.hold, quiet := u.irc.quiet } } ∧
      u.chan k = { s.chan k with
        ext := (s.chan k).ext + ext, offAt := (s.chan k).offAt + ext * 80, extRefused := false } ∧
      ∀ m, m ≠ k.val → u.chan m = s.chan m)) ∧
    (extRefusal (s.advance t) q k ext ≠ 0 → Yields (.extensionWrite t q k ext) s (fun u =>
      u.chan k = { s.chan k with
        extRefused := true, extWhy := extRefusal (s.advance t) q k ext, extRef := satInc 255 (s.chan k).extRef } ∧
      u.irc.host.pend.getLsbD (48 + k.val) = true ∧ ∀ m, m ≠ k.val → u.chan m = s.chan m)) := by
  have taken : ext % 2 ^ 24 = ext := Nat.mod_eq_of_lt small
  have here : ¬ (ext % 2 ^ 24 = 0 ∨ (s.advance t).channels ≤ k.val) := by
    rw [taken]
    exact not_or.mpr ⟨by omega, Nat.not_le.mpr present⟩
  refine ⟨fun granted => ?_, fun refused => ?_⟩
  · refine setChan_answers h rfl rfl ?_
    show doExtensionWrite q.val k.val ext (s.advance t) = _
    unfold doExtensionWrite
    dsimp only
    rw [if_neg here, taken, granted]
    rfl
  · have row : doExtensionWrite q.val k.val ext (s.advance t) = raise (48 + k.val) ((s.advance t).setChan k {
        s.chan k with
        extRefused := true, extWhy := extRefusal (s.advance t) q k ext, extRef := satInc 255 (s.chan k).extRef }) := by
      unfold doExtensionWrite
      dsimp only
      rw [if_neg here, taken]
      split
      case h_1 zero => exact absurd zero refused
      case h_2 => rfl
    have source : (!s.sys.order64 && absentSource (48 + k.val)) = false := channelSource_present present
    have pend := raise_pendsAt (n := 48 + k.val) (s := (s.advance t).setChan k { s.chan k with
      extRefused := true, extWhy := extRefusal (s.advance t) q k ext, extRef := satInc 255 (s.chan k).extRef })
      (by omega) source
    refine effect_of_advance (k := .extensionWrite t q k ext) row h rfl ⟨?_, pend, fun m other => ?_⟩
    · exact ((raise_pieces ..).1).trans (State.chan_setChan (s.advance t) k.val _)
    · exact ((raise_pieces ..).1).trans (State.chan_setChan_other (s.advance t) _ other)

end

/-- Settles O24: each row acts on its channel, and where no other profile shares the rails the bank's arbitration only
eases. -/
theorem profilePhasesAndRegulator : Obligations.ProfilePhasesAndRegulator := by
  unfold Obligations.ProfilePhasesAndRegulator
  refine ⟨fun s t k cur uj h alone => ⟨fun peak enough => peakEnd_answers h alone peak enough,
    fun peak late before below => peakTimeout_answers h alone peak late before below,
    fun phase ends => transitionEnd_answers h alone phase ends,
    fun runs due within => turnOffInstant_answers h alone runs due within,
    fun phase low => turnOffComplete_answers h phase low⟩, fun s t k h => ⟨fun cur steep =>
      regulatorSwitch_answers h cur steep, fun steep => ?dither, fun v present => ?setpoint, fun q ext some' small present =>
      extensionWrite_answers h some' small present⟩⟩
  case dither =>
    refine setChan_answers h rfl rfl ?_
    rw [← etc_alive t h]
    exact if_pos steep
  case setpoint =>
    refine setChan_answers h rfl rfl ?_
    show doSetpointWrite k.val v (s.advance t) = _
    have low : bits v.toNat 0 11 = v.toNat % 2048 := by
      unfold bits
      rw [Nat.pow_zero, Nat.div_one, show 2 ^ 11 = 2048 from rfl]
    unfold doSetpointWrite
    rw [if_neg (show ¬ (s.advance t).channels ≤ k.val from Nat.not_le.mpr present), low]
    rfl

end Sys2Proof.Machine
end

section
/-! Drive limits end profiles, and the measured events of a Kettle (10_actuator_drive.md R331 to R336;
11_closing_detection_diagnostics.md R363; 14_background_observation.md R434). -/

namespace Sys2Proof.Machine

/-! ## What writes keep of a channel at rest, of diagnostics and of a Kettle -/

/-- How a channel's last profile ended. -/
def SameEnd (c d : Chan) : Prop :=
  d.phase = c.phase ∧ d.lastEnd = c.lastEnd ∧ d.feedOn = c.feedOn ∧ d.lastOff = c.lastOff

theorem SameEnd.of_eq {c d : Chan} (h : d = c) : SameEnd c d := by
  subst h
  exact ⟨rfl, rfl, rfl, rfl⟩

theorem SameEnd.trans {c d e : Chan} (h : SameEnd c d) (g : SameEnd d e) : SameEnd c e := by
  obtain ⟨phase, last, feed, off⟩ := h
  obtain ⟨phase', last', feed', off'⟩ := g
  exact ⟨phase'.trans phase, last'.trans last, feed'.trans feed, off'.trans off⟩

theorem running_of_phase {s u : State} {k : Nat} (h : (u.chan k).phase = (s.chan k).phase) :
    running u k = running s k := by
  unfold running
  rw [h]

/-- A channel at rest keeps how its last profile ended. -/
theorem Within.sameEnd {A : Move → Prop} {s u : State} (h : Within A s u) {k : Nat} (rest : running s k = false) :
    SameEnd (s.chan k) (u.chan k) := by
  refine h.keeps (P := fun v => SameEnd (s.chan k) (v.chan k)) (fun m v w _ hm hv => ?_) (.of_eq rfl)
  by_cases e : m = .chan k
  · subst e
    cases hm with
    | chan _ c _ hc =>
      have still : ¬ ((v.chan k).phase = .peak ∨ (v.chan k).phase = .transition ∨ (v.chan k).phase = .steep) := by
        rw [← running_iff, running_of_phase hv.1, rest]
        exact Bool.false_ne_true
      rw [State.chan_setChan]
      refine hv.trans ?_
      rw [hc.1.resolve_left still]
      exact ⟨rfl, rfl, rfl, rfl⟩
  · exact hv.trans (.of_eq (hm.chan_eq e))

/-- What a channel's diagnostics have found of its on-state is kept. -/
theorem Within.onState {A : Move → Prop} {s u : State} (h : Within A s u) (k : Nat) : (u.dch k).onFlt = (s.dch k).onFlt ∧
    (u.dch k).onCode = (s.dch k).onCode ∧ (u.dch k).onFaults = (s.dch k).onFaults := by
  refine h.keeps (P := fun v => (v.dch k).onFlt = (s.dch k).onFlt ∧ (v.dch k).onCode = (s.dch k).onCode ∧
    (v.dch k).onFaults = (s.dch k).onFaults) (fun m v w _ hm hv => ?_) ⟨rfl, rfl, rfl⟩
  by_cases e : m = .dch k
  · subst e
    cases hm with
    | dch _ g _ hg =>
      rw [State.dch_setDch, hg.1]
      exact hv
  · rw [hm.dch_eq e]
    exact hv

/-- What is measured of a Kettle is kept, and one at fault stays at fault or bleeding. -/
theorem Within.kettleKept {A : Move → Prop} {s u : State} (h : Within A s u) (k : Nat) :
    (u.kettle k).volt = (s.kettle k).volt ∧ (u.kettle k).dump = (s.kettle k).dump ∧
      (u.kettle k).faulted = (s.kettle k).faulted ∧ ((s.kettle k).faulted = true →
        (s.kettle k).state = .fault ∨ (s.kettle k).state = .bleed →
        (u.kettle k).state = .fault ∨ (u.kettle k).state = .bleed) := by
  refine h.keeps (P := fun v => (v.kettle k).volt = (s.kettle k).volt ∧ (v.kettle k).dump = (s.kettle k).dump ∧
    (v.kettle k).faulted = (s.kettle k).faulted ∧ ((s.kettle k).faulted = true →
      (s.kettle k).state = .fault ∨ (s.kettle k).state = .bleed →
      (v.kettle k).state = .fault ∨ (v.kettle k).state = .bleed)) (fun m v w _ hm hv => ?_)
    ⟨rfl, rfl, rfl, fun _ h => h⟩
  by_cases e : m = .kettle k
  · subst e
    cases hm with
    | kettle _ q _ hq =>
      obtain ⟨volt, dump, faulted, -, -, state⟩ := hq
      obtain ⟨volt', dump', faulted', state'⟩ := hv
      rw [State.kettle_setKettle]
      refine ⟨volt.trans volt', dump.trans dump', faulted.trans faulted', fun f g => ?_⟩
      rcases state (faulted'.trans f) with same | off | bleeds
      · rw [same]
        exact state' f g
      · exact .inl off
      · exact .inr bleeds
  · rw [hm.kettle_eq e]
    exact hv

/-! ## Arbitration (R340, R342) -/

/-- The rails of a bank have been given and taken: no channel at rest has changed, no fault has been recorded, and
diagnostics are as before. -/
structure Drives (s u : State) : Prop where
  rest : Rest s u
  flt : u.flt = s.flt
  dia : ∀ k, u.dch k = s.dch k
  still : ∀ k, running s k = false → SameEnd (s.chan k) (u.chan k)

namespace Drives
variable {s u : State}

theorem refl (s : State) : Drives s s := ⟨by rfl, rfl, fun _ => rfl, fun _ _ => .of_eq rfl⟩

theorem trans {v : State} (h : Drives s u) (g : Drives u v) : Drives s v := by
  refine ⟨h.rest.trans g.rest, g.flt.trans h.flt, fun k => (g.dia k).trans (h.dia k), fun k idle => ?_⟩
  have first := h.still k idle
  exact first.trans (g.still k ((running_of_phase first.1).trans idle))

theorem of_within {A : Move → Prop} (h : Within A s u) (hr : ¬ A .reaction) (hd : ∀ k, ¬ A (.dch k)) : Drives s u :=
  ⟨h.rest, h.flt_eq hr, fun k => h.dch_eq (hd k), fun _ idle => h.sameEnd idle⟩

/-- A running channel is written. -/
theorem setChan {k : Nat} {c : Chan} (runs : running s k = true) : Drives s (s.setChan k c) := by
  refine ⟨by rfl, rfl, fun _ => rfl, fun j idle => ?_⟩
  by_cases e : j = k
  · subst e
    rw [runs] at idle
    cases idle
  · exact .of_eq (State.chan_setChan_other _ _ e)

theorem setBank (b : Nat) (c : BankSt) (s : State) : Drives s (s.setBank b c) :=
  ⟨by rfl, rfl, fun _ => rfl, fun _ _ => .of_eq rfl⟩

theorem bankEdge (b : Nat) (x : Tick) (s : State) : Drives s (bankEdge b x s) := setBank ..

theorem raise (n : Nat) (s : State) : Drives s (raise n s) :=
  .of_within (A := fun m => m = .raise) ((Within.refl s).raise rfl) (fun h => nomatch h) (fun _ h => nomatch h)

theorem forEach {f : Nat → State → State} (hf : ∀ n u, Drives u (f n u)) (l : List Nat) (s : State) :
    Drives s (forEach l f s) := by
  unfold Machine.forEach
  induction l generalizing s with
  | nil => exact .refl s
  | cons n l ih => exact (hf n s).trans (ih (f n s))

end Drives

theorem peakOver_drives {k : Nat} (n : Nat) {s : State} (runs : running s k = true) : Drives s (peakOver k n s) := by
  have released : Drives s (ktRelease (ktOf (bankOf k)) (s.chan k).ev.reserve s) :=
    .of_within (ktRelease_within ..) (fun h => h) (fun _ h => h)
  unfold peakOver
  dsimp only
  refine (released.trans (.setChan ?_)).trans (.of_within (ktPassed_within ..) (fun h => h) (fun _ h => h))
  exact (running_of_chan ((ktRelease_within ..).chan_eq (fun h => h))).trans runs

theorem running_peakOver (k n : Nat) (s : State) : running (peakOver k n s) k = running s k :=
  running_of_phase (peakOver_phase n s)

theorem toTransition_drives {k : Nat} (x : Tick) (reached : Bool) (n : Nat) {s : State} (runs : running s k = true) :
    Drives s (toTransition k x reached n s) :=
  ((peakOver_drives n runs).trans (.setChan ((running_peakOver ..).trans runs))).trans (.bankEdge ..)

theorem slip_drives {k : Nat} {s : State} (runs : running s k = true) : Drives s (slip k s) :=
  ((Drives.setChan runs).trans (.setBank ..)).trans (.raise ..)

theorem yieldStep_drives (x : Tick) (k : Nat) (s : State) : Drives s (yieldStep x k s) := by
  unfold yieldStep
  dsimp only
  split
  case isTrue gives =>
    have runs : running s k = true := by
      unfold yields at gives
      simp only [Bool.and_eq_true] at gives
      exact gives.1.2
    split
    · have fresh : Drives s { s with fresh := s.fresh + 1 } := ⟨by rfl, rfl, fun _ => rfl, fun _ _ => .of_eq rfl⟩
      refine fresh.trans ((toTransition_drives x false (freePeakEnergy s) (by exact runs)).trans (slip_drives ?_))
      rw [running_iff, toTransition_chan]
      exact .inr (.inl rfl)
    · split
      · exact .refl s
      · refine ((Drives.setChan runs).trans (slip_drives ?_)).trans (.bankEdge ..)
        exact (running_of_phase (by rw [State.chan_setChan])).trans runs
  case isFalse =>
    split
    case isTrue held =>
      refine ⟨by rfl, rfl, fun _ => rfl, fun j _ => ?_⟩
      by_cases e : j = k
      · subst e
        rw [State.chan_setChan]
        exact ⟨rfl, rfl, rfl, rfl⟩
      · exact .of_eq (State.chan_setChan_other _ _ e)
    case isFalse => exact .refl s

theorem arbitrate_drives (b : Nat) (x : Tick) (s : State) : Drives s (arbitrate b x s) := .forEach (yieldStep_drives x) _ s

/-! ## Limits (R331, R332, R363) -/

theorem Rest.order {s u : State} (h : Rest s u) : u.sys.order64 = s.sys.order64 := by rw [h]

theorem Occurred.of_flt {s v u : State} {n : Nat} (flt : v.flt = s.flt) (h : Occurred v u n) : Occurred s u n := by
  obtain ⟨sticky, last, total⟩ := h
  exact ⟨sticky, last, by rw [total, flt]⟩

/-- A fault follows what the drive does: it has occurred, and what had ended stays so (R333, R412). -/
theorem fault_after {n : Nat} {s v : State} (drives : Drives s v) (present : (!s.sys.order64 && absentFault n) = false)
    (hn : n < 96) : Occurred s (fault n v) n ∧ ∀ k, running s k = false → SameEnd (s.chan k) ((fault n v).chan k) := by
  rw [← drives.rest.order] at present
  obtain ⟨sticky, last, total⟩ := fault_occurred present hn
  refine ⟨⟨sticky, last, by rw [total, drives.flt]⟩, fun k idle => ?_⟩
  have still := drives.still k idle
  exact still.trans ((fault_within present).sameEnd (k := k) ((running_of_phase still.1).trans idle))

/-- A profile ends early, its bank's rails are given back, and the fault is recorded (R331, R332, R342). -/
theorem ended_faults {k cause n : Nat} {s : State} (off x : Tick) (runs : running s k = true)
    (present : (!s.sys.order64 && absentFault n) = false) (hn : n < 96) :
    let u := fault n (arbitrate (bankOf k) x (endAt cause off k s))
    ((u.chan k).phase = .turnOff ∧ (u.chan k).lastEnd = cause ∧ (u.chan k).feedOn = false ∧
      (u.chan k).lastOff = some off) ∧ Occurred s u n := by
  have ends := endAt_within cause off k s
  obtain ⟨phase, last, feed, at_⟩ := endAt_chan k off cause s runs
  have flt : (endAt cause off k s).flt = s.flt := ends.flt_eq (fun h => h)
  rw [← ends.rest.order] at present
  generalize endAt cause off k s = v at phase last feed at_ flt present
  obtain ⟨occurred, still⟩ := fault_after (arbitrate_drives (bankOf k) x v) present hn
  obtain ⟨phase', last', feed', at'⟩ := still k (running_of_turnOff phase)
  exact ⟨⟨phase'.trans phase, last'.trans last, feed'.trans feed, at'.trans at_⟩, Occurred.of_flt flt occurred⟩

section
variable {s : State} {k : Fin 64} {t : Tick} (h : Alive s)
include h

theorem channelOvercurrent_answers {cur : Nat} (runs : running s k = true)
    (high : min ((s.chan k).ev.peakMax + 100) 3400 ≤ cur) : Yields (.channelOvercurrent t k cur) s (fun u =>
      (u.chan k).phase = .turnOff ∧ (u.chan k).lastEnd = 3 ∧ (u.chan k).feedOn = false ∧ Occurred s u 76) := by
  have row : doChannelOvercurrent k.val cur (s.advance t) = fault 76 (arbitrate (bankOf k) (s.advance t).etc
      (endAt 3 (measure k.val cur (s.advance t)).etc k.val (measure k.val cur (s.advance t)))) := by
    unfold doChannelOvercurrent
    rw [show running (s.advance t) k.val = true from runs]
    exact if_pos (decide_eq_true (p := ocLimit (s.chan k) ≤ cur) high)
  have keep : (s.advance t).chan k.val = s.chan k.val := rfl
  have measured : running (measure k.val cur (s.advance t)) k.val = true :=
    (running_of_phase (by rw [measure_chan, keep])).trans runs
  obtain ⟨⟨phase, last, feed, -⟩, occurred⟩ := ended_faults (cause := 3) (n := 76)
    (measure k.val cur (s.advance t)).etc (s.advance t).etc measured (Bool.and_false _) (by decide)
  have occurred := Occurred.of_flt (s := s) (by rfl) occurred
  generalize fault 76 _ = u at row phase last feed occurred
  exact effect_of_advance (k := .channelOvercurrent t k cur) row h rfl ⟨phase, last, feed, occurred⟩

theorem onMaxStop_answers (runs : running s k = true) (due : (s.chan k).start + (s.chan k).ev.onMax * 80 ≤ max s.etc t)
    (before : (s.chan k).start + (s.chan k).ev.onMax * 80 < (s.chan k).offAt) : Yields (.onMaxStop t k) s (fun u =>
      (u.chan k).phase = .turnOff ∧ (u.chan k).lastEnd = 2 ∧
      (u.chan k).lastOff = some ((s.chan k).start + (s.chan k).ev.onMax * 80) ∧ Occurred s u 77) := by
  have time := etc_alive t h
  have keep : (s.advance t).chan k.val = s.chan k.val := rfl
  have row : doOnMaxStop k.val (s.advance t) = fault 77 (arbitrate (bankOf k)
      ((s.chan k).start + (s.chan k).ev.onMax * 80) (endAt 2 ((s.chan k).start + (s.chan k).ev.onMax * 80) k.val
        (s.advance t))) := by
    unfold doOnMaxStop
    dsimp only
    rw [keep]
    refine if_pos ?_
    rw [Bool.and_eq_true, Bool.and_eq_true]
    exact ⟨⟨runs, decide_eq_true (by rw [time]; exact due)⟩, decide_eq_true before⟩
  obtain ⟨⟨phase, last, -, off⟩, occurred⟩ := ended_faults (cause := 2) (n := 77) (s := s.advance t)
    ((s.chan k).start + (s.chan k).ev.onMax * 80) ((s.chan k).start + (s.chan k).ev.onMax * 80) runs (Bool.and_false _)
    (by decide)
  generalize fault 77 _ = u at row phase last off occurred
  exact effect_of_advance (k := .onMaxStop t k) row h rfl ⟨phase, last, off, occurred⟩

end

/-- The fault source of a bank that the order code has (R5, R417). -/
theorem bankFault_present {s : State} {b : Nat} (present : b < s.banks) :
    (!s.sys.order64 && absentFault (64 + b)) = false ∧ (!s.sys.order64 && absentFault (80 + b)) = false := by
  unfold State.banks at present
  cases order : s.sys.order64 with
  | true => exact ⟨rfl, rfl⟩
  | false =>
    rw [order, if_neg Bool.false_ne_true] at present
    unfold absentFault
    simp only [Bool.not_false, Bool.true_and, Bool.or_eq_false_iff, decide_eq_false_iff_not, beq_eq_false_iff_ne]
    omega

theorem endBank_ended (cause b : Nat) (s : State) (j : Fin 8) : Ended s cause (8 * b + j.val) (endBank cause b s) :=
  forEach_endEarly cause _ s _ (List.mem_map.mpr ⟨j.val, List.mem_range.mpr j.isLt, rfl⟩)

section
variable {s : State} {t : Tick} (h : Alive s)
include h

theorem bankOvercurrent_answers {b : Fin 8} {sum : Nat} (high : 4200 ≤ sum) (present : b.val < s.banks) :
    Yields (.bankOvercurrent t b sum) s (fun u =>
      (∀ j : Fin 8, running s (8 * b.val + j.val) = true →
        (u.chan (8 * b.val + j.val)).phase = .turnOff ∧ (u.chan (8 * b.val + j.val)).lastEnd = 4) ∧
      Occurred s u (64 + b.val)) := by
  have row : doBankOvercurrent b.val sum (s.advance t) = fault (64 + b.val) (raise (112 + b.val) (endBank 4 b.val
      ((s.advance t).setBank b { s.bank b with iSum := sat 8191 sum }))) := if_pos ⟨high, present⟩
  have summed : ∀ j : Fin 8, running ((s.advance t).setBank b { s.bank b with iSum := sat 8191 sum })
    (8 * b.val + j.val) = running s (8 * b.val + j.val) := fun _ => rfl
  have total : ((s.advance t).setBank b { s.bank b with iSum := sat 8191 sum }).flt = s.flt := rfl
  have order : ((s.advance t).setBank b { s.bank b with iSum := sat 8191 sum }).sys.order64 = s.sys.order64 := rfl
  generalize (s.advance t).setBank b { s.bank b with iSum := sat 8191 sum } = m at row summed total order
  have ends := endBank_ended 4 b.val m
  have within := endBank_within 4 b.val m
  have flt : (endBank 4 b.val m).flt = m.flt := within.flt_eq (fun ⟨_, _, h⟩ => h)
  have present' := (bankFault_present present).1
  rw [← order, ← within.rest.order] at present'
  generalize endBank 4 b.val m = v at row ends flt present'
  obtain ⟨occurred, still⟩ := fault_after (.raise (112 + b.val) v) present' (by omega)
  generalize fault (64 + b.val) _ = u at row occurred still
  have occurred := Occurred.of_flt (flt.trans total) occurred
  refine effect_of_advance (k := .bankOvercurrent t b sum) row h rfl ⟨fun j runs => ?_, occurred⟩
  obtain ⟨idle, ended⟩ := ends j
  obtain ⟨phase, last⟩ := ended ((summed j).trans runs)
  obtain ⟨phase', last', -, -⟩ := still _ idle
  exact ⟨phase'.trans phase, last'.trans last⟩

end

/-- What an on-state fault of a code ends: the channel, or the bank it shares its rails with (R363). -/
def onStateEnds (k code : Nat) (s : State) : State :=
  if code ≠ 1 ∧ code ≠ 5 ∧ (s.bank (bankOf k)).banked = true then endBank 9 (bankOf k) s else endEarly 9 k s

theorem onStateEnds_ended (k : Fin 64) (code : Nat) {s : State} (runs : running s k = true) :
    let u := onStateEnds k code s
    (u.chan k).phase = .turnOff ∧ (u.chan k).lastEnd = 9 ∧ u.flt = s.flt ∧ u.sys.order64 = s.sys.order64 ∧
      (u.dch k).onFaults = (s.dch k).onFaults := by
  unfold onStateEnds
  dsimp only
  split
  · have within := endBank_within 9 (bankOf k) s
    obtain ⟨-, ended⟩ := endBank_ended 9 (bankOf k) s ⟨k.val % 8, by omega⟩
    have place : 8 * bankOf k.val + k.val % 8 = k.val := by
      unfold bankOf
      omega
    rw [place] at ended
    obtain ⟨phase, last⟩ := ended runs
    exact ⟨phase, last, within.flt_eq (fun ⟨_, _, h⟩ => h), within.rest.order, (within.onState k).2.2⟩
  · have within := endAt_within 9 s.etc k s
    obtain ⟨phase, last, -, -⟩ := endAt_chan k.val s.etc 9 s runs
    exact ⟨phase, last, within.flt_eq (fun h => h), within.rest.order, (within.onState k).2.2⟩

/-- The diagnostics of a channel with an on-state fault found (R363). -/
def DiaCh.onStateFound (h : DiaCh) (code : Nat) : DiaCh :=
  { h with onCode := code, onFlt := true, onFaults := satInc 255 h.onFaults }

theorem doOnStateFault_eq {k : Nat} {m : OnStateMeas} {s : State} (runs : running s k = true) (code : onCodeOf s k m ≠ 0) :
    let v := arbitrate (bankOf k) (onStateEnds k (onCodeOf s k m) s).etc (onStateEnds k (onCodeOf s k m) s)
    doOnStateFault k m s =
      fault (80 + bankOf k) (v.setDch k ((v.dch k).onStateFound (onCodeOf s k m))) := by
  unfold doOnStateFault
  dsimp only
  rw [runs, if_neg (by simpa using code)]
  rfl

theorem onStateFault_answers {s : State} {t : Tick} (h : Alive s) {k : Fin 64} {m : OnStateMeas} (runs : running s k = true)
    (present : k.val < s.channels) (code : onCodeOf (s.advance t) k m ≠ 0) : Yields (.onStateFault t k m) s (fun u =>
      (u.chan k).phase = .turnOff ∧ (u.chan k).lastEnd = 9 ∧ (u.dch k).onFlt = true ∧
      (u.dch k).onCode = onCodeOf (s.advance t) k m ∧ (u.dch k).onFaults = satInc 255 (s.dch k).onFaults ∧
      Occurred s u (80 + k.val / 8)) := by
  have row : doOnStateFault k.val m (s.advance t) = _ := doOnStateFault_eq runs code
  obtain ⟨phase, last, flt, order, faults⟩ :=
    onStateEnds_ended (s := s.advance t) k (onCodeOf (s.advance t) k m) runs
  have present' : (!s.sys.order64 && absentFault (80 + bankOf k.val)) = false := by
    refine (bankFault_present ?_).2
    unfold State.channels at present
    unfold State.banks bankOf
    split at present <;> simp_all <;> omega
  generalize onCodeOf (s.advance t) k.val m = c at *
  generalize onStateEnds k.val c (s.advance t) = w at row phase last flt order faults
  have drives := arbitrate_drives (bankOf k.val) w.etc w
  generalize arbitrate (bankOf k.val) w.etc w = v at row drives
  have still := drives.still k (running_of_turnOff phase)
  have found := drives.dia k
  have idle : running v k = false := (running_of_phase still.1).trans (running_of_turnOff phase)
  have source : (!v.sys.order64 && absentFault (80 + bankOf k.val)) = false := by
    rw [drives.rest.order, order]
    exact present'
  have small : 80 + bankOf k.val < 96 := by
    unfold bankOf
    omega
  obtain ⟨occurred, ended⟩ := fault_after (.refl (v.setDch k.val ((v.dch k.val).onStateFound c))) source small
  obtain ⟨phase', last', -, -⟩ := ended k idle
  obtain ⟨on, code', count⟩ := (fault_within (s := v.setDch k.val ((v.dch k.val).onStateFound c)) source).onState k
  generalize fault (80 + bankOf k.val) _ = u at row occurred phase' last' on code' count
  have dia : (v.setDch k.val ((v.dch k.val).onStateFound c)).dch k = (v.dch k).onStateFound c := State.dch_setDch ..
  have dia' : (faultRecord (80 + bankOf k.val) (classApplied (v.setDch k.val ((v.dch k.val).onStateFound c))
      (80 + bankOf k.val)) (v.setDch k.val ((v.dch k.val).onStateFound c))).dch k = (v.dch k).onStateFound c := dia
  rw [dia'] at on code' count
  refine effect_of_advance (k := .onStateFault t k m) row h rfl
    ⟨(phase'.trans still.1).trans phase, (last'.trans still.2.1).trans last, on, code', count.trans ?_,
      Occurred.of_flt (s := s) (drives.flt.trans flt) occurred⟩
  show satInc 255 (v.dch k).onFaults = _
  rw [found, faults]
  rfl

/-! ## Kettles (R334, R336, R434) -/

/-- A Kettle as it is brought to a state (R334). -/
theorem ktEnter_shows (k : Nat) (st : KtState) (s : State) : let q := (ktEnter k st s).kettle k
    q.state = st ∧ q.volt = (s.kettle k).volt ∧ q.dump = (s.kettle k).dump ∧ q.target = (s.kettle k).target ∧
      q.faulted = (s.kettle k).faulted ∧
      q.chgOn = ktCharges st (s.kettle k).target (s.kettle k).volt (s.kettle k).chgOn := by
  unfold ktEnter
  dsimp only
  split
  case isTrue same =>
    rw [State.kettle_setKettle]
    exact ⟨same, rfl, rfl, rfl, rfl, rfl⟩
  case isFalse =>
    rw [(raise_pieces ..).2.2.1]
    split
    all_goals
      simp only [kcStop_kettle, State.kettle_setKettle, and_self]

theorem markFall_shows (k : Nat) (s : State) : let q := (markFall k s).kettle k
    q.state = (s.kettle k).state ∧ q.volt = (s.kettle k).volt ∧ q.dump = (s.kettle k).dump ∧
      q.target = (s.kettle k).target ∧ q.chgOn = (s.kettle k).chgOn := by
  unfold markFall
  rw [State.kettle_setKettle]
  exact ⟨rfl, rfl, rfl, rfl, rfl⟩

theorem sat_below {m n : Nat} (h : n ≤ m) : sat m n = n := by
  rw [sat_eq_min]
  exact Nat.min_eq_left h

/-- A Kettle measured below the dump's level takes the state its level, SAFE and its faults give it (R334). -/
theorem kettleLevel_shows {k v : Nat} {s : State} (up : s.supply.state ≠ .down) (low : v < 616) :
    let q := (kettleLevel k v s).kettle k
    q.volt = v ∧ q.dump = false ∧ q.target = (s.kettle k).target ∧
      q.state = (if s.flt.safe then .bleed else if (s.kettle k).faulted then .fault else ktLevel (s.kettle k).target v) ∧
      q.chgOn = ktCharges q.state (s.kettle k).target v (s.kettle k).chgOn := by
  have measured : (kettleVolt k v s).kettle k = { s.kettle k with volt := v, dump := false } := by
    unfold kettleVolt
    rw [State.kettle_setKettle, sat_below (by omega), decide_eq_false (Nat.not_le.mpr low)]
  have next : ktNext (kettleVolt k v s) k =
      if s.flt.safe then .bleed else if (s.kettle k).faulted then .fault else ktLevel (s.kettle k).target v := by
    have level : (s.flt.safe || s.supply.state == .down) = s.flt.safe := by
      rw [beq_eq_false_iff_ne.mpr up, Bool.or_false]
    unfold ktNext
    rw [measured]
    show (if (s.flt.safe || s.supply.state == .down) = true then _ else _) = _
    rw [level]
  unfold kettleLevel ktUpdate
  dsimp only
  rw [if_neg (Nat.not_le.mpr low), next]
  generalize (if s.flt.safe = true then _ else _ : KtState) = st
  obtain ⟨state, volt, dump, target, -, charges⟩ := ktEnter_shows k st (kettleVolt k v s)
  obtain ⟨state', volt', dump', target', charges'⟩ := markFall_shows k (ktEnter k st (kettleVolt k v s))
  rw [measured] at volt dump target charges
  generalize (markFall k (ktEnter k st (kettleVolt k v s))).kettle k = q at *
  exact ⟨volt'.trans volt, dump'.trans dump, target'.trans target, state'.trans state,
    (charges'.trans charges).trans (by rw [state', state])⟩

/-- The fault source of a Kettle that the order code has (R5, R417). -/
theorem kettleFault_present {s : State} {k : Nat} (present : k < s.kettles) :
    (!s.sys.order64 && absentFault (72 + k)) = false ∧ 72 + k < 96 := by
  unfold State.kettles at present
  cases order : s.sys.order64 with
  | true =>
    rw [order, if_pos rfl] at present
    exact ⟨rfl, by omega⟩
  | false =>
    rw [order, if_neg Bool.false_ne_true] at present
    refine ⟨?_, by omega⟩
    unfold absentFault
    simp only [Bool.not_false, Bool.true_and, Bool.or_eq_false_iff, decide_eq_false_iff_not, beq_eq_false_iff_ne]
    omega

theorem ktFault_occurs {k : Nat} {s : State} (present : k < s.kettles) (fresh : (s.kettle k).faulted = false) :
    let u := ktFault k s
    Occurred s u (72 + k) ∧ (u.kettle k).volt = (s.kettle k).volt ∧ (u.kettle k).dump = (s.kettle k).dump ∧
      (u.kettle k).faulted = true ∧ ((u.kettle k).state = .fault ∨ (u.kettle k).state = .bleed) := by
  obtain ⟨source, small⟩ := kettleFault_present present
  unfold ktFault
  rw [if_neg (by rw [fresh]; exact Bool.false_ne_true)]
  generalize hm : s.setKettle k _ = m
  have kettle : m.kettle k = { s.kettle k with faulted := true } := by rw [← hm, State.kettle_setKettle]
  have flt : m.flt = s.flt := by rw [← hm]; rfl
  have order : m.sys.order64 = s.sys.order64 := by rw [← hm]; rfl
  obtain ⟨state, volt, dump, -, faulted, -⟩ := ktEnter_shows k (ktNext m k) m
  have next : ktNext m k = .fault ∨ ktNext m k = .bleed := ktNext_of_faulted (by rw [kettle])
  rw [← state] at next
  have within := ktUpdate_within k m
  rw [← order, ← within.rest.order] at source
  have flt' : (ktUpdate k m).flt = m.flt := within.flt_eq (fun h => h)
  rw [kettle] at volt dump faulted
  change ((ktUpdate k m).kettle k).volt = _ at volt
  change ((ktUpdate k m).kettle k).dump = _ at dump
  change ((ktUpdate k m).kettle k).faulted = _ at faulted
  change ((ktUpdate k m).kettle k).state = _ ∨ ((ktUpdate k m).kettle k).state = _ at next
  generalize ktUpdate k m = v at *
  obtain ⟨volt', dump', faulted', state'⟩ := (fault_within source).kettleKept k
  have occurred := fault_occurred source small
  exact ⟨Occurred.of_flt (flt'.trans flt) occurred, volt'.trans volt, dump'.trans dump, faulted'.trans faulted,
    state' faulted next⟩

/-- A Kettle measured at the dump's level or above is at fault (R336). -/
theorem kettleLevel_faults {k v : Nat} {s : State} (present : k < s.kettles) (high : 616 ≤ v)
    (fresh : (s.kettle k).faulted = false) : let u := kettleLevel k v s
    (u.kettle k).volt = min v 1023 ∧ (u.kettle k).dump = true ∧ Occurred s u (72 + k) ∧
      ((u.kettle k).state = .fault ∨ (u.kettle k).state = .bleed) := by
  have measured : (kettleVolt k v s).kettle k = { s.kettle k with volt := min v 1023, dump := true } := by
    unfold kettleVolt
    rw [State.kettle_setKettle, sat_eq_min, decide_eq_true high]
  obtain ⟨occurred, volt, dump, faulted, -⟩ := ktFault_occurs (k := k) (s := kettleVolt k v s) (by exact present)
    (by rw [measured]; exact fresh)
  rw [measured] at volt dump
  have occurred := Occurred.of_flt (s := s) (by rfl) occurred
  unfold kettleLevel
  dsimp only
  rw [if_pos high]
  generalize ktFault k (kettleVolt k v s) = w at *
  obtain ⟨state, volt', dump', -, -, -⟩ := ktEnter_shows k (ktNext w k) w
  have flt : (ktUpdate k w).flt = w.flt := (ktUpdate_within k w).flt_eq (fun h => h)
  obtain ⟨state', volt'', dump'', -, -⟩ := markFall_shows k (ktUpdate k w)
  have marked : (markFall k (ktUpdate k w)).flt = w.flt := flt
  refine ⟨(volt''.trans volt').trans volt, (dump''.trans dump').trans dump, ?_, ?_⟩
  · obtain ⟨sticky, last, total⟩ := occurred
    rw [Occurred, marked]
    exact ⟨sticky, last, total⟩
  · rw [state', show ((ktUpdate k w).kettle k).state = ktNext w k from state]
    exact ktNext_of_faulted faulted

theorem log_capOor (k l : Nat) (b : List Byte) (s : State) : (log k l b s).bgs.capOor = s.bgs.capOor := by
  unfold log logAppend
  split
  · split <;> rfl
  · rfl

theorem calReport_keeps (c : Bool) (item source : Nat) (s : State) : let u := calReport c item source s
    (∀ k, u.kettle k = s.kettle k) ∧ u.bgs.capOor = s.bgs.capOor := by
  unfold calReport
  split
  · rw [raise_frame]
    refine ⟨fun k => ?_, log_capOor ..⟩
    show (log ..).kettle k = _
    rw [log_frame]
    rfl
  · exact ⟨fun _ => rfl, rfl⟩

/-- A capacitance measured (R434). -/
theorem doKettleCapacitance_shows {k v : Nat} {s : State} (present : k < s.kettles) (hk : k < 4) (due : capDue s k = true) :
    let u := doKettleCapacitance k v s
    (u.kettle k).capUf = min v 1023 ∧ (u.kettle k).measuredAt = s.etc ∧
      u.bgs.capOor.getLsbD k = decide (v < 150 ∨ 264 < v) := by
  unfold doKettleCapacitance
  dsimp only
  rw [if_neg (by rw [due]; simp [present])]
  generalize hm : ({ s.setKettle k _ with bgs := _ } : State) = m
  have kettle : (m.kettle k).capUf = min v 1023 ∧ (m.kettle k).measuredAt = s.etc := by
    subst hm
    show ((s.setKettle k _).kettle k).capUf = _ ∧ ((s.setKettle k _).kettle k).measuredAt = _
    rw [State.kettle_setKettle]
    exact ⟨sat_eq_min .., rfl⟩
  have oor : m.bgs.capOor.getLsbD k = decide (v < 150 ∨ 264 < v) := by
    subst hm
    show (if _ then _ else _ : BitVec 4).getLsbD k = _
    split
    · simp_all
    · simp_all
  clear hm
  obtain ⟨same, flags⟩ := calReport_keeps (decide (v < 150 ∨ 264 < v)) (72 + k) 220
    (if (m.kettle k).state = .charging then m.setKettle k { m.kettle k with deadline := chgDeadline m k } else m)
  rw [same, flags]
  split
  · rw [State.kettle_setKettle]
    exact ⟨kettle.1, kettle.2, oor⟩
  · exact ⟨kettle.1, kettle.2, oor⟩

/-- Settles O25: each limit ends its profiles, gives the rails back and records its fault; each measurement of a Kettle
is followed by the state its level gives. -/
theorem driveLimitsAndKettles : Obligations.DriveLimitsAndKettles := by
  unfold Obligations.DriveLimitsAndKettles
  refine ⟨fun s t h => ⟨fun k cur runs high => channelOvercurrent_answers h runs high,
    fun b sum high present => bankOvercurrent_answers h high present,
    fun k runs due before => onMaxStop_answers h runs due before,
    fun k m runs present code => onStateFault_answers h runs present code⟩, fun s t k v h present => ?_⟩
  have time := etc_alive t h
  have here : ¬ (s.advance t).kettles ≤ k.val := Nat.not_le.mpr present
  refine ⟨fun low allowed => ?level, fun high allowed fresh => ?overvoltage, fun d charging fresh due late => ?deadline,
    fun due => ?capacitance⟩
  case level =>
    have row : doKettleLevelChange k.val v (s.advance t) = kettleLevel k.val v (s.advance t) :=
      if_neg (not_or.mpr ⟨here, by rw [allowed]; decide⟩)
    obtain ⟨volt, dump, target, state, charges⟩ := kettleLevel_shows (k := k.val) (s := s.advance t) h.2.1 low
    generalize kettleLevel k.val v (s.advance t) = u at row volt dump target state charges
    exact effect_of_advance (k := .kettleLevelChange t k v) row h rfl ⟨volt, dump, target, state, charges⟩
  case overvoltage =>
    have row : doKettleLevelChange k.val v (s.advance t) = kettleLevel k.val v (s.advance t) :=
      if_neg (not_or.mpr ⟨here, by rw [allowed]; decide⟩)
    have row' : doKettleOvervoltage k.val v (s.advance t) = kettleLevel k.val v (s.advance t) :=
      if_neg (not_or.mpr ⟨here, not_or.mpr ⟨Nat.not_lt.mpr high, by rw [allowed]; decide⟩⟩)
    obtain ⟨volt, dump, occurred, state⟩ := kettleLevel_faults (k := k.val) (s := s.advance t) present high fresh
    generalize kettleLevel k.val v (s.advance t) = u at row row' volt dump occurred state
    exact ⟨effect_of_advance (k := .kettleLevelChange t k v) row h rfl ⟨volt, dump, occurred, state⟩,
      effect_of_advance (k := .kettleOvervoltage t k v) row' h rfl ⟨volt, dump, occurred, state⟩⟩
  case deadline =>
    have row : doKettleChargeDeadline k.val (s.advance t) = ktFault k.val (s.advance t) := by
      have late' : d ≤ (s.advance t).etc := by rw [time]; exact late
      unfold doKettleChargeDeadline
      dsimp only
      rw [show ((s.advance t).kettle k.val).state = .charging from charging,
        show ((s.advance t).kettle k.val).deadline = some d from due]
      exact if_pos late'
    obtain ⟨occurred, -, -, -, state⟩ := ktFault_occurs (k := k.val) (s := s.advance t) present fresh
    generalize ktFault k.val (s.advance t) = u at row occurred state
    exact effect_of_advance (k := .kettleChargeDeadline t k) row h rfl ⟨occurred, state⟩
  case capacitance =>
    obtain ⟨cap, at_, flags⟩ := doKettleCapacitance_shows (v := v) (s := s.advance t) present k.isLt due
    generalize hu : doKettleCapacitance k.val v (s.advance t) = u at cap at_ flags
    exact effect_of_advance (k := .kettleCapacitanceMeasure t k v) hu h rfl ⟨cap, at_.trans time, flags⟩

end Sys2Proof.Machine
end

section
/-! Samples, closing records and captures, and off-state tests (11_closing_detection_diagnostics.md R351 to R364). -/

namespace Sys2Proof.Machine

/-! ## Samples (R351, R357) -/

theorem signed_toInt (code : BitVec 12) : signed 12 code.toNat = code.toInt := by
  have small := code.isLt
  unfold signed
  rw [BitVec.toInt_eq_toNat_cond]
  split <;> split <;> omega

theorem traceWord_low (code : BitVec 12) : BitVec.ofNat 8 (traceWord (signed 12 code.toNat) false) = code.setWidth 8 := by
  have small := code.isLt
  have twos' : twos 12 (signed 12 code.toNat) = code.toNat := by
    unfold twos signed
    split <;> omega
  apply BitVec.eq_of_toNat_eq
  unfold traceWord flagAt
  rw [twos', BitVec.toNat_ofNat, BitVec.toNat_setWidth, if_neg Bool.false_ne_true]
  split <;> omega

theorem memByte_memPatch (s : State) (a k : Nat) (l : List Byte) (h : k < l.length) :
    (s.memPatch a l).memByte (a + k) = l[k] := Table.get_setList_inside 0 s.mem.cells a k l h

/-- Memory has changed only in the trace buffer of bank `b` (R357). -/
def TraceOnly (b : Nat) (s u : State) : Prop :=
  ∀ a, a < 0x600000 + 0x800 * b ∨ 0x600000 + 0x800 * b + 0x800 ≤ a → u.memByte a = s.memByte a

/-- A sample is stored, or not, in its place of the buffer (R357). -/
theorem storeSample_leaves {b n : Nat} {v : Int} {s : State} (room : (s.dgt b).count < 1024) : let u := storeSample b n v s
    (u.dgt b).count = (if n % 2 ^ (s.dgt b).dec = 0 then (s.dgt b).count + 1 else (s.dgt b).count) ∧
      (n % 2 ^ (s.dgt b).dec = 0 →
        u.memByte (0x600000 + 0x800 * b + 2 * (s.dgt b).count) = BitVec.ofNat 8 (traceWord v false)) ∧
      TraceOnly b s u := by
  unfold storeSample
  dsimp only
  by_cases stored : n % 2 ^ (s.dgt b).dec = 0
  · rw [if_pos ⟨stored, room⟩, if_pos stored, State.dgt_setDgt]
    refine ⟨rfl, fun _ => ?_, fun a outside => ?_⟩
    · exact memByte_memPatch s (traceAddr b (s.dgt b).count) 0 (leBytes 2 (traceWord v false))
        (by rw [length_leBytes]; decide)
    · refine State.memByte_memPatch_other s (traceAddr b (s.dgt b).count) a _ ?_
      rw [length_leBytes]
      unfold traceAddr
      omega
  · rw [if_neg (fun h => stored h.1), if_neg stored]
    exact ⟨rfl, fun h => absurd h stored, fun _ _ => rfl⟩

/-- A detection is marked in the high byte of a stored sample (R357). -/
theorem markDetection_leaves {b n : Nat} {s : State} (room : (s.dgt b).count ≤ 1024) : let u := markDetection b n s
    (u.dgt b).capture = (s.dgt b).capture ∧ (u.dgt b).count = (s.dgt b).count ∧
      (∀ i, u.memByte (0x600000 + 0x800 * b + 2 * i) = s.memByte (0x600000 + 0x800 * b + 2 * i)) ∧
      TraceOnly b s u := by
  unfold markDetection
  dsimp only
  split
  case isTrue stored =>
    rw [State.dgt_setDgt]
    refine ⟨rfl, rfl, fun i => ?_, fun a outside => ?_⟩
    · refine State.memByte_memPatch_other s _ _ _ ?_
      show _ < traceAddr b (n / 2 ^ (s.dgt b).dec) + 1 ∨ traceAddr b (n / 2 ^ (s.dgt b).dec) + 1 + 1 ≤ _
      unfold traceAddr
      omega
    · refine State.memByte_memPatch_other s _ _ _ ?_
      show _ < traceAddr b (n / 2 ^ (s.dgt b).dec) + 1 ∨ traceAddr b (n / 2 ^ (s.dgt b).dec) + 1 + 1 ≤ _
      unfold traceAddr
      omega
  case isFalse => exact ⟨rfl, rfl, fun _ => rfl, fun _ _ => rfl⟩

/-- The capture and the buffer after the next sample (R351, R357). -/
theorem doDigitiserSample_leaves {b : Nat} {code : BitVec 12} {c : Capture} {s : State} (running : (s.dgt b).capture = some c)
    (due : sampleDue s b c = true) (room : (s.dgt b).count < 1024) : let u := doDigitiserSample b code s
    (∃ c', (u.dgt b).capture = some c' ∧ c'.count = c.count + 1 ∧
      c'.hist = (code.toInt :: c.hist).take (2 ^ c.cfg.f + 2 * c.cfg.d + 1)) ∧
    (u.dgt b).count = (if c.count % 2 ^ (s.dgt b).dec = 0 then (s.dgt b).count + 1 else (s.dgt b).count) ∧
    (c.count % 2 ^ (s.dgt b).dec = 0 →
      u.memByte (0x600000 + 0x800 * b + 2 * (s.dgt b).count) = code.setWidth 8) ∧ TraceOnly b s u := by
  obtain ⟨count, byte, only⟩ := storeSample_leaves (n := c.count) (v := signed 12 code.toNat) room
  unfold doDigitiserSample
  dsimp only
  rw [running]
  dsimp only
  rw [if_pos due, ← signed_toInt, ← traceWord_low]
  generalize storeSample b c.count (signed 12 code.toNat) s = v at count byte only ⊢
  generalize hc : addSample v b (signed 12 code.toNat) c = c'
  have taken : c'.count = c.count + 1 ∧
      c'.hist = (signed 12 code.toNat :: c.hist).take (2 ^ c.cfg.f + 2 * c.cfg.d + 1) := by
    subst hc
    exact ⟨rfl, rfl⟩
  have noted : ((v.setDgt b { v.dgt b with capture := some c' }).dgt b).capture = some c' ∧
      ((v.setDgt b { v.dgt b with capture := some c' }).dgt b).count = (v.dgt b).count := by
    rw [State.dgt_setDgt]
    exact ⟨rfl, rfl⟩
  have memory (a : Nat) : (v.setDgt b { v.dgt b with capture := some c' }).memByte a = v.memByte a := rfl
  generalize v.setDgt b { v.dgt b with capture := some c' } = w at noted memory ⊢
  obtain ⟨capture, same⟩ := noted
  split
  case isTrue =>
    have bound : (w.dgt b).count ≤ 1024 := by
      rw [same, count]
      split <;> omega
    obtain ⟨capture', count', low, only'⟩ := markDetection_leaves (n := c.count) bound
    generalize markDetection b c.count w = u at capture' count' low only' ⊢
    refine ⟨⟨c', capture'.trans capture, taken⟩, (count'.trans same).trans count, fun stored => ?_, fun a outside => ?_⟩
    · rw [low, memory]
      exact byte stored
    · rw [only' a outside, memory, only a outside]
  case isFalse =>
    refine ⟨⟨c', capture, taken⟩, same.trans count, fun stored => ?_, fun a outside => ?_⟩
    · rw [memory]
      exact byte stored
    · rw [memory, only a outside]

/-! ## The closing record and the end of a capture (R355, R358, R359) -/

theorem length_recordBytes (s : State) (b : Nat) (c : Capture) (d : Detection) (num : Nat) :
    (recordBytes s b c d num).length = 64 := by
  unfold recordBytes
  simp [length_leBytes, zeros]

/-- A record is written in its 64 bytes, counted and shown (R358). -/
def recordStored (b : Nat) (c : Capture) (d : Detection) (s : State) : State :=
  let u := { s.memWrite (0x610000 + 64 * (s.dia.recWr % 1024)) (recordBytes s b c d s.dia.recWr) with
    dia.recWr := wrapInc 32 s.dia.recWr
    bgs.closes := s.bgs.closes.filter (fun (x : Tick × Nat × Nat) => decide (s.etc < x.1 + ticksPerS)) ++
      [(s.etc, c.ch, (closeAt c.cfg d - c.off) / 800)] }
  (u.setDgt b { u.dgt b with capture := some { c with written := true } }).setDch c.ch { s.dch c.ch with
    last := 1, disturbed := d.disturbed, kinks := wrapInc 16 (s.dch c.ch).kinks }

theorem writeClosing_stored (b : Nat) (c : Capture) (d : Detection) (s : State) : ∃ y l e n o w1 w2,
    writeClosing b c d s = mirrorAt y l e (raise n (notice o w1 w2 (recordStored b c d s))) :=
  ⟨_, _, _, _, _, _, _, rfl⟩

/-- What writing a record leaves (R358). -/
theorem writeClosing_leaves (b : Nat) (c : Capture) (d : Detection) (s : State) : let u := writeClosing b c d s
    u.mem = (s.memWrite (0x610000 + 64 * (s.dia.recWr % 1024)) (recordBytes s b c d s.dia.recWr)).mem ∧
      u.dia.recWr = wrapInc 32 s.dia.recWr ∧ (u.dgt b).capture = some { c with written := true } ∧
      u.dch c.ch = { s.dch c.ch with
        last := 1, disturbed := d.disturbed, kinks := wrapInc 16 (s.dch c.ch).kinks } := by
  have stored : (recordStored b c d s).mem =
      (s.memWrite (0x610000 + 64 * (s.dia.recWr % 1024)) (recordBytes s b c d s.dia.recWr)).mem ∧
      (recordStored b c d s).dia.recWr = wrapInc 32 s.dia.recWr ∧
      ((recordStored b c d s).dgt b).capture = some { c with written := true } ∧
      (recordStored b c d s).dch c.ch = { s.dch c.ch with
        last := 1, disturbed := d.disturbed, kinks := wrapInc 16 (s.dch c.ch).kinks } := by
    refine ⟨rfl, rfl, ?_, State.dch_setDch ..⟩
    unfold recordStored
    dsimp only
    rw [show ∀ (v : State) (j : Nat) (g : DiaCh), (v.setDch j g).dgt b = v.dgt b from fun _ _ _ => rfl, State.dgt_setDgt]
  obtain ⟨y, l, e, n, o, w1, w2, row⟩ := writeClosing_stored b c d s
  rw [row]
  generalize recordStored b c d s = v at stored
  have same : (mirrorAt y l e (raise n (notice o w1 w2 v))).mem = v.mem ∧
      (mirrorAt y l e (raise n (notice o w1 w2 v))).dia = v.dia := by simp
  dsimp only
  unfold State.dgt State.dch at *
  rw [same.1, same.2]
  exact stored

theorem pendingRecord_found {b : Nat} {c : Capture} {d : Detection} {s : State} (running : (s.dgt b).capture = some c)
    (found : c.det = some d) (fresh : c.written = false) : pendingRecord b s = writeClosing b c d s := by
  unfold pendingRecord
  rw [running]
  dsimp only
  rw [found, fresh]

/-- The end of a capture that found nothing (R355). -/
theorem doCaptureEnd_missed {b : Nat} {c : Capture} {s : State} (running : (s.dgt b).capture = some c)
    (over' : c.off + (c.cfg.winStart + c.cfg.winLen) * ticksPerUs ≤ s.etc) (missed : c.det = none) :
    doCaptureEnd b s = (s.setDch c.ch { s.dch c.ch with
      lastCapture := c.off + (c.cfg.winStart + c.cfg.winLen) * ticksPerUs
      last := 2, misses := satInc 255 (s.dch c.ch).misses }).setDgt b { s.dgt b with
        capture := none, muxAt := some (c.off + (c.cfg.winStart + c.cfg.winLen) * ticksPerUs) } := by
  have none : pendingRecord b s = s := by
    unfold pendingRecord
    rw [running]
    dsimp only
    rw [missed]
  unfold doCaptureEnd endCapture
  rw [running]
  dsimp only
  rw [if_pos (by exact over'), none, missed]
  rfl

/-! ## Off-state tests (R361, R362, R364) -/

theorem setDch_dch_other {s : State} {k m : Nat} (h : m ≠ k) (g : DiaCh) : (s.setDch k g).dch m = s.dch m :=
  State.dch_setDch_other s g h

/-- The channels whose tests a round starts (R362, R364). -/
def roundTests (s : State) : List Nat :=
  (List.range s.channels).filter (fun k =>
    (s.dch k).test.isNone && (singleWaits s (s.dch k) || (s.dch k).offEn) && testEligible s k)

theorem doOffTestStart_round {s : State} (due : ∀ r, s.dia.lastRound = some r → r + ticksPerMs ≤ s.etc) :
    doOffTestStart s = { forEach (roundTests s) startTest s with
      dia.lastRound := some (forEach (roundTests s) startTest s).etc } := by
  unfold doOffTestStart
  dsimp only
  cases hr : s.dia.lastRound with
  | none => rfl
  | some r =>
    simp only [decide_eq_true (due r hr)]
    rfl

/-- A round starts the tests of its channels, each as its channel stood (R362). -/
theorem doOffTestStart_starts {k : Nat} {s : State} (idle : (s.dch k).test = none) (on : (s.dch k).offEn = true)
    (eligible : testEligible s k = true) (due : ∀ r, s.dia.lastRound = some r → r + ticksPerMs ≤ s.etc) :
    let u := doOffTestStart s
    u.dch k = { s.dch k with test := some s.etc, testSingle := (s.dch k).single.isSome, single := none } ∧
      u.dia.lastRound = some s.etc := by
  have present : k < s.channels := by
    unfold testEligible at eligible
    simp only [Bool.and_eq_true, decide_eq_true_eq] at eligible
    tauto
  have started := forEach_inside (fun u m => u.dch m) (f := startTest) (fun n m u h => setDch_dch_other h _)
    (I := fun u => u.etc = s.etc)
    (Q := fun _ g h => h = { g with test := some s.etc, testSingle := g.single.isSome, single := none })
    (fun n u h => h) (fun n u h => by rw [← h]; exact State.dch_setDch ..) (l := roundTests s)
    (List.nodup_range.filter _) (m := k)
    (List.mem_filter.mpr ⟨List.mem_range.mpr present, by simp [idle, on, eligible]⟩) (s := s) rfl
  have time : (forEach (roundTests s) startTest s).etc = s.etc :=
    forEach_keeps (·.etc) (f := startTest) (fun _ _ => rfl) _ s
  rw [doOffTestStart_round due]
  exact ⟨started, congrArg some time⟩

/-- The code of a test that ends confirms a fault (R361, R362). -/
theorem confirms_iff (h : DiaCh) (code : Nat) : (offFaulty code && (h.testSingle || h.prevOff == code)) = true ↔
    (code = 2 ∨ code = 3 ∨ code = 4) ∧ (h.testSingle = true ∨ h.prevOff = code) := by
  unfold offFaulty
  simp [or_assoc]

/-- The channel after a complete test (R362, R369). -/
def DiaCh.tested (h : DiaCh) (code : Nat) (last : Nat × Nat) : DiaCh :=
  { h with
    off := code, prevOff := code, offTests := wrapInc 16 h.offTests, vh := sat 4095 last.1, vl := sat 4095 last.2
    test := none, testSingle := false
    confirmed := if offFaulty code && (h.testSingle || h.prevOff == code) || h.confirmed == code then code else 0
    offFlt := h.offFlt || (offFaulty code && (h.testSingle || h.prevOff == code))
    offFaults := if offFaulty code && (h.testSingle || h.prevOff == code) && h.confirmed != code then
      satInc 255 h.offFaults else h.offFaults }

theorem doOffTestComplete_tested {k code : Nat} {l : List (Nat × Nat)} {x : Tick} {s : State} (began : (s.dch k).test = some x)
    (settled : x + 150 * ticksPerUs ≤ s.etc) (result : offResult l = some code) :
    doOffTestComplete k l s =
      if offFaulty code && ((s.dch k).testSingle || (s.dch k).prevOff == code) && (s.dch k).confirmed != code then
        fault (80 + bankOf k) (s.setDch k ((s.dch k).tested code (l.getLastD (0, 0))))
      else s.setDch k ((s.dch k).tested code (l.getLastD (0, 0))) := by
  unfold doOffTestComplete
  rw [began]
  dsimp only
  rw [if_pos settled, result]
  rfl

/-- What a channel's diagnostics have found of its off-state is kept, and no test begins. -/
theorem Within.offState {A : Move → Prop} {s u : State} (h : Within A s u) (k : Nat) : (u.dch k).off = (s.dch k).off ∧
    (u.dch k).offFlt = (s.dch k).offFlt ∧ ((s.dch k).test = none → (u.dch k).test = none) := by
  refine h.keeps (P := fun v => (v.dch k).off = (s.dch k).off ∧ (v.dch k).offFlt = (s.dch k).offFlt ∧
    ((s.dch k).test = none → (v.dch k).test = none)) (fun m v w _ hm hv => ?_) ⟨rfl, rfl, id⟩
  by_cases e : m = .dch k
  · subst e
    cases hm with
    | dch _ g _ hg =>
      obtain ⟨same, idle⟩ := hg
      obtain ⟨off, flt, test⟩ := hv
      rw [State.dch_setDch]
      exact ⟨by rw [same]; exact off, by rw [same]; exact flt, fun none => idle (test none)⟩
  · rw [hm.dch_eq e]
    exact hv

/-- The bank of a channel that the order code has. -/
theorem bankOf_lt {s : State} {k : Nat} (present : k < s.channels) : bankOf k < s.banks := by
  unfold State.channels at present
  unfold State.banks bankOf
  split at present <;> simp_all <;> omega

/-- Settles O26: each row by what it writes of the digitiser, the channel's diagnostics and memory. -/
theorem diagnosticsCaptureAndTest : Obligations.DiagnosticsCaptureAndTest := by
  unfold Obligations.DiagnosticsCaptureAndTest
  refine ⟨fun s t b c h running => ⟨fun code due room => ?sample, fun d found fresh => ?record, fun over' missed => ?ends⟩,
    fun s t k h => ⟨fun idle on eligible due => ?start, fun x l code began settled result => ?complete,
      fun d waits late => ?notRun⟩⟩
  case sample =>
    obtain ⟨capture, count, byte, only⟩ :=
      doDigitiserSample_leaves (b := b.val) (code := code) (s := s.advance t) running due room
    generalize hu : doDigitiserSample b.val code (s.advance t) = u at capture count byte only
    exact effect_of_advance (k := .digitiserSample t b code) hu h rfl ⟨capture, count, byte, only⟩
  case record =>
    have row : doClosingRecordWritten b.val (s.advance t) = writeClosing b.val c d (s.advance t) :=
      pendingRecord_found (s := s.advance t) running found fresh
    obtain ⟨mem, count, capture, dia⟩ := writeClosing_leaves b.val c d (s.advance t)
    generalize writeClosing b.val c d (s.advance t) = u at row mem count capture dia
    have byte (a : Nat) : u.memByte a = ((s.advance t).memWrite (0x610000 + 64 * (s.dia.recWr % 1024))
        (recordBytes (s.advance t) b.val c d s.dia.recWr)).memByte a := by
      unfold State.memByte
      rw [mem]
      rfl
    have same : recordBytes (s.advance t) b.val c d s.dia.recWr = recordBytes s b.val c d s.dia.recWr := rfl
    have length := length_recordBytes s b.val c d s.dia.recWr
    rw [same] at byte
    refine effect_of_advance (k := .closingRecordWritten t b) row h rfl ⟨fun i hi => ?_, fun a outside => ?_, count,
      capture, dia⟩
    · refine (byte _).trans ?_
      rw [State.memByte_memWrite _ _ _ _ (by rw [length]; exact hi), List.getD_eq_getElem _ _ (by rw [length]; exact hi)]
    · refine (byte a).trans (State.memByte_memWrite_other (s.advance t) _ _ _ ?_)
      rw [length]
      exact outside
  case ends =>
    have row := doCaptureEnd_missed (b := b.val) (s := s.advance t) running (by rw [etc_alive t h]; exact over') missed
    refine effect_of_advance (k := .captureEnd t b) row h rfl ⟨?_, ?_, rfl⟩
    · exact State.dgt_setDgt ((s.advance t).setDch c.ch _) b.val _
    · exact State.dch_setDch (s.advance t) c.ch _
  case start =>
    have time := etc_alive t h
    obtain ⟨dia, last⟩ := doOffTestStart_starts (k := k.val) (s := s.advance t) idle on eligible
      (fun r hr => by rw [time]; exact due r hr)
    rw [time] at dia last
    generalize hu : doOffTestStart (s.advance t) = u at dia last
    exact effect_of_advance (k := .offTestStart t) hu h rfl ⟨dia, last⟩
  case complete =>
    have row := doOffTestComplete_tested (k := k.val) (l := l) (s := s.advance t) began
      (by rw [etc_alive t h]; exact settled) result
    have keep : (s.advance t).dch k.val = s.dch k.val := rfl
    rw [keep] at row
    have confirms := confirms_iff (s.dch k.val) code
    refine ⟨fun unconfirmed => ?_, fun confirmed present => ?_⟩
    · have quiet : ¬ (offFaulty code && ((s.dch k.val).testSingle || (s.dch k.val).prevOff == code) &&
          (s.dch k.val).confirmed != code) = true := by
        rw [Bool.and_eq_true, confirms, bne_iff_ne]
        exact unconfirmed
      rw [if_neg quiet] at row
      refine effect_of_advance (k := .offTestComplete t k l) row h rfl ?_
      have dia : (settle ((s.advance t).setDch k.val ((s.dch k.val).tested code (l.getLastD (0, 0))))).dch k.val =
        (s.dch k.val).tested code (l.getLastD (0, 0)) := State.dch_setDch (s.advance t) k.val _
      rw [dia]
      refine ⟨rfl, rfl, ?_, rfl, rfl, fun m other => setDch_dch_other (s := s.advance t) other _⟩
      show ((s.dch k.val).offFlt || _) = _
      refine congrArg _ (Bool.eq_iff_iff.mpr ?_)
      rw [confirms, decide_eq_true_iff]
    · have loud : (offFaulty code && ((s.dch k.val).testSingle || (s.dch k.val).prevOff == code) &&
          (s.dch k.val).confirmed != code) = true := by
        rw [Bool.and_eq_true, confirms, bne_iff_ne]
        exact confirmed
      have source := (bankFault_present (bankOf_lt present)).2
      have small : 80 + bankOf k.val < 96 := by
        unfold bankOf
        omega
      have found : ((s.dch k.val).tested code (l.getLastD (0, 0))).offFlt = true := by
        show ((s.dch k.val).offFlt || _) = true
        rw [confirms.mpr confirmed.1, Bool.or_true]
      rw [if_pos loud] at row
      have dia : ((s.advance t).setDch k.val ((s.dch k.val).tested code (l.getLastD (0, 0)))).dch k.val =
        (s.dch k.val).tested code (l.getLastD (0, 0)) := State.dch_setDch (s.advance t) k.val _
      have flt : ((s.advance t).setDch k.val ((s.dch k.val).tested code (l.getLastD (0, 0)))).flt = s.flt := rfl
      have order : ((s.advance t).setDch k.val ((s.dch k.val).tested code (l.getLastD (0, 0)))).sys.order64 =
        s.sys.order64 := rfl
      generalize (s.advance t).setDch k.val ((s.dch k.val).tested code (l.getLastD (0, 0))) = v at row dia flt order
      rw [← order] at source
      have occurred := fault_occurred source small
      obtain ⟨off, offFlt, idle⟩ := (fault_within source).offState k
      have same : (faultRecord (80 + bankOf k.val) (classApplied v (80 + bankOf k.val)) v).dch k.val = v.dch k.val := rfl
      rw [same, dia] at off offFlt idle
      generalize fault (80 + bankOf k.val) v = u at row occurred off offFlt idle
      exact effect_of_advance (k := .offTestComplete t k l) row h rfl
        ⟨off, idle rfl, offFlt.trans found, Occurred.of_flt flt occurred⟩
  case notRun =>
    have late' : d ≤ (s.advance t).etc := by rw [etc_alive t h]; exact late
    have row : doOffTestNotRun k.val (s.advance t) = (s.advance t).setDch k { s.dch k with single := none, off := 6 } := by
      unfold doOffTestNotRun
      dsimp only
      rw [show ((s.advance t).dch k.val).single = some d from waits]
      exact if_pos late'
    refine effect_of_advance (k := .offTestNotRun t k) row h rfl ⟨?_, fun m other => ?_⟩
    · exact State.dch_setDch (s.advance t) k.val _
    · exact setDch_dch_other (s := s.advance t) other _

end Sys2Proof.Machine
end

section
/-! The end of a DMA transfer and the latch of its starter (09_tasks_memory_dma_faults.md R312; 08_angle_code_isa.md
R273): a latch that a parked WAITE waits for is returned to it and cleared. -/

namespace Sys2Proof.Machine

/-- A module in RUN whose DMA channel 0 has moved all its bytes for context 0, which is HALTED and waits for its
latches. -/
def transferDoneForWaiting : State :=
  { State.reset with
    sys.mode := .run
    supply.state := .main
    dma.ch := [(0, { phase := .move })]
    seq.ctx := [(0, { state := .halted, wait := .latch 0 0x3F 0 0 })] }

theorem latches_transferDoneForWaiting :
    (match exec (.dmaTransferComplete 0 0) transferDoneForWaiting with
      | .next u => (u.ctx 0).latches.getLsbD 3
      | _ => true) = false := by
  decide

/-- Refutes O47: the completion returns its latch to a WAITE that waits for it (R273), which clears it, where the
statement has the latch of every HALTED context stay set. -/
theorem not_dmaMovesBytes : ¬ Obligations.DmaMovesBytes := by
  unfold Obligations.DmaMovesBytes
  intro h
  have alive : Alive transferDoneForWaiting := by decide
  obtain ⟨-, complete⟩ := h transferDoneForWaiting 0 0 0 alive
  obtain ⟨u, hu, -, -, -, -, latch⟩ := complete (by decide) (by decide) (by decide)
  have cleared := latches_transferDoneForWaiting
  rw [hu] at cleared
  exact absurd ((latch (by decide)).symm.trans cleared) (by decide)

end Sys2Proof.Machine
end

section
/-! Scrubbing (14_background_observation.md R430, R431) and the reaction of class SAFE (13 R413, R418): an uncorrectable
word of program memory is reported as fault 56, whose class the configuration may set to SAFE; the entry to SAFE drops
the events that wait, and each drop record is written to the drop ring (07 R245). -/

namespace Sys2Proof.Machine

/-- A module in RUN from the image in bank 0, with an event waiting in slot 0 and fault 56 configured as SAFE. -/
def scrubbedWithEvent : State :=
  { State.reset with
    sys.mode := .run
    sys.running := some .a
    supply.state := .main
    cfg.active := State.reset.cfg.active.set 0 0x5E 2
    evs.slots := [(0, { state := .near })] }

set_option maxRecDepth 20000 in
theorem listed_scrubbedWithEvent :
    (match exec (.scrubAccess 0 .program .uncorrectable true) scrubbedWithEvent with
      | .next u => u.mem.cells.isEmpty
      | _ => true) = false := by
  decide

/-- Refutes O58: an uncorrectable word of program memory does change memory outside it where fault 56 has the class
SAFE, since the drops of the entry to SAFE write the drop ring. -/
theorem not_scrubbingAndCalibration : ¬ Obligations.ScrubbingAndCalibration := by
  unfold Obligations.ScrubbingAndCalibration
  intro h
  obtain ⟨-, -, restored, -⟩ := h scrubbedWithEvent 0 (by decide)
  obtain ⟨u, hu, -, -, -, cells, -⟩ := restored (by decide)
  have listed := listed_scrubbedWithEvent
  rw [hu] at listed
  have none : u.mem.cells = [] := cells
  simp [none] at listed

end Sys2Proof.Machine
end

section
/-! The Mirror lanes (14_background_observation.md R446 to R449), reads by snapshot (00 R9, R10) and writes of registers
(16_register_address_map.md R472, R476, R478), with the words of an SPI transaction (04_ohmac_command_set.md R124). -/

namespace Sys2Proof.Machine

/-! ## Numbers as bytes (R8) -/

/-- Little-endian bytes spell the number they were made of. -/
theorem leNat_leBytes (n v : Nat) : leNat (leBytes n v) = v % 256 ^ n := by
  induction n generalizing v with
  | zero => simp [leBytes, leNat, Nat.mod_one]
  | succ n ih =>
    show (BitVec.ofNat 8 v).toNat + 256 * leNat (leBytes n (v / 256)) = _
    rw [ih, BitVec.toNat_ofNat, show 256 ^ (n + 1) = 256 * 256 ^ n from Nat.pow_succ']
    exact (Nat.mod_mul (x := v) (a := 256)).symm

theorem beNat_beBytes (n v : Nat) : beNat (beBytes n v) = v % 256 ^ n := by
  unfold beNat beBytes
  rw [List.reverse_reverse, leNat_leBytes]

theorem length_beBytes (n v : Nat) : (beBytes n v).length = n := by
  unfold beBytes
  rw [List.length_reverse, length_leBytes]

/-- The bytes of a field that stands behind others. -/
theorem slice_append (x y z : List Byte) : slice (x ++ y ++ z) x.length y.length = y := by
  unfold slice
  rw [List.append_assoc, List.drop_left, List.take_left]

theorem wordsOf_short {z : List Byte} (h : z.length < 4) : wordsOf z = [] := by
  unfold wordsOf
  rw [Nat.div_eq_of_lt h]
  rfl

/-- The words of a byte string, one at a time. -/
theorem wordsOf_append (w : Word) (z : List Byte) : wordsOf (leBytes 4 w.toNat ++ z) = w :: wordsOf z := by
  have four : (leBytes 4 w.toNat).length = 4 := length_leBytes 4 _
  have count : (leBytes 4 w.toNat ++ z).length / 4 = z.length / 4 + 1 := by
    rw [List.length_append, four]
    omega
  unfold wordsOf
  rw [count, List.range_succ_eq_map, List.map_cons, List.map_map]
  refine congrArg₂ List.cons ?_ (List.map_congr_left fun i _ => ?_)
  · have head : leAt (leBytes 4 w.toNat ++ z) (4 * 0) 4 = w.toNat % 256 ^ 4 := leNat_leBytes 4 w.toNat
    rw [head]
    have := w.isLt
    exact BitVec.eq_of_toNat_eq (by rw [BitVec.toNat_ofNat]; omega)
  · have later : (leBytes 4 w.toNat ++ z).drop (4 * (i + 1)) = z.drop (4 * i) := by
      rw [show 4 * (i + 1) = 4 + 4 * i by omega, ← List.drop_drop, List.drop_left' four]
    show BitVec.ofNat 32 (leAt (leBytes 4 w.toNat ++ z) (4 * (i + 1)) 4) = _
    unfold leAt slice
    rw [later]

/-! ## SPI transactions (R124) -/

/-- A transaction that is not acted on stands for no command. -/
theorem spiCommands_ignored {b : List Byte} (t : Tick) (n : Nat)
    (h : spiAddr b % 4 ≠ 0 ∨ (b.head? ≠ some 0x0B ∧ b.head? ≠ some 2)) : spiCommands t n b = [] := by
  have unsound : spiSound b = false := by
    unfold spiSound
    obtain odd | unknown := h
    · simp [odd]
    · cases b with
      | nil => rfl
      | cons x r =>
        obtain ⟨read, write⟩ := unknown
        have value (c : Byte) (hc : (x :: r).head? ≠ some c) : (spiCode (x :: r) == c.toNat) = false :=
          beq_eq_false_iff_ne.mpr fun e => hc (congrArg some (BitVec.eq_of_toNat_eq e))
        rw [show (0x0B : Nat) = (0x0B : Byte).toNat by rfl, show (0x02 : Nat) = (2 : Byte).toNat by rfl,
          value _ read, value _ write]
        simp
  unfold spiCommands
  rw [unsound]
  rfl

/-- A transaction of two words and the rest of a third writes the two words. -/
theorem spiCommands_write (t : Tick) (n : Nat) {a : BitVec 24} (w v : Word) {z : List Byte} (aligned : a.toNat % 4 = 0)
    (rest : z.length < 4) : spiCommands t n ([2] ++ beBytes 3 a.toNat ++ leBytes 4 w.toNat ++ leBytes 4 v.toNat ++ z) =
      [.registerWrite t .host a w, .registerWrite t .host (a + 4) v] := by
  have header : ([2] ++ beBytes 3 a.toNat : List Byte).length = 4 := by
    rw [List.length_append, length_beBytes]
    rfl
  generalize hb : [2] ++ beBytes 3 a.toNat ++ leBytes 4 w.toNat ++ leBytes 4 v.toNat ++ z = b
  have parts : b = ([2] ++ beBytes 3 a.toNat) ++ (leBytes 4 w.toNat ++ (leBytes 4 v.toNat ++ z)) := by
    rw [← hb]
    simp only [List.append_assoc]
  have addr : spiAddr b = a.toNat := by
    unfold spiAddr
    rw [parts, show slice _ 1 3 = beBytes 3 a.toNat from by
      rw [← length_beBytes 3 a.toNat]; exact slice_append [2] (beBytes 3 a.toNat) _, beNat_beBytes]
    have := a.isLt
    omega
  have code : spiCode b = 2 := by
    rw [parts]
    rfl
  have words : spiWords b = [w, v] := by
    unfold spiWords
    rw [parts, List.drop_left' header, wordsOf_append, wordsOf_append, wordsOf_short rest]
  have sound : spiSound b = true := by
    unfold spiSound
    rw [addr, code, aligned, parts, List.length_append, header]
    simp
  have place (i : Nat) : spiWordAddr b i = a + BitVec.ofNat 24 (4 * i) := by
    unfold spiWordAddr
    rw [addr]
    exact BitVec.eq_of_toNat_eq (by simp)
  unfold spiCommands
  rw [sound, code, if_neg (by decide), if_pos rfl, words]
  show [Instr.registerWrite t .host (spiWordAddr b 0) w, .registerWrite t .host (spiWordAddr b 1) v] = _
  rw [place, place]
  simp

/-! ## The Mirror lanes (R446, R448) -/

section
variable {s : State} {t : Tick} (h : Alive s)
include h

theorem lanesStopped_run : lanesStopped (s.advance t) = false := by
  have mode : (s.advance t).sys.mode = .run := h.1
  unfold lanesStopped
  rw [mode]

theorem serviceRuns_run : serviceRuns (s.advance t) = true := by
  obtain ⟨run, powered, -⟩ := h
  have mode : (s.advance t).sys.mode = .run := run
  have supply : (s.advance t).supply.state = s.supply.state := rfl
  unfold serviceRuns scrubRuns
  rw [mode, supply]
  simpa using powered

end

/-- A lane that was idle with nothing queued sends a frame at once. -/
theorem laneStart_queued {n : Nat} {x : Tick} {f : Frame} {l : Lane} (idle : l.sending = none) (empty : l.queue = [])
    (none : l.lossRun = 0) : laneQueue n x f l = ({ l with queue := [f] }, false) ∧
      laneStart false { l with queue := [f] } = { l with sending := some f } := by
  constructor
  · unfold laneQueue
    rw [empty, none]
    rfl
  · have first : nextFrame [f] = some f := by
      unfold nextFrame
      rw [List.find?_singleton]
      split <;> simp_all
    unfold laneStart
    dsimp only
    rw [idle, first]
    simp [empty]

/-- A frame for the second lane, which is idle with nothing queued, is sent at once (R448). -/
theorem mirrorAt_sends {ty : Nat} {body : List Byte} {x : Tick} {s : State} (lane : frameLane s.mirrorEn ty = some 1)
    (going : lanesStopped s = false) (idle : s.obs.lane1.sending = none) (empty : s.obs.lane1.queue = [])
    (none : s.obs.lane1.lossRun = 0) : mirrorAt ty body x s = { s with obs := { s.obs with
      lane1 := { s.obs.lane1 with
        sending := some { type := ty, data := BitVec.ofNat 8 ty :: body ++ leBytes 8 x } } } } := by
  obtain ⟨queued, sent⟩ := laneStart_queued (n := 1) (x := s.etc)
    (f := { type := ty, data := BitVec.ofNat 8 ty :: body ++ leBytes 8 x }) idle empty none
  unfold mirrorAt
  dsimp only
  rw [lane, going, queued]
  dsimp only
  rw [sent]
  rfl

/-- The COUNTERS frame of a millisecond, where the second lane is idle (R447). -/
theorem doCounterFrame_sends {s : State} (going : lanesStopped s = false) (runs : serviceRuns s = true)
    (due : s.obs.counterMs < s.etc / ticksPerMs) (lane : s.mirrorEn % 4 = 2) (idle : s.obs.lane1.sending = none)
    (empty : s.obs.lane1.queue = []) (none : s.obs.lane1.lossRun = 0) :
    doCounterFrame s = { s with obs := { s.obs with
      counterMs := s.etc / ticksPerMs
      lane1 := { s.obs.lane1 with sending := some {
        type := 8, data := [8, 0] ++ leBytes 2 s.lns.speed ++ leBytes 4 s.evs.cycle ++ leBytes 4 s.evs.ins ++
          leBytes 4 s.evs.drops ++ leBytes 4 s.dia.recWr ++ leBytes 4 s.flt.total ++
          leBytes 8 (s.etc / ticksPerMs * ticksPerMs) } } } } := by
  have second : frameLane s.mirrorEn 8 = some 1 := by
    unfold frameLane
    rw [lane]
    rfl
  unfold doCounterFrame
  dsimp only
  rw [going, runs, decide_eq_false (Nat.not_le.mpr due), if_neg (by decide)]
  refine (mirrorAt_sends (s := { s with obs.counterMs := s.etc / ticksPerMs }) second going idle empty none).trans ?_
  have bytes : u32s [s.evs.cycle, s.evs.ins, s.evs.drops, s.dia.recWr, s.flt.total] = leBytes 4 s.evs.cycle ++
      (leBytes 4 s.evs.ins ++ (leBytes 4 s.evs.drops ++ (leBytes 4 s.dia.recWr ++ leBytes 4 s.flt.total))) := by
    unfold u32s
    simp only [List.flatMap_cons, List.flatMap_nil, List.append_nil]
  rw [bytes]
  simp only [List.append_assoc, List.cons_append, List.nil_append]
  rfl

/-- A lane that has sent its frame begins the next one queued. -/
theorem laneSent_next {l : Lane} {f n : Frame} (sending : l.sending = some f) (next : nextFrame l.queue = some n) :
    laneSent false l = { l with sending := some n, queue := l.queue.erase n, sent := wrapInc 32 l.sent } := by
  unfold laneSent laneStart
  rw [sending]
  dsimp only
  rw [next]
  rfl

/-! ## Writes of registers by angle code's peers (R478) -/

theorem undefinedPulse_registerWrite (s : State) (t : Tick) (r : Requester) (a : BitVec 24) (v : Word) :
    undefinedPulse s (.registerWrite t r a v) = false := rfl

/-- A write that no requester may make, or that is not aligned, has no effect. -/
theorem doRegisterWrite_ignored {s : State} {r : Requester} {a : Nat} {v : Word} (h : a % 4 ≠ 0 ∨ (∃ c, r = .dma c) ∨
    (∃ q p, r = .ctx q p ∧ admitted (s.taskOf (8 * q.val + p.val)).segs .store a 4 = false)) :
    doRegisterWrite r a v s = s := by
  unfold doRegisterWrite
  obtain odd | ⟨c, rfl⟩ | ⟨q, p, rfl, refused⟩ := h
  · exact if_pos odd
  · exact ite_self _
  · split
    · rfl
    · refine if_neg fun ⟨_, granted⟩ => ?_
      unfold State.taskOf at refused
      rw [refused] at granted
      exact Bool.false_ne_true granted

/-- The firmware writes the registers of R478 that are not its target's own. -/
theorem doRegisterWrite_core {s : State} {a : Nat} {v : Word} (run : s.sys.mode = .run) (aligned : a % 4 = 0)
    (ownless : a < 0x1200 ∨ 0x1278 ≤ a) : doRegisterWrite .core a v s = codeWrite 16 a v s := by
  have awake : asleep s = false := by
    unfold asleep
    rw [run]
    rfl
  unfold doRegisterWrite coreWrite
  rw [if_neg (by omega), awake]
  dsimp only
  rw [if_neg (by decide), if_neg (by omega)]

/-- The speed thresholds are written together. -/
theorem codeWrite_speed (o : Nat) (v : Word) (s : State) :
    codeWrite o 0x6030 v s = { s with lns := { s.lns with spdLo := v.toNat % 65536, spdHi := v.toNat / 65536 } } := by
  have high : bits v.toNat 16 16 = v.toNat / 65536 := by
    unfold bits
    have := v.isLt
    exact Nat.mod_eq_of_lt (by omega)
  have low : bits v.toNat 0 16 = v.toNat % 65536 := by
    simp [bits]
  show { s with lns := { s.lns with spdLo := bits v.toNat 0 16, spdHi := bits v.toNat 16 16 } } = _
  rw [low, high]

theorem codeWrite_level (o : Nat) (v : Word) (s : State) {k : Nat} (hk : k < 32) :
    codeWrite o (0x1000 + 4 * k) v s = writeLevel k v s := by
  unfold codeWrite
  rw [show (0x1000 + 4 * k) / 4096 = 1 by omega]
  show (if 0x1000 + 4 * k < 0x1080 then writeLevel ((0x1000 + 4 * k - 0x1000) / 4) v s else s) = _
  rw [if_pos (by omega), show (0x1000 + 4 * k - 0x1000) / 4 = k by omega]

/-- A write of one entry, whatever value is not listed, leaves the others. -/
theorem get_set_otherDefault {α : Type} [DecidableEq α] (d e : α) (m : Table α) {i j : Nat} (v : α) (h : j ≠ i) :
    Table.get d (Table.set e m i v) j = Table.get d m j := by
  unfold Table.set
  split
  · exact Table.get_erase_other d m h
  · rw [Table.get_insert_other d _ v h, Table.get_erase_other d m h]

/-- What HOST_INT_N does to a state that has only gone on in time. -/
theorem settle_advance {s : State} (t : Tick) (h : Alive s) : settle (s.advance t) = { s with
    now := max s.now t, etc := max s.etc t
    irc := { s.irc with
      line := (settle (s.advance t)).irc.line, hold := (settle (s.advance t)).irc.hold
      quiet := (settle (s.advance t)).irc.quiet } } := by
  rw [advance_run t s h.1]
  rfl

/-- A read that takes a pair latches its high word for its requester alone (R9). -/
theorem doSnapshotRead_pair {s : State} {r : Requester} {a v : Nat} (low : a < 0x10000) (aligned : a % 4 = 0)
    (plain : a ≠ 0x6000) (pair : pairAt s a = some v) : doSnapshotRead r a s =
      { s with snaps.high := s.snaps.high.set 0 (reqNum r * 65536 + (a + 4)) (BitVec.ofNat 32 (v / 2 ^ 32)) } := by
  unfold doSnapshotRead
  rw [if_pos ⟨low, aligned⟩]
  unfold regLatch
  rw [if_neg plain, pair]

/-- A read of `LNS_ANGLE` latches the instant (R216). -/
theorem doLnsAngleRead_latches (r : Requester) (s : State) : doLnsAngleRead r s = { s with snaps := { s.snaps with
    angLo := s.snaps.angLo.set 0 (reqNum r) (BitVec.ofNat 32 s.etc)
    angHi := s.snaps.angHi.set 0 (reqNum r) (BitVec.ofNat 32 (s.etc / 2 ^ 32)) } } := by
  unfold doLnsAngleRead regLatch
  exact if_pos rfl

/-- Settles O60: each clause is one row's law at the command's instant. -/
theorem mirrorAndRegisterAccess : Obligations.MirrorAndRegisterAccess := by
  unfold Obligations.MirrorAndRegisterAccess
  intro s t h
  have time := etc_alive t h
  have run : (s.advance t).sys.mode = .run := h.1
  refine ⟨fun due lane idle empty none => ?counters, fun f n sending next => ?sent,
    fun r a v low aligned plain pair => ?read, fun r => ?angle, fun v => ?speed, fun k v hk => ?level,
    fun a v up aligned mbx buffer own => ?host, fun r a v barred => ?barred,
    fun n a w v z aligned rest => spiCommands_write t n w v aligned rest, fun n b ignored => spiCommands_ignored t n ignored⟩
  case counters =>
    have row := doCounterFrame_sends (lanesStopped_run (t := t) h) (serviceRuns_run h) (by rw [time]; exact due) lane idle
      empty none
    rw [time] at row
    exact effect_of_advance (k := .counterFrame t) row h rfl rfl
  case sent =>
    have row : doMirrorFrameSent 0 (s.advance t) =
        { s.advance t with obs.lane0 := laneSent (lanesStopped (s.advance t)) s.obs.lane0 } := rfl
    rw [lanesStopped_run h, laneSent_next sending next] at row
    exact effect_of_advance (k := .mirrorFrameSent t 0) row h rfl rfl
  case read =>
    refine effect_of_advance (k := .snapshotRead t r a) (doSnapshotRead_pair low aligned plain pair) h rfl
      ⟨Table.get_set_same 0 _ _ _, fun k other => Table.get_set_other 0 _ _ other, rfl, rfl, rfl⟩
  case angle =>
    have row := doLnsAngleRead_latches r (s.advance t)
    rw [time] at row
    exact effect_of_advance (k := .lnsAngleRead t r) row h rfl ⟨Table.get_set_same 0 _ _ _, Table.get_set_same 0 _ _ _,
      rfl, fun k other => ⟨Table.get_set_other 0 _ _ other, Table.get_set_other 0 _ _ other⟩⟩
  case speed =>
    have row := (doRegisterWrite_core (v := v) run (by decide : 0x6030 % 4 = 0) (by decide)).trans (codeWrite_speed ..)
    exact yields_stays (k := .registerWrite t .core 0x6030 v) h rfl row run rfl
  case level =>
    have addr : (BitVec.ofNat 24 (0x1000 + 4 * k)).toNat = 0x1000 + 4 * k := by
      rw [BitVec.toNat_ofNat]
      omega
    have row := (doRegisterWrite_core (v := v) run (by omega : (0x1000 + 4 * k) % 4 = 0) (by omega)).trans
      (codeWrite_level 16 v (s.advance t) hk)
    rw [← addr] at row
    refine yields_stays (k := .registerWrite t .core _ v) h rfl row run
      ⟨Table.get_set_same (levelReset k) _ _ _, fun m other => ?_⟩
    exact get_set_otherDefault (levelReset m) (levelReset k) _ _ other
  case host =>
    have row : doRegisterWrite .host a.toNat v (s.advance t) = hostRefused (s.advance t) := by
      unfold doRegisterWrite
      rw [if_neg (by omega)]
      exact hostWrite_notHosts ⟨by omega, by omega, by omega, by omega, by omega, by omega⟩ v
        (linksOn_run run h.2.1 up)
    exact yields_stays (k := .registerWrite t .host a v) h rfl row run ⟨rfl, rfl, rfl⟩
  case barred =>
    exact yields_stays (k := .registerWrite t r a v) h rfl (doRegisterWrite_ignored (s := s.advance t) barred) run
      (settle_advance t h)

end Sys2Proof.Machine
end

section
/-! A write of a mailbox and the latch of its sequencer (04_ohmac_command_set.md R136; 08_angle_code_isa.md R273): a
latch that a parked WAITE waits for is returned to it and cleared. -/

namespace Sys2Proof.Machine

/-- A request on the SPI link to write one word of sequencer 0's mailbox. -/
def mailboxRequest : Request := { code := 0x30, rtag := 0, body := [0, 0, 1, 0, 0, 0, 0, 0], sealed := false, mtag := 0 }

/-- A module in RUN with its links up and an image running, whose context 0 is HALTED and waits for its latches, with
a request to write sequencer 0's mailbox in processing. -/
def targetsForWaiting : State :=
  { State.reset with
    sys.mode := .run
    sys.running := some .a
    sys.linksUp := true
    supply.state := .main
    links.spi := { req := some mailboxRequest }
    seq.ctx := [(0, { state := .halted, wait := .latch 0 0x3F 0 0 })] }

theorem latches_targetsForWaiting :
    (match exec (.targets 0 .spi) targetsForWaiting with
      | .next u => (u.ctx 0).latches.getLsbD 0
      | _ => true) = false := by
  decide

/-- Refutes O55: the write of a mailbox returns its latch to a WAITE that waits for it (R273), which clears it, where
the statement has the latch of every HALTED context stay set. -/
theorem not_targetsAndConfigurationCommands : ¬ Obligations.TargetsAndConfigurationCommands := by
  unfold Obligations.TargetsAndConfigurationCommands
  intro h
  obtain ⟨written, -⟩ := h targetsForWaiting 0 .spi mailboxRequest
  obtain ⟨u, hu, -, -, -, -, latch, -⟩ := written 0 0 (by decide) (by decide) (by decide) (by decide) (by decide)
    (by decide) (by decide)
  have cleared := latches_targetsForWaiting
  rw [hu] at cleared
  exact absurd ((latch 0 (by decide) (by decide)).symm.trans cleared) (by decide)

end Sys2Proof.Machine
end

section
/-! What the response to a request leaves (04_ohmac_command_set.md R118, R121 to R123, R131), said once for a command
that keeps its link's session and for one that closes it. -/

namespace Sys2Proof.Machine

/-- A slot of the operator table under which a session state stands. -/
def SessionSt.under (i : Nat) : SessionSt → Bool
  | .opened x => x.slot == i
  | .opening o => o.slot == i
  | .none => false

theorem openedUnder_eq (i : Nat) (s : State) (l : Link) : openedUnder i s l = (s.link l).session.under i := by
  unfold openedUnder SessionSt.under
  cases (s.link l).session <;> rfl

/-! ## Messages on the way out (R113, R126) -/

theorem placeFrame_keepsPend {n : Nat} {s : State} (h : s.irc.host.pend.getLsbD n = true) :
    (placeFrame s).irc.host.pend.getLsbD n = true := by
  unfold placeFrame
  dsimp only
  split
  · exact raise_keepsPend 8 n h
  · exact h

theorem setLink_irc (s : State) (l : Link) (x : LinkSt) : (s.setLink l x).irc = s.irc := by cases l <;> rfl

theorem sendMsg_keepsPend (l : Link) (g : Byte) (m : List Byte) {n : Nat} {s : State}
    (h : s.irc.host.pend.getLsbD n = true) : (sendMsg l g m s).irc.host.pend.getLsbD n = true := by
  unfold sendMsg
  dsimp only
  split
  · exact placeFrame_keepsPend (by rw [setLink_irc]; exact h)
  · rw [setLink_irc]
    exact h

/-- A message queues frames on its link, and nothing else of any link changes. -/
theorem sendMsg_link (l : Link) (g : Byte) (m : List Byte) {s : State} (run : s.sys.mode = .run) :
    (sendMsg l g m s).link l = { s.link l with out := ((sendMsg l g m s).link l).out } := by
  obtain ⟨-, own, -⟩ := sendMsg_waiting l g m s run
  generalize sendMsg l g m s = u at own ⊢
  exact congrArg (fun x : LinkSt => { x with out := (u.link l).out }) own

/-- A sealed message moves the module's counter of the session on (R88). -/
theorem sendSealed_eq (l : Link) (g : Byte) {x : Session} (m : List Byte) (s : State)
    (room : x.lastModule + 2 < 2 ^ 64) : sendSealed l g x m s =
      let u := sendMsg l g (sealedMsg x.keyMH 2 x.sid (x.lastModule + 1) m) s
      u.setLink l { u.link l with session := .opened { x with lastModule := x.lastModule + 1 } } := by
  unfold sendSealed counterUsed
  dsimp only
  exact if_neg (by omega)

/-! ## The response (R118, R122) -/

/-- In `u` request `r` of link `l` is answered by the reply `a`; nothing of `a`'s state but its links and the interrupt
controller has changed. -/
structure Responds (before : State) (l : Link) (r : Request) (a : Reply) (u : State) : Prop where
  answered : Answered before u l r a.status a.detail a.data
  frame : LinkFrame a.state u
  other : ∀ k, k ≠ l → u.link k = a.state.link k
  own : { u.link l with req := none, out := [], session := .none } =
    { a.state.link l with req := none, out := [], session := .none }
  closed : (a.state.link l).session = .none → (u.link l).session = .none
  slot : ∀ i, (u.link l).session.under i = (a.state.link l).session.under i
  pend : ∀ n, a.state.irc.host.pend.getLsbD n = true → u.irc.host.pend.getLsbD n = true

section
variable {l : Link} {before : State} {r : Request} {a : Reply} (run : a.state.sys.mode = .run)
  (frames : framesWaiting a.state l = framesWaiting before l)
include run frames

/-- A plain request is answered plain. -/
theorem respond_plain (plain : r.sealed = false) : Responds before l r a (respond l before r a) := by
  have msg : respond l before r a = sendMsg l r.mtag (plainResponse r a.status a.detail a.data)
      (a.state.setLink l { a.state.link l with req := none }) := by
    unfold respond
    rw [plain, responseMsg_eq]
    rfl
  have run' : (a.state.setLink l { a.state.link l with req := none }).sys.mode = .run := by simpa using run
  obtain ⟨waiting, -, other⟩ := sendMsg_waiting l r.mtag (plainResponse r a.status a.detail a.data) _ run'
  have own := sendMsg_link l r.mtag (plainResponse r a.status a.detail a.data) run'
  have frame := linkFrame_sendMsg l r.mtag (plainResponse r a.status a.detail a.data) _ run'
  have pend (n : Nat) (h : a.state.irc.host.pend.getLsbD n = true) :=
    sendMsg_keepsPend l r.mtag (plainResponse r a.status a.detail a.data) (n := n)
      (s := a.state.setLink l { a.state.link l with req := none }) (by rw [setLink_irc]; exact h)
  rw [← msg] at waiting other own frame pend
  rw [framesWaiting_setLink _ _ _ (by rfl), frames] at waiting
  rw [State.link_setLink] at own
  generalize respond l before r a = u at waiting other own frame pend ⊢
  refine ⟨⟨by rw [own], ?_⟩, linkFrame_trans (linkFrame_setLink ..) frame, fun k hk => ?_, by rw [own], fun h => ?_,
    fun i => by rw [own], pend⟩
  · rw [waiting]
    simp [plain]
  · rw [other k hk, State.link_setLink_other _ _ hk]
  · rw [own]
    exact h

/-- A sealed request whose command closed the session is answered under the session it came in (R131). -/
theorem respond_closed (locked : r.sealed = true) (seals : sealsNext before l = true)
    (closed : (a.state.link l).session = .none) : Responds before l r a (respond l before r a) := by
  unfold sealsNext at seals
  split at seals
  case h_2 => cases seals
  case h_1 x opened =>
  generalize hm : sealedMsg x.keyMH 2 x.sid (x.lastModule + 1) (plainResponse r a.status a.detail a.data) = m
  have msg : respond l before r a = sendMsg l r.mtag m (a.state.setLink l { a.state.link l with req := none }) := by
    unfold respond
    rw [responseMsg_eq, locked, if_neg (by decide)]
    simp only [State.link_setLink, closed, opened, hm]
  have run' : (a.state.setLink l { a.state.link l with req := none }).sys.mode = .run := by simpa using run
  obtain ⟨waiting, -, other⟩ := sendMsg_waiting l r.mtag m _ run'
  have own := sendMsg_link l r.mtag m run'
  have frame := linkFrame_sendMsg l r.mtag m _ run'
  have pend (n : Nat) (h : a.state.irc.host.pend.getLsbD n = true) :=
    sendMsg_keepsPend l r.mtag m (n := n)
      (s := a.state.setLink l { a.state.link l with req := none }) (by rw [setLink_irc]; exact h)
  rw [← msg] at waiting other own frame pend
  rw [framesWaiting_setLink _ _ _ (by rfl), frames] at waiting
  rw [State.link_setLink] at own
  generalize respond l before r a = u at waiting other own frame pend ⊢
  refine ⟨⟨by rw [own], ?_⟩, linkFrame_trans (linkFrame_setLink ..) frame, fun k hk => ?_, by rw [own],
    fun h => by rw [own]; exact h, fun i => by rw [own], pend⟩
  · rw [waiting, ← hm]
    simp only [locked, opened]
  · rw [other k hk, State.link_setLink_other _ _ hk]

/-- A sealed request is answered under its session, which stays open. -/
theorem respond_sealed (locked : r.sealed = true) (seals : sealsNext before l = true)
    (kept : (a.state.link l).session = (before.link l).session) : Responds before l r a (respond l before r a) := by
  unfold sealsNext at seals
  split at seals
  case h_2 => cases seals
  case h_1 x opened =>
  have room : x.lastModule + 2 < 2 ^ 64 := of_decide_eq_true seals
  rw [opened] at kept
  generalize hm : sealedMsg x.keyMH 2 x.sid (x.lastModule + 1) (plainResponse r a.status a.detail a.data) = m
  generalize hv : sendMsg l r.mtag m (a.state.setLink l { a.state.link l with req := none }) = v
  have msg : respond l before r a = v.setLink l { v.link l with session := .opened { x with
      stored := some (plainResponse r a.status a.detail a.data), lastModule := x.lastModule + 1 } } := by
    unfold respond
    rw [responseMsg_eq, locked, if_neg (by decide)]
    dsimp only
    rw [State.link_setLink]
    split
    case h_1 _ _ y same =>
      obtain rfl : x = y := SessionSt.opened.inj (kept.symm.trans same)
      rw [sendSealed_eq _ _ _ _ (by exact room)]
      dsimp only
      rw [hm, hv]
    case h_2 _ other => exact absurd kept (other x)
    case h_3 _ other => exact absurd opened (other x)
  have run' : (a.state.setLink l { a.state.link l with req := none }).sys.mode = .run := by simpa using run
  obtain ⟨waiting, -, other⟩ := sendMsg_waiting l r.mtag m _ run'
  have own := sendMsg_link l r.mtag m run'
  have frame := linkFrame_sendMsg l r.mtag m _ run'
  have pend (n : Nat) (h : a.state.irc.host.pend.getLsbD n = true) :=
    sendMsg_keepsPend l r.mtag m (n := n)
      (s := a.state.setLink l { a.state.link l with req := none }) (by rw [setLink_irc]; exact h)
  rw [hv] at waiting other own frame pend
  rw [framesWaiting_setLink _ _ _ (by rfl), frames] at waiting
  rw [State.link_setLink] at own
  rw [msg]
  refine ⟨⟨by rw [State.link_setLink, own], ?_⟩,
    linkFrame_trans (linkFrame_trans (linkFrame_setLink ..) frame) (linkFrame_setLink ..), fun k hk => ?_,
    by rw [State.link_setLink, own], fun h => ?_, fun i => ?_, fun n h => ?_⟩
  · rw [framesWaiting_setLink _ _ _ (by rfl), waiting, ← hm]
    simp only [locked, opened]
  · rw [State.link_setLink_other _ _ hk, other k hk, State.link_setLink_other _ _ hk]
  · rw [kept] at h
    cases h
  · rw [State.link_setLink, kept]
    rfl
  · rw [setLink_irc]
    exact pend n h

end

/-- A command on the request in processing: its reply is what its body makes of the module (R123). -/
theorem command_asked {s : State} {l : Link} {r : Request} {code : Nat} (f : Request → State → Reply) (t : Tick)
    (h : Asked s l r code) : requestOf l code (s.advance t) = some r ∧
      command l code f (s.advance t) = respond l (s.advance t) r (f r (s.advance t)) := by
  obtain ⟨⟨run, powered, -⟩, up, asked, coded, accepted, -⟩ := h
  have request : requestOf l code (s.advance t) = some r := by
    unfold requestOf
    rw [show ((s.advance t).link l).req = some r from asked]
    exact if_pos ⟨coded, linksOn_run run powered up⟩
  have accepted' : moduleRefusal (s.advance t) code = 0 := accepted
  refine ⟨request, ?_⟩
  unfold command
  rw [request]
  dsimp only
  rw [accepted']
  rfl

/-- What a reply must keep so that its request can be answered: its link's frames, and its session or none of it. -/
structure Answerable (s : State) (l : Link) (r : Request) (a : Reply) : Prop where
  run : a.state.sys.mode = .run
  frames : framesWaiting a.state l = framesWaiting s l
  session : r.sealed = true → (a.state.link l).session = (s.link l).session ∨ (a.state.link l).session = .none

theorem Responds.of_advance {s u : State} {l : Link} {r : Request} {a : Reply} {t : Tick}
    (h : Responds (s.advance t) l r a u) : Responds s l r a u := by
  obtain ⟨answered, frame, other, own, closed, slot, pend⟩ := h
  exact ⟨answered, frame, other, own, closed, slot, pend⟩

theorem Responds.of_respond {s : State} {l : Link} {r : Request} {a : Reply} {code : Nat} (t : Tick)
    (h : Asked s l r code) (ha : Answerable s l r a) : Responds s l r a (respond l (s.advance t) r a) := by
  obtain ⟨run, frames, session⟩ := ha
  obtain ⟨-, -, -, -, -, seals⟩ := h
  refine .of_advance (t := t) ?_
  cases plain : r.sealed with
  | false => exact respond_plain (before := s.advance t) run frames plain
  | true =>
    obtain kept | closed := session plain
    · exact respond_sealed (before := s.advance t) run frames plain (seals plain) kept
    · exact respond_closed (before := s.advance t) run frames plain (seals plain) closed

/-- A command whose effect at its instant is a response yields what the response leaves. -/
theorem yields_response {k : Instr} {s : State} {l : Link} {r : Request} {code : Nat} {a : Reply} {p : State → Prop}
    (h : Asked s l r code) (row : effect k (s.advance (instant k)) = respond l (s.advance (instant k)) r a)
    (hl : leaves_mode k = false) (ha : Answerable s l r a)
    (hp : ∀ u, Responds s l r a u → p (settle u)) : Yields k s p :=
  effect_of_advance row h.1 hl (hp _ (.of_respond (instant k) h ha))

end Sys2Proof.Machine
end

section
/-! The commands that read (04_ohmac_command_set.md R118, R119, R134, R135, R137; 03 R105, R106; 14 R440, R445): each
is a reply that keeps the module's state, or moves its signer or its snapshots on. -/

namespace Sys2Proof.Machine

/-! ## Fields of a body (R8) -/

/-- A field reads what was written where it stands. -/
theorem leAt_field {b x z : List Byte} {p n v : Nat} (parts : b = x ++ (leBytes n v ++ z)) (place : x.length = p)
    (fits : v < 256 ^ n) : leAt b p n = v := by
  have field : slice b p n = leBytes n v := by
    have := slice_append x (leBytes n v) z
    rw [length_leBytes, List.append_assoc, ← parts, place] at this
    exact this
  unfold leAt
  rw [field, leNat_leBytes, Nat.mod_eq_of_lt fits]

/-! ## Replies -/

/-- What HOST_INT_N does after a response is within the response's frame. -/
theorem Responds.settled {s u : State} {l : Link} {r : Request} {a : Reply} (h : Responds s l r a u) :
    LinkFrame a.state (settle u) := linkFrame_trans h.frame (linkFrame_settle u)

theorem sized_right {l : Link} {n : Nat} {r : Request} {s : State} (k : Unit → Reply) (h : r.body.length = n) :
    sized l n r s k = k () := if_neg (fun hn => hn h)

theorem sized_wrong {l : Link} {n : Nat} {r : Request} {s : State} (k : Unit → Reply) (h : r.body.length ≠ n) :
    sized l n r s k = malformed l (min r.body.length n) s := if_pos h

theorem linkFrame_advance {s : State} (t : Tick) (run : s.sys.mode = .run) : LinkFrame s (s.advance t) := by
  rw [advance_run t s run]
  rfl

theorem linkFrame_raise (n : Nat) {s : State} (run : s.sys.mode = .run) : LinkFrame s (raise n s) := by
  rw [raise_run n s run]
  split <;> rfl

theorem framesWaiting_raise (n : Nat) (s : State) (l : Link) : framesWaiting (raise n s) l = framesWaiting s l := by
  rw [raise_frame]
  cases l <;> rfl

theorem link_raise (n : Nat) (s : State) (l : Link) : (raise n s).link l = s.link l := by
  rw [raise_frame]
  cases l <;> rfl

/-- What a counted failure of a link leaves (R109): its counts and its pause, and the interrupt of a lock-out. -/
theorem linkFail_leaves (l : Link) {s : State} (run : s.sys.mode = .run) : LinkFrame s (linkFail l s) ∧
    framesWaiting (linkFail l s) l = framesWaiting s l ∧ ((linkFail l s).link l).session = (s.link l).session ∧
      ∀ m, m ≠ l → (linkFail l s).link m = s.link m := by
  unfold linkFail
  dsimp only
  split
  · exact ⟨linkFrame_setLink .., framesWaiting_setLink _ _ _ (by rfl), by rw [State.link_setLink],
      fun m hm => State.link_setLink_other _ _ hm⟩
  · unfold raiseIf
    split
    · exact ⟨linkFrame_trans (linkFrame_setLink ..) (linkFrame_raise 233 (by simpa using run)),
        (framesWaiting_raise ..).trans (framesWaiting_setLink _ _ _ (by rfl)), by rw [link_raise, State.link_setLink],
        fun m hm => (link_raise ..).trans (State.link_setLink_other _ _ hm)⟩
    · exact ⟨linkFrame_setLink .., framesWaiting_setLink _ _ _ (by rfl), by rw [State.link_setLink],
        fun m hm => State.link_setLink_other _ _ hm⟩

theorem plainFail_leaves (l : Link) {s : State} (run : s.sys.mode = .run) : LinkFrame s (plainFail l s) ∧
    framesWaiting (plainFail l s) l = framesWaiting s l ∧ ((plainFail l s).link l).session = (s.link l).session ∧
      ∀ m, m ≠ l → (plainFail l s).link m = s.link m := by
  unfold plainFail
  obtain ⟨frame, frames, session, other⟩ := linkFail_leaves l (s := raise 232 s) (by rw [raise_frame]; exact run)
  exact ⟨linkFrame_trans (linkFrame_raise 232 run) frame, frames.trans (framesWaiting_raise ..),
    session.trans (by rw [link_raise]), fun m hm => (other m hm).trans (link_raise ..)⟩

section
variable {k : Instr} {s : State} {l : Link} {r : Request} {code : Nat} {f : Request → State → Reply}
  (h : Asked s l r code) (eff : effect k = command l code f) (hl : leaves_mode k = false)
include h eff hl

/-- A command whose reply changes nothing the links need is answered. -/
theorem yields_reply {a : Reply} {p : State → Prop} (reply : f r (s.advance (instant k)) = a) (ha : Answerable s l r a)
    (hp : ∀ u, Responds s l r a u → p (settle u)) : Yields k s p := by
  refine yields_response h ?_ hl ha hp
  rw [eff, ← reply]
  exact (command_asked f (instant k) h).2

/-- A command whose reply keeps the module's state changes nothing but the links. -/
theorem yields_kept {st d : Nat} {data : List Byte} (reply : f r (s.advance (instant k)) =
      { status := st, detail := d, data := data, state := s.advance (instant k) }) :
    Yields k s (fun u => Answered s u l r st d data ∧ LinkFrame s u ∧ ∀ m, m ≠ l → u.link m = s.link m) := by
  have run : s.sys.mode = .run := h.1.1
  refine yields_reply h eff hl reply ⟨run, rfl, fun _ => .inl rfl⟩ fun u hu => ?_
  exact ⟨hu.answered, linkFrame_trans (linkFrame_advance _ run) hu.settled, hu.other⟩

theorem yields_refused {st d : Nat} (reply : f r (s.advance (instant k)) = refusal st d (s.advance (instant k))) :
    Yields k s (fun u => Answered s u l r st d [] ∧ LinkFrame s u) :=
  (yields_kept h eff hl reply).imp fun _ ⟨answered, frame, _⟩ => ⟨answered, frame⟩

/-- A malformed body is answered FORMAT (R119). -/
theorem yields_malformed {o : Nat} (reply : f r (s.advance (instant k)) = malformed l o (s.advance (instant k))) :
    Yields k s (fun u => Answered s u l r 1 o [] ∧ LinkFrame s u) := by
  have run : s.sys.mode = .run := h.1.1
  obtain ⟨frame, frames, session, -⟩ := plainFail_leaves l (s := s.advance (instant k)) run
  have run' : (plainFail l (s.advance (instant k))).sys.mode = .run := by rw [frame]; exact run
  refine yields_reply h eff hl reply ⟨run', frames, fun _ => .inl session⟩ fun u hu => ?_
  exact ⟨hu.answered, linkFrame_trans (linkFrame_advance _ run) (linkFrame_trans frame hu.settled)⟩

/-- A command that has DIK sign its data moves the signer on (R77). -/
theorem yields_signed {data : List Byte} (reply : f r (s.advance (instant k)) =
      success (data ++ dikSig (s.advance (instant k)) data) (signed1 (s.advance (instant k)))) :
    Yields k s (fun u => Answered s u l r 0 0 (data ++ beBytes 64 (Config.dikSign s.sec.signNext data).toNat) ∧
      LinkFrame { s with sec.signNext := s.sec.signNext + 1 } u ∧ ∀ m, m ≠ l → u.link m = s.link m) := by
  have run : s.sys.mode = .run := h.1.1
  refine yields_reply h eff hl reply ⟨run, rfl, fun _ => .inl rfl⟩ fun u hu => ⟨hu.answered, ?_, hu.other⟩
  exact linkFrame_trans (linkFrame_advance (instant k) (s := { s with sec.signNext := s.sec.signNext + 1 }) run) hu.settled

end

/-! ## Registers (R137) -/

theorem regLatch_snaps (r : Requester) (a : Nat) (s : State) :
    regLatch r a s = { s with snaps := (regLatch r a s).snaps } := by
  unfold regLatch
  split
  · rfl
  · split <;> rfl

/-- A sequence of reads latches snapshots and changes nothing else. -/
theorem readSeq_snaps (n a : Nat) (s : State) : (readSeq n a s).2 = { s with snaps := (readSeq n a s).2.snaps } := by
  induction n generalizing a s with
  | zero => rfl
  | succ n ih =>
    show (readSeq n (a + 4) (regLatch .core a s)).2 = { s with snaps := (readSeq n (a + 4) (regLatch .core a s)).2.snaps }
    rw [ih, regLatch_snaps]

section
variable {s : State} {l : Link} {r : Request} (t : Tick)

theorem readRegs_answers {a n : Nat} (h : Asked s l r 0x20) (body : r.body = leBytes 4 a ++ leBytes 2 n ++ [0, 0])
    (aligned : a % 4 = 0) (some : 1 ≤ n) (few : n ≤ 1023) (room : a + 4 * n ≤ 0x10000) :
    Yields (.readRegs t l) s (fun u => Answered s u l r 0 0 (readSeq n a (s.advance t)).1 ∧
      LinkFrame { s with snaps := (readSeq n a (s.advance t)).2.snaps } u) := by
  have run : s.sys.mode = .run := h.1.1
  have addr : leAt r.body 0 4 = a := leAt_field (x := []) (by rw [body, List.append_assoc]; rfl) rfl (by omega)
  have count : leAt r.body 4 2 = n :=
    leAt_field (by rw [body, List.append_assoc]) (length_leBytes ..) (by omega)
  have zero : leAt r.body 6 2 = 0 := leAt_field (z := []) (n := 2) (v := 0) body (by simp [length_leBytes]) (by decide)
  have reply : sized l 8 r (s.advance t) (fun _ =>
      if leAt r.body 0 4 % 4 ≠ 0 then malformed l 0 (s.advance t)
      else if leAt r.body 6 2 ≠ 0 then malformed l 6 (s.advance t)
      else if leAt r.body 4 2 < 1 ∨ 1023 < leAt r.body 4 2 ∨ 0x10000 < leAt r.body 0 4 + 4 * leAt r.body 4 2 then
        refusal 11 0 (s.advance t)
      else success (readSeq (leAt r.body 4 2) (leAt r.body 0 4) (s.advance t)).1
        (readSeq (leAt r.body 4 2) (leAt r.body 0 4) (s.advance t)).2) =
      success (readSeq n a (s.advance t)).1 (readSeq n a (s.advance t)).2 := by
    rw [sized_right _ (by rw [body]; simp [length_leBytes]), addr, count, zero, if_neg (by omega), if_neg (by omega),
      if_neg (by omega)]
  have frame := readSeq_snaps n a (s.advance t)
  generalize readSeq n a (s.advance t) = w at reply frame ⊢
  refine yields_reply (k := .readRegs t l) h rfl rfl reply ⟨?_, ?_, fun _ => .inl ?_⟩ fun u hu => ⟨hu.answered, ?_⟩
  · show w.2.sys.mode = .run
    rw [frame]
    exact run
  · show framesWaiting w.2 l = _
    rw [frame]
    rfl
  · show (w.2.link l).session = _
    rw [frame]
    rfl
  · refine linkFrame_trans ?_ hu.settled
    show LinkFrame _ w.2
    rw [frame, advance_run t s run]
    rfl

/-- Time does not change which entries a read of the logbook finds. -/
theorem insertLog_advance (e : LogEntry) (es : List LogEntry) : insertLog (s.advance t) e es = insertLog s e es := by
  induction es with
  | nil => rfl
  | cons x r ih =>
    show (if logAge s x.index < logAge s e.index then e :: x :: r else x :: insertLog (s.advance t) e r) = _
    rw [ih]
    rfl

theorem logFrom_advance (a : Nat) : logFrom (s.advance t) a = logFrom s a := by
  have same : insertLog (s.advance t) = insertLog s := funext fun e => funext fun es => insertLog_advance t e es
  unfold logFrom
  rw [same]
  rfl

theorem logRead_answers {a n : Nat} (h : Asked s l r 0x23) (body : r.body = leBytes 4 a ++ leBytes 2 n ++ [0, 0])
    (some : 1 ≤ n) (few : n ≤ 64) (room : a < 2 ^ 32) :
    let all := logFrom s a
    let es := takeEntries n 4084 all
    Yields (.logRead t l) s (fun u => Answered s u l r 0 0
        (leBytes 4 ((((all.drop es.length).head?).map (fun e => e.index)).getD s.bgs.logNext) ++
          leBytes 2 es.length ++ zeros 2 ++ (es.map LogEntry.bytes).flatten) ∧
      LinkFrame s u ∧ ∀ m, m ≠ l → u.link m = s.link m) := by
  have addr : leAt r.body 0 4 = a := leAt_field (x := []) (by rw [body, List.append_assoc]; rfl) rfl room
  have count : leAt r.body 4 2 = n :=
    leAt_field (by rw [body, List.append_assoc]) (length_leBytes ..) (by omega)
  have zero : leAt r.body 6 2 = 0 := leAt_field (z := []) (n := 2) (v := 0) body (by simp [length_leBytes]) (by decide)
  refine yields_kept (k := .logRead t l) h rfl rfl ?_
  refine (sized_right _ (by rw [body]; simp [length_leBytes])).trans ?_
  dsimp only
  rw [addr, count, zero, if_neg (by omega), if_neg (by omega), logFrom_advance]
  rfl

theorem cfgRead_answers {w a n : Nat} (h : Asked s l r 0x43)
    (body : r.body = [BitVec.ofNat 8 w, 0] ++ leBytes 2 a ++ leBytes 2 n ++ [0, 0]) (hw : w ≤ 2) (some : 4 ≤ n)
    (few : n ≤ 4092) (room : a + n ≤ 9216) :
    Yields (.cfgRead t l) s (fun u => Answered s u l r 0 0 (Table.getList 0
        (if w = 0 then s.cfg.active else if w = 1 then stagingCopy s else s.nv.cfg.getD defaultBlock) a n) ∧
      LinkFrame s u ∧ ∀ m, m ≠ l → u.link m = s.link m) := by
  have which : leAt r.body 0 1 = w :=
    leAt_field (x := []) (n := 1) (by rw [body]; simp only [List.append_assoc]; rfl) rfl (by omega)
  have zero1 : leAt r.body 1 1 = 0 :=
    leAt_field (x := [BitVec.ofNat 8 w]) (n := 1) (v := 0) (by rw [body]; simp only [List.append_assoc]; rfl) rfl
      (by decide)
  have addr : leAt r.body 2 2 = a :=
    leAt_field (x := [BitVec.ofNat 8 w, 0]) (z := leBytes 2 n ++ [0, 0])
      (by rw [body]; simp only [List.append_assoc]) rfl (by omega)
  have count : leAt r.body 4 2 = n :=
    leAt_field (x := [BitVec.ofNat 8 w, 0] ++ leBytes 2 a) (z := [0, 0]) (by rw [body]; simp only [List.append_assoc])
      (by simp [length_leBytes]) (by omega)
  have zero : leAt r.body 6 2 = 0 := leAt_field (z := []) (n := 2) (v := 0) body (by simp [length_leBytes]) (by decide)
  refine yields_kept (k := .cfgRead t l) h rfl rfl ?_
  refine (sized_right _ (by rw [body]; simp [length_leBytes])).trans ?_
  dsimp only
  rw [which, zero1, addr, count, zero, if_neg (by omega), if_neg (by omega), if_neg (by omega)]
  match w, hw with
  | 0, _ => rfl
  | 1, _ => rfl
  | 2, _ => rfl

theorem cycleRecord_answers (h : Asked s l r 0x21) (length : r.body.length = 20) :
    (∀ c, s.evs.records.find? (fun c => c.cycle == leAt r.body 0 4) = some c →
      Yields (.cycleRecord t l) s (fun u =>
        Answered s u l r 0 0 (c.bytes (slice r.body 4 16) ++
          beBytes 64 (Config.dikSign s.sec.signNext (c.bytes (slice r.body 4 16))).toNat) ∧
        LinkFrame { s with sec.signNext := s.sec.signNext + 1 } u ∧ ∀ m, m ≠ l → u.link m = s.link m)) ∧
    (s.evs.records.find? (fun c => c.cycle == leAt r.body 0 4) = none →
      Yields (.cycleRecord t l) s (fun u => Answered s u l r 11 0 [] ∧ LinkFrame s u)) := by
  refine ⟨fun c found => yields_signed (k := .cycleRecord t l) h rfl rfl ?_,
    fun absent => yields_refused (k := .cycleRecord t l) h rfl rfl ?_⟩
  · refine (sized_right _ length).trans ?_
    have found' : (s.advance t).evs.records.find? (fun c => c.cycle == leAt r.body 0 4) = some c := found
    dsimp only [instant]
    rw [found']
  · refine (sized_right _ length).trans ?_
    have absent' : (s.advance t).evs.records.find? (fun c => c.cycle == leAt r.body 0 4) = none := absent
    dsimp only [instant]
    rw [absent']

theorem cfgStatus_answers (h : Asked s l r 0x44) (length : r.body.length = 0) :
    Yields (.cfgStatus t l) s (fun u => Answered s u l r 0 0 ((match s.cfg.staging with
        | some (h, _) => [BitVec.ofNat 8 (linkId h), 0]
        | none => [0xFF, 0]) ++ leBytes 2 s.cfg.pending.toNat ++ leBytes 8 (commitSeq s.cfg.committed) ++
        sha (blockAll s.cfg.active) ++
        (match s.cfg.staging with
        | some (_, c) => sha (blockAll c)
        | none => zeros 32)) ∧
      LinkFrame s u ∧ ∀ m, m ≠ l → u.link m = s.link m) := by
  refine yields_kept (k := .cfgStatus t l) h rfl rfl ?_
  refine (sized_right _ length).trans ?_
  have same : (s.advance t).cfg = s.cfg := rfl
  dsimp only [instant]
  rw [same]
  cases s.cfg.staging with
  | none => rfl
  | some p => rfl

/-- A body of the wrong length is malformed, whatever the command (R119). -/
theorem wrongLength_answers {code n : Nat} {k : Instr} (member : (code, n, k) ∈
      [(0x01, 0, Instr.identity t l), (0x02, 16, .attest t l), (0x05, 0, .forceRelease t l), (0x13, 0, .close t l),
        (0x14, 0, .ping t l), (0x20, 8, .readRegs t l), (0x21, 20, .cycleRecord t l), (0x22, 0, .telemetry t l),
        (0x23, 8, .logRead t l), (0x43, 8, .cfgRead t l), (0x44, 0, .cfgStatus t l)])
    (h : Asked s l r code) (wrong : r.body.length ≠ n) :
    Yields k s (fun u => Answered s u l r 1 (min r.body.length n) [] ∧ LinkFrame s u) := by
  simp only [List.mem_cons, Prod.mk.injEq, List.not_mem_nil, or_false] at member
  obtain ⟨rfl, rfl, rfl⟩ | ⟨rfl, rfl, rfl⟩ | ⟨rfl, rfl, rfl⟩ | ⟨rfl, rfl, rfl⟩ | ⟨rfl, rfl, rfl⟩ | ⟨rfl, rfl, rfl⟩ |
    ⟨rfl, rfl, rfl⟩ | ⟨rfl, rfl, rfl⟩ | ⟨rfl, rfl, rfl⟩ | ⟨rfl, rfl, rfl⟩ | ⟨rfl, rfl, rfl⟩ := member
  all_goals exact yields_malformed h rfl rfl (sized_wrong _ wrong)

end

/-- Settles O52: each command's reply, and what its response leaves. -/
theorem readingCommandsAnswer : Obligations.ReadingCommandsAnswer := by
  unfold Obligations.ReadingCommandsAnswer
  intro s t l r
  refine ⟨fun h length => ?identity, fun h length => ?attest, fun h length => ?ping,
    fun a n h body aligned one few room => readRegs_answers t h body aligned one few room,
    fun c h length found => (cycleRecord_answers t h length).1 c found,
    fun h length absent => (cycleRecord_answers t h length).2 absent, fun h length => ?telemetry,
    fun a n h body one few room => logRead_answers t h body one few room,
    fun w a n h body hw four few room => cfgRead_answers t h body hw four few room,
    fun h length => cfgStatus_answers t h length,
    fun code n k member h wrong => wrongLength_answers t member h wrong⟩
  case identity => exact yields_kept (k := .identity t l) h rfl rfl (sized_right _ length)
  case attest => exact yields_signed (k := .attest t l) h rfl rfl (sized_right _ length)
  case ping =>
    have reply : sized l 0 r (s.advance t) (fun _ =>
        success (leBytes 8 (s.advance t).etc ++ leBytes 4 s.evs.cycle ++ zeros 4) (s.advance t)) =
        success (leBytes 8 (max s.etc t) ++ leBytes 4 s.evs.cycle ++ zeros 4) (s.advance t) := by
      rw [sized_right _ length, etc_alive t h.1]
    exact yields_kept (k := .ping t l) h rfl rfl reply
  case telemetry => exact yields_kept (k := .telemetry t l) h rfl rfl (sized_right _ length)

end Sys2Proof.Machine
end

section
/-! TEST_SHOT and DIAG_RUN (04_ohmac_command_set.md R101, R141; 11_closing_detection_diagnostics.md R364). -/

namespace Sys2Proof.Machine

/-! ## The event of a test shot (R141, R222) -/

section
variable {ch p : Nat} (hch : ch ≤ 63) (hp : p ≤ 255)
include hch hp

theorem shotWord_toNat : (BitVec.ofNat 32 (ch + p * 256 + 2 ^ 24)).toNat = ch + p * 256 + 2 ^ 24 := by
  rw [BitVec.toNat_ofNat]
  omega

/-- Word 1 of a test shot sets no reserved bit. -/
theorem shotWord_reserved : BitVec.ofNat 32 (ch + p * 256 + 2 ^ 24) &&& 0xFC0000C0 = 0 := by
  have masked : ∀ i : Fin 32, (0xFC0000C0 : Word).getLsbD i = true → i.val = 6 ∨ i.val = 7 ∨ 26 ≤ i.val := by decide
  refine BitVec.eq_of_getLsbD_eq fun i hi => ?_
  rw [BitVec.getLsbD_and, show BitVec.getLsbD (0 : Word) i = false from BitVec.getLsbD_zero, Bool.and_eq_false_iff,
    or_iff_not_imp_right, Bool.not_eq_false]
  intro mask
  rw [← bitAt_toNat, shotWord_toNat hch hp]
  unfold bitAt
  refine beq_eq_false_iff_ne.mpr ?_
  obtain rfl | rfl | high := masked ⟨i, hi⟩ mask
  · omega
  · omega
  · have : 2 ^ 26 ≤ 2 ^ i := Nat.pow_le_pow_right (by decide) high
    rw [Nat.div_eq_of_lt (by omega)]
    decide

/-- The event that a test shot asks for: the next occurrence of its target. -/
theorem shotEvent_fields (w0 : Word) : let r := requestEvent 16 w0 (BitVec.ofNat 32 (ch + p * 256 + 2 ^ 24)) 0
    r.ch = ch ∧ r.prof = p ∧ r.next = true := by
  refine ⟨?_, ?_, ?_⟩
  · show bits _ 0 6 = ch
    rw [shotWord_toNat hch hp]
    unfold bits
    omega
  · show bits _ 8 8 = p
    rw [shotWord_toNat hch hp]
    unfold bits
    omega
  · show BitVec.getLsbD _ 24 = true
    rw [← bitAt_toNat, shotWord_toNat hch hp]
    unfold bitAt
    rw [show (ch + p * 256 + 2 ^ 24) / 2 ^ 24 % 2 = 1 by omega]
    rfl

end

/-- The tag of the next occurrence of an angle: the cycle's own where it still lies ahead (R141). -/
def occurrenceTag (s : State) (ang : Nat) : Nat :=
  if (match lensLin s with
    | some a => decide (a < ang)
    | none => false) then s.evs.cycle % 256 else (s.evs.cycle + 1) % 256

/-- The tag step 7 of R226 gives an event for the next occurrence of its target. -/
def nextTagOf (s : State) (target : Nat) : Nat :=
  match lensLin s with
  | some a => if a < target then curTag s else nextTag s
  | none => nextTag s

theorem nextTagOf_eq (s : State) (target : Nat) : nextTagOf s target = occurrenceTag s target := by
  unfold nextTagOf occurrenceTag
  cases lensLin s with
  | none => rfl
  | some a =>
    dsimp only
    by_cases ahead : a < target
    · rw [if_pos ahead, if_pos (decide_eq_true ahead)]
      rfl
    · rw [if_neg ahead, if_neg (by simpa using ahead)]
      rfl

/-- An event for the next occurrence of its target is placed with that occurrence's tag (R226). -/
theorem placeEvent_next {k : Nat} {r : Event} {s : State} (next : r.next = true)
    (out : inWindow s { r with ctag := occurrenceTag s r.target.toNat } = false)
    (early : evPassed s { r with ctag := occurrenceTag s r.target.toNat } = false)
    (gate : gateEvent s { r with ctag := occurrenceTag s r.target.toNat } = 0) :
    placeEvent k r s = ({ s with evs := s.evs.placed k { r with ctag := occurrenceTag s r.target.toNat } },
      { res := 0, handle := handleOf k s.evs.seq }) := by
  have tagged : placeEvent k r s = placeTagged k
      { r with ctag := if r.next then nextTagOf s r.target.toNat else r.ctag, seq := s.evs.seq }
      (leavePass k { s with evs := { s.evs with
        lastSlot := k, seq := wrapInc 16 s.evs.seq, ins := wrapInc 32 s.evs.ins } }) := rfl
  rw [if_pos next, nextTagOf_eq] at tagged
  rw [tagged]
  refine (placeTagged_waiting ?_ ?_ ?_).trans rfl
  · exact out
  · exact early
  · exact gate

/-- Two bytes hold a number modulo 2^16. -/
theorem leBytes_bits (v w : Nat) (h : v % 65536 = w % 65536) : leBytes 2 v = leBytes 2 w := by
  have low : BitVec.ofNat 8 v = BitVec.ofNat 8 w := BitVec.eq_of_toNat_eq (by simp only [BitVec.toNat_ofNat]; omega)
  have high : BitVec.ofNat 8 (v / 256) = BitVec.ofNat 8 (w / 256) :=
    BitVec.eq_of_toNat_eq (by simp only [BitVec.toNat_ofNat]; omega)
  show [BitVec.ofNat 8 v, BitVec.ofNat 8 (v / 256)] = [BitVec.ofNat 8 w, BitVec.ofNat 8 (w / 256)]
  rw [low, high]

/-- A test shot that was placed answers its sequence number. -/
theorem shotReply_placed (k seq : Nat) (s : State) : shotReply { res := 0, handle := handleOf k seq } s =
    success (leBytes 2 seq ++ [0, 0]) s := by
  have low : leBytes 2 (bits (handleOf k seq).toNat 0 16) = leBytes 2 seq := by
    refine leBytes_bits _ _ ?_
    unfold bits handleOf
    rw [BitVec.toNat_ofNat]
    omega
  unfold shotReply
  dsimp only
  rw [low]
  rfl

section
variable {s : State} {l : Link} {r : Request} (t : Tick)

/-- The reply of TEST_SHOT to a body whose fields are read. -/
theorem testShot_reply {p : State → Prop} {a : Reply} (h : Asked s l r 0x60) (runs : s.sys.running.isSome = true)
    (length : r.body.length = 8) (zero : leAt r.body 1 1 = 0)
    (reply : (if 63 < leAt r.body 0 1 ∨ 255 < leAt r.body 2 2 then refusal 11 2 (s.advance t)
      else shotReply (insertEvent 16 (BitVec.ofNat 32 (leAt r.body 4 4))
          (BitVec.ofNat 32 (leAt r.body 0 1 + leAt r.body 2 2 * 2 ^ 8 + 2 ^ 24)) 0 (served 16 (s.advance t))).2
        (insertEvent 16 (BitVec.ofNat 32 (leAt r.body 4 4))
          (BitVec.ofNat 32 (leAt r.body 0 1 + leAt r.body 2 2 * 2 ^ 8 + 2 ^ 24)) 0 (served 16 (s.advance t))).1) = a)
    (ha : Answerable s l r a) (hp : ∀ u, Responds s l r a u → p (settle u)) : Yields (.testShot t l) s p := by
  refine yields_reply (k := .testShot t l) h rfl rfl ?_ ha hp
  have none : ¬ (s.advance t).sys.running.isNone = true := by
    rw [show (s.advance t).sys.running = s.sys.running from rfl]
    rw [Option.isNone_iff_eq_none]
    exact Option.isSome_iff_ne_none.mp runs
  refine (if_neg none).trans ((sized_right _ length).trans ((if_neg ?_).trans reply))
  omega

/-- A test shot outside the aim window that passes every check waits in its slot (R141, R226). -/
theorem testShot_answers {ch p ang k : Nat} (h : Asked s l r 0x60) (runs : s.sys.running.isSome = true) (hch : ch ≤ 63)
    (hp : p ≤ 255) (body : r.body = [BitVec.ofNat 8 ch, 0] ++ leBytes 2 p ++ leBytes 4 ang) (hang : ang < 2 ^ 32) :
    let e := { requestEvent 16 (BitVec.ofNat 32 ang) (BitVec.ofNat 32 (ch + p * 256 + 2 ^ 24)) 0 with
      ctag := occurrenceTag (s.advance t) ang }
    s.flt.safe = false → ang / 4096 < 2 * s.nTeeth → positioned s.whl.sync = true → ch < s.channels →
    profileOk (s.profile p) ch e.ont = true → freeAfter s 8192 s.evs.lastSlot = some k → inWindow s e = false →
    evPassed (s.advance t) e = false → gateEvent s e = 0 → Yields (.testShot t l) s (fun u =>
      (u.slot k).state = .waiting ∧ (u.slot k).owner = 16 ∧ (u.slot k).ch = ch ∧ (u.slot k).prof = p ∧
      (u.slot k).target = BitVec.ofNat 32 ang ∧ (u.slot k).ctag = e.ctag ∧ (u.slot k).seq = s.evs.seq ∧
      (∀ m, m ≠ k → u.slot m = s.slot m) ∧ u.evs.seq = wrapInc 16 s.evs.seq ∧
      Answered s u l r 0 0 (leBytes 2 s.evs.seq ++ [0, 0])) := by
  intro e safe valid place present profile free out early gate
  have first : leAt r.body 0 1 = ch := leAt_field (x := []) (n := 1) (z := [0] ++ leBytes 2 p ++ leBytes 4 ang)
    (by rw [body]; simp only [List.append_assoc]; rfl) rfl (by omega)
  have zero : leAt r.body 1 1 = 0 := leAt_field (x := [BitVec.ofNat 8 ch]) (n := 1) (v := 0)
    (z := leBytes 2 p ++ leBytes 4 ang) (by rw [body]; simp only [List.append_assoc]; rfl) rfl (by decide)
  have second : leAt r.body 2 2 = p := leAt_field (x := [BitVec.ofNat 8 ch, 0]) (z := leBytes 4 ang)
    (by rw [body, List.append_assoc]) rfl (by omega)
  have third : leAt r.body 4 4 = ang := leAt_field (z := []) (by rw [body, List.append_nil]) (by simp [length_leBytes]) hang
  obtain ⟨channel, prof, next⟩ := shotEvent_fields hch hp (BitVec.ofNat 32 ang)
  have target : (BitVec.ofNat 32 ang).toNat = ang := by
    rw [BitVec.toNat_ofNat]
    exact Nat.mod_eq_of_lt hang
  have code : insertionCode 16 (BitVec.ofNat 32 ang) (BitVec.ofNat 32 (ch + p * 256 + 2 ^ 24)) 0 s = 0 := by
    unfold insertionCode
    dsimp only
    rw [if_neg (by simp [safe]), shotWord_reserved hch hp, target, next, channel, prof, if_neg (by simpa using valid),
      if_neg (by simp [place]), if_neg (by omega), if_neg (by rw [Bool.not_eq_false]; exact profile), free,
      if_neg (by simp)]
  have slots : freeAfter (served 16 (s.advance t)) 8192 s.evs.lastSlot = freeAfter s 8192 s.evs.lastSlot :=
    freeAfter_of_slots (by rfl) ..
  have tag : occurrenceTag (served 16 (s.advance t)) (BitVec.ofNat 32 ang).toNat = occurrenceTag (s.advance t) ang := by
    rw [target]
    rfl
  have placed := insertEvent_placed 16 (BitVec.ofNat 32 ang) (BitVec.ofNat 32 (ch + p * 256 + 2 ^ 24)) 0
    (served 16 (s.advance t)) ((insertionCode_served ..).trans code) (slots.trans free)
  have word : (requestEvent 16 (BitVec.ofNat 32 ang) (BitVec.ofNat 32 (ch + p * 256 + 2 ^ 24)) 0).target =
    BitVec.ofNat 32 ang := rfl
  rw [placeEvent_next next (by rw [word, tag]; exact out) (by rw [word, tag]; exact early)
    (by rw [word, tag]; exact gate), word, tag] at placed
  refine testShot_reply t h runs (by rw [body]; simp [length_leBytes]) zero
    (a := success (leBytes 2 s.evs.seq ++ [0, 0]) { s.advance t with evs := (served 16 (s.advance t)).evs.placed k e })
    ?_ ⟨h.1.1, rfl, fun _ => .inl rfl⟩ fun u hu => ?_
  · rw [first, second, third, if_neg (by omega), show (2 : Nat) ^ 8 = 256 by decide, placed]
    exact shotReply_placed k s.evs.seq _
  · have evs : (settle u).evs = (served 16 (s.advance t)).evs.placed k e := by
      rw [hu.settled]
      rfl
    have slot (m : Nat) : (settle u).slot m = if m = k then { e with seq := s.evs.seq, state := .waiting } else s.slot m := by
      show Table.get {} (settle u).evs.slots m = _
      rw [evs, Evs.placed_slots]
      exact Table.get_set ..
    have here := slot k
    rw [if_pos rfl] at here
    refine ⟨?_, ?_, ?_, ?_, ?_, ?_, ?_, fun m other => ?_, ?_, hu.answered⟩
    · rw [here]
    · rw [here]
      rfl
    · rw [here]
      exact channel
    · rw [here]
      exact prof
    · rw [here]
      rfl
    · rw [here]
    · rw [here]
    · rw [slot, if_neg other]
    · rw [evs]
      rfl

/-- A test shot of a channel or a profile that does not exist is refused. -/
theorem testShot_range {ch p ang : Nat} (h : Asked s l r 0x60) (runs : s.sys.running.isSome = true)
    (body : r.body = [BitVec.ofNat 8 ch, 0] ++ leBytes 2 p ++ leBytes 4 ang) (hch : ch ≤ 255) (hp : p ≤ 65535)
    (out : 63 < ch ∨ 255 < p) : Yields (.testShot t l) s (fun u => Answered s u l r 11 2 [] ∧ LinkFrame s u) := by
  have first : leAt r.body 0 1 = ch := leAt_field (x := []) (n := 1) (z := [0] ++ leBytes 2 p ++ leBytes 4 ang)
    (by rw [body]; simp only [List.append_assoc]; rfl) rfl (by omega)
  have zero : leAt r.body 1 1 = 0 := leAt_field (x := [BitVec.ofNat 8 ch]) (n := 1) (v := 0)
    (z := leBytes 2 p ++ leBytes 4 ang) (by rw [body]; simp only [List.append_assoc]; rfl) rfl (by decide)
  have second : leAt r.body 2 2 = p := leAt_field (x := [BitVec.ofNat 8 ch, 0]) (z := leBytes 4 ang)
    (by rw [body, List.append_assoc]) rfl (by omega)
  refine testShot_reply t h runs (by rw [body]; simp [length_leBytes]) zero
    (if_pos (by rw [first, second]; exact out)) ⟨h.1.1, rfl, fun _ => .inl rfl⟩ fun u hu => ⟨hu.answered, ?_⟩
  exact linkFrame_trans (linkFrame_advance t h.1.1) hu.settled

/-- A test shot in SAFE is refused by the scheduler (R226). -/
theorem testShot_inSafe (h : Asked s l r 0x60) (runs : s.sys.running.isSome = true) (length : r.body.length = 8)
    (zero : leAt r.body 1 1 = 0) (hch : leAt r.body 0 1 ≤ 63) (hp : leAt r.body 2 2 ≤ 255) (safe : s.flt.safe = true) :
    Yields (.testShot t l) s (fun u =>
      Answered s u l r 2 6 [] ∧ u.evs = { s.evs with refuse := wrapInc 32 s.evs.refuse, turn := 16 }) := by
  refine testShot_reply t h runs length zero
    (a := refusal 2 6 { s.advance t with evs := { s.evs with refuse := wrapInc 32 s.evs.refuse, turn := 16 } })
    ((if_neg (by omega)).trans ?_) ⟨h.1.1, rfl, fun _ => .inl rfl⟩ fun u hu => ⟨hu.answered, ?_⟩
  · have refused (w0 w1 w2 : Word) : insertEvent 16 w0 w1 w2 (served 16 (s.advance t)) =
        refuseInsertion 6 (served 16 (s.advance t)) := by
      unfold insertEvent
      exact if_pos safe
    rw [refused]
    rfl
  · rw [hu.settled]
    rfl

/-! ## DIAG_RUN (R364) -/

/-- Nothing but the channels' diagnostics differs. -/
def DchOnly (s u : State) : Prop := u = { s with dia.ch := u.dia.ch }

theorem DchOnly.setDch {s u : State} (h : DchOnly s u) (k : Nat) (g : DiaCh) : DchOnly s (u.setDch k g) := by
  unfold DchOnly at *
  rw [h]
  rfl

theorem DchOnly.forEach {s u : State} {f : Nat → State → State} (hf : ∀ k v, DchOnly s v → DchOnly s (f k v))
    (ks : List Nat) (h : DchOnly s u) : DchOnly s (forEach ks f u) := by
  unfold Machine.forEach
  induction ks generalizing u with
  | nil => exact h
  | cons k ks ih => exact ih (hf k u h)

/-- One test asked of a channel. -/
def askTest (k : Nat) (s : State) : State :=
  let u := s.setDch k { s.dch k with single := some (s.etc + 10 * ticksPerMs) }
  if (u.dch k).test.isNone && testEligible u k then startTest k u else u

/-- What a channel becomes when it is asked for a test in `s`: one that is eligible begins it. -/
def DiaCh.asked (g : DiaCh) (s : State) (k : Nat) : DiaCh :=
  if g.test.isNone && testEligible s k then { g with test := some s.etc, testSingle := true, single := none }
  else { g with single := some (s.etc + 10 * ticksPerMs) }

theorem askTest_other {k m : Nat} (other : m ≠ k) (s : State) : (askTest k s).dch m = s.dch m := by
  unfold askTest startTest
  dsimp only
  split
  · rw [setDch_dch_other other, setDch_dch_other other]
  · rw [setDch_dch_other other]

theorem askTest_only {s v : State} (k : Nat) (h : DchOnly s v) : DchOnly s (askTest k v) := by
  unfold askTest startTest
  dsimp only
  split
  · exact (h.setDch k _).setDch k _
  · exact h.setDch k _

/-- What others were asked does not matter to a channel's eligibility. -/
theorem askTest_here {s v : State} {k : Nat} (h : DchOnly s v) (same : v.dch k = s.dch k) :
    (askTest k v).dch k = (s.dch k).asked s k := by
  have eligible (x : Option Tick) : testEligible (v.setDch k { v.dch k with single := x }) k = testEligible s k := by
    have capture : ((v.setDch k { v.dch k with single := x }).dch k).lastCapture = (s.dch k).lastCapture := by
      rw [State.dch_setDch, same]
    unfold testEligible
    rw [capture, h.setDch k]
    rfl
  have time : v.etc = s.etc := by rw [h]
  unfold askTest DiaCh.asked startTest
  dsimp only
  rw [eligible, State.dch_setDch, same, time]
  split
  · rw [State.dch_setDch]
    exact congrArg (fun x => ({ s.dch k with test := some x, testSingle := true, single := none } : DiaCh)) time
  · rw [State.dch_setDch]

theorem mem_maskChannels {m : BitVec 64} {k : Nat} : k ∈ maskChannels m ↔ m.getLsbD k = true := by
  unfold maskChannels
  rw [List.mem_filter, List.mem_range]
  exact ⟨fun h => h.2, fun h => ⟨BitVec.lt_of_getLsbD h, h⟩⟩

theorem nodup_maskChannels (m : BitVec 64) : (maskChannels m).Nodup := List.nodup_range.filter _

/-- Off-state tests asked of the channels of a mask. -/
theorem diagOffTest_dch (m : BitVec 64) (s : State) : DchOnly s (diagOffTest m s) ∧
    ∀ k, (diagOffTest m s).dch k = if m.getLsbD k then (s.dch k).asked s k else s.dch k := by
  have all : diagOffTest m s = forEach (maskChannels m) askTest s := rfl
  rw [all]
  refine ⟨DchOnly.forEach (fun k _ hv => askTest_only k hv) _ rfl, fun k => ?_⟩
  split
  case isTrue masked =>
    exact forEach_inside (I := DchOnly s) (Q := fun k g g' => g = s.dch k → g' = (s.dch k).asked s k) State.dch
      (fun n m u other => askTest_other other u) (fun n u hu => askTest_only n hu)
      (fun n u hu same => askTest_here hu same) (nodup_maskChannels m) (mem_maskChannels.mpr masked) (by rfl) rfl
  case isFalse unmasked =>
    exact forEach_outside State.dch (fun n m u other => askTest_other other u)
      (fun hm => unmasked (mem_maskChannels.mp hm)) s

/-- The latches that DIAG_RUN clears. -/
def DiaCh.cleared (g : DiaCh) : DiaCh := { g with offFlt := false, onFlt := false, off := 0, onCode := 0 }

theorem diagClear_dch (m : BitVec 64) (s : State) : DchOnly s (diagClear m s) ∧
    ∀ k, (diagClear m s).dch k = if m.getLsbD k then (s.dch k).cleared else s.dch k := by
  have all : diagClear m s = forEach (maskChannels m) (fun k u => u.setDch k (u.dch k).cleared) s := rfl
  rw [all]
  refine ⟨DchOnly.forEach (fun k _ hv => hv.setDch k _) _ rfl, fun k => ?_⟩
  split
  case isTrue masked =>
    exact forEach_inside (I := fun _ => True) (Q := fun _ g g' => g' = g.cleared) State.dch
      (fun n m u other => setDch_dch_other other _) (fun _ _ _ => trivial)
      (fun n u _ => State.dch_setDch ..) (nodup_maskChannels m) (mem_maskChannels.mpr masked) (s := s) trivial
  case isFalse unmasked =>
    exact forEach_outside State.dch (fun n m u other => setDch_dch_other other _)
      (fun hm => unmasked (mem_maskChannels.mp hm)) s

/-- DIAG_RUN of a kind on a mask of channels that exist (R364). -/
theorem diagRun_row {m : BitVec 64} {kind : Nat} (f : BitVec 64 → State → State) (h : Asked s l r 0x61) (small : kind < 256)
    (body : r.body = leBytes 8 m.toNat ++ [BitVec.ofNat 8 kind, 0, 0, 0]) :
    diagRun l kind f (s.advance t) = respond l (s.advance t) r
      (if s.flt.safe ∧ kind = 1 then refusal 2 0 (s.advance t)
      else if 2 ^ s.channels ≤ m.toNat then refusal 11 0 (s.advance t)
      else success [] (f m (s.advance t))) := by
  have which : leAt r.body 8 1 = kind := leAt_field (n := 1) (z := [0, 0, 0]) body (length_leBytes ..) (by omega)
  have mask : leAt r.body 0 8 = m.toNat :=
    leAt_field (x := []) (z := [BitVec.ofNat 8 kind, 0, 0, 0]) body rfl (by have := m.isLt; omega)
  obtain ⟨request, row⟩ := command_asked (fun r s =>
      if s.flt.safe ∧ kind = 1 then refusal 2 0 s
      else if 2 ^ s.channels ≤ leAt r.body 0 8 then refusal 11 0 s
      else success [] (f (BitVec.ofNat 64 (leAt r.body 0 8)) s)) t h
  unfold diagRun
  rw [request]
  dsimp only at row ⊢
  rw [if_neg (by omega), row, mask, BitVec.ofNat_toNat, BitVec.setWidth_eq]
  rfl

theorem Answerable.of_dch {w : State} (h : Asked s l r 0x61) (only : DchOnly (s.advance t) w) :
    Answerable s l r (success [] w) := by
  refine ⟨?_, ?_, fun _ => .inl ?_⟩
  · show w.sys.mode = _
    rw [only]
    exact h.1.1
  · show framesWaiting w l = _
    rw [only]
    rfl
  · show (w.link l).session = _
    rw [only]
    rfl

theorem dch_of_responds {w u : State} (hu : Responds s l r (success [] w) u) (k : Nat) : (settle u).dch k = w.dch k := by
  rw [hu.settled]
  rfl

end

/-- Settles O57: each command's reply, and what its response leaves. -/
theorem serviceCommands : Obligations.ServiceCommands := by
  unfold Obligations.ServiceCommands
  intro s t l r
  refine ⟨fun ch p ang k h runs hch hp body hang => testShot_answers t h runs hch hp body hang,
    fun ch p ang h runs body hch hp out => testShot_range t h runs body hch hp out,
    fun h runs length zero hch hp safe => testShot_inSafe t h runs length zero hch hp safe,
    fun m h body exist calm => ?tests, fun m h body exist => ?clear, fun m h body safe => ?safe⟩
  case tests =>
    have row := diagRun_row t diagOffTest h (by decide) body
    rw [if_neg (by simp [calm]), if_neg (Nat.not_le.mpr exist)] at row
    obtain ⟨only, dch⟩ := diagOffTest_dch m (s.advance t)
    refine yields_response (k := .diagRunOffTest t l) h row rfl (.of_dch t h only) fun u hu => ⟨fun k idle => ?_, hu.answered⟩
    rw [dch_of_responds hu, dch]
    have same : (s.advance t).dch k = s.dch k := rfl
    have time : (s.advance t).etc = max s.etc t := etc_alive t h.1
    refine ⟨fun off => by rw [off]; rfl, fun on eligible => ?_, fun on ineligible => ?_⟩
    · rw [on, if_pos rfl, same]
      unfold DiaCh.asked
      rw [idle, eligible, time]
      rfl
    · rw [on, if_pos rfl, same]
      unfold DiaCh.asked
      rw [ineligible, time, Bool.and_false]
      rfl
  case clear =>
    have row := diagRun_row t diagClear h (by decide) body
    rw [if_neg (fun both => absurd both.2 (by decide)), if_neg (Nat.not_le.mpr exist)] at row
    obtain ⟨only, dch⟩ := diagClear_dch m (s.advance t)
    refine yields_response (k := .diagRunClear t l) h row rfl (.of_dch t h only) fun u hu => ⟨fun k => ?_, hu.answered⟩
    exact (dch_of_responds hu k).trans (dch k)
  case safe =>
    have row := diagRun_row t diagOffTest h (by decide) body
    rw [if_pos ⟨safe, rfl⟩] at row
    refine yields_response (k := .diagRunOffTest t l) h row rfl ⟨h.1.1, rfl, fun _ => .inl rfl⟩ fun u hu =>
      ⟨hu.answered, ?_⟩
    exact linkFrame_trans (linkFrame_advance t h.1.1) hu.settled

end Sys2Proof.Machine
end

section
/-! Image commands and RESET (03_trust_ownership_envelope.md R102 to R104; 04_ohmac_command_set.md R139, R140;
15_startup_sleep_power.md R460), with what a write to the Caddy leaves (14_background_observation.md R435, R436). -/

namespace Sys2Proof.Machine

/-! ## Writes to the Caddy -/

/-- A write to the Caddy is counted: where blocks stand and how often they were written may differ, and nothing else. -/
def CaddyOnly (s u : State) : Prop := u = { s with
  bgs := u.bgs
  nv := { s.nv with writes := u.nv.writes, blockOf := u.nv.blockOf, badBlocks := u.nv.badBlocks, turn := u.nv.turn } }

theorem CaddyOnly.refl (s : State) : CaddyOnly s s := rfl

theorem CaddyOnly.trans {s u v : State} (h : CaddyOnly s u) (g : CaddyOnly u v) : CaddyOnly s v := by
  unfold CaddyOnly at *
  rw [g, h]

theorem blockWritten_only (b : Nat) (s : State) : CaddyOnly s (blockWritten b s) := by
  unfold blockWritten
  dsimp only
  generalize (bestSpare s).getD (physOf s b) = p
  rfl

theorem blocksWritten_only (bs : List Nat) (s : State) : CaddyOnly s (blocksWritten bs s) := by
  unfold blocksWritten forEach
  induction bs generalizing s with
  | nil => exact .refl s
  | cons b bs ih => exact (blockWritten_only b s).trans (ih _)

theorem regionWritten_only (base n : Nat) (s : State) : CaddyOnly s (regionWritten base n s) :=
  (blocksWritten_only _ s).trans (by rfl)

theorem CaddyOnly.image {s u : State} (h : CaddyOnly s u) (x : Slot) : imageOf u x = imageOf s x := by
  rw [h]
  cases x <;> rfl

/-- The module with another key store, sealed afresh (R78). -/
def State.withKeys (s : State) (k : KeyStore) : State := { s with nv := { s.nv with
  keys := k, keySeal := some (sealKeys (Config.sealNonce s.nv.seals) k), seals := s.nv.seals + 1, ksFail := false } }

theorem writeKeys_only (k : KeyStore) (s : State) : CaddyOnly (s.withKeys k) (writeKeys k s) := regionWritten_only ..

/-- What the links need of a state is kept by a write of the key store. -/
theorem writeKeys_links (k : KeyStore) (s : State) : (writeKeys k s).sys = s.sys ∧ (writeKeys k s).links = s.links ∧
    (writeKeys k s).nv.keys = k ∧ (writeKeys k s).nv.ksFail = false ∧ (writeKeys k s).sec = s.sec := by
  rw [writeKeys_only k s]
  exact ⟨rfl, rfl, rfl, rfl, rfl⟩

theorem imageOf_setImage (x : Slot) (i : Image) (s : State) : imageOf (setImage x i s) x = i := by cases x <;> rfl

theorem setImage_sec (x : Slot) (i : Image) (s : State) : (setImage x i s).sec = s.sec := by cases x <;> rfl
theorem setImage_sys (x : Slot) (i : Image) (s : State) : (setImage x i s).sys = s.sys := by cases x <;> rfl
theorem setImage_links (x : Slot) (i : Image) (s : State) : (setImage x i s).links = s.links := by cases x <;> rfl

/-- A reply is answerable if its state keeps mode and links. -/
theorem Answerable.of_links {s : State} {l : Link} {r : Request} {a : Reply} (run : a.state.sys.mode = .run)
    (links : a.state.links = s.links) : Answerable s l r a := by
  refine ⟨run, ?_, fun _ => .inl ?_⟩
  · unfold framesWaiting
    rw [links]
  · unfold State.link
    rw [links]

theorem Responds.sec {s u : State} {l : Link} {r : Request} {a : Reply} (h : Responds s l r a u) :
    (settle u).sec = a.state.sec := by
  rw [h.settled]

theorem Responds.nv {s u : State} {l : Link} {r : Request} {a : Reply} (h : Responds s l r a u) :
    (settle u).nv = a.state.nv := by
  rw [h.settled]

theorem Responds.sys {s u : State} {l : Link} {r : Request} {a : Reply} (h : Responds s l r a u) :
    (settle u).sys = a.state.sys := by
  rw [h.settled]

theorem Responds.image {s u : State} {l : Link} {r : Request} {a : Reply} (h : Responds s l r a u) (x : Slot) :
    imageOf (settle u) x = imageOf a.state x := by
  unfold imageOf
  rw [h.nv]

/-- An operation that writes only the logbook or an interrupt keeps the links and the trust store. -/
theorem logImage_keeps (x : Slot) (e n : Nat) (place : Nat × Nat) (s : State) :
    logImage x e n place s = { s with bgs := (logImage x e n place s).bgs } := log_frame ..

section
variable {s : State} {l : Link} {r : Request} (t : Tick)

/-! ## Transfers (R139) -/

theorem slotOf_small {n : Nat} {x : Slot} (h : slotOf n = some x) : n < 256 := by
  unfold slotOf at h
  split at h
  · omega
  · split at h
    · omega
    · cases h

theorem going (ended : sequenceEnded s = true) : ¬ (!sequenceEnded (s.advance t)) = true := by
  rw [show sequenceEnded (s.advance t) = true from ended]
  decide

theorem imgBegin_answers {n total : Nat} {x : Slot} (h : Asked s l r 0x50) (ended : sequenceEnded s = true)
    (body : r.body = [BitVec.ofNat 8 n, 0, 0, 0] ++ leBytes 4 total) (slot : slotOf n = some x)
    (idle : s.sys.running ≠ some x) (least : 192 ≤ total) (most : total ≤ 262144) :
    Yields (.imgBegin t l) s (fun u => imageOf u x = {} ∧
      u.sec = { s.sec with transfer := some { slot := x, total := total, next := 0, link := l } } ∧
      Answered s u l r 0 0 []) := by
  have small := slotOf_small slot
  have first : leAt r.body 0 1 = n := leAt_field (x := []) (n := 1) (z := [0, 0, 0] ++ leBytes 4 total)
    (by rw [body]; rfl) rfl (by omega)
  have size : leAt r.body 4 4 = total := leAt_field (z := []) (by rw [body, List.append_nil]) rfl (by omega)
  have zero : firstNonZero r.body 1 3 = none := by rw [body]; rfl
  refine yields_reply (k := .imgBegin t l) h rfl rfl (a := success [] { setImage x {} (s.advance t) with
      sec := { (setImage x {} (s.advance t)).sec with
        transfer := some { slot := x, total := total, next := 0, link := l } } }) ?_
    (.of_links ?_ (setImage_links ..)) fun u hu => ⟨?_, ?_, hu.answered⟩
  · refine (if_neg (going t ended)).trans ((sized_right _ (by rw [body]; simp [length_leBytes])).trans ?_)
    dsimp only
    rw [zero, first, slot, size]
    dsimp only
    rw [if_neg (by omega), if_neg (by exact idle)]
    rfl
  · show (setImage x {} (s.advance t)).sys.mode = _
    rw [setImage_sys]
    exact h.1.1
  · exact (hu.image x).trans (imageOf_setImage x {} (s.advance t))
  · rw [hu.sec]
    show ({ (setImage x {} (s.advance t)).sec with transfer := _ } : Sec) = _
    rw [setImage_sec]
    rfl

theorem transferOf_own {y : Transfer} (carried : s.sec.transfer = some y) (own : y.link = l) : transferOf s l = some y := by
  unfold transferOf
  rw [carried]
  simp [own]

theorem imgData_answers {y : Transfer} (h : Asked s l r 0x51) (carried : s.sec.transfer = some y) (own : y.link = l)
    (place : leAt r.body 0 4 = y.next) (least : 5 ≤ r.body.length) (most : r.body.length ≤ 4092)
    (room : y.next + (r.body.length - 4) ≤ y.total) : Yields (.imgData t l) s (fun u =>
      imageOf u y.slot = { imageOf s y.slot with bytes := (imageOf s y.slot).bytes ++ r.body.drop 4 } ∧
      u.sec = { s.sec with transfer := some { y with next := y.next + (r.body.length - 4) } } ∧
      Answered s u l r 0 0 (leBytes 4 (y.next + (r.body.length - 4)))) := by
  have transfer := transferOf_own (s := s.advance t) carried own
  have length : (r.body.drop 4).length = r.body.length - 4 := List.length_drop ..
  generalize hi : ({ imageOf s y.slot with bytes := (imageOf s y.slot).bytes ++ r.body.drop 4 } : Image) = i
  generalize hw : blocksWritten (imageBlocks y (r.body.length - 4)) (setImage y.slot i (s.advance t)) = w
  have only : CaddyOnly (setImage y.slot i (s.advance t)) w := hw ▸ blocksWritten_only ..
  have sec : w.sec = s.sec := by rw [only, setImage_sec]; rfl
  have sys : w.sys = s.sys := by rw [only, setImage_sys]; rfl
  have links : w.links = s.links := by rw [only, setImage_links]; rfl
  have image : imageOf w y.slot = i := (only.image y.slot).trans (imageOf_setImage ..)
  refine yields_reply (k := .imgData t l) h rfl rfl (a := success (leBytes 4 (y.next + (r.body.length - 4)))
      { w with sec := { w.sec with transfer := some { y with next := y.next + (r.body.length - 4) } } }) ?_
    (.of_links (by show w.sys.mode = _; rw [sys]; exact h.1.1) links) fun u hu => ⟨?_, ?_, hu.answered⟩
  · dsimp only [instant]
    rw [transfer]
    dsimp only
    rw [if_neg (by omega), length, if_neg (by omega)]
    rw [show imageOf (s.advance t) y.slot = imageOf s y.slot by cases y.slot <;> rfl, hi, hw]
  · exact (hu.image y.slot).trans image
  · rw [hu.sec]
    show ({ w.sec with transfer := _ } : Sec) = _
    rw [sec]

theorem imgData_misplaced {y : Transfer} (h : Asked s l r 0x51) (carried : s.sec.transfer = some y) (own : y.link = l)
    (place : leAt r.body 0 4 ≠ y.next) (least : 5 ≤ r.body.length) (most : r.body.length ≤ 4092) :
    Yields (.imgData t l) s (fun u => Answered s u l r 11 0 [] ∧ LinkFrame s u) := by
  have transfer := transferOf_own (s := s.advance t) carried own
  refine yields_refused (k := .imgData t l) h rfl rfl ?_
  dsimp only [instant]
  rw [transfer]
  dsimp only
  rw [if_neg (by omega), if_pos (.inl place)]

theorem imgEnd_incomplete {y : Transfer} (h : Asked s l r 0x52) (carried : s.sec.transfer = some y) (own : y.link = l)
    (body : r.body = []) (short : y.next ≠ y.total) :
    Yields (.imgEnd t l) s (fun u => Answered s u l r 2 0 [] ∧ LinkFrame s u) := by
  have transfer := transferOf_own (s := s.advance t) carried own
  refine yields_refused (k := .imgEnd t l) h rfl rfl ?_
  dsimp only [instant]
  rw [transfer]
  dsimp only
  rw [sized_right _ (by rw [body]; rfl), if_pos short]

/-- A success ends a run of failures of its link, and touches nothing else of it (R109). -/
theorem linkOk_leaves (l : Link) (s : State) : LinkFrame s (linkOk l s) ∧
    framesWaiting (linkOk l s) l = framesWaiting s l ∧ (linkOk l s).link l = { s.link l with fails := 0, pauseS := 0 } ∧
      ∀ m, m ≠ l → (linkOk l s).link m = s.link m :=
  ⟨linkFrame_setLink .., framesWaiting_setLink _ _ _ (by rfl), State.link_setLink .., fun _ hm => State.link_setLink_other _ _ hm⟩

/-- An image that passes every check is installed, and its transfer is over (R103, R104). -/
theorem imgEnd_installs {y : Transfer} (h : Asked s l r 0x52) (carried : s.sec.transfer = some y) (own : y.link = l)
    (body : r.body = []) (whole : y.next = y.total) (good : imageRefusal s y.slot (imageOf s y.slot).bytes = none) :
    Yields (.imgEnd t l) s (fun u =>
      imageOf u y.slot = { bytes := (imageOf s y.slot).bytes, full := true, verified := true } ∧
      u.sec.transfer = none ∧ u.irc.host.pend.getLsbD 237 = true ∧
      Answered s u l r 0 0 (slice (imageOf s y.slot).bytes 8 8 ++ sha (slice (imageOf s y.slot).bytes 0 128))) := by
  have transfer := transferOf_own (s := s.advance t) carried own
  have bytes : imageOf (s.advance t) y.slot = imageOf s y.slot := by cases y.slot <;> rfl
  generalize imageOf s y.slot = i at good bytes ⊢
  generalize ho : ({ s.advance t with sec := { (s.advance t).sec with transfer := none } } : State) = o
  have good' : imageRefusal o y.slot i.bytes = none := by rw [← ho]; exact good
  have orun : o.sys.mode = .run := by rw [← ho]; exact h.1.1
  have olinks : o.links = s.links := by rw [← ho]; rfl
  have osec : o.sec.transfer = none := by rw [← ho]
  generalize hv : setImage y.slot { bytes := i.bytes, full := true, verified := true } o = v
  have vrun : v.sys.mode = .run := by rw [← hv, setImage_sys]; exact orun
  have vlinks : v.links = s.links := by rw [← hv, setImage_links]; exact olinks
  have vsec : v.sec.transfer = none := by rw [← hv, setImage_sec]; exact osec
  have vimage : imageOf v y.slot = { bytes := i.bytes, full := true, verified := true } := hv ▸ imageOf_setImage ..
  obtain ⟨frame, frames, link, -⟩ := linkOk_leaves l v
  generalize hw : raise 237 (logImage y.slot 1 0 (0, 0) (linkOk l v)) = w
  have wframe : w = { linkOk l v with bgs := w.bgs, irc := w.irc, sys := w.sys } := by
    rw [← hw, raise_frame, logImage_keeps]
  have wrun : w.sys.mode = .run := by rw [← hw, raise_frame, logImage_keeps, frame]; exact vrun
  have wpend : w.irc.host.pend.getLsbD 237 = true := hw ▸ raise_pends (by decide) (by decide) _
  refine yields_reply (k := .imgEnd t l) h rfl rfl (a := success (slice i.bytes 8 8 ++ sha (slice i.bytes 0 128)) w) ?_
    ⟨wrun, ?_, fun _ => .inl ?_⟩ fun u hu => ⟨?_, ?_, hu.pend 237 wpend, hu.answered⟩
  · dsimp only [instant]
    rw [transfer]
    dsimp only
    rw [sized_right _ (by rw [body]; rfl), if_neg (fun no => no whole), bytes, ho, good']
    dsimp only
    rw [hv, hw]
  · show framesWaiting w l = _
    have same : framesWaiting w l = framesWaiting (linkOk l v) l := by rw [wframe]; rfl
    rw [same, frames]
    unfold framesWaiting
    rw [vlinks]
  · show (w.link l).session = _
    have same : (w.link l).session = ((linkOk l v).link l).session := by rw [wframe]; rfl
    rw [same, link]
    unfold State.link
    rw [vlinks]
  · refine (hu.image y.slot).trans ?_
    show imageOf w y.slot = _
    rw [← vimage, wframe, frame]
    cases y.slot <;> rfl
  · rw [hu.sec]
    show w.sec.transfer = none
    rw [wframe, frame]
    exact vsec

/-! ## Selection, confirmation and RESET (R140, R460) -/

theorem imgSelect_answers {n : Nat} {x : Slot} (h : Asked s l r 0x53) (ended : sequenceEnded s = true)
    (body : r.body = [BitVec.ofNat 8 n, 0, 0, 0]) (slot : slotOf n = some x) (full : (imageOf s x).full = true)
    (good : (imageOf s x).verified = true) : Yields (.imgSelect t l true) s (fun u =>
      u.nv.keys = (if imgSeq (imageOf s x).bytes = s.keys.floor then { s.keys with sel := x, trial := false }
        else { s.keys with sel := x, trial := true, trials := 3 }) ∧
      Answered s u l r 0 0 []) := by
  have small := slotOf_small slot
  have first : leAt r.body 0 1 = n := leAt_field (x := []) (n := 1) (z := [0, 0, 0]) body rfl (by omega)
  have zero : firstNonZero r.body 1 3 = none := by rw [body]; rfl
  have image : imageOf (s.advance t) x = imageOf s x := by cases x <;> rfl
  obtain ⟨sys, links, keys, -, -⟩ := writeKeys_links (selected x (imgSeq (imageOf s x).bytes) s.keys) (s.advance t)
  generalize hw : writeKeys (selected x (imgSeq (imageOf s x).bytes) s.keys) (s.advance t) = w at sys links keys
  refine yields_reply (k := .imgSelect t l true) h rfl rfl (a := success [] w) ?_
    (.of_links (by show w.sys.mode = _; rw [sys]; exact h.1.1) links) fun u hu => ⟨?_, hu.answered⟩
  · refine (if_neg (going t ended)).trans ((sized_right _ (by rw [body]; rfl)).trans ?_)
    dsimp only [instant]
    rw [zero, first, slot]
    dsimp only
    rw [image, full, good, if_neg (by decide), if_neg (by decide), ← hw]
    rfl
  · rw [hu.nv]
    exact keys

theorem imgConfirm_answers {x : Slot} (h : Asked s l r 0x54) (ended : sequenceEnded s = true)
    (runs : s.sys.running = some x) (body : r.body = []) : Yields (.imgConfirm t l true) s (fun u =>
      u.nv.keys = { s.keys with floor := max s.keys.floor (imgSeq (imageOf s x).bytes), trial := false } ∧
      u.irc.host.pend.getLsbD 237 = true ∧
      Answered s u l r 0 0 (leBytes 8 (max s.keys.floor (imgSeq (imageOf s x).bytes)))) := by
  have image : imageOf (s.advance t) x = imageOf s x := by cases x <;> rfl
  have ended' : sequenceEnded (s.advance t) = true := ended
  have runs' : (s.advance t).sys.running = some x := runs
  have store : (s.advance t).keys = s.keys := rfl
  generalize hn : max s.keys.floor (imgSeq (imageOf s x).bytes) = n
  obtain ⟨sys, links, keys, -, -⟩ := writeKeys_links { s.keys with floor := n, trial := false } (s.advance t)
  generalize hv : writeKeys { s.keys with floor := n, trial := false } (s.advance t) = v at sys links keys
  generalize hw : raise 237 (logImage x 3 0 (0, 0) v) = w
  have wframe : w = { v with bgs := w.bgs, irc := w.irc, sys := w.sys } := by rw [← hw, raise_frame, logImage_keeps]
  have wrun : w.sys.mode = .run := by rw [← hw, raise_frame, logImage_keeps]; exact (congrArg Sys.mode sys).trans h.1.1
  have wpend : w.irc.host.pend.getLsbD 237 = true := hw ▸ raise_pends (by decide) (by decide) _
  have wlinks : w.links = s.links := by rw [wframe]; exact links
  have wkeys : w.nv.keys = { s.keys with floor := n, trial := false } := by rw [wframe]; exact keys
  refine yields_reply (k := .imgConfirm t l true) h rfl rfl (a := success (leBytes 8 n) w) ?_
    (.of_links wrun wlinks) fun u hu => ⟨?_, hu.pend 237 wpend, hu.answered⟩
  · dsimp only [instant]
    rw [ended', runs']
    dsimp only
    rw [sized_right _ (by rw [body]; rfl), if_neg (by decide), image, store, hn, hv, hw]
  · rw [hu.nv]
    exact wkeys

theorem reset_answers (h : Asked s l r 0x55) (ended : sequenceEnded s = true) (still : s.whl.sync = .nosync)
    (body : r.body = [0, 0, 0, 0]) : Yields (.reset t l) s (fun u =>
      u.sys = { s.sys with resetDue := some (s.sys.resetDue.getD (max s.etc t + 10 * ticksPerMs)) } ∧
      Answered s u l r 0 0 []) := by
  have zero : firstNonZero r.body 1 3 = none := by rw [body]; rfl
  have first : leAt r.body 0 1 = 0 := by rw [body]; rfl
  refine yields_reply (k := .reset t l) h rfl rfl (a := success [] { s.advance t with
      sys := { s.sys with resetDue := some (s.sys.resetDue.getD (max s.etc t + 10 * ticksPerMs)) } }) ?_
    (.of_links h.1.1 rfl) fun u hu => ⟨hu.sys, hu.answered⟩
  refine (if_neg (going t ended)).trans ((if_neg (fun no => no still)).trans ((sized_right _ (by rw [body]; rfl)).trans ?_))
  dsimp only [instant]
  rw [zero, first, etc_alive t h.1]
  rfl

theorem reset_synchronised (h : Asked s l r 0x55) (ended : sequenceEnded s = true) (turning : s.whl.sync ≠ .nosync) :
    Yields (.reset t l) s (fun u => Answered s u l r 12 (syncCode s.whl.sync) [] ∧ LinkFrame s u) :=
  yields_refused (k := .reset t l) h rfl rfl ((if_neg (going t ended)).trans (if_pos turning))

end

/-- Settles O56: each command's reply, and what its response leaves. -/
theorem imageAndResetCommands : Obligations.ImageAndResetCommands := by
  unfold Obligations.ImageAndResetCommands
  intro s t l r
  exact ⟨fun n total x h ended body slot idle least most => imgBegin_answers t h ended body slot idle least most,
    fun y h carried own place least most room => imgData_answers t h carried own place least most room,
    fun y h carried own place least most => imgData_misplaced t h carried own place least most,
    fun y h carried own body whole good => imgEnd_installs t h carried own body whole good,
    fun y h carried own body short => imgEnd_incomplete t h carried own body short,
    fun n x h ended body slot full good => imgSelect_answers t h ended body slot full good,
    fun x h ended runs body => imgConfirm_answers t h ended runs body,
    fun h ended still body => reset_answers t h ended still body,
    fun h ended turning => reset_synchronised t h ended turning⟩

end Sys2Proof.Machine
end

section
/-! Sessions that close (03_trust_ownership_envelope.md R89; 04_ohmac_command_set.md R131, R144): what a close, and the
end of an ownership (03 R83, R85), leave of the links and of the trust store. -/

namespace Sys2Proof.Machine

/-! ## Sessions (R89, R131) -/

/-- What a link keeps of itself: nothing but its session and its request differ. -/
def LinkSt.kept (x : LinkSt) : LinkSt := { x with session := .none, req := none }

/-- Sessions close and nothing else: their holdings are dropped, and the interrupt controller and the logbook told. -/
def SessionFrame (s u : State) : Prop := u = { s with
  links := u.links, cfg := { s.cfg with staging := u.cfg.staging }, sec := { s.sec with transfer := u.sec.transfer }
  irc := u.irc, bgs := u.bgs, sys := { s.sys with wakePending := u.sys.wakePending } }

/-- Between two states sessions have closed. -/
structure Shuts (s u : State) : Prop where
  frame : SessionFrame s u
  frames : ∀ m, framesWaiting u m = framesWaiting s m
  kept : ∀ m, (u.link m).kept = (s.link m).kept
  session : ∀ m, (u.link m).session = (s.link m).session ∨ (u.link m).session = .none
  request : ∀ m, (u.link m).req = (s.link m).req ∨ (u.link m).req = none
  pend : ∀ n, s.irc.host.pend.getLsbD n = true → u.irc.host.pend.getLsbD n = true

theorem Shuts.refl (s : State) : Shuts s s :=
  ⟨rfl, fun _ => rfl, fun _ => rfl, fun _ => .inl rfl, fun _ => .inl rfl, fun _ h => h⟩

theorem Shuts.trans {s u v : State} (h : Shuts s u) (g : Shuts u v) : Shuts s v := by
  obtain ⟨frame, frames, kept, session, request, pend⟩ := h
  obtain ⟨frame', frames', kept', session', request', pend'⟩ := g
  refine ⟨?_, fun m => (frames' m).trans (frames m), fun m => (kept' m).trans (kept m), fun m => ?_, fun m => ?_,
    fun n hn => pend' n (pend n hn)⟩
  · unfold SessionFrame at *
    rw [frame', frame]
  · obtain same | shut := session' m
    · exact (session m).imp same.trans same.trans
    · exact .inr shut
  · obtain same | gone := request' m
    · exact (request m).imp same.trans same.trans
    · exact .inr gone

/-- Once closed, a session stays closed. -/
theorem Shuts.closed {s u : State} (h : Shuts s u) {m : Link} (closed : (s.link m).session = .none) :
    (u.link m).session = .none := (h.session m).elim (fun same => same.trans closed) id

/-- The frames that wait on a link are those of its queue, behind the one in the receive buffer. -/
theorem framesWaiting_of_out {s u : State} {m : Link} (ready : u.links.rxReady = s.links.rxReady)
    (buf : u.links.rxBuf = s.links.rxBuf) (out : (u.link m).out = (s.link m).out) :
    framesWaiting u m = framesWaiting s m := by
  cases m with
  | spi =>
    have queue : u.links.spi.out = s.links.spi.out := out
    unfold framesWaiting
    rw [ready, buf, queue]
  | can0 => exact out
  | can1 => exact out

theorem setLink_buffers (s : State) (l : Link) (x : LinkSt) : (s.setLink l x).links.rxReady = s.links.rxReady ∧
    (s.setLink l x).links.rxBuf = s.links.rxBuf := by
  cases l <;> exact ⟨rfl, rfl⟩

theorem link_setLink_any (s : State) (l m : Link) (x : LinkSt) :
    (s.setLink l x).link m = if m = l then x else s.link m := by
  split
  case isTrue same => rw [same, State.link_setLink]
  case isFalse other => exact State.link_setLink_other s x other

/-- A link whose session and request go. -/
theorem Shuts.setLink (s : State) (l : Link) {x : LinkSt} (kept : x.kept = (s.link l).kept) (closed : x.session = .none)
    (req : x.req = (s.link l).req ∨ x.req = none) : Shuts s (s.setLink l x) := by
  have link (m : Link) := link_setLink_any s l m x
  have keeps (m : Link) : ((s.setLink l x).link m).kept = (s.link m).kept := by
    rw [link]
    split
    case isTrue same => rw [same]; exact kept
    case isFalse => rfl
  obtain ⟨ready, buf⟩ := setLink_buffers s l x
  refine ⟨by cases l <;> rfl, fun m => framesWaiting_of_out ready buf ?_, keeps, fun m => ?_, fun m => ?_,
    fun n h => by rw [setLink_irc]; exact h⟩
  · exact (congrArg LinkSt.out (keeps m) : ((s.setLink l x).link m).kept.out = (s.link m).kept.out)
  · rw [link]
    split
    case isTrue => exact .inr closed
    case isFalse => exact .inl rfl
  · rw [link]
    split
    case isTrue same => rw [same]; exact req
    case isFalse => exact .inl rfl

theorem Shuts.of_links {s u : State} (frame : SessionFrame s u) (links : u.links = s.links)
    (pend : ∀ n, s.irc.host.pend.getLsbD n = true → u.irc.host.pend.getLsbD n = true) : Shuts s u := by
  have link (m : Link) : u.link m = s.link m := by
    unfold State.link
    rw [links]
  refine ⟨frame, fun m => ?_, fun m => by rw [link], fun m => .inl (by rw [link]), fun m => .inl (by rw [link]), pend⟩
  unfold framesWaiting
  rw [links]

theorem Shuts.raise (n : Nat) (s : State) : Shuts s (raise n s) :=
  .of_links (by rw [raise_frame]; rfl) (by rw [raise_frame]) fun m h => raise_keepsPend n m h

theorem Shuts.log (k l : Nat) (b : List Byte) (s : State) : Shuts s (log k l b s) :=
  .of_links (by rw [log_frame]; rfl) (by rw [log_frame]) fun n h => by rw [log_frame]; exact h

theorem dropHoldings_shuts (l : Link) (s : State) : Shuts s (dropHoldings l s) := by
  have staged : Shuts s (match s.cfg.staging with
      | some (h, _) => if h = l then { s with cfg.staging := none } else s
      | none => s) := by
    split
    · split
      · exact .of_links rfl rfl fun _ h => h
      · exact .refl s
    · exact .refl s
  unfold dropHoldings
  dsimp only
  split
  · split
    · exact staged.trans (.of_links rfl rfl fun _ h => h)
    · exact staged
  · exact staged

theorem dropHoldings_links (l : Link) (s : State) : (dropHoldings l s).links = s.links := by
  have staged : (match s.cfg.staging with
      | some (h, _) => if h = l then { s with cfg.staging := none } else s
      | none => s).links = s.links := by
    split
    · split <;> rfl
    · rfl
  unfold dropHoldings
  dsimp only
  split
  · split
    · exact staged
    · exact staged
  · exact staged

theorem dropSealed_kept (x : LinkSt) : ({ dropSealed x with session := .none } : LinkSt).kept = x.kept ∧
    ((dropSealed x).req = x.req ∨ (dropSealed x).req = none) ∧ ∀ q, (dropSealed x).req = some q → q.sealed = false := by
  unfold dropSealed
  split
  case h_1 r present =>
    split
    case isTrue => exact ⟨rfl, .inr rfl, fun _ h => nomatch h⟩
    case isFalse plain =>
      refine ⟨rfl, .inl rfl, fun q h => ?_⟩
      obtain rfl : r = q := Option.some.inj (present.symm.trans h)
      simpa using plain
  case h_2 absent => exact ⟨rfl, .inl rfl, fun q h => nomatch absent.symm.trans h⟩

/-- A session closes: the link has none, and the other links are as before. -/
theorem closeSession_leaves (l : Link) (s : State) : Shuts s (closeSession l s) ∧
    ((closeSession l s).link l).session = .none ∧ ∀ m, m ≠ l → (closeSession l s).link m = s.link m := by
  have dropped (v : State) (m : Link) : (dropHoldings l v).link m = v.link m := by
    unfold State.link
    rw [dropHoldings_links]
  unfold closeSession
  split
  case h_1 none => exact ⟨.refl s, none, fun _ _ => rfl⟩
  case h_2 o _ =>
    exact ⟨.setLink s l rfl rfl (.inl rfl), by rw [State.link_setLink], fun m hm => State.link_setLink_other _ _ hm⟩
  case h_3 x _ =>
    obtain ⟨kept, req, -⟩ := dropSealed_kept (s.link l)
    have link (m : Link) : (dropHoldings l (raise 238 (logLink l 2
        (s.setLink l { dropSealed (s.link l) with session := .none })))).link m =
        (s.setLink l { dropSealed (s.link l) with session := .none }).link m := by
      rw [dropped, link_raise]
      unfold logLink
      rw [log_frame]
      rfl
    refine ⟨(((Shuts.setLink s l kept rfl req).trans (.log ..)).trans (.raise ..)).trans (dropHoldings_shuts ..), ?_,
      fun m hm => ?_⟩
    · rw [link, State.link_setLink]
    · rw [link, State.link_setLink_other _ _ hm]

theorem closeSession_none (l m : Link) {s : State} (closed : (s.link m).session = .none) :
    ((closeSession l s).link m).session = .none := (closeSession_leaves l s).1.closed closed

theorem closeAll_leaves (s : State) : Shuts s (closeAll s) ∧ ∀ m, ((closeAll s).link m).session = .none := by
  obtain ⟨spi, spi', -⟩ := closeSession_leaves .spi s
  obtain ⟨can0, can0', -⟩ := closeSession_leaves .can0 (closeSession .spi s)
  obtain ⟨can1, can1', -⟩ := closeSession_leaves .can1 (closeSession .can0 (closeSession .spi s))
  refine ⟨(spi.trans can0).trans can1, fun m => ?_⟩
  cases m with
  | spi => exact can1.closed (can0.closed spi')
  | can0 => exact can1.closed can0'
  | can1 => exact can1'

/-- The sessions opened under a slot close (R83). -/
theorem closeSlot_leaves (i : Nat) (s : State) : Shuts s (closeSlot i s) ∧ ∀ m, openedUnder i (closeSlot i s) m = false := by
  have one (l : Link) (u : State) : Shuts u (if openedUnder i u l then closeSession l u else u) ∧
      openedUnder i (if openedUnder i u l then closeSession l u else u) l = false := by
    split
    case isTrue =>
      obtain ⟨shuts, none, -⟩ := closeSession_leaves l u
      exact ⟨shuts, by rw [openedUnder_eq, none]; rfl⟩
    case isFalse other => exact ⟨.refl u, Bool.eq_false_iff.mpr other⟩
  have stays {u v : State} (h : Shuts u v) {m : Link} (closed : openedUnder i u m = false) :
      openedUnder i v m = false := by
    rw [openedUnder_eq] at closed ⊢
    obtain same | none := h.session m
    · rw [same]
      exact closed
    · rw [none]
      rfl
  have all : closeSlot i s = [Link.spi, .can0, .can1].foldl
      (fun s l => if openedUnder i s l then closeSession l s else s) s := rfl
  simp only [List.foldl_cons, List.foldl_nil] at all
  obtain ⟨spi, spi'⟩ := one .spi s
  generalize (if openedUnder i s .spi then closeSession .spi s else s) = u at all spi spi'
  obtain ⟨can0, can0'⟩ := one .can0 u
  generalize (if openedUnder i u .can0 then closeSession .can0 u else u) = v at all can0 can0'
  obtain ⟨can1, can1'⟩ := one .can1 v
  rw [← all] at can1 can1'
  refine ⟨(spi.trans can0).trans can1, fun m => ?_⟩
  cases m with
  | spi => exact stays can1 (stays can0 spi')
  | can0 => exact stays can1 can0'
  | can1 => exact can1'

/-! ## The end of an ownership (R83, R85) -/

/-- The module without an owner: what the erasure of the key store and of all that the owner installed leaves, before
the sessions close. -/
def unowned (n : KeyStore) (s : State) : State :=
  let u := qsInvalidate 8 (writeKeys n s)
  { u with
    nv := { u.nv with env0 := [], env1 := [], imgA := {}, imgB := {}, qs0 := [], qs1 := [] }
    sec := { u.sec with envelope := none, waitingEnv := none, envBad := false, release := none, transfer := none }
    whl := { u.whl with qs := {}, qsInval := 8 }
    sys := { u.sys with running := none, phase := if u.sys.running.isSome then 4 else u.sys.phase }
    seq := { u.seq with ctx := u.seq.ctx.map (fun e => (e.1, endContext e.2)), task := [] }
    bgs := { u.bgs with jobs := u.bgs.jobs.filter (fun j => match j with
      | .quickStart _ => false
      | _ => true) } }

/-- The key store of a module that an ownership has left. -/
def KeyStore.released (k : KeyStore) (life : Life) (forced : Bool) : KeyStore :=
  { life := life, ogen := wrapInc 32 k.ogen, forced := if forced then wrapInc 32 k.forced else k.forced
    destroyed := life == .retired }

theorem decommission_eq (life : Life) (op : Nat) (forced : Bool) (s : State) : decommission life op forced s =
    raise 234 (logLife op (closeAll (unowned (s.keys.released life forced) s))) := rfl

theorem unowned_leaves (n : KeyStore) (s : State) : let u := unowned n s
    u.nv.keys = n ∧ u.nv.env0 = [] ∧ u.nv.env1 = [] ∧ u.nv.imgA = {} ∧ u.nv.imgB = {} ∧ u.nv.qs0 = [] ∧ u.nv.qs1 = [] ∧
      u.sec = { s.sec with envelope := none, waitingEnv := none, envBad := false, release := none, transfer := none } ∧
      u.sys.running = none ∧ u.sys.mode = s.sys.mode ∧ u.links = s.links ∧
      u.seq.ctx = s.seq.ctx.map (fun e => (e.1, endContext e.2)) := by
  have keys : (writeKeys n s).nv.keys = n := (writeKeys_links n s).2.2.1
  have only := writeKeys_only n s
  unfold unowned
  dsimp only
  rw [qsInvalidate_frame]
  refine ⟨keys, rfl, rfl, rfl, rfl, rfl, rfl, ?_, rfl, ?_, ?_, ?_⟩
  all_goals
    dsimp only
    rw [only]
    rfl

/-- A state is what an ended ownership leaves. -/
structure Released (s u : State) (n : KeyStore) : Prop where
  keys : u.nv.keys = n
  env : u.nv.env0 = [] ∧ u.nv.env1 = []
  images : u.nv.imgA = {} ∧ u.nv.imgB = {}
  records : u.nv.qs0 = [] ∧ u.nv.qs1 = []
  sec : u.sec.release = none ∧ u.sec.envelope = none ∧ u.sec.waitingEnv = none
  running : u.sys.running = none
  mode : u.sys.mode = s.sys.mode
  ctx : u.seq.ctx = s.seq.ctx.map (fun e => (e.1, endContext e.2))
  frames : ∀ m, framesWaiting u m = framesWaiting s m
  sessions : ∀ m, (u.link m).session = .none
  pend : u.irc.host.pend.getLsbD 234 = true

theorem decommission_leaves (life : Life) (op : Nat) (forced : Bool) (s : State) :
    Released s (decommission life op forced s) (s.keys.released life forced) := by
  rw [decommission_eq]
  obtain ⟨keys, env0, env1, imgA, imgB, qs0, qs1, sec, running, mode, links, ctx⟩ :=
    unowned_leaves (s.keys.released life forced) s
  generalize unowned (s.keys.released life forced) s = v at *
  obtain ⟨shuts, none⟩ := closeAll_leaves v
  have told : Shuts (closeAll v) (raise 234 (logLife op (closeAll v))) := (Shuts.log ..).trans (.raise ..)
  obtain ⟨frame, frames, -⟩ := shuts.trans told
  have pend : (raise 234 (logLife op (closeAll v))).irc.host.pend.getLsbD 234 = true :=
    raise_pends (by decide) (by decide) _
  have sessions (m : Link) := told.closed (none m)
  generalize raise 234 (logLife op (closeAll v)) = u at frame frames pend sessions ⊢
  have waiting (m : Link) : framesWaiting v m = framesWaiting s m := by
    unfold framesWaiting
    rw [links]
  unfold SessionFrame at frame
  have nv : u.nv = v.nv := by rw [frame]
  have usec : u.sec = { v.sec with transfer := u.sec.transfer } := by rw [frame]
  have usys : u.sys = { v.sys with wakePending := u.sys.wakePending } := by rw [frame]
  have useq : u.seq = v.seq := by rw [frame]
  refine ⟨by rw [nv, keys], ⟨by rw [nv, env0], by rw [nv, env1]⟩, ⟨by rw [nv, imgA], by rw [nv, imgB]⟩,
    ⟨by rw [nv, qs0], by rw [nv, qs1]⟩, ⟨by rw [usec, sec], by rw [usec, sec], by rw [usec, sec]⟩, by rw [usys]; exact running,
    by rw [usys]; exact mode, by rw [useq, ctx], fun m => (frames m).trans (waiting m), sessions, pend⟩

end Sys2Proof.Machine
end

section
/-! The owner's commands (03_trust_ownership_envelope.md R81 to R85, R91, R92, R95; 04_ohmac_command_set.md R138, R486). -/

namespace Sys2Proof.Machine

/-! ## What a response needs of the state before it -/

/-- A state in which request `r` of link `l` can be answered: in RUN, its link's frames as they were, and its session open
or closed. -/
structure Ready (s : State) (l : Link) (w : State) : Prop where
  run : w.sys.mode = .run
  frames : framesWaiting w l = framesWaiting s l
  session : (w.link l).session = (s.link l).session ∨ (w.link l).session = .none

section
variable {s w v : State} {l : Link}

theorem Ready.answerable {r : Request} {a : Reply} (h : Ready s l a.state) : Answerable s l r a :=
  ⟨h.run, h.frames, fun _ => h.session⟩

theorem Ready.of_links (run : w.sys.mode = .run) (links : w.links = s.links) : Ready s l w := by
  have link : w.link l = s.link l := by
    unfold State.link
    rw [links]
  refine ⟨run, ?_, .inl (by rw [link])⟩
  unfold framesWaiting
  rw [links]

theorem Ready.shuts (h : Ready s l w) (g : Shuts w v) : Ready s l v := by
  obtain ⟨run, frames, session⟩ := h
  obtain ⟨frame, frames', -, session', -, -⟩ := g
  refine ⟨?_, (frames' l).trans frames, ?_⟩
  · rw [frame]
    exact run
  · obtain same | shut := session' l
    · exact session.imp same.trans same.trans
    · exact .inr shut

theorem Ready.next (h : Ready s l w) (run : v.sys.mode = .run) (links : v.links = w.links) : Ready s l v :=
  have g : Ready w l v := .of_links run links
  ⟨run, g.frames.trans h.frames, g.session.elim (fun e => h.session.imp e.trans e.trans) .inr⟩

theorem Ready.linkOk (h : Ready s l w) : Ready s l (linkOk l w) := by
  obtain ⟨run, frames, session⟩ := h
  obtain ⟨frame, frames', link, -⟩ := linkOk_leaves l w
  refine ⟨by rw [frame]; exact run, frames'.trans frames, ?_⟩
  rw [link]
  exact session

theorem Ready.writeKeys (h : Ready s l w) (k : KeyStore) : Ready s l (writeKeys k w) := by
  obtain ⟨sys, links, -⟩ := writeKeys_links k w
  exact h.next (by rw [sys]; exact h.run) links

end

/-- The key store that the module reads, while it is one that it can read. -/
theorem State.keys_eq {s : State} (up : s.sec.regsUp = true) (good : s.nv.ksFail = false) : s.keys = s.nv.keys := by
  unfold State.keys
  rw [up, good]
  rfl

/-- Only a key store that is read names an owner. -/
theorem owned_reads {s : State} (owned : s.keys.life = .owned) : s.sec.regsUp = true ∧ s.nv.ksFail = false := by
  unfold State.keys at owned
  split at owned
  · cases owned
  case isFalse reads => simpa [and_comm] using reads

/-! ## Owner commands (R83, R92) -/

/-- An owner command whose common checks pass. -/
def OwnerAsked (s : State) (l : Link) (r : Request) (op : Nat) : Prop :=
  Asked s l r 0x04 ∧ leAt r.body 4 2 = op ∧ s.keys.life = .owned ∧ ownerFormFault r.body = none ∧
    owkVerifies s (slice r.body 0 (48 + leAt r.body 6 2)) (slice r.body (48 + leAt r.body 6 2) 64) = true ∧
    slice r.body 16 32 = devBind ∧ s.keys.oseq < leAt r.body 8 8

/-- The module with the wrapper's OSEQ stored. -/
def ownerStored (t : Tick) (l : Link) (b : List Byte) (s : State) : State :=
  linkOk l (writeKeys { s.keys with oseq := leAt b 8 8 } (s.advance t))

section
variable {s : State} {l : Link} {r : Request} {op : Nat} (t : Tick) (h : OwnerAsked s l r op)
include h

theorem ownerStored_leaves : let v := ownerStored t l r.body s
    Ready s l v ∧ v.sec = s.sec ∧ v.nv.keys = { s.keys with oseq := leAt r.body 8 8 } ∧
      v.keys = { s.keys with oseq := leAt r.body 8 8 } ∧ (v.link l).fails = 0 := by
  obtain ⟨asked, -, owned, -⟩ := h
  obtain ⟨up, -⟩ := owned_reads owned
  obtain ⟨sys, links, keys, good, sec⟩ := writeKeys_links { s.keys with oseq := leAt r.body 8 8 } (s.advance t)
  have ready : Ready s l (writeKeys { s.keys with oseq := leAt r.body 8 8 } (s.advance t)) :=
    .of_links (by rw [sys]; exact asked.1.1) links
  unfold ownerStored
  generalize writeKeys { s.keys with oseq := leAt r.body 8 8 } (s.advance t) = w at *
  obtain ⟨frame, -, link, -⟩ := linkOk_leaves l w
  have ready' := ready.linkOk
  generalize linkOk l w = v at frame link ready' ⊢
  have vsec : v.sec = s.sec := by rw [frame]; exact sec
  have vnv : v.nv = w.nv := by rw [frame]
  refine ⟨ready', vsec, by rw [vnv, keys], ?_, by rw [link]⟩
  rw [State.keys_eq (by rw [vsec]; exact up) (by rw [vnv]; exact good), vnv, keys]

/-- The common checks of an owner command find no fault. -/
theorem ownerCheck_passes : ownerCheck l r.body (s.advance t) = none := by
  obtain ⟨-, -, owned, form, signed, bound, fresh⟩ := h
  have owned' : (s.advance t).keys.life = .owned := owned
  have signed' : owkVerifies (s.advance t) (slice r.body 0 (48 + leAt r.body 6 2))
    (slice r.body (48 + leAt r.body 6 2) 64) = true := signed
  have fresh' : (s.advance t).keys.oseq < leAt r.body 8 8 := fresh
  unfold ownerCheck
  dsimp only
  rw [if_neg (fun no => no owned'), form]
  dsimp only
  rw [if_neg (by rw [signed', bound]; simp), if_neg (by omega)]

/-- An owner operation as the response to its request. -/
theorem ownerOp_row (stored : Bool) (pre : List Byte → State → Option Reply) (act : List Byte → State → State) :
    ownerOp l op stored pre act (s.advance t) = respond l (s.advance t) r
      (match pre (ownerBody r.body) (s.advance t) with
      | some a => a
      | none =>
        if !stored then refusal 19 0 (writeFailed 129 (s.advance t))
        else
          let u := act (ownerBody r.body) (ownerStored t l r.body s)
          success (ownerData r.body u) u) := by
  have passes := ownerCheck_passes t h
  obtain ⟨asked, coded, -⟩ := h
  obtain ⟨request, row⟩ := command_asked (fun r s =>
      let b := r.body
      match (ownerCheck l b s).orElse (fun _ => pre (ownerBody b) s) with
      | some a => a
      | none =>
        if !stored then refusal 19 0 (writeFailed 129 s)
        else
          let s := act (ownerBody b) (linkOk l (writeKeys { s.keys with oseq := leAt b 8 8 } s))
          success (ownerData b s) s) t asked
  unfold ownerOp
  rw [request]
  dsimp only
  rw [if_neg (fun no => no coded)]
  refine row.trans ?_
  dsimp only
  rw [passes]
  rfl

/-- An owner operation whose preconditions hold, with the key store written and read back. -/
theorem ownerOp_yields {k : Instr} {pre : List Byte → State → Option Reply} {act : List Byte → State → State} {w : State}
    {p : State → Prop} (eff : ∀ u, effect k u = ownerOp l op true pre act u) (hl : leaves_mode k = false) (time : instant k = t)
    (clear : pre (ownerBody r.body) (s.advance t) = none) (hw : act (ownerBody r.body) (ownerStored t l r.body s) = w)
    (ready : Ready s l w)
    (hp : ∀ u, Responds s l r (success (slice r.body 8 8 ++ leBytes 4 w.nv.keys.ogen ++ zeros 4) w) u → p (settle u)) :
    Yields k s p := by
  have row := ownerOp_row t h true pre act
  rw [clear] at row
  dsimp only at row
  rw [if_neg (by decide), hw] at row
  refine yields_response (a := success (ownerData r.body w) w) h.1 ?_ hl ready.answerable hp
  rw [eff, time]
  exact row

/-- An owner operation that a precondition refuses. -/
theorem ownerOp_refused {k : Instr} {pre : List Byte → State → Option Reply} {act : List Byte → State → State}
    {st d : Nat} (eff : ∀ u, effect k u = ownerOp l op true pre act u) (hl : leaves_mode k = false) (time : instant k = t)
    (refused : pre (ownerBody r.body) (s.advance t) = some (refusal st d (s.advance t))) :
    Yields k s (fun u => Answered s u l r st d [] ∧ u.nv = s.nv) := by
  have row := ownerOp_row t h true pre act
  rw [refused] at row
  refine yields_response (a := refusal st d (s.advance t)) h.1 ?_ hl
    (Ready.of_links (s := s) (w := s.advance t) h.1.1.1 rfl).answerable fun u hu => ⟨hu.answered, hu.nv⟩
  rw [eff, time]
  exact row

end

/-- What an owner command answers: its OSEQ and the generation (R135). -/
theorem Responds.settled_nv {s u : State} {l : Link} {r : Request} {a : Reply} {k : KeyStore} (h : Responds s l r a u)
    (keys : a.state.nv.keys = k) : (settle u).nv.keys = k := by
  rw [h.nv]
  exact keys

/-- Once its state has no session, a response leaves none. -/
theorem Responds.sessions {s u : State} {l : Link} {r : Request} {a : Reply} (h : Responds s l r a u)
    (none : ∀ m, (a.state.link m).session = .none) (m : Link) : ((settle u).link m).session = .none := by
  show (u.link m).session = .none
  by_cases own : m = l
  · subst own
    exact h.closed (none m)
  · rw [h.other m own]
    exact none m

theorem Responds.underSlot {s u : State} {l : Link} {r : Request} {a : Reply} {i : Nat} (h : Responds s l r a u)
    (closed : ∀ m, openedUnder i a.state m = false) (m : Link) : openedUnder i (settle u) m = false := by
  show openedUnder i u m = false
  have none := closed m
  rw [openedUnder_eq] at none ⊢
  by_cases own : m = l
  · subst own
    rw [h.slot i]
    exact none
  · rw [h.other m own]
    exact none

theorem Ready.log {s w : State} {l : Link} (h : Ready s l w) (k n : Nat) (b : List Byte) : Ready s l (log k n b w) :=
  h.shuts (.log ..)

/-! ### What each operation writes -/

theorem setOperator_leaves {s v : State} {l : Link} (ready : Ready s l v) (i : Nat) (c : Option (List Byte)) (op : Nat) :
    Ready s l (logLife op (setOperator i c v)) ∧
      (logLife op (setOperator i c v)).nv.keys = { v.keys with slots := v.keys.slots.set none i c } := by
  unfold setOperator
  obtain ⟨-, -, keys, -⟩ := writeKeys_links { v.keys with slots := v.keys.slots.set none i c } v
  have ready' := ready.writeKeys { v.keys with slots := v.keys.slots.set none i c }
  generalize writeKeys { v.keys with slots := v.keys.slots.set none i c } v = w at keys ready' ⊢
  refine ⟨ready'.log .., ?_⟩
  unfold logLife
  rw [log_frame]
  exact keys

theorem Shuts.nv {s u : State} (h : Shuts s u) : u.nv = s.nv := by rw [h.frame]

theorem closeSlot_ready {s w : State} {l : Link} (ready : Ready s l w) (i : Nat) : Ready s l (closeSlot i w) ∧
    (closeSlot i w).nv = w.nv ∧ ∀ m, openedUnder i (closeSlot i w) m = false := by
  obtain ⟨shuts, closed⟩ := closeSlot_leaves i w
  exact ⟨ready.shuts shuts, shuts.nv, closed⟩

/-- A new owner is installed and every session closes (R83). -/
theorem newOwner_leaves {s v : State} {l : Link} (ready : Ready s l v) (k : KeyStore) (op : Nat) :
    let w := raise 234 (closeAll (logLife op (writeKeys k v)))
    Ready s l w ∧ w.nv.keys = k ∧ (∀ m, (w.link m).session = .none) ∧ w.irc.host.pend.getLsbD 234 = true := by
  obtain ⟨-, -, keys, -⟩ := writeKeys_links k v
  have ready' := ready.writeKeys k
  generalize writeKeys k v = w at keys ready' ⊢
  have told : Shuts w (logLife op w) := .log ..
  obtain ⟨shuts, closed⟩ := closeAll_leaves (logLife op w)
  have raised : Shuts (closeAll (logLife op w)) (raise 234 (closeAll (logLife op w))) := .raise ..
  have all := told.trans (shuts.trans raised)
  exact ⟨ready'.shuts all, by rw [all.nv]; exact keys, fun m => raised.closed (closed m),
    raise_pends (by decide) (by decide) _⟩

section
variable {s : State} {l : Link} {r : Request} (t : Tick)

/-- The precondition of ENROL: a certificate in form, a slot in range, a valid certificate (R83, R84). -/
def enrolPre (l : Link) (b : List Byte) (s : State) : Option Reply :=
  match certFormFault (slice b 4 192) with
  | some o => some (malformed l (52 + o) s)
  | none => (slotRange b s).orElse (fun _ =>
      if certValid s (slice b 4 192) then none else some (refusal 4 0 (signatureFail l s)))

theorem effect_enrol (u : State) : effect (.enrol t l true) u = ownerOp l 1 true (enrolPre l)
    (fun b s => logLife 1 (setOperator (leAt b 0 1) (some (slice b 4 192)) s)) u := rfl

theorem enrol_answers (h : OwnerAsked s l r 1) (form : certFormFault (slice (ownerBody r.body) 4 192) = none)
    (range : leAt (ownerBody r.body) 0 1 ≤ 15) (valid : certValid s (slice (ownerBody r.body) 4 192) = true) :
    Yields (.enrol t l true) s (fun u =>
      u.nv.keys = { s.keys with
        oseq := leAt r.body 8 8
        slots := Table.set none s.keys.slots (leAt (ownerBody r.body) 0 1) (some (slice (ownerBody r.body) 4 192)) } ∧
      Answered s u l r 0 0 (slice r.body 8 8 ++ leBytes 4 s.keys.ogen ++ zeros 4)) := by
  obtain ⟨ready, -, -, store, -⟩ := ownerStored_leaves t h
  generalize hv : ownerStored t l r.body s = v at ready store
  obtain ⟨ready', keys⟩ :=
    setOperator_leaves ready (leAt (ownerBody r.body) 0 1) (some (slice (ownerBody r.body) 4 192)) 1
  generalize hw : logLife 1 (setOperator (leAt (ownerBody r.body) 0 1) (some (slice (ownerBody r.body) 4 192)) v) = w
    at ready' keys
  rw [store] at keys
  refine ownerOp_yields t h (effect_enrol t) rfl rfl ?_ (by rw [hv]; exact hw) ready' fun u hu =>
    ⟨hu.settled_nv keys, ?_⟩
  · have valid' : certValid (s.advance t) (slice (ownerBody r.body) 4 192) = true := valid
    unfold enrolPre
    rw [form]
    dsimp only
    unfold slotRange
    rw [if_neg (by omega), if_pos valid']
    rfl
  · have answered := hu.answered
    rw [keys] at answered
    exact answered

theorem effect_revoke (u : State) : effect (.revoke t l true) u = ownerOp l 2 true slotRange
    (fun b s => closeSlot (leAt b 0 1) (logLife 2 (setOperator (leAt b 0 1) none s))) u := rfl

theorem revoke_answers (h : OwnerAsked s l r 2) (range : leAt (ownerBody r.body) 0 1 ≤ 15) :
    Yields (.revoke t l true) s (fun u =>
      u.nv.keys = { s.keys with
        oseq := leAt r.body 8 8, slots := Table.set none s.keys.slots (leAt (ownerBody r.body) 0 1) none } ∧
      (∀ m, openedUnder (leAt (ownerBody r.body) 0 1) u m = false) ∧
      Answered s u l r 0 0 (slice r.body 8 8 ++ leBytes 4 s.keys.ogen ++ zeros 4)) := by
  obtain ⟨ready, -, -, store, -⟩ := ownerStored_leaves t h
  generalize hv : ownerStored t l r.body s = v at ready store
  obtain ⟨ready', keys⟩ := setOperator_leaves ready (leAt (ownerBody r.body) 0 1) none 2
  obtain ⟨ready', nv, closed⟩ := closeSlot_ready ready' (leAt (ownerBody r.body) 0 1)
  rw [← nv, store] at keys
  generalize hw : closeSlot (leAt (ownerBody r.body) 0 1)
    (logLife 2 (setOperator (leAt (ownerBody r.body) 0 1) none v)) = w at ready' keys closed
  refine ownerOp_yields t h (effect_revoke t) rfl rfl (if_neg (by omega)) (by rw [hv]; exact hw) ready'
    fun u hu => ⟨hu.settled_nv keys, hu.underSlot closed, ?_⟩
  have answered := hu.answered
  rw [keys] at answered
  exact answered

theorem presence_since (alive : Alive s) (strap : s.supply.claimStrap = true)
    (since : s.supply.claimSince + ticksPerS ≤ max s.etc t) : presence (s.advance t) = true := by
  unfold presence
  rw [etc_alive t alive]
  exact (Bool.and_eq_true _ _).mpr ⟨strap, decide_eq_true since⟩

theorem effect_transfer (u : State) : effect (.transfer t l true) u = ownerOp l 3 true
    (fun _ s => if presence s then none else some (refusal 6 0 (plainFail l s)))
    (fun b s => raise 234 (closeAll (logLife 3 (writeKeys (withOwner (slice b 0 64) (leAt b 64 8) s.keys) s)))) u := rfl

theorem transfer_answers (h : OwnerAsked s l r 3) (strap : s.supply.claimStrap = true)
    (since : s.supply.claimSince + ticksPerS ≤ max s.etc t) : Yields (.transfer t l true) s (fun u =>
      u.nv.keys = { s.keys with
        owk := BitVec.ofNat 512 (beNat (slice (ownerBody r.body) 0 64)), oseq := leAt (ownerBody r.body) 64 8
        ogen := wrapInc 32 s.keys.ogen, slots := [] } ∧
      (∀ m, (u.link m).session = .none) ∧ u.irc.host.pend.getLsbD 234 = true ∧
      Answered s u l r 0 0 (slice r.body 8 8 ++ leBytes 4 (wrapInc 32 s.keys.ogen) ++ zeros 4)) := by
  have present := presence_since t h.1.1 strap since
  have owned : s.keys.life = .owned := h.2.2.1
  obtain ⟨ready, -, -, store, -⟩ := ownerStored_leaves t h
  generalize hv : ownerStored t l r.body s = v at ready store
  have value : withOwner (slice (ownerBody r.body) 0 64) (leAt (ownerBody r.body) 64 8) v.keys = { s.keys with
      owk := BitVec.ofNat 512 (beNat (slice (ownerBody r.body) 0 64)), oseq := leAt (ownerBody r.body) 64 8
      ogen := wrapInc 32 s.keys.ogen, slots := [] } := by
    rw [store]
    unfold withOwner
    rw [← owned]
  obtain ⟨ready', keys, closed, pend⟩ :=
    newOwner_leaves ready (withOwner (slice (ownerBody r.body) 0 64) (leAt (ownerBody r.body) 64 8) v.keys) 3
  generalize hw : raise 234 (closeAll (logLife 3
    (writeKeys (withOwner (slice (ownerBody r.body) 0 64) (leAt (ownerBody r.body) 64 8) v.keys) v))) = w at *
  rw [value] at keys
  refine ownerOp_yields t h (effect_transfer t) rfl rfl (if_pos present) (by rw [hv]; exact hw) ready'
    fun u hu => ⟨hu.settled_nv keys, hu.sessions closed, hu.pend 234 pend, ?_⟩
  have answered := hu.answered
  rw [keys] at answered
  exact answered

/-- What DECOMMISSION and RETIRE leave (R83). -/
def Erased (s : State) (l : Link) (r : Request) (life : Life) (u : State) : Prop :=
  u.nv.keys = { life := life, ogen := wrapInc 32 s.keys.ogen, forced := s.keys.forced, destroyed := life == .retired } ∧
    u.nv.env0 = [] ∧ u.nv.env1 = [] ∧ u.nv.imgA = {} ∧ u.nv.imgB = {} ∧ u.sec.envelope = none ∧
    (∀ m, (u.link m).session = .none) ∧
    Answered s u l r 0 0 (slice r.body 8 8 ++ leBytes 4 (wrapInc 32 s.keys.ogen) ++ zeros 4)

theorem decommission_answers {op : Nat} {life : Life} {k : Instr} (h : OwnerAsked s l r op)
    (eff : ∀ u, effect k u = ownerOp l op true (fun _ s => needNosync s) (fun _ s => decommission life op false s) u)
    (hl : leaves_mode k = false) (time : instant k = t) (still : s.whl.sync = .nosync) :
    Yields k s (Erased s l r life) := by
  obtain ⟨ready, -, -, store, -⟩ := ownerStored_leaves t h
  generalize hv : ownerStored t l r.body s = v at ready store
  obtain ⟨keys, ⟨env0, env1⟩, ⟨imgA, imgB⟩, -, ⟨-, sec, -⟩, -, mode, -, frames, sessions, -⟩ :=
    decommission_leaves life op false v
  generalize hw : decommission life op false v = w at *
  have value : w.nv.keys = { life := life, ogen := wrapInc 32 s.keys.ogen, forced := s.keys.forced
                             destroyed := life == .retired } := by
    rw [keys, store]
    rfl
  have ready' : Ready s l w := ⟨mode.trans ready.run, (frames l).trans ready.frames, .inr (sessions l)⟩
  refine ownerOp_yields t h eff hl time (if_pos still) (by rw [hv]; exact hw) ready' fun u hu =>
    ⟨hu.settled_nv value, ?_, ?_, ?_, ?_, ?_, hu.sessions sessions, ?_⟩
  · rw [hu.nv]
    exact env0
  · rw [hu.nv]
    exact env1
  · rw [hu.nv]
    exact imgA
  · rw [hu.nv]
    exact imgB
  · rw [hu.sec]
    exact sec
  · have answered := hu.answered
    rw [value] at answered
    exact answered

theorem effect_decommission (u : State) : effect (.decommission t l true) u =
    ownerOp l 4 true (fun _ s => needNosync s) (fun _ s => decommission .unclaimed 4 false s) u := rfl

theorem effect_retire (u : State) : effect (.retire t l true) u =
    ownerOp l 5 true (fun _ s => needNosync s) (fun _ s => decommission .retired 5 false s) u := rfl

/-! ## CLAIM (R81, R82) -/

theorem doClaim_row (stored : Bool) (h : Asked s l r 0x03) : doClaim l stored (s.advance t) =
    respond l (s.advance t) r { claimReply l stored r (s.advance t) with
      state := newChallenge (claimReply l stored r (s.advance t)).state } := by
  obtain ⟨request, -⟩ := command_asked (fun _ s => refusal 0 0 s) t h
  have accepted : moduleRefusal (s.advance t) 0x03 = 0 := h.2.2.2.2.1
  unfold doClaim
  rw [request]
  dsimp only
  rw [accepted]
  rfl

/-- A new challenge is drawn, and nothing else changes. -/
theorem newChallenge_leaves (s : State) : let v := newChallenge s
    v.sys = s.sys ∧ v.links = s.links ∧ v.nv = s.nv ∧ v.irc = s.irc ∧ v.sec.challengeAt = s.etc := by
  unfold newChallenge
  generalize BitVec.ofNat 256 (beNat (entropy s 32)) = c
  exact ⟨rfl, rfl, rfl, rfl, rfl⟩

theorem claim_owned (h : Asked s l r 0x03) (owned : s.keys.life ≠ .unclaimed) : Yields (.claim t l true) s (fun u =>
    Answered s u l r 2 0 [] ∧ u.nv = s.nv) := by
  have row := doClaim_row t true h
  have reply : claimReply l true r (s.advance t) = refusal 2 0 (s.advance t) := if_pos owned
  rw [reply] at row
  obtain ⟨sys, links, nv, -⟩ := newChallenge_leaves (s.advance t)
  have renewed : ({ refusal 2 0 (s.advance t) with state := newChallenge (refusal 2 0 (s.advance t)).state } : Reply) =
    refusal 2 0 (newChallenge (s.advance t)) := rfl
  rw [renewed] at row
  generalize newChallenge (s.advance t) = v at row sys links nv
  exact yields_response (k := .claim t l true) h row rfl
    (Ready.of_links (s := s) (w := v) (by rw [sys]; exact h.1.1) links).answerable fun u hu =>
      ⟨hu.answered, hu.nv.trans nv⟩

/-- The module with the owner that a claim installs. -/
def claimed (t : Tick) (l : Link) (b : List Byte) (s : State) : State :=
  raise 234 (logLife 0 (linkOk l (writeKeys (withOwner (slice b 72 64) (leAt b 136 8) s.keys) (s.advance t))))

theorem claimDone_eq (b : List Byte) : claimDone l true b (s.advance t) =
    success (receiptBody (claimed t l b s) (slice b 40 32) ++
      dikSig (claimed t l b s) (receiptBody (claimed t l b s) (slice b 40 32))) (signed1 (claimed t l b s)) := rfl

/-- A claim that passed every check installs its owner (R81). -/
theorem claimDone_leaves (b : List Byte) (alive : Alive s) : let w := claimed t l b s
    Ready s l w ∧ w.nv.keys = withOwner (slice b 72 64) (leAt b 136 8) s.keys ∧ w.nv.ksFail = false ∧
      w.etc = max s.etc t ∧ (w.link l).fails = 0 ∧ w.irc.host.pend.getLsbD 234 = true := by
  unfold claimed
  generalize withOwner (slice b 72 64) (leAt b 136 8) s.keys = k
  obtain ⟨sys, links, keys, good, -⟩ := writeKeys_links k (s.advance t)
  have etc : (writeKeys k (s.advance t)).etc = max s.etc t := by
    rw [writeKeys_only k (s.advance t)]
    exact etc_alive t alive
  generalize writeKeys k (s.advance t) = v at sys links keys good etc ⊢
  have ready : Ready s l (linkOk l v) := (Ready.of_links (s := s) (w := v) (by rw [sys]; exact alive.1) links).linkOk
  obtain ⟨frame, -, link, -⟩ := linkOk_leaves l v
  have still : (linkOk l v).etc = v.etc := by cases l <;> rfl
  generalize linkOk l v = x at frame link still ready ⊢
  have told : Shuts x (raise 234 (logLife 0 x)) := (Shuts.log ..).trans (.raise ..)
  have xnv : x.nv = v.nv := by rw [frame]
  have xetc : x.etc = max s.etc t := still.trans etc
  have fails := congrArg LinkSt.fails (told.kept l)
  refine ⟨ready.shuts told, ?_, ?_, ?_, ?_, raise_pends (by decide) (by decide) _⟩
  · rw [told.nv, xnv]
    exact keys
  · rw [told.nv, xnv]
    exact good
  · rw [told.frame]
    exact xetc
  · refine (show _ = (x.link l).fails from fails).trans ?_
    rw [link]

/-- The checks of a claim find no fault. -/
theorem claimReply_passes (alive : Alive s) (free : s.keys.life = .unclaimed) (sound : s.sec.entropyFail = false)
    (form : claimFormFault r.body = none) (strap : s.supply.claimStrap = true)
    (since : s.supply.claimSince + ticksPerS ≤ max s.etc t)
    (challenge : beNat (slice r.body 40 32) = s.sec.challenge.toNat) (bound : slice r.body 8 32 = devBind)
    (signed : verifies (slice r.body 72 64) (slice r.body 0 144) (slice r.body 144 64) = true) :
    claimReply l true r (s.advance t) = claimDone l true r.body (s.advance t) := by
  have free' : (s.advance t).keys.life = .unclaimed := free
  have sound' : ¬ (s.advance t).sec.entropyFail = true := by
    rw [show (s.advance t).sec.entropyFail = false from sound]
    decide
  have challenge' : beNat (slice r.body 40 32) = (s.advance t).sec.challenge.toNat := challenge
  have present : ¬ (!presence (s.advance t)) = true := by
    rw [presence_since t alive strap since]
    decide
  unfold claimReply
  dsimp only
  rw [if_neg (fun no => no free'), if_neg sound', form]
  dsimp only
  rw [if_neg present, if_neg (fun no => no challenge'), if_neg (by rw [bound, signed]; simp)]

theorem claim_answers (h : Asked s l r 0x03) (free : s.keys.life = .unclaimed) (sound : s.sec.entropyFail = false)
    (form : claimFormFault r.body = none) (strap : s.supply.claimStrap = true)
    (since : s.supply.claimSince + ticksPerS ≤ max s.etc t)
    (challenge : beNat (slice r.body 40 32) = s.sec.challenge.toNat) (bound : slice r.body 8 32 = devBind)
    (signed : verifies (slice r.body 72 64) (slice r.body 0 144) (slice r.body 144 64) = true) :
    Yields (.claim t l true) s (fun u =>
      u.nv.keys = { s.keys with
        life := .owned, owk := BitVec.ofNat 512 (beNat (slice r.body 72 64)), oseq := leAt r.body 136 8
        ogen := wrapInc 32 s.keys.ogen, slots := [] } ∧
      u.nv.ksFail = false ∧ u.sec.challengeAt = max s.etc t ∧ (u.link l).fails = 0 ∧
      u.irc.host.pend.getLsbD 234 = true ∧ ∃ data, Answered s u l r 0 0 data) := by
  have row := doClaim_row t true h
  rw [claimReply_passes t h.1 free sound form strap since challenge bound signed] at row
  rw [claimDone_eq] at row
  obtain ⟨ready, keys, good, etc, fails, pend⟩ := claimDone_leaves (l := l) t r.body h.1
  generalize claimed t l r.body s = w at row ready keys good etc fails pend
  generalize receiptBody w (slice r.body 40 32) ++ dikSig w (receiptBody w (slice r.body 40 32)) = data at row
  obtain ⟨sys, links, nv, irc, at_⟩ := newChallenge_leaves (signed1 w)
  have reply : ({ success data (signed1 w) with state := newChallenge (success data (signed1 w)).state } : Reply) =
    success data (newChallenge (signed1 w)) := rfl
  rw [reply] at row
  generalize newChallenge (signed1 w) = v at row sys links nv irc at_
  refine yields_response (k := .claim t l true) h row rfl
    (ready.next (by rw [sys]; exact ready.run) links).answerable fun u hu =>
      ⟨hu.settled_nv ((congrArg Nv.keys nv).trans keys), ?_, ?_, ?_, hu.pend 234 ?_, data, hu.answered⟩
  · rw [hu.nv]
    exact (congrArg Nv.ksFail nv).trans good
  · rw [hu.sec]
    exact at_.trans etc
  · have own := congrArg LinkSt.fails hu.own
    refine Eq.trans (show (u.link l).fails = (v.link l).fails from own) (Eq.trans ?_ fails)
    unfold State.link
    rw [links]
    rfl
  · show v.irc.host.pend.getLsbD 234 = true
    rw [irc]
    exact pend

/-! ## FORCE_RELEASE (R85, R138) and ENV_INSTALL (R97) -/

theorem forceRelease_arms (h : Asked s l r 0x05) (body : r.body = []) (strap : s.supply.claimStrap = true)
    (idle : s.sec.release = none) : Yields (.forceRelease t l) s (fun u =>
      u.sec = { s.sec with release := some {
        since := max s.etc t, nextRemind := max s.etc t + 60 * ticksPerS, nextLog := max s.etc t + 3600 * ticksPerS } } ∧
      Answered s u l r 0 0 (leBytes 2 1440 ++ [0, 0])) := by
  have time := etc_alive t h.1
  have none : ¬ (s.advance t).sec.release.isSome = true := by
    rw [show (s.advance t).sec.release = none from idle]
    decide
  have shown : ¬ (!(s.advance t).supply.claimStrap) = true := by
    rw [show (s.advance t).supply.claimStrap = true from strap]
    decide
  have armed : armRelease (s.advance t) = { s.advance t with
      irc := (armRelease (s.advance t)).irc, sys.wakePending := (armRelease (s.advance t)).sys.wakePending
      sec := { s.sec with release := some {
        since := max s.etc t, nextRemind := max s.etc t + 60 * ticksPerS
        nextLog := max s.etc t + 3600 * ticksPerS } } } := by
    unfold armRelease
    dsimp only
    rw [raise_frame, time]
    rfl
  generalize hw : armRelease (s.advance t) = w at armed
  have minutes : releaseMinutes w = 1440 := by
    unfold releaseMinutes
    rw [armed]
    dsimp only
    rw [time]
    unfold ceilDiv ticksPerS
    omega
  refine yields_reply (k := .forceRelease t l) h rfl rfl (a := success (leBytes 2 1440 ++ [0, 0]) w) ?_
    (Ready.of_links (s := s) (w := w) (by rw [armed]; exact h.1.1) (by rw [armed]; rfl)).answerable fun u hu =>
      ⟨?_, hu.answered⟩
  · refine (sized_right _ (by rw [body]; rfl)).trans ?_
    refine (if_neg shown).trans ?_
    have arms : (if (s.advance t).sec.release.isSome = true then s.advance t else armRelease (s.advance t)) = w :=
      (if_neg none).trans hw
    show success (leBytes 2 (releaseMinutes (if (s.advance t).sec.release.isSome = true then s.advance t
      else armRelease (s.advance t))) ++ zeros 2) (if (s.advance t).sec.release.isSome = true then s.advance t
      else armRelease (s.advance t)) = _
    rw [arms, minutes]
    rfl
  · rw [hu.sec]
    show w.sec = _
    rw [armed]

theorem forceRelease_absent (h : Asked s l r 0x05) (body : r.body = []) (strap : s.supply.claimStrap = false) :
    Yields (.forceRelease t l) s (fun u => Answered s u l r 6 0 [] ∧ LinkFrame s u) := by
  have absent : (!(s.advance t).supply.claimStrap) = true := by
    rw [show (s.advance t).supply.claimStrap = false from strap]
    decide
  exact yields_refused (k := .forceRelease t l) h rfl rfl ((sized_right _ (by rw [body]; rfl)).trans (if_pos absent))

theorem envInstall_starts (h : Asked s l r 0x06) (idle : s.sec.envWrite = none) (owned : s.keys.life = .owned)
    (good : envRefusal s r.body = none) : Yields (.envInstall t l) s (fun u =>
      u.sec = { s.sec with envWrite := some (l, r.body) } ∧ u.nv = s.nv ∧
      u.link l = { s.link l with fails := 0, pauseS := 0 }) := by
  obtain ⟨request, -⟩ := command_asked (fun _ s => refusal 0 0 s) t h
  have idle' : ¬ (s.advance t).sec.envWrite.isSome = true := by
    rw [show (s.advance t).sec.envWrite = none from idle]
    decide
  have accepted : moduleRefusal (s.advance t) 0x06 = 0 := h.2.2.2.2.1
  have good' : envRefusal (s.advance t) r.body = none := good
  have row : doEnvInstall l (s.advance t) =
      linkOk l { s.advance t with sec := { s.sec with envWrite := some (l, r.body) } } := by
    unfold doEnvInstall
    rw [request]
    dsimp only
    rw [if_neg idle', if_pos ⟨accepted, owned, by rw [good']; rfl⟩]
    rfl
  obtain ⟨frame, -, link, -⟩ := linkOk_leaves l { s.advance t with sec := { s.sec with envWrite := some (l, r.body) } }
  generalize linkOk l { s.advance t with sec := { s.sec with envWrite := some (l, r.body) } } = w at row frame link
  refine effect_of_advance (k := .envInstall t l) row h.1 rfl ⟨?_, ?_, link⟩
  · show w.sec = _
    rw [frame]
  · show w.nv = _
    rw [frame]
    rfl

theorem envInstall_unowned (h : Asked s l r 0x06) (idle : s.sec.envWrite = none) (free : s.keys.life ≠ .owned) :
    Yields (.envInstall t l) s (fun u => Answered s u l r 2 0 [] ∧ LinkFrame s u) := by
  obtain ⟨request, row⟩ := command_asked (fun r s =>
      if s.keys.life ≠ .owned then refusal 2 0 s
      else match envRefusal s r.body with
        | some x => envRefused l x s
        | none => refusal 0 0 s) t h
  have idle' : ¬ (s.advance t).sec.envWrite.isSome = true := by
    rw [show (s.advance t).sec.envWrite = none from idle]
    decide
  have free' : (s.advance t).keys.life ≠ .owned := free
  rw [if_pos free'] at row
  have whole : doEnvInstall l (s.advance t) = respond l (s.advance t) r (refusal 2 0 (s.advance t)) := by
    unfold doEnvInstall
    rw [request]
    dsimp only
    rw [if_neg idle', if_neg fun both => free' both.2.1]
    exact row
  exact yields_response (k := .envInstall t l) h whole rfl
    (Ready.of_links (s := s) (w := s.advance t) h.1.1 rfl).answerable fun u hu =>
      ⟨hu.answered, linkFrame_trans (linkFrame_advance t h.1.1) hu.settled⟩

end

/-- Settles O53: each command's reply, and what its response leaves. -/
theorem ownershipCommands : Obligations.OwnershipCommands := by
  unfold Obligations.OwnershipCommands
  intro s t l r
  exact ⟨fun h _ free sound form ⟨strap, since⟩ challenge bound signed =>
      claim_answers t h free sound form strap since challenge bound signed,
    fun h _ owned => claim_owned t h owned,
    fun h form range valid => enrol_answers t h form range valid,
    fun h range => revoke_answers t h range,
    fun h ⟨strap, since⟩ => transfer_answers t h strap since,
    fun h still => decommission_answers t h (effect_decommission t) rfl rfl still,
    fun h still => decommission_answers t h (effect_retire t) rfl rfl still,
    fun h turning => ownerOp_refused t h (effect_decommission t) rfl rfl (if_neg turning),
    fun h turning => ownerOp_refused t h (effect_retire t) rfl rfl (if_neg turning),
    fun h body strap idle => forceRelease_arms t h body strap idle,
    fun h body strap => forceRelease_absent t h body strap,
    fun h idle owned good => envInstall_starts t h idle owned good,
    fun h idle free => envInstall_unowned t h idle free⟩

end Sys2Proof.Machine
end

section
/-! The claim strap, the challenge, the release countdown, the entropy source and lock-outs
(03_trust_ownership_envelope.md R79 to R82, R85, R86, R109). -/

namespace Sys2Proof.Machine

/-! ## What raising and logging leave -/

/-- Nothing but the interrupt controller, the logbook and the pending wakes differ. -/
def ToldOnly (s u : State) : Prop := u = { s with irc := u.irc, bgs := u.bgs, sys.wakePending := u.sys.wakePending }

section
variable {s u v : State}

theorem ToldOnly.refl (s : State) : ToldOnly s s := rfl

theorem ToldOnly.trans (h : ToldOnly s u) (g : ToldOnly u v) : ToldOnly s v := by
  unfold ToldOnly at *
  rw [g, h]

theorem ToldOnly.raise (n : Nat) (s : State) : ToldOnly s (raise n s) := by
  unfold ToldOnly
  rw [raise_frame]

theorem ToldOnly.raiseIf (c : Bool) (n : Nat) (s : State) : ToldOnly s (raiseIf c n s) := by
  unfold Machine.raiseIf
  split
  case isTrue => exact .raise n s
  case isFalse => exact .refl s

theorem ToldOnly.log (k l : Nat) (b : List Byte) (s : State) : ToldOnly s (log k l b s) := by
  unfold ToldOnly
  rw [log_frame]

theorem ToldOnly.mode (h : ToldOnly s u) : u.sys.mode = s.sys.mode := by rw [h]

theorem ToldOnly.trust (h : ToldOnly s u) :
    u.sec = s.sec ∧ u.nv = s.nv ∧ u.links = s.links ∧ u.supply = s.supply ∧ u.etc = s.etc := by
  rw [h]
  exact ⟨rfl, rfl, rfl, rfl, rfl⟩

end

/-- An entry of level 0 takes the next index of the logbook, or is counted as lost (R443, R444). -/
theorem log_zero_counts (k : Nat) (b : List Byte) (s : State) :
    (log k 0 b s).bgs.logNext = wrapInc 32 s.bgs.logNext ∨ (log k 0 b s).bgs.lostRun = s.bgs.lostRun + 1 := by
  unfold log
  rw [if_pos (Nat.zero_le _)]
  unfold logAppend
  split
  case isTrue => exact .inr rfl
  case isFalse => exact .inl rfl

section
variable {s : State} (t : Tick)

/-! ## The strap and the challenge (R68, R81, R82) -/

theorem claimNChange_yields (h : Alive s) {on : Bool} (change : on ≠ s.supply.claimStrap) :
    Yields (.claimNChange t on) s (fun u =>
      u.supply = { s.supply with claimStrap := on, claimSince := max s.etc t } ∧
      u.sec = { s.sec with release := if on then s.sec.release else none } ∧
      (on = false → s.sec.release.isSome = true → u.irc.host.pend.getLsbD 235 = true) ∧
      u.nv = s.nv ∧ u.links = s.links) := by
  have time := etc_alive t h
  have row : effect (.claimNChange t on) (s.advance t) =
      let v := { s.advance t with supply := { s.supply with claimStrap := on, claimSince := (s.advance t).etc } }
      if on = false ∧ s.sec.release.isSome = true then raise 235 { v with sec.release := none } else v :=
    if_neg change
  refine effect_of_advance (k := .claimNChange t on) row h rfl ?_
  dsimp only
  split
  case isTrue cancels =>
    obtain ⟨off, armed⟩ := cancels
    subst off
    generalize hv : ({ s.advance t with
      supply := { s.supply with claimStrap := false, claimSince := (s.advance t).etc }, sec.release := none } : State) = v
    obtain ⟨sec, nv, links, supply, -⟩ := (ToldOnly.raise 235 v).trust
    refine ⟨?_, ?_, fun _ _ => raise_pends (by decide) (by decide) v, ?_, ?_⟩
    · refine supply.trans ?_
      rw [← hv, time]
    · refine sec.trans ?_
      rw [← hv]
      rfl
    · refine nv.trans ?_
      rw [← hv]
      rfl
    · refine links.trans ?_
      rw [← hv]
      rfl
  case isFalse stays =>
    refine ⟨?_, ?_, fun off armed => absurd ⟨off, armed⟩ stays, rfl, rfl⟩
    · exact congrArg (fun e => { s.supply with claimStrap := on, claimSince := e }) time
    · show s.sec = _
      cases on with
      | true => rfl
      | false =>
        have none : s.sec.release = none := by
          simpa using stays
        rw [if_neg Bool.false_ne_true, ← none]

theorem challengeExpiry_yields (h : Alive s) (up : s.sec.regsUp = true)
    (old : s.sec.challengeAt + 600 * ticksPerS ≤ max s.etc t) : Yields (.challengeExpiry t) s (fun u =>
      u.sec = { s.sec with
        challenge := BitVec.ofNat 256 (beNat ((List.range 32).map (fun i => Config.entropyByte (s.sec.entropyNext + i))))
        challengeAt := max s.etc t, entropyNext := s.sec.entropyNext + 32 } ∧ u.nv = s.nv) := by
  have time := etc_alive t h
  have due : ((s.advance t).sec.regsUp && decide ((s.advance t).sec.challengeAt + 600 * ticksPerS ≤ (s.advance t).etc)) =
      true := by
    rw [time, show (s.advance t).sec.regsUp = true from up, Bool.true_and]
    exact decide_eq_true old
  have row : effect (.challengeExpiry t) (s.advance t) = newChallenge (s.advance t) := if_pos due
  refine effect_of_advance (k := .challengeExpiry t) row h rfl ⟨?_, (newChallenge_leaves (s.advance t)).2.2.1⟩
  rw [← time]
  rfl

/-! ## The release countdown (R85, R86) -/

/-- What a reminder tells before its next instants are set (R86). -/
def reminded (r : Release) (s : State) : State :=
  let u := raiseIf (decide (r.nextRemind ≤ s.etc)) 235 s
  if r.nextLog ≤ s.etc then log 6 0 (leBytes 2 (releaseMinutes u)) u else u

theorem reminded_tells (r : Release) (s : State) : ToldOnly s (reminded r s) ∧
    (r.nextRemind ≤ s.etc → (reminded r s).irc.host.pend.getLsbD 235 = true) ∧
    (r.nextLog ≤ s.etc → (reminded r s).bgs.logNext = wrapInc 32 s.bgs.logNext ∨
      (reminded r s).bgs.lostRun = s.bgs.lostRun + 1) := by
  have only := ToldOnly.raiseIf (decide (r.nextRemind ≤ s.etc)) 235 s
  have pends (due : r.nextRemind ≤ s.etc) :
      (raiseIf (decide (r.nextRemind ≤ s.etc)) 235 s).irc.host.pend.getLsbD 235 = true := by
    unfold raiseIf
    rw [if_pos (decide_eq_true due)]
    exact raise_pends (by decide) (by decide) s
  have book : (raiseIf (decide (r.nextRemind ≤ s.etc)) 235 s).bgs = s.bgs := by
    unfold raiseIf
    split
    · rw [raise_frame]
    · rfl
  unfold reminded
  dsimp only
  generalize raiseIf (decide (r.nextRemind ≤ s.etc)) 235 s = u at *
  split
  case isTrue =>
    refine ⟨only.trans (.log ..), fun due => ?_, fun _ => ?_⟩
    · rw [log_frame]
      exact pends due
    · rw [← book]
      exact log_zero_counts ..
  case isFalse early => exact ⟨only, pends, fun due => absurd due early⟩

theorem releaseReminder_yields (h : Alive s) {r : Release} (armed : s.sec.release = some r) :
    Yields (.releaseReminder t) s (fun u =>
      u.sec = { s.sec with release := some { r with
        nextRemind := if r.nextRemind ≤ max s.etc t then r.nextRemind + 60 * ticksPerS else r.nextRemind
        nextLog := if r.nextLog ≤ max s.etc t then r.nextLog + 3600 * ticksPerS else r.nextLog } } ∧
      (r.nextRemind ≤ max s.etc t → u.irc.host.pend.getLsbD 235 = true) ∧
      (r.nextLog ≤ max s.etc t →
        u.bgs.logNext = wrapInc 32 s.bgs.logNext ∨ u.bgs.lostRun = s.bgs.lostRun + 1) ∧ u.nv = s.nv) := by
  have time := etc_alive t h
  obtain ⟨only, pends, counts⟩ := reminded_tells r (s.advance t)
  have row : effect (.releaseReminder t) (s.advance t) = { reminded r (s.advance t) with
      sec := { (reminded r (s.advance t)).sec with release := some { r with
        nextRemind := if r.nextRemind ≤ (s.advance t).etc then r.nextRemind + 60 * ticksPerS else r.nextRemind
        nextLog := if r.nextLog ≤ (s.advance t).etc then r.nextLog + 3600 * ticksPerS else r.nextLog } } } := by
    show doReleaseReminder (s.advance t) = _
    unfold doReleaseReminder
    rw [show (s.advance t).sec.release = some r from armed]
    simp only [decide_eq_true_eq]
    rfl
  rw [time] at row pends counts
  obtain ⟨sec, nv, -⟩ := only.trust
  rw [sec] at row
  generalize reminded r (s.advance t) = w at *
  exact effect_of_advance (k := .releaseReminder t) row h rfl ⟨rfl, pends, counts, nv⟩

/-- The countdown has run out: the module decommissions, and a forced release is counted (R85). -/
theorem releaseCountdown_yields (h : Alive s) {r : Release} (armed : s.sec.release = some r)
    (due : r.since + 86400 * ticksPerS ≤ max s.etc t) :
    Yields (.releaseCountdownExpiry t) s (fun u =>
      Released s u { life := .unclaimed, ogen := wrapInc 32 s.keys.ogen, forced := wrapInc 32 s.keys.forced }) := by
  have row : effect (.releaseCountdownExpiry t) (s.advance t) = decommission .unclaimed 6 true (s.advance t) := by
    show doReleaseCountdownExpiry (s.advance t) = _
    unfold doReleaseCountdownExpiry
    rw [show (s.advance t).sec.release = some r from armed]
    exact if_pos (by rw [etc_alive t h]; exact due)
  have left := decommission_leaves .unclaimed 6 true (s.advance t)
  generalize decommission .unclaimed 6 true (s.advance t) = u at row left
  refine effect_of_advance (k := .releaseCountdownExpiry t) row h rfl ?_
  obtain ⟨keys, env, images, records, sec, running, mode, ctx, frames, sessions, pend⟩ := left
  exact ⟨keys, env, images, records, sec, running, mode, ctx, frames, sessions, pend⟩

theorem endContext_halted {c : Ctx} (halted : c.state = .halted) : endContext c = c := by
  unfold endContext
  rw [halted]

theorem endContext_counts (c : Ctx) : (c.state ≠ .halted → (endContext c).state = .empty) ∧
    (endContext c).faults = c.faults ∧ (endContext c).overruns = c.overruns := by
  unfold endContext
  split
  case h_1 halted => exact ⟨fun other => absurd halted other, rfl, rfl⟩
  case h_2 => exact ⟨fun _ => rfl, rfl, rfl⟩

theorem Released.ctx_eq {u : State} {n : KeyStore} (h : Released s u n) (i : Nat) : u.ctx i = endContext (s.ctx i) := by
  unfold State.ctx
  rw [h.ctx]
  generalize s.seq.ctx = m
  induction m with
  | nil => rfl
  | cons e r ih =>
    obtain ⟨k, c⟩ := e
    rw [List.map_cons]
    unfold Table.get
    split
    · rfl
    · exact ih

/-! ## The entropy source and lock-outs (R79, R109, R110) -/

theorem entropyFailure_yields (h : Alive s) (good : s.sec.entropyFail = false) :
    Yields (.entropyHealthFailure t) s (fun u =>
      u.sec = { s.sec with entropyFail := true } ∧ u.irc.host.pend.getLsbD 239 = true ∧ u.nv = s.nv) := by
  have row : effect (.entropyHealthFailure t) (s.advance t) = raise 239 { s.advance t with sec.entropyFail := true } :=
    if_neg (by rw [show (s.advance t).sec.entropyFail = false from good]; decide)
  obtain ⟨sec, nv, -⟩ := (ToldOnly.raise 239 { s.advance t with sec.entropyFail := true }).trust
  exact effect_of_advance (k := .entropyHealthFailure t) row h rfl ⟨sec, raise_pends (by decide) (by decide) _, nv⟩

theorem lockoutExpiry_yields (h : Alive s) {l : Link} {d : Tick} (locked : (s.link l).lockUntil = some d)
    (due : d ≤ max s.etc t) : Yields (.lockoutExpiry t l) s (fun u =>
      u.link l = { s.link l with lockUntil := none } ∧ (∀ k, k ≠ l → u.link k = s.link k) ∧
      u.irc.host.pend.getLsbD 233 = true ∧ u.nv = s.nv) := by
  have row : effect (.lockoutExpiry t l) (s.advance t) =
      raise 233 ((s.advance t).setLink l { s.link l with lockUntil := none }) := by
    show doLockoutExpiry l (s.advance t) = _
    unfold doLockoutExpiry
    rw [show ((s.advance t).link l).lockUntil = some d from locked]
    exact if_pos (by rw [etc_alive t h]; exact due)
  have link (k : Link) := link_raise 233 ((s.advance t).setLink l { s.link l with lockUntil := none }) k
  have nv : ((s.advance t).setLink l { s.link l with lockUntil := none }).nv = s.nv := by cases l <;> rfl
  refine effect_of_advance (k := .lockoutExpiry t l) row h rfl
    ⟨(link l).trans (State.link_setLink ..), fun k hk => (link k).trans (State.link_setLink_other _ _ hk),
      raise_pends (by decide) (by decide) _, (ToldOnly.raise 233 _).trust.2.1.trans nv⟩

end

/-- Settles O48: each timed happening by what it writes of the trust store. -/
theorem ownerTimersAndStrap : Obligations.OwnerTimersAndStrap := by
  unfold Obligations.OwnerTimersAndStrap
  intro s t h
  refine ⟨fun on change => claimNChange_yields t h change, fun up old => challengeExpiry_yields t h up old,
    fun r armed => releaseReminder_yields t h armed, fun r armed due => ?released,
    fun good => entropyFailure_yields t h good, ?recovery, fun l d locked due => lockoutExpiry_yields t h locked due⟩
  case released =>
    obtain ⟨u, run, left⟩ := releaseCountdown_yields t h armed due
    have ctx := left.ctx_eq
    obtain ⟨keys, ⟨env0, env1⟩, ⟨imgA, imgB⟩, ⟨qs0, qs1⟩, ⟨release, envelope, waiting⟩, running, -, -, -, sessions, pend⟩ :=
      left
    refine ⟨u, run, keys, env0, env1, imgA, imgB, qs0, qs1, release, envelope, waiting, running,
      fun i halted => (ctx i).trans (endContext_halted halted), fun i other => ?_, sessions, pend⟩
    rw [ctx i]
    obtain ⟨empty, counts⟩ := endContext_counts (s.ctx i)
    exact ⟨empty other, counts⟩
  case recovery => exact effect_of_advance (k := .entropyHealthRecovery t) rfl h rfl ⟨rfl, rfl⟩

end Sys2Proof.Machine
end

section
/-! The SPI mailbox and the CAN ports (04_ohmac_command_set.md R126 to R130). -/

namespace Sys2Proof.Machine

/-! ## LINK_ERROR (R114, R125) -/

/-- A link on which a frame error is counted and the message being assembled abandoned. -/
def LinkSt.faulted (x : LinkSt) : LinkSt := { x with asm := none, frameErr := satInc 255 x.frameErr }

/-- A frame error of a link is counted, the message being assembled abandoned, and LINK_ERROR queued; nothing else of
the links changes. -/
theorem linkError_leaves (l : Link) (reason : Nat) (mtag : Byte) {s : State} (run : s.sys.mode = .run) :
    let u := linkError l reason mtag s
    LinkFrame s u ∧ framesWaiting u l = framesWaiting s l ++ framesOf l mtag
      (leBytes 2 0xFFFE ++ [0, 0] ++ leBytes 4 8 ++ (statusBytes 1 reason ++ [mtag, 0, 0, 0])) ∧
    u.link l = { (s.link l).faulted with out := (u.link l).out } ∧ ∀ m, m ≠ l → u.link m = s.link m := by
  have error : linkError l reason mtag s = sendMsg l mtag
      (plainMsg 0xFFFE 0 (statusBytes 1 reason ++ [mtag, 0, 0, 0])) (s.setLink l (s.link l).faulted) := rfl
  have set_run : (s.setLink l (s.link l).faulted).sys.mode = .run := by
    cases l <;> exact run
  have frame := linkFrame_setLink s l (s.link l).faulted
  have frames := framesWaiting_setLink s l (s.link l).faulted rfl
  have link := State.link_setLink s l (s.link l).faulted
  have others (m : Link) (hm : m ≠ l) := State.link_setLink_other s (s.link l).faulted hm
  rw [error]
  dsimp only
  generalize s.setLink l (s.link l).faulted = v at *
  obtain ⟨waiting, -, other⟩ := sendMsg_waiting l mtag
    (plainMsg 0xFFFE 0 (statusBytes 1 reason ++ [mtag, 0, 0, 0])) v set_run
  have own := sendMsg_link l mtag (plainMsg 0xFFFE 0 (statusBytes 1 reason ++ [mtag, 0, 0, 0])) set_run
  rw [link] at own
  exact ⟨linkFrame_trans frame (linkFrame_sendMsg _ _ _ _ set_run), waiting.trans (by rw [frames]; rfl), own,
    fun m hm => (other m hm).trans (others m hm)⟩

section
variable {s : State} (t : Tick)

theorem linksOn_alive (h : Alive s) (links : s.sys.linksUp = true) : linksOn (s.advance t) = true :=
  linksOn_run (s := s.advance t) h.1 h.2.1 links

/-! ## The mailbox (R125 to R127) -/

theorem doMbxSend_on {s : State} (n : Nat) (on : linksOn s = true) : doMbxSend n s =
    if s.links.txFrame.isSome then { s with links.hostRej := satInc 0xFFFFFFFF s.links.hostRej }
    else if n < 11 ∨ 512 < n then linkError .spi 3 (s.links.txBuf.get 0 1) s
    else { s with links.txFrame := some (Table.getList 0 s.links.txBuf 0 n) } := by
  unfold doMbxSend
  rw [on]
  rfl

theorem mbxSend_passes (h : Alive s) (links : s.sys.linksUp = true) {n : Nat} (free : s.links.txFrame = none)
    (low : 11 ≤ n) (high : n ≤ 512) : Yields (.mbxSend t n) s (fun u =>
      u.links = { s.links with txFrame := some (Table.getList 0 s.links.txBuf 0 n) }) := by
  have free' : ¬ (s.advance t).links.txFrame.isSome = true := by
    rw [show (s.advance t).links.txFrame = none from free]
    decide
  have row : effect (.mbxSend t n) (s.advance t) =
      { s.advance t with links.txFrame := some (Table.getList 0 s.links.txBuf 0 n) } :=
    (doMbxSend_on n (linksOn_alive t h links)).trans ((if_neg free').trans (if_neg (by omega)))
  exact effect_of_advance (k := .mbxSend t n) row h rfl rfl

theorem mbxSend_busy (h : Alive s) (links : s.sys.linksUp = true) {n : Nat} (busy : s.links.txFrame.isSome = true) :
    Yields (.mbxSend t n) s (fun u =>
      u.links = { s.links with hostRej := satInc 0xFFFFFFFF s.links.hostRej }) := by
  have row : effect (.mbxSend t n) (s.advance t) =
      { s.advance t with links.hostRej := satInc 0xFFFFFFFF s.links.hostRej } :=
    (doMbxSend_on n (linksOn_alive t h links)).trans (if_pos busy)
  exact effect_of_advance (k := .mbxSend t n) row h rfl rfl

theorem setLink_spi_txFrame (x : LinkSt) : (s.setLink .spi x).links.txFrame = s.links.txFrame := rfl

theorem placeFrame_txFrame (s : State) : (placeFrame s).links.txFrame = s.links.txFrame := by
  unfold placeFrame
  dsimp only
  split
  · rw [raise_frame]
  · rfl

theorem mbxSend_unfit (h : Alive s) (links : s.sys.linksUp = true) {n : Nat} (free : s.links.txFrame = none)
    (unfit : n < 11 ∨ 512 < n) : Yields (.mbxSend t n) s (fun u =>
      u.links.txFrame = none ∧ (u.link .spi).frameErr = satInc 255 (s.link .spi).frameErr ∧
      framesWaiting u .spi = framesWaiting s .spi ++ framesOf .spi (s.links.txBuf.get 0 1)
        (leBytes 2 0xFFFE ++ [0, 0] ++ leBytes 4 8 ++ [1, 0, 3, 0, s.links.txBuf.get 0 1, 0, 0, 0])) := by
  have free' : ¬ (s.advance t).links.txFrame.isSome = true := by
    rw [show (s.advance t).links.txFrame = none from free]
    decide
  have row : effect (.mbxSend t n) (s.advance t) = linkError .spi 3 (s.links.txBuf.get 0 1) (s.advance t) :=
    (doMbxSend_on n (linksOn_alive t h links)).trans ((if_neg free').trans (if_pos unfit))
  have kept : (linkError .spi 3 (s.links.txBuf.get 0 1) (s.advance t)).links.txFrame = none := by
    unfold linkError sendMsg
    exact (placeFrame_txFrame _).trans free
  obtain ⟨-, frames, own, -⟩ := linkError_leaves .spi 3 (s.links.txBuf.get 0 1) (s := s.advance t) h.1
  generalize linkError .spi 3 (s.links.txBuf.get 0 1) (s.advance t) = u at row kept frames own
  refine effect_of_advance (k := .mbxSend t n) row h rfl ⟨kept, ?_, frames⟩
  exact (congrArg LinkSt.frameErr own :)

theorem doMbxRxDone_ready (h : Alive s) (links : s.sys.linksUp = true) (ready : s.links.rxReady = true) :
    effect (.mbxRxDone t) (s.advance t) = placeFrame { s.advance t with links.rxReady := false } :=
  if_pos (by rw [linksOn_alive t h links, show (s.advance t).links.rxReady = true from ready]; decide)

theorem mbxRxDone_last (h : Alive s) (links : s.sys.linksUp = true) (ready : s.links.rxReady = true)
    (last : s.links.spi.out = []) : Yields (.mbxRxDone t) s (fun u => u.links = { s.links with rxReady := false }) := by
  have row : effect (.mbxRxDone t) (s.advance t) = { s.advance t with links.rxReady := false } := by
    rw [doMbxRxDone_ready t h links ready]
    unfold placeFrame
    dsimp only
    rw [show (s.advance t).links.spi.out = [] from last]
  exact effect_of_advance (k := .mbxRxDone t) row h rfl rfl

theorem mbxRxDone_next (h : Alive s) (links : s.sys.linksUp = true) {f : List Byte} {r : List (List Byte)}
    (ready : s.links.rxReady = true) (next : s.links.spi.out = f :: r) : Yields (.mbxRxDone t) s (fun u =>
      u.links = { s.links with spi.out := r, rxBuf := f } ∧ u.irc.host.pend.getLsbD 8 = true) := by
  have row : effect (.mbxRxDone t) (s.advance t) =
      raise 8 { s.advance t with links := { s.links with spi.out := r, rxBuf := f, rxReady := true } } := by
    rw [doMbxRxDone_ready t h links ready]
    unfold placeFrame
    dsimp only
    rw [show (s.advance t).links.spi.out = f :: r from next]
    rfl
  refine effect_of_advance (k := .mbxRxDone t) row h rfl ⟨?_, raise_pends (by decide) (by decide) _⟩
  refine (ToldOnly.raise 8 _).trust.2.2.1.trans ?_
  rw [← ready]

theorem mbxAbort_yields (h : Alive s) (links : s.sys.linksUp = true) :
    Yields (.mbxAbort t) s (fun u => u.links = { s.links with spi.asm := none }) := by
  have row : effect (.mbxAbort t) (s.advance t) =
      (s.advance t).setLink .spi { (s.advance t).link .spi with asm := none } := if_pos (linksOn_alive t h links)
  exact effect_of_advance (k := .mbxAbort t) row h rfl rfl

/-! ## The CAN ports (R113, R128, R130) -/

variable {second : Bool}

theorem canLink_ne_spi (second : Bool) : Link.spi ≠ canLink second := by
  cases second <;> decide

theorem canBusOff_yields (h : Alive s) (links : s.sys.linksUp = true) (on : (s.link (canLink second)).busOff = false) :
    Yields (.canBusOff t second) s (fun u =>
      u.link (canLink second) = { s.link (canLink second) with
        busOff := true, busOffs := satInc 65535 (s.link (canLink second)).busOffs
        out := afterMessage (s.link (canLink second)).out } ∧
      u.link .spi = s.link .spi ∧ u.irc.host.pend.getLsbD 7 = true) := by
  generalize hx : ({ s.link (canLink second) with
    busOff := true, busOffs := satInc 65535 (s.link (canLink second)).busOffs
    out := afterMessage (s.link (canLink second)).out } : LinkSt) = x
  have row : effect (.canBusOff t second) (s.advance t) =
      raise 7 (logLink (canLink second) 0 ((s.advance t).setLink (canLink second) x)) := by
    rw [← hx]
    exact if_neg (by rw [show ((s.advance t).link (canLink second)).busOff = false from on, linksOn_alive t h links]; decide)
  have link (m : Link) : (raise 7 (logLink (canLink second) 0 ((s.advance t).setLink (canLink second) x))).link m =
      ((s.advance t).setLink (canLink second) x).link m := by
    rw [link_raise]
    unfold logLink
    rw [log_frame]
    rfl
  refine effect_of_advance (k := .canBusOff t second) row h rfl ⟨?_, ?_, raise_pends (by decide) (by decide) _⟩
  · exact (link _).trans (State.link_setLink ..)
  · exact (link _).trans (State.link_setLink_other _ _ (canLink_ne_spi second))

theorem canBusOffRecovery_yields (h : Alive s) (bus : (s.link (canLink second)).busOff = true) :
    Yields (.canBusOffRecovery t second) s (fun u =>
      u.link (canLink second) = { s.link (canLink second) with busOff := false } ∧
      u.irc.host.pend.getLsbD 7 = true) := by
  have row : effect (.canBusOffRecovery t second) (s.advance t) =
      raise 7 ((s.advance t).setLink (canLink second) { s.link (canLink second) with busOff := false }) := if_pos bus
  refine effect_of_advance (k := .canBusOffRecovery t second) row h rfl ⟨?_, raise_pends (by decide) (by decide) _⟩
  exact (link_raise 7 _ _).trans (State.link_setLink ..)

theorem canFrameTransmitted_yields (h : Alive s) (links : s.sys.linksUp = true)
    (on : (s.link (canLink second)).busOff = false) : Yields (.canFrameTransmitted t second) s (fun u =>
      u.link (canLink second) = { s.link (canLink second) with
        out := (s.link (canLink second)).out.drop 1
        sent := match (s.link (canLink second)).out with
          | d :: _ => some (canFrame s second d)
          | [] => (s.link (canLink second)).sent } ∧ u.link .spi = s.link .spi) := by
  have row : effect (.canFrameTransmitted t second) (s.advance t) =
      (s.advance t).setLink (canLink second) { s.link (canLink second) with
        out := (s.link (canLink second)).out.drop 1
        sent := match (s.link (canLink second)).out with
          | d :: _ => some (canFrame s second d)
          | [] => (s.link (canLink second)).sent } :=
    if_neg (by rw [show ((s.advance t).link (canLink second)).busOff = false from on, linksOn_alive t h links]; decide)
  exact effect_of_advance (k := .canFrameTransmitted t second) row h rfl
    ⟨State.link_setLink .., State.link_setLink_other _ _ (canLink_ne_spi second)⟩

end

/-- Settles O50: each row of the mailbox and of a CAN port by what it writes of the links. -/
theorem mailboxAndCanPorts : Obligations.MailboxAndCanPorts := by
  unfold Obligations.MailboxAndCanPorts
  intro s t h links
  refine ⟨fun n free low high => mbxSend_passes t h links free low high, fun n busy => mbxSend_busy t h links busy,
    fun n free unfit => mbxSend_unfit t h links free unfit, fun ready last => mbxRxDone_last t h links ready last,
    fun f r ready next => mbxRxDone_next t h links ready next, mbxAbort_yields t h links, fun second =>
      ⟨fun on => ?off, fun bus => canBusOffRecovery_yields t h bus, fun d r on next => ?sends, fun on idle => ?nothing⟩⟩
  case off =>
    obtain ⟨u, run, own, spi, pend⟩ := canBusOff_yields t h links (second := second) on
    exact ⟨u, run, (congrArg LinkSt.busOff own :), (congrArg LinkSt.busOffs own :), (congrArg LinkSt.session own :),
      (congrArg LinkSt.asm own :), spi, pend⟩
  case sends =>
    obtain ⟨u, run, own, spi⟩ := canFrameTransmitted_yields t h links (second := second) on
    rw [show (s.link (canLink second)).out = d :: r from next] at own
    exact ⟨u, run, own, spi⟩
  case nothing =>
    obtain ⟨u, run, own, spi⟩ := canFrameTransmitted_yields t h links (second := second) on
    have same : (s.link (canLink second)).out = [] := idle
    rw [same] at own
    refine ⟨u, run, own.trans ?_, spi⟩
    rw [show ([] : List (List Byte)).drop 1 = (s.link (canLink second)).out from same.symm]
    rfl

end Sys2Proof.Machine
end

section
/-! Frames and messages on the way in, and the timeouts of a session (04_ohmac_command_set.md R112 to R114, R121, R131). -/

namespace Sys2Proof.Machine

/-! ## A frame of the host (R111, R112) -/

theorem crc32Step_lt (n : Nat) {c : Nat} (h : c < 2 ^ 32) : crc32Step n c < 2 ^ 32 := by
  induction n generalizing c with
  | zero => exact h
  | succ n ih =>
    have half : c / 2 < 2 ^ 32 := lt_of_le_of_lt (Nat.div_le_self ..) h
    refine ih ?_
    split
    · exact Nat.xor_lt_two_pow half (by decide)
    · exact half

theorem crc32_lt (b : List Byte) : crc32 b < 2 ^ 32 := by
  have fold (c : Nat) (h : c < 2 ^ 32) : b.foldl (fun c x => crc32Step 8 (c ^^^ x.toNat)) c < 2 ^ 32 := by
    induction b generalizing c with
    | nil => exact h
    | cons x r ih =>
      exact ih _ (crc32Step_lt 8 (Nat.xor_lt_two_pow h (lt_trans x.isLt (by decide))))
  exact Nat.xor_lt_two_pow (fold _ (by decide)) (by decide)

/-- The frame of the host with its flags, MTAG, SEG and payload (R111). -/
def hostFrame (flags mtag : Byte) (seg : Nat) (p : List Byte) : List Byte :=
  let h := [flags, mtag] ++ leBytes 2 seg ++ leBytes 2 p.length ++ p
  h ++ leBytes 4 (crc32 h)

section
variable {flags mtag : Byte} {seg : Nat} {p : List Byte}

theorem hostFrame_head : leAt (hostFrame flags mtag seg p) 0 1 = flags.toNat ∧
    (hostFrame flags mtag seg p).getD 1 0 = mtag := by
  refine ⟨?_, rfl⟩
  show flags.toNat + 256 * 0 = flags.toNat
  omega

theorem hostFrame_seg (fits : seg < 65536) : leAt (hostFrame flags mtag seg p) 2 2 = seg :=
  leAt_field (x := [flags, mtag]) (z := leBytes 2 p.length ++ (p ++ leBytes 4 (crc32 ([flags, mtag] ++ leBytes 2 seg ++
    leBytes 2 p.length ++ p)))) (by simp [hostFrame]) rfl fits

theorem hostFrame_plen (fits : p.length ≤ 502) : leAt (hostFrame flags mtag seg p) 4 2 = p.length :=
  leAt_field (x := [flags, mtag] ++ leBytes 2 seg) (z := p ++ leBytes 4 (crc32 ([flags, mtag] ++ leBytes 2 seg ++
    leBytes 2 p.length ++ p))) (by simp [hostFrame]) rfl (by omega)

theorem hostFrame_payload (fits : p.length ≤ 502) :
    slice (hostFrame flags mtag seg p) 6 (leAt (hostFrame flags mtag seg p) 4 2) = p := by
  rw [hostFrame_plen fits]
  exact slice_append ([flags, mtag] ++ leBytes 2 seg ++ leBytes 2 p.length) p _

/-- A frame that the host has built is sound (R114). -/
theorem hostFrame_sound (version : bits flags.toNat 0 4 = 1) (plain : bits flags.toNat 6 2 = 0) (some : p ≠ [])
    (fits : p.length ≤ 502) : frameFault .spi (hostFrame flags mtag seg p) = 0 := by
  have length : (hostFrame flags mtag seg p).length = 10 + p.length := by
    simp only [hostFrame, List.length_append, length_leBytes, List.length_cons, List.length_nil]
    omega
  have before : ([flags, mtag] ++ leBytes 2 seg ++ leBytes 2 p.length ++ p).length = 6 + p.length := by
    simp only [List.length_append, length_leBytes, List.length_cons, List.length_nil]
  have taken : (hostFrame flags mtag seg p).take (6 + p.length) =
      [flags, mtag] ++ leBytes 2 seg ++ leBytes 2 p.length ++ p := by
    rw [← before]
    exact List.take_left
  have checked : leAt (hostFrame flags mtag seg p) (6 + p.length) 4 =
      crc32 ((hostFrame flags mtag seg p).take (6 + p.length)) := by
    rw [taken]
    exact leAt_field (z := []) (by rw [List.append_nil]; rfl) before (crc32_lt _)
  have short : ¬ plenMax .spi < p.length := Nat.not_lt.mpr fits
  unfold frameFault
  dsimp only
  rw [hostFrame_plen fits, if_neg short, if_neg (by rw [length, checked]; simp), hostFrame_head.1,
    if_neg (by rw [version, plain]; simp), if_neg (fun empty => some (List.eq_nil_of_length_eq_zero empty))]

end

/-! ## The SPI mailbox takes a frame (R113, R114, R126) -/

theorem sessionTimeouts_closed {s : State} {l : Link} (closed : (s.link l).session = .none) :
    doSessionOpenTimeout l (doSessionIdleTimeout l s) = s := by
  have idle : doSessionIdleTimeout l s = s := by
    unfold doSessionIdleTimeout lapsed
    rw [closed]
    exact if_neg (by simp)
  rw [idle]
  unfold doSessionOpenTimeout
  rw [closed]

theorem gapCheck_early {s : State} {l : Link} (early : ∀ a, (s.link l).asm = some a → s.etc ≤ a.last + 100 * ticksPerMs) :
    gapCheck l s = s := by
  unfold gapCheck
  split
  next a unfinished => exact if_neg (Nat.not_lt.mpr (early a unfinished))
  next => rfl

/-- A sound frame on a link with no session and no gap is judged by the order of the frames alone. -/
theorem frameIn_sound {s : State} {l : Link} {f : List Byte} (run : s.sys.mode = .run)
    (closed : (s.link l).session = .none)
    (early : ∀ a, (s.link l).asm = some a → s.etc ≤ a.last + 100 * ticksPerMs) (sound : frameFault l f = 0) :
    frameIn l f s = frameStep l f s := by
  unfold frameIn
  rw [sessionTimeouts_closed closed, gapCheck_early early, wake_run _ _ run, sound]
  rfl

/-- The state in which a frame taken from the transmit buffer is judged. -/
def taken (s : State) : State := raise 9 { s with links.txFrame := none }

theorem taken_leaves (s : State) : ToldOnly { s with links.txFrame := none } (taken s) ∧
    (taken s).irc.host.pend.getLsbD 9 = true := ⟨.raise .., raise_pends (by decide) (by decide) _⟩

section
variable {s : State} (t : Tick)

theorem taken_link {s v : State} (told : ToldOnly { s with links.txFrame := none } v) (l : Link) : v.link l = s.link l := by
  rw [told]
  cases l <;> rfl

theorem ohmacFrame_takes (h : Alive s) (links : s.sys.linksUp = true) {f : List Byte} (present : s.links.txFrame = some f)
    (closed : (s.link .spi).session = .none)
    (early : ∀ a, (s.link .spi).asm = some a → max s.etc t ≤ a.last + 100 * ticksPerMs)
    (sound : frameFault .spi f = 0) :
    effect (.ohmacFrame t .mailbox) (s.advance t) = frameStep .spi f (taken (s.advance t)) := by
  have row : effect (.ohmacFrame t .mailbox) (s.advance t) = frameIn .spi f (taken (s.advance t)) := by
    show doOhmacFrame .mailbox (s.advance t) = _
    unfold doOhmacFrame
    rw [linksOn_alive t h links, show (s.advance t).links.txFrame = some f from present]
    rfl
  have told := (taken_leaves (s.advance t)).1
  have link : (taken (s.advance t)).link .spi = s.link .spi := taken_link told .spi
  have etc : (taken (s.advance t)).etc = max s.etc t := told.trust.2.2.2.2.trans (etc_alive t h)
  rw [row]
  refine frameIn_sound (told.mode.trans h.1) (by rw [link]; exact closed) (fun a ha => ?_) sound
  rw [etc]
  exact early a (by rw [← link]; exact ha)

/-- The first frame of a message of more frames starts its assembly. -/
theorem frameStep_first {s : State} {mtag : Byte} {p : List Byte} (fits : p.length ≤ 502)
    (idle : (s.link .spi).asm = none) : frameStep .spi (hostFrame 0x11 mtag 0 p) s =
      s.setLink .spi { s.link .spi with asm := some { mtag := mtag, next := 1, bytes := p, last := s.etc } } := by
  have short : ¬ messageMax p < p.length := by
    unfold messageMax
    split <;> omega
  unfold frameStep
  rw [hostFrame_head.1, hostFrame_head.2, hostFrame_seg (by decide), hostFrame_payload fits, idle]
  show extendMessage .spi mtag 0 false p s = _
  unfold extendMessage
  rw [if_neg short]
  rfl

theorem ohmacFrame_starts (h : Alive s) (links : s.sys.linksUp = true) {mtag : Byte} {p : List Byte}
    (present : s.links.txFrame = some (hostFrame 0x11 mtag 0 p)) (some : 0 < p.length) (fits : p.length ≤ 502)
    (idle : (s.link .spi).asm = none) (closed : (s.link .spi).session = .none) :
    Yields (.ohmacFrame t .mailbox) s (fun u =>
      u.links = { s.links with
        txFrame := none
        spi := { s.links.spi with asm := Option.some { mtag := mtag, next := 1, bytes := p, last := max s.etc t } } } ∧
      u.irc.host.pend.getLsbD 9 = true) := by
  have row := ohmacFrame_takes t h links present closed (fun a ha => nomatch idle.symm.trans ha)
    (hostFrame_sound (by decide) (by decide) (List.ne_nil_of_length_pos some) fits)
  obtain ⟨told, pend⟩ := taken_leaves (s.advance t)
  generalize taken (s.advance t) = v at row told pend
  have etc : v.etc = max s.etc t := told.trust.2.2.2.2.trans (etc_alive t h)
  have link : v.link .spi = s.link .spi := taken_link told .spi
  rw [frameStep_first fits (by rw [link]; exact idle), etc, link] at row
  refine effect_of_advance (k := .ohmacFrame t .mailbox) row h rfl ⟨?_, pend⟩
  have placed (x : LinkSt) : (v.setLink .spi x).links = { v.links with spi := x } := rfl
  refine (placed _).trans ?_
  rw [told.trust.2.2.1]
  rfl

/-- The body of a plain IDENTITY request with RTAG 0x1234. -/
def identityRequest : List Byte := [1, 0, 0x34, 0x12, 0, 0, 0, 0]

theorem messageIn_identity {s : State} {l : Link} (mtag : Byte) (free : (s.link l).req = none)
    (power : s.supply.state ≠ .holdup) : messageIn l mtag identityRequest s =
      s.setLink l { s.link l with req := some { code := 1, rtag := 0x1234, body := [], sealed := false, mtag := mtag } } := by
  have examined : messageIn l mtag identityRequest s = plainIn l mtag identityRequest s := by
    refine (if_neg power).trans ((if_neg ?_).trans rfl)
    rw [show ((leAt identityRequest 0 2 == 3) || (leAt identityRequest 0 2 == 0x10)) = false from by decide, Bool.and_false]
    decide
  rw [examined]
  unfold plainIn
  dsimp only
  rw [if_neg (by decide), if_neg (by decide), free, if_neg (by decide), if_neg (by decide)]
  rfl

/-- The last frame of a plain IDENTITY request completes it, and it is taken into processing. -/
theorem frameStep_last {s : State} {mtag : Byte} {p : List Byte} {a : Assembly} (fits : p.length ≤ 502)
    (unfinished : (s.link .spi).asm = some a) (same : a.mtag = mtag) (order : a.next < 65536)
    (message : a.bytes ++ p = identityRequest) (free : (s.link .spi).req = none) (power : s.supply.state ≠ .holdup) :
    frameStep .spi (hostFrame 0x21 mtag a.next p) s = s.setLink .spi { s.link .spi with
      asm := none
      req := some { code := 1, rtag := 0x1234, body := [], sealed := false, mtag := mtag } } := by
  unfold frameStep
  rw [hostFrame_head.1, hostFrame_head.2, hostFrame_seg order, hostFrame_payload fits, unfinished]
  have steps : extendMessage .spi mtag a.next true (a.bytes ++ p) s =
      messageIn .spi mtag identityRequest (s.setLink .spi { s.link .spi with asm := none }) := by
    rw [message]
    exact if_neg (by decide)
  refine Eq.trans (if_neg (fun differ => differ.elim (fun no => no rfl) (fun no => no same))) (steps.trans ?_)
  exact messageIn_identity (s := s.setLink .spi { s.link .spi with asm := none }) mtag free power

theorem ohmacFrame_completes (h : Alive s) (links : s.sys.linksUp = true) {mtag : Byte} {a : Assembly} {p : List Byte}
    (present : s.links.txFrame = some (hostFrame 0x21 mtag a.next p)) (unfinished : (s.link .spi).asm = some a)
    (same : a.mtag = mtag) (order : a.next < 65536) (early : max s.etc t ≤ a.last + 100 * ticksPerMs)
    (fits : p.length ≤ 502) (message : a.bytes ++ p = identityRequest) (some : p ≠ [])
    (closed : (s.link .spi).session = .none) (free : (s.link .spi).req = none) (power : s.supply.state ≠ .holdup) :
    Yields (.ohmacFrame t .mailbox) s (fun u =>
      u.link .spi = { s.link .spi with
        asm := none
        req := Option.some { code := 1, rtag := 0x1234, body := [], sealed := false, mtag := mtag } } ∧
      u.links.txFrame = none) := by
  have row := ohmacFrame_takes t h links present closed
    (fun b hb => by rw [← Option.some.inj (unfinished.symm.trans hb)]; exact early)
    (hostFrame_sound (by decide) (by decide) some fits)
  have told := (taken_leaves (s.advance t)).1
  generalize taken (s.advance t) = v at row told
  have link : v.link .spi = s.link .spi := taken_link told .spi
  rw [frameStep_last fits (by rw [link]; exact unfinished) same order message (by rw [link]; exact free)
    (by rw [told.trust.2.2.2.1]; exact power), link] at row
  refine effect_of_advance (k := .ohmacFrame t .mailbox) row h rfl ⟨rfl, ?_⟩
  show v.links.txFrame = none
  rw [told.trust.2.2.1]

/-! ## Gaps and session timeouts (R114, R131) -/

theorem frameGap_yields (h : Alive s) (links : s.sys.linksUp = true) {l : Link} {a : Assembly}
    (unfinished : (s.link l).asm = some a) (late : a.last + 100 * ticksPerMs < max s.etc t) :
    Yields (.frameGapTimeout t l) s (fun u =>
      (u.link l).asm = none ∧ (u.link l).frameErr = satInc 255 (s.link l).frameErr ∧
      framesWaiting u l = framesWaiting s l ++ framesOf l a.mtag
        (leBytes 2 0xFFFE ++ [0, 0] ++ leBytes 4 8 ++ [1, 0, 7, 0, a.mtag, 0, 0, 0]) ∧
      ∀ k, k ≠ l → u.link k = s.link k) := by
  have gap : gapCheck l (s.advance t) = linkError l 7 a.mtag (s.advance t) := by
    unfold gapCheck
    rw [show ((s.advance t).link l).asm = some a from unfinished]
    exact if_pos (by rw [etc_alive t h]; exact late)
  have row : effect (.frameGapTimeout t l) (s.advance t) = linkError l 7 a.mtag (s.advance t) :=
    (if_pos (linksOn_alive t h links)).trans gap
  obtain ⟨-, frames, own, others⟩ := linkError_leaves l 7 a.mtag (s := s.advance t) h.1
  generalize linkError l 7 a.mtag (s.advance t) = u at row frames own others
  exact effect_of_advance (k := .frameGapTimeout t l) row h rfl
    ⟨(congrArg LinkSt.asm own :), (congrArg LinkSt.frameErr own :), frames, others⟩

/-- A failure of a link that has had few is counted, and no pause begins (R109). -/
theorem countedFail_few {s : State} {l : Link} (few : (s.link l).fails < 7) : let u := countedFail l s
    u.link l = { s.link l with fails := (s.link l).fails + 1 } ∧
      u.nv.secFail = satInc 0xFFFFFFFF s.nv.secFail ∧ u.irc.host.pend.getLsbD 232 = true := by
  have link : (raise 232 (countSecFail s)).link l = s.link l := link_raise 232 (countSecFail s) l
  have pend := raise_pends (n := 232) (by decide) (by decide) (countSecFail s)
  have nv : (raise 232 (countSecFail s)).nv = (countSecFail s).nv := (ToldOnly.raise 232 (countSecFail s)).trust.2.1
  unfold countedFail
  generalize raise 232 (countSecFail s) = v at link pend nv ⊢
  have counted : linkFail l v = v.setLink l { v.link l with fails := (v.link l).fails + 1 } :=
    if_pos (by rw [link]; omega)
  dsimp only
  rw [counted, link]
  have kept (x : LinkSt) : (v.setLink l x).nv = v.nv := by cases l <;> rfl
  refine ⟨State.link_setLink .., ?_, by rw [setLink_irc]; exact pend⟩
  rw [kept, nv]
  rfl

theorem sessionOpenTimeout_yields (h : Alive s) (links : s.sys.linksUp = true) {l : Link} {o : Opening}
    (opening : (s.link l).session = .opening o) (late : o.since + 5 * ticksPerS ≤ max s.etc t)
    (few : (s.link l).fails < 7) : Yields (.sessionOpenTimeout t l) s (fun u =>
      u.link l = { s.link l with session := .none, fails := (s.link l).fails + 1 } ∧
      u.nv.secFail = satInc 0xFFFFFFFF s.nv.secFail ∧ u.irc.host.pend.getLsbD 232 = true) := by
  have row : effect (.sessionOpenTimeout t l) (s.advance t) = countedFail l (closeSession l (s.advance t)) := by
    show doSessionOpenTimeout l (s.advance t) = _
    unfold doSessionOpenTimeout
    rw [show ((s.advance t).link l).session = .opening o from opening]
    exact if_pos (by rw [linksOn_alive t h links, etc_alive t h, decide_eq_true late]; rfl)
  have closes : closeSession l (s.advance t) = (s.advance t).setLink l { s.link l with session := .none } := by
    unfold closeSession
    rw [show ((s.advance t).link l).session = .opening o from opening]
    rfl
  rw [closes] at row
  have link := State.link_setLink (s.advance t) l { s.link l with session := .none }
  have nv : ((s.advance t).setLink l { s.link l with session := .none }).nv = s.nv := by cases l <;> rfl
  generalize (s.advance t).setLink l { s.link l with session := .none } = v at row link nv
  obtain ⟨own, fails, pend⟩ := countedFail_few (l := l) (s := v) (by rw [link]; exact few)
  generalize countedFail l v = u at row own fails pend
  refine effect_of_advance (k := .sessionOpenTimeout t l) row h rfl ⟨own.trans ?_, fails.trans (by rw [nv]), pend⟩
  rw [link]

theorem dropHoldings_unstaged (l : Link) (s : State) (b : Block) :
    (dropHoldings l s).cfg.staging ≠ some (l, b) := by
  have staged : (match s.cfg.staging with
      | some (h, _) => if h = l then { s with cfg.staging := none } else s
      | none => s).cfg.staging ≠ some (l, b) := by
    split
    next h c held =>
      split
      · exact nofun
      next other =>
        rw [held]
        exact fun same => other (congrArg Prod.fst (Option.some.inj same))
    next free =>
      rw [free]
      exact nofun
  unfold dropHoldings
  dsimp only
  split
  · split <;> exact staged
  · exact staged

/-- A session that closes takes a sealed request with it, and what it had staged. -/
theorem closeSession_opened {s : State} {l : Link} {y : Session} (opened : (s.link l).session = .opened y) :
    let u := closeSession l s
    (∀ q, (u.link l).req = some q → q.sealed = false) ∧ u.irc.host.pend.getLsbD 238 = true ∧
      ∀ b, u.cfg.staging ≠ some (l, b) := by
  have closes : closeSession l s = dropHoldings l (raise 238 (logLink l 2
      (s.setLink l { dropSealed (s.link l) with session := .none }))) := by
    unfold closeSession
    rw [opened]
  obtain ⟨-, -, plain⟩ := dropSealed_kept (s.link l)
  have link : (raise 238 (logLink l 2 (s.setLink l { dropSealed (s.link l) with session := .none }))).link l =
      { dropSealed (s.link l) with session := .none } := by
    rw [link_raise]
    unfold logLink
    rw [log_frame]
    exact State.link_setLink ..
  have pend := raise_pends (n := 238) (by decide) (by decide)
    (logLink l 2 (s.setLink l { dropSealed (s.link l) with session := .none }))
  rw [closes]
  dsimp only
  generalize raise 238 (logLink l 2 (s.setLink l { dropSealed (s.link l) with session := .none })) = v at link pend ⊢
  have same : (dropHoldings l v).link l = v.link l := by
    unfold State.link
    rw [dropHoldings_links]
  refine ⟨fun q hq => plain q ?_, (dropHoldings_shuts l v).pend 238 pend, dropHoldings_unstaged l v⟩
  rw [same, link] at hq
  exact hq

theorem sessionIdleTimeout_yields (h : Alive s) (links : s.sys.linksUp = true) {l : Link} {y : Session}
    (opened : (s.link l).session = .opened y) (late : y.lastAt + sessIdle s * ticksPerS ≤ max s.etc t) :
    Yields (.sessionIdleTimeout t l) s (fun u =>
      (u.link l).session = .none ∧ (∀ q, (u.link l).req = some q → q.sealed = false) ∧
      u.irc.host.pend.getLsbD 238 = true ∧ (∀ b, u.cfg.staging = some (l, b) → False) ∧
      ∀ k, k ≠ l → u.link k = s.link k) := by
  have time := etc_alive t h
  have lapse : (linksOn (s.advance t) && lapsed (s.advance t) l) = true := by
    rw [linksOn_alive t h links, Bool.true_and]
    unfold lapsed
    rw [show ((s.advance t).link l).session = .opened y from opened]
    exact decide_eq_true (by rw [time]; exact late)
  have row : effect (.sessionIdleTimeout t l) (s.advance t) = closeSession l (s.advance t) := if_pos lapse
  obtain ⟨-, closed, others⟩ := closeSession_leaves l (s.advance t)
  obtain ⟨plain, pend, unstaged⟩ := closeSession_opened (s := s.advance t) (l := l) opened
  generalize closeSession l (s.advance t) = u at *
  exact effect_of_advance (k := .sessionIdleTimeout t l) row h rfl ⟨closed, plain, pend, unstaged, others⟩

end

/-- Settles O51: each row of a frame, a gap and a session timeout, by what it writes of its link. -/
theorem framesMessagesAndSessions : Obligations.FramesMessagesAndSessions := by
  unfold Obligations.FramesMessagesAndSessions
  intro s t h links
  exact ⟨fun mtag p present some fits idle closed => ohmacFrame_starts t h links present some fits idle closed,
    fun mtag a p present unfinished same order early fits message some closed free power =>
      ohmacFrame_completes t h links present unfinished same order early fits message some closed free power,
    fun l a unfinished late => frameGap_yields t h links unfinished late,
    fun l o opening late few => sessionOpenTimeout_yields t h links opening late few,
    fun l y opened late => sessionIdleTimeout_yields t h links opened late⟩

end Sys2Proof.Machine
end
